-- ==== Sys2Proof/Word.lean ====
section
/-! DEFINITION. The word types of the block and nothing else: bytes and 64-bit register words are bit vectors (R9); numbers the manual only counts with are Nat. -/
namespace Sys2Proof

/-- One byte. -/
abbrev Byte := BitVec 8

/-- One management register, 64 bits, little-endian (R9). -/
abbrev Word := BitVec 64

/-- An association list with Nat keys in strictly rising order: sparse data. -/
abbrev Assoc (α : Type) := List (Nat × α)

end Sys2Proof
end

