-- ==== Sys2Proof/Syntax.lean ====
section
/-! DEFINITION. The commands the block takes: one constructor of `Instr` per row of spec/opcode_table.json, with the operands its rule needs. Structural numbers (dies, ports, partitions, cores) are Fin; a command that falls at a time the block does not compute itself carries that time. -/
namespace Sys2Proof

/-- A piece of dark-interval maintenance work (R580): the unit and the work. -/
inductive Piece where
  /-- Exposure write of an A-die (R512). -/
  | exposure (die : Fin 4)
  /-- Retirement copy piece of an HBM controller (R364). -/
  | retire (die : Fin 4) (stack : Fin 3)
  /-- Reserve test. -/
  | reserveTest (die : Fin 4) (stack : Fin 3)
  /-- Spare SPM bank copy piece (R187). -/
  | spmCopy (die : Fin 4)
  /-- Spare SPM bank bring-in without copy (R188). -/
  | spmBringIn (die : Fin 4)
  /-- Spare SPM bank test. -/
  | spmTest (die : Fin 4)
  /-- Spare array row (`col` false) or column bring-in (R130). -/
  | arraySpare (die : Fin 4) (col : Bool)
  /-- Self-test of the MXA (`sxe` false) or the SXE. -/
  | selfTest (die : Fin 4) (sxe : Bool)
  /-- Spare core copy (R329). -/
  | coreSpare
  /-- Slot Link lane repair (R577). -/
  | slink (e : Fin 6) (l : Fin 5)
  /-- Recalibration of one lane of an optical port (R387). -/
  | port (p : Fin 32) (lane : Fin 9)
deriving DecidableEq, Repr

/-- Floating-point operations of the cores, IEEE 754-2019 by name (R311): `cvt` between the two formats, to FP64 when `dbl`; `rint` to an integral value and `toInt` to an integer of the operand's width, which report an inexact result when `exact`; `fromInt` from one. -/
inductive FpOp where
  | add | sub | mul | div | sqrt | fma | min | max | rem | neg | abs | copySign
  | cvt (dbl : Bool)
  | rint (exact : Bool)
  | toInt (signed exact : Bool)
  | fromInt (signed : Bool)
deriving DecidableEq, Repr

/-- A page that a core's translation maps (R316, R323): virtual and physical page number, and whether it is in the pinned translation set. The SZ-64 translation tables are not in the manual, so an access carries the pages it meets; one that is not listed has no translation. -/
structure PageMap where
  virt : Nat
  phys : Nat
  locked : Bool
deriving DecidableEq, Repr

/-- The N-tile at which an MXA operation goes on, and a residue mismatch that its column check finds there: the tile, the row, and the array unit (R127, R131). -/
structure NTileStart where
  n : Nat
  residueFail : Option (Nat × Nat × Nat)
deriving DecidableEq, Repr

/-- What reaches a core: an interrupt, before element `elem` of a vector instruction (R310), or a machine check, and whether the core's L2 can still be read (R328, R329). -/
inductive CoreSignal where
  | interrupt (elem : Nat)
  | machineCheck (readable : Bool)
deriving DecidableEq, Repr

/-- A core table entry that is released, and the pages that its code lies in (R321, R323). -/
structure EntryStart where
  entry : Nat
  pages : List PageMap
deriving DecidableEq, Repr

/-- The pseudo-channel of a stack that a scrub reads, and the on-die corrections reported with the unit (R361, R363). -/
structure ScrubUnit where
  pc : Fin 32
  ondie : Nat
deriving DecidableEq, Repr

/-- What a vector instruction does (R303): an FP operation, an FP compare (EQ, NE, LT, LE, GT, GE; signaling or quiet) or an integer compare (signed or not) into a qualifier register, a load, a store, a permute or another operation of the SZ-64 reference by FUNC, whose results are free values. -/
inductive VecOp where
  | fp (op : FpOp)
  | cmp (k : Fin 6) (signaling : Bool)
  | icmp (k : Fin 6) (signed : Bool)
  | load
  | store
  | permute (func : Fin 32)
  | other (func : Fin 32)
deriving DecidableEq, Repr

/-- A vector instruction (R303). `scalar` says that VS2 names a G register, whose value is the second source of every element; `qual` is the qualifier register when MKE is 1; `rm` the static rounding field, none when it selects FCSR.RM; a load or store runs from the virtual address in G[vs2], in pages `pages`. -/
structure VecInstr where
  lvx : Bool
  vd : Fin 32
  vs1 : Fin 32
  vs2 : Fin 32
  qual : Option (Fin 8)
  w : Fin 4
  scalar : Bool
  rm : Option (Fin 4)
  op : VecOp
  pages : List PageMap
deriving DecidableEq, Repr

/-- An FP reduction instruction (R314): `op` of the active elements of `vs1` into element 0 of `vd`. -/
structure RedInstr where
  lvx : Bool
  vd : Fin 32
  vs1 : Fin 32
  qual : Option (Fin 8)
  w : Fin 4
  rm : Option (Fin 4)
deriving DecidableEq, Repr

/-- The operand of a ledger instruction (R315): a scalar register, or the active elements of an SVX register or an LVX group, with the element format code of R97. -/
structure LedgerSrc where
  vec : Bool
  lvx : Bool
  reg : Fin 32
  qual : Option (Fin 8)
  fmt : Nat
deriving DecidableEq, Repr

/-- A scalar instruction (R304, R311, R316): FP arithmetic, an FP compare, conversions to and from an integer of 32 bits or, when `wide`, 64, an integer operation by FUNC (free result), a load or store, cache maintenance, a move to or from a special register, or the return from an exception (R323). An access meets the pages `pages`. -/
inductive ScalarInstr where
  | fp (op : FpOp) (dbl : Bool) (fd fs1 fs2 : Fin 32) (rm : Option (Fin 4))
  | fcmp (k : Fin 6) (signaling dbl : Bool) (gd fs1 fs2 : Fin 32)
  | ftoi (dbl signed wide exact : Bool) (gd fs : Fin 32) (rm : Option (Fin 4))
  | itof (dbl signed wide : Bool) (fd gs : Fin 32) (rm : Option (Fin 4))
  | int (func : Nat) (gd gs1 gs2 : Fin 32)
  | load (gd gs : Fin 32) (off : Word) (log2 : Fin 4) (signed : Bool) (pages : List PageMap)
  | store (gs1 gs : Fin 32) (off : Word) (log2 : Fin 4) (pages : List PageMap)
  | fload (fd gs : Fin 32) (off : Word) (dbl : Bool) (pages : List PageMap)
  | fstore (fs gs : Fin 32) (off : Word) (dbl : Bool) (pages : List PageMap)
  | cache (gs : Fin 32) (off : Word) (pages : List PageMap)
  | readFcsr (gd : Fin 32)
  | writeFcsr (gs : Fin 32)
  | readCcount (gd : Fin 32)
  | readQ (gd : Fin 32) (q part : Fin 8)
  | writeQ (gs : Fin 32) (q part : Fin 8)
  | ret
deriving DecidableEq, Repr

/-- A fabric packet on a port (R392): the header's fields with HCRC, the payload and PCRC. -/
structure Packet where
  port : Fin 32
  dst : Nat
  src : Nat
  op : Nat
  vc : Fin 8
  level : Nat
  retx : Bool
  group : Nat
  seq : Nat
  pkt : Nat
  npkt : Nat
  region : Nat
  addr : Nat
  key : Nat
  step : Nat
  hcrc : Nat
  pcrc : Nat
  payload : List Byte
deriving DecidableEq, Repr

/-- A Teller message as a host submits it (R555): the Teller's partition, the header's fields, payload and tag. -/
structure TellerReq where
  p : Fin 4
  slot : Fin 4
  op : Nat
  host : Nat
  session : Nat
  counter : Nat
  payload : List Byte
  tag : List Byte
deriving DecidableEq, Repr

/-- What a start meets outside the package's own state (R534, R535, R553): an unrepairable self-test or training failure; a start that does not reach stage 7 in time; units found failed (KIND of R575, die, unit, number); link width and rate of the host port; of the T3 port with its capacity in GB; whether a CSM is present, its link, and the logical blocks of namespace 1 when the controller is set up. -/
structure StartEnv where
  fails : Bool
  stalls : Bool
  found : List (Nat × Nat × Nat × Nat)
  host : Nat × Nat
  t3 : Nat × Nat × Nat
  csm : Option (Nat × Nat × Option Nat)
deriving DecidableEq, Repr

/-- The commands: every row of the opcode table. -/
inductive Instr where
  /-- REGISTER_WRITE (R11): A management write to a register that has no row of its own sets its fields according to their access codes, or is rejected if it is unaligned or unmapped. -/
  | registerWrite (addr : Nat) (bytes : Nat) (val : Word)
  /-- GST_CTRL_WRITE (R42): A write to GST_CTRL sets the role and overrun policy, and enables or disables ticks; setting ENABLE on a root fixes T0. -/
  | gstCtrlWrite (p : Fin 4) (val : Word)
  /-- GST_TICK_ISSUE (R42): The root's fabric count reaches T0 + k × GST_PERIOD, and the root issues tick k carrying its count. -/
  | gstTickIssue (p : Fin 4) (ns : Nat)
  /-- TICK_RECEIVE (R45): A tick message arrives on a parent port, and the follower acts on the first copy of each step index. -/
  | tickReceive (p : Fin 4) (port : Nat) (index : Nat) (rootNs : Nat) (hops : Nat) (ns : Nat)
  /-- GST_TIMEOUT (R49): A follower receives no tick for 2 × GST_PERIOD and raises GST_TIMEOUT once. -/
  | gstTimeout (p : Fin 4) (ns : Nat)
  /-- STANDBY_ROOT_TAKEOVER (R50): A standby root receives no tick for 2 × GST_PERIOD and becomes the root. -/
  | standbyRootTakeover (p : Fin 4) (ns : Nat)
  /-- FRAME_START (R53): A frame starts at cycle 0 after an accepted tick or a held start, and the per-frame state is reset. -/
  | frameStart (p : Fin 4)
  /-- FRAME_CLOSE (R57): The last of the close conditions is met, so the frame closes and CLOSE_CYCLE is recorded. -/
  | frameClose (p : Fin 4)
  /-- DARK_PIECE (R580): A unit starts its next dark piece of priority-ordered maintenance work, if the piece can end by FRAME_LEN. -/
  | darkPiece (piece : Piece) (len : Nat)
  /-- DARK_PIECE_END (R58): A dark piece completes, and any spare switch or tick start waiting on it follows. -/
  | darkPieceEnd (piece : Piece) (fault : Option Nat)
  /-- FRAME_LEN_REACHED (R60): Offset FRAME_LEN is reached in a closed frame, which enters WAIT_TICK. -/
  | frameLenReached (p : Fin 4)
  /-- FRAME_RESUME (R64): A write of FRAME_RUN.RESUME in STOPPED clears PENDING and enters WAIT_TICK. -/
  | frameResume (p : Fin 4)
  /-- FRAME_LEN_WRITE (R238): A write to FRAME_LEN is refused with FRAME_RANGE if it breaks R55 for a bank, and is otherwise deferred. -/
  | frameLenWrite (p : Fin 4) (val : Word)
  /-- COMMAND_START (R225): A released command starts once its dependencies are met and its unit is free. -/
  | commandStart (die : Fin 4) (idx : Nat)
  /-- COMMAND_COMPLETE (R228): A command completes, and its completion entry is written. -/
  | commandComplete (die : Fin 4) (idx : Nat) (cyc : Nat)
  /-- NOP (R222): The SCU executes a NOP in one cycle. -/
  | nop (die : Fin 4) (idx : Nat)
  /-- FENCE (R222): A FENCE completes once the earlier commands on its named units have completed. -/
  | fence (die : Fin 4) (idx : Nat)
  /-- SIGNAL (R229): A SIGNAL sends an increment to the target dies' counters, which rise 25 cycles after its start. -/
  | signal (die : Fin 4) (idx : Nat)
  /-- TRIGGER (R229): A TRIGGER adds its increment to a TOT entry counter on the F-die. -/
  | trigger (die : Fin 4) (idx : Nat)
  /-- QSWITCH (R241): A QSWITCH arms the bank switch when NEXT_VALID is 1. -/
  | qswitch (die : Fin 4) (idx : Nat)
  /-- STEPVAL (R232): A STEPVAL writes the JOB_STEP and shard record to the SPM. -/
  | stepval (die : Fin 4) (idx : Nat)
  /-- QLOAD (R240): A QLOAD copies a frame image into the inactive bank and validates it. -/
  | qload (die : Fin 4) (idx : Nat)
  /-- MXA (R125): An MXA operation computes a GEMM into the ACF in its cycle formula. -/
  | mxa (die : Fin 4) (idx : Nat) (residueFail : Option (Nat × Nat × Nat))
  /-- MXA_NTILE_START (R127): The MXA starts an N-tile once none of its ACF entries is HELD, and sets PENDING. -/
  | mxaNtileStart (die : Fin 4) (idx : Nat) (n : NTileStart)
  /-- SXE (R170): An SXE chain streams its rows through its stages in its cycle formula. -/
  | sxe (die : Fin 4) (idx : Nat)
  /-- SXE_ACF_WAIT_END (R165): A PENDING ACF index clears and a waiting SXE read proceeds. -/
  | sxeAcfWaitEnd (die : Fin 4) (idx : Nat)
  /-- MOVE (R190): A mover runs the command's descriptors in order, moving data through its stages. -/
  | move (die : Fin 4) (idx : Nat)
  /-- SPM_SCRUB (R185): In phase 15 of each window, each bank scrubs one granule and writes back any correction. -/
  | spmScrub (die : Fin 4) (bank : Fin 256) (fails : Bool)
  /-- LINK_REPLAY (R215): A flit fails its link check and is sent again in the requester's next owned slot. -/
  | linkReplay (e : Fin 6) (l : Fin 5) (req : Nat) (skip : Nat) (n : Nat)
  /-- MOVER_RETRANSMIT (R215): The target acknowledges a flit as discarded, and the mover resends it. -/
  | moverRetransmit (req : Nat) (y : Fin 6) (skip : Nat) (n : Nat)
  /-- DEPENDENCY_EVENT (R223): A core, SVE, P-die mover, fence, collective or host completion reaches the SCUs in flit headers. -/
  | dependencyEvent (p : Fin 4)
  /-- SCU_LOAD (R239): A write of SCU_LOAD.GO starts a management load of a frame image into a bank. -/
  | scuLoad (die : Fin 4) (val : Word)
  /-- SCU_LOAD_DONE (R237): A frame load finishes its checks, and SCU_LOAD_STATUS is updated. -/
  | scuLoadDone (die : Fin 4)
  /-- SCU_ABORT (R249): A write of SCU_CTRL.ABORT ends the frame as a fault, and started commands stop at their next unit boundary. -/
  | scuAbort (die : Fin 4)
  /-- FRAME_DRAINED (R244): The last started command of a failed frame completes, and a rerun is armed or the frame stops. -/
  | frameDrained (p : Fin 4)
  /-- SVE_LOAD (R256): A write of SVE_LOAD.GO starts loading an SVE schedule image into a bank. -/
  | sveLoad (val : Word)
  /-- SVE_LOAD_DONE (R262): An SVE schedule load completes its validation. -/
  | sveLoadDone
  /-- SVE_PROBLEM_START (R259): An SVE schedule entry starts its problem once released and unblocked. -/
  | sveProblemStart (entry : Nat)
  /-- SVE_LOAD_PHASE_END (R268): The problem's inputs arrive, and CHECK, WARM, SYMBOLIC, FACTOR and ITERATE run. -/
  | sveLoadPhaseEnd (ns : Nat)
  /-- SVE_DEADLINE (R286): The problem clock reaches its budget, the SVE stops in 16 cycles and returns the best iterate. -/
  | sveDeadline
  /-- SVE_PROBLEM_COMPLETE (R292): The SVE writes the result block and the problem completes. -/
  | sveProblemComplete
  /-- VSETC (R301): VSETC sets VLEN, VCNT and Gd, and clears VSTART. -/
  | vsetc (core : Fin 64) (gd : Fin 32) (gs : Fin 32) (imm : Nat)
  /-- VECTOR_INSTRUCTION (R304): An SVX or LVX instruction executes in passes over its active elements. -/
  | vectorInstruction (core : Fin 64) (instr : VecInstr)
  /-- FP_REDUCTION (R314): An FP reduction instruction combines the active elements by the fixed recursion. -/
  | fpReduction (core : Fin 64) (instr : RedInstr)
  /-- LGA32 (R315): The core adds an operand into an LG32 ledger word. -/
  | lga32 (core : Fin 64) (addr : Nat) (src : LedgerSrc)
  /-- LGW1 (R315): The core adds an operand into an LG64W word in pass 1. -/
  | lgw1 (core : Fin 64) (addr : Nat) (src : LedgerSrc)
  /-- LGWPH (R315): The core sets an LG64W word to pass 2. -/
  | lgwph (core : Fin 64) (addr : Nat)
  /-- LGW2 (R315): The core adds an operand into an LG64W word in pass 2. -/
  | lgw2 (core : Fin 64) (addr : Nat) (src : LedgerSrc)
  /-- LGRD (R315): The core reads out a ledger word with RNE. -/
  | lgrd (core : Fin 64) (addr : Nat) (wide : Bool) (fd : Fin 32)
  /-- EXCHANGE_STORE_ACCESS (R325): A core access to an exchange-store slice is performed in the core's fixed phase. -/
  | exchangeStoreAccess (core : Fin 64) (write : Bool) (off : Nat) (val : Nat) (bytes : Nat)
  /-- CDONE (R322): A core ends its part of an entry; the last CDONE completes the entry's event. -/
  | cdone (core : Fin 64) (gs : Fin 32)
  /-- CIDLE (R321): A core running software outside any entry makes itself free for the next entry. -/
  | cidle (core : Fin 64)
  /-- CORE_INTERRUPT (R310): An interrupt is taken between passes of an unpinned vector instruction. -/
  | coreInterrupt (core : Fin 64) (sig : CoreSignal)
  /-- CORE_ENTRY_START (R321): A core table entry is released, and its cores start at a CCOUNT multiple of 64. -/
  | coreEntryStart (e : EntryStart)
  /-- CORE_CLOCK_STEP (R327): P-die thermal control steps the core clock up or down one level. -/
  | coreClockStep (temps : List Int)
  /-- CORE_LOAD (R320): A write of CORE_LOAD.GO starts loading a core table image. -/
  | coreLoad (val : Word)
  /-- CORE_LOAD_DONE (R320): A core table load completes its validation. -/
  | coreLoadDone
  /-- PIN_CFG_WRITE (R333): A write to PIN_CFG resizes the exchange store and local stores and fills them with zeros. -/
  | pinCfgWrite (val : Word)
  /-- ADDER_WRITE (R355): A write to an addend window adds each element into its target ledger or integer word. -/
  | adderWrite (req : Nat) (addr : Nat) (data : List Byte)
  /-- ADDER_READ (R357): A read of an addend window returns each target word read out. -/
  | adderRead (req : Nat) (addr : Nat) (bytes : Nat)
  /-- T1_ECC_REREAD (R362): A double-bit T1 read is re-read in the requester's next owned slot. -/
  | t1EccReread (req : Nat) (addr : Nat) (skip : Nat) (tries : Nat) (unit : Bool)
  /-- HBM_SCRUB (R363): A controller scrubs the next unit of a pseudo-channel in an unused slot. -/
  | hbmScrub (die : Fin 4) (stack : Fin 3) (u : ScrubUnit)
  /-- HBM_RETIRE (R364): A write of HBM_RETIRE.GO starts retiring a readable pseudo-channel with a copy. -/
  | hbmRetire (die : Fin 4) (stack : Fin 3) (val : Word)
  /-- HBM_RESERVE_REPLACE (R365): An unreadable pseudo-channel is replaced by a poisoned reserve in the first cycle in which the frame is not RUNNING. -/
  | hbmReserveReplace (die : Fin 4) (stack : Fin 3) (pc : Fin 32)
  /-- HBM_MAP_OUT (R366): A failed pseudo-channel with no reserve is mapped out, P_n falls and the frame stops. -/
  | hbmMapOut (die : Fin 4) (stack : Fin 3) (pc : Fin 32)
  /-- PMOV_LOAD (R368): A write of PMOV_LOAD.GO starts loading a P-die mover table. -/
  | pmovLoad (val : Word)
  /-- PMOV_LOAD_DONE (R369): A P-die mover table load completes its validation. -/
  | pmovLoadDone
  /-- PMOV_ENTRY_START (R370): A P-die mover entry starts on its channel once released and unblocked. -/
  | pmovEntryStart (entry : Nat)
  /-- PMOV_TRANSFER_COMPLETE (R370): A P-die mover entry completes, and its completion reaches the SCUs 25 cycles later. -/
  | pmovTransferComplete (ch : Fin 4) (cyc : Nat)
  /-- MIGRATION_START (R373): A write of MIG_CTRL.GO starts a migration on PMC7, or refuses it. -/
  | migrationStart (p : Fin 4) (val : Word)
  /-- MIGRATION_DONE (R373): A migration ends with DONE or FAILED. -/
  | migrationDone
  /-- THERMAL_SAMPLE (R376): Every 100 µs thermal control reads the sensors and selects the arithmetic-clock level. -/
  | thermalSample (temps : List Int)
  /-- THERMAL_RESTART (R377): A write of TH_CTRL.RESTART restarts a stopped clock at the lowest level after the sequencers restore the stacks. -/
  | thermalRestart
  /-- MIN_LEVEL_WRITE (R379): A write to TH_CTRL.MIN_LEVEL sets the fastest permitted level, clamped to the grade. -/
  | minLevelWrite (val : Word)
  /-- FAB_WRITE_PACKET (R405): A WRITE packet is checked and performed at the target, which acknowledges the transfer when it completes. -/
  | fabWritePacket (pkt : Packet)
  /-- FAB_READ_PACKET (R406): A READ returns LEN bytes in a READ_RESP. -/
  | fabReadPacket (pkt : Packet)
  /-- FAB_READ_RESP (R406): Read data arrive at the source and are delivered. -/
  | fabReadResp (pkt : Packet)
  /-- FAB_ADD_PACKET (R407): An ADD applies its addend units to memory-side adders. -/
  | fabAddPacket (pkt : Packet)
  /-- FAB_CAS_PACKET (R407): A CAS compares and swaps an 8-byte word and returns the old value. -/
  | fabCasPacket (pkt : Packet)
  /-- FAB_FADD_PACKET (R407): A FADD adds to an 8-byte word modulo 2^64 and returns the old value. -/
  | fabFaddPacket (pkt : Packet)
  /-- FAB_ATOMIC_RESP (R407): An atomic's old value arrives at the source. -/
  | fabAtomicResp (pkt : Packet)
  /-- FAB_ACK (R418): An ACK answers a transfer at the source and counts toward OUT fences. -/
  | fabAck (pkt : Packet)
  /-- FAB_NACK (R404): A NACK ends its transfer and fails the frame or the NIC record. -/
  | fabNack (pkt : Packet)
  /-- FAB_ACQUIRE (R412): An ACQUIRE grants the token or queues the requester. -/
  | fabAcquire (pkt : Packet)
  /-- FAB_RELEASE (R413): A RELEASE by the holder passes the token once the holder's earlier transfers are complete. -/
  | fabRelease (pkt : Packet)
  /-- FAB_TOKEN_RESP (R412): A token grant or refusal arrives at the requester. -/
  | fabTokenResp (pkt : Packet)
  /-- FAB_BULK (R417): The target performs the gateway records of a BULK in order. -/
  | fabBulk (pkt : Packet)
  /-- FAB_BULK_RESP (R417): A BULK answer arrives, and the gateway may send the next gather of that key. -/
  | fabBulkResp (pkt : Packet)
  /-- FAB_MGMT (R393): An MGMT packet carries MGC messages or discovery probes on VC1. -/
  | fabMgmt (pkt : Packet)
  /-- FAB_RESERVED_OP (R393): A packet with a reserved OP is dropped and counted. -/
  | fabReservedOp (pkt : Packet)
  /-- FAB_LINK_REPLAY (R385): A packet in an uncorrectable codeword is replayed from the replay buffer. -/
  | fabLinkReplay (port : Fin 32) (cost : Nat) (lane : Nat)
  /-- LANE_LIGHT_LOSS (R386): An active lane has lost light for 100 ns, so the port goes DOWN. -/
  | laneLightLoss (port : Fin 32) (lane : Fin 9)
  /-- PORT_DOWN_SYMBOL (R386): A DOWN symbol from the neighbour takes the port DOWN. -/
  | portDownSymbol (port : Fin 32)
  /-- PORT_RETRAIN (R386): A write of PORT_CTRLp.RETRAIN takes the port DOWN and retrains it. -/
  | portRetrain (port : Fin 32)
  /-- PORT_DISABLE_WRITE (R431): A write of PORT_CTRLp.DISABLE turns the port OFF or back on. -/
  | portDisableWrite (port : Fin 32) (val : Word)
  /-- FAB_PORT_UP (R386): A retrained port returns UP. -/
  | fabPortUp (port : Fin 32)
  /-- PORT_UP_TIMEOUT (R386): A port not UP 10 ms after going DOWN enters FAILED. -/
  | portUpTimeout (port : Fin 32)
  /-- FAB_RETRANSMIT (R411): A transfer's answer has not arrived within its level's timeout, so it is retransmitted. -/
  | fabRetransmit (dst : Nat) (vc : Nat) (seq : Nat)
  /-- FAB_LEVEL_SATURATED (R424): A VC of a level has stalled for SAT_NS without a break. -/
  | fabLevelSaturated (level : Fin 3) (vc : Fin 8)
  /-- EGRESS_CREDIT_RETURN (R422): The F-die returns egress credits in flit headers, and a waiting mover may send. -/
  | egressCreditReturn (die : Fin 5) (level : Fin 3) (n : Nat)
  /-- FAB_DISCOVER (R426): A write of FAB_CTRL.DISCOVER starts route discovery. -/
  | fabDiscover
  /-- DISCOVER_DONE (R426): Discovery fills the route tables and NEIGHBOUR, and sets STATE to 1. -/
  | discoverDone (links : List (Nat × Nat × Nat))
  /-- FAB_APPLY (R427): A write of FAB_CTRL.APPLY reads and checks a fabric set-up record. -/
  | fabApply
  /-- APPLY_DONE (R427): APPLY installs the tables, clears fences and tokens, and sets STATE to 2. -/
  | applyDone
  /-- FAB_SAVE (R428): A write of FAB_CTRL.SAVE starts writing the installed tables as a record. -/
  | fabSave
  /-- FAB_SAVE_DONE (R428): The saved set-up record has been written. -/
  | fabSaveDone
  /-- FAB_ENABLE_WRITE (R431): A write of FAB_CTRL.ENABLE lets the ports train, or turns every port OFF. -/
  | fabEnableWrite (val : Word)
  /-- TBL_WRITE (R431): A write of TBL_SEL.WRITE writes TBL_DATA into the selected table entry, or refuses it. -/
  | tblWrite (val : Word)
  /-- TBL_READ (R431): A write of TBL_SEL.READ copies the selected entry into TBL_DATA. -/
  | tblRead (val : Word)
  /-- GATHER_TIMEOUT (R416): GATHER_NS have passed since a gather's first record, so the gather closes and is sent as a BULK. -/
  | gatherTimeout (gw : Fin 2) (key : Nat)
  /-- NIC_DOORBELL (R438): A write to offset 0x0 of a doorbell page advances the context's TAIL. -/
  | nicDoorbell (ctx : Fin 8) (p : Fin 4) (tail : Nat)
  /-- TOT_DOORBELL_INCREMENT (R438): A write to offset 0x8 of a doorbell page adds an increment to a TOT entry counter. -/
  | totDoorbellIncrement (ctx : Fin 8) (p : Fin 4) (val : Nat)
  /-- NIC_RECORD_POST (R437): A context reads the next ring record and posts it, or rejects it. -/
  | nicRecordPost (ctx : Fin 8)
  /-- TOT_LOAD (R440): A write of TOT_LOAD.GO starts loading a context's TOT image. -/
  | totLoad (val : Word)
  /-- TOT_LOAD_DONE (R440): A TOT load completes its validation. -/
  | totLoadDone
  /-- BARRIER (R450): A posted BARRIER runs up and down the group tree. -/
  | barrier (ctx : Fin 8)
  /-- SCALAR (R450): A posted SCALAR reduces up to 8 values in Ledger formats over the tree. -/
  | scalar (ctx : Fin 8)
  /-- ALLREDUCE (R456): A posted ALLREDUCE combines chunks up the tree and sends the results down. -/
  | allreduce (ctx : Fin 8)
  /-- REDUCE_SCATTER (R456): A posted REDUCE_SCATTER reduces chunks and sends each rank its share. -/
  | reduceScatter (ctx : Fin 8)
  /-- ALLGATHER (R456): A posted ALLGATHER gathers each rank's bytes up the tree and sends them down. -/
  | allgather (ctx : Fin 8)
  /-- BROADCAST (R461): A posted BROADCAST sends data down the tree and gathers BCAST_ACKs. -/
  | broadcast (ctx : Fin 8)
  /-- REPAIR_BCAST (R464): A posted REPAIR_BCAST sends the data directly to a target list. -/
  | repairBcast (ctx : Fin 8)
  /-- COL_UP (R450): A child's partials or elements for a (group, GSEQ) arrive and are combined. -/
  | colUp (pkt : Packet)
  /-- COL_DOWN (R450): Anchors or results arrive from the parent and are forwarded and written. -/
  | colDown (pkt : Packet)
  /-- COL_CREDIT (R454): A parent's credit for a chunk arrives, letting the child send a further chunk. -/
  | colCredit (pkt : Packet)
  /-- BCAST_ACK (R461): A child's broadcast acknowledgement with its CRC and failed list arrives. -/
  | bcastAck (pkt : Packet)
  /-- BCAST_CHILD_TIMEOUT (R462): No BCAST_ACK arrives from a child within HEIGHT × BCAST_WAIT_US. -/
  | bcastChildTimeout (group : Nat) (gseq : Nat) (child : Nat)
  /-- COLLECTIVE_COMPLETE (R443): A collective operation completes, and its TOT entry's completion reaches the SCUs. -/
  | collectiveComplete (group : Nat) (gseq : Nat)
  /-- RE_SLOT_SPARE (R578): A spare reduction slot takes a failed slot's number once no operation holds it. -/
  | reSlotSpare (bulk : Bool) (slot : Nat)
  /-- CKPT_SAVE (R483): A GO with OP SAVE starts the phases of a checkpoint to the CSM and the buddy. -/
  | ckptSave (p : Fin 4)
  /-- CKPT_COMMIT (R483): After the manifest drains, the own slot's commit block is written and the checkpoint commits. -/
  | ckptCommit (p : Fin 4)
  /-- CKPT_ABANDON (R484): A write of CKPT_CTRL.ABANDON ends the SAVE in progress. -/
  | ckptAbandon (p : Fin 4)
  /-- CKPT_BUDDY_LOST (R484): DRAINED makes no progress for MIRROR_MS, and the SAVE ends. -/
  | ckptBuddyLost (p : Fin 4)
  /-- CKPT_SCAN (R488): A GO with OP SCAN writes a report and body for each manifest slot. -/
  | ckptScan (p : Fin 4)
  /-- CKPT_RESTORE (R489): A GO with OP RESTORE reads, checks and writes each listed shard. -/
  | ckptRestore (p : Fin 4)
  /-- CKPT_OP_DONE (R489): A SCAN or RESTORE finishes, and its result code is set. -/
  | ckptOpDone (p : Fin 4)
  /-- MIRROR_CHUNK_SEND (R479): The origin writes a chunk to the buddy's ring once the ring has room. -/
  | mirrorChunkSend (p : Fin 4)
  /-- MIRROR_CHUNK_TAKE (R479): The buddy takes the next arrived chunk, acts on it by KIND and advances DRAINED. -/
  | mirrorChunkTake (p : Fin 4)
  /-- CKPT_MIRROR_WRITE (R497): A write to CKPT_MIRROR or CKPT_RING is applied, or refused while busy. -/
  | ckptMirrorWrite (p : Fin 4) (off : Nat) (val : Word)
  /-- CS_ARM (R503): A write of CS_CTRL.ARM arms a contact sheet, or refuses a past step. -/
  | csArm (val : Word)
  /-- CS_NOW (R506): A write of CS_CTRL.NOW latches a contact sheet at once in IDLE or STOPPED. -/
  | csNow
  /-- TB_MEASURE (R508): A write of TB_CTRL.MEASURE starts an offset measurement with 16 probes to the root. -/
  | tbMeasure
  /-- TB_PROBE_TIMEOUT (R509): A probe is unanswered for 1 ms and is resent, or the measurement ends after 3 tries. -/
  | tbProbeTimeout (probe : Nat)
  /-- TB_MEASURE_DONE (R509): The measurement writes the median offset to TB_OFFSET and the GST section. -/
  | tbMeasureDone (stamps : List (Int × Int × Int × Int))
  /-- EXP_ARM (R510): A write of EXP_CTRL.ARM arms an exposure at the frame's close, or refuses it. -/
  | expArm (die : Fin 4) (val : Word)
  /-- EXP_STOP (R511): A write of EXP_CTRL.STOP ends capture after the current frame. -/
  | expStop (die : Fin 4)
  /-- JOURNAL_REPORT (R520): A die's event report arrives and is queued, merged or lost. -/
  | journalReport
  /-- JOURNAL_RECORD (R520): Every 20 ns the journal records one queued report at TAIL. -/
  | journalRecord
  /-- JOURNAL_ALERT (R524): The MGC posts an alert for a recorded entry whose class is selected. -/
  | journalAlert (index : Nat)
  /-- JNL_HEAD_WRITE (R523): A write of JNL_HEAD consumes entries, and is ignored if it moves backwards or past TAIL. -/
  | jnlHeadWrite (val : Word)
  /-- JNL_CLEAR_SEEN (R521): A write of JNL_CTRL.CLEAR_SEEN makes every class unseen. -/
  | jnlClearSeen
  /-- PWROK_RISE (R534): PWROK rises and the package runs the stages of a start. -/
  | pwrokRise (env : StartEnv)
  /-- BOOT_TIMEOUT (R535): Stage 7 is not reached within 30 s, and the start fails. -/
  | bootTimeout
  /-- INTERNAL_RESTART (R535): One second after a failed start, the ROM restarts the package. -/
  | internalRestart (env : StartEnv)
  /-- PWROK_FALL (R604): PWROK is low for 100 ns, so the clocks stop and the main domains reset. -/
  | pwrokFall
  /-- SBYOK_RISE (R602): SBYOK rises, the straps are sampled and the I3C target starts answering. -/
  | sbyokRise (straps : Nat)
  /-- SBYOK_FALL (R606): SBYOK falls, which is treated as PWROK low, and the always-on SRAM is lost. -/
  | sbyokFall
  /-- PACKAGE_RESET (R605): A package reset sets every register to its reset value. -/
  | packageReset
  /-- DR_IDENTITY (R539): Darkroom request returning PKG_ID with the identity key, or the certificate. -/
  | drIdentity (which : Nat)
  /-- DR_STATUS (R539): Darkroom request returning boot status and rewrite progress. -/
  | drStatus
  /-- DR_NONCE (R539): Darkroom request returning a fresh nonce and voiding earlier ones. -/
  | drNonce
  /-- DR_BEGIN (R540): Begins a Darkroom rewrite after verifying the owner signature. -/
  | drBegin (req : List Byte)
  /-- DR_DATA (R540): Supplies the next image bytes of a Darkroom rewrite. -/
  | drData (off : Nat) (data : List Byte)
  /-- DR_END (R540): Ends a rewrite and returns a ticket for the digest and stage checks. -/
  | drEnd
  /-- DR_END_DONE (R540): The DR_END ticket completes with the verification result. -/
  | drEndDone
  /-- DR_RESTART (R540): After a successful DR_END, writes ATTEMPTS = 0 and starts the package. -/
  | drRestart (env : StartEnv)
  /-- SESSION_INIT (R557): Teller request creating an ML-KEM key pair and a signed session offer. -/
  | sessionInit (req : TellerReq)
  /-- SESSION_INIT_EXPIRY (R557): A SESSION_INIT with no FINISH within 10 s becomes void. -/
  | sessionInitExpiry (host : Fin 16)
  /-- SESSION_FINISH (R557): Verifies the host signature, derives the session keys and opens the session. -/
  | sessionFinish (req : TellerReq)
  /-- SESSION_CLOSE (R556): Teller request ending the host's session. -/
  | sessionClose (req : TellerReq)
  /-- IDE_START (R551): Puts CXL IDE into effect on the LD with this session's keys. -/
  | ideStart (req : TellerReq)
  /-- TELLER_READ (R556): Teller request returning up to 512 register values. -/
  | tellerRead (req : TellerReq)
  /-- TELLER_WRITE (R556): Teller request writing up to 256 ordinary registers. -/
  | tellerWrite (req : TellerReq)
  /-- TELLER_CRITICAL (R560): Teller request writing one critical register. -/
  | tellerCritical (req : TellerReq)
  /-- TELLER_IDENTITY (R556): Teller request returning identity data, as DR_IDENTITY does. -/
  | tellerIdentity (req : TellerReq)
  /-- ATTEST (R545): Teller request returning a signed attestation report for a nonce. -/
  | attest (req : TellerReq)
  /-- TELLER_TICKET (R556): Teller request returning the state of a ticket. -/
  | tellerTicket (req : TellerReq)
  /-- JOB_KEYGEN (R544): Derives the partition's job key and returns its public key and signed statement. -/
  | jobKeygen (req : TellerReq)
  /-- JOB_KEYLIST (R544): Installs the job key list root, address and count. -/
  | jobKeylist (req : TellerReq)
  /-- NVM_UPDATE (R562): Verifies a new boot image and starts writing it to the NVM under a ticket. -/
  | nvmUpdate (req : TellerReq)
  /-- NVM_UPDATE_DONE (R562): The NVM_UPDATE ticket completes and posts an alert. -/
  | nvmUpdateDone
  /-- SVN_ADVANCE (R556): Sets FUSE_SVN to the running firmware's SVN. -/
  | svnAdvance (req : TellerReq)
  /-- TELLER_RESET (R556): Teller request for a package reset 1 ms after the response. -/
  | tellerReset (req : TellerReq)
  /-- HOST_RING_WRITE (R552): A write to HOST_RING rings host doorbells for the current or next frame. -/
  | hostRingWrite (p : Fin 4) (val : Word)
  /-- HOST_CXL_MEM_ACCESS (R551): A host CXL.mem access is served in the F-die's slots, or poisoned or dropped without IDE. -/
  | hostCxlMemAccess (p : Fin 4) (write : Bool) (addr : Nat) (data : List Byte) (len : Nat)
  /-- HOST_PERST (R609): HOST_PERST_N low resets the host port link and ends IDE. -/
  | hostPerst
  /-- I3C_READ (R547): The I3C target answers a read of status registers and refuses writes. -/
  | i3cRead (reg : Fin 5) (write : Bool)
  /-- RB_RECORD_WRITE (R573): When DIRTY is set and frames are idle, the MGC writes a signed repair book record. -/
  | rbRecordWrite
  /-- SPARE_APPLY (R588): Service request bringing in a spare of a given kind and location. -/
  | spareApply (req : TellerReq)
  /-- SPARE_POLICY (R588): Service request setting RB_POLICY. -/
  | sparePolicy (req : TellerReq)
  /-- CAL_WRITE (R586): Service request replacing the calibration set from an image or from live values. -/
  | calWrite (req : TellerReq)
  /-- CAL_WRITE_DONE (R587): The CAL_WRITE ticket completes and CAL_WRITTEN is raised. -/
  | calWriteDone
  /-- CAL_EXPORT (R588): Service request writing the calibration set to T1 under a ticket. -/
  | calExport (req : TellerReq)
  /-- CAL_EXPORT_DONE (R588): The CAL_EXPORT ticket completes. -/
  | calExportDone
  /-- SELFTEST (R588): Service request running a unit's self-test back to back under a ticket. -/
  | selftest (req : TellerReq)
  /-- SELFTEST_DONE (R588): The SELFTEST ticket completes. -/
  | selftestDone (fault : Option Nat)
  /-- RB_FLUSH (R588): Service request asking for a repair book record to be written under a ticket. -/
  | rbFlush (req : TellerReq)
  /-- LSC_FAULT (R616): LSC_FAULT_N goes low, and the package reads the status of the affected channels. -/
  | lscFault
  /-- LSC_RESPONSE (R615): A laser source response frame arrives for the last command. -/
  | lscResponse (frame : List Byte)
  /-- LSC_TIMEOUT (R616): No valid response arrives within 10 µs, so the command is resent. -/
  | lscTimeout
  /-- JTAG_IDCODE (R611): The test access port shifts out the stepping's IDCODE. -/
  | jtagIdcode
  /-- JTAG_BYPASS (R611): The test access port selects the bypass register. -/
  | jtagBypass
  /-- JTAG_SAMPLE_PRELOAD (R611): SAMPLE/PRELOAD is executed in Darkroom mode, and is BYPASS otherwise. -/
  | jtagSamplePreload (data : Nat)
  /-- JTAG_EXTEST (R611): EXTEST is executed in Darkroom mode, and is BYPASS otherwise. -/
  | jtagExtest
  /-- SCALAR_INSTRUCTION (R304): A core executes a scalar instruction (integer, FP, load, store or cache maintenance) in one pass, with its FP flags, traps and access exceptions. -/
  | scalarInstruction (core : Fin 64) (instr : ScalarInstr)
  /-- FAB_PACKET_FORWARD (R399): A packet whose DST is not a node of this package arrives on a port and is forwarded on a port of its level chosen by rotation from the route entry. -/
  | fabPacketForward (port : Fin 32) (pkt : Packet)
  /-- LINK_ACK_SYMBOL (R385): The neighbour acknowledges packets with a link control symbol, and the port frees them from its replay buffer. -/
  | linkAckSymbol (port : Fin 32) (count : Nat)
  /-- VC_CREDIT_RETURN (R398): A neighbour returns credit for a VC, and packets waiting on that VC at the port may be sent. -/
  | vcCreditReturn (port : Fin 32) (vc : Fin 8) (n : Nat)
  /-- HBM_REFRESH_POINT (R339): The round position of a pseudo-channel reaches a refresh point, and the controller issues the refresh for one refresh interval. -/
  | hbmRefreshPoint (die : Fin 4) (stack : Fin 3) (pc : Fin 32)
  /-- TELLER_UNLISTED_OP (R558): A submitted Teller message whose OP is not listed for the current mode is refused with TELLER_OP. -/
  | tellerUnlistedOp (req : TellerReq)
  /-- DR_STAGING_WRITE (R540): The ROM finishes writing buffered image bytes to the boot NVM, which frees room in the 1 MiB staging buffer. -/
  | drStagingWrite (n : Nat)
  /-- HOST_PERST_RELEASE (R609): HOST_PERST_N returns high and the host port link trains again, with IDE still ended until IDE_START. -/
  | hostPerstRelease
  /-- TOT_SEL_READ (R466): A write of TOT_SEL.READ copies the selected TOT entry into TOT_DATA0 to TOT_DATA2. -/
  | totSelRead (val : Word)
  /-- SLINK_LANE_FAULT (R577): A Slot Link lane stops working altogether; with no repair lane left the link goes down and transfers on it fault. -/
  | slinkLaneFault (e : Fin 6) (l : Fin 5) (hasSpare : Bool)
  /-- SPARE_UNIT_TEST (R581): A unit that is spare at that moment, or an idle spare optical lane, is tested or recalibrated at any time in cycles no plan uses. -/
  | spareUnitTest (piece : Piece) (fault : Bool)
  /-- BACK_TO_BACK_PIECE (R580): In frame states IDLE and STOPPED, a unit runs its deferred maintenance pieces back to back, such as retirement copy, spare bank copy or exposure write. -/
  | backToBackPiece (piece : Piece) (len : Nat) (fault : Option Nat)
deriving DecidableEq, Repr

end Sys2Proof
end

