-- ==== Sys2Proof/Decode.lean ====
section
/-! DEFINITION. The command a table word spells: spec/opcode_table.json gives no row any bits, so no word spells a command. The 32-bit word of a core's vector instruction, in the outline of R303. -/
namespace Sys2Proof

/-- No row of the opcode table has bits. (DESIGN CHOICE, notes/assumptions/9.md) -/
def decodeTableWord (nbits w : Nat) : Option Instr :=
  let _ := (nbits, w)
  none

/-- The word of a vector instruction with operation code FUNC (R303). -/
def vecWord (i : VecInstr) (func : Fin 32) : Nat :=
  (if i.lvx then 0x2D else 0x2C) * 2 ^ 26 + i.vd.val * 2 ^ 21 + i.vs1.val * 2 ^ 16 + i.vs2.val * 2 ^ 11
    + (match i.qual with
      | some q => 2 ^ 10 + q.val * 2 ^ 7
      | none => 0) + i.w.val * 2 ^ 5 + func.val

/-- The vector instruction and the FUNC of a word (R303). What a FUNC stands for is in the SZ-64 reference: `scalar`, `rm`, `op` and the pages met are given with it. None when MAJOR is neither 0x2C nor 0x2D. -/
def vecInstrOf (w : Nat) (scalar : Bool) (rm : Option (Fin 4)) (op : VecOp) (pages : List PageMap) : Option (VecInstr × Fin 32) :=
  let f := fun (lo : Nat) => w / 2 ^ lo
  if f 26 % 64 ≠ 0x2C ∧ f 26 % 64 ≠ 0x2D then none
  else some (⟨f 26 % 64 == 0x2D, Fin.ofNat 32 (f 21), Fin.ofNat 32 (f 16), Fin.ofNat 32 (f 11), if f 10 % 2 = 1 then some (Fin.ofNat 8 (f 7)) else none,
    Fin.ofNat 4 (f 5), scalar, rm, op, pages⟩, Fin.ofNat 32 w)

end Sys2Proof
end

