-- ==== Sys2Proof/Machine/Crc.lean ====
section
/-! DEFINITION. The check values of the CVUs: CRC-32C, CRC-32 and CRC-64 with the parameters of R198, bit by bit. -/
namespace Sys2Proof.Machine

/-- Reversed polynomial, width and mask of a POLY code (R198). -/
def crcPoly (c : Nat) : Nat :=
  match c with
  | 0 => 0x82F63B78
  | 1 => 0xEDB88320
  | _ => 0xC96C5795D7870F42

/-- DEDUCED, notes/assumptions/46.md. -/
def crcWidth (c : Nat) : Nat := if c < 2 then 32 else 64

/-- The register before the first byte, and the final XOR. -/
def crcInit (c : Nat) : Nat := 2 ^ crcWidth c - 1

def crcBit (p x : Nat) : Nat := if x % 2 = 1 then (x / 2) ^^^ p else x / 2

def crcByte (p x : Nat) (b : Byte) : Nat :=
  let x := x ^^^ b.toNat
  crcBit p (crcBit p (crcBit p (crcBit p (crcBit p (crcBit p (crcBit p (crcBit p x)))))))

/-- Feed bytes in order to the running value (R199). (DEDUCED, notes/assumptions/46.md) -/
def crcFeed (c : Nat) (x : Nat) (l : List Byte) : Nat := l.foldl (crcByte (crcPoly c)) x

/-- The final value: the running value after the final XOR. (DEDUCED, notes/assumptions/46.md) -/
def crcFinal (c : Nat) (x : Nat) : Nat := x ^^^ crcInit c

/-- The check value of a byte string from the initial value. -/
def crcOf (c : Nat) (l : List Byte) : Nat := crcFinal c (crcFeed c (crcInit c) l)

end Sys2Proof.Machine

namespace Sys2Proof

/-- The first 44 bytes of a packet's header (R392). -/
def Packet.header (k : Packet) : List Byte :=
  leBytes 4 k.dst ++ leBytes 4 k.src ++ leBytes 1 k.op ++ leBytes 1 (k.vc.val + 8 * k.level + 32 * b2n k.retx) ++ leBytes 1 k.group ++ leBytes 1 0
    ++ leBytes 4 k.seq ++ leBytes 2 k.pkt ++ leBytes 2 k.npkt ++ leBytes 2 k.payload.length ++ leBytes 2 k.region ++ leBytes 8 k.addr
    ++ leBytes 8 k.key ++ leBytes 4 k.step

/-- HCRC of a packet: CRC-32C over its header (R392). -/
def Packet.headCrc (k : Packet) : Nat := Machine.crcOf 0 k.header

/-- PCRC of a packet: CRC-32C over its payload; a packet without payload has none (R392). -/
def Packet.payCrc (k : Packet) : Nat := if k.payload.isEmpty then 0 else Machine.crcOf 0 k.payload

/-- Whether HCRC and PCRC verify (R394). -/
def Packet.crcOk (k : Packet) : Bool := k.hcrc == k.headCrc && k.pcrc == k.payCrc

/-- A packet with the check values that its bytes give. -/
def Packet.sealed (k : Packet) : Packet := { k with hcrc := k.headCrc, pcrc := k.payCrc }

end Sys2Proof
end

