-- ==== Sys2Proof/Machine/Hash.lean ====
section
/-! DEFINITION. The hash engine's functions named by the manual: SHA3-512 (R427, R482, R545) and KMAC256 (R555), over the Keccak permutation of FIPS 202, which the manual names. The state is one number of 1,600 bits, in rows of five 64-bit lanes; the offsets and the round constants are computed by that standard's rules. -/
namespace Sys2Proof.Machine

/-- `x`, a number of `w` bits, turned left by `n` places. -/
def turn (w n x : Nat) : Nat := x <<< (n % w) % 2 ^ w ||| x >>> (w - n % w)

/-- `n` fields of `w` bits of a number, the lowest first. -/
def parts (w : Nat) : Nat → Nat → List Nat
  | 0, _ => []
  | n + 1, x => x % 2 ^ w :: parts w n (x >>> w)

/-- The number whose fields of `w` bits are those of the list. -/
def joined (w : Nat) (l : List Nat) : Nat := l.foldr (fun f rest => f ||| rest <<< w) 0

/-- The walk of the lanes: the point after (x, y) is (y, 2x + 3y), which is also where the lane at (x, y) is moved to; the walk from (1, 0) meets every lane but (0, 0), once. -/
def laneWalk : Nat → Nat × Nat → List (Nat × Nat)
  | 0, _ => []
  | n + 1, (x, y) => (x, y) :: laneWalk n (y, (2 * x + 3 * y) % 5)

/-- The column parities, one row of five lanes: each bit is changed by the parities of two neighbouring columns. -/
def parityStep (rows : List Nat) : List Nat :=
  let parity := rows.foldl (· ^^^ ·) 0
  let ahead := joined 64 ((parts 64 5 (turn 320 256 parity)).map (turn 64 1))
  rows.map (fun row => row ^^^ turn 320 64 parity ^^^ ahead)

/-- The lanes turned and moved one point on along their walk: the lane at the walk's point `t` turns by (t + 1)(t + 2) / 2. -/
def moveStep (rows : List Nat) : List Nat :=
  let lanes := parts 64 25 (joined 320 rows)
  let put := (laneWalk 24 (1, 0)).zipIdx.foldl (fun (out : List Nat) p =>
    out.set (p.1.2 + 5 * ((2 * p.1.1 + 3 * p.1.2) % 5)) (turn 64 ((p.2 + 1) * (p.2 + 2) / 2) (lanes.getD (p.1.1 + 5 * p.1.2) 0))) lanes
  parts 320 5 (joined 64 put)

/-- Each lane of a row meets the two lanes after it. -/
def mixStep (row : Nat) : Nat := row ^^^ ((2 ^ 320 - 1 - turn 320 256 row) &&& turn 320 192 row)

/-- One step of the shift register that gives the round constants: x^8 + x^6 + x^5 + x^4 + 1. -/
def constStep (r : Nat) : Nat := if r < 128 then 2 * r else (2 * r) ^^^ 0x171

/-- The constant of a round from the register at its start: its seven next output bits at bits 2^j - 1. -/
def roundConst (r : Nat) : Nat × Nat :=
  (List.range 7).foldl (fun (p : Nat × Nat) j => (p.1 ||| (p.2 % 2) <<< (2 ^ j - 1), constStep p.2)) (0, r)

/-- `n` rounds on the five rows, the register of the constants at `r`. -/
def rounds : Nat → Nat → List Nat → List Nat
  | 0, _, rows => rows
  | n + 1, r, rows =>
    let (const, r') := roundConst r
    rounds n r' (((moveStep (parityStep rows)).map mixStep).modify 0 (· ^^^ const))

/-- The permutation of the 1,600-bit state: 24 rounds. -/
def permute1600 (x : Nat) : Nat := joined 320 (rounds 24 1 (parts 320 5 x))

/-- Absorb `n` blocks of `rate` bytes into the state. -/
def absorbAll (rate : Nat) : Nat → Nat → List Byte → Nat
  | 0, x, _ => x
  | n + 1, x, l => absorbAll rate n (permute1600 (x ^^^ leNat (l.take rate))) (l.drop rate)

/-- The padded message: domain byte, zeros, and the final bit. -/
def keccakPad (rate dom : Nat) (m : List Byte) : List Byte :=
  let k := rate - m.length % rate
  if k = 1 then m ++ leBytes 1 (dom + 0x80) else m ++ leBytes 1 dom ++ List.replicate (k - 2) 0 ++ leBytes 1 0x80

/-- The sponge for outputs of at most one block. -/
def sponge (rate dom n : Nat) (m : List Byte) : List Byte :=
  let p := keccakPad rate dom m
  leBytes n (absorbAll rate (p.length / rate) 0 p)

/-- SHA3-512. (DESIGN CHOICE, notes/assumptions/39.md) -/
def sha3_512 (m : List Byte) : List Byte := sponge 72 0x06 64 m

/-- Big-endian bytes of a number, without leading zeros (at least one byte). -/
def beBytes (x : Nat) : List Byte := (leBytes (max 1 (Nat.log2 x / 8 + 1)) x).reverse

def leftEncode (x : Nat) : List Byte := leBytes 1 (beBytes x).length ++ beBytes x
def rightEncode (x : Nat) : List Byte := beBytes x ++ leBytes 1 (beBytes x).length
def encodeString (m : List Byte) : List Byte := leftEncode (8 * m.length) ++ m

/-- A string padded to a multiple of `w` bytes. -/
def bytepad (m : List Byte) (w : Nat) : List Byte :=
  let z := leftEncode w ++ m
  z ++ List.replicate ((w - z.length % w) % w) 0

/-- KMAC256 with an output of `n` bytes (at most 136). (DESIGN CHOICE, notes/assumptions/39.md) -/
def kmac256 (key m : List Byte) (n : Nat) (custom : List Byte) : List Byte :=
  let name : List Byte := [0x4B, 0x4D, 0x41, 0x43]
  sponge 136 0x04 n (bytepad (encodeString name ++ encodeString custom) 136 ++ bytepad (encodeString key) 136 ++ m ++ rightEncode (8 * n))

end Sys2Proof.Machine
end

