-- ==== Sys2Proof/Machine/Fp.lean ====
section
/-! DEFINITION. Element formats, exact values and correctly rounded arithmetic: R97 to R100, R107 to R112, and the operations IEEE 754-2019 names that R151 and R311 use. -/
namespace Sys2Proof.Machine

/-- An element format of R97: exponent and fraction widths, bias, and whether it has an infinity or a NaN. -/
structure Fmt where
  ew : Nat
  mw : Nat
  bias : Nat
  inf : Bool
  nan : Bool
deriving DecidableEq, Repr

/-- The formats of R97 by code; INT8 (code 0) and the reserved codes have none. -/
def fmtOf (c : Nat) : Option Fmt :=
  match c with
  | 0x1 | 0x3 => some ⟨4, 3, 7, false, true⟩
  | 0x2 | 0x4 => some ⟨5, 2, 15, true, true⟩
  | 0x5 => some ⟨2, 3, 1, false, false⟩
  | 0x6 => some ⟨3, 2, 3, false, false⟩
  | 0x7 => some ⟨2, 1, 1, false, false⟩
  | 0x8 => some ⟨8, 7, 127, true, true⟩
  | 0x9 => some ⟨5, 10, 15, true, true⟩
  | 0xA => some ⟨8, 23, 127, true, true⟩
  | 0xB => some ⟨11, 52, 1023, true, true⟩
  | _ => none

def fmtF32 : Fmt := ⟨8, 23, 127, true, true⟩
def fmtF64 : Fmt := ⟨11, 52, 1023, true, true⟩

/-- The format's width in bits. -/
def Fmt.width (f : Fmt) : Nat := 1 + f.ew + f.mw

/-- Element size in bits of a format code (R94). -/
def elemBits (c : Nat) : Nat := if c = 0 then 8 else match fmtOf c with
  | some f => f.width
  | none => 8

/-- Whether a format code is an MX element format (R97, R98). -/
def isMx (c : Nat) : Bool := 3 ≤ c && c ≤ 7

/-- An exact value: NaN, a signed infinity, or ±m × 2^e (a zero keeps its sign). -/
inductive Fv where
  | nan
  | inf (neg : Bool)
  | fin (neg : Bool) (m : Nat) (e : Int)
deriving DecidableEq, Repr

/-- Flag bits (R142): INVALID 1, OVERFLOW 2, UNDERFLOW 4, INEXACT 8, DIVZERO 16. -/
def flagInvalid : Nat := 1
def flagOverflow : Nat := 2
def flagUnderflow : Nat := 4
def flagInexact : Nat := 8
def flagDivzero : Nat := 16

/-- Rounding modes by code (R107). -/
inductive Rm where
  | rne | rtz | rdn | rup
deriving DecidableEq, Repr

def Rm.ofCode (n : Nat) : Rm := match n % 4 with
  | 0 => .rne
  | 1 => .rtz
  | 2 => .rdn
  | _ => .rup

/-- The value an encoding stands for (R97); subnormals are kept (R99). -/
def Fmt.decode (f : Fmt) (x : Nat) : Fv :=
  let neg := bit x (f.ew + f.mw)
  let e := bits x f.mw f.ew
  let m := bits x 0 f.mw
  let eMax := 2 ^ f.ew - 1
  if f.inf && e == eMax then (if m = 0 then .inf neg else .nan)
  else if f.nan && !f.inf && e == eMax && m == 2 ^ f.mw - 1 then .nan
  else if e = 0 then .fin neg m (1 - (f.bias : Int) - f.mw)
  else .fin neg (m + 2 ^ f.mw) ((e : Int) - f.bias - f.mw)

/-- The significand and exponent of the largest finite value (R97). -/
def Fmt.maxFin (f : Fmt) : Nat × Int :=
  if f.inf then (2 ^ (f.mw + 1) - 1, ((2 ^ f.ew - 2 : Nat) : Int) - f.bias - f.mw)
  else if f.nan then (2 ^ (f.mw + 1) - 2, ((2 ^ f.ew - 1 : Nat) : Int) - f.bias - f.mw)
  else (2 ^ (f.mw + 1) - 1, ((2 ^ f.ew - 1 : Nat) : Int) - f.bias - f.mw)

/-- The canonical NaN of a format (R110). -/
def Fmt.cnan (f : Fmt) : Nat :=
  if f.inf then (2 ^ f.ew - 1) * 2 ^ f.mw + 2 ^ (f.mw - 1)
  else (2 ^ f.ew - 1) * 2 ^ f.mw + (2 ^ f.mw - 1)

/-- The encoding of an infinity. -/
def Fmt.infBits (f : Fmt) (neg : Bool) : Nat := b2n neg * 2 ^ (f.ew + f.mw) + (2 ^ f.ew - 1) * 2 ^ f.mw

/-- Encode ±m × 2^e when it lies exactly on the format's grid. -/
def Fmt.encodeGrid (f : Fmt) (neg : Bool) (m : Nat) (e : Int) : Nat :=
  let s := b2n neg * 2 ^ (f.ew + f.mw)
  if m < 2 ^ f.mw then s + m
  else s + (e + f.mw + f.bias).toNat * 2 ^ f.mw + (m - 2 ^ f.mw)

/-- Shift a Nat left by an Int amount (right shifts truncate). -/
def shlI (m : Nat) (k : Int) : Nat := if 0 ≤ k then m * 2 ^ k.toNat else m / 2 ^ (-k).toNat

/-- Whether the magnitude is rounded up: odd last bit, comparison of the discarded part with one half, any discarded part. -/
def roundUpM (rm : Rm) (neg odd : Bool) (cmp : Ordering) (any : Bool) : Bool :=
  match rm with
  | .rne => cmp == .gt || (cmp == .eq && odd)
  | .rtz => false
  | .rdn => neg && any
  | .rup => !neg && any

/-- The magnitude m × 2^e (plus a discarded positive part when `sticky`) rounded to multiples of 2^ls: the multiple and whether it is inexact. -/
def roundAt (rm : Rm) (neg : Bool) (m : Nat) (e ls : Int) (sticky : Bool) : Nat × Bool :=
  if ls ≤ e then
    let q := m * 2 ^ (e - ls).toNat
    if sticky && roundUpM rm neg (q % 2 == 1) .lt true then (q + 1, true) else (q, sticky)
  else
    let k := (ls - e).toNat
    let q := m / 2 ^ k
    let r := m % 2 ^ k
    let h := 2 ^ (k - 1)
    let c := if r < h then Ordering.lt else if r = h then (if sticky then .gt else .eq) else .gt
    let any := r != 0 || sticky
    (if roundUpM rm neg (q % 2 == 1) c any then q + 1 else q, any)

/-- The overflow result (R108, R109). (DEDUCED, notes/assumptions/29.md) -/
def Fmt.overflow (f : Fmt) (rm : Rm) (sat : Bool) (fp8 : Bool) (neg : Bool) : Nat :=
  let big := let (m, e) := f.maxFin; f.encodeGrid neg m e
  let toInf := match rm with
    | .rne => true
    | .rtz => false
    | .rdn => neg
    | .rup => !neg
  if toInf && !(fp8 && sat) then
    if f.inf then f.infBits neg else if sat || !f.nan then big else f.cnan
  else big

/-- Whether a format is an FP8 target of R109. -/
def Fmt.isFp8 (f : Fmt) : Bool := f.width == 8

/-- A finite magnitude m × 2^e (and a discarded part when `sticky`) rounded once to the format (R107 to R111): encoding and flags. -/
def Fmt.roundFin (f : Fmt) (rm : Rm) (sat neg : Bool) (m : Nat) (e : Int) (sticky : Bool) : Nat × Nat :=
  if m = 0 && !sticky then (b2n neg * 2 ^ (f.ew + f.mw), 0)
  else
    let top := (Nat.log2 m : Int) + e
    let emin : Int := 1 - f.bias
    let lsN := top - f.mw
    let ls := if lsN < emin - f.mw then emin - f.mw else lsN
    let tiny := m = 0 || top < emin
    let (q, inx) := roundAt rm neg m e ls sticky
    let (q, ls) := if q = 2 ^ (f.mw + 1) then (2 ^ f.mw, ls + 1) else (q, ls)
    let (mm, me) := f.maxFin
    let ovr := me < ls || (ls == me && mm < q)
    if ovr && !tiny then (f.overflow rm sat f.isFp8 neg, flagOverflow + flagInexact)
    else (f.encodeGrid neg q ls, (if inx then flagInexact else 0) + (if tiny && inx then flagUnderflow else 0))

/-- A value rounded once to the format (R107 to R111). -/
def Fmt.round (f : Fmt) (rm : Rm) (sat : Bool) (v : Fv) : Nat × Nat :=
  match v with
  | .nan => (f.cnan, 0)
  | .inf neg =>
    if f.inf then (f.infBits neg, 0)
    else if sat || !f.nan then (let (m, e) := f.maxFin; (f.encodeGrid neg m e, 0)) else (f.cnan, 0)
  | .fin neg m e => f.roundFin rm sat neg m e false

/-- Exact negation. -/
def Fv.neg : Fv → Fv
  | .nan => .nan
  | .inf s => .inf (!s)
  | .fin s m e => .fin (!s) m e

/-- Exact sum of two finite values as a signed integer at the lower exponent. -/
def finSum (s1 : Bool) (m1 : Nat) (e1 : Int) (s2 : Bool) (m2 : Nat) (e2 : Int) : Int × Int :=
  let e := if e1 ≤ e2 then e1 else e2
  let a : Int := (m1 * 2 ^ (e1 - e).toNat : Nat)
  let b : Int := (m2 * 2 ^ (e2 - e).toNat : Nat)
  ((if s1 then -a else a) + (if s2 then -b else b), e)

/-- Sum with the IEEE 754 rules for special values; flags for INVALID. The sign of an exact zero sum follows the mode. -/
def Fv.add (rm : Rm) (a b : Fv) : Fv × Nat :=
  match a, b with
  | .nan, _ => (.nan, 0)
  | _, .nan => (.nan, 0)
  | .inf s, .inf t => if s == t then (.inf s, 0) else (.nan, flagInvalid)
  | .inf s, .fin _ _ _ => (.inf s, 0)
  | .fin _ _ _, .inf t => (.inf t, 0)
  | .fin s1 m1 e1, .fin s2 m2 e2 =>
    if m1 = 0 ∧ m2 = 0 then (.fin (if s1 == s2 then s1 else rm == .rdn) 0 e1, 0)
    else
      let (x, e) := finSum s1 m1 e1 s2 m2 e2
      if x = 0 then (.fin (rm == .rdn) 0 e, 0) else (.fin (decide (x < 0)) x.natAbs e, 0)

/-- Exact product (R100): a NaN operand raises nothing, infinity times zero raises INVALID; infinity times infinity, which R100 does not name, is an infinity of the product's sign without a flag. (DESIGN CHOICE for infinity times infinity, notes/assumptions/70.md) -/
def Fv.mul (a b : Fv) : Fv × Nat :=
  match a, b with
  | .nan, _ => (.nan, 0)
  | _, .nan => (.nan, 0)
  | .inf s, .inf t => (.inf (s != t), 0)
  | .inf s, .fin t m _ => if m = 0 then (.nan, flagInvalid) else (.inf (s != t), 0)
  | .fin s m _, .inf t => if m = 0 then (.nan, flagInvalid) else (.inf (s != t), 0)
  | .fin s m e, .fin t n g => (.fin (s != t) (m * n) (e + g), 0)

/-- Sum rounded to the format. -/
def Fmt.add (f : Fmt) (rm : Rm) (a b : Fv) : Nat × Nat :=
  let (v, fl) := Fv.add rm a b
  let (x, g) := f.round rm false v
  (x, fl ||| g)

/-- Product rounded to the format. -/
def Fmt.mul (f : Fmt) (rm : Rm) (a b : Fv) : Nat × Nat :=
  let (v, fl) := Fv.mul a b
  let (x, g) := f.round rm false v
  (x, fl ||| g)

/-- a × b + c rounded once; a NaN operand gives NaN without INVALID, infinity times zero beside it included (R150, R151). -/
def Fmt.fma (f : Fmt) (rm : Rm) (a b c : Fv) : Nat × Nat :=
  match c with
  | .nan => (f.cnan, 0)
  | _ =>
    let (p, fl) := Fv.mul a b
    let (v, fl2) := Fv.add rm p c
    let (x, g) := f.round rm false v
    (x, fl ||| fl2 ||| g)

/-- Quotient rounded to the format; a zero divisor under a finite non-zero dividend raises DIVZERO. -/
def Fmt.div (f : Fmt) (rm : Rm) (a b : Fv) : Nat × Nat :=
  match a, b with
  | .nan, _ => (f.cnan, 0)
  | _, .nan => (f.cnan, 0)
  | .inf _, .inf _ => (f.cnan, flagInvalid)
  | .inf s, .fin t _ _ => (f.infBits (s != t), 0)
  | .fin s _ _, .inf t => (b2n (s != t) * 2 ^ (f.ew + f.mw), 0)
  | .fin s m e, .fin t n g =>
    if n = 0 then (if m = 0 then (f.cnan, flagInvalid) else (f.infBits (s != t), flagDivzero))
    else if m = 0 then (b2n (s != t) * 2 ^ (f.ew + f.mw), 0)
    else
      let k := f.mw + 4 + Nat.log2 n
      let q := m * 2 ^ k / n
      f.roundFin rm false (s != t) q (e - g - k) (m * 2 ^ k % n != 0)

/-- Integer square root by bits, from bit `k` down. -/
def isqrtAux : Nat → Nat → Nat → Nat
  | 0, _, r => r
  | k + 1, n, r => isqrtAux k n (if (r + 2 ^ k) * (r + 2 ^ k) ≤ n then r + 2 ^ k else r)

/-- Floor of the square root. -/
def isqrt (n : Nat) : Nat := isqrtAux (Nat.log2 n / 2 + 1) n 0

/-- Square root rounded to the format. -/
def Fmt.sqrt (f : Fmt) (rm : Rm) (a : Fv) : Nat × Nat :=
  match a with
  | .nan => (f.cnan, 0)
  | .inf s => if s then (f.cnan, flagInvalid) else (f.infBits false, 0)
  | .fin s m e =>
    if m = 0 then (b2n s * 2 ^ (f.ew + f.mw), 0)
    else if s then (f.cnan, flagInvalid)
    else
      let k : Nat := 2 * f.mw + 6
      let k := if (e - k) % 2 = 0 then k else k + 1
      let n := m * 2 ^ k
      let r := isqrt n
      f.roundFin rm false false r ((e - k) / 2) (r * r != n)

/-- Exact comparison of two values that are not NaN: the sign of a − b. -/
def Fv.cmp (a b : Fv) : Ordering :=
  match a, b with
  | .inf s, .inf t => if s == t then .eq else if s then .lt else .gt
  | .inf s, _ => if s then .lt else .gt
  | _, .inf t => if t then .gt else .lt
  | .fin s1 m1 e1, .fin s2 m2 e2 =>
    let (x, _) := finSum s1 m1 e1 (!s2) m2 e2
    if x < 0 then .lt else if x = 0 then .eq else .gt
  | _, _ => .eq

def Fv.isNan : Fv → Bool
  | .nan => true
  | _ => false

def Fv.isNeg : Fv → Bool
  | .nan => false
  | .inf s => s
  | .fin s _ _ => s

def Fv.isZero : Fv → Bool
  | .fin _ m _ => m == 0
  | _ => false

/-- IEEE 754-2019 minimum: NaN if either is, −0 below +0 (R151). -/
def Fv.min (a b : Fv) : Fv :=
  if a.isNan || b.isNan then .nan
  else match Fv.cmp a b with
    | .lt => a
    | .gt => b
    | .eq => if a.isNeg then a else b

/-- IEEE 754-2019 maximum (R151). -/
def Fv.max (a b : Fv) : Fv :=
  if a.isNan || b.isNan then .nan
  else match Fv.cmp a b with
    | .lt => b
    | .gt => a
    | .eq => if a.isNeg then b else a

/-- An integer as an exact value. -/
def Fv.ofInt (x : Int) : Fv := .fin (decide (x < 0)) x.natAbs 0

/-- floor(log2 |x|) of a finite non-zero value. -/
def finLog2 (m : Nat) (e : Int) : Int := (Nat.log2 m : Int) + e

/-- The value as an integer multiple of 2^q truncated towards minus infinity, and whether bits were lost. -/
def truncDown (neg : Bool) (m : Nat) (e q : Int) : Int × Bool :=
  if q ≤ e then (let a : Int := (m * 2 ^ (e - q).toNat : Nat); (if neg then -a else a, false))
  else
    let k := (q - e).toNat
    let a := m / 2 ^ k
    let r := m % 2 ^ k
    if neg then (-(a : Int) - (if r = 0 then 0 else 1), r != 0) else ((a : Int), r != 0)

/-- A value rounded to an integer by the mode: the integer and whether it is inexact. -/
def roundInt (rm : Rm) (neg : Bool) (m : Nat) (e : Int) : Int × Bool :=
  let (q, inx) := roundAt rm neg m e 0 false
  (if neg then -(q : Int) else (q : Int), inx)

/-- INT8 conversion target (R156): the value and flags. -/
def toInt8 (rm : Rm) (v : Fv) : Int × Nat :=
  match v with
  | .nan => (0, flagInvalid)
  | .inf neg => (if neg then -128 else 127, flagOverflow + flagInexact)
  | .fin neg m e =>
    let (x, inx) := roundInt rm neg m e
    if x < -128 then (-128, flagOverflow + flagInexact)
    else if 127 < x then (127, flagOverflow + flagInexact)
    else (x, if inx then flagInexact else 0)

/-- The value of an element of format code `c` (INT8 is 0). -/
def elemVal (c x : Nat) : Fv :=
  if c = 0 then Fv.ofInt (sint 8 x)
  else match fmtOf c with
    | some f => f.decode x
    | none => .nan

/-- An element value times an E8M0 block scale (R98). -/
def scaleVal (v : Fv) (scale : Nat) : Fv :=
  if scale = 0xFF then .nan
  else match v with
    | .fin s m e => .fin s m (e + (scale : Int) - 127)
    | w => w

end Sys2Proof.Machine
end

