-- ==== Sys2Proof/Machine/Ledger.lean ====
section
/-! DEFINITION. The Ledger formats: LG32 and LG64W values, their memory words, accumulation and read-out (R113 to R119). -/
namespace Sys2Proof.Machine

/-- An LG32 ledger word (R113, R114, R118): the value is `i` × 2^−149, `i` in two's complement of 320 bits. -/
structure Lg32 where
  i : Nat
  nan : Bool
  pos : Bool
  neg : Bool
  cap : Bool
  count : Nat
deriving DecidableEq, Repr

/-- An LG64W ledger word (R116, R118): the window is `w` × 2^(anchor − 486), `w` in two's complement of 512 bits. -/
structure Lgw where
  w : Nat
  anchor : Int
  nan : Bool
  pos : Bool
  neg : Bool
  anchorSet : Bool
  above : Bool
  dropped : Bool
  cap : Bool
  phase : Nat
  count : Nat
deriving DecidableEq, Repr

/-- The empty ledgers: what a word of zero bytes holds (R118). -/
def Lg32.empty : Lg32 := ⟨0, false, false, false, false, 0⟩
def Lgw.empty : Lgw := ⟨0, 0, false, false, false, false, false, false, false, 0, 0⟩

/-- The LG32 word in 64 bytes (R118). -/
def Lg32.ofBytes (b : List Byte) : Lg32 :=
  let fl := fieldAt b 40 4
  ⟨fieldAt b 0 40, bit fl 0, bit fl 1, bit fl 2, bit fl 3, fieldAt b 48 8⟩

def Lg32.toBytes (x : Lg32) : List Byte :=
  leBytes 40 x.i ++ leBytes 4 (b2n x.nan + 2 * b2n x.pos + 4 * b2n x.neg + 8 * b2n x.cap) ++ leBytes 4 0 ++ leBytes 8 x.count ++ leBytes 8 0

/-- The LG64W word in 80 bytes (R118). -/
def Lgw.ofBytes (b : List Byte) : Lgw :=
  let fl := fieldAt b 66 1
  ⟨fieldAt b 0 64, sint 16 (fieldAt b 64 2), bit fl 0, bit fl 1, bit fl 2, bit fl 3, bit fl 4, bit fl 5, bit fl 6,
    fieldAt b 67 1, fieldAt b 68 4⟩

def Lgw.flagByte (x : Lgw) : Nat :=
  b2n x.nan + 2 * b2n x.pos + 4 * b2n x.neg + 8 * b2n x.anchorSet + 16 * b2n x.above + 32 * b2n x.dropped + 64 * b2n x.cap

def Lgw.toBytes (x : Lgw) : List Byte :=
  leBytes 64 x.w ++ leBytes 2 (unsint 16 x.anchor) ++ leBytes 1 x.flagByte ++ leBytes 1 x.phase ++ leBytes 4 x.count ++ leBytes 8 0

/-- LG32 accumulation of an integer multiple of 2^−149 (R114). -/
def Lg32.addInt (x : Lg32) (a : Int) : Lg32 :=
  { x with i := unsint 320 ((x.i : Int) + a), cap := x.cap || decide (2 ^ 32 ≤ x.count), count := satAdd 64 x.count 1 }

/-- LG32 accumulation of one addend (R114, R119): specials set flags; every addend counts. -/
def Lg32.add (x : Lg32) (v : Fv) : Lg32 :=
  match v with
  | .nan => { x.addInt 0 with nan := true }
  | .inf s => if s then { x.addInt 0 with neg := true } else { x.addInt 0 with pos := true }
  | .fin s m e => x.addInt (truncDown s m e (-149)).1

/-- LG32 read-out as an exact value (R115): a zero reads as +0. -/
def Lg32.value (x : Lg32) : Fv :=
  if x.nan || x.cap || (x.pos && x.neg) then .nan
  else if x.pos then .inf false
  else if x.neg then .inf true
  else let i := sint 320 x.i; .fin (decide (i < 0)) i.natAbs (-149)

/-- LG32 read-out rounded once with RNE, SAT = 0 (R115). -/
def Lg32.readOut (f : Fmt) (x : Lg32) : Nat × Nat := f.round .rne false x.value

/-- Pass 1 of R116: the anchor is the largest floor(log2 |x|); specials set flags. -/
def Lgw.pass1 (x : Lgw) (v : Fv) : Lgw :=
  match v with
  | .nan => { x with nan := true }
  | .inf s => if s then { x with neg := true } else { x with pos := true }
  | .fin _ m e =>
    if m = 0 then x
    else if x.anchorSet && decide (finLog2 m e ≤ x.anchor) then x
    else { x with anchor := finLog2 m e, anchorSet := true }

/-- The start of pass 2 (R153, R355): PHASE 1, WINDOW and COUNT zero, ANCHOR and flags kept. -/
def Lgw.setPhase (x : Lgw) : Lgw := { x with phase := 1, w := 0, count := 0 }

/-- Add an integer into the window. -/
def Lgw.addW (x : Lgw) (t : Int) (drop : Bool) : Lgw :=
  { x with w := unsint 512 ((x.w : Int) + t), dropped := x.dropped || drop }

/-- Pass 2 of R116: every addend counts; CAP past 2^24; ABOVE and DROPPED as the rule says. -/
def Lgw.pass2 (x : Lgw) (v : Fv) : Lgw :=
  let y := { x with cap := x.cap || decide (2 ^ 24 ≤ x.count), count := satAdd 32 x.count 1 }
  match v with
  | .nan => { y with nan := true }
  | .inf s => if s then { y with neg := true } else { y with pos := true }
  | .fin s m e =>
    if m = 0 then y
    else if !x.anchorSet || decide (x.anchor < finLog2 m e) then { y with above := true }
    else let (t, d) := truncDown s m e (x.anchor - 486); y.addW t d

/-- LG64W read-out as an exact value (R117). -/
def Lgw.value (x : Lgw) : Fv :=
  if x.nan || x.cap || x.above || (x.pos && x.neg) then .nan
  else if x.pos then .inf false
  else if x.neg then .inf true
  else let i := sint 512 x.w; .fin (decide (i < 0)) i.natAbs (x.anchor - 486)

/-- LG64W read-out rounded once to FP64 with RNE (R117). -/
def Lgw.readOut (x : Lgw) : Nat × Nat := fmtF64.round .rne false x.value

end Sys2Proof.Machine
end

