-- ==== Sys2Proof/Machine/Codes.lean ====
section
/-! DEFINITION. The status and event codes and their classes, each from the code table of the chapter that owns it (R16, R84, R134, R175, R219, R243, R254, R297, R334, R381, R432, R467, R498, R516, R527, R569, R593, R622). Classes by number (R516): 0 Frame load rejected, 1 Command rejected, 2 Command fault, 3 Timing, 4 Fabric, 5 Hardware fault, 6 Service, 7 Frame. -/
namespace Sys2Proof.Machine

/-- A tick arrives while the frame is RUNNING (R62) -/
def C.FRAME_OVERRUN : Nat := 0x0201
/-- A command starts after its release offset (R68) -/
def C.RELEASE_SLIP : Nat := 0x0202
/-- The dark interval is shortened or skipped (R59, R61, R63) -/
def C.DARK_SKIPPED : Nat := 0x0203
/-- A frame starts after its tick because a dark piece was running (R61) -/
def C.FRAME_LATE_START : Nat := 0x0204
/-- No tick for 2 × GST_PERIOD (R49) -/
def C.GST_TIMEOUT : Nat := 0x0205
/-- A standby root has taken over (R50) -/
def C.GST_ROOT_CHANGE : Nat := 0x0206
/-- PENDING would exceed 4 (R65) -/
def C.STEP_BACKLOG : Nat := 0x0207
/-- A tick with a lower index than expected is ignored (R45) -/
def C.GST_STALE : Nat := 0x0208
/-- Rate discipline lost (R48) -/
def C.GST_UNLOCKED : Nat := 0x0209
/-- The close cycle differs from EXPECT with no retry, slip or CLOSE_OUTSIDE (R82) -/
def C.CLOSE_DEVIATION : Nat := 0x020A
/-- The close was set by a completion outside the promise (R81) -/
def C.CLOSE_OUTSIDE : Nat := 0x020B
/-- Format pair not accepted (R92) -/
def C.MXA_FMT_PAIR : Nat := 0x0301
/-- Operand out of range, or M × w above 4,096 (R93) -/
def C.MXA_SHAPE : Nat := 0x0302
/-- Operand range extends past the SPM (R93) -/
def C.MXA_SPM_RANGE : Nat := 0x0303
/-- Array spares exhausted (R132) -/
def C.MXA_DEGRADED : Nat := 0x0304
/-- Column residue mismatch (R131) -/
def C.MXA_CHECK : Nat := 0x0305
/-- Double-bit ACF error (R106) -/
def C.MXA_ACF_UNCORRECTABLE : Nat := 0x0306
/-- A spare row or column was brought in (R130) -/
def C.ARRAY_SPARE_USED : Nat := 0x0310
/-- R132 -/
def C.ARRAY_SPARES_EXHAUSTED : Nat := 0x0311
/-- Chain descriptor or stage entry invalid (R159) -/
def C.SXE_CHAIN_FMT : Nat := 0x0401
/-- Stream descriptor invalid (R144) -/
def C.SXE_STREAM : Nat := 0x0402
/-- A range extends past the SPM (R159) -/
def C.SXE_SPM_RANGE : Nat := 0x0403
/-- Written range overlaps another range (R146) -/
def C.SXE_OVERLAP : Nat := 0x0404
/-- Command operand out of range (R159) -/
def C.SXE_SHAPE : Nat := 0x0405
/-- Ledger word in the wrong phase (R155) -/
def C.SXE_LEDGER_PHASE : Nat := 0x0406
/-- A trapped flag was raised (R162) -/
def C.SXE_FP_TRAP : Nat := 0x0407
/-- Bank budget exceeded (R182) -/
def C.SPM_BANK_OVERLOAD : Nat := 0x0501
/-- Double-bit or poisoned read (R184, R188) -/
def C.SPM_UNCORRECTABLE : Nat := 0x0502
/-- Two writes to one byte in one window (R181) -/
def C.SPM_WRITE_COLLISION : Nat := 0x0503
/-- SPM spares exhausted (R189) -/
def C.SPM_DEGRADED : Nat := 0x0504
/-- A spare bank was brought in (R187) -/
def C.SPM_SPARE_USED : Nat := 0x0510
/-- R189 -/
def C.SPM_SPARES_EXHAUSTED : Nat := 0x0511
/-- Descriptor invalid (R195) -/
def C.MOV_DESC : Nat := 0x0520
/-- Source and destination overlap (R196) -/
def C.MOV_OVERLAP : Nat := 0x0521
/-- Address outside R35 or above installed capacity (R197) -/
def C.MOV_ADDR : Nat := 0x0522
/-- No owned slot on a needed link direction or pseudo-channel (R211, R624) -/
def C.MOV_NO_SLOT : Nat := 0x0523
/-- Check value differs (R201, R204) -/
def C.MOV_CV_MISMATCH : Nat := 0x0524
/-- Fourth failed retransmission (R215) -/
def C.MOV_RETRY_EXHAUSTED : Nat := 0x0525
/-- A retry was made (R215) -/
def C.MOV_RETRY : Nat := 0x0526
/-- Slot table names a requester not at the link (R210) -/
def C.SLINK_PLAN_INVALID : Nat := 0x0530
/-- A command faulted, or the frame was aborted (R244) -/
def C.FRAME_FAILED : Nat := 0x0601
/-- Opcode not listed (R222, R251) -/
def C.CMD_OPCODE : Nat := 0x0602
/-- Header or section invalid (R237) -/
def C.FRAME_IMAGE_INVALID : Nat := 0x0603
/-- R224 broken for order or sharing -/
def C.FRAME_ORDER : Nat := 0x0604
/-- R55 broken (R237, R238) -/
def C.FRAME_RANGE : Nat := 0x0605
/-- Dependency invalid (R237) -/
def C.FRAME_DEP_INVALID : Nat := 0x0606
/-- A unit rejected a command (R237) -/
def C.FRAME_CMD_REJECTED : Nat := 0x0607
/-- Named resource absent or down (R80, R237) -/
def C.FRAME_PLAN_RESOURCE : Nat := 0x0608
/-- Management load in a wrong state (R239) -/
def C.FRAME_LOAD_STATE : Nat := 0x0609
/-- PLAN_IDs differ at cycle 0 (R242) -/
def C.FRAME_PLAN_MISMATCH : Nat := 0x060A
/-- Fault after the commit point (R244) -/
def C.FRAME_UNRERUNNABLE : Nat := 0x060B
/-- RERUN_MAX reached (R244) -/
def C.FRAME_RERUN_EXHAUSTED : Nat := 0x060C
/-- R249, R250 -/
def C.FRAME_ABORTED : Nat := 0x060D
/-- A rerun frame started (R246) -/
def C.FRAME_RERUN : Nat := 0x060E
/-- QSWITCH with no valid next bank (R241) -/
def C.QSWITCH_REFUSED : Nat := 0x060F
/-- A signal counter saturated (R230) -/
def C.SIGNAL_SATURATED : Nat := 0x0610
/-- Convergence (R274, R280, R282) -/
def C.SOLVED : Nat := 0x0701
/-- Budget reached with an iterate (R286) -/
def C.DEADLINE : Nat := 0x0702
/-- Budget reached with no iterate (R286) -/
def C.DEADLINE_NO_ITERATE : Nat := 0x0703
/-- ITER_CAP iterations without another outcome (R287) -/
def C.ITER_CAP : Nat := 0x0704
/-- Refinement cap reached (R274) -/
def C.REFINE_CAP : Nat := 0x0705
/-- Residual not halved (R274) -/
def C.REFINE_STALLED : Nat := 0x0706
/-- R272, R282 -/
def C.PRIMAL_INFEASIBLE : Nat := 0x0707
/-- R282 -/
def C.DUAL_INFEASIBLE : Nat := 0x0708
/-- NAN mode pivot (R278) -/
def C.PIVOT_NAN : Nat := 0x0709
/-- R272 -/
def C.INPUT_NOT_FINITE : Nat := 0x070A
/-- First flagged pivot of a problem (R276) -/
def C.SVE_PIVOT_TINY : Nat := 0x0710
/-- R290 -/
def C.SVE_WARM_REJECTED : Nat := 0x0711
/-- Completion after start + DEADLINE − 1 (R288) -/
def C.SVE_LATE_RESULT : Nat := 0x0712
/-- Descriptor invalid (R262, R266) -/
def C.SVE_DESC : Nat := 0x0720
/-- Header or entry invalid (R262) -/
def C.SVE_SCHED_INVALID : Nat := 0x0721
/-- Load in a wrong state (R256) -/
def C.SVE_LOAD_STATE : Nat := 0x0722
/-- R272 -/
def C.SVE_MATRIX_FORMAT : Nat := 0x0723
/-- R272 -/
def C.SVE_FACTOR_SIZE : Nat := 0x0724
/-- R296 -/
def C.SVE_SRAM_UNCORRECTABLE : Nat := 0x0725
/-- An operand address is unmapped or above installed capacity (R36), or a transfer would need a T1 slot that the active plan does not give the SVE's channel (R624) -/
def C.SVE_ADDR : Nat := 0x0726
/-- Pinned mode ended before CDONE (R326) -/
def C.CORE_PIN_BREAK : Nat := 0x0801
/-- Core clock stepped (R327) -/
def C.CORE_CLOCK_STEP : Nat := 0x0802
/-- CDONE with non-zero status (R322) -/
def C.CORE_SEGMENT_FAILED : Nat := 0x0803
/-- Uncorrectable core error (R328) -/
def C.CORE_MACHINE_CHECK : Nat := 0x0804
/-- Read of a poisoned local-store line (R329) -/
def C.CORE_POISON : Nat := 0x0805
/-- Entry names an absent core (R330) -/
def C.CORE_ABSENT : Nat := 0x0806
/-- Core table header or entry invalid (R320) -/
def C.CORE_TABLE_INVALID : Nat := 0x0807
/-- CORE_LOAD or PIN_CFG in a wrong state (R320) -/
def C.CORE_LOAD_STATE : Nat := 0x0808
/-- Ledger word in the wrong phase (R315) -/
def C.CORE_LEDGER_PHASE : Nat := 0x0809
/-- A spare core was brought in (R329) -/
def C.CORE_SPARE_USED : Nat := 0x0810
/-- R330 -/
def C.CORE_SPARES_EXHAUSTED : Nat := 0x0811
/-- R346, order 1 -/
def C.HBM_SECTION_INVALID : Nat := 0x0901
/-- G above 60 (R339) -/
def C.HBM_REFRESH_SPACING : Nat := 0x0902
/-- R346, order 3; R360 -/
def C.HBM_RANGE_INVALID : Nat := 0x0903
/-- P-die mover table or descriptor invalid (R369) -/
def C.PMOV_TABLE_INVALID : Nat := 0x0904
/-- PMOV_LOAD in a wrong state (R368) -/
def C.PMOV_LOAD_STATE : Nat := 0x0905
/-- R362, R365 -/
def C.T1_UNCORRECTABLE : Nat := 0x0910
/-- Addend in the wrong phase (R355) -/
def C.ADDER_LEDGER_PHASE : Nat := 0x0911
/-- Element partly written (R356) -/
def C.ADDER_ALIGN : Nat := 0x0912
/-- R371 -/
def C.T2_UNCORRECTABLE : Nat := 0x0913
/-- Poisoned or timed-out CXL response (R372) -/
def C.T3_ERROR : Nat := 0x0914
/-- A re-read was made (R362) -/
def C.T1_ECC_REREAD : Nat := 0x0920
/-- The arithmetic-clock level changed (R376) -/
def C.ACLK_STEP : Nat := 0x0921
/-- No headroom at the lowest level (R376) -/
def C.THERMAL_FLOOR : Nat := 0x0922
/-- A retirement copy began (R364) -/
def C.HBM_RETIRE_STARTED : Nat := 0x0930
/-- A reserve took over a logical pseudo-channel (R364, R365) -/
def C.HBM_RESERVE_USED : Nat := 0x0931
/-- Capacity event (R366) -/
def C.HBM_MAPPED_OUT : Nat := 0x0932
/-- Usable T1 below 300 GB (R367) -/
def C.T1_REMOVE_REQUEST : Nat := 0x0933
/-- Arithmetic clock stopped (R377) -/
def C.THERMAL_TRIP : Nat := 0x0934
/-- Destination in another site, on this package, not in the node list, or with an empty route entry (R391, R399) -/
def C.FAB_NODE_UNREACHABLE : Nat := 0x0A01
/-- No answer after 3 retransmissions (R411) -/
def C.FAB_RETRY_EXHAUSTED : Nat := 0x0A02
/-- Region invalid, out of range or not permitted (R402, R403) -/
def C.FAB_REGION : Nat := 0x0A03
/-- Key mismatch (R403) -/
def C.FAB_KEY : Nat := 0x0A04
/-- ADD outside an ADDER range, or atomic inside one (R403) -/
def C.FAB_NOT_ADDER : Nat := 0x0A05
/-- Write or RELEASE by a non-holder (R403, R413) -/
def C.FAB_NOT_OWNER : Nat := 0x0A06
/-- ACQUIRE queue full (R412) -/
def C.FAB_TOKEN_BUSY : Nat := 0x0A07
/-- The target's access faulted (R403) -/
def C.FAB_TARGET_ERROR : Nat := 0x0A08
/-- End-to-end retransmission (R411) -/
def C.FAB_RETRANSMIT : Nat := 0x0A20
/-- Link replay (R385) -/
def C.FAB_LINK_REPLAY : Nat := 0x0A21
/-- Port went DOWN (R386, R401) -/
def C.FAB_PORT_DOWN : Nat := 0x0A22
/-- Port returned UP (R386) -/
def C.FAB_PORT_UP : Nat := 0x0A23
/-- A level's VC stalled for SAT_NS (R424) -/
def C.FAB_LEVEL_SATURATED : Nat := 0x0A24
/-- IN transfer from an earlier step (R419) -/
def C.FAB_STALE_STEP : Nat := 0x0A25
/-- First refusal of a code in a frame, at the target (R403) -/
def C.FAB_REFUSED : Nat := 0x0A26
/-- IN transfer from two or more steps ahead, dropped (R419) -/
def C.FAB_EARLY_STEP : Nat := 0x0A27
/-- Spare lane brought in (R386) -/
def C.FAB_LANE_SPARED : Nat := 0x0A30
/-- Port FAILED (R386) -/
def C.FAB_PORT_FAILED : Nat := 0x0A31
/-- Record malformed or digest wrong (R427) -/
def C.FAB_SETUP_INVALID : Nat := 0x0A40
/-- Neighbour map differs (R427) -/
def C.FAB_SETUP_STALE : Nat := 0x0A41
/-- DISCOVER, APPLY or SAVE refused (R426 to R428) -/
def C.FAB_SETUP_STATE : Nat := 0x0A42
/-- Table entry invalid (R427, R431) -/
def C.FAB_TABLE_INVALID : Nat := 0x0A43
/-- Record layout invalid (R439, R446) -/
def C.COLL_DESC : Nat := 0x0B01
/-- A transfer of the operation was NACKed or exhausted its retries (R459) -/
def C.COLL_FAILED : Nat := 0x0B02
/-- A chunk spilled to endpoint reduction (R457) -/
def C.COLL_SPILLED : Nat := 0x0B10
/-- An operation was in progress at cycle 0 (R444) -/
def C.COLL_FRAME_CROSS : Nat := 0x0B11
/-- A broadcast completed without every member (R463) -/
def C.BCAST_PARTIAL : Nat := 0x0B12
/-- A broadcast child was declared failed (R462) -/
def C.BCAST_MEMBER_LOST : Nat := 0x0B13
/-- TOT image invalid (R440) -/
def C.TOT_TABLE_INVALID : Nat := 0x0B20
/-- TOT_LOAD in a wrong state (R440) -/
def C.TOT_LOAD_STATE : Nat := 0x0B21
/-- Operation or register write refused while busy or unpaired (R482, R497) -/
def C.CKPT_BUSY : Nat := 0x0C01
/-- Shard list invalid (R482) -/
def C.CKPT_LIST_INVALID : Nat := 0x0C02
/-- Records exceed an area (R482) -/
def C.CKPT_CAPACITY : Nat := 0x0C03
/-- R482, R492 -/
def C.CKPT_LOSSY_REFUSED : Nat := 0x0C04
/-- A SAVE committed (R483) -/
def C.CKPT_COMMITTED : Nat := 0x0C10
/-- R484 -/
def C.CKPT_ABANDONED : Nat := 0x0C11
/-- A RESTORE entry failed (R489) -/
def C.CKPT_RESTORE_PARTIAL : Nat := 0x0C12
/-- Shard, job or plan not in the slot (R489) -/
def C.CKPT_NOT_FOUND : Nat := 0x0C13
/-- Block CRC-64 differs (R489) -/
def C.CKPT_BLOCK_MISMATCH : Nat := 0x0C14
/-- SHA3-512 digest differs (R489) -/
def C.CKPT_DIGEST_MISMATCH : Nat := 0x0C15
/-- Slot not valid (R486, R489) -/
def C.CKPT_SIGNATURE_INVALID : Nat := 0x0C16
/-- No DRAINED progress (R484) -/
def C.CKPT_BUDDY_LOST : Nat := 0x0C20
/-- Chunk from a wrong origin or SEQ (R480) -/
def C.CKPT_MIRROR_REFUSED : Nat := 0x0C21
/-- A CSM command failed (R484) -/
def C.CKPT_CSM_ERROR : Nat := 0x0C30
/-- A fabric or collective dependency met after its release offset (R519) -/
def C.LATE_ARRIVAL : Nat := 0x0D01
/-- A frame not captured because the buffer was unwritten (R512) -/
def C.EXPOSURE_SKIPPED : Nat := 0x0D02
/-- Alert only; the first report lost for want of room (R522) -/
def C.JOURNAL_FULL : Nat := 0x0D03
/-- ARM for a step already reached, or NOW in a running state (R503, R506) -/
def C.CS_STEP_PAST : Nat := 0x0D10
/-- MEASURE while GST_DISC.LOCKED is 0 (R508) -/
def C.TB_NOT_LOCKED : Nat := 0x0D11
/-- Exposure configuration refused (R510) -/
def C.EXP_CONFIG_INVALID : Nat := 0x0D12
/-- A probe unanswered 3 times (R509) -/
def C.TB_PROBE_TIMEOUT : Nat := 0x0D20
/-- NVM or counter page unreadable (R534, R536) -/
def C.BOOT_NVM_READ : Nat := 0x0E01
/-- Firmware signature fails (R534) -/
def C.BOOT_FW_SIGNATURE : Nat := 0x0E02
/-- SVN below FUSE_SVN (R534) -/
def C.BOOT_FW_ROLLBACK : Nat := 0x0E03
/-- Owner or configuration signature fails (R534, R537) -/
def C.BOOT_CONFIG_SIGNATURE : Nat := 0x0E04
/-- R533 broken -/
def C.BOOT_CONFIG_INVALID : Nat := 0x0E05
/-- Certificate or service record fails (R534) -/
def C.BOOT_SERVICE_INVALID : Nat := 0x0E06
/-- Unrepairable start self-test or training failure (R534) -/
def C.BOOT_SELFTEST : Nat := 0x0E07
/-- No start complete within 30 s (R535) -/
def C.BOOT_TIMEOUT : Nat := 0x0E08
/-- PWROK dropped during a start (R535) -/
def C.BOOT_RESET_IN_START : Nat := 0x0E09
/-- DR_BEGIN signature fails (R540) -/
def C.DR_AUTH_INVALID : Nat := 0x0E10
/-- Image digest differs (R540) -/
def C.DR_IMAGE_MISMATCH : Nat := 0x0E11
/-- Written image fails stage 2 or 3 (R540) -/
def C.DR_IMAGE_INVALID : Nat := 0x0E12
/-- Request out of order (R540) -/
def C.DR_SEQUENCE : Nat := 0x0E13
/-- R539, R558 -/
def C.TELLER_OP : Nat := 0x0E20
/-- R558 -/
def C.TELLER_NO_SESSION : Nat := 0x0E21
/-- R558 -/
def C.TELLER_TAG : Nat := 0x0E22
/-- R558, R559 -/
def C.TELLER_COUNTER : Nat := 0x0E23
/-- R558 -/
def C.TELLER_RIGHTS : Nat := 0x0E24
/-- R9, R558, R623 -/
def C.TELLER_ALIGN : Nat := 0x0E25
/-- R548, R558 -/
def C.TELLER_PARTITION : Nat := 0x0E26
/-- R558, R566 -/
def C.TELLER_NEED_CRITICAL : Nat := 0x0E27
/-- R558 -/
def C.TELLER_NOT_CRITICAL : Nat := 0x0E28
/-- R540, R562 -/
def C.TELLER_BUSY : Nat := 0x0E29
/-- R557 -/
def C.TELLER_HOST_KEY : Nat := 0x0E2A
/-- R562 -/
def C.TELLER_UPDATE_INVALID : Nat := 0x0E2B
/-- R557 -/
def C.SESSION_OPENED : Nat := 0x0E30
/-- R560 -/
def C.CRITICAL_DONE : Nat := 0x0E31
/-- A bring-in or retirement is already in progress (R576, R583) -/
def C.SPARE_BUSY : Nat := 0x0F01
/-- No spare of the kind is left (R576) -/
def C.SPARE_NONE : Nat := 0x0F02
/-- Request refused in a running state (R588) -/
def C.SPARE_STATE : Nat := 0x0F03
/-- A retirement rolled back at start (R584) -/
def C.HBM_RETIRE_ROLLED_BACK : Nat := 0x0F04
/-- A Slot Link repair lane was brought in (R577) -/
def C.SLINK_LANE_SPARED : Nat := 0x0F05
/-- A spare reduction slot was brought in (R578) -/
def C.RE_SLOT_SPARED : Nat := 0x0F06
/-- A spare laser channel was brought in (R579) -/
def C.LASER_SPARED : Nat := 0x0F07
/-- A CAL_WRITE completed (R586) -/
def C.CAL_WRITTEN : Nat := 0x0F08
/-- A self-test found a fault (R582) -/
def C.SELFTEST_FAILED : Nat := 0x0F10
/-- A module has no repair lane left (R577) -/
def C.SLINK_SPARES_EXHAUSTED : Nat := 0x0F11
/-- No spare scalar slot is left (R578) -/
def C.RE_SPARES_EXHAUSTED : Nat := 0x0F12
/-- No valid calibration set at start (R587) -/
def C.CAL_INVALID : Nat := 0x0F13
/-- A laser source command failed 3 times (R616) -/
def C.LSC_LINK_LOST : Nat := 0x1001
/-- A lost laser channel has no spare in the source (R616) -/
def C.LASER_SPARES_EXHAUSTED : Nat := 0x1002

/-- The class of a code (R243, R516): the first class its table gives. -/
def classOf (c : Nat) : Nat :=
  if [0x0530, 0x0603, 0x0604, 0x0605, 0x0606, 0x0607, 0x0608, 0x0609, 0x060F, 0x0720, 0x0721, 0x0722, 0x0807, 0x0808, 0x0901, 0x0902, 0x0903, 0x0904, 0x0905, 0x0A40, 0x0A41, 0x0A42, 0x0A43, 0x0B20, 0x0B21, 0x0C01, 0x0C02, 0x0C03, 0x0C04, 0x0D10, 0x0D11, 0x0D12].contains c then 0 else
  if [0x0301, 0x0302, 0x0303, 0x0304, 0x0401, 0x0402, 0x0403, 0x0404, 0x0405, 0x0504, 0x0520, 0x0521, 0x0522, 0x0523, 0x0602, 0x0A01, 0x0B01].contains c then 1 else
  if [0x0201, 0x0202, 0x0203, 0x0204, 0x0207, 0x020B, 0x0503, 0x0526, 0x0610, 0x0702, 0x0703, 0x0712, 0x0801, 0x0802, 0x0920, 0x0921, 0x0922, 0x0B10, 0x0B11, 0x0D01].contains c then 3 else
  if [0x0205, 0x0206, 0x0208, 0x0209, 0x0A07, 0x0A20, 0x0A21, 0x0A22, 0x0A23, 0x0A24, 0x0A25, 0x0A26, 0x0A27, 0x0B12, 0x0B13, 0x0C20, 0x0C21, 0x0D20].contains c then 4 else
  if [0x020A, 0x0311, 0x0511, 0x0811, 0x0932, 0x0933, 0x0934, 0x0A31, 0x0C30, 0x0E01, 0x0E02, 0x0E03, 0x0E04, 0x0E05, 0x0E06, 0x0E07, 0x0E08, 0x0E09, 0x0F10, 0x0F11, 0x0F12, 0x0F13, 0x1001, 0x1002].contains c then 5 else
  if [0x0310, 0x0510, 0x0701, 0x0704, 0x0705, 0x0706, 0x0707, 0x0708, 0x0709, 0x070A, 0x0710, 0x0711, 0x0809, 0x0810, 0x0930, 0x0931, 0x0A30, 0x0C10, 0x0C11, 0x0C12, 0x0C13, 0x0C14, 0x0C15, 0x0C16, 0x0D02, 0x0D03, 0x0E10, 0x0E11, 0x0E12, 0x0E13, 0x0E20, 0x0E21, 0x0E22, 0x0E23, 0x0E24, 0x0E25, 0x0E26, 0x0E27, 0x0E28, 0x0E29, 0x0E2A, 0x0E2B, 0x0E30, 0x0E31, 0x0F01, 0x0F02, 0x0F03, 0x0F04, 0x0F05, 0x0F06, 0x0F07, 0x0F08].contains c then 6 else
  if [0x0601, 0x060A, 0x060B, 0x060C, 0x060E].contains c then 7 else
  2

end Sys2Proof.Machine
end

