-- ==== Sys2Proof/Machine/Store.lean ====
section
/-! DEFINITION. Reading and writing a sparse store: a list of (key, value) pairs, keys strictly rising, no pair holding what an unlisted key reads as. -/
namespace Sys2Proof

/-- What key `k` reads as; `d` is what an unlisted key reads as. -/
def Assoc.get {α : Type} (m : Assoc α) (k : Nat) (d : α) : α :=
  match m with
  | [] => d
  | (k', v) :: r => if k' = k then v else Assoc.get r k d

/-- The store with a pair for `k` before the first larger key. -/
def Assoc.add {α : Type} (m : Assoc α) (k : Nat) (v : α) : Assoc α :=
  match m with
  | [] => [(k, v)]
  | (k', v') :: r => if k < k' then (k, v) :: (k', v') :: r else (k', v') :: Assoc.add r k v

/-- The store without key `k`. -/
def Assoc.drop {α : Type} (m : Assoc α) (k : Nat) : Assoc α := m.filter (fun x => x.1 != k)

/-- The store with `v` at key `k`; a value equal to the default takes the pair out, so equal contents are equal lists. -/
def Assoc.put {α : Type} [DecidableEq α] (m : Assoc α) (k : Nat) (v d : α) : Assoc α :=
  if v = d then m.drop k else (m.drop k).add k v

/-- Every key of `m` is above `lo`, keys rise strictly, and no pair holds the value `d` gives for its key. -/
def Assoc.wfFrom {α : Type} [DecidableEq α] (d : Nat → α) : Nat → Assoc α → Bool
  | _, [] => true
  | lo, (k, v) :: r => decide (lo ≤ k) && decide (v ≠ d k) && Assoc.wfFrom d (k + 1) r

/-- The canonical form of a store whose unlisted key `k` reads as `d k`. -/
def Assoc.wf {α : Type} [DecidableEq α] (d : Nat → α) (m : Assoc α) : Bool := Assoc.wfFrom d 0 m

/-- Keys rise strictly, from `lo` on. -/
def Assoc.sortedFrom {α : Type} : Nat → Assoc α → Bool
  | _, [] => true
  | lo, (k, _) :: r => decide (lo ≤ k) && Assoc.sortedFrom (k + 1) r

/-- Keys rise strictly. -/
def Assoc.sorted {α : Type} (m : Assoc α) : Bool := Assoc.sortedFrom 0 m

end Sys2Proof
end

