-- ==== Sys2Proof/Machine/Regs.lean ====
section
/-! DEFINITION. The management registers: one handle `F.<REGISTER>_<FIELD>` per field of the spec's field maps (address, low bit, width and reset value), one descriptor `D.<REGISTER>` per register, and the decoding of a management address (R5, R11, R33, R66, R133, R174, R217, R218, R253, R295, R333, R380, R431, R466, R497, R526, R567, R568, R592, R623). -/
namespace Sys2Proof.Machine

/-- A register field: its key in the field store (64 × address + low bit), its width and its reset value (R14). -/
structure Fld where
  key : Nat
  width : Nat
  reset : Nat
deriving DecidableEq, Repr

/-- Access codes (R11). -/
inductive Acc where
  | ro | rw | w1c | w1s | wo | rwl
deriving DecidableEq, Repr

/-- A field of a register: its handle, low bit, access code, and the values a write may set (R15): from `min` to `max`, multiples of `align`. -/
structure FieldD where
  f : Fld
  lo : Nat
  acc : Acc
  min : Nat
  max : Nat
  align : Nat
deriving DecidableEq, Repr

/-- A register: whether a write during a running frame waits for its close (R39), and its fields. -/
structure RegD where
  deferred : Bool
  fields : List FieldD
deriving DecidableEq, Repr

/-- Base address of A-die `n` (R623). -/
@[reducible] def aDieBase (n : Nat) : Nat := 0x1000000000 + n * 0x100000000

/-- Base of the Slot Link endpoint registers: ends 0 to 3 are A0 to A3, 4 the P-die, 5 the F-die (R217, R218). -/
@[reducible] def slinkBase (e : Nat) : Nat :=
  if e < 4 then aDieBase e + 0xC0000 else if e = 4 then 0x2000050000 else 0x30000C0000

/-- Base of the event counters: dies 0 to 3 are A0 to A3, 4 the P-die, 5 the F-die (R526). -/
@[reducible] def cntBase (e : Nat) : Nat :=
  if e < 4 then aDieBase e + 0xD0000 else if e = 4 then 0x2000060000 else 0x30000B0000

/-- The level code of optical port `p` as PORT_STATUS shows it (R382, R431): 1 for G00–G19, 2 for G20–G27, 3 for G28–G31. -/
@[reducible] def portLevelOf (p : Nat) : Nat := if p < 20 then 1 else if p < 28 then 2 else 3

/-! PKG_ID (R5). -/
@[reducible] def F.PKG_ID_VENDOR : Fld := ⟨0x0 * 64 + 48, 16, 0x535A⟩
@[reducible] def F.PKG_ID_PART : Fld := ⟨0x0 * 64 + 32, 16, 0x0A04⟩
@[reducible] def F.PKG_ID_GRADE : Fld := ⟨0x0 * 64 + 28, 4, 1⟩
@[reducible] def F.PKG_ID_STEPPING : Fld := ⟨0x0 * 64 + 24, 4, 1⟩
@[reducible] def F.PKG_ID_ACLK_NOM : Fld := ⟨0x0 * 64 + 16, 8, 0x82⟩
/-! GST_CTRL (R66). -/
@[reducible] def F.GST_CTRL_OVR_POLICY (p : Nat) : Fld := ⟨(0x3000070000 + p * 0x100 + 0x0) * 64 + 3, 2, 0x0⟩
@[reducible] def F.GST_CTRL_ENABLE (p : Nat) : Fld := ⟨(0x3000070000 + p * 0x100 + 0x0) * 64 + 2, 1, 0⟩
@[reducible] def F.GST_CTRL_ROLE (p : Nat) : Fld := ⟨(0x3000070000 + p * 0x100 + 0x0) * 64 + 0, 2, 0x0⟩
/-! GST_PERIOD (R66). -/
@[reducible] def F.GST_PERIOD_PERIOD_NS (p : Nat) : Fld := ⟨(0x3000070000 + p * 0x100 + 0x8) * 64 + 0, 32, 0x00000000⟩
/-! GST_STEP (R66). -/
@[reducible] def F.GST_STEP_PENDING (p : Nat) : Fld := ⟨(0x3000070000 + p * 0x100 + 0x10) * 64 + 32, 3, 0x0⟩
@[reducible] def F.GST_STEP_STEP (p : Nat) : Fld := ⟨(0x3000070000 + p * 0x100 + 0x10) * 64 + 0, 32, 0x00000000⟩
/-! GST_NS (R66). -/
@[reducible] def F.GST_NS_NS (p : Nat) : Fld := ⟨(0x3000070000 + p * 0x100 + 0x18) * 64 + 0, 64, 0⟩
/-! GST_TICK_NS (R66). -/
@[reducible] def F.GST_TICK_NS_ARRIVAL (p : Nat) : Fld := ⟨(0x3000070000 + p * 0x100 + 0x20) * 64 + 0, 64, 0⟩
/-! GST_DISC (R66). -/
@[reducible] def F.GST_DISC_RATE_ADJ (p : Nat) : Fld := ⟨(0x3000070000 + p * 0x100 + 0x28) * 64 + 16, 32, 0⟩
@[reducible] def F.GST_DISC_LOCKED (p : Nat) : Fld := ⟨(0x3000070000 + p * 0x100 + 0x28) * 64 + 0, 1, 0⟩
/-! GST_ROOTS (R66). -/
@[reducible] def F.GST_ROOTS_ON_STANDBY (p : Nat) : Fld := ⟨(0x3000070000 + p * 0x100 + 0x30) * 64 + 63, 1, 0⟩
@[reducible] def F.GST_ROOTS_STANDBY_VALID (p : Nat) : Fld := ⟨(0x3000070000 + p * 0x100 + 0x30) * 64 + 60, 1, 0⟩
@[reducible] def F.GST_ROOTS_STANDBY (p : Nat) : Fld := ⟨(0x3000070000 + p * 0x100 + 0x30) * 64 + 32, 28, 0⟩
@[reducible] def F.GST_ROOTS_ROOT (p : Nat) : Fld := ⟨(0x3000070000 + p * 0x100 + 0x30) * 64 + 0, 28, 0⟩
/-! FRAME_LEN (R66). -/
@[reducible] def F.FRAME_LEN_DARK_LEN (p : Nat) : Fld := ⟨(0x3000070000 + p * 0x100 + 0x38) * 64 + 32, 32, 0x00000000⟩
@[reducible] def F.FRAME_LEN_LEN (p : Nat) : Fld := ⟨(0x3000070000 + p * 0x100 + 0x38) * 64 + 0, 32, 0x00000000⟩
/-! FRAME_EXPECT (R66). -/
@[reducible] def F.FRAME_EXPECT_EXPECT (p : Nat) : Fld := ⟨(0x3000070000 + p * 0x100 + 0x40) * 64 + 0, 32, 0x00000000⟩
/-! FRAME_STATUS (R66). -/
@[reducible] def F.FRAME_STATUS_FRAME_STEP (p : Nat) : Fld := ⟨(0x3000070000 + p * 0x100 + 0x48) * 64 + 32, 32, 0x00000000⟩
@[reducible] def F.FRAME_STATUS_BACKLOG (p : Nat) : Fld := ⟨(0x3000070000 + p * 0x100 + 0x48) * 64 + 7, 1, 0⟩
@[reducible] def F.FRAME_STATUS_DEVIATION (p : Nat) : Fld := ⟨(0x3000070000 + p * 0x100 + 0x48) * 64 + 6, 1, 0⟩
@[reducible] def F.FRAME_STATUS_LATE_START (p : Nat) : Fld := ⟨(0x3000070000 + p * 0x100 + 0x48) * 64 + 5, 1, 0⟩
@[reducible] def F.FRAME_STATUS_DARK_SKIPPED (p : Nat) : Fld := ⟨(0x3000070000 + p * 0x100 + 0x48) * 64 + 4, 1, 0⟩
@[reducible] def F.FRAME_STATUS_OVERRUN (p : Nat) : Fld := ⟨(0x3000070000 + p * 0x100 + 0x48) * 64 + 3, 1, 0⟩
@[reducible] def F.FRAME_STATUS_STATE (p : Nat) : Fld := ⟨(0x3000070000 + p * 0x100 + 0x48) * 64 + 0, 3, 0x0⟩
/-! FRAME_CLOSE (R66). -/
@[reducible] def F.FRAME_CLOSE_SLIP_CYCLES (p : Nat) : Fld := ⟨(0x3000070000 + p * 0x100 + 0x50) * 64 + 32, 32, 0x00000000⟩
@[reducible] def F.FRAME_CLOSE_CLOSE_CYCLE (p : Nat) : Fld := ⟨(0x3000070000 + p * 0x100 + 0x50) * 64 + 0, 32, 0x00000000⟩
/-! FRAME_RUN (R66). -/
@[reducible] def F.FRAME_RUN_RESUME (p : Nat) : Fld := ⟨(0x3000070000 + p * 0x100 + 0x58) * 64 + 0, 1, 0⟩
/-! MXA_CAP (R133). -/
@[reducible] def F.MXA_CAP_SPARE_COLS (n : Nat) : Fld := ⟨(aDieBase n + 0x20000) * 64 + 56, 4, 0x4⟩
@[reducible] def F.MXA_CAP_SPARE_ROWS (n : Nat) : Fld := ⟨(aDieBase n + 0x20000) * 64 + 48, 8, 0x08⟩
@[reducible] def F.MXA_CAP_ACF_ENTRIES (n : Nat) : Fld := ⟨(aDieBase n + 0x20000) * 64 + 32, 16, 0x1000⟩
@[reducible] def F.MXA_CAP_COLS (n : Nat) : Fld := ⟨(aDieBase n + 0x20000) * 64 + 16, 16, 0x0200⟩
@[reducible] def F.MXA_CAP_ROWS (n : Nat) : Fld := ⟨(aDieBase n + 0x20000) * 64 + 0, 16, 0x0400⟩
/-! MXA_STATUS (R133). -/
@[reducible] def F.MXA_STATUS_ACF_CORRECTED (n : Nat) : Fld := ⟨(aDieBase n + 0x20008) * 64 + 16, 1, 0⟩
@[reducible] def F.MXA_STATUS_LG_DROPPED (n : Nat) : Fld := ⟨(aDieBase n + 0x20008) * 64 + 15, 1, 0⟩
@[reducible] def F.MXA_STATUS_SLICE_ROUNDED (n : Nat) : Fld := ⟨(aDieBase n + 0x20008) * 64 + 14, 1, 0⟩
@[reducible] def F.MXA_STATUS_ACC_SAT (n : Nat) : Fld := ⟨(aDieBase n + 0x20008) * 64 + 13, 1, 0⟩
@[reducible] def F.MXA_STATUS_ACC_TRUNC (n : Nat) : Fld := ⟨(aDieBase n + 0x20008) * 64 + 12, 1, 0⟩
@[reducible] def F.MXA_STATUS_INEXACT (n : Nat) : Fld := ⟨(aDieBase n + 0x20008) * 64 + 11, 1, 0⟩
@[reducible] def F.MXA_STATUS_UNDERFLOW (n : Nat) : Fld := ⟨(aDieBase n + 0x20008) * 64 + 10, 1, 0⟩
@[reducible] def F.MXA_STATUS_OVERFLOW (n : Nat) : Fld := ⟨(aDieBase n + 0x20008) * 64 + 9, 1, 0⟩
@[reducible] def F.MXA_STATUS_INVALID (n : Nat) : Fld := ⟨(aDieBase n + 0x20008) * 64 + 8, 1, 0⟩
@[reducible] def F.MXA_STATUS_SHADOW_VALID (n : Nat) : Fld := ⟨(aDieBase n + 0x20008) * 64 + 3, 1, 0⟩
@[reducible] def F.MXA_STATUS_ACTIVE_PLANE (n : Nat) : Fld := ⟨(aDieBase n + 0x20008) * 64 + 2, 1, 0⟩
@[reducible] def F.MXA_STATUS_DEGRADED (n : Nat) : Fld := ⟨(aDieBase n + 0x20008) * 64 + 1, 1, 0⟩
@[reducible] def F.MXA_STATUS_BUSY (n : Nat) : Fld := ⟨(aDieBase n + 0x20008) * 64 + 0, 1, 0⟩
/-! MXA_SPARES (R133). -/
@[reducible] def F.MXA_SPARES_EXHAUSTED (n : Nat) : Fld := ⟨(aDieBase n + 0x20010) * 64 + 12, 1, 0⟩
@[reducible] def F.MXA_SPARES_COLS_IN_USE (n : Nat) : Fld := ⟨(aDieBase n + 0x20010) * 64 + 8, 4, 0⟩
@[reducible] def F.MXA_SPARES_ROWS_IN_USE (n : Nat) : Fld := ⟨(aDieBase n + 0x20010) * 64 + 0, 8, 0⟩
/-! MXA_ACF_ERR (R133). -/
@[reducible] def F.MXA_ACF_ERR_COUNT (n : Nat) : Fld := ⟨(aDieBase n + 0x20018) * 64 + 32, 16, 0x0000⟩
@[reducible] def F.MXA_ACF_ERR_COLUMN (n : Nat) : Fld := ⟨(aDieBase n + 0x20018) * 64 + 12, 9, 0⟩
@[reducible] def F.MXA_ACF_ERR_ENTRY (n : Nat) : Fld := ⟨(aDieBase n + 0x20018) * 64 + 0, 12, 0⟩
/-! SXE_CAP (R174). -/
@[reducible] def F.SXE_CAP_STAGES (n : Nat) : Fld := ⟨(aDieBase n + 0x30000) * 64 + 40, 8, 0x08⟩
@[reducible] def F.SXE_CAP_STREAMS (n : Nat) : Fld := ⟨(aDieBase n + 0x30000) * 64 + 32, 8, 0x10⟩
@[reducible] def F.SXE_CAP_SEG_LEN (n : Nat) : Fld := ⟨(aDieBase n + 0x30000) * 64 + 16, 16, 0x0800⟩
@[reducible] def F.SXE_CAP_LANES (n : Nat) : Fld := ⟨(aDieBase n + 0x30000) * 64 + 0, 16, 0x0100⟩
/-! SXE_STATUS (R174). -/
@[reducible] def F.SXE_STATUS_ACF_WAIT (n : Nat) : Fld := ⟨(aDieBase n + 0x30008) * 64 + 13, 1, 0⟩
@[reducible] def F.SXE_STATUS_DIVZERO (n : Nat) : Fld := ⟨(aDieBase n + 0x30008) * 64 + 12, 1, 0⟩
@[reducible] def F.SXE_STATUS_INEXACT (n : Nat) : Fld := ⟨(aDieBase n + 0x30008) * 64 + 11, 1, 0⟩
@[reducible] def F.SXE_STATUS_UNDERFLOW (n : Nat) : Fld := ⟨(aDieBase n + 0x30008) * 64 + 10, 1, 0⟩
@[reducible] def F.SXE_STATUS_OVERFLOW (n : Nat) : Fld := ⟨(aDieBase n + 0x30008) * 64 + 9, 1, 0⟩
@[reducible] def F.SXE_STATUS_INVALID (n : Nat) : Fld := ⟨(aDieBase n + 0x30008) * 64 + 8, 1, 0⟩
@[reducible] def F.SXE_STATUS_HOLDING (n : Nat) : Fld := ⟨(aDieBase n + 0x30008) * 64 + 1, 1, 0⟩
@[reducible] def F.SXE_STATUS_BUSY (n : Nat) : Fld := ⟨(aDieBase n + 0x30008) * 64 + 0, 1, 0⟩
/-! SXE_POS (R174). -/
@[reducible] def F.SXE_POS_ROW (n : Nat) : Fld := ⟨(aDieBase n + 0x30010) * 64 + 44, 20, 0⟩
@[reducible] def F.SXE_POS_SEGMENT (n : Nat) : Fld := ⟨(aDieBase n + 0x30010) * 64 + 31, 13, 0⟩
@[reducible] def F.SXE_POS_SLEN (n : Nat) : Fld := ⟨(aDieBase n + 0x30010) * 64 + 0, 12, 0x000⟩
/-! SXE_HOLD (R174). -/
@[reducible] def F.SXE_HOLD_HELD_COUNT (n : Nat) : Fld := ⟨(aDieBase n + 0x30018) * 64 + 16, 13, 0x0000⟩
@[reducible] def F.SXE_HOLD_FIRST_HELD (n : Nat) : Fld := ⟨(aDieBase n + 0x30018) * 64 + 0, 12, 0x000⟩
/-! SPM_CAP (R217). -/
@[reducible] def F.SPM_CAP_SPARE_BANKS (n : Nat) : Fld := ⟨(aDieBase n + 0x80000) * 64 + 40, 8, 0x08⟩
@[reducible] def F.SPM_CAP_PHASES (n : Nat) : Fld := ⟨(aDieBase n + 0x80000) * 64 + 32, 8, 0x10⟩
@[reducible] def F.SPM_CAP_BANKS (n : Nat) : Fld := ⟨(aDieBase n + 0x80000) * 64 + 16, 16, 0x0100⟩
@[reducible] def F.SPM_CAP_GRANULE (n : Nat) : Fld := ⟨(aDieBase n + 0x80000) * 64 + 0, 16, 0x0080⟩
/-! SPM_STATUS (R217). -/
@[reducible] def F.SPM_STATUS_CORRECTED (n : Nat) : Fld := ⟨(aDieBase n + 0x80008) * 64 + 32, 32, 0x00000000⟩
@[reducible] def F.SPM_STATUS_COLLISION (n : Nat) : Fld := ⟨(aDieBase n + 0x80008) * 64 + 4, 1, 0⟩
@[reducible] def F.SPM_STATUS_OVERLOAD (n : Nat) : Fld := ⟨(aDieBase n + 0x80008) * 64 + 3, 1, 0⟩
@[reducible] def F.SPM_STATUS_UNCORRECTABLE (n : Nat) : Fld := ⟨(aDieBase n + 0x80008) * 64 + 2, 1, 0⟩
@[reducible] def F.SPM_STATUS_MIGRATING (n : Nat) : Fld := ⟨(aDieBase n + 0x80008) * 64 + 1, 1, 0⟩
@[reducible] def F.SPM_STATUS_DEGRADED (n : Nat) : Fld := ⟨(aDieBase n + 0x80008) * 64 + 0, 1, 0⟩
/-! SPM_SPARES (R217). -/
@[reducible] def F.SPM_SPARES_EXHAUSTED (n : Nat) : Fld := ⟨(aDieBase n + 0x80010) * 64 + 8, 1, 0⟩
@[reducible] def F.SPM_SPARES_IN_USE (n : Nat) : Fld := ⟨(aDieBase n + 0x80010) * 64 + 0, 8, 0⟩
/-! SPM_SPAREMAP (R217). -/
@[reducible] def F.SPM_SPAREMAP_BANK (n : Nat) (i : Nat) : Fld := ⟨(aDieBase n + 0x80018) * 64 + 8 * i, 8, 0⟩
/-! MOV_STATUS (R217). -/
@[reducible] def F.MOV_STATUS_FAULT_CODE (n : Nat) (m : Nat) : Fld := ⟨(aDieBase n + 0x40000 + m * 0x10000 + 0x0) * 64 + 48, 16, 0x0000⟩
@[reducible] def F.MOV_STATUS_DESC_INDEX (n : Nat) (m : Nat) : Fld := ⟨(aDieBase n + 0x40000 + m * 0x10000 + 0x0) * 64 + 40, 8, 0x00⟩
@[reducible] def F.MOV_STATUS_CV_MISMATCH (n : Nat) (m : Nat) : Fld := ⟨(aDieBase n + 0x40000 + m * 0x10000 + 0x0) * 64 + 3, 1, 0⟩
@[reducible] def F.MOV_STATUS_RETRIED (n : Nat) (m : Nat) : Fld := ⟨(aDieBase n + 0x40000 + m * 0x10000 + 0x0) * 64 + 2, 1, 0⟩
@[reducible] def F.MOV_STATUS_FAULTED (n : Nat) (m : Nat) : Fld := ⟨(aDieBase n + 0x40000 + m * 0x10000 + 0x0) * 64 + 1, 1, 0⟩
@[reducible] def F.MOV_STATUS_BUSY (n : Nat) (m : Nat) : Fld := ⟨(aDieBase n + 0x40000 + m * 0x10000 + 0x0) * 64 + 0, 1, 0⟩
/-! MOV_RETRY (R217). -/
@[reducible] def F.MOV_RETRY_CYCLES (n : Nat) (m : Nat) : Fld := ⟨(aDieBase n + 0x40000 + m * 0x10000 + 0x8) * 64 + 32, 32, 0x00000000⟩
@[reducible] def F.MOV_RETRY_COUNT (n : Nat) (m : Nat) : Fld := ⟨(aDieBase n + 0x40000 + m * 0x10000 + 0x8) * 64 + 0, 32, 0x00000000⟩
/-! CVU_CFG (R217). -/
@[reducible] def F.CVU_CFG_POLY (n : Nat) (m : Nat) (c : Nat) : Fld := ⟨(aDieBase n + 0x40100 + m * 0x10000 + 8 * c) * 64 + 0, 2, 0x0⟩
/-! CVU_VAL (R217). -/
@[reducible] def F.CVU_VAL_VALUE (n : Nat) (m : Nat) (c : Nat) : Fld := ⟨(aDieBase n + 0x40200 + m * 0x10000 + 8 * c) * 64 + 0, 64, 0⟩
/-! SLINK_STATUS (R217). -/
@[reducible] def F.SLINK_STATUS_REPLAYS (e : Nat) (l : Nat) : Fld := ⟨(slinkBase e + 8 * l) * 64 + 32, 32, 0x00000000⟩
@[reducible] def F.SLINK_STATUS_LANES_SPARED (e : Nat) (l : Nat) : Fld := ⟨(slinkBase e + 8 * l) * 64 + 8, 4, 0⟩
@[reducible] def F.SLINK_STATUS_UP (e : Nat) (l : Nat) : Fld := ⟨(slinkBase e + 8 * l) * 64 + 0, 1, 0⟩
/-! ADIE_ID (R253). -/
@[reducible] def F.ADIE_ID_DIE (n : Nat) : Fld := ⟨(aDieBase n) * 64 + 0, 2, n⟩
/-! SCU_CTRL (R253). -/
@[reducible] def F.SCU_CTRL_RERUN_MAX (n : Nat) : Fld := ⟨(aDieBase n + 0x10000) * 64 + 4, 2, 0x1⟩
@[reducible] def F.SCU_CTRL_FAIL_POLICY (n : Nat) : Fld := ⟨(aDieBase n + 0x10000) * 64 + 3, 1, 0⟩
@[reducible] def F.SCU_CTRL_ABORT (n : Nat) : Fld := ⟨(aDieBase n + 0x10000) * 64 + 0, 1, 0⟩
/-! SCU_STATUS (R253). -/
@[reducible] def F.SCU_STATUS_NEXT_INDEX (n : Nat) : Fld := ⟨(aDieBase n + 0x10008) * 64 + 32, 13, 0⟩
@[reducible] def F.SCU_STATUS_RERUNS (n : Nat) : Fld := ⟨(aDieBase n + 0x10008) * 64 + 8, 2, 0x0⟩
@[reducible] def F.SCU_STATUS_SWITCH_ARMED (n : Nat) : Fld := ⟨(aDieBase n + 0x10008) * 64 + 7, 1, 0⟩
@[reducible] def F.SCU_STATUS_NEXT_VALID (n : Nat) : Fld := ⟨(aDieBase n + 0x10008) * 64 + 6, 1, 0⟩
@[reducible] def F.SCU_STATUS_ACTIVE_BANK (n : Nat) : Fld := ⟨(aDieBase n + 0x10008) * 64 + 5, 1, 0⟩
@[reducible] def F.SCU_STATUS_COMPAT (n : Nat) : Fld := ⟨(aDieBase n + 0x10008) * 64 + 4, 1, 0⟩
@[reducible] def F.SCU_STATUS_COMMITTED (n : Nat) : Fld := ⟨(aDieBase n + 0x10008) * 64 + 3, 1, 0⟩
@[reducible] def F.SCU_STATUS_RERUN (n : Nat) : Fld := ⟨(aDieBase n + 0x10008) * 64 + 2, 1, 0⟩
@[reducible] def F.SCU_STATUS_WAITING (n : Nat) : Fld := ⟨(aDieBase n + 0x10008) * 64 + 1, 1, 0⟩
@[reducible] def F.SCU_STATUS_RUNNING (n : Nat) : Fld := ⟨(aDieBase n + 0x10008) * 64 + 0, 1, 0⟩
/-! SCU_STEP (R253). -/
@[reducible] def F.SCU_STEP_LAG (n : Nat) : Fld := ⟨(aDieBase n + 0x10010) * 64 + 32, 32, 0x00000000⟩
@[reducible] def F.SCU_STEP_JOB_STEP (n : Nat) : Fld := ⟨(aDieBase n + 0x10010) * 64 + 0, 32, 0x00000000⟩
/-! SCU_LOAD (R253). -/
@[reducible] def F.SCU_LOAD_GO (n : Nat) : Fld := ⟨(aDieBase n + 0x10018) * 64 + 63, 1, 0⟩
@[reducible] def F.SCU_LOAD_ACTIVATE (n : Nat) : Fld := ⟨(aDieBase n + 0x10018) * 64 + 62, 1, 0⟩
@[reducible] def F.SCU_LOAD_BANK (n : Nat) : Fld := ⟨(aDieBase n + 0x10018) * 64 + 61, 1, 0⟩
@[reducible] def F.SCU_LOAD_SRC (n : Nat) : Fld := ⟨(aDieBase n + 0x10018) * 64 + 0, 52, 0⟩
/-! SCU_LOAD_STATUS (R253). -/
@[reducible] def F.SCU_LOAD_STATUS_CODE (n : Nat) : Fld := ⟨(aDieBase n + 0x10020) * 64 + 48, 16, 0x0000⟩
@[reducible] def F.SCU_LOAD_STATUS_UNIT_CODE (n : Nat) : Fld := ⟨(aDieBase n + 0x10020) * 64 + 32, 16, 0x0000⟩
@[reducible] def F.SCU_LOAD_STATUS_CMD_INDEX (n : Nat) : Fld := ⟨(aDieBase n + 0x10020) * 64 + 16, 16, 0xFFFF⟩
@[reducible] def F.SCU_LOAD_STATUS_BANK (n : Nat) : Fld := ⟨(aDieBase n + 0x10020) * 64 + 2, 1, 0⟩
@[reducible] def F.SCU_LOAD_STATUS_DONE (n : Nat) : Fld := ⟨(aDieBase n + 0x10020) * 64 + 1, 1, 0⟩
@[reducible] def F.SCU_LOAD_STATUS_BUSY (n : Nat) : Fld := ⟨(aDieBase n + 0x10020) * 64 + 0, 1, 0⟩
/-! SCU_FAULT (R253). -/
@[reducible] def F.SCU_FAULT_CODE (n : Nat) : Fld := ⟨(aDieBase n + 0x10028) * 64 + 48, 16, 0x0000⟩
@[reducible] def F.SCU_FAULT_CMD_INDEX (n : Nat) : Fld := ⟨(aDieBase n + 0x10028) * 64 + 32, 16, 0x0000⟩
@[reducible] def F.SCU_FAULT_CYCLE (n : Nat) : Fld := ⟨(aDieBase n + 0x10028) * 64 + 0, 32, 0x00000000⟩
/-! SCU_PLAN (R253). -/
@[reducible] def F.SCU_PLAN_PLAN_ID (n : Nat) (b : Nat) : Fld := ⟨(aDieBase n + 0x10030 + 8 * b) * 64 + 0, 64, 0⟩
/-! SCU_SIG (R253). -/
@[reducible] def F.SCU_SIG_COUNT (n : Nat) (k : Nat) (j : Nat) : Fld := ⟨(aDieBase n + 0x10040 + 8 * k) * 64 + 16 * j, 16, 0x0000⟩
/-! SVE_CAP (R295). -/
@[reducible] def F.SVE_CAP_SCHED_ENTRIES : Fld := ⟨0x2000020000 * 64 + 32, 16, 0x0100⟩
@[reducible] def F.SVE_CAP_SRAM_MIB : Fld := ⟨0x2000020000 * 64 + 24, 8, 0x80⟩
@[reducible] def F.SVE_CAP_FP64_FMA : Fld := ⟨0x2000020000 * 64 + 12, 12, 0x100⟩
@[reducible] def F.SVE_CAP_FP32_FMA : Fld := ⟨0x2000020000 * 64 + 0, 12, 0x400⟩
/-! SVE_STATUS (R295). -/
@[reducible] def F.SVE_STATUS_ENTRY : Fld := ⟨0x2000020008 * 64 + 48, 8, 0x00⟩
@[reducible] def F.SVE_STATUS_LATE_RESULT : Fld := ⟨0x2000020008 * 64 + 9, 1, 0⟩
@[reducible] def F.SVE_STATUS_WARM_REJECTED : Fld := ⟨0x2000020008 * 64 + 8, 1, 0⟩
@[reducible] def F.SVE_STATUS_PIVOT_TINY : Fld := ⟨0x2000020008 * 64 + 7, 1, 0⟩
@[reducible] def F.SVE_STATUS_DEADLINE_HIT : Fld := ⟨0x2000020008 * 64 + 6, 1, 0⟩
@[reducible] def F.SVE_STATUS_FAULTED : Fld := ⟨0x2000020008 * 64 + 5, 1, 0⟩
@[reducible] def F.SVE_STATUS_ACTIVE_BANK : Fld := ⟨0x2000020008 * 64 + 2, 1, 0⟩
@[reducible] def F.SVE_STATUS_WAITING : Fld := ⟨0x2000020008 * 64 + 1, 1, 0⟩
@[reducible] def F.SVE_STATUS_BUSY : Fld := ⟨0x2000020008 * 64 + 0, 1, 0⟩
/-! SVE_CLOCK (R295). -/
@[reducible] def F.SVE_CLOCK_WAIT : Fld := ⟨0x2000020010 * 64 + 32, 32, 0x00000000⟩
@[reducible] def F.SVE_CLOCK_PCLOCK : Fld := ⟨0x2000020010 * 64 + 0, 32, 0x00000000⟩
/-! SVE_LAST (R295). -/
@[reducible] def F.SVE_LAST_STATUS : Fld := ⟨0x2000020018 * 64 + 48, 16, 0x0000⟩
@[reducible] def F.SVE_LAST_PROBLEM : Fld := ⟨0x2000020018 * 64 + 32, 16, 0x0000⟩
@[reducible] def F.SVE_LAST_ITERATIONS : Fld := ⟨0x2000020018 * 64 + 0, 32, 0x00000000⟩
/-! SVE_LOAD (R295). -/
@[reducible] def F.SVE_LOAD_GO : Fld := ⟨0x2000020020 * 64 + 63, 1, 0⟩
@[reducible] def F.SVE_LOAD_BANK : Fld := ⟨0x2000020020 * 64 + 61, 1, 0⟩
@[reducible] def F.SVE_LOAD_SRC : Fld := ⟨0x2000020020 * 64 + 0, 52, 0⟩
/-! SVE_LOAD_STATUS (R295). -/
@[reducible] def F.SVE_LOAD_STATUS_CODE : Fld := ⟨0x2000020028 * 64 + 48, 16, 0x0000⟩
@[reducible] def F.SVE_LOAD_STATUS_ENTRY : Fld := ⟨0x2000020028 * 64 + 32, 16, 0xFFFF⟩
@[reducible] def F.SVE_LOAD_STATUS_BANK : Fld := ⟨0x2000020028 * 64 + 2, 1, 0⟩
@[reducible] def F.SVE_LOAD_STATUS_DONE : Fld := ⟨0x2000020028 * 64 + 1, 1, 0⟩
@[reducible] def F.SVE_LOAD_STATUS_BUSY : Fld := ⟨0x2000020028 * 64 + 0, 1, 0⟩
/-! SVE_PLAN (R295). -/
@[reducible] def F.SVE_PLAN_PLAN_ID (b : Nat) : Fld := ⟨(0x2000020030 + 8 * b) * 64 + 0, 64, 0⟩
/-! SVE_FAULT (R295). -/
@[reducible] def F.SVE_FAULT_CODE : Fld := ⟨0x2000020040 * 64 + 48, 16, 0x0000⟩
@[reducible] def F.SVE_FAULT_PROBLEM : Fld := ⟨0x2000020040 * 64 + 32, 16, 0x0000⟩
@[reducible] def F.SVE_FAULT_CYCLE : Fld := ⟨0x2000020040 * 64 + 0, 32, 0x00000000⟩
/-! SVE_SRAM_ERR (R295). -/
@[reducible] def F.SVE_SRAM_ERR_COUNT : Fld := ⟨0x2000020048 * 64 + 32, 32, 0x00000000⟩
@[reducible] def F.SVE_SRAM_ERR_OFFSET : Fld := ⟨0x2000020048 * 64 + 0, 27, 0⟩
/-! PDIE_CAP (R333). -/
@[reducible] def F.PDIE_CAP_XS_MAX_MIB : Fld := ⟨0x2000000000 * 64 + 40, 8, 0x18⟩
@[reducible] def F.PDIE_CAP_LS_MAX_WAYS : Fld := ⟨0x2000000000 * 64 + 32, 8, 0x0C⟩
@[reducible] def F.PDIE_CAP_CORE_CLK_NOM : Fld := ⟨0x2000000000 * 64 + 24, 8, 0x1A⟩
@[reducible] def F.PDIE_CAP_SPARE_CORES : Fld := ⟨0x2000000000 * 64 + 8, 8, 0x04⟩
@[reducible] def F.PDIE_CAP_CORES : Fld := ⟨0x2000000000 * 64 + 0, 8, 0x40⟩
/-! PIN_CFG (R333). -/
@[reducible] def F.PIN_CFG_XS_MIB : Fld := ⟨0x2000000008 * 64 + 8, 5, 0x00⟩
@[reducible] def F.PIN_CFG_LS_WAYS : Fld := ⟨0x2000000008 * 64 + 0, 4, 0x0⟩
/-! CLK_STATUS (R333). -/
@[reducible] def F.CLK_STATUS_STEPS : Fld := ⟨0x2000000010 * 64 + 32, 32, 0x00000000⟩
@[reducible] def F.CLK_STATUS_CORE_CLK : Fld := ⟨0x2000000010 * 64 + 0, 8, 0x1A⟩
/-! CORE_LOAD (R333). -/
@[reducible] def F.CORE_LOAD_GO : Fld := ⟨0x2000000018 * 64 + 63, 1, 0⟩
@[reducible] def F.CORE_LOAD_BANK : Fld := ⟨0x2000000018 * 64 + 61, 1, 0⟩
@[reducible] def F.CORE_LOAD_SRC : Fld := ⟨0x2000000018 * 64 + 0, 52, 0⟩
/-! CORE_LOAD_STATUS (R333). -/
@[reducible] def F.CORE_LOAD_STATUS_CODE : Fld := ⟨0x2000000020 * 64 + 48, 16, 0x0000⟩
@[reducible] def F.CORE_LOAD_STATUS_ENTRY : Fld := ⟨0x2000000020 * 64 + 32, 16, 0xFFFF⟩
@[reducible] def F.CORE_LOAD_STATUS_BANK : Fld := ⟨0x2000000020 * 64 + 2, 1, 0⟩
@[reducible] def F.CORE_LOAD_STATUS_DONE : Fld := ⟨0x2000000020 * 64 + 1, 1, 0⟩
@[reducible] def F.CORE_LOAD_STATUS_BUSY : Fld := ⟨0x2000000020 * 64 + 0, 1, 0⟩
/-! CORE_PLAN (R333). -/
@[reducible] def F.CORE_PLAN_PLAN_ID (b : Nat) : Fld := ⟨(0x2000000028 + 8 * b) * 64 + 0, 64, 0⟩
/-! CORE_FAULT (R333). -/
@[reducible] def F.CORE_FAULT_CODE : Fld := ⟨0x2000000038 * 64 + 48, 16, 0x0000⟩
@[reducible] def F.CORE_FAULT_EVENT : Fld := ⟨0x2000000038 * 64 + 32, 16, 0x0000⟩
@[reducible] def F.CORE_FAULT_CYCLE : Fld := ⟨0x2000000038 * 64 + 0, 32, 0x00000000⟩
/-! CORE_MAP (R333). -/
@[reducible] def F.CORE_MAP_PHYS (k : Nat) (j : Nat) : Fld := ⟨(0x2000010000 + 8 * k) * 64 + 8 * j, 8, (8 * k + j)⟩
/-! CORE_SPARES (R333). -/
@[reducible] def F.CORE_SPARES_EXHAUSTED : Fld := ⟨0x2000010040 * 64 + 4, 1, 0⟩
@[reducible] def F.CORE_SPARES_IN_USE : Fld := ⟨0x2000010040 * 64 + 0, 4, 0⟩
/-! CORE_STATUS (R333). -/
@[reducible] def F.CORE_STATUS_EVENT (c : Nat) : Fld := ⟨(0x2000010100 + 8 * c) * 64 + 48, 16, 0x0000⟩
@[reducible] def F.CORE_STATUS_CAUSE (c : Nat) : Fld := ⟨(0x2000010100 + 8 * c) * 64 + 32, 16, 0x0000⟩
@[reducible] def F.CORE_STATUS_ABSENT (c : Nat) : Fld := ⟨(0x2000010100 + 8 * c) * 64 + 7, 1, 0⟩
@[reducible] def F.CORE_STATUS_FAULTED (c : Nat) : Fld := ⟨(0x2000010100 + 8 * c) * 64 + 6, 1, 0⟩
@[reducible] def F.CORE_STATUS_PIN_BROKEN (c : Nat) : Fld := ⟨(0x2000010100 + 8 * c) * 64 + 5, 1, 0⟩
@[reducible] def F.CORE_STATUS_PINNED (c : Nat) : Fld := ⟨(0x2000010100 + 8 * c) * 64 + 4, 1, 0⟩
@[reducible] def F.CORE_STATUS_RUNNING (c : Nat) : Fld := ⟨(0x2000010100 + 8 * c) * 64 + 3, 1, 0⟩
/-! HBM_STATUS (R380). -/
@[reducible] def F.HBM_STATUS_DIE_PCS (n : Nat) (s : Nat) : Fld := ⟨(aDieBase n + 0x90000 + s * 0x10000 + 0x0) * 64 + 56, 8, 90⟩
@[reducible] def F.HBM_STATUS_EXPOSED (n : Nat) (s : Nat) : Fld := ⟨(aDieBase n + 0x90000 + s * 0x10000 + 0x0) * 64 + 48, 8, 30⟩
@[reducible] def F.HBM_STATUS_TEMP (n : Nat) (s : Nat) : Fld := ⟨(aDieBase n + 0x90000 + s * 0x10000 + 0x0) * 64 + 40, 8, 0x00⟩
@[reducible] def F.HBM_STATUS_RESERVES_LEFT (n : Nat) (s : Nat) : Fld := ⟨(aDieBase n + 0x90000 + s * 0x10000 + 0x0) * 64 + 32, 2, 2⟩
@[reducible] def F.HBM_STATUS_MIGRATING (n : Nat) (s : Nat) : Fld := ⟨(aDieBase n + 0x90000 + s * 0x10000 + 0x0) * 64 + 7, 1, 0⟩
@[reducible] def F.HBM_STATUS_MAPPED_OUT (n : Nat) (s : Nat) : Fld := ⟨(aDieBase n + 0x90000 + s * 0x10000 + 0x0) * 64 + 6, 1, 0⟩
@[reducible] def F.HBM_STATUS_RESERVE_USED (n : Nat) (s : Nat) : Fld := ⟨(aDieBase n + 0x90000 + s * 0x10000 + 0x0) * 64 + 5, 1, 0⟩
@[reducible] def F.HBM_STATUS_UNCORRECTABLE (n : Nat) (s : Nat) : Fld := ⟨(aDieBase n + 0x90000 + s * 0x10000 + 0x0) * 64 + 4, 1, 0⟩
@[reducible] def F.HBM_STATUS_REREAD (n : Nat) (s : Nat) : Fld := ⟨(aDieBase n + 0x90000 + s * 0x10000 + 0x0) * 64 + 3, 1, 0⟩
@[reducible] def F.HBM_STATUS_SCRUB_PASS (n : Nat) (s : Nat) : Fld := ⟨(aDieBase n + 0x90000 + s * 0x10000 + 0x0) * 64 + 2, 1, 0⟩
@[reducible] def F.HBM_STATUS_NEXT_VALID (n : Nat) (s : Nat) : Fld := ⟨(aDieBase n + 0x90000 + s * 0x10000 + 0x0) * 64 + 1, 1, 0⟩
@[reducible] def F.HBM_STATUS_PLAN_ACTIVE (n : Nat) (s : Nat) : Fld := ⟨(aDieBase n + 0x90000 + s * 0x10000 + 0x0) * 64 + 0, 1, 0⟩
/-! HBM_ERR (R380). -/
@[reducible] def F.HBM_ERR_CORRECTED (n : Nat) (s : Nat) : Fld := ⟨(aDieBase n + 0x90000 + s * 0x10000 + 0x8) * 64 + 32, 32, 0x00000000⟩
@[reducible] def F.HBM_ERR_ONDIE (n : Nat) (s : Nat) : Fld := ⟨(aDieBase n + 0x90000 + s * 0x10000 + 0x8) * 64 + 0, 32, 0x00000000⟩
/-! HBM_RETIRE (R380). -/
@[reducible] def F.HBM_RETIRE_GO (n : Nat) (s : Nat) : Fld := ⟨(aDieBase n + 0x90000 + s * 0x10000 + 0x10) * 64 + 63, 1, 0⟩
@[reducible] def F.HBM_RETIRE_PIECES_DONE (n : Nat) (s : Nat) : Fld := ⟨(aDieBase n + 0x90000 + s * 0x10000 + 0x10) * 64 + 48, 12, 0x000⟩
@[reducible] def F.HBM_RETIRE_PC (n : Nat) (s : Nat) : Fld := ⟨(aDieBase n + 0x90000 + s * 0x10000 + 0x10) * 64 + 0, 5, 0x00⟩
/-! CACHE_CNT (R380). -/
@[reducible] def F.CACHE_CNT_HITS (n : Nat) (s : Nat) : Fld := ⟨(aDieBase n + 0x90000 + s * 0x10000 + 0x18) * 64 + 32, 32, 0x00000000⟩
@[reducible] def F.CACHE_CNT_KEEP_CONFLICTS (n : Nat) (s : Nat) : Fld := ⟨(aDieBase n + 0x90000 + s * 0x10000 + 0x18) * 64 + 0, 32, 0x00000000⟩
/-! HBM_PCMAP (R380). -/
@[reducible] def F.HBM_PCMAP_STATE (n : Nat) (s : Nat) (k : Nat) (j : Nat) : Fld := ⟨(aDieBase n + 0x90040 + s * 0x10000 + 8 * k) * 64 + 8 * j, 8, (if 8 * k + j < 30 then 3 * (8 * k + j) + s else 0xFD)⟩
/-! PMOV_LOAD (R380). -/
@[reducible] def F.PMOV_LOAD_GO : Fld := ⟨0x2000030000 * 64 + 63, 1, 0⟩
@[reducible] def F.PMOV_LOAD_BANK : Fld := ⟨0x2000030000 * 64 + 61, 1, 0⟩
@[reducible] def F.PMOV_LOAD_SRC : Fld := ⟨0x2000030000 * 64 + 0, 52, 0⟩
/-! PMOV_LOAD_STATUS (R380). -/
@[reducible] def F.PMOV_LOAD_STATUS_CODE : Fld := ⟨0x2000030008 * 64 + 48, 16, 0x0000⟩
@[reducible] def F.PMOV_LOAD_STATUS_ENTRY : Fld := ⟨0x2000030008 * 64 + 32, 16, 0xFFFF⟩
@[reducible] def F.PMOV_LOAD_STATUS_UNIT_CODE : Fld := ⟨0x2000030008 * 64 + 16, 16, 0x0000⟩
@[reducible] def F.PMOV_LOAD_STATUS_BANK : Fld := ⟨0x2000030008 * 64 + 2, 1, 0⟩
@[reducible] def F.PMOV_LOAD_STATUS_DONE : Fld := ⟨0x2000030008 * 64 + 1, 1, 0⟩
@[reducible] def F.PMOV_LOAD_STATUS_BUSY : Fld := ⟨0x2000030008 * 64 + 0, 1, 0⟩
/-! PMOV_PLAN (R380). -/
@[reducible] def F.PMOV_PLAN_PLAN_ID (b : Nat) : Fld := ⟨(0x2000030010 + 8 * b) * 64 + 0, 64, 0⟩
/-! PMOV_STATUS (R380). -/
@[reducible] def F.PMOV_STATUS_FAULT_CODE (c : Nat) : Fld := ⟨(0x2000030020 + 8 * c) * 64 + 48, 16, 0x0000⟩
@[reducible] def F.PMOV_STATUS_XFER (c : Nat) : Fld := ⟨(0x2000030020 + 8 * c) * 64 + 32, 16, 0x0000⟩
@[reducible] def F.PMOV_STATUS_RETRIED (c : Nat) : Fld := ⟨(0x2000030020 + 8 * c) * 64 + 2, 1, 0⟩
@[reducible] def F.PMOV_STATUS_FAULTED (c : Nat) : Fld := ⟨(0x2000030020 + 8 * c) * 64 + 1, 1, 0⟩
@[reducible] def F.PMOV_STATUS_BUSY (c : Nat) : Fld := ⟨(0x2000030020 + 8 * c) * 64 + 0, 1, 0⟩
/-! MIG_SRC (R380). -/
@[reducible] def F.MIG_SRC_ADDR : Fld := ⟨0x2000030080 * 64 + 0, 52, 0⟩
/-! MIG_DST (R380). -/
@[reducible] def F.MIG_DST_ADDR : Fld := ⟨0x2000030088 * 64 + 0, 52, 0⟩
/-! MIG_CTRL (R380). -/
@[reducible] def F.MIG_CTRL_GO : Fld := ⟨0x2000030090 * 64 + 63, 1, 0⟩
@[reducible] def F.MIG_CTRL_DONE : Fld := ⟨0x2000030090 * 64 + 62, 1, 0⟩
@[reducible] def F.MIG_CTRL_BUSY : Fld := ⟨0x2000030090 * 64 + 61, 1, 0⟩
@[reducible] def F.MIG_CTRL_FAILED : Fld := ⟨0x2000030090 * 64 + 60, 1, 0⟩
@[reducible] def F.MIG_CTRL_CODE : Fld := ⟨0x2000030090 * 64 + 44, 16, 0x0000⟩
@[reducible] def F.MIG_CTRL_BYTES : Fld := ⟨0x2000030090 * 64 + 0, 40, 0⟩
/-! T2_CAP (R380). -/
@[reducible] def F.T2_CAP_GB_PER_CHANNEL : Fld := ⟨0x2000040000 * 64 + 32, 16, 48⟩
@[reducible] def F.T2_CAP_CHANNELS : Fld := ⟨0x2000040000 * 64 + 0, 8, 0x20⟩
/-! T2_ERR (R380). -/
@[reducible] def F.T2_ERR_CORRECTED : Fld := ⟨0x2000040008 * 64 + 32, 32, 0x00000000⟩
@[reducible] def F.T2_ERR_UNCORRECTABLE : Fld := ⟨0x2000040008 * 64 + 0, 32, 0x00000000⟩
/-! TH_STATUS (R380). -/
@[reducible] def F.TH_STATUS_LEVEL : Fld := ⟨0x60000 * 64 + 56, 4, 0x0⟩
@[reducible] def F.TH_STATUS_ACLK : Fld := ⟨0x60000 * 64 + 48, 8, 0x82⟩
@[reducible] def F.TH_STATUS_HEADROOM : Fld := ⟨0x60000 * 64 + 40, 8, 0x00⟩
@[reducible] def F.TH_STATUS_SENSOR : Fld := ⟨0x60000 * 64 + 32, 4, 0x0⟩
@[reducible] def F.TH_STATUS_STEPS : Fld := ⟨0x60000 * 64 + 16, 16, 0x0000⟩
@[reducible] def F.TH_STATUS_TRIPPED : Fld := ⟨0x60000 * 64 + 1, 1, 0⟩
@[reducible] def F.TH_STATUS_FLOOR : Fld := ⟨0x60000 * 64 + 0, 1, 0⟩
/-! TH_CTRL (R380). -/
@[reducible] def F.TH_CTRL_RESTART : Fld := ⟨0x60008 * 64 + 7, 1, 0⟩
@[reducible] def F.TH_CTRL_MIN_LEVEL : Fld := ⟨0x60008 * 64 + 0, 4, 0x0⟩
/-! TH_TEMP (R380). -/
@[reducible] def F.TH_TEMP_T (k : Nat) (j : Nat) : Fld := ⟨(0x60010 + 8 * k) * 64 + 8 * j, 8, 0x00⟩
/-! FAB_NODE (R431). -/
@[reducible] def F.FAB_NODE_VALID (p : Nat) : Fld := ⟨(0x3000000000 + 8 * p) * 64 + 28, 1, (if p = 0 then 1 else 0)⟩
@[reducible] def F.FAB_NODE_NODE (p : Nat) : Fld := ⟨(0x3000000000 + 8 * p) * 64 + 0, 28, 0⟩
/-! FAB_CTRL (R431). -/
@[reducible] def F.FAB_CTRL_SAVE : Fld := ⟨0x3000000020 * 64 + 4, 1, 0⟩
@[reducible] def F.FAB_CTRL_APPLY : Fld := ⟨0x3000000020 * 64 + 3, 1, 0⟩
@[reducible] def F.FAB_CTRL_DISCOVER : Fld := ⟨0x3000000020 * 64 + 2, 1, 0⟩
@[reducible] def F.FAB_CTRL_ENABLE : Fld := ⟨0x3000000020 * 64 + 0, 1, 0⟩
/-! FAB_SETUP_ADDR (R431). -/
@[reducible] def F.FAB_SETUP_ADDR_ADDR : Fld := ⟨0x3000000028 * 64 + 0, 52, 0⟩
/-! FAB_SETUP_STATUS (R431). -/
@[reducible] def F.FAB_SETUP_STATUS_CODE : Fld := ⟨0x3000000030 * 64 + 48, 16, 0x0000⟩
@[reducible] def F.FAB_SETUP_STATUS_STATE : Fld := ⟨0x3000000030 * 64 + 4, 2, 0x0⟩
@[reducible] def F.FAB_SETUP_STATUS_DONE : Fld := ⟨0x3000000030 * 64 + 1, 1, 0⟩
@[reducible] def F.FAB_SETUP_STATUS_BUSY : Fld := ⟨0x3000000030 * 64 + 0, 1, 0⟩
/-! FAB_DIGEST (R431). -/
@[reducible] def F.FAB_DIGEST_DIGEST (k : Nat) : Fld := ⟨(0x3000000040 + 8 * k) * 64 + 0, 64, 0⟩
/-! FAB_TIMEOUT (R431). -/
@[reducible] def F.FAB_TIMEOUT_L3_US : Fld := ⟨0x3000000080 * 64 + 32, 16, 0x00C8⟩
@[reducible] def F.FAB_TIMEOUT_L2_US : Fld := ⟨0x3000000080 * 64 + 16, 16, 0x0028⟩
@[reducible] def F.FAB_TIMEOUT_L1_US : Fld := ⟨0x3000000080 * 64 + 0, 16, 0x000A⟩
/-! FAB_VCW (R431). -/
@[reducible] def F.FAB_VCW_W (v : Nat) : Fld := ⟨0x3000000088 * 64 + 8 * v, 8, 0x10⟩
/-! FAB_SAT (R431). -/
@[reducible] def F.FAB_SAT_SAT_NS : Fld := ⟨0x3000000090 * 64 + 0, 32, 0x00002710⟩
/-! FAB_REFUSED (R431). -/
@[reducible] def F.FAB_REFUSED_KEY : Fld := ⟨0x3000000098 * 64 + 32, 32, 0x00000000⟩
@[reducible] def F.FAB_REFUSED_OTHER : Fld := ⟨0x3000000098 * 64 + 0, 32, 0x00000000⟩
/-! PORT_STATUS (R431). -/
@[reducible] def F.PORT_STATUS_NEIGHBOUR (p : Nat) : Fld := ⟨(0x3000010000 + 8 * p) * 64 + 36, 28, 0⟩
@[reducible] def F.PORT_STATUS_NBR_VALID (p : Nat) : Fld := ⟨(0x3000010000 + 8 * p) * 64 + 32, 1, 0⟩
@[reducible] def F.PORT_STATUS_ACTIVE (p : Nat) : Fld := ⟨(0x3000010000 + 8 * p) * 64 + 14, 9, 0xFF⟩
@[reducible] def F.PORT_STATUS_FAILED (p : Nat) : Fld := ⟨(0x3000010000 + 8 * p) * 64 + 5, 9, 0⟩
@[reducible] def F.PORT_STATUS_LEVEL (p : Nat) : Fld := ⟨(0x3000010000 + 8 * p) * 64 + 3, 2, (portLevelOf p)⟩
@[reducible] def F.PORT_STATUS_STATE (p : Nat) : Fld := ⟨(0x3000010000 + 8 * p) * 64 + 0, 3, 0x0⟩
/-! PORT_ERR (R431). -/
@[reducible] def F.PORT_ERR_CORRECTED (p : Nat) : Fld := ⟨(0x3000010100 + 8 * p) * 64 + 32, 32, 0x00000000⟩
@[reducible] def F.PORT_ERR_DROPPED (p : Nat) : Fld := ⟨(0x3000010100 + 8 * p) * 64 + 16, 16, 0x0000⟩
@[reducible] def F.PORT_ERR_REPLAYS (p : Nat) : Fld := ⟨(0x3000010100 + 8 * p) * 64 + 0, 16, 0x0000⟩
/-! PORT_CTRL (R431). -/
@[reducible] def F.PORT_CTRL_RETRAIN (p : Nat) : Fld := ⟨(0x3000010200 + 8 * p) * 64 + 1, 1, 0⟩
@[reducible] def F.PORT_CTRL_DISABLE (p : Nat) : Fld := ⟨(0x3000010200 + 8 * p) * 64 + 0, 1, 0⟩
/-! TBL_SEL (R431). -/
@[reducible] def F.TBL_SEL_WRITE : Fld := ⟨0x3000020000 * 64 + 63, 1, 0⟩
@[reducible] def F.TBL_SEL_READ : Fld := ⟨0x3000020000 * 64 + 62, 1, 0⟩
@[reducible] def F.TBL_SEL_TABLE : Fld := ⟨0x3000020000 * 64 + 16, 4, 0x0⟩
@[reducible] def F.TBL_SEL_INDEX : Fld := ⟨0x3000020000 * 64 + 0, 16, 0x0000⟩
/-! TBL_DATA (R431). -/
@[reducible] def F.TBL_DATA_DATA (w : Nat) : Fld := ⟨(0x3000020008 + 8 * w) * 64 + 0, 64, 0⟩
/-! CONG_STALL (R431). -/
@[reducible] def F.CONG_STALL_COUNT (l : Nat) (v : Nat) : Fld := ⟨(0x3000020100 + 0x40 * l + 8 * v) * 64 + 0, 64, 0⟩
/-! CONG_BYTES (R431). -/
@[reducible] def F.CONG_BYTES_COUNT (l : Nat) (_v : Nat) : Fld := ⟨(0x3000020200 + 8 * l) * 64 + 0, 64, 0⟩
/-! GW_CTRL (R431). -/
@[reducible] def F.GW_CTRL_GATHER_NS (g : Nat) : Fld := ⟨(0x3000050000 + 8 * g) * 64 + 0, 14, 0x03E8⟩
/-! GW_STATUS (R431). -/
@[reducible] def F.GW_STATUS_BULKS (g : Nat) : Fld := ⟨(0x3000050010 + 8 * g) * 64 + 32, 32, 0x00000000⟩
@[reducible] def F.GW_STATUS_OPEN (g : Nat) : Fld := ⟨(0x3000050010 + 8 * g) * 64 + 16, 9, 0x000⟩
@[reducible] def F.GW_STATUS_HOLDING (g : Nat) : Fld := ⟨(0x3000050010 + 8 * g) * 64 + 0, 1, 0⟩
/-! RE_CAP (R466). -/
@[reducible] def F.RE_CAP_GROUPS : Fld := ⟨0x3000030000 * 64 + 40, 8, 0x40⟩
@[reducible] def F.RE_CAP_SCALAR_SLOTS : Fld := ⟨0x3000030000 * 64 + 24, 16, 0x1000⟩
@[reducible] def F.RE_CAP_SLOT_KIB : Fld := ⟨0x3000030000 * 64 + 12, 12, 0x100⟩
@[reducible] def F.RE_CAP_BULK_SLOTS : Fld := ⟨0x3000030000 * 64 + 0, 12, 0x100⟩
/-! RE_STATUS (R466). -/
@[reducible] def F.RE_STATUS_SLOTS_HIGH : Fld := ⟨0x3000030008 * 64 + 32, 9, 0x000⟩
@[reducible] def F.RE_STATUS_SLOTS_IN_USE : Fld := ⟨0x3000030008 * 64 + 16, 9, 0x000⟩
@[reducible] def F.RE_STATUS_SCALAR_IN_USE : Fld := ⟨0x3000030008 * 64 + 0, 13, 0x0000⟩
/-! RE_SPILL (R466). -/
@[reducible] def F.RE_SPILL_CHUNKS : Fld := ⟨0x3000030010 * 64 + 32, 32, 0x00000000⟩
@[reducible] def F.RE_SPILL_SPILLED : Fld := ⟨0x3000030010 * 64 + 0, 1, 0⟩
/-! RE_CTRL (R466). -/
@[reducible] def F.RE_CTRL_BCAST_WAIT_US : Fld := ⟨0x3000030018 * 64 + 0, 16, 0x03E8⟩
/-! GRP_SEQ (R466). -/
@[reducible] def F.GRP_SEQ_POSTED (g : Nat) : Fld := ⟨(0x3000030100 + 8 * g) * 64 + 32, 32, 0x00000000⟩
@[reducible] def F.GRP_SEQ_COMPLETED (g : Nat) : Fld := ⟨(0x3000030100 + 8 * g) * 64 + 0, 32, 0x00000000⟩
/-! NIC_CTRL (R466). -/
@[reducible] def F.NIC_CTRL_IRQ_EN (k : Nat) : Fld := ⟨(0x3000040000 + 0x100 * k) * 64 + 3, 1, 0⟩
@[reducible] def F.NIC_CTRL_CORE_DRIVEN (k : Nat) : Fld := ⟨(0x3000040000 + 0x100 * k) * 64 + 2, 1, 0⟩
@[reducible] def F.NIC_CTRL_ENABLE (k : Nat) : Fld := ⟨(0x3000040000 + 0x100 * k) * 64 + 0, 1, 0⟩
/-! NIC_QBASE (R466). -/
@[reducible] def F.NIC_QBASE_LOG2_SIZE (k : Nat) : Fld := ⟨(0x3000040008 + 0x100 * k) * 64 + 60, 4, 0x4⟩
@[reducible] def F.NIC_QBASE_BASE (k : Nat) : Fld := ⟨(0x3000040008 + 0x100 * k) * 64 + 0, 52, 0⟩
/-! NIC_QPOS (R466). -/
@[reducible] def F.NIC_QPOS_TAIL (k : Nat) : Fld := ⟨(0x3000040010 + 0x100 * k) * 64 + 32, 12, 0x000⟩
@[reducible] def F.NIC_QPOS_HEAD (k : Nat) : Fld := ⟨(0x3000040010 + 0x100 * k) * 64 + 0, 12, 0x000⟩
/-! NIC_STATUS (R466). -/
@[reducible] def F.NIC_STATUS_LAST_CODE (k : Nat) : Fld := ⟨(0x3000040018 + 0x100 * k) * 64 + 48, 16, 0x0000⟩
@[reducible] def F.NIC_STATUS_FAILED (k : Nat) : Fld := ⟨(0x3000040018 + 0x100 * k) * 64 + 7, 1, 0⟩
@[reducible] def F.NIC_STATUS_REJECTED (k : Nat) : Fld := ⟨(0x3000040018 + 0x100 * k) * 64 + 6, 1, 0⟩
@[reducible] def F.NIC_STATUS_BUSY (k : Nat) : Fld := ⟨(0x3000040018 + 0x100 * k) * 64 + 0, 1, 0⟩
/-! NIC_DONE (R466). -/
@[reducible] def F.NIC_DONE_COUNT (k : Nat) : Fld := ⟨(0x3000040020 + 0x100 * k) * 64 + 0, 64, 0⟩
/-! TOT_LOAD (R466). -/
@[reducible] def F.TOT_LOAD_GO : Fld := ⟨0x3000040800 * 64 + 63, 1, 0⟩
@[reducible] def F.TOT_LOAD_CTX : Fld := ⟨0x3000040800 * 64 + 52, 3, 0x0⟩
@[reducible] def F.TOT_LOAD_SRC : Fld := ⟨0x3000040800 * 64 + 0, 52, 0⟩
/-! TOT_LOAD_STATUS (R466). -/
@[reducible] def F.TOT_LOAD_STATUS_CODE : Fld := ⟨0x3000040808 * 64 + 48, 16, 0x0000⟩
@[reducible] def F.TOT_LOAD_STATUS_ENTRY : Fld := ⟨0x3000040808 * 64 + 32, 16, 0xFFFF⟩
@[reducible] def F.TOT_LOAD_STATUS_DONE : Fld := ⟨0x3000040808 * 64 + 1, 1, 0⟩
@[reducible] def F.TOT_LOAD_STATUS_BUSY : Fld := ⟨0x3000040808 * 64 + 0, 1, 0⟩
/-! TOT_SEL (R466). -/
@[reducible] def F.TOT_SEL_READ : Fld := ⟨0x3000040810 * 64 + 63, 1, 0⟩
@[reducible] def F.TOT_SEL_CTX : Fld := ⟨0x3000040810 * 64 + 10, 3, 0x0⟩
@[reducible] def F.TOT_SEL_INDEX : Fld := ⟨0x3000040810 * 64 + 0, 10, 0x000⟩
/-! TOT_DATA0 (R466). -/
@[reducible] def F.TOT_DATA0_THRESHOLD : Fld := ⟨0x3000040818 * 64 + 32, 32, 0⟩
@[reducible] def F.TOT_DATA0_COUNT : Fld := ⟨0x3000040818 * 64 + 0, 32, 0⟩
/-! TOT_DATA1 (R466). -/
@[reducible] def F.TOT_DATA1_FIRED : Fld := ⟨0x3000040820 * 64 + 63, 1, 0⟩
@[reducible] def F.TOT_DATA1_DONE : Fld := ⟨0x3000040820 * 64 + 62, 1, 0⟩
@[reducible] def F.TOT_DATA1_FAILED : Fld := ⟨0x3000040820 * 64 + 61, 1, 0⟩
@[reducible] def F.TOT_DATA1_RECORD : Fld := ⟨0x3000040820 * 64 + 0, 52, 0⟩
/-! TOT_DATA2 (R466). -/
@[reducible] def F.TOT_DATA2_CODE : Fld := ⟨0x3000040828 * 64 + 48, 16, 0x0000⟩
@[reducible] def F.TOT_DATA2_FENCE : Fld := ⟨0x3000040828 * 64 + 16, 16, 0⟩
@[reducible] def F.TOT_DATA2_CHAIN : Fld := ⟨0x3000040828 * 64 + 0, 16, 0⟩
/-! CKPT_CTRL (R497). -/
@[reducible] def F.CKPT_CTRL_GO (p : Nat) : Fld := ⟨(0x3000068000 + 0x400 * p) * 64 + 63, 1, 0⟩
@[reducible] def F.CKPT_CTRL_ABANDON (p : Nat) : Fld := ⟨(0x3000068000 + 0x400 * p) * 64 + 62, 1, 0⟩
@[reducible] def F.CKPT_CTRL_OP (p : Nat) : Fld := ⟨(0x3000068000 + 0x400 * p) * 64 + 0, 4, 0x0⟩
/-! CKPT_LIST (R497). -/
@[reducible] def F.CKPT_LIST_ADDR (p : Nat) : Fld := ⟨(0x3000068008 + 0x400 * p) * 64 + 0, 52, 0⟩
/-! CKPT_STATUS (R497). -/
@[reducible] def F.CKPT_STATUS_CODE (p : Nat) : Fld := ⟨(0x3000068010 + 0x400 * p) * 64 + 48, 16, 0x0000⟩
@[reducible] def F.CKPT_STATUS_ENTRY (p : Nat) : Fld := ⟨(0x3000068010 + 0x400 * p) * 64 + 32, 16, 0xFFFF⟩
@[reducible] def F.CKPT_STATUS_REFUSED (p : Nat) : Fld := ⟨(0x3000068010 + 0x400 * p) * 64 + 16, 16, 0x0000⟩
@[reducible] def F.CKPT_STATUS_PHASE (p : Nat) : Fld := ⟨(0x3000068010 + 0x400 * p) * 64 + 4, 4, 0x0⟩
@[reducible] def F.CKPT_STATUS_DONE (p : Nat) : Fld := ⟨(0x3000068010 + 0x400 * p) * 64 + 1, 1, 0⟩
@[reducible] def F.CKPT_STATUS_BUSY (p : Nat) : Fld := ⟨(0x3000068010 + 0x400 * p) * 64 + 0, 1, 0⟩
/-! CKPT_SLOTS (R497). -/
@[reducible] def F.CKPT_SLOTS_STEP (p : Nat) : Fld := ⟨(0x3000068018 + 0x400 * p) * 64 + 32, 32, 0⟩
@[reducible] def F.CKPT_SLOTS_MIR_NEWEST (p : Nat) : Fld := ⟨(0x3000068018 + 0x400 * p) * 64 + 7, 1, 0⟩
@[reducible] def F.CKPT_SLOTS_OWN_NEWEST (p : Nat) : Fld := ⟨(0x3000068018 + 0x400 * p) * 64 + 6, 1, 0⟩
@[reducible] def F.CKPT_SLOTS_MIR_COMMITTED (p : Nat) : Fld := ⟨(0x3000068018 + 0x400 * p) * 64 + 2, 2, 0⟩
@[reducible] def F.CKPT_SLOTS_OWN_COMMITTED (p : Nat) : Fld := ⟨(0x3000068018 + 0x400 * p) * 64 + 0, 2, 0⟩
/-! CKPT_MIRROR (R497). -/
@[reducible] def F.CKPT_MIRROR_VALID (p : Nat) : Fld := ⟨(0x3000068020 + 0x400 * p) * 64 + 63, 1, 0⟩
@[reducible] def F.CKPT_MIRROR_VC (p : Nat) : Fld := ⟨(0x3000068020 + 0x400 * p) * 64 + 60, 3, 0x2⟩
@[reducible] def F.CKPT_MIRROR_BUDDY (p : Nat) : Fld := ⟨(0x3000068020 + 0x400 * p) * 64 + 32, 28, 0⟩
@[reducible] def F.CKPT_MIRROR_ORIGIN (p : Nat) : Fld := ⟨(0x3000068020 + 0x400 * p) * 64 + 0, 28, 0⟩
/-! CKPT_TIMEOUT (R497). -/
@[reducible] def F.CKPT_TIMEOUT_MIRROR_MS (p : Nat) : Fld := ⟨(0x3000068028 + 0x400 * p) * 64 + 0, 16, 0x07D0⟩
/-! CKPT_RING (R497). -/
@[reducible] def F.CKPT_RING_REGION (p : Nat) : Fld := ⟨(0x3000068030 + 0x400 * p) * 64 + 52, 12, 0x000⟩
@[reducible] def F.CKPT_RING_ADDR (p : Nat) : Fld := ⟨(0x3000068030 + 0x400 * p) * 64 + 0, 52, 0⟩
/-! CNT (R526). -/
@[reducible] def F.CNT_COUNT (e : Nat) (i : Nat) : Fld := ⟨(cntBase e + 8 * i) * 64 + 0, 64, 0⟩
/-! SHEET (R526). -/
@[reducible] def F.SHEET_VALUE (e : Nat) (i : Nat) : Fld := ⟨(cntBase e + 0x2000 + 8 * i) * 64 + 0, 64, 0⟩
/-! CS_MASK (R526). -/
@[reducible] def F.CS_MASK_SEL (e : Nat) (k : Nat) : Fld := ⟨(cntBase e + 0x4000 + 8 * k) * 64 + 0, 64, 0⟩
/-! CS_CTRL (R526). -/
@[reducible] def F.CS_CTRL_ARM : Fld := ⟨0x30000B5000 * 64 + 63, 1, 0⟩
@[reducible] def F.CS_CTRL_NOW : Fld := ⟨0x30000B5000 * 64 + 62, 1, 0⟩
@[reducible] def F.CS_CTRL_NEXT : Fld := ⟨0x30000B5000 * 64 + 61, 1, 0⟩
@[reducible] def F.CS_CTRL_STEP : Fld := ⟨0x30000B5000 * 64 + 0, 32, 0x00000000⟩
/-! CS_STATUS (R526). -/
@[reducible] def F.CS_STATUS_STEP : Fld := ⟨0x30000B5008 * 64 + 32, 32, 0x00000000⟩
@[reducible] def F.CS_STATUS_FRAME_STATE : Fld := ⟨0x30000B5008 * 64 + 5, 3, 0x0⟩
@[reducible] def F.CS_STATUS_VALID : Fld := ⟨0x30000B5008 * 64 + 1, 1, 0⟩
@[reducible] def F.CS_STATUS_ARMED : Fld := ⟨0x30000B5008 * 64 + 0, 1, 0⟩
/-! CS_NS (R526). -/
@[reducible] def F.CS_NS_NS : Fld := ⟨0x30000B5010 * 64 + 0, 64, 0⟩
/-! TB_CTRL (R526). -/
@[reducible] def F.TB_CTRL_MEASURE : Fld := ⟨0x30000B5020 * 64 + 0, 1, 0⟩
/-! TB_STATUS (R526). -/
@[reducible] def F.TB_STATUS_CODE : Fld := ⟨0x30000B5028 * 64 + 48, 16, 0x0000⟩
@[reducible] def F.TB_STATUS_SPREAD : Fld := ⟨0x30000B5028 * 64 + 16, 32, 0x00000000⟩
@[reducible] def F.TB_STATUS_DONE : Fld := ⟨0x30000B5028 * 64 + 1, 1, 0⟩
@[reducible] def F.TB_STATUS_BUSY : Fld := ⟨0x30000B5028 * 64 + 0, 1, 0⟩
/-! TB_OFFSET (R526). -/
@[reducible] def F.TB_OFFSET_OFFSET_NS : Fld := ⟨0x30000B5030 * 64 + 0, 64, 0⟩
/-! JNL_HEAD (R526). -/
@[reducible] def F.JNL_HEAD_HEAD : Fld := ⟨0x30000B6000 * 64 + 0, 32, 0x00000000⟩
/-! JNL_TAIL (R526). -/
@[reducible] def F.JNL_TAIL_TAIL : Fld := ⟨0x30000B6008 * 64 + 0, 32, 0x00000000⟩
/-! JNL_STATUS (R526). -/
@[reducible] def F.JNL_STATUS_SEEN : Fld := ⟨0x30000B6010 * 64 + 56, 8, 0x00⟩
@[reducible] def F.JNL_STATUS_QUEUED : Fld := ⟨0x30000B6010 * 64 + 32, 9, 0x000⟩
@[reducible] def F.JNL_STATUS_NO_ROOM : Fld := ⟨0x30000B6010 * 64 + 1, 1, 0⟩
@[reducible] def F.JNL_STATUS_FULL : Fld := ⟨0x30000B6010 * 64 + 0, 1, 0⟩
/-! JNL_CTRL (R526). -/
@[reducible] def F.JNL_CTRL_CLEAR_SEEN : Fld := ⟨0x30000B6018 * 64 + 0, 1, 0⟩
/-! JNL_LOST (R526). -/
@[reducible] def F.JNL_LOST_LOST (k : Nat) (j : Nat) : Fld := ⟨(0x30000B6020 + 8 * k) * 64 + 32 * j, 32, 0x00000000⟩
/-! JNL_ALERT (R526). -/
@[reducible] def F.JNL_ALERT_MASK : Fld := ⟨0x30000B6040 * 64 + 0, 8, 0xB4⟩
/-! EXP_CTRL (R526). -/
@[reducible] def F.EXP_CTRL_ARM (n : Nat) : Fld := ⟨(aDieBase n + 0xE0000) * 64 + 63, 1, 0⟩
@[reducible] def F.EXP_CTRL_STOP (n : Nat) : Fld := ⟨(aDieBase n + 0xE0000) * 64 + 62, 1, 0⟩
@[reducible] def F.EXP_CTRL_FRAMES (n : Nat) : Fld := ⟨(aDieBase n + 0xE0000) * 64 + 0, 8, 0x01⟩
/-! EXP_WINDOW (R526). -/
@[reducible] def F.EXP_WINDOW_END (n : Nat) : Fld := ⟨(aDieBase n + 0xE0008) * 64 + 32, 32, 0x00000000⟩
@[reducible] def F.EXP_WINDOW_START (n : Nat) : Fld := ⟨(aDieBase n + 0xE0008) * 64 + 0, 32, 0x00000000⟩
/-! EXP_MASK (R526). -/
@[reducible] def F.EXP_MASK_EVENTS (n : Nat) : Fld := ⟨(aDieBase n + 0xE0010) * 64 + 0, 8, 0x0C⟩
/-! EXP_RING (R526). -/
@[reducible] def F.EXP_RING_COUNT (n : Nat) : Fld := ⟨(aDieBase n + 0xE0018) * 64 + 56, 8, 0x01⟩
@[reducible] def F.EXP_RING_BASE (n : Nat) : Fld := ⟨(aDieBase n + 0xE0018) * 64 + 0, 52, 0⟩
/-! EXP_STATUS (R526). -/
@[reducible] def F.EXP_STATUS_WRITTEN (n : Nat) : Fld := ⟨(aDieBase n + 0xE0020) * 64 + 32, 32, 0x00000000⟩
@[reducible] def F.EXP_STATUS_SKIPPED (n : Nat) : Fld := ⟨(aDieBase n + 0xE0020) * 64 + 3, 1, 0⟩
@[reducible] def F.EXP_STATUS_DRAINING (n : Nat) : Fld := ⟨(aDieBase n + 0xE0020) * 64 + 2, 1, 0⟩
@[reducible] def F.EXP_STATUS_CAPTURING (n : Nat) : Fld := ⟨(aDieBase n + 0xE0020) * 64 + 1, 1, 0⟩
@[reducible] def F.EXP_STATUS_ARMED (n : Nat) : Fld := ⟨(aDieBase n + 0xE0020) * 64 + 0, 1, 0⟩
/-! BOOT_STATUS (R567). -/
@[reducible] def F.BOOT_STATUS_REASON : Fld := ⟨0x50000 * 64 + 48, 16, 0⟩
@[reducible] def F.BOOT_STATUS_ATTEMPTS : Fld := ⟨0x50000 * 64 + 32, 8, 0⟩
@[reducible] def F.BOOT_STATUS_FW_SVN : Fld := ⟨0x50000 * 64 + 24, 8, 0x00⟩
@[reducible] def F.BOOT_STATUS_FUSE_SVN : Fld := ⟨0x50000 * 64 + 17, 7, 0⟩
@[reducible] def F.BOOT_STATUS_OWNED : Fld := ⟨0x50000 * 64 + 16, 1, 0⟩
@[reducible] def F.BOOT_STATUS_MODE : Fld := ⟨0x50000 * 64 + 0, 2, 0x0⟩
/-! TELLER_STATUS (R567). -/
@[reducible] def F.TELLER_STATUS_UNPROTECTED (p : Nat) : Fld := ⟨(0x10000 + 0x10000 * p) * 64 + 32, 32, 0x00000000⟩
@[reducible] def F.TELLER_STATUS_IDE (p : Nat) : Fld := ⟨(0x10000 + 0x10000 * p) * 64 + 16, 1, 0⟩
@[reducible] def F.TELLER_STATUS_SESSIONS (p : Nat) : Fld := ⟨(0x10000 + 0x10000 * p) * 64 + 12, 4, 0x0⟩
@[reducible] def F.TELLER_STATUS_SLOT_DONE (p : Nat) : Fld := ⟨(0x10000 + 0x10000 * p) * 64 + 8, 4, 0x0⟩
@[reducible] def F.TELLER_STATUS_SLOT_PENDING (p : Nat) : Fld := ⟨(0x10000 + 0x10000 * p) * 64 + 4, 4, 0x0⟩
@[reducible] def F.TELLER_STATUS_TICKETS (p : Nat) : Fld := ⟨(0x10000 + 0x10000 * p) * 64 + 0, 4, 0x0⟩
/-! TELLER_DOORBELL (R567). -/
@[reducible] def F.TELLER_DOORBELL_SUBMIT (p : Nat) : Fld := ⟨(0x10008 + 0x10000 * p) * 64 + 0, 4, 0x0⟩
/-! HOST_RING (R567). -/
@[reducible] def F.HOST_RING_RING (p : Nat) : Fld := ⟨(0x10010 + 0x10000 * p) * 64 + 0, 64, 0⟩
/-! ALERT_POS (R567). -/
@[reducible] def F.ALERT_POS_EN (p : Nat) : Fld := ⟨(0x10018 + 0x10000 * p) * 64 + 63, 1, 0⟩
@[reducible] def F.ALERT_POS_LOST (p : Nat) : Fld := ⟨(0x10018 + 0x10000 * p) * 64 + 16, 16, 0x0000⟩
@[reducible] def F.ALERT_POS_TAIL (p : Nat) : Fld := ⟨(0x10018 + 0x10000 * p) * 64 + 8, 8, 0x00⟩
@[reducible] def F.ALERT_POS_HEAD (p : Nat) : Fld := ⟨(0x10018 + 0x10000 * p) * 64 + 0, 8, 0x00⟩
/-! HOSTPORT_STATUS (R568). -/
@[reducible] def F.HOSTPORT_STATUS_LDS : Fld := ⟨0x3000060000 * 64 + 24, 8, 0x00⟩
@[reducible] def F.HOSTPORT_STATUS_WIDTH : Fld := ⟨0x3000060000 * 64 + 16, 8, 0x00⟩
@[reducible] def F.HOSTPORT_STATUS_RATE : Fld := ⟨0x3000060000 * 64 + 8, 8, 0x00⟩
@[reducible] def F.HOSTPORT_STATUS_PERST : Fld := ⟨0x3000060000 * 64 + 1, 1, 0⟩
@[reducible] def F.HOSTPORT_STATUS_UP : Fld := ⟨0x3000060000 * 64 + 0, 1, 0⟩
/-! T3PORT_STATUS (R568). -/
@[reducible] def F.T3PORT_STATUS_MAPPED_GB : Fld := ⟨0x3000060008 * 64 + 48, 16, 0x0000⟩
@[reducible] def F.T3PORT_STATUS_WIDTH : Fld := ⟨0x3000060008 * 64 + 16, 8, 0x00⟩
@[reducible] def F.T3PORT_STATUS_RATE : Fld := ⟨0x3000060008 * 64 + 8, 8, 0x00⟩
@[reducible] def F.T3PORT_STATUS_UP : Fld := ⟨0x3000060008 * 64 + 0, 1, 0⟩
/-! CSMPORT_STATUS (R568). -/
@[reducible] def F.CSMPORT_STATUS_WIDTH : Fld := ⟨0x3000060010 * 64 + 16, 8, 0x00⟩
@[reducible] def F.CSMPORT_STATUS_RATE : Fld := ⟨0x3000060010 * 64 + 8, 8, 0x00⟩
@[reducible] def F.CSMPORT_STATUS_PRESENT : Fld := ⟨0x3000060010 * 64 + 2, 1, 0⟩
@[reducible] def F.CSMPORT_STATUS_NVME_READY : Fld := ⟨0x3000060010 * 64 + 1, 1, 0⟩
@[reducible] def F.CSMPORT_STATUS_UP : Fld := ⟨0x3000060010 * 64 + 0, 1, 0⟩
/-! CSM_LBS (R568). -/
@[reducible] def F.CSM_LBS_LBS : Fld := ⟨0x3000060018 * 64 + 0, 64, 0⟩
/-! XPORT_ERR (R568). -/
@[reducible] def F.XPORT_ERR_CORRECTED (i : Nat) : Fld := ⟨(0x3000060020 + 8 * i) * 64 + 32, 32, 0x00000000⟩
@[reducible] def F.XPORT_ERR_UNCORRECTABLE (i : Nat) : Fld := ⟨(0x3000060020 + 8 * i) * 64 + 0, 32, 0x00000000⟩
/-! HSE_COUNT (R568). -/
@[reducible] def F.HSE_COUNT_SIGNATURES : Fld := ⟨0x30000A0000 * 64 + 32, 32, 0x00000000⟩
@[reducible] def F.HSE_COUNT_VERIFICATIONS : Fld := ⟨0x30000A0000 * 64 + 0, 32, 0x00000000⟩
/-! HSE_STATUS (R568). -/
@[reducible] def F.HSE_STATUS_FAILED : Fld := ⟨0x30000A0008 * 64 + 32, 32, 0x00000000⟩
@[reducible] def F.HSE_STATUS_KEM_BUSY : Fld := ⟨0x30000A0008 * 64 + 2, 1, 0⟩
@[reducible] def F.HSE_STATUS_SIGN_BUSY : Fld := ⟨0x30000A0008 * 64 + 1, 1, 0⟩
@[reducible] def F.HSE_STATUS_HASH_BUSY : Fld := ⟨0x30000A0008 * 64 + 0, 1, 0⟩
/-! RB_STATUS (R592). -/
@[reducible] def F.RB_STATUS_RSEQ : Fld := ⟨0x70000 * 64 + 32, 32, 0⟩
@[reducible] def F.RB_STATUS_FREE : Fld := ⟨0x70000 * 64 + 24, 8, 122⟩
@[reducible] def F.RB_STATUS_HALF : Fld := ⟨0x70000 * 64 + 2, 1, 0⟩
@[reducible] def F.RB_STATUS_WRITING : Fld := ⟨0x70000 * 64 + 1, 1, 0⟩
@[reducible] def F.RB_STATUS_DIRTY : Fld := ⟨0x70000 * 64 + 0, 1, 0⟩
/-! RB_POLICY (R592). -/
@[reducible] def F.RB_POLICY_AUTO : Fld := ⟨0x70008 * 64 + 1, 8, 0xFF⟩
/-! CAL_STATUS (R592). -/
@[reducible] def F.CAL_STATUS_CAL_SEQ : Fld := ⟨0x70018 * 64 + 32, 32, 0⟩
@[reducible] def F.CAL_STATUS_SOURCE : Fld := ⟨0x70018 * 64 + 2, 2, 0⟩
@[reducible] def F.CAL_STATUS_WRITING : Fld := ⟨0x70018 * 64 + 1, 1, 0⟩
@[reducible] def F.CAL_STATUS_VALID : Fld := ⟨0x70018 * 64 + 0, 1, 0⟩
/-! DARK_STATUS (R592). -/
@[reducible] def F.DARK_STATUS_PIECES : Fld := ⟨0x70020 * 64 + 32, 32, 0x00000000⟩
@[reducible] def F.DARK_STATUS_DEFERRED : Fld := ⟨0x70020 * 64 + 0, 32, 0x00000000⟩
/-! RB_DIGEST (R592). -/
@[reducible] def F.RB_DIGEST_DIGEST (k : Nat) : Fld := ⟨(0x70040 + 8 * k) * 64 + 0, 64, 0⟩
/-! F-die CVU registers (R206, R217, R430). -/
@[reducible] def F.FCVU_CFG_POLY (c : Nat) : Fld := ⟨(0x3000000100 + 8 * c) * 64 + 0, 2, 0x0⟩
@[reducible] def F.FCVU_VAL_VALUE (c : Nat) : Fld := ⟨(0x3000000200 + 8 * c) * 64 + 0, 64, 0⟩
/-! CSM-path CVU registers (R206, R217, R497). -/
@[reducible] def F.CSM_CVU_CFG_POLY (c : Nat) : Fld := ⟨(0x3000068100 + 8 * c) * 64 + 0, 2, 0x0⟩
@[reducible] def F.CSM_CVU_VAL_VALUE (c : Nat) : Fld := ⟨(0x3000068200 + 8 * c) * 64 + 0, 64, 0⟩

def D.PKG_ID : RegD := ⟨false, [
  ⟨F.PKG_ID_VENDOR, 48, .ro, 0, 65535, 1⟩,
  ⟨F.PKG_ID_PART, 32, .ro, 0, 65535, 1⟩,
  ⟨F.PKG_ID_GRADE, 28, .ro, 0, 15, 1⟩,
  ⟨F.PKG_ID_STEPPING, 24, .ro, 0, 15, 1⟩,
  ⟨F.PKG_ID_ACLK_NOM, 16, .ro, 0, 255, 1⟩]⟩
def D.GST_CTRL (p : Nat) : RegD := ⟨false, [
  ⟨F.GST_CTRL_OVR_POLICY p, 3, .rw, 0, 1, 1⟩,
  ⟨F.GST_CTRL_ENABLE p, 2, .rw, 0, 1, 1⟩,
  ⟨F.GST_CTRL_ROLE p, 0, .rw, 0, 2, 1⟩]⟩
def D.GST_PERIOD (p : Nat) : RegD := ⟨false, [
  ⟨F.GST_PERIOD_PERIOD_NS p, 0, .rw, 50000, 4000000000, 1⟩]⟩
def D.GST_STEP (p : Nat) : RegD := ⟨false, [
  ⟨F.GST_STEP_PENDING p, 32, .ro, 0, 7, 1⟩,
  ⟨F.GST_STEP_STEP p, 0, .ro, 0, 4294967295, 1⟩]⟩
def D.GST_NS (p : Nat) : RegD := ⟨false, [
  ⟨F.GST_NS_NS p, 0, .ro, 0, 18446744073709551615, 1⟩]⟩
def D.GST_TICK_NS (p : Nat) : RegD := ⟨false, [
  ⟨F.GST_TICK_NS_ARRIVAL p, 0, .ro, 0, 18446744073709551615, 1⟩]⟩
def D.GST_DISC (p : Nat) : RegD := ⟨false, [
  ⟨F.GST_DISC_RATE_ADJ p, 16, .ro, 0, 4294967295, 1⟩,
  ⟨F.GST_DISC_LOCKED p, 0, .ro, 0, 1, 1⟩]⟩
def D.GST_ROOTS (p : Nat) : RegD := ⟨false, [
  ⟨F.GST_ROOTS_ON_STANDBY p, 63, .ro, 0, 1, 1⟩,
  ⟨F.GST_ROOTS_STANDBY_VALID p, 60, .rw, 0, 1, 1⟩,
  ⟨F.GST_ROOTS_STANDBY p, 32, .rw, 0, 268435455, 1⟩,
  ⟨F.GST_ROOTS_ROOT p, 0, .rw, 0, 268435455, 1⟩]⟩
def D.FRAME_LEN (p : Nat) : RegD := ⟨true, [
  ⟨F.FRAME_LEN_DARK_LEN p, 32, .rw, 0, 4294967295, 1⟩,
  ⟨F.FRAME_LEN_LEN p, 0, .rw, 0, 4294967295, 1⟩]⟩
def D.FRAME_EXPECT (p : Nat) : RegD := ⟨true, [
  ⟨F.FRAME_EXPECT_EXPECT p, 0, .rw, 0, 4294967295, 1⟩]⟩
def D.FRAME_STATUS (p : Nat) : RegD := ⟨false, [
  ⟨F.FRAME_STATUS_FRAME_STEP p, 32, .ro, 0, 4294967295, 1⟩,
  ⟨F.FRAME_STATUS_BACKLOG p, 7, .w1c, 0, 1, 1⟩,
  ⟨F.FRAME_STATUS_DEVIATION p, 6, .w1c, 0, 1, 1⟩,
  ⟨F.FRAME_STATUS_LATE_START p, 5, .w1c, 0, 1, 1⟩,
  ⟨F.FRAME_STATUS_DARK_SKIPPED p, 4, .w1c, 0, 1, 1⟩,
  ⟨F.FRAME_STATUS_OVERRUN p, 3, .w1c, 0, 1, 1⟩,
  ⟨F.FRAME_STATUS_STATE p, 0, .ro, 0, 7, 1⟩]⟩
def D.FRAME_CLOSE (p : Nat) : RegD := ⟨false, [
  ⟨F.FRAME_CLOSE_SLIP_CYCLES p, 32, .ro, 0, 4294967295, 1⟩,
  ⟨F.FRAME_CLOSE_CLOSE_CYCLE p, 0, .ro, 0, 4294967295, 1⟩]⟩
def D.FRAME_RUN (p : Nat) : RegD := ⟨false, [
  ⟨F.FRAME_RUN_RESUME p, 0, .wo, 0, 1, 1⟩]⟩
def D.MXA_CAP (n : Nat) : RegD := ⟨false, [
  ⟨F.MXA_CAP_SPARE_COLS n, 56, .ro, 0, 15, 1⟩,
  ⟨F.MXA_CAP_SPARE_ROWS n, 48, .ro, 0, 255, 1⟩,
  ⟨F.MXA_CAP_ACF_ENTRIES n, 32, .ro, 0, 65535, 1⟩,
  ⟨F.MXA_CAP_COLS n, 16, .ro, 0, 65535, 1⟩,
  ⟨F.MXA_CAP_ROWS n, 0, .ro, 0, 65535, 1⟩]⟩
def D.MXA_STATUS (n : Nat) : RegD := ⟨false, [
  ⟨F.MXA_STATUS_ACF_CORRECTED n, 16, .w1c, 0, 1, 1⟩,
  ⟨F.MXA_STATUS_LG_DROPPED n, 15, .w1c, 0, 1, 1⟩,
  ⟨F.MXA_STATUS_SLICE_ROUNDED n, 14, .w1c, 0, 1, 1⟩,
  ⟨F.MXA_STATUS_ACC_SAT n, 13, .w1c, 0, 1, 1⟩,
  ⟨F.MXA_STATUS_ACC_TRUNC n, 12, .w1c, 0, 1, 1⟩,
  ⟨F.MXA_STATUS_INEXACT n, 11, .w1c, 0, 1, 1⟩,
  ⟨F.MXA_STATUS_UNDERFLOW n, 10, .w1c, 0, 1, 1⟩,
  ⟨F.MXA_STATUS_OVERFLOW n, 9, .w1c, 0, 1, 1⟩,
  ⟨F.MXA_STATUS_INVALID n, 8, .w1c, 0, 1, 1⟩,
  ⟨F.MXA_STATUS_SHADOW_VALID n, 3, .ro, 0, 1, 1⟩,
  ⟨F.MXA_STATUS_ACTIVE_PLANE n, 2, .ro, 0, 1, 1⟩,
  ⟨F.MXA_STATUS_DEGRADED n, 1, .ro, 0, 1, 1⟩,
  ⟨F.MXA_STATUS_BUSY n, 0, .ro, 0, 1, 1⟩]⟩
def D.MXA_SPARES (n : Nat) : RegD := ⟨false, [
  ⟨F.MXA_SPARES_EXHAUSTED n, 12, .ro, 0, 1, 1⟩,
  ⟨F.MXA_SPARES_COLS_IN_USE n, 8, .ro, 0, 15, 1⟩,
  ⟨F.MXA_SPARES_ROWS_IN_USE n, 0, .ro, 0, 255, 1⟩]⟩
def D.MXA_ACF_ERR (n : Nat) : RegD := ⟨false, [
  ⟨F.MXA_ACF_ERR_COUNT n, 32, .ro, 0, 65535, 1⟩,
  ⟨F.MXA_ACF_ERR_COLUMN n, 12, .ro, 0, 511, 1⟩,
  ⟨F.MXA_ACF_ERR_ENTRY n, 0, .ro, 0, 4095, 1⟩]⟩
def D.SXE_CAP (n : Nat) : RegD := ⟨false, [
  ⟨F.SXE_CAP_STAGES n, 40, .ro, 0, 255, 1⟩,
  ⟨F.SXE_CAP_STREAMS n, 32, .ro, 0, 255, 1⟩,
  ⟨F.SXE_CAP_SEG_LEN n, 16, .ro, 0, 65535, 1⟩,
  ⟨F.SXE_CAP_LANES n, 0, .ro, 0, 65535, 1⟩]⟩
def D.SXE_STATUS (n : Nat) : RegD := ⟨false, [
  ⟨F.SXE_STATUS_ACF_WAIT n, 13, .w1c, 0, 1, 1⟩,
  ⟨F.SXE_STATUS_DIVZERO n, 12, .w1c, 0, 1, 1⟩,
  ⟨F.SXE_STATUS_INEXACT n, 11, .w1c, 0, 1, 1⟩,
  ⟨F.SXE_STATUS_UNDERFLOW n, 10, .w1c, 0, 1, 1⟩,
  ⟨F.SXE_STATUS_OVERFLOW n, 9, .w1c, 0, 1, 1⟩,
  ⟨F.SXE_STATUS_INVALID n, 8, .w1c, 0, 1, 1⟩,
  ⟨F.SXE_STATUS_HOLDING n, 1, .ro, 0, 1, 1⟩,
  ⟨F.SXE_STATUS_BUSY n, 0, .ro, 0, 1, 1⟩]⟩
def D.SXE_POS (n : Nat) : RegD := ⟨false, [
  ⟨F.SXE_POS_ROW n, 44, .ro, 0, 1048575, 1⟩,
  ⟨F.SXE_POS_SEGMENT n, 31, .ro, 0, 8191, 1⟩,
  ⟨F.SXE_POS_SLEN n, 0, .ro, 0, 4095, 1⟩]⟩
def D.SXE_HOLD (n : Nat) : RegD := ⟨false, [
  ⟨F.SXE_HOLD_HELD_COUNT n, 16, .ro, 0, 8191, 1⟩,
  ⟨F.SXE_HOLD_FIRST_HELD n, 0, .ro, 0, 4095, 1⟩]⟩
def D.SPM_CAP (n : Nat) : RegD := ⟨false, [
  ⟨F.SPM_CAP_SPARE_BANKS n, 40, .ro, 0, 255, 1⟩,
  ⟨F.SPM_CAP_PHASES n, 32, .ro, 0, 255, 1⟩,
  ⟨F.SPM_CAP_BANKS n, 16, .ro, 0, 65535, 1⟩,
  ⟨F.SPM_CAP_GRANULE n, 0, .ro, 0, 65535, 1⟩]⟩
def D.SPM_STATUS (n : Nat) : RegD := ⟨false, [
  ⟨F.SPM_STATUS_CORRECTED n, 32, .ro, 0, 4294967295, 1⟩,
  ⟨F.SPM_STATUS_COLLISION n, 4, .w1c, 0, 1, 1⟩,
  ⟨F.SPM_STATUS_OVERLOAD n, 3, .w1c, 0, 1, 1⟩,
  ⟨F.SPM_STATUS_UNCORRECTABLE n, 2, .w1c, 0, 1, 1⟩,
  ⟨F.SPM_STATUS_MIGRATING n, 1, .ro, 0, 1, 1⟩,
  ⟨F.SPM_STATUS_DEGRADED n, 0, .ro, 0, 1, 1⟩]⟩
def D.SPM_SPARES (n : Nat) : RegD := ⟨false, [
  ⟨F.SPM_SPARES_EXHAUSTED n, 8, .ro, 0, 1, 1⟩,
  ⟨F.SPM_SPARES_IN_USE n, 0, .ro, 0, 255, 1⟩]⟩
def D.SPM_SPAREMAP (n : Nat) : RegD := ⟨false, [
  ⟨F.SPM_SPAREMAP_BANK n 0, 0, .ro, 0, 255, 1⟩,
  ⟨F.SPM_SPAREMAP_BANK n 1, 8, .ro, 0, 255, 1⟩,
  ⟨F.SPM_SPAREMAP_BANK n 2, 16, .ro, 0, 255, 1⟩,
  ⟨F.SPM_SPAREMAP_BANK n 3, 24, .ro, 0, 255, 1⟩,
  ⟨F.SPM_SPAREMAP_BANK n 4, 32, .ro, 0, 255, 1⟩,
  ⟨F.SPM_SPAREMAP_BANK n 5, 40, .ro, 0, 255, 1⟩,
  ⟨F.SPM_SPAREMAP_BANK n 6, 48, .ro, 0, 255, 1⟩,
  ⟨F.SPM_SPAREMAP_BANK n 7, 56, .ro, 0, 255, 1⟩]⟩
def D.MOV_STATUS (n : Nat) (m : Nat) : RegD := ⟨false, [
  ⟨F.MOV_STATUS_FAULT_CODE n m, 48, .ro, 0, 65535, 1⟩,
  ⟨F.MOV_STATUS_DESC_INDEX n m, 40, .ro, 0, 255, 1⟩,
  ⟨F.MOV_STATUS_CV_MISMATCH n m, 3, .w1c, 0, 1, 1⟩,
  ⟨F.MOV_STATUS_RETRIED n m, 2, .w1c, 0, 1, 1⟩,
  ⟨F.MOV_STATUS_FAULTED n m, 1, .w1c, 0, 1, 1⟩,
  ⟨F.MOV_STATUS_BUSY n m, 0, .ro, 0, 1, 1⟩]⟩
def D.MOV_RETRY (n : Nat) (m : Nat) : RegD := ⟨false, [
  ⟨F.MOV_RETRY_CYCLES n m, 32, .ro, 0, 4294967295, 1⟩,
  ⟨F.MOV_RETRY_COUNT n m, 0, .ro, 0, 4294967295, 1⟩]⟩
def D.CVU_CFG (n : Nat) (m : Nat) (c : Nat) : RegD := ⟨true, [
  ⟨F.CVU_CFG_POLY n m c, 0, .rw, 0, 2, 1⟩]⟩
def D.CVU_VAL (n : Nat) (m : Nat) (c : Nat) : RegD := ⟨true, [
  ⟨F.CVU_VAL_VALUE n m c, 0, .rw, 0, 18446744073709551615, 1⟩]⟩
def D.SLINK_STATUS (e : Nat) (l : Nat) : RegD := ⟨false, [
  ⟨F.SLINK_STATUS_REPLAYS e l, 32, .ro, 0, 4294967295, 1⟩,
  ⟨F.SLINK_STATUS_LANES_SPARED e l, 8, .ro, 0, 15, 1⟩,
  ⟨F.SLINK_STATUS_UP e l, 0, .ro, 0, 1, 1⟩]⟩
def D.ADIE_ID (n : Nat) : RegD := ⟨false, [
  ⟨F.ADIE_ID_DIE n, 0, .ro, 0, 3, 1⟩]⟩
def D.SCU_CTRL (n : Nat) : RegD := ⟨true, [
  ⟨F.SCU_CTRL_RERUN_MAX n, 4, .rw, 0, 3, 1⟩,
  ⟨F.SCU_CTRL_FAIL_POLICY n, 3, .rw, 0, 1, 1⟩,
  ⟨F.SCU_CTRL_ABORT n, 0, .wo, 0, 1, 1⟩]⟩
def D.SCU_STATUS (n : Nat) : RegD := ⟨false, [
  ⟨F.SCU_STATUS_NEXT_INDEX n, 32, .ro, 0, 8191, 1⟩,
  ⟨F.SCU_STATUS_RERUNS n, 8, .ro, 0, 3, 1⟩,
  ⟨F.SCU_STATUS_SWITCH_ARMED n, 7, .ro, 0, 1, 1⟩,
  ⟨F.SCU_STATUS_NEXT_VALID n, 6, .ro, 0, 1, 1⟩,
  ⟨F.SCU_STATUS_ACTIVE_BANK n, 5, .ro, 0, 1, 1⟩,
  ⟨F.SCU_STATUS_COMPAT n, 4, .ro, 0, 1, 1⟩,
  ⟨F.SCU_STATUS_COMMITTED n, 3, .ro, 0, 1, 1⟩,
  ⟨F.SCU_STATUS_RERUN n, 2, .ro, 0, 1, 1⟩,
  ⟨F.SCU_STATUS_WAITING n, 1, .ro, 0, 1, 1⟩,
  ⟨F.SCU_STATUS_RUNNING n, 0, .ro, 0, 1, 1⟩]⟩
def D.SCU_STEP (n : Nat) : RegD := ⟨true, [
  ⟨F.SCU_STEP_LAG n, 32, .ro, 0, 4294967295, 1⟩,
  ⟨F.SCU_STEP_JOB_STEP n, 0, .rw, 0, 4294967295, 1⟩]⟩
def D.SCU_LOAD (n : Nat) : RegD := ⟨false, [
  ⟨F.SCU_LOAD_GO n, 63, .wo, 0, 1, 1⟩,
  ⟨F.SCU_LOAD_ACTIVATE n, 62, .rw, 0, 1, 1⟩,
  ⟨F.SCU_LOAD_BANK n, 61, .rw, 0, 1, 1⟩,
  ⟨F.SCU_LOAD_SRC n, 0, .rw, 0, 4503599627370495, 64⟩]⟩
def D.SCU_LOAD_STATUS (n : Nat) : RegD := ⟨false, [
  ⟨F.SCU_LOAD_STATUS_CODE n, 48, .ro, 0, 65535, 1⟩,
  ⟨F.SCU_LOAD_STATUS_UNIT_CODE n, 32, .ro, 0, 65535, 1⟩,
  ⟨F.SCU_LOAD_STATUS_CMD_INDEX n, 16, .ro, 0, 65535, 1⟩,
  ⟨F.SCU_LOAD_STATUS_BANK n, 2, .ro, 0, 1, 1⟩,
  ⟨F.SCU_LOAD_STATUS_DONE n, 1, .w1c, 0, 1, 1⟩,
  ⟨F.SCU_LOAD_STATUS_BUSY n, 0, .ro, 0, 1, 1⟩]⟩
def D.SCU_FAULT (n : Nat) : RegD := ⟨false, [
  ⟨F.SCU_FAULT_CODE n, 48, .ro, 0, 65535, 1⟩,
  ⟨F.SCU_FAULT_CMD_INDEX n, 32, .ro, 0, 65535, 1⟩,
  ⟨F.SCU_FAULT_CYCLE n, 0, .ro, 0, 4294967295, 1⟩]⟩
def D.SCU_PLAN (n : Nat) (b : Nat) : RegD := ⟨false, [
  ⟨F.SCU_PLAN_PLAN_ID n b, 0, .ro, 0, 18446744073709551615, 1⟩]⟩
def D.SCU_SIG (n : Nat) (k : Nat) : RegD := ⟨false, [
  ⟨F.SCU_SIG_COUNT n k 0, 0, .ro, 0, 65535, 1⟩,
  ⟨F.SCU_SIG_COUNT n k 1, 16, .ro, 0, 65535, 1⟩,
  ⟨F.SCU_SIG_COUNT n k 2, 32, .ro, 0, 65535, 1⟩,
  ⟨F.SCU_SIG_COUNT n k 3, 48, .ro, 0, 65535, 1⟩]⟩
def D.SVE_CAP : RegD := ⟨false, [
  ⟨F.SVE_CAP_SCHED_ENTRIES, 32, .ro, 0, 65535, 1⟩,
  ⟨F.SVE_CAP_SRAM_MIB, 24, .ro, 0, 255, 1⟩,
  ⟨F.SVE_CAP_FP64_FMA, 12, .ro, 0, 4095, 1⟩,
  ⟨F.SVE_CAP_FP32_FMA, 0, .ro, 0, 4095, 1⟩]⟩
def D.SVE_STATUS : RegD := ⟨false, [
  ⟨F.SVE_STATUS_ENTRY, 48, .ro, 0, 255, 1⟩,
  ⟨F.SVE_STATUS_LATE_RESULT, 9, .w1c, 0, 1, 1⟩,
  ⟨F.SVE_STATUS_WARM_REJECTED, 8, .w1c, 0, 1, 1⟩,
  ⟨F.SVE_STATUS_PIVOT_TINY, 7, .w1c, 0, 1, 1⟩,
  ⟨F.SVE_STATUS_DEADLINE_HIT, 6, .w1c, 0, 1, 1⟩,
  ⟨F.SVE_STATUS_FAULTED, 5, .w1c, 0, 1, 1⟩,
  ⟨F.SVE_STATUS_ACTIVE_BANK, 2, .ro, 0, 1, 1⟩,
  ⟨F.SVE_STATUS_WAITING, 1, .ro, 0, 1, 1⟩,
  ⟨F.SVE_STATUS_BUSY, 0, .ro, 0, 1, 1⟩]⟩
def D.SVE_CLOCK : RegD := ⟨false, [
  ⟨F.SVE_CLOCK_WAIT, 32, .ro, 0, 4294967295, 1⟩,
  ⟨F.SVE_CLOCK_PCLOCK, 0, .ro, 0, 4294967295, 1⟩]⟩
def D.SVE_LAST : RegD := ⟨false, [
  ⟨F.SVE_LAST_STATUS, 48, .ro, 0, 65535, 1⟩,
  ⟨F.SVE_LAST_PROBLEM, 32, .ro, 0, 65535, 1⟩,
  ⟨F.SVE_LAST_ITERATIONS, 0, .ro, 0, 4294967295, 1⟩]⟩
def D.SVE_LOAD : RegD := ⟨false, [
  ⟨F.SVE_LOAD_GO, 63, .wo, 0, 1, 1⟩,
  ⟨F.SVE_LOAD_BANK, 61, .rw, 0, 1, 1⟩,
  ⟨F.SVE_LOAD_SRC, 0, .rw, 0, 4503599627370495, 64⟩]⟩
def D.SVE_LOAD_STATUS : RegD := ⟨false, [
  ⟨F.SVE_LOAD_STATUS_CODE, 48, .ro, 0, 65535, 1⟩,
  ⟨F.SVE_LOAD_STATUS_ENTRY, 32, .ro, 0, 65535, 1⟩,
  ⟨F.SVE_LOAD_STATUS_BANK, 2, .ro, 0, 1, 1⟩,
  ⟨F.SVE_LOAD_STATUS_DONE, 1, .w1c, 0, 1, 1⟩,
  ⟨F.SVE_LOAD_STATUS_BUSY, 0, .ro, 0, 1, 1⟩]⟩
def D.SVE_PLAN (b : Nat) : RegD := ⟨false, [
  ⟨F.SVE_PLAN_PLAN_ID b, 0, .ro, 0, 18446744073709551615, 1⟩]⟩
def D.SVE_FAULT : RegD := ⟨false, [
  ⟨F.SVE_FAULT_CODE, 48, .ro, 0, 65535, 1⟩,
  ⟨F.SVE_FAULT_PROBLEM, 32, .ro, 0, 65535, 1⟩,
  ⟨F.SVE_FAULT_CYCLE, 0, .ro, 0, 4294967295, 1⟩]⟩
def D.SVE_SRAM_ERR : RegD := ⟨false, [
  ⟨F.SVE_SRAM_ERR_COUNT, 32, .ro, 0, 4294967295, 1⟩,
  ⟨F.SVE_SRAM_ERR_OFFSET, 0, .ro, 0, 134217727, 1⟩]⟩
def D.PDIE_CAP : RegD := ⟨false, [
  ⟨F.PDIE_CAP_XS_MAX_MIB, 40, .ro, 0, 255, 1⟩,
  ⟨F.PDIE_CAP_LS_MAX_WAYS, 32, .ro, 0, 255, 1⟩,
  ⟨F.PDIE_CAP_CORE_CLK_NOM, 24, .ro, 0, 255, 1⟩,
  ⟨F.PDIE_CAP_SPARE_CORES, 8, .ro, 0, 255, 1⟩,
  ⟨F.PDIE_CAP_CORES, 0, .ro, 0, 255, 1⟩]⟩
def D.PIN_CFG : RegD := ⟨false, [
  ⟨F.PIN_CFG_XS_MIB, 8, .rw, 0, 24, 1⟩,
  ⟨F.PIN_CFG_LS_WAYS, 0, .rw, 0, 12, 1⟩]⟩
def D.CLK_STATUS : RegD := ⟨false, [
  ⟨F.CLK_STATUS_STEPS, 32, .ro, 0, 4294967295, 1⟩,
  ⟨F.CLK_STATUS_CORE_CLK, 0, .ro, 0, 255, 1⟩]⟩
def D.CORE_LOAD : RegD := ⟨false, [
  ⟨F.CORE_LOAD_GO, 63, .wo, 0, 1, 1⟩,
  ⟨F.CORE_LOAD_BANK, 61, .rw, 0, 1, 1⟩,
  ⟨F.CORE_LOAD_SRC, 0, .rw, 0, 4503599627370495, 64⟩]⟩
def D.CORE_LOAD_STATUS : RegD := ⟨false, [
  ⟨F.CORE_LOAD_STATUS_CODE, 48, .ro, 0, 65535, 1⟩,
  ⟨F.CORE_LOAD_STATUS_ENTRY, 32, .ro, 0, 65535, 1⟩,
  ⟨F.CORE_LOAD_STATUS_BANK, 2, .ro, 0, 1, 1⟩,
  ⟨F.CORE_LOAD_STATUS_DONE, 1, .w1c, 0, 1, 1⟩,
  ⟨F.CORE_LOAD_STATUS_BUSY, 0, .ro, 0, 1, 1⟩]⟩
def D.CORE_PLAN (b : Nat) : RegD := ⟨false, [
  ⟨F.CORE_PLAN_PLAN_ID b, 0, .ro, 0, 18446744073709551615, 1⟩]⟩
def D.CORE_FAULT : RegD := ⟨false, [
  ⟨F.CORE_FAULT_CODE, 48, .ro, 0, 65535, 1⟩,
  ⟨F.CORE_FAULT_EVENT, 32, .ro, 0, 65535, 1⟩,
  ⟨F.CORE_FAULT_CYCLE, 0, .ro, 0, 4294967295, 1⟩]⟩
def D.CORE_MAP (k : Nat) : RegD := ⟨false, [
  ⟨F.CORE_MAP_PHYS k 0, 0, .ro, 0, 255, 1⟩,
  ⟨F.CORE_MAP_PHYS k 1, 8, .ro, 0, 255, 1⟩,
  ⟨F.CORE_MAP_PHYS k 2, 16, .ro, 0, 255, 1⟩,
  ⟨F.CORE_MAP_PHYS k 3, 24, .ro, 0, 255, 1⟩,
  ⟨F.CORE_MAP_PHYS k 4, 32, .ro, 0, 255, 1⟩,
  ⟨F.CORE_MAP_PHYS k 5, 40, .ro, 0, 255, 1⟩,
  ⟨F.CORE_MAP_PHYS k 6, 48, .ro, 0, 255, 1⟩,
  ⟨F.CORE_MAP_PHYS k 7, 56, .ro, 0, 255, 1⟩]⟩
def D.CORE_SPARES : RegD := ⟨false, [
  ⟨F.CORE_SPARES_EXHAUSTED, 4, .ro, 0, 1, 1⟩,
  ⟨F.CORE_SPARES_IN_USE, 0, .ro, 0, 15, 1⟩]⟩
def D.CORE_STATUS (c : Nat) : RegD := ⟨false, [
  ⟨F.CORE_STATUS_EVENT c, 48, .ro, 0, 65535, 1⟩,
  ⟨F.CORE_STATUS_CAUSE c, 32, .ro, 0, 65535, 1⟩,
  ⟨F.CORE_STATUS_ABSENT c, 7, .ro, 0, 1, 1⟩,
  ⟨F.CORE_STATUS_FAULTED c, 6, .w1c, 0, 1, 1⟩,
  ⟨F.CORE_STATUS_PIN_BROKEN c, 5, .w1c, 0, 1, 1⟩,
  ⟨F.CORE_STATUS_PINNED c, 4, .ro, 0, 1, 1⟩,
  ⟨F.CORE_STATUS_RUNNING c, 3, .ro, 0, 1, 1⟩]⟩
def D.HBM_STATUS (n : Nat) (s : Nat) : RegD := ⟨false, [
  ⟨F.HBM_STATUS_DIE_PCS n s, 56, .ro, 0, 255, 1⟩,
  ⟨F.HBM_STATUS_EXPOSED n s, 48, .ro, 0, 255, 1⟩,
  ⟨F.HBM_STATUS_TEMP n s, 40, .ro, 0, 255, 1⟩,
  ⟨F.HBM_STATUS_RESERVES_LEFT n s, 32, .ro, 0, 3, 1⟩,
  ⟨F.HBM_STATUS_MIGRATING n s, 7, .ro, 0, 1, 1⟩,
  ⟨F.HBM_STATUS_MAPPED_OUT n s, 6, .w1c, 0, 1, 1⟩,
  ⟨F.HBM_STATUS_RESERVE_USED n s, 5, .w1c, 0, 1, 1⟩,
  ⟨F.HBM_STATUS_UNCORRECTABLE n s, 4, .w1c, 0, 1, 1⟩,
  ⟨F.HBM_STATUS_REREAD n s, 3, .w1c, 0, 1, 1⟩,
  ⟨F.HBM_STATUS_SCRUB_PASS n s, 2, .w1c, 0, 1, 1⟩,
  ⟨F.HBM_STATUS_NEXT_VALID n s, 1, .ro, 0, 1, 1⟩,
  ⟨F.HBM_STATUS_PLAN_ACTIVE n s, 0, .ro, 0, 1, 1⟩]⟩
def D.HBM_ERR (n : Nat) (s : Nat) : RegD := ⟨false, [
  ⟨F.HBM_ERR_CORRECTED n s, 32, .ro, 0, 4294967295, 1⟩,
  ⟨F.HBM_ERR_ONDIE n s, 0, .ro, 0, 4294967295, 1⟩]⟩
def D.HBM_RETIRE (n : Nat) (s : Nat) : RegD := ⟨false, [
  ⟨F.HBM_RETIRE_GO n s, 63, .wo, 0, 1, 1⟩,
  ⟨F.HBM_RETIRE_PIECES_DONE n s, 48, .ro, 0, 4095, 1⟩,
  ⟨F.HBM_RETIRE_PC n s, 0, .rw, 0, 31, 1⟩]⟩
def D.CACHE_CNT (n : Nat) (s : Nat) : RegD := ⟨false, [
  ⟨F.CACHE_CNT_HITS n s, 32, .ro, 0, 4294967295, 1⟩,
  ⟨F.CACHE_CNT_KEEP_CONFLICTS n s, 0, .ro, 0, 4294967295, 1⟩]⟩
def D.HBM_PCMAP (n : Nat) (s : Nat) (k : Nat) : RegD := ⟨false, [
  ⟨F.HBM_PCMAP_STATE n s k 0, 0, .ro, 0, 255, 1⟩,
  ⟨F.HBM_PCMAP_STATE n s k 1, 8, .ro, 0, 255, 1⟩,
  ⟨F.HBM_PCMAP_STATE n s k 2, 16, .ro, 0, 255, 1⟩,
  ⟨F.HBM_PCMAP_STATE n s k 3, 24, .ro, 0, 255, 1⟩,
  ⟨F.HBM_PCMAP_STATE n s k 4, 32, .ro, 0, 255, 1⟩,
  ⟨F.HBM_PCMAP_STATE n s k 5, 40, .ro, 0, 255, 1⟩,
  ⟨F.HBM_PCMAP_STATE n s k 6, 48, .ro, 0, 255, 1⟩,
  ⟨F.HBM_PCMAP_STATE n s k 7, 56, .ro, 0, 255, 1⟩]⟩
def D.PMOV_LOAD : RegD := ⟨false, [
  ⟨F.PMOV_LOAD_GO, 63, .wo, 0, 1, 1⟩,
  ⟨F.PMOV_LOAD_BANK, 61, .rw, 0, 1, 1⟩,
  ⟨F.PMOV_LOAD_SRC, 0, .rw, 0, 4503599627370495, 64⟩]⟩
def D.PMOV_LOAD_STATUS : RegD := ⟨false, [
  ⟨F.PMOV_LOAD_STATUS_CODE, 48, .ro, 0, 65535, 1⟩,
  ⟨F.PMOV_LOAD_STATUS_ENTRY, 32, .ro, 0, 65535, 1⟩,
  ⟨F.PMOV_LOAD_STATUS_UNIT_CODE, 16, .ro, 0, 65535, 1⟩,
  ⟨F.PMOV_LOAD_STATUS_BANK, 2, .ro, 0, 1, 1⟩,
  ⟨F.PMOV_LOAD_STATUS_DONE, 1, .w1c, 0, 1, 1⟩,
  ⟨F.PMOV_LOAD_STATUS_BUSY, 0, .ro, 0, 1, 1⟩]⟩
def D.PMOV_PLAN (b : Nat) : RegD := ⟨false, [
  ⟨F.PMOV_PLAN_PLAN_ID b, 0, .ro, 0, 18446744073709551615, 1⟩]⟩
def D.PMOV_STATUS (c : Nat) : RegD := ⟨false, [
  ⟨F.PMOV_STATUS_FAULT_CODE c, 48, .ro, 0, 65535, 1⟩,
  ⟨F.PMOV_STATUS_XFER c, 32, .ro, 0, 65535, 1⟩,
  ⟨F.PMOV_STATUS_RETRIED c, 2, .w1c, 0, 1, 1⟩,
  ⟨F.PMOV_STATUS_FAULTED c, 1, .w1c, 0, 1, 1⟩,
  ⟨F.PMOV_STATUS_BUSY c, 0, .ro, 0, 1, 1⟩]⟩
def D.MIG_SRC : RegD := ⟨false, [
  ⟨F.MIG_SRC_ADDR, 0, .rw, 0, 4503599627370495, 64⟩]⟩
def D.MIG_DST : RegD := ⟨false, [
  ⟨F.MIG_DST_ADDR, 0, .rw, 0, 4503599627370495, 64⟩]⟩
def D.MIG_CTRL : RegD := ⟨false, [
  ⟨F.MIG_CTRL_GO, 63, .wo, 0, 1, 1⟩,
  ⟨F.MIG_CTRL_DONE, 62, .w1c, 0, 1, 1⟩,
  ⟨F.MIG_CTRL_BUSY, 61, .ro, 0, 1, 1⟩,
  ⟨F.MIG_CTRL_FAILED, 60, .w1c, 0, 1, 1⟩,
  ⟨F.MIG_CTRL_CODE, 44, .ro, 0, 65535, 1⟩,
  ⟨F.MIG_CTRL_BYTES, 0, .rw, 0, 1099511627775, 64⟩]⟩
def D.T2_CAP : RegD := ⟨false, [
  ⟨F.T2_CAP_GB_PER_CHANNEL, 32, .ro, 0, 65535, 1⟩,
  ⟨F.T2_CAP_CHANNELS, 0, .ro, 0, 255, 1⟩]⟩
def D.T2_ERR : RegD := ⟨false, [
  ⟨F.T2_ERR_CORRECTED, 32, .ro, 0, 4294967295, 1⟩,
  ⟨F.T2_ERR_UNCORRECTABLE, 0, .ro, 0, 4294967295, 1⟩]⟩
def D.TH_STATUS : RegD := ⟨false, [
  ⟨F.TH_STATUS_LEVEL, 56, .ro, 0, 15, 1⟩,
  ⟨F.TH_STATUS_ACLK, 48, .ro, 0, 255, 1⟩,
  ⟨F.TH_STATUS_HEADROOM, 40, .ro, 0, 255, 1⟩,
  ⟨F.TH_STATUS_SENSOR, 32, .ro, 0, 15, 1⟩,
  ⟨F.TH_STATUS_STEPS, 16, .ro, 0, 65535, 1⟩,
  ⟨F.TH_STATUS_TRIPPED, 1, .ro, 0, 1, 1⟩,
  ⟨F.TH_STATUS_FLOOR, 0, .w1c, 0, 1, 1⟩]⟩
def D.TH_CTRL : RegD := ⟨false, [
  ⟨F.TH_CTRL_RESTART, 7, .wo, 0, 1, 1⟩,
  ⟨F.TH_CTRL_MIN_LEVEL, 0, .rw, 0, 15, 1⟩]⟩
def D.TH_TEMP (k : Nat) : RegD := ⟨false, [
  ⟨F.TH_TEMP_T k 0, 0, .ro, 0, 255, 1⟩,
  ⟨F.TH_TEMP_T k 1, 8, .ro, 0, 255, 1⟩,
  ⟨F.TH_TEMP_T k 2, 16, .ro, 0, 255, 1⟩,
  ⟨F.TH_TEMP_T k 3, 24, .ro, 0, 255, 1⟩,
  ⟨F.TH_TEMP_T k 4, 32, .ro, 0, 255, 1⟩,
  ⟨F.TH_TEMP_T k 5, 40, .ro, 0, 255, 1⟩,
  ⟨F.TH_TEMP_T k 6, 48, .ro, 0, 255, 1⟩,
  ⟨F.TH_TEMP_T k 7, 56, .ro, 0, 255, 1⟩]⟩
def D.FAB_NODE (p : Nat) : RegD := ⟨false, [
  ⟨F.FAB_NODE_VALID p, 28, .ro, 0, 1, 1⟩,
  ⟨F.FAB_NODE_NODE p, 0, .ro, 0, 268435455, 1⟩]⟩
def D.FAB_CTRL : RegD := ⟨false, [
  ⟨F.FAB_CTRL_SAVE, 4, .wo, 0, 1, 1⟩,
  ⟨F.FAB_CTRL_APPLY, 3, .wo, 0, 1, 1⟩,
  ⟨F.FAB_CTRL_DISCOVER, 2, .wo, 0, 1, 1⟩,
  ⟨F.FAB_CTRL_ENABLE, 0, .rw, 0, 1, 1⟩]⟩
def D.FAB_SETUP_ADDR : RegD := ⟨false, [
  ⟨F.FAB_SETUP_ADDR_ADDR, 0, .rw, 0, 4503599627370495, 64⟩]⟩
def D.FAB_SETUP_STATUS : RegD := ⟨false, [
  ⟨F.FAB_SETUP_STATUS_CODE, 48, .ro, 0, 65535, 1⟩,
  ⟨F.FAB_SETUP_STATUS_STATE, 4, .ro, 0, 3, 1⟩,
  ⟨F.FAB_SETUP_STATUS_DONE, 1, .w1c, 0, 1, 1⟩,
  ⟨F.FAB_SETUP_STATUS_BUSY, 0, .ro, 0, 1, 1⟩]⟩
def D.FAB_DIGEST (k : Nat) : RegD := ⟨false, [
  ⟨F.FAB_DIGEST_DIGEST k, 0, .ro, 0, 18446744073709551615, 1⟩]⟩
def D.FAB_TIMEOUT : RegD := ⟨false, [
  ⟨F.FAB_TIMEOUT_L3_US, 32, .rw, 1, 65535, 1⟩,
  ⟨F.FAB_TIMEOUT_L2_US, 16, .rw, 1, 65535, 1⟩,
  ⟨F.FAB_TIMEOUT_L1_US, 0, .rw, 1, 65535, 1⟩]⟩
def D.FAB_VCW : RegD := ⟨false, [
  ⟨F.FAB_VCW_W 0, 0, .rw, 1, 255, 1⟩,
  ⟨F.FAB_VCW_W 1, 8, .rw, 1, 255, 1⟩,
  ⟨F.FAB_VCW_W 2, 16, .rw, 1, 255, 1⟩,
  ⟨F.FAB_VCW_W 3, 24, .rw, 1, 255, 1⟩,
  ⟨F.FAB_VCW_W 4, 32, .rw, 1, 255, 1⟩,
  ⟨F.FAB_VCW_W 5, 40, .rw, 1, 255, 1⟩]⟩
def D.FAB_SAT : RegD := ⟨false, [
  ⟨F.FAB_SAT_SAT_NS, 0, .rw, 0, 4294967295, 1⟩]⟩
def D.FAB_REFUSED : RegD := ⟨false, [
  ⟨F.FAB_REFUSED_KEY, 32, .ro, 0, 4294967295, 1⟩,
  ⟨F.FAB_REFUSED_OTHER, 0, .ro, 0, 4294967295, 1⟩]⟩
def D.PORT_STATUS (p : Nat) : RegD := ⟨false, [
  ⟨F.PORT_STATUS_NEIGHBOUR p, 36, .ro, 0, 268435455, 1⟩,
  ⟨F.PORT_STATUS_NBR_VALID p, 32, .ro, 0, 1, 1⟩,
  ⟨F.PORT_STATUS_ACTIVE p, 14, .ro, 0, 511, 1⟩,
  ⟨F.PORT_STATUS_FAILED p, 5, .ro, 0, 511, 1⟩,
  ⟨F.PORT_STATUS_LEVEL p, 3, .ro, 0, 3, 1⟩,
  ⟨F.PORT_STATUS_STATE p, 0, .ro, 0, 7, 1⟩]⟩
def D.PORT_ERR (p : Nat) : RegD := ⟨false, [
  ⟨F.PORT_ERR_CORRECTED p, 32, .ro, 0, 4294967295, 1⟩,
  ⟨F.PORT_ERR_DROPPED p, 16, .ro, 0, 65535, 1⟩,
  ⟨F.PORT_ERR_REPLAYS p, 0, .ro, 0, 65535, 1⟩]⟩
def D.PORT_CTRL (p : Nat) : RegD := ⟨false, [
  ⟨F.PORT_CTRL_RETRAIN p, 1, .wo, 0, 1, 1⟩,
  ⟨F.PORT_CTRL_DISABLE p, 0, .rw, 0, 1, 1⟩]⟩
def D.TBL_SEL : RegD := ⟨false, [
  ⟨F.TBL_SEL_WRITE, 63, .wo, 0, 1, 1⟩,
  ⟨F.TBL_SEL_READ, 62, .wo, 0, 1, 1⟩,
  ⟨F.TBL_SEL_TABLE, 16, .rw, 0, 4, 1⟩,
  ⟨F.TBL_SEL_INDEX, 0, .rw, 0, 65535, 1⟩]⟩
def D.TBL_DATA (w : Nat) : RegD := ⟨false, [
  ⟨F.TBL_DATA_DATA w, 0, .rw, 0, 18446744073709551615, 1⟩]⟩
def D.CONG_STALL (l : Nat) (v : Nat) : RegD := ⟨false, [
  ⟨F.CONG_STALL_COUNT l v, 0, .ro, 0, 18446744073709551615, 1⟩]⟩
def D.CONG_BYTES (l : Nat) (v : Nat) : RegD := ⟨false, [
  ⟨F.CONG_BYTES_COUNT l v, 0, .ro, 0, 18446744073709551615, 1⟩]⟩
def D.GW_CTRL (g : Nat) : RegD := ⟨false, [
  ⟨F.GW_CTRL_GATHER_NS g, 0, .rw, 100, 10000, 1⟩]⟩
def D.GW_STATUS (g : Nat) : RegD := ⟨false, [
  ⟨F.GW_STATUS_BULKS g, 32, .ro, 0, 4294967295, 1⟩,
  ⟨F.GW_STATUS_OPEN g, 16, .ro, 0, 511, 1⟩,
  ⟨F.GW_STATUS_HOLDING g, 0, .ro, 0, 1, 1⟩]⟩
def D.RE_CAP : RegD := ⟨false, [
  ⟨F.RE_CAP_GROUPS, 40, .ro, 0, 255, 1⟩,
  ⟨F.RE_CAP_SCALAR_SLOTS, 24, .ro, 0, 65535, 1⟩,
  ⟨F.RE_CAP_SLOT_KIB, 12, .ro, 0, 4095, 1⟩,
  ⟨F.RE_CAP_BULK_SLOTS, 0, .ro, 0, 4095, 1⟩]⟩
def D.RE_STATUS : RegD := ⟨false, [
  ⟨F.RE_STATUS_SLOTS_HIGH, 32, .ro, 0, 511, 1⟩,
  ⟨F.RE_STATUS_SLOTS_IN_USE, 16, .ro, 0, 511, 1⟩,
  ⟨F.RE_STATUS_SCALAR_IN_USE, 0, .ro, 0, 8191, 1⟩]⟩
def D.RE_SPILL : RegD := ⟨false, [
  ⟨F.RE_SPILL_CHUNKS, 32, .ro, 0, 4294967295, 1⟩,
  ⟨F.RE_SPILL_SPILLED, 0, .w1c, 0, 1, 1⟩]⟩
def D.RE_CTRL : RegD := ⟨true, [
  ⟨F.RE_CTRL_BCAST_WAIT_US, 0, .rw, 1, 65535, 1⟩]⟩
def D.GRP_SEQ (g : Nat) : RegD := ⟨false, [
  ⟨F.GRP_SEQ_POSTED g, 32, .ro, 0, 4294967295, 1⟩,
  ⟨F.GRP_SEQ_COMPLETED g, 0, .ro, 0, 4294967295, 1⟩]⟩
def D.NIC_CTRL (k : Nat) : RegD := ⟨true, [
  ⟨F.NIC_CTRL_IRQ_EN k, 3, .rw, 0, 1, 1⟩,
  ⟨F.NIC_CTRL_CORE_DRIVEN k, 2, .rw, 0, 1, 1⟩,
  ⟨F.NIC_CTRL_ENABLE k, 0, .rw, 0, 1, 1⟩]⟩
def D.NIC_QBASE (k : Nat) : RegD := ⟨true, [
  ⟨F.NIC_QBASE_LOG2_SIZE k, 60, .rw, 4, 12, 1⟩,
  ⟨F.NIC_QBASE_BASE k, 0, .rw, 0, 4503599627370495, 4096⟩]⟩
def D.NIC_QPOS (k : Nat) : RegD := ⟨false, [
  ⟨F.NIC_QPOS_TAIL k, 32, .ro, 0, 4095, 1⟩,
  ⟨F.NIC_QPOS_HEAD k, 0, .ro, 0, 4095, 1⟩]⟩
def D.NIC_STATUS (k : Nat) : RegD := ⟨false, [
  ⟨F.NIC_STATUS_LAST_CODE k, 48, .ro, 0, 65535, 1⟩,
  ⟨F.NIC_STATUS_FAILED k, 7, .w1c, 0, 1, 1⟩,
  ⟨F.NIC_STATUS_REJECTED k, 6, .w1c, 0, 1, 1⟩,
  ⟨F.NIC_STATUS_BUSY k, 0, .ro, 0, 1, 1⟩]⟩
def D.NIC_DONE (k : Nat) : RegD := ⟨false, [
  ⟨F.NIC_DONE_COUNT k, 0, .ro, 0, 18446744073709551615, 1⟩]⟩
def D.TOT_LOAD : RegD := ⟨false, [
  ⟨F.TOT_LOAD_GO, 63, .wo, 0, 1, 1⟩,
  ⟨F.TOT_LOAD_CTX, 52, .rw, 0, 7, 1⟩,
  ⟨F.TOT_LOAD_SRC, 0, .rw, 0, 4503599627370495, 64⟩]⟩
def D.TOT_LOAD_STATUS : RegD := ⟨false, [
  ⟨F.TOT_LOAD_STATUS_CODE, 48, .ro, 0, 65535, 1⟩,
  ⟨F.TOT_LOAD_STATUS_ENTRY, 32, .ro, 0, 65535, 1⟩,
  ⟨F.TOT_LOAD_STATUS_DONE, 1, .w1c, 0, 1, 1⟩,
  ⟨F.TOT_LOAD_STATUS_BUSY, 0, .ro, 0, 1, 1⟩]⟩
def D.TOT_SEL : RegD := ⟨false, [
  ⟨F.TOT_SEL_READ, 63, .wo, 0, 1, 1⟩,
  ⟨F.TOT_SEL_CTX, 10, .rw, 0, 7, 1⟩,
  ⟨F.TOT_SEL_INDEX, 0, .rw, 0, 1023, 1⟩]⟩
def D.TOT_DATA0 : RegD := ⟨false, [
  ⟨F.TOT_DATA0_THRESHOLD, 32, .ro, 0, 4294967295, 1⟩,
  ⟨F.TOT_DATA0_COUNT, 0, .ro, 0, 4294967295, 1⟩]⟩
def D.TOT_DATA1 : RegD := ⟨false, [
  ⟨F.TOT_DATA1_FIRED, 63, .ro, 0, 1, 1⟩,
  ⟨F.TOT_DATA1_DONE, 62, .ro, 0, 1, 1⟩,
  ⟨F.TOT_DATA1_FAILED, 61, .ro, 0, 1, 1⟩,
  ⟨F.TOT_DATA1_RECORD, 0, .ro, 0, 4503599627370495, 1⟩]⟩
def D.TOT_DATA2 : RegD := ⟨false, [
  ⟨F.TOT_DATA2_CODE, 48, .ro, 0, 65535, 1⟩,
  ⟨F.TOT_DATA2_FENCE, 16, .ro, 0, 65535, 1⟩,
  ⟨F.TOT_DATA2_CHAIN, 0, .ro, 0, 65535, 1⟩]⟩
def D.CKPT_CTRL (p : Nat) : RegD := ⟨false, [
  ⟨F.CKPT_CTRL_GO p, 63, .wo, 0, 1, 1⟩,
  ⟨F.CKPT_CTRL_ABANDON p, 62, .wo, 0, 1, 1⟩,
  ⟨F.CKPT_CTRL_OP p, 0, .rw, 1, 3, 1⟩]⟩
def D.CKPT_LIST (p : Nat) : RegD := ⟨false, [
  ⟨F.CKPT_LIST_ADDR p, 0, .rw, 0, 4503599627370495, 4096⟩]⟩
def D.CKPT_STATUS (p : Nat) : RegD := ⟨false, [
  ⟨F.CKPT_STATUS_CODE p, 48, .ro, 0, 65535, 1⟩,
  ⟨F.CKPT_STATUS_ENTRY p, 32, .ro, 0, 65535, 1⟩,
  ⟨F.CKPT_STATUS_REFUSED p, 16, .ro, 0, 65535, 1⟩,
  ⟨F.CKPT_STATUS_PHASE p, 4, .ro, 0, 15, 1⟩,
  ⟨F.CKPT_STATUS_DONE p, 1, .w1c, 0, 1, 1⟩,
  ⟨F.CKPT_STATUS_BUSY p, 0, .ro, 0, 1, 1⟩]⟩
def D.CKPT_SLOTS (p : Nat) : RegD := ⟨false, [
  ⟨F.CKPT_SLOTS_STEP p, 32, .ro, 0, 4294967295, 1⟩,
  ⟨F.CKPT_SLOTS_MIR_NEWEST p, 7, .ro, 0, 1, 1⟩,
  ⟨F.CKPT_SLOTS_OWN_NEWEST p, 6, .ro, 0, 1, 1⟩,
  ⟨F.CKPT_SLOTS_MIR_COMMITTED p, 2, .ro, 0, 3, 1⟩,
  ⟨F.CKPT_SLOTS_OWN_COMMITTED p, 0, .ro, 0, 3, 1⟩]⟩
def D.CKPT_MIRROR (p : Nat) : RegD := ⟨false, [
  ⟨F.CKPT_MIRROR_VALID p, 63, .rw, 0, 1, 1⟩,
  ⟨F.CKPT_MIRROR_VC p, 60, .rw, 2, 7, 1⟩,
  ⟨F.CKPT_MIRROR_BUDDY p, 32, .rw, 0, 268435455, 1⟩,
  ⟨F.CKPT_MIRROR_ORIGIN p, 0, .rw, 0, 268435455, 1⟩]⟩
def D.CKPT_TIMEOUT (p : Nat) : RegD := ⟨false, [
  ⟨F.CKPT_TIMEOUT_MIRROR_MS p, 0, .rw, 1, 65535, 1⟩]⟩
def D.CKPT_RING (p : Nat) : RegD := ⟨false, [
  ⟨F.CKPT_RING_REGION p, 52, .rw, 0, 4095, 1⟩,
  ⟨F.CKPT_RING_ADDR p, 0, .rw, 0, 4503599627370495, 4096⟩]⟩
def D.CNT (e : Nat) (i : Nat) : RegD := ⟨false, [
  ⟨F.CNT_COUNT e i, 0, .ro, 0, 18446744073709551615, 1⟩]⟩
def D.SHEET (e : Nat) (i : Nat) : RegD := ⟨false, [
  ⟨F.SHEET_VALUE e i, 0, .ro, 0, 18446744073709551615, 1⟩]⟩
def D.CS_MASK (e : Nat) (k : Nat) : RegD := ⟨false, [
  ⟨F.CS_MASK_SEL e k, 0, .rw, 0, 18446744073709551615, 1⟩]⟩
def D.CS_CTRL : RegD := ⟨false, [
  ⟨F.CS_CTRL_ARM, 63, .wo, 0, 1, 1⟩,
  ⟨F.CS_CTRL_NOW, 62, .wo, 0, 1, 1⟩,
  ⟨F.CS_CTRL_NEXT, 61, .rw, 0, 1, 1⟩,
  ⟨F.CS_CTRL_STEP, 0, .rw, 0, 4294967295, 1⟩]⟩
def D.CS_STATUS : RegD := ⟨false, [
  ⟨F.CS_STATUS_STEP, 32, .ro, 0, 4294967295, 1⟩,
  ⟨F.CS_STATUS_FRAME_STATE, 5, .ro, 0, 7, 1⟩,
  ⟨F.CS_STATUS_VALID, 1, .ro, 0, 1, 1⟩,
  ⟨F.CS_STATUS_ARMED, 0, .ro, 0, 1, 1⟩]⟩
def D.CS_NS : RegD := ⟨false, [
  ⟨F.CS_NS_NS, 0, .ro, 0, 18446744073709551615, 1⟩]⟩
def D.TB_CTRL : RegD := ⟨false, [
  ⟨F.TB_CTRL_MEASURE, 0, .wo, 0, 1, 1⟩]⟩
def D.TB_STATUS : RegD := ⟨false, [
  ⟨F.TB_STATUS_CODE, 48, .ro, 0, 65535, 1⟩,
  ⟨F.TB_STATUS_SPREAD, 16, .ro, 0, 4294967295, 1⟩,
  ⟨F.TB_STATUS_DONE, 1, .w1c, 0, 1, 1⟩,
  ⟨F.TB_STATUS_BUSY, 0, .ro, 0, 1, 1⟩]⟩
def D.TB_OFFSET : RegD := ⟨false, [
  ⟨F.TB_OFFSET_OFFSET_NS, 0, .ro, 0, 18446744073709551615, 1⟩]⟩
def D.JNL_HEAD : RegD := ⟨false, [
  ⟨F.JNL_HEAD_HEAD, 0, .rw, 0, 4294967295, 1⟩]⟩
def D.JNL_TAIL : RegD := ⟨false, [
  ⟨F.JNL_TAIL_TAIL, 0, .ro, 0, 4294967295, 1⟩]⟩
def D.JNL_STATUS : RegD := ⟨false, [
  ⟨F.JNL_STATUS_SEEN, 56, .ro, 0, 255, 1⟩,
  ⟨F.JNL_STATUS_QUEUED, 32, .ro, 0, 511, 1⟩,
  ⟨F.JNL_STATUS_NO_ROOM, 1, .ro, 0, 1, 1⟩,
  ⟨F.JNL_STATUS_FULL, 0, .w1c, 0, 1, 1⟩]⟩
def D.JNL_CTRL : RegD := ⟨false, [
  ⟨F.JNL_CTRL_CLEAR_SEEN, 0, .wo, 0, 1, 1⟩]⟩
def D.JNL_LOST (k : Nat) : RegD := ⟨false, [
  ⟨F.JNL_LOST_LOST k 0, 0, .ro, 0, 4294967295, 1⟩,
  ⟨F.JNL_LOST_LOST k 1, 32, .ro, 0, 4294967295, 1⟩]⟩
def D.JNL_ALERT : RegD := ⟨false, [
  ⟨F.JNL_ALERT_MASK, 0, .rw, 0, 255, 1⟩]⟩
def D.EXP_CTRL (n : Nat) : RegD := ⟨true, [
  ⟨F.EXP_CTRL_ARM n, 63, .wo, 0, 1, 1⟩,
  ⟨F.EXP_CTRL_STOP n, 62, .wo, 0, 1, 1⟩,
  ⟨F.EXP_CTRL_FRAMES n, 0, .rw, 0, 255, 1⟩]⟩
def D.EXP_WINDOW (n : Nat) : RegD := ⟨true, [
  ⟨F.EXP_WINDOW_END n, 32, .rw, 0, 4294967295, 1⟩,
  ⟨F.EXP_WINDOW_START n, 0, .rw, 0, 4294967295, 1⟩]⟩
def D.EXP_MASK (n : Nat) : RegD := ⟨true, [
  ⟨F.EXP_MASK_EVENTS n, 0, .rw, 0, 255, 1⟩]⟩
def D.EXP_RING (n : Nat) : RegD := ⟨true, [
  ⟨F.EXP_RING_COUNT n, 56, .rw, 0, 255, 1⟩,
  ⟨F.EXP_RING_BASE n, 0, .rw, 0, 4503599627370495, 1⟩]⟩
def D.EXP_STATUS (n : Nat) : RegD := ⟨false, [
  ⟨F.EXP_STATUS_WRITTEN n, 32, .ro, 0, 4294967295, 1⟩,
  ⟨F.EXP_STATUS_SKIPPED n, 3, .w1c, 0, 1, 1⟩,
  ⟨F.EXP_STATUS_DRAINING n, 2, .ro, 0, 1, 1⟩,
  ⟨F.EXP_STATUS_CAPTURING n, 1, .ro, 0, 1, 1⟩,
  ⟨F.EXP_STATUS_ARMED n, 0, .ro, 0, 1, 1⟩]⟩
def D.BOOT_STATUS : RegD := ⟨false, [
  ⟨F.BOOT_STATUS_REASON, 48, .ro, 0, 65535, 1⟩,
  ⟨F.BOOT_STATUS_ATTEMPTS, 32, .ro, 0, 255, 1⟩,
  ⟨F.BOOT_STATUS_FW_SVN, 24, .ro, 0, 255, 1⟩,
  ⟨F.BOOT_STATUS_FUSE_SVN, 17, .ro, 0, 127, 1⟩,
  ⟨F.BOOT_STATUS_OWNED, 16, .ro, 0, 1, 1⟩,
  ⟨F.BOOT_STATUS_MODE, 0, .ro, 0, 3, 1⟩]⟩
def D.TELLER_STATUS (p : Nat) : RegD := ⟨false, [
  ⟨F.TELLER_STATUS_UNPROTECTED p, 32, .ro, 0, 4294967295, 1⟩,
  ⟨F.TELLER_STATUS_IDE p, 16, .ro, 0, 1, 1⟩,
  ⟨F.TELLER_STATUS_SESSIONS p, 12, .ro, 0, 15, 1⟩,
  ⟨F.TELLER_STATUS_SLOT_DONE p, 8, .w1c, 0, 15, 1⟩,
  ⟨F.TELLER_STATUS_SLOT_PENDING p, 4, .ro, 0, 15, 1⟩,
  ⟨F.TELLER_STATUS_TICKETS p, 0, .ro, 0, 15, 1⟩]⟩
def D.TELLER_DOORBELL (p : Nat) : RegD := ⟨false, [
  ⟨F.TELLER_DOORBELL_SUBMIT p, 0, .wo, 0, 15, 1⟩]⟩
def D.HOST_RING (p : Nat) : RegD := ⟨false, [
  ⟨F.HOST_RING_RING p, 0, .w1s, 0, 18446744073709551615, 1⟩]⟩
def D.ALERT_POS (p : Nat) : RegD := ⟨false, [
  ⟨F.ALERT_POS_EN p, 63, .rw, 0, 1, 1⟩,
  ⟨F.ALERT_POS_LOST p, 16, .ro, 0, 65535, 1⟩,
  ⟨F.ALERT_POS_TAIL p, 8, .ro, 0, 255, 1⟩,
  ⟨F.ALERT_POS_HEAD p, 0, .rw, 0, 255, 1⟩]⟩
def D.HOSTPORT_STATUS : RegD := ⟨false, [
  ⟨F.HOSTPORT_STATUS_LDS, 24, .ro, 0, 255, 1⟩,
  ⟨F.HOSTPORT_STATUS_WIDTH, 16, .ro, 0, 255, 1⟩,
  ⟨F.HOSTPORT_STATUS_RATE, 8, .ro, 0, 255, 1⟩,
  ⟨F.HOSTPORT_STATUS_PERST, 1, .ro, 0, 1, 1⟩,
  ⟨F.HOSTPORT_STATUS_UP, 0, .ro, 0, 1, 1⟩]⟩
def D.T3PORT_STATUS : RegD := ⟨false, [
  ⟨F.T3PORT_STATUS_MAPPED_GB, 48, .ro, 0, 65535, 1⟩,
  ⟨F.T3PORT_STATUS_WIDTH, 16, .ro, 0, 255, 1⟩,
  ⟨F.T3PORT_STATUS_RATE, 8, .ro, 0, 255, 1⟩,
  ⟨F.T3PORT_STATUS_UP, 0, .ro, 0, 1, 1⟩]⟩
def D.CSMPORT_STATUS : RegD := ⟨false, [
  ⟨F.CSMPORT_STATUS_WIDTH, 16, .ro, 0, 255, 1⟩,
  ⟨F.CSMPORT_STATUS_RATE, 8, .ro, 0, 255, 1⟩,
  ⟨F.CSMPORT_STATUS_PRESENT, 2, .ro, 0, 1, 1⟩,
  ⟨F.CSMPORT_STATUS_NVME_READY, 1, .ro, 0, 1, 1⟩,
  ⟨F.CSMPORT_STATUS_UP, 0, .ro, 0, 1, 1⟩]⟩
def D.CSM_LBS : RegD := ⟨false, [
  ⟨F.CSM_LBS_LBS, 0, .ro, 0, 18446744073709551615, 1⟩]⟩
def D.XPORT_ERR (i : Nat) : RegD := ⟨false, [
  ⟨F.XPORT_ERR_CORRECTED i, 32, .ro, 0, 4294967295, 1⟩,
  ⟨F.XPORT_ERR_UNCORRECTABLE i, 0, .ro, 0, 4294967295, 1⟩]⟩
def D.HSE_COUNT : RegD := ⟨false, [
  ⟨F.HSE_COUNT_SIGNATURES, 32, .ro, 0, 4294967295, 1⟩,
  ⟨F.HSE_COUNT_VERIFICATIONS, 0, .ro, 0, 4294967295, 1⟩]⟩
def D.HSE_STATUS : RegD := ⟨false, [
  ⟨F.HSE_STATUS_FAILED, 32, .ro, 0, 4294967295, 1⟩,
  ⟨F.HSE_STATUS_KEM_BUSY, 2, .ro, 0, 1, 1⟩,
  ⟨F.HSE_STATUS_SIGN_BUSY, 1, .ro, 0, 1, 1⟩,
  ⟨F.HSE_STATUS_HASH_BUSY, 0, .ro, 0, 1, 1⟩]⟩
def D.RB_STATUS : RegD := ⟨false, [
  ⟨F.RB_STATUS_RSEQ, 32, .ro, 0, 4294967295, 1⟩,
  ⟨F.RB_STATUS_FREE, 24, .ro, 0, 255, 1⟩,
  ⟨F.RB_STATUS_HALF, 2, .ro, 0, 1, 1⟩,
  ⟨F.RB_STATUS_WRITING, 1, .ro, 0, 1, 1⟩,
  ⟨F.RB_STATUS_DIRTY, 0, .ro, 0, 1, 1⟩]⟩
def D.RB_POLICY : RegD := ⟨false, [
  ⟨F.RB_POLICY_AUTO, 1, .ro, 0, 255, 1⟩]⟩
def D.CAL_STATUS : RegD := ⟨false, [
  ⟨F.CAL_STATUS_CAL_SEQ, 32, .ro, 0, 4294967295, 1⟩,
  ⟨F.CAL_STATUS_SOURCE, 2, .ro, 0, 3, 1⟩,
  ⟨F.CAL_STATUS_WRITING, 1, .ro, 0, 1, 1⟩,
  ⟨F.CAL_STATUS_VALID, 0, .ro, 0, 1, 1⟩]⟩
def D.DARK_STATUS : RegD := ⟨false, [
  ⟨F.DARK_STATUS_PIECES, 32, .ro, 0, 4294967295, 1⟩,
  ⟨F.DARK_STATUS_DEFERRED, 0, .ro, 0, 4294967295, 1⟩]⟩
def D.RB_DIGEST (k : Nat) : RegD := ⟨false, [
  ⟨F.RB_DIGEST_DIGEST k, 0, .ro, 0, 18446744073709551615, 1⟩]⟩
def D.FCVU_CFG (c : Nat) : RegD := ⟨true, [⟨F.FCVU_CFG_POLY c, 0, .rw, 0, 2, 1⟩]⟩
def D.FCVU_VAL (c : Nat) : RegD := ⟨true, [⟨F.FCVU_VAL_VALUE c, 0, .rw, 0, 18446744073709551615, 1⟩]⟩
def D.CSM_CVU_CFG (c : Nat) : RegD := ⟨true, [⟨F.CSM_CVU_CFG_POLY c, 0, .rw, 0, 2, 1⟩]⟩
def D.CSM_CVU_VAL (c : Nat) : RegD := ⟨true, [⟨F.CSM_CVU_VAL_VALUE c, 0, .rw, 0, 18446744073709551615, 1⟩]⟩

/-- Whether an address lies in a management block (R623). -/
def inBlock (a : Nat) : Bool :=
  let b := a / 0x100000000
  b == 0 || (0x10 ≤ b && b ≤ 0x13) || b == 0x20 || b == 0x30

/-- The register at offset `o` of an A-die sub-block. -/
def regOfADie (n sub o : Nat) : Option RegD :=
  match sub with
  | 0 => if o = 0 then some (D.ADIE_ID n) else none
  | 1 =>
    if o = 0 then some (D.SCU_CTRL n) else if o = 8 then some (D.SCU_STATUS n) else if o = 0x10 then some (D.SCU_STEP n)
    else if o = 0x18 then some (D.SCU_LOAD n) else if o = 0x20 then some (D.SCU_LOAD_STATUS n) else if o = 0x28 then some (D.SCU_FAULT n)
    else if o < 0x40 then some (D.SCU_PLAN n ((o - 0x30) / 8)) else if o < 0xC0 then some (D.SCU_SIG n ((o - 0x40) / 8)) else none
  | 2 => if o = 0 then some (D.MXA_CAP n) else if o = 8 then some (D.MXA_STATUS n) else if o = 0x10 then some (D.MXA_SPARES n)
    else if o = 0x18 then some (D.MXA_ACF_ERR n) else none
  | 3 => if o = 0 then some (D.SXE_CAP n) else if o = 8 then some (D.SXE_STATUS n) else if o = 0x10 then some (D.SXE_POS n)
    else if o = 0x18 then some (D.SXE_HOLD n) else none
  | 4 | 5 | 6 | 7 =>
    let m := sub - 4
    if o = 0 then some (D.MOV_STATUS n m) else if o = 8 then some (D.MOV_RETRY n m)
    else if 0x100 ≤ o ∧ o < 0x180 then some (D.CVU_CFG n m ((o - 0x100) / 8))
    else if 0x200 ≤ o ∧ o < 0x280 then some (D.CVU_VAL n m ((o - 0x200) / 8)) else none
  | 8 => if o = 0 then some (D.SPM_CAP n) else if o = 8 then some (D.SPM_STATUS n) else if o = 0x10 then some (D.SPM_SPARES n)
    else if o = 0x18 then some (D.SPM_SPAREMAP n) else none
  | 9 | 10 | 11 =>
    let s := sub - 9
    if o = 0 then some (D.HBM_STATUS n s) else if o = 8 then some (D.HBM_ERR n s) else if o = 0x10 then some (D.HBM_RETIRE n s)
    else if o = 0x18 then some (D.CACHE_CNT n s) else if 0x40 ≤ o ∧ o < 0x60 then some (D.HBM_PCMAP n s ((o - 0x40) / 8)) else none
  | 12 => if o < 40 then some (D.SLINK_STATUS n (o / 8)) else none
  | 13 => if o < 0x2000 then some (D.CNT n (o / 8)) else if o < 0x4000 then some (D.SHEET n ((o - 0x2000) / 8))
    else if o < 0x4080 then some (D.CS_MASK n ((o - 0x4000) / 8)) else none
  | 14 => if o = 0 then some (D.EXP_CTRL n) else if o = 8 then some (D.EXP_WINDOW n) else if o = 0x10 then some (D.EXP_MASK n)
    else if o = 0x18 then some (D.EXP_RING n) else if o = 0x20 then some (D.EXP_STATUS n) else none
  | _ => none

/-- The register at offset `o` of a P-die sub-block. -/
def regOfPDie (sub o : Nat) : Option RegD :=
  match sub with
  | 0 => if o = 0 then some D.PDIE_CAP else if o = 8 then some D.PIN_CFG else if o = 0x10 then some D.CLK_STATUS
    else if o = 0x18 then some D.CORE_LOAD else if o = 0x20 then some D.CORE_LOAD_STATUS
    else if o = 0x28 then some (D.CORE_PLAN 0) else if o = 0x30 then some (D.CORE_PLAN 1) else if o = 0x38 then some D.CORE_FAULT else none
  | 1 => if o < 0x40 then some (D.CORE_MAP (o / 8)) else if o = 0x40 then some D.CORE_SPARES
    else if 0x100 ≤ o ∧ o < 0x300 then some (D.CORE_STATUS ((o - 0x100) / 8)) else none
  | 2 => if o = 0 then some D.SVE_CAP else if o = 8 then some D.SVE_STATUS else if o = 0x10 then some D.SVE_CLOCK
    else if o = 0x18 then some D.SVE_LAST else if o = 0x20 then some D.SVE_LOAD else if o = 0x28 then some D.SVE_LOAD_STATUS
    else if o = 0x30 then some (D.SVE_PLAN 0) else if o = 0x38 then some (D.SVE_PLAN 1)
    else if o = 0x40 then some D.SVE_FAULT else if o = 0x48 then some D.SVE_SRAM_ERR else none
  | 3 => if o = 0 then some D.PMOV_LOAD else if o = 8 then some D.PMOV_LOAD_STATUS
    else if o = 0x10 then some (D.PMOV_PLAN 0) else if o = 0x18 then some (D.PMOV_PLAN 1)
    else if 0x20 ≤ o ∧ o < 0x60 then some (D.PMOV_STATUS ((o - 0x20) / 8))
    else if o = 0x80 then some D.MIG_SRC else if o = 0x88 then some D.MIG_DST else if o = 0x90 then some D.MIG_CTRL else none
  | 4 => if o = 0 then some D.T2_CAP else if o = 8 then some D.T2_ERR else none
  | 5 => if o < 40 then some (D.SLINK_STATUS 4 (o / 8)) else none
  | 6 => if o < 0x1000 then some (D.CNT 4 (o / 8)) else if 0x2000 ≤ o ∧ o < 0x3000 then some (D.SHEET 4 ((o - 0x2000) / 8))
    else if 0x4000 ≤ o ∧ o < 0x4040 then some (D.CS_MASK 4 ((o - 0x4000) / 8)) else none
  | _ => none

/-- The GST and frame register at offset `o` of partition `p`'s copy (R66, R549). (DEDUCED, notes/assumptions/41.md) -/
def regOfGst (p o : Nat) : Option RegD :=
  if o = 0 then some (D.GST_CTRL p) else if o = 8 then some (D.GST_PERIOD p) else if o = 0x10 then some (D.GST_STEP p)
  else if o = 0x18 then some (D.GST_NS p) else if o = 0x20 then some (D.GST_TICK_NS p) else if o = 0x28 then some (D.GST_DISC p)
  else if o = 0x30 then some (D.GST_ROOTS p) else if o = 0x38 then some (D.FRAME_LEN p) else if o = 0x40 then some (D.FRAME_EXPECT p)
  else if o = 0x48 then some (D.FRAME_STATUS p) else if o = 0x50 then some (D.FRAME_CLOSE p) else if o = 0x58 then some (D.FRAME_RUN p) else none

/-- The checkpoint register at offset `o` of partition `p`'s copy (R473, R497). -/
def regOfCkpt (p o : Nat) : Option RegD :=
  if o = 0 then some (D.CKPT_CTRL p) else if o = 8 then some (D.CKPT_LIST p) else if o = 0x10 then some (D.CKPT_STATUS p)
  else if o = 0x18 then some (D.CKPT_SLOTS p) else if o = 0x20 then some (D.CKPT_MIRROR p) else if o = 0x28 then some (D.CKPT_TIMEOUT p)
  else if o = 0x30 then some (D.CKPT_RING p)
  else if p = 0 ∧ 0x100 ≤ o ∧ o < 0x180 then some (D.CSM_CVU_CFG ((o - 0x100) / 8))
  else if p = 0 ∧ 0x200 ≤ o ∧ o < 0x280 then some (D.CSM_CVU_VAL ((o - 0x200) / 8)) else none

/-- The register at offset `o` of an F-die sub-block. -/
def regOfFDie (sub o : Nat) : Option RegD :=
  match sub with
  | 0 => if o < 0x20 then some (D.FAB_NODE (o / 8)) else if o = 0x20 then some D.FAB_CTRL else if o = 0x28 then some D.FAB_SETUP_ADDR
    else if o = 0x30 then some D.FAB_SETUP_STATUS else if 0x40 ≤ o ∧ o < 0x80 then some (D.FAB_DIGEST ((o - 0x40) / 8))
    else if o = 0x80 then some D.FAB_TIMEOUT else if o = 0x88 then some D.FAB_VCW else if o = 0x90 then some D.FAB_SAT
    else if o = 0x98 then some D.FAB_REFUSED else if 0x100 ≤ o ∧ o < 0x180 then some (D.FCVU_CFG ((o - 0x100) / 8))
    else if 0x200 ≤ o ∧ o < 0x280 then some (D.FCVU_VAL ((o - 0x200) / 8)) else none
  | 1 => if o < 0x100 then some (D.PORT_STATUS (o / 8)) else if o < 0x200 then some (D.PORT_ERR ((o - 0x100) / 8))
    else if o < 0x300 then some (D.PORT_CTRL ((o - 0x200) / 8)) else none
  | 2 => if o = 0 then some D.TBL_SEL else if o < 0x28 then some (D.TBL_DATA ((o - 8) / 8))
    else if 0x100 ≤ o ∧ o < 0x1C0 then some (D.CONG_STALL ((o - 0x100) / 0x40) ((o - 0x100) % 0x40 / 8))
    else if 0x200 ≤ o ∧ o < 0x218 then some (D.CONG_BYTES ((o - 0x200) / 8) 0) else none
  | 3 => if o = 0 then some D.RE_CAP else if o = 8 then some D.RE_STATUS else if o = 0x10 then some D.RE_SPILL else if o = 0x18 then some D.RE_CTRL
    else if 0x100 ≤ o ∧ o < 0x300 then some (D.GRP_SEQ ((o - 0x100) / 8)) else none
  | 4 =>
    if o < 0x800 then
      let k := o / 0x100; let r := o % 0x100
      if r = 0 then some (D.NIC_CTRL k) else if r = 8 then some (D.NIC_QBASE k) else if r = 0x10 then some (D.NIC_QPOS k)
      else if r = 0x18 then some (D.NIC_STATUS k) else if r = 0x20 then some (D.NIC_DONE k) else none
    else if o = 0x800 then some D.TOT_LOAD else if o = 0x808 then some D.TOT_LOAD_STATUS else if o = 0x810 then some D.TOT_SEL
    else if o = 0x818 then some D.TOT_DATA0 else if o = 0x820 then some D.TOT_DATA1 else if o = 0x828 then some D.TOT_DATA2 else none
  | 5 => if o < 0x10 then some (D.GW_CTRL (o / 8)) else if o < 0x20 then some (D.GW_STATUS ((o - 0x10) / 8)) else none
  | 6 => if o = 0 then some D.HOSTPORT_STATUS else if o = 8 then some D.T3PORT_STATUS else if o = 0x10 then some D.CSMPORT_STATUS
    else if o = 0x18 then some D.CSM_LBS else if 0x20 ≤ o ∧ o < 0x38 then some (D.XPORT_ERR ((o - 0x20) / 8))
    else if 0x8000 ≤ o ∧ o < 0x9000 then regOfCkpt ((o - 0x8000) / 0x400) ((o - 0x8000) % 0x400) else none
  | 7 => if o < 0x400 then regOfGst (o / 0x100) (o % 0x100) else none
  | 10 => if o = 0 then some D.HSE_COUNT else if o = 8 then some D.HSE_STATUS else none
  | 11 => if o < 0x1000 then some (D.CNT 5 (o / 8)) else if 0x2000 ≤ o ∧ o < 0x3000 then some (D.SHEET 5 ((o - 0x2000) / 8))
    else if 0x4000 ≤ o ∧ o < 0x4040 then some (D.CS_MASK 5 ((o - 0x4000) / 8))
    else if o = 0x5000 then some D.CS_CTRL else if o = 0x5008 then some D.CS_STATUS else if o = 0x5010 then some D.CS_NS
    else if o = 0x5020 then some D.TB_CTRL else if o = 0x5028 then some D.TB_STATUS else if o = 0x5030 then some D.TB_OFFSET
    else if o = 0x6000 then some D.JNL_HEAD else if o = 0x6008 then some D.JNL_TAIL else if o = 0x6010 then some D.JNL_STATUS
    else if o = 0x6018 then some D.JNL_CTRL else if 0x6020 ≤ o ∧ o < 0x6040 then some (D.JNL_LOST ((o - 0x6020) / 8))
    else if o = 0x6040 then some D.JNL_ALERT else none
  | 12 => if o < 40 then some (D.SLINK_STATUS 5 (o / 8)) else none
  | _ => none

/-- The register at offset `o` of a package-control sub-block. -/
def regOfMgc (sub o : Nat) : Option RegD :=
  match sub with
  | 0 => if o = 0 then some D.PKG_ID else none
  | 1 | 2 | 3 | 4 =>
    let p := sub - 1
    if o = 0 then some (D.TELLER_STATUS p) else if o = 8 then some (D.TELLER_DOORBELL p) else if o = 0x10 then some (D.HOST_RING p)
    else if o = 0x18 then some (D.ALERT_POS p) else none
  | 5 => if o = 0 then some D.BOOT_STATUS else none
  | 6 => if o = 0 then some D.TH_STATUS else if o = 8 then some D.TH_CTRL else if o = 0x10 then some (D.TH_TEMP 0)
    else if o = 0x18 then some (D.TH_TEMP 1) else none
  | 7 => if o = 0 then some D.RB_STATUS else if o = 8 then some D.RB_POLICY else if o = 0x18 then some D.CAL_STATUS
    else if o = 0x20 then some D.DARK_STATUS else if 0x40 ≤ o ∧ o < 0x80 then some (D.RB_DIGEST ((o - 0x40) / 8)) else none
  | _ => none

/-- The register a naturally aligned management address names, if it is implemented (R10, R33). -/
def regOf (a : Nat) : Option RegD :=
  let off := a % 0x100000000; let sub := off / 0x10000; let o := off % 0x10000
  match a / 0x100000000 with
  | 0 => regOfMgc sub o
  | 0x10 => regOfADie 0 sub o
  | 0x11 => regOfADie 1 sub o
  | 0x12 => regOfADie 2 sub o
  | 0x13 => regOfADie 3 sub o
  | 0x20 => regOfPDie sub o
  | 0x30 => regOfFDie sub o
  | _ => none

end Sys2Proof.Machine
end

