-- ==== Sys2Proof/Config.lean ====
section
/-! DEFINITION. What the manual leaves open: opaque constants with no body, so no proof can see a value (guide: free values). -/
namespace Sys2Proof.Config

/-- Fresh bytes: nonces, random seeds and every value the manual calls open, applied to the counter `State.free`. (DESIGN CHOICE, notes/assumptions/50.md) -/
opaque freeByte : Nat → Byte

/-- A fresh number, applied to the counter `State.free`. -/
opaque freeNat : Nat → Nat

/-- How far, in units in the last place, the fixed algorithm of a transcendental function lands from the nearest value (R172): by function, working format and input. (DESIGN CHOICE, notes/assumptions/30.md) -/
opaque transOff : Nat → Nat → Nat → Int

/-- The element codes written under an MX block scale of 0xFF, which R112 leaves open. (DESIGN CHOICE, notes/assumptions/30.md) -/
opaque nanBlockElem : Nat → Nat → Nat

/-- What a byte of a memory reads as after the manual calls its contents undefined: by the number of such losses and the address. (DESIGN CHOICE, notes/assumptions/3.md) -/
opaque undefByte : Nat → Nat → Byte

/-- What the Solver Engine's rules leave open of a problem, by the problem's input bytes, an iteration and an element: the pivot flags of QP_IPM, header fields of a result that returns no iterate, the cycles of WORK transfers, and what a problem leaves in its working area. (DESIGN CHOICE, notes/assumptions/20.md) -/
opaque sveOpen : List Byte → Nat → Nat → Nat

/-- An element of the direction that a solve of QP_IPM gives (R279), by the problem's input bytes, the iteration, the solve (0 the predictor, 1 + its centring parameter the corrector) and the element. (DESIGN CHOICE, notes/assumptions/20.md) -/
opaque ipmDir : List Byte → Nat → Nat → Nat → Nat

/-- The fused seed of the part, 256 secret bits (R542). (DESIGN CHOICE, notes/assumptions/39.md) -/
opaque fusedSeed : List Byte

/-- The owner's public key behind a digest in FUSE_OWNER: the manual does not say where the ROM keeps it (R540). (DESIGN CHOICE, notes/assumptions/39.md) -/
opaque ownerKey : List Byte → List Byte

/-- The Silonez root public key in mask ROM (R542). (DESIGN CHOICE, notes/assumptions/39.md) -/
opaque rootPub : List Byte

/-- ML-DSA.KeyGen_internal of FIPS 204: the public key of a seed (R543). (DESIGN CHOICE, notes/assumptions/39.md) -/
opaque mldsaPub : List Byte → List Byte

/-- An ML-DSA-87 signature of FIPS 204 by the key of a seed over a message; the number stands for the randomness that the standard lets a signer draw. (DESIGN CHOICE, notes/assumptions/39.md) -/
opaque mldsaSign : List Byte → List Byte → Nat → List Byte

/-- ML-DSA-87 verification of FIPS 204: public key, message, signature (R531). (DESIGN CHOICE, notes/assumptions/39.md) -/
opaque mldsaVerify : List Byte → List Byte → List Byte → Bool

/-- The ML-KEM-1024 encapsulation key of an ephemeral seed (R557). (DESIGN CHOICE, notes/assumptions/39.md) -/
opaque mlkemPub : List Byte → List Byte

/-- ML-KEM-1024 decapsulation: seed of the key pair, ciphertext (R557). (DESIGN CHOICE, notes/assumptions/39.md) -/
opaque mlkemDecaps : List Byte → List Byte → List Byte

/-- Integer operations of the base instruction set of the cores, which the manual names and does not define (R299): operation and operands. (DESIGN CHOICE, notes/assumptions/23.md) -/
opaque coreInt : Nat → Nat → Nat → Nat

/-- Whether a core's L1D still holds a line, by the accesses to the own local store since it was cleared (line, whether a write) and the line: its sets and ways are not in the manual, its replacement is a fixed function of the access sequence (R323). (DESIGN CHOICE, notes/assumptions/18.md) -/
opaque l1Keeps : List (Nat × Bool) → Nat → Bool

/-- Whether the core caches give up a line of their own accord at an access, by the counter `State.free` and the line's address (R298). (DESIGN CHOICE, notes/assumptions/26.md) -/
opaque evicts : Nat → Nat → Bool

end Sys2Proof.Config
end

