-- ==== Sys2Proof/Machine/State.lean ====
section
/-! DEFINITION. The block's state as plain data, its stops, and the state after reset. Registers live in `fld`, one entry per field that differs from its reset value, keyed 64 × management address + low bit (Machine/Regs.lean gives every field its handle); everything else has a field of its own below. -/
namespace Sys2Proof.Machine

/-- The model's faults. None is raised: the spec gives every command an effect, and a command fault of the spec (R243) is a next state. -/
inductive Fault where
  /-- A command whose operands no row of the spec admits (Sys2Proof.Instr.wf fails). Raised by nothing; safe. -/
  | illFormed
deriving DecidableEq, Repr

/-- The model's refusals. -/
inductive Refusal where
  /-- A row without a meaning, raised by its arm of `exec`; safe. -/
  | notModelled (mnemonic : String)
deriving DecidableEq, Repr

/-- Clocks: arithmetic cycles, fabric nanoseconds and core cycles since reset, with the remainders of their ratios. (DESIGN CHOICE, notes/assumptions/5.md) -/
structure Clock where
  cyc : Nat
  nsRem : Nat
  ns : Nat
  cycRem : Nat
  core : Nat
  coreRem : Nat
deriving DecidableEq, Repr

/-- An event report on its way to the journal, or an entry of its queue (R516 to R520). -/
structure Report where
  code : Nat
  cls : Nat
  die : Nat
  unit : Nat
  loc : Nat
  kind : Nat
  value : Nat
  addrForm : Bool
  step : Nat
  ns : Nat
  count : Nat
  lastNs : Nat
deriving DecidableEq, Repr

/-- A native command, 64 bytes (R220). -/
structure Cmd where
  opcode : Nat
  cflags : Nat
  shard : Nat
  tag : Nat
  release : Nat
  dep0 : Nat
  dep1 : Nat
  dep2 : Nat
  operands : List Byte
deriving DecidableEq, Repr

/-- One slot table of a Slot Link direction (R207, R235): LINK_PERIOD groups of requester bytes. -/
structure LinkTab where
  link : Nat
  dir : Nat
  period : Nat
  slots : List Nat
deriving DecidableEq, Repr

/-- A range entry of the HBM section (R345): KIND 1 KEEP, 2 ADDER. -/
structure RangeE where
  kind : Nat
  sel : Nat
  uses : Nat
  base : Nat
  size : Nat
  ledger : Nat
deriving DecidableEq, Repr

/-- The HBM plan of a bank (R345): PCS, G, cache set sizes, ranges and one slot table per logical pseudo-channel. -/
structure HbmPlan where
  pcs : Nat
  g : Nat
  sets : List Nat
  ranges : List RangeE
  slots : List (List Nat)
deriving DecidableEq, Repr

/-- A queue bank with its tables (R234): `valid` is false for an empty or unusable bank. -/
structure Bank where
  valid : Bool
  compat : Bool
  planId : Nat
  cmds : List Cmd
  shards : List Nat
  links : List LinkTab
  hbm : HbmPlan
deriving DecidableEq, Repr

/-- A completed command of the frame (R228): its index, completion cycle and entry bits. -/
structure DoneCmd where
  idx : Nat
  cyc : Nat
  entry : Nat
deriving DecidableEq, Repr

/-- A started command (R225, R227): start cycle, completion cycle when its formula fixes it, entry bits so far, whether its effect was performed, progress (N-tiles or descriptors), accumulated waits, its fault, and the waits in effect at each N-tile started. -/
structure RunCmd where
  idx : Nat
  start : Nat
  doneAt : Option Nat
  entry : Nat
  performed : Bool
  progress : Nat
  wait : Nat
  fault : Option Nat
  holds : List Nat
deriving DecidableEq, Repr

/-- A signal increment: the frame cycle in which it takes effect, the counter and the amount (R229). -/
structure SigInc where
  cyc : Nat
  ctr : Nat
  inc : Nat
deriving DecidableEq, Repr

/-- A unit held by the stream cache (R347, R348): set, position, block, unit of the line, first cycle it serves hits, use count. -/
structure CacheUnit where
  set : Nat
  pos : Nat
  block : Nat
  unit : Nat
  from_ : Nat
  uses : Nat
deriving DecidableEq, Repr

/-- An ACF entry index with the cycle at which its HELD or PENDING bit clears (R164, R165). -/
structure AcfMark where
  entry : Nat
  from_ : Nat
  until_ : Nat
  owner : Nat
deriving DecidableEq, Repr

/-- A spare on its way in (R575, R583): kind, die, unit (stack, port or link), the failed unit's number, the spare chosen, whether nothing is copied, the copy pieces done, and the units of a pseudo-channel copied. -/
structure BringIn where
  kind : Nat
  die : Nat
  unit : Nat
  num : Nat
  spare : Nat
  noCopy : Bool
  pieces : Nat
  units : Nat
deriving DecidableEq, Repr

/-- A physical pseudo-channel that can no longer be read (R365, R366); `go`: its replacement is ordered and waits for the first cycle in which the frame is not RUNNING. -/
structure HbmWait where
  die : Nat
  stack : Nat
  pc : Nat
  go : Bool
deriving DecidableEq, Repr

/-- Memory that is poisoned until it is written (R188, R365): an SPM bank (`t1` false) or a logical pseudo-channel, with the 64-bit words written since. -/
structure PArea where
  t1 : Bool
  die : Nat
  num : Nat
  clean : List Nat
deriving DecidableEq, Repr

/-- An exposure record of the capture buffer, 32 bytes (R514). -/
abbrev ExpRec := List Byte

/-- Exposure capture state of an A-die (R510 to R515): frames left to capture, or no limit; the buffer's event records, those dropped, GAP records, frames skipped; the number of the exposure; the header record and the fabric count at the window's close. -/
structure Expo where
  left : Nat
  unlimited : Bool
  buffer : List ExpRec
  dropped : Nat
  gaps : Nat
  skipped : Nat
  number : Nat
  header : List Byte
  closeNs : Nat
deriving DecidableEq, Repr

/-- A management load in progress (R239, R240): the bank, the image address, ACTIVATE, and the start time. -/
structure LoadJob where
  bank : Nat
  src : Nat
  activate : Bool
  startNs : Nat
deriving DecidableEq, Repr

/-- Requests that a port issued to the SPM in one window (R179): window, port (0 MXA activation, 1 MXA weight, 2 SXE read, 3 SXE write, 4 to 7 movers, 8 Slot Link target), stream tag, whether they write, and the byte range. -/
structure SpmReq where
  win : Nat
  port : Nat
  tag : Nat
  wr : Bool
  off : Nat
  len : Nat
deriving DecidableEq, Repr

/-- An A-die: banks, the frame's commands, signals, stream cache, slot use, ACF marks, load, repairs, exposure, failed array lines, whether the frame has latched a fault in SCU_FAULT (R244), and what a QLOAD's checks gave before they are complete: a bank, and the code, unit code and command index (R240). -/
structure ADie where
  bank0 : Bank
  bank1 : Bank
  done : List DoneCmd
  run : List RunCmd
  slipped : List Nat
  sig : List SigInc
  cache : List CacheUnit
  lastSlot : Assoc Nat
  held : List AcfMark
  pend : List AcfMark
  load : Option LoadJob
  scrubRow : Assoc Nat
  hbmScrub : Assoc Nat
  spmBankErr : Assoc Nat
  rereadNs : Assoc Nat
  pcCorr : Assoc Nat
  expo : Expo
  linkLast : Assoc Nat
  hitUse : Assoc Nat
  spmReq : List SpmReq
  spmColl : Bool
  faultSeen : Bool
  qload : Option (Option Bank × (Nat × Nat × Nat))
deriving DecidableEq, Repr

/-- A dependency event (R223) that has reached the SCUs, or is on its way: kind, number, the frame cycle in which it is there, whether its work waited outside the promise, and the node that counted last (R518). -/
structure DepEv where
  kind : Nat
  num : Nat
  cyc : Nat
  status : Nat
  node : Nat
deriving DecidableEq, Repr

/-- The frame and GST state of a partition beyond its registers (R41 to R65, R244 to R250): T0 of a root and the count at which it issues next, whether it issues, whether the count is loaded; the last index acted on and the count at its arrival; the count's offset, rate adjustment and remainder, the held difference and the run towards LOCKED; cycle 0, LEN, DARK_LEN of the present frame; ticks taken and not started (index, arrival), the cycle in which the next frame starts, whether that start is late or was held for an open frame; rerun and stop marks; the frame's fault; what it recorded; completions outside the promise (kind, number, cycle); dependency events; doorbells for the next frame; ports recalibrated in this frame; the condition that the last close met last, as KIND and number of R223 (R81). -/
structure Part where
  t0 : Nat
  nextTick : Nat
  issuing : Bool
  rootSeen : Bool
  lastIndex : Option Nat
  lastTickNs : Nat
  timedOut : Bool
  nsOff : Int
  adj : Int
  adjRem : Int
  refDiff : Option Int
  run0 : Int
  lockRun : Nat
  cycle0 : Nat
  len : Nat
  dark : Nat
  ticks : List (Nat × Nat)
  startAt : Option Nat
  late : Bool
  held : Bool
  jobStepSet : Bool
  first : Bool
  rerunArmed : Bool
  rerun : Bool
  stopAfter : Bool
  abortAt : Option Nat
  failedAt : Option Nat
  failDie : Nat
  committed : Bool
  overrunSeen : Bool
  retrySeen : Bool
  slipSeen : Bool
  slip : Nat
  outs : List (Nat × Nat × Nat)
  deps : List DepEv
  depsIn : List DepEv
  lateSeen : List (Nat × Nat)
  doorbells : Nat
  portsDone : List Nat
  closeBy : Option (Nat × Nat)
deriving DecidableEq, Repr

/-- A dark piece in progress: the piece, its start and length in cycles (R58). -/
structure DarkRun where
  piece : Piece
  start : Nat
  len : Nat
deriving DecidableEq, Repr

/-- The fuses and part data (R5, R537, R556): grade 1 = A, 2 = B; FUSE_SVN; FUSE_OWNER, none while blank. -/
structure Fused where
  grade : Nat
  stepping : Nat
  svn : Nat
  owner : Option (List Byte)
deriving DecidableEq, Repr

/-- Journal entry words 0 to 3 as recorded (R517), with the entry's class and whether its alert was posted (R516, R524). -/
structure JEntry where
  cls : Nat
  posted : Bool
  w0 : Nat
  w1 : Nat
  w2 : Nat
  w3 : Nat
deriving DecidableEq, Repr

/-- Thermal control's own memory (R374 to R377): readings, the times of the last steps of each row, since when headroom is at least 6 °C, whether THERMAL_FLOOR was raised, whether the stacks are in self-refresh (R378), the THERM_N land (R612), and each partition's fabric count when the clock stopped (R514). -/
structure Thermal where
  temps : List Int
  lastSlow : Option Nat
  lastFast : Option Nat
  coolSince : Option Nat
  floorSeen : Bool
  selfRefresh : Bool
  thermLow : Bool
  stopNs : List Nat
deriving DecidableEq, Repr

/-- The failures that a row announces for traffic to come: a flit that fails its link check, a flit that its target discards, reads of a T1 unit with a double-bit error, a stream-cache unit that fails its check, a T3 read that times out (R70, R215, R362, R372). -/
inductive FailKind where
  | link | flit | t1 | unit | t3
deriving DecidableEq, Repr

/-- An announced failure: its kind, the requester whose traffic it hits, how many attempts fail, and where. For flits `x` and `y` are the ends of the link (sender, receiver) and `at_` the number of the requester's flits that pass there first; for reads `at_` is the address and `x` the number of the requester's reads of the unit that pass first. -/
structure Fail where
  kind : FailKind
  req : Nat
  x : Nat
  y : Nat
  at_ : Nat
  left : Nat
deriving DecidableEq, Repr

/-- What a write of device memory does to the bytes at its address: it puts bytes there, or adds an element of an adder TYPE, presented through window `w`, to the word there (R354, R355). -/
inductive MemEff where
  | put (b : List Byte)
  | add (ty w x : Nat)
deriving DecidableEq, Repr

/-- A write of device memory that a row of this frame performed: the key of the cycle in which it takes effect, the cycle in which the unit of data that it belongs to began, the requester code of the unit that made it, its address and effect, and the bytes that stood there before it. -/
structure MemW where
  at_ : Nat
  unit_ : Nat
  who : Nat
  addr : Nat
  eff : MemEff
  old : List Byte
deriving DecidableEq, Repr

/-- A write of an accumulator entry: the cycle from reset in which it takes effect, the cycle in which its row entered the array, the A-die and the command, the entry's key, the value before, and the flags of the row. -/
structure AcfW where
  at_ : Nat
  unit_ : Nat
  die : Nat
  idx : Nat
  addr : Nat
  old : Nat
  fl : Nat
deriving DecidableEq, Repr

/-- The answer the block gave to the last command from outside: a response code (0 = success), a value, and bytes. -/
structure Out where
  code : Nat
  value : Nat
  bytes : List Byte
deriving DecidableEq, Repr

/-- Who a source transfer belongs to (R404, R415, R453, R479): a mover's command and descriptor, a P-die mover entry, a NIC context's record (with RESP), a gateway's BULK (op, size, RESP and record of each item), a collective's packet, or a mirror chunk. -/
inductive Origin where
  | mover (die m idx desc : Nat)
  | pmc (ch entry : Nat)
  | nic (ctx rec resp : Nat)
  | bulk (ctx gw : Nat) (items : List (Nat × Nat × Nat × Nat))
  | coll (group gseq part : Nat)
  | chunk (group chunk : Nat)
  | mirror (p seq : Nat)
deriving DecidableEq, Repr

/-- A transfer at its source (R394, R409, R411): packets as (address, payload). -/
structure Tx where
  part : Nat
  dst : Nat
  seq : Nat
  op : Nat
  vc : Nat
  level : Nat
  group : Nat
  region : Nat
  key : Nat
  step : Nat
  addrs : List (Nat × List Byte)
  org : Origin
  sent : Bool
  ns : Nat
  tries : Nat
  answered : Bool
deriving DecidableEq, Repr

/-- What a target keeps for a source (R410): the SEQ after H, the complete SEQs above it, open transfers with the packets received, stored answers (SEQ, operation, payload). -/
structure PeerIn where
  part : Nat
  src : Nat
  next : Nat
  above : List Nat
  open_ : List (Nat × List Nat)
  answers : List (Nat × Nat × List Byte)
deriving DecidableEq, Repr

/-- A region table entry with its token (R402, R412, R431). -/
structure Region where
  valid : Bool
  owned : Bool
  perm : Nat
  base : Nat
  infEn : Bool
  infence : Nat
  size : Nat
  key : Nat
  held : Bool
  holder : Nat
  waiters : List Packet
deriving DecidableEq, Repr

/-- A fence instance (R418, R419). -/
structure FenceInst where
  step : Nat
  count : Nat
  done : Bool
deriving DecidableEq, Repr

/-- A fence (R418, R431): KIND 1 OUT, 2 IN; its instances for JOB_STEP and JOB_STEP + 1. -/
structure Fence where
  expect : Nat
  mask : Nat
  kind : Nat
  cur : FenceInst
  nxt : FenceInst
deriving DecidableEq, Repr

/-- A gather of a gateway (R416): its key, level, the time of its first record, its records (op, size, address, data, RESP, record), closed or open. -/
structure Gather where
  gw : Nat
  ctx : Nat
  dst : Nat
  region : Nat
  vc : Nat
  level : Nat
  ns : Nat
  recs : List (Nat × Nat × Nat × List Byte × Nat × Nat)
  closed : Bool
deriving DecidableEq, Repr

/-- A group table entry (R433). -/
structure Group where
  nchild : Nat
  vc : Nat
  depth : Nat
  members : Nat
  rank : Nat
  subtree : Nat
  root : Bool
  parent : Nat
  childIndex : Nat
  height : Nat
  stageRegion : Nat
  stageAddr : Nat
  children : List Nat
deriving DecidableEq, Repr

/-- The F-die's fabric state (R382 to R431): tables, transfers in both roles, replay buffers, packets waiting for a port, gathers, what was reported once in the frame, the operation in progress (1 DISCOVER, 2 APPLY, 3 SAVE) with its record, ports whose spare lane is coming in, the data of remote descriptors in progress that no transfer has taken yet (R394), and when each port went DOWN (R386). -/
structure Fab where
  routes : Assoc Nat
  regions : List (Nat × Region)
  fences : List (Nat × Fence)
  groups : List (Nat × Group)
  nodes : List Nat
  nbrs : List Nat
  peerArea : Nat
  parentPorts : Nat
  childPorts : Nat
  offsetNs : Nat
  seqs : Assoc Nat
  seq0 : Assoc Nat
  txs : List Tx
  peers : List PeerIn
  releases : List Packet
  rot : Assoc Nat
  replay : List Packet
  replayed : Assoc Nat
  waiting : List Packet
  credit : Assoc Nat
  egress : Assoc Nat
  gathers : List Gather
  tblDefer : List (Nat × Nat × List Nat)
  refused : List Nat
  early : Bool
  saturated : List Nat
  doneFences : List Nat
  op : Nat
  lanePend : List Nat
  record : List Byte
  cut : List (Origin × List (Nat × List Byte))
  downNs : Assoc Nat
deriving DecidableEq, Repr

/-- A TOT entry (R440 to R444): as loaded, its state in the frame, whether its operation is in progress or crossed a frame, and increments held meanwhile. -/
structure TotEntry where
  thr : Nat
  chain : Nat
  fence : Nat
  record : Nat
  count : Nat
  fired : Bool
  done : Bool
  failed : Bool
  code : Nat
  busy : Bool
  cross : Bool
  heldInc : Nat
deriving DecidableEq, Repr

/-- A record that a NIC context has posted and that is not complete: its number, context, TOT entry (none for a ring record) and operation. -/
structure NicRec where
  num : Nat
  ctx : Nat
  tot : Option Nat
  op : Nat
deriving DecidableEq, Repr

/-- A COL_UP received and not yet combined (R450, R458): group, GSEQ, pass, the child's node, part and payload. -/
structure ColIn where
  group : Nat
  gseq : Nat
  pass : Nat
  child : Nat
  part : Nat
  payload : List Byte
deriving DecidableEq, Repr

/-- A staging transfer of a child (R453, R455): group, child index, staging position (chunk number modulo DEPTH), bytes seen, whether it is complete, and the packets combined in a slot rather than written to T1 (offset, data). -/
structure ColStage where
  group : Nat
  child : Nat
  pos : Nat
  off : Nat
  len : Nat
  full : Bool
  inSlot : List (Nat × List Byte)
deriving DecidableEq, Repr

/-- A chunk of a bulk operation at this package (R453 to R457): its number in the group, its place in the operation, its bulk slot, whether it spilled, its phase (0 anchors in, 1 anchors sent, 2 values in, 3 ready, 4 sent, 5 done), the children combined, the combined bytes with the offset where they start, and its anchor words. -/
structure Chunk where
  num : Nat
  idx : Nat
  slot : Option Nat
  spilled : Bool
  phase : Nat
  got : List Nat
  parts : List (Nat × List Byte)
  anchors : List Byte
deriving DecidableEq, Repr

/-- A collective operation in flight (R435, R446 to R464): its group, GSEQ, context, record and record number; whether its own row has run; its first chunk number, chunk count and chunks reached; the pass and what was sent up in it (SCALAR); anchors; result bytes in place; for a broadcast, the node the data came from, the targets, the nodes that acknowledged with (ACKED, NFAIL, failed list), those declared failed, and whether its own BCAST_ACK left; the code with which it fails; and when each node acknowledged its last data transfer. -/
structure CollOp where
  group : Nat
  gseq : Nat
  ctx : Nat
  num : Nat
  bytes : List Byte
  started : Bool
  chunk0 : Nat
  count : Nat
  reached : Nat
  chunks : List Chunk
  pass : Nat
  sentUp : Bool
  anchors : List Byte
  wrote : Nat
  res : Bool
  src : Nat
  targets : List Nat
  acks : List (Nat × Nat × Nat × List Nat)
  lost : List Nat
  ackSent : Bool
  fail : Nat
  heard : Assoc Nat
deriving DecidableEq, Repr

/-- NIC contexts, TOTs and the Reduction Engine (R437 to R465): TOT entries by 1,024 × context + index, records posted and not complete, COL_UPs and staging transfers received, operations in flight, records that wait for their group, per group the next chunk number and the chunks combined and credited, the last broadcast completed, down transfers that came before their operation (group, source, address, bytes), failed and spared slots, scalar slots held, once-per-frame marks, the TOT load in progress, and contexts with a completion interrupt pending. -/
structure Coll where
  tots : List (Nat × TotEntry)
  recs : List NicRec
  nextRec : Nat
  ups : List ColIn
  staged : List ColStage
  ops : List CollOp
  held : List (Nat × Nat × List Byte × Option Nat)
  chunkNext : Assoc Nat
  combined : List (Nat × Nat)
  credited : List (Nat × Nat)
  lastBcast : List CollOp
  downs : List (Nat × Nat × Nat × Nat)
  bulkBad : List Nat
  bulkSpares : Nat
  bulkMap : List Nat
  scalarBad : List Nat
  scalarSpares : Nat
  scalarDead : Bool
  scalarHeld : List (Nat × Nat × Nat)
  spilledFrame : Bool
  totLoad : Option (Nat × Nat)
  irq : List Nat
deriving DecidableEq, Repr

/-- An entry of a P-die table: release, dependencies, its number (PROBLEM, EVENT or XFER), IRREV, what it runs on (cores as a mask; a channel), PIN, entry point, and its descriptors (R257, R320, R368). -/
structure TabEntry where
  release : Nat
  dep0 : Nat
  dep1 : Nat
  num : Nat
  irrev : Bool
  on : Nat
  pin : Bool
  pc : Nat
  descs : List (List Byte)
deriving DecidableEq, Repr

/-- A bank of the SVE schedule, the core table or the P-die mover table (R256, R320, R368). -/
structure TabBank where
  valid : Bool
  planId : Nat
  entries : List TabEntry
deriving DecidableEq, Repr

/-- A started table entry: start, completion cycle when its formula fixes it, descriptor reached, flits sent and next cycle of a wait, whether it waited outside the promise, whether it faulted, and the cores still to end. -/
structure SeqRun where
  idx : Nat
  start : Nat
  doneAt : Option Nat
  next : Nat
  sent : Nat
  wait : Nat
  outside : Bool
  fault : Bool
  left : Nat
deriving DecidableEq, Repr

/-- A P-die sequencer: its banks, the bank active in the frame, a load in progress (bank, address), the entries in progress, and those completed (entry, cycle). -/
structure Seq where
  bank0 : TabBank
  bank1 : TabBank
  active : Option Nat
  load : Option (Nat × Nat)
  run : List SeqRun
  done : List (Nat × Nat)
  failed : Bool
deriving DecidableEq, Repr

/-- The problem in progress in the SVE (R268, R292): its entry, start cycle and descriptor; whether its inputs were read; its outcome's status, result header and vectors, problem clock, LOAD cycles, and whether the budget stops it; its fault code, 0 for none; the input bytes, group by group. -/
structure SveJob where
  idx : Nat
  start : Nat
  num : Nat
  desc : List Byte
  swap : Bool
  loaded : Bool
  status : Nat
  header : List Byte
  vecs : List Byte
  iters : Nat
  pclock : Nat
  load : Nat
  deadline : Bool
  fault : Nat
  inputs : List (List Byte)
deriving DecidableEq, Repr

/-- When the last writer of a core register gives its result (R304, R305): whether it works element by element, the core cycle in which its first pass is ready, its occupancy and passes. -/
structure RegTime where
  reg : Nat
  base : Nat
  lvx : Bool
  elem : Bool
  first : Nat
  ready : List Nat
deriving DecidableEq, Repr

/-- A logical core (R299, R321 to R326): registers as stores of those that differ from 0; the address of its next instruction; its entry and start, whether it is pinned, broke its pin, or runs software outside any entry, and when it last became idle; interrupts held and the element before which one is due; the last exception (kind, address); when its paths are free and its results ready; a poisoned local store with the words written since; its accesses to the own local store since L1D was cleared (line, whether a write) and the pages that its entry's code lies in (R323). -/
structure Core where
  g : Assoc Nat
  v : Assoc Nat
  q : Assoc Nat
  vlen : Nat
  vcnt : Nat
  vstart : Nat
  fcsr : Nat
  pc : Nat
  entry : Option Nat
  start : Nat
  pinned : Bool
  soft : Bool
  idleAt : Nat
  held : Nat
  intAt : Option Nat
  exc : Option (Nat × Nat)
  dpFree : Nat
  lsFree : Nat
  times : List RegTime
  poisoned : Bool
  clean : List Nat
  l1 : List (Nat × Bool)
  code : List PageMap
deriving DecidableEq, Repr

/-- A line that the core caches hold (R318): its address, bytes, and whether a core changed it. (PRESUMED, notes/assumptions/43.md) -/
structure CacheLine where
  addr : Nat
  bytes : List Byte
  dirty : Bool
deriving DecidableEq, Repr

/-- A migration in progress (R373). -/
structure MigJob where
  src : Nat
  dst : Nat
  bytes : Nat
deriving DecidableEq, Repr

/-- A partition of the configuration (R532). -/
structure PartCfg where
  valid : Bool
  adies : Nat
  nics : Nat
  node : Nat
  t2Base : Nat
  t2Size : Nat
  t3Base : Nat
  t3Size : Nat
deriving DecidableEq, Repr

/-- A mirror chunk still to send (R478): KIND, TARGET_LB, LB_COUNT, and the shard list entry it belongs to. -/
structure CkChunk where
  kind : Nat
  target : Nat
  lbs : Nat
  entry : Nat
deriving DecidableEq, Repr

/-- A partition's checkpoint engine (R473, R479 to R489): the operation in progress (0 none, 1 SAVE, 2 SCAN, 3 RESTORE), its slot, SEQ, list header and entries, the manifest's DATA_LBs; chunks to send, the next chunk's number, those sent and not all acknowledged, the manifest body; the result so far; for the mirror service the chunks taken, SEQ of the last OPEN, its slot, and the SEQs whose refusal was raised; the list address. -/
structure Ckpt where
  op : Nat
  slot : Nat
  seq : Nat
  head : List Byte
  entries : List (List Byte)
  todo : List CkChunk
  sent : Nat
  unacked : List Nat
  body : List Byte
  result : Nat
  taken : Nat
  lastOpen : Option Nat
  mslot : Nat
  refused : List Nat
  list : Nat
deriving DecidableEq, Repr

/-- A host entry of the configuration (R532): partition, RIGHTS, public key. -/
structure HostEntry where
  part : Nat
  rights : Nat
  pub : List Byte
deriving DecidableEq, Repr

/-- A session of a host entry (R557): its id, K_mac and the two IDE keys. -/
structure Session where
  host : Nat
  id : Nat
  kmac : List Byte
  ideIn : List Byte
  ideOut : List Byte
deriving DecidableEq, Repr

/-- A SESSION_INIT without its FINISH (R557): host, session id, the seed of the ephemeral key pair, N_p, and the time of the INIT. -/
structure Offer where
  host : Nat
  id : Nat
  seed : List Byte
  np : List Byte
  ns : Nat
deriving DecidableEq, Repr

/-- A ticket (R556, R562): its Teller, what it stands for (1 NVM_UPDATE, 2 CAL_WRITE, 3 CAL_EXPORT, 4 SELFTEST, 5 RB_FLUSH, 6 DR_END), state (0 pending, 1 done, 2 failed), code, the address and size, or unit, that it acts on, and the bytes it writes. -/
structure Ticket where
  part : Nat
  id : Nat
  kind : Nat
  state : Nat
  code : Nat
  a : Nat
  n : Nat
  data : List Byte
deriving DecidableEq, Repr

/-- Start, Vault and Tellers (R528 to R567): PWROK and SBYOK; a start in progress, one that does not reach stage 7, and one that a drop of PWROK ended; the reason of a failed start that waits for its restart; straps; counts of in-band interrupts of THERMAL_TRIP and Darkroom entry, and of MSI-X vector 0 per LD; pins LP_RESET_N, T3_PERST_N, CSM_PERST_N low; digests of the verified firmware and configuration, CONFIG_SEQ, OWNER_PUB; host entries; sessions, offers, LAST_CTR per host entry; the session that protects each LD; tickets; next session and ticket numbers; job keys' JOB_IDs and key lists (root, address, COUNT) per partition; message slots and alert rings by 4 p + slot and 256 p + entry; the Vault's identity certificate as verified; a pending RESET. -/
structure Boot where
  pwrok : Bool
  sbyok : Bool
  starting : Bool
  stalled : Bool
  cut : Bool
  failed : Nat
  straps : Nat
  ibiTrip : Nat
  ibiDark : Nat
  msix : Assoc Nat
  pinsLow : Bool
  fwDigest : List Byte
  cfgDigest : List Byte
  cfgSeq : Nat
  ownerPub : List Byte
  hosts : List HostEntry
  sessions : List Session
  offers : List Offer
  lastCtr : Assoc Nat
  ide : List (Nat × Nat)
  tickets : List Ticket
  nextId : Nat
  jobIds : List (Nat × Nat)
  keyLists : List (Nat × List Byte × Nat × Nat)
  slots : List (Nat × List Byte)
  ring : List (Nat × List Byte)
  cert : List Byte
  resetDue : Bool
deriving DecidableEq, Repr

/-- The Darkroom rewrite (R539, R540): the current nonce; whether one has begun, its IMAGE_BYTES and IMAGE_DIGEST; the bytes received, and how many of them the ROM has written; whether DR_END was taken, and ended with success; the last DR code and the reason of the stage that failed. -/
structure Dr where
  nonce : Option (List Byte)
  begun : Bool
  total : Nat
  digest : List Byte
  got : List Byte
  written : Nat
  ended : Bool
  ok : Bool
  code : Nat
  reason : Nat
deriving DecidableEq, Repr

/-- The laser source control interface (R615, R616): the SEQ of the command in flight, the commands to send (OP, CHANNEL, VALUE) of which the first is in flight, its failures, LSC_FAULT_N low, channels found lost, a link given up; and the source's spare channels brought in (spare, channel). (DESIGN CHOICE, notes/assumptions/62.md) -/
structure Lsc where
  seq : Nat
  queue : List (Nat × Nat × Nat)
  tries : Nat
  fault : Bool
  lost : List Nat
  dead : Bool
  spares : Assoc Nat
deriving DecidableEq, Repr

/-- The test access port (R611): the instruction in effect (0 BYPASS, 1 IDCODE, 2 SAMPLE/PRELOAD, 3 EXTEST) and the boundary register. (DESIGN CHOICE, notes/assumptions/62.md) -/
structure Tap where
  instr : Nat
  boundary : Nat
deriving DecidableEq, Repr

/-- Service state of the MGC (R571 to R574, R585 to R587): the always-on repair book state with its RSEQ, none when standby power was lost; the calibration set applied at start; Slot Link repair lanes used, by link (R571); code and time of the last change of the live state. -/
structure Svc where
  aon : Option (Nat × List Byte)
  cal : List Byte
  slinkUsed : Assoc Nat
  event : Nat × Nat
deriving DecidableEq, Repr

/-- The state of the package. -/
structure State where
  pending : List Instr
  clk : Clock
  fused : Fused
  fld : Assoc Nat
  defer : List (Nat × Nat × Nat)
  mem : List Host.Cell
  undef : Assoc Nat
  ecc : Assoc Nat
  poison : List PArea
  acf : Assoc Nat
  acfEcc : Assoc Nat
  a0 : ADie
  a1 : ADie
  a2 : ADie
  a3 : ADie
  p0 : Part
  p1 : Part
  p2 : Part
  p3 : Part
  owner : List Nat
  dark : List DarkRun
  reports : List Report
  jqueue : List Report
  journal : List (Nat × JEntry)
  bringIn : List BringIn
  spareBad : List (Nat × Nat × Nat × Nat)
  hbmWait : List HbmWait
  rowMap : Assoc Nat
  colMap : Assoc Nat
  th : Thermal
  fab : Fab
  coll : Coll
  nicOwner : List Nat
  sve : Seq
  sveJob : Option SveJob
  cor : Seq
  cores : List Core
  ccache : List CacheLine
  pmc : Seq
  mig : Option MigJob
  cfg : List PartCfg
  ckpt : List Ckpt
  csm : List (Nat × List Byte)
  csArm : Option (Option Nat)
  tbTries : List Nat
  boot : Boot
  dr : Dr
  lsc : Lsc
  tap : Tap
  svc : Svc
  nvm : List Host.Cell
  out : Out
  free : Nat
  w1c : List (Nat × Nat × Nat)
  hist : List MemW
  acfHist : List AcfW
  fails : List Fail
  fdieWait : Bool
  pdieCool : Option Nat
deriving DecidableEq, Repr

/-- DEDUCED, notes/assumptions/15.md. -/
def HbmPlan.empty : HbmPlan := ⟨0, 0, [], [], []⟩
def Bank.empty : Bank := ⟨false, false, 0, [], [], [], HbmPlan.empty⟩
def Expo.idle : Expo := ⟨0, false, [], 0, 0, 0, 0, [], 0⟩

def ADie.reset : ADie where
  bank0 := Bank.empty
  bank1 := Bank.empty
  done := []
  run := []
  slipped := []
  sig := []
  cache := []
  lastSlot := []
  held := []
  pend := []
  load := none
  scrubRow := []
  hbmScrub := []
  spmBankErr := []
  rereadNs := []
  pcCorr := []
  expo := Expo.idle
  linkLast := []
  hitUse := []
  spmReq := []
  spmColl := false
  faultSeen := false
  qload := none

def Part.reset : Part where
  t0 := 0
  nextTick := 0
  issuing := false
  rootSeen := false
  lastIndex := none
  lastTickNs := 0
  timedOut := false
  nsOff := 0
  adj := 0
  adjRem := 0
  refDiff := none
  run0 := 0
  lockRun := 0
  cycle0 := 0
  len := 0
  dark := 0
  ticks := []
  startAt := none
  late := false
  held := false
  jobStepSet := false
  first := true
  rerunArmed := false
  rerun := false
  stopAfter := false
  abortAt := none
  failedAt := none
  failDie := 0
  committed := false
  overrunSeen := false
  retrySeen := false
  slipSeen := false
  slip := 0
  outs := []
  deps := []
  depsIn := []
  lateSeen := []
  doorbells := 0
  portsDone := []
  closeBy := none

/-- DESIGN CHOICE, notes/assumptions/33.md. -/
def Fab.reset : Fab where
  routes := []
  regions := []
  fences := []
  groups := []
  nodes := []
  nbrs := []
  peerArea := 0
  parentPorts := 0
  childPorts := 0
  offsetNs := 0
  seqs := []
  seq0 := []
  txs := []
  peers := []
  releases := []
  rot := []
  replay := []
  replayed := []
  waiting := []
  credit := []
  egress := []
  gathers := []
  tblDefer := []
  refused := []
  early := false
  saturated := []
  doneFences := []
  op := 0
  lanePend := []
  record := []
  cut := []
  downNs := []

def Coll.reset : Coll where
  tots := []
  recs := []
  nextRec := 0
  ups := []
  staged := []
  ops := []
  held := []
  chunkNext := []
  combined := []
  credited := []
  lastBcast := []
  downs := []
  bulkBad := []
  bulkSpares := 8
  bulkMap := []
  scalarBad := []
  scalarSpares := 128
  scalarDead := false
  scalarHeld := []
  spilledFrame := false
  totLoad := none
  irq := []

def TabBank.empty : TabBank := ⟨false, 0, []⟩
def Seq.reset : Seq := ⟨TabBank.empty, TabBank.empty, none, none, [], [], false⟩

/-- A core right after reset (R299): VLEN with BITS 512 and SEW 3, VCNT 8, everything else 0. -/
def Core.reset : Core where
  g := []
  v := []
  q := []
  vlen := 512 + 3 * 65536
  vcnt := 8
  vstart := 0
  fcsr := 0
  pc := 0
  entry := none
  start := 0
  pinned := false
  soft := false
  idleAt := 0
  held := 0
  intAt := none
  exc := none
  dpFree := 0
  lsFree := 0
  times := []
  poisoned := false
  clean := []
  l1 := []
  code := []

def Ckpt.idle : Ckpt := ⟨0, 0, 0, [], [], [], 0, [], [], 0, 0, none, 0, [], 0⟩

def Boot.reset : Boot where
  pwrok := true
  sbyok := true
  starting := true
  stalled := false
  cut := false
  failed := 0
  straps := 0
  ibiTrip := 0
  ibiDark := 0
  msix := []
  pinsLow := true
  fwDigest := []
  cfgDigest := []
  cfgSeq := 0
  ownerPub := []
  hosts := []
  sessions := []
  offers := []
  lastCtr := []
  ide := []
  tickets := []
  nextId := 1
  jobIds := []
  keyLists := []
  slots := []
  ring := []
  cert := []
  resetDue := false

def Dr.idle : Dr := ⟨none, false, 0, [], [], 0, false, false, 0, 0⟩
def Lsc.idle : Lsc := ⟨0, [], 0, false, [], false, []⟩

/-- The state right after reset: every register at its reset value (an empty field store), memory with nothing listed, all queues empty. (DESIGN CHOICE, notes/assumptions/8.md) -/
def State.reset : State where
  pending := []
  clk := ⟨0, 0, 0, 0, 0, 0⟩
  fused := ⟨1, 1, 0, none⟩
  fld := []
  defer := []
  mem := []
  undef := []
  ecc := []
  poison := []
  acf := []
  acfEcc := []
  a0 := ADie.reset
  a1 := ADie.reset
  a2 := ADie.reset
  a3 := ADie.reset
  p0 := Part.reset
  p1 := Part.reset
  p2 := Part.reset
  p3 := Part.reset
  owner := [0, 0, 0, 0]
  dark := []
  reports := []
  jqueue := []
  journal := []
  bringIn := []
  spareBad := []
  hbmWait := []
  rowMap := []
  colMap := []
  th := ⟨List.replicate 16 0, none, none, none, false, false, false, []⟩
  fab := Fab.reset
  coll := Coll.reset
  nicOwner := [0, 0, 0, 0, 0, 0, 0, 0]
  sve := Seq.reset
  sveJob := none
  cor := Seq.reset
  cores := List.replicate 64 Core.reset
  ccache := []
  pmc := Seq.reset
  mig := none
  cfg := []
  ckpt := List.replicate 4 Ckpt.idle
  csm := []
  csArm := none
  tbTries := []
  boot := Boot.reset
  dr := Dr.idle
  lsc := Lsc.idle
  tap := ⟨0, 0⟩
  svc := ⟨none, [], [], (0, 0)⟩
  nvm := []
  out := ⟨0, 0, []⟩
  free := 0
  w1c := []
  hist := []
  acfHist := []
  fails := []
  fdieWait := false
  pdieCool := none

end Sys2Proof.Machine
end

