-- ==== Sys2Proof/Machine/Ops.lean ====
section
/-! DEFINITION. The named operations over the state that every meaning uses: dies, partitions, register fields, counters, time, memory, address decoding and event reports. -/
namespace Sys2Proof.Machine

/-! Dies and partitions. -/

/-- A-die `n` (taken modulo 4). -/
def State.die (s : State) (n : Nat) : ADie :=
  match n % 4 with
  | 0 => s.a0
  | 1 => s.a1
  | 2 => s.a2
  | _ => s.a3

def State.setDie (s : State) (n : Nat) (d : ADie) : State :=
  match n % 4 with
  | 0 => { s with a0 := d }
  | 1 => { s with a1 := d }
  | 2 => { s with a2 := d }
  | _ => { s with a3 := d }

def State.updDie (s : State) (n : Nat) (f : ADie → ADie) : State := s.setDie n (f (s.die n))

/-- Partition `p`'s frame state. -/
def State.part (s : State) (p : Nat) : Part :=
  match p % 4 with
  | 0 => s.p0
  | 1 => s.p1
  | 2 => s.p2
  | _ => s.p3

def State.setPart (s : State) (p : Nat) (x : Part) : State :=
  match p % 4 with
  | 0 => { s with p0 := x }
  | 1 => { s with p1 := x }
  | 2 => { s with p2 := x }
  | _ => { s with p3 := x }

def State.updPart (s : State) (p : Nat) (f : Part → Part) : State := s.setPart p (f (s.part p))

/-- The partition that owns A-die `n` (R548, R549). -/
def State.partOf (s : State) (n : Nat) : Nat := (s.owner.getD (n % 4) 0) % 4

/-- The A-dies of a partition, in increasing order (R549). -/
def State.diesOf (s : State) (p : Nat) : List Nat := [0, 1, 2, 3].filter (fun n => s.partOf n == p)

/-! Register fields. -/

/-- The value a register field holds. -/
def State.getF (s : State) (f : Fld) : Nat := s.fld.get f.key f.reset

/-- Set a register field (its low `width` bits). -/
def State.setF (s : State) (f : Fld) (v : Nat) : State := { s with fld := s.fld.put f.key (v % 2 ^ f.width) f.reset }

/-- Set a list of fields in order. -/
def State.setFs (s : State) (l : List (Fld × Nat)) : State := l.foldl (fun s x => s.setF x.1 x.2) s

/-- The bits of a field that hardware has set in the present cycle (R12). -/
def State.setNow (s : State) (f : Fld) : Nat :=
  (s.w1c.filter (fun x => x.1 == f.key && x.2.1 == s.clk.cyc)).foldl (fun (m : Nat) (x : Nat × Nat × Nat) => m ||| x.2.2) 0

/-- Hardware sets bits `m` of a field in the present cycle: they end set whatever software clears in that cycle (R12). -/
def State.hwSet (s : State) (f : Fld) (m : Nat) : State :=
  { s.setF f (s.getF f ||| m) with w1c := s.w1c.filter (fun x => x.2.1 == s.clk.cyc) ++ [(f.key, s.clk.cyc, m)] }

/-- Software writes 1 to bits `m` of a W1C field: they clear, but for those that hardware set in the same cycle (R11, R12). -/
def State.clearBits (s : State) (f : Fld) (m : Nat) : State :=
  let c := s.getF f &&& m
  s.setF f (s.getF f - (c - (c &&& s.setNow f)))

/-- Hardware gives fields values in the present cycle; the bits set are noted as for `State.hwSet` (R12). -/
def State.hwSets (s : State) (l : List (Fld × Nat)) : State :=
  { s.setFs l with w1c := s.w1c.filter (fun x => x.2.1 == s.clk.cyc) ++ l.map (fun x => (x.1.key, s.clk.cyc, x.2)) }

/-- Add to a field that saturates at its largest value. -/
def State.satF (s : State) (f : Fld) (n : Nat) : State := s.setF f (satAdd f.width (s.getF f) n)

/-- Whether CXL IDE is in effect on LD `p` (R551). -/
def State.ideOn (s : State) (p : Nat) : Bool := s.getF (F.TELLER_STATUS_IDE p) == 1

/-- A host's write of BAR2 of LD `p`: without IDE it is dropped and counted (R551). -/
def State.bar2 (s : State) (p : Nat) (f : State → State) : State := if s.ideOn p then f s else s.satF (F.TELLER_STATUS_UNPROTECTED p) 1

/-- Event counter `i` of die `e` (0 to 3 A-dies, 4 P-die, 5 F-die) counts `n` events and saturates (R499 to R502). (DESIGN CHOICE, notes/assumptions/60.md) -/
def State.count (s : State) (e i n : Nat) : State := s.satF (F.CNT_COUNT e i) n

/-! Free values. -/

/-- The next free number (Config.freeNat); the counter advances so every use is fresh. (DESIGN CHOICE, notes/assumptions/7.md) -/
def State.freshNat (s : State) : Nat × State := (Config.freeNat s.free, { s with free := s.free + 1 })

/-- `n` fresh bytes. (DESIGN CHOICE, notes/assumptions/7.md) -/
def State.freshBytes (s : State) (n : Nat) : List Byte × State :=
  ((List.range n).map (fun i => Config.freeByte (s.free + i)), { s with free := s.free + n })

/-! Time. -/

/-- The arithmetic clock of a level in units of 10 MHz (R375). -/
def aclkOf (grade level : Nat) : Nat :=
  if grade = 1 then
    (match level with
      | 0 => 130 | 1 => 125 | 2 => 120 | 3 => 115 | 4 => 110 | 5 => 100 | 6 => 90 | _ => 80)
  else
    (match level with
      | 0 => 115 | 1 => 110 | 2 => 105 | 3 => 100 | 4 => 90 | _ => 80)

/-- The lowest level of the grade (R1). -/
def lowestLevel (grade : Nat) : Nat := if grade = 1 then 7 else 5

/-- The arithmetic clock in effect, in units of 10 MHz; 0 while tripped (R377). (DESIGN CHOICE, notes/assumptions/5.md) -/
def State.aclk (s : State) : Nat :=
  if s.getF F.TH_STATUS_TRIPPED = 1 then 0 else aclkOf s.fused.grade (s.getF F.TH_STATUS_LEVEL)

/-- A partition's count after `d` ns of the reference clock, with its rate adjustment in parts per billion (R46, R47). -/
def Part.tickNs (x : Part) (d : Nat) : Part :=
  let t := x.adjRem + x.adj * (d : Int)
  { x with nsOff := x.nsOff + t / 1000000000, adjRem := t % 1000000000 }

/-- `d` nanoseconds pass: every count of time advances, the arithmetic clock only while it runs. (DESIGN CHOICE, notes/assumptions/5.md) -/
def State.advanceNs (s : State) (d : Nat) : State :=
  let a := s.aclk
  let t := d * a + s.clk.cycRem
  let u := d * s.getF F.CLK_STATUS_CORE_CLK + s.clk.coreRem
  { s with
    clk := { s.clk with
      ns := s.clk.ns + d, cyc := s.clk.cyc + t / 100, cycRem := t % 100,
      core := s.clk.core + u / 10, coreRem := u % 10 }
    p0 := s.p0.tickNs d, p1 := s.p1.tickNs d, p2 := s.p2.tickNs d, p3 := s.p3.tickNs d }

/-- `n` arithmetic cycles pass; none pass while the clock is stopped (R377). (DESIGN CHOICE, notes/assumptions/1.md; DESIGN CHOICE, notes/assumptions/5.md) -/
def State.advanceCyc (s : State) (n : Nat) : State :=
  let a := s.aclk
  if a = 0 then s
  else
    let t := n * 100 + s.clk.nsRem
    let d := t / a
    let u := d * s.getF F.CLK_STATUS_CORE_CLK + s.clk.coreRem
    { s with
      clk := { s.clk with
        cyc := s.clk.cyc + n, nsRem := t % a, ns := s.clk.ns + d,
        core := s.clk.core + u / 10, coreRem := u % 10 }
      p0 := s.p0.tickNs d, p1 := s.p1.tickNs d, p2 := s.p2.tickNs d, p3 := s.p3.tickNs d }

/-- The frame cycle of partition `p` (R53): cycles since its frame's cycle 0. -/
def State.frameCyc (s : State) (p : Nat) : Nat := s.clk.cyc - (s.part p).cycle0

/-- Time advances to frame cycle `c` of partition `p`, unless it is there already. (DESIGN CHOICE, notes/assumptions/1.md) -/
def State.toCyc (s : State) (p c : Nat) : State := s.advanceCyc (c - s.frameCyc p)

/-- A partition's fabric nanosecond count, GST_NS (R46, R66). -/
def State.gstNs (s : State) (p : Nat) : Nat := (((s.clk.ns : Int) + (s.part p).nsOff) % (2 ^ 64 : Nat)).toNat

/-- Time advances to `t` nanoseconds after reset, unless it is there already. (DESIGN CHOICE, notes/assumptions/1.md) -/
def State.toNs (s : State) (t : Nat) : State := s.advanceNs (t - s.clk.ns)

/-! Frame states (R56). -/

def stIdle : Nat := 0
def stWaitTick : Nat := 1
def stRunning : Nat := 2
def stDark : Nat := 3
def stStopped : Nat := 4
def stFailed : Nat := 5

/-- FRAME_STATUS.STATE of a partition. -/
def State.frameState (s : State) (p : Nat) : Nat := s.getF (F.FRAME_STATUS_STATE p)

def State.setFrameState (s : State) (p st : Nat) : State := s.setF (F.FRAME_STATUS_STATE p) st

/-- Whether a frame has started and not yet closed or drained. -/
def State.inFrame (s : State) (p : Nat) : Bool := s.frameState p == stRunning || s.frameState p == stFailed

/-- IDLE or STOPPED. -/
def State.atRest (s : State) (p : Nat) : Bool := s.frameState p == stIdle || s.frameState p == stStopped

/-- Every partition is IDLE or STOPPED. (DEDUCED, notes/assumptions/64.md) -/
def State.allAtRest (s : State) : Bool := [0, 1, 2, 3].all (fun p => s.atRest p)

/-- GST_STEP.PENDING: ticks taken and not started, without the one whose frame starts at once (R62, R63). (DEDUCED, notes/assumptions/13.md) -/
def Part.pending (x : Part) : Nat := x.ticks.length - b2n (x.startAt.isSome && !x.held)

def State.showPending (s : State) (p : Nat) : State := s.setF (F.GST_STEP_PENDING p) (s.part p).pending

/-- The frame of a partition enters STOPPED: no frame is on its way, nor a rerun; its ticks stay in PENDING (R64, R366). -/
def State.stopFrame (s : State) (p : Nat) : State :=
  ((s.updPart p (fun x => { x with startAt := none, late := false, held := false, rerunArmed := false })).setFrameState p stStopped).showPending p

/-- DARK_LEN in effect for a frame length (R55). -/
def darkLenOf (len dark : Nat) : Nat := if dark = 0 then len * 15 / 1000 else dark

def State.darkLen (s : State) (p : Nat) : Nat := darkLenOf (s.getF (F.FRAME_LEN_LEN p)) (s.getF (F.FRAME_LEN_DARK_LEN p))

/-! Event reports. -/

/-- The partition whose frame step and count a die's reports carry: an A-die's owner, otherwise partition 0. -/
def State.partOfUnit (s : State) (die : Nat) : Nat := if die < 4 then s.partOf die else 0

/-- Report an event to the journal over the sidebands (R516, R518, R507) with an explicit class. -/
def State.raiseC (s : State) (cls code die unit loc kind value : Nat) (addrForm : Bool) : State :=
  let p := s.partOfUnit die
  { s with reports := s.reports ++
      [⟨code, cls, die, unit, loc, kind, value % 2 ^ 32, addrForm, s.getF (F.FRAME_STATUS_FRAME_STEP p), s.gstNs p, 1, s.gstNs p⟩] }

/-- Report an event with the class of its code (R516). -/
def State.raise (s : State) (code die unit loc kind value : Nat) : State :=
  s.raiseC (classOf code) code die unit loc kind value false

/-- The same for a partition's own F-die events (DIE 5, UNIT 0): step and count of that partition. -/
def State.raiseP (s : State) (p code loc kind value : Nat) : State :=
  { s with reports := s.reports ++
      [⟨code, classOf code, 5, 0, loc, kind, value % 2 ^ 32, false, s.getF (F.FRAME_STATUS_FRAME_STEP p), s.gstNs p, 1, s.gstNs p⟩] }

/-! Device memory (R35, R316): one byte store for every window; an unlisted byte reads 0x00 (notes/assumptions/3.md), or a free value once the manual has called the contents of its memory undefined. -/

/-- The memory an address belongs to: 0 to 3 the T1 window of an A-die, 4 T2, 5 to 8 the SPM of an A-die. -/
def memRegion (a : Nat) : Option Nat :=
  if a < 0x8000000000 then some (a / 0x2000000000)
  else if 0x10000000000 ≤ a ∧ a < 0x30000000000 then some 4
  else if 0xF0000000000 ≤ a ∧ a < 0xF0000000000 + 4 * 0x40000000 then some (5 + (a - 0xF0000000000) / 0x40000000)
  else none

/-- How often the contents of an address's memory became undefined. -/
def State.epoch (s : State) (a : Nat) : Nat := (memRegion a).elim 0 (fun r => Assoc.get s.undef r 0)

/-- What a byte of memory that nothing has written reads as. (DESIGN CHOICE, notes/assumptions/3.md) -/
def State.memDflt (s : State) (a : Nat) : Byte := if s.epoch a = 0 then 0 else Config.undefByte (s.epoch a) a

/-- The byte at a device address. (DESIGN CHOICE, notes/assumptions/3.md) -/
def State.memByte (s : State) (a : Nat) : Byte := Assoc.get s.mem a (s.memDflt a)

def State.setByte (s : State) (a : Nat) (b : Byte) : State := { s with mem := Assoc.put s.mem a b (s.memDflt a) }

/-- `n` bytes from address `a`. -/
def State.readMem (s : State) (a n : Nat) : List Byte := (List.range n).map (fun i => s.memByte (a + i))

/-- Write bytes from address `a` on. -/
def State.writeMem (s : State) (a : Nat) : List Byte → State
  | [] => s
  | b :: r => (s.setByte a b).writeMem (a + 1) r

/-- The canonical form of memory: addresses strictly rising, no entry equal to what an unlisted address reads as. -/
def Memory.wf (s : State) : Bool := Assoc.wf s.memDflt s.mem

/-- The contents of a memory become undefined: nothing of it stays listed, and its bytes are free values. (DESIGN CHOICE, notes/assumptions/3.md) -/
def State.loseMem (s : State) (r : Nat) : State :=
  { s with
    mem := s.mem.filter (fun c => memRegion c.1 != some r)
    undef := Assoc.put s.undef r (Assoc.get s.undef r 0 + 1) 0
    hist := s.hist.filter (fun h => memRegion h.addr != some r)
    ecc := s.ecc.filter (fun x => memRegion (8 * x.1) != some r) }

/-- The little-endian number in `n` bytes at `a`. -/
def State.readNat (s : State) (a n : Nat) : Nat := leNat (s.readMem a n)

def State.writeNat (s : State) (a n x : Nat) : State := s.writeMem a (leBytes n x)

/-- Base of a die's SPM window (R35). -/
def spmBase (n : Nat) : Nat := 0xF0000000000 + n * 0x40000000

def spmSize : Nat := 0x40000000

/-- A row of R35: which tier an address decodes to, whatever is installed. -/
inductive Tier where
  | t1 | t2 | t3
  | spm (die : Nat)
deriving DecidableEq, Repr

def rowOf (a : Nat) : Option Tier :=
  if a < 0x8000000000 then some .t1
  else if 0x10000000000 ≤ a ∧ a < 0x30000000000 then some .t2
  else if 0x30000000000 ≤ a ∧ a < 0x70000000000 then some .t3
  else if 0xF0000000000 ≤ a ∧ a < 0xF0000000000 + 4 * 0x40000000 then some (.spm ((a - 0xF0000000000) / 0x40000000))
  else none

/-- P_n of A-die `n` (R336). -/
def State.pcs (s : State) (n : Nat) : Nat := s.getF (F.HBM_STATUS_DIE_PCS n 0)

/-- The A-die whose T1 region holds an address, and the offset in it (R337). -/
def State.t1Die (s : State) (a : Nat) : Option (Nat × Nat) :=
  let n := a / 0x2000000000
  let o := a % 0x2000000000
  if n < 4 ∧ o < s.pcs n * 1000000000 then some (n, o) else none

/-- The logical pseudo-channel and block row of an offset in a region (R337). -/
def State.t1Pc (s : State) (n o : Nat) : Nat × Nat := let k := o / 256; (k % s.pcs n, k / s.pcs n)

def t2Base : Nat := 0x10000000000
def t3Base : Nat := 0x30000000000

/-- The tier that serves an address, none when unmapped or above installed capacity (R35, R36, R337, R371). -/
def State.tierOf (s : State) (a : Nat) : Option Tier :=
  match rowOf a with
  | some .t1 => if (s.t1Die a).isSome then some .t1 else none
  | some .t2 => if a - t2Base < s.getF F.T2_CAP_GB_PER_CHANNEL * 32 * 1000000000 then some .t2 else none
  | some .t3 => if a - t3Base < s.getF F.T3PORT_STATUS_MAPPED_GB * 1000000000 then some .t3 else none
  | some (.spm n) => some (.spm n)
  | none => none

/-- Bytes from `a` to the end of the installed memory that serves it. -/
def State.extent (s : State) (a : Nat) : Nat :=
  match s.tierOf a with
  | some .t1 => s.pcs (a / 0x2000000000) * 1000000000 - a % 0x2000000000
  | some .t2 => t2Base + s.getF F.T2_CAP_GB_PER_CHANNEL * 32 * 1000000000 - a
  | some .t3 => t3Base + s.getF F.T3PORT_STATUS_MAPPED_GB * 1000000000 - a
  | some (.spm n) => spmBase (n + 1) - a
  | none => 0

/-- Whether every byte of [a, a + n) is served, going from memory to memory at most `k` times (R35, R36). -/
def State.spanOk (s : State) : Nat → Nat → Nat → Bool
  | 0, _, n => n == 0
  | k + 1, a, n => n == 0 || (let e := s.extent a; if e = 0 then false else if n ≤ e then true else s.spanOk k (a + e) (n - e))

/-- Whether every byte of [a, a + n) is served by some tier. -/
def State.rangeOk (s : State) (a n : Nat) : Bool := s.spanOk 12 a n

/-- Whether [a, a + n) lies in installed T1. -/
def State.inT1 (s : State) (a n : Nat) : Bool := s.tierOf a == some .t1 && s.rangeOk a n

/-- Whether [a, a + n) lies in A-die `d`'s own T1 region (R337). -/
def State.inT1Of (s : State) (d a n : Nat) : Bool := s.inT1 a n && a / 0x2000000000 == d

/-! ECC marks: 64-bit word address → 1 single-bit error, 2 double-bit error, 3 poison (R184, R361, R365). -/

def State.eccOf (s : State) (a : Nat) : Nat := s.ecc.get (a / 8) 0

def State.setEcc (s : State) (a v : Nat) : State := { s with ecc := s.ecc.put (a / 8) v 0 }

/-- Whether a word lies in a poisoned area and has not been written since. (DEDUCED, notes/assumptions/65.md) -/
def State.inPoison (s : State) (w : Nat) : Bool :=
  s.poison.any (fun p =>
    (if p.t1 then
      (match s.t1Die (8 * w) with
        | some (n, o) => n == p.die && (s.t1Pc n o).1 == p.num
        | none => false)
    else decide (spmBase p.die ≤ 8 * w) && decide (8 * w < spmBase (p.die + 1)) && (8 * w - spmBase p.die) / 128 % 256 == p.num)
    && !(p.clean.contains w))

/-- The words of [a, a + n). (DEDUCED, notes/assumptions/65.md) -/
def words (a n : Nat) : List Nat := if n = 0 then [] else (List.range ((a + n - 1) / 8 - a / 8 + 1)).map (fun i => a / 8 + i)

/-- Whether any word of [a, a + n) is poisoned or has a double-bit error. (DEDUCED, notes/assumptions/65.md) -/
def State.poisoned (s : State) (a n : Nat) : Bool :=
  n != 0 && (s.ecc.any (fun x => decide (a / 8 ≤ x.1) && decide (x.1 ≤ (a + n - 1) / 8) && decide (2 ≤ x.2))
    || (!s.poison.isEmpty && (words a n).any s.inPoison))

/-- Renewal of the codes by a write of [a, a + n): a whole word clears its mark, a part corrects a single-bit error and keeps poison (R184, R361). (DEDUCED, notes/assumptions/65.md) -/
def State.eccWrite (s : State) (a n : Nat) : State :=
  let full := fun (w : Nat) => decide (a ≤ w * 8) && decide (w * 8 + 8 ≤ a + n)
  { s with
    ecc := s.ecc.filter (fun x => !(full x.1) && !(x.2 == 1 && decide (x.1 * 8 < a + n) && decide (a < x.1 * 8 + 8)))
    poison := s.poison.map (fun p => { p with clean := p.clean ++ (words a n).filter (fun w => full w && s.inPoison w) }) }

/-- A data write: bytes and their codes. -/
def State.store (s : State) (a : Nat) (l : List Byte) : State := (s.writeMem a l).eccWrite a l.length

/-! Accesses in the order of their cycles. A row of the model performs a whole command; its accesses take effect in the cycles that the command's timing gives, whichever row ran first: a write keeps what stood before it, a read in cycle c leaves out the writes of later cycles, and a write of an earlier cycle goes under those of later ones (R180, R181, R342, R358). (DESIGN CHOICE, notes/assumptions/10.md) -/

/-- Element bytes, target bytes and target step of an adder TYPE (R354). -/
def adderE (ty : Nat) : Nat := match ty with
  | 0 => 4 | 1 => 8 | 2 => 4 | 3 => 2 | _ => 8

def adderT (ty : Nat) : Nat := match ty with
  | 0 => 4 | 1 => 8 | 2 => 64 | 3 => 64 | _ => 128

/-- Bytes of a target word: an integer, or a ledger word (R118, R354). -/
def adderWord (ty : Nat) : Nat := match ty with
  | 0 => 4 | 1 => 8 | 2 => 64 | 3 => 64 | _ => 80

/-- Element value `x`, presented through window `w`, added to the target word whose bytes are `cur`; none on a phase fault. A PHASE byte other than 0 and 1 lets both passes in. (R355; DESIGN CHOICE for that byte, notes/assumptions/68.md) -/
def addWord (ty w x : Nat) (cur : List Byte) : Option (List Byte) :=
  if ty < 2 then some (leBytes (adderE ty) (leNat cur + x))
  else if ty < 4 then some ((Lg32.ofBytes cur).add (if ty = 2 then fmtF32.decode x else elemVal 8 x)).toBytes
  else
    let g := Lgw.ofBytes cur
    if w = 1 then some g.setPhase.toBytes
    else if w = 0 then (if g.phase = 1 then none else some (g.pass1 (fmtF64.decode x)).toBytes)
    else if g.phase = 0 then none else some (g.pass2 (fmtF64.decode x)).toBytes

/-- The bytes that an effect reads and writes, and what it makes of them. -/
def MemEff.len : MemEff → Nat
  | .put b => b.length
  | .add ty _ _ => adderWord ty

def MemEff.run (e : MemEff) (cur : List Byte) : Option (List Byte) :=
  match e with
  | .put b => some b
  | .add ty w x => addWord ty w x cur

/-- The key of cycle `c`, counted from reset; `rank` orders the writes that take effect in one cycle. -/
def cycKey (c rank : Nat) : Nat := c * 4096 + rank

/-- The cycle from reset of frame cycle `c` of an A-die's partition; the P-die's and the F-die's units count with partition 0. -/
def State.absCyc (s : State) (die c : Nat) : Nat := (s.part (s.partOfUnit die)).cycle0 + c

/-- Whether no partition is in a frame: accesses then take effect as they are made. -/
def State.quiet (s : State) : Bool := [0, 1, 2, 3].all (fun p => !(s.inFrame p))

/-- Whether a write takes in the byte at `a`. -/
def MemW.covers (h : MemW) (a : Nat) : Bool := decide (h.addr ≤ a) && decide (a < h.addr + h.old.length)

/-- The byte at `a` as an access of key `k` sees it. -/
def State.byteAt (s : State) (k a : Nat) : Byte :=
  match ((s.hist.takeWhile (fun h => decide (k < h.at_))).filter (fun h => h.covers a)).getLast? with
  | none => s.memByte a
  | some h => h.old.getD (a - h.addr) 0

/-- `n` bytes from `a` as an access of key `k` sees them. -/
def State.readAt (s : State) (k a n : Nat) : List Byte := (List.range n).map (fun i => s.byteAt k (a + i))

/-- The little-endian number in `n` bytes at `a` as an access of key `k` sees it. -/
def State.natAt (s : State) (k a n : Nat) : Nat := leNat (s.readAt k a n)

/-- Put back what stood before a write. -/
def State.undo (s : State) (h : MemW) : State := s.writeMem h.addr h.old

/-- Make a write again on what stands at its address now, and put it at the front of the list. -/
def State.redo (x : State × List MemW) (h : MemW) : State × List MemW :=
  let cur := x.1.readMem h.addr h.eff.len
  (x.1.writeMem h.addr ((h.eff.run cur).getD cur), { h with old := cur } :: x.2)

/-- A write of effect `e` at address `a`, which takes effect at key `k`, by requester `who`, of a unit that began in cycle `u`: under every write of a later key. None when the effect is refused. -/
def State.storeAt (s : State) (k u who a : Nat) (e : MemEff) : Option State :=
  if s.quiet then (e.run (s.readMem a e.len)).map (fun b => s.store a b)
  else
    let late := s.hist.takeWhile (fun h => decide (k < h.at_))
    let s1 := late.foldl State.undo s
    let cur := s1.readMem a e.len
    (e.run cur).map (fun b =>
      let r := late.reverse.foldl State.redo (s1.store a b, ⟨k, u, who, a, e, cur⟩ :: s.hist.dropWhile (fun h => decide (k < h.at_)))
      { r.1 with hist := r.2 })

/-- A write of bytes, likewise. -/
def State.putAt (s : State) (k u who a : Nat) (b : List Byte) : State := (s.storeAt k u who a (.put b)).getD s

/-- Take back the writes that `gone` selects. -/
def State.unwrite (s : State) (gone : MemW → Bool) : State :=
  let r := (s.hist.reverse.filter (fun h => !(gone h))).foldl State.redo (s.hist.foldl State.undo s, [])
  { r.1 with hist := r.2 }

/-- Forget what stood before writes that no access to come can precede: those before cycle 0 of the earliest frame that is open. -/
def State.trimHist (s : State) : State :=
  let c := ([0, 1, 2, 3].filter (fun p => s.inFrame p)).foldl (fun m p => min m (s.part p).cycle0) s.clk.cyc
  { s with hist := s.hist.filter (fun h => decide (cycKey c 0 ≤ h.at_)), acfHist := s.acfHist.filter (fun h => decide (c ≤ h.at_)) }

/-- Single-bit errors of [a, a + n) corrected by a read: their number, and the state with the codes renewed. -/
def State.correct (s : State) (a n : Nat) : Nat × State :=
  if n = 0 then (0, s)
  else
    let hit := fun (x : Nat × Nat) => decide (a / 8 ≤ x.1) && decide (x.1 ≤ (a + n - 1) / 8) && x.2 == 1
    ((s.ecc.filter hit).length, { s with ecc := s.ecc.filter (fun x => !hit x) })

/-! The P-die local windows that store data: the SVE SRAM, the exchange store and the local stores (R316, R317). -/

def sveSram : Nat := 0xE0000000000
def sramSize : Nat := 128 * 2 ^ 20
def exchangeBase : Nat := 0xE1000000000
def localBase (c : Nat) : Nat := 0xE2000000000 + c * 0x200000

def State.exchangeSize (s : State) : Nat := s.getF F.PIN_CFG_XS_MIB * 2 ^ 20
def State.localSize (s : State) : Nat := s.getF F.PIN_CFG_LS_WAYS * 2 ^ 17

/-- The core whose local window holds an address. -/
def localOf (a : Nat) : Option Nat := if localBase 0 ≤ a ∧ a < localBase 64 then some ((a - localBase 0) / 0x200000) else none

/-- Whether [a, a + n) lies in one store of the P-die local windows. (DEDUCED, notes/assumptions/17.md) -/
def State.inWindow (s : State) (a n : Nat) : Bool :=
  (decide (sveSram ≤ a) && decide (a + n ≤ sveSram + sramSize)) || (decide (exchangeBase ≤ a) && decide (a + n ≤ exchangeBase + s.exchangeSize))
    || (localOf a).any (fun c => decide (a + n ≤ localBase c + s.localSize))

/-- Whether a word of [a, a + n) lies in a local store that a spare core took over unreadable and that nothing has written since (R329). -/
def State.localPoison (s : State) (a n : Nat) : Bool :=
  (localOf a).any (fun c => (s.cores[c]?).any (fun x => x.poisoned && (words a n).any (fun w => !(x.clean.contains w))))

/-- Single-bit errors of SVE SRAM corrected by a read of [a, a + n): counted, with the offset of the last word (R295, R296). -/
def State.sramCorrect (s : State) (a n : Nat) : State :=
  let last := (s.ecc.filter (fun x => decide (a / 8 ≤ x.1) && decide (x.1 ≤ (a + n - 1) / 8) && x.2 == 1)).getLast?
  let (k, s) := s.correct a n
  match last with
  | some w => (s.satF F.SVE_SRAM_ERR_COUNT k).setF F.SVE_SRAM_ERR_OFFSET (8 * w.1 - sveSram)
  | none => s

/-- A read of a local window: a code, 0 for success, and the bytes. (DEDUCED, notes/assumptions/17.md) -/
def State.windowRead (s : State) (a n : Nat) : Nat × List Byte × State :=
  if s.localPoison a n then (C.CORE_POISON, [], s)
  else if s.poisoned a n then (if a < exchangeBase then C.SVE_SRAM_UNCORRECTABLE else C.CORE_MACHINE_CHECK, [], s)
  else (0, s.readMem a n, if a < exchangeBase then s.sramCorrect a n else (s.correct a n).2)

/-- A write of a local window; a word written whole in a poisoned local store is poisoned no more (R329). (DEDUCED, notes/assumptions/17.md) -/
def State.windowStore (s : State) (a : Nat) (b : List Byte) : State :=
  let s := s.store a b
  match localOf a with
  | none => s
  | some c => { s with cores := s.cores.modify c (fun x =>
      if x.poisoned then { x with clean := x.clean ++ (words a b.length).filter (fun w => decide (a ≤ 8 * w) && decide (8 * w + 8 ≤ a + b.length)) } else x) }

/-! Responses to whoever sent the command. -/

/-- DESIGN CHOICE, notes/assumptions/2.md. -/
def State.answer (s : State) (code value : Nat) : State := { s with out := ⟨code, value, []⟩ }

/-- A refusal: the code is the answer, and is reported to the journal like every code (R516). (DESIGN CHOICE for LOCATION and VALUE, notes/assumptions/71.md) -/
def State.refused (s : State) (code die unit loc : Nat) : State := (s.raise code die unit loc 0 0).answer code 0

/-- DESIGN CHOICE, notes/assumptions/2.md. -/
def State.answerBytes (s : State) (code : Nat) (b : List Byte) : State := { s with out := ⟨code, 0, b⟩ }

end Sys2Proof.Machine
end

