-- ==== Sys2Proof/Machine/Spares.lean ====
section
/-! DEFINITION. Spares: failures that need one, bringing one in, and what happens when none is left (R129 to R132, R186 to R189, R329, R330, R364 to R367, R573, R575, R576, R583). -/
namespace Sys2Proof.Machine

/-- The live repair book state changes by the event just reported (R571, R573). -/
def State.dirty (s : State) : State :=
  let e := (s.reports.getLast?).map (fun r => (r.code, r.ns))
  ({ s with svc := { s.svc with event := e.getD (0, s.gstNs 0) } }).setF F.RB_STATUS_DIRTY 1

/-- Whether a kind of spare is under AUTO policy (R575, R592). -/
def State.spareAuto (s : State) (kind : Nat) : Bool := bit (s.getF F.RB_POLICY_AUTO) (kind - 1)

/-- State of physical pseudo-channel `pc` of a stack: its logical number, 0xFD reserve, 0xFE retired, 0xFF mapped out (R380). -/
def pcF (die stack pc : Nat) : Fld := F.HBM_PCMAP_STATE die stack (pc / 8) (pc % 8)

def State.pcState (s : State) (die stack pc : Nat) : Nat := s.getF (pcF die stack pc)

/-- The stack and physical pseudo-channel behind a logical pseudo-channel of a die (R336). -/
def State.physOf (s : State) (die l : Nat) : Option (Nat × Nat) :=
  ((List.range 96).map (fun i => (i / 32, i % 32))).find? (fun x => s.pcState die x.1 x.2 == l)

/-- How many spares of a kind a unit has, and the number of the first (R575). -/
def spareCount (kind : Nat) : Nat × Nat :=
  match kind with
  | 1 => (8, 0)
  | 2 => (4, 0)
  | 3 => (8, 0)
  | 4 => (32, 0)
  | 5 => (4, 64)
  | 7 => (15, 1)
  | _ => (0, 0)

/-- Whether spare `i` of a kind is unused. -/
def State.spareUnused (s : State) (kind die unit i : Nat) : Bool :=
  match kind with
  | 1 => s.rowMap.get (die * 8 + i) 0xFFFF == 0xFFFF
  | 2 => s.colMap.get (die * 4 + i) 0xFFFF == 0xFFFF
  | 3 => !(bit (s.getF (F.SPM_SPARES_IN_USE die)) i)
  | 4 => s.pcState die unit i == 0xFD
  | 5 => !(bit (s.getF F.CORE_SPARES_IN_USE) (i - 64))
  | 7 => decide (s.getF (F.SLINK_STATUS_LANES_SPARED die unit) < i)
  | _ => false

/-- The spare that a bring-in takes: the lowest one that is unused, has not failed, and is on no other way in (R576). -/
def State.freeSpare (s : State) (kind die unit : Nat) : Option Nat :=
  let (n, b) := spareCount kind
  ((List.range n).map (fun i => b + i)).find? (fun i =>
    s.spareUnused kind die unit i && !(s.spareBad.contains (kind, die, unit, i))
      && !(s.bringIn.any (fun x => x.kind == kind && x.die == die && x.unit == unit && x.spare == i)))

/-- Journal UNIT of a die's Slot Link endpoints (R517). -/
def slinkUnit (e : Nat) : Nat := if e < 4 then 11 else if e = 4 then 5 else 8

/-- The die and journal UNIT under which a kind's events are reported (R517). -/
def spareUnit (kind die unit : Nat) : Nat × Nat :=
  match kind with
  | 1 => (die, 1)
  | 2 => (die, 1)
  | 3 => (die, 3)
  | 4 => (die, 8 + unit)
  | 5 => (4, 2)
  | 6 => (5, 1)
  | 7 => (die, slinkUnit die)
  | _ => (5, 3)

/-- Whether a bring-in for a unit, or a retirement on its stack, is in progress (R576, R583). -/
def State.bringing (s : State) (kind die unit num : Nat) : Bool :=
  s.bringIn.any (fun x => x.kind == kind && x.die == die && x.unit == unit && (kind == 4 || x.num == num))

/-- Start bringing in a spare for a unit: the response code and the state (R576, R583). -/
def State.startBringIn (s : State) (kind die unit num : Nat) (noCopy : Bool) : Nat × State :=
  if s.bringing kind die unit num then (C.SPARE_BUSY, s)
  else match s.freeSpare kind die unit with
    | none => (C.SPARE_NONE, s)
    | some i =>
      let s := { s with bringIn := s.bringIn ++ [⟨kind, die, unit, num, i, noCopy, 0, 0⟩] }
      if kind = 4 then (0, ((s.setF (F.HBM_RETIRE_PIECES_DONE die unit) 0).raise C.HBM_RETIRE_STARTED die (8 + unit) num 0 0).dirty)
      else (0, s)

/-- A failure finds no spare left (R132, R189, R330, R577). -/
def State.sparesExhausted (s : State) (kind die num : Nat) : State :=
  match kind with
  | 1 => (s.setFs [(F.MXA_SPARES_EXHAUSTED die, 1), (F.MXA_STATUS_DEGRADED die, 1)]).raise C.ARRAY_SPARES_EXHAUSTED die 1 num 0 0
  | 2 => (s.setFs [(F.MXA_SPARES_EXHAUSTED die, 1), (F.MXA_STATUS_DEGRADED die, 1)]).raise C.ARRAY_SPARES_EXHAUSTED die 1 num 0 0
  | 3 => (s.setFs [(F.SPM_SPARES_EXHAUSTED die, 1), (F.SPM_STATUS_DEGRADED die, 1)]).raise C.SPM_SPARES_EXHAUSTED die 3 num 0 0
  | 5 => (s.setF F.CORE_SPARES_EXHAUSTED 1).raise C.CORE_SPARES_EXHAUSTED 4 2 num 0 0
  | 7 => s.raise C.SLINK_SPARES_EXHAUSTED die (slinkUnit die) num 0 0
  | _ => s

/-- A failure that needs a spare: brought in under AUTO policy, or the unit's spares are exhausted (R575, R582). (DEDUCED, notes/assumptions/31.md) -/
def State.needSpare (s : State) (kind die unit num : Nat) (noCopy : Bool) : State :=
  if s.bringing kind die unit num then s
  else if (s.freeSpare kind die unit).isNone then s.sparesExhausted kind die num
  else if s.spareAuto kind then (s.startBringIn kind die unit num noCopy).2
  else s

/-- Whether a pseudo-channel, by its logical number, can no longer be read (R365). -/
def State.pcFailed (s : State) (die l : Nat) : Bool :=
  s.hbmWait.any (fun w => w.die == die && s.pcState w.die w.stack w.pc == l)

/-- A physical pseudo-channel can no longer be read: a reserve replaces it without a copy when its policy allows, or it is mapped out when none is left, in both cases in the first cycle in which the frame is not RUNNING (R365, R366, R575, R583). (DEDUCED, notes/assumptions/15.md) -/
def State.pcLost (s : State) (die stack pc : Nat) : State :=
  if s.hbmWait.any (fun w => w.die == die && w.stack == stack && w.pc == pc) || decide (90 ≤ s.pcState die stack pc) then s
  else
    let reserve := (s.freeSpare 4 die stack).isSome || s.bringing 4 die stack 0
    { s with hbmWait := s.hbmWait ++ [⟨die, stack, pc, s.spareAuto 4 || !reserve⟩] }

/-- The frame of a die's partition is not RUNNING. (DEDUCED, notes/assumptions/64.md) -/
def State.notRunning (s : State) (die : Nat) : Bool := s.frameState (s.partOf die) != stRunning

/-- No partition's frame is RUNNING. (DEDUCED, notes/assumptions/64.md) -/
def State.noneRunning (s : State) : Bool := [0, 1, 2, 3].all (fun p => s.frameState p != stRunning)

/-- Drop the retirement of a stack (R583). -/
def State.dropRetire (s : State) (die stack : Nat) : State :=
  { s.setF (F.HBM_STATUS_MIGRATING die stack) 0 with
    bringIn := s.bringIn.filter (fun x => !(x.kind == 4 && x.die == die && x.unit == stack)) }

/-- Reserve `r` takes over the logical number of pseudo-channel `pc` (R336, R364). -/
def State.swapPc (s : State) (die stack pc r : Nat) : State :=
  let l := s.pcState die stack pc
  let s := s.hwSets [(pcF die stack r, l), (pcF die stack pc, 0xFE), (F.HBM_STATUS_RESERVES_LEFT die stack, s.getF (F.HBM_STATUS_RESERVES_LEFT die stack) - 1),
    (F.HBM_STATUS_RESERVE_USED die stack, 1)]
  ((s.raise C.HBM_RESERVE_USED die (8 + stack) pc 0 0).dirty)

/-- The switch at the end of a retirement copy (R364, R583). -/
def State.switchPc (s : State) (x : BringIn) : State :=
  (s.swapPc x.die x.unit x.num x.spare).dropRetire x.die x.unit

/-- Replacement of an unreadable pseudo-channel without a copy: every unit of the reserve is poisoned until it is written (R365). -/
def State.replacePc (s : State) (die stack pc r : Nat) : State :=
  let l := s.pcState die stack pc
  let s := s.swapPc die stack pc r
  { s with
    hbmWait := s.hbmWait.filter (fun w => !(w.die == die && w.stack == stack && w.pc == pc))
    poison := s.poison.filter (fun p => !(p.t1 && p.die == die && p.num == l)) ++ [⟨true, die, l, []⟩] }

/-- HBM_RESERVE_REPLACE (R365, R583): the reserve of an abandoned copy of this pseudo-channel, a free reserve, or the last reserve of another copy. -/
def doHbmReserveReplace (die stack pc : Nat) (s : State) : State :=
  if !(s.hbmWait.any (fun w => w.die == die && w.stack == stack && w.pc == pc && w.go)) || !(s.notRunning die) then s
  else
    let copy := s.bringIn.find? (fun x => x.kind == 4 && x.die == die && x.unit == stack)
    match copy, s.freeSpare 4 die stack with
    | some x, f =>
      if x.num = pc then (s.dropRetire die stack).replacePc die stack pc x.spare
      else (match f with
        | some r => s.replacePc die stack pc r
        | none => (s.dropRetire die stack).replacePc die stack pc x.spare)
    | none, some r => s.replacePc die stack pc r
    | none, none => s

def execHbmReserveReplace (die : Fin 4) (stack : Fin 3) (pc : Fin 32) (s : State) : Host.Outcome State Fault Refusal :=
  .next (doHbmReserveReplace die stack pc s)

/-- Usable T1 capacity of the package in GB (R367). -/
def State.t1Gb (s : State) : Nat := s.pcs 0 + s.pcs 1 + s.pcs 2 + s.pcs 3

/-- A queue bank becomes invalid. -/
def State.dropBank (s : State) (die b : Nat) : State :=
  (s.updDie die (fun d => if b = 0 then { d with bank0 := Bank.empty } else { d with bank1 := Bank.empty })).setF (F.SCU_PLAN_PLAN_ID die b) 0

/-- All queue banks of a die become invalid, with what depends on them (R366). -/
def State.dropBanks (s : State) (die : Nat) : State :=
  let s := (s.dropBank die 0).dropBank die 1
  let s := s.setFs [(F.SCU_STATUS_NEXT_VALID die, 0), (F.SCU_STATUS_SWITCH_ARMED die, 0)]
  let s := [0, 1, 2].foldl (fun s k => s.setFs [(F.HBM_STATUS_NEXT_VALID die k, 0), (F.HBM_STATUS_PLAN_ACTIVE die k, 0)]) s
  s.updDie die (fun d => { d with run := [], pend := [], held := [], qload := none })

/-- A logical number after number `l` was taken out. -/
def renumber (l x : Nat) : Nat := if x < 90 ∧ l < x then x - 1 else x

/-- HBM_MAP_OUT (R366, R367): P_n falls by 1, the numbers above move down, the region's contents are undefined, every queue bank is invalid, and the frame stops. (DEDUCED, notes/assumptions/15.md) -/
def doHbmMapOut (die stack pc : Nat) (s : State) : State :=
  if !(s.hbmWait.any (fun w => w.die == die && w.stack == stack && w.pc == pc && w.go)) || !(s.noneRunning)
      || (s.freeSpare 4 die stack).isSome || s.bringing 4 die stack 0 then s
  else
    let l := s.pcState die stack pc
    let before := s.t1Gb
    let s := (List.range 96).foldl (fun s (i : Nat) => s.setF (pcF die (i / 32) (i % 32)) (renumber l (s.pcState die (i / 32) (i % 32)))) s
    let s := s.hwSets [(pcF die stack pc, 0xFF), (F.HBM_STATUS_EXPOSED die stack, s.getF (F.HBM_STATUS_EXPOSED die stack) - 1),
      (F.HBM_STATUS_MAPPED_OUT die stack, 1)]
    let n := s.pcs die - 1
    let s := s.setFs [(F.HBM_STATUS_DIE_PCS die 0, n), (F.HBM_STATUS_DIE_PCS die 1, n), (F.HBM_STATUS_DIE_PCS die 2, n)]
    let s : State := { s.loseMem die with
      hbmWait := s.hbmWait.filter (fun w => !(w.die == die && w.stack == stack && w.pc == pc))
      poison := s.poison.filter (fun p => !(p.t1 && p.die == die)) }
    let s := [0, 1, 2, 3].foldl (fun s d => s.dropBanks d) s
    let s := [0, 1, 2, 3].foldl (fun s p => if s.diesOf p = [] then s else s.stopFrame p) s
    let s := (s.raise C.HBM_MAPPED_OUT die (8 + stack) n 0 s.t1Gb).dirty
    if 300 ≤ before ∧ s.t1Gb < 300 then s.raise C.T1_REMOVE_REQUEST die (8 + stack) 0 0 s.t1Gb else s

def execHbmMapOut (die : Fin 4) (stack : Fin 3) (pc : Fin 32) (s : State) : Host.Outcome State Fault Refusal :=
  .next (doHbmMapOut die stack pc s)

/-- HBM_RETIRE.GO: retires readable physical pseudo-channel PC with a copy; the response is the refusal's code (R364, R576, R583). -/
def hbmRetire (die stack pc : Nat) (s : State) : Nat × State :=
  if 90 ≤ s.pcState die stack pc ∨ s.hbmWait.any (fun w => w.die == die && w.stack == stack && w.pc == pc) then (C.SPARE_NONE, s)
  else s.startBringIn 4 die stack pc false

/-- HBM_RETIRE: a write of the register (R364, R380). -/
def doHbmRetire (die stack v : Nat) (s : State) : State :=
  let s := s.setF (F.HBM_RETIRE_PC die stack) (bits v 0 5)
  if bit v 63 then
    let (code, s) := hbmRetire die stack (bits v 0 5) s
    if code = 0 then s.answer 0 0 else s.refused code die (8 + stack) (bits v 0 5)
  else s.answer 0 0

def execHbmRetire (die : Fin 4) (stack : Fin 3) (val : Word) (s : State) : Host.Outcome State Fault Refusal :=
  .next (doHbmRetire die stack val.toNat s)

/-! End of a bring-in. -/

/-- The bring-in leaves the list. -/
def State.dropBringIn (s : State) (x : BringIn) : State := { s with bringIn := s.bringIn.filter (fun y => !(y == x)) }

/-- 64-byte units of a pseudo-channel. -/
def unitsPerPc : Nat := 15625000

/-- Whether a bring-in has copied all: 3 pieces of an SPM bank (R187), every unit of a pseudo-channel (R364), otherwise one piece. -/
def BringIn.copied (x : BringIn) : Bool :=
  if x.kind = 3 ∧ x.noCopy = false then decide (3 ≤ x.pieces) else if x.kind = 4 then decide (unitsPerPc ≤ x.units) else decide (1 ≤ x.pieces)

/-- MIGRATING of the unit whose contents a bring-in copies: set between pieces (R187, R217, R364). (DEDUCED, notes/assumptions/31.md) -/
def State.migrating (s : State) (x : BringIn) (v : Nat) : State :=
  if x.kind = 4 then s.setF (F.HBM_STATUS_MIGRATING x.die x.unit) v
  else if x.kind = 3 ∧ x.noCopy = false then s.setF (F.SPM_STATUS_MIGRATING x.die) v
  else s

/-- A spare row or column takes its logical place; a spare that served it before is not used again (R129, R130). (DEDUCED, notes/assumptions/45.md) -/
def State.useArraySpare (s : State) (x : BringIn) : State :=
  let s := if x.kind = 1 then
      let m := (List.range 8).foldl (fun (m : Assoc Nat) (i : Nat) => if m.get (x.die * 8 + i) 0xFFFF = x.num then m.put (x.die * 8 + i) 0xFFFF 0xFFFF else m) s.rowMap
      let bad := ((List.range 8).filter (fun (i : Nat) => s.rowMap.get (x.die * 8 + i) 0xFFFF == x.num)).map (fun i => (1, x.die, 0, i))
      { s.setF (F.MXA_SPARES_ROWS_IN_USE x.die) (s.getF (F.MXA_SPARES_ROWS_IN_USE x.die) ||| 2 ^ x.spare) with
        rowMap := m.put (x.die * 8 + x.spare) x.num 0xFFFF, spareBad := s.spareBad ++ bad }
    else
      let m := (List.range 4).foldl (fun (m : Assoc Nat) (i : Nat) => if m.get (x.die * 4 + i) 0xFFFF = x.num then m.put (x.die * 4 + i) 0xFFFF 0xFFFF else m) s.colMap
      let bad := ((List.range 4).filter (fun (i : Nat) => s.colMap.get (x.die * 4 + i) 0xFFFF == x.num)).map (fun i => (2, x.die, 0, i))
      { s.setF (F.MXA_SPARES_COLS_IN_USE x.die) (s.getF (F.MXA_SPARES_COLS_IN_USE x.die) ||| 2 ^ x.spare) with
        colMap := m.put (x.die * 4 + x.spare) x.num 0xFFFF, spareBad := s.spareBad ++ bad }
  ((s.raise C.ARRAY_SPARE_USED x.die 1 x.num 0 0).dirty).dropBringIn x

/-- A spare bank serves its bank index; without a copy its granules are poisoned until written (R186 to R188). -/
def State.useSpmSpare (s : State) (x : BringIn) : State :=
  let s := s.setFs [(F.SPM_SPARES_IN_USE x.die, s.getF (F.SPM_SPARES_IN_USE x.die) ||| 2 ^ x.spare), (F.SPM_SPAREMAP_BANK x.die x.spare, x.num), (F.SPM_STATUS_MIGRATING x.die, 0)]
  let s := if x.noCopy then { s with poison := s.poison.filter (fun p => !(!p.t1 && p.die == x.die && p.num == x.num)) ++ [⟨false, x.die, x.num, []⟩] } else s
  ((s.raise C.SPM_SPARE_USED x.die 3 x.num 0 0).dirty).dropBringIn x

/-- A spare fails its test: it is marked failed and the next of its kind is used (R576). (DEDUCED, notes/assumptions/31.md) -/
def State.spareTestFailed (s : State) (x : BringIn) : State :=
  let s := { (s.dropBringIn x).migrating x 0 with spareBad := s.spareBad ++ [(x.kind, x.die, x.unit, x.spare)] }
  match s.freeSpare x.kind x.die x.unit with
  | none => s.sparesExhausted x.kind x.die x.num
  | some i =>
    let s := if x.kind = 4 then s.setF (F.HBM_RETIRE_PIECES_DONE x.die x.unit) 0 else s
    { s with bringIn := s.bringIn ++ [⟨x.kind, x.die, x.unit, x.num, i, x.noCopy, 0, 0⟩] }

end Sys2Proof.Machine
end

