-- ==== Sys2Proof/Machine/Sched.lean ====
section
/-! DEFINITION. Schedule control: commands, dependencies, start and completion, command faults and the failed frame, signals, fences (R220 to R233, R241, R243 to R250), and exposure records of events (R511, R514). -/
namespace Sys2Proof.Machine

/-! Banks and commands. -/

/-- The active queue bank's number. -/
def State.activeBank (s : State) (die : Nat) : Nat := s.getF (F.SCU_STATUS_ACTIVE_BANK die)

def State.bank (s : State) (die b : Nat) : Bank := if b = 0 then (s.die die).bank0 else (s.die die).bank1

def State.setBank (s : State) (die b : Nat) (x : Bank) : State :=
  s.updDie die (fun d => if b = 0 then { d with bank0 := x } else { d with bank1 := x })

/-- The active bank of a die. -/
def State.abank (s : State) (die : Nat) : Bank := s.bank die (s.activeBank die)

/-- Command `idx` of the active bank. -/
def State.cmdAt (s : State) (die idx : Nat) : Option Cmd := (s.abank die).cmds[idx]?

/-- A command's address (R221, R514). -/
def State.cmdAddr (s : State) (die idx : Nat) : Nat := (die % 4) * 2 ^ 14 + s.activeBank die * 2 ^ 13 + idx % 2 ^ 13

/-- LOCATION and ADDR_FORM of a command's event (R221, R518). -/
def State.cmdLoc (s : State) (die idx : Nat) : Nat × Bool :=
  match s.cmdAt die idx with
  | some c => if c.tag = 0 then (s.cmdAddr die idx, true) else (c.tag, false)
  | none => (s.cmdAddr die idx, true)

/-- Report an event that concerns a command (R518). -/
def State.raiseCmd (s : State) (cls code die unit idx kind value : Nat) : State :=
  let (l, af) := s.cmdLoc die idx
  s.raiseC cls code die unit l kind value af

/-- KIND and VALUE of the reports of a code after the first `n`. -/
def State.nameReports (s : State) (n code kind value : Nat) : State :=
  { s with reports := s.reports.take n ++ (s.reports.drop n).map (fun x => if x.code = code then { x with kind := kind, value := value } else x) }

/-- Opcodes (R222). -/
def opNop : Nat := 0x00
def opFence : Nat := 0x01
def opSignal : Nat := 0x02
def opTrigger : Nat := 0x03
def opQswitch : Nat := 0x04
def opStepval : Nat := 0x08
def opQload : Nat := 0x09
def opMxa : Nat := 0x10
def opSxe : Nat := 0x20
def opMove : Nat := 0x30

/-- The unit that runs a command: none for SCU-executed opcodes, 1 MXA, 2 SXE, 4 + m mover m (numbered as R517 numbers them). -/
def Cmd.unit (c : Cmd) : Option Nat :=
  if c.opcode = opMxa then some 1
  else if c.opcode = opSxe then some 2
  else if c.opcode = opMove ∨ c.opcode = opStepval ∨ c.opcode = opQload then some (4 + fieldAt c.operands 0 1 % 4)
  else none

/-- The journal UNIT of a command. -/
def Cmd.junit (c : Cmd) : Nat := c.unit.getD 0

/-! Exposure records (R511, R514). -/

/-- The number by which another die's records name command `i` of die `d` (R221). -/
def cmdOf (d i : Nat) : Nat := (d + 1) * 16384 + i

/-- Record an exposure event of a die, at fabric count `ns` (command 8,192 stands for none, `cmdOf` for another die's), when its frame is captured, the cycle lies in the window and the mask selects the type. -/
def State.expoAt (s : State) (die ns typ flags code idx cyc value detail : Nat) (mbit : Option Nat) : State :=
  let e := (s.die die).expo
  let on := s.getF (F.EXP_STATUS_CAPTURING die) == 1 && decide (s.getF (F.EXP_WINDOW_START die) ≤ cyc) && decide (cyc < s.getF (F.EXP_WINDOW_END die))
    && (match mbit with
      | some b => bit (s.getF (F.EXP_MASK_EVENTS die)) b
      | none => true)
  if !on then s
  else
    let e := { e with gaps := e.gaps + b2n (typ == 9) }
    if e.buffer.length ≥ 4094 then s.updDie die (fun d => { d with expo := { e with dropped := e.dropped + 1 } })
    else
      let (tag, af) := if 7 ≤ typ ∨ idx / 8192 = 1 then (0, false) else if 16384 ≤ idx then s.cmdLoc (idx / 16384 - 1) (idx % 16384) else s.cmdLoc die idx
      let r : List Byte := leBytes 1 typ ++ leBytes 1 (flags + b2n af) ++ leBytes 2 code ++ leBytes 4 tag ++ leBytes 8 ns
        ++ leBytes 4 cyc ++ leBytes 4 value ++ leBytes 8 detail
      s.updDie die (fun d => { d with expo := { e with buffer := e.buffer ++ [r] } })

/-- The same at the present fabric count. -/
def State.expo (s : State) (die typ flags code idx cyc value detail : Nat) (mbit : Option Nat) : State :=
  s.expoAt die (s.gstNs (s.partOf die)) typ flags code idx cyc value detail mbit

/-- Exposure UNIT code (R514) of a command. -/
def Cmd.expUnit (c : Cmd) : Nat := match c.unit with
  | some 1 => 1
  | some 2 => 2
  | some u => u - 1
  | none => 0

/-! Dependencies (R223, R225). -/

/-- The frame cycle in which a die's signal counter `ctr` first reaches `th`: increments in order of their cycles. -/
def sigReach (l : List SigInc) (ctr th : Nat) : Option Nat :=
  let l := l.filter (fun x => x.ctr == ctr)
  let cs := l.map (fun x => x.cyc)
  let ok := cs.filter (fun c => decide (th ≤ (l.filter (fun x => decide (x.cyc ≤ c))).foldl (fun a x => a + x.inc) 0))
  ok.foldl (fun m c => match m with
    | none => some c
    | some d => some (min c d)) none

/-- The value of a signal counter in frame cycle `c`: saturates at 65,535 (R230). -/
def sigValue (l : List SigInc) (ctr c : Nat) : Nat :=
  min 65535 ((l.filter (fun x => x.ctr == ctr && decide (x.cyc ≤ c))).foldl (fun a x => a + x.inc) 0)

/-- The first cycle in which a dependency is met, if its event is known (R223). -/
def State.depMet (s : State) (die dep : Nat) : Option Nat :=
  let kind := bits dep 28 4
  match kind with
  | 0 => some 0
  | 1 => ((s.die die).done.find? (fun x => x.idx == bits dep 0 13)).map (fun x => x.cyc + 1)
  | 2 => (sigReach (s.die die).sig (bits dep 16 6) (bits dep 0 16)).map (fun c => c + 1)
  | _ => ((s.part (s.partOf die)).deps.find? (fun x => x.kind == kind && x.num == bits dep 0 28)).map (fun x => x.cyc + 1)

/-- Whether a command has a T2 or T3 endpoint (R226); the mover file decides from its descriptors, kept in the entry's bit 28 of the run record. -/
def DoneCmd.tier (x : DoneCmd) : Bool := bit x.entry 28

/-- The KIND that a slip names for a dependency: 9 for a LOCAL dependency on a command with a T2 or T3 endpoint (R226). (DEDUCED, notes/assumptions/58.md) -/
def State.slipKind (s : State) (die dep : Nat) : Nat :=
  let k := bits dep 28 4
  if k = 1 ∧ ((s.die die).done.find? (fun x => x.idx == bits dep 0 13)).any DoneCmd.tier then 9 else k

/-- The cycle after which a unit is free for command `idx`: every earlier-indexed command on it has completed (R225). -/
def State.unitFree (s : State) (die idx : Nat) (u : Option Nat) : Option Nat :=
  match u with
  | none => some 0
  | some u =>
    let earlier := (List.range idx).filter (fun i => ((s.cmdAt die i).bind Cmd.unit) == some u)
    earlier.foldl (fun acc i => match acc, (s.die die).done.find? (fun x => x.idx == i) with
      | some a, some x => some (max a (x.cyc + 1))
      | _, _ => none) (some 0)

/-- The last cycle in which a command of a die may start after a fault: f on the faulting die, f + 3 on the others (R244). -/
def State.startLimit (s : State) (die : Nat) : Option Nat :=
  let x := s.part (s.partOf die)
  match x.abortAt with
  | some a => some a
  | none => x.failedAt.map (fun f => if x.failDie == die % 4 then f else f + 3)

/-- The start cycle of a command, its dependencies' cycle and max(o, u), when it can start (R225). -/
def State.startCycle (s : State) (die idx : Nat) (c : Cmd) : Option (Nat × Nat × Nat) :=
  match s.depMet die c.dep0, s.depMet die c.dep1, s.depMet die c.dep2, s.unitFree die idx c.unit with
  | some a, some b, some e, some u =>
    let dep := max a (max b e)
    let ou := max c.release u
    some (max ou dep, dep, ou)
  | _, _, _, _ => none

/-- The dependency met last. -/
def State.lastDep (s : State) (die : Nat) (c : Cmd) : Nat :=
  let m := fun d => (s.depMet die d).getD 0
  let d := if m c.dep0 ≤ m c.dep1 then c.dep1 else c.dep0
  if m d ≤ m c.dep2 then c.dep2 else d

/-- Find a running command. -/
def State.runAt (s : State) (die idx : Nat) : Option RunCmd := (s.die die).run.find? (fun r => r.idx == idx)

def State.updRun (s : State) (die idx : Nat) (f : RunCmd → RunCmd) : State :=
  s.updDie die (fun d => { d with run := d.run.map (fun r => if r.idx == idx then f r else r) })

/-- Set COMMITTED on every A-die of a partition (R247). -/
def State.commit (s : State) (p : Nat) : State :=
  (s.diesOf p).foldl (fun s n => s.setF (F.SCU_STATUS_COMMITTED n) 1) (s.updPart p (fun x => { x with committed := true }))

/-- RELEASE_SLIP of a partition's frame: journal, FRAME_CLOSE.SLIP_CYCLES of the frame (R68, R226). (DEDUCED, notes/assumptions/58.md) -/
def State.addSlip (s : State) (p slip : Nat) : State :=
  s.updPart p (fun x => { x with slip := satAdd 32 x.slip slip, slipSeen := true })

/-- A released command starts; no cycle comes while the clock is stopped (R225 to R227, R247, R377). -/
def doStart (die idx : Nat) (s : State) : State :=
  let p := s.partOf die
  let d := s.die die
  match s.cmdAt die idx with
  | none => s
  | some c =>
    if s.aclk == 0 || !(s.inFrame p) || !(s.abank die).valid || d.run.any (fun r => r.idx == idx) || d.done.any (fun r => r.idx == idx) then s
    else match s.startCycle die idx c with
      | none => s
      | some (t, dep, ou) =>
        if (s.startLimit die).any (fun l => decide (l < t)) then s
        else
          let s := s.toCyc p t
          let compat := (s.abank die).compat
          let slips := decide (ou < dep) && !compat
          let kind := s.slipKind die (s.lastDep die c)
          let s := s.count die 0 1
          let s := if slips then
              let s := s.raiseCmd 3 C.RELEASE_SLIP die c.junit idx kind (t - ou)
              let s := s.addSlip p (t - ou)
              let s := if kind < 10 then (s.count die (8 + kind) 1).count die (18 + kind) (t - ou) else s
              s.updDie die (fun d => { d with slipped := idx :: d.slipped })
            else s
          let s := s.expo die 0x01 (2 * c.expUnit + 16 * (bits (s.lastDep die c) 28 4)) 0 idx t (if slips then t - ou else 0) 0 (some 0)
          let s := if bit c.cflags 0 then s.commit p else s
          s.updDie die (fun d => { d with run := d.run ++ [⟨idx, t, none, 0, false, 0, 0, none, []⟩] })

/-- COMMAND_START. -/
def execCommandStart (die : Fin 4) (idx : Nat) (s : State) : Host.Outcome State Fault Refusal := .next (doStart die idx s)

/-! Faults (R243, R244). -/

/-- SCU_FAULT takes a die's first fault of the frame: the one of the earliest cycle, whichever row ran first (R244). -/
def State.latchFault (s : State) (die code idx f : Nat) : State :=
  if (s.die die).faultSeen ∧ s.getF (F.SCU_FAULT_CYCLE die) ≤ f then s
  else (s.setFs [(F.SCU_FAULT_CODE die, code), (F.SCU_FAULT_CMD_INDEX die, idx), (F.SCU_FAULT_CYCLE die, f)]).updDie die (fun d => { d with faultSeen := true })

/-- Step 1 of the fault sequence for the partition: FAILED and FRAME_FAILED once, and an armed switch is cleared; a fault of an earlier cycle whose row runs later is the one that the sequence counts from (R241, R244). -/
def State.failFrame (s : State) (p die f : Nat) : State :=
  if s.frameState p = stFailed ∧ (s.part p).failedAt.any (fun g => decide (f < g)) then s.updPart p (fun x => { x with failedAt := some f, failDie := die })
  else if s.frameState p ≠ stRunning then s
  else
    let s := s.setFrameState p stFailed
    let s := s.updPart p (fun x => { x with failedAt := some f, failDie := die })
    let s := (s.diesOf p).foldl (fun s n => s.setF (F.SCU_STATUS_SWITCH_ARMED n) 0) s
    s.raiseP p C.FRAME_FAILED 0 0 0

/-- A command faults, or is rejected at run time, in frame cycle `f` (R243, R244): it stops with its unit's state. -/
def State.faultCmd (s : State) (cls die idx code f : Nat) : State :=
  let p := s.partOf die
  let c := s.cmdAt die idx
  let u := (c.map Cmd.junit).getD 0
  let s := s.latchFault die code idx f
  let s := s.raiseCmd cls code die u idx 0 0
  let s := s.count die (if cls = 1 then 2 else 3) 1
  let s := s.expo die 0x03 (2 * (c.map Cmd.expUnit).getD 0 + 16 * cls) code idx f f 0 (some 2)
  let s := s.updRun die idx (fun r => { r with fault := some code, doneAt := some f, performed := true })
  s.failFrame p die f

/-! Installing a queue bank (R237, R240, R253). -/

/-- Why a load failed: code, unit code, command index (0xFFFF = none). -/
abbrev LoadErr := Nat × Nat × Nat

/-- The HBM controllers' plan bits follow the banks (R380). -/
def State.planBits (s : State) (die : Nat) : State :=
  let a := s.activeBank die
  [0, 1, 2].foldl (fun s k => s.setFs [(F.HBM_STATUS_PLAN_ACTIVE die k, b2n (s.bank die a).valid), (F.HBM_STATUS_NEXT_VALID die k, b2n (s.bank die (1 - a)).valid)]) s

/-- SCU_LOAD_STATUS after a load (R253). -/
def State.loadStatus (s : State) (die b : Nat) (e : LoadErr) : State :=
  s.hwSets [(F.SCU_LOAD_STATUS_CODE die, e.1), (F.SCU_LOAD_STATUS_UNIT_CODE die, e.2.1), (F.SCU_LOAD_STATUS_CMD_INDEX die, e.2.2),
    (F.SCU_LOAD_STATUS_BANK die, b), (F.SCU_LOAD_STATUS_DONE die, 1), (F.SCU_LOAD_STATUS_BUSY die, 0)]

/-- A load's result goes into its bank; a rejected one leaves it unusable and is reported, with the command index, where there is one, in LOCATION and the unit's code in VALUE (R237, R254, R516). (DEDUCED, notes/assumptions/12.md; DESIGN CHOICE for LOCATION and VALUE, notes/assumptions/71.md) -/
def State.installBank (s : State) (die b : Nat) (r : Option Bank × LoadErr) : State :=
  match r.1 with
  | some x => (((s.setBank die b x).setF (F.SCU_PLAN_PLAN_ID die b) x.planId).loadStatus die b (0, 0, 0xFFFF)).planBits die
  | none =>
    let e := r.2
    (((s.dropBank die b).loadStatus die b e).planBits die).raiseC 0 e.1 die 0 (if e.2.2 = 0xFFFF then 0 else e.2.2) 0 e.2.1 false

/-- What a load's checks gave, as data. -/
def loadRes (r : Except LoadErr Bank) : Option Bank × LoadErr :=
  match r with
  | .ok x => (some x, 0, 0, 0xFFFF)
  | .error e => (none, e)

/-- A QLOAD completes: its bank is installed, and NEXT_VALID set when its checks succeeded (R240). -/
def State.qloadEnd (s : State) (die : Nat) : State :=
  match (s.die die).qload with
  | none => s
  | some r =>
    let s := (s.updDie die (fun d => { d with qload := none })).installBank die (1 - s.activeBank die) r
    if r.1.isSome then s.setF (F.SCU_STATUS_NEXT_VALID die) 1 else s

/-! Completion (R228). -/

/-- The completion entry (R228). -/
def compEntry (r : RunCmd) (slipped : Bool) : Nat :=
  2 ^ 31 + b2n slipped * 2 ^ 30 + b2n r.fault.isSome * 2 ^ 29 + r.entry % 2 ^ 29

/-- A completion entry as software reads it, without the model's mark in bit 28 (R228). -/
def visEntry (e : Nat) : Nat := setBits e 28 1 0

/-- OR the per-command flags into MXA_STATUS (R133) or SXE_STATUS (R174) at completion. -/
def State.orStatus (s : State) (die : Nat) (c : Cmd) (entry : Nat) : State :=
  let b := fun (i : Nat) => bit entry i
  let set := fun (s : State) (f : Fld) (on : Bool) => if on then s.hwSet f 1 else s
  if c.opcode = opMxa then
    let s := set s (F.MXA_STATUS_INVALID die) (b 0)
    let s := set s (F.MXA_STATUS_OVERFLOW die) (b 1)
    let s := set s (F.MXA_STATUS_UNDERFLOW die) (b 2)
    let s := set s (F.MXA_STATUS_INEXACT die) (b 3)
    let s := set s (F.MXA_STATUS_ACC_SAT die) (b 5)
    let s := set s (F.MXA_STATUS_ACC_TRUNC die) (b 6)
    let s := set s (F.MXA_STATUS_SLICE_ROUNDED die) (b 7)
    let s := set s (F.MXA_STATUS_LG_DROPPED die) (b 8)
    [(37, 0), (38, 1), (39, 2), (40, 3), (41, 6), (42, 5), (43, 7), (44, 8)].foldl (fun s x => if b x.2 then s.count die x.1 1 else s) s
  else if c.opcode = opSxe then
    let s := set s (F.SXE_STATUS_INVALID die) (b 0)
    let s := set s (F.SXE_STATUS_OVERFLOW die) (b 1)
    let s := set s (F.SXE_STATUS_UNDERFLOW die) (b 2)
    let s := set s (F.SXE_STATUS_INEXACT die) (b 3)
    let s := set s (F.SXE_STATUS_DIVZERO die) (b 4)
    let s := set s (F.SXE_STATUS_ACF_WAIT die) (b 10)
    [(68, 0), (69, 1), (70, 2), (71, 3), (72, 4)].foldl (fun s x => if b x.2 then s.count die x.1 1 else s) s
  else s

/-- A command whose effect is performed completes: at the cycle its formula gives, or at `cyc` when that lies outside the promise (R228). -/
def doComplete (die idx cyc : Nat) (s : State) : State :=
  let p := s.partOf die
  match s.runAt die idx, s.cmdAt die idx with
  | some r, some c =>
    if s.aclk == 0 || !r.performed then s
    else
      let t := match r.doneAt with
        | some t => t
        | none => max (max r.start r.wait) cyc
      let s := s.toCyc p t
      let s := if c.opcode = opQload then s.qloadEnd die else s
      let e := compEntry r ((s.die die).slipped.contains idx)
      let s := s.updDie die (fun d => { d with
        run := d.run.filter (fun x => x.idx != idx)
        done := d.done ++ [⟨idx, t, e⟩] })
      let s := s.count die 1 1
      let s := s.expo die 0x02 (2 * c.expUnit) 0 idx t (t - r.start) (visEntry e) (some 1)
      s.orStatus die c r.entry
  | _, _ => s

/-- COMMAND_COMPLETE. -/
def execCommandComplete (die : Fin 4) (idx cyc : Nat) (s : State) : Host.Outcome State Fault Refusal := .next (doComplete die idx cyc s)

/-! SCU-executed opcodes (R222, R229, R241). -/

/-- Mark a running command's effect performed with its completion cycle. (DESIGN CHOICE, notes/assumptions/10.md) -/
def State.perform (s : State) (die idx : Nat) (doneAt : Option Nat) (entry : Nat) : State :=
  s.updRun die idx (fun r => { r with performed := true, doneAt := doneAt, entry := r.entry ||| entry })

/-- A started command of an opcode whose effect is not performed yet. -/
def State.toRun (s : State) (die idx opcode : Nat) : Option (Cmd × RunCmd) :=
  match s.cmdAt die idx, s.runAt die idx with
  | some c, some r => if c.opcode = opcode ∧ r.performed = false then some (c, r) else none
  | _, _ => none

/-- NOP: one cycle (R222). -/
def doNop (die idx : Nat) (s : State) : State :=
  match s.toRun die idx opNop with
  | none => s
  | some (_, r) => s.perform die idx (some r.start) 0

def execNop (die : Fin 4) (idx : Nat) (s : State) : Host.Outcome State Fault Refusal := .next (doNop die idx s)

/-- The units a FENCE names: bit 0 MXA, bit 1 SXE, bits 5 to 2 MOV0 to MOV3 (R222). -/
def fenceUnits (u : Nat) : List Nat :=
  (if bit u 0 then [1] else []) ++ (if bit u 1 then [2] else []) ++ ([0, 1, 2, 3].filter (fun m => bit u (2 + m))).map (fun m => 4 + m)

/-- FENCE: completes in the cycle after every earlier-indexed command on the named units has completed; at once when none is outstanding (R222). (DEDUCED, notes/assumptions/12.md) -/
def doFence (die idx : Nat) (s : State) : State :=
  match s.toRun die idx opFence with
  | none => s
  | some (c, r) =>
    let us := fenceUnits (fieldAt c.operands 0 1)
    let early := (List.range idx).filter (fun i => ((s.cmdAt die i).bind Cmd.unit).any (fun u => us.contains u))
    let fin := early.foldl (fun acc i => match acc, (s.die die).done.find? (fun x => x.idx == i) with
      | some a, some x => some (max a (x.cyc + 1))
      | _, _ => none) (some 0)
    match fin with
    | none => s
    | some t => s.perform die idx (some (max r.start t)) 0

def execFence (die : Fin 4) (idx : Nat) (s : State) : Host.Outcome State Fault Refusal := .next (doFence die idx s)

/-- One target die takes a signal increment of command `cmd` in frame cycle `c`; an increment that would pass 65,535, the counter saturated already or not, saturates it (R221, R229, R230). -/
def State.takeSignal (s : State) (t cmd ctr inc c : Nat) : State :=
  let before := (((s.die t).sig.filter (fun x => x.ctr == ctr)).foldl (fun a x => a + x.inc) 0)
  let s := s.updDie t (fun d => { d with sig := d.sig ++ [⟨c, ctr, inc⟩] })
  let s := s.count t 29 1
  let s := s.expo t 0x06 0 0 cmd c ctr (min 65535 (before + inc)) (some 5)
  if 65535 < before + inc then s.raise C.SIGNAL_SATURATED t 0 ctr 0 0 else s

/-- SIGNAL: the increment leaves in cycle s + 1 and the target counters rise in s + 25, when the command completes (R229). -/
def doSignal (die idx : Nat) (s : State) : State :=
  match s.toRun die idx opSignal with
  | none => s
  | some (c, r) =>
    let tg := fieldAt c.operands 0 1
    let ts := [0, 1, 2, 3].filter (fun t => bit tg t && t != die % 4)
    let s := ts.foldl (fun s t => s.takeSignal t (cmdOf (die % 4) idx) (fieldAt c.operands 1 1 % 64) (fieldAt c.operands 2 1) (r.start + 25)) s
    (s.count die 28 1).perform die idx (some (r.start + 25)) 0

def execSignal (die : Fin 4) (idx : Nat) (s : State) : Host.Outcome State Fault Refusal := .next (doSignal die idx s)

/-- QSWITCH: arms the switch when NEXT_VALID is 1, otherwise QSWITCH_REFUSED (R241). -/
def doQswitch (die idx : Nat) (s : State) : State :=
  match s.toRun die idx opQswitch with
  | none => s
  | some (_, r) =>
    let s := if s.getF (F.SCU_STATUS_NEXT_VALID die) = 1 then s.setF (F.SCU_STATUS_SWITCH_ARMED die) 1
      else s.raiseCmd 0 C.QSWITCH_REFUSED die 0 idx 0 0
    s.perform die idx (some r.start) 0

def execQswitch (die : Fin 4) (idx : Nat) (s : State) : Host.Outcome State Fault Refusal := .next (doQswitch die idx s)

/-! Dependency events (R223, R519). -/

/-- A completion outside the SCUs leaves for them: it is there in frame cycle `cyc`. -/
def State.sendDep (s : State) (p kind num cyc status node : Nat) : State :=
  s.updPart p (fun x => { x with depsIn := x.depsIn ++ [⟨kind, num, cyc, status, node⟩] })

/-- Whether some command of the partition's active banks waits on a dependency after its release offset. (DEDUCED, notes/assumptions/58.md) -/
def State.depLate (s : State) (p : Nat) (e : DepEv) : Bool :=
  (s.diesOf p).any (fun n => (s.abank n).cmds.any (fun c =>
    decide (c.release < e.cyc) && [c.dep0, c.dep1, c.dep2].any (fun d => bits d 28 4 == e.kind && bits d 0 28 == e.num)))

/-- DEPENDENCY_EVENT: the oldest event on its way reaches the SCUs; a late fabric or collective event is reported once per frame (R223, R519). -/
def doDependencyEvent (p : Nat) (s : State) : State :=
  let x := s.part p
  match x.depsIn with
  | [] => s
  | e :: r =>
    if s.aclk = 0 then s
    else
    let s := s.toCyc p e.cyc
    let known := x.deps.any (fun d => d.kind == e.kind && d.num == e.num)
    let s := s.updPart p (fun x => { x with depsIn := r, deps := if known then x.deps else x.deps ++ [e] })
    let s := (s.diesOf p).foldl (fun s n => s.expo n 0x07 (16 * e.kind) 0 0 e.cyc e.num 0 (some 6)) s
    -- A collective's completion whose status is not success faults the frame as it arrives (R443).
    let s := if e.kind = 7 ∧ e.status ≠ 0 ∧ s.frameState p = stRunning then
        (let n := (s.diesOf p).headD 0
        (s.latchFault n e.status 0xFFFF e.cyc).failFrame p n e.cyc)
      else s
    if (e.kind = 6 ∨ e.kind = 7) ∧ !known ∧ s.depLate p e ∧ !(x.lateSeen.contains (e.kind, e.num)) then
      let loc := if e.kind = 6 then e.num else bits e.num 16 3 * 1024 + bits e.num 0 16
      (s.raise C.LATE_ARRIVAL 5 (if e.kind = 6 then 0 else 4) loc e.kind e.node).updPart p
        (fun x => { x with lateSeen := (e.kind, e.num) :: x.lateSeen })
    else s

def execDependencyEvent (p : Fin 4) (s : State) : Host.Outcome State Fault Refusal := .next (doDependencyEvent p s)

/-! Drain, rerun and abort (R244, R249, R250). -/

/-- Whether any A-die of the partition has a started command. -/
def State.anyRun (s : State) (p : Nat) : Bool := (s.diesOf p).any (fun n => !(s.die n).run.isEmpty)

end Sys2Proof.Machine
end

