-- ==== Sys2Proof/Machine/Spm.lean ====
section
/-! DEFINITION. The scratchpad's ports: windows, bank budgets, write collisions, corrections and poisoned reads (R176 to R184). -/
namespace Sys2Proof.Machine

/-- How many requests a port may issue to one bank in a window (R178). (DEDUCED, notes/assumptions/16.md) -/
def portBudget (port : Nat) : Nat :=
  match port with
  | 0 => 2
  | 2 => 4
  | 3 => 2
  | 8 => 2
  | _ => 1

/-- The granules of a byte range. -/
def granules (off n : Nat) : List Nat := if n = 0 then [] else (List.range ((off + n - 1) / 128 - off / 128 + 1)).map (fun i => off / 128 + i)

/-- The granules of a byte range that lie in bank `b` (R176). -/
def granulesIn (off n b : Nat) : List Nat :=
  if n = 0 then []
  else
    let lo := off / 128
    let hi := (off + n - 1) / 128
    let first := lo + (b + 256 - lo % 256) % 256
    if hi < first then [] else (List.range ((hi - first) / 256 + 1)).map (fun i => first + 256 * i)

/-- Requests to bank `b` among a window's requests of one port: distinct granules per stream (R182, R183). -/
def bankLoad (l : List SpmReq) (b : Nat) : Nat :=
  ((l.flatMap (fun r => (granulesIn r.off r.len b).map (fun g => (r.tag, r.wr, g)))).eraseDups).length

/-- A port issues requests for a byte range in frame cycle `cyc`: whether they exceed the bank budget, and the state that records them (R179, R182). (DEDUCED, notes/assumptions/16.md) -/
def State.spmRequest (s : State) (die port tag cyc : Nat) (wr : Bool) (off n : Nat) : Bool × State :=
  if n = 0 then (false, s)
  else
    let win := cyc / 16
    let mine := (s.die die).spmReq.filter (fun r => r.win == win && r.port == port)
    let new : SpmReq := ⟨win, port, tag, wr, off, n⟩
    let fresh := (granules off n).filter (fun g => !(mine.any (fun r => r.tag == tag && r.wr == wr && decide (r.off / 128 ≤ g) && decide (g ≤ (r.off + r.len - 1) / 128))))
    let all := new :: mine
    let ovr := fresh.any (fun g => decide (portBudget port < bankLoad all (g % 256)))
    let s := s.updDie die (fun d => { d with spmReq := new :: d.spmReq })
    let s := s.count die (if wr then 97 else 96) fresh.length
    if ovr then (true, (s.hwSet (F.SPM_STATUS_OVERLOAD die) 1).count die 101 1) else (false, s)

/-- A word of a bank was corrected: the 16th in one scrub pass needs a spare bank, with a copy (R575). -/
def State.bankCorrected (s : State) (die b : Nat) : State :=
  let n := Assoc.get (s.die die).spmBankErr b 0 + 1
  let s := s.updDie die (fun d => { d with spmBankErr := d.spmBankErr.put b n 0 })
  if n = 16 then s.needSpare 3 die 0 b false else s

/-- The key by which an access issued in frame cycle `cyc` reads: the writes of earlier windows (R180). -/
def State.spmKey (s : State) (die cyc : Nat) : Nat := cycKey (s.absCyc die (16 * (cyc / 16))) 4095

/-- The key by which a read made now reads. -/
def State.nowKey (s : State) (die : Nat) : Nat := s.spmKey die (s.frameCyc (s.partOf die))

/-- The bytes that a read issued in frame cycle `cyc` returns (R180). -/
def State.spmData (s : State) (die cyc off n : Nat) : List Byte := s.readAt (s.spmKey die cyc) (spmBase die + off) n

/-- The requester code behind a port's write: the SXE counts as requester 8 of its die. -/
def spmWho (die port tag : Nat) : Nat := if port = 8 then tag % 256 else if 4 ≤ port then die * 32 + (port - 4) else die * 32 + 8

/-- Single-bit errors in a range that a port reads are corrected and counted (R184). -/
def State.spmCorrect (s : State) (die off n : Nat) : State :=
  let hits := s.ecc.filter (fun x => x.2 == 1 && decide ((spmBase die + off) / 8 ≤ x.1) && decide (x.1 ≤ (spmBase die + off + n - 1) / 8))
  let (k, s) := s.correct (spmBase die + off) n
  if k = 0 then s
  else hits.foldl (fun s x => s.bankCorrected die ((8 * x.1 - spmBase die) / 128 % 256)) ((s.satF (F.SPM_STATUS_CORRECTED die) k).count die 98 k)

/-- A read of a range: its requests and its corrections; the flag says that the budget was exceeded. -/
def State.spmRead (s : State) (die port tag cyc off n : Nat) : Bool × State :=
  let (ovr, s) := s.spmRequest die port tag cyc false off n
  (ovr, s.spmCorrect die off n)

/-- The words that [a, a + n) covers in part: at most the first and the last. -/
def partWords (a n : Nat) : List Nat := (words a n).filter (fun w => decide (8 * w < a) || decide (a + n < 8 * w + 8))

/-- A write of a range issued in frame cycle `cyc`, of a unit of data that began in frame cycle `u`: its requests, collisions, corrections of partly written words, and its bytes, which take effect with the next window, those of a higher phase over the others, and of one port those of the later cycle (R180 to R182, R184). -/
def State.spmWrite (s : State) (die port tag cyc u off : Nat) (l : List Byte) : Bool × State :=
  let n := l.length
  let others := (s.die die).spmReq.filter (fun r => r.win == cyc / 16 && r.wr && decide (r.off < off + n) && decide (off < r.off + r.len))
  let (ovr, s) := s.spmRequest die port tag cyc true off n
  if ovr then (true, s)
  else
    let s := if others.isEmpty then s
      else
        let s := (s.hwSet (F.SPM_STATUS_COLLISION die) 1).count die 100 1
        let first := others.foldl (fun m r => min m (max off r.off)) (off + n)
        if (s.die die).spmColl then s
        else (s.raise C.SPM_WRITE_COLLISION die 3 (first / 128 * 128) 0 0).updDie die (fun d => { d with spmColl := true })
    let s := (partWords (spmBase die + off) n).foldl (fun s w => s.spmCorrect die (8 * w - spmBase die) 8) s
    (false, s.putAt (cycKey (s.absCyc die (16 * (cyc / 16 + 1))) (16 * port + cyc % 16)) (s.absCyc die u) (spmWho die port tag) (spmBase die + off) l)

/-- Whether a range of a die's SPM holds poison. -/
def State.spmPoison (s : State) (die off n : Nat) : Bool := s.poisoned (spmBase die + off) n

/-- Whether an A-die's SPM has a failed bank and no spare left: every command that reads or writes it is rejected (R189). -/
def State.spmDegraded (s : State) (die : Nat) : Bool := s.getF (F.SPM_STATUS_DEGRADED die) == 1

/-- Reads of a double-bit error name their bank for a spare without a copy (R188, R575). -/
def State.noteDouble (s : State) (die : Nat) (l : List (Nat × Nat)) : State :=
  match s.ecc.find? (fun x => x.2 == 2 && l.any (fun r => decide ((spmBase die + r.1) / 8 ≤ x.1) && decide (r.2 ≠ 0) && decide (x.1 ≤ (spmBase die + r.1 + r.2 - 1) / 8))) with
  | none => s
  | some x => s.needSpare 3 die 0 ((8 * x.1 - spmBase die) / 128 % 256) true

/-- SPM_STATUS as a fault of the SPM leaves it (R184). -/
def State.noteSpm (s : State) (die code : Nat) : State :=
  if code = C.SPM_UNCORRECTABLE then s.hwSet (F.SPM_STATUS_UNCORRECTABLE die) 1 else s

/-- Fault a command, with the SPM's own status bit (R184, R243). -/
def State.faultUnit (s : State) (cls die idx code f : Nat) : State := (s.noteSpm die code).faultCmd cls die idx code f

end Sys2Proof.Machine
end

