-- ==== Sys2Proof/Machine/Tiers.lean ====
section
/-! DEFINITION. The memory tiers: T1 slots, the stream cache, memory-side adders, ECC re-reads and scrub, Slot Link slots (R207 to R210, R335 to R367). Times are frame cycles of the partition whose frame the access belongs to. -/
namespace Sys2Proof.Machine

/-! T1 slots (R338 to R344). -/

/-- The HBM plan of a die's active bank. -/
def State.hbmPlan (s : State) (die : Nat) : HbmPlan := (s.abank die).hbm

/-- ROUND_CYCLES for G groups (R338). -/
def roundCycles (g : Nat) : Nat := 120 + 24 * g

/-- Round position of slot i (R340). -/
def slotPos (i : Nat) : Nat := 120 + 24 * (i / 11) + 24 * (i % 11) / 11

/-- The first slot in a round, from position `lo` on, that a predicate on its index selects. -/
def slotInRound (n lo : Nat) (own : Nat → Bool) : Option Nat :=
  ((List.range n).find? (fun i => own i && decide (lo ≤ slotPos i))).map slotPos

/-- The start of the first slot at or after cycle `t` that `own` selects (R341). -/
def nextSlotBy (g t : Nat) (own : Nat → Bool) : Option Nat :=
  let r := t / roundCycles g
  match slotInRound (11 * g) (t % roundCycles g) own with
  | some p => some (r * roundCycles g + p)
  | none => (slotInRound (11 * g) 0 own).map (fun p => (r + 1) * roundCycles g + p)

/-- Slots of a pseudo-channel that start in a frame before cycle `t`, with G groups in a round (R338, R340). -/
def slotsBefore (g t : Nat) : Nat :=
  let x := t % roundCycles g - 120
  t / roundCycles g * (11 * g) + (if t % roundCycles g ≤ 120 then 0 else x / 24 * 11 + ((List.range 11).filter (fun i => decide (24 * i / 11 < x % 24))).length)

/-- Slots that start in the `len` cycles from cycle `c` from reset on: of the active plan, or of rounds of G = 60 in IDLE and STOPPED (R344, R364). -/
def State.slotsIn (s : State) (die c len : Nat) : Nat :=
  let g := if s.atRest (s.partOf die) then 60 else (s.hbmPlan die).g
  let t := c - (s.part (s.partOf die)).cycle0
  slotsBefore g (t + len) - slotsBefore g t

/-- Whether a slot of a pseudo-channel's table belongs to a requester. -/
def ownsSlot (tab : List Nat) (req i : Nat) : Bool := tab[i]? == some req

/-- The next slot of requester `req` on logical pseudo-channel `pc` at or after cycle `t`: by the active plan, or by rounds of G = 60 in IDLE and STOPPED (R341, R344). -/
def State.t1Slot (s : State) (die req pc t : Nat) : Option Nat :=
  if s.atRest (s.partOf die) then nextSlotBy 60 t (fun _ => true)
  else
    let h := s.hbmPlan die
    nextSlotBy h.g t (ownsSlot (h.slots.getD pc []) req)

/-- Rank of a physical pseudo-channel among the exposed ones of its stack (R502). -/
def State.pcRank (s : State) (die stack pc : Nat) : Nat := ((List.range pc).filter (fun i => decide (s.pcState die stack i < 90))).length

/-- Counter x of the controller that serves logical pseudo-channel `l` (R502). -/
def State.countHbm (s : State) (die l x n : Nat) : State :=
  match s.physOf die l with
  | some (k, _) => s.count die (256 + 128 * k + x) n
  | none => s

/-- A unit takes its slot: after every slot that an earlier unit of the requester took on the pseudo-channel, or in IDLE and STOPPED, where requesters share the slots and are served as they come, an earlier unit of any requester (R341, R344). (DESIGN CHOICE for IDLE and STOPPED, notes/assumptions/69.md) -/
def State.takeSlot (s : State) (die req pc t : Nat) : Option Nat × State :=
  let key := (if s.atRest (s.partOf die) then 255 else req) * 128 + pc
  match s.t1Slot die req pc (max t (Assoc.get (s.die die).lastSlot key 0)) with
  | none => (none, s)
  | some c =>
    let s := s.updDie die (fun d => { d with lastSlot := d.lastSlot.put key (c + 1) 0 })
    match s.physOf die pc with
    | some (k, j) => (some c, s.count die (256 + 128 * k + 10 + s.pcRank die k j) 1)
    | none => (some c, s)

/-! Retries (R70, R215, R362, R502, R514). -/

/-- The mover command of a requester code that is running, if any (R208). -/
def State.moverRun (s : State) (req : Nat) : Option Nat :=
  if 0x80 ≤ req then none
  else
    let die := req / 32
    ((s.die die).run.find? (fun r => r.fault.isNone && ((s.cmdAt die r.idx).bind Cmd.unit) == some (4 + req % 32))).map (fun r => r.idx)

/-- A retry of a command's unit is recorded with its cost and the link or pseudo-channel: event, registers, counters, exposure (R70, R215, R502, R514). -/
def State.noteRetry (s : State) (die m idx cost det : Nat) : State :=
  let s := s.raiseCmd 3 C.MOV_RETRY die (4 + m) idx 0 cost
  let s := s.expo die 0x04 (2 * (3 + m)) C.MOV_RETRY idx (s.frameCyc (s.partOf die)) cost det (some 3)
  let s := (s.satF (F.MOV_RETRY_COUNT die m) 1).satF (F.MOV_RETRY_CYCLES die m) cost
  let s := s.hwSet (F.MOV_STATUS_RETRIED die m) 1
  let s := (s.count die (128 + 32 * m + 3) 1).count die (128 + 32 * m + 4) cost
  let s := s.updPart (s.partOf die) (fun x => { x with retrySeen := true })
  s.updRun die idx (fun r => { r with entry := r.entry ||| 2 ^ 9 })

/-- Journal DIE, UNIT and LOCATION of a requester outside the A-dies: a P-die mover channel with its transfer, the SVE, the cores, the migrations, the F-die's traffic (R208, R343, R517). (DESIGN CHOICE for LOCATION, notes/assumptions/67.md) -/
def State.reqPlace (s : State) (req : Nat) : Nat × Nat × Nat :=
  if req < 0x84 then (4, 3, s.getF (F.PMOV_STATUS_XFER (req - 0x80)))
  else if req < 0x86 then (4, 1, req - 0x80)
  else if req = 0x86 then (4, 2, 6)
  else if req = 0x87 then (4, 3, 7)
  else (5, 2, 0)

/-- A retry of requester `req` is recorded: a mover's with its command, a P-die channel's in its status and counters, another's in the journal alone (R70, R215). -/
def State.retry (s : State) (req cost det : Nat) : State :=
  match s.moverRun req with
  | some i => s.noteRetry (req / 32) (req % 4) i cost det
  | none =>
    if req < 0x80 then s
    else
      let (d, u, l) := s.reqPlace req
      let s := (s.raise C.MOV_RETRY d u l 0 cost).updPart 0 (fun x => { x with retrySeen := true })
      if req < 0x84 then (s.hwSet (F.PMOV_STATUS_RETRIED (req - 0x80)) 1).count 4 (288 + 8 * (req - 0x80) + 3) 1 else s

/-- Whether the present attempt of a flit of `req` from x to y is one that an announced failure hits. -/
def State.flitFails (s : State) (k : FailKind) (req x y : Nat) : Bool × State :=
  match s.fails.find? (fun f => f.kind == k && f.req == req && f.x == x && f.y == y) with
  | none => (false, s)
  | some f =>
    let g := if f.at_ ≠ 0 then [{ f with at_ := f.at_ - 1 }] else if f.left ≤ 1 then [] else [{ f with left := f.left - 1 }]
    (f.at_ == 0, { s with fails := s.fails.flatMap (fun x => if x == f then g else [x]) })

/-- How many attempts of a read by `req` in the 64 bytes that hold `a` an announced failure hits; a read that comes before the announced one uses up one of those it lets pass. -/
def State.readFails (s : State) (k : FailKind) (req a : Nat) : Nat × State :=
  match s.fails.find? (fun f => f.kind == k && f.req == req && f.at_ / 64 == a / 64) with
  | none => (0, s)
  | some f =>
    if f.x = 0 then (f.left, { s with fails := s.fails.erase f })
    else (0, { s with fails := s.fails.map (fun z => if z == f then { f with x := f.x - 1 } else z) })

/-! Stream cache (R347 to R353). -/

/-- Requesters inside the cycle-exact promise (R351). -/
def inPromise (req : Nat) : Bool := req != 0xA0 && req != 0x86 && req != 0x87

/-- Cache set and USES of the KEEP range that holds an address (R345, R348). -/
def HbmPlan.hint (h : HbmPlan) (a : Nat) : Option (Nat × Nat) :=
  (h.ranges.find? (fun r => r.kind == 1 && decide (r.base ≤ a) && decide (a < r.base + r.size))).map (fun r => (r.sel, r.uses))

/-- The cycle in which the cache serves a hit presented in cycle `t`: up to 8 of a requester's hits per cycle (R353). -/
def State.serveHit (s : State) (die req t : Nat) : Nat × State :=
  let u := Assoc.get (s.die die).hitUse req 0
  let c := max t (u / 16)
  let n := if c = u / 16 then u % 16 else 0
  let (c, n) := if 8 ≤ n then (c + 1, 0) else (c, n)
  (c, s.updDie die (fun d => { d with hitUse := d.hitUse.put req (c * 16 + n + 1) 0 }))

/-- A read hit: served 24 cycles after presentation; DROP units count their uses (R348, R353). -/
def State.cacheHit (s : State) (die req l t : Nat) (u : CacheUnit) (uses : Nat) : Nat × State :=
  let (c, s) := s.serveHit die req t
  let s := s.countHbm die l 2 1
  let s := match s.physOf die l with
    | some (k, _) => s.satF (F.CACHE_CNT_HITS die k) 1
    | none => s
  let s := if inPromise req && uses != 0 then
      s.updDie die (fun d => { d with cache := d.cache.filterMap (fun x => if x == u then (if uses ≤ u.uses + 1 then none else some { u with uses := u.uses + 1 }) else some x) })
    else s
  (c + 24, s)

/-- A read miss whose slot starts in cycle `c` allocates its unit under KEEP or DROP, unless its position holds another block (R348, R349). A unit whose own read's slot starts later, though its row ran first, gives way. (DEDUCED, notes/assumptions/69.md) -/
def State.cacheAlloc (s : State) (die req l o c : Nat) (hint : Option (Nat × Nat)) : State :=
  match hint with
  | none => s
  | some (set, uses) =>
    if !(inPromise req) || uses == 1 then s
    else
      let k := o / 256
      let v := o % 256 / 64
      let pos := k % max 1 ((s.hbmPlan die).sets.getD set 0 * 4096)
      let there := (s.die die).cache.filter (fun x => x.set == set && x.pos == pos)
      if there.any (fun x => decide (x.from_ ≤ c + 48) && x.block == k && x.unit == v) then s
      else if there.any (fun x => decide (x.from_ ≤ c + 48) && x.block != k) then
        let s := s.countHbm die l 3 1
        match s.physOf die l with
        | some (j, _) => s.satF (F.CACHE_CNT_KEEP_CONFLICTS die j) 1
        | none => s
      else
        let keep := (s.die die).cache.filter (fun x => !(x.set == set && x.pos == pos && (x.block != k || x.unit == v)))
        s.updDie die (fun d => { d with cache := keep ++ [⟨set, pos, k, v, c + 48, 1⟩] })

/-! ECC of T1 (R361, R362, R575). -/

/-- `n` corrections of a pseudo-channel: counted, and 1,024 in one scrub pass start a copy to a reserve (R362, R575). -/
def State.hbmCorrected (s : State) (die l n : Nat) : State :=
  if n = 0 then s
  else match s.physOf die l with
    | none => s
    | some (k, j) =>
      let s := (s.satF (F.HBM_ERR_CORRECTED die k) n).count die (256 + 128 * k + 6) n
      let b := Assoc.get (s.die die).pcCorr (k * 32 + j) 0
      let s := s.updDie die (fun d => { d with pcCorr := d.pcCorr.put (k * 32 + j) (b + n) 0 })
      if b < 1024 ∧ 1024 ≤ b + n ∧ s.spareAuto 4 then (s.startBringIn 4 die k j false).2 else s

/-- A re-read is recorded with its cost; two on one pseudo-channel within 1 s start a copy to a reserve (R362, R575). -/
def State.rereadNote (s : State) (die l cost : Nat) : State :=
  match s.physOf die l with
  | none => s
  | some (k, j) =>
    let s := ((s.hwSet (F.HBM_STATUS_REREAD die k) 1).count die (256 + 128 * k + 5) 1).raise C.T1_ECC_REREAD die (8 + k) j 0 cost
    let s := s.expo die 0x04 (2 * 7) C.T1_ECC_REREAD 8192 (s.frameCyc (s.partOf die)) cost (32 * k + j) (some 3)
    let s := s.updPart (s.partOf die) (fun x => { x with retrySeen := true })
    let last := Assoc.get (s.die die).rereadNs (k * 32 + j) 0
    let again := last != 0 && decide (s.clk.ns + 1 - last ≤ 1000000000)
    let s := s.updDie die (fun d => { d with rereadNs := d.rereadNs.put (k * 32 + j) (s.clk.ns + 1) 0 })
    if again && s.spareAuto 4 then (s.startBringIn 4 die k j false).2 else s

/-- The third failed read of a unit: the stack's status bit, and the pseudo-channel is lost (R362, R365, R575). -/
def State.t1Lost (s : State) (die l : Nat) (gone : Bool) : State :=
  match s.physOf die l with
  | none => s
  | some (k, j) =>
    let s := s.hwSet (F.HBM_STATUS_UNCORRECTABLE die k) 1
    if gone then s.pcLost die k j else s

/-- What an access to T1 answers: no slot, the cycle in which its data leave (or its write is complete) with the bytes read, or a unit that cannot be read. -/
inductive T1Ans where
  | noSlot
  | done (cyc : Nat) (b : List Byte)
  | bad (cyc : Nat)
deriving DecidableEq, Repr

/-- Whether the pseudo-channel of an offset in a region can no longer be read (R365). -/
def State.unitFailed (s : State) (die l : Nat) : Bool := !(s.hbmWait.isEmpty) && s.pcFailed die l

/-- Up to `k` re-reads of a unit after a read in slot `c`, each in the requester's next owned slot and recorded with its cost: the last slot (R362). (DEDUCED, notes/assumptions/15.md) -/
def rereads (die req l : Nat) : Nat → Nat → State → Nat × State
  | 0, c, s => (c, s)
  | k + 1, c, s =>
    match s.takeSlot die req l (c + 1) with
    | (none, s) => (c, s)
    | (some c', s) =>
      let det := ((s.physOf die l).map (fun (x : Nat × Nat) => 32 * x.1 + x.2)).getD 0
      rereads die req l k c' ((s.rereadNote die l (c' - c)).retry req (c' - c) det)

/-- The check of a unit read in slot `c`: whether its data are good, the last slot that the read took, and the state with corrections, re-reads and losses recorded (R361, R362, R365). (DEDUCED, notes/assumptions/15.md) -/
def State.t1Check (s : State) (die req l a n c : Nat) : Bool × Nat × State :=
  if s.unitFailed die l then (false, c, s.t1Lost die l false)
  else if s.poisoned a n then
    if s.ecc.any (fun x => decide (a / 8 ≤ x.1) && decide (x.1 ≤ (a + n - 1) / 8) && x.2 == 2) then
      let (c, s) := rereads die req l 2 c s
      (false, c, s.t1Lost die l true)
    else (false, c, s.t1Lost die l false)
  else
    let (m, s) := s.readFails .t1 req a
    let (c, s) := rereads die req l (min m 2) c s
    if 3 ≤ m then (false, c, s.t1Lost die l true)
    else
      let (k, s) := s.correct a n
      (true, c, s.hbmCorrected die l k)

/-- The key by which a read whose slot starts in cycle `c` reads: the writes whose slots started before it (R342). -/
def State.t1Key (s : State) (die c : Nat) : Nat := cycKey (s.absCyc die c) 0 - 1

/-- Whether a cached unit of requester `req` fails its own check: it is invalidated, and the case recorded as a retry without cost (R362). (DEDUCED, notes/assumptions/69.md) -/
def State.unitCheck (s : State) (die req l a : Nat) (u : CacheUnit) : Bool × State :=
  let (m, s) := s.readFails .unit req a
  if m = 0 then (true, s)
  else
    let det := ((s.physOf die l).map (fun (x : Nat × Nat) => 32 * x.1 + x.2)).getD 0
    (false, (s.updDie die (fun d => { d with cache := d.cache.erase u })).retry req 0 det)

/-- A read that takes a slot: its data leave 48 cycles after the slot starts (R341, R342, R348, R349). -/
def State.t1Miss (s : State) (die req a n t : Nat) (hint : Option (Nat × Nat)) : T1Ans × State :=
  let o := a % 0x2000000000
  let l := (s.t1Pc die o).1
  match s.takeSlot die req l t with
  | (none, s) => (.noSlot, s)
  | (some c, s) =>
    let (ok, c, s) := (s.countHbm die l 0 1).t1Check die req l a n c
    if ok then (.done (c + 48) (s.readAt (s.t1Key die c) a n), s.cacheAlloc die req l o c hint) else (.bad (c + 48), s)

/-- A read of the unit that holds bytes [a, a + n), presented in cycle `t` (R341, R342, R348 to R353, R361, R362, R365). (DEDUCED, notes/assumptions/15.md) -/
def State.t1Read (s : State) (die req a n t : Nat) : T1Ans × State :=
  let o := a % 0x2000000000
  let l := (s.t1Pc die o).1
  let hint := (s.hbmPlan die).hint a
  match (s.die die).cache.find? (fun u => u.block == o / 256 && u.unit == o % 256 / 64) with
  | some u =>
    if u.from_ ≤ t then
      match s.unitCheck die req l a u with
      | (true, s) =>
        let (c, s) := s.cacheHit die req l t u ((hint.map (fun h => h.2)).getD 0)
        (.done c (s.readAt (s.t1Key die c) a n), s)
      | (false, s) => s.t1Miss die req a n t hint
    else s.t1Miss die req a n t hint
  | none => s.t1Miss die req a n t hint

/-- The cycle, counted from reset, in which the unit of data behind an access in frame cycle `t` at a serving die began: a flit's data left 24 cycles before they arrive. -/
def State.unitCyc (s : State) (die req t : Nat) : Nat := s.absCyc die (if req < 0x80 ∧ req / 32 = die then t else t - 24)

/-- A write of bytes within one 64-byte unit, presented in cycle `t`: complete 16 cycles after its slot starts; words written in part are checked and corrected first (R342, R350, R361). -/
def State.t1Write (s : State) (die req a : Nat) (b : List Byte) (t : Nat) : T1Ans × State :=
  let l := (s.t1Pc die (a % 0x2000000000)).1
  match s.takeSlot die req l t with
  | (none, s) => (.noSlot, s)
  | (some c, s) =>
    let s := s.countHbm die l 1 1
    if s.unitFailed die l then (.bad (c + 16), s.t1Lost die l false)
    else
      let k := ((partWords a b.length).filter (fun w => s.eccOf (8 * w) == 1)).length
      (.done (c + 16) [], (s.hbmCorrected die l k).putAt (cycKey (s.absCyc die c) 0) (s.unitCyc die req t) req a b)

/-! Memory-side adders (R354 to R360). -/

/-- Bytes of one addend window, rounded up to 256 (R354). -/
def RangeE.window (r : RangeE) : Nat := roundUp (r.size * adderE r.sel) 256

/-- The ADDER range of a die that holds an address, with its window and the offset in it (R354). -/
def State.adderAt (s : State) (die a : Nat) : Option (RangeE × Nat × Nat) :=
  ((s.hbmPlan die).ranges.find? (fun r => r.kind == 2 && decide (r.base ≤ a) &&
      (let w := (a - r.base) / r.window
       decide (w < if r.sel = 4 then 3 else 1) && decide ((a - r.base) % r.window < r.size * adderE r.sel)))).map
    (fun r => (r, (a - r.base) / r.window, (a - r.base) % r.window))

/-- The address of target word i. -/
def RangeE.target (r : RangeE) (i : Nat) : Nat := r.ledger + i * adderT r.sel

/-- Whether an address lies in the target words of an ADDER range of a die (R354, R360). -/
def State.targetWord (s : State) (die a : Nat) : Bool :=
  (s.hbmPlan die).ranges.any (fun r => r.kind == 2 && decide (r.ledger ≤ a) && decide (a < r.target r.size))

/-- What a read of element i of an addend window returns from target word bytes `cur` (R357). -/
def readWord (ty : Nat) (cur : List Byte) : Nat :=
  if ty < 2 then leNat cur
  else if ty = 2 then ((Lg32.ofBytes cur).readOut fmtF32).1
  else if ty = 3 then ((Lg32.ofBytes cur).readOut ((fmtOf 8).getD fmtF32)).1
  else
    let g := Lgw.ofBytes cur
    if g.phase = 0 then fmtF64.cnan else g.readOut.1

/-- What a read of element i with key `k` returns (R357). -/
def State.adderValue (s : State) (k : Nat) (r : RangeE) (i : Nat) : Nat := readWord r.sel (s.readAt k (r.target i) (adderWord r.sel))

/-- 64-byte units of target words that an addition touches in turn: a write reads and writes each, except that one unit serves all integers of an addend unit (R358). -/
def adderUnits (r : RangeE) (i : Nat) : List Nat :=
  let a := r.target i
  if r.sel = 4 then [a, a + 64] else [a / 64 * 64]

/-- Take the slots of the units of an adder operation; the starts of the first and the last slot, or none without a slot. -/
def State.adderSlots (s : State) (die req t : Nat) (us : List Nat) : Option (Nat × Nat) × State :=
  us.foldl (fun (acc : Option (Nat × Nat) × State) a => match acc with
    | (none, s) => (none, s)
    | (some (f, c), s) => (match s.takeSlot die req (s.t1Pc die (a % 0x2000000000)).1 t with
      | (none, s) => (none, s)
      | (some c', s) => (some (if f = 0 then c' else f, max c c'), s))) (some (0, t), s)

/-- An adder operation under way: the last slot's start (none without a slot), the first slot of the present element's units, the fault that ended it, the bytes of elements not yet whole, and the state. -/
structure AddRun where
  last : Option Nat
  first : Nat
  fault : Option Nat
  part : List (Nat × Byte)
  s : State

/-- The bytes [a, a + n) among those that have come, the latest of each; none while one is missing. -/
def gather (l : List (Nat × Byte)) (a n : Nat) : Option (List Byte) :=
  (List.range n).mapM (fun i => (l.reverse.find? (fun x => x.1 == a + i)).map (fun x => x.2))

/-- Element `i` of a write whose bytes so far are `x.part`: added once all its bytes have come; ADDER_ALIGN when the transfer (`cover`) does not write them all (R355, R356, R358). -/
def adderElem (die req t : Nat) (r : RangeE) (w base first : Nat) (cover : Nat → Bool) (x : AddRun) (i : Nat) : AddRun :=
  let e := adderE r.sel
  let a := base + i * e
  match x.last, x.fault with
  | some c, none =>
    if !((List.range e).all (fun j => cover (a + j))) then { x with fault := some C.ADDER_ALIGN }
    else (match gather x.part a e with
      | none => x
      | some b =>
        let us := if r.sel < 2 ∧ i ≠ first ∧ i * e % 64 ≠ 0 then [] else adderUnits r i ++ adderUnits r i
        match x.s.adderSlots die req t us with
        | (none, s) => { x with last := none, s := s }
        | (some (f, c'), s) =>
          let f := if us.isEmpty then x.first else f
          let l := (s.t1Pc die (r.target i % 0x2000000000)).1
          let (ok, c2, s) := (s.countHbm die l 4 1).t1Check die req l (r.target i) (adderWord r.sel) f
          let x := { x with last := some (max c (max c' c2)), first := f, part := x.part.filter (fun y => decide (y.1 < a) || decide (a + e ≤ y.1)), s := s }
          if !ok then { x with fault := some C.T1_UNCORRECTABLE }
          else (match s.storeAt (cycKey (s.absCyc die f) 0) (s.unitCyc die req t) req (r.target i) (.add r.sel w (leNat b)) with
            | none => { x with fault := some C.ADDER_LEDGER_PHASE }
            | some s => { x with s := s }))
  | _, _ => x

/-- A write of contiguous bytes to an addend window, presented in cycle `t`, by a transfer that writes the bytes `cover` selects and of which `part` came before: elements in order, each wholly written element added; the first fault ends it (R355, R356, R358). The third result is what waits for the rest of an element. -/
def State.adderWrite (s : State) (die req a : Nat) (b : List Byte) (t : Nat) (cover : Nat → Bool) (part : List (Nat × Byte)) : T1Ans × Option Nat × List (Nat × Byte) × State :=
  match s.adderAt die a with
  | none => (.noSlot, none, part, s)
  | some (r, w, o) =>
    let e := adderE r.sel
    let first := o / e
    let x := ((List.range ((o + b.length - 1) / e + 1 - first)).map (fun j => first + j)).foldl (adderElem die req t r w (a - o) first cover)
      ⟨some t, t, none, part ++ (b.zipIdx).map (fun y => (a + y.2, y.1)), s⟩
    match x.last with
    | none => (.noSlot, x.fault, x.part, x.s)
    | some c => (.done (c + 16) [], x.fault, x.part, x.s)

/-- A read of contiguous bytes of an addend window (R357, R358, R362). -/
def State.adderRead (s : State) (die req a n t : Nat) : T1Ans × State :=
  match s.adderAt die a with
  | none => (.noSlot, s)
  | some (r, _, o) =>
    let e := adderE r.sel
    let is := (List.range ((o + n - 1) / e + 1 - o / e)).map (fun j => o / e + j)
    let us := is.flatMap (fun i => if r.sel < 2 ∧ i ≠ o / e ∧ i * e % 64 ≠ 0 then [] else adderUnits r i)
    match s.adderSlots die req t us with
    | (none, s) => (.noSlot, s)
    | (some (f, c), s) =>
      let (ok, c, s) := is.foldl (fun (acc : Bool × Nat × State) i =>
        if acc.1 then
          (let l := (acc.2.2.t1Pc die (r.target i % 0x2000000000)).1
          let (ok, c', s) := acc.2.2.t1Check die req l (r.target i) (adderWord r.sel) f
          (ok, max acc.2.1 c', s))
        else acc) (true, c, s)
      if ok then (.done (c + 48) (((is.flatMap (fun i => leBytes e (s.adderValue (s.t1Key die f) r i))).drop (o % e)).take n), s) else (.bad (c + 48), s)

/-- The die whose T1 serves an address of an adder command. -/
def State.servingDie (s : State) (a : Nat) : Option Nat := (s.t1Die a).map (fun x => x.1)

/-- A fault of a requester's transfer outside its MOVE: its running command faults, and the requester is answered the code. -/
def State.faultReq (s : State) (req code : Nat) : State :=
  let s := match s.moverRun req with
    | some i => s.faultUnit 2 (req / 32) i code (s.frameCyc (s.partOf (req / 32)))
    | none => s
  s.answer code 0

/-- ADDER_WRITE: requester `req` writes bytes to an addend window now (R355, R356, R358). -/
def doAdderWrite (req a : Nat) (data : List Byte) (s : State) : State :=
  match s.servingDie a with
  | none => s.answer C.MOV_ADDR 0
  | some die =>
    match s.adderWrite die req a data (s.frameCyc (s.partOf die)) (fun x => decide (a ≤ x) && decide (x < a + data.length)) [] with
    | (_, some f, _, s) => s.faultReq req f
    | (.done c _, none, _, s) => s.answer 0 c
    | (_, none, _, s) => s.faultReq req C.MOV_NO_SLOT

def execAdderWrite (req : Nat) (addr : Nat) (data : List Byte) (s : State) : Host.Outcome State Fault Refusal :=
  .next (doAdderWrite req addr data s)

/-- ADDER_READ: requester `req` reads bytes of an addend window (R357, R358). -/
def doAdderRead (req a n : Nat) (s : State) : State :=
  match s.servingDie a with
  | none => s.answer C.MOV_ADDR 0
  | some die =>
    match s.adderRead die req a n (s.frameCyc (s.partOf die)) with
    | (.done _ b, s) => s.answerBytes 0 b
    | (.bad _, s) => s.faultReq req C.T1_UNCORRECTABLE
    | (.noSlot, s) => s.faultReq req C.MOV_NO_SLOT

def execAdderRead (req : Nat) (addr : Nat) (bytes : Nat) (s : State) : Host.Outcome State Fault Refusal :=
  .next (doAdderRead req addr bytes s)

/-! Scrub and refresh (R339, R363). -/

/-- Address of unit `u` of a logical pseudo-channel (R337, R363). -/
def State.unitAddr (s : State) (die l u : Nat) : Nat := die * 0x2000000000 + 256 * (u / 4 * s.pcs die + l) + 64 * (u % 4)

/-- HBM_SCRUB: the controller reads the next unit of an exposed pseudo-channel in a slot that no requester owns, and writes a corrected word back; a stack in self-refresh serves no slot (R363, R378). With the unit the device reports `ondie` corrections of its own on-die ECC, which the controller counts (R361). (DESIGN CHOICE for the report's place, notes/assumptions/60.md) -/
def doHbmScrub (die stack pc ondie : Nat) (s : State) : State :=
  let l := s.pcState die stack pc
  let h := s.hbmPlan die
  let free := s.atRest (s.partOf die) || (nextSlotBy h.g 0 (ownsSlot (h.slots.getD l []) 0xFF)).isSome
  if 90 ≤ l ∨ free = false ∨ s.th.selfRefresh then s
  else
    let u := Assoc.get (s.die die).hbmScrub (stack * 32 + pc) 0
    let a := s.unitAddr die l u
    let (k, s) := s.correct a 64
    let s := ((s.hbmCorrected die l k).satF (F.HBM_ERR_ONDIE die stack) ondie).count die (256 + 128 * stack + 8) 1
    let next := (u + 1) % unitsPerPc
    let s := s.updDie die (fun d => { d with hbmScrub := d.hbmScrub.put (stack * 32 + pc) next 0,
                                             pcCorr := if next = 0 then d.pcCorr.put (stack * 32 + pc) 0 0 else d.pcCorr })
    let all := (List.range 32).all (fun (j : Nat) => decide (90 ≤ s.pcState die stack j) || Assoc.get (s.die die).hbmScrub (stack * 32 + j) 0 == 0)
    if next = 0 ∧ all = true then s.hwSet (F.HBM_STATUS_SCRUB_PASS die stack) 1 else s

def execHbmScrub (die : Fin 4) (stack : Fin 3) (u : ScrubUnit) (s : State) : Host.Outcome State Fault Refusal :=
  .next (doHbmScrub die stack u.pc u.ondie s)

/-- HBM_REFRESH_POINT: the controller issues a pseudo-channel's refresh; it is counted, and no data change; a stack in self-refresh has no refresh point (R338, R339, R378). -/
def doHbmRefreshPoint (die stack pc : Nat) (s : State) : State :=
  if 90 ≤ s.pcState die stack pc ∨ s.th.selfRefresh then s else s.count die (256 + 128 * stack + 9) 1

def execHbmRefreshPoint (die : Fin 4) (stack : Fin 3) (pc : Fin 32) (s : State) : Host.Outcome State Fault Refusal :=
  .next (doHbmRefreshPoint die stack pc s)

/-! Slot Link slots (R207 to R211, R235, R236, R624). Dies 0 to 3 are A0 to A3, 4 the P-die, 5 the F-die. -/

/-- The A-die whose image carries a link's tables, the LINK number there, and whether the direction is away from it (R235, R236). -/
def linkCarrier (x y : Nat) : Nat × Nat × Nat :=
  let lo := min x y
  let hi := max x y
  if lo = 4 then (0, 5, if x = 4 then 0 else 1)
  else if hi = 4 then (lo, 3, if x = lo then 0 else 1)
  else if hi = 5 then (lo, 4, if x = lo then 0 else 1)
  else (lo, hi - 1, if x = lo then 0 else 1)

/-- SLINK_STATUS number of the link from die x to die y at x's end (R217, R218). -/
def linkAt (x y : Nat) : Nat :=
  if x < 4 then (if y < 4 then (if y < x then y else y - 1) else y - 1) else if y < 4 then y else 4

/-- Slots per group of a link (R207). -/
def linkWidth (x y : Nat) : Nat := if 4 ≤ x ∧ 4 ≤ y then 12 else 49

/-- The cycle of a group in which slot i of it lies (R207). -/
def linkCycle (w i : Nat) : Nat := if w = 12 then i / 3 else min (i / 12) 3

/-- The first slot of a group that lies at or after cycle `c` of it. -/
def linkFirst (w c : Nat) : Nat := if w = 12 then 3 * c else 12 * c

/-- The slot table of a direction in the active bank that carries it. -/
def State.linkTable (s : State) (x y : Nat) : Option LinkTab :=
  let (n, l, d) := linkCarrier x y
  ((s.abank n).links).find? (fun t => t.link == l && t.dir == d)

/-- Whether a requester owns a slot on a direction (R211). -/
def State.ownsLink (s : State) (x y req : Nat) : Bool := (s.linkTable x y).any (fun t => t.slots.contains req)

/-- The number of the first slot at or after slot number `n0` that a requester owns: slots are numbered through the groups from frame cycle 0. -/
def nextLink (t : LinkTab) (w req n0 : Nat) : Option Nat :=
  let len := t.period * w
  if len = 0 then none
  else
    let k := n0 % len
    match (t.slots.drop k).findIdx? (fun x => x == req) with
    | some i => some (n0 + i)
    | none => (t.slots.findIdx? (fun x => x == req)).map (fun i => n0 - k + len + i)

/-- A flit of requester `req` from die x to die y, ready in cycle `t`, takes the first slot it owns that no earlier flit took: the cycle in which it is sent (R213). In IDLE and STOPPED requesters share the slots and are served as they come (R19). (DESIGN CHOICE for IDLE and STOPPED, notes/assumptions/69.md) -/
def State.takeLink (s : State) (p x y req t : Nat) : Option Nat × State :=
  let s1 := if x < 4 then s.count x (640 + 16 * linkAt x y) 1 else s
  let s1 := if y < 4 then s1.count y (641 + 16 * linkAt y x) 1 else s1
  let (n, _, _) := linkCarrier x y
  let w := linkWidth x y
  let rest := s.atRest p
  let key := (x * 8 + y) * 256 + (if rest then 255 else req)
  let lo := max (t / 4 * w + linkFirst w (t % 4)) (Assoc.get (s.die n).linkLast key 0)
  let slot := if rest then some lo else (s.linkTable x y).bind (fun tab => nextLink tab w req lo)
  match slot with
  | none => (none, s)
  | some i => (some (i / w * 4 + linkCycle w (i % w)), s1.updDie n (fun d => { d with linkLast := d.linkLast.put key (i + 1) 0 }))

/-- Whether a link carries slots (R577). -/
def State.linkUp (s : State) (x y : Nat) : Bool := s.getF (F.SLINK_STATUS_UP x (linkAt x y)) == 1

/-- A flit from die x to die y failed its link check and is sent again, `cost` cycles after the failed attempt: the sending end counts it, the 16th of a frame traced to one lane asks for a repair lane, and it is a retry of the requester (R70, R215, R218, R577). -/
def State.linkReplay (s : State) (x y req cost : Nat) : State :=
  let l := linkAt x y
  let s := s.satF (F.SLINK_STATUS_REPLAYS x l) 1
  let s := if x < 4 then s.count x (642 + 16 * l) 1 else s
  let key := 4096 + x * 8 + l
  let n := Assoc.get s.fab.replayed key 0 + 1
  let s := { s with fab := { s.fab with replayed := Assoc.put s.fab.replayed key n 0 } }
  let s := if n = 16 then s.needSpare 7 x l l true else s
  s.retry req cost (8 * x + l)

/-- A flit sent in cycle `c` goes on failing its link check while an announced failure hits it: it is sent again in the requester's next owned slot each time (R215). -/
def sendAgain (p x y req : Nat) : Nat → Nat → State → Option Nat × State
  | 0, c, s => (some c, s)
  | k + 1, c, s =>
    match s.flitFails .link req x y with
    | (false, s) => (some c, s)
    | (true, s) => match s.takeLink p x y req (c + 1) with
      | (none, s) => (none, s)
      | (some c', s) => sendAgain p x y req k c' (s.linkReplay x y req (c' - c))

/-- A flit of requester `req` from die x to die y, ready in cycle `t`: the cycle in which the attempt that passes the link check is sent (R213, R215). -/
def State.sendFlit (s : State) (p x y req t : Nat) : Option Nat × State :=
  match s.takeLink p x y req t with
  | (none, s) => (none, s)
  | (some c, s) => sendAgain p x y req ((s.fails.filter (fun f => f.kind == .link)).foldl (fun a f => a + f.left) 0) c s

/-- How a data flit ended: sent in a cycle, without a slot, or given up after its fourth failure, which is known in a cycle. -/
inductive FlitAns where
  | sent (c : Nat)
  | noSlot
  | lost (c : Nat)
deriving DecidableEq, Repr

/-- A data flit sent in cycle `c` that the target discards is known as discarded when its acknowledgement arrives, 48 cycles later, and is sent again, at most `k` times more (R213, R215). (DEDUCED, notes/assumptions/69.md) -/
def resendData (p x y req : Nat) : Nat → Nat → State → FlitAns × State
  | 0, c, s => match s.flitFails .flit req x y with
    | (false, s) => (.sent c, s)
    | (true, s) => (.lost (c + 48), s)
  | k + 1, c, s => match s.flitFails .flit req x y with
    | (false, s) => (.sent c, s)
    | (true, s) => match s.sendFlit p x y req (c + 48) with
      | (none, s) => (.noSlot, s)
      | (some c', s) => resendData p x y req k c' (s.retry req (c' - c) (8 * x + linkAt x y))

/-- A data flit of requester `req` from die x to die y, ready in cycle `t` (R213, R215). -/
def State.sendData (s : State) (p x y req t : Nat) : FlitAns × State :=
  match s.sendFlit p x y req t with
  | (none, s) => (.noSlot, s)
  | (some c, s) => resendData p x y req 3 c s

/-! Accesses outside the promise (R40, R319, R371 to R373): by the F-die, the cores, migrations and engines, in the slots of their own requester code. -/

/-- The pieces of [a, a + n) between multiples of `k`. -/
def segs (k a n : Nat) : List (Nat × Nat) :=
  if n = 0 then []
  else (List.range ((a + n - 1) / k - a / k + 1)).map (fun i =>
    let lo := max a ((a / k + i) * k)
    (lo, min (a + n) ((a / k + i + 1) * k) - lo))

/-- The logical pseudo-channels whose units an access to [a, a + n) of one die's T1 presents: the targets' in an addend window (R337, R358). -/
def State.pcsOf (s : State) (h : HbmPlan) (die a n : Nat) : List Nat :=
  let spread := fun (a n : Nat) =>
    let o := a % 0x2000000000
    let k := if n = 0 then 0 else (o + n - 1) / 256 - o / 256 + 1
    if s.pcs die ≤ k then List.range (s.pcs die) else (List.range k).map (fun i => (o / 256 + i) % s.pcs die)
  match h.ranges.find? (fun r => r.kind == 2 && decide (r.base ≤ a) && decide (a < r.base + r.window * (if r.sel = 4 then 3 else 1))) with
  | none => spread a n
  | some r =>
    let o := (a - r.base) % r.window
    let i := o / adderE r.sel
    spread (r.ledger + i * adderT r.sel) ((cdiv (o + n) (adderE r.sel) - i) * adderT r.sel)

/-- Whether requester `req` owns a slot on every pseudo-channel that a range of the die's T1 needs. -/
def State.t1Owned (s : State) (h : HbmPlan) (die req a n : Nat) : Bool :=
  (s.pcsOf h die a n).all (fun l => (h.slots.getD l []).contains req)

/-- The die a requester's traffic starts from (R208). -/
def reqDie (req : Nat) : Nat := if req < 0x80 then req / 32 else if req < 0xA0 then 4 else 5

/-- The die at which an address is served: an A-die, the P-die for T2, the F-die for T3 (R20). -/
def homeOf (a : Nat) : Nat :=
  match rowOf a with
  | some .t1 => a / 0x2000000000
  | some (.spm n) => n
  | some .t2 => 4
  | _ => 5

/-- The bytes of a flit's data (R209). -/
def flitBytes : Nat := 240

/-- Whether a direction of a Slot Link can carry a requester's flits now: the link is up, and the active plan, where there is one, gives the requester a slot (R19, R20, R40, R624). -/
def State.dirOpen (s : State) (x y req : Nat) : Bool :=
  s.linkUp x y && (s.atRest (s.partOfUnit (linkCarrier x y).1) || s.ownsLink x y req)

/-- Whether requester `req` has the way it needs for an access of the kind (`wr`: a write) to a range that one tier serves: one Slot Link there, and back for a read, and the pseudo-channels' slots; none while the arithmetic clock is stopped (R20, R40, R319, R341, R377, R624). -/
def State.pieceMay (s : State) (req : Nat) (wr : Bool) (a n : Nat) : Bool :=
  let x := reqDie req
  let y := homeOf a
  s.aclk != 0 && (x == y || (s.dirOpen x y req && (wr || s.dirOpen y x req)))
    && (rowOf a != some .t1 || s.atRest (s.partOf y) || s.t1Owned (s.hbmPlan y) y req a n)

/-- Whether a requester has the way it needs for an access to [a, a + n). -/
def State.extMay (s : State) (req : Nat) (wr : Bool) (a n : Nat) : Bool := (segs 0x40000000 a n).all (fun x => s.pieceMay req wr x.1 x.2)

/-- The pieces of [a, a + n) within 64-byte units. -/
def pieces64 (a n : Nat) : List (Nat × Nat) := segs 64 a n

/-- The flits' worth of [a, a + n), none of which crosses from one tier to another. -/
def flits (a n : Nat) : List (Nat × Nat) :=
  (segs 0x40000000 a n).flatMap (fun x => (List.range (cdiv x.2 flitBytes)).map (fun i => (x.1 + flitBytes * i, min flitBytes (x.2 - flitBytes * i))))

/-- What a read of a poisoned unit answers in each tier (R184, R362, R371, R372). -/
def tierCode (t : Tier) : Nat :=
  match t with
  | .t1 => C.T1_UNCORRECTABLE
  | .t2 => C.T2_UNCORRECTABLE
  | .t3 => C.T3_ERROR
  | .spm _ => C.SPM_UNCORRECTABLE

/-- The frame cycle in which a die's unit acts now. -/
def State.nowAt (s : State) (die : Nat) : Nat := s.frameCyc (s.partOfUnit die)

/-- A flit of requester `req` from die x, ready in cycle `t`, reaches die y: 24 cycles after it is sent, at once on its own die (R20, R213). -/
def State.reach (s : State) (x y req t : Nat) : Option Nat × State :=
  if x = y then (some t, s)
  else match s.sendFlit (s.partOfUnit (linkCarrier x y).1) x y req t with
    | (none, s) => (none, s)
    | (some c, s) => (some (c + 24), s)

/-- One piece of an access outside the promise, read at the die that serves it in cycle `t`: its code, 0 for success, the cycle in which its data are there, and its bytes. -/
def State.extReadPiece (s : State) (req a n t : Nat) : Nat × Nat × List Byte × State :=
  match s.tierOf a with
  | none => (C.MOV_ADDR, t, [], s)
  | some .t1 =>
    let die := a / 0x2000000000
    (match (if (s.adderAt die a).isSome then s.adderRead die req a n t else s.t1Read die req a n t) with
    | (.noSlot, s) => (C.MOV_NO_SLOT, t, [], s)
    | (.bad c, s) => (C.T1_UNCORRECTABLE, c, [], s)
    | (.done c b, s) => (0, c, b, s))
  | some (.spm d) =>
    if s.spmDegraded d then (C.SPM_DEGRADED, t, [], s)
    else if s.poisoned a n then (C.SPM_UNCORRECTABLE, t, [], (s.noteDouble d [(a - spmBase d, n)]).hwSet (F.SPM_STATUS_UNCORRECTABLE d) 1)
    else
      let (ovr, s) := s.spmRead d 8 req t (a - spmBase d) n
      if ovr then (C.SPM_BANK_OVERLOAD, t, [], s) else (0, t + 32, s.spmData d t (a - spmBase d) n, s)
  | some .t2 =>
    let s := s.count 4 352 1
    if s.poisoned a n then (C.T2_UNCORRECTABLE, t, [], (s.satF F.T2_ERR_UNCORRECTABLE 1).count 4 355 1)
    else
      let (k, s) := s.correct a n
      let s := if k = 0 then s else (s.satF F.T2_ERR_CORRECTED k).count 4 354 k
      (0, t, s.readMem a n, s)
  | some .t3 =>
    let (m, s) := s.readFails .t3 req a
    if m ≠ 0 ∨ s.poisoned a n then (C.T3_ERROR, t, [], s) else (0, t, s.readMem a n, s)

/-- The pieces of one flit's worth, read at the serving die in cycle `t`. -/
def State.extReadFlit (s : State) (req a n t : Nat) : Nat × Nat × List Byte × State :=
  (pieces64 a n).foldl (fun (acc : Nat × Nat × List Byte × State) x =>
    if acc.1 ≠ 0 then acc
    else
      let (c, w, b, s) := acc.2.2.2.extReadPiece req x.1 x.2 t
      (c, max acc.2.1 w, acc.2.2.1 ++ b, s)) (0, t, [], s)

/-- An access of the F-die that has no way: it waits on the F-die, which the row that makes it sees in `fdieWait` (R40). (DEDUCED, notes/assumptions/72.md) -/
def State.markWait (s : State) : State := { s with fdieWait := true }

/-- A row whose accesses the F-die makes: it changes nothing while one of them has to wait for a slot (R40). (DEDUCED, notes/assumptions/72.md) -/
def State.orWait (s : State) (f : State → State) : State :=
  let t := f { s with fdieWait := false }
  if t.fdieWait then s else t

/-- A flit of an access that has its way goes from die x to die y in the requester's slots; one that waits on the F-die goes when it can. -/
def State.reachIf (s : State) (way : Bool) (x y req t : Nat) : Option Nat × State := if way then s.reach x y req t else (some t, s)

/-- A read of [a, a + n) by requester `req` outside the promise: a code, 0 for success, and the bytes. The whole range is judged first, then the way (R36, R40, R624); requests and responses take the requester's slots. -/
def State.extRead (s : State) (req a n : Nat) : Nat × List Byte × State :=
  let way := s.extMay req false a n
  if !(s.rangeOk a n) then (C.MOV_ADDR, [], s)
  else if !way && req != 0xA0 then (C.MOV_NO_SLOT, [], s)
  else (flits a n).foldl (fun (acc : Nat × List Byte × State) f =>
    let (c, b, s) := acc
    if c ≠ 0 then acc
    else
      let x := reqDie req
      let y := homeOf f.1
      match s.reachIf way x y req (s.nowAt y) with
      | (none, s) => (C.MOV_NO_SLOT, b, s)
      | (some t, s) =>
        let (c, w, d, s) := s.extReadFlit req f.1 f.2 t
        match s.reachIf way y x req (w + 1) with
        | (none, s) => (C.MOV_NO_SLOT, b, s)
        | (some _, s) => (c, b ++ d, s)) (0, [], if way then s else s.markWait)

/-- One piece of a write outside the promise, made at the serving die in cycle `t`; `cover` gives the whole write and `part` what came of addend elements before. -/
def State.extWritePiece (s : State) (req a : Nat) (b : List Byte) (t : Nat) (cover : Nat → Bool) (part : List (Nat × Byte)) : Nat × List (Nat × Byte) × State :=
  match s.tierOf a with
  | none => (C.MOV_ADDR, part, s)
  | some .t1 =>
    let die := a / 0x2000000000
    if (s.adderAt die a).isSome then
      (match s.adderWrite die req a b t cover part with
      | (_, some e, part, s) => (e, part, s)
      | (.noSlot, none, part, s) => (C.MOV_NO_SLOT, part, s)
      | (_, none, part, s) => (0, part, s))
    else
      (match s.t1Write die req a b t with
      | (.noSlot, s) => (C.MOV_NO_SLOT, part, s)
      | (.bad _, s) => (C.T1_UNCORRECTABLE, part, s)
      | (.done _ _, s) => (0, part, s))
  | some (.spm d) =>
    if s.spmDegraded d then (C.SPM_DEGRADED, part, s)
    else
      let (ovr, s) := s.spmWrite d 8 req t t (a - spmBase d) b
      (if ovr then C.SPM_BANK_OVERLOAD else 0, part, s)
  | some .t2 => (0, part, (s.store a b).count 4 353 1)
  | some .t3 => (0, part, s.store a b)

/-- The pieces of bytes from address `a`, written at the serving die in cycle `t`. -/
def State.extWriteFlit (s : State) (req a : Nat) (b : List Byte) (t : Nat) (cover : Nat → Bool) (part : List (Nat × Byte)) : Nat × List (Nat × Byte) × State :=
  (pieces64 a b.length).foldl (fun (acc : Nat × List (Nat × Byte) × State) x =>
    if acc.1 ≠ 0 then acc else acc.2.2.extWritePiece req x.1 ((b.drop (x.1 - a)).take x.2) t cover acc.2.1) (0, part, s)

/-- A write by requester `req` outside the promise: the first code met. The whole range is judged before anything is written (R36, R40, R624). -/
def State.extWrite (s : State) (req a : Nat) (b : List Byte) : Nat × State :=
  let way := s.extMay req true a b.length
  if !(s.rangeOk a b.length) then (C.MOV_ADDR, s)
  else if !way && req != 0xA0 then (C.MOV_NO_SLOT, s)
  else
    let r := (flits a b.length).foldl (fun (acc : Nat × List (Nat × Byte) × State) f =>
      let (c, part, s) := acc
      if c ≠ 0 then acc
      else match s.reachIf way (reqDie req) (homeOf f.1) req (s.nowAt (homeOf f.1)) with
        | (none, s) => (C.MOV_NO_SLOT, part, s)
        | (some t, s) => s.extWriteFlit req f.1 ((b.drop (f.1 - a)).take f.2) t (fun y => decide (a ≤ y) && decide (y < a + b.length)) part) (0, [], if way then s else s.markWait)
    (r.1, r.2.2)

/-! Announced failures (R70, R215, R362, R372). -/

/-- LINK_REPLAY: the next-but-`skip` flit that requester `req` sends at end `e` of its link `l` fails its link check `n` times; each time it is sent again in the requester's next owned slot, which makes the retry and its cost (R215, R218, R577). (DESIGN CHOICE, notes/assumptions/69.md) -/
def doLinkReplay (e l req skip n : Nat) (s : State) : State :=
  let y := if e < 4 then (if l < 3 then (if l < e then l else l + 1) else l + 1) else if l < 4 then l else 9 - e
  { s with fails := s.fails ++ [⟨.link, req, e, y, skip, n⟩] }

def execLinkReplay (e : Fin 6) (l : Fin 5) (req skip n : Nat) (s : State) : Host.Outcome State Fault Refusal := .next (doLinkReplay e l req skip n s)

/-- MOVER_RETRANSMIT: of the data flits that requester `req` sends to die `y`, the next but `skip` is acknowledged as discarded by its target `n` times over; the mover sends it again each time, and the fourth failure faults the transfer (R215). (DESIGN CHOICE, notes/assumptions/69.md) -/
def doMoverRetransmit (req y skip n : Nat) (s : State) : State := { s with fails := s.fails ++ [⟨.flit, req, reqDie req, y, skip, n⟩] }

def execMoverRetransmit (req : Nat) (y : Fin 6) (skip n : Nat) (s : State) : Host.Outcome State Fault Refusal := .next (doMoverRetransmit req y skip n s)

/-- T1_ECC_REREAD: the next-but-`skip` read that requester `req` makes of the unit at `a` fails `tries` times with a double-bit error: after the first and the second the unit is read again in the requester's next owned slot, the third faults the reader. With `unit` it is the stream cache's unit that fails its check, and the read is a miss; beyond T1, a T3 device does not answer in time (R362, R372). (DESIGN CHOICE, notes/assumptions/69.md) -/
def doT1EccReread (req a skip tries : Nat) (unit : Bool) (s : State) : State :=
  let k : FailKind := if rowOf a = some .t3 then .t3 else if unit then .unit else .t1
  { s with fails := s.fails ++ [⟨k, req, skip, 0, a, tries⟩] }

def execT1EccReread (req addr skip tries : Nat) (unit : Bool) (s : State) : Host.Outcome State Fault Refusal := .next (doT1EccReread req addr skip tries unit s)

end Sys2Proof.Machine
end

