-- ==== Sys2Proof/Machine/Fabric.lean ====
section
/-! DEFINITION. The optical fabric: ports, node numbers and levels, routing, transfers at source and target, tokens, fences, gateways, tables and set-up records (R382 to R432). What a packet does when it arrives is in FabCmd.lean. -/
namespace Sys2Proof.Machine

/-! Nodes, levels and routes (R389 to R391, R399). -/

/-- The node number of a partition. -/
def State.node (s : State) (p : Nat) : Nat := s.getF (F.FAB_NODE_NODE p)

/-- The partition a node number names on this package (R390). -/
def State.partOfNode (s : State) (n : Nat) : Option Nat := [0, 1, 2, 3].find? (fun p => s.getF (F.FAB_NODE_VALID p) == 1 && s.node p == n)

/-- The level of a transfer between two nodes; none when they lie in different sites (R382, R391). -/
def levelOf (a b : Nat) : Option Nat :=
  if a / 2 ^ 8 = b / 2 ^ 8 then some 1 else if a / 2 ^ 19 = b / 2 ^ 19 then some 2 else if a / 2 ^ 24 = b / 2 ^ 24 then some 3 else none

/-- The index of a destination in the route table of a level (R399). -/
def routeIndex (level dst : Nat) : Nat :=
  match level with
  | 1 => bits dst 0 8
  | 2 => bits dst 7 12
  | _ => bits dst 13 11

def routeSize (table : Nat) : Nat := match table with
  | 0 => 256
  | 1 => 4096
  | _ => 2048

/-- The port mask of a route entry. -/
def State.route (s : State) (level dst : Nat) : Nat := s.fab.routes.get ((level - 1) * 65536 + routeIndex level dst) 0

/-- The ports of a level, as a mask (R382). -/
def levelPorts (level : Nat) : Nat := match level with
  | 1 => 0x000FFFFF
  | 2 => 0x0FF00000
  | _ => 0xF0000000

def portUp : Nat := 2

/-- Whether a port is UP. -/
def State.isUp (s : State) (p : Nat) : Bool := s.getF (F.PORT_STATUS_STATE p) == portUp

/-- The port a packet of a level to `dst` leaves on: an UP port of its route entry, in rotation (R399). (DESIGN CHOICE, notes/assumptions/61.md) -/
def State.pickPort (s : State) (level dst : Nat) : Option Nat :=
  let m := s.route level dst &&& levelPorts level
  let last := s.fab.rot.get level 0
  ((List.range 32).map (fun i => (last + i) % 32)).find? (fun p => bit m p && s.isUp p)

/-- Bytes of a packet on the wire (R392). -/
def packetSize (k : Packet) : Nat := 48 + (if k.payload.isEmpty then 0 else k.payload.length + 4)

/-- A packet leaves on a port, with the check values of its bytes, and stays in its replay buffer (R385, R392, R502). -/
def State.sendOn (s : State) (k : Packet) (p : Nat) : State :=
  let q : Packet := Packet.sealed { k with port := ⟨p % 32, Nat.mod_lt _ (by decide)⟩ }
  let s := ((s.count 5 (8 * p) 1).count 5 (8 * p + 1) (packetSize k)).count 5 (280 + k.level - 1) (packetSize k)
  let s := s.satF (F.CONG_BYTES_COUNT (k.level - 1) 0) (packetSize k)
  { s with fab := { s.fab with replay := s.fab.replay ++ [q], rot := s.fab.rot.put k.level ((p + 1) % 32) 0 } }

/-- A packet is sent on a port of its level, or waits at the source while none is UP (R399). (DESIGN CHOICE, notes/assumptions/61.md) -/
def State.emit (s : State) (k : Packet) : State :=
  match s.pickPort k.level k.dst with
  | some p => s.sendOn k p
  | none => { s with fab := { s.fab with waiting := s.fab.waiting ++ [k] } }

/-- Waiting packets of one VC in the order of service: the flows in turn, one packet at a time, each collective group a flow and the packets of GROUP 0xFF together one; the flow whose packet waits longest goes first (R397). (DESIGN CHOICE for the first flow, notes/assumptions/61.md) -/
def inTurn (l : List Packet) : List Packet :=
  let turns := (l.zipIdx).map (fun (x : Packet × Nat) => (((l.take x.2).filter (fun (y : Packet) => y.group == x.1.group)).length, x.1))
  (List.range l.length).flatMap (fun (r : Nat) => (turns.filter (fun x => x.1 == r)).map (fun x => x.2))

/-- The packets that a VC may send on deficit `d`, the deficit left, and the packets that stay. -/
def takeDeficit : Nat → List Packet → List Packet × Nat × List Packet
  | d, [] => ([], d, [])
  | d, k :: l =>
    if packetSize k ≤ d then (let (a, e, r) := takeDeficit (d - packetSize k) l; (k :: a, e, r)) else ([], d, k :: l)

/-- Deficit-weighted round robin over queues (quantum, deficit, packets), `n` rounds at most; an emptied queue keeps no deficit (R395). -/
def roundRobin : Nat → List (Nat × Nat × List Packet) → List Packet
  | 0, qs => qs.flatMap (fun q => q.2.2)
  | n + 1, qs =>
    let r := qs.map (fun (q : Nat × Nat × List Packet) =>
      let (a, d, rest) := takeDeficit (q.2.1 + q.1) q.2.2
      (a, q.1, if rest.isEmpty then 0 else d, rest))
    r.flatMap (fun x => x.1) ++ roundRobin n (r.map (fun x => x.2))

/-- Waiting packets in the order in which ports serve them: VC0, then VC1, then the others by weight, VC2 first (R395, R397). The caps of VC0 and VC1 are rates. (DESIGN CHOICE for the rotation's start, notes/assumptions/61.md) -/
def State.serviceOrder (s : State) (l : List Packet) : List Packet :=
  let of := fun (v : Nat) => inTurn (l.filter (fun (k : Packet) => k.vc.val == v))
  of 0 ++ of 1 ++ roundRobin (2 * l.length) ([2, 3, 4, 5, 6, 7].map (fun (v : Nat) => (s.getF (F.FAB_VCW_W (v - 2)) * 1024, 0, of v)))

/-- Packets that wait for a port are sent as far as ports allow. (DESIGN CHOICE, notes/assumptions/61.md) -/
def State.flushWaiting (s : State) : State :=
  let w := s.serviceOrder s.fab.waiting
  w.foldl (fun s k => s.emit k) { s with fab := { s.fab with waiting := [] } }

/-! Tables (R402, R418, R431). -/

def Region.empty : Region := ⟨false, false, 0, 0, false, 0, 0, 0, false, 0, []⟩
def FenceInst.zero (n : Nat) : FenceInst := ⟨n, 0, false⟩
def Fence.empty : Fence := ⟨0, 0, 0, FenceInst.zero 0, FenceInst.zero 1⟩

def State.region (s : State) (r : Nat) : Region := Assoc.get s.fab.regions r Region.empty
def State.setRegion (s : State) (r : Nat) (x : Region) : State := { s with fab := { s.fab with regions := Assoc.put s.fab.regions r x Region.empty } }
def State.fence (s : State) (n : Nat) : Fence := Assoc.get s.fab.fences n Fence.empty
def State.setFence (s : State) (n : Nat) (x : Fence) : State := { s with fab := { s.fab with fences := Assoc.put s.fab.fences n x Fence.empty } }

/-- The partition whose JOB_STEP a fence follows: the owner of its lowest requester for OUT, partition 0 otherwise. (DEDUCED, notes/assumptions/34.md) -/
def State.fencePart (s : State) (f : Fence) : Nat :=
  if f.kind = 1 then
    match (List.range 28).find? (fun b => bit f.mask b) with
    | some b => if b < 16 then s.partOf (b / 4) else if b < 20 then 0 else s.nicOwner.getD (b - 20) 0
    | none => 0
  else 0

/-- JOB_STEP of a partition's frame (R233). -/
def State.jobStep (s : State) (p : Nat) : Nat := s.getF (F.SCU_STEP_JOB_STEP ((s.diesOf p).headD 0))

/-- A fence completes once: its completion leaves for every SCU, and its triggers follow (R418, R420). -/
def State.fenceComplete (s : State) (n node : Nat) : State :=
  let s := { s with fab := { s.fab with doneFences := s.fab.doneFences ++ [n] } }
  [0, 1, 2, 3].foldl (fun s p => if s.diesOf p = [] then s else s.sendDep p 6 n (s.frameCyc p + 24) 0 node) s

/-- One transfer counts at a fence for JOB_STEP `step` (R418, R419). (DEDUCED, notes/assumptions/34.md) -/
def State.fenceCount (s : State) (n step node : Nat) : State :=
  let f := s.fence n
  let bump := fun (i : FenceInst) => ({ i with count := satAdd 24 i.count 1, done := i.done || decide (f.expect ≤ i.count + 1) } : FenceInst)
  if f.cur.step = step then
    let s := s.setFence n { f with cur := bump f.cur }
    if f.cur.done = false ∧ (bump f.cur).done = true then s.fenceComplete n node else s
  else if f.kind = 2 ∧ f.nxt.step = step then s.setFence n { f with nxt := bump f.nxt }
  else s

/-- Fence instances at cycle 0 of a frame with JOB_STEP `j`: a rerun keeps every instance; completions already reached are met from cycle 0 (R419). (DEDUCED, notes/assumptions/34.md) -/
def State.rollFences (s : State) (p j : Nat) (rerun : Bool) : State :=
  s.fab.fences.foldl (fun s x =>
    let f := x.2
    if f.kind = 0 ∨ s.fencePart f ≠ p then s
    else
      let cur := if rerun ∨ f.cur.step = j then f.cur else if f.nxt.step = j then f.nxt else FenceInst.zero j
      let nxt := if rerun ∨ (f.kind = 2 ∧ f.cur.step = j) then f.nxt else FenceInst.zero ((j + 1) % 2 ^ 32)
      let s := s.setFence x.1 { f with cur := cur, nxt := nxt }
      if cur.done then s.updPart p (fun y => { y with deps := y.deps ++ [⟨6, x.1, 0, 0, 0⟩] }) else s) s

/-! Transfers at the source (R394, R402, R409, R411, R421). -/

/-- The requester bit of a transfer in REQ_MASK (R431). -/
def Origin.reqBit : Origin → Option Nat
  | .mover d m _ _ => some (4 * d + m)
  | .pmc c _ => some (16 + c)
  | .nic c _ _ => some (20 + c)
  | .bulk c _ _ => some (20 + c)
  | _ => none

/-- The packets of a transfer (R392, R394). -/
def State.packets (s : State) (t : Tx) (retx : Bool) : List Packet :=
  (t.addrs.zipIdx).map (fun x => {
    port := 0, dst := t.dst, src := s.node t.part, op := t.op, vc := ⟨t.vc % 8, Nat.mod_lt _ (by decide)⟩, level := t.level, retx := retx,
    group := t.group, seq := t.seq, pkt := x.2, npkt := t.addrs.length, region := t.region, addr := x.1.1, key := t.key, step := t.step,
    hcrc := 0, pcrc := 0, payload := x.1.2 })

def isAtomic (op : Nat) : Bool := op == 5 || op == 6 || op == 0xA

/-- Whether a further transfer of an operation to a peer may be sent (R409). -/
def State.mayLaunch (s : State) (part dst op : Nat) : Bool :=
  let un := s.fab.txs.filter (fun t => t.part == part && t.dst == dst && t.sent && !t.answered)
  decide (un.length < 64) && (!(isAtomic op) || decide ((un.filter (fun t => isAtomic t.op)).length < 8))

def State.updTx (s : State) (part dst seq : Nat) (f : Tx → Tx) : State :=
  { s with fab := { s.fab with txs := s.fab.txs.map (fun t => if t.part == part && t.dst == dst && t.seq == seq then f t else t) } }

/-- Send every packet of a transfer. -/
def State.launch (s : State) (t : Tx) (retx : Bool) : State :=
  let s := (s.packets t retx).foldl (fun s k => s.emit k) s
  s.updTx t.part t.dst t.seq (fun t => { t with sent := true, ns := s.clk.ns })

/-- What refuses a transfer at its source: the destination, or its route (R391, R399). -/
def State.unreachable (s : State) (part dst : Nat) : Bool :=
  match levelOf (s.node part) dst with
  | none => true
  | some l => (s.partOfNode dst).isSome || !(s.fab.nodes.contains dst) || s.route l dst == 0

/-- A new transfer takes the next SEQ of its destination and is sent, or waits while 64 are unanswered (R394, R409). (DESIGN CHOICE, notes/assumptions/33.md) -/
def State.newTx (s : State) (part dst op vc group region key : Nat) (addrs : List (Nat × List Byte)) (org : Origin) : State :=
  let k := part * 2 ^ 28 + dst
  let seq := s.fab.seqs.get k 0
  let t : Tx := ⟨part, dst, seq, op, vc, (levelOf (s.node part) dst).getD 1, group, region, key, s.jobStep part, addrs, org, false, 0, 0, false⟩
  let go := s.mayLaunch part dst op && !(s.fab.txs.any (fun x => x.part == part && x.dst == dst && !x.sent))
  let s := { s with fab := { s.fab with seqs := s.fab.seqs.put k ((seq + 1) % 2 ^ 32) 0, txs := s.fab.txs ++ [t] } }
  if go then s.launch t false else s

/-- Transfers that wait for an answer to a peer are sent in order as far as R409 allows. -/
def State.launchWaiting (s : State) (part dst : Nat) : State :=
  let w := s.fab.txs.filter (fun t => t.part == part && t.dst == dst && !t.sent)
  (w.foldl (fun (acc : Bool × State) t => if acc.1 && acc.2.mayLaunch part dst t.op then (true, acc.2.launch t false) else (false, acc.2)) (true, s)).2

/-- The unanswered transfer that an answer from `src` to partition `part` names. -/
def State.openTx (s : State) (part src seq : Nat) : Option Tx :=
  s.fab.txs.find? (fun t => t.part == part && t.dst == src && t.seq == seq && t.sent && !t.answered)

/-- The first answer to a transfer: OUT fences that name its requester count it, unless it is a NACK (R411, R418). -/
def State.answerTx (s : State) (t : Tx) (nack : Bool) : State :=
  let s := s.updTx t.part t.dst t.seq (fun t => { t with answered := true })
  let s := match t.org.reqBit, nack with
    | some b, false => s.fab.fences.foldl (fun (s : State) (x : Nat × Fence) => if x.2.kind = 1 ∧ bit x.2.mask b = true then s.fenceCount x.1 t.step t.dst else s) s
    | _, _ => s
  s.launchWaiting t.part t.dst

/-- At cycle 0: a new frame forgets answered transfers of earlier frames and notes its SEQ counters; a rerun sets them back and sends again every transfer of the failed attempt (R421). -/
def State.rollSeqs (s : State) (p : Nat) (rerun : Bool) : State :=
  if rerun then
    let mine := s.fab.txs.filter (fun t => t.part == p && decide (((t.seq + 2 ^ 32 - s.fab.seq0.get (p * 2 ^ 28 + t.dst) 0) % 2 ^ 32) < 2 ^ 31))
    let back := s.fab.seqs.foldl (fun (m : Assoc Nat) x => if x.1 / 2 ^ 28 = p then Assoc.put m x.1 (s.fab.seq0.get x.1 0) 0 else m) s.fab.seqs
    let s := { s with fab := { s.fab with seqs := back } }
    mine.foldl (fun s t => (s.packets t true).foldl (fun s k => s.emit k) s) s
  else
    let s0 := s.fab.seqs.foldl (fun (m : Assoc Nat) x => if x.1 / 2 ^ 28 = p then Assoc.put m x.1 x.2 0 else m) s.fab.seq0
    { s with fab := { s.fab with seq0 := s0, txs := s.fab.txs.filter (fun t => t.part != p || !t.answered) } }

/-- In a rerun, a transfer whose SEQ the failed attempt used is the same transfer, which has been sent again already; its answers are kept (R421). -/
def State.newTxOnce (s : State) (part dst op vc group region key : Nat) (addrs : List (Nat × List Byte)) (org : Origin) : State :=
  let k := part * 2 ^ 28 + dst
  let seq := s.fab.seqs.get k 0
  match s.fab.txs.find? (fun t => t.part == part && t.dst == dst && t.seq == seq) with
  | some _ => { s with fab := { s.fab with seqs := s.fab.seqs.put k ((seq + 1) % 2 ^ 32) 0 } }
  | none => s.newTx part dst op vc group region key addrs org

/-- The packets of a remote write of (address, byte) runs: each up to 1,024 bytes with contiguous addresses (R394). -/
def cutPackets : Nat → List (Nat × List Byte) → List (Nat × List Byte)
  | 0, _ => []
  | _ + 1, [] => []
  | n + 1, (a, b) :: r =>
    if b.isEmpty then cutPackets n r
    else if 1024 < b.length then (a, b.take 1024) :: cutPackets n ((a + 1024, b.drop 1024) :: r)
    else match r with
      | (a', b') :: r' =>
        if a' = a + b.length ∧ b.length < 1024 then
          let k := 1024 - b.length
          cutPackets n ((a, b ++ b'.take k) :: (if b'.length ≤ k then r' else (a' + k, b'.drop k) :: r'))
        else (a, b) :: cutPackets n r
      | [] => [(a, b)]

/-- Lists of at most `k` elements. -/
def chunksOf {α : Type} (k : Nat) : Nat → List α → List (List α)
  | 0, _ => []
  | n + 1, l => if l.isEmpty then [] else l.take k :: chunksOf k n (l.drop k)

/-- The data of a remote descriptor that no transfer has taken yet. -/
def State.cutOf (s : State) (org : Origin) : List (Nat × List Byte) := ((s.fab.cut.find? (fun x => x.1 == org)).map (fun x => x.2)).getD []

/-- What no transfer has taken yet of a remote descriptor becomes `runs`. -/
def State.setCut (s : State) (org : Origin) (runs : List (Nat × List Byte)) : State :=
  let rest := s.fab.cut.filter (fun x => x.1 != org)
  { s with fab := { s.fab with cut := if runs.isEmpty then rest else rest ++ [(org, runs)] } }

/-- The next data of a remote descriptor go out as WRITE transfers of at most 256 packets, cut as if all its data came at once: while more is to come, the last transfer waits for it (R394, R402). The code refuses the write at the source. (DEDUCED, notes/assumptions/32.md) -/
def State.sendWrite (s : State) (part dst vc region : Nat) (runs : List (Nat × List Byte)) (more : Bool) (org : Origin) : Nat × State :=
  let r := s.region region
  if s.unreachable part dst then (C.FAB_NODE_UNREACHABLE, s)
  else if r.valid = false then (C.FAB_REGION, s)
  else
    let all := s.cutOf org ++ runs
    let total := (all.map (fun x => x.2.length)).foldl (· + ·) 0
    let ks := cutPackets (2 * all.length + total / 512 + 2) all
    let l := chunksOf 256 (ks.length + 1) ks
    let s := s.setCut org (if more then l.getLast?.getD [] else [])
    (0, (if more then l.dropLast else l).foldl (fun s l => s.newTxOnce part dst 1 vc 0xFF region r.key l org) s)

/-! Targets (R403, R405 to R413, R417). -/

/-- Refusals at a target are counted, and journalled once for each code in a frame (R403, R431). -/
def State.refuse (s : State) (part code src region : Nat) : State :=
  let s := if code = C.FAB_KEY then s.satF F.FAB_REFUSED_KEY 1 else s.satF F.FAB_REFUSED_OTHER 1
  if s.fab.refused.contains (part * 65536 + code) then s
  else { s.raiseP part C.FAB_REFUSED src 0 region with fab := { s.fab with refused := (part * 65536 + code) :: s.fab.refused } }

/-- Whether ADD covers whole addend units of ADDER ranges (R403). -/
def State.inAdder (s : State) (a n : Nat) : Bool :=
  (pieces64 a n).all (fun x => match s.t1Die x.1 with
    | some (d, _) => (s.adderAt d x.1).isSome && (s.adderAt d (x.1 + x.2 - 1)).isSome
    | none => false)

/-- Whether any byte lies in an ADDER range. -/
def State.meetsAdder (s : State) (a n : Nat) : Bool :=
  (List.range n).any (fun i => match s.t1Die (a + i) with
    | some (d, _) => (s.adderAt d (a + i)).isSome
    | none => false)

/-- The target checks of R403 for one operation on [a, a + n). -/
def State.targetCheck (s : State) (op src region key a n : Nat) : Option Nat :=
  let r := s.region region
  let perm := fun (b : Nat) => bit r.perm b
  if r.valid = false then some C.FAB_REGION
  else if r.key ≠ key then some C.FAB_KEY
  else if n ≠ 0 ∧ (a < r.base ∨ r.base + r.size < a + n) then some C.FAB_REGION
  else if (op = 2 ∧ perm 2 = false) ∨ (op = 1 ∧ perm 1 = false) ∨ ((op = 4 ∨ op = 5 ∨ op = 6) ∧ perm 0 = false) then some C.FAB_REGION
  else if (r.owned = true ∧ (op = 1 ∨ op = 4 ∨ op = 5 ∨ op = 6 ∨ op = 0xB) ∧ (r.held = false ∨ r.holder ≠ src)) ∨ (op = 0xB ∧ (r.held = false ∨ r.holder ≠ src)) then some C.FAB_NOT_OWNER
  else if (op = 4 ∧ (n % 64 ≠ 0 ∨ a % 64 ≠ 0 ∨ s.inAdder a n = false)) ∨ ((op = 5 ∨ op = 6) ∧ (a % 8 ≠ 0 ∨ s.meetsAdder a 8 = true)) then some C.FAB_NOT_ADDER
  else none

/-- Perform one checked operation: 0 or FAB_TARGET_ERROR, and the data it returns (R405 to R407). -/
def State.performOp (s : State) (part op a : Nat) (data : List Byte) : Nat × List Byte × State :=
  let bad := fun (c : Nat) (s : State) => (C.FAB_TARGET_ERROR, ([] : List Byte), s.raiseP part c 0 0 0)
  if op = 2 then
    match s.extRead 0xA0 a (fieldAt data 0 2) with
    | (0, b, s) => (0, b, s)
    | (c, _, s) => bad c s
  else if op = 1 ∨ op = 4 then
    match s.extWrite 0xA0 a data with
    | (0, s) => (0, [], s)
    | (c, s) => bad c s
  else
    match s.extRead 0xA0 a 8 with
    | (0, old, s) =>
      let o := leNat old
      if op = 5 then
        (if leNat (data.take 8) = o then
          (match s.extWrite 0xA0 a ((data.drop 8).take 8) with
            | (0, s) => (0, old, s)
            | (c, s) => bad c s)
        else (0, old, s))
      else
        (match s.extWrite 0xA0 a (leBytes 8 (o + leNat (data.take 8))) with
          | (0, s) => (0, old, s)
          | (c, s) => bad c s)
    | (c, _, s) => bad c s

/-- An answer to a transfer's source. -/
def State.sendAnswer (s : State) (k : Packet) (op : Nat) (payload : List Byte) (retx : Bool) : State :=
  s.emit { k with port := 0, dst := k.src, src := k.dst, op := op, retx := retx, pkt := 0, npkt := 1, region := 0, addr := 0, key := 0, payload := payload }

/-- DESIGN CHOICE, notes/assumptions/33.md. -/
def PeerIn.empty (part src : Nat) : PeerIn := ⟨part, src, 0, [], [], []⟩

def State.peer (s : State) (part src : Nat) : PeerIn := (s.fab.peers.find? (fun x => x.part == part && x.src == src)).getD (PeerIn.empty part src)

def State.setPeer (s : State) (x : PeerIn) : State :=
  { s with fab := { s.fab with peers := (s.fab.peers.filter (fun y => !(y.part == x.part && y.src == x.src))) ++ [x] } }

/-- What a SEQ is to a target (R410): 0 beyond the window, 1 complete, 2 new or open. -/
def PeerIn.class (x : PeerIn) (seq : Nat) : Nat :=
  let d := (seq + 2 ^ 32 - x.next) % 2 ^ 32
  if 2 ^ 31 ≤ d then 1 else if 64 ≤ d then 0 else if x.above.contains seq then 1 else 2

/-- H advances over complete SEQs. (DEDUCED, notes/assumptions/32.md) -/
def PeerIn.advance : Nat → PeerIn → PeerIn
  | 0, x => x
  | n + 1, x => if x.above.contains x.next then PeerIn.advance n { x with above := x.above.filter (fun y => y != x.next), next := (x.next + 1) % 2 ^ 32 } else x

/-- A SEQ is complete, with the answer stored for it; answers are kept for the last 64 SEQs (R410). -/
def PeerIn.complete (x : PeerIn) (seq op : Nat) (payload : List Byte) : PeerIn :=
  let x := PeerIn.advance 65 { x with above := x.above ++ [seq], open_ := x.open_.filter (fun o => o.1 != seq) }
  { x with answers := (x.answers.filter (fun a => decide ((x.next + 2 ^ 32 - a.1) % 2 ^ 32 ≤ 128))) ++ [(seq, op, payload)] }

/-- A transfer at the target is answered: complete, stored, and the answer sent. -/
def State.finishIn (s : State) (part : Nat) (k : Packet) (op : Nat) (payload : List Byte) : State :=
  (s.setPeer ((s.peer part k.src).complete k.seq op payload)).sendAnswer k op payload false

/-- A NACK's payload. -/
def nackBytes (code : Nat) : List Byte := leBytes 2 code ++ leBytes 6 0

/-- Packets received of an open transfer, each as PKT + 65,536 × its payload bytes. -/
def PeerIn.marks (x : PeerIn) (seq : Nat) : List Nat := ((x.open_.find? (fun o => o.1 == seq)).map (fun o => o.2)).getD []

/-- The PKTs received of an open transfer. -/
def PeerIn.got (x : PeerIn) (seq : Nat) : List Nat := (x.marks seq).map (fun m => m % 65536)

/-- The payload bytes received of an open transfer. -/
def PeerIn.bytes (x : PeerIn) (seq : Nat) : Nat := ((x.marks seq).map (fun m => m / 65536)).sum

def PeerIn.mark (x : PeerIn) (seq pkt len : Nat) : PeerIn :=
  { x with open_ := (x.open_.filter (fun o => o.1 != seq)) ++ [(seq, x.marks seq ++ [pkt + 65536 * len])] }

/-- Count an IN transfer that completes into a region whose entry names a fence (R418, R419). -/
def State.countIn (s : State) (part : Nat) (k : Packet) : State :=
  let r := s.region k.region
  if r.valid = false ∨ r.infEn = false then s
  else
    let d := (k.step + 2 ^ 32 - s.jobStep part) % 2 ^ 32
    if 2 ^ 31 ≤ d then s.raiseP part C.FAB_STALE_STEP k.src 0 k.step else s.fenceCount r.infence k.step k.src

/-- Whether a packet is an IN transfer two or more steps ahead (R419). (DEDUCED, notes/assumptions/32.md) -/
def State.tooEarly (s : State) (part : Nat) (k : Packet) : Bool :=
  let r := s.region k.region
  let d := (k.step + 2 ^ 32 - s.jobStep part) % 2 ^ 32
  r.valid && r.infEn && decide (2 ≤ d) && decide (d < 2 ^ 31)

/-- Drop a packet from two or more steps ahead (R419). -/
def State.dropEarly (s : State) (part : Nat) (k : Packet) : State :=
  let s := s.satF F.FAB_REFUSED_OTHER 1
  if s.fab.early then s else { s.raiseP part C.FAB_EARLY_STEP k.src 0 k.step with fab := { s.fab with early := true } }

/-- A packet that its receiver drops for a failed CRC (R394). -/
def State.dropCrc (s : State) (k : Packet) : State :=
  (s.satF (F.PORT_ERR_DROPPED k.port.val) 1).count 5 (8 * k.port.val + 5) 1

/-- Tokens (R412, R413): the RELEASE of a region by its holder passes the token to the first waiter. -/
def State.passToken (s : State) (r : Nat) : State :=
  let x := s.region r
  match x.waiters with
  | [] => s.setRegion r { x with held := false, holder := 0 }
  | w :: rest =>
    let s := s.setRegion r { x with held := true, holder := w.src, waiters := rest }
    match s.partOfNode w.dst with
    | some p => s.finishIn p w 0xC (nackBytes 0)
    | none => s

/-- RELEASEs that wait for their holder's earlier transfers take effect when H reaches SEQ − 1 (R413). -/
def State.settleReleases (s : State) : State :=
  let ready := s.fab.releases.filter (fun k => match s.partOfNode k.dst with
    | some p => (s.peer p k.src).next == k.seq
    | none => false)
  let s := { s with fab := { s.fab with releases := s.fab.releases.filter (fun k => !(ready.contains k)) } }
  ready.foldl (fun s k => match s.partOfNode k.dst with
    | some p => (s.passToken k.region).finishIn p k 8 []
    | none => s) s

/-! Gateways (R415 to R417). -/

/-- A gather's payload: each record behind its sub-header. -/
def Gather.payload (g : Gather) : List Byte :=
  g.recs.flatMap (fun r => leBytes 1 r.1 ++ leBytes 1 r.2.1 ++ leBytes 6 0 ++ leBytes 8 r.2.2.1 ++ r.2.2.2.1 ++ List.replicate (roundUp r.2.2.2.1.length 8 - r.2.2.2.1.length) 0)

/-- The key of a gather. -/
def Gather.key (g : Gather) : Nat × Nat × Nat × Nat := (g.ctx, g.dst, g.region, g.vc)

/-- Whether a BULK of a key is unanswered (R417). -/
def State.bulkOpen (s : State) (g : Gather) : Bool :=
  s.fab.txs.any (fun t => !t.answered && t.op == 0xD && t.dst == g.dst && t.region == g.region && t.vc == g.vc &&
    (match t.org with
      | .bulk c _ _ => c == g.ctx
      | _ => false))

/-- Update OPEN and HOLDING of both gateways (R431). -/
def State.gwStatus (s : State) : State :=
  [0, 1].foldl (fun s i =>
    let s := s.setF (F.GW_STATUS_OPEN i) (s.fab.gathers.filter (fun g => g.gw == i && !g.closed)).length
    s.setF (F.GW_STATUS_HOLDING i) (b2n (s.fab.gathers.any (fun g => g.gw == i && g.closed)))) s

/-- Send closed gathers whose key has no BULK unanswered, oldest first (R416, R417). -/
def State.sendGathers (s : State) : State :=
  let l := s.fab.gathers
  let s := l.foldl (fun s g =>
    if !g.closed || s.bulkOpen g || !(s.fab.gathers.contains g) then s
    else
      let s := { s with fab := { s.fab with gathers := s.fab.gathers.erase g } }
      let p := s.nicOwner.getD g.ctx 0
      let items := g.recs.map (fun r => (r.1, r.2.1, r.2.2.2.2.1, r.2.2.2.2.2))
      let s := s.newTx p g.dst 0xD g.vc 0xFF g.region (s.region g.region).key [(0, g.payload)] (.bulk g.ctx g.gw items)
      (s.satF (F.GW_STATUS_BULKS g.gw) 1).count 5 (304 + 8 * g.ctx + 6) 1) s
  s.gwStatus

/-- Close the gathers that a predicate selects (R416). -/
def State.closeGathers (s : State) (sel : Gather → Bool) : State :=
  ({ s with fab := { s.fab with gathers := s.fab.gathers.map (fun g => if sel g then { g with closed := true } else g) } }).sendGathers

/-- A record joins the open gather of its key; one that would not fit, or a 257th open gather, closes the gather it must (R416). -/
def State.joinGather (s : State) (ctx dst region vc level op size a : Nat) (data : List Byte) (resp num : Nat) : State :=
  let same := fun (g : Gather) => g.ctx == ctx && g.dst == dst && g.region == region && g.vc == vc && !g.closed
  let need := 16 + roundUp data.length 8
  let s := s.closeGathers (fun g => same g && decide (1024 < g.payload.length + need))
  let s := if (s.fab.gathers.any same) || decide ((s.fab.gathers.filter (fun g => !g.closed)).length < 256) then s
    else match s.fab.gathers.find? (fun g => !g.closed) with
      | some o => s.closeGathers (fun g => g == o)
      | none => s
  let r := (op, size, a, data, resp, num)
  let s := if s.fab.gathers.any same then
      { s with fab := { s.fab with gathers := s.fab.gathers.map (fun g => if same g then { g with recs := g.recs ++ [r] } else g) } }
    else { s with fab := { s.fab with gathers := s.fab.gathers ++ [⟨ctx % 2, ctx, dst, region, vc, level, s.clk.ns, [r], false⟩] } }
  s.gwStatus

/-! Ports (R385, R386, R401, R431). -/

/-- Packets held in the replay buffer of a port. -/
def State.replayOf (s : State) (p : Nat) : List Packet := s.fab.replay.filter (fun k => k.port.val == p)

/-- A port goes DOWN: its replay buffer is sent again on other ports with RETX set (R401). (DEDUCED, notes/assumptions/32.md) -/
def State.portDown (s : State) (p : Nat) : State :=
  if s.getF (F.PORT_STATUS_STATE p) ≠ portUp then s
  else
    let ks := s.replayOf p
    let s := s.setF (F.PORT_STATUS_STATE p) 3
    let s := { s with fab := { s.fab with downNs := s.fab.downNs.put p s.clk.ns 0, replay := s.fab.replay.filter (fun k => k.port.val != p), replayed := s.fab.replayed.put p 0 0 } }
    let s := ks.foldl (fun s k => s.emit { k with retx := true }) s
    (s.count 5 (8 * p + 6) 1).raise C.FAB_PORT_DOWN 5 1 p 0 (s.getF (F.PORT_STATUS_NEIGHBOUR p))

/-- A port enters FAILED (R386). -/
def State.portFailed (s : State) (p : Nat) : State :=
  ({ s.setF (F.PORT_STATUS_STATE p) 4 with fab := { s.fab with lanePend := s.fab.lanePend.filter (fun x => x != p) } }).raise
    C.FAB_PORT_FAILED 5 1 p 0 (s.getF (F.PORT_STATUS_NEIGHBOUR p))

/-- A failed lane is replaced by the port's spare lane, or the port fails for want of one (R386, R575). -/
def State.laneFailed (s : State) (p lane : Nat) : State :=
  let act := s.getF (F.PORT_STATUS_ACTIVE p)
  let bad := s.getF (F.PORT_STATUS_FAILED p)
  let s := s.setF (F.PORT_STATUS_FAILED p) (bad ||| 2 ^ lane)
  let s := s.dirty
  if bit act lane = false then s
  else
    let s := s.setF (F.PORT_STATUS_ACTIVE p) (setBits act lane 1 0)
    match (List.range 9).find? (fun k => k != lane && !(bit act k) && !(bit bad k)) with
    | none => s.portFailed p
    | some k =>
      if s.spareAuto 6 then
        { s.setF (F.PORT_STATUS_ACTIVE p) (setBits act lane 1 0 ||| 2 ^ k) with fab := { s.fab with lanePend := p :: s.fab.lanePend } }
      else s

/-- LANE_LIGHT_LOSS (R386). -/
def doLaneLightLoss (p lane : Nat) (s : State) : State :=
  if bit (s.getF (F.PORT_STATUS_ACTIVE p)) lane = false ∨ s.isUp p = false then s else (s.portDown p).laneFailed p lane

def execLaneLightLoss (port : Fin 32) (lane : Fin 9) (s : State) : Host.Outcome State Fault Refusal := .next (doLaneLightLoss port lane s)

/-- PORT_DOWN_SYMBOL (R386). -/
def doPortDownSymbol (p : Nat) (s : State) : State := s.portDown p

def execPortDownSymbol (port : Fin 32) (s : State) : Host.Outcome State Fault Refusal := .next (doPortDownSymbol port s)

/-- PORT_RETRAIN (R386). -/
def doPortRetrain (p : Nat) (s : State) : State := (s.portDown p).answer 0 0

def execPortRetrain (port : Fin 32) (s : State) : Host.Outcome State Fault Refusal := .next (doPortRetrain port s)

/-- Whether eight lanes carry data. -/
def State.lanesOk (s : State) (p : Nat) : Bool := ((List.range 9).filter (fun k => bit (s.getF (F.PORT_STATUS_ACTIVE p)) k)).length == 8

/-- The time at which a port that went DOWN and is not UP enters FAILED (R386). -/
def State.upLimit (s : State) (p : Nat) : Nat := s.fab.downNs.get p 0 + 10000000

/-- FAB_PORT_UP: a port that trains or is DOWN returns UP, unless 10 ms have passed since it went DOWN; packets that waited are sent (R386, R399). -/
def doFabPortUp (p : Nat) (s : State) : State :=
  let st := s.getF (F.PORT_STATUS_STATE p)
  if (st ≠ 1 ∧ st ≠ 3) ∨ s.lanesOk p = false then s
  else if st = 3 ∧ s.upLimit p < s.clk.ns then s.portFailed p
  else
    let s := if s.fab.lanePend.contains p then
        (({ s with fab := { s.fab with lanePend := s.fab.lanePend.filter (fun x => x != p) } }).raise C.FAB_LANE_SPARED 5 1 p 0 0).count 5 (8 * p + 7) 1
      else s
    ((s.setF (F.PORT_STATUS_STATE p) portUp).raise C.FAB_PORT_UP 5 1 p 0 0).flushWaiting

def execFabPortUp (port : Fin 32) (s : State) : Host.Outcome State Fault Refusal := .next (doFabPortUp port s)

/-- PORT_UP_TIMEOUT: a port still DOWN after 10 ms enters FAILED (R386). -/
def doPortUpTimeout (p : Nat) (s : State) : State :=
  if s.getF (F.PORT_STATUS_STATE p) = 3 then (s.toNs (s.upLimit p)).portFailed p else s

def execPortUpTimeout (port : Fin 32) (s : State) : Host.Outcome State Fault Refusal := .next (doPortUpTimeout port s)

/-- FAB_LINK_REPLAY: the oldest packet of a port is replayed at a cost in fabric nanoseconds; at its 16th replay the port goes DOWN with the lane at fault (R385, R386). -/
def doFabLinkReplay (p cost lane : Nat) (s : State) : State :=
  if s.isUp p = false ∨ s.replayOf p = [] then s
  else
    let n := s.fab.replayed.get p 0 + 1
    let s := { s with fab := { s.fab with replayed := s.fab.replayed.put p n 0 } }
    let s := ((s.satF (F.PORT_ERR_REPLAYS p) 1).count 5 (8 * p + 4) 1).raise C.FAB_LINK_REPLAY 5 1 p 0 cost
    if n < 16 then s else (s.portDown p).laneFailed p (lane % 9)

def execFabLinkReplay (port : Fin 32) (cost lane : Nat) (s : State) : Host.Outcome State Fault Refusal := .next (doFabLinkReplay port cost lane s)

/-- LINK_ACK_SYMBOL: the neighbour acknowledges the oldest `n` packets of a port (R385). -/
def doLinkAckSymbol (p n : Nat) (s : State) : State :=
  let (_, keep) := s.fab.replay.foldl (fun (acc : Nat × List Packet) k =>
    if k.port.val = p ∧ acc.1 ≠ 0 then (acc.1 - 1, acc.2) else (acc.1, acc.2 ++ [k])) (n, [])
  { s with fab := { s.fab with replay := keep, replayed := if n = 0 then s.fab.replayed else s.fab.replayed.put p 0 0 } }

def execLinkAckSymbol (port : Fin 32) (count : Nat) (s : State) : Host.Outcome State Fault Refusal := .next (doLinkAckSymbol port count s)

/-- VC_CREDIT_RETURN: the neighbour returns credit for a VC; packets that wait may be sent (R398). (DESIGN CHOICE, notes/assumptions/61.md) -/
def doVcCreditReturn (p vc n : Nat) (s : State) : State :=
  ({ s with fab := { s.fab with credit := s.fab.credit.put (p * 8 + vc) (s.fab.credit.get (p * 8 + vc) 0 + n) 0 } }).flushWaiting

def execVcCreditReturn (port : Fin 32) (vc : Fin 8) (n : Nat) (s : State) : Host.Outcome State Fault Refusal := .next (doVcCreditReturn port vc n s)

/-- FAB_PACKET_FORWARD: a packet for another node leaves on a port of its level and enters no internal port (R397, R399). -/
def doFabPacketForward (p : Nat) (k : Packet) (s : State) : State :=
  let s := s.count 5 (8 * p + 2) 1
  if k.crcOk = false then s.dropCrc { k with port := ⟨p % 32, Nat.mod_lt _ (by decide)⟩ }
  else if (s.partOfNode k.dst).isSome then s
  else s.emit k

def execFabPacketForward (port : Fin 32) (pkt : Packet) (s : State) : Host.Outcome State Fault Refusal := .next (doFabPacketForward port pkt s)

/-- FAB_LEVEL_SATURATED: a VC of a level has stalled for SAT_NS: counted, and raised once per level in each frame (R424). -/
def doFabLevelSaturated (level vc : Nat) (s : State) : State :=
  let ns := s.getF F.FAB_SAT_SAT_NS
  let s := (s.satF (F.CONG_STALL_COUNT level vc) ns).count 5 (256 + 8 * level + vc) ns
  if s.fab.saturated.contains level then s
  else { s.raise C.FAB_LEVEL_SATURATED 5 1 (level + 1) vc 0 with fab := { s.fab with saturated := level :: s.fab.saturated } }

def execFabLevelSaturated (level : Fin 3) (vc : Fin 8) (s : State) : Host.Outcome State Fault Refusal := .next (doFabLevelSaturated level vc s)

/-- Egress credits of a die's pool, in 240-byte flits (R422). -/
def egressPool (die : Nat) : Nat := if die < 4 then 2097152 / 240 else 1048576 / 240

/-- Egress credits of a level (1 to 3) that a die's flits hold. -/
def State.egressUsed (s : State) (die level : Nat) : Nat := s.fab.egress.get (die * 4 + level) 0

def State.setEgress (s : State) (die level n : Nat) : State := { s with fab := { s.fab with egress := s.fab.egress.put (die * 4 + level) n 0 } }

/-- `k` flits of a remote descriptor leave, each with a credit, and go on to their node (R394, R422); what its fault leaves behind goes too (R216). -/
def State.leave (s : State) (part die level node vc region k : Nat) (runs : List (Nat × List Byte)) (more : Bool) (org : Origin) : Nat × State :=
  (s.setEgress die level (s.egressUsed die level + k)).sendWrite part node vc region runs more org

/-- EGRESS_CREDIT_RETURN: the F-die returns `n` credits of level `level` + 1 to a die, 4 for the P-die (R422). -/
def doEgressCreditReturn (die level n : Nat) (s : State) : State := s.setEgress die (level + 1) (s.egressUsed die (level + 1) - n)

def execEgressCreditReturn (die : Fin 5) (level : Fin 3) (n : Nat) (s : State) : Host.Outcome State Fault Refusal := .next (doEgressCreditReturn die level n s)

/-- PORT_CTRLp.DISABLE: 1 turns the port OFF, 0 lets it train (R431). -/
def doPortDisableWrite (p v : Nat) (s : State) : State :=
  let off := bit v 0
  let s := s.setF (F.PORT_CTRL_DISABLE p) (b2n off)
  let st := s.getF (F.PORT_STATUS_STATE p)
  let s := if off then
      { (if st = 4 then s else s.setF (F.PORT_STATUS_STATE p) 0) with fab := { s.fab with replay := s.fab.replay.filter (fun k => k.port.val != p) } }
    else if st = 0 ∧ s.getF F.FAB_CTRL_ENABLE = 1 then s.setF (F.PORT_STATUS_STATE p) 1
    else s
  (if bit v 1 then s.portDown p else s).answer 0 0

def execPortDisableWrite (port : Fin 32) (val : Word) (s : State) : Host.Outcome State Fault Refusal := .next (doPortDisableWrite port val.toNat s)

/-- FAB_CTRL.ENABLE: 1 lets every port train, 0 turns every port OFF; a FAILED port stays FAILED (R386, R431). -/
def doFabEnableWrite (v : Nat) (s : State) : State :=
  let s := s.setF F.FAB_CTRL_ENABLE (v % 2)
  let s := (List.range 32).foldl (fun s p =>
    let st := s.getF (F.PORT_STATUS_STATE p)
    if st = 4 then s
    else if v % 2 = 0 then s.setF (F.PORT_STATUS_STATE p) 0
    else if st = 0 ∧ s.getF (F.PORT_CTRL_DISABLE p) = 0 then s.setF (F.PORT_STATUS_STATE p) 1
    else s) s
  (if v % 2 = 0 then { s with fab := { s.fab with replay := [] } } else s).answer 0 0

def execFabEnableWrite (val : Word) (s : State) : Host.Outcome State Fault Refusal := .next (doFabEnableWrite val.toNat s)

/-! Table access (R431). -/

/-- The words of an entry (KEY reads 0). -/
def State.tblEntry (s : State) (t i : Nat) : List Nat :=
  if t < 3 then [s.fab.routes.get (t * 65536 + i) 0, 0, 0, 0]
  else if t = 3 then
    let r := s.region i
    [b2n r.valid * 2 ^ 63 + b2n r.owned * 2 ^ 62 + r.perm * 2 ^ 59 + r.base, b2n r.infEn * 2 ^ 56 + r.infence * 2 ^ 44 + r.size, 0,
      r.waiters.length * 2 ^ 29 + b2n r.held * 2 ^ 28 + r.holder]
  else
    let f := s.fence i
    let inst := fun (x : FenceInst) => x.step * 2 ^ 32 + b2n x.done * 2 ^ 31 + x.count
    [f.expect * 2 ^ 40 + f.mask * 4 + f.kind, inst f.cur, if f.kind = 2 then inst f.nxt else 0, 0]

def tblSize (t : Nat) : Nat := if t < 3 then routeSize t else 4096

/-- Whether an entry meets the rules of its table (R431). (DEDUCED, notes/assumptions/34.md) -/
def tblOk (t : Nat) (w : List Nat) : Bool :=
  let d0 := w.getD 0 0
  if t < 3 then bits d0 0 32 &&& levelPorts (t + 1) == bits d0 0 32
  else if t = 3 then bits d0 0 52 % 64 == 0 && bits (w.getD 1 0) 0 42 % 64 == 0
  else
    let k := bits d0 0 2
    k == 0 || (k != 3 && decide (1 ≤ bits d0 40 24) && (k == 1 || bits d0 2 28 == 0))

/-- Install an entry; a region keeps its token except for a 0 written to HELD (R414, R431). (DEDUCED, notes/assumptions/34.md) -/
def State.tblPut (s : State) (t i : Nat) (w : List Nat) : State :=
  let d0 := w.getD 0 0
  let d1 := w.getD 1 0
  if t < 3 then { s with fab := { s.fab with routes := s.fab.routes.put (t * 65536 + i) (bits d0 0 32) 0 } }
  else if t = 3 then
    let r := s.region i
    s.setRegion i { r with valid := bit d0 63, owned := bit d0 62, perm := bits d0 59 3, base := bits d0 0 52, infEn := bit d1 56,
                           infence := bits d1 44 12, size := bits d1 0 42, key := w.getD 2 0 }
  else
    let f := s.fence i
    s.setFence i { f with expect := bits d0 40 24, mask := bits d0 2 28, kind := bits d0 0 2 }

/-- A 0 written to HELD frees the token and empties its queue, at once (R414, R431). -/
def State.tblHeld (s : State) (t i : Nat) (w : List Nat) : State :=
  if t = 3 ∧ bit (w.getD 3 0) 28 = false then s.setRegion i { s.region i with held := false, holder := 0, waiters := [] } else s

/-- TBL_DATA0 to TBL_DATA3. -/
def State.tblData (s : State) : List Nat := [0, 1, 2, 3].map (fun w => s.getF (F.TBL_DATA_DATA w))

/-- TABLE and INDEX of a write to TBL_SEL; a reserved TABLE leaves its field as it was (R15). -/
def State.tblSel (s : State) (v : Nat) : State :=
  let s := s.setF F.TBL_SEL_INDEX (bits v 0 16)
  if bits v 16 4 < 5 then s.setF F.TBL_SEL_TABLE (bits v 16 4) else s

/-- TBL_WRITE: the selected entry takes TBL_DATA, at the close of a running frame, or is refused (R39, R431). (DEDUCED, notes/assumptions/35.md) -/
def doTblWrite (v : Nat) (s : State) : State :=
  let s := s.tblSel v
  let t := s.getF F.TBL_SEL_TABLE
  let i := s.getF F.TBL_SEL_INDEX
  let w := s.tblData
  if tblSize t ≤ i ∨ tblOk t w = false then s.refused C.FAB_TABLE_INVALID 5 2 t
  else
    let s := s.tblHeld t i w
    (if s.noneRunning then s.tblPut t i w else { s with fab := { s.fab with tblDefer := s.fab.tblDefer ++ [(t, i, w)] } }).answer 0 0

def execTblWrite (val : Word) (s : State) : Host.Outcome State Fault Refusal := .next (doTblWrite val.toNat s)

/-- TBL_READ: the selected entry is copied into TBL_DATA (R431). -/
def doTblRead (v : Nat) (s : State) : State :=
  let s := s.tblSel v
  let t := s.getF F.TBL_SEL_TABLE
  let i := s.getF F.TBL_SEL_INDEX
  if tblSize t ≤ i then s.refused C.FAB_TABLE_INVALID 5 2 t
  else ((s.tblEntry t i).zipIdx.foldl (fun s x => s.setF (F.TBL_DATA_DATA x.2) x.1) s).answer 0 0

def execTblRead (val : Word) (s : State) : Host.Outcome State Fault Refusal := .next (doTblRead val.toNat s)

/-- Table writes that waited for the close of the frame (R39). (DEDUCED, notes/assumptions/35.md) -/
def State.applyTables (s : State) : State :=
  let l := s.fab.tblDefer
  l.foldl (fun s x => s.tblPut x.1 x.2.1 x.2.2) { s with fab := { s.fab with tblDefer := [] } }

/-! Set-up records (R425 to R428, R433, R434). -/

def setupBusy : Nat := 1

/-- An operation of the set-up unit starts. -/
def State.setupStart (s : State) (op : Nat) : State :=
  { s.setF F.FAB_SETUP_STATUS_BUSY 1 with fab := { s.fab with op := op } }

/-- An operation ends with a code, which is reported unless it is 0 (R516). -/
def State.setupEnd (s : State) (code : Nat) : State :=
  { (if code = 0 then s else s.raise code 5 2 0 0 0).hwSets [(F.FAB_SETUP_STATUS_BUSY, 0), (F.FAB_SETUP_STATUS_DONE, 1), (F.FAB_SETUP_STATUS_CODE, code)] with fab := { s.fab with op := 0, record := [] } }

/-- FAB_DISCOVER (R426). -/
def doFabDiscover (s : State) : State :=
  if s.allAtRest = false ∨ s.fab.op ≠ 0 then s.refused C.FAB_SETUP_STATE 5 2 0 else (s.setupStart 1).answer 0 0

def execFabDiscover (s : State) : Host.Outcome State Fault Refusal := .next (doFabDiscover s)

/-- DISCOVER_DONE: what the probes found, as (port, node reached through it, hops): the route tables and NEIGHBOUR are filled (R426). (DEDUCED, notes/assumptions/35.md) -/
def doDiscoverDone (links : List (Nat × Nat × Nat)) (s : State) : State :=
  if s.fab.op ≠ 1 then s
  else
    let ok := links.filter (fun x => s.isUp x.1)
    let s := (List.range 32).foldl (fun s p =>
      match ok.find? (fun x => x.1 == p && x.2.2 == 1) with
      | some x => s.setFs [(F.PORT_STATUS_NEIGHBOUR p, x.2.1), (F.PORT_STATUS_NBR_VALID p, 1)]
      | none => s.setFs [(F.PORT_STATUS_NEIGHBOUR p, 0), (F.PORT_STATUS_NBR_VALID p, 0)]) s
    let tab := ok.foldl (fun (m : Assoc Nat) x =>
      let l := portLevelOf x.1
      let k := (l - 1) * 65536 + routeIndex l x.2.1
      m.put k (m.get k 0 ||| 2 ^ x.1) 0) ([] : Assoc Nat)
    ({ s with fab := { s.fab with routes := tab } }.setF F.FAB_SETUP_STATUS_STATE 1).setupEnd 0

def execDiscoverDone (links : List (Nat × Nat × Nat)) (s : State) : Host.Outcome State Fault Refusal := .next (doDiscoverDone links s)

/-- A section of a record: offset and size. -/
def recSections (b : List Byte) : List (Nat × Nat) :=
  [(fieldAt b 12 4, 4 * fieldAt b 8 4), (fieldAt b 16 4, 25600), (fieldAt b 20 4, 131072), (fieldAt b 24 4, 32768), (fieldAt b 28 4, fieldAt b 32 4),
   (fieldAt b 36 4, 128), (fieldAt b 40 4, 16)]

/-- No two sections overlap. -/
def apart (l : List (Nat × Nat)) : Bool :=
  match l with
  | [] => true
  | x :: r => r.all (fun y => decide (x.1 + x.2 ≤ y.1) || decide (y.1 + y.2 ≤ x.1)) && apart r

/-- Check 1 of R427. -/
def recHeadOk (b : List Byte) : Bool :=
  fieldAt b 0 2 == 0x000A && zeroAt b 2 2 && zeroAt b 44 4 && fieldAt b 4 4 == b.length && decide (b.length ≤ 1048576)
    && decide (1 ≤ fieldAt b 8 4) && decide (fieldAt b 8 4 ≤ 65536) && fieldAt b 32 4 == 16384
    && (recSections b).all (fun x => x.1 % 64 == 0 && decide (128 ≤ x.1) && decide (x.1 + x.2 ≤ b.length)) && apart (recSections b)

/-- Check 2: the digest, with its own bytes taken as 0. -/
def recDigest (b : List Byte) : List Byte := sha3_512 (b.take 64 ++ List.replicate 64 0 ++ b.drop 128)

/-- A group table entry from its 256 bytes (R433). -/
def Group.ofBytes (e : List Byte) : Group :=
  ⟨fieldAt e 1 1, fieldAt e 2 1, fieldAt e 3 1, fieldAt e 4 4, fieldAt e 8 4, fieldAt e 12 4, bit (fieldAt e 16 4) 31, fieldAt e 16 4 % 2 ^ 28,
    fieldAt e 20 1, fieldAt e 21 1, fieldAt e 22 2 % 4096, fieldAt e 24 8, (List.range (fieldAt e 1 1)).map (fun i => fieldAt e (64 + 4 * i) 4)⟩

/-- The four words of a region entry in a record. -/
def recRegion (b : List Byte) (r : Nat) : List Nat := (List.range 4).map (fun w => fieldAt b (fieldAt b 20 4 + 32 * r + 8 * w) 8)

/-- Whether a group table entry meets R433 and R434, given the record's nodes and regions. -/
def groupOk (b e : List Byte) (nodes : List Nat) : Bool :=
  let g := Group.ofBytes e
  let reg := recRegion b g.stageRegion
  let base := bits (reg.getD 0 0) 0 52
  bits (fieldAt e 0 1) 1 7 == 0 && (bit (fieldAt e 0 1) 0 == false ||
   (decide (g.nchild ≤ 32) && decide (2 ≤ g.vc) && decide (g.vc ≤ 7) && decide (1 ≤ g.depth) && decide (g.depth ≤ 8)
    && decide (1 ≤ g.members) && decide (g.members ≤ 65536) && decide (g.rank < g.members) && decide (g.subtree ≤ g.members - g.rank)
    && bits (fieldAt e 16 4) 28 3 == 0 && decide (g.childIndex < 32) && bits (fieldAt e 22 2) 12 4 == 0 && g.stageAddr % 262144 == 0
    && zeroAt e 32 32 && zeroAt e 192 64 && zeroAt e (64 + 4 * g.nchild) (4 * (32 - g.nchild)) && (g.root == false || g.childIndex == 0)
    && (g.root || nodes.contains g.parent) && g.children.all (fun c => nodes.contains c)
    && bit (reg.getD 0 0) 63 && bit (reg.getD 0 0) 60 && decide (base ≤ g.stageAddr)
    && decide (g.stageAddr + (g.nchild + 1) * g.depth * 262144 ≤ base + bits (reg.getD 1 0) 0 42)))

/-- Ones in a mask of 32 ports. -/
def popcount32 (x : Nat) : Nat := ((List.range 32).filter (fun i => bit x i)).length

/-- Check 4 of R427: every entry meets the rules of its table. -/
def recTablesOk (b : List Byte) : Bool :=
  let nodes := (List.range (fieldAt b 8 4)).map (fun i => fieldAt b (fieldAt b 12 4 + 4 * i) 4)
  let ro := fieldAt b 16 4
  let parents := fieldAt b (fieldAt b 40 4) 4
  nodes.all (fun n => decide (n < 2 ^ 28))
    && (List.range 6400).all (fun i => tblOk (if i < 256 then 0 else if i < 4352 then 1 else 2) [fieldAt b (ro + 4 * i) 4])
    && (List.range 4096).all (fun r => tblOk 3 (recRegion b r) && (recRegion b r).getD 3 0 == 0)
    && (List.range 4096).all (fun i => tblOk 4 [fieldAt b (fieldAt b 24 4 + 8 * i) 8])
    && (List.range 64).all (fun g => groupOk b (slice b (fieldAt b 28 4 + 256 * g) 256) nodes)
    && decide (popcount32 parents ≤ 2) && (List.range 6).all (fun v => decide (1 ≤ bits (fieldAt b 56 8) (8 * v) 8)) && fieldAt b 48 8 % 256 == 0

/-- Check 3 of R427. -/
def State.nbrsOk (s : State) (b : List Byte) : Bool :=
  (List.range 32).all (fun p =>
    let n := fieldAt b (fieldAt b 36 4 + 4 * p) 4
    n == 0xFFFFFFFF || (s.isUp p && s.getF (F.PORT_STATUS_NBR_VALID p) == 1 && s.getF (F.PORT_STATUS_NEIGHBOUR p) == n))

/-- The code of the checks of R427 on a record, 0 for success. -/
def State.checkRecord (s : State) (b : List Byte) : Nat :=
  if recHeadOk b = false ∨ recDigest b ≠ slice b 64 64 then C.FAB_SETUP_INVALID
  else if s.nbrsOk b = false then C.FAB_SETUP_STALE
  else if recTablesOk b = false ∨ s.inT1 (fieldAt b 48 8) (256 * fieldAt b 8 4) = false then C.FAB_TABLE_INVALID
  else 0

/-- FAB_APPLY: reads and checks the record at FAB_SETUP_ADDR (R427). -/
def doFabApply (s : State) : State :=
  if s.allAtRest = false ∨ s.fab.op ≠ 0 then s.refused C.FAB_SETUP_STATE 5 2 0
  else
    let a := s.getF F.FAB_SETUP_ADDR_ADDR
    let n := if s.rangeOk a 8 then fieldAt (s.readMem a 8) 4 4 else 0
    if n < 128 ∨ 1048576 < n ∨ s.rangeOk a n = false then (s.setupEnd C.FAB_SETUP_INVALID).answer 0 0
    else
      let b := s.readMem a n
      let code := s.checkRecord b
      if code ≠ 0 then (s.setupEnd code).answer 0 0
      else ({ s.setupStart 2 with fab := { s.fab with op := 2, record := b } }).answer 0 0

def execFabApply (s : State) : Host.Outcome State Fault Refusal := .next (doFabApply s)

/-- APPLY_DONE: installs every table at once, clears the peer state area, fences and tokens (R427, R435). -/
def doApplyDone (s : State) : State :=
  if s.fab.op ≠ 2 then s
  else
    let b := s.fab.record
    let nodes := (List.range (fieldAt b 8 4)).map (fun i => fieldAt b (fieldAt b 12 4 + 4 * i) 4)
    let ro := fieldAt b 16 4
    let gst := fieldAt b 40 4
    let s := { s with fab := { s.fab with
      nodes := nodes, routes := [], regions := [], fences := [], groups := [], peers := [], releases := [], seqs := [], seq0 := [], txs := [], gathers := [],
      nbrs := (List.range 32).map (fun p => fieldAt b (fieldAt b 36 4 + 4 * p) 4), peerArea := fieldAt b 48 8,
      parentPorts := fieldAt b gst 4, childPorts := fieldAt b (gst + 4) 4, offsetNs := fieldAt b (gst + 8) 8 } }
    let s := (List.range 6400).foldl (fun s i =>
      let (t, k) := if i < 256 then (0, i) else if i < 4352 then (1, i - 256) else (2, i - 4352)
      s.tblPut t k [fieldAt b (ro + 4 * i) 4]) s
    let s := (List.range 4096).foldl (fun s r => s.tblPut 3 r (recRegion b r)) s
    let j := s.jobStep 0
    let s := (List.range 4096).foldl (fun s i =>
      let w := fieldAt b (fieldAt b 24 4 + 8 * i) 8
      if bits w 0 2 = 0 then s
      else s.setFence i ⟨bits w 40 24, bits w 2 28, bits w 0 2, FenceInst.zero j, FenceInst.zero ((j + 1) % 2 ^ 32)⟩) s
    let gs := (List.range 64).filterMap (fun g =>
      let e := slice b (fieldAt b 28 4 + 256 * g) 256
      if bit (fieldAt e 0 1) 0 then some (g, Group.ofBytes e) else none)
    let s := { s with fab := { s.fab with groups := gs } }
    let s := (s.extWrite 0xA0 s.fab.peerArea (List.replicate (256 * nodes.length) 0)).2
    let s := (List.range 6).foldl (fun s v => s.setF (F.FAB_VCW_W v) (bits (fieldAt b 56 8) (8 * v) 8)) s
    let s := (List.range 8).foldl (fun s k => s.setF (F.FAB_DIGEST_DIGEST k) (fieldAt b (64 + 8 * k) 8)) s
    let s := (List.range 64).foldl (fun s g => s.setFs [(F.GRP_SEQ_POSTED g, 0), (F.GRP_SEQ_COMPLETED g, 0)]) s
    let s := { s with coll := { s.coll with chunkNext := [], ups := [], downs := [], staged := [], combined := [], credited := [] } }
    (s.setF F.FAB_SETUP_STATUS_STATE 2).setupEnd 0

def execApplyDone (s : State) : Host.Outcome State Fault Refusal := .next (s.orWait doApplyDone)

/-- A group's entry as 256 bytes. -/
def Group.toBytes (g : Group) : List Byte :=
  leBytes 1 1 ++ leBytes 1 g.nchild ++ leBytes 1 g.vc ++ leBytes 1 g.depth ++ leBytes 4 g.members ++ leBytes 4 g.rank ++ leBytes 4 g.subtree
    ++ leBytes 4 (b2n g.root * 2 ^ 31 + g.parent) ++ leBytes 1 g.childIndex ++ leBytes 1 g.height ++ leBytes 2 g.stageRegion ++ leBytes 8 g.stageAddr
    ++ List.replicate 32 0 ++ (g.children.flatMap (leBytes 4)) ++ List.replicate (4 * (32 - g.children.length)) 0 ++ List.replicate 64 0

/-- The installed tables as a record, its sections in header order (R425, R428). (DEDUCED, notes/assumptions/35.md) -/
def State.makeRecord (s : State) : List Byte :=
  let f := s.fab
  let n := f.nodes.length
  let o1 := 128 + roundUp (4 * n) 64
  let o2 := o1 + 25600
  let o3 := o2 + 131072
  let o4 := o3 + 32768
  let o5 := o4 + 16384
  let o6 := o5 + 128
  let total := o6 + 64
  let vcw := (List.range 6).foldl (fun a v => a + s.getF (F.FAB_VCW_W v) * 2 ^ (8 * v)) 0
  let head := leBytes 2 0x000A ++ leBytes 2 0 ++ leBytes 4 total ++ leBytes 4 n ++ leBytes 4 128 ++ leBytes 4 o1 ++ leBytes 4 o2 ++ leBytes 4 o3
    ++ leBytes 4 o4 ++ leBytes 4 16384 ++ leBytes 4 o5 ++ leBytes 4 o6 ++ leBytes 4 0 ++ leBytes 8 f.peerArea ++ leBytes 8 vcw
  let nodes := f.nodes.flatMap (leBytes 4) ++ List.replicate (roundUp (4 * n) 64 - 4 * n) 0
  let routes := (List.range 6400).flatMap (fun i =>
    let k := if i < 256 then i else if i < 4352 then 65536 + (i - 256) else 131072 + (i - 4352)
    leBytes 4 (f.routes.get k 0))
  let regs := (List.range 4096).flatMap (fun r =>
    let w := s.tblEntry 3 r
    leBytes 8 (w.getD 0 0) ++ leBytes 8 (w.getD 1 0) ++ leBytes 8 (s.region r).key ++ leBytes 8 0)
  let fences := (List.range 4096).flatMap (fun i => leBytes 8 ((s.tblEntry 4 i).getD 0 0))
  let groups := (List.range 64).flatMap (fun g => match f.groups.find? (fun x => x.1 == g) with
    | some x => x.2.toBytes
    | none => List.replicate 256 0)
  let nbrs := (List.range 32).flatMap (fun p => leBytes 4 (f.nbrs.getD p 0xFFFFFFFF))
  let gst := leBytes 4 f.parentPorts ++ leBytes 4 f.childPorts ++ leBytes 8 f.offsetNs ++ List.replicate 48 0
  let body := nodes ++ routes ++ regs ++ fences ++ groups ++ nbrs ++ gst
  let d := sha3_512 (head ++ List.replicate 64 0 ++ body)
  head ++ d ++ body

/-- FAB_SAVE: accepted in every frame state (R428). -/
def doFabSave (s : State) : State :=
  if s.fab.op ≠ 0 then s.refused C.FAB_SETUP_STATE 5 2 0
  else ({ s.setupStart 3 with fab := { s.fab with op := 3, record := s.makeRecord } }).answer 0 0

def execFabSave (s : State) : Host.Outcome State Fault Refusal := .next (doFabSave s)

/-- FAB_SAVE_DONE: the record has been written at FAB_SETUP_ADDR (R428). -/
def doFabSaveDone (s : State) : State :=
  if s.fab.op ≠ 3 then s
  else
    let (c, s) := s.extWrite 0xA0 (s.getF F.FAB_SETUP_ADDR_ADDR) s.fab.record
    s.setupEnd (if c = 0 then 0 else C.FAB_SETUP_INVALID)

def execFabSaveDone (s : State) : Host.Outcome State Fault Refusal := .next (s.orWait doFabSaveDone)

/-- GATHER_TIMEOUT: GATHER_NS have passed since the first record of an open gather (R416); `key` numbers the open gathers of gateway `gw` from 0. -/
def doGatherTimeout (gw key : Nat) (s : State) : State :=
  match (s.fab.gathers.filter (fun g => g.gw == gw && !g.closed))[key]? with
  | none => s
  | some g => (s.toNs (g.ns + s.getF (F.GW_CTRL_GATHER_NS gw))).closeGathers (fun x => x == g)

def execGatherTimeout (gw : Fin 2) (key : Nat) (s : State) : Host.Outcome State Fault Refusal := .next (doGatherTimeout gw key s)

end Sys2Proof.Machine
end

