-- ==== Sys2Proof/Machine/Mover.lean ====
section
/-! DEFINITION. Movers and check-value units: descriptors, transfer order, checks, the timing of every unit, check values, retries, STEPVAL, and scrub of the scratchpad (R185, R190 to R216, R232, R624 to R626, R629). -/
namespace Sys2Proof.Machine

/-! Descriptors (R191, R192, R195). -/

/-- A mover descriptor (R192); `clean` says that its must-be-0 fields are 0. -/
structure Desc where
  kind : Nat
  esize : Nat
  ctx : Nat
  mode : Nat
  init : Bool
  final : Bool
  region : Nat
  vc : Nat
  src : Nat
  dst : Nat
  remote : Bool
  node : Nat
  c0 : Nat
  c1 : Nat
  c2 : Nat
  c3 : Nat
  idxOff : Nat
  ss1 : Int
  ss2 : Int
  ss3 : Int
  ds1 : Int
  ds2 : Int
  ds3 : Int
  cvOff : Nat
  clean : Bool
deriving DecidableEq, Repr

/-- Read a descriptor from its 128 bytes. -/
def Desc.parse (b : List Byte) : Desc where
  kind := fieldAt b 0 1
  esize := fieldAt b 1 1
  ctx := bits (fieldAt b 2 1) 0 4
  mode := bits (fieldAt b 2 1) 4 2
  init := bit (fieldAt b 3 1) 0
  final := bit (fieldAt b 3 1) 1
  region := fieldAt b 4 2
  vc := fieldAt b 6 1
  src := fieldAt b 8 8
  dst := fieldAt b 16 8
  remote := bit (fieldAt b 24 4) 31
  node := bits (fieldAt b 24 4) 0 28
  c0 := fieldAt b 28 4
  c1 := fieldAt b 32 4
  c2 := fieldAt b 36 4
  c3 := fieldAt b 40 4
  idxOff := fieldAt b 44 4
  ss1 := sint 64 (fieldAt b 48 8)
  ss2 := sint 64 (fieldAt b 56 8)
  ss3 := sint 64 (fieldAt b 64 8)
  ds1 := sint 64 (fieldAt b 72 8)
  ds2 := sint 64 (fieldAt b 80 8)
  ds3 := sint 64 (fieldAt b 88 8)
  cvOff := fieldAt b 96 4
  clean := bits (fieldAt b 2 1) 6 2 == 0 && bits (fieldAt b 3 1) 2 6 == 0 && zeroAt b 7 1 && decide (fieldAt b 8 8 < 2 ^ 52)
    && decide (fieldAt b 16 8 < 2 ^ 52) && bits (fieldAt b 24 4) 28 3 == 0 && zeroAt b 100 28

def kTranspose : Nat := 3
def kScan : Nat := 4

/-- Bytes of a TRANSPOSE element. -/
def Desc.elem (d : Desc) : Nat := 2 ^ d.esize

/-- Bytes of the transfer. -/
def Desc.total (d : Desc) : Nat := d.c0 * d.c1 * d.c2 * d.c3 * (if d.kind = kTranspose then d.elem else 1)

/-- GATHER or SCATTER. -/
def Desc.indexed (d : Desc) : Bool := d.kind == 1 || d.kind == 2

/-- The blocks a descriptor visits on its source (`dst` false) or destination side, in transfer order: (address, bytes) (R194). -/
def Desc.blocks (d : Desc) (idx : Nat → Nat) (dst : Bool) : List (Int × Nat) :=
  let base : Int := if dst then d.dst else d.src
  let (s1, s2, s3) := if dst then (d.ds1, d.ds2, d.ds3) else (d.ss1, d.ss2, d.ss3)
  (List.range d.c3).flatMap (fun (i3 : Nat) => (List.range d.c2).flatMap (fun (i2 : Nat) => (List.range d.c1).flatMap (fun (i1 : Nat) =>
    let o := base + (i2 : Int) * s2 + (i3 : Int) * s3
    if d.kind = kTranspose then
      (List.range d.c0).map (fun (i0 : Nat) => (if dst then o + Int.ofNat (i1 * d.elem) + (i0 : Int) * s1 else o + Int.ofNat (i0 * d.elem) + (i1 : Int) * s1, d.elem))
    else
      let k := if (d.kind = 1 ∧ dst = false) ∨ (d.kind = 2 ∧ dst = true) then idx i1 else i1
      [(o + (k : Int) * s1, d.c0)])))

/-- Contiguous blocks joined. -/
def joinRuns (l : List (Int × Nat)) : List (Int × Nat) :=
  l.foldr (fun x acc => match acc with
    | y :: r => if x.1 + (x.2 : Int) = y.1 then (x.1, x.2 + y.2) :: r else x :: acc
    | [] => [x]) []

/-- Whether the visited bytes of a TRANSPOSE destination lie in one SPM: the outermost addresses decide. -/
def Desc.dstInSpm (d : Desc) : Bool :=
  let span := fun (c : Nat) (st : Int) => ((min 0 (((c : Int) - 1) * st)), (max 0 (((c : Int) - 1) * st)))
  let (l1, h1) := span d.c0 d.ds1
  let (l2, h2) := span d.c2 d.ds2
  let (l3, h3) := span d.c3 d.ds3
  let lo := (d.dst : Int) + l1 + l2 + l3
  let hi := (d.dst : Int) + h1 + h2 + h3 + ((d.c1 * d.elem : Nat) : Int) - 1
  (List.range 4).any (fun n => decide ((spmBase n : Int) ≤ lo) && decide (hi < (spmBase (n + 1) : Int)))

/-- R195, with every reserved encoding and must-be-0 field of R192. (DEDUCED, notes/assumptions/16.md) -/
def Desc.ok (d : Desc) : Bool :=
  d.clean && decide (d.kind ≤ 4) && (if d.kind = kTranspose then decide (d.esize ≤ 3) else d.esize == 0)
  && decide (0 < d.c0) && decide (0 < d.c1) && decide (0 < d.c2) && decide (0 < d.c3) && decide (d.total ≤ 2 ^ 40)
  && (if d.remote then decide (d.region < 4096) && decide (2 ≤ d.vc) && decide (d.vc ≤ 7) else d.region == 0 && d.vc == 0)
  && (if d.indexed then d.idxOff % 4 == 0 else d.idxOff == 0)
  && (if d.kind = kScan then d.cvOff % 8 == 0 else d.cvOff == 0)
  && (d.kind != kTranspose || (decide (d.c0 ≤ 4096) && decide (d.c1 ≤ 4096) && d.dstInSpm))
  && (d.kind != kScan || (d.mode != 0 && !d.remote))

/-- An address of R194 as a device address; one that no row can hold when it is negative. -/
def devAddr (a : Int) : Nat := if a < 0 then 2 ^ 60 else a.toNat

/-- Whether [a, a + n) lies in the rows of R35, whatever is installed. -/
def rowsOk (a n : Nat) : Bool :=
  decide (a + n ≤ 0x8000000000) || (decide (t2Base ≤ a) && decide (a + n ≤ 0x70000000000)) || (decide (spmBase 0 ≤ a) && decide (a + n ≤ spmBase 4))

/-- R197 for one block. -/
def State.blockOk (s : State) (remote : Bool) (x : Int × Nat) : Bool :=
  decide (0 ≤ x.1) && (if remote then rowsOk (devAddr x.1) x.2 else s.rangeOk (devAddr x.1) x.2)

/-- Whether two lists of byte ranges share a byte. -/
def rangesMeet (l m : List (Int × Nat)) : Bool :=
  l.any (fun x => m.any (fun y => decide (x.1 < y.1 + (y.2 : Int)) && decide (y.1 < x.1 + (x.2 : Int))))

/-- The side that index entries place. -/
def Desc.placed (d : Desc) (dst : Bool) : Bool := (d.kind == 1 && !dst) || (d.kind == 2 && dst)

/-- Runs of a side in transfer order; a SCAN has no destination. -/
def Desc.runs (d : Desc) (idx : Nat → Nat) (dst : Bool) : List (Int × Nat) :=
  if d.kind = kScan ∧ dst = true then [] else joinRuns (d.blocks idx dst)

/-! Endpoints and units (R193, R207 to R213). -/

/-- The path class of an address seen from a die, and the die at its far end: 0 the die's SPM, 1 T1 it serves, 2 another A-die, 3 T2 (P-die), 4 T3 and 5 another package (F-die), 6 a P-die local window, which only P-die movers reach (R317), 9 none. -/
def pathOf (die : Nat) (remote : Bool) (a : Nat) : Nat × Nat :=
  if remote then (5, 5)
  else match rowOf a with
    | some .t1 => if a / 0x2000000000 = die then (1, die) else (2, a / 0x2000000000)
    | some .t2 => (3, 4)
    | some .t3 => (4, 5)
    | some (.spm n) => if n = die then (0, die) else (2, n)
    | none => if die = 4 ∧ sveSram ≤ a ∧ a < localBase 64 then (6, 4) else (9, 0)

/-- A unit of data: path class, far die, its (address, bytes) pieces, its bytes, and the run it lies in. -/
structure XUnit where
  cls : Nat
  y : Nat
  pieces : List (Nat × Nat)
  n : Nat
  lo : Nat
  hi : Nat
deriving DecidableEq, Repr

/-- Join a piece that crosses a Slot Link to the flit being filled: completed flits in reverse order, the last one open. -/
def fillFlit (acc : List XUnit) (cls y a n lo hi : Nat) : List XUnit :=
  let rest := fun (a n : Nat) (acc : List XUnit) =>
    (List.range (cdiv n flitBytes)).foldl (fun (acc : List XUnit) (i : Nat) =>
      let k := min flitBytes (n - i * flitBytes)
      ⟨cls, y, [(a + i * flitBytes, k)], k, lo, hi⟩ :: acc) acc
  match acc with
  | u :: r =>
    if u.cls = cls ∧ u.y = y ∧ u.n < flitBytes then
      let k := min n (flitBytes - u.n)
      rest (a + k) (n - k) ({ u with pieces := u.pieces ++ [(a, k)], n := u.n + k } :: r)
    else rest a n acc
  | [] => rest a n []

/-- The units of a list of runs: 128-byte granules in the SPM, 64-byte units in T1, 240-byte flits on a link (R213, R626). -/
def cutUnits (die : Nat) (remote : Bool) (runs : List (Int × Nat)) : List XUnit :=
  (runs.foldl (fun (acc : List XUnit) (x : Int × Nat) =>
    let a := devAddr x.1
    (segs 0x40000000 a x.2).foldl (fun (acc : List XUnit) (p : Nat × Nat) =>
      let (c, y) := pathOf die remote p.1
      if c = 0 then (segs 128 p.1 p.2).foldl (fun (acc : List XUnit) q => ⟨0, die, [q], q.2, a, a + x.2⟩ :: acc) acc
      else if c = 1 then (segs 64 p.1 p.2).foldl (fun (acc : List XUnit) q => ⟨1, die, [q], q.2, a, a + x.2⟩ :: acc) acc
      else if c = 9 then ⟨9, 0, [p], p.2, a, a + x.2⟩ :: acc
      else fillFlit acc c y p.1 p.2 a (a + x.2)) acc) []).reverse

/-! Slots that a descriptor needs (R211, R624). -/

/-- The link directions a run needs: away from the die, and back for reads of A-dies (R624). -/
def needDirs (die : Nat) (dst : Bool) (c y : Nat) : List (Nat × Nat) :=
  if c = 2 then (if dst then [(die, y)] else [(die, y), (y, die)])
  else if dst && (c == 3 || c == 4 || c == 5) then [(die, y)] else []

/-- Whether an image's tables give the requester a slot on a direction; a direction that the image does not carry is judged as the transfer runs (R624). -/
def slotGiven (b : Bank) (die req : Nat) (d : Nat × Nat) : Bool :=
  let (n, l, dir) := linkCarrier d.1 d.2
  n != die || b.links.any (fun t => t.link == l && t.dir == dir && t.slots.contains req)

/-- R624's judgement of one side of a descriptor against a bank. -/
def State.sideSlots (s : State) (b : Bank) (die req : Nat) (remote dst : Bool) (runs : List (Int × Nat)) : Bool :=
  runs.all (fun x => (segs 0x40000000 (devAddr x.1) x.2).all (fun p =>
    let (c, y) := pathOf die remote p.1
    if c = 1 then s.t1Owned b.hbm die req p.1 p.2 else (needDirs die dst c y).all (slotGiven b die req)))

/-- The first rule a descriptor breaks before it moves data, in the order of R625; 0 for none. -/
def State.descCode (s : State) (b : Bank) (die m : Nat) (d : Desc) : Nat :=
  let none' : Nat → Nat := fun i => i
  if !d.ok then C.MOV_DESC
  else
    let src := if d.placed false then [] else d.runs none' false
    let dst := if d.placed true then [] else d.runs none' true
    if !(src.all (s.blockOk false)) || !(dst.all (s.blockOk d.remote))
        || (d.indexed && decide (spmSize < d.idxOff + 4 * d.c1)) || (d.kind == kScan && decide (spmSize < d.cvOff + 8)) then C.MOV_ADDR
    else if (d.kind == 0 || d.kind == kTranspose) && !d.remote && rangesMeet src dst then C.MOV_OVERLAP
    else if !(s.sideSlots b die (die * 32 + m) false false src) || !(s.sideSlots b die (die * 32 + m) d.remote true dst) then C.MOV_NO_SLOT
    else 0

/-- A command's operands (R191): DESC_COUNT and DESC_OFF, or the code they break. -/
def moveOperands (o : List Byte) : Except Nat (Nat × Nat) :=
  let n := fieldAt o 1 1
  let off := fieldAt o 4 4
  if 3 < fieldAt o 0 1 ∨ n = 0 ∨ off % 128 ≠ 0 ∨ zeroAt o 2 2 = false ∨ zeroAt o 8 32 = false then .error C.MOV_DESC
  else if spmSize < off + 128 * n then .error C.MOV_ADDR
  else .ok (n, off)

/-- Descriptor `i` of a command as the SPM holds it. -/
def State.descAt (s : State) (die off i : Nat) : Desc := Desc.parse (s.readMem (spmBase die + off + 128 * i) 128)

/-- Check 8 for a MOVE against the bank it is loaded into (R237, R625). -/
def State.moveCode (s : State) (b : Bank) (die : Nat) (c : Cmd) : Nat :=
  match moveOperands c.operands with
  | .error e => e
  | .ok (n, off) => (List.range n).foldl (fun acc i => if acc = 0 then s.descCode b die (fieldAt c.operands 0 1) (s.descAt die off i) else acc) 0

/-- The check-value width of a POLY code in bytes; code 3 is reserved and acts as code 2. -/
def cvBytes (poly : Nat) : Nat := crcWidth poly / 8

/-! The flow of one descriptor (R213, R626). -/

/-- A source unit with the index granules issued before it. -/
structure SrcUnit where
  u : XUnit
  pre : List Nat
deriving DecidableEq, Repr

/-- Staged data: bytes, the cycle from which a unit that uses them is ready, the staging space they hold, and a read fault. -/
structure Staged where
  b : List Byte
  ready : Nat
  size : Nat
  bad : Option Nat
deriving DecidableEq, Repr

/-- A transfer under way: source units not requested, staged data, space held and space to be freed, the request cycle and what it has used, the SPM port's cycle and accesses in it, the request flit being filled (far die, slot, requests), destination units not sent, data bytes not sent and appended bytes sent, the cycle from which the data sent so far were ready, the last output's cycle, the completion so far, the running check value, bytes of addend elements not yet whole, bytes sent to another package, flits sent, and a fault (class, code, cycle). -/
structure Flow where
  items : List SrcUnit
  stage : List Staged
  occ : Nat
  frees : List (Nat × Nat)
  icyc : Nat
  used : Nat
  pcyc : Nat
  pused : Nat
  rq : Option (Nat × Nat × Nat)
  outs : List XUnit
  left : Nat
  app : Nat
  rdy : Nat
  last : Nat
  fin : Nat
  crc : Nat
  part : List (Nat × Byte)
  out : List (Nat × List Byte)
  flits : Nat
  fault : Option (Nat × Nat × Nat)
deriving DecidableEq, Repr

/-- A transfer at its start: the first request is made in cycle `c`; `left` data bytes go to the units `outs`. -/
def Flow.begin (items : List SrcUnit) (outs : List XUnit) (left crc c : Nat) : Flow :=
  ⟨items, [], 0, [], c, 0, 0, 0, none, outs, left, 0, 0, c, c, crc, [], [], 0, none⟩

/-- The parts of a transfer that do not change: partition, die, mover, requester, POLY (none without a CVU), the bytes appended after the data, the node, and the runs that the transfer writes. -/
structure Xfer where
  p : Nat
  die : Nat
  m : Nat
  req : Nat
  poly : Option Nat
  tail : Nat
  node : Nat
  dst : List (Int × Nat)
deriving DecidableEq, Repr

/-- Whether a transfer writes the byte at an address. -/
def Xfer.writes (x : Xfer) (a : Nat) : Bool := x.dst.any (fun r => decide (r.1 ≤ (a : Int)) && decide ((a : Int) < r.1 + (r.2 : Int)))

def stageBytes : Nat := 65536

def stageSize (u : XUnit) : Nat := if u.cls = 0 then 128 else if u.cls = 1 then 64 else u.n

/-- Take freed space until `n` bytes fit; none while the space that would do is not freed yet. -/
def fitStage : List (Nat × Nat) → Nat → Nat → Nat → Option (Nat × Nat × List (Nat × Nat))
  | fr, occ, cyc, n =>
    match fr with
    | [] => if occ + n ≤ stageBytes then some (occ, cyc, []) else none
    | (c, k) :: r => if occ + n ≤ stageBytes then some (occ, cyc, (c, k) :: r) else fitStage r (occ - k) (max cyc c) n

/-- The cycle in which the next source unit can be requested, with the space held then. -/
def Flow.nextReq (f : Flow) : Option (Nat × Nat × List (Nat × Nat)) :=
  match f.items with
  | [] => none
  | x :: _ => fitStage f.frees f.occ f.icyc (stageSize x.u)

/-- One more T1 unit requested: 32 a cycle (R626). -/
def Flow.spend (f : Flow) : Flow := if 32 ≤ f.used then { f with icyc := f.icyc + 1, used := 1 } else { f with used := f.used + 1 }

/-- The cycle, from `t` on, in which the mover's SPM port takes one more granule: 16 a cycle, reads and writes together (R178, R213). -/
def Flow.port (f : Flow) (t : Nat) : Nat × Flow :=
  if f.pcyc < t then (t, { f with pcyc := t, pused := 1 })
  else if f.pused < 16 then (f.pcyc, { f with pused := f.pused + 1 })
  else (f.pcyc + 1, { f with pcyc := f.pcyc + 1, pused := 1 })

/-- The state with the memory of another: a unit of data that faults writes nothing (R216). -/
def State.withMem (s s0 : State) : State := { s with mem := s0.mem, undef := s0.undef, hist := s0.hist, ecc := s0.ecc, poison := s0.poison }

/-- Read one piece of a unit at a serving A-die, requested at it in cycle `t`: after bytes `acc`, whose last came in a cycle, and a fault. -/
def servePiece (y port tag req t : Nat) (acc : List Byte × Nat × Option Nat × State) (p : Nat × Nat) : List Byte × Nat × Option Nat × State :=
  let (b, r, bad, s) := acc
  if bad.isSome then acc
  else match rowOf p.1 with
    | some (.spm _) =>
      if s.spmDegraded y then (b, max r t, some C.SPM_DEGRADED, s)
      else
        let (ovr, s) := s.spmRead y port tag t (p.1 - spmBase y) p.2
        if ovr then (b, max r t, some C.SPM_BANK_OVERLOAD, s)
        else if s.spmPoison y (p.1 - spmBase y) p.2 then (b, max r (t + 32), some C.SPM_UNCORRECTABLE, (s.noteDouble y [(p.1 - spmBase y, p.2)]).noteSpm y C.SPM_UNCORRECTABLE)
        else (b ++ s.spmData y t (p.1 - spmBase y) p.2, max r (t + 32), none, s)
    | _ =>
      (segs 64 p.1 p.2).foldl (fun (acc : List Byte × Nat × Option Nat × State) q =>
        let (b, r, bad, s) := acc
        if bad.isSome then acc
        else match (if (s.adderAt y q.1).isSome then s.adderRead y req q.1 q.2 t else s.t1Read y req q.1 q.2 t) with
          | (.noSlot, s) => (b, max r t, some C.MOV_NO_SLOT, s)
          | (.bad c, s) => (b, max r c, some C.T1_UNCORRECTABLE, s)
          | (.done c d, s) => (b ++ d, max r c, none, s)) (b, r, none, s)

/-- Read the pieces of a unit at a serving A-die, requested at it in cycle `t`: bytes, the cycle their last data arrive, and a fault. -/
def State.serveRead (s : State) (y port tag req t : Nat) (l : List (Nat × Nat)) : List Byte × Nat × Option Nat × State :=
  l.foldl (servePiece y port tag req t) ([], t, none, s)

/-- Write one piece at an A-die in cycle `t`: the cycle in which the last write completes, a fault, and what waits for the rest of an addend element. -/
def serveStore (y port tag req t u : Nat) (cover : Nat → Bool) (acc : Nat × Option Nat × List (Nat × Byte) × State) (p : Nat × List Byte) : Nat × Option Nat × List (Nat × Byte) × State :=
  let (r, bad, part, s) := acc
  if bad.isSome then acc
  else match rowOf p.1 with
    | some (.spm _) =>
      if s.spmDegraded y then (r, some C.SPM_DEGRADED, part, s)
      else
        let (ovr, s) := s.spmWrite y port tag t u (p.1 - spmBase y) p.2
        (max r (16 * (t / 16 + 1)), if ovr then some C.SPM_BANK_OVERLOAD else none, part, s)
    | _ =>
      (segs 64 p.1 p.2.length).foldl (fun (acc : Nat × Option Nat × List (Nat × Byte) × State) q =>
        let (r, bad, part, s) := acc
        if bad.isSome then acc
        else
          let d := (p.2.drop (q.1 - p.1)).take q.2
          if (s.adderAt y q.1).isSome then
            (match s.adderWrite y req q.1 d t cover part with
            | (.done c _, none, part, s) => (max r c, none, part, s)
            | (_, some e, part, s) => (r, some e, part, s)
            | (.noSlot, none, part, s) => (r, some C.MOV_NO_SLOT, part, s)
            | (.bad c, none, part, s) => (max r c, some C.T1_UNCORRECTABLE, part, s))
          else match s.t1Write y req q.1 d t with
            | (.done c _, s) => (max r c, none, part, s)
            | (.bad c, s) => (max r c, some C.T1_UNCORRECTABLE, part, s)
            | (.noSlot, s) => (r, some C.MOV_NO_SLOT, part, s)) (r, none, part, s)

/-- Write the pieces of a unit at an A-die in cycle `t`: all of it, or nothing when one piece faults (R216). -/
def State.serveWrite (s : State) (y port tag req t u : Nat) (cover : Nat → Bool) (part : List (Nat × Byte)) (l : List (Nat × List Byte)) : Nat × Option Nat × List (Nat × Byte) × State :=
  let r := l.foldl (serveStore y port tag req t u cover) (t, none, part, s)
  if r.2.1.isSome then (r.1, r.2.1, part, r.2.2.2.withMem s) else r

/-- Stage what a request answered. -/
def Flow.put (f : Flow) (size : Nat) (b : List Byte) (r : Nat) (bad : Option Nat) : Flow := { f with stage := f.stage ++ [⟨b, r, size, bad⟩] }

/-- The slot of the request flit that carries one more read request to die y, made in cycle `t`: the flit being filled when it has not left and has room for it (24 requests), or a new one (R626). -/
def flowAsk (x : Xfer) (y t : Nat) (f : Flow) (s : State) : Option (Nat × Nat) × Flow × State :=
  match f.rq with
  | some (y', c, k) =>
    if y' = y ∧ t ≤ c ∧ k < 24 then (some (c, k), { f with rq := some (y, c, k + 1) }, s)
    else (match s.sendFlit x.p x.die y x.req t with
      | (none, s) => (none, f, s)
      | (some c, s) => (some (c, 0), { f with rq := some (y, c, 1) }, s))
  | none => match s.sendFlit x.p x.die y x.req t with
    | (none, s) => (none, f, s)
    | (some c, s) => (some (c, 0), { f with rq := some (y, c, 1) }, s)

/-- An index granule is read through the mover's port before the units that use it (R213). -/
def flowIndex (x : Xfer) (acc : Flow × State) (g : Nat) : Flow × State :=
  let (c, f) := acc.1.port acc.1.icyc
  let f := { f with icyc := c }
  let (ovr, s) := acc.2.spmRead x.die (4 + x.m) 0 c g 128
  (if ovr ∧ f.fault.isNone then { f with fault := some (2, C.SPM_BANK_OVERLOAD, c) } else f, s)

/-- One piece of a T2, T3 or window source, after a code and bytes. -/
def flowTier (x : Xfer) (cls t : Nat) (acc : Nat × List Byte × State) (p : Nat × Nat) : Nat × List Byte × State :=
  if acc.1 ≠ 0 then acc
  else if cls = 6 then
    (let (c, d, s) := acc.2.2.windowRead p.1 p.2
    (c, acc.2.1 ++ d, s))
  else
    let (c, _, d, s) := acc.2.2.extReadFlit x.req p.1 p.2 t
    (c, acc.2.1 ++ d, s)

/-- Request the next source unit (R213, R626). -/
def flowRequest (x : Xfer) (f : Flow) (s : State) : Flow × State :=
  match f.items, f.nextReq with
  | it :: rest, some (occ, cyc, frees) =>
    let f := if f.icyc < cyc then { f with icyc := cyc, used := 0 } else f
    let f := { f with items := rest, occ := occ + stageSize it.u, frees := frees }
    let (f, s) := it.pre.foldl (flowIndex x) (f, s)
    let z := stageSize it.u
    if it.u.cls = 0 then
      let (t, f) := f.port f.icyc
      let (b, r, bad, s) := s.serveRead x.die (4 + x.m) 0 x.req t it.u.pieces
      (({ f with icyc := t } : Flow).put z b (r + 1) bad, s)
    else if it.u.cls = 1 then
      let f := f.spend
      let (b, r, bad, s) := s.serveRead x.die (4 + x.m) 0 x.req f.icyc it.u.pieces
      (f.put z b (r + 1) bad, s)
    else if it.u.cls ≠ 6 ∧ it.u.y ≠ x.die ∧ !(s.linkUp x.die it.u.y && s.linkUp it.u.y x.die) then (f.put z [] f.icyc (some C.MOV_RETRY_EXHAUSTED), s)
    else if it.u.cls = 2 then
      match flowAsk x it.u.y f.icyc f s with
      | (none, f, s) => (f.put z [] f.icyc (some C.MOV_NO_SLOT), s)
      | (some (c, k), f, s) =>
        let (b, r, bad, s) := s.serveRead it.u.y 8 (x.req + 256 * (c * 64 + 32 + k)) x.req (c + 24) it.u.pieces
        match s.sendFlit x.p it.u.y x.die x.req (r + 1) with
        | (none, s) => (f.put z [] (r + 1) (some C.MOV_NO_SLOT), s)
        | (some c', s) => (f.put z b (c' + 25) bad, s)
    else
      let (code, b, s) := it.u.pieces.foldl (flowTier x it.u.cls f.icyc) (0, [], s)
      (f.put z b (f.icyc + 1) (if code = 0 then none else some code), s)
  | _, _ => (f, s)

/-- Take `n` bytes from the staged data: the bytes, the cycle they are ready, the space that is freed, what is left, and a read fault; none while too little is staged. -/
def takeStage : List Staged → Nat → List Byte → Nat → Nat → Option (List Byte × Nat × Nat × List Staged × Option (Nat × Nat))
  | l, 0, acc, r, fr => some (acc, r, fr, l, none)
  | [], _ + 1, _, _, _ => none
  | x :: l, n + 1, acc, r, fr =>
    match x.bad with
    | some c => some (acc, max r x.ready, fr, x :: l, some (c, x.ready))
    | none =>
      if x.b.length ≤ n + 1 then takeStage l (n + 1 - x.b.length) (acc ++ x.b) (max r x.ready) (fr + x.size)
      else some (acc ++ x.b.take (n + 1), max r x.ready, fr, { x with b := x.b.drop (n + 1) } :: l, none)

/-- The class of a fault as the transfer runs. -/
def runFault (f : Flow) (code cyc : Nat) : Flow := { f with fault := some (2, code, cyc) }

/-- Cut bytes along the pieces of a unit. -/
def alongPieces : List (Nat × Nat) → List Byte → List (Nat × List Byte)
  | [], _ => []
  | (a, n) :: r, b => (a, b.take n) :: alongPieces r (b.drop n)

/-- Feed the CVU of a context. -/
def Xfer.feed (x : Xfer) (crc : Nat) (b : List Byte) : Nat :=
  match x.poly with
  | none => crc
  | some p => crcFeed p crc b

/-- Store the pieces of a unit in T2, T3 or a P-die window, as they arrive in cycle `t`: the first code met. -/
def flowStore (x : Xfer) (cls t : Nat) (acc : Nat × State) (p : Nat × List Byte) : Nat × State :=
  if acc.1 ≠ 0 then acc
  else if cls = 6 then (0, acc.2.windowStore p.1 p.2)
  else
    let (c, _, s) := acc.2.extWriteFlit x.req p.1 p.2 t x.writes []
    (c, s)

/-- Send the next destination unit, whose data are `b`, ready in cycle `r`; it frees `fr` bytes of staging (R213, R214). -/
def flowSend (x : Xfer) (u : XUnit) (b : List Byte) (r fr : Nat) (f : Flow) (s : State) : Flow × State :=
  let l := alongPieces u.pieces b
  if u.cls ≤ 1 then
    let (t, f) := if u.cls = 0 then f.port (max r f.last) else (max r f.last, f)
    match s.serveWrite x.die (4 + x.m) 1 x.req t t x.writes f.part l with
    | (_, some e, _, s) => (runFault { f with last := t } e t, s)
    | (c, none, part, s) => ({ f with last := t, part := part, fin := max f.fin c, frees := f.frees ++ [((if u.cls = 1 then c - 16 else t) + 1, fr)] }, s)
  else
    let t := max r f.last
    let f := { f with last := t }
    if u.cls = 9 then (runFault f C.MOV_ADDR t, s)
    else if u.cls = 6 ∨ u.y = x.die then
      let (e, s) := l.foldl (flowStore x u.cls t) (0, s)
      if e ≠ 0 then (runFault f e t, s) else ({ f with fin := max f.fin t, frees := f.frees ++ [(t + 1, fr)] }, s)
    else if s.linkUp x.die u.y = false then (runFault f C.MOV_RETRY_EXHAUSTED t, s)
    else match s.sendData x.p x.die u.y x.req t with
      | (.noSlot, s) => (runFault f C.MOV_NO_SLOT t, s)
      | (.lost c, s) => (runFault f C.MOV_RETRY_EXHAUSTED c, s)
      | (.sent c, s) =>
        let f := { f with flits := f.flits + 1, last := c, frees := f.frees ++ [(c + 1, fr)] }
        if u.cls = 2 then
          (match s.serveWrite u.y 8 (x.req + 256 * (c * 64 + f.flits % 32)) x.req (c + 24) c x.writes f.part l with
          | (w, some e, _, s) => (runFault f e (max w (c + 24) + 24), s)
          | (w, none, part, s) => ({ f with part := part, fin := max f.fin (w + 24) }, s))
        else if u.cls = 5 then ({ f with fin := max f.fin (c + 48), out := f.out ++ l }, s)
        else
          let (e, s') := l.foldl (flowStore x u.cls (c + 24)) (0, s)
          if e ≠ 0 then (runFault f e (c + 48), s'.withMem s) else ({ f with fin := max f.fin (c + 48) }, s')

/-- One event of a transfer: the earlier of the next request and the next unit that is ready; the appended value follows the last data byte, ready 4 cycles after it (R205, R213). (DEDUCED, notes/assumptions/16.md) -/
def flowStep (x : Xfer) (f : Flow) (s : State) : Flow × State :=
  if f.fault.isSome then (f, s)
  else match f.outs with
    | [] => flowRequest x f s
    | u :: rest =>
      let k := min u.n f.left
      match takeStage f.stage k [] 0 0 with
      | none => if f.nextReq.isSome then flowRequest x f s else (runFault f C.MOV_DESC f.last, s)
      | some (b, r, fr, st, bad) =>
        let r := max r f.rdy
        if (f.nextReq.any (fun q => decide (q.2.1 < max r f.last))) = true ∧ bad.isNone then flowRequest x f s
        else
          let crc := x.feed f.crc b
          let f := { f with crc := crc }
          match bad with
          | some (c, w) => (runFault f c w, s)
          | none =>
            let v := ((leBytes x.tail (crcFinal (x.poly.getD 0) crc)).drop f.app).take (u.n - k)
            flowSend x u (b ++ v) (if k = u.n then r else r + 4) fr { f with stage := st, outs := rest, left := f.left - k, app := f.app + (u.n - k), rdy := r } s

/-- Run a transfer for at most `k` events. -/
def flowRun (x : Xfer) : Nat → Flow → State → Flow × State
  | 0, f, s => (f, s)
  | k + 1, f, s => if f.fault.isSome ∨ (f.outs.isEmpty ∧ f.items.isEmpty) then (f, s) else (let (f, s) := flowStep x f s; flowRun x k f s)

/-- SCAN feeds every staged byte as it arrives and writes nothing (R204, R214). -/
def scanRun (x : Xfer) : Nat → Flow → State → Flow × State
  | 0, f, s => (f, s)
  | k + 1, f, s =>
    match f.stage with
    | st :: r =>
      if (f.nextReq.any (fun q => decide (q.2.1 < st.ready))) then (let (f, s) := flowRequest x f s; scanRun x k f s)
      else (match st.bad with
        | some c => (runFault f c st.ready, s)
        | none => scanRun x k { f with stage := r, crc := x.feed f.crc st.b, fin := max f.fin (st.ready - 1), frees := f.frees ++ [(st.ready, st.size)] } s)
    | [] => if f.items.isEmpty ∨ f.fault.isSome then (f, s) else (let (f, s) := flowRequest x f s; scanRun x k f s)

/-! Index entries (R194, R196, R197, R629). -/

/-- Entry i of the index list, as an access of key `k` reads it. -/
def State.idxAt (s : State) (die k : Nat) (d : Desc) (i : Nat) : Nat := s.natAt k (spmBase die + d.idxOff + 4 * i) 4

/-- The transfer position of the first indexed block that cannot be placed, with the code: outside memory, or overlapping the other side (R196, R197). -/
def State.badBlock (s : State) (idx : Nat → Nat) (d : Desc) : Option (Nat × Nat) :=
  if !d.indexed then none
  else
    let dstSide := d.kind == 2
    let other := d.runs idx (!dstSide)
    ((d.blocks idx dstSide).zipIdx).findSome? (fun x =>
      if !(s.blockOk (d.remote && dstSide) x.1) then some (x.2 * d.c0, C.MOV_ADDR)
      else if !d.remote && rangesMeet [x.1] other then some (x.2 * d.c0, C.MOV_OVERLAP)
      else none)

/-- Cut a run list after `n` bytes. -/
def takeRuns : List (Int × Nat) → Nat → List (Int × Nat)
  | [], _ => []
  | (a, k) :: r, n => if n = 0 then [] else if k ≤ n then (a, k) :: takeRuns r (n - k) else [(a, n)]

/-- A run list without its first `n` bytes. -/
def dropRuns : List (Int × Nat) → Nat → List (Int × Nat)
  | [], _ => []
  | (a, k) :: r, n => if k ≤ n then dropRuns r (n - k) else (a + (n : Int), k - n) :: r

/-- The index granules (SPM offsets) that a unit starting at transfer position `pos` needs first: those of its blocks' entries that no earlier unit named. -/
def Desc.idxGran (d : Desc) (pos n : Nat) : List Nat :=
  if !d.indexed ∨ d.c0 = 0 then []
  else
    let g := fun (k : Nat) => (d.idxOff + 4 * k) / 128 * 128
    let first := if pos % d.c0 = 0 then pos / d.c0 else pos / d.c0 + 1
    let ks := (List.range ((pos + n - 1) / d.c0 + 1 - first)).map (fun i => first + i)
    (ks.filter (fun k => decide (k < d.c1) && (k == 0 || g k != g (k - 1)))).map g

/-- Source units with the index granules before them. -/
def Desc.srcUnits (d : Desc) (us : List XUnit) (pos : Nat) : List SrcUnit :=
  ((us.foldl (fun (acc : Nat × List SrcUnit) u => (acc.1 + u.n, ⟨u, d.idxGran acc.1 u.n⟩ :: acc.2)) (pos, [])).2).reverse

/-! Running a descriptor. -/

/-- How a descriptor ended: done in a cycle; outside the promise, not before a cycle; without credit after some flits; or with a fault (class, code, cycle, and KIND and VALUE of its event). -/
inductive DescEnd where
  | done (cyc : Nat)
  | outside (cyc : Nat)
  | noCredit (flits : Nat) (cyc : Nat)
  | fault (cls code cyc : Nat) (kv : Nat × Nat)
deriving DecidableEq, Repr

/-- The end of a descriptor that reached its last cycle. -/
def DescEnd.at_ (out : Bool) (w : Nat) : DescEnd := if out then .outside w else .done w

/-- A check value that differs: the event's entries, one for each half of each value (R201, R518). -/
def State.mismatch (s : State) (die m idx poly got read : Nat) : State :=
  let s := (s.hwSet (F.MOV_STATUS_CV_MISMATCH die m) 1).count die (128 + 32 * m + 7) 1
  let wide := poly ≠ 0 ∧ poly ≠ 1
  let l := if wide then [(0, bits got 0 32), (1, bits got 32 32), (2, bits read 0 32), (3, bits read 32 32)] else [(0, bits got 0 32), (2, bits read 0 32)]
  l.dropLast.foldl (fun s x => s.raiseCmd 2 C.MOV_CV_MISMATCH die (4 + m) idx x.1 x.2) s

/-- The last value of a mismatch, which the fault's own entry carries. -/
def mismatchLast (poly read : Nat) : Nat × Nat := if poly ≠ 0 ∧ poly ≠ 1 then (3, bits read 32 32) else (2, bits read 0 32)

/-- The level of a remote destination (R391, R422). -/
def State.remoteLevel (s : State) (p node : Nat) : Nat := (levelOf (s.node p) node).getD 1

/-- The address after the last byte of a run list. -/
def runsEnd (l : List (Int × Nat)) : Int := (l.getLast?.map (fun x => x.1 + (x.2 : Int))).getD 0

/-- Whether any unit lies outside the cycle-exact promise (R193). -/
def outsideUnits (l : List XUnit) : Bool := l.any (fun u => decide (3 ≤ u.cls) && decide (u.cls ≤ 6))

/-- The A-dies whose SPM the units of a transfer name. -/
def spmDies (l : List XUnit) : List Nat := l.flatMap (fun u => u.pieces.filterMap (fun p => match rowOf p.1 with
  | some (.spm n) => some n
  | _ => none))

/-- The comparison of a check value with the one read: equal, the transfer ends in `fin`; otherwise it faults in cycle `w`, after its last byte is written (R201, R204, R205, R214, R518). -/
def checked (die m idx poly v got fin w : Nat) (out : Bool) (s : State) : DescEnd × State :=
  if got = v then (.at_ out fin, s) else (.fault 2 C.MOV_CV_MISMATCH (max fin w) (mismatchLast poly got), s.mismatch die m idx poly v got)

/-- What FINAL does after the last source byte of a SCAN, fed in cycle `w - 1`: nothing, the value written at CV_OFF, or compared with the one there (R204, R214). -/
def scanEnd (die m idx : Nat) (d : Desc) (poly v w : Nat) (out : Bool) (s : State) : DescEnd × State :=
  if d.final && d.mode == 2 then
    let (ovr, s) := s.spmWrite die (4 + m) 1 w w d.cvOff (leBytes 8 v)
    (if ovr then .fault 2 C.SPM_BANK_OVERLOAD w (0, 0) else .at_ out (16 * (w / 16 + 1)), s)
  else if d.final && d.mode == 3 then
    let (ovr, s) := s.spmRead die (4 + m) 0 w d.cvOff 8
    if ovr then (.fault 2 C.SPM_BANK_OVERLOAD w (0, 0), s)
    else if s.spmPoison die d.cvOff 8 then (.fault 2 C.SPM_UNCORRECTABLE w (0, 0), s.noteDouble die [(d.cvOff, 8)])
    else checked die m idx poly v (leNat (s.spmData die w d.cvOff 8)) w w out s
  else (.at_ out w, s)

/-- Run descriptor `d` of command `idx` from frame cycle `t`, after `sent` flits of it were sent before a wait for credit (R194 to R216). (DEDUCED, notes/assumptions/16.md) -/
def runDesc (die m idx : Nat) (d : Desc) (t sent : Nat) (s : State) : DescEnd × State :=
  let p := s.partOf die
  let cd := if sent = 0 then s.descCode (s.abank die) die m d else 0
  if cd ≠ 0 then (.fault 1 cd t (0, 0), s)
  else if d.indexed && s.poisoned (spmBase die + d.idxOff) (4 * d.c1) then (.fault 2 C.SPM_UNCORRECTABLE (t + 64) (0, 0), s.noteDouble die [(d.idxOff, 4 * d.c1)])
  else
    let s := if d.indexed then s.spmCorrect die d.idxOff (4 * d.c1) else s
    let req := die * 32 + m
    let cvu := decide (d.mode ≠ 0)
    let poly := s.getF (F.CVU_CFG_POLY die m d.ctx)
    let cb := cvBytes poly
    let scan := decide (d.kind = kScan)
    let idxf := s.idxAt die (s.spmKey die (t + 32)) d
    let bad := s.badBlock idxf d
    let append := cvu && d.mode == 2 && d.final && !scan
    let check := cvu && d.mode == 3 && d.final && !scan && bad.isNone
    let src0 := d.runs idxf false
    let a := devAddr (runsEnd src0)
    let reads := check && s.rangeOk a cb
    let src := dropRuns (if reads then joinRuns (src0 ++ [(runsEnd src0, cb)]) else src0) (flitBytes * sent)
    let dst0 := d.runs idxf true
    let dst := dropRuns (if append then joinRuns (dst0 ++ [(runsEnd dst0, cb)]) else dst0) (flitBytes * sent)
    let src := match bad with
      | some (k, _) => takeRuns src (k - flitBytes * sent)
      | none => src
    let srcU := cutUnits die false src
    let dstAll := cutUnits die d.remote (match bad with
      | some (k, _) => takeRuns dst (k - flitBytes * sent)
      | none => dst)
    if (spmDies (srcU ++ if d.remote then [] else dstAll)).any s.spmDegraded ∧ sent = 0 then (.fault 1 C.SPM_DEGRADED t (0, 0), s)
    else
      let level := s.remoteLevel p d.node
      let have_ := egressPool die - s.egressUsed die level
      let dstU := if d.remote then dstAll.take have_ else dstAll
      let short := decide (dstU.length < dstAll.length)
      let tail := if append && !short && bad.isNone then cb else 0
      let org : Origin := .mover die m idx (s.getF (F.MOV_STATUS_DESC_INDEX die m))
      let s := if d.remote && sent == 0 then s.setCut org [] else s
      let x : Xfer := ⟨p, die, m, req, if cvu then some poly else none, tail, d.node, dst0⟩
      let crc0 := if d.init && sent == 0 then crcInit poly else s.getF (F.CVU_VAL_VALUE die m d.ctx) % 2 ^ crcWidth poly
      let refuse := if !d.remote then 0 else if s.unreachable p d.node then C.FAB_NODE_UNREACHABLE else if (s.region d.region).valid then 0 else C.FAB_REGION
      let bytes := (dstU.foldl (fun (a : Nat) u => a + u.n) 0)
      let f0 := Flow.begin (d.srcUnits srcU (flitBytes * sent)) (if refuse = 0 then dstU else dstU.take 1) (bytes - tail) crc0 (t + 32)
      let fuel := 4 * (srcU.length + dstU.length) + 8
      let (f, s) := if scan then scanRun x fuel f0 s else flowRun x fuel f0 s
      let s := if cvu then s.setF (F.CVU_VAL_VALUE die m d.ctx) f.crc else s
      let s := s.count die (128 + 32 * m + 1) (if scan then (srcU.foldl (fun (a : Nat) u => a + u.n) 0) else bytes)
      match f.fault with
      | some (cls, c, w) => (.fault cls c (max w t) (0, 0), if d.remote then (s.leave p die level d.node d.vc d.region f.flits f.out false org).2 else s)
      | none =>
        if refuse ≠ 0 then (.fault 2 refuse (f.last + 48) (0, 0), s)
        else
          let (code, s) := if d.remote then
              let s := s.count die (128 + 32 * m + 9) bytes
              s.leave p die level d.node d.vc d.region dstU.length f.out short org
            else (0, s)
          if code ≠ 0 then (.fault 2 code (f.last + 48) (0, 0), s)
          else if short then (.noCredit (sent + dstU.length) (max f.fin (f.last + 1)), s)
          else match bad with
            | some (_, c) => (.fault 2 c (max f.last f.icyc) (0, 0), s)
            | none =>
              let out := outsideUnits srcU || outsideUnits dstU
              let v := crcFinal poly f.crc
              let s := s.count die (128 + 32 * m + 5) (b2n (cvu && d.final && d.mode == 2))
              let s := s.count die (128 + 32 * m + 6) (b2n (cvu && d.final && d.mode == 3))
              if scan then scanEnd die m idx d poly v (f.fin + 1 + (if d.final then 4 else 0)) out s
              else if check then
                if !reads then (.fault 2 C.MOV_ADDR (max f.fin (f.rdy + 4)) (0, 0), s)
                else match f.stage.find? (fun x => x.bad.isSome) with
                  | some x => (.fault 2 (x.bad.getD 0) (max f.fin x.ready) (0, 0), s)
                  | none => checked die m idx poly v (leNat (f.stage.flatMap (fun x => x.b))) f.fin (f.stage.foldl (fun w x => max w x.ready) f.rdy + 4) out s
              else (.at_ out f.fin, s)

/-! The MOVE command (R190, R214, R216, R629). -/

/-- The cycle in which a descriptor ends, for one that ran. -/
def DescEnd.cyc : DescEnd → Nat
  | .done c => c
  | .outside c => c
  | .noCredit _ c => c
  | .fault _ _ c _ => c

/-- A mover command faults: MOV_STATUS, and the frame (R216, R243); the last half of a check value goes with a mismatch. -/
def State.faultMove (s : State) (die m idx i cls code cyc : Nat) (kv : Nat × Nat) : State :=
  let s := s.hwSets [(F.MOV_STATUS_FAULTED die m, 1), (F.MOV_STATUS_FAULT_CODE die m, code), (F.MOV_STATUS_DESC_INDEX die m, i)]
  let n := s.reports.length
  let s := (s.noteSpm die code).faultCmd cls die idx code cyc
  if code = C.MOV_CV_MISMATCH then s.nameReports n C.MOV_CV_MISMATCH kv.1 (kv.2 % 2 ^ 32) else s

/-- Run the descriptors of a command from number `i` on, `n` of them left, the first after `sent` flits; it stops where software outside the promise must answer first. -/
def runDescs (die m idx off : Nat) : Nat → Nat → Nat → Nat → State → State
  | 0, _, _, _, s => s
  | n + 1, i, t, sent, s =>
    let s := s.setF (F.MOV_STATUS_DESC_INDEX die m) i
    if s.spmPoison die (off + 128 * i) 128 then s.noteDouble die [(off + 128 * i, 128)] |>.faultMove die m idx i 2 C.SPM_UNCORRECTABLE (t + 32) (0, 0)
    else
      let s := s.spmCorrect die (off + 128 * i) 128
      let d := Desc.parse (s.spmData die t (off + 128 * i) 128)
      let (e, s) := runDesc die m idx d t sent s
      let s := if sent = 0 then s.count die (128 + 32 * m) 1 else s
      let s := s.count die (128 + 32 * m + 2) (e.cyc + 1 - t)
      let tier := !d.remote && match e with
        | .outside _ => true
        | _ => false
      let s := if tier then s.updRun die idx (fun r => { r with entry := r.entry ||| 2 ^ 28 }) else s
      match e with
      | .fault cls c w kv => s.faultMove die m idx i cls c w kv
      | .noCredit k w => s.updRun die idx (fun r => { r with progress := i + 256 * k, wait := w })
      | .outside w => if n = 0 then (s.updRun die idx (fun r => { r with wait := w })).perform die idx none 0 else s.updRun die idx (fun r => { r with progress := i + 1, wait := w + 1 })
      | .done w => if n = 0 then s.perform die idx (some w) 0 else runDescs die m idx off n (i + 1) (w + 1) 0 s

/-- MOVE: the descriptors run in order; after a descriptor outside the promise the command goes on at the next MOVE of the same command, as far as it holds credit (R190, R422). (DESIGN CHOICE, notes/assumptions/10.md) -/
def doMove (die idx : Nat) (s : State) : State :=
  match s.toRun die idx opMove with
  | none => s
  | some (c, r) =>
    let m := fieldAt c.operands 0 1 % 4
    if s.spmDegraded die then s.faultMove die m idx 0 1 C.SPM_DEGRADED r.start (0, 0)
    else match moveOperands c.operands with
      | .error e => s.faultMove die m idx 0 1 e r.start (0, 0)
      | .ok (n, off) =>
        let i := r.progress % 256
        let t := if r.wait = 0 then r.start else max r.wait (s.frameCyc (s.partOf die))
        let s := if r.wait ≠ 0 ∧ 256 ≤ r.progress then s.count die (128 + 32 * m + 8) (t - r.wait) else s
        runDescs die m idx off (n - i) i t (r.progress / 256) s

def execMove (die : Fin 4) (idx : Nat) (s : State) : Host.Outcome State Fault Refusal := .next (doMove die idx s)

/-! STEPVAL (R232). -/

/-- The record: JOB_STEP, SHARD_ID, SHARD_SLOT and zeros (R232). -/
def State.stepRecord (s : State) (die : Nat) (c : Cmd) : List Byte :=
  leBytes 8 (s.jobStep (s.partOf die)) ++ leBytes 4 ((s.abank die).shards.getD c.shard 0) ++ leBytes 4 c.shard ++ List.replicate 48 0

/-- The operands of a STEPVAL: MOVER, unused bytes, SPM offset; the code they break (R222, R232, R625). -/
def stepvalCode (b : Bank) (c : Cmd) : Nat :=
  let off := fieldAt c.operands 4 4
  if 3 < fieldAt c.operands 0 1 ∨ off % 64 ≠ 0 ∨ zeroAt c.operands 1 3 = false ∨ zeroAt c.operands 8 32 = false ∨ c.shard = 0xFF ∨ 64 ≤ c.shard
      ∨ b.shards.getD c.shard 0xFFFFFFFF = 0xFFFFFFFF then C.MOV_DESC
  else if spmSize < off + 64 then C.MOV_ADDR
  else 0

/-- STEPVAL: the record is written in the window of cycle t + 1 and is complete at the next window (R180, R232). -/
def doStepval (die idx : Nat) (s : State) : State :=
  match s.toRun die idx opStepval with
  | none => s
  | some (c, r) =>
    let m := fieldAt c.operands 0 1 % 4
    let w := r.start + 1
    if s.spmDegraded die then s.faultMove die m idx 0 1 C.SPM_DEGRADED r.start (0, 0)
    else
      let (ovr, s) := s.spmWrite die (4 + m) 1 w w (fieldAt c.operands 4 4) (s.stepRecord die c)
      if ovr then s.faultMove die m idx 0 2 C.SPM_BANK_OVERLOAD w (0, 0)
      else s.perform die idx (some (16 * (w / 16 + 1))) 0

def execStepval (die : Fin 4) (idx : Nat) (s : State) : Host.Outcome State Fault Refusal := .next (doStepval die idx s)

/-! Scrub (R185 to R189). -/

/-- SPM_SCRUB: a bank reads its next granule in phase 15 and writes corrections back; `fails` is a bank that fails in maintenance, which needs a spare (R185, R187, R189, R575). -/
def doSpmScrub (die bank : Nat) (fails : Bool) (s : State) : State :=
  let row := Assoc.get (s.die die).scrubRow bank 0
  let g := row * 256 + bank
  let win := s.frameCyc (s.partOf die) / 16
  let hit := (s.die die).spmReq.any (fun r => r.wr && r.win == win + 1 && decide (r.off / 128 ≤ g) && decide (g ≤ (r.off + r.len - 1) / 128))
  let s := if hit then s else s.spmCorrect die (g * 128) 128
  let s := s.count die 99 1
  let next := (row + 1) % 32768
  let s := s.updDie die (fun d => { d with scrubRow := d.scrubRow.put bank next 0, spmBankErr := if next = 0 then d.spmBankErr.put bank 0 0 else d.spmBankErr })
  if fails then s.needSpare 3 die 0 bank false else s

def execSpmScrub (die : Fin 4) (bank : Fin 256) (fails : Bool) (s : State) : Host.Outcome State Fault Refusal := .next (doSpmScrub die bank fails s)

end Sys2Proof.Machine
end

