-- ==== Sys2Proof/Machine/Seq.lean ====
section
/-! DEFINITION. The P-die sequencers' tables: management loads, dependencies, start, faults and bank choice shared by the SVE schedule, the core table and the P-die mover table (R256 to R263, R320, R321, R328, R368 to R370). -/
namespace Sys2Proof.Machine

/-- A P-die sequencer. -/
inductive SeqId where
  | sve | cor | pmc
deriving DecidableEq, Repr

def State.seq (s : State) : SeqId → Seq
  | .sve => s.sve
  | .cor => s.cor
  | .pmc => s.pmc

def State.setSeq (s : State) (k : SeqId) (q : Seq) : State :=
  match k with
  | .sve => { s with sve := q }
  | .cor => { s with cor := q }
  | .pmc => { s with pmc := q }

def State.updSeq (s : State) (k : SeqId) (f : Seq → Seq) : State := s.setSeq k (f (s.seq k))

def Seq.bank (q : Seq) (b : Nat) : TabBank := if b = 0 then q.bank0 else q.bank1

def Seq.setBank (q : Seq) (b : Nat) (x : TabBank) : Seq := if b = 0 then { q with bank0 := x } else { q with bank1 := x }

/-- The active table of a sequencer. -/
def Seq.table (q : Seq) : List TabEntry :=
  match q.active with
  | some b => (q.bank b).entries
  | none => []

/-- Journal UNIT of a sequencer on the P-die (R517). -/
def SeqId.unit : SeqId → Nat
  | .sve => 1
  | .cor => 2
  | .pmc => 3

/-- The unit that stands in place of A-die n in the fault sequence: the SVE, or the P-die release logic (R263, R328, R370). (DEDUCED, notes/assumptions/44.md) -/
def SeqId.failDie : SeqId → Nat
  | .sve => 4
  | _ => 5

/-- Registers of a sequencer's loads: BANK, SRC, CODE, ENTRY, BANK of the last load, DONE, BUSY and PLAN_ID. -/
structure LoadRegs where
  bank : Fld
  src : Fld
  code : Fld
  entry : Fld
  last : Fld
  done : Fld
  busy : Fld
  plan0 : Fld
  plan1 : Fld
deriving DecidableEq, Repr

def SeqId.regs : SeqId → LoadRegs
  | .sve => ⟨F.SVE_LOAD_BANK, F.SVE_LOAD_SRC, F.SVE_LOAD_STATUS_CODE, F.SVE_LOAD_STATUS_ENTRY, F.SVE_LOAD_STATUS_BANK, F.SVE_LOAD_STATUS_DONE, F.SVE_LOAD_STATUS_BUSY, F.SVE_PLAN_PLAN_ID 0, F.SVE_PLAN_PLAN_ID 1⟩
  | .cor => ⟨F.CORE_LOAD_BANK, F.CORE_LOAD_SRC, F.CORE_LOAD_STATUS_CODE, F.CORE_LOAD_STATUS_ENTRY, F.CORE_LOAD_STATUS_BANK, F.CORE_LOAD_STATUS_DONE, F.CORE_LOAD_STATUS_BUSY, F.CORE_PLAN_PLAN_ID 0, F.CORE_PLAN_PLAN_ID 1⟩
  | .pmc => ⟨F.PMOV_LOAD_BANK, F.PMOV_LOAD_SRC, F.PMOV_LOAD_STATUS_CODE, F.PMOV_LOAD_STATUS_ENTRY, F.PMOV_LOAD_STATUS_BANK, F.PMOV_LOAD_STATUS_DONE, F.PMOV_LOAD_STATUS_BUSY, F.PMOV_PLAN_PLAN_ID 0, F.PMOV_PLAN_PLAN_ID 1⟩

/-- The code of a load in a wrong state, and of a bad header or entry. -/
def SeqId.stateCode : SeqId → Nat
  | .sve => C.SVE_LOAD_STATE
  | .cor => C.CORE_LOAD_STATE
  | .pmc => C.PMOV_LOAD_STATE

def SeqId.badCode : SeqId → Nat
  | .sve => C.SVE_SCHED_INVALID
  | .cor => C.CORE_TABLE_INVALID
  | .pmc => C.PMOV_TABLE_INVALID

/-! Loads (R256, R320, R368). -/

/-- PLAN_ID of the A-dies' active banks: that of partition 0's lowest A-die whose active bank is valid (R261). -/
def State.activePlan (s : State) : Option Nat :=
  ((s.diesOf 0).find? (fun n => (s.abank n).valid)).map (fun n => (s.abank n).planId)

/-- A write of a load register: BANK and SRC are set (SRC keeps its value when bits [5:0] are not 0, R15), and GO starts a load in IDLE, or in STOPPED for a bank whose PLAN_ID is not the active one (R256). (DEDUCED, notes/assumptions/44.md) -/
def State.seqLoad (s : State) (k : SeqId) (v : Nat) : State :=
  let r := k.regs
  let b := bits v 61 1
  let src := if bits v 0 6 = 0 then bits v 0 52 else s.getF r.src
  let put := fun (s : State) => s.setFs [(r.bank, b), (r.src, src)]
  if bit v 63 = false then (put s).answer 0 0
  else
    let st := s.frameState 0
    let other := (s.activePlan).all (fun p => p != s.getF (if b = 0 then r.plan0 else r.plan1))
    if (s.seq k).load.isSome ∨ !(st = stIdle ∨ (st = stStopped ∧ other)) then s.refused k.stateCode 4 k.unit 0
    else (((put s).setF r.busy 1).updSeq k (fun q => { q with load := some (b, src) })).answer 0 0

/-- The end of a load: the bank holds the table, or is empty after a failure, which is reported with the entry in LOCATION (R516). (DESIGN CHOICE for LOCATION, notes/assumptions/71.md) -/
def State.seqLoaded (s : State) (k : SeqId) (b : Nat) (res : Except (Nat × Nat) TabBank) : State :=
  let r := k.regs
  let (t, code, entry) := match res with
    | .ok t => (t, 0, 0xFFFF)
    | .error (c, e) => (TabBank.empty, c, e)
  let s := if code = 0 then s else s.raise code 4 k.unit (if entry = 0xFFFF then 0 else entry) 0 0
  (s.updSeq k (fun q => { (q.setBank b t) with load := none })).hwSets
    [(r.code, code), (r.entry, entry), (r.last, b), (r.done, 1), (r.busy, 0), (if b = 0 then r.plan0 else r.plan1, if t.valid then t.planId else 0)]

/-- Whether a dependency is well-formed under R258: `i` is the entry's own index. -/
def seqDepOk (i d : Nat) : Bool :=
  let k := bits d 28 4
  if k = 0 then bits d 0 28 == 0
  else if k = 1 then decide (bits d 0 28 < i) && decide (bits d 0 28 < 256)
  else if k = 2 then bits d 13 13 == 0
  else if k = 3 ∨ k = 5 then decide (bits d 0 28 < 2 ^ 16)
  else if k = 6 then decide (bits d 0 28 < 2 ^ 12)
  else if k = 7 then decide (bits d 0 28 < 2 ^ 19)
  else k == 8 && decide (bits d 0 28 < 64)

/-- The rules all three tables share for their entries: order and range of RELEASE, dependencies, unique numbers. -/
def entriesOk (limit : Nat) (es : List TabEntry) : Option Nat :=
  ((List.range es.length).find? (fun i =>
    match es[i]? with
    | none => true
    | some e =>
      let prev := (es.take i).getLast?
      !(decide (e.release < limit) && prev.all (fun p => decide (p.release ≤ e.release)) && seqDepOk i e.dep0 && seqDepOk i e.dep1
        && !((es.take i).any (fun p => p.num == e.num)))))

/-- The cycle before which every release offset lies (R55). -/
def State.releaseLimit (s : State) (p : Nat) : Nat := s.getF (F.FRAME_LEN_LEN p) - s.darkLen p

/-! Start (R225, R258, R259). -/

/-- The first cycle in which a dependency of a table entry is met (R258). -/
def State.seqDepMet (s : State) (k : SeqId) (d : Nat) : Option Nat :=
  match bits d 28 4 with
  | 0 => some 0
  | 1 => ((s.seq k).done.find? (fun x => x.1 == bits d 0 8)).map (fun x => x.2 + 1)
  | 2 => ((s.die (bits d 26 2)).done.find? (fun x => x.idx == bits d 0 13)).map (fun x => x.cyc + 26)
  | kind => ((s.part 0).deps.find? (fun x => x.kind == kind && x.num == bits d 0 28)).map (fun x => x.cyc + 1)

/-- Whether an earlier entry must complete before a later one of the same sequencer: all for the SVE, those of a channel, those that share a core. -/
def blocks (k : SeqId) (a b : TabEntry) : Bool :=
  match k with
  | .sve => true
  | .pmc => a.on == b.on
  | .cor => a.on &&& b.on != 0

/-- The cycle after which nothing earlier blocks entry `i`. -/
def State.seqFree (s : State) (k : SeqId) (i : Nat) : Option Nat :=
  let q := s.seq k
  match q.table[i]? with
  | none => none
  | some e => (List.range i).foldl (fun (acc : Option Nat) (j : Nat) =>
      match acc, q.table[j]? with
      | some a, some f => if blocks k f e then (q.done.find? (fun x => x.1 == j)).map (fun x => max a (x.2 + 1)) else some a
      | a, _ => a) (some 0)

/-- Start cycle of entry `i`, its dependencies' cycle, and the later of its release and its unit (R259). -/
def State.seqStart (s : State) (k : SeqId) (i : Nat) (e : TabEntry) : Option (Nat × Nat × Nat) :=
  match s.seqDepMet k e.dep0, s.seqDepMet k e.dep1, s.seqFree k i with
  | some a, some b, some u => some (max (max a b) (max e.release u), max a b, max e.release u)
  | _, _, _ => none

/-- The last cycle in which a sequencer may start an entry after a fault: f for the one that faulted, f + 3 otherwise (R244, R263). -/
def State.seqLimit (s : State) (k : SeqId) : Option Nat :=
  match s.p0.abortAt with
  | some a => some a
  | none => s.p0.failedAt.map (fun f => if s.p0.failDie = k.failDie then f else f + 3)

/-- The entry and start of entry `i` when it can start now. -/
def State.seqReady (s : State) (k : SeqId) (i : Nat) : Option (TabEntry × Nat × Nat × Nat) :=
  let q := s.seq k
  if s.aclk = 0 ∨ !(s.inFrame 0) ∨ q.run.any (fun r => r.idx == i) ∨ q.done.any (fun x => x.1 == i) then none
  else match q.table[i]? with
    | none => none
    | some e => match s.seqStart k i e with
      | none => none
      | some (t, dep, ou) => if (s.seqLimit k).any (fun l => decide (l < t)) then none else some (e, t, dep, ou)

/-- KIND by which a sequencer's completions reach the SCUs (R223). -/
def SeqId.kind : SeqId → Nat
  | .cor => 3
  | .sve => 4
  | .pmc => 5

/-- Whether completed entry `i` had a T2 or T3 endpoint: a problem that stalled there, or a transfer to or from there. -/
def State.seqTier (s : State) (k : SeqId) (i : Nat) : Bool :=
  k != .cor && ((s.seq k).table[i]?).any (fun e => (s.part 0).outs.any (fun o => o.1 == k.kind && o.2.1 == e.num))

/-- KIND of the dependency met last; 9 for a LOCAL one on an entry with a T2 or T3 endpoint (R226, R259). (DEDUCED, notes/assumptions/58.md) -/
def State.seqKind (s : State) (k : SeqId) (e : TabEntry) : Nat :=
  let d := if (s.seqDepMet k e.dep0).getD 0 ≤ (s.seqDepMet k e.dep1).getD 0 then e.dep1 else e.dep0
  let n := bits d 28 4
  if n = 1 ∧ s.seqTier k (bits d 0 8) then 9 else n

/-- A slip of a table entry (R68, R226). (DEDUCED, notes/assumptions/58.md) -/
def State.seqSlip (s : State) (k : SeqId) (e : TabEntry) (kind slip : Nat) : State :=
  (s.raise C.RELEASE_SLIP 4 k.unit e.num kind slip).addSlip 0 slip

/-- An entry starts in cycle `t`: time advances, a late dependency is a slip, IRREV commits (R247, R259). -/
def State.seqBegin (s : State) (k : SeqId) (i : Nat) (e : TabEntry) (t dep ou left : Nat) : State :=
  let s := s.toCyc 0 t
  let s := if ou < dep then s.seqSlip k e (s.seqKind k e) (t - ou) else s
  let s := if e.irrev then s.commit 0 else s
  s.updSeq k (fun q => { q with run := q.run ++ [⟨i, t, none, 0, 0, 0, false, false, left⟩] })

def State.updSeqRun (s : State) (k : SeqId) (i : Nat) (f : SeqRun → SeqRun) : State :=
  s.updSeq k (fun q => { q with run := q.run.map (fun r => if r.idx == i then f r else r) })

/-- An entry completes in cycle `c`; its completion reaches every SCU 25 cycles later as KIND `kind`; one outside the promise is noted for the close (R81, R260, R370). -/
def State.seqDone (s : State) (k : SeqId) (i c kind num delay : Nat) : State :=
  let out := k == .cor || (s.seq k).run.any (fun r => r.idx == i && r.outside)
  let s := s.updSeq k (fun q => { q with run := q.run.filter (fun r => r.idx != i), done := q.done ++ [(i, c)] })
  let s := if out then s.updPart 0 (fun x => { x with outs := x.outs ++ [(kind, num, c)] }) else s
  s.sendDep 0 kind num (c + delay) 0 0

/-- Step 1 of the fault sequence for a P-die unit (R244, R263, R328, R370). (DEDUCED, notes/assumptions/44.md) -/
def State.seqFault (s : State) (k : SeqId) (code num f : Nat) : State :=
  let s := s.raise code 4 k.unit num 0 0
  s.failFrame 0 k.failDie f

/-! Frame boundaries (R261). -/

/-- The bank that cycle 0 makes active for the A-dies' plan; none on a mismatch. -/
def Seq.pick (q : Seq) (plan : Nat) : Option (Option Nat) :=
  if !q.bank0.valid ∧ !q.bank1.valid then some none
  else if q.bank0.valid ∧ q.bank0.planId = plan then some (some 0)
  else if q.bank1.valid ∧ q.bank1.planId = plan then some (some 1)
  else none

/-- A sequencer at cycle 0 of a frame. -/
def Seq.fresh (q : Seq) (b : Option Nat) : Seq := { q with active := b, run := [], done := [], failed := false }

end Sys2Proof.Machine
end

