-- ==== Sys2Proof/Machine/Pmov.lean ====
section
/-! DEFINITION. P-die mover tables, their transfers, and migrations (R368 to R373). -/
namespace Sys2Proof.Machine

/-- An entry of a P-die mover table image at byte offset `o`. -/
def pmovEntry (b : List Byte) (o : Nat) : TabEntry where
  release := fieldAt b o 4
  dep0 := fieldAt b (o + 4) 4
  dep1 := fieldAt b (o + 8) 4
  num := fieldAt b (o + 12) 2
  irrev := bit (fieldAt b (o + 15) 1) 0
  on := fieldAt b (o + 14) 1
  pin := false
  pc := 0
  descs := (List.range (fieldAt b (o + 20) 1)).map (fun i => (b.drop (fieldAt b (o + 16) 4 + 128 * i)).take 128)

/-- R197 for one block of a P-die mover, whose local endpoints may also be the stores of the P-die local windows (R317). -/
def State.pBlockOk (s : State) (remote : Bool) (x : Int × Nat) : Bool :=
  s.blockOk remote x || (!remote && decide (0 ≤ x.1) && s.inWindow (devAddr x.1) x.2)

/-- The bank of an A-die that holds plan `plan`. -/
def State.planBank (s : State) (plan die : Nat) : Option Bank := [(s.die die).bank0, (s.die die).bank1].find? (fun b => b.valid && b.planId == plan)

/-- R211 and R624 for one side of a P-die descriptor: every link direction it needs whose table a loaded bank of plan `plan` carries gives the channel a slot; the others are judged as the transfer runs. (DEDUCED, notes/assumptions/16.md) -/
def State.pmovSlots (s : State) (plan ch : Nat) (remote dst : Bool) (runs : List (Int × Nat)) : Bool :=
  runs.all (fun x => (segs 0x40000000 (devAddr x.1) x.2).all (fun p =>
    let (c, y) := pathOf 4 remote p.1
    y == 4 || (needDirs 4 dst c y).all (fun d =>
      let (n, _, _) := linkCarrier d.1 d.2
      (s.planBank plan n).all (fun b => slotGiven b n (0x80 + ch) d))))

/-- The first code that a descriptor of channel `ch` breaks at load into plan `plan`, 0 for none: R195 to R197 and R211; a CVU field that is not 0, and so every SCAN, is invalid, as is an index list, which lies in a mover's own scratchpad (R192, R369). (DEDUCED, notes/assumptions/16.md; DEDUCED, notes/assumptions/17.md) -/
def State.pmovDesc (s : State) (plan ch : Nat) (d : Desc) : Nat :=
  if !d.ok ∨ d.indexed ∨ d.mode ≠ 0 ∨ d.ctx ≠ 0 then C.MOV_DESC
  else
    let src := d.runs (fun i => i) false
    let dst := d.runs (fun i => i) true
    if !(src.all (s.pBlockOk false)) || !(dst.all (s.pBlockOk d.remote)) then C.MOV_ADDR
    else if !d.remote && rangesMeet src dst then C.MOV_OVERLAP
    else if !(s.pmovSlots plan ch false false src) || !(s.pmovSlots plan ch d.remote true dst) then C.MOV_NO_SLOT
    else 0

/-- Validate a P-die mover table image (R368, R369): (code, entry, unit code) on failure. -/
def State.pmovTable (s : State) (b : List Byte) : Except (Nat × Nat × Nat) TabBank :=
  let n := fieldAt b 2 2
  let sz := fieldAt b 4 4
  let off := fieldAt b 16 4
  if fieldAt b 0 2 ≠ 0x0109 ∨ n = 0 ∨ 256 < n ∨ 65536 < sz ∨ off % 64 ≠ 0 ∨ off < 64 ∨ sz < off + 32 * n ∨ zeroAt b 20 44 = false then
    .error (C.PMOV_TABLE_INVALID, 0xFFFF, 0)
  else
    let es := (List.range n).map (fun i => pmovEntry b (off + 32 * i))
    let bad1 := (List.range n).find? (fun i =>
      let o := off + 32 * i
      decide (3 < fieldAt b (o + 14) 1) || decide (1 < fieldAt b (o + 15) 1) || fieldAt b (o + 16) 4 % 128 != 0 || fieldAt b (o + 20) 1 == 0
        || decide (sz < fieldAt b (o + 16) 4 + 128 * fieldAt b (o + 20) 1) || !(zeroAt b (o + 21) 11))
    let bad := match bad1, entriesOk (s.releaseLimit 0) es with
      | some a, some c => some (min a c)
      | some a, none => some a
      | none, c => c
    match bad with
    | some i => .error (C.PMOV_TABLE_INVALID, i, 0)
    | none =>
      match (es.zipIdx).findSome? (fun x => (x.1.descs.map (fun d => s.pmovDesc (fieldAt b 8 8) x.1.on (Desc.parse d))).find? (· ≠ 0) |>.map (fun c => (x.2, c))) with
      | some (i, c) => .error (C.PMOV_TABLE_INVALID, i, c)
      | none => .ok ⟨true, fieldAt b 8 8, es⟩

/-- PMOV_LOAD (R368). -/
def doPmovLoad (v : Nat) (s : State) : State := s.seqLoad .pmc v

def execPmovLoad (val : Word) (s : State) : Host.Outcome State Fault Refusal := .next (doPmovLoad val.toNat s)

/-- PMOV_LOAD_DONE: the load in progress finishes its validation (R369). -/
def doPmovLoadDone (s : State) : State :=
  match s.pmc.load with
  | none => s
  | some (b, src) =>
    let n := max 64 (min 65536 (s.readNat (src + 4) 4))
    let (c, img, s) := if s.inT1 src n then s.extRead 0x80 src n else (C.PMOV_TABLE_INVALID, [], s)
    let res := if c ≠ 0 then .error (c, 0xFFFF, 0) else s.pmovTable img
    let s := s.setF F.PMOV_LOAD_STATUS_UNIT_CODE (match res with
      | .error (_, _, u) => u
      | .ok _ => 0)
    s.seqLoaded .pmc b (match res with
      | .error (c, e, _) => .error (c, e)
      | .ok t => .ok t)

def execPmovLoadDone (s : State) : Host.Outcome State Fault Refusal := .next (doPmovLoadDone s)

/-! Transfers (R370, R626). -/

/-- Whether any unit lies in T2 or T3 (R81, R370). -/
def tierUnits (l : List XUnit) : Bool := l.any (fun u => u.cls == 3 || u.cls == 4)

/-- Run a descriptor on channel `ch` for entry `i` from cycle `t`, after `sent` flits of it (R213, R370, R626). (DEDUCED, notes/assumptions/17.md) -/
def runPmov (ch i : Nat) (d : Desc) (t sent : Nat) (s : State) : DescEnd × State :=
  let cd := if sent = 0 then s.pmovDesc ((s.activePlan).getD 0) ch d else 0
  if cd ≠ 0 then (.fault 1 cd t (0, 0), s)
  else
    let src := dropRuns (d.runs (fun i => i) false) (flitBytes * sent)
    let dst := dropRuns (d.runs (fun i => i) true) (flitBytes * sent)
    let srcU := cutUnits 4 false src
    let dstAll := cutUnits 4 d.remote dst
    let level := s.remoteLevel 0 d.node
    let dstU := if d.remote then dstAll.take (egressPool 4 - s.egressUsed 4 level) else dstAll
    let refuse := if !d.remote then 0 else if s.unreachable 0 d.node then C.FAB_NODE_UNREACHABLE else if (s.region d.region).valid then 0 else C.FAB_REGION
    let s := if d.remote && sent == 0 then s.setCut (.pmc ch i) [] else s
    let x : Xfer := ⟨0, 4, ch, 0x80 + ch, none, 0, d.node, dst⟩
    let bytes := dstU.foldl (fun (a : Nat) u => a + u.n) 0
    let (f, s) := flowRun x (4 * (srcU.length + dstU.length) + 8) (Flow.begin (d.srcUnits srcU 0) (if refuse = 0 then dstU else dstU.take 1) bytes 0 (t + 32)) s
    let s := s.count 4 (289 + 8 * ch) bytes
    match f.fault with
    | some (cls, c, w) => (.fault cls c (max w t) (0, 0), if d.remote then (s.leave 0 4 level d.node d.vc d.region f.flits f.out false (.pmc ch i)).2 else s)
    | none =>
      if refuse ≠ 0 then (.fault 2 refuse (f.last + 48) (0, 0), s)
      else
        let (code, s) := if d.remote then s.leave 0 4 level d.node d.vc d.region dstU.length f.out (decide (dstU.length < dstAll.length)) (.pmc ch i) else (0, s)
        let s := if tierUnits srcU || tierUnits dstU then s.updSeqRun .pmc i (fun r => { r with outside := true }) else s
        if code ≠ 0 then (.fault 2 code (f.last + 48) (0, 0), s)
        else if dstU.length < dstAll.length then (.noCredit (sent + dstU.length) (max f.fin (f.last + 1)), s)
        else (.at_ (outsideUnits srcU || outsideUnits dstU) f.fin, s)

/-- A channel's entry faults (R216, R370). -/
def State.faultPmov (s : State) (ch i num code f : Nat) : State :=
  let s := s.hwSets [(F.PMOV_STATUS_FAULTED ch, 1), (F.PMOV_STATUS_FAULT_CODE ch, code), (F.PMOV_STATUS_XFER ch, num)]
  (s.updSeqRun .pmc i (fun r => { r with fault := true, doneAt := some f })).seqFault .pmc code num f

/-- Run the descriptors of an entry from number `j` on, `n` of them left. -/
def runPmovs (ch i : Nat) (e : TabEntry) : Nat → Nat → Nat → Nat → State → State
  | 0, _, _, _, s => s
  | n + 1, j, t, sent, s =>
    let (r, s) := runPmov ch i (Desc.parse (e.descs.getD j [])) t sent s
    match r with
    | .fault _ c w _ => s.faultPmov ch i e.num c w
    | .noCredit k w => s.updSeqRun .pmc i (fun r => { r with next := j, sent := k, wait := w })
    | .outside w =>
      if n = 0 then s.updSeqRun .pmc i (fun r => { r with next := j + 1, doneAt := none, wait := w })
      else s.updSeqRun .pmc i (fun r => { r with next := j + 1, sent := 0, wait := w + 1 })
    | .done w =>
      if n = 0 then s.updSeqRun .pmc i (fun r => { r with next := j + 1, doneAt := some w, wait := w })
      else runPmovs ch i e n (j + 1) (w + 1) 0 s

/-- PMOV_ENTRY_START: an entry starts on its channel, or goes on after a wait outside the promise (R370). (DESIGN CHOICE, notes/assumptions/10.md) -/
def doPmovEntryStart (i : Nat) (s : State) : State :=
  match s.pmc.run.find? (fun r => r.idx == i), s.pmc.table[i]? with
  | some r, some e =>
    if s.aclk = 0 ∨ r.fault ∨ e.descs.length ≤ r.next then s
    else runPmovs e.on i e (e.descs.length - r.next) r.next (max r.wait (s.frameCyc 0)) r.sent s
  | none, _ =>
    (match s.seqReady .pmc i with
    | none => s
    | some (e, t, dep, ou) =>
      let s := s.seqBegin .pmc i e t dep ou 0
      let s := if ou < dep then s.count 4 (290 + 8 * e.on) (t - ou) else s
      let s := (s.setF (F.PMOV_STATUS_XFER e.on) e.num).count 4 (288 + 8 * e.on) 1
      runPmovs e.on i e e.descs.length 0 t 0 s)
  | _, none => s

def execPmovEntryStart (entry : Nat) (s : State) : Host.Outcome State Fault Refusal := .next (doPmovEntryStart entry s)

/-- PMOV_TRANSFER_COMPLETE: a channel's entry completes, at the cycle its stages give or, outside the promise, at `cyc`; the SCUs know 25 cycles later (R370, R372). -/
def doPmovTransferComplete (ch cyc : Nat) (s : State) : State :=
  match s.pmc.run.find? (fun r => (s.pmc.table[r.idx]?).any (fun e => e.on == ch)) with
  | none => s
  | some r =>
    match s.pmc.table[r.idx]? with
    | none => s
    | some e =>
      if s.aclk = 0 ∨ (!r.fault ∧ r.next < e.descs.length) then s
      else
        let c := match r.doneAt with
          | some c => c
          | none => max r.wait cyc
        let s := s.toCyc 0 c
        if r.fault then s.updSeq .pmc (fun q => { q with run := q.run.filter (fun x => x.idx != r.idx) })
        else s.seqDone .pmc r.idx c 5 e.num 25

def execPmovTransferComplete (ch : Fin 4) (cyc : Nat) (s : State) : Host.Outcome State Fault Refusal := .next (doPmovTransferComplete ch cyc s)

/-! Migrations (R373). -/

/-- Whether [a, a + n) lies in the ranges of a partition (R532, R548). -/
def State.inPart (s : State) (p a n : Nat) : Bool :=
  match s.cfg[p]? with
  | none => false
  | some c => c.valid && s.rangeOk a n && decide (0 < n) &&
      (match rowOf a with
      | some .t1 => (List.range ((a + n - 1) / 0x2000000000 - a / 0x2000000000 + 1)).all (fun i => bit c.adies (a / 0x2000000000 + i))
      | some .t2 => decide (t2Base + c.t2Base ≤ a) && decide (a + n ≤ t2Base + c.t2Base + c.t2Size)
      | some .t3 => decide (t3Base + c.t3Base ≤ a) && decide (a + n ≤ t3Base + c.t3Base + c.t3Size)
      | _ => false)

/-- MIGRATION_START: a write of MIG_CTRL by partition `p`; GO starts a migration on PMC7 or refuses it with MOV_ADDR (R373). (DEDUCED, notes/assumptions/66.md) -/
def doMigrationStart (p v : Nat) (s : State) : State :=
  let n := if bits v 0 6 = 0 then bits v 0 40 else s.getF F.MIG_CTRL_BYTES
  let s := ((s.setF F.MIG_CTRL_BYTES n).clearBits F.MIG_CTRL_DONE (bits v 62 1)).clearBits F.MIG_CTRL_FAILED (bits v 60 1)
  if bit v 63 = false then s.answer 0 0
  else
    let a := s.getF F.MIG_SRC_ADDR
    let b := s.getF F.MIG_DST_ADDR
    if s.mig.isSome ∨ s.inPart p a n = false ∨ s.inPart p b n = false then
      (s.hwSets [(F.MIG_CTRL_FAILED, 1), (F.MIG_CTRL_CODE, C.MOV_ADDR)]).refused C.MOV_ADDR 4 3 7
    else ({ s with mig := some ⟨a, b, n⟩ }.setF F.MIG_CTRL_BUSY 1).answer 0 0

def execMigrationStart (p : Fin 4) (val : Word) (s : State) : Host.Outcome State Fault Refusal := .next (doMigrationStart p val.toNat s)

/-- The first pseudo-channel that a range of T1 needs and on which PMC7 owns no slot, while a frame runs (R341, R344, R624). (DEDUCED, notes/assumptions/66.md) -/
def State.migNoSlot (s : State) (a n : Nat) : Bool :=
  (segs 0x40000000 a n).any (fun x =>
    match rowOf x.1 with
    | some .t1 =>
      let d := x.1 / 0x2000000000
      !(s.atRest (s.partOf d)) && !(s.t1Owned (s.hbmPlan d) d 0x87 x.1 x.2)
    | _ => false)

/-- MIGRATION_DONE: the copy is made, or ends with the code of its fault (R373). (DEDUCED, notes/assumptions/66.md) -/
def doMigrationDone (s : State) : State :=
  match s.mig with
  | none => s
  | some m =>
    let s := { s with mig := none }.setF F.MIG_CTRL_BUSY 0
    let fail := fun (s : State) (c : Nat) => s.hwSets [(F.MIG_CTRL_FAILED, 1), (F.MIG_CTRL_CODE, c)]
    if s.migNoSlot m.src m.bytes ∨ s.migNoSlot m.dst m.bytes then fail s C.MOV_NO_SLOT
    else
      let (c, b, s) := s.extRead 0x87 m.src m.bytes
      if c ≠ 0 then fail s c
      else
        let (c, s) := s.extWrite 0x87 m.dst b
        if c ≠ 0 then fail s c else s.hwSets [(F.MIG_CTRL_DONE, 1), (F.MIG_CTRL_CODE, 0)]

def execMigrationDone (s : State) : Host.Outcome State Fault Refusal := .next (doMigrationDone s)

end Sys2Proof.Machine
end

