-- ==== Sys2Proof/Machine/Vault.lean ====
section
/-! DEFINITION. The Vault and the hash and signature engine: key derivation, signatures, verifications and their counts, and the job key list (R531, R542 to R544, R568). -/
namespace Sys2Proof.Machine

/-- Bytes of an ASCII string. -/
def ascii (s : String) : List Byte := s.toList.map (fun c => BitVec.ofNat 8 c.toNat)

/-- Key derivation from the fused seed (R543, R544). -/
def derive (x : List Byte) (custom : String) : List Byte := kmac256 Config.fusedSeed x 32 (ascii custom)

/-- The seed of the identity key (R543). -/
def idSeed : List Byte := derive [] "SZ-AN4 IDENTITY"

/-- The identity public key. -/
def idPub : List Byte := slice (Config.mldsaPub idSeed) 0 2592

/-- The seed of a job key (R544). -/
def jobSeed (job node : Nat) : List Byte := derive (leBytes 8 job ++ leBytes 4 node) "SZ-AN4 JOB"

/-- The job public key. -/
def jobPub (job node : Nat) : List Byte := slice (Config.mldsaPub (jobSeed job node)) 0 2592

/-- A signature over the SHA3-512 digest of a message, counted (R531, R568). -/
def State.sign (s : State) (seed m : List Byte) : List Byte × State :=
  (slice (Config.mldsaSign seed (sha3_512 m) s.free) 0 4627, ({ s with free := s.free + 1 }).satF F.HSE_COUNT_SIGNATURES 1)

/-- A verification, counted; the failures as well (R531, R568). -/
def State.verify (s : State) (pub m sig : List Byte) : Bool × State :=
  let ok := Config.mldsaVerify pub (sha3_512 m) sig
  let s := s.satF F.HSE_COUNT_VERIFICATIONS 1
  (ok, if ok then s else s.satF F.HSE_STATUS_FAILED 1)

/-- The root that a path of 16 siblings leads to from leaf `i` (R544). -/
def pathRoot (leaf : List Byte) (i : Nat) (path : List Byte) : List Byte :=
  (List.range 16).foldl (fun (x : List Byte) (j : Nat) =>
    let sib := slice path (64 * j) 64
    if bit i j then sha3_512 (sib ++ x) else sha3_512 (x ++ sib)) leaf

/-- Binary search of a node in a job key list of `n` entries at `a`: the entry's index (R544). -/
def State.findNode (s : State) (a node : Nat) : Nat → Nat → Nat → Option Nat
  | 0, _, _ => none
  | k + 1, lo, hi =>
    if hi ≤ lo then none
    else
      let m := (lo + hi) / 2
      let v := s.readNat (a + 4096 * m) 4
      if v = node then some m else if v < node then s.findNode a node k (m + 1) hi else s.findNode a node k lo m

/-- The public job key of a node, taken from the partition's job key list when its path leads to the root (R544, R486). -/
def State.jobKeyOf (s : State) (p node : Nat) : Option (List Byte) :=
  match s.boot.keyLists.find? (fun x => x.1 == p) with
  | none => none
  | some (_, root, a, n) =>
    match s.findNode a node 17 0 n with
    | none => none
    | some i =>
      let e := s.readMem (a + 4096 * i) 4096
      let key := slice e 64 2592
      if pathRoot (sha3_512 (leBytes 4 node ++ key)) i (slice e 2656 1024) = root then some key else none

end Sys2Proof.Machine
end

