-- ==== Sys2Proof/Machine/Ckpt.lean ====
section
/-! DEFINITION. Checkpoint, mirror, scan and restore (R468 to R498): the Checkpoint Store Module as logical blocks, the phases of a SAVE, the mirror ring at both ends, manifests and commit blocks. -/
namespace Sys2Proof.Machine

/-! The Checkpoint Store Module (R470 to R473). -/

/-- One logical block of zeros, what an unwritten block reads as. (DESIGN CHOICE, notes/assumptions/47.md) -/
def zeroLb : List Byte := List.replicate 4096 0

/-- DESIGN CHOICE, notes/assumptions/47.md. -/
def State.csmLb (s : State) (lb : Nat) : List Byte := Assoc.get s.csm lb zeroLb

/-- Whether a command on `n` blocks from `lb` succeeds: the namespace is set up and holds them (R470, R553). (DESIGN CHOICE, notes/assumptions/47.md) -/
def State.csmOk (s : State) (lb n : Nat) : Bool := s.getF F.CSMPORT_STATUS_NVME_READY == 1 && decide (lb + n ≤ s.getF F.CSM_LBS_LBS)

/-- Write whole blocks; a failed command writes nothing. -/
def State.csmWrite (s : State) (lb : Nat) (b : List Byte) : Bool × State :=
  let n := b.length / 4096
  if s.csmOk lb n then
    (true, ((List.range n).foldl (fun (s : State) (i : Nat) => { s with csm := Assoc.put s.csm (lb + i) (slice b (4096 * i) 4096) zeroLb }) s).count 5 400 b.length)
  else (false, s)

/-- Read whole blocks. -/
def State.csmRead (s : State) (lb n : Nat) : List Byte := (List.range n).flatMap (fun i => s.csmLb (lb + i))

/-- The lowest A-die of a partition and the number of its A-dies (R473). -/
def State.ckShare (s : State) (p : Nat) : Nat × Nat := ((s.diesOf p).headD 0, (s.diesOf p).length)

/-- First block of manifest slot `i` (0, 1 OWN; 2, 3 MIR) of a partition (R471, R473). -/
def State.ckSlotLb (s : State) (p i : Nat) : Nat := 256 + 256 * i + 1024 * (s.ckShare p).1

def areaLbs : Nat := 121093750

/-- First block of area `i` of a partition's share. -/
def State.ckAreaLb (s : State) (p i : Nat) : Nat := 3906250 + areaLbs * i + (s.ckShare p).1 * areaLbs / 4

/-- Blocks of a partition's share of an area. -/
def State.ckAreaLen (s : State) (p : Nat) : Nat := (s.ckShare p).2 * areaLbs / 4

def State.ck (s : State) (p : Nat) : Ckpt := s.ckpt.getD p Ckpt.idle

def State.updCk (s : State) (p : Nat) (f : Ckpt → Ckpt) : State := { s with ckpt := (s.ckpt.zipIdx).map (fun x => if x.2 = p then f x.1 else x.1) }

/-! Manifests and commit blocks (R485, R486). -/

/-- Bytes of a manifest body with `n` entries. -/
def bodyLen (n : Nat) : Nat := 128 + 128 * n + 4627

/-- The body in a slot; nothing when SHARD_COUNT is out of range. -/
def State.slotBody (s : State) (p i : Nat) : List Byte :=
  let b := s.csmRead (s.ckSlotLb p i + 1) 255
  let n := fieldAt b 4 4
  if n = 0 ∨ 4096 < n then [] else b.take (bodyLen n)

/-- The SEQ of a committed slot (R486). -/
def State.slotSeq (s : State) (p i : Nat) : Option Nat :=
  let c := s.csmLb (s.ckSlotLb p i)
  let b := s.slotBody p i
  if fieldAt c 0 8 ≠ 0 ∧ b ≠ [] ∧ fieldAt c 0 8 = fieldAt b 8 8 ∧ fieldAt c 8 8 = crcOf 2 b then some (fieldAt c 0 8) else none

/-- Whether a slot is valid: committed, with a signature that verifies with ORIGIN's job key (R486). -/
def State.slotValid (s : State) (p i : Nat) : Bool × State :=
  if (s.slotSeq p i).isNone then (false, s)
  else
    let b := s.slotBody p i
    let m := b.take (b.length - 4627)
    match s.jobKeyOf p (fieldAt b 32 4) with
    | none => (false, s)
    | some key => s.verify key m (b.drop m.length)

/-- The newest of a pair of slots (`i` and `i` + 1): the committed one with the larger SEQ. (DEDUCED, notes/assumptions/38.md) -/
def State.newestSlot (s : State) (p i : Nat) : Option Nat :=
  match s.slotSeq p i, s.slotSeq p (i + 1) with
  | some a, some b => some (if a < b then i + 1 else i)
  | some _, none => some i
  | none, some _ => some (i + 1)
  | none, none => none

/-- CKPT_SLOTS as the CSM's contents make it (R497). -/
def State.ckSlots (s : State) (p : Nat) : State :=
  let own := s.newestSlot p 0
  let mir := s.newestSlot p 2
  let c := fun (i : Nat) => b2n (s.slotSeq p i).isSome
  s.setFs [(F.CKPT_SLOTS_OWN_COMMITTED p, c 0 + 2 * c 1), (F.CKPT_SLOTS_MIR_COMMITTED p, c 2 + 2 * c 3), (F.CKPT_SLOTS_OWN_NEWEST p, own.getD 0),
    (F.CKPT_SLOTS_MIR_NEWEST p, mir.getD 2 - 2), (F.CKPT_SLOTS_STEP p, (own.map (fun i => fieldAt (s.slotBody p i) 24 4)).getD 0)]

/-- CKPT_SLOTS of every partition, as a reset and a start leave it: from the CSM (R14, R497). -/
def State.allSlots (s : State) : State := [0, 1, 2, 3].foldl (fun (s : State) (p : Nat) => s.ckSlots p) s

/-- A commit block (R486). -/
def commitBlock (seq : Nat) (body : List Byte) : List Byte := slice (leBytes 8 seq ++ leBytes 8 (crcOf 2 body)) 0 4096

/-- Whole blocks that hold some bytes. -/
def toLbs (b : List Byte) : List Byte := slice b 0 (roundUp b.length 4096)

/-! Shard lists and records (R474, R481). -/

/-- Blocks of a record's block table. -/
def tableLbs (bytes : Nat) : Nat := cdiv (8 * cdiv bytes 1048576) 4096

/-- Blocks of a record: data, then block table (R474). -/
def recordLbs (bytes : Nat) : Nat := cdiv bytes 4096 + tableLbs bytes

/-- Whether a header keeps R481. -/
def ckHeadOk (h : List Byte) : Bool :=
  fieldAt h 0 2 == 0x010C && decide (fieldAt h 2 2 < 2) && decide (1 ≤ fieldAt h 4 4) && decide (fieldAt h 4 4 ≤ 4096) && zeroAt h 24 40

/-- Whether the fields that SAVE and RESTORE share keep R481. -/
def ckEntryOk (e : List Byte) : Bool := zeroAt e 5 3 && fieldAt e 8 8 % 4096 == 0 && zeroAt e 30 2 && zeroAt e 34 6 && zeroAt e 48 16

/-- Whether an entry of a SAVE keeps R481 and lies in the partition's ranges (R482). -/
def State.ckSaveOk (s : State) (p : Nat) (e : List Byte) : Bool :=
  ckEntryOk e && decide (fieldAt e 4 1 < 2) && decide (4096 ≤ fieldAt e 16 8) && fieldAt e 16 8 % 4096 == 0 && zeroAt e 24 6
    && s.inPart p (fieldAt e 8 8) (fieldAt e 16 8)

/-- Whether an entry of a RESTORE keeps R481. -/
def ckRestoreOk (e : List Byte) : Bool :=
  ckEntryOk e && fieldAt e 4 1 % 2 == 0 && decide (fieldAt e 4 1 < 8) && fieldAt e 16 8 == 0
    && (if bit (fieldAt e 24 4) 31 then bits (fieldAt e 24 4) 28 3 == 0 && decide (fieldAt e 28 2 < 4096) else fieldAt e 24 4 == 0 && fieldAt e 28 2 == 0)

/-- No SHARD_ID twice. -/
def idsApart (es : List (List Byte)) : Bool :=
  let l := es.map (fun e => fieldAt e 0 4)
  l.eraseDups.length == l.length

/-- The shard list at CKPT_LIST: header and entries, when it is readable and keeps R481. -/
def State.ckList (s : State) (p : Nat) : Option (List Byte × List (List Byte)) :=
  let a := s.getF (F.CKPT_LIST_ADDR p)
  if a % 4096 ≠ 0 ∨ s.inPart p a 128 = false then none
  else
    let h := s.readMem a 128
    let n := fieldAt h 4 4
    if ckHeadOk h = false ∨ s.inPart p a (128 + 64 * n) = false then none
    else
      let es := (List.range n).map (fun i => s.readMem (a + 128 + 64 * i) 64)
      if idsApart es then some (h, es) else none

/-- First block of each record, in list order (R474). -/
def recordStarts (es : List (List Byte)) : List Nat :=
  (es.foldl (fun (acc : Nat × List Nat) e => (acc.1 + recordLbs (fieldAt e 16 8), acc.2 ++ [acc.1])) (0, [])).2

/-- Blocks of all records. -/
def recordTotal (es : List (List Byte)) : Nat := (es.map (fun e => recordLbs (fieldAt e 16 8))).sum

/-- The DATA chunks of a SAVE: each record in runs of at most 16,383 blocks (R478, R483). (DEDUCED, notes/assumptions/37.md) -/
def dataChunks (es : List (List Byte)) : List CkChunk :=
  ((es.zip (recordStarts es)).zipIdx).flatMap (fun x =>
    let n := recordLbs (fieldAt x.1.1 16 8)
    (List.range (cdiv n 16383)).map (fun j => ⟨1, x.1.2 + 16383 * j, min 16383 (n - 16383 * j), x.2⟩))

/-- The CRC-64 of each block of data, 8 bytes each, padded to whole LBs (R474). -/
def blockTable (d : List Byte) : List Byte := toLbs ((chunksOf 1048576 (cdiv d.length 1048576) d).flatMap (fun b => leBytes 8 (crcOf 2 b)))

/-! The end of an operation. -/

/-- An operation ends with a code: DONE, BUSY clear, and the code reported (R483, R484, R489). -/
def State.ckEnd (s : State) (p code : Nat) : State :=
  let s := s.hwSets [(F.CKPT_STATUS_CODE p, code), (F.CKPT_STATUS_DONE p, 1), (F.CKPT_STATUS_BUSY p, 0), (F.CKPT_STATUS_PHASE p, 0)]
  let s := s.updCk p (fun c => { c with op := 0, todo := [], head := [], entries := [], body := [] })
  if code = 0 then s else s.raise code 5 6 p 0 0

/-- A SAVE ends without a commit; its slot stays uncommitted (R484). -/
def State.ckFail (s : State) (p code : Nat) : State := (s.ckEnd p code).ckSlots p

/-- The engine writes RESULT and BLOCK of list entry `i` (R481). -/
def State.ckMark (s : State) (p i code block : Nat) : State :=
  let a := (s.ck p).list + 128 + 64 * i
  let s := (s.extWrite 0xA0 (a + 32) (leBytes 2 code)).2
  (s.extWrite 0xA0 (a + 40) (leBytes 8 block)).2

def noBlock : Nat := 2 ^ 64 - 1

/-- A SAVE ends at an entry, which takes the code in RESULT (R481, R484). (DEDUCED, notes/assumptions/37.md) -/
def State.ckFailAt (s : State) (p i code : Nat) : State := (s.ckMark p i code noBlock).ckFail p code

/-- DRAINED at this package: chunks of its SAVEs that the buddy has done with (R477, R479). -/
def State.ckDrained (s : State) (p : Nat) : Nat := s.readNat (s.getF (F.CKPT_RING_ADDR p) + 1073741832) 8

/-- ARRIVED at this package. -/
def State.ckArrived (s : State) (p : Nat) : Nat := s.readNat (s.getF (F.CKPT_RING_ADDR p) + 1073741824) 8

/-- Origins of the engine's other transfers: FADDs to the peer's counters, and remote writes of a RESTORE's entry. -/
def ckFadd : Nat := 2 ^ 40
def ckRemote : Nat := 2 ^ 41

/-! Saving (R481 to R484). -/

/-- The code that refuses a SAVE, 0 when it is accepted (R482, R492). -/
def State.ckSaveCode (s : State) (p : Nat) : Nat :=
  if s.getF (F.CKPT_STATUS_BUSY p) = 1 ∨ s.getF (F.CKPT_MIRROR_VALID p) = 0 then C.CKPT_BUSY
  else match s.ckList p with
    | none => C.CKPT_LIST_INVALID
    | some (h, es) =>
      if !(es.all (fun e => s.ckSaveOk p e)) then C.CKPT_LIST_INVALID
      else if s.ckAreaLen p < recordTotal es then C.CKPT_CAPACITY
      else
        let lossy := bit (fieldAt h 2 2) 0
        let lin := fieldAt h 20 4
        let old := (s.newestSlot p 0).map (fun i => fieldAt (s.slotBody p i) 28 4)
        let badLin := match old with
          | none => false
          | some l => if lossy then decide (lin ≤ l) else lin != l
        if (!lossy && es.any (fun e => bit (fieldAt e 4 1) 0)) || badLin then C.CKPT_LOSSY_REFUSED else 0

/-- CKPT_SAVE: phase 1 clears the commit block of the own slot; the chunks of every phase are lined up (R483). -/
def doCkptSave (p : Nat) (s : State) : State :=
  let code := s.ckSaveCode p
  if code ≠ 0 then s.refused code 5 6 p
  else match s.ckList p with
    | none => s
    | some (h, es) =>
      let t := match s.newestSlot p 0 with
        | some 0 => 1
        | _ => 0
      let seq := 1 + max ((s.slotSeq p 0).getD 0) ((s.slotSeq p 1).getD 0)
      let s := s.setFs [(F.CKPT_STATUS_BUSY p, 1), (F.CKPT_STATUS_PHASE p, 1), (F.CKPT_STATUS_ENTRY p, 0xFFFF)]
      let s := s.updCk p (fun c => { c with op := 1, slot := t, seq := seq, head := h, entries := es, body := [], result := 0, list := s.getF (F.CKPT_LIST_ADDR p)
                                            todo := [⟨0, 0, 0, 0⟩] ++ dataChunks es ++ [⟨2, 0, 0, 0⟩] })
      let (ok, s) := s.csmWrite (s.ckSlotLb p t) zeroLb
      (if ok then s.ckSlots p else s.ckFail p C.CKPT_CSM_ERROR).answer 0 0

def execCkptSave (p : Fin 4) (s : State) : Host.Outcome State Fault Refusal := .next (doCkptSave p s)

/-- The manifest body, signed with the partition's job key; without one the signature's bytes are left open (R485). (DEDUCED, notes/assumptions/38.md) -/
def State.ckManifest (s : State) (p : Nat) : List Byte × State :=
  let c := s.ck p
  let h := c.head
  let head := leBytes 2 0x000C ++ leBytes 2 (fieldAt h 2 2) ++ leBytes 4 c.entries.length ++ leBytes 8 c.seq ++ slice h 8 8 ++ slice h 16 4 ++ slice h 20 4
    ++ leBytes 4 (s.node p) ++ leBytes 4 (s.getF (F.CKPT_MIRROR_BUDDY p)) ++ List.replicate 24 0 ++ slice h 64 64
  let body := ((c.entries.zip (recordStarts c.entries)).flatMap (fun x =>
    let n := fieldAt x.1 16 8
    let d := (s.csmRead (s.ckAreaLb p c.slot + x.2) (n / 4096)).take n
    slice x.1 0 4 ++ leBytes 1 (fieldAt x.1 4 1 % 2) ++ List.replicate 3 0 ++ leBytes 8 x.2 ++ leBytes 8 n ++ leBytes 8 (x.2 + n / 4096) ++ sha3_512 d
      ++ List.replicate 32 0))
  let m := head ++ body
  let (sig, s) := match s.boot.jobIds.find? (fun x => x.1 == p) with
    | some x => s.sign (jobSeed x.2 (s.node p)) m
    | none => s.freshBytes 4627
  (m ++ sig, s)

/-- A chunk header (R478). -/
def chunkHead (kind origin seq target lbs : Nat) : List Byte :=
  slice (leBytes 1 kind ++ List.replicate 3 0 ++ leBytes 4 origin ++ leBytes 8 seq ++ leBytes 8 target ++ leBytes 4 lbs) 0 4096

/-- Send a chunk's bytes to the buddy's ring (R479). (DEDUCED, notes/assumptions/37.md) -/
def State.ckSend (s : State) (p : Nat) (c : CkChunk) (payload : List Byte) : State :=
  let n := (s.ck p).sent
  let b := chunkHead c.kind (s.node p) (s.ck p).seq c.target (payload.length / 4096) ++ payload
  let r := s.getF (F.CKPT_RING_REGION p)
  let a := s.getF (F.CKPT_RING_ADDR p) + n % 16 * 67108864
  let s := (s.updCk p (fun k => { k with sent := n + 1, todo := k.todo.drop 1, unacked := k.unacked ++ [n] })).count 5 402 1
  (chunksOf 256 (b.length / 262144 + 1) (cutPackets (b.length / 512 + 2) [(a, b)])).foldl (fun s l =>
    s.newTx p (s.getF (F.CKPT_MIRROR_BUDDY p)) 1 (s.getF (F.CKPT_MIRROR_VC p)) 0xFF r (s.region r).key l (.mirror p n)) s

/-- One unit of an entry's record: the blocks [lo, lo + n), data from the snapshot range, then the block table; and the code of a failed read. -/
def State.recordPart (s : State) (e : List Byte) (lo n : Nat) : Nat × List Byte × State :=
  let a := fieldAt e 8 8
  let k := fieldAt e 16 8 / 4096
  let (c, d, s) := s.extRead 0xA0 (a + 4096 * lo) (4096 * (min (lo + n) k - lo))
  if c ≠ 0 ∨ lo + n ≤ k then (c, d, s)
  else
    let (c, all, s) := s.extRead 0xA0 a (4096 * k)
    let tab := blockTable all
    (c, d ++ (tab.drop (4096 * (lo - k))).take (4096 * (lo + n - max lo k)), s)

/-- The running value of the partition's CSM-path CVU context after `b`, data bytes from offset `o` of a shard: INIT at each block of 1 MiB (R199, R206, R473, R474). -/
def blockFeed (x o : Nat) (b : List Byte) : Nat :=
  (segs 1048576 o b.length).foldl (fun (x : Nat) p => crcFeed 2 (if p.1 % 1048576 = 0 then crcInit 2 else x) ((b.drop (p.1 - o)).take p.2)) x

/-- Data bytes from offset `o` of a shard pass the partition's CVU context. -/
def State.ckFeed (s : State) (p o : Nat) (b : List Byte) : State := s.setF (F.CSM_CVU_VAL_VALUE p) (blockFeed (s.getF (F.CSM_CVU_VAL_VALUE p)) o b)

/-- MIRROR_CHUNK_SEND: the next chunk goes out while n − DRAINED < 16; a DATA chunk's blocks are written to the own area too; the MANIFEST waits until every chunk before it has drained (R479, R483). (DEDUCED, notes/assumptions/37.md) -/
def doMirrorChunkSend (p : Nat) (s : State) : State :=
  let c := s.ck p
  match c.op, c.todo with
  | 1, x :: rest =>
    if s.ckDrained p + 16 ≤ c.sent ∨ s.unreachable p (s.getF (F.CKPT_MIRROR_BUDDY p)) ∨ (s.region (s.getF (F.CKPT_RING_REGION p))).valid = false then s
    else if x.kind = 0 then (s.ckSend p x []).setF (F.CKPT_STATUS_PHASE p) 2
    else if x.kind = 1 then
      let e := c.entries.getD x.entry []
      let s := s.setF (F.CKPT_STATUS_ENTRY p) x.entry
      let lo := x.target - (recordStarts c.entries).getD x.entry 0
      let (code, b, s) := s.recordPart e lo x.lbs
      if code ≠ 0 then s.ckFailAt p x.entry code
      else
        let (ok, s) := s.csmWrite (s.ckAreaLb p c.slot + x.target) b
        if !ok then s.ckFailAt p x.entry C.CKPT_CSM_ERROR
        else
          let s := (s.ckSend p x b).ckFeed p (4096 * lo) (b.take (fieldAt e 16 8 - 4096 * lo))
          let s := if rest.any (fun y => y.kind == 1 && y.entry == x.entry) then s else s.ckMark p x.entry 0 noBlock
          if rest.length = 1 then s.setF (F.CKPT_STATUS_PHASE p) 3 else s
    else if s.ckDrained p < c.sent then s
    else
      let (b, s) := s.ckManifest p
      let (ok, s) := s.csmWrite (s.ckSlotLb p c.slot + 1) (toLbs b)
      if !ok then s.ckFail p C.CKPT_CSM_ERROR
      else ((s.updCk p (fun k => { k with body := b })).ckSend p x (toLbs b)).setFs [(F.CKPT_STATUS_PHASE p, 4), (F.CKPT_STATUS_ENTRY p, 0xFFFF)]
  | _, _ => s

def execMirrorChunkSend (p : Fin 4) (s : State) : Host.Outcome State Fault Refusal := .next (s.orWait (doMirrorChunkSend p))

/-- Every transfer of chunk `n` is acknowledged: 1 is added to the buddy's ARRIVED (R479). -/
def State.mirrorAcked (s : State) (p n : Nat) : State :=
  if n < ckFadd ∧ (s.ck p).unacked.contains n ∧ !(s.fab.txs.any (fun t => t.org == .mirror p n && !t.answered)) then
    let r := s.getF (F.CKPT_RING_REGION p)
    (s.updCk p (fun k => { k with unacked := k.unacked.filter (fun x => x != n) })).newTx p (s.getF (F.CKPT_MIRROR_BUDDY p)) 6 (s.getF (F.CKPT_MIRROR_VC p)) 0xFF r
      (s.region r).key [(s.getF (F.CKPT_RING_ADDR p) + 1073741824, leBytes 8 1)] (.mirror p ckFadd)
  else s

/-- CKPT_COMMIT: DRAINED covers the MANIFEST; the commit block is written (R483, R486). -/
def doCkptCommit (p : Nat) (s : State) : State :=
  let c := s.ck p
  if c.op ≠ 1 ∨ c.todo ≠ [] ∨ s.ckDrained p < c.sent then s
  else
    let s := s.setF (F.CKPT_STATUS_PHASE p) 5
    let (ok, s) := s.csmWrite (s.ckSlotLb p c.slot) (commitBlock c.seq c.body)
    if !ok then s.ckFail p C.CKPT_CSM_ERROR
    else ((s.ckEnd p 0).ckSlots p).raise C.CKPT_COMMITTED 5 6 p 0 0

def execCkptCommit (p : Fin 4) (s : State) : Host.Outcome State Fault Refusal := .next (s.orWait (doCkptCommit p))

/-- CKPT_ABANDON (R484). -/
def doCkptAbandon (p : Nat) (s : State) : State := (if (s.ck p).op = 1 then s.ckFail p C.CKPT_ABANDONED else s).answer 0 0

def execCkptAbandon (p : Fin 4) (s : State) : Host.Outcome State Fault Refusal := .next (doCkptAbandon p s)

/-- Whether the buddy cannot be sent to: no route, or no ring region (R399, R402). -/
def State.noBuddy (s : State) (p : Nat) : Bool := s.unreachable p (s.getF (F.CKPT_MIRROR_BUDDY p)) || !(s.region (s.getF (F.CKPT_RING_REGION p))).valid

/-- CKPT_BUDDY_LOST: no advance of DRAINED for MIRROR_MS while the SAVE waits on it, or on a buddy that cannot be sent to (R484). (DEDUCED, notes/assumptions/37.md) -/
def doCkptBuddyLost (p : Nat) (s : State) : State := if (s.ck p).op = 1 ∧ (s.ckDrained p < (s.ck p).sent ∨ s.noBuddy p = true) then s.ckFail p C.CKPT_BUDDY_LOST else s

def execCkptBuddyLost (p : Fin 4) (s : State) : Host.Outcome State Fault Refusal := .next (doCkptBuddyLost p s)

/-! The mirror service (R479, R480). -/

/-- Why a chunk is rejected: its origin, SEQ, kind or extent (R478, R480). (DEDUCED, notes/assumptions/37.md) -/
def State.chunkBad (s : State) (p : Nat) (h : List Byte) : Bool :=
  let k := fieldAt h 0 1
  let n := fieldAt h 24 4
  fieldAt h 4 4 != s.getF (F.CKPT_MIRROR_ORIGIN p) || decide (2 < k) || (k != 0 && (s.ck p).lastOpen != some (fieldAt h 8 8))
    || (k == 1 && (n == 0 || decide (16383 < n) || decide (s.ckAreaLen p < fieldAt h 16 8 + n))) || (k == 2 && (n == 0 || decide (255 < n)))

/-- What the buddy does with a chunk: whether the CSM's commands succeeded. (DEDUCED, notes/assumptions/37.md) -/
def State.takeChunk (s : State) (p : Nat) (h payload : List Byte) : Bool × State :=
  let m := (s.ck p).mslot
  match fieldAt h 0 1 with
  | 0 =>
    let m := match s.newestSlot p 2 with
      | some 2 => 3
      | _ => 2
    (s.updCk p (fun c => { c with mslot := m, lastOpen := some (fieldAt h 8 8) })).csmWrite (s.ckSlotLb p m) zeroLb
  | 1 => s.csmWrite (s.ckAreaLb p m + fieldAt h 16 8) payload
  | _ =>
    let (ok, s) := s.csmWrite (s.ckSlotLb p m + 1) payload
    if !ok then (false, s)
    else s.csmWrite (s.ckSlotLb p m) (commitBlock (fieldAt payload 8 8) (payload.take (bodyLen (fieldAt payload 4 4))))

/-- MIRROR_CHUNK_TAKE: the next arrived chunk is taken in number order and acted on; then 1 is added to the origin's DRAINED, or the chunk is rejected (R479, R480). -/
def doMirrorChunkTake (p : Nat) (s : State) : State :=
  let c := s.ck p
  if s.getF (F.CKPT_MIRROR_VALID p) = 0 ∨ s.ckArrived p ≤ c.taken then s
  else
    let a := s.getF (F.CKPT_RING_ADDR p) + c.taken % 16 * 67108864
    let h := s.readMem a 4096
    let seq := fieldAt h 8 8
    if s.chunkBad p h then
      let s := (s.updCk p (fun c => { c with taken := c.taken + 1, refused := if c.refused.contains seq then c.refused else seq :: c.refused })).satF (F.CKPT_STATUS_REFUSED p) 1
      if c.refused.contains seq then s else s.raise C.CKPT_MIRROR_REFUSED 5 6 (fieldAt h 4 4) 0 seq
    else
      let (ok, s) := s.takeChunk p h (s.readMem (a + 4096) (4096 * fieldAt h 24 4))
      if !ok then s.raise C.CKPT_CSM_ERROR 5 6 p 0 0
      else
        let s := ((s.updCk p (fun c => { c with taken := c.taken + 1 })).ckSlots p).count 5 403 1
        let r := s.getF (F.CKPT_RING_REGION p)
        let o := s.getF (F.CKPT_MIRROR_ORIGIN p)
        if s.unreachable p o ∨ (s.region r).valid = false then s
        else s.newTx p o 6 (s.getF (F.CKPT_MIRROR_VC p)) 0xFF r (s.region r).key [(s.getF (F.CKPT_RING_ADDR p) + 1073741832, leBytes 8 1)] (.mirror p ckFadd)

def execMirrorChunkTake (p : Fin 4) (s : State) : Host.Outcome State Fault Refusal := .next (doMirrorChunkTake p s)

/-- CKPT_MIRROR_WRITE: a write of CKPT_MIRROR (offset 0x20) or CKPT_RING (0x30), refused while BUSY (R497); a new pair numbers its chunks from 0 (R479). (DEDUCED, notes/assumptions/37.md) -/
def doCkptMirrorWrite (p off v : Nat) (s : State) : State :=
  if s.getF (F.CKPT_STATUS_BUSY p) = 1 then s.refused C.CKPT_BUSY 5 6 p
  else if off = 0x30 then
    ((if bits v 0 12 = 0 then s.setF (F.CKPT_RING_ADDR p) (bits v 0 52) else s).setF (F.CKPT_RING_REGION p) (bits v 52 12)).answer 0 0
  else if off = 0x20 then
    let vc := bits v 60 3
    let pair := fun (s : State) => (s.getF (F.CKPT_MIRROR_VALID p), s.getF (F.CKPT_MIRROR_BUDDY p), s.getF (F.CKPT_MIRROR_ORIGIN p))
    let t := s.setFs [(F.CKPT_MIRROR_VALID p, bits v 63 1), (F.CKPT_MIRROR_BUDDY p, bits v 32 28), (F.CKPT_MIRROR_ORIGIN p, bits v 0 28)]
    let t := if 2 ≤ vc then t.setF (F.CKPT_MIRROR_VC p) vc else t
    (if pair s = pair t then t else t.updCk p (fun c => { c with sent := 0, unacked := [], taken := 0, lastOpen := none, refused := [] })).answer 0 0
  else s.answer 0 0

def execCkptMirrorWrite (p : Fin 4) (off : Nat) (val : Word) (s : State) : Host.Outcome State Fault Refusal := .next (doCkptMirrorWrite p off val.toNat s)

/-! SCAN and RESTORE (R488, R489). -/

/-- SCAN or RESTORE begins: PHASE 6. -/
def State.ckBegin (s : State) (p op : Nat) : State :=
  (s.setFs [(F.CKPT_STATUS_BUSY p, 1), (F.CKPT_STATUS_PHASE p, 6), (F.CKPT_STATUS_ENTRY p, 0xFFFF)]).updCk p (fun c =>
    { c with op := op, result := 0, list := s.getF (F.CKPT_LIST_ADDR p) })

/-- CKPT_SCAN: the report and body of each slot (R488). (DEDUCED, notes/assumptions/38.md) -/
def doCkptScan (p : Nat) (s : State) : State :=
  let a := s.getF (F.CKPT_LIST_ADDR p)
  if s.getF (F.CKPT_STATUS_BUSY p) = 1 then s.refused C.CKPT_BUSY 5 6 p
  else if a % 4096 ≠ 0 ∨ s.inPart p a 4194304 = false then s.refused C.CKPT_LIST_INVALID 5 6 p
  else
    let s := s.ckBegin p 2
    if !(s.csmOk (s.ckSlotLb p 0) 1024) then (s.updCk p (fun c => { c with result := C.CKPT_CSM_ERROR })).answer 0 0
    else
      ((List.range 4).foldl (fun (s : State) (i : Nat) =>
        let seq := s.slotSeq p i
        let (v, s) := s.slotValid p i
        let rep := leBytes 8 (fieldAt (s.csmLb (s.ckSlotLb p i)) 0 8) ++ leBytes 1 (b2n seq.isSome + 2 * b2n v) ++ List.replicate 55 0
        let s := (s.extWrite 0xA0 (a + i * 0x100000) rep).2
        ((s.extWrite 0xA0 (a + i * 0x100000 + 4096) (s.csmRead (s.ckSlotLb p i + 1) 255)).2).count 5 401 (256 * 4096)) s).answer 0 0

def execCkptScan (p : Fin 4) (s : State) : Host.Outcome State Fault Refusal := .next (s.orWait (doCkptScan p))

/-- RESULT and BLOCK of a list entry; a code is reported with the entry in VALUE (R481, R489, R516). (DESIGN CHOICE for LOCATION and VALUE, notes/assumptions/71.md) -/
def State.ckResult (s : State) (p i code block : Nat) : State :=
  let s := s.ckMark p i code block
  if code = 0 then s else (s.raise code 5 6 p 0 i).updCk p (fun c => { c with result := C.CKPT_RESTORE_PARTIAL })

/-- Write a restored shard's bytes to its destination: the node in `w` when its bit 31 is set, through region `r`, and otherwise the partition's own memory (R489). (DEDUCED, notes/assumptions/38.md) -/
def State.ckDeliver (s : State) (p i w r a : Nat) (d : List Byte) : Nat × State :=
  if bit w 31 then
    if s.unreachable p (w % 2 ^ 28) then (C.FAB_NODE_UNREACHABLE, s)
    else if (s.region r).valid = false then (C.FAB_REGION, s)
    else (0, (chunksOf 256 (d.length / 262144 + 1) (cutPackets (d.length / 512 + 2) [(a, d)])).foldl (fun s l =>
      s.newTx p (w % 2 ^ 28) 1 (s.getF (F.CKPT_MIRROR_VC p)) 0xFF r (s.region r).key l (.mirror p (ckRemote + i))) s)
  else if s.inPart p a d.length then s.extWrite 0xA0 a d
  else (C.CKPT_LIST_INVALID, s)

/-- One entry of a RESTORE: its code, the first bad block, and the state (R489). (DEDUCED, notes/assumptions/38.md) -/
def State.ckRestoreOne (s : State) (p i : Nat) (h e : List Byte) : Nat × Nat × State :=
  let f := fieldAt e 4 1
  let slot := 2 * bits f 1 1 + bits f 2 1
  let (valid, s) := s.slotValid p slot
  if !valid then (C.CKPT_SIGNATURE_INVALID, noBlock, s)
  else
    let b := s.slotBody p slot
    let n := fieldAt b 4 4
    match ((List.range n).map (fun k => slice b (128 + 128 * k) 128)).find? (fun m => fieldAt m 0 4 == fieldAt e 0 4) with
    | none => (C.CKPT_NOT_FOUND, noBlock, s)
    | some m =>
      let bytes := fieldAt m 16 8
      let area := s.ckAreaLb p slot
      if slice b 16 8 ≠ slice h 8 8 ∨ slice b 64 64 ≠ slice h 64 64 then (C.CKPT_NOT_FOUND, noBlock, s)
      else if !(s.csmOk (area + fieldAt m 8 8) (recordLbs bytes)) then (C.CKPT_CSM_ERROR, noBlock, s)
      else
        let d := (s.csmRead (area + fieldAt m 8 8) (cdiv bytes 4096)).take bytes
        let tab := s.csmRead (area + fieldAt m 24 8) (tableLbs bytes)
        let s := (s.count 5 401 (4096 * recordLbs bytes)).ckFeed p 0 d
        let blocks := chunksOf 1048576 (cdiv bytes 1048576) d
        match (List.range blocks.length).find? (fun k => crcOf 2 (blocks.getD k []) != fieldAt tab (8 * k) 8) with
        | some k => (C.CKPT_BLOCK_MISMATCH, k, s)
        | none =>
          let a := fieldAt e 8 8
          let w := fieldAt e 24 4
          let (code, s) := s.ckDeliver p i w (fieldAt e 28 2) a d
          if code ≠ 0 then (code, noBlock, s) else if sha3_512 d = slice m 32 64 then (0, noBlock, s) else (C.CKPT_DIGEST_MISMATCH, noBlock, s)

/-- CKPT_RESTORE: each entry of the list in order (R489). -/
def doCkptRestore (p : Nat) (s : State) : State :=
  if s.getF (F.CKPT_STATUS_BUSY p) = 1 then s.refused C.CKPT_BUSY 5 6 p
  else match s.ckList p with
    | none => s.refused C.CKPT_LIST_INVALID 5 6 p
    | some (h, es) =>
      if !(es.all ckRestoreOk) then s.refused C.CKPT_LIST_INVALID 5 6 p
      else
        ((es.zipIdx).foldl (fun s x =>
          let s := s.setF (F.CKPT_STATUS_ENTRY p) x.2
          let (code, blk, s) := s.ckRestoreOne p x.2 h x.1
          s.ckResult p x.2 code blk) (s.ckBegin p 3)).answer 0 0

def execCkptRestore (p : Fin 4) (s : State) : Host.Outcome State Fault Refusal := .next (doCkptRestore p s)

/-- CKPT_OP_DONE: a SCAN, or a RESTORE whose remote writes are all answered, finishes (R489). -/
def doCkptOpDone (p : Nat) (s : State) : State :=
  let c := s.ck p
  let waits := s.fab.txs.any (fun t => !t.answered && (match t.org with
    | .mirror q n => q == p && decide (ckRemote ≤ n)
    | _ => false))
  if (c.op ≠ 2 ∧ c.op ≠ 3) ∨ waits then s else s.ckEnd p c.result

def execCkptOpDone (p : Fin 4) (s : State) : Host.Outcome State Fault Refusal := .next (s.orWait (doCkptOpDone p))

/-- A remote write of a RESTORE is answered by NACK: the entry fails with its code (R489). -/
def State.restoreNacked (s : State) (p n code : Nat) : State := if ckRemote ≤ n then s.ckResult p (n - ckRemote) code noBlock else s

end Sys2Proof.Machine
end

