-- ==== Sys2Proof/Machine/Reduce.lean ====
section
/-! DEFINITION. Element and partial forms of collectives, their combination and the root's read-out (R446 to R448). -/
namespace Sys2Proof.Machine

/-- Element size of a TYPE (R354). -/
def colE (ty : Nat) : Nat := match ty with
  | 1 => 8
  | 4 => 8
  | 3 => 2
  | _ => 4

/-- Whether a reduction runs two passes: an FP64 SUM. -/
def twoPass (ty rop : Nat) : Bool := ty == 4 && rop == 0

/-- Partial-form size in bytes; pass 0 of an FP64 SUM moves anchor words (R447). -/
def colP (ty rop pass : Nat) : Nat :=
  if rop ≠ 0 then colE ty
  else match ty with
    | 2 => 64
    | 3 => 64
    | 4 => if pass = 0 then 4 else 72
    | _ => colE ty

/-- An element's value. -/
def colVal (ty : Nat) (b : List Byte) : Fv :=
  match ty with
  | 0 => Fv.ofInt (sint 32 (leNat b))
  | 1 => Fv.ofInt (sint 64 (leNat b))
  | 2 => fmtF32.decode (leNat b)
  | 3 => (⟨8, 7, 127, true, true⟩ : Fmt).decode (leNat b)
  | _ => fmtF64.decode (leNat b)

/-- LG32 wire word. -/
def lg32Wire (x : Lg32) : List Byte := leBytes 40 x.i ++ leBytes 1 (b2n x.nan + 2 * b2n x.pos + 4 * b2n x.neg) ++ List.replicate 23 0

def lg32OfWire (b : List Byte) : Lg32 := let f := fieldAt b 40 1; ⟨fieldAt b 0 40, bit f 0, bit f 1, bit f 2, false, 0⟩

/-- LG64W wire word: the window and flags; the anchor travels apart. -/
def lgwWire (x : Lgw) : List Byte :=
  leBytes 64 x.w ++ leBytes 1 (b2n x.nan + 2 * b2n x.pos + 4 * b2n x.neg + 16 * b2n x.above + 32 * b2n x.dropped) ++ List.replicate 7 0

def lgwOfWire (anchor b : List Byte) : Lgw :=
  let f := fieldAt b 64 1
  let g := fieldAt anchor 2 1
  ⟨fieldAt b 0 64, sint 16 (fieldAt anchor 0 2), bit f 0 || bit g 0, bit f 1 || bit g 1, bit f 2 || bit g 2, bit g 3, bit f 4, bit f 5, false, 1, 0⟩

/-- Anchor word. -/
def anchorWire (x : Lgw) : List Byte := leBytes 2 (unsint 16 x.anchor) ++ leBytes 1 (b2n x.nan + 2 * b2n x.pos + 4 * b2n x.neg + 8 * b2n x.anchorSet) ++ leBytes 1 0

/-- An element in partial form; `anchor` is the anchor word of an FP64 SUM's second pass. -/
def toPartial (ty rop pass : Nat) (anchor e : List Byte) : List Byte :=
  if rop ≠ 0 then e
  else match ty with
    | 2 => lg32Wire (Lg32.empty.add (colVal 2 e))
    | 3 => lg32Wire (Lg32.empty.add (colVal 3 e))
    | 4 =>
      if pass = 0 then anchorWire (Lgw.empty.pass1 (colVal 4 e))
      else lgwWire (({ Lgw.empty with anchor := sint 16 (fieldAt anchor 0 2), anchorSet := bit (fieldAt anchor 2 1) 3, phase := 1 }).pass2 (colVal 4 e))
    | _ => e

/-- Two partials combined (R447). -/
def combine (ty rop pass : Nat) (a b : List Byte) : List Byte :=
  if rop ≠ 0 then
    let x := colVal ty a
    let y := colVal ty b
    if ty < 2 then (if (Fv.cmp x y == .lt) == (rop == 1) then b else a)
    else
      let f := (fmtOf (if ty = 2 then 0xA else if ty = 3 then 0x8 else 0xB)).getD fmtF64
      leBytes (colE ty) (f.round .rne false (if rop = 1 then Fv.max x y else Fv.min x y)).1
  else match ty with
    | 0 => leBytes 4 (leNat a + leNat b)
    | 1 => leBytes 8 (leNat a + leNat b)
    | 4 =>
      if pass = 0 then
        let fa := fieldAt a 2 1
        let fb := fieldAt b 2 1
        let ea := sint 16 (fieldAt a 0 2)
        let eb := sint 16 (fieldAt b 0 2)
        let e := if bit fa 3 then (if bit fb 3 then max ea eb else ea) else eb
        leBytes 2 (unsint 16 e) ++ leBytes 1 (fa ||| fb) ++ leBytes 1 0
      else leBytes 64 (fieldAt a 0 64 + fieldAt b 0 64) ++ leBytes 1 (fieldAt a 64 1 ||| fieldAt b 64 1) ++ List.replicate 7 0
    | _ =>
      let x := lg32OfWire a
      let y := lg32OfWire b
      lg32Wire ⟨(x.i + y.i) % 2 ^ 320, x.nan || y.nan, x.pos || y.pos, x.neg || y.neg, false, 0⟩

/-- The root's read-out of a combined partial to TYPE with RNE (R448). -/
def readPartial (ty rop : Nat) (anchor p : List Byte) : List Byte :=
  if rop ≠ 0 then p
  else match ty with
    | 2 => leBytes 4 ((lg32OfWire p).readOut fmtF32).1
    | 3 => leBytes 2 ((lg32OfWire p).readOut ⟨8, 7, 127, true, true⟩).1
    | 4 => leBytes 8 (lgwOfWire anchor p).readOut.1
    | _ => p

/-- A byte string cut into pieces of `k` bytes. -/
def cutBy (k : Nat) (b : List Byte) : List (List Byte) := if k = 0 then [] else (List.range (b.length / k)).map (fun i => (b.drop (k * i)).take k)

/-- Values received from a child as partials: element form when the length says so. -/
def partialsOf (ty rop pass n : Nat) (anchors b : List Byte) : List (List Byte) :=
  if b.length = n * colP ty rop pass then cutBy (colP ty rop pass) b
  else ((cutBy (colE ty) b).zipIdx).map (fun x => toPartial ty rop pass ((anchors.drop (4 * x.2)).take 4) x.1)

/-- Element-wise combination of two lists of partials. -/
def combineAll (ty rop pass : Nat) (a b : List (List Byte)) : List (List Byte) := List.zipWith (combine ty rop pass) a b

end Sys2Proof.Machine
end

