-- ==== Sys2Proof/Machine/Collect.lean ====
section
/-! DEFINITION. NIC contexts, triggered operations and the Reduction Engine: records, TOT entries, barriers and scalar reductions, chunked bulk operations, broadcasts, spills and failures (R433 to R467, R578). -/
namespace Sys2Proof.Machine

/-! Contexts and records. -/

/-- The partition that owns a NIC context (R549). -/
def State.ctxPart (s : State) (k : Nat) : Nat := s.nicOwner.getD (k % 8) 0 % 4

def State.updColl (s : State) (f : Coll → Coll) : State := { s with coll := f s.coll }

/-- Counter `x` of a NIC context (R502). -/
def State.countNic (s : State) (k x : Nat) : State := s.count 5 (304 + 8 * k + x) 1

/-- NIC_STATUS.BUSY: an operation of the context is in progress (R466). -/
def State.nicBusy (s : State) (k : Nat) : State := s.setF (F.NIC_STATUS_BUSY k) (b2n (s.coll.recs.any (fun r => r.ctx == k)))

/-- A record's code is kept in NIC_STATUS and reported (R439, R516); the codes with which a collective ends have been reported when it ended. -/
def State.nicFail (s : State) (k : Nat) (f : Fld) (code : Nat) : State :=
  let s := if [C.COLL_FAILED, C.BCAST_PARTIAL, C.FRAME_ABORTED].contains code then s else s.raise code 5 4 k 0 0
  s.hwSets [(f, 1), (F.NIC_STATUS_LAST_CODE k, code)]

def TotEntry.unused : TotEntry := ⟨0, 0, 0, 0, 0, false, false, false, 0, false, false, 0⟩

/-- TOT entry `i` of context `k`. -/
def State.tot (s : State) (k i : Nat) : TotEntry := ((s.coll.tots.find? (fun x => x.1 == 1024 * k + i)).map (fun x => x.2)).getD TotEntry.unused

def State.setTot (s : State) (k i : Nat) (e : TotEntry) : State :=
  s.updColl (fun c => { c with tots := Assoc.put c.tots (1024 * k + i) e TotEntry.unused })

/-- The group table entry of a group (R433). -/
def State.group (s : State) (g : Nat) : Option Group := (s.fab.groups.find? (fun x => x.1 == g)).map (fun x => x.2)

/-! Record fields (R446). -/

def CollOp.op (o : CollOp) : Nat := fieldAt o.bytes 0 1
def CollOp.ty (o : CollOp) : Nat := fieldAt o.bytes 2 1
def CollOp.rop (o : CollOp) : Nat := fieldAt o.bytes 3 1
def CollOp.nval (o : CollOp) : Nat := fieldAt o.bytes 4 1
def CollOp.nsrc (o : CollOp) : Nat := fieldAt o.bytes 5 1
def CollOp.region (o : CollOp) : Nat := fieldAt o.bytes 6 2 % 4096
def CollOp.len (o : CollOp) : Nat := fieldAt o.bytes 8 8
def CollOp.from_ (o : CollOp) : Nat := fieldAt o.bytes 16 8
def CollOp.stride (o : CollOp) : Nat := fieldAt o.bytes 24 8
def CollOp.dst (o : CollOp) : Nat := fieldAt o.bytes 32 8
def CollOp.list (o : CollOp) : Nat := fieldAt o.bytes 40 8
def CollOp.two (o : CollOp) : Bool := twoPass o.ty o.rop && (o.op == 0x81 || o.op == 0x82 || o.op == 0x83)
def CollOp.isBcast (o : CollOp) : Bool := o.op == 0x85 || o.op == 0x86
def CollOp.isBulk (o : CollOp) : Bool := 0x82 ≤ o.op

/-- Elements of a chunk, or its bytes for operations that move bytes (R453). -/
def CollOp.perChunk (o : CollOp) : Nat := if o.op = 0x82 ∨ o.op = 0x83 then 262144 / colP o.ty o.rop 1 else 262144

/-- Elements or bytes of the whole operation's result. -/
def CollOp.total (o : CollOp) (members : Nat) : Nat := if o.op = 0x84 then o.len * members else o.len

/-- Bytes of one of those. -/
def CollOp.width (o : CollOp) : Nat := if o.op = 0x82 ∨ o.op = 0x83 then colE o.ty else 1

/-- Whether a collective record keeps R446 for its group. -/
def State.colOk (s : State) (b : List Byte) : Bool :=
  let op := fieldAt b 0 1
  let count := fieldAt b 4 1
  let nsrc := fieldAt b 5 1
  let len := fieldAt b 8 8
  let scal := op == 0x81
  match s.group (fieldAt b 1 1) with
  | none => false
  | some g =>
    decide (0x80 ≤ op) && decide (op ≤ 0x86) && decide (fieldAt b 2 1 ≤ 4) && decide (fieldAt b 3 1 ≤ 2)
      && (if scal then decide (1 ≤ count) && decide (count ≤ 8) else count == 0)
      && (if op = 0x80 then nsrc == 0 else if op = 0x81 ∨ op = 0x82 then decide (1 ≤ nsrc) && decide (nsrc ≤ 64) else nsrc == 1)
      && bits (fieldAt b 6 2) 12 4 == 0
      && (if op = 0x82 then true else if op = 0x83 then len % g.members == 0 else if 0x84 ≤ op then len % 64 == 0 else len == 0)
      && fieldAt b 24 8 % 64 == 0
      && (if op = 0x86 then decide (1 ≤ fieldAt b 48 4) && decide (fieldAt b 48 4 ≤ 4096) else fieldAt b 48 4 == 0)
      && ((op == 0x85 && g.root) || op == 0x86 || fieldAt b 40 8 == 0)
      && bits (fieldAt b 52 2) 10 5 == 0 && zeroAt b 54 74

/-- Whether a remote operation record keeps R415. -/
def remoteOk (b : List Byte) : Bool :=
  let op := fieldAt b 0 1
  let n := fieldAt b 1 1
  (if op = 1 ∨ op = 2 then decide (1 ≤ n) && decide (n ≤ 64) else if op = 4 then n == 64 else if op = 5 then n == 16 else if op = 6 then n == 8
    else (op == 0xA || op == 0xB) && n == 0)
  && decide (2 ≤ fieldAt b 2 1) && decide (fieldAt b 2 1 ≤ 7) && zeroAt b 3 1 && decide (fieldAt b 4 4 < 2 ^ 28) && decide (fieldAt b 8 8 < 2 ^ 52)
  && decide (fieldAt b 16 2 < 4096) && zeroAt b 18 6 && zeroAt b 32 32

/-! Completion of records and TOT entries (R439, R441, R443, R444). -/

/-- Increments that a completion raises: (context, entry, increment). They are applied by `settleTots`. -/
abbrev Incs := List (Nat × Nat × Nat)

/-- A TOT entry completes with a status: its completion leaves for the SCUs, its CHAIN is raised, and an entry that crossed a frame clears. -/
def State.totComplete (s : State) (k i code : Nat) : Incs × State :=
  let e := s.tot k i
  let p := s.ctxPart k
  let s := s.sendDep p 7 (65536 * k + i) (s.frameCyc p + 24) code (s.node p)
  let chain : Incs := if bit e.chain 15 then [(bits e.chain 10 3, bits e.chain 0 10, 1)] else []
  if e.cross then
    (chain ++ (if e.heldInc = 0 then [] else [(k, i, e.heldInc)]),
      s.setTot k i { e with count := 0, fired := false, done := false, failed := false, code := 0, busy := false, cross := false, heldInc := 0 })
  else (chain, s.setTot k i { e with done := true, failed := code != 0, code := if code = 0 then e.code else code, busy := false })

/-- A posted record completes with a code (R439). -/
def State.recComplete (s : State) (num code : Nat) : Incs × State :=
  match s.coll.recs.find? (fun r => r.num == num) with
  | none => ([], s)
  | some r =>
    let k := r.ctx
    let s := (s.updColl (fun c => { c with recs := c.recs.filter (fun x => x.num != num) })).nicBusy k
    let s := if code = 0 then (s.setF (F.NIC_DONE_COUNT k) (s.getF (F.NIC_DONE_COUNT k) + 1)).countNic k 1
      else (s.nicFail k (F.NIC_STATUS_FAILED k) code).countNic k 2
    let s := if s.getF (F.NIC_CTRL_CORE_DRIVEN k) = 1 ∧ s.getF (F.NIC_CTRL_IRQ_EN k) = 1 then s.updColl (fun c => { c with irq := c.irq ++ [k] }) else s
    match r.tot with
    | some i => s.totComplete k i code
    | none => ([], s)

/-! Posting (R416, R435, R437). -/

/-- Post a remote operation record (R415, R416): a single transfer, or a place in a gather; refused at the source it fails. -/
def State.postRemote (s : State) (k num : Nat) (b : List Byte) : Incs × State :=
  let p := s.ctxPart k
  let op := fieldAt b 0 1
  let n := fieldAt b 1 1
  let dst := fieldAt b 4 4
  let a := fieldAt b 8 8
  let r := fieldAt b 16 2
  let vc := fieldAt b 2 1
  let resp := fieldAt b 24 8
  let data := (b.drop 64).take n
  if s.unreachable p dst then s.recComplete num C.FAB_NODE_UNREACHABLE
  else if (s.region r).valid = false then s.recComplete num C.FAB_REGION
  else
    let lvl := (levelOf (s.node p) dst).getD 1
    let s := if op = 0xB then s.closeGathers (fun g => g.ctx == k && g.dst == dst && !g.closed) else s
    if lvl = 1 ∨ op = 0xA ∨ op = 0xB then
      let payload := if op = 2 then leBytes 2 n ++ List.replicate 6 0 else if op = 0xA ∨ op = 0xB then [] else data
      ([], s.newTx p dst op vc 0xFF r (s.region r).key [(a, payload)] (.nic k num resp))
    else ([], s.joinGather k dst r vc lvl op n a (if op = 2 then [] else data) resp num)

/-- Operations of a group in flight. -/
def State.inFlight (s : State) (g : Nat) : Nat := (s.coll.ops.filter (fun o => o.group == g)).length

/-- RE_STATUS (R466). -/
def State.reStatus (s : State) : State :=
  let n := ((s.coll.ops.flatMap (fun o => o.chunks)).filter (fun c => c.slot.isSome)).length
  s.setFs [(F.RE_STATUS_SLOTS_IN_USE, n), (F.RE_STATUS_SLOTS_HIGH, max n (s.getF F.RE_STATUS_SLOTS_HIGH)), (F.RE_STATUS_SCALAR_IN_USE, s.coll.scalarHeld.length)]

/-- A scalar slot for a (group, GSEQ), on its first packet or posting: the lowest slot not held (R451). -/
def State.takeScalar (s : State) (g q : Nat) : State :=
  if s.coll.scalarHeld.any (fun x => x.1 == g && x.2.1 == q) then s
  else
    let n := ((List.range 4096).find? (fun i => !(s.coll.scalarHeld.any (fun x => x.2.2 == i)))).getD 4095
    (s.updColl (fun c => { c with scalarHeld := c.scalarHeld ++ [(g, q, n)] })).reStatus

/-- Accept a collective record on its group: it takes the next GSEQ and its chunk numbers (R435, R453). -/
def State.postColl (s : State) (k num : Nat) (b : List Byte) : State :=
  let g := fieldAt b 1 1
  let q := s.getF (F.GRP_SEQ_POSTED g)
  let o : CollOp := ⟨g, q, k, num, b, false, 0, 0, 0, [], 0, false, [], 0, false, 0, [], [], [], false, 0, []⟩
  let members := ((s.group g).map (fun x => x.members)).getD 1
  let n := if o.isBulk then cdiv (o.total members) o.perChunk else 0
  let c0 := s.coll.chunkNext.get g 0
  let dead := s.coll.scalarDead && !o.isBulk
  let o := { o with chunk0 := c0, count := n, fail := if dead then C.COLL_FAILED else 0 }
  let s := (s.setF (F.GRP_SEQ_POSTED g) (q + 1)).updColl (fun c => { c with ops := c.ops ++ [o], chunkNext := c.chunkNext.put g (c0 + n) 0 })
  let s := s.countNic k 5
  if o.isBulk then s else (s.takeScalar g q).count 5 386 1

/-- Post a record: rejected when it breaks its layout, held when its group has 64 operations in flight (R435, R437, R439). -/
def State.post (s : State) (k : Nat) (b : List Byte) (tot : Option Nat) : Incs × State :=
  let op := fieldAt b 0 1
  let bad := if 0x80 ≤ op then !(s.colOk b) else !(remoteOk b)
  if bad then ([], s.nicFail k (F.NIC_STATUS_REJECTED k) C.COLL_DESC)
  else
    let num := s.coll.nextRec
    let s := s.updColl (fun c => { c with nextRec := num + 1, recs := c.recs ++ [⟨num, k, tot, op⟩] })
    let s := (s.nicBusy k).countNic k 0
    let s := match tot with
      | some i => s.setTot k i { s.tot k i with busy := true }
      | none => s
    if op < 0x80 then s.postRemote k num b
    else if 64 ≤ s.inFlight (fieldAt b 1 1) then ([], s.updColl (fun c => { c with held := c.held ++ [(k, num, b, tot)] }))
    else ([], s.postColl k num b)

/-- Records that waited for their group are accepted as far as R435 allows, in order. -/
def State.acceptHeld (s : State) : State :=
  let l := s.coll.held
  l.foldl (fun s x =>
    let g := fieldAt x.2.2.1 1 1
    if 64 ≤ s.inFlight g ∨ !(s.coll.held.contains x) then s
    else (s.updColl (fun c => { c with held := c.held.erase x })).postColl x.1 x.2.1 x.2.2.1) s

/-! Triggered operations (R441, R442). -/

/-- An increment reaches an entry's counter, which fires when it first reaches THRESHOLD. (DEDUCED, notes/assumptions/36.md) -/
def State.totInc (s : State) (k i n : Nat) : Incs × State :=
  let e := s.tot k i
  if e.cross then ([], s.setTot k i { e with heldInc := satAdd 32 e.heldInc n })
  else
    let c := satAdd 32 e.count n
    let go := e.thr != 0 && !e.fired && decide (e.thr ≤ c) && s.getF (F.NIC_CTRL_ENABLE k) == 1 && s.getF (F.NIC_CTRL_CORE_DRIVEN k) == 0
    let s := s.setTot k i { e with count := c, fired := e.fired || go }
    if !go then ([], s)
    else
      let s := (s.commit (s.ctxPart k)).countNic k 3
      let (code, b, s) := s.extRead 0xA0 e.record 128
      if code ≠ 0 then ([], s.nicFail k (F.NIC_STATUS_REJECTED k) code) else s.post k b (some i)

/-- Apply increments and those they cause, at most `n` deep. -/
def State.settleTots (s : State) : Nat → Incs → State
  | 0, _ => s
  | n + 1, l =>
    if l.isEmpty then s
    else
      let (next, s) := l.foldl (fun (acc : Incs × State) x => let (m, s) := acc.2.totInc x.1 x.2.1 x.2.2; (acc.1 ++ m, s)) ([], s)
      s.settleTots n next

/-- Enough depth for every chain: each entry fires once in a frame. -/
def totDepth : Nat := 8192

/-- Fences completed since the last settlement raise the entries that name them (R441). -/
def State.settleFences (s : State) : State :=
  if s.fab.doneFences.isEmpty then s
  else
    let incs : Incs := s.fab.doneFences.flatMap (fun n => (s.coll.tots.filter (fun x => bit x.2.fence 15 && bits x.2.fence 0 12 == n)).map (fun x => (x.1 / 1024, x.1 % 1024, 1)))
    { s with fab := { s.fab with doneFences := [] } }.settleTots totDepth incs

/-- Cycle 0 of a frame of partition `p` (R444). -/
def State.rollTots (s : State) (p : Nat) : State :=
  let mine := s.coll.tots.filter (fun x => s.ctxPart (x.1 / 1024) == p)
  let s := { s with coll := { s.coll with spilledFrame := false } }
  mine.foldl (fun s x =>
    let e := x.2
    if e.busy then (s.setTot (x.1 / 1024) (x.1 % 1024) { e with cross := true }).raise C.COLL_FRAME_CROSS 5 4 (1024 * (x.1 / 1024) + x.1 % 1024) 0 0
    else s.setTot (x.1 / 1024) (x.1 % 1024) { e with count := 0, fired := false, done := false, failed := false, code := 0 }) s

/-- TRIGGER: the increment reaches the F-die in cycle s + 25 of its start, and the command completes (R222, R229). -/
def doTrigger (die idx : Nat) (s : State) : State :=
  match s.toRun die idx opTrigger with
  | none => s
  | some (c, r) =>
    let s := s.toCyc (s.partOf die) (r.start + 25)
    let s := s.perform die idx (some (r.start + 25)) 0
    s.settleTots totDepth [(fieldAt c.operands 0 1 % 8, fieldAt c.operands 2 2 % 1024, fieldAt c.operands 4 4)]

def execTrigger (die : Fin 4) (idx : Nat) (s : State) : Host.Outcome State Fault Refusal := .next (doTrigger die idx s)

/-- TAIL of an enabled context, written by a host or core of its partition (R438). -/
def doNicDoorbell (k p tail : Nat) (s : State) : State :=
  if s.getF (F.NIC_CTRL_ENABLE k) = 0 ∨ s.ctxPart k ≠ p then s else s.setF (F.NIC_QPOS_TAIL k) tail

/-- NIC_DOORBELL: partition `p`'s host writes the page through BAR2 of LD `p` (R438, R551); a core's write is a store (R316). -/
def execNicDoorbell (ctx : Fin 8) (p : Fin 4) (tail : Nat) (s : State) : Host.Outcome State Fault Refusal := .next (s.bar2 p (doNicDoorbell ctx p tail))

/-- Of an increment written to a doorbell page, bits [47:16] go to the counter of entry bits [9:0] (R438). -/
def doTotDoorbellIncrement (k p v : Nat) (s : State) : State :=
  if s.getF (F.NIC_CTRL_ENABLE k) = 0 ∨ s.ctxPart k ≠ p then s else s.settleTots totDepth [(k, bits v 0 10, bits v 16 32)]

/-- TOT_DOORBELL_INCREMENT: as NIC_DOORBELL (R438, R551). -/
def execTotDoorbellIncrement (ctx : Fin 8) (p : Fin 4) (val : Nat) (s : State) : Host.Outcome State Fault Refusal :=
  .next (s.orWait (fun s => s.bar2 p (doTotDoorbellIncrement ctx p val)))

/-- NIC_RECORD_POST: the next ring record between HEAD and TAIL is read and posted; a context whose record waits for its group posts nothing (R435, R437). -/
def doNicRecordPost (k : Nat) (s : State) : State :=
  let head := s.getF (F.NIC_QPOS_HEAD k)
  let lg := s.getF (F.NIC_QBASE_LOG2_SIZE k)
  if s.getF (F.NIC_CTRL_ENABLE k) = 0 ∨ head % 2 ^ lg = s.getF (F.NIC_QPOS_TAIL k) % 2 ^ lg ∨ s.coll.held.any (fun x => x.1 == k) then s
  else
    let (code, b, s) := s.extRead 0xA0 (s.getF (F.NIC_QBASE_BASE k) + 128 * (head % 2 ^ lg)) 128
    let s := s.setF (F.NIC_QPOS_HEAD k) ((head % 2 ^ lg + 1) % 2 ^ lg)
    if code ≠ 0 then s.nicFail k (F.NIC_STATUS_REJECTED k) code
    else
      let (l, s) := s.post k b none
      s.settleTots totDepth l

def execNicRecordPost (ctx : Fin 8) (s : State) : Host.Outcome State Fault Refusal := .next (s.orWait (doNicRecordPost ctx))

/-! TOT loads (R440). -/

/-- Validate a TOT image: the entries, or the offending entry (0xFFFF for the header). -/
def State.totImage (s : State) (b : List Byte) : Except Nat (List TotEntry) :=
  let n := fieldAt b 2 2
  if fieldAt b 0 2 ≠ 0x010B ∨ n = 0 ∨ 1024 < n ∨ fieldAt b 4 4 ≠ 64 + 32 * n ∨ zeroAt b 8 56 = false then .error 0xFFFF
  else
    let off := fun (i : Nat) => 64 + 32 * i
    match (List.range n).find? (fun i => fieldAt b (off i) 4 != 0 &&
        (bits (fieldAt b (off i + 4) 2) 13 2 != 0 || bits (fieldAt b (off i + 6) 2) 12 3 != 0 || fieldAt b (off i + 8) 8 % 128 != 0
          || !(s.inT1 (fieldAt b (off i + 8) 8) 128) || !(zeroAt b (off i + 16) 16))) with
    | some i => .error i
    | none => .ok ((List.range n).map (fun i => { TotEntry.unused with
        thr := fieldAt b (off i) 4, chain := fieldAt b (off i + 4) 2, fence := fieldAt b (off i + 6) 2, record := fieldAt b (off i + 8) 8 }))

/-- TOT_LOAD: CTX and SRC are set; GO starts a load while the context's partition is IDLE or STOPPED. -/
def doTotLoad (v : Nat) (s : State) : State :=
  let k := bits v 52 3
  let src := if bits v 0 6 = 0 then bits v 0 52 else s.getF F.TOT_LOAD_SRC
  let put := fun (s : State) => s.setFs [(F.TOT_LOAD_CTX, k), (F.TOT_LOAD_SRC, src)]
  if bit v 63 = false then (put s).answer 0 0
  else if !(s.atRest (s.ctxPart k)) ∨ s.coll.totLoad.isSome then s.refused C.TOT_LOAD_STATE 5 4 k
  else (((put s).setF F.TOT_LOAD_STATUS_BUSY 1).updColl (fun c => { c with totLoad := some (k, src) })).answer 0 0

def execTotLoad (val : Word) (s : State) : Host.Outcome State Fault Refusal := .next (doTotLoad val.toNat s)

/-- TOT_LOAD_DONE: the table is replaced, or stays after a failure. -/
def doTotLoadDone (s : State) : State :=
  match s.coll.totLoad with
  | none => s
  | some (k, src) =>
    let s := s.updColl (fun c => { c with totLoad := none })
    let n := max 64 (min 32832 (s.readNat (src + 4) 4))
    let (c, img, s) := if s.inT1 src n then s.extRead 0xA0 src n else (C.TOT_TABLE_INVALID, [], s)
    let fin := fun (s : State) (code e : Nat) => s.hwSets [(F.TOT_LOAD_STATUS_CODE, code), (F.TOT_LOAD_STATUS_ENTRY, e), (F.TOT_LOAD_STATUS_DONE, 1), (F.TOT_LOAD_STATUS_BUSY, 0)]
    if c ≠ 0 then fin (s.raise c 5 4 k 0 0) c 0xFFFF
    else match s.totImage img with
      | .error e => fin (s.raise C.TOT_TABLE_INVALID 5 4 k 0 e) C.TOT_TABLE_INVALID e
      | .ok l =>
        let s := s.updColl (fun c => { c with tots := c.tots.filter (fun x => x.1 / 1024 != k) })
        fin ((l.zipIdx).foldl (fun s x => s.setTot k x.2 x.1) s) 0 0xFFFF

def execTotLoadDone (s : State) : Host.Outcome State Fault Refusal := .next (s.orWait doTotLoadDone)

/-! Operations in flight. -/

def State.opAt (s : State) (g q : Nat) : Option CollOp := s.coll.ops.find? (fun o => o.group == g && o.gseq == q)

def State.updOp (s : State) (g q : Nat) (f : CollOp → CollOp) : State :=
  s.updColl (fun c => { c with ops := c.ops.map (fun o => if o.group == g && o.gseq == q then f o else o) })

def State.failOp (s : State) (g q code : Nat) : State := s.updOp g q (fun o => if o.fail = 0 then { o with fail := code } else o)

def State.updChunk (s : State) (g q idx : Nat) (f : Chunk → Chunk) : State :=
  s.updOp g q (fun o => { o with chunks := o.chunks.map (fun c => if c.idx == idx then f c else c) })

/-- Send a collective packet or WRITE of operation (g, q): `tag` says what its answer means (0 chunk up, 1 anchors up, 2 results down, 3 other; plus 4 × chunk). -/
def State.colSend (s : State) (o : CollOp) (dst op vc region key : Nat) (addrs : List (Nat × List Byte)) (tag : Nat) : State :=
  s.newTx (s.ctxPart o.ctx) dst op vc o.group region key addrs (.coll o.group o.gseq tag)

/-- Bytes at an address as the packets of one WRITE transfer (at most 256 of 1,024 bytes); no bytes give one empty packet. -/
def writeAddrs (a : Nat) (b : List Byte) : List (Nat × List Byte) := if b.isEmpty then [(a, [])] else cutPackets (b.length / 512 + 2) [(a, b)]

/-- A payload in PARTs of at most 256 bytes (R449). -/
def partsOf (b : List Byte) : List (List Byte) := if b.isEmpty then [[]] else chunksOf 256 (b.length + 1) b

/-- Send a COL packet's payload in parts. -/
def State.colPacket (s : State) (o : CollOp) (dst op pass : Nat) (b : List Byte) : State :=
  ((partsOf b).zipIdx).foldl (fun s x => s.colSend o dst op 0 0 0 [(o.gseq + pass * 2 ^ 32 + x.2 * 2 ^ 40, x.1)] 3) s

/-! BARRIER and SCALAR (R450). -/

/-- The package's own contributions to a SCALAR pass, in partial form; the code of a failed read. -/
def State.ownScalar (s : State) (o : CollOp) : Nat × List (List Byte) × State :=
  let (c, bs, s) := (List.range o.nsrc).foldl (fun (acc : Nat × List (List (List Byte)) × State) i =>
    if acc.1 ≠ 0 then acc
    else
      let (c, b, s) := acc.2.2.extRead 0xA0 (o.from_ + i * o.stride) (8 * o.nval)
      (c, acc.2.1 ++ [(cutBy 8 b).map (fun x => x.take (colE o.ty))], s)) (0, [], s)
  let ps := bs.map (fun l => (l.zipIdx).map (fun x => toPartial o.ty o.rop o.pass ((o.anchors.drop (4 * x.2)).take 4) x.1))
  match ps with
  | [] => (c, [], s)
  | p :: r => (c, r.foldl (combineAll o.ty o.rop o.pass) p, s)

/-- A leaf's single contribution in element form (R447). -/
def State.ownElements (s : State) (o : CollOp) : Nat × List Byte × State :=
  let (c, b, s) := s.extRead 0xA0 o.from_ (8 * o.nval)
  if o.two && o.pass == 0 then (c, ((cutBy 8 b).map (fun x => toPartial 4 0 0 [] x)).flatten, s)
  else (c, ((cutBy 8 b).map (fun x => x.take (colE o.ty))).flatten, s)

/-- The COL_UP payload of a child for a pass, when all its parts are here. -/
def State.upOf (s : State) (o : CollOp) (child : Nat) : Option (List Byte) :=
  let l := s.coll.ups.filter (fun u => u.group == o.group && u.gseq == o.gseq && u.pass == o.pass && u.child == child)
  let get := fun (i : Nat) => (l.find? (fun u => u.part == i)).map (fun u => u.payload)
  let full := o.nval * colP o.ty o.rop o.pass
  match get 0 with
  | none => none
  | some b =>
    if b.length < 256 ∨ full ≤ 256 then some b
    else (List.range (cdiv full 256)).foldl (fun (acc : Option (List Byte)) i => match acc, get i with
      | some a, some x => some (a ++ x)
      | _, _ => none) (some [])

/-- Write a SCALAR's results at DST (R446, R450). -/
def State.scalarResult (s : State) (o : CollOp) (b : List Byte) : State :=
  if b.isEmpty then s.updOp o.group o.gseq (fun x => { x with res := true })
  else
    let (c, s) := s.extWrite 0xA0 o.dst b
    if c ≠ 0 then s.failOp o.group o.gseq C.COLL_FAILED else s.updOp o.group o.gseq (fun x => { x with res := true })

/-- Advance a BARRIER or SCALAR: when every child's COL_UP of the pass is here, send up, or at the root send down; `n` bounds the passes. -/
def State.scalarStep (s : State) (g q : Nat) : Nat → State
  | 0 => s
  | n + 1 =>
    match s.opAt g q, s.group g with
    | some o, some gr =>
      let ups := gr.children.map (fun c => if o.op = 0x80 then (s.coll.ups.find? (fun u => u.group == g && u.gseq == q && u.child == c)).map (fun u => u.payload) else s.upOf o c)
      if !o.started || o.isBulk || o.fail != 0 || o.sentUp || ups.any (fun u => u.isNone) then s
      else
        let s := s.updColl (fun c => { c with ups := c.ups.filter (fun u => !(u.group == g && u.gseq == q && u.pass == o.pass)) })
        let leaf := gr.children.isEmpty && o.nsrc == 1 && !gr.root
        let (code, body, s) : Nat × List Byte × State :=
          if o.op = 0x80 then (0, [], s)
          else if leaf then s.ownElements o
          else
            let (c, own, s) := s.ownScalar o
            (c, (ups.foldl (fun acc u => combineAll o.ty o.rop o.pass acc (partialsOf o.ty o.rop o.pass o.nval o.anchors (u.getD []))) own).flatten, s)
        if code ≠ 0 then s.failOp g q C.COLL_FAILED
        else if !gr.root then (s.updOp g q (fun x => { x with sentUp := true })).colPacket o gr.parent 0x10 o.pass body
        else if o.two && o.pass == 0 then
          let s := gr.children.foldl (fun s c => s.colPacket o c 0x11 0 body) s
          (s.updOp g q (fun x => { x with pass := 1, anchors := body })).scalarStep g q n
        else
          let res := ((cutBy (colP o.ty o.rop o.pass) body).zipIdx).map (fun x =>
            let e := readPartial o.ty o.rop ((o.anchors.drop (4 * x.2)).take 4) x.1
            e ++ List.replicate (8 - e.length) 0)
          let s := gr.children.foldl (fun s c => s.colPacket o c 0x11 1 res.flatten) s
          (s.updOp g q (fun x => { x with sentUp := true })).scalarResult o res.flatten
    | _, _ => s

/-! Bulk operations: chunks (R453 to R457). -/

/-- First element or byte of a chunk, and how many it holds. -/
def CollOp.span (o : CollOp) (members idx : Nat) : Nat × Nat := (idx * o.perChunk, min o.perChunk (o.total members - idx * o.perChunk))

/-- Staging address of row `row` for chunk `num` at a package with DEPTH `d`. -/
def stageAt (gr : Group) (row num : Nat) : Nat := gr.stageAddr + (row * gr.depth + num % gr.depth) * 262144

/-- The package's own contribution to a chunk in a pass: (code, offset in the chunk, bytes): partials for sums, raw elements at a leaf with one contribution, its ranks' bytes for ALLGATHER, the data for a broadcast root. -/
def State.ownChunk (s : State) (o : CollOp) (gr : Group) (c : Chunk) (pass : Nat) : Nat × Nat × List Byte × State :=
  let (lo, n) := o.span gr.members c.idx
  if o.op = 0x84 then
    let a := max lo (gr.rank * o.len)
    let b := min (lo + n) ((gr.rank + 1) * o.len)
    if b ≤ a then (0, 0, [], s)
    else
      let (code, d, s) := s.extRead 0xA0 (o.from_ + (a - gr.rank * o.len)) (b - a)
      (code, a - lo, d, s)
  else if o.isBcast then
    let (code, d, s) := s.extRead 0xA0 (o.from_ + lo) n
    (code, 0, d, s)
  else
    let e := colE o.ty
    let (code, bs, s) := (List.range o.nsrc).foldl (fun (acc : Nat × List (List Byte) × State) i =>
      if acc.1 ≠ 0 then acc
      else
        let (c, b, s) := acc.2.2.extRead 0xA0 (o.from_ + i * o.stride + lo * e) (n * e)
        (c, acc.2.1 ++ [b], s)) (0, [], s)
    let part := fun (b : List Byte) => ((cutBy e b).zipIdx).map (fun x => toPartial o.ty o.rop pass ((c.anchors.drop (4 * x.2)).take 4) x.1)
    if gr.children.isEmpty ∧ o.nsrc = 1 ∧ gr.root = false ∧ !(o.two && pass == 0) then (code, 0, bs.headD [], s)
    else match bs.map part with
      | [] => (code, 0, [], s)
      | p :: r => (code, 0, (r.foldl (combineAll o.ty o.rop pass) p).flatten, s)

/-- Pass of a phase. -/
def phasePass (o : CollOp) (phase : Nat) : Nat := if o.two && phase < 2 then 0 else 1

/-- The bytes of a chunk from its pieces, in order of their offsets. -/
def joinParts (l : List (Nat × List Byte)) : Nat × List Byte :=
  let l := (l.filter (fun x => !x.2.isEmpty)).mergeSort (fun a b => decide (a.1 ≤ b.1))
  (((l.head?).map (fun x => x.1)).getD 0, (l.map (fun x => x.2)).flatten)

/-- Combine a piece into a chunk: values are combined, bytes are placed. -/
def Chunk.mix (o : CollOp) (c : Chunk) (n off : Nat) (b : List Byte) : Chunk :=
  if o.op = 0x84 then { c with parts := c.parts ++ [(off, b)] }
  else
    let pass := phasePass o c.phase
    match c.parts with
    | [] => { c with parts := [(0, (partialsOf o.ty o.rop pass n c.anchors b).flatten)] }
    | x :: _ => { c with parts := [(0, (combineAll o.ty o.rop pass (cutBy (colP o.ty o.rop pass) x.2) (partialsOf o.ty o.rop pass n c.anchors b)).flatten)] }

/-- A bulk slot for a chunk: the lowest one neither held nor failed, unless the group holds DEPTH slots (R455, R457, R578). -/
def State.freeSlot (s : State) (gr : Group) (g : Nat) : Option Nat :=
  let cs := s.coll.ops.flatMap (fun o => o.chunks.map (fun c => (o.group, c.slot)))
  if gr.depth ≤ (cs.filter (fun x => x.1 == g && x.2.isSome)).length then none
  else (List.range 256).find? (fun i => !(cs.any (fun x => x.2 == some i)) && !(s.coll.bulkBad.contains i))

/-- Whether chunk `num` may go on at this package: within DEPTH, or its place is free again: combined here for one with children, credited by the parent for one that sends (R454). (DEDUCED, notes/assumptions/36.md) -/
def State.mayReach (s : State) (gr : Group) (g num : Nat) : Bool :=
  decide (num < gr.depth) || (if gr.children.isEmpty then gr.root || s.coll.credited.contains (g, num - gr.depth) else s.coll.combined.contains (g, num - gr.depth))

/-- Write results of a chunk at DST. -/
def State.putResult (s : State) (o : CollOp) (off : Nat) (b : List Byte) : State :=
  let (c, s) := if b.isEmpty then (0, s) else s.extWrite 0xA0 (o.dst + off) b
  if c ≠ 0 then s.failOp o.group o.gseq C.COLL_FAILED else s.updOp o.group o.gseq (fun x => { x with wrote := x.wrote + b.length })

/-- Bytes of result that this member holds when the operation is done (R456). -/
def CollOp.want (o : CollOp) (gr : Group) : Nat := if o.op = 0x83 then o.len / gr.members * o.width else o.total gr.members * o.width

/-- The results are in place once all of them are written. -/
def State.noteResult (s : State) (g q : Nat) : State :=
  match s.opAt g q, s.group g with
  | some o, some gr => if o.want gr ≤ o.wrote then s.updOp g q (fun x => { x with res := true }) else s
  | _, _ => s

/-- Free a chunk's slot. -/
def State.freeChunkSlot (s : State) (g q idx : Nat) : State := (s.updChunk g q idx (fun c => { c with slot := none })).reStatus

/-- The root's results of a chunk: written at DST and sent to each child, or each rank's share sent to its member (R456). -/
def State.rootDown (s : State) (o : CollOp) (gr : Group) (c : Chunk) (b : List Byte) : State :=
  let (lo, _) := o.span gr.members c.idx
  let w := o.width
  let key := (s.region o.region).key
  let s :=
    if o.op = 0x83 then
      let share := o.len / gr.members
      (List.range gr.members).foldl (fun s r =>
        let a := max lo (r * share)
        let z := min (lo + b.length / w) ((r + 1) * share)
        if z ≤ a then s
        else
          let d := (b.drop ((a - lo) * w)).take ((z - a) * w)
          if r = gr.rank then s.putResult o ((a - r * share) * w) d
          else s.colSend o (s.fab.nodes.getD r 0) 1 gr.vc o.region key (writeAddrs (o.dst + (a - r * share) * w) d) (4 * c.idx + 2)) s
    else
      let s := s.putResult o (lo * w) b
      let dests := if o.op = 0x86 then o.targets else gr.children
      dests.foldl (fun s n => s.colSend o n 1 gr.vc o.region key (writeAddrs (o.dst + lo * w) b) (4 * c.idx + 2)) s
  ((s.updChunk o.group o.gseq c.idx (fun x => { x with phase := 5 })).freeChunkSlot o.group o.gseq c.idx).noteResult o.group o.gseq

/-- A chunk whose values are combined (phase 3) goes up when credit allows, or is read out at the root. -/
def State.chunkUp (s : State) (g q idx : Nat) : State :=
  match s.opAt g q, s.group g with
  | some o, some gr =>
    (match o.chunks.find? (fun c => c.idx == idx) with
    | none => s
    | some c =>
      let (off, b) := if o.op = 0x84 then joinParts c.parts else (0, ((c.parts.head?).map (fun x => x.2)).getD [])
      if c.phase ≠ 3 ∨ o.fail ≠ 0 then s
      else if gr.root then
        s.rootDown o gr c (if o.op = 0x84 ∨ o.isBcast then b
          else (((cutBy (colP o.ty o.rop 1) b).zipIdx).map (fun x => readPartial o.ty o.rop ((c.anchors.drop (4 * x.2)).take 4) x.1)).flatten)
      else if c.num < gr.depth ∨ s.coll.credited.contains (g, c.num - gr.depth) then
        let s := s.updChunk g q idx (fun x => { x with phase := 4 })
        s.colSend o gr.parent 1 gr.vc gr.stageRegion (s.region gr.stageRegion).key (writeAddrs (stageAt gr gr.childIndex c.num + off) b) (4 * idx)
      else s)
  | _, _ => s

/-- Add the package's own contribution of a pass to a chunk; a spilled chunk keeps its partials in the self row (R455, R457). -/
def State.addOwn (s : State) (g q idx : Nat) : State :=
  match s.opAt g q, s.group g with
  | some o, some gr =>
    (match o.chunks.find? (fun c => c.idx == idx) with
    | none => s
    | some c =>
      let (code, off, b, s) := s.ownChunk o gr c (phasePass o c.phase)
      if code ≠ 0 then s.failOp g q C.COLL_FAILED
      else
        let c' := { c with parts := [(off, b)], got := [] }
        let s := if c.spilled then (s.extWrite 0xA0 (stageAt gr gr.nchild c.num + off) b).2 else s
        s.updChunk g q idx (fun _ => c'))
  | _, _ => s

/-- Anchors of a chunk are fixed: they go to the self row and down to the children, and the second pass begins (R456). -/
def State.anchorsFixed (s : State) (g q idx : Nat) (b : List Byte) : State :=
  match s.opAt g q, s.group g with
  | some o, some gr =>
    (match o.chunks.find? (fun c => c.idx == idx) with
    | none => s
    | some c =>
      let s := (s.extWrite 0xA0 (stageAt gr gr.nchild c.num) b).2
      let s := gr.children.foldl (fun s n => s.colSend o n 1 gr.vc gr.stageRegion (s.region gr.stageRegion).key (writeAddrs (stageAt gr 0 c.num) b) (4 * idx + 3)) s
      (s.updChunk g q idx (fun x => { x with phase := 2, anchors := b, parts := [], got := [] })).addOwn g q idx)
  | _, _ => s

/-- The staging transfer of a child that is complete, as bytes: what stands in T1 with what was combined in the slot laid over it. -/
def State.stagedBytes (s : State) (gr : Group) (x : ColStage) : List Byte :=
  let base := stageAt gr x.child x.pos
  let t1 := s.readMem (base + x.off) (x.len - x.off)
  (List.range (x.len - x.off)).map (fun i =>
    match x.inSlot.find? (fun y => decide (y.1 ≤ x.off + i) && decide (x.off + i < y.1 + y.2.length)) with
    | some y => y.2.getD (x.off + i - y.1) 0
    | none => t1.getD i 0)

/-- Combine what has arrived for a chunk, and act when every child's part is in: `n` bounds the phases. -/
def State.chunkStep (s : State) (g q idx : Nat) : Nat → State
  | 0 => s
  | n + 1 =>
    match s.opAt g q, s.group g with
    | some o, some gr =>
      (match o.chunks.find? (fun c => c.idx == idx) with
      | none => s
      | some c =>
        if o.fail ≠ 0 ∨ (c.phase ≠ 0 ∧ c.phase ≠ 2) then s
        else
          let (_, len) := o.span gr.members idx
          let here := s.coll.staged.filter (fun x => x.group == g && x.pos == c.num % gr.depth && x.full && !(c.got.contains x.child))
          let s := here.foldl (fun s x =>
            let b := s.stagedBytes gr x
            let s := s.updColl (fun cc => { cc with staged := cc.staged.filter (fun y => !(y == x)) })
            let s := s.updChunk g q idx (fun c => { (Chunk.mix o c len x.off b) with got := c.got ++ [x.child] })
            if c.spilled then
              match (s.opAt g q).bind (fun o => o.chunks.find? (fun c => c.idx == idx)) with
              | some c => (c.parts.foldl (fun (s : State) (y : Nat × List Byte) => (s.extWrite 0xA0 (stageAt gr gr.nchild c.num + y.1) y.2).2) s)
              | none => s
            else s) s
          match (s.opAt g q).bind (fun o => o.chunks.find? (fun c => c.idx == idx)) with
          | none => s
          | some c =>
            if c.got.length < gr.children.length then s
            else if c.phase = 0 then
              let b := ((c.parts.head?).map (fun x => x.2)).getD []
              if gr.root then (s.anchorsFixed g q idx b).chunkStep g q idx n
              else (s.updChunk g q idx (fun x => { x with phase := 1 })).colSend o gr.parent 1 gr.vc gr.stageRegion (s.region gr.stageRegion).key
                (writeAddrs (stageAt gr gr.childIndex c.num) b) (4 * idx + 1)
            else
              let s := s.updChunk g q idx (fun x => { x with phase := 3 })
              let s := s.updColl (fun cc => { cc with combined := cc.combined ++ [(g, c.num)] })
              let s := gr.children.foldl (fun s ch => s.colSend o ch 0x12 gr.vc 0 0 [(c.num, [])] 3) s
              let s := if gr.children.isEmpty then s else s.count 5 (if c.spilled then 385 else 384) 1
              s.chunkUp g q idx)
    | _, _ => s

/-- Operations reach their next chunks in order, taking slots or spilling (R454, R455, R457). -/
def State.bulkStep (s : State) (g q : Nat) : Nat → State
  | 0 => s
  | n + 1 =>
    match s.opAt g q, s.group g with
    | some o, some gr =>
      if !o.started || !o.isBulk || o.fail != 0 || decide (o.count ≤ o.reached) || (o.isBcast && !gr.root) then s
      else
        let num := o.chunk0 + o.reached
        if !o.isBcast && !(s.mayReach gr g num) then s
        else
          let kids := !gr.children.isEmpty && !o.isBcast
          let slot := if kids then s.freeSlot gr g else none
          let spill := kids && slot.isNone
          let s := if spill then
              let s := (s.satF F.RE_SPILL_CHUNKS 1).hwSet F.RE_SPILL_SPILLED 1
              if s.coll.spilledFrame then s else (s.raise C.COLL_SPILLED 5 3 g 0 num).updColl (fun c => { c with spilledFrame := true })
            else s
          let c : Chunk := ⟨num, o.reached, slot, spill, if o.two then 0 else 2, [], [], []⟩
          let s := (s.updOp g q (fun x => { x with reached := x.reached + 1, chunks := x.chunks ++ [c] })).reStatus
          let s := s.addOwn g q c.idx
          let s := if o.isBcast then (s.updChunk g q c.idx (fun x => { x with phase := 3 })).chunkUp g q c.idx else s.chunkStep g q c.idx 3
          s.bulkStep g q n
    | _, _ => s

/-- Every bulk operation of a group goes as far as it can. -/
def State.groupStep (s : State) (g : Nat) : State :=
  (s.coll.ops.filter (fun o => o.group == g && o.isBulk)).foldl (fun s o =>
    let s := o.chunks.foldl (fun s c => (s.chunkStep g o.gseq c.idx 3).chunkUp g o.gseq c.idx) s
    s.bulkStep g o.gseq (o.count + 1)) s

/-! Broadcast acknowledgements (R461 to R464). -/

/-- The nodes a broadcast operation sends its data to. -/
def CollOp.kids (o : CollOp) (gr : Group) : List Nat := if o.op = 0x86 then o.targets else gr.children

/-- ACKED, NFAIL and the failed list of an operation: itself and its acknowledged children; the lost children, then the children's lists, at most 60 of them (R461). -/
def CollOp.tally (o : CollOp) : Nat × Nat × List Nat :=
  ((if o.op = 0x86 then 0 else 1) + (o.acks.map (fun a => a.2.1)).sum, o.lost.length + (o.acks.map (fun a => a.2.2.1)).sum,
    (o.lost ++ o.acks.flatMap (fun a => a.2.2.2)).take 60)

/-- The CRC-64 of the data a member holds at DST, computed in F-die CVU context 2k + 1, which keeps the running value (R199, R206, R430, R461). -/
def State.bcastCrc (s : State) (o : CollOp) : Nat × State :=
  let x := crcFeed 2 (crcInit 2) (s.readMem o.dst o.len)
  (crcFinal 2 x, s.setF (F.FCVU_VAL_VALUE (2 * o.ctx + 1)) x)

/-- Declare a child of a broadcast failed (R462). -/
def State.bcastLost (s : State) (g q child : Nat) : State :=
  match s.opAt g q with
  | none => s
  | some o =>
    if o.lost.contains child ∨ o.acks.any (fun a => a.1 == child) ∨ o.fail ≠ 0 then s
    else (s.updOp g q (fun x => { x with lost := x.lost ++ [child] })).raise C.BCAST_MEMBER_LOST 5 3 child 0 q

/-- Send a BCAST_ACK for an operation. -/
def State.sendBcastAck (s : State) (o : CollOp) : State :=
  let (n, nf, l) := o.tally
  let (crc, s) := s.bcastCrc o
  s.colSend o o.src 0x13 0 0 0 [(o.gseq, leBytes 4 n ++ leBytes 4 nf ++ leBytes 8 crc ++ l.flatMap (leBytes 4))] 3

/-- A broadcast member that holds every chunk and has heard of every child acknowledges; the root is done (R461, R463). -/
def State.bcastStep (s : State) (g q : Nat) : State :=
  match s.opAt g q, s.group g with
  | some o, some gr =>
    if !o.isBcast || !o.started || !o.res || o.ackSent || o.fail != 0 || !((o.kids gr).all (fun c => o.lost.contains c || o.acks.any (fun a => a.1 == c))) then s
    else
      let s := s.updOp g q (fun x => { x with ackSent := true })
      if gr.root ∨ o.op = 0x86 then s else s.sendBcastAck o
  | _, _ => s

/-! Data that arrive for collectives (R449, R454 to R458, R461). -/

/-- A staging packet for a child's chunk is taken into its slot when one is held; otherwise it is written to T1 (R455). -/
def State.stagePacket (s : State) (g : Nat) (gr : Group) (a : Nat) (b : List Byte) : Nat × State :=
  let row := (a - gr.stageAddr) / 262144 / gr.depth
  let pos := (a - gr.stageAddr) / 262144 % gr.depth
  let off := (a - gr.stageAddr) % 262144
  let slot := s.coll.ops.any (fun o => o.group == g && o.chunks.any (fun c => c.num % gr.depth == pos && c.slot.isSome && (c.phase == 0 || c.phase == 2)))
  let old := (s.coll.staged.find? (fun x => x.group == g && x.child == row && x.pos == pos && !x.full)).getD ⟨g, row, pos, off, off, false, []⟩
  let new := { old with off := min old.off off, len := max old.len (off + b.length), inSlot := if slot then old.inSlot ++ [(off, b)] else old.inSlot }
  let (c, s) := if slot ∨ b.isEmpty then (0, s) else s.extWrite 0xA0 a b
  (c, s.updColl (fun cc => { cc with staged := (cc.staged.filter (fun x => !(x == old))) ++ [new] }))

/-- A staging transfer is complete: what it brought is combined (R405, R455). -/
def State.stageDone (s : State) (g : Nat) (gr : Group) (a : Nat) : State :=
  let row := (a - gr.stageAddr) / 262144 / gr.depth
  let pos := (a - gr.stageAddr) / 262144 % gr.depth
  (s.updColl (fun cc => { cc with staged := cc.staged.map (fun x => if x.group == g && x.child == row && x.pos == pos && !x.full then { x with full := true } else x) })).groupStep g

/-- Anchors from the parent for the chunk at a staging position (R456). (DEDUCED, notes/assumptions/36.md) -/
def State.anchorsIn (s : State) (g : Nat) (gr : Group) (a : Nat) (b : List Byte) : State :=
  let pos := (a - gr.stageAddr) / 262144 % gr.depth
  match s.coll.ops.findSome? (fun o => if o.group == g then (o.chunks.find? (fun c => c.phase == 1 && c.num % gr.depth == pos)).map (fun c => (o.gseq, c.idx)) else none) with
  | some (q, i) => (s.anchorsFixed g q i b).groupStep g
  | none => s

/-- Results that came down into DST of an operation, as a range: forwarded to the children, and counted (R456). -/
def State.downDone (s : State) (g src a n : Nat) : State :=
  match s.group g with
  | none => s
  | some gr =>
    (match s.coll.ops.find? (fun o => o.group == g && o.isBulk && decide (o.dst ≤ a) && decide (a + n ≤ o.dst + o.want gr)) with
    | some o =>
      let b := s.readMem a n
      let idx := (a - o.dst) / (o.perChunk * o.width)
      -- A broadcast's chunk that a repair brings again counts once.
      let again := o.isBcast && o.chunks.any (fun c => c.idx == idx)
      let s := s.updOp g o.gseq (fun x => { x with
        wrote := if again then x.wrote else x.wrote + n, src := src,
        chunks := if o.isBcast && !again then x.chunks ++ [⟨o.chunk0 + idx, idx, none, false, 5, [], [], []⟩] else x.chunks })
      let s := if o.op = 0x83 ∨ o.fail ≠ 0 then s
        else gr.children.foldl (fun s c => s.colSend o c 1 gr.vc o.region (s.region o.region).key (writeAddrs a b) (4 * idx + 2)) s
      let s := if o.op = 0x83 then s else s.updChunk g o.gseq idx (fun c => { c with phase := if c.phase = 4 then 5 else c.phase })
      (s.noteResult g o.gseq).bcastStep g o.gseq
    | none =>
      -- A target of a repair that already held the data acknowledges again (R464).
      match s.coll.lastBcast.find? (fun o => o.group == g && decide (o.dst ≤ a) && decide (a + n ≤ o.dst + o.len)) with
      | some o => if a + n = o.dst + o.len then s.sendBcastAck { o with src := src } else s
      | none => s.updColl (fun cc => { cc with downs := cc.downs ++ [(g, src, a, n)] }))

/-- Down transfers that came before the operation was posted are matched to it now (R458). (DEDUCED, notes/assumptions/36.md) -/
def State.takeDowns (s : State) (g : Nat) : State :=
  let l := s.coll.downs.filter (fun x => x.1 == g)
  l.foldl (fun s x => s.downDone g x.2.1 x.2.2.1 x.2.2.2) (s.updColl (fun cc => { cc with downs := cc.downs.filter (fun x => x.1 != g) }))

/-! Starting operations: the rows BARRIER to REPAIR_BCAST. -/

/-- A posted operation of context `k` with record OP `op` starts. -/
def State.startOp (s : State) (k op : Nat) (run : Nat → Nat → State → State) : State :=
  match s.coll.ops.find? (fun o => o.ctx == k && o.op == op && !o.started) with
  | none => s
  | some o => run o.group o.gseq (s.updOp o.group o.gseq (fun x => { x with started := true }))

/-- Start of a bulk operation; one without chunks is done. -/
def bulkStart (g q : Nat) (s : State) : State :=
  match s.opAt g q with
  | none => s
  | some o => ((((s.noteResult g q).bulkStep g q (o.count + 1)).takeDowns g).bcastStep g q)

/-- BARRIER (R450). -/
def doBarrier (k : Nat) (s : State) : State := s.startOp k 0x80 (fun g q s => s.scalarStep g q 3)

def execBarrier (ctx : Fin 8) (s : State) : Host.Outcome State Fault Refusal := .next (s.orWait (doBarrier ctx))

/-- SCALAR (R450). -/
def doScalar (k : Nat) (s : State) : State := s.startOp k 0x81 (fun g q s => s.scalarStep g q 3)

def execScalar (ctx : Fin 8) (s : State) : Host.Outcome State Fault Refusal := .next (s.orWait (doScalar ctx))

/-- ALLREDUCE (R456). -/
def doAllreduce (k : Nat) (s : State) : State := s.startOp k 0x82 bulkStart

def execAllreduce (ctx : Fin 8) (s : State) : Host.Outcome State Fault Refusal := .next (s.orWait (doAllreduce ctx))

/-- REDUCE_SCATTER (R456): the member of rank r is the node at position r of the node list. -/
def doReduceScatter (k : Nat) (s : State) : State := s.startOp k 0x83 bulkStart

def execReduceScatter (ctx : Fin 8) (s : State) : Host.Outcome State Fault Refusal := .next (s.orWait (doReduceScatter ctx))

/-- ALLGATHER (R456). -/
def doAllgather (k : Nat) (s : State) : State := s.startOp k 0x84 bulkStart

def execAllgather (ctx : Fin 8) (s : State) : Host.Outcome State Fault Refusal := .next (s.orWait (doAllgather ctx))

/-- BROADCAST (R461): only the root moves on posting. -/
def doBroadcast (k : Nat) (s : State) : State := s.startOp k 0x85 bulkStart

def execBroadcast (ctx : Fin 8) (s : State) : Host.Outcome State Fault Refusal := .next (s.orWait (doBroadcast ctx))

/-- REPAIR_BCAST on the root: the target list is read and the data sent to each target (R464). -/
def doRepairBcast (k : Nat) (s : State) : State := s.startOp k 0x86 (fun g q s =>
  match s.opAt g q with
  | none => s
  | some o =>
    let n := fieldAt o.bytes 48 4
    let (c, b, s) := s.extRead 0xA0 o.list (4 * n)
    if c ≠ 0 then s.failOp g q C.COLL_FAILED
    else bulkStart g q (s.updOp g q (fun x => { x with targets := (cutBy 4 b).map leNat })))

def execRepairBcast (ctx : Fin 8) (s : State) : Host.Outcome State Fault Refusal := .next (s.orWait (doRepairBcast ctx))

/-- An answer of node `dst` to a collective's transfer: an acknowledged chunk frees its slot; the last data to a broadcast child starts its wait (R455, R462). -/
def State.colAcked (s : State) (g q dst tag : Nat) : State :=
  if tag % 4 = 2 then s.updOp g q (fun o => { o with heard := o.heard.put dst s.clk.ns 0 })
  else if tag % 4 = 0 then
    ((s.freeChunkSlot g q (tag / 4)).updChunk g q (tag / 4) (fun c => { c with phase := match s.opAt g q with
      | some o => if o.op = 0x83 then 5 else c.phase
      | none => c.phase })).groupStep g
  else s

/-- A NACK, or no answer after every retransmission, to a collective's transfer: a broadcast's child is declared failed; any other operation fails (R459, R462). -/
def State.colNacked (s : State) (g q dst tag : Nat) : State :=
  match s.opAt g q with
  | none => s
  | some o =>
    if o.isBcast ∧ tag % 4 = 2 then (s.bcastLost g q dst).bcastStep g q
    else (s.failOp g q C.COLL_FAILED).updOp g q (fun x => { x with lost := x.lost ++ [dst], chunks := x.chunks.map (fun c => { c with slot := none }) })

/-- Whether a node has acknowledged every data transfer of a broadcast (R462). -/
def State.dataHeard (s : State) (o : CollOp) (n : Nat) : Bool :=
  !(s.fab.txs.any (fun t => t.dst == n && !t.answered && (match t.org with
    | .coll g q tag => g == o.group && q == o.gseq && tag % 4 == 2
    | _ => false)))

/-- BCAST_CHILD_TIMEOUT: HEIGHT × BCAST_WAIT_US have passed since a child acknowledged its last data, without its BCAST_ACK (R462). -/
def doBcastChildTimeout (g q child : Nat) (s : State) : State :=
  match s.opAt g q, s.group g with
  | some o, some gr =>
    (match (o.kids gr)[child]? with
    | some c =>
      if o.isBcast && o.started && o.res && s.dataHeard o c && !(o.lost.contains c) && !(o.acks.any (fun a => a.1 == c)) then
        ((s.toNs (o.heard.get c 0 + 1000 * gr.height * s.getF F.RE_CTRL_BCAST_WAIT_US)).bcastLost g q c).bcastStep g q
      else s
    | none => s)
  | _, _ => s

def execBcastChildTimeout (group gseq child : Nat) (s : State) : Host.Outcome State Fault Refusal := .next (doBcastChildTimeout group gseq child s)

/-! Completion (R443, R456, R459, R463). -/

/-- Whether an operation has nothing left to do here. -/
def State.opDone (s : State) (o : CollOp) : Bool :=
  o.fail != 0 || (o.started && o.res &&
    (if o.isBcast then o.ackSent
    else !o.isBulk || (o.chunks.all (fun c => c.phase == 5) && !(s.fab.txs.any (fun t => !t.answered && (match t.org with
      | .coll g q _ => g == o.group && q == o.gseq
      | _ => false))))))

/-- The status of a finished operation, and the failed list written by a root whose broadcast lost members (R463). (DEDUCED, notes/assumptions/36.md) -/
def State.opStatus (s : State) (o : CollOp) : Nat × State :=
  if o.fail ≠ 0 then (o.fail, s)
  else match o.isBcast, s.group o.group with
    | true, some gr =>
      let (n, nf, l) := o.tally
      let members := if o.op = 0x86 then (o.acks.map (fun a => a.2.1)).sum else gr.members
      if !gr.root && o.op = 0x85 then (0, s)
      else if n = members ∧ (o.op = 0x85 ∨ nf = 0) then (0, s)
      else
        let (_, s) := s.extWrite 0xA0 o.list (l.flatMap (leBytes 4))
        (C.BCAST_PARTIAL, s.raise C.BCAST_PARTIAL 5 3 o.group 0 o.gseq)
    | _, _ => (0, s)

/-- Lowest GSEQ of a group not yet complete. -/
def State.grpCompleted (s : State) (g : Nat) : State :=
  let l := (s.coll.ops.filter (fun o => o.group == g)).map (fun o => o.gseq)
  s.setF (F.GRP_SEQ_COMPLETED g) (l.foldl min (s.getF (F.GRP_SEQ_POSTED g)))

/-- COLLECTIVE_COMPLETE: the operation leaves, its slots are free, its record and TOT entry complete, and DONE_TOT is raised. -/
def doCollectiveComplete (g q : Nat) (s : State) : State :=
  match s.opAt g q with
  | none => s
  | some o =>
    if !(s.opDone o) then s
    else
      let (code, s) := s.opStatus o
      let s := if code = C.COLL_FAILED then s.raise C.COLL_FAILED 5 3 ((o.lost.head?).getD (s.node (s.ctxPart o.ctx))) 0 q else s
      let s := s.updColl (fun c => { c with
        ops := c.ops.filter (fun x => !(x.group == g && x.gseq == q))
        ups := c.ups.filter (fun u => !(u.group == g && u.gseq == q))
        scalarHeld := c.scalarHeld.filter (fun x => !(x.1 == g && x.2.1 == q))
        lastBcast := if o.isBcast then (c.lastBcast.filter (fun x => x.group != g)) ++ [o] else c.lastBcast })
      let s := (s.reStatus).grpCompleted g
      let (l, s) := s.recComplete o.num code
      let done := fieldAt o.bytes 52 2
      let l := if bit done 15 then l ++ [(o.ctx, bits done 0 10, 1)] else l
      (s.settleTots totDepth l).acceptHeld

def execCollectiveComplete (group gseq : Nat) (s : State) : Host.Outcome State Fault Refusal := .next (s.orWait (doCollectiveComplete group gseq))

/-- RE_SLOT_SPARE: a double-bit error in a reduction slot fails the operation that holds it; a slot that none holds is replaced by a spare, or is lost (R578). (DEDUCED, notes/assumptions/36.md) -/
def doReSlotSpare (bulk : Bool) (n : Nat) (s : State) : State :=
  if bulk then
    match s.coll.ops.find? (fun o => o.chunks.any (fun c => c.slot == some n)) with
    | some o =>
      ((s.failOp o.group o.gseq C.COLL_FAILED).updOp o.group o.gseq (fun x => { x with chunks := x.chunks.map (fun c => { c with slot := none }) })).updColl
        (fun c => { c with bulkBad := n :: c.bulkBad })
    | none =>
      if s.coll.bulkSpares = 0 then s.updColl (fun c => { c with bulkBad := n :: c.bulkBad.filter (fun x => x != n) })
      else ((s.updColl (fun c => { c with bulkBad := c.bulkBad.filter (fun x => x != n), bulkSpares := c.bulkSpares - 1, bulkMap := c.bulkMap ++ [n] })).raise C.RE_SLOT_SPARED 5 3 n 0 0).dirty
  else
    match s.coll.scalarHeld.find? (fun x => x.2.2 == n) with
    | some x => (s.failOp x.1 x.2.1 C.COLL_FAILED).updColl (fun c => { c with scalarBad := n :: c.scalarBad.filter (fun y => y != n) })
    | none =>
      if s.coll.scalarSpares = 0 then
        (if s.coll.scalarDead then s
        else (s.updColl (fun c => { c with scalarDead := true, ops := c.ops.map (fun o => if o.isBulk ∨ o.fail ≠ 0 then o else { o with fail := C.COLL_FAILED }) })).raise C.RE_SPARES_EXHAUSTED 5 3 n 0 0)
      else ((s.updColl (fun c => { c with scalarBad := c.scalarBad.filter (fun x => x != n), scalarSpares := c.scalarSpares - 1 })).raise C.RE_SLOT_SPARED 5 3 n 1 0).dirty

def execReSlotSpare (bulk : Bool) (slot : Nat) (s : State) : Host.Outcome State Fault Refusal := .next (doReSlotSpare bulk slot s)

end Sys2Proof.Machine
end

