-- ==== Sys2Proof/Machine/Mxa.lean ====
section
/-! DEFINITION. The Matrix Array: operands, checks, number formats of the accumulator file, the arithmetic of every mode, cycle formulas, holds and faults (R85 to R128, R131, R132, R627, R628). -/
namespace Sys2Proof.Machine

/-- The array modes (R86). -/
inductive MxMode where
  | bit8 | mx8 | mx4 | bit16 | fp32 | fp64
deriving DecidableEq, Repr

/-- The mode of an accepted format pair (R92). -/
def mxMode (a b : Nat) : Option MxMode :=
  if a = 0 ∧ b = 0 then some .bit8
  else if (a = 1 ∨ a = 2) ∧ (b = 1 ∨ b = 2) then some .bit8
  else if 3 ≤ a ∧ a ≤ 6 ∧ 3 ≤ b ∧ b ≤ 6 then some .mx8
  else if a = 7 ∧ b = 7 then some .mx4
  else if (a = 8 ∧ b = 8) ∨ (a = 9 ∧ b = 9) then some .bit16
  else if a = 0xA ∧ b = 0xA then some .fp32
  else if a = 0xB ∧ b = 0xB then some .fp64
  else none

/-- MXA operands (R89). -/
structure MxaOp where
  aOff : Nat
  bOff : Nat
  aStride : Nat
  m : Nat
  acfBase : Nat
  k : Nat
  n : Nat
  fmtA : Nat
  fmtB : Nat
  ctrl : Nat
  acfQ : Int
  kBlock : Nat
  batch : Nat
  bStride : Nat
deriving DecidableEq, Repr

def MxaOp.ofBytes (b : List Byte) : MxaOp :=
  ⟨fieldAt b 0 4, fieldAt b 4 4, fieldAt b 8 4, fieldAt b 12 2, fieldAt b 14 2, fieldAt b 16 4, fieldAt b 20 4,
    bits (fieldAt b 24 1) 0 4, bits (fieldAt b 24 1) 4 4, fieldAt b 25 1, sint 16 (fieldAt b 26 2), fieldAt b 28 1,
    fieldAt b 32 4, fieldAt b 36 4⟩

def MxaOp.kind (o : MxaOp) : Nat := o.ctrl % 4
def MxaOp.accum (o : MxaOp) : Bool := bit o.ctrl 2

/-- Tile depth D (R86). -/
def mxDepth (md : MxMode) (kBlock : Nat) : Nat :=
  match md with
  | .mx4 => 2048
  | .fp64 => 32 * kBlock
  | _ => 1024

/-- Entries per output element (R101). -/
def mxW (md : MxMode) : Nat := if md = .fp64 then 6 else 1

/-- Bytes of one tile of the weight image (R86, R95). -/
def tileBytes (md : MxMode) (fmtB kBlock : Nat) : Nat :=
  let d := mxDepth md kBlock
  match md with
  | .fp64 => 7 * d * 512 + 1024
  | _ => d * 512 * elemBits fmtB / 8 + (if isMx fmtB then d / 32 * 512 else 0)

/-- Load cycles L of a weight plane, in the modes of R125 (R86). -/
def mxL (md : MxMode) (fmtB : Nat) : Nat :=
  match md with
  | .bit8 => 512
  | .mx8 => if fmtB = 5 ∨ fmtB = 6 then 400 else 528
  | .mx4 => 544
  | .bit16 => 1024
  | .fp32 => 2048
  | .fp64 => 0

def mxR (md : MxMode) : Nat := if md = .bit16 then 2 else 1

def mxP : Nat := 1600

/-- One row block of an operation: a GEMM, a batch entry or a group (R90, R91). -/
structure MxGrp where
  m : Nat
  aOff : Nat
  bOff : Nat
  base : Nat
deriving DecidableEq, Repr

/-- Entry `g` of a group table, as a read of key `k` sees it (R91). -/
def grpEntry (s : State) (die k : Nat) (o : MxaOp) (g : Nat) : List Byte := s.readAt k (spmBase die + o.bStride + 16 * g) 16

/-- The row blocks in order; a grouped operation reads its table from the SPM, here with key `k` (R90, R91). -/
def mxGroups (s : State) (die k : Nat) (o : MxaOp) (md : MxMode) : List MxGrp :=
  match o.kind with
  | 1 => (List.range o.batch).map (fun b => ⟨o.m, o.aOff + b * o.m * o.aStride, o.bOff + b * o.bStride,
      (o.acfBase + b * cdiv o.n 512 * o.m * mxW md) % 4096⟩)
  | 2 => (List.range o.batch).map (fun g =>
      let e := grpEntry s die k o g
      ⟨fieldAt e 0 4, fieldAt e 4 4, fieldAt e 8 4, fieldAt e 12 2 % 4096⟩)
  | _ => [⟨o.m, o.aOff, o.bOff, o.acfBase % 4096⟩]

/-- Bytes of an activation row (R94). -/
def aRowBytes (fmtA k : Nat) : Nat := cdiv (k * elemBits fmtA) 8 + (if isMx fmtA then k / 32 else 0)

/-! Checks (R89, R92, R93, R625). -/

/-- MXA_SHAPE: operands in their stated ranges. -/
def mxShapeOk (b : List Byte) (o : MxaOp) (md : MxMode) : Bool :=
  let mOk := o.kind == 2 || (decide (1 ≤ o.m) && decide (o.m ≤ 4096) && decide (o.m * mxW md ≤ 4096))
  decide (o.aOff % 64 = 0) && decide (o.bOff % 1024 = 0) && decide (o.aStride % 64 = 0) && mOk && decide (o.acfBase < 4096)
    && decide (1 ≤ o.k) && decide (o.k ≤ 16777216) && (!(isMx o.fmtA) || decide (o.k % 32 = 0)) && decide (1 ≤ o.n) && decide (o.n ≤ 16777216)
    && decide (o.kind ≠ 3) && decide (o.ctrl < 8) && zeroAt b 29 3
    && (!(isMx o.fmtA) || (decide (-1100 ≤ o.acfQ) && decide (o.acfQ ≤ 200)))
    && (if md = .fp64 then decide (1 ≤ o.kBlock) && decide (o.kBlock ≤ 32) else o.kBlock == 0)
    && (match o.kind with
      | 0 => o.batch == 0 && o.bStride == 0
      | 1 => decide (1 ≤ o.batch) && decide (o.batch ≤ 4096) && decide (o.bStride % 1024 = 0)
      | _ => decide (1 ≤ o.batch) && decide (o.batch ≤ 256) && decide (o.bStride % 64 = 0))

/-- The group table's own ranges (R91, R93). -/
def mxGroupsOk (s : State) (die k : Nat) (o : MxaOp) (md : MxMode) : Bool :=
  o.kind != 2 || ((List.range o.batch).all (fun g =>
    let e := grpEntry s die k o g
    let m := fieldAt e 0 4
    decide (1 ≤ m) && decide (m ≤ 4096) && decide (m * mxW md ≤ 4096) && decide (fieldAt e 4 4 % 64 = 0) && decide (fieldAt e 8 4 % 1024 = 0)
      && decide (fieldAt e 12 2 < 4096) && zeroAt e 14 2))

/-- MXA_SPM_RANGE: rows, tiles and group table inside the SPM. -/
def mxRangeOk (s : State) (die k : Nat) (o : MxaOp) (md : MxMode) : Bool :=
  let tiles := cdiv o.k (mxDepth md o.kBlock) * cdiv o.n 512
  let img := (tiles - 1) * roundUp (tileBytes md o.fmtB o.kBlock) 1024 + tileBytes md o.fmtB o.kBlock
  (o.kind != 2 || decide (o.bStride + 16 * o.batch ≤ spmSize)) &&
  (mxGroups s die k o md).all (fun g =>
    decide (g.aOff + (g.m - 1) * o.aStride + aRowBytes o.fmtA o.k ≤ spmSize) && decide (g.bOff + img ≤ spmSize))

/-- The unit's own checks on an MXA command, in the order of R625, on the structures that reads of key `k` see; none when it is accepted. -/
def mxaCheck (s : State) (die k : Nat) (b : List Byte) : Option Nat :=
  let o := MxaOp.ofBytes b
  match mxMode o.fmtA o.fmtB with
  | none => some C.MXA_FMT_PAIR
  | some md =>
    if !(mxShapeOk b o md) || (o.kind == 2 && decide (o.bStride + 16 * o.batch ≤ spmSize) && !(mxGroupsOk s die k o md)) then some C.MXA_SHAPE
    else if !(mxRangeOk s die k o md) then some C.MXA_SPM_RANGE
    else none

/-! Element access (R94 to R96). -/

/-- The `b`-bit element `i` of a packed run of elements at an SPM address, as a read of key `k` sees it. -/
def elemAt (s : State) (k addr b i : Nat) : Nat := bits (s.natAt k (addr + i * b / 8) (if b < 8 then 2 else b / 8)) (i * b % 8) b

/-- Address of activation row `i` of a row block. -/
def aRowAddr (die : Nat) (o : MxaOp) (g : MxGrp) (i : Nat) : Nat := spmBase die + g.aOff + i * o.aStride

/-- Address of tile `t` of a row block's weight image. -/
def tileAddr (die : Nat) (o : MxaOp) (md : MxMode) (g : MxGrp) (t : Nat) : Nat :=
  spmBase die + g.bOff + t * roundUp (tileBytes md o.fmtB o.kBlock) 1024

/-- One row of one tile of an operation: N-tile, K-tile and row of a row block, the frame cycles in which the load of the tile's first plane and, in FP32 mode, of its low plane starts, and those of the row's entry and of its write (R125, R126, R628). -/
structure MxRow where
  die : Nat
  o : MxaOp
  md : MxMode
  g : MxGrp
  n : Nat
  kt : Nat
  i : Nat
  ld : Nat
  lo : Nat
  entry : Nat
  write : Nat
deriving DecidableEq, Repr

/-- K-tiles of an operation. -/
def mxKts (o : MxaOp) (md : MxMode) : Nat := cdiv o.k (mxDepth md o.kBlock)

/-- Number of a row's tile in its row block's image, and its address. -/
def MxRow.tile (v : MxRow) : Nat := v.n * mxKts v.o v.md + v.kt
def MxRow.addr (v : MxRow) : Nat := tileAddr v.die v.o v.md v.g v.tile

/-- The key by which an activation row is read: in the cycle in which it enters (R180). -/
def MxRow.aKey (v : MxRow) (s : State) : Nat := s.spmKey v.die v.entry

/-- The key by which the byte at offset `off` of a tile is read, 1,024 bytes a cycle from cycle `ld` (R86). (DEDUCED, notes/assumptions/70.md) -/
def MxRow.wKey (v : MxRow) (s : State) (ld off : Nat) : Nat := s.spmKey v.die (ld + off / 1024)

/-- Value of A[i, k]; MX elements with their block scale. -/
def aElem (s : State) (v : MxRow) (k : Nat) : Fv := elemVal v.o.fmtA (elemAt s (v.aKey s) (aRowAddr v.die v.o v.g v.i) (elemBits v.o.fmtA) k)

def aScale (s : State) (v : MxRow) (blk : Nat) : Nat :=
  s.natAt (v.aKey s) (aRowAddr v.die v.o v.g v.i + v.o.k * elemBits v.o.fmtA / 8 + blk) 1

/-- Value of row `r`, column `c` of a tile, as the load that starts in cycle `ld` reads it. -/
def bElem (s : State) (v : MxRow) (ld r c : Nat) : Fv :=
  let b := elemBits v.o.fmtB
  let off := r * (512 * b / 8)
  elemVal v.o.fmtB (elemAt s (v.wKey s ld (off + c * b / 8)) (v.addr + off) b c)

def bScale (s : State) (v : MxRow) (blk c : Nat) : Nat :=
  let d := mxDepth v.md v.o.kBlock
  let off := d * (512 * elemBits v.o.fmtB / 8) + c * (d / 32) + blk
  s.natAt (v.wKey s v.ld off) (v.addr + off) 1

/-! ACF entries (R101, R104). -/

def acfKey (die col entry : Nat) : Nat := ((die % 4) * 512 + col) * 4096 + entry % 4096

/-- DESIGN CHOICE, notes/assumptions/6.md. -/
def State.acfGet (s : State) (die col entry : Nat) : Nat := s.acf.get (acfKey die col entry) 0

def State.acfPut (s : State) (die col entry v : Nat) : State := { s with acf := s.acf.put (acfKey die col entry) (v % 2 ^ 96) 0 }

def exNan : Int := -(2 ^ 95)
def exSat : Int := 2 ^ 95 - 1

/-- The column result of a tile in an EX96 mode: NaN, an infinity, or an exact integer (R103, R104). -/
inductive ExRes where
  | nan
  | inf (neg : Bool)
  | fin (x : Int)
deriving DecidableEq, Repr

/-- EX96 entry update: the new entry as an integer, and entry bits (ACC_SAT 2^5, INVALID 1) (R104). -/
def exUpdate (e : Int) (r : ExRes) : Int × Nat :=
  if e = exNan then (exNan, 0)
  else match r with
    | .nan => (exNan, 0)
    | .inf neg =>
      let t := if neg then -exSat else exSat
      if e = exSat ∨ e = -exSat then (if e = t then (e, 0) else (exNan, flagInvalid)) else (t, 0)
    | .fin x =>
      if e = exSat ∨ e = -exSat then (e, 0)
      else
        let y := e + x
        if -exSat < y ∧ y < exSat then (y, 0) else (if y < 0 then -exSat else exSat, 2 ^ 5)

/-- Sum of products with special values: the column's present special state and its exact finite sum (R100). -/
structure Chain where
  nan : Bool
  inf : Option Bool
  sum : Int
  flags : Nat
deriving DecidableEq, Repr

def Chain.start : Chain := ⟨false, none, 0, 0⟩

/-- An infinity joins a chain: with one of the opposite sign there, the sum becomes NaN and sets INVALID; a NaN stays (R100). -/
def Chain.addInf (c : Chain) (neg : Bool) : Chain :=
  if c.nan then c
  else match c.inf with
    | none => { c with inf := some neg }
    | some n => if n = neg then c else { c with nan := true, flags := c.flags ||| flagInvalid }

/-- Add a product, as an integer multiple of 2^q, to a chain. -/
def Chain.add (c : Chain) (q : Int) (a b : Fv) : Chain :=
  let (p, fl) := Fv.mul a b
  match p with
  | .nan => { c with nan := true, flags := c.flags ||| fl }
  | .inf s => c.addInf s
  | .fin s m e => { c with sum := c.sum + (truncDown s m e q).1 }

/-- Add a block's partial, whose contribution is `t`, to the tile register (R103). -/
def Chain.join (c b : Chain) (t : Int) (fl : Nat) : Chain :=
  let c := if b.nan then { c with nan := true } else match b.inf with
    | some n => c.addInf n
    | none => c
  { c with sum := c.sum + t, flags := c.flags ||| b.flags ||| fl }

/-- The chain's result (R100). -/
def Chain.res (c : Chain) : ExRes × Nat :=
  (if c.nan then .nan else match c.inf with
    | some n => .inf n
    | none => .fin c.sum, c.flags)

/-- Rows of a K-tile that lie below K (R96). -/
def tileRows (o : MxaOp) (md : MxMode) (kt : Nat) : Nat := min (mxDepth md o.kBlock) (o.k - kt * mxDepth md o.kBlock)

def MxRow.rows (v : MxRow) : Nat := tileRows v.o v.md v.kt

/-- The activation element that meets row `r` of the tile. -/
def MxRow.elem (v : MxRow) (s : State) (r : Nat) : Fv := aElem s v (v.kt * mxDepth v.md v.o.kBlock + r)

/-- 8-bit modes: the exact column sum (R102). -/
def col8 (s : State) (v : MxRow) (c : Nat) : ExRes × Nat :=
  let q : Int := if v.o.fmtA = 0 then 0 else -32
  ((List.range v.rows).foldl (fun ch r => ch.add q (v.elem s r) (bElem s v v.ld r c)) Chain.start).res

/-- Smallest-subnormal exponent of an MX element format (R102). -/
def mxL0 (c : Nat) : Int :=
  match c with
  | 3 => -9
  | 4 => -16
  | 5 => -3
  | 6 => -4
  | _ => -1

/-- MX modes: block partials, scaled, truncated to 2^Q and added in block order (R103). -/
def colMx (s : State) (v : MxRow) (c : Nat) : ExRes × Nat :=
  let d := mxDepth v.md v.o.kBlock
  let q := mxL0 v.o.fmtA + mxL0 v.o.fmtB
  ((List.range (cdiv v.rows 32)).foldl (fun (acc : Chain) blk =>
    let sa := aScale s v (v.kt * (d / 32) + blk)
    let sb := bScale s v blk c
    if sa = 0xFF ∨ sb = 0xFF then { acc with nan := true }
    else
      let ch := (List.range (min 32 (v.rows - 32 * blk))).foldl
        (fun ch r => ch.add q (v.elem s (32 * blk + r)) (bElem s v v.ld (32 * blk + r) c)) Chain.start
      let (t, lost) := truncDown (decide (ch.sum < 0)) ch.sum.natAbs (q + (sa : Int) - 127 + (sb : Int) - 127) v.o.acfQ
      acc.join ch t (if lost then 2 ^ 6 else 0)) Chain.start).res

/-- The binary32 chain of R105: products added in order of tile row to a partial that enters as −0. -/
def chain32 (terms : List (Option (Fv × Fv))) : Nat × Nat :=
  terms.foldl (fun (acc : Nat × Nat) t =>
    match t with
    | none => acc
    | some (a, b) =>
      let (p, fl) := Fv.mul a b
      let (x, g) := fmtF32.add .rne (fmtF32.decode acc.1) p
      (x, acc.2 ||| fl ||| g)) (0x80000000, 0)

def col16 (s : State) (v : MxRow) (c : Nat) : Nat × Nat :=
  chain32 ((List.range v.rows).map (fun r => some (v.elem s r, bElem s v v.ld r c)))

/-- The split of R120: the value rounded to 12 significant bits, and the rest. -/
def split12 (v : Fv) : Fv × Fv :=
  match v with
  | .fin s m e =>
    if m = 0 then (v, .fin s 0 e)
    else
      let ls := finLog2 m e - 11
      let (q, _) := roundAt .rne s m e ls false
      let hi : Fv := .fin s q ls
      let (x, g) := finSum s m e (!s) q ls
      (hi, .fin (decide (x < 0)) x.natAbs g)
  | w => (w, .fin false 0 0)

/-- A term of R121 with a low half: none when the low half is zero, and none when the other factor is an infinity or a NaN, which reach the result only through a_hi × b_hi. (DEDUCED, notes/assumptions/70.md) -/
def term32 (low other : Fv) (a b : Fv) : Option (Fv × Fv) :=
  match other with
  | .fin _ _ _ => if low.isZero then none else some (a, b)
  | _ => none

/-- The three column results of FP32 three-pass mode; the high and the low halves of the weights come from the loads of their own planes (R121, R126). -/
def col32 (s : State) (v : MxRow) (c : Nat) : List (Nat × Nat) :=
  let ab := (List.range v.rows).map (fun r => (split12 (v.elem s r), (split12 (bElem s v v.ld r c)).1, (split12 (bElem s v v.lo r c)).2))
  [chain32 (ab.map (fun x => term32 x.1.2 x.2.1 x.1.2 x.2.1)),
   chain32 (ab.map (fun x => some (x.1.1, x.2.1))),
   chain32 (ab.map (fun x => term32 x.2.2 x.1.1 x.1.1 x.2.2))]

/-! FP64 integer-slice mode (R122 to R124). -/

/-- Block exponent of a row's elements in a tile: −1,074 when all are zero. -/
def sliceExp (l : List Fv) : Int :=
  (l.foldl (fun (m : Option Int) v => match v with
    | .fin _ k e => if k = 0 then m else some (match m with
      | none => finLog2 k e
      | some x => max x (finLog2 k e))
    | _ => m) none).getD (-1074)

/-- X = x × 2^(53 − e_a), and whether it was rounded. -/
def sliceInt (ea : Int) (v : Fv) : Int × Bool :=
  match v with
  | .fin s m e => roundInt .rne s m (e + 53 - ea)
  | _ => (0, false)

/-- Slice j (0 highest) of X: signed base-256 digits. -/
def sliceDigit : Nat → Int → Int
  | 0, x => (x + 128) % 256 - 128
  | n + 1, x => sliceDigit n ((x - ((x + 128) % 256 - 128)) / 256)

def sliceOf (j : Nat) (x : Int) : Int := sliceDigit (6 - j) x

/-- A W64 window in its 6 entries, entry 0 first (R101). -/
def w64Of (e : List Nat) : Lgw :=
  let x := (e.zipIdx).foldl (fun a y => a + y.1 * 2 ^ (96 * y.2)) 0
  Lgw.ofBytes (leBytes 64 (x % 2 ^ 512) ++ leBytes 2 (bits x 512 16) ++ leBytes 1 (bits x 528 8) ++ leBytes 13 0)

/-- The W64 entry set of an output. -/
def State.w64Get (s : State) (die col e0 : Nat) : Lgw := w64Of ((List.range 6).map (fun i => s.acfGet die col (e0 + i)))

/-- Weight slice t_k of row r, column c. -/
def wSlice (s : State) (v : MxRow) (k r c : Nat) : Int :=
  let off := k * mxDepth v.md v.o.kBlock * 512 + r * 512 + c
  sint 8 (s.natAt (v.wKey s v.ld off) (v.addr + off) 1)

/-- The offset of a tile's column exponents, and the exponent of column c of K-tile `kt` as a read of key `k` sees it (R95). -/
def expOff (o : MxaOp) (md : MxMode) : Nat := 7 * mxDepth md o.kBlock * 512

def wExp (s : State) (v : MxRow) (k kt c : Nat) : Int :=
  sint 16 (s.natAt k (tileAddr v.die v.o v.md v.g (v.n * mxKts v.o v.md + kt) + expOff v.o v.md + 2 * c) 2)

/-- Activation elements of a row in tile kt. -/
def rowElems (s : State) (v : MxRow) (kt : Nat) : List Fv :=
  (List.range (tileRows v.o v.md kt)).map (fun r => aElem s v (kt * mxDepth v.md v.o.kBlock + r))

/-- The anchor of the exponent pre-pass: the largest e_a + e_b + 1 over the operation's tiles; it reads the row and every tile's exponents as the row enters its first tile (R124). (DEDUCED, notes/assumptions/70.md) -/
def prePass (s : State) (v : MxRow) (c : Nat) : Int :=
  let es := (List.range (mxKts v.o v.md)).map (fun kt => sliceExp (rowElems s v kt) + wExp s v (v.aKey s) kt c + 1)
  es.foldl max (es.headD 0)

/-- Re-base a window to a larger anchor (R124). -/
def Lgw.rebase (w : Lgw) (e : Int) : Lgw :=
  if e ≤ w.anchor then w
  else
    let x := sint 512 w.w
    let k := 2 ^ (e - w.anchor).toNat
    { w with w := unsint 512 (x / k), anchor := e, anchorSet := true, dropped := w.dropped || decide (x % k ≠ 0) }

/-- One tile's 49 slice products added into the window (R123, R124), with its flags and SLICE_ROUNDED. The anchor is taken to bound the slice products: none sets ABOVE, whatever its size. (DESIGN CHOICE, notes/assumptions/70.md) -/
def addSlices (s : State) (v : MxRow) (c : Nat) (w : Lgw) : Lgw × Bool :=
  let row := rowElems s v v.kt
  let ea := sliceExp row
  let eb := wExp s v (v.wKey s v.ld (expOff v.o v.md)) v.kt c
  let xs := row.map (sliceInt ea)
  let w := row.foldl (fun (w : Lgw) x => match x with
    | .nan => { w with nan := true }
    | .inf sg => if sg then { w with neg := true } else { w with pos := true }
    | _ => w) w
  let w := (List.range 7).foldl (fun w k => (List.range 7).foldl (fun (w : Lgw) j =>
    let p := (xs.zipIdx).foldl (fun (a : Int) x => a + sliceOf j x.1.1 * wSlice s v k x.2 c) 0
    let (t, lost) := truncDown (decide (p < 0)) p.natAbs (8 * (12 - (j : Int) - k) + ea + eb - 106) (w.anchor - 486)
    w.addW t lost) w) w
  (w, xs.any (fun x => x.2))

/-! One row of one tile (R101 to R105, R121, R124). -/

/-- The ACF entry of output row `i` of N-tile `n` of a row block (R101). -/
def acfEntry (md : MxMode) (g : MxGrp) (n i : Nat) : Nat := (g.base + (n * g.m + i) * mxW md) % 4096

def MxRow.e0 (v : MxRow) : Nat := acfEntry v.md v.g v.n v.i

/-- The columns below N (R96). -/
def MxRow.cols (v : MxRow) : List Nat := List.range (min 512 (v.o.n - 512 * v.n))

/-- Whether a row's result overwrites its entries: the first K-tile with ACCUM = 0 (R89). -/
def MxRow.first (v : MxRow) : Bool := v.kt == 0 && !v.o.accum

/-- An entry gets a value and a fresh code; what stood before is kept with the cycle of the write (R106, R125). -/
def State.acfWrite (s : State) (v : MxRow) (idx col entry x fl : Nat) : State :=
  let k := acfKey v.die col entry
  let s := { s with acfHist := ⟨s.absCyc v.die v.write, s.absCyc v.die v.entry, v.die, idx, k, s.acf.get k 0, fl⟩ :: s.acfHist, acfEcc := s.acfEcc.put k 0 0 }
  s.acfPut v.die col entry x

/-- The bits of W64 entry `i`. -/
def w64Bits (w : Lgw) (i : Nat) : Nat := bits (w.w + unsint 16 w.anchor * 2 ^ 512 + w.flagByte * 2 ^ 528) (96 * i) 96

/-- The new value of a row's entries in column `c`, first entry first, and entry bits. -/
def mxCell (s : State) (v : MxRow) (c : Nat) : List Nat × Nat :=
  let old := s.acfGet v.die c v.e0
  match v.md with
  | .bit8 | .mx8 | .mx4 =>
    let (r, fl) := if v.md = .bit8 then col8 s v c else colMx s v c
    let (x, f2) := exUpdate (if v.first then 0 else sint 96 old) r
    ([unsint 96 x], fl ||| f2)
  | .bit16 =>
    let (x, fl) := col16 s v c
    if v.first then ([x], fl)
    else let (y, f2) := fmtF32.add .rne (fmtF32.decode (old % 2 ^ 32)) (fmtF32.decode x); ([y], fl ||| f2)
  | .fp32 =>
    let (x, fl, _) := (col32 s v c).foldl (fun (acc : Nat × Nat × Bool) r =>
      if acc.2.2 then (r.1, acc.2.1 ||| r.2, false)
      else let (y, f2) := fmtF32.add .rne (fmtF32.decode acc.1) (fmtF32.decode r.1); (y, acc.2.1 ||| r.2 ||| f2, false))
      (old % 2 ^ 32, 0, v.first)
    ([x], fl)
  | .fp64 =>
    let held := s.w64Get v.die c v.e0
    let w0 := if v.kt ≠ 0 then held
      else if v.o.accum then ({ held with dropped := false } : Lgw).rebase (prePass s v c)
      else { Lgw.empty with anchor := prePass s v c, anchorSet := true, phase := 1 }
    let (w, rounded) := addSlices s v c { w0 with dropped := w0.dropped && v.kt == 0 }
    let all := { w with dropped := w.dropped || (held.dropped && !v.first) }
    ((List.range 6).map (w64Bits all), (if rounded then 2 ^ 7 else 0) ||| (if w.dropped then 2 ^ 8 else 0))

/-- A row of a tile is written over the columns below N, for command `idx` (R96). -/
def mxRow (v : MxRow) (idx : Nat) (s : State) : State × Nat :=
  v.cols.foldl (fun (acc : State × Nat) c =>
    let (xs, f) := mxCell acc.1 v c
    ((xs.zipIdx).foldl (fun s x => s.acfWrite v idx c (v.e0 + x.2) x.1 f) acc.1, acc.2 ||| f)) (s, 0)

/-- Take back the rows of command `idx` whose results would have been written in frame cycle `f` or later (R131, R243, R249, R627). -/
def State.acfUnwrite (s : State) (die idx f : Nat) : State :=
  let gone := fun (h : AcfW) => h.die == die && h.idx == idx && decide (s.absCyc die f ≤ h.at_)
  let acf := s.acfHist.foldl (fun (m : Assoc Nat) h => if gone h then m.put h.addr h.old 0 else m) s.acf
  { s with acf := acf, acfHist := s.acfHist.filter (fun h => !(gone h)) }

/-- The flags of the rows that command `idx` has written. -/
def State.acfFlags (s : State) (die idx : Nat) : Nat := (s.acfHist.filter (fun h => h.die == die && h.idx == idx)).foldl (fun a h => a ||| h.fl) 0

/-- An entry as a read in frame cycle `c` sees it: the writes of earlier cycles (R166). -/
def State.acfAt (s : State) (c die col entry : Nat) : Nat :=
  match ((s.acfHist.filter (fun h => h.addr == acfKey die col entry)).takeWhile (fun h => decide (s.absCyc die c ≤ h.at_))).getLast? with
  | none => s.acfGet die col entry
  | some h => h.old

/-! Timing (R125, R126, R628). -/

/-- All N-tiles of an operation in order: row block and N-tile number. -/
def mxNTiles (gs : List MxGrp) (o : MxaOp) : List (MxGrp × Nat) :=
  gs.flatMap (fun g => (List.range (cdiv o.n 512)).map (fun n => (g, n)))

/-- Cycles that tile t occupies: U_t, or the FP32 and FP64 tile lengths; `last` for the operation's last tile. -/
def tileCycles (o : MxaOp) (md : MxMode) (m : Nat) (last : Bool) : Nat :=
  match md with
  | .fp32 => max (4 * m) 2048 + (if last then 2 * m else max (2 * m) 2048)
  | .fp64 => 7 * mxDepth md o.kBlock / 2 + 1 + 64 * m
  | _ => if last then m * mxR md else max (m * mxR md) (mxL md o.fmtB)

/-- Cycles before the first tile: L, 2,048, or 0. -/
def mxLead (o : MxaOp) (md : MxMode) : Nat := mxL md o.fmtB

/-- Entry cycle of row i in a tile that starts at S. -/
def rowEntry (o : MxaOp) (md : MxMode) (start i : Nat) : Nat :=
  match md with
  | .fp32 => start + 4 * i
  | .fp64 => start + 7 * mxDepth md o.kBlock / 2 + 1 + 64 * i
  | _ => start + i * mxR md

/-- Cycle in which row i's results of a tile that starts at S are written. -/
def rowWrite (o : MxaOp) (md : MxMode) (m start i : Nat) : Nat :=
  match md with
  | .fp32 => start + max (4 * m) 2048 + 2 * i + mxP
  | .fp64 => start + 7 * mxDepth md o.kBlock / 2 + 1 + 64 * i + 63 + mxP
  | _ => start + i * mxR md + mxP

/-- Start cycles of the tiles of N-tile `q`, relative to the operation's start and without holds. -/
def tileStart (o : MxaOp) (md : MxMode) (nts : List (MxGrp × Nat)) (q kt : Nat) : Nat :=
  let kts := cdiv o.k (mxDepth md o.kBlock)
  mxLead o md + ((nts.take q).foldl (fun a x => a + kts * tileCycles o md x.1.m false) 0)
    + kt * tileCycles o md ((nts[q]?.map (fun x => x.1.m)).getD 0) false

/-- C without holds (R125, R126). -/
def mxCycles (o : MxaOp) (md : MxMode) (nts : List (MxGrp × Nat)) : Nat :=
  let kts := cdiv o.k (mxDepth md o.kBlock)
  let lastM := ((nts.getLast?).map (fun x => x.1.m)).getD 0
  mxLead o md + (nts.foldl (fun a x => a + kts * tileCycles o md x.1.m false) 0)
    - tileCycles o md lastM false + tileCycles o md lastM true + mxP

/-- The load cycles of a tile: L, or the slice planes and their exponents of FP64 mode (R86, R126). -/
def loadCycles (o : MxaOp) (md : MxMode) : Nat := if md = .fp64 then 7 * mxDepth md o.kBlock / 2 + 1 else mxL md o.fmtB

/-- Frame cycle in which the load of K-tile `kt` of N-tile `q` starts: the operation's first tile at its start; in the modes of R87 a later one as the tile before it becomes active; in FP32 mode with the phase before; in FP64 mode with its own tile. `ta` is the start plus holds up to the previous tile, `t0` up to this one (R87, R125, R126, R628). (DEDUCED, notes/assumptions/70.md) -/
def tileLoad (o : MxaOp) (md : MxMode) (nts : List (MxGrp × Nat)) (q kt ta t0 : Nat) : Nat :=
  let here := t0 + tileStart o md nts q kt
  if md = .fp64 then here
  else if q = 0 ∧ kt = 0 then ta
  else
    let m := ((nts[if kt = 0 then q - 1 else q]?).map (fun x => x.1.m)).getD 0
    let prev := (if kt = 0 then ta + tileStart o md nts (q - 1) (mxKts o md - 1) else t0 + tileStart o md nts q (kt - 1))
    if md = .fp32 then prev + max (4 * m) 2048 else prev

/-- The rows of N-tile `q`, in order. -/
def ntileRows (die : Nat) (o : MxaOp) (md : MxMode) (nts : List (MxGrp × Nat)) (q ta t0 : Nat) : List MxRow :=
  match nts[q]? with
  | none => []
  | some (g, n) => (List.range (mxKts o md)).flatMap (fun kt => (List.range g.m).map (fun i =>
      let st := tileStart o md nts q kt
      ⟨die, o, md, g, n, kt, i, tileLoad o md nts q kt ta t0, t0 + st, t0 + rowEntry o md st i, t0 + rowWrite o md g.m st i⟩))

/-! Faults that the data bring (R106, R131, R182, R627). -/

/-- The bytes of a tile's part of an activation row, as offset in the SPM and length (R94). -/
def aTilePart (o : MxaOp) (md : MxMode) (g : MxGrp) (i kt : Nat) : Nat × Nat :=
  let b := elemBits o.fmtA
  (g.aOff + i * o.aStride + kt * mxDepth md o.kBlock * b / 8, cdiv (tileRows o md kt * b) 8)

/-- The SPM ranges (tag, offset, length) that a row reads as it enters: its part of the activation row with its scales; in FP64 mode the pre-pass of the first tile reads the whole row (R94, R124). -/
def MxRow.aRanges (v : MxRow) : List (Nat × Nat × Nat) :=
  if v.md = .fp64 ∧ v.kt = 0 then [(0, v.g.aOff + v.i * v.o.aStride, 8 * v.o.k)]
  else
    let (off, n) := aTilePart v.o v.md v.g v.i v.kt
    (0, off, n) :: (if isMx v.o.fmtA then [(1, v.g.aOff + v.i * v.o.aStride + v.o.k * elemBits v.o.fmtA / 8 + v.kt * mxDepth v.md v.o.kBlock / 32, cdiv v.rows 32)] else [])

/-- The ranges of the weight image that first enter arithmetic with a row: its tile with the tile's first row, and every tile's exponents with the first of FP64 mode (R124, R627). -/
def MxRow.wRanges (v : MxRow) : List (Nat × Nat) :=
  if v.i ≠ 0 then []
  else (v.addr - spmBase v.die, tileBytes v.md v.o.fmtB v.o.kBlock) ::
    (if v.md = .fp64 ∧ v.kt = 0 then (List.range (mxKts v.o v.md)).map (fun kt => (tileAddr v.die v.o v.md v.g (v.n * mxKts v.o v.md + kt) - spmBase v.die + expOff v.o v.md, 1024)) else [])

/-- Whether a read of a row's entries in columns below N meets a double-bit ACF error: entries that the operation has not written yet (R106). -/
def MxRow.acfDouble (v : MxRow) (s : State) : Bool :=
  v.kt == 0 && v.o.accum && v.cols.any (fun c => (List.range (mxW v.md)).any (fun j => s.acfEcc.get (acfKey v.die c (v.e0 + j)) 0 == 2))

/-- Correct and count single-bit errors of the entries read (R106). -/
def State.acfCorrect (s : State) (die col entry : Nat) : State :=
  if s.acfEcc.get (acfKey die col entry) 0 = 1 then
    let s := { s with acfEcc := s.acfEcc.put (acfKey die col entry) 0 0 }
    let s := (s.satF (F.MXA_ACF_ERR_COUNT die) 1).hwSets [(F.MXA_ACF_ERR_COLUMN die, col), (F.MXA_ACF_ERR_ENTRY die, entry % 4096), (F.MXA_STATUS_ACF_CORRECTED die, 1)]
    s.count die 46 1
  else s

/-- The weight port loads a tile's `n` bytes from SPM offset `off` at 1,024 bytes a cycle from cycle `ld`: the cycle of a request over its budget. Between the first and the last window of a load its requests are contiguous and meet each bank at most once (R178, R182, R183). -/
def loadTile (die off n ld : Nat) (s : State) : Option Nat × State :=
  let fin := ld + cdiv n 1024
  let one := fun (w lo hi : Nat) (acc : Option Nat × State) =>
    if hi ≤ lo then acc
    else
      let (ovr, s) := acc.2.spmRequest die 1 w lo false (off + 1024 * (lo - ld)) (min n (1024 * (hi - ld)) - 1024 * (lo - ld))
      (if acc.1.isSome then acc.1 else if ovr then some lo else none, s)
  let a := min fin (16 * (ld / 16 + 1))
  let b := max a (16 * ((fin - 1) / 16))
  let r := one 1 b fin (one 0 ld a (none, s))
  (r.1, (r.2.count die 96 (8 * (b - a))).spmCorrect die off n)

/-- The earlier of two faults (code, cycle). -/
def firstFault (a b : Option (Nat × Nat)) : Option (Nat × Nat) :=
  match a, b with
  | none, x => x
  | x, none => x
  | some x, some y => if y.2 < x.2 then some y else some x

/-- A row enters, unless a fault came before: the reads of its tile's loads and of its activation part, and the earliest fault that it brings (R106, R131, R182, R627). `bad` is a residue mismatch at (tile, row). -/
def mxEnter (bad : Option (Nat × Nat × Nat)) (q : Nat) (acc : Option (Nat × Nat) × State) (v : MxRow) : Option (Nat × Nat) × State :=
  if acc.1.any (fun f => decide (f.2 < v.entry)) then acc
  else
    let s := acc.2
    let (ow, s) := if v.i ≠ 0 then (none, s)
      else
        let off := v.addr - spmBase v.die
        let n := tileBytes v.md v.o.fmtB v.o.kBlock
        let (a, s) := loadTile v.die off n v.ld s
        if v.md = .fp32 then (let (b, s) := loadTile v.die off n v.lo s; (if a.isSome then a else b, s)) else (a, s)
    let (oa, s) := v.aRanges.foldl (fun (acc : Bool × State) x => let (o, s) := acc.2.spmRead v.die 0 x.1 v.entry x.2.1 x.2.2; (acc.1 || o, s)) (false, s)
    let seen := v.wRanges ++ v.aRanges.map (fun x => x.2)
    let poison := seen.any (fun x => s.spmPoison v.die x.1 x.2)
    let s := if poison then s.noteDouble v.die seen else s
    let s := if v.i = 0 then s.count v.die 35 1 else s
    let s := s.count v.die 36 1
    let fs := [ow.map (fun c => (C.SPM_BANK_OVERLOAD, c)), if oa then some (C.SPM_BANK_OVERLOAD, v.entry) else none,
      if poison then some (C.SPM_UNCORRECTABLE, v.entry) else none,
      if bad.any (fun b => b.1 == q * mxKts v.o v.md + v.kt && b.2.1 == v.i) then some (C.MXA_CHECK, v.write) else none,
      if v.acfDouble s then some (C.MXA_ACF_UNCORRECTABLE, v.write) else none]
    (fs.foldl firstFault acc.1, s)

/-- A row that was written before the fault, if any: its entries read are corrected, its results written (R106, R243). -/
def mxWrite (idx : Nat) (fault : Option (Nat × Nat)) (s : State) (v : MxRow) : State :=
  if fault.any (fun f => decide (f.2 ≤ v.write)) then s
  else
    let s := if v.kt = 0 ∧ v.o.accum = true then v.cols.foldl (fun s c => (List.range (mxW v.md)).foldl (fun s j => s.acfCorrect v.die c (v.e0 + j)) s) s else s
    (mxRow v idx s).1

/-! The operation (R125 to R127, R165, R627). -/

/-- The entry indices of an N-tile whose rows are `l`, each with the cycle after its last write; `from_` is the cycle in which PENDING is set (R165). -/
def ntileMarks (l : List MxRow) (from_ idx : Nat) : List AcfMark :=
  (l.filter (fun v => v.kt + 1 == mxKts v.o v.md)).flatMap (fun v => (List.range (mxW v.md)).map (fun j => ⟨(v.e0 + j) % 4096, from_, v.write + 1, idx⟩))

/-- The first cycle from `e` on in which none of the entries is HELD; a bit set in the very cycle of the check comes after it (R127, R164, R166). -/
def holdUntil (held : List AcfMark) (ents : List Nat) : Nat → Nat → Nat
  | 0, e => e
  | k + 1, e =>
    let m := (held.filter (fun h => decide (h.from_ < e) && decide (e < h.until_) && ents.contains h.entry)).foldl (fun a h => max a h.until_) e
    if m = e then e else holdUntil held ents k m

/-- Whether a chain that started before cycle `c` has not run yet: its HELD bits are not known. -/
def State.chainFirst (s : State) (die c : Nat) : Bool :=
  (s.die die).run.any (fun r => !r.performed && r.fault.isNone && decide (r.start < c) && (s.cmdAt die r.idx).any (fun x => x.opcode == opSxe))

/-- The row blocks' N-tiles of command `c`, which started in cycle `t`; none for a format pair that no mode takes. -/
def cmdNTiles (s : State) (die t : Nat) (c : Cmd) : Option (MxaOp × MxMode × List (MxGrp × Nat)) :=
  let o := MxaOp.ofBytes c.operands
  (mxMode o.fmtA o.fmtB).map (fun md => (o, md, mxNTiles (mxGroups s die (s.spmKey die t) o md) o))

/-- The array unit that a residue mismatch names: KIND 1 and the row, or KIND 2 and the column; a number from 512 on is that of a row (R131, R575). (DESIGN CHOICE, notes/assumptions/70.md) -/
def residueUnit (u : Nat) : Nat × Nat := if 512 ≤ u then (1, u - 512) else (2, u)

/-- An MXA command faults in cycle `f`: rows not written by then are taken back, its PENDING bits clear, and a residue mismatch names the unit, which needs a spare (R131, R165, R243, R575). -/
def State.faultMxa (s : State) (die idx code f : Nat) (bad : Option (Nat × Nat × Nat)) : State :=
  let s := s.acfUnwrite die idx f
  let s := s.updRun die idx (fun r => { r with entry := s.acfFlags die idx })
  let n := s.reports.length
  let s := s.faultUnit 2 die idx code f
  let s := s.updDie die (fun d => { d with pend := d.pend.map (fun p => if p.owner == idx then { p with until_ := min p.until_ (f + 1) } else p) })
  if code ≠ C.MXA_CHECK then s
  else
    let (k, u) := residueUnit ((bad.map (fun b => b.2.2)).getD 0)
    (s.nameReports n C.MXA_CHECK k u).needSpare k die 0 u false

/-- Swaps of planes: the tiles of the modes of R87 whose first row entered (R133). In FP32 and FP64 modes ACTIVE_PLANE keeps its value. (DESIGN CHOICE for those modes, notes/assumptions/70.md) -/
def planeAfter (md : MxMode) (swaps old : Nat) : Nat := if md = .fp32 ∨ md = .fp64 then old else (old + swaps) % 2

/-- N-tile `q` of the running operation starts once none of its entries is HELD, sets PENDING and is computed; not while a chain that started before it has still to run (R87, R127, R165, R166). -/
def startNTile (die idx q : Nat) (c : Cmd) (bad : Option (Nat × Nat × Nat)) (s : State) : State :=
  match s.runAt die idx with
  | none => s
  | some r =>
    match cmdNTiles s die r.start c with
    | none => s
    | some (o, md, nts) =>
      let ta := r.start + r.wait
      let first := ta + rowEntry o md (tileStart o md nts q 0) 0
      if r.progress ≠ q ∨ nts.length ≤ q ∨ r.fault.isSome ∨ s.chainFirst die first = true then s
      else
        let ents := (ntileMarks (ntileRows die o md nts q ta ta) 0 idx).map (fun m => m.entry)
        let hold := holdUntil (s.die die).held ents (s.die die).held.length first - first
        let rows := ntileRows die o md nts q ta (ta + hold)
        let marks := ntileMarks rows (first + hold) idx
        let s := s.count die 34 hold
        let s := if hold = 0 then s else s.expo die 0x05 (2 + 16) 0 idx first hold (ents.headD 0) (some 4)
        let s := s.updDie die (fun d => { d with pend := d.pend ++ marks })
        let (fault, s) := rows.foldl (mxEnter bad q) (none, s)
        let s := rows.foldl (mxWrite idx fault) s
        let swaps := (rows.filter (fun v => v.i == 0 && fault.all (fun f => decide (v.entry ≤ f.2)))).length
        let s := s.setF (F.MXA_STATUS_ACTIVE_PLANE die) (planeAfter md swaps (s.getF (F.MXA_STATUS_ACTIVE_PLANE die)))
        let s := s.updRun die idx (fun r => { r with progress := q + 1, wait := r.wait + hold, holds := r.holds ++ [r.wait + hold], entry := s.acfFlags die idx })
        match fault with
        | none => s
        | some (code, f) => s.faultMxa die idx code f bad

/-- What stops an MXA command before its first tile: DEGRADED or a check that fails on the structures as read (R132, R189, R627, R629). -/
def mxaReject (s : State) (die t : Nat) (c : Cmd) : Option (Nat × Nat) :=
  let o := MxaOp.ofBytes c.operands
  if s.getF (F.MXA_STATUS_DEGRADED die) = 1 then some (1, C.MXA_DEGRADED)
  else if s.spmDegraded die then some (1, C.SPM_DEGRADED)
  else if o.kind = 2 ∧ s.poisoned (spmBase die + o.bStride) (16 * o.batch) then some (2, C.SPM_UNCORRECTABLE)
  else (mxaCheck s die (s.spmKey die t) c.operands).map (fun x => (1, x))

/-- MXA_NTILE_START: the next N-tile of a started operation; `residue` is a residue mismatch (tile, row, array unit) that the column check finds (R127, R131, R165). -/
def doMxaNtileStart (die idx n : Nat) (residue : Option (Nat × Nat × Nat)) (s : State) : State :=
  match s.toRun die idx opMxa with
  | none => s
  | some (c, r) => if (mxaReject s die r.start c).isSome then s else startNTile die idx n c residue s

def execMxaNtileStart (die : Fin 4) (idx : Nat) (n : NTileStart) (s : State) : Host.Outcome State Fault Refusal :=
  .next (doMxaNtileStart die idx n.n n.residueFail s)

/-- An operation whose N-tiles have all run is performed: it completes with its last ACF write (R125, R126). -/
def mxaEnd (die idx : Nat) (c : Cmd) (s : State) : State :=
  match s.runAt die idx with
  | none => s
  | some r =>
    match cmdNTiles s die r.start c with
    | none => s
    | some (o, md, nts) =>
      if r.fault.isSome ∨ r.progress < nts.length then s
      else
        let fin := r.start + r.wait + mxCycles o md nts - 1
        (s.count die 33 (fin + 1 - r.start)).perform die idx (some fin) 0

/-- MXA: the operation computes its GEMM into the ACF, N-tile by N-tile, in its cycle formula; `residue` is a residue mismatch (tile, row, array unit) that the column check finds. Where a chain that started before an N-tile has still to run, the operation goes on at its next row (R125 to R128, R131, R166). (DESIGN CHOICE, notes/assumptions/10.md) -/
def doMxa (die idx : Nat) (residue : Option (Nat × Nat × Nat)) (s : State) : State :=
  match s.toRun die idx opMxa with
  | none => s
  | some (c, r) =>
    match mxaReject s die r.start c with
    | some (cls, code) => s.faultUnit cls die idx code r.start
    | none =>
      match cmdNTiles s die r.start c with
      | none => s
      | some (_, _, nts) =>
        let s := if r.progress = 0 then s.count die 32 1 else s
        mxaEnd die idx c ((List.range nts.length).foldl (fun s q => startNTile die idx q c residue s) s)

def execMxa (die : Fin 4) (idx : Nat) (residueFail : Option (Nat × Nat × Nat)) (s : State) : Host.Outcome State Fault Refusal :=
  .next (doMxa die idx residueFail s)

/-! What the registers show meanwhile (R133). -/

/-- The loads and swaps of an operation's tiles, in cycles: the start of each load and the entry of the tile's first row, with the waits known so far. -/
def mxTiles (die : Nat) (r : RunCmd) (o : MxaOp) (md : MxMode) (nts : List (MxGrp × Nat)) : List (Nat × Nat) :=
  (List.range nts.length).flatMap (fun q =>
    let ta := r.start + (if q = 0 then 0 else r.holds.getD (q - 1) r.wait)
    ((ntileRows die o md nts q ta (r.start + r.holds.getD q r.wait)).filter (fun v => v.i == 0)).map (fun v => (v.ld, v.entry)))

/-- SHADOW_VALID and ACTIVE_PLANE in frame cycle `c`: from the end of a load to the swap, and the swaps still to come taken back (R133). -/
def State.mxPlanes (s : State) (die c : Nat) : Bool × Nat :=
  let plane := s.getF (F.MXA_STATUS_ACTIVE_PLANE die)
  match (s.die die).run.find? (fun r => (s.cmdAt die r.idx).any (fun x => x.opcode == opMxa)) with
  | none => (false, plane)
  | some r =>
    match (s.cmdAt die r.idx).bind (cmdNTiles s die r.start) with
    | none => (false, plane)
    | some (o, md, nts) =>
      let l := mxTiles die r o md nts
      if md = .fp32 ∨ md = .fp64 then (false, plane)
      else if r.fault.isSome then (false, plane)
      else (l.any (fun x => decide (x.1 + loadCycles o md ≤ c) && decide (c < x.2)),
        (plane + ((l.take (r.progress * mxKts o md)).filter (fun x => decide (c < x.2))).length) % 2)

end Sys2Proof.Machine
end

