-- ==== Sys2Proof/Machine/Trans.lean ====
section
/-! DEFINITION. Transcendental functions of the SXE (R150, R172, R173): high-precision approximations that bound the result, the fixed algorithm's choice within the bound as a free value, and the special values. -/
namespace Sys2Proof.Machine

/-- Fraction bits of the approximations below. -/
def trP : Nat := 420

/-- One in fixed point. -/
def trOne : Int := 2 ^ trP

def trMul (a b : Int) : Int := a * b / trOne
def trDiv (a b : Int) : Int := a * trOne / b

/-- ln 2 = Σ 1 / (k 2^k). -/
def trLn2 : Int := (List.range trP).foldl (fun a k => a + 2 ^ (trP - (k + 1)) / ((k : Int) + 1)) 0

/-- Σ over n of x^n / n!, by its terms. -/
def trExpSum (x : Int) : Int :=
  ((List.range 100).foldl (fun (acc : Int × Int) (n : Nat) => let t := trMul acc.2 x / ((n : Int) + 1); (acc.1 + t, t)) (trOne, trOne)).1

/-- e^x in fixed point for a fixed-point x, as mantissa and binary exponent. -/
def trExp (x : Int) : Int × Int :=
  let k := x / trLn2
  (trExpSum (x - k * trLn2), k - trP)

/-- artanh(t) for |t| ≤ 1/3. -/
def trArtanh (t : Int) : Int :=
  let t2 := trMul t t
  ((List.range 140).foldl (fun (acc : Int × Int) (n : Nat) => (acc.1 + acc.2 / (2 * (n : Int) + 1), trMul acc.2 t2)) (0, t)).1

/-- arctan(1/n). -/
def trAtanInv (n : Int) : Int :=
  ((List.range 160).foldl (fun (acc : Int × Int) (k : Nat) =>
    (if k % 2 = 0 then acc.1 + acc.2 / (2 * (k : Int) + 1) else acc.1 - acc.2 / (2 * (k : Int) + 1), acc.2 / (n * n))) (0, trOne / n)).1

/-- π by Machin's formula. -/
def trPi : Int := 4 * (4 * trAtanInv 5 - trAtanInv 239)

/-- The fixed-point number of m × 2^e. -/
def trFix (neg : Bool) (m : Nat) (e : Int) : Int :=
  let x : Int := (shlI m (e + trP) : Nat)
  if neg then -x else x

/-- ln(m × 2^e). -/
def trLn (m : Nat) (e : Int) : Int :=
  let k := Nat.log2 m
  let z : Int := (shlI m ((trP : Int) - k) : Nat)
  2 * trArtanh (trDiv (z - trOne) (z + trOne)) + (e + k) * trLn2

/-- A function's value at a finite non-zero input where it is finite, as a signed mantissa and exponent (relative error far below one ulp of FP64). -/
def trApprox (op : Nat) (neg : Bool) (m : Nat) (e : Int) : Int × Int :=
  let lg := finLog2 m e
  let sgn : Int := if neg then -1 else 1
  match op with
  | 0 | 1 =>
    if 11 ≤ lg then (1, if neg then -4000 else 4000)
    else if lg < -100 then (trOne + (if neg then -1 else 1), -(trP : Int))
    else
      let x := trFix neg m e
      trExp (if op = 0 then x else trMul x trLn2)
  | 2 => (trLn m e, -(trP : Int))
  | 3 => (trDiv (trLn m e) trLn2, -(trP : Int))
  | 4 =>
    let odd := e % 2
    let n := m * 2 ^ odd.toNat
    let r := isqrt (2 ^ (2 * trP) * 2 ^ (2 * trP) / n)
    ((r : Int), -(2 * (trP : Int)) - (e - odd) / 2)
  | 5 =>
    if lg < -60 then
      (sgn * ((m : Int) * 2 ^ 400 - max 1 ((shlI (m * m * m) (2 * e + 400) : Nat) / 3)), e - 400)
    else if 6 ≤ lg then (sgn * (trOne - 1), -(trP : Int))
    else
      let x := trFix false m e
      let (a, k) := trExp (-2 * x)
      let y := if 0 ≤ k + trP then a * 2 ^ (k + trP).toNat else a / 2 ^ (-(k + trP)).toNat
      (sgn * trDiv (trOne - y) (trOne + y), -(trP : Int))
  | 6 =>
    if 4 ≤ lg then (sgn * (trOne - 1), -(trP : Int))
    else
      let x := trFix false m e
      let x2 := trMul x x
      let s := ((List.range 900).foldl (fun (acc : Int × Int) (n : Nat) =>
        (acc.1 + acc.2 / (2 * (n : Int) + 1), -(trMul acc.2 x2) / ((n : Int) + 1))) (0, trOne)).1
      let root : Int := (isqrt (trPi.toNat * 2 ^ trP) : Nat)
      (sgn * (m : Int) * (trDiv (2 * s) root), e - trP)
  | _ =>
    if 11 ≤ lg then (if neg then (1, -4000) else (trOne - 1, -(trP : Int)))
    else
      let (a, k) := trExp (-(trFix false m e))
      let y := if 0 ≤ k + trP then a * 2 ^ (k + trP).toNat else a / 2 ^ (-(k + trP)).toNat
      if neg then (a * trOne / (trOne + y), k) else (trDiv trOne (trOne + y), -(trP : Int))

/-- The bound of R172 in ulp. -/
def trBound (op : Nat) : Nat := if op < 5 then 1 else 2

/-- Whether an encoded finite value lies within `b` ulp of m × 2^e in the format's spacing there (R172). (DESIGN CHOICE, notes/assumptions/30.md) -/
def trWithin (f : Fmt) (b : Nat) (neg : Bool) (m : Nat) (e : Int) (x : Nat) : Bool :=
  match f.decode x with
  | .fin s n g =>
    let ulp := max (finLog2 m e - f.mw) (1 - (f.bias : Int) - f.mw)
    let (d, q) := finSum s n g (!neg) m e
    let (w, _) := finSum false d.natAbs q true b ulp
    decide (w ≤ 0)
  | _ => false

/-- The result at an ordinary input: within the bound of R172, the fixed algorithm's choice free; always INEXACT, UNDERFLOW when tiny (R173). -/
def trFinite (f : Fmt) (w op : Nat) (neg : Bool) (m : Nat) (e : Int) : Nat × Nat :=
  let (a, k) := trApprox op neg m e
  let sg := decide (a < 0)
  let (near, fl) := f.roundFin .rne false sg a.natAbs k true
  let tiny := a = 0 || decide (finLog2 a.natAbs k < 1 - (f.bias : Int))
  let fl := fl ||| flagInexact ||| (if tiny then flagUnderflow else 0)
  let mag := 2 ^ (f.ew + f.mw)
  if near % mag = f.infBits false then (near, fl)
  else
    let off := Config.transOff op w (f.roundFin .rne false neg m e false).1
    let c := ((near % mag : Nat) : Int) + off
    let cand := b2n sg * mag + c.toNat
    if 0 ≤ c ∧ c < (f.infBits false : Int) ∧ trWithin f (trBound op) sg a.natAbs k cand then (cand, fl) else (near, fl)

/-- A TRANS operation: 0 EXP, 1 EXP2, 2 LOG, 3 LOG2, 4 RSQRT, 5 TANH, 6 ERF, 7 SIGMOID; `w` is the working format's code (R173). (DESIGN CHOICE, notes/assumptions/30.md) -/
def transOp (f : Fmt) (w op : Nat) (a : Fv) : Nat × Nat :=
  let one := f.bias * 2 ^ f.mw
  let neg1 := 2 ^ (f.ew + f.mw) + one
  match a with
  | .nan => (f.cnan, 0)
  | .inf s =>
    match op with
    | 0 | 1 => if s then (0, 0) else (f.infBits false, 0)
    | 2 | 3 => if s then (f.cnan, flagInvalid) else (f.infBits false, 0)
    | 4 => if s then (f.cnan, flagInvalid) else (0, 0)
    | 5 | 6 => if s then (neg1, 0) else (one, 0)
    | _ => if s then (0, 0) else (one, 0)
  | .fin s m e =>
    if m = 0 then
      (match op with
      | 0 | 1 => (one, 0)
      | 2 | 3 => (f.infBits true, flagDivzero)
      | 4 => (f.infBits s, flagDivzero)
      | 5 | 6 => (b2n s * 2 ^ (f.ew + f.mw), 0)
      | _ => (one - 2 ^ f.mw, 0))
    else if s && (op == 2 || op == 3 || op == 4) then (f.cnan, flagInvalid)
    else if (op == 2 || op == 3) && decide (Fv.cmp a (.fin false 1 0) = .eq) then (0, 0)
    else trFinite f w op s m e

end Sys2Proof.Machine
end

