-- ==== Sys2Proof/Machine/Sxe.lean ====
section
/-! DEFINITION. The Stream Engine: chain descriptors and their checks, stream conversion, stages, reductions, outputs, flags, reading the accumulator file, cycles and faults (R135 to R173). -/
namespace Sys2Proof.Machine

/-! Operands and descriptors (R139, R142, R143, R148). -/

structure SxOp where
  chain : Nat
  rows : Nat
  rowLen : Nat
  row0 : Nat
  flagOff : Nat
deriving DecidableEq, Repr

def SxOp.ofBytes (b : List Byte) : SxOp := ⟨fieldAt b 0 4, fieldAt b 4 4, fieldAt b 8 4, fieldAt b 12 4, fieldAt b 16 4⟩

structure SxStage where
  kind : Nat
  init : Bool
  sat : Bool
  rm : Rm
  op : Nat
  src : List Nat
  dst : Nat
  pred : Nat
  inv : Bool
  imm : Nat
deriving DecidableEq, Repr

def SxStage.ofBytes (b : List Byte) : SxStage :=
  let c := fieldAt b 0 1
  ⟨bits c 0 4, bit c 4, bit c 5, Rm.ofCode (bits c 6 2), fieldAt b 1 1, [fieldAt b 2 1, fieldAt b 3 1, fieldAt b 4 1, fieldAt b 5 1],
    fieldAt b 6 1, fieldAt b 7 1 % 128, bit (fieldAt b 7 1) 7, fieldAt b 8 8⟩

structure SxStream where
  kind : Nat
  form : Nat
  q : Int
  base : Nat
  stride : Nat
  nEnt : Nat
  zeros : Bool
deriving DecidableEq, Repr

def SxStream.ofBytes (b : List Byte) : SxStream :=
  ⟨fieldAt b 0 1, fieldAt b 1 1, sint 16 (fieldAt b 2 2), fieldAt b 4 4, fieldAt b 8 4, fieldAt b 12 4, zeroAt b 16 16⟩

def SxStream.fmt (x : SxStream) : Nat := x.form % 16
def SxStream.rep (x : SxStream) : Nat := bits x.form 4 3

/-- A chain as the SXE reads it: operands, working format, TRAP, stages and streams. -/
structure SxChain where
  o : SxOp
  w : Nat
  trap : Nat
  stages : List SxStage
  streams : List SxStream
deriving DecidableEq, Repr

/-- The working format (R142). -/
def SxChain.f (c : SxChain) : Fmt := if c.w = 0xB then fmtF64 else fmtF32

def SxChain.stream (c : SxChain) (n : Nat) : SxStream := c.streams.getD n ⟨0, 0, 0, 0, 0, 0, true⟩

/-- Read a chain descriptor from the SPM, as reads of key `k` see it. -/
def readChain (s : State) (die k : Nat) (o : SxOp) : SxChain :=
  let a := spmBase die + o.chain
  let h := s.readAt k a 192
  let nst := fieldAt h 0 1
  let nsm := fieldAt h 1 1
  ⟨o, fieldAt h 2 1, fieldAt h 3 1, (List.range (min nst 8)).map (fun k => SxStage.ofBytes ((h.drop (64 + 16 * k)).take 16)),
    (List.range (min nsm 16)).map (fun n => SxStream.ofBytes (s.readAt k (a + 192 + 32 * n) 32))⟩

/-! Checks (R144, R146, R148 to R150, R153, R158, R159, R625). -/

/-- Operands that an operation uses (R148, R150); none for a reserved OP. -/
def sxUses (kind op : Nat) : Option Nat :=
  match kind with
  | 1 => if op = 3 then some 3 else if op < 6 then some 2 else if op < 9 then some 1 else none
  | 2 => if op = 0 then some 2 else if op < 3 then some 1 else none
  | 3 => if op < 8 then some 1 else none
  | 4 => if op < 7 then some 4 else none
  | 5 => if op < 5 then some 1 else none
  | 6 => if op < 12 then some 1 else none
  | 7 => if op = 0 then some 2 else none
  | 8 => if op = 0 then some 2 else none
  | _ => none

/-- Bytes of a row of a stream's elements (R144). -/
def rowBytes (fmt n : Nat) : Nat := cdiv (n * elemBits fmt) 8 + (if isMx fmt then cdiv n 32 else 0)

/-- Bytes and alignment of a reduction target (R153). -/
def targetBytes (op w : Nat) : Nat := if op = 0 then 64 else if op < 3 then (if w = 0xB then 8 else 4) else 80
def targetAlign (op w : Nat) : Nat := if op = 0 then 64 else if op < 3 then (if w = 0xB then 8 else 4) else 16

/-- An operand selector of stage `k` (R149); `tab` for the table selector of LOOKUP and INTERP. -/
def selOk (c : SxChain) (k : Nat) (st : SxStage) (tab : Bool) (x : Nat) : Bool :=
  if tab then decide (x < c.streams.length) && (c.stream x).kind == 5
  else if x < 0x10 then decide (x < c.streams.length) && ((c.stream x).kind == 1 || (c.stream x).kind == 3)
  else if x < 0x18 then decide (x - 0x10 < k)
  else if x = 0x20 then c.w == 0xB || decide (st.imm < 2 ^ 32)
  else decide (0x21 ≤ x) && decide (x ≤ 0x25)

/-- One stage against R148 to R150, R153 and R158. -/
def stageOk (c : SxChain) (k : Nat) (st : SxStage) : Bool :=
  match sxUses st.kind st.op with
  | none => false
  | some n =>
    ((st.src.zipIdx).all (fun x => if x.2 < n then selOk c k st (x.2 == 1 && (st.kind == 7 || st.kind == 8)) x.1 else x.1 == 0xFF))
    && (st.pred == 0x7F || (decide (st.pred < 0x10) && decide (st.pred < c.streams.length) && (c.stream st.pred).kind == 4)
      || (decide (0x10 ≤ st.pred) && decide (st.pred < 0x10 + k) && (c.stages[st.pred - 0x10]?).any (fun t => t.kind == 4)))
    && (st.dst == 0xFF || (decide (st.dst < c.streams.length) && (c.stream st.dst).kind == 2
      && ((c.stream st.dst).fmt == c.w || (st.kind == 6 && st.op == (c.stream st.dst).fmt))))
    && (st.kind != 5 || (decide (st.imm % 2 ^ 32 % targetAlign st.op c.w = 0) && decide (st.imm / 2 ^ 32 % targetAlign st.op c.w = 0)
      && (st.op != 0 || c.w == 0xA) && (decide (st.op < 3) || decide (80 ≤ st.imm / 2 ^ 32))))

/-- SXE_CHAIN_FMT: the header, every stage, and exactly one writer per output stream. -/
def chainFmtOk (h : List Byte) (c : SxChain) : Bool :=
  decide (1 ≤ fieldAt h 0 1) && decide (fieldAt h 0 1 ≤ 8) && decide (1 ≤ fieldAt h 1 1) && decide (fieldAt h 1 1 ≤ 16)
    && (c.w == 0xA || c.w == 0xB) && decide (c.trap < 32) && zeroAt h 4 60
    && ((c.stages.zipIdx).all (fun x => stageOk c x.2 x.1))
    && ((c.streams.zipIdx).all (fun x => x.1.kind != 2 || (c.stages.filter (fun st => st.dst == x.2)).length == 1))

/-- Whether a format may be read as stream elements, or as scalars and table entries (R144). -/
def inFmtOk (w fmt : Nat) : Bool := decide (fmt ≤ 0xA) || (fmt == 0xB && w == 0xB)
def scalFmtOk (w fmt : Nat) : Bool := decide (fmt ≤ 2) || (decide (8 ≤ fmt) && decide (fmt ≤ 0xA)) || (fmt == 0xB && w == 0xB)

/-- SXE_STREAM: one stream descriptor against R143 and R144. -/
def streamOk (c : SxChain) (x : SxStream) : Bool :=
  let al := fun (m : Nat) => decide (x.base % m = 0) && decide (x.stride % m = 0)
  let n := c.o.rowLen
  decide (x.form < 128) && x.zeros && (x.rep == 1 || x.q == 0) && (if x.kind = 5 then decide (2 ≤ x.nEnt) && decide (x.nEnt ≤ 256) else x.nEnt == 0)
    && (match x.kind with
      | 0 => decide (x.rep < 6) && decide (x.fmt ≤ 0xB)
      | 1 =>
        if x.rep = 0 then inFmtOk c.w x.fmt && al 64 && (!(isMx x.fmt) || decide (n % 32 = 0))
        else decide (x.rep ≤ 3) && x.fmt == 0 && decide (x.base < 4096) && (x.rep != 3 || c.w == 0xB)
      | 2 => x.rep == 0 && decide (x.fmt ≤ 0xB) && al 64 && decide (rowBytes x.fmt n ≤ x.stride) && (!(isMx x.fmt) || decide (n % 32 = 0))
      | 3 =>
        (x.rep == 0 && scalFmtOk c.w x.fmt && al (elemBits x.fmt / 8)) || (x.rep == 4 && x.fmt == 0 && al 64)
          || (x.rep == 5 && x.fmt == 0 && al 16 && decide (80 ≤ x.stride))
      | 4 => x.rep == 0 && x.fmt == 0 && al 64
      | 5 => x.rep == 0 && scalFmtOk c.w x.fmt && decide (x.base % 64 = 0)
      | _ => false)

/-- A range in the SPM: `rows` pieces of `size` bytes, `stride` apart; whether the chain writes it; base, stride and element bits of an input or output stream (R146). -/
structure SxRange where
  base : Nat
  stride : Nat
  size : Nat
  rows : Nat
  wr : Bool
  elem : Option (Nat × Nat × Nat × Bool)
deriving DecidableEq, Repr

def SxRange.last (r : SxRange) : Nat := r.base + (r.rows - 1) * r.stride + r.size

/-- The ranges of streams, reduction targets and flag bytes. (DEDUCED, notes/assumptions/45.md) -/
def chainRanges (c : SxChain) : List SxRange :=
  let n := c.o.rowLen
  let rows := c.o.rows
  (c.streams.flatMap (fun x =>
    match x.kind with
    | 1 => if x.rep = 0 then [⟨x.base, x.stride, rowBytes x.fmt n, rows, false, some (x.base, x.stride, elemBits x.fmt, true)⟩] else []
    | 2 => [⟨x.base, x.stride, rowBytes x.fmt n, rows, true, some (x.base, x.stride, elemBits x.fmt, false)⟩]
    | 3 => [⟨x.base, x.stride, if x.rep = 4 then 64 else if x.rep = 5 then 80 else elemBits x.fmt / 8, rows, false, none⟩]
    | 4 => [⟨x.base, x.stride, cdiv n 8, rows, false, none⟩]
    | 5 => [⟨x.base, 0, x.nEnt * elemBits x.fmt / 8, 1, false, none⟩]
    | _ => []))
  ++ (c.stages.flatMap (fun st => if st.kind = 5 then [⟨st.imm % 2 ^ 32, st.imm / 2 ^ 32, targetBytes st.op c.w, rows, true, none⟩] else []))
  ++ (if c.o.flagOff = 0xFFFFFFFF then [] else [⟨c.o.flagOff, 1, 1, rows, true, none⟩])

/-- The descriptor's own range. -/
def descRange (o : SxOp) (streams : Nat) : SxRange := ⟨o.chain, 0, 192 + 32 * streams, 1, false, none⟩

/-- Whether row `i` of `a` meets a row of `b`, without going through b's rows: the candidate rows are those around the quotient. -/
def rowMeets (lo hi : Nat) (b : SxRange) : Bool :=
  if b.stride = 0 then decide (lo < b.base + b.size) && decide (b.base < hi)
  else
    let first := if lo < b.base + b.size then 0 else (lo - b.base - b.size) / b.stride + 1
    decide (first < b.rows) && decide (lo < b.base + first * b.stride + b.size) && decide (b.base + first * b.stride < hi)

/-- Whether two ranges share a byte. -/
def SxRange.meets (a b : SxRange) : Bool :=
  decide (a.base < b.last) && decide (b.base < a.last) &&
    (if a.stride = 0 ∨ a.stride ≤ a.size then rowMeets a.base a.last b
     else (List.range a.rows).any (fun i => rowMeets (a.base + i * a.stride) (a.base + i * a.stride + a.size) b))

/-- The in-place exception of R146. -/
def inPlace (a b : SxRange) : Bool :=
  match a.elem, b.elem with
  | some (x, y, z, i), some (x', y', z', j) => x == x' && y == y' && z == z' && i != j
  | _, _ => false

/-- SXE_OVERLAP: a written range meets another range. (DEDUCED, notes/assumptions/45.md) -/
def overlapOk : List SxRange → Bool
  | [] => true
  | a :: r => r.all (fun b => !(a.wr || b.wr) || inPlace a b || !(a.meets b)) && overlapOk r

/-- The unit's own checks on an SXE command, in the order of R625, on the descriptor that reads of key `k` see. -/
def sxeCheck (s : State) (die k : Nat) (b : List Byte) : Option Nat :=
  let o := SxOp.ofBytes b
  if o.chain % 64 ≠ 0 || o.rows < 1 || 1048576 < o.rows || o.rowLen < 1 || 16777216 < o.rowLen || 16777215 < o.row0 || !(zeroAt b 20 12) then some C.SXE_SHAPE
  else if spmSize < o.chain + 192 then some C.SXE_SPM_RANGE
  else
    let h := s.readAt k (spmBase die + o.chain) 192
    let nsm := fieldAt h 1 1
    if nsm ≤ 16 ∧ spmSize < o.chain + 192 + 32 * nsm then some C.SXE_SPM_RANGE
    else
      let c := readChain s die k o
      if !(chainFmtOk h c) then some C.SXE_CHAIN_FMT
      else if !(c.streams.all (streamOk c)) then some C.SXE_STREAM
      else
        let rs := chainRanges c
        if rs.any (fun r => decide (spmSize < r.last)) then some C.SXE_SPM_RANGE
        else if !(overlapOk (descRange o c.streams.length :: rs)) then some C.SXE_OVERLAP
        else none

/-! Values in the working format (R147, R149). -/

/-- A value rounded to the working format, as a value. -/
def toWork (f : Fmt) (v : Fv) : Fv × Nat := let (x, fl) := f.round .rne false v; (f.decode x, fl)

/-- An MX element under its scale: exact unless it passes the FP32 range, whatever the working format (R147). -/
def mxToWork (v : Fv) : Fv × Nat :=
  match v with
  | .fin s m e =>
    if m = 0 then (v, 0)
    else
      let (mm, me) := fmtF32.maxFin
      match Fv.cmp (.fin false m e) (.fin false mm me) with
      | .gt => (.inf s, flagOverflow)
      | _ => (v, 0)
  | w => (w, 0)

/-- An EX96 entry (R104, R147). -/
def exToWork (f : Fmt) (q x : Int) : Fv × Nat :=
  if x = exNan then (.nan, 0)
  else if x = exSat ∨ x = -exSat then (.inf (decide (x < 0)), flagOverflow)
  else toWork f (.fin (decide (x < 0)) x.natAbs q)

/-- The exact addend of an EX96 entry (R154). -/
def exAddend (q x : Int) : Fv :=
  if x = exNan then .nan
  else if x = exSat ∨ x = -exSat then .inf (decide (x < 0))
  else .fin (decide (x < 0)) x.natAbs q

/-- One stream's elements in a beat: values, conversion flags, and raw EX96 integers. -/
structure SxIn where
  val : List Fv
  fl : List Nat
  ex : List Int
deriving DecidableEq, Repr

def SxIn.none : SxIn := ⟨[], [], []⟩

/-- Element `j` of an SPM row at `a` as a read of key `k` sees it (R94): MX elements with the scale after the last element byte. -/
def spmElem (s : State) (k fmt a rowLen j : Nat) : Fv × Nat :=
  let v := elemVal fmt (elemAt s k a (elemBits fmt) j)
  if isMx fmt then mxToWork (scaleVal v (s.natAt k (a + rowLen * elemBits fmt / 8 + j / 32) 1)) else (v, 0)

/-- The ACF entries of element `j` of row `r` (R163). -/
def acfEntries (x : SxStream) (r j : Nat) : List Nat :=
  let w := if x.rep = 3 then 6 else 1
  (List.range w).map (fun i => (x.base + (j / 512 * x.stride + r) * w + i) % 4096)

/-- A stream's elements of beat `b` of row `r`, read in frame cycle `cyc` (R166, R180). -/
def beatIn (s : State) (die : Nat) (c : SxChain) (cyc r b len : Nat) (scal : List (Fv × Nat)) (n : Nat) (x : SxStream) : SxIn :=
  match x.kind with
  | 1 =>
    if x.rep = 0 then
      let l := (List.range len).map (fun i => spmElem s (s.spmKey die cyc) x.fmt (spmBase die + x.base + r * x.stride) c.o.rowLen (256 * b + i))
      ⟨l.map (fun y => y.1), l.map (fun y => y.2), []⟩
    else
      let e0 := (acfEntries x r (256 * b)).headD 0
      let raw := fun (i : Nat) => s.acfAt cyc die ((256 * b + i) % 512) e0
      match x.rep with
      | 1 =>
        let xs := (List.range len).map (fun i => sint 96 (raw i))
        let l := xs.map (exToWork c.f x.q)
        ⟨l.map (fun y => y.1), l.map (fun y => y.2), xs⟩
      | 2 => ⟨(List.range len).map (fun i => fmtF32.decode (raw i % 2 ^ 32)), List.replicate len 0, []⟩
      | _ =>
        let l := (List.range len).map (fun i => let (y, fl) := (w64Of ((List.range 6).map (fun j => s.acfAt cyc die ((256 * b + i) % 512) (e0 + j)))).readOut; (fmtF64.decode y, fl))
        ⟨l.map (fun y => y.1), l.map (fun y => y.2), []⟩
  | 3 =>
    let (v, fl) := scal.getD n (.nan, 0)
    ⟨List.replicate len v, List.replicate len fl, []⟩
  | _ => SxIn.none

/-- The value of a row scalar, read in frame cycle `cyc` (R145, R147). -/
def rowScalar (s : State) (die : Nat) (c : SxChain) (cyc r : Nat) (x : SxStream) : Fv × Nat :=
  if x.kind ≠ 3 then (.nan, 0)
  else
    let a := spmBase die + x.base + r * x.stride
    if x.rep = 4 then (let (y, fl) := (Lg32.ofBytes (s.readAt (s.spmKey die cyc) a 64)).readOut c.f; (c.f.decode y, fl))
    else if x.rep = 5 then
      let w := Lgw.ofBytes (s.readAt (s.spmKey die cyc) a 80)
      if w.phase = 1 then
        (let (y, fl) := w.readOut
         if c.w = 0xB then (fmtF64.decode y, fl) else (let (z, g) := toWork c.f (fmtF64.decode y); (z, fl ||| g)))
      else (.nan, flagInvalid)
    else (elemVal x.fmt (s.natAt (s.spmKey die cyc) a (elemBits x.fmt / 8)), 0)

/-- Predicate bits of beat `b`, read in frame cycle `cyc` (R145). -/
def predBits (s : State) (die : Nat) (cyc r b len : Nat) (x : SxStream) : List Bool :=
  if x.kind ≠ 4 then []
  else (List.range len).map (fun i => bit (s.natAt (s.spmKey die cyc) (spmBase die + x.base + r * x.stride + (256 * b + i) / 8) 1) ((256 * b + i) % 8))

/-! Stages (R150 to R157). -/

/-- What a stage gives for the lanes of a beat: values, conditions, flags, target encodings and MX scales. -/
structure SxRes where
  val : List Fv
  cond : List Bool
  fl : List Nat
  enc : List Nat
  scales : List Nat
deriving DecidableEq, Repr

/-- Operand selector values for the lanes of a beat (R149). -/
def selVals (c : SxChain) (r b len : Nat) (ins : List SxIn) (res : List SxRes) (st : SxStage) (x : Nat) : List Fv :=
  let f := c.f
  if x < 0x10 then (ins.getD x SxIn.none).val
  else if x < 0x18 then (res[x - 0x10]?).elim [] (fun y => y.val)
  else if x = 0x24 then (List.range len).map (fun i => (toWork f (Fv.ofInt ((256 * b + i : Nat) : Int))).1)
  else
    let v : Fv :=
      match x with
      | 0x20 => f.decode (st.imm % 2 ^ f.width)
      | 0x21 => .fin false 0 0
      | 0x22 => .fin false 1 0
      | 0x23 => .inf true
      | _ => (toWork f (Fv.ofInt ((c.o.row0 + r : Nat) : Int))).1
    List.replicate len v

/-- CMPSEL conditions (R152). -/
def cmpCond (op : Nat) (a b : Fv) : Bool :=
  if a.isNan || b.isNan then op == 1 || op == 6
  else
    let o := Fv.cmp a b
    match op with
    | 0 => o == .eq
    | 1 => o != .eq
    | 2 => o == .lt
    | 3 => o != .gt
    | 4 => o == .gt
    | 5 => o != .lt
    | _ => false

/-- Exact absolute value. -/
def Fv.abs : Fv → Fv
  | .nan => .nan
  | .inf _ => .inf false
  | .fin _ m e => .fin false m e

/-- ARITH, DIVSQRT and TRANS on one element: encoding-rounded value and flags (R150, R151). -/
def arithOp (c : SxChain) (st : SxStage) (a b d : Fv) : Fv × Nat :=
  let f := c.f
  let dec := fun (x : Nat × Nat) => (f.decode x.1, x.2)
  match st.kind, st.op with
  | 1, 0 => dec (f.add st.rm a b)
  | 1, 1 => dec (f.add st.rm a b.neg)
  | 1, 2 => dec (f.mul st.rm a b)
  | 1, 3 => dec (f.fma st.rm a b d)
  | 1, 4 => (Fv.min a b, 0)
  | 1, 5 => (Fv.max a b, 0)
  | 1, 6 => (a.abs, 0)
  | 1, 7 => (a.neg, 0)
  | 1, _ => (a, 0)
  | 2, 0 => dec (f.div st.rm a b)
  | 2, 1 => dec (f.sqrt st.rm a)
  | 2, _ => dec (f.div st.rm (.fin false 1 0) a)
  | _, op => dec (transOp f c.w op a)

/-- CONVERT to an element format: value carried, encoding and flags (R156). -/
def convElem (w : Nat) (st : SxStage) (a : Fv) : Fv × Nat × Nat :=
  if st.op = 0 then (let (x, fl) := toInt8 st.rm a; (Fv.ofInt x, unsint 8 x, fl))
  else if st.op = 0xB ∧ w = 0xA then (a, (fmtF64.round .rne false a).1, 0)
  else match fmtOf st.op with
    | some f => (let (x, fl) := f.round st.rm st.sat a; (f.decode x, x, fl))
    | none => (a, 0, 0)

/-- emax of R112. -/
def mxEmax (c : Nat) : Int :=
  match c with
  | 3 => 8
  | 4 => 15
  | 5 => 2
  | 6 => 4
  | _ => 2

/-- The scale byte of a block of active values (R112). -/
def blockScale (c : Nat) (l : List Fv) : Nat :=
  if l.any (fun v => match v with
    | .fin _ _ _ => false
    | _ => true) then 0xFF
  else
    let top := l.foldl (fun (m : Option Int) v => match v with
      | .fin _ k e => if k = 0 then m else some (match m with
        | none => finLog2 k e
        | some x => max x (finLog2 k e))
      | _ => m) none
    match top with
    | none => 0
    | some t => (min 127 (max (-127) (t - mxEmax c)) + 127).toNat

/-- CONVERT to an MX format on one block of lanes: active values (none when inactive) to value, encoding and flags, with the block's scale (R112, R156, R160). -/
def convBlock (c : Nat) (rm : Rm) (l : List (Option Fv)) : List (Fv × Nat × Nat) × Nat :=
  let sc := blockScale c (l.filterMap id)
  match fmtOf c with
  | none => ([], 0)
  | some f =>
    (l.zipIdx.map (fun x => match x.1 with
      | none => (.nan, 0, 0)
      | some v =>
        if sc = 0xFF then (.nan, Config.nanBlockElem c x.2 % 2 ^ f.width, 0)
        else match v with
          | .fin s m e =>
            let (y, fl) := f.round rm true (.fin s m (e - ((sc : Int) - 127)))
            (scaleVal (f.decode y) sc, y, fl)
          | w => (w, 0, 0)), sc)

/-- LOOKUP (R157). -/
def lookupOp (tab : List Fv) (a : Fv) : Fv × Nat :=
  match a with
  | .nan => (.nan, flagInvalid)
  | .inf s => (tab.getD (if s then 0 else tab.length - 1) .nan, 0)
  | .fin s m e =>
    let i := if s then 0 else min (shlI m e) (tab.length - 1)
    (tab.getD i .nan, 0)

/-- INTERP (R157). -/
def interpOp (f : Fmt) (imm : Nat) (tab : List Fv) (a : Fv) : Fv × Nat :=
  if a.isNan then (.nan, flagInvalid)
  else
    let lo := fmtF32.decode (imm % 2 ^ 32)
    let scale := fmtF32.decode (imm / 2 ^ 32)
    let (d, g0) := f.add .rne a lo.neg
    let (t, g1) := f.mul .rne (f.decode d) scale
    let fl := g0 ||| g1
    let top := tab.length - 2
    match f.decode t with
    | .nan => (.nan, fl ||| flagInvalid)
    | tv =>
      let (i, fr, g2) : Nat × Fv × Nat :=
        match tv with
        | .inf s => if s then (0, .fin false 0 0, 0) else (top, .fin false 1 0, 0)
        | .fin s m e =>
          let i := min (truncDown s m e 0).1.toNat top
          let (x, g) := f.add .rne tv (Fv.ofInt (-(i : Int)))
          let v := f.decode x
          let v := match Fv.cmp v (.fin false 0 0), Fv.cmp v (.fin false 1 0) with
            | .lt, _ => .fin false 0 0
            | _, .gt => .fin false 1 0
            | _, _ => v
          (i, v, g)
        | .nan => (0, .nan, 0)
      let t0 := tab.getD i .nan
      let (df, g3) := f.add .rne (tab.getD (i + 1) .nan) t0.neg
      let (y, g4) := f.fma .rne fr (f.decode df) t0
      (f.decode y, fl ||| g2 ||| g3 ||| g4)

/-- Groups of 32 lanes. -/
def chunks32 {α : Type} : Nat → List α → List (List α)
  | 0, _ => []
  | n + 1, l => if l.isEmpty then [] else l.take 32 :: chunks32 n (l.drop 32)

/-- One stage on a beat (R150 to R157, R160): inactive elements give A, no flag and a false condition. -/
def stageBeat (c : SxChain) (r b len : Nat) (ins : List SxIn) (tabs : List (List Fv)) (res : List SxRes) (act : List Bool) (st : SxStage) : SxRes :=
  let sel := fun (i : Nat) => selVals c r b len ins res st (st.src.getD i 0xFF)
  let as := sel 0
  let lanes := fun (g : Nat → Fv → Fv × Nat × Nat) =>
    (as.zipIdx).map (fun x => if act.getD x.2 false then g x.2 x.1 else (x.1, 0, 0))
  let pack := fun (l : List (Fv × Nat × Nat)) (sc : List Nat) =>
    SxRes.mk (l.map (fun y => y.1)) (List.replicate len false) (l.map (fun y => y.2.2)) (l.map (fun y => y.2.1)) sc
  match st.kind with
  | 4 =>
    let bs := sel 1
    let cs := sel 2
    let ds := sel 3
    let l := (as.zipIdx).map (fun x =>
      if act.getD x.2 false then
        let k := cmpCond st.op x.1 (bs.getD x.2 .nan)
        ((if k then cs.getD x.2 .nan else ds.getD x.2 .nan), k)
      else (x.1, false))
    ⟨l.map (fun y => y.1), l.map (fun y => y.2), List.replicate len 0, [], []⟩
  | 5 => pack (as.map (fun v => (v, 0, 0))) []
  | 6 =>
    if isMx st.op then
      let blocks := (chunks32 8 ((as.zipIdx).map (fun x => if act.getD x.2 false then some x.1 else none))).map (convBlock st.op st.rm)
      let flat := blocks.flatMap (fun y => y.1)
      pack ((as.zipIdx).map (fun x => if act.getD x.2 false then flat.getD x.2 (.nan, 0, 0) else (x.1, 0, 0))) (blocks.map (fun y => y.2))
    else pack (lanes (fun _ a => convElem c.w st a)) []
  | 7 => pack (lanes (fun _ a => let (v, fl) := lookupOp (tabs.getD (st.src.getD 1 0) []) a; (v, 0, fl))) []
  | 8 => pack (lanes (fun _ a => let (v, fl) := interpOp c.f st.imm (tabs.getD (st.src.getD 1 0) []) a; (v, 0, fl))) []
  | _ =>
    let bs := sel 1
    let cs := sel 2
    pack (lanes (fun i a => let (v, fl) := arithOp c st a (bs.getD i .nan) (cs.getD i .nan); (v, 0, fl))) []

/-! Reductions (R153 to R155). -/

/-- The running value of a REDUCE stage over a row. -/
inductive SxAcc where
  | none
  | lg (x : Lg32)
  | val (v : Fv)
  | lgw (x : Lgw)
deriving DecidableEq, Repr

/-- The target's value as it is read in frame cycle `cyc`, at the start of a row; none when its ledger word is in the wrong phase (R153, R155). A PHASE byte other than 0 and 1 lets both passes in. (DESIGN CHOICE for that byte, notes/assumptions/68.md) -/
def accStart (s : State) (die : Nat) (c : SxChain) (cyc r : Nat) (st : SxStage) : Option SxAcc :=
  if st.kind ≠ 5 then some .none
  else
    let a := spmBase die + st.imm % 2 ^ 32 + r * (st.imm / 2 ^ 32)
    let k := s.spmKey die cyc
    match st.op with
    | 0 => some (.lg (if st.init then Lg32.empty else Lg32.ofBytes (s.readAt k a 64)))
    | 1 => some (.val (if st.init then .inf true else c.f.decode (s.natAt k a (c.f.width / 8))))
    | 2 => some (.val (if st.init then .inf false else c.f.decode (s.natAt k a (c.f.width / 8))))
    | 3 =>
      if st.init then some (.lgw Lgw.empty)
      else let w := Lgw.ofBytes (s.readAt k a 80); if w.phase = 1 then Option.none else some (.lgw w)
    | _ =>
      let w := Lgw.ofBytes (s.readAt k a 80)
      if st.init then some (.lgw w.setPhase) else if w.phase = 0 then Option.none else some (.lgw w)

/-- Add one element. -/
def SxAcc.add (op : Nat) (x : SxAcc) (v : Fv) : SxAcc :=
  match x with
  | .none => .none
  | .lg l => .lg (l.add v)
  | .val u => .val (if op = 1 then Fv.max u v else Fv.min u v)
  | .lgw w => .lgw (if op = 3 then w.pass1 v else w.pass2 v)

/-- The bytes written at the end of the row. -/
def SxAcc.bytes (f : Fmt) : SxAcc → List Byte
  | .none => []
  | .lg l => l.toBytes
  | .val v => leBytes (f.width / 8) (f.round .rne false v).1
  | .lgw w => w.toBytes

/-- A REDUCE stage over a beat's active elements; a SUM of an EX96 stream takes the exact entries (R154). -/
def accBeat (c : SxChain) (ins : List SxIn) (act : List Bool) (st : SxStage) (as : List Fv) (x : SxAcc) : SxAcc :=
  let a0 := st.src.getD 0 0xFF
  let sm := c.stream a0
  let exact := st.op == 0 && decide (a0 < 0x10) && sm.kind == 1 && sm.rep == 1 && decide (-149 ≤ sm.q) && decide (sm.q ≤ 43)
  let vs := if exact then ((ins.getD a0 SxIn.none).ex).map (exAddend sm.q) else as
  (vs.zipIdx).foldl (fun x y => if act.getD y.2 false then x.add st.op y.1 else x) x

/-! A beat and its writes (R158, R160, R161). -/

/-- Progress of a row: the accumulators, the row's flags, and which row scalars count. -/
structure SxRow where
  acc : List SxAcc
  fl : Nat
deriving DecidableEq, Repr

/-- Evaluate every stage of a beat: results, activity of each stage, and flags. -/
def beatStages (c : SxChain) (r b len : Nat) (ins : List SxIn) (preds : List (List Bool)) (tabs : List (List Fv)) :
    List SxRes × List (List Bool) × Nat :=
  c.stages.foldl (fun (acc : List SxRes × List (List Bool) × Nat) st =>
    let (res, acts, fl) := acc
    let act :=
      if st.pred = 0x7F then List.replicate len true
      else
        let p := if st.pred < 0x10 then preds.getD st.pred [] else (res[st.pred - 0x10]?).elim [] (fun y => y.cond)
        p.map (fun x => x != st.inv)
    let y := stageBeat c r b len ins tabs res act st
    let used := (st.src.take ((sxUses st.kind st.op).getD 0)).filter (fun x => decide (x < 0x10))
    let conv := used.foldl (fun f n => (((ins.getD n SxIn.none).fl.zipIdx).foldl (fun f x => if act.getD x.2 false then f ||| x.1 else f) f)) 0
    (res ++ [y], acts ++ [act], y.fl.foldl (fun a x => a ||| x) (fl ||| conv))) ([], [], 0)

/-- Pack element codes of `b` bits into bytes (R94). -/
def packBits (b : Nat) (l : List Nat) : List Byte :=
  leBytes (cdiv (l.length * b) 8) ((l.zipIdx).foldl (fun a x => a + x.1 * 2 ^ (b * x.2)) 0)

/-- The writes of a stage with a DST in a beat: (offset, bytes) pieces; inactive elements keep their bytes, or are +0 in an MX stream (R158, R160). -/
def beatWrites (c : SxChain) (r b : Nat) (act : List Bool) (st : SxStage) (y : SxRes) : List (Nat × List Byte) :=
  if st.dst = 0xFF then []
  else
    let x := c.stream st.dst
    let eb := elemBits x.fmt
    let base := x.base + r * x.stride
    let conv := st.kind == 6 && st.op == x.fmt
    let codes := if conv then y.enc else y.val.map (fun v => (c.f.round .rne false v).1)
    if isMx x.fmt then
      let cs := (codes.zipIdx).map (fun z => if act.getD z.2 false then z.1 else 0)
      [(base + 256 * b * eb / 8, packBits eb cs), (base + c.o.rowLen * eb / 8 + 8 * b, y.scales.map (fun n => BitVec.ofNat 8 n))]
    else if act.all id then [(base + 256 * b * (eb / 8), codes.flatMap (fun v => leBytes (eb / 8) v))]
    else (codes.zipIdx).filterMap (fun z => if act.getD z.2 false then some (base + (256 * b + z.2) * (eb / 8), leBytes (eb / 8) z.1) else none)

/-! Cycles (R169, R170). -/

/-- Stage cost c and latency d (R169). -/
def stageCost (w : Nat) (st : SxStage) : Nat × Nat :=
  let d := w == 0xB
  match st.kind with
  | 1 => if d then (4, 8) else (1, 4)
  | 2 => if d then (16, 36) else (4, 12)
  | 3 => if d then (4, 40) else (1, 16)
  | 4 => (1, 2)
  | 5 => if st.op < 3 then (1, 4) else (2, 6)
  | 6 => if isMx st.op then (1, 8) else (1, 4)
  | 7 => (1, 6)
  | _ => if d then (4, 14) else (2, 10)

/-- Stream bytes per 32 elements, MX scales included. -/
def bytes32 (x : SxStream) : Nat := if x.kind = 4 then 4 else elemBits x.fmt * 4 + (if isMx x.fmt then 1 else 0)

/-- Beats per row B. -/
def chainB (c : SxChain) : Nat := 8 * (c.o.rowLen / 2048) + cdiv (c.o.rowLen % 2048) 256

/-- Cycles per beat R. -/
def chainR (c : SxChain) : Nat :=
  let cost := c.stages.foldl (fun m st => max m (stageCost c.w st).1) 0
  let rd := (c.streams.filter (fun x => (x.kind == 1 && x.rep == 0) || x.kind == 4)).foldl (fun a x => a + bytes32 x) 0
  let wr := (c.streams.filter (fun x => x.kind == 2)).foldl (fun a x => a + bytes32 x) 0
  let w := (c.streams.filter (fun x => x.kind == 1 && x.rep != 0)).foldl (fun a x => a + (if x.rep = 3 then 6 else 1)) 0
  max (max cost (cdiv (8 * rd) 4096)) (max (cdiv (8 * wr) 2048) w)

def chainE (c : SxChain) : Nat := b2n (c.stages.any (fun st => st.kind == 5) || c.streams.any (fun x => x.kind == 3))

def chainH (c : SxChain) : Nat :=
  16 + (c.stages.filter (fun st => st.kind == 7 || st.kind == 8)).foldl (fun a st =>
    a + cdiv ((c.stream (st.src.getD 1 0)).nEnt * (if c.w = 0xB then 8 else 4)) 128) 0

def chainF (c : SxChain) : Nat := 20 + c.stages.foldl (fun a st => a + (stageCost c.w st).2) 0

/-- C without waits (R170). -/
def chainCycles (c : SxChain) : Nat := chainH c + c.o.rows * (chainB c * chainR c + chainE c) + chainF c

/-! Running a chain (R137, R140, R157, R161, R164 to R168). -/

/-- A chain in progress: the state, waits W, flags of completed beats, beats done, last reads of ACF entries, the waits (beat, cycles), and a fault with its cycle. -/
structure SxRun where
  s : State
  wait : Nat
  fl : Nat
  beats : Nat
  seen : Assoc Nat
  waits : List (Nat × Nat)
  fault : Option (Nat × Nat)
deriving Repr

/-- Cycle in which row `r` starts, without the waits. -/
def rowCycle (c : SxChain) (start r : Nat) : Nat := start + chainH c + r * (chainB c * chainR c + chainE c)

/-- Cycle in which beat `b` of row `r` reads, without the waits. -/
def beatCycle (c : SxChain) (start r b : Nat) : Nat := rowCycle c start r + b * chainR c

/-- The SPM input ranges of a beat: tag, offset and length (R138, R144). -/
def beatRanges (c : SxChain) (r b len : Nat) : List (Nat × Nat × Nat) :=
  (c.streams.zipIdx).flatMap (fun y =>
    let x := y.1
    let base := x.base + r * x.stride
    if x.kind = 1 ∧ x.rep = 0 then
      let eb := elemBits x.fmt
      (2 * y.2, base + 256 * b * eb / 8, cdiv (len * eb) 8) ::
        (if isMx x.fmt then [(2 * y.2 + 1, base + c.o.rowLen * eb / 8 + 8 * b, cdiv len 32)] else [])
    else if x.kind = 4 then [(2 * y.2, base + 32 * b, cdiv len 8)]
    else [])

/-- The SPM ranges read at a row's start: row scalars, and targets that are not initialised. -/
def rowRanges (c : SxChain) (r : Nat) : List (Nat × Nat × Nat) :=
  ((c.streams.zipIdx).filterMap (fun y =>
    if y.1.kind = 3 then some (2 * y.2, y.1.base + r * y.1.stride, if y.1.rep = 4 then 64 else if y.1.rep = 5 then 80 else elemBits y.1.fmt / 8) else none))
  ++ ((c.stages.zipIdx).filterMap (fun y =>
    if y.1.kind = 5 ∧ (y.1.init = false ∨ y.1.op = 4) then some (64 + y.2, y.1.imm % 2 ^ 32 + r * (y.1.imm / 2 ^ 32), targetBytes y.1.op c.w) else none))

/-- Issue a list of reads; whether the budget was exceeded. -/
def sxeReads (die cyc : Nat) (l : List (Nat × Nat × Nat)) (s : State) : Bool × State :=
  l.foldl (fun (acc : Bool × State) x => let (o, s) := acc.2.spmRead die 2 x.1 cyc x.2.1 x.2.2; (acc.1 || o, s)) (false, s)

/-- Issue a list of writes in cycle `cyc`, of a beat that read in cycle `u`. -/
def sxeWrites (die tag cyc u : Nat) (l : List (Nat × List Byte)) (s : State) : Bool × State :=
  l.foldl (fun (acc : Bool × State) x => if acc.1 then acc else acc.2.spmWrite die 3 tag cyc u x.1 x.2) (false, s)

/-- The ACF entries that a beat reads, over all ACF streams (R163). -/
def beatEntries (c : SxChain) (r b : Nat) : List Nat :=
  c.streams.flatMap (fun x => if x.kind = 1 ∧ x.rep ≠ 0 then acfEntries x r (256 * b) else [])

/-- Beat `b` of row `r` (R138, R160 to R167). -/
def sxeBeat (die idx start r b : Nat) (c : SxChain) (tabs : List (List Fv)) (scal : List (Fv × Nat)) (acc : SxRun × SxRow) : SxRun × SxRow :=
  let (run, row) := acc
  if run.fault.isSome then acc
  else
    let len := min 256 (c.o.rowLen - 256 * b)
    let c0 := beatCycle c start r b + run.wait
    let ents := beatEntries c r b
    let until_ := ((run.s.die die).pend.filter (fun m => decide (m.from_ ≤ start) && ents.contains m.entry)).foldl (fun a m => max a m.until_) 0
    let w := until_ - c0
    let cyc := c0 + w
    let s := if w = 0 then run.s else run.s.expo die 0x05 (2 * 2) 0 idx c0 w (ents.foldl min 4096) (some 4)
    let (ovr, s) := sxeReads die cyc (beatRanges c r b len) s
    let poison := (beatRanges c r b len).any (fun x => s.spmPoison die x.2.1 x.2.2)
    let cols := (List.range len).map (fun i => (256 * b + i) % 512)
    let acfBad := ents.any (fun e => cols.any (fun k => s.acfEcc.get (acfKey die k e) 0 == 2))
    let run := { run with s := s, wait := run.wait + w, seen := ents.foldl (fun a e => Assoc.put a e cyc 0) run.seen,
                          waits := if w = 0 then run.waits else run.waits ++ [(r * chainB c + b, w)] }
    if ovr then ({ run with fault := some (C.SPM_BANK_OVERLOAD, cyc) }, row)
    else if poison then ({ run with s := s.noteDouble die ((beatRanges c r b len).map (fun x => (x.2.1, x.2.2))), fault := some (C.SPM_UNCORRECTABLE, cyc) }, row)
    else if acfBad then ({ run with fault := some (C.MXA_ACF_UNCORRECTABLE, cyc) }, row)
    else
      let s := ents.foldl (fun s e => cols.foldl (fun s k => s.acfCorrect die k e) s) s
      let ins := (c.streams.zipIdx).map (fun x => beatIn s die c cyc r b len scal x.2 x.1)
      let preds := c.streams.map (predBits s die cyc r b len)
      let (res, acts, fl) := beatStages c r b len ins preds tabs
      let zipped := (c.stages.zip (res.zip acts)).zipIdx
      let accs := zipped.map (fun y => accBeat c ins y.1.2.2 y.1.1 y.1.2.1.val (row.acc.getD y.2 .none))
      let wcyc := cyc + chainR c - 1 + chainF c
      let (ovr, s) := zipped.foldl (fun (a : Bool × State) y =>
        if a.1 then a else sxeWrites die y.2 wcyc cyc (beatWrites c r b y.1.2.2 y.1.1 y.1.2.1) a.2) (false, s)
      if ovr then ({ run with s := s, fault := some (C.SPM_BANK_OVERLOAD, wcyc) }, row)
      else ({ run with s := s, beats := run.beats + 1 }, ⟨accs, row.fl ||| fl⟩)

/-- One row: row scalars and targets, beats, then targets and the flag byte (R153, R155, R161, R168). -/
def sxeRow (die idx start r : Nat) (c : SxChain) (tabs : List (List Fv)) (run : SxRun) : SxRun :=
  if run.fault.isSome then run
  else
    let rs := rowCycle c start r + run.wait
    let (ovr, s) := sxeReads die rs (rowRanges c r) run.s
    let poison := (rowRanges c r).any (fun x => s.spmPoison die x.2.1 x.2.2)
    let accs := c.stages.map (accStart s die c rs r)
    if ovr then { run with s := s, fault := some (C.SPM_BANK_OVERLOAD, rs) }
    else if poison then { run with s := s.noteDouble die ((rowRanges c r).map (fun x => (x.2.1, x.2.2))), fault := some (C.SPM_UNCORRECTABLE, rs) }
    else if accs.any (fun a => a.isNone) then { run with s := s, fault := some (C.SXE_LEDGER_PHASE, rs) }
    else
      let scal := c.streams.map (rowScalar s die c rs r)
      let (run, row) := (List.range (chainB c)).foldl (fun a b => sxeBeat die idx start r b c tabs scal a)
        ({ run with s := s }, (⟨accs.map (fun a => a.getD .none), 0⟩ : SxRow))
      if run.fault.isSome then { run with fl := run.fl ||| row.fl }
      else
        let wcyc := rowCycle c start r + chainB c * chainR c + chainE c - 1 + chainF c + run.wait
        let tw := (c.stages.zip row.acc).filterMap (fun x => if x.1.kind = 5 then some (x.1.imm % 2 ^ 32 + r * (x.1.imm / 2 ^ 32), x.2.bytes c.f) else none)
        let fw := if c.o.flagOff = 0xFFFFFFFF then [] else [(c.o.flagOff + r, leBytes 1 (row.fl % 32))]
        let (ovr, s) := sxeWrites die 32 wcyc (beatCycle c start r (chainB c - 1) + run.wait) (tw ++ fw) run.s
        { run with s := s, fl := run.fl ||| row.fl, fault := if ovr then some (C.SPM_BANK_OVERLOAD, wcyc) else none }

/-- A chain's tables in the working format, as they are read in frame cycle `cyc` (R157, R161). -/
def chainTables (s : State) (die cyc : Nat) (c : SxChain) : List (List Fv) :=
  c.streams.map (fun x =>
    if x.kind = 5 then (List.range x.nEnt).map (fun i => elemVal x.fmt (s.natAt (s.spmKey die cyc) (spmBase die + x.base + i * (elemBits x.fmt / 8)) (elemBits x.fmt / 8)))
    else [])

/-- The parts of a chain descriptor that the SXE reads, as offset and length: the header, NSTAGE stages and NSTREAM streams (R142). -/
def descParts (s : State) (die k : Nat) (o : SxOp) : List (Nat × Nat) :=
  let c := readChain s die k o
  [(o.chain, 64 + 16 * c.stages.length), (o.chain + 192, 32 * c.streams.length)]

/-- What rejects a chain that starts in frame cycle `t` (R189, R629). -/
def sxeReject (s : State) (die t : Nat) (c : Cmd) : Option (Nat × Nat) :=
  let o := SxOp.ofBytes c.operands
  let k := s.spmKey die t
  if s.spmDegraded die then some (1, C.SPM_DEGRADED)
  else match sxeCheck s die k c.operands with
    | some x => some (1, x)
    | none => if (descParts s die k o).any (fun x => s.spmPoison die x.1 x.2) then some (2, C.SPM_UNCORRECTABLE) else none

/-- Each entry index that the chain's ACF streams read, with the number of the last beat that reads it (R164). -/
def chainEntries (c : SxChain) : List (Nat × Nat) :=
  let all := (List.range c.o.rows).flatMap (fun r => (List.range (chainB c)).flatMap (fun b => (beatEntries c r b).map (fun e => (e, r * chainB c + b))))
  ((all.map (fun x => x.1)).eraseDups).map (fun e => (e, all.foldl (fun m x => if x.1 = e then max m x.2 else m) 0))

/-- A chain that starts in cycle `start`, run from its tables on. -/
def runChain (die idx start : Nat) (c : SxChain) (s : State) : SxRun :=
  let poison := c.streams.any (fun x => x.kind == 5 && s.spmPoison die x.base (x.nEnt * elemBits x.fmt / 8))
  if poison then ⟨s.noteDouble die (c.streams.map (fun x => (x.base, if x.kind = 5 then x.nEnt * elemBits x.fmt / 8 else 0))), 0, 0, 0, [], [], some (C.SPM_UNCORRECTABLE, start)⟩
  else
    let tabs := chainTables s die start c
    let s := c.streams.foldl (fun s x => if x.kind = 5 then s.spmCorrect die x.base (x.nEnt * elemBits x.fmt / 8) else s) s
    (List.range c.o.rows).foldl (fun run r => sxeRow die idx start r c tabs run) ⟨s, 0, 0, 0, [], [], none⟩

/-- Whether an N-tile that enters no later than cycle `t` has still to run: its PENDING bits are not known (R166). -/
def State.arrayFirst (s : State) (die t : Nat) : Bool :=
  (s.die die).run.any (fun r => !r.performed && r.fault.isNone && (s.cmdAt die r.idx).any (fun x => x.opcode == opMxa
    && (cmdNTiles s die r.start x).any (fun y =>
      let ta := r.start + r.wait
      let first := ta + rowEntry y.1 y.2.1 (tileStart y.1 y.2.1 y.2.2 r.progress 0) 0
      let ents := (ntileMarks (ntileRows die y.1 y.2.1 y.2.2 r.progress ta ta) 0 r.idx).map (fun m => m.entry)
      decide (r.progress < y.2.2.length) && decide (holdUntil (s.die die).held ents (s.die die).held.length first ≤ t))))

/-- The HELD bits of a chain that ran: each from its start to the cycle after its last read; a fault clears those that have still to be read (R164, R168). -/
def chainHeld (c : SxChain) (start idx : Nat) (run : SxRun) : List AcfMark :=
  (chainEntries c).map (fun x =>
    let u := if x.2 < run.beats then Assoc.get run.seen x.1 start + 1
      else
        let n := beatCycle c start (x.2 / chainB c) (x.2 % chainB c) + run.wait + 1
        match run.fault with
        | some f => min n (f.2 + 1)
        | none => n
    ⟨x.1, start, u, idx⟩)

/-- SXE: a chain streams its rows through its stages in its cycle formula; not while an N-tile that enters no later than its start has still to run (R166, R170). (DESIGN CHOICE, notes/assumptions/10.md) -/
def doSxe (die idx : Nat) (s : State) : State :=
  match s.toRun die idx opSxe with
  | none => s
  | some (cmd, rc) =>
    if s.arrayFirst die rc.start then s
    else match sxeReject s die rc.start cmd with
    | some (cls, code) => s.faultUnit cls die idx code rc.start
    | none =>
      let t := rc.start
      let c := readChain s die (s.spmKey die t) (SxOp.ofBytes cmd.operands)
      let run := runChain die idx t c s
      let fin := t + chainCycles c + run.wait - 1
      let s := run.s.count die 64 1
      let s := (s.count die 66 run.beats).count die 67 run.wait
      let at_ := min run.beats (c.o.rows * chainB c - 1)
      let s := s.setFs [(F.SXE_POS_ROW die, at_ / chainB c), (F.SXE_POS_SEGMENT die, at_ % chainB c / 8)]
      let fl := run.fl % 32
      let entry := fl ||| (if run.wait = 0 then 0 else 2 ^ 10)
      let fault := match run.fault with
        | some f => some f
        | none => if fl &&& c.trap = 0 then none else some (C.SXE_FP_TRAP, fin)
      let last := (fault.map (fun f => f.2)).getD fin
      let s := s.updDie die (fun d => { d with held := d.held ++ chainHeld c t idx run })
      let s := (s.count die 65 (last + 1 - t)).updRun die idx (fun r => { r with wait := run.wait, progress := run.beats, holds := run.waits.flatMap (fun x => [x.1, x.2]) })
      match fault with
      | none => s.perform die idx (some fin) entry
      | some (code, f) => (s.updRun die idx (fun r => { r with entry := r.entry ||| entry })).faultUnit 2 die idx code f

def execSxe (die : Fin 4) (idx : Nat) (s : State) : Host.Outcome State Fault Refusal := .next (doSxe die idx s)

/-- The beat in progress in cycle `c` of a chain with the waits `l` (beat, cycles), `acc` of which have passed; the last beat while the pipeline drains; none before the first (R140, R170). -/
def beatAt (ch : SxChain) (start c : Nat) : List (Nat × Nat) → Nat → Option Nat
  | [], acc =>
    let e := c - start - acc
    if e < chainH ch then none
    else
      let per := chainB ch * chainR ch + chainE ch
      let r := min (ch.o.rows - 1) ((e - chainH ch) / per)
      some (r * chainB ch + min (chainB ch - 1) ((e - chainH ch - r * per) / chainR ch))
  | (b, w) :: l, acc =>
    let at_ := beatCycle ch start (b / chainB ch) (b % chainB ch) + acc
    if c < at_ then beatAt ch start c [] acc else if c < at_ + w then some b else beatAt ch start c l (acc + w)

/-- The waits of a chain, as its run keeps them. -/
def pairUp : List Nat → List (Nat × Nat)
  | a :: b :: l => (a, b) :: pairUp l
  | _ => []

/-- ROW, SEGMENT and SLEN of the chain in progress in frame cycle `c`, none when the SXE is idle (R140, R174). (DEDUCED, notes/assumptions/42.md) -/
def State.sxePos (s : State) (die c : Nat) : Option (Nat × Nat × Nat) :=
  match (s.die die).run.find? (fun r => (s.cmdAt die r.idx).any (fun x => x.opcode == opSxe)) with
  | none => none
  | some r => (s.cmdAt die r.idx).bind (fun x =>
    let ch := readChain s die (s.spmKey die r.start) (SxOp.ofBytes x.operands)
    if chainB ch = 0 ∨ chainR ch = 0 ∨ r.fault.isSome then none
    else match beatAt ch r.start c (pairUp r.holds) 0 with
      | none => some (0, 0, 0)
      | some k =>
        let g := k % chainB ch / 8
        some (k / chainB ch % 2 ^ 20, g, min 2048 (ch.o.rowLen - 2048 * g)))

/-- SXE_ACF_WAIT_END: time reaches the cycle in which the PENDING bit of entry index `e` clears; a read that waits on it proceeds there (R165). -/
def doSxeAcfWaitEnd (die e : Nat) (s : State) : State :=
  match (s.die die).pend.find? (fun m => m.entry == e % 4096 && decide (s.frameCyc (s.partOf die) < m.until_)) with
  | none => s
  | some m => s.toCyc (s.partOf die) m.until_

def execSxeAcfWaitEnd (die : Fin 4) (idx : Nat) (s : State) : Host.Outcome State Fault Refusal := .next (doSxeAcfWaitEnd die idx s)

end Sys2Proof.Machine
end

