-- ==== Sys2Proof/Machine/Load.lean ====
section
/-! DEFINITION. Frame images: their layout, the eight checks of a load, management loads, QLOAD, and FRAME_LEN (R55, R220 to R224, R234 to R241, R251, R252, R345, R346). -/
namespace Sys2Proof.Machine

/-! Check 1: header, sections, link entries (R234 to R236). -/

/-- Whether byte ranges (offset, size) lie inside `sz` and apart; an empty one has no extent. (DEDUCED, notes/assumptions/11.md) -/
def sectionsOk (sz : Nat) (l : List (Nat × Nat)) : Bool :=
  let l := l.filter (fun x => x.2 != 0)
  l.all (fun x => decide (x.1 + x.2 ≤ sz)) &&
  (l.zipIdx).all (fun x => (l.drop (x.2 + 1)).all (fun y => decide (x.1.1 + x.1.2 ≤ y.1) || decide (y.1 + y.2 ≤ x.1.1)))

/-- Bytes per command of an image format. -/
def cmdSize (fmt : Nat) : Nat := if fmt = 2 then 32 else 64

/-- The header of an image for die `n` (R234). -/
def headOk (n : Nat) (b : List Byte) : Bool :=
  let fmt := fieldAt b 0 2
  let cnt := fieldAt b 4 4
  (fmt == 4 || fmt == 2) && fieldAt b 2 1 == n && zeroAt b 3 1 && decide (1 ≤ cnt) && decide (cnt ≤ (if fmt = 2 then 4096 else 8192))
    && fieldAt b 16 4 % 64 == 0 && fieldAt b 20 4 % 64 == 0 && fieldAt b 28 4 % 64 == 0 && decide (fieldAt b 36 4 ≤ 1048576) && zeroAt b 40 24
    && decide (320 ≤ fieldAt b 36 4)
    && sectionsOk (fieldAt b 36 4) [(0, 320), (fieldAt b 16 4, cmdSize fmt * cnt), (fieldAt b 20 4, fieldAt b 24 4), (fieldAt b 28 4, fieldAt b 32 4)]

/-- The dies at a link entry's ends, in the direction of its table; none when die `n`'s image may not carry it (R235, R236). -/
def linkEnds (n link dir : Nat) : Option (Nat × Nat) :=
  let far : Option Nat :=
    if link < 3 then (let y := if link < n then link else link + 1; if n < y then some y else none)
    else if link = 3 then some 4
    else if link = 4 then some 5
    else none
  if 1 < dir then none
  else if link = 5 then (if n = 0 then some (if dir = 0 then (4, 5) else (5, 4)) else none)
  else far.map (fun y => if dir = 0 then (n, y) else (y, n))

/-- Read the Slot Link section; none when an entry is invalid (R235, R236). A table holds one byte for each slot of each group (R207). (DEDUCED, notes/assumptions/11.md) -/
def parseLinks (n : Nat) : Nat → List Byte → Option (List LinkTab)
  | 0, b => if b.isEmpty then some [] else none
  | k + 1, b =>
    if b.isEmpty then some []
    else
      let link := fieldAt b 0 1
      let dir := fieldAt b 1 1
      let per := fieldAt b 2 2
      match linkEnds n link dir with
      | none => none
      | some (x, y) =>
        let len := per * linkWidth x y
        let size := roundUp (8 + len) 64
        if per = 0 ∨ 1024 < per ∨ zeroAt b 4 4 = false ∨ b.length < size ∨ zeroAt b (8 + len) (size - 8 - len) = false then none
        else match parseLinks n k (b.drop size) with
          | none => none
          | some r => if r.any (fun t => t.link == link && t.dir == dir) then none
              else some (⟨link, dir, per, ((b.drop 8).take len).map (fun x => x.toNat)⟩ :: r)

/-! Check 2: requesters at the link (R208, R210). -/

/-- Whether a byte is a requester code (R208, R343). -/
def reqCode (c : Nat) : Bool :=
  let d := c / 32
  let k := c % 32
  (decide (d < 4) && decide (k < 4)) || (d == 4 && decide (k < 8)) || (d == 5 && k == 0)

/-- DEDUCED, notes/assumptions/11.md. -/
def tableOk (n : Nat) (t : LinkTab) : Bool :=
  match linkEnds n t.link t.dir with
  | none => false
  | some (x, y) => t.slots.all (fun c => c == 0xFF || (reqCode c && (c / 32 == x || c / 32 == y)))

/-! Check 3: the HBM section (R345, R346). -/

def hbmT (g : Nat) : Nat := roundUp (11 * g) 64

/-- Order 1 of R346. (DEDUCED, notes/assumptions/15.md) -/
def hbmFormOk (b : List Byte) : Bool :=
  let pcs := fieldAt b 2 1
  let g := fieldAt b 3 1
  let t := hbmT g
  b.length != 0 && fieldAt b 0 2 == 0x0009 && decide (1 ≤ pcs) && decide (pcs ≤ 90) && decide (1 ≤ g) && b.length == 2240 + pcs * t && zeroAt b 4 60
    && (List.range 16).all (fun i => decide (fieldAt b (64 + 8 * i) 1 ≤ 64) && zeroAt b (65 + 8 * i) 7)
    && (List.range 64).all (fun i =>
        let o := 192 + 32 * i
        let kind := fieldAt b o 1
        decide (kind ≤ 2) && zeroAt b (o + 3) 5
          && (kind != 1 || (decide (fieldAt b (o + 1) 1 < 16) && zeroAt b (o + 24) 8))
          && (kind != 2 || (decide (fieldAt b (o + 1) 1 < 5) && zeroAt b (o + 2) 1)))
    && (List.range pcs).all (fun l =>
        let s := (b.drop (2240 + l * t)).take t
        (s.take (11 * g)).all (fun x => x == 0xFF || reqCode x.toNat) && (s.drop (11 * g)).all (fun x => x == 0xFF))

/-- The plan in an HBM section. -/
def hbmParse (b : List Byte) : HbmPlan :=
  let pcs := fieldAt b 2 1
  let g := fieldAt b 3 1
  ⟨pcs, g, (List.range 16).map (fun i => fieldAt b (64 + 8 * i) 1),
    ((List.range 64).map (fun i =>
      let o := 192 + 32 * i
      (⟨fieldAt b o 1, fieldAt b (o + 1) 1, fieldAt b (o + 2) 1, fieldAt b (o + 8) 8, fieldAt b (o + 16) 8, fieldAt b (o + 24) 8⟩ : RangeE))).filter (fun r => r.kind != 0),
    (List.range pcs).map (fun l => ((b.drop (2240 + l * hbmT g)).take (11 * g)).map (fun x => x.toNat))⟩

/-- The byte ranges a range entry occupies: itself, or its addend windows and targets. -/
def RangeE.spans (r : RangeE) : List (Nat × Nat) :=
  if r.kind = 1 then [(r.base, r.size)]
  else (List.range (if r.sel = 4 then 3 else 1)).map (fun w => (r.base + w * r.window, r.size * adderE r.sel)) ++ [(r.ledger, r.size * adderT r.sel)]

/-- Order 3 of R346, for die `n`. -/
def hbmRangesOk (n : Nat) (h : HbmPlan) : Bool :=
  let lo := n * 0x2000000000
  let hi := lo + h.pcs * 1000000000
  let sp := h.ranges.flatMap RangeE.spans
  decide (h.sets.foldl (· + ·) 0 ≤ 64)
    && h.ranges.all (fun r =>
        if r.kind = 1 then h.sets.getD r.sel 0 != 0 && r.base % 256 == 0 && r.size % 256 == 0
        else r.base % 256 == 0 && decide (1 ≤ r.size) && r.ledger % (if r.sel = 4 then 128 else 64) == 0)
    && sp.all (fun x => decide (lo ≤ x.1) && decide (x.1 + x.2 ≤ hi))
    && (sp.zipIdx).all (fun x => (sp.drop (x.2 + 1)).all (fun y => decide (x.1.1 + x.1.2 ≤ y.1) || decide (y.1 + y.2 ≤ x.1.1)))

/-! Commands (R220 to R224, R251, R252). -/

/-- A native command from its 64 bytes. -/
def Cmd.ofBytes (b : List Byte) : Cmd :=
  ⟨fieldAt b 0 1, fieldAt b 1 1, fieldAt b 2 1, fieldAt b 4 4, fieldAt b 8 4, fieldAt b 12 4, fieldAt b 16 4, fieldAt b 20 4, slice b 24 40⟩

/-- The expansion of an AL-2 command; none for an opcode it does not have or a bad WAIT byte (R251, R252). -/
def Cmd.ofAl2 (i : Nat) (b : List Byte) : Option Cmd :=
  let op := match fieldAt b 0 1 with
    | 0 => some opNop | 1 => some opMxa | 2 => some opSxe | 3 => some opMove | _ => none
  op.map (fun o => ⟨o, 1, 0xFF, fieldAt b 2 2, 0, if bit (fieldAt b 1 1) 0 then 2 ^ 28 + (i - 1) else 0, 0, 0, slice ((b.drop 4).take 28) 0 40⟩)

/-- Whether a dependency of command `i` is well-formed (R223). -/
def depOk (i d : Nat) : Bool :=
  let k := bits d 28 4
  if k = 0 then bits d 0 28 == 0
  else if k = 1 then decide (bits d 0 28 < 2 ^ 13) && decide (bits d 0 13 < i)
  else if k = 2 then bits d 22 6 == 0 && decide (1 ≤ bits d 0 16)
  else if k = 3 ∨ k = 4 ∨ k = 5 then decide (bits d 0 28 < 2 ^ 16)
  else if k = 6 then decide (bits d 0 28 < 2 ^ 12)
  else if k = 7 then decide (bits d 0 28 < 2 ^ 19)
  else k == 8 && decide (bits d 0 28 < 64)

/-- Operand bytes of an opcode beyond which the field must be 0 (R220, R222). -/
def operandBytes (op : Nat) : Nat :=
  if op = opFence then 1 else if op = opSignal then 3 else if op = opTrigger then 8 else if op = opQload then 16 else if op = opStepval then 8
  else if op = opMxa then 40 else if op = opSxe ∨ op = opMove then 32 else 0

/-- The operands of an SCU-executed opcode on die `n` (R222). -/
def scuOperandsOk (n : Nat) (c : Cmd) : Bool :=
  let f := fun o => fieldAt c.operands o 1
  if c.opcode = opFence then decide (f 0 < 64)
  else if c.opcode = opSignal then decide (f 0 < 16) && !(bit (f 0) n) && decide (f 1 < 64) && decide (1 ≤ f 2)
  else if c.opcode = opTrigger then decide (f 0 < 8) && f 1 == 0 && decide (fieldAt c.operands 2 2 < 1024)
  else true

/-- QLOAD's own checks (R222, R625). -/
def State.qloadCode (s : State) (c : Cmd) : Nat :=
  let n := fieldAt c.operands 4 4
  let src := fieldAt c.operands 8 8
  if 3 < fieldAt c.operands 0 1 ∨ zeroAt c.operands 1 3 = false ∨ n < 64 ∨ 1048576 < n ∨ n % 64 ≠ 0 ∨ src % 64 ≠ 0 ∨ zeroAt c.operands 16 24 = false then C.MOV_DESC
  else if !(rowsOk src n) ∨ !(s.rangeOk src n) then C.MOV_ADDR
  else if s.inT1 src n then 0 else C.MOV_DESC

/-- Check 8 for one command: 0, CMD_OPCODE, or FRAME_CMD_REJECTED with the unit code (R237, R625). (DEDUCED, notes/assumptions/11.md) -/
def State.cmdCode (s : State) (die : Nat) (b : Bank) (b3 : Nat) (c : Cmd) : Nat × Nat :=
  let rej := fun (u : Nat) => (C.FRAME_CMD_REJECTED, u)
  let unit := fun (u : Nat) => if u = 0 then (0, 0) else rej u
  let scu := c.opcode = opNop ∨ c.opcode = opFence ∨ c.opcode = opSignal ∨ c.opcode = opTrigger ∨ c.opcode = opQswitch
  let listed := scu ∨ c.opcode = opStepval ∨ c.opcode = opQload ∨ c.opcode = opMxa ∨ c.opcode = opSxe ∨ c.opcode = opMove
  let k := operandBytes c.opcode
  if !listed then (C.CMD_OPCODE, 0)
  else if 1 < c.cflags ∨ b3 ≠ 0 ∨ (64 ≤ c.shard ∧ c.shard ≠ 0xFF) then rej 0
  else if c.opcode = opMove then unit (s.moveCode b die c)
  else if c.opcode = opStepval then unit (stepvalCode b c)
  else if c.opcode = opQload then unit (s.qloadCode c)
  else if zeroAt c.operands k (40 - k) = false then rej 0
  else if c.opcode = opMxa then unit ((mxaCheck s die (s.nowKey die) c.operands).getD 0)
  else if c.opcode = opSxe then unit ((sxeCheck s die (s.nowKey die) c.operands).getD 0)
  else if scuOperandsOk die c then (0, 0) else rej 0

/-- Check 5: releases in order, at most 4 of a native bank alike (R224). -/
def orderBad (native : Bool) : List Cmd → Nat → Option Nat
  | a :: b :: r, i =>
    if b.release < a.release then some (i + 1)
    else if native && decide (4 ≤ ((b :: r).take 4).length) && ((b :: r).take 4).all (fun x => x.release == a.release) then some (i + 4)
    else orderBad native (b :: r) (i + 1)
  | _, _ => none

/-- R55 for a frame length against the commands of a bank. -/
def rangeBad (len dark : Nat) (cs : List Cmd) : Option Nat :=
  if len < 65536 ∨ len / 2 < dark then some 0xFFFF
  else (cs.zipIdx).findSome? (fun x => if x.1.release < len - darkLenOf len dark then none else some x.2)

/-- The links that a section names are up at their ends (check 4). -/
def State.linksUp (s : State) (n : Nat) (l : List LinkTab) : Bool :=
  l.all (fun t => match linkEnds n t.link t.dir with
    | none => false
    | some (x, y) => s.linkUp x y && s.linkUp y x)

/-- Check 4: every pseudo-channel and Slot Link that the plan names is present and UP (R80, R237). -/
def State.planResource (s : State) (die : Nat) (h : HbmPlan) (l : List LinkTab) : Bool := h.pcs == s.pcs die && s.linksUp die l

/-- The bank an image fills, or why it is rejected: the eight checks in order (R237). -/
def State.frameImage (s : State) (die : Nat) (b : List Byte) : Except LoadErr Bank :=
  let none4 := 0xFFFF
  if b.length < 320 ∨ headOk die b = false ∨ b.length < fieldAt b 36 4 then .error (C.FRAME_IMAGE_INVALID, 0, none4)
  else
    let fmt := fieldAt b 0 2
    let cnt := fieldAt b 4 4
    let lb := (b.drop (fieldAt b 20 4)).take (fieldAt b 24 4)
    match parseLinks die 16 lb with
    | none => .error (C.FRAME_IMAGE_INVALID, 0, none4)
    | some links =>
      if !(links.all (tableOk die)) then .error (C.SLINK_PLAN_INVALID, 0, none4)
      else
        let hb := (b.drop (fieldAt b 28 4)).take (fieldAt b 32 4)
        if !(hbmFormOk hb) then .error (C.HBM_SECTION_INVALID, 0, none4)
        else if 60 < fieldAt hb 3 1 then .error (C.HBM_REFRESH_SPACING, 0, none4)
        else
          let h := hbmParse hb
          if !(hbmRangesOk die h) then .error (C.HBM_RANGE_INVALID, 0, none4)
          else if !(s.planResource die h links) then .error (C.FRAME_PLAN_RESOURCE, 0, none4)
          else
            let raw := (List.range cnt).map (fun i => (b.drop (fieldAt b 16 4 + cmdSize fmt * i)).take (cmdSize fmt))
            let al2 := (raw.zipIdx).map (fun x => Cmd.ofAl2 x.2 x.1)
            let cs := if fmt = 2 then al2.map (fun c => c.getD ⟨0xFF, 0, 0xFF, 0, 0, 0, 0, 0, []⟩) else raw.map Cmd.ofBytes
            let bank : Bank := ⟨true, fmt == 2, fieldAt b 8 8, cs, (List.range 64).map (fun i => fieldAt b (64 + 4 * i) 4), links, h⟩
            match orderBad (fmt == 4) cs 0 with
            | some i => .error (C.FRAME_ORDER, 0, i)
            | none =>
              let p := s.partOf die
              match rangeBad (s.getF (F.FRAME_LEN_LEN p)) (s.getF (F.FRAME_LEN_DARK_LEN p)) cs with
              | some i => .error (C.FRAME_RANGE, 0, i)
              | none =>
                match (cs.zipIdx).findSome? (fun x => if depOk x.2 x.1.dep0 && depOk x.2 x.1.dep1 && depOk x.2 x.1.dep2 then none else some x.2) with
                | some i => .error (C.FRAME_DEP_INVALID, 0, i)
                | none =>
                  match (cs.zipIdx).findSome? (fun x =>
                      let r := raw.getD x.2 []
                      let wait := fmt == 2 && decide (1 < fieldAt r 1 1)
                      let cd := s.cmdCode die bank (if fmt = 2 then 0 else fieldAt r 3 1) x.1
                      if cd.1 ≠ 0 then some (cd.1, cd.2, x.2) else if wait then some (C.FRAME_CMD_REJECTED, 0, x.2) else none) with
                  | some e => .error e
                  | none => .ok bank

/-! Installing a bank. -/

/-- COMPAT follows the active bank. -/
def State.compatBit (s : State) (die : Nat) : State := s.setF (F.SCU_STATUS_COMPAT die) (b2n (s.abank die).compat)

/-- IDLE ends when a job is loaded and ticks are enabled (R56). -/
def State.settleIdle (s : State) (p : Nat) : State :=
  if s.frameState p = stIdle ∧ s.getF (F.GST_CTRL_ENABLE p) = 1 ∧ (s.diesOf p).any (fun n => (s.abank n).valid) then s.setFrameState p stWaitTick else s

/-! Management loads (R239). -/

/-- SCU_LOAD: ACTIVATE, BANK and SRC are set, and GO starts a load in IDLE, or in STOPPED for the inactive bank (R239). (DEDUCED, notes/assumptions/11.md; DEDUCED, notes/assumptions/12.md) -/
def doScuLoad (die v : Nat) (s : State) : State :=
  let b := bits v 61 1
  let src := if bits v 0 6 = 0 then bits v 0 52 else s.getF (F.SCU_LOAD_SRC die)
  let put := fun (s : State) => s.setFs [(F.SCU_LOAD_ACTIVATE die, bits v 62 1), (F.SCU_LOAD_BANK die, b), (F.SCU_LOAD_SRC die, src)]
  if bit v 63 = false then (put s).answer 0 0
  else
    let st := s.frameState (s.partOf die)
    if (s.die die).load.isSome ∨ !(st = stIdle ∨ (st = stStopped ∧ b ≠ s.activeBank die)) then s.refused C.FRAME_LOAD_STATE die 0 0
    else (((put s).setF (F.SCU_LOAD_STATUS_BUSY die) 1).updDie die (fun d => { d with load := some ⟨b, src, bit v 62, s.clk.ns⟩ })).answer 0 0

def execScuLoad (die : Fin 4) (val : Word) (s : State) : Host.Outcome State Fault Refusal := .next (doScuLoad die val.toNat s)

/-- SCU_LOAD_DONE: the load in progress is checked and takes effect (R237, R239). -/
def doScuLoadDone (die : Nat) (s : State) : State :=
  match (s.die die).load with
  | none => s
  | some j =>
    let s := s.updDie die (fun d => { d with load := none })
    let n := min 1048576 (max 320 (s.readNat (j.src + 36) 4))
    let (res, s) : Except LoadErr Bank × State :=
      if s.inT1 j.src n then
        (let (c, b, s) := s.extRead (die * 32) j.src n
         if c ≠ 0 then (.error (c, 0, 0xFFFF), s) else (s.frameImage die b, s))
      else (.error (C.FRAME_IMAGE_INVALID, 0, 0xFFFF), s)
    let res := loadRes res
    let good := res.1.isSome
    let s := s.installBank die j.bank res
    let s := if good && j.activate && j.bank != s.activeBank die then
        (s.setFs [(F.SCU_STATUS_ACTIVE_BANK die, j.bank), (F.SCU_STATUS_NEXT_VALID die, 0), (F.SCU_STATUS_SWITCH_ARMED die, 0)]).planBits die
      else if !good && j.bank != s.activeBank die then s.setFs [(F.SCU_STATUS_NEXT_VALID die, 0), (F.SCU_STATUS_SWITCH_ARMED die, 0)]
      else s
    (s.compatBit die).settleIdle (s.partOf die)

def execScuLoadDone (die : Fin 4) (s : State) : Host.Outcome State Fault Refusal := .next (doScuLoadDone die s)

/-! QLOAD (R222, R240). -/

/-- The bytes of an image as its mover reads them, unit by unit (R240). -/
def qloadRun (x : Xfer) : Nat → Flow → List Byte → State → (Flow × List Byte) × State
  | 0, f, b, s => ((f, b), s)
  | k + 1, f, b, s =>
    match f.stage with
    | st :: r =>
      if f.nextReq.any (fun q => decide (q.2.1 < st.ready)) then (let (f, s) := flowRequest x f s; qloadRun x k f b s)
      else (match st.bad with
        | some c => ((runFault f c st.ready, b), s)
        | none => qloadRun x k { f with stage := r, fin := max f.fin (st.ready - 1), frees := f.frees ++ [(st.ready, st.size)] } (b ++ st.b) s)
    | [] => if f.items.isEmpty ∨ f.fault.isSome then ((f, b), s) else (let (f, s) := flowRequest x f s; qloadRun x k f b s)

/-- QLOAD: the image is read as a COPY of BYTES with no SPM writes, then checked at 2 cycles a command, and fills the inactive bank as the command completes (R240). (DEDUCED, notes/assumptions/12.md) -/
def doQload (die idx : Nat) (s : State) : State :=
  match s.toRun die idx opQload with
  | none => s
  | some (c, r) =>
    let m := fieldAt c.operands 0 1 % 4
    let n := fieldAt c.operands 4 4
    let src := fieldAt c.operands 8 8
    let nb := 1 - s.activeBank die
    let s := (s.setFs [(F.SCU_STATUS_NEXT_VALID die, 0), (F.SCU_STATUS_SWITCH_ARMED die, 0), (F.SCU_LOAD_STATUS_BUSY die, 1)]).dropBank die nb
    let us := cutUnits die false [((src : Int), n)]
    let t := r.start
    let (f, s) := qloadRun ⟨s.partOf die, die, m, die * 32 + m, none, 0, 0, []⟩ (4 * us.length + 8) (Flow.begin (us.map (fun u => ⟨u, []⟩)) [] 0 0 (t + 32)) [] s
    match f.1.fault with
    | some (_, e, w) => (s.loadStatus die nb (e, 0, 0xFFFF)).faultMove die m idx 0 2 e (max w t) (0, 0)
    | none =>
      let img := f.2
      let cnt := if headOk die img then fieldAt img 4 4 else 0
      (s.updDie die (fun d => { d with qload := some (loadRes (s.frameImage die img)) })).perform die idx (some (f.1.fin + 2 * cnt)) 0

def execQload (die : Fin 4) (idx : Nat) (s : State) : Host.Outcome State Fault Refusal := .next (doQload die idx s)

/-! FRAME_LEN (R55, R238). -/

/-- Whether a frame length keeps R55 for the active bank, and the armed next bank, of every A-die of a partition. (DEDUCED, notes/assumptions/11.md) -/
def State.frameLenOk (s : State) (p len dark : Nat) : Bool :=
  (s.diesOf p).all (fun n =>
    let a := s.activeBank n
    (!(s.bank n a).valid || (rangeBad len dark (s.bank n a).cmds).isNone)
      && (s.getF (F.SCU_STATUS_SWITCH_ARMED n) == 0 || !(s.bank n (1 - a)).valid || (rangeBad len dark (s.bank n (1 - a)).cmds).isNone))

/-- FRAME_LEN_WRITE: refused with FRAME_RANGE, or taken now, or at the close of a running frame (R39, R238). -/
def doFrameLenWrite (p v : Nat) (s : State) : State :=
  if !(s.frameLenOk p (bits v 0 32) (bits v 32 32)) then (s.raiseP p C.FRAME_RANGE 0 0 0).answer C.FRAME_RANGE 0
  else if s.inFrame p then { s with defer := s.defer ++ [(p, (F.FRAME_LEN_LEN p).key / 64, v)] }.answer 0 0
  else (s.setFs [(F.FRAME_LEN_LEN p, bits v 0 32), (F.FRAME_LEN_DARK_LEN p, bits v 32 32)]).answer 0 0

def execFrameLenWrite (p : Fin 4) (val : Word) (s : State) : Host.Outcome State Fault Refusal := .next (doFrameLenWrite p val.toNat s)

end Sys2Proof.Machine
end

