-- ==== Sys2Proof/Machine/Abort.lean ====
section
/-! DEFINITION. The abort of a frame (R249, R250). -/
namespace Sys2Proof.Machine

/-- Run a started command that has not run yet. -/
def State.runStarted (s : State) (die idx : Nat) : State :=
  match (s.cmdAt die idx).map Cmd.opcode with
  | some 0x10 => doMxa die idx none s
  | some 0x20 => doSxe die idx s
  | some 0x30 => doMove die idx s
  | some 0x08 => doStepval die idx s
  | _ => s

/-- One pass over the started commands of a die. -/
def State.runDie (s : State) (die : Nat) : State :=
  ((s.die die).run.filter (fun r => !r.performed)).foldl (fun (s : State) (r : RunCmd) => s.runStarted die r.idx) s

/-- `n` passes over the started commands of a partition: a command that waits for another goes on in a later pass. -/
def State.runAll (p : Nat) : Nat → State → State
  | 0, s => s
  | n + 1, s => State.runAll p n ((s.diesOf p).foldl State.runDie s)

/-- Started commands of a partition. -/
def State.started (s : State) (p : Nat) : Nat := ((s.diesOf p).map (fun n => (s.die n).run.length)).foldl (· + ·) 0

/-- Memory and accumulators as another state has them. -/
def State.takeData (s t : State) : State :=
  { s with mem := t.mem, undef := t.undef, ecc := t.ecc, poison := t.poison, hist := t.hist, acf := t.acf, acfHist := t.acfHist, acfEcc := t.acfEcc }

/-- The accumulator rows of a die that entered the array after cycle `c` from reset are not written. -/
def State.acfStop (s : State) (die c : Nat) : State :=
  let gone := fun (h : AcfW) => h.die == die && decide (c < h.unit_)
  { s with
    acf := s.acfHist.foldl (fun (m : Assoc Nat) (h : AcfW) => if gone h then m.put h.addr h.old 0 else m) s.acf
    acfHist := s.acfHist.filter (fun h => !(gone h)) }

/-- What the started commands of a partition have written when each stops at the first boundary of its units after frame cycle `c`: the units begun by then are whole, later ones are not written (R168, R216, R249). The commands run on a copy of the state, of which only the data are taken. (DEDUCED, notes/assumptions/10.md) -/
def State.stopUnits (s : State) (p c : Nat) : State :=
  let dies := s.diesOf p
  let k := s.absCyc (dies.headD 0) c
  let s := s.takeData (State.runAll p (s.started p) s)
  dies.foldl (fun (s : State) (n : Nat) => s.acfStop n k) (s.unwrite (fun h => decide (k < h.unit_) && dies.contains (h.who / 32)))

/-- The state in which a unit stands that an abort stops in frame cycle `c` (R168, R174, R216). -/
def State.stopUnit (s : State) (die c : Nat) (r : RunCmd) : State :=
  match s.cmdAt die r.idx with
  | none => s
  | some x =>
    match x.unit with
    | some 2 =>
      let (row, seg, _) := (s.sxePos die c).getD (0, 0, 0)
      s.setFs [(F.SXE_POS_ROW die, row), (F.SXE_POS_SEGMENT die, seg)]
    | some u => if u < 4 then s
        else s.hwSets [(F.MOV_STATUS_FAULTED die (u - 4), 1), (F.MOV_STATUS_FAULT_CODE die (u - 4), C.FRAME_ABORTED)]
    | none => s

/-- An A-die's started commands end at an abort in frame cycle `c`; HELD and PENDING bits clear. -/
def ADie.aborted (d : ADie) (c : Nat) : ADie :=
  { d with
    run := d.run.map (fun r => if r.doneAt.any (fun t => decide (t ≤ c)) then r else { r with performed := true, fault := some C.FRAME_ABORTED, doneAt := some (max c r.start) })
    held := [], pend := [], qload := none }

/-- Whether a transfer is of a collective of a partition's contexts. -/
def State.ofColl (s : State) (p : Nat) (t : Tx) : Bool :=
  match t.org with
  | .coll g q _ => s.coll.ops.any (fun o => o.group == g && o.gseq == q && s.nicOwner.getD o.ctx 0 == p)
  | _ => false

/-- Collective operations of a partition's contexts fail with the frame and send no further packet, neither waiting nor again (R459). -/
def State.failOps (s : State) (p : Nat) : State :=
  let l := s.fab.txs.filter (s.ofColl p)
  { s with
    fab := { s.fab with
      txs := (s.fab.txs.filter (fun t => !(s.ofColl p t) || t.sent)).map (fun t => if s.ofColl p t then { t with answered := true } else t)
      waiting := s.fab.waiting.filter (fun k => !(l.any (fun t => k.src == s.node t.part && k.dst == t.dst && k.seq == t.seq && k.op == t.op))) }
    coll := { s.coll with ops := s.coll.ops.map (fun o => if s.nicOwner.getD o.ctx 0 = p ∧ o.fail = 0 then { o with fail := C.FRAME_ABORTED } else o) } }

/-- Every A-die of a partition stops at an abort in frame cycle `c`. -/
def State.abortDies (s : State) (p c : Nat) : State :=
  (s.diesOf p).foldl (fun (s : State) (n : Nat) =>
    let s := ((s.die n).run.filter (fun r => !(r.doneAt.any (fun t => decide (t ≤ c))))).foldl (fun (s : State) (r : RunCmd) => s.stopUnit n c r) s
    (s.latchFault n C.FRAME_ABORTED 0xFFFF c).updDie n (fun d => d.aborted c)) (s.stopUnits p c)

/-- A frame is aborted in the present cycle: it ends as a fault with FRAME_ABORTED, started commands stop at their next unit boundary, and it drains (R249). (DEDUCED, notes/assumptions/12.md) -/
def State.abortFrame (s : State) (p : Nat) : State :=
  if s.inFrame p = false then s
  else
    let c := s.frameCyc p
    let s := (s.failFrame p ((s.diesOf p).headD 0) c).updPart p (fun x => { x with abortAt := some (x.abortAt.getD c) })
    ((s.abortDies p c).failOps p).raiseP p C.FRAME_ABORTED 0 0 0

/-- SCU_ABORT (R249). -/
def doScuAbort (die : Nat) (s : State) : State := s.abortFrame (s.partOf die)

def execScuAbort (die : Fin 4) (s : State) : Host.Outcome State Fault Refusal := .next (doScuAbort die s)

end Sys2Proof.Machine
end

