-- ==== Sys2Proof/Machine/Book.lean ====
section
/-! DEFINITION. The repair book: the live state as bytes, its digest and records, and the bring-in of spares at start (R570 to R576, R584); the boot NVM's bytes; register values as reads compose them (R10, R11). -/
namespace Sys2Proof.Machine

/-- The value a register's fields spell; write-only fields read 0 (R11). -/
def State.regValue (s : State) (d : RegD) : Nat :=
  d.fields.foldl (fun (a : Nat) (f : FieldD) => if f.acc = .wo then a else a + s.getF f.f * 2 ^ f.lo) 0

/-! The boot NVM (R528). -/

/-- A byte of the boot NVM; an erased byte is 0xFF. (DESIGN CHOICE, notes/assumptions/3.md) -/
def State.nvmByte (s : State) (a : Nat) : Byte := Assoc.get s.nvm a 0xFF

def State.nvmRead (s : State) (a n : Nat) : List Byte := (List.range n).map (fun i => s.nvmByte (a + i))

def State.nvmNat (s : State) (a n : Nat) : Nat := leNat (s.nvmRead a n)

def State.nvmWrite (s : State) (a : Nat) : List Byte → State
  | [] => s
  | b :: r => ({ s with nvm := Assoc.put s.nvm a b 0xFF }).nvmWrite (a + 1) r

/-- Erase [a, a + n). -/
def State.nvmErase (s : State) (a n : Nat) : State := { s with nvm := s.nvm.filter (fun c => !(decide (a ≤ c.1) && decide (c.1 < a + n))) }

/-- Numbers of the units of `w` bytes of [a, a + n) that hold any programmed byte. -/
def State.nvmUsed (s : State) (a n w : Nat) : List Nat :=
  ((s.nvm.filter (fun c => decide (a ≤ c.1) && decide (c.1 < a + n))).map (fun c => (c.1 - a) / w)).eraseDups

def nvmDir : Nat := 0
def nvmCounter : Nat := 0x10000
def nvmConfig : Nat := 0x20000
def nvmService : Nat := 0x200000
def nvmFirmware : Nat := 0x400000
def nvmCal : Nat := nvmService + 0x4000
def nvmBook : Nat := nvmService + 0x14000

/-! The live state (R571). -/

/-- Number of a link by its die pair: A–A in increasing order, A–P, A–F, P–F. -/
def pairNo (x y : Nat) : Nat :=
  let a := min x y
  let b := max x y
  if b < 4 then (if a = 0 then b - 1 else if a = 1 then b + 1 else 5) else if a = 4 then 14 else if b = 4 then 6 + a else 10 + a

/-- The die at the other end of endpoint register `l` of die `e` (R217, R218). -/
def linkPeer (e l : Nat) : Nat :=
  if e < 4 then (if l < 3 then (if l < e then l else l + 1) else l + 1) else if l < 4 then l else if e = 4 then 5 else 4

/-- The 2,048 bytes of STATE. -/
def State.bookState (s : State) : List Byte :=
  let four := [0, 1, 2, 3]
  let twelve := List.range 12
  let copy := fun (i : Nat) => s.bringIn.find? (fun x => x.kind == 4 && x.die == i / 3 && x.unit == i % 3)
  four.flatMap (fun (n : Nat) =>
    (List.range 8).flatMap (fun (r : Nat) => leBytes 2 (s.rowMap.get (n * 8 + r) 0xFFFF))
      ++ (List.range 4).flatMap (fun (c : Nat) => leBytes 2 (s.colMap.get (n * 4 + c) 0xFFFF)) ++ leBytes 8 0)
  ++ four.flatMap (fun (n : Nat) =>
    (List.range 8).flatMap (fun (i : Nat) => leBytes 1 (s.getF (F.SPM_SPAREMAP_BANK n i))) ++ leBytes 8 (s.getF (F.SPM_SPARES_IN_USE n)))
  ++ twelve.flatMap (fun (i : Nat) => (List.range 32).flatMap (fun (k : Nat) => leBytes 1 (s.pcState (i / 3) (i % 3) k)))
  ++ (List.range 64).flatMap (fun (c : Nat) => leBytes 1 (if s.getF (F.CORE_STATUS_ABSENT c) = 1 then 0xFF else s.getF (F.CORE_MAP_PHYS (c / 8) (c % 8))))
  ++ (List.range 32).flatMap (fun (p : Nat) => leBytes 4 (s.getF (F.PORT_STATUS_ACTIVE p) + 512 * s.getF (F.PORT_STATUS_FAILED p)))
  ++ (List.range 16).flatMap (fun (k : Nat) => leBytes 2 (s.lsc.spares.get k 0xFFFF)) ++ List.replicate 32 0
  ++ (List.range 15).flatMap (fun (l : Nat) => leBytes 8 (s.svc.slinkUsed.get l 0)) ++ leBytes 8 0
  ++ (List.range 8).flatMap (fun (k : Nat) => leBytes 2 (s.coll.bulkMap.getD k 0xFFFF)) ++ leBytes 2 (128 - s.coll.scalarSpares) ++ List.replicate 46 0
  ++ twelve.flatMap (fun (i : Nat) => leBytes 1 ((copy i).elim 0xFF (fun x => x.num)))
  ++ twelve.flatMap (fun (i : Nat) => leBytes 1 ((copy i).elim 0xFF (fun x => x.spare))) ++ leBytes 8 0
  ++ leBytes 8 (2 * s.getF F.RB_POLICY_AUTO) ++ List.replicate 984 0

/-- The repair book digest (R574, R592). -/
def State.bookDigest (s : State) : List Byte := sha3_512 s.bookState

/-- What the HBM registers of a stack show of its pseudo-channel map (R336, R380). -/
def State.countPcs (s : State) (die : Nat) : State :=
  let n := ((List.range 96).filter (fun (i : Nat) => decide (s.pcState die (i / 32) (i % 32) < 90))).length
  [0, 1, 2].foldl (fun (s : State) (k : Nat) =>
    let st := (List.range 32).map (fun (i : Nat) => s.pcState die k i)
    let left := (st.filter (fun x => x == 0xFD)).length
    s.setFs [(F.HBM_STATUS_DIE_PCS die k, n), (F.HBM_STATUS_EXPOSED die k, (st.filter (fun x => decide (x < 90))).length),
      (F.HBM_STATUS_RESERVES_LEFT die k, left), (F.HBM_STATUS_RESERVE_USED die k, b2n (decide (left < 2))),
      (F.HBM_STATUS_MAPPED_OUT die k, b2n (st.contains 0xFF))]) s

/-- The state that a record's STATE bytes name (R574): every map and register of R571. -/
def State.applyBook (s : State) (b : List Byte) : State :=
  let row := (List.range 32).foldl (fun (m : Assoc Nat) (i : Nat) => m.put i (fieldAt b (32 * (i / 8) + 2 * (i % 8)) 2) 0xFFFF) []
  let col := (List.range 16).foldl (fun (m : Assoc Nat) (i : Nat) => m.put i (fieldAt b (32 * (i / 4) + 16 + 2 * (i % 4)) 2) 0xFFFF) []
  let used := fun (m : Assoc Nat) (k n : Nat) => (List.range k).foldl (fun (a : Nat) (i : Nat) => if m.get (n * k + i) 0xFFFF = 0xFFFF then a else a + 2 ^ i) 0
  let re := ((List.range 8).map (fun (k : Nat) => fieldAt b (960 + 2 * k) 2)).filter (fun x => x != 0xFFFF)
  let s := { s with
    rowMap := row
    colMap := col
    lsc := { s.lsc with spares := (List.range 16).foldl (fun (m : Assoc Nat) (k : Nat) => m.put k (fieldAt b (768 + 2 * k) 2) 0xFFFF) [] }
    svc := { s.svc with slinkUsed := (List.range 15).foldl (fun (m : Assoc Nat) (l : Nat) => m.put l (fieldAt b (832 + 8 * l) 8) 0) [] }
    coll := { s.coll with bulkMap := re, bulkSpares := 8 - re.length, scalarSpares := 128 - fieldAt b 976 2 } }
  let s := [0, 1, 2, 3].foldl (fun (s : State) (n : Nat) =>
    let s := s.setFs [(F.MXA_SPARES_ROWS_IN_USE n, used row 8 n), (F.MXA_SPARES_COLS_IN_USE n, used col 4 n), (F.SPM_SPARES_IN_USE n, fieldAt b (128 + 16 * n + 8) 1)]
    let s := (List.range 8).foldl (fun (s : State) (i : Nat) => s.setF (F.SPM_SPAREMAP_BANK n i) (fieldAt b (128 + 16 * n + i) 1)) s
    let s := (List.range 96).foldl (fun (s : State) (i : Nat) => s.setF (pcF n (i / 32) (i % 32)) (fieldAt b (192 + 96 * n + i) 1)) s
    s.countPcs n) s
  let s := (List.range 64).foldl (fun (s : State) (c : Nat) =>
    let x := fieldAt b (576 + c) 1
    let s := s.setF (F.CORE_STATUS_ABSENT c) (b2n (x == 0xFF))
    let s := if x = 0xFF then s else s.setF (F.CORE_MAP_PHYS (c / 8) (c % 8)) x
    if 64 ≤ x ∧ x < 68 then s.setF F.CORE_SPARES_IN_USE (s.getF F.CORE_SPARES_IN_USE ||| 2 ^ (x - 64)) else s) s
  let s := (List.range 32).foldl (fun (s : State) (p : Nat) =>
    let x := fieldAt b (640 + 4 * p) 4
    s.setFs [(F.PORT_STATUS_ACTIVE p, bits x 0 9), (F.PORT_STATUS_FAILED p, bits x 9 9)]) s
  let s := (List.range 30).foldl (fun (s : State) (i : Nat) =>
    s.setF (F.SLINK_STATUS_LANES_SPARED (i / 5) (i % 5)) ((List.range 16).foldl (fun (a : Nat) (m : Nat) => a + bits (s.svc.slinkUsed.get (pairNo (i / 5) (linkPeer (i / 5) (i % 5))) 0) (4 * m) 4) 0)) s
  s.setF F.RB_POLICY_AUTO (bits (fieldAt b 1056 8) 1 8)

/-! Records (R571 to R574). -/

/-- Whether the block `i` (0 to 245) holds a record whose signature the identity key verifies. -/
def State.recordAt (s : State) (i : Nat) : Bool × State :=
  let b := s.nvmRead (nvmBook + 8192 * i) 6739
  if fieldAt b 0 2 = 0x010F then s.verify idPub (b.take 2112) (slice b 2112 4627) else (false, s)

/-- The current record: its block and RSEQ. -/
def State.currentRecord (s : State) : Option (Nat × Nat) × State :=
  (s.nvmUsed nvmBook (246 * 8192) 8192).foldl (fun (x : Option (Nat × Nat) × State) (i : Nat) =>
    let (ok, t) := x.2.recordAt i
    let r := t.nvmNat (nvmBook + 8192 * i + 4) 4
    (if ok && x.1.all (fun y => decide (y.2 < r)) then some (i, r) else x.1, t)) (none, s)

/-- Blocks of half `h` that are still erased. -/
def State.freeBlocks (s : State) (h : Nat) : List Nat :=
  let u := s.nvmUsed (nvmBook + h * 123 * 8192) (123 * 8192) 8192
  (List.range 123).filter (fun (i : Nat) => !(u.contains i))

/-- Write the live state as a record in the next free block of half `h`: EVENT and NS of the last change, RSEQ + 1, a signature of the identity key. -/
def State.writeRecord (s : State) (h : Nat) : State :=
  match s.freeBlocks h with
  | [] => s
  | i :: rest =>
    let seq := s.getF F.RB_STATUS_RSEQ + 1
    let body := leBytes 2 0x010F ++ leBytes 2 s.svc.event.1 ++ leBytes 4 seq ++ leBytes 8 s.svc.event.2 ++ List.replicate 48 0 ++ s.bookState
    let (sig, s) := s.sign idSeed body
    let s := s.nvmWrite (nvmBook + (h * 123 + i) * 8192) (body ++ sig ++ List.replicate 1453 0)
    s.setFs [(F.RB_STATUS_RSEQ, seq), (F.RB_STATUS_FREE, rest.length), (F.RB_STATUS_HALF, h), (F.RB_STATUS_DIRTY, 0)]

/-- RB_RECORD_WRITE: a record is written when DIRTY is 1, a free block remains and every frame is IDLE or STOPPED; it ends a pending RB_FLUSH (R573, R588). -/
def State.recordReady (s : State) : Bool :=
  s.getF F.RB_STATUS_DIRTY == 1 && s.allAtRest && !((s.freeBlocks (s.getF F.RB_STATUS_HALF)).isEmpty)

/-! The end of bring-ins other than array and SPM spares. -/

/-- A spare core takes the logical number (R329); without a readable L2 its local store is poisoned until written. -/
def State.useCoreSpare (s : State) (x : BringIn) (readable : Bool) : State :=
  let s := s.setFs [(F.CORE_MAP_PHYS (x.num / 8) (x.num % 8), x.spare), (F.CORE_SPARES_IN_USE, s.getF F.CORE_SPARES_IN_USE ||| 2 ^ (x.spare - 64)), (F.CORE_STATUS_ABSENT x.num, 0)]
  let s := if readable then s else { s with cores := s.cores.modify x.num (fun c => { c with poisoned := true, clean := [] }) }
  ((s.raise C.CORE_SPARE_USED 4 2 x.num 0 0).dirty).dropBringIn x

/-- A repair lane of the link at end (e, l) is brought in; both ends show it (R218, R577). -/
def State.useSlinkLane (s : State) (e l : Nat) : State :=
  let y := linkPeer e l
  let l2 := if y < 4 then (if e < 4 then (if y < e then e - 1 else e) else e - 1) else if e < 4 then e else 4
  let k := pairNo e y
  let n := satAdd 4 (s.getF (F.SLINK_STATUS_LANES_SPARED e l)) 1
  let s := s.setFs [(F.SLINK_STATUS_LANES_SPARED e l, n), (F.SLINK_STATUS_LANES_SPARED y l2, n)]
  (({ s with svc := { s.svc with slinkUsed := s.svc.slinkUsed.put k n 0 } }).raise C.SLINK_LANE_SPARED e (slinkUnit e) l 0 0).dirty

/-- A spare of a unit found failed by start self-test is brought in at once under AUTO policy; otherwise its spares are exhausted or wait for a command (R574, R575). -/
def State.spareAtStart (s : State) (kind die unit num : Nat) : State :=
  if kind = 7 then s.useSlinkLane die num
  else if kind = 4 then
    let s := s.pcLost die unit num
    (match s.freeSpare 4 die unit with
      | some r => s.replacePc die unit num r
      | none => doHbmMapOut die unit num s)
  else
    let s := if kind = 5 then s.setF (F.CORE_STATUS_ABSENT num) 1 else s
    match s.freeSpare kind die unit with
    | none => s.sparesExhausted kind die num
    | some i =>
      if s.spareAuto kind = false then s
      else
        let x : BringIn := ⟨kind, die, unit, num, i, false, 0, 0⟩
        if kind = 5 then s.useCoreSpare x true else if kind = 3 then s.useSpmSpare x else if kind = 1 ∨ kind = 2 then s.useArraySpare x else s

end Sys2Proof.Machine
end

