-- ==== Sys2Proof/Machine/Cores.lean ====
section
/-! DEFINITION. The cores' entries: core table loads, starts, ends, pin breaks, faults, interrupts, the core clock and PIN_CFG (R298, R320 to R330, R333). -/
namespace Sys2Proof.Machine

def State.core (s : State) (c : Nat) : Core := s.cores.getD c Core.reset

def State.updCore (s : State) (c : Nat) (f : Core → Core) : State := { s with cores := s.cores.set c (f (s.core c)) }

/-- General register `i`; G0 reads 0 (R299). -/
def Core.gpr (x : Core) (i : Nat) : Nat := if i = 0 then 0 else x.g.get i 0

def Core.setG (x : Core) (i v : Nat) : Core := if i = 0 then x else { x with g := x.g.put i (v % 2 ^ 64) 0 }

/-- Vector register `i`, 512 bits. -/
def Core.vec (x : Core) (i : Nat) : Nat := x.v.get i 0

def Core.setV (x : Core) (i v : Nat) : Core := { x with v := x.v.put i (v % 2 ^ 512) 0 }

/-- Qualifier register `i`, 512 bits. -/
def Core.qual (x : Core) (i : Nat) : Nat := x.q.get i 0

def Core.setQ (x : Core) (i v : Nat) : Core := { x with q := x.q.put i (v % 2 ^ 512) 0 }

/-! Core tables (R320). -/

def coreEntry (b : List Byte) (o : Nat) : TabEntry where
  release := fieldAt b o 4
  dep0 := fieldAt b (o + 4) 4
  dep1 := fieldAt b (o + 8) 4
  num := fieldAt b (o + 12) 2
  irrev := bit (fieldAt b (o + 14) 1) 1
  on := fieldAt b (o + 16) 8
  pin := bit (fieldAt b (o + 14) 1) 0
  pc := fieldAt b (o + 24) 8
  descs := []

def State.coreAbsent (s : State) (c : Nat) : Bool := s.getF (F.CORE_STATUS_ABSENT c) == 1

/-- The cores a mask names, in increasing order. -/
def coresOf (mask : Nat) : List Nat := (List.range 64).filter (fun c => bit mask c)

/-- Validate a core table image: the table, or (code, entry). -/
def State.coreTable (s : State) (b : List Byte) : Except (Nat × Nat) TabBank :=
  let n := fieldAt b 2 2
  let sz := fieldAt b 4 4
  let off := fieldAt b 16 4
  if fieldAt b 0 2 ≠ 0x0108 ∨ n = 0 ∨ 256 < n ∨ 65536 < sz ∨ off % 64 ≠ 0 ∨ off < 64 ∨ sz < off + 32 * n ∨ zeroAt b 20 44 = false then
    .error (C.CORE_TABLE_INVALID, 0xFFFF)
  else
    let es := (List.range n).map (fun i => coreEntry b (off + 32 * i))
    let bad1 := (List.range n).find? (fun i =>
      decide (3 < fieldAt b (off + 32 * i + 14) 1) || fieldAt b (off + 32 * i + 15) 1 != 0 || fieldAt b (off + 32 * i + 16) 8 == 0)
    let bad := match bad1, entriesOk (s.releaseLimit 0) es with
      | some a, some c => some (min a c)
      | some a, none => some a
      | none, c => c
    let gone := (List.range n).find? (fun i => (es[i]?).any (fun e => (coresOf e.on).any s.coreAbsent))
    match bad, gone with
    | some i, some j => if j < i then .error (C.FRAME_PLAN_RESOURCE, j) else .error (C.CORE_TABLE_INVALID, i)
    | some i, none => .error (C.CORE_TABLE_INVALID, i)
    | none, some j => .error (C.FRAME_PLAN_RESOURCE, j)
    | none, none => .ok ⟨true, fieldAt b 8 8, es⟩

/-- CORE_LOAD (R320). -/
def doCoreLoad (v : Nat) (s : State) : State := s.seqLoad .cor v

def execCoreLoad (val : Word) (s : State) : Host.Outcome State Fault Refusal := .next (doCoreLoad val.toNat s)

/-- CORE_LOAD_DONE: the load in progress finishes its validation. -/
def doCoreLoadDone (s : State) : State :=
  match s.cor.load with
  | none => s
  | some (b, src) =>
    let n := max 64 (min 65536 (s.readNat (src + 4) 4))
    let (c, img, s) := if s.inT1 src n then s.extRead 0x86 src n else (C.CORE_TABLE_INVALID, [], s)
    s.seqLoaded .cor b (if c ≠ 0 then .error (c, 0xFFFF) else s.coreTable img)

def execCoreLoadDone (s : State) : Host.Outcome State Fault Refusal := .next (doCoreLoadDone s)

/-! Faults and pin breaks. -/

/-- A core's entry faults (R322, R328): the first core fault of the frame is latched, and the frame fails. -/
def State.coreFault (s : State) (c code : Nat) : State :=
  match (s.core c).entry with
  | none => s
  | some i =>
    let num := ((s.cor.table[i]?).map (fun e => e.num)).getD 0
    let f := s.frameCyc 0
    let s := if s.cor.failed then s
      else s.setFs [(F.CORE_FAULT_CODE, code), (F.CORE_FAULT_EVENT, num), (F.CORE_FAULT_CYCLE, f)]
    let s := (s.hwSet (F.CORE_STATUS_FAULTED c) 1).updSeq .cor (fun q => { q with failed := true })
    if s.cor.run.any (fun r => r.idx == i && r.fault) then s
    else (s.updSeqRun .cor i (fun r => { r with fault := true })).seqFault .cor code num f

/-- CORE_PIN_BREAK, once per entry (R326). (DEDUCED, notes/assumptions/22.md) -/
def State.pinBreak (s : State) (c cause : Nat) : State :=
  if (s.core c).pinned then
    ((((s.updCore c (fun x => { x with pinned := false })).hwSets
      [(F.CORE_STATUS_PIN_BROKEN c, 1), (F.CORE_STATUS_PINNED c, 0), (F.CORE_STATUS_CAUSE c, cause)]).raise C.CORE_PIN_BREAK 4 2 c cause 0).count 4 (4 * c + 2) 1)
  else s

/-- Core `c` takes no further part in its entry, which has faulted. (DEDUCED, notes/assumptions/22.md) -/
def State.losePart (s : State) (c : Nat) : State :=
  match (s.core c).entry with
  | none => s
  | some i =>
    let s := (s.updCore c (fun x => { x with entry := none, pinned := false, held := 0 })).setFs [(F.CORE_STATUS_RUNNING c, 0), (F.CORE_STATUS_PINNED c, 0)]
    s.updSeq .cor (fun q => { q with run := (q.run.map (fun r => if r.idx == i && bit r.left c then { r with left := r.left - 2 ^ c } else r)).filter (fun r => r.left != 0) })

/-- An uncorrectable error of a core: its entry faults, and the core is out of service until a spare takes its number, with its local store when its L2 is readable (R328, R329, R330, R575). (DEDUCED, notes/assumptions/22.md) -/
def State.coreMachineCheck (s : State) (c : Nat) (readable : Bool) : State :=
  let s := (s.coreFault c C.CORE_MACHINE_CHECK).losePart c
  (s.setF (F.CORE_STATUS_ABSENT c) 1).needSpare 5 4 0 c (!readable)

/-! Entries (R321, R322). -/

/-- The frame cycle from which a core is free of software outside entries; none while it runs it. -/
def State.softFree (s : State) (cs : List Nat) : Option Nat :=
  if cs.any (fun c => (s.core c).soft) then none
  else some (cs.foldl (fun m c => max m ((s.core c).idleAt - s.p0.cycle0)) 0)

/-- A core starts its part of an entry, with its L1D cleared and its code in `pages` (R321, R323). (DEDUCED, notes/assumptions/22.md) -/
def State.startCore (s : State) (i : Nat) (e : TabEntry) (pages : List PageMap) (c : Nat) : State :=
  let t := roundUp s.clk.core 64
  ((s.updCore c (fun x => { ((x.setG 1 c).setG 2 e.num) with pc := e.pc, entry := some i, start := t, pinned := e.pin, dpFree := t, lsFree := t, times := [], l1 := [], code := pages })).setFs
    [(F.CORE_STATUS_EVENT c, e.num), (F.CORE_STATUS_RUNNING c, 1), (F.CORE_STATUS_PINNED c, b2n e.pin)]).count 4 (4 * c) 1

/-- CORE_ENTRY_START: an entry is released and its cores start at a CCOUNT multiple of 64; an absent core faults it (R321, R330). An entry that a core outside entries held up until after the last cycle of a release does not start (R328). `pages` are the pages its code lies in, of the translation set locked at job load (R323). (DEDUCED, notes/assumptions/22.md) -/
def doCoreEntryStart (i : Nat) (pages : List PageMap) (s : State) : State :=
  match s.seqReady .cor i with
  | none => s
  | some (e, t, dep, ou) =>
    let cs := coresOf e.on
    match s.softFree cs with
    | none => s
    | some w =>
      if (s.seqLimit .cor).any (fun l => decide (l < max t w)) then s
      else
      let s := s.seqBegin .cor i e t dep ou e.on
      let s := if t < w then (s.toCyc 0 w).seqSlip .cor e 3 (w - t) else s
      let here := cs.filter (fun c => !(s.coreAbsent c))
      let s := here.foldl (fun s c => s.startCore i e pages c) s
      match cs.find? s.coreAbsent with
      | none => s
      | some a =>
        let s := (s.updCore a (fun x => { x with entry := some i })).coreFault a C.CORE_ABSENT
        let s := s.updCore a (fun x => { x with entry := none })
        let s := s.updSeqRun .cor i (fun r => { r with left := (here.map (fun c => 2 ^ c)).sum })
        if here.isEmpty then s.updSeq .cor (fun q => { q with run := q.run.filter (fun r => r.idx != i) }) else s

def execCoreEntryStart (e : EntryStart) (s : State) : Host.Outcome State Fault Refusal := .next (doCoreEntryStart e.entry e.pages s)

/-- The core cycle in which a core's instructions so far have left its paths and their results are ready (R304). -/
def Core.doneAt (x : Core) : Nat := x.times.foldl (fun (m : Nat) r => r.ready.foldl max m) (max x.dpFree x.lsFree)

/-- Time advances until core cycle `t` (R327). (DESIGN CHOICE, notes/assumptions/5.md) -/
def State.toCore (s : State) (t : Nat) : State :=
  if t ≤ s.clk.core then s else s.advanceNs (cdiv (10 * (t - s.clk.core) - s.clk.coreRem) (s.getF F.CLK_STATUS_CORE_CLK))

/-- The core cycle from which a core issues its next instruction: a pinned segment runs on from its start, whatever happens beside it (R305, R324); another core issues in the present cycle at the earliest. (DESIGN CHOICE, notes/assumptions/18.md) -/
def State.issueFrom (s : State) (c : Nat) : Nat := if (s.core c).pinned then (s.core c).start else s.clk.core

/-- A core ends its part of an entry: its held interrupts are delivered, and the last core's end completes the event (R322, R328); a pinned segment's cycles are those of its instructions (R324); how long the event takes to reach the SCUs is open. -/
def State.endPart (s : State) (c status : Nat) (aborted : Bool) : State :=
  match (s.core c).entry with
  | none => s
  | some i =>
    let x := s.core c
    let s := (s.toCore x.doneAt).count 4 (4 * c + 1) (max (s.issueFrom c) x.doneAt - x.start)
    let s := s.updCore c (fun x => { x with entry := none, pinned := false, held := 0, exc := if x.held = 0 then x.exc else some (5, x.pc), idleAt := s.clk.cyc })
    let s := s.setFs [(F.CORE_STATUS_RUNNING c, 0), (F.CORE_STATUS_PINNED c, 0)]
    let s := if status = 0 then s
      else (((s.updCore c (fun x => { x with entry := some i })).coreFault c C.CORE_SEGMENT_FAILED).updCore c (fun x => { x with entry := none }))
    let s := s.updSeqRun .cor i (fun r => { r with left := if bit r.left c then r.left - 2 ^ c else r.left })
    match s.cor.run.find? (fun r => r.idx == i), s.cor.table[i]? with
    | some r, some e =>
      if r.left ≠ 0 then s
      else
        let (d, s) := s.freshNat
        let t := s.frameCyc 0
        if r.fault then s.updSeq .cor (fun q => { q with run := q.run.filter (fun r => r.idx != i) })
        else if aborted then
          (s.updSeq .cor (fun q => { q with run := q.run.filter (fun r => r.idx != i), done := q.done ++ [(i, t)] })).sendDep 0 3 e.num (t + d % 2 ^ 16) C.FRAME_ABORTED 0
        else s.seqDone .cor i t 3 e.num (d % 2 ^ 16)
    | _, _ => s

/-- Whether an abort stops the core of a running entry at its next boundary (R328). -/
def State.coreStops (s : State) (c : Nat) : Bool := s.p0.abortAt.isSome && (s.core c).entry.isSome

/-- Stop every core of a running entry (R328). -/
def State.stopCores (s : State) : State :=
  (List.range 64).foldl (fun s c => if s.coreStops c then s.endPart c 0 true else s) s

def mgmtWindow : Nat := 0xE4000000000
def doorbellBase : Nat := 0xE5000000000

/-- DEDUCED, notes/assumptions/28.md. -/
def inDoorbells (a : Nat) : Bool := decide (doorbellBase ≤ a) && decide (a < doorbellBase + 0x80000)
/-- The management window, but for the doorbell pages within its span. (DEDUCED, notes/assumptions/28.md) -/
def inMgmtWindow (a : Nat) : Bool := decide (mgmtWindow ≤ a) && decide (a < mgmtWindow + 2 ^ 40) && !inDoorbells a

/-- The CAUSE with which an access breaks pinning; none in the own local store and the exchange store (R316, R326). (PRESUMED, notes/assumptions/25.md) -/
def State.pinCause (s : State) (c a n : Nat) : Option Nat :=
  if inMgmtWindow a || inDoorbells a then some 4
  else if s.inWindow a n && (localOf a == some c || (decide (exchangeBase ≤ a) && decide (a < localBase 0))) then none
  else some 1

/-- PRESUMED, notes/assumptions/25.md. -/
def pageOf (pages : List PageMap) (va : Nat) : Option PageMap := pages.find? (fun p => p.virt == va / 4096)

/-- Core `c` fetches its next instruction: in pinned mode from its own local store, in a page of the locked set (R323, R326). A handler's own addresses are not in the manual and break nothing. (DEDUCED, notes/assumptions/25.md) -/
def State.fetch (s : State) (c : Nat) : State :=
  let x := s.core c
  if x.pinned = false ∨ x.exc.isSome then s
  else match pageOf x.code x.pc with
    | none => s.pinBreak c 2
    | some g =>
      let a := g.phys * 4096 + x.pc % 4096
      if g.locked = false then s.pinBreak c 2
      else if localOf a == some c && s.inWindow a 4 then s
      else s.pinBreak c 1

/-- CDONE Gs: the status is the register's value (R322); software outside an entry has no part to end. (DESIGN CHOICE, notes/assumptions/18.md) -/
def doCdone (c gs : Nat) (s : State) : State :=
  if s.coreAbsent c then s
  else if s.coreStops c then s.endPart c 0 true
  else ((s.fetch c).updCore c (fun x => { x with pc := (x.pc + 4) % 2 ^ 64 })).endPart c ((s.core c).gpr gs) false

def execCdone (core : Fin 64) (gs : Fin 32) (s : State) : Host.Outcome State Fault Refusal := .next (doCdone core gs s)

/-- CIDLE: a core running software outside any entry becomes free (R321). -/
def doCidle (c : Nat) (s : State) : State :=
  if s.coreAbsent c then s
  else if s.coreStops c then s.endPart c 0 true
  else (s.fetch c).updCore c (fun x => { x with
    pc := (x.pc + 4) % 2 ^ 64
    soft := if x.entry.isSome then x.soft else false
    idleAt := if x.entry.isSome then x.idleAt else s.clk.cyc })

def execCidle (core : Fin 64) (s : State) : Host.Outcome State Fault Refusal := .next (doCidle core s)

/-- CORE_INTERRUPT: held until CDONE while pinned; otherwise due before an element of the next vector instruction, or at the next boundary (R310, R323). A machine check, an uncorrectable cache or register-file error, is held by nothing; it says whether the L2 can still be read (R323, R328, R329). (DESIGN CHOICE, notes/assumptions/59.md) -/
def doCoreInterrupt (c : Nat) (sig : CoreSignal) (s : State) : State :=
  if s.coreAbsent c then s
  else match sig with
    | .machineCheck readable => (s.pinBreak c 3).coreMachineCheck c readable
    | .interrupt elem => s.updCore c (fun x => if x.pinned then { x with held := x.held + 1 } else { x with intAt := some elem })

def execCoreInterrupt (core : Fin 64) (sig : CoreSignal) (s : State) : Host.Outcome State Fault Refusal := .next (doCoreInterrupt core sig s)

/-! The core clock and the stores (R327, R333). -/

/-- The P-die limit in °C (R618). -/
def pdieLimit : Int := 100

/-- The core clock that P-die thermal control selects at a look at its sensors (R327): one step down, to 2.0 GHz at the lowest, when one reads within 2 °C of the limit; one up, to 2.6 GHz at most, when all have been at least 6 °C below it for 10 ms. (DEDUCED, notes/assumptions/22.md) -/
def State.coreStep (s : State) (temps : List Int) : Nat :=
  let old := s.getF F.CLK_STATUS_CORE_CLK
  if temps.any (fun t => decide (pdieLimit - 2 ≤ t)) then max 20 (old - 2)
  else if s.pdieCool.any (fun t => decide (10000000 ≤ s.clk.ns - t)) then min 26 (old + 2)
  else old

/-- CORE_CLOCK_STEP: P-die thermal control reads its sensors and steps the clock of all cores when R327 says so; the 10 ms of the next step up run from a step. VALUE carries the old clock in bits [15:8] and the new one in bits [7:0]. (DEDUCED, notes/assumptions/22.md) -/
def doCoreClockStep (temps : List Int) (s : State) : State :=
  let cool := temps.all (fun t => decide (t ≤ pdieLimit - 6))
  let s := { s with pdieCool := if cool then some (s.pdieCool.getD s.clk.ns) else none }
  let old := s.getF F.CLK_STATUS_CORE_CLK
  let new := s.coreStep temps
  if new = old then s
  else (((({ s with pdieCool := if cool then some s.clk.ns else none }).setF F.CLK_STATUS_CORE_CLK new).satF F.CLK_STATUS_STEPS 1).count 4 384 1).raise C.CORE_CLOCK_STEP 4 2 0 0 (old * 256 + new)

def execCoreClockStep (temps : List Int) (s : State) : Host.Outcome State Fault Refusal := .next (doCoreClockStep temps s)

/-- Fill [a, a + n) of a local window with zeros. -/
def State.zeroFill (s : State) (a n : Nat) : State :=
  { s with
    mem := s.mem.filter (fun x => decide (x.1 < a) || decide (a + n ≤ x.1))
    ecc := s.ecc.filter (fun x => decide (8 * x.1 < a) || decide (a + n ≤ 8 * x.1)) }

/-- PIN_CFG: accepted while partition 0 is IDLE or STOPPED; a value out of range keeps the field (R15, R333). (DEDUCED, notes/assumptions/22.md) -/
def doPinCfgWrite (v : Nat) (s : State) : State :=
  if !(s.atRest 0) then s.refused C.CORE_LOAD_STATE 4 2 0
  else
    let x := if bits v 8 5 ≤ 24 then bits v 8 5 else s.getF F.PIN_CFG_XS_MIB
    let w := if bits v 0 4 ≤ 12 then bits v 0 4 else s.getF F.PIN_CFG_LS_WAYS
    let s := if x ≠ s.getF F.PIN_CFG_XS_MIB then s.zeroFill exchangeBase 0x1000000000 else s
    let s : State := if w ≠ s.getF F.PIN_CFG_LS_WAYS then
        { (s.zeroFill (localBase 0) (64 * 0x200000)) with cores := s.cores.map (fun c => { c with poisoned := false, clean := [] }) }
      else s
    (s.setFs [(F.PIN_CFG_XS_MIB, x), (F.PIN_CFG_LS_WAYS, w)]).answer 0 0

def execPinCfgWrite (val : Word) (s : State) : Host.Outcome State Fault Refusal := .next (doPinCfgWrite val.toNat s)

end Sys2Proof.Machine
end

