-- ==== Sys2Proof/Machine/Observe.lean ====
section
/-! DEFINITION. Observability: contact sheets, the offset to the root, exposures, the Fault Journal and alerts (R503 to R526, R564). -/
namespace Sys2Proof.Machine

/-! Alerts (R564). -/

/-- The Teller of partition `p` posts an alert: the entry at TAIL, or LOST when the ring is full. -/
def State.alert (s : State) (p code kind num : Nat) : State :=
  let t := s.getF (F.ALERT_POS_TAIL p)
  if (t + 1) % 256 = s.getF (F.ALERT_POS_HEAD p) then s.satF (F.ALERT_POS_LOST p) 1
  else
    let e := leBytes 2 code ++ leBytes 1 kind ++ leBytes 1 0 ++ leBytes 4 num ++ leBytes 8 (s.gstNs p)
    let b := { s.boot with
      ring := Assoc.put s.boot.ring (256 * p + t) e []
      msix := if s.getF (F.ALERT_POS_EN p) = 1 then s.boot.msix.put p (s.boot.msix.get p 0 + 1) 0 else s.boot.msix }
    ({ s with boot := b }).setF (F.ALERT_POS_TAIL p) (t + 1)

/-- Whether partition `p` has a Teller: it is VALID, or none is configured and `p` is 0 (R550). -/
def State.hasPart (s : State) (p : Nat) : Bool := ((s.cfg[p]?).map (fun c => c.valid)).getD (p == 0)

/-- An alert to every Teller. -/
def State.alertAll (s : State) (code kind num : Nat) : State :=
  [0, 1, 2, 3].foldl (fun (s : State) (p : Nat) => if s.hasPart p then s.alert p code kind num else s) s

/-! Contact sheets (R503 to R506). -/

/-- Event counters of a die (R499). (DESIGN CHOICE, notes/assumptions/60.md) -/
def counterCount (e : Nat) : Nat := if e < 4 then 1024 else 512

/-- The sheet latches at step `step`: every selected counter is copied (R504, R505). -/
def State.csLatch (s : State) (step : Nat) : State :=
  let s := (List.range 6).foldl (fun (s : State) (e : Nat) =>
    (List.range (counterCount e)).foldl (fun (s : State) (i : Nat) =>
      if bit (s.getF (F.CS_MASK_SEL e (i / 64))) (i % 64) then s.setF (F.SHEET_VALUE e i) (s.getF (F.CNT_COUNT e i)) else s) s) s
  ({ s with csArm := none }).setFs [(F.CS_STATUS_STEP, step), (F.CS_STATUS_FRAME_STATE, s.frameState 0), (F.CS_NS_NS, s.gstNs 0), (F.CS_STATUS_VALID, 1), (F.CS_STATUS_ARMED, 0)]

/-- An accepted tick message that stands for `n` indices from `first` on: an armed sheet latches (R503, R505). (DEDUCED, notes/assumptions/40.md) -/
def State.csTick (s : State) (first n : Nat) : State :=
  match s.csArm with
  | none => s
  | some none => s.csLatch first
  | some (some x) => if (x + 2 ^ 32 - first) % 2 ^ 32 < n then s.csLatch x else s

/-- CS_ARM: a write of CS_CTRL with ARM (R503). -/
def doCsArm (v : Nat) (s : State) : State :=
  let s := s.setFs [(F.CS_CTRL_NEXT, bits v 61 1), (F.CS_CTRL_STEP, bits v 0 32)]
  let d := (bits v 0 32 + 2 ^ 32 - s.getF (F.GST_STEP_STEP 0)) % 2 ^ 32
  if bit v 63 = false then s.answer 0 0
  else if bit v 61 = false ∧ (d = 0 ∨ 2 ^ 31 ≤ d) then s.refused C.CS_STEP_PAST 5 0 0
  else (({ s with csArm := some (if bit v 61 then none else some (bits v 0 32)) }).setFs [(F.CS_STATUS_ARMED, 1), (F.CS_STATUS_VALID, 0)]).answer 0 0

def execCsArm (val : Word) (s : State) : Host.Outcome State Fault Refusal := .next (doCsArm val.toNat s)

/-- CS_NOW (R506). (DEDUCED, notes/assumptions/40.md) -/
def doCsNow (s : State) : State := if s.allAtRest then (s.csLatch (s.getF (F.GST_STEP_STEP 0))).answer 0 0 else s.refused C.CS_STEP_PAST 5 0 0

def execCsNow (s : State) : Host.Outcome State Fault Refusal := .next (doCsNow s)

/-! The offset to the root (R508, R509). -/

/-- Whether this package is the root. -/
def State.isRoot (s : State) : Bool := s.getF (F.GST_CTRL_ROLE 0) == 1

/-- Send probe `i` to the root on VC1. -/
def State.sendProbe (s : State) (i : Nat) : State :=
  let root := s.getF (F.GST_ROOTS_ROOT 0)
  let l := (levelOf (s.node 0) root).getD 1
  s.emit ⟨0, root, s.node 0, 0x20, 1, l, false, 0xFF, i, 0, 1, 0, 0, 0, s.jobStep 0, 0, 0, []⟩

/-- TB_MEASURE: 16 probes to the root; needs a locked rate (R508). -/
def doTbMeasure (s : State) : State :=
  if s.getF (F.GST_DISC_LOCKED 0) = 0 then s.refused C.TB_NOT_LOCKED 5 0 0
  else if s.getF F.TB_STATUS_BUSY = 1 then s.answer 0 0
  else
    let s := ({ s with tbTries := List.replicate 16 1 }).setF F.TB_STATUS_BUSY 1
    (if s.isRoot then s else (List.range 16).foldl (fun (s : State) (i : Nat) => s.sendProbe i) s).answer 0 0

def execTbMeasure (s : State) : Host.Outcome State Fault Refusal := .next (doTbMeasure s)

/-- The measurement ends with a code. -/
def State.tbEnd (s : State) (code : Nat) : State :=
  ({ s with tbTries := [] }).hwSets [(F.TB_STATUS_BUSY, 0), (F.TB_STATUS_DONE, 1), (F.TB_STATUS_CODE, code)]

/-- TB_PROBE_TIMEOUT: an unanswered probe is sent again; unanswered 3 times it ends the measurement (R509). -/
def doTbProbeTimeout (i : Nat) (s : State) : State :=
  match s.tbTries[i]? with
  | none => s
  | some n =>
    if 3 ≤ n then (s.tbEnd C.TB_PROBE_TIMEOUT).raise C.TB_PROBE_TIMEOUT 5 0 i 0 0
    else ({ s with tbTries := s.tbTries.set i (n + 1) }).sendProbe i

def execTbProbeTimeout (probe : Nat) (s : State) : Host.Outcome State Fault Refusal := .next (doTbProbeTimeout probe s)

/-- A probe's offset from its four counts, rounded towards minus infinity (R508). -/
def probeOffset (x : Int × Int × Int × Int) : Int := ((x.1 - x.2.1) + (x.2.2.2 - x.2.2.1)) / 2

/-- TB_MEASURE_DONE: the 8th smallest offset, 0 on the root; SPREAD is the 12th less the 4th (R508, R509). -/
def doTbMeasureDone (stamps : List (Int × Int × Int × Int)) (s : State) : State :=
  if s.tbTries = [] ∨ (s.isRoot = false ∧ stamps.length ≠ 16) then s
  else
    let o := (stamps.map probeOffset).mergeSort (fun a b => decide (a ≤ b))
    let r := if s.isRoot then 0 else unsint 64 (o.getD 7 0)
    let spread := if s.isRoot then 0 else (o.getD 11 0 - o.getD 3 0).toNat
    let s := (s.tbEnd 0).setFs [(F.TB_OFFSET_OFFSET_NS, r), (F.TB_STATUS_SPREAD, spread)]
    { s with fab := { s.fab with offsetNs := r } }

def execTbMeasureDone (stamps : List (Int × Int × Int × Int)) (s : State) : Host.Outcome State Fault Refusal := .next (doTbMeasureDone stamps s)

/-! Exposures (R510 to R515). -/

def State.updExpo (s : State) (die : Nat) (f : Expo → Expo) : State := s.updDie die (fun d => { d with expo := f d.expo })

/-- Whether MOV3 owns 3 slots in each round of every pseudo-channel of its region (R510). -/
def State.mov3Slots (s : State) (die : Nat) : Bool :=
  let h := (s.abank die).hbm
  (List.range h.pcs).all (fun l => decide (3 ≤ ((h.slots.getD l []).filter (fun x => x == 32 * (die % 4) + 3)).length))

/-- Whether an ARM's configuration is accepted (R510). -/
def State.expoOk (s : State) (die : Nat) : Bool :=
  let a := s.getF (F.EXP_WINDOW_START die)
  let z := s.getF (F.EXP_WINDOW_END die)
  let n := s.getF (F.EXP_RING_COUNT die)
  let base := s.getF (F.EXP_RING_BASE die)
  decide (a < z) && decide (z ≤ s.getF (F.FRAME_LEN_LEN (s.partOf die))) && base % 131072 == 0
    && s.inT1Of die base (131072 * (if n = 0 then 256 else n)) && s.mov3Slots die

/-- A write of EXP_CTRL takes effect: FRAMES, STOP and ARM; the code that refuses the ARM (R510, R511). (DEDUCED, notes/assumptions/40.md) -/
def State.expoCtrl (s : State) (die v : Nat) : Nat × State :=
  let s := s.setF (F.EXP_CTRL_FRAMES die) (bits v 0 8)
  let s := if bit v 62 then (s.updExpo die (fun e => { e with left := 0, unlimited := false })).setF (F.EXP_STATUS_ARMED die) 0 else s
  if bit v 63 = false then (0, s)
  else if s.expoOk die = false then (C.EXP_CONFIG_INVALID, s)
  else (0, (s.updExpo die (fun e => { e with left := bits v 0 8, unlimited := bits v 0 8 == 0, number := 0, skipped := 0 })).setFs
    [(F.EXP_STATUS_ARMED die, 1), (F.EXP_STATUS_WRITTEN die, 0)])

/-- EXP_ARM: a write of EXP_CTRL, checked at once, or at the close of a running frame (R39, R510). -/
def doExpArm (die v : Nat) (s : State) : State :=
  let p := s.partOf die
  if s.inFrame p then ({ s with defer := s.defer ++ [(p, (F.EXP_CTRL_ARM die).key / 64, v)] }).answer 0 0
  else
    let (c, s) := s.expoCtrl die v
    if c = 0 then s.answer 0 0 else s.refused c die 0 0

def execExpArm (die : Fin 4) (val : Word) (s : State) : Host.Outcome State Fault Refusal := .next (doExpArm die val.toNat s)

/-- EXP_STOP: no frame after the current one is captured; taken at the close of a running frame (R510, R511). -/
def doExpStop (die : Nat) (s : State) : State := doExpArm die (2 ^ 62 + s.getF (F.EXP_CTRL_FRAMES die)) s

def execExpStop (die : Fin 4) (s : State) : Host.Outcome State Fault Refusal := .next (doExpStop die s)

/-- Nanoseconds of `n` arithmetic cycles at the present clock. (DEDUCED, notes/assumptions/40.md) -/
def State.cycNs (s : State) (n : Nat) : Nat := if s.aclk = 0 then 0 else n * 100 / s.aclk

/-- Cycle 0 of a frame: a die that is due captures it, or skips it while its buffer is unwritten (R511, R512). (DEDUCED, notes/assumptions/40.md) -/
def State.expoStart (s : State) (die : Nat) (rerun : Bool) : State :=
  let e := (s.die die).expo
  if e.unlimited = false ∧ e.left = 0 then s
  else
    let e' := { e with left := e.left - 1 }
    let s := s.setF (F.EXP_STATUS_ARMED die) (b2n (e.unlimited || 1 < e.left))
    if s.getF (F.EXP_STATUS_DRAINING die) = 1 then
      ((s.updExpo die (fun _ => { e' with skipped := e.skipped + 1 })).hwSet (F.EXP_STATUS_SKIPPED die) 1).raise C.EXPOSURE_SKIPPED die 0 0 0 0
    else
      let p := s.partOf die
      let a := s.getF (F.EXP_WINDOW_START die)
      let z := s.getF (F.EXP_WINDOW_END die)
      let h := slice (leBytes 1 0xF0 ++ leBytes 1 die ++ leBytes 1 (b2n rerun) ++ leBytes 1 0 ++ leBytes 4 (s.getF (F.GST_STEP_STEP p)) ++ leBytes 8 (s.gstNs p + s.cycNs a)
        ++ leBytes 4 (s.jobStep p) ++ leBytes 4 a ++ leBytes 4 z) 0 32
      (s.updExpo die (fun _ => { e' with buffer := [], dropped := 0, gaps := 0, header := h, closeNs := s.gstNs p + s.cycNs z })).setF (F.EXP_STATUS_CAPTURING die) 1

/-- The close or drain of a captured frame: the buffer waits to be written; a drain before END closes the window (R512, R515). -/
def State.expoEnd (s : State) (die : Nat) : State :=
  if s.getF (F.EXP_STATUS_CAPTURING die) = 0 then s
  else
    let p := s.partOf die
    let early := decide (s.frameCyc p < s.getF (F.EXP_WINDOW_END die))
    (s.updExpo die (fun e => if early then { e with closeNs := s.gstNs p } else e)).setFs [(F.EXP_STATUS_CAPTURING die, 0), (F.EXP_STATUS_DRAINING die, 1)]

/-- The exposure block is written to its place in the ring: header, event records, end record (R511, R512, R514). -/
def State.expoWrite (s : State) (die : Nat) : State :=
  if s.getF (F.EXP_STATUS_DRAINING die) = 0 then s
  else
    let e := (s.die die).expo
    let n := s.getF (F.EXP_RING_COUNT die)
    let a := s.getF (F.EXP_RING_BASE die) + e.number % (if n = 0 then 256 else n) * 131072
    let fin := slice (leBytes 1 0xFF ++ List.replicate 3 0 ++ leBytes 4 e.buffer.length ++ leBytes 8 e.closeNs ++ leBytes 4 e.dropped ++ leBytes 4 e.gaps ++ leBytes 4 e.skipped) 0 32
    let s := (s.extWrite 0xA0 a (e.header ++ e.buffer.flatten)).2
    let s := (s.extWrite 0xA0 (a + 4095 * 32) fin).2
    ((s.updExpo die (fun e => { e with buffer := [], number := e.number + 1, skipped := 0 })).setF (F.EXP_STATUS_DRAINING die) 0).satF (F.EXP_STATUS_WRITTEN die) 1

/-! The Fault Journal (R516 to R524). -/

/-- Whether a class has been recorded (R521). -/
def State.classSeen (s : State) (c : Nat) : Bool := bit (s.getF F.JNL_STATUS_SEEN) c

/-- Unseen classes. -/
def State.unseen (s : State) : Nat := ((List.range 8).filter (fun c => !(s.classSeen c))).length

/-- Whether a queued report holds its class's reserved position: the first of an unseen class. -/
def State.isReserved (s : State) (i : Nat) : Bool :=
  match s.jqueue[i]? with
  | none => false
  | some r => !(s.classSeen r.cls) && !((s.jqueue.take i).any (fun x => x.cls == r.cls))

/-- Ordinary queue positions in use. -/
def State.ordinary (s : State) : Nat := ((List.range s.jqueue.length).filter (fun i => !(s.isReserved i))).length

/-- Free entries of the journal. -/
def State.jnlFree (s : State) : Nat := 4096 - (s.getF F.JNL_TAIL_TAIL + 2 ^ 32 - s.getF F.JNL_HEAD_HEAD) % 2 ^ 32

/-- Whether a report of a seen class can be recorded (R521). -/
def State.jnlRoom (s : State) : Bool := decide (s.unseen < s.jnlFree)

/-- The report that enters the queue next: the oldest; among those raised at one time, by DIE, UNIT, CODE and LOCATION (R520). -/
def State.nextReport (s : State) : Option Report :=
  match s.reports with
  | [] => none
  | r :: _ =>
    let key := fun (x : Report) => ((x.die * 64 + x.unit) * 65536 + x.code) * 2 ^ 32 + x.loc
    some ((s.reports.filter (fun x => x.lastNs == r.lastNs)).foldl (fun m x => if key x < key m then x else m) r)

/-- Whether two reports are identical (R520); the four reports of one check-value mismatch differ in KIND (R518). -/
def Report.same (a b : Report) : Bool :=
  a.code == b.code && a.die == b.die && a.unit == b.unit && a.loc == b.loc && a.kind == b.kind && a.step == b.step && a.addrForm == b.addrForm

/-- JOURNAL_REPORT: a report is merged, queued or lost (R520 to R522). (DEDUCED, notes/assumptions/40.md) -/
def doJournalReport (s : State) : State :=
  match s.nextReport with
  | none => s
  | some r =>
    let s := { s with reports := s.reports.erase r }
    if s.jqueue.any (fun x => x.same r) then
      { s with jqueue := s.jqueue.map (fun x => if x.same r then { x with count := satAdd 32 x.count 1, value := satAdd 32 x.value r.value, lastNs := r.ns } else x) }
    else if (!(s.classSeen r.cls) && !(s.jqueue.any (fun x => x.cls == r.cls))) || decide (s.ordinary < 256) then { s with jqueue := s.jqueue ++ [r] }
    else
      let s := s.satF (F.JNL_LOST_LOST (r.cls / 2) (r.cls % 2)) 1
      if s.jnlRoom = false ∧ s.getF F.JNL_STATUS_FULL = 0 then (s.hwSet F.JNL_STATUS_FULL 1).alertAll C.JOURNAL_FULL 1 0 else s

def execJournalReport (s : State) : Host.Outcome State Fault Refusal := .next (doJournalReport s)

/-- The four words of a report as an entry (R517). -/
def Report.entry (r : Report) : JEntry :=
  { cls := r.cls, posted := false
    w0 := r.code + b2n (decide (1 < r.count)) * 2 ^ 16 + b2n r.addrForm * 2 ^ 17 + r.kind % 16 * 2 ^ 20 + r.loc % 2 ^ 32 * 2 ^ 24 + r.die % 8 * 2 ^ 56 + r.unit % 32 * 2 ^ 59
    w1 := r.ns
    w2 := r.step + r.count * 2 ^ 32
    w3 := r.value % 2 ^ 32 + min (r.lastNs - r.ns) (2 ^ 32 - 1) * 2 ^ 32 }

/-- The queue position recorded next: the head, or, while it waits for room, the first report of an unseen class (R520, R521). -/
def State.nextRecord (s : State) : Option Nat :=
  match s.jqueue with
  | [] => none
  | _ => if s.isReserved 0 || s.jnlRoom then some 0 else (List.range s.jqueue.length).find? (fun i => s.isReserved i)

/-- JOURNAL_RECORD: one queued report becomes the entry at TAIL (R520). -/
def doJournalRecord (s : State) : State :=
  match s.nextRecord with
  | none => s
  | some i =>
    match s.jqueue[i]? with
    | none => s
    | some r =>
      let t := s.getF F.JNL_TAIL_TAIL
      ({ s with jqueue := s.jqueue.eraseIdx i, journal := (s.journal.filter (fun (x : Nat × JEntry) => x.1 != t % 4096)) ++ [(t % 4096, r.entry)] }).setFs
        [(F.JNL_TAIL_TAIL, t + 1), (F.JNL_STATUS_SEEN, s.getF F.JNL_STATUS_SEEN ||| 2 ^ r.cls)]

def execJournalRecord (s : State) : Host.Outcome State Fault Refusal := .next (doJournalRecord s)

/-- JOURNAL_ALERT: the alert of a recorded entry whose class the mask selects, to the Tellers that its die concerns (R524). -/
def doJournalAlert (i : Nat) (s : State) : State :=
  match s.journal.find? (fun x => x.1 == i % 4096) with
  | none => s
  | some (_, e) =>
    if e.posted ∨ bit (s.getF F.JNL_ALERT_MASK) e.cls = false then s
    else
      let die := bits e.w0 56 3
      let s := { s with journal := s.journal.map (fun x => if x.1 = i % 4096 then (x.1, { x.2 with posted := true }) else x) }
      [0, 1, 2, 3].foldl (fun (s : State) (p : Nat) =>
        if s.hasPart p ∧ (die = 5 ∨ die = 6 ∨ s.partOfUnit die = p) then s.alert p (bits e.w0 0 16) 0 (i % 4096) else s) s

def execJournalAlert (index : Nat) (s : State) : Host.Outcome State Fault Refusal := .next (doJournalAlert index s)

/-- JNL_HEAD_WRITE: ignored when it moves beyond TAIL or backwards (R523). -/
def doJnlHeadWrite (v : Nat) (s : State) : State :=
  let h := s.getF F.JNL_HEAD_HEAD
  let d := (bits v 0 32 + 2 ^ 32 - h) % 2 ^ 32
  (if d ≤ (s.getF F.JNL_TAIL_TAIL + 2 ^ 32 - h) % 2 ^ 32 then s.setF F.JNL_HEAD_HEAD (bits v 0 32) else s).answer 0 0

def execJnlHeadWrite (val : Word) (s : State) : Host.Outcome State Fault Refusal := .next (doJnlHeadWrite val.toNat s)

/-- JNL_CLEAR_SEEN (R521). -/
def doJnlClearSeen (s : State) : State := (s.setF F.JNL_STATUS_SEEN 0).answer 0 0

def execJnlClearSeen (s : State) : Host.Outcome State Fault Refusal := .next (doJnlClearSeen s)

/-- The bytes of journal entry `i` (R517). -/
def State.jnlBytes (s : State) (i : Nat) : List Byte :=
  match s.journal.find? (fun x => x.1 == i) with
  | some (_, e) => leBytes 8 e.w0 ++ leBytes 8 e.w1 ++ leBytes 8 e.w2 ++ leBytes 8 e.w3
  | none => List.replicate 32 0

end Sys2Proof.Machine
end

