-- ==== Sys2Proof/Machine/RegIo.lean ====
section
/-! DEFINITION. Writing register fields by their access codes, and the writes that wait for the close of a frame (R11, R15, R39, R233, R238, R253, R510). -/
namespace Sys2Proof.Machine

/-- Whether a write may set a field to `v`: a reserved value keeps the previous one (R15). -/
def FieldD.takes (d : FieldD) (v : Nat) : Bool := decide (d.min ≤ v) && decide (v ≤ d.max) && v % d.align == 0

/-- A write of register value `v` acts on one field by its access code (R11); a bit that hardware set in the same cycle stays set (R12). -/
def State.writeField (s : State) (d : FieldD) (v : Nat) : State :=
  let x := bits v d.lo d.f.width
  match d.acc with
  | .ro | .wo => s
  | .rw | .rwl => if d.takes x then s.setF d.f x else s
  | .w1c => s.clearBits d.f x
  | .w1s => s.setF d.f (s.getF d.f ||| x)

/-- A write of a whole register. -/
def State.writeReg (s : State) (r : RegD) (v : Nat) : State := r.fields.foldl (fun (s : State) (d : FieldD) => s.writeField d v) s

/-- The A-die of a management address, none elsewhere. -/
def dieOfAddr (a : Nat) : Option Nat := if 0x10 ≤ a / 0x100000000 ∧ a / 0x100000000 ≤ 0x13 then some (a / 0x100000000 - 0x10) else none

/-- Whether a management address is a CVU_VAL of a mover, the F-die or the CSM path; its CVU_CFG lies 0x100 below (R217, R430, R497). -/
def isCvuVal (a : Nat) : Bool :=
  match dieOfAddr a with
  | some _ => decide (0x40000 ≤ a % 0x100000000) && decide (a % 0x100000000 < 0x80000) && decide (0x200 ≤ a % 0x10000) && decide (a % 0x10000 < 0x280)
  | none => (decide (0x3000000200 ≤ a) && decide (a < 0x3000000280)) || (decide (0x3000068200 ≤ a) && decide (a < 0x3000068280))

/-- The bits of a register that a read shows and a write reaches: 32 of a CVU_VAL whose context has a 32-bit POLY (R217). -/
def State.regBits (s : State) (a : Nat) : Nat := if isCvuVal a then crcWidth (s.getF ⟨(a - 0x100) * 64, 2, 0⟩) else 64

/-- A write of the register `r` at address `a`. -/
def State.writeAt (s : State) (a : Nat) (r : RegD) (v : Nat) : State :=
  s.writeReg r (if isCvuVal a then setBits (s.getF ⟨a * 64, 64, 0⟩) 0 (s.regBits a) v else v)

/-- The partition whose frame a register's deferred writes follow: the owner of its A-die, of the GST copy, or of the NIC context; 4 for the F-die units that all partitions share, and partition 0 for the P-die (R39, R549). (DEDUCED, notes/assumptions/41.md) -/
def State.regPart (s : State) (a : Nat) : Nat :=
  match dieOfAddr a with
  | some n => s.partOf n
  | none =>
    if 0x3000070000 ≤ a ∧ a < 0x3000070400 then (a - 0x3000070000) / 0x100
    else if 0x3000040000 ≤ a ∧ a < 0x3000040800 then s.nicOwner.getD ((a - 0x3000040000) / 0x100) 0 % 4
    else if 0x3000000000 ≤ a then 4
    else 0

/-- Whether a frame that a register's writes wait for is open: that of its partition, or for a shared unit that of any partition (R39). (DEDUCED, notes/assumptions/41.md) -/
def State.regInFrame (s : State) (p : Nat) : Bool := if p < 4 then s.inFrame p else [0, 1, 2, 3].any s.inFrame

/-- The JOB_STEP of the partition's next frame, on each of its A-dies (R233, R253). (DEDUCED, notes/assumptions/63.md) -/
def State.setJobStep (s : State) (p v : Nat) : State :=
  ((s.diesOf p).foldl (fun (s : State) (n : Nat) => s.setF (F.SCU_STEP_JOB_STEP n) v) s).updPart p (fun x => { x with jobStepSet := true })

/-- A write of SCU_STEP: taken in IDLE and STOPPED, and at the close of a running frame (R39, R253). (DEDUCED, notes/assumptions/12.md) -/
def State.writeJobStep (s : State) (p a v : Nat) : State :=
  if s.atRest p then s.setJobStep p v
  else if s.inFrame p then { s with defer := s.defer ++ [(p, a, v)] }
  else s

/-- A write of SCU_CTRL sets FAIL_POLICY and RERUN_MAX on all A-dies of the partition (R253). (DEDUCED, notes/assumptions/63.md) -/
def State.setScuCtrl (s : State) (p v : Nat) : State := (s.diesOf p).foldl (fun (s : State) (n : Nat) => s.writeReg (D.SCU_CTRL n) v) s

def State.writeScuCtrl (s : State) (p a v : Nat) : State :=
  if s.inFrame p then { s with defer := s.defer ++ [(p, a, v)] } else s.setScuCtrl p v

/-- A write that has waited takes effect; one that its unit refuses is dropped and the refusal reported (R39, R238, R510). -/
def State.takeDeferred (s : State) (a v : Nat) : State :=
  match dieOfAddr a, a % 0x100000000 with
  | some n, 0xE0000 =>
    let (c, s) := s.expoCtrl n v
    if c = 0 then s else s.raise c n 0 0 0 0
  | some n, 0x10000 => s.setScuCtrl (s.partOf n) v
  | some n, 0x10010 => s.setJobStep (s.partOf n) (bits v 0 32)
  | _, _ =>
    match regOf a with
    | none => s
    | some r =>
      if 0x3000070000 ≤ a ∧ a < 0x3000070400 ∧ a % 0x100 = 0x38 then
        (if s.frameLenOk ((a - 0x3000070000) / 0x100) (bits v 0 32) (bits v 32 32) then s.writeReg r v else s.raiseP ((a - 0x3000070000) / 0x100) C.FRAME_RANGE 0 0 0)
      else s.writeAt a r v

/-- The close or drain of partition `p`'s frame: its deferred writes take effect in order, those of the shared units when no partition's frame is open, and those of the fabric tables when none is left RUNNING (R39). (DEDUCED, notes/assumptions/41.md) -/
def State.applyDeferred (s : State) (p : Nat) : State :=
  let due := fun (x : Nat × Nat × Nat) => x.1 == p || (x.1 == 4 && !(s.regInFrame 4))
  let mine := s.defer.filter due
  let s := { s with defer := s.defer.filter (fun x => !(due x)) }
  let s := mine.foldl (fun (s : State) (x : Nat × Nat × Nat) => s.takeDeferred x.2.1 x.2.2) s
  if s.noneRunning then s.applyTables else s

end Sys2Proof.Machine
end

