-- ==== Sys2Proof/Machine/Frame.lean ====
section
/-! DEFINITION. Global Step Time and the step frame: ticks, frame start, close, drain and rerun (R41 to R65, R81, R82, R242, R244 to R246, R250, R261, R429). -/
namespace Sys2Proof.Machine

/-! Small parts. -/

/-- Event counter `i` of every A-die of a partition. -/
def State.countDies (s : State) (p i n : Nat) : State := (s.diesOf p).foldl (fun (s : State) (d : Nat) => s.count d i n) s

/-- DARK_SKIPPED with the dark cycles lost (R59, R61, R63, R244). -/
def State.darkSkipped (s : State) (p lost : Nat) : State :=
  ((s.raiseP p C.DARK_SKIPPED 0 0 lost).hwSet (F.FRAME_STATUS_DARK_SKIPPED p) 1).countDies p 30 1

/-- Whether a job is loaded on partition `p`: an A-die of it has a valid active bank (R56). -/
def State.jobLoaded (s : State) (p : Nat) : Bool := (s.diesOf p).any (fun n => (s.abank n).valid)

/-- WAIT_TICK, or IDLE when ENABLE is 0 or no job is loaded (R56). -/
def State.enterWait (s : State) (p : Nat) : State :=
  s.setFrameState p (if s.getF (F.GST_CTRL_ENABLE p) = 1 ∧ s.jobLoaded p then stWaitTick else stIdle)

/-! Ticks (R41 to R52, R61 to R65). -/

/-- The frame starts in arithmetic cycle `c` (R53, R61, R63). -/
def State.startFrameAt (s : State) (p c : Nat) (late held : Bool) : State :=
  (s.updPart p (fun x => { x with startAt := some c, late := late, held := held })).showPending p

/-- STEP_BACKLOG, with the tick's index in LOCATION (R65, R250): an open frame is aborted and then stops; a closed one stops at once. (DESIGN CHOICE, notes/assumptions/67.md) -/
def State.stepBacklog (s : State) (p index : Nat) : State :=
  let s := (s.raiseP p C.STEP_BACKLOG index 0 0).hwSet (F.FRAME_STATUS_BACKLOG p) 1
  if s.inFrame p then (s.updPart p (fun x => { x with stopAfter := true })).abortFrame p
  else
    let s := s.updPart p (fun x => { x with ticks := if x.startAt.isSome && !x.held then x.ticks.drop 1 else x.ticks, startAt := none, rerunArmed := false })
    (s.setFrameState p stStopped).showPending p

/-- A tick is added to PENDING; one beyond 4 is a backlog (R62, R64, R65, R245). -/
def State.pushTick (s : State) (p index arrival : Nat) : State :=
  if 4 ≤ (s.part p).pending then s.stepBacklog p index
  else (s.updPart p (fun x => { x with ticks := x.ticks ++ [(index, arrival)] })).showPending p

/-- A tick starts the next frame in cycle `c`. (DEDUCED, notes/assumptions/13.md) -/
def State.tickStarts (s : State) (p index arrival c : Nat) (late : Bool) : State :=
  (s.updPart p (fun x => { x with ticks := x.ticks ++ [(index, arrival)] })).startFrameAt p c late false

/-- The partitions whose A-dies or frame a dark piece concerns (R577, R580). -/
def State.piecePart (s : State) : Piece → List Nat
  | .exposure d | .spmCopy d | .spmBringIn d | .spmTest d => [s.partOf d]
  | .retire d _ | .reserveTest d _ | .arraySpare d _ | .selfTest d _ => [s.partOf d]
  | .coreSpare => [0]
  | .slink e l =>
    let y := linkPeer e l
    if 4 ≤ e.val ∧ 4 ≤ y then [0] else ((if e.val < 4 then [s.partOf e] else []) ++ (if y < 4 then [s.partOf y] else [])).eraseDups
  | .port _ _ => [0]

/-- Dark pieces in progress that concern partition `p`. -/
def State.darkOf (s : State) (p : Nat) : List DarkRun := s.dark.filter (fun d => (s.piecePart d.piece).contains p)

/-- The cycle after the last piece in progress. -/
def State.darkEnd (s : State) (p : Nat) : Nat := (s.darkOf p).foldl (fun (m : Nat) (d : DarkRun) => max m (d.start + d.len)) 0

/-- One accepted tick reaches partition `p`'s frame (R53, R54, R61, R62, R245). Of several ticks that one message stands for (R52), those after the first, in WAIT_TICK or DARK, find the start of the frame already ordered and only add to PENDING: the frame is not yet RUNNING in that cycle, so they raise no FRAME_OVERRUN. (DEDUCED, notes/assumptions/13.md; DESIGN CHOICE, notes/assumptions/67.md) -/
def State.takeTick (s : State) (p index arrival : Nat) : State :=
  let st := s.frameState p
  let x := s.part p
  if st = stIdle then s
  else if x.startAt.isSome then s.pushTick p index arrival
  else if st = stWaitTick then
    let (k, s) := s.freshNat
    s.tickStarts p index arrival (s.clk.cyc + k % 5) false
  else if st = stRunning then
    let s := if x.overrunSeen then s
      else
        let s := (s.hwSet (F.FRAME_STATUS_OVERRUN p) 1).countDies p 7 1
        (s.updPart p (fun x => { x with overrunSeen := true })).raiseP p C.FRAME_OVERRUN 0 0 (min 4 (x.pending + 1))
    s.pushTick p index arrival
  else if st = stDark then
    let (k, s) := s.freshNat
    if s.frameCyc p < x.len - x.dark then (s.darkSkipped p x.dark).tickStarts p index arrival (s.clk.cyc + 1 + k % 4) false
    else if s.darkOf p ≠ [] then
      (s.raiseP p C.FRAME_LATE_START 0 0 (s.darkEnd p - s.clk.cyc)).tickStarts p index arrival (s.darkEnd p) true
    else s.tickStarts p index arrival (s.clk.cyc + 1 + k % 4) false
  else s.pushTick p index arrival

/-- `n` consecutive ticks from index `i` on, arriving together (R52). -/
def State.takeTicks (s : State) (p : Nat) : Nat → Nat → Nat → State
  | 0, _, _ => s
  | n + 1, i, arrival => (s.takeTick p i arrival).takeTicks p n ((i + 1) % 2 ^ 32) arrival

/-- A tick message with index `x` arrives, GST_STALE carrying `x` in LOCATION (DESIGN CHOICE, notes/assumptions/67.md): `d` beyond the expected index e it stands for d + 1 ticks; a stale one is reported and ignored, a later copy of the last index ignored. Whether it was accepted, and the state (R43, R45, R52, R502, R504). (DEDUCED, notes/assumptions/13.md; DEDUCED, notes/assumptions/14.md) -/
def State.acceptTick (s : State) (p x : Nat) : Bool × State :=
  let last := (s.part p).lastIndex
  let e := match last with
    | none => x
    | some k => (k + 1) % 2 ^ 32
  let d := (x + 2 ^ 32 - e) % 2 ^ 32
  if last = some x then (false, s.count 5 419 1)
  else if 2 ^ 31 ≤ d then (false, (s.count 5 417 1).raiseP p C.GST_STALE x 0 0)
  else
    let s := (s.count 5 416 1).count 5 418 d
    let s := if p = 0 then s.csTick e (d + 1) else s
    let s := s.takeTicks p (d + 1) e (s.gstNs p)
    (true, s.updPart p (fun y => { y with lastIndex := some x, lastTickNs := s.gstNs p, timedOut := false }))

/-- The follower's count is loaded from its first tick; later ticks adjust its rate and watch the held difference (R46 to R48). The count is loaded once after reset, also when ENABLE is set again. The ±20 ns of the held difference are measured from the first difference of the present run, also when the count locks again; the ±1 µs from the reference difference. GST_UNLOCKED carries the difference in VALUE. (DEDUCED, notes/assumptions/14.md; DESIGN CHOICE, notes/assumptions/67.md) -/
def State.discipline (s : State) (p rootNs : Nat) : State :=
  let x := s.part p
  if x.rootSeen = false then s.updPart p (fun x => { x with rootSeen := true, nsOff := (rootNs : Int) - (s.clk.ns : Int), run0 := 0, lockRun := 1 })
  else
    let (k, s) := s.freshNat
    let adj : Int := (k % 400001 : Nat) - 200000
    let diff : Int := (s.gstNs p : Int) - (rootNs : Int)
    let s := (s.updPart p (fun x => { x with adj := adj })).setF (F.GST_DISC_RATE_ADJ p) (unsint 32 adj)
    if s.getF (F.GST_DISC_LOCKED p) = 0 then
      let near := decide ((diff - x.run0).natAbs ≤ 20) && decide (0 < x.lockRun)
      let n := if near then x.lockRun + 1 else 1
      let s := s.updPart p (fun x => { x with run0 := if near then x.run0 else diff, lockRun := n, refDiff := if 16 ≤ n then some (x.refDiff.getD diff) else x.refDiff })
      if 16 ≤ n then s.setF (F.GST_DISC_LOCKED p) 1 else s
    else
      let off := diff - x.refDiff.getD 0
      if 1000 < off.natAbs then
        ((s.updPart p (fun x => { x with lockRun := 0 })).setF (F.GST_DISC_LOCKED p) 0).raiseP p C.GST_UNLOCKED 0 0 (unsint 32 off)
      else s

/-- The tick symbol sent to every port in CHILD_PORTS (R42, R44, R429). (DEDUCED, notes/assumptions/14.md) -/
def State.forwardTick (s : State) (index hops rootNs : Nat) : State :=
  { s with out := ⟨0, s.fab.childPorts, leBytes 1 1 ++ leBytes 1 hops ++ leBytes 2 0 ++ leBytes 4 index ++ leBytes 8 rootNs⟩ }

/-- Whether a period may be used by a root (R66). (DEDUCED, notes/assumptions/14.md) -/
def periodOk (n : Nat) : Bool := decide (50000 ≤ n) && decide (n ≤ 4000000000)

/-- GST_CTRL_WRITE (R42, R45, R51, R56, R66): ENABLE 0 leaves IDLE behind and forgets waiting ticks; setting it starts the indices anew; a root with a valid period issues from now on. (DEDUCED, notes/assumptions/13.md) -/
def doGstCtrlWrite (p v : Nat) (s : State) : State :=
  let was := s.getF (F.GST_CTRL_ENABLE p)
  let s := s.writeReg (D.GST_CTRL p) v
  let en := s.getF (F.GST_CTRL_ENABLE p)
  let root := s.getF (F.GST_CTRL_ROLE p) == 1
  let s := if en = 1 ∧ was = 0 then s.updPart p (fun x => { x with lastIndex := none, timedOut := false, lastTickNs := s.gstNs p, first := true }) else s
  let s := if en = 0 then
      let s := (s.updPart p (fun x => { x with ticks := [], startAt := none, held := false })).showPending p
      if s.inFrame p then s else (s.updPart p (fun x => { x with rerunArmed := false })).setFrameState p stIdle
    else s
  let x := s.part p
  let s := if en = 1 ∧ root then
      (if x.issuing then s
      else if periodOk (s.getF (F.GST_PERIOD_PERIOD_NS p)) then
        s.updPart p (fun x => { x with issuing := true, t0 := s.gstNs p, nextTick := s.gstNs p })
      else s)
    else s.updPart p (fun x => { x with issuing := false })
  (s.settleIdle p).answer 0 0

def execGstCtrlWrite (p : Fin 4) (val : Word) (s : State) : Host.Outcome State Fault Refusal := .next (doGstCtrlWrite p val.toNat s)

/-- The nanoseconds after which a partition's own count, now `now`, first reaches `target` at its present rate adjustment (R46, R47). -/
def Part.nsUntil (x : Part) (now target : Nat) : Nat :=
  if target ≤ now then 0
  else
    let rate : Int := 1000000000 + x.adj
    ((((target - now : Nat) : Int) * 1000000000 - x.adjRem + rate - 1) / rate).toNat

/-- GST_TICK_ISSUE: a root, or a standby root that took over, issues its next tick when its count reaches the time, and takes it itself (R42, R50). (DEDUCED, notes/assumptions/14.md) -/
def doGstTickIssue (p ns : Nat) (s : State) : State :=
  let x := s.part p
  let period := s.getF (F.GST_PERIOD_PERIOD_NS p)
  if x.issuing = false ∨ periodOk period = false then s
  else
    let s := s.toNs ns
    let s := s.advanceNs (x.nsUntil (s.gstNs p) x.nextTick)
    let i := (x.lastIndex.map (fun k => (k + 1) % 2 ^ 32)).getD 0
    let now := s.gstNs p
    let s := s.updPart p (fun x => { x with nextTick := x.nextTick + period })
    let (_, s) := s.acceptTick p i
    s.forwardTick i 0 now

def execGstTickIssue (p : Fin 4) (ns : Nat) (s : State) : Host.Outcome State Fault Refusal := .next (doGstTickIssue p ns s)

/-- A root that a tick from its parents reaches is a former root: another package issues the ticks now. It acts as a follower, and issues again only after a write of GST_CTRL (R51). A standby root that took over goes on issuing. (DESIGN CHOICE, notes/assumptions/67.md) -/
def State.formerRoot (s : State) (p : Nat) : State :=
  if s.getF (F.GST_CTRL_ROLE p) = 1 then s.updPart p (fun x => { x with issuing := false }) else s

/-- TICK_RECEIVE: a follower, a former root, or a standby root that has not taken over, takes a tick symbol on a parent port (R44, R45, R47, R48, R51, R52, R429). -/
def doTickReceive (p port index rootNs hops ns : Nat) (s : State) : State :=
  let s := s.toNs ns
  let s := if s.getF (F.GST_CTRL_ENABLE p) = 1 ∧ bit s.fab.parentPorts port then s.formerRoot p else s
  if s.getF (F.GST_CTRL_ENABLE p) = 0 ∨ (s.part p).issuing ∨ bit s.fab.parentPorts port = false then s
  else
    let i := index % 2 ^ 32
    let seen := (s.part p).rootSeen
    let s' := if seen then s else s.discipline p rootNs
    let (ok, s') := s'.acceptTick p i
    if ok = false then (s.acceptTick p i).2
    else
      let s' := if seen then s'.discipline p rootNs else s'
      if hops < 255 ∧ s'.fab.childPorts ≠ 0 then s'.forwardTick i (hops + 1) rootNs else s'

def execTickReceive (p : Fin 4) (port index rootNs hops ns : Nat) (s : State) : Host.Outcome State Fault Refusal :=
  .next (doTickReceive p port index rootNs hops ns s)

/-- Whether no tick came for 2 × GST_PERIOD of the package's own count after the last one, at `ns` (R49, R50). -/
def State.tickSilence (s : State) (p ns : Nat) : Bool :=
  let x := s.part p
  let period := s.getF (F.GST_PERIOD_PERIOD_NS p)
  s.getF (F.GST_CTRL_ENABLE p) == 1 && !x.issuing && x.lastIndex.isSome && decide (0 < period) && decide (x.lastTickNs + 2 * period ≤ (s.toNs ns).gstNs p)

/-- GST_TIMEOUT: raised once by a follower, or by a former root that acts as one (R49, R51). (DEDUCED, notes/assumptions/14.md) -/
def doGstTimeout (p ns : Nat) (s : State) : State :=
  if s.tickSilence p ns = false ∨ s.getF (F.GST_CTRL_ROLE p) = 2 ∨ (s.part p).timedOut then s
  else ((s.toNs ns).updPart p (fun x => { x with timedOut := true })).raiseP p C.GST_TIMEOUT 0 0 0

def execGstTimeout (p : Fin 4) (ns : Nat) (s : State) : Host.Outcome State Fault Refusal := .next (doGstTimeout p ns s)

/-- STANDBY_ROOT_TAKEOVER: a standby root becomes the root; its next tick comes when its own count reaches the last one's arrival plus 3 × GST_PERIOD (R50). -/
def doStandbyRootTakeover (p ns : Nat) (s : State) : State :=
  if s.tickSilence p ns = false ∨ s.getF (F.GST_CTRL_ROLE p) ≠ 2 then s
  else
    let s := s.toNs ns
    let x := s.part p
    let t := x.lastTickNs + 3 * s.getF (F.GST_PERIOD_PERIOD_NS p)
    ((s.updPart p (fun x => { x with issuing := true, t0 := t, nextTick := t })).setF (F.GST_ROOTS_ON_STANDBY p) 1).raiseP p C.GST_ROOT_CHANGE 0 0 0

def execStandbyRootTakeover (p : Fin 4) (ns : Nat) (s : State) : Host.Outcome State Fault Refusal := .next (doStandbyRootTakeover p ns s)

/-! Frame start (R53, R233, R241, R242, R246, R261). -/

/-- An armed switch makes the next bank active (R241). -/
def State.switchBank (s : State) (die : Nat) : State :=
  if s.getF (F.SCU_STATUS_SWITCH_ARMED die) = 0 then s
  else
    let s := s.setFs [(F.SCU_STATUS_ACTIVE_BANK die, 1 - s.activeBank die), (F.SCU_STATUS_SWITCH_ARMED die, 0), (F.SCU_STATUS_NEXT_VALID die, 0)]
    (s.compatBit die).planBits die

/-- PLAN_ID of an A-die's active bank as its SCU shows it (R253). -/
def State.planIdOf (s : State) (die : Nat) : Nat := s.getF (F.SCU_PLAN_PLAN_ID die (s.activeBank die))

/-- The plans of the partition's A-dies, and of the P-die's tables for partition 0, agree (R242, R261). -/
def State.plansAgree (s : State) (p : Nat) : Bool :=
  let ids := (s.diesOf p).map (fun n => s.planIdOf n)
  let a := ids.headD 0
  ids.all (fun i => i == a) && (p != 0 || ((s.sve.pick a).isSome && (s.cor.pick a).isSome && (s.pmc.pick a).isSome))

/-- An A-die's state of the frame at cycle 0 (R164, R228, R230, R352). -/
def ADie.fresh (d : ADie) : ADie :=
  { d with done := [], run := [], slipped := [], sig := [], cache := [], lastSlot := [], held := [], pend := [], linkLast := [], hitUse := [], spmReq := [], spmColl := false, faultSeen := false, qload := none }

/-- A partition's state of the frame at cycle 0. -/
def Part.fresh (x : Part) (cycle0 len dark : Nat) (rerun : Bool) : Part :=
  { x with
    cycle0 := cycle0, len := len, dark := dark, startAt := none, late := false, held := false, first := false, jobStepSet := false
    rerunArmed := false, rerun := rerun, stopAfter := false, abortAt := none, failedAt := none, failDie := 0, committed := false
    overrunSeen := false, retrySeen := false, slipSeen := false, slip := 0, outs := [], deps := [], depsIn := [], lateSeen := [], portsDone := [] }

/-- The SCUs at cycle 0: status bits, reruns, counters (R233, R246, R247, R499). -/
def State.scuStart (s : State) (p j : Nat) (rerun : Bool) : State :=
  (s.diesOf p).foldl (fun (s : State) (n : Nat) =>
    let s := s.updDie n ADie.fresh
    let s := s.setFs [(F.SCU_STATUS_COMMITTED n, 0), (F.SCU_STATUS_RERUN n, b2n rerun), (F.SCU_STEP_JOB_STEP n, j),
      (F.SCU_STATUS_RERUNS n, if rerun then s.getF (F.SCU_STATUS_RERUNS n) + 1 else 0)]
    let s := s.count n 4 1
    let s := if rerun then s.count n 6 1 else s
    s.expoStart n rerun) s

/-- The F-die, the P-die tables and the doorbells at cycle 0 (R246, R261, R419, R421, R444, R552). -/
def State.restStart (s : State) (p j : Nat) (rerun : Bool) : State :=
  let s : State := { s with fab := { s.fab with refused := [], early := false, saturated := [], replayed := s.fab.replayed.filter (fun x => decide (x.1 < 4096)) } }
  let s := ((s.rollFences p j rerun).rollSeqs p rerun).rollTots p
  let s := s.settleFences
  let bells := (s.part p).doorbells
  let s := (s.setF (F.HOST_RING_RING p) bells).updPart p (fun x => { x with
    doorbells := 0, deps := x.deps ++ ((List.range 64).filter (fun d => bit bells d)).map (fun d => ⟨8, d, 0, 0, 0⟩) })
  if p = 0 then
    let a := s.planIdOf ((s.diesOf 0).headD 0)
    let go := fun (s : State) (k : SeqId) => s.updSeq k (fun q => q.fresh ((q.pick a).getD none))
    go (go (go s .sve) .cor) .pmc
  else s

/-- FRAME_START: cycle 0 of the next frame of partition `p` (R53, R54, R233, R242, R246). The flags of FRAME_STATUS stay set until software clears them, while FRAME_STEP names the new frame (R66). (DESIGN CHOICE, notes/assumptions/67.md) -/
def doFrameStart (p : Nat) (s : State) : State :=
  let x := s.part p
  match x.startAt, x.ticks with
  | some c, (index, arrival) :: rest =>
    if s.aclk = 0 ∨ s.darkOf p ≠ [] then s
    else
      let s := s.advanceCyc (c - s.clk.cyc)
      let s := (s.diesOf p).foldl (fun (s : State) (n : Nat) => s.switchBank n) s
      if s.plansAgree p = false then
        let s := (s.updPart p (fun x => { x with ticks := rest, startAt := none, held := false, late := false, rerunArmed := false })).showPending p
        (s.setFrameState p stStopped).raiseP p C.FRAME_PLAN_MISMATCH 0 0 0
      else
        let rerun := x.rerunArmed
        let now := s.jobStep p
        let j := if rerun ∨ x.jobStepSet ∨ x.first then now else (now + 1) % 2 ^ 32
        let s := s.updPart p (fun x => { x with ticks := rest }.fresh c (s.getF (F.FRAME_LEN_LEN p)) (s.darkLen p) rerun)
        let s := (s.setFs [(F.GST_STEP_STEP p, index), (F.GST_TICK_NS_ARRIVAL p, arrival), (F.FRAME_STATUS_FRAME_STEP p, index)]).showPending p
        let s := if x.late then s.hwSet (F.FRAME_STATUS_LATE_START p) 1 else s
        let s := (((s.scuStart p j rerun).restStart p j rerun).setFrameState p stRunning).trimHist
        if rerun then s.raiseP p C.FRAME_RERUN 0 0 0 else s
  | _, _ => s

def execFrameStart (p : Fin 4) (s : State) : Host.Outcome State Fault Refusal := .next (doFrameStart p s)

/-! The close (R57 to R64, R81, R82). -/

/-- Whether every command, problem, core program and transfer of the frame has completed (R57). -/
def State.allDone (s : State) (p : Nat) : Bool :=
  (s.diesOf p).all (fun n => (s.die n).run.isEmpty && (!(s.abank n).valid || (s.die n).done.length == (s.abank n).cmds.length))
    && (p != 0 || [SeqId.sve, SeqId.cor, SeqId.pmc].all (fun k => (s.seq k).run.isEmpty && (s.seq k).done.length == (s.seq k).table.length))

/-- The cycle of the last completion (R57). -/
def State.lastDone (s : State) (p : Nat) : Nat :=
  let m := (s.diesOf p).foldl (fun (m : Nat) (n : Nat) => (s.die n).done.foldl (fun (m : Nat) (x : DoneCmd) => max m x.cyc) m) 0
  if p = 0 then [SeqId.sve, SeqId.cor, SeqId.pmc].foldl (fun (m : Nat) (k : SeqId) => (s.seq k).done.foldl (fun (m : Nat) (x : Nat × Nat) => max m x.2) m) m else m

/-- A sequencer's completion in cycle `c`, as (KIND of R223, number). -/
def State.seqLast (s : State) (k : SeqId) (kind c : Nat) : Option (Nat × Nat) :=
  ((s.seq k).done.find? (fun x => x.2 == c)).map (fun x => (kind, ((s.seq k).table[x.1]?).elim 0 (fun e => e.num)))

/-- The command of an A-die that completed in cycle `c`, as (KIND 2 of R223, die and index as its operand holds them). -/
def State.dieLast (s : State) (c n : Nat) : Option (Nat × Nat) := ((s.die n).done.find? (fun x => x.cyc == c)).map (fun x => (2, n * 2 ^ 26 + x.idx))

/-- The condition of R57 met last, at cycle `c`: the KIND of R223 and the number of a completion in that cycle, and whether it lies outside the promise. Among several, one outside the promise comes first, the first of them in the order of completion rows; then a problem, a transfer and a command (R81). (DESIGN CHOICE, notes/assumptions/67.md) -/
def State.closeCond (s : State) (p c : Nat) : Bool × Nat × Nat :=
  match (s.part p).outs.find? (fun o => o.2.2 == c) with
  | some (kind, num, _) => (true, kind, num)
  | none =>
    let seqs := if p = 0 then (s.seqLast .sve 4 c).orElse (fun _ => s.seqLast .pmc 5 c) else none
    (false, (seqs.orElse (fun _ => (s.diesOf p).findSome? (s.dieLast c))).getD (0, 0))

/-- The close in cycle `c` records its last condition; CLOSE_OUTSIDE when that lies outside the promise, once; otherwise CLOSE_DEVIATION, with the close cycle in VALUE, LOCATION and KIND 0 (R81, R82). (DESIGN CHOICE, notes/assumptions/67.md) -/
def State.closeReports (s : State) (p c : Nat) : State :=
  let x := s.part p
  let expect := s.getF (F.FRAME_EXPECT_EXPECT p)
  let by_ := s.closeCond p c
  let s := s.updPart p (fun x => { x with closeBy := some by_.2 })
  if by_.1 then s.raiseP p C.CLOSE_OUTSIDE by_.2.2 by_.2.1 c
  else if expect ≠ 0 ∧ c ≠ expect ∧ x.retrySeen = false ∧ x.slipSeen = false then
    (s.hwSet (F.FRAME_STATUS_DEVIATION p) 1).raiseP p C.CLOSE_DEVIATION 0 0 c
  else s

/-- What follows the close in cycle `c`: a held start, STOPPED, the dark interval, or its end (R58 to R60, R63, R64); `x`, `en` and `ovr` are the partition, ENABLE and OVR_POLICY at the close. -/
def State.afterClose (s : State) (p c : Nat) (x : Part) (en ovr : Nat) : State :=
  let top := x.len - x.dark
  let skip := fun (s : State) => if x.len ≤ c then s.darkSkipped p x.dark else if top < c then s.darkSkipped p (c - top) else s
  if en = 0 then (skip s).setFrameState p stIdle
  else if x.ticks ≠ [] ∧ ovr = 0 then
    ((s.darkSkipped p x.dark).setFrameState p (if x.len ≤ c then stWaitTick else stDark)).startFrameAt p (x.cycle0 + c + 1) true true
  else if x.ticks ≠ [] then (skip s).setFrameState p stStopped
  else if x.len ≤ c then (skip s).enterWait p
  else (skip s).setFrameState p stDark

/-- FRAME_CLOSE: every condition of R57 is met; no cycle comes while the clock is stopped (R377). (DEDUCED, notes/assumptions/13.md) -/
def doFrameClose (p : Nat) (s : State) : State :=
  if s.aclk = 0 ∨ s.frameState p ≠ stRunning ∨ s.allDone p = false then s
  else
    let c := s.lastDone p
    let x := s.part p
    let en := s.getF (F.GST_CTRL_ENABLE p)
    let ovr := s.getF (F.GST_CTRL_OVR_POLICY p)
    let s := s.toCyc p c
    let s := s.setFs [(F.FRAME_CLOSE_CLOSE_CYCLE p, c), (F.FRAME_CLOSE_SLIP_CYCLES p, x.slip), (F.DARK_STATUS_PIECES, 0)]
    let s := (s.closeReports p c).countDies p 5 1
    let s := (s.diesOf p).foldl (fun (s : State) (n : Nat) => s.expoEnd n) s
    (s.afterClose p c x en ovr).applyDeferred p

def execFrameClose (p : Fin 4) (s : State) : Host.Outcome State Fault Refusal := .next (doFrameClose p s)

/-- FRAME_LEN_REACHED: a closed frame at offset FRAME_LEN enters WAIT_TICK (R60). -/
def doFrameLenReached (p : Nat) (s : State) : State :=
  if s.aclk = 0 ∨ s.frameState p ≠ stDark ∨ (s.part p).startAt.isSome ∨ s.darkOf p ≠ [] then s
  else (s.toCyc p (s.part p).len).enterWait p

def execFrameLenReached (p : Fin 4) (s : State) : Host.Outcome State Fault Refusal := .next (doFrameLenReached p s)

/-- FRAME_RESUME: in STOPPED, PENDING clears and ticks are awaited; ignored otherwise (R64). -/
def doFrameResume (p : Nat) (s : State) : State :=
  if s.frameState p ≠ stStopped then s.answer 0 0
  else (((s.updPart p (fun x => { x with ticks := [], startAt := none, held := false })).showPending p).enterWait p).answer 0 0

def execFrameResume (p : Fin 4) (s : State) : Host.Outcome State Fault Refusal := .next (doFrameResume p s)

/-! The drain of a failed frame (R244 to R246, R250). -/

/-- The A-die whose SCU_CTRL decides a rerun: the one that faulted, or the partition's lowest (R244). -/
def State.failedDie (s : State) (p : Nat) : Nat :=
  let f := (s.part p).failDie
  if f < 4 ∧ s.partOf f = p then f else (s.diesOf p).headD 0

/-- The code of the first condition for a rerun that fails; 0 when a rerun is armed, none when FAIL_POLICY is STOP (R244). (DEDUCED, notes/assumptions/12.md) -/
def State.rerunCode (s : State) (p : Nat) : Option Nat :=
  let n := s.failedDie p
  if s.getF (F.SCU_CTRL_FAIL_POLICY n) = 1 then none
  else if (s.part p).committed then some C.FRAME_UNRERUNNABLE
  else if s.getF (F.SCU_CTRL_RERUN_MAX n) ≤ s.getF (F.SCU_STATUS_RERUNS n) then some C.FRAME_RERUN_EXHAUSTED
  else some 0

/-- FRAME_DRAINED: the last started command of a failed frame has completed (R244, R250, R328). -/
def doFrameDrained (p : Nat) (s : State) : State :=
  if s.aclk = 0 ∨ s.frameState p ≠ stFailed then s
  else
    let s := if p = 0 ∧ (s.part p).abortAt.isSome then s.stopCores else s
    if s.anyRun p ∨ (p = 0 ∧ !(s.sve.run.isEmpty && s.cor.run.isEmpty && s.pmc.run.isEmpty)) then s
    else
      let x := s.part p
      let s := s.darkSkipped p x.dark
      let s := (s.diesOf p).foldl (fun (s : State) (n : Nat) => (s.setF (F.SCU_STATUS_SWITCH_ARMED n) 0).expoEnd n) s
      let code := s.rerunCode p
      let arm := code == some 0 && !x.stopAfter
      let s := s.updPart p (fun x => { x with rerunArmed := arm })
      let s := if x.stopAfter then s.setFrameState p stStopped
        else match code with
          | some 0 =>
            if s.getF (F.GST_CTRL_ENABLE p) = 0 then (s.updPart p (fun x => { x with rerunArmed := false })).setFrameState p stIdle
            else if x.ticks = [] then s.enterWait p
            else (s.setFrameState p stWaitTick).startFrameAt p (s.clk.cyc + 1) true true
          | some c => (s.setFrameState p stStopped).raiseP p c 0 0 0
          | none => s.setFrameState p stStopped
      s.applyDeferred p

def execFrameDrained (p : Fin 4) (s : State) : Host.Outcome State Fault Refusal := .next (doFrameDrained p s)

end Sys2Proof.Machine
end

