-- ==== Sys2Proof/Machine/Boot.lean ====
section
/-! DEFINITION. Resets, the stages of a start, Darkroom mode, standby and the I3C target (R528 to R541, R547, R553, R584 to R587, R602 to R612). -/
namespace Sys2Proof.Machine

/-! The counter page (R536). -/

/-- A record of the counter page: its slot, RSEQ, ATTEMPTS and REASON. -/
structure CtrRec where
  slot : Nat
  seq : Nat
  attempts : Nat
  reason : Nat
deriving DecidableEq, Repr

/-- The record in a slot, when its CRC and its zero bytes hold. -/
def State.counterAt (s : State) (i : Nat) : Option CtrRec :=
  let b := s.nvmRead (nvmCounter + 16 * i) 16
  if fieldAt b 12 4 = crcOf 0 (b.take 12) ∧ zeroAt b 5 1 = true ∧ zeroAt b 8 4 = true then some ⟨i, fieldAt b 0 4, fieldAt b 4 1, fieldAt b 6 2⟩ else none

/-- The current record: the valid one of highest RSEQ. (DEDUCED, notes/assumptions/48.md) -/
def State.counterNow (s : State) : Option CtrRec :=
  ((s.nvmUsed nvmCounter 0x10000 16).filterMap s.counterAt).foldl (fun (x : Option CtrRec) (r : CtrRec) => if x.all (fun y => decide (y.seq < r.seq)) then some r else x) none

/-- ATTEMPTS and REASON; a page with no valid record reads as 3 and BOOT_NVM_READ. -/
def State.attempts (s : State) : Nat × Nat := (s.counterNow).elim (3, C.BOOT_NVM_READ) (fun r => (r.attempts, r.reason))

/-- Append a record with RSEQ + 1; a full half makes the other half the current one, erased first. BOOT_STATUS follows (R567). (DEDUCED, notes/assumptions/48.md) -/
def State.writeCounter (s : State) (a r : Nat) : State :=
  let used := s.nvmUsed nvmCounter 0x10000 16
  let (s, slot, seq) := match s.counterNow with
    | none => (s.nvmErase nvmCounter 0x8000, 0, 1)
    | some x =>
      let h := x.slot / 2048
      (match (List.range 2048).find? (fun (i : Nat) => decide (x.slot < 2048 * h + i) && !(used.contains (2048 * h + i))) with
        | some i => (s, 2048 * h + i, x.seq + 1)
        | none => (s.nvmErase (nvmCounter + (1 - h) * 0x8000) 0x8000, 2048 * (1 - h), x.seq + 1))
  let b := leBytes 4 seq ++ leBytes 1 a ++ leBytes 1 0 ++ leBytes 2 r ++ leBytes 4 0
  (s.nvmWrite (nvmCounter + 16 * slot) (b ++ leBytes 4 (crcOf 0 b))).setFs [(F.BOOT_STATUS_ATTEMPTS, a), (F.BOOT_STATUS_REASON, r)]

/-! Resets (R14, R605). -/

/-- A package reset: every register takes its reset value, memory contents are lost, and the part, the boot NVM, the CSM, the pins, the always-on repair book state and the test port stay (R573, R605). A write of the boot NVM in progress is torn (R562, R587). (DESIGN CHOICE, notes/assumptions/8.md; DESIGN CHOICE, notes/assumptions/49.md) -/
def State.resetPackage (s : State) : State :=
  let torn := fun (k : Nat) => s.boot.tickets.any (fun t => t.kind == k && t.state == 0)
  let nvm := if torn 1 then s.nvm.filter (fun c => decide (4096 ≤ c.1)) else s.nvm
  let nvm := if torn 2 then nvm.filter (fun c => !(decide (nvmCal ≤ c.1) && decide (c.1 < nvmCal + 0x10000))) else nvm
  let aon := if s.boot.sbyok then some (s.getF F.RB_STATUS_RSEQ + s.getF F.RB_STATUS_DIRTY, s.bookState) else none
  let t : State := { State.reset with
    pending := s.pending
    fused := s.fused
    nvm := nvm
    csm := s.csm
    free := s.free
    tap := s.tap
    undef := s.undef
    mem := s.mem.filter (fun c => decide (t3Base ≤ c.1) && decide (c.1 < 0x70000000000))
    boot := { Boot.reset with
      pwrok := s.boot.pwrok
      sbyok := s.boot.sbyok
      cut := s.boot.cut
      straps := s.boot.straps
      ibiTrip := s.boot.ibiTrip
      ibiDark := s.boot.ibiDark
      pinsLow := s.boot.pinsLow }
    svc := { State.reset.svc with aon := aon, event := s.svc.event } }
  let t := [0, 1, 2, 3, 4, 5, 6, 7, 8].foldl (fun (t : State) (r : Nat) => t.loseMem r) t
  let t := aon.elim t (fun x => t.applyBook x.2)
  t.allSlots.setFs [(F.PKG_ID_GRADE, s.fused.grade), (F.PKG_ID_STEPPING, s.fused.stepping), (F.PKG_ID_ACLK_NOM, aclkOf s.fused.grade 0),
    (F.TH_STATUS_ACLK, aclkOf s.fused.grade 0), (F.BOOT_STATUS_FUSE_SVN, s.fused.svn), (F.BOOT_STATUS_OWNED, b2n s.fused.owner.isSome),
    (F.RB_STATUS_RSEQ, s.getF F.RB_STATUS_RSEQ), (F.RB_STATUS_FREE, s.getF F.RB_STATUS_FREE), (F.RB_STATUS_HALF, s.getF F.RB_STATUS_HALF)]

/-! Sections (R531 to R533). -/

/-- The firmware section's own fields: SVN and whether the sizes hold. -/
def fwFormat (fw : List Byte) : Bool :=
  fieldAt fw 0 2 == 0x010E && decide (fieldAt fw 2 2 ≤ 64) && decide (1 ≤ fieldAt fw 4 4) && decide (fieldAt fw 4 4 ≤ 4194304)
    && decide (1 ≤ fieldAt fw 8 4) && decide (fieldAt fw 8 4 ≤ 16777216) && zeroAt fw 12 52 && decide (64 + fieldAt fw 4 4 + fieldAt fw 8 4 + 4627 ≤ fw.length)

/-- Stage 2: 0, or the failure reason (R534). (DEDUCED, notes/assumptions/48.md) -/
def State.checkFirmware (s : State) (fw : List Byte) : Nat × State :=
  if fieldAt fw 2 2 < s.fused.svn then (C.BOOT_FW_ROLLBACK, s)
  else if !(fwFormat fw) then (C.BOOT_FW_SIGNATURE, s)
  else
    let n := fw.length - 4627
    let (ok, s) := s.verify Config.rootPub (fw.take n) (fw.drop n)
    (if ok then 0 else C.BOOT_FW_SIGNATURE, s)

/-- Partition entry `i` of a configuration (R532). -/
def cfgPart (c : List Byte) (i : Nat) : PartCfg :=
  let o := 2688 + 64 * i
  ⟨fieldAt c o 1 == 1, fieldAt c (o + 1) 1, fieldAt c (o + 2) 1, fieldAt c (o + 4) 4 % 2 ^ 28, fieldAt c (o + 8) 8, fieldAt c (o + 16) 8, fieldAt c (o + 24) 8, fieldAt c (o + 32) 8⟩

/-- Host entry `h` of a configuration (R532). -/
def cfgHost (c : List Byte) (h : Nat) : HostEntry := ⟨fieldAt c (2944 + 2688 * h) 1, fieldAt c (2945 + 2688 * h) 1, slice c (2944 + 2688 * h + 64) 2592⟩

/-- Pairwise property of a list. -/
def allPairs {α : Type} (f : α → α → Bool) : List α → Bool
  | [] => true
  | x :: r => r.all (f x) && allPairs f r

/-- Whether two ranges share no byte. -/
def rangesApart (a n b m : Nat) : Bool := n == 0 || m == 0 || decide (a + n ≤ b) || decide (b + m ≤ a)

/-- R533, with the field ranges of R532. -/
def cfgValid (c : List Byte) : Bool :=
  let n := fieldAt c 2 2
  let ps := (List.range n).map (cfgPart c)
  let gib := fun (x : Nat) => x % 0x40000000 == 0
  decide (1 ≤ n) && decide (n ≤ 4) && decide (fieldAt c 8 1 ≤ 48) && decide (1 ≤ fieldAt c 9 1) && decide (fieldAt c 9 1 ≤ 4)
    && ps.all (fun p => p.valid && [1, 2, 4, 8, 3, 0xC, 0xF].contains p.adies && gib p.t2Base && gib p.t2Size && gib p.t3Base && gib p.t3Size && p.nics != 0)
    && zeroAt c (2688 + 64 * n) (64 * (4 - n))
    && allPairs (fun a b => a.adies &&& b.adies == 0 && a.nics &&& b.nics == 0 && a.node != b.node
        && rangesApart a.t2Base a.t2Size b.t2Base b.t2Size && rangesApart a.t3Base a.t3Size b.t3Base b.t3Size) ps
    && ps.foldl (fun (m : Nat) (p : PartCfg) => m ||| p.adies) 0 == 0xF && bit ((ps.headD (cfgPart c 0)).adies) 0
    && (List.range (fieldAt c 9 1)).all (fun (h : Nat) => decide ((cfgHost c h).part < n))

/-- Stage 3: 0, or the failure reason (R534, R537). (DEDUCED, notes/assumptions/48.md) -/
def State.checkConfig (s : State) (c : List Byte) : Nat × State :=
  let pub := slice c 64 2592
  if s.fused.owner.any (fun d => d != sha3_512 pub) then (C.BOOT_CONFIG_SIGNATURE, s)
  else
    let (ok, s) := s.verify pub (c.take 13696) (slice c 13696 4627)
    if !ok then (C.BOOT_CONFIG_SIGNATURE, s)
    else if c.length ≠ 18323 ∨ fieldAt c 0 2 ≠ 0x020E ∨ cfgValid c = false then (C.BOOT_CONFIG_INVALID, s) else (0, s)

/-- CFG_BYTES and FW_BYTES of a directory, none when it is not one (R530). -/
def dirSizes (d : List Byte) : Option (Nat × Nat) :=
  let c := fieldAt d 8 4
  let f := fieldAt d 12 4
  if fieldAt d 0 4 = 0x4E565A53 ∧ fieldAt d 4 2 = 0x000E ∧ c ≤ 0x100000 ∧ f ≤ 60 * 0x100000 then some (c, f) else none

/-- Stages 2 and 3 on a directory, a configuration and a firmware section read by `rd` (from which bytes of each area): the first reason. -/
def State.checkImage (s : State) (dir : List Byte) (cfg fw : Nat → List Byte) : Nat × State :=
  match dirSizes dir with
  | none => (C.BOOT_NVM_READ, s)
  | some (c, f) =>
    let (r, s) := s.checkFirmware (fw f)
    if r ≠ 0 then (r, s) else s.checkConfig (cfg c)

/-! The stages of a start (R534). -/

/-- A failed start: its reason is written, and the package restarts 1 s later (R535). (DEDUCED, notes/assumptions/48.md) -/
def State.bootFail (s : State) (code : Nat) : State :=
  let s := s.writeCounter (s.attempts).1 code
  { s with boot := { s.boot with starting := false, stalled := false, failed := code } }

/-- Entry to Darkroom mode (R539, R547). -/
def State.darkroom (s : State) : State :=
  ({ s with dr := Dr.idle, boot := { s.boot with starting := false, stalled := false, failed := 0, ibiDark := s.boot.ibiDark + 1 } }).setF F.BOOT_STATUS_MODE 2

/-- Stage 4: the identity certificate and the current repair book record; none when they fail. (DEDUCED, notes/assumptions/48.md) -/
def State.checkService (s : State) : Option (Nat × Nat) × State :=
  let c := s.nvmRead nvmService 7227
  let (ok, s) := s.verify Config.rootPub (c.take 2600) (slice c 2600 4627)
  if !ok ∨ slice c 8 2592 ≠ idPub then (none, s)
  else ({ s with boot := { s.boot with cert := c } }).currentRecord

/-- A range cut back to the installed bytes (R533). (DESIGN CHOICE, notes/assumptions/49.md) -/
def cutRange (base size cap : Nat) : Nat := min size (cap - base)

/-- Stage 6, the partitions: ownership, nodes and ranges (R532, R533, R548, R549). -/
def State.applyConfig (s : State) (c : List Byte) (t3Gb : Nat) : State :=
  let n := fieldAt c 2 2
  let gb := fieldAt c 8 1
  let ps := (List.range 4).map (fun (i : Nat) =>
    let p := cfgPart c i
    { p with t2Size := cutRange p.t2Base p.t2Size (gb * 32000000000), t3Size := cutRange p.t3Base p.t3Size (t3Gb * 1000000000) })
  let ownerOf := fun (f : PartCfg → Nat) (k : Nat) => ((List.range n).find? (fun (i : Nat) => (ps[i]?).any (fun p => bit (f p) k))).getD 0
  let s := { s with
    cfg := ps
    owner := [0, 1, 2, 3].map (ownerOf (fun p => p.adies))
    nicOwner := (List.range 8).map (ownerOf (fun p => p.nics))
    boot := { s.boot with
      hosts := (List.range (fieldAt c 9 1)).map (cfgHost c)
      cfgSeq := fieldAt c 4 4
      ownerPub := slice c 64 2592
      cfgDigest := sha3_512 c } }
  let s := (ps.zipIdx).foldl (fun (s : State) (x : PartCfg × Nat) => s.setFs [(F.FAB_NODE_VALID x.2, b2n x.1.valid), (F.FAB_NODE_NODE x.2, x.1.node)]) s
  s.setFs [(F.T2_CAP_GB_PER_CHANNEL, gb), (F.HOSTPORT_STATUS_LDS, (ps.zipIdx).foldl (fun (m : Nat) (x : PartCfg × Nat) => if x.1.valid then m + 2 ^ x.2 else m) 0)]

/-- Stage 6, the repair book: the record's state, or a newer one of the always-on SRAM, which is then written; a half with fewer than 32 free blocks gives way to the other; retirements roll back (R574, R584). -/
def State.applyService (s : State) (blk seq : Nat) : State :=
  let h := blk / 123
  let own := s.nvmRead (nvmBook + 8192 * blk + 64) 2048
  let (b, newer, seq) := match s.svc.aon with
    | some (q, x) => if seq < q then (x, true, q - 1) else (own, false, seq)
    | none => (own, false, seq)
  let s := (s.applyBook b).setFs [(F.RB_STATUS_RSEQ, seq), (F.RB_STATUS_HALF, h), (F.RB_STATUS_FREE, (s.freeBlocks h).length), (F.RB_STATUS_DIRTY, 0)]
  let s := (List.range 12).foldl (fun (s : State) (i : Nat) =>
    let pc := fieldAt b (1024 + i) 1
    let r := fieldAt b (1036 + i) 1
    if pc = 0xFF ∨ 32 ≤ pc ∨ 32 ≤ r then s
    else
      let x : BringIn := ⟨4, i / 3, i % 3, pc, r, false, 0, 0⟩
      (({ s with bringIn := s.bringIn ++ [x] } : State).setFs
        [(F.HBM_STATUS_MIGRATING (i / 3) (i % 3), 0), (F.HBM_RETIRE_PIECES_DONE (i / 3) (i % 3), 0)]).raise C.HBM_RETIRE_ROLLED_BACK (i / 3) (8 + i % 3) pc 0 0) s
  if (s.freeBlocks h).length < 32 then (s.nvmErase (nvmBook + (1 - h) * 123 * 8192) (123 * 8192)).writeRecord (1 - h)
  else if newer then s.writeRecord h else s

/-- Stage 6, the calibration set (R585 to R587): applied when its signature verifies, else the ROM defaults. -/
def State.applyCal (s : State) : State :=
  let c := s.nvmRead nvmCal 65536
  let (ok, s) := if fieldAt c 0 2 = 0x020F then s.verify idPub (c.take 60909) (slice c 60909 4627) else (false, s)
  if ok then ({ s with svc := { s.svc with cal := c } }).setFs [(F.CAL_STATUS_VALID, 1), (F.CAL_STATUS_SOURCE, fieldAt c 2 2), (F.CAL_STATUS_CAL_SEQ, fieldAt c 4 4)]
  else ({ s with svc := { s.svc with cal := [] } }).setFs [(F.CAL_STATUS_VALID, 0), (F.CAL_STATUS_SOURCE, 2), (F.CAL_STATUS_CAL_SEQ, 0)] |>.raise C.CAL_INVALID 6 1 0 0 0

/-- Stage 6, the host, T3 and CSM ports and the pins (R553, R610). -/
def State.trainPorts (s : State) (env : StartEnv) : State :=
  let (w, r) := env.host
  let (tw, tr, tg) := env.t3
  let s := s.setFs [(F.HOSTPORT_STATUS_WIDTH, w), (F.HOSTPORT_STATUS_RATE, r), (F.HOSTPORT_STATUS_UP, b2n (decide (w ≠ 0))),
    (F.T3PORT_STATUS_WIDTH, tw), (F.T3PORT_STATUS_RATE, tr), (F.T3PORT_STATUS_UP, b2n (decide (tw ≠ 0))), (F.T3PORT_STATUS_MAPPED_GB, if tw = 0 then 0 else min tg 2304)]
  let s := match env.csm with
    | none => s.setFs [(F.CSMPORT_STATUS_PRESENT, 0), (F.CSMPORT_STATUS_NVME_READY, 0), (F.CSM_LBS_LBS, 0)]
    | some (cw, cr, lbs) => s.setFs [(F.CSMPORT_STATUS_PRESENT, 1), (F.CSMPORT_STATUS_WIDTH, cw), (F.CSMPORT_STATUS_RATE, cr), (F.CSMPORT_STATUS_UP, b2n (decide (cw ≠ 0))),
        (F.CSMPORT_STATUS_NVME_READY, b2n (decide (cw ≠ 0) && lbs.isSome)), (F.CSM_LBS_LBS, if cw = 0 then 0 else lbs.getD 0)]
  { s with boot := { s.boot with pinsLow := false } }

/-- Stage 6, the laser source: ENABLE for every channel, then SET_POWER for each from the calibration set (R616). (DESIGN CHOICE, notes/assumptions/50.md) -/
def State.laserStart (s : State) : State :=
  { s with
    lsc := { s.lsc with queue := (1, 0xFFFF, 0) :: (List.range 288).map (fun (k : Nat) => (3, k, Config.freeNat (s.free + k) % 65536)) }
    free := s.free + 288 }

/-- Stage 7: ATTEMPTS 0, MODE RUNNING, the owner claim, and the entry about earlier failed starts (R534, R537, R538). -/
def State.bootDone (s : State) (att reason : Nat) : State :=
  let s := s.writeCounter 0 0
  let s := { s with
    fused := { s.fused with owner := some (s.fused.owner.getD (sha3_512 s.boot.ownerPub)) }
    boot := { s.boot with starting := false, stalled := false, failed := 0 } }
  let s := s.setFs [(F.BOOT_STATUS_MODE, 1), (F.BOOT_STATUS_OWNED, 1)]
  if 1 < att then s.raiseC (classOf C.BOOT_TIMEOUT) reason 6 1 0 0 0 false else s

/-- The stages of a start from stage 1 on (R534). (DESIGN CHOICE, notes/assumptions/8.md) -/
def State.runStart (s : State) (env : StartEnv) : State :=
  let s := { s with boot := { s.boot with starting := true, failed := 0 } }
  let (att, r) := s.attempts
  let reason := if s.boot.cut then C.BOOT_RESET_IN_START else r
  let cut := s.boot.cut
  let s := { s with boot := { s.boot with cut := false } }
  if 3 ≤ att then (if cut then s.writeCounter att reason else s.setFs [(F.BOOT_STATUS_ATTEMPTS, att), (F.BOOT_STATUS_REASON, r)]).darkroom
  else
    let s := s.writeCounter (att + 1) reason
    let fw := fun (n : Nat) => s.nvmRead nvmFirmware n
    let cfg := fun (n : Nat) => s.nvmRead nvmConfig n
    let dir := s.nvmRead nvmDir 4096
    let (code, s) := s.checkImage dir cfg fw
    if code ≠ 0 then s.bootFail code
    else
      let (c, f) := (dirSizes dir).getD (0, 0)
      let (sv, s) := s.checkService
      match sv with
      | none => s.bootFail C.BOOT_SERVICE_INVALID
      | some (blk, seq) =>
        let s := ({ s with boot := { s.boot with fwDigest := sha3_512 (fw f) } }).setF F.BOOT_STATUS_FW_SVN (fieldAt (fw f) 2 2)
        if env.fails then s.bootFail C.BOOT_SELFTEST
        else
          let s := (s.applyConfig (cfg c) (if env.t3.1 = 0 then 0 else min env.t3.2.2 2304)).applyService blk seq
          let s := env.found.foldl (fun (s : State) (x : Nat × Nat × Nat × Nat) => s.spareAtStart x.1 (x.2.1 % (if x.1 = 7 then 6 else 4)) x.2.2.1 x.2.2.2) s
          let s := s.setFs ((List.range 30).map (fun (i : Nat) => (F.SLINK_STATUS_UP (i / 5) (i % 5), 1)))
          let s := (((s.applyCal).trainPorts env).laserStart).allSlots
          if env.stalls then { s with boot := { s.boot with stalled := true } } else s.bootDone att reason

/-- PWROK_RISE: with SBYOK high, and PWROK low or a reset not yet followed by a start (R534, R603). (DESIGN CHOICE, notes/assumptions/8.md) -/
def doPwrokRise (env : StartEnv) (s : State) : State :=
  if s.boot.sbyok = false ∨ (s.boot.pwrok ∧ (s.boot.starting = false ∨ s.boot.stalled)) then s
  else ({ s with boot := { s.boot with pwrok := true } }).runStart env

def execPwrokRise (env : StartEnv) (s : State) : Host.Outcome State Fault Refusal := .next (doPwrokRise env s)

/-- BOOT_TIMEOUT: 30 s after PWROK rose, stage 7 was not reached (R535). -/
def doBootTimeout (s : State) : State :=
  if s.boot.pwrok ∧ s.boot.starting then (s.advanceNs 30000000000).bootFail C.BOOT_TIMEOUT else s

def execBootTimeout (s : State) : Host.Outcome State Fault Refusal := .next (doBootTimeout s)

/-- INTERNAL_RESTART: 1 s after a failed start (R535, R605). -/
def doInternalRestart (env : StartEnv) (s : State) : State :=
  if s.boot.failed = 0 ∨ s.boot.pwrok = false then s else (s.resetPackage).runStart env

def execInternalRestart (env : StartEnv) (s : State) : Host.Outcome State Fault Refusal := .next (doInternalRestart env s)

/-- PWROK has been low for 100 ns: main domains reset, pins low, a start in progress ended (R535, R604, R605). -/
def State.powerFall (s : State) : State :=
  let s := { s with boot := { s.boot with cut := s.boot.cut || s.boot.starting, pwrok := false, pinsLow := true } }
  let s := s.resetPackage
  { s with boot := { s.boot with starting := false } }

/-- PWROK_FALL (R604). -/
def doPwrokFall (s : State) : State := if s.boot.pwrok then s.powerFall else s

def execPwrokFall (s : State) : Host.Outcome State Fault Refusal := .next (doPwrokFall s)

/-- SBYOK_RISE: the straps are sampled (R602). -/
def doSbyokRise (straps : Nat) (s : State) : State :=
  if s.boot.sbyok then s else { s with boot := { s.boot with sbyok := true, straps := straps % 8 } }

def execSbyokRise (straps : Nat) (s : State) : Host.Outcome State Fault Refusal := .next (doSbyokRise straps s)

/-- SBYOK_FALL: PWROK low as well, and the always-on SRAM is lost (R604, R606). -/
def doSbyokFall (s : State) : State :=
  let s := { s with boot := { s.boot with sbyok := false } }
  let s := s.powerFall
  { s with svc := { s.svc with aon := none } }

def execSbyokFall (s : State) : Host.Outcome State Fault Refusal := .next (doSbyokFall s)

/-- PACKAGE_RESET: at a RESET request, 1 ms after its response (R556, R605). A start follows. -/
def doPackageReset (s : State) : State := s.resetPackage

def execPackageReset (s : State) : Host.Outcome State Fault Refusal := .next (doPackageReset s)

/-- I3C_READ: PKG_ID, BOOT_STATUS, TH_STATUS, TH_TEMP0 or TH_TEMP1 while standby power is present; every write is refused (R31, R547). (DEDUCED, notes/assumptions/54.md) -/
def doI3cRead (reg : Nat) (write : Bool) (s : State) : State :=
  if s.boot.sbyok = false then s
  else if write then s.answer 1 0
  else
    let d := match reg with
      | 0 => D.PKG_ID
      | 1 => D.BOOT_STATUS
      | 2 => D.TH_STATUS
      | 3 => D.TH_TEMP 0
      | _ => D.TH_TEMP 1
    s.answer 0 (s.regValue d)

def execI3cRead (reg : Fin 5) (write : Bool) (s : State) : Host.Outcome State Fault Refusal := .next (doI3cRead reg write s)

/-! Darkroom mode (R539 to R541). -/

/-- Whether BOOT_STATUS.MODE is DARKROOM. -/
def State.inDarkroom (s : State) : Bool := s.getF F.BOOT_STATUS_MODE == 2

/-- Whether PWROK is good and MODE is RUNNING. -/
def State.isRunning (s : State) : Bool := s.getF F.BOOT_STATUS_MODE == 1

/-- The bytes of a Teller response before its TAG (R555). -/
def respBytes (op status ticket counter : Nat) (payload : List Byte) : List Byte :=
  leBytes 2 op ++ leBytes 2 status ++ leBytes 4 ticket ++ leBytes 8 counter ++ leBytes 4 payload.length ++ List.replicate 12 0 ++ payload

/-- A response in Darkroom mode: COUNTER and TAG 0. (DEDUCED, notes/assumptions/51.md) -/
def State.drRespond (s : State) (op status ticket : Nat) (payload : List Byte) : State :=
  s.answerBytes status (respBytes op status ticket 0 payload ++ List.replicate 32 0)

/-- The identity data of DR_IDENTITY and IDENTITY, none for a larger PART (R539). -/
def State.identity (s : State) (which : Nat) : Option (List Byte) :=
  if which = 0 then some (leBytes 8 (s.regValue D.PKG_ID) ++ idPub)
  else if which = 1 then some (slice (if s.inDarkroom then s.nvmRead nvmService 7227 else s.boot.cert) 0 7227)
  else none

/-- DR_IDENTITY. -/
def doDrIdentity (which : Nat) (s : State) : State :=
  if !s.inDarkroom then s.drRespond 0xE0 C.TELLER_OP 0 []
  else match s.identity which with
    | none => s.drRespond 0xE0 C.TELLER_OP 0 []
    | some b => s.drRespond 0xE0 0 0 b

def execDrIdentity (which : Nat) (s : State) : Host.Outcome State Fault Refusal := .next (doDrIdentity which s)

/-- DR_STATUS: the encoding of the DR state is left open, so it is a free value. (DESIGN CHOICE, notes/assumptions/50.md) -/
def doDrStatus (s : State) : State :=
  if !s.inDarkroom then s.drRespond 0xE1 C.TELLER_OP 0 []
  else
    let (st, s) := s.freshBytes 4
    s.drRespond 0xE1 0 0 (leBytes 8 (s.regValue D.BOOT_STATUS) ++ st ++ leBytes 8 s.dr.got.length ++ leBytes 2 s.dr.code)

def execDrStatus (s : State) : Host.Outcome State Fault Refusal := .next (doDrStatus s)

/-- DR_NONCE. (DESIGN CHOICE, notes/assumptions/50.md) -/
def doDrNonce (s : State) : State :=
  if !s.inDarkroom then s.drRespond 0xE2 C.TELLER_OP 0 []
  else
    let (b, s) := s.freshBytes 32
    ({ s with dr := { s.dr with nonce := some b } }).drRespond 0xE2 0 0 b

def execDrNonce (s : State) : Host.Outcome State Fault Refusal := .next (doDrNonce s)

/-- Record the code of a Darkroom request and answer with it. (DEDUCED, notes/assumptions/51.md) -/
def State.drCode (s : State) (op code : Nat) : State := ({ s with dr := { s.dr with code := code } }).drRespond op code 0 []

/-- DR_BEGIN: the signature of the key whose digest is FUSE_OWNER over IMAGE_DIGEST, the identity key and the nonce; none while FUSE_OWNER is blank (R540). -/
def doDrBegin (req : List Byte) (s : State) : State :=
  if !s.inDarkroom then s.drRespond 0xE3 C.TELLER_OP 0 []
  else
    let dig := slice req 8 64
    let nonce := s.dr.nonce
    let s := { s with dr := { s.dr with nonce := none } }
    let (ok, s) := match s.fused.owner, nonce with
      | none, _ => (true, s)
      | some _, none => (false, s)
      | some d, some n =>
        let pub := Config.ownerKey d
        if sha3_512 pub = d then s.verify pub (dig ++ sha3_512 idPub ++ n) (slice req 72 4627) else (false, s)
    if !ok then s.drCode 0xE3 C.DR_AUTH_INVALID
    else ({ s with dr := { Dr.idle with begun := true, total := fieldAt req 0 8, digest := dig } }).drRespond 0xE3 0 0 []

def execDrBegin (req : List Byte) (s : State) : Host.Outcome State Fault Refusal := .next (doDrBegin req s)

/-- DR_DATA: the next bytes of the image, while the 1 MiB staging buffer has room (R540). (DEDUCED, notes/assumptions/51.md) -/
def doDrData (off : Nat) (data : List Byte) (s : State) : State :=
  if !s.inDarkroom then s.drRespond 0xE4 C.TELLER_OP 0 []
  else if s.dr.begun = false ∨ s.dr.ended ∨ off ≠ s.dr.got.length ∨ data.length = 0 ∨ 8056 < data.length ∨ s.dr.total < off + data.length then s.drCode 0xE4 C.DR_SEQUENCE
  else if 0x100000 < s.dr.got.length - s.dr.written + data.length then s.drCode 0xE4 C.TELLER_BUSY
  else ({ s with dr := { s.dr with got := s.dr.got ++ data } }).drRespond 0xE4 0 0 []

def execDrData (off : Nat) (data : List Byte) (s : State) : Host.Outcome State Fault Refusal := .next (doDrData off data s)

/-- Where byte `i` of an image goes; none outside the ranges a rewrite may touch (R528, R540). -/
def imagePlace (cfgBytes i : Nat) : Option Nat :=
  if i < 4096 then some (nvmDir + i)
  else if i < 4096 + cfgBytes then (if i - 4096 < 0x100000 then some (nvmConfig + (i - 4096)) else none)
  else if i - 4096 - cfgBytes < 60 * 0x100000 then some (nvmFirmware + (i - 4096 - cfgBytes))
  else none

/-- Write image bytes from image offset `i` on. -/
def State.writeImage (s : State) (cfgBytes i : Nat) : List Byte → State
  | [] => s
  | b :: r => (match imagePlace cfgBytes i with
      | some a => { s with nvm := Assoc.put s.nvm a b 0xFF }
      | none => s).writeImage cfgBytes (i + 1) r

/-- DR_STAGING_WRITE: the ROM writes `n` buffered bytes in image order, which frees their room (R540). (DEDUCED, notes/assumptions/51.md) -/
def doDrStagingWrite (n : Nat) (s : State) : State :=
  if !s.inDarkroom ∨ s.dr.begun = false then s
  else
    let l := (s.dr.got.drop s.dr.written).take n
    let t := s.writeImage (fieldAt s.dr.got 8 4) s.dr.written l
    { t with dr := { t.dr with written := t.dr.written + l.length } }

def execDrStagingWrite (n : Nat) (s : State) : Host.Outcome State Fault Refusal := .next (doDrStagingWrite n s)

/-- A new pending ticket of partition `p`. (DESIGN CHOICE, notes/assumptions/56.md) -/
def State.newTicket (s : State) (p kind a n : Nat) (data : List Byte) : Nat × State :=
  let id := s.boot.nextId
  (id, { s with boot := { s.boot with nextId := id + 1, tickets := s.boot.tickets ++ [⟨p, id, kind, 0, 0, a, n, data⟩] } })

/-- The first pending ticket of a kind. -/
def State.ticketOf (s : State) (kind : Nat) : Option Ticket := s.boot.tickets.find? (fun t => t.kind == kind && t.state == 0)

/-- A ticket completes, with a code when it failed. -/
def State.endTicket (s : State) (id code : Nat) : State :=
  { s with boot := { s.boot with tickets := s.boot.tickets.map (fun t => if t.id = id then { t with state := if code = 0 then 1 else 2, code := code, data := [] } else t) } }

/-- DR_END: a ticket for the checks (R540). (DEDUCED, notes/assumptions/51.md) -/
def doDrEnd (s : State) : State :=
  if !s.inDarkroom then s.drRespond 0xE5 C.TELLER_OP 0 []
  else if s.dr.begun = false ∨ s.dr.ended then s.drCode 0xE5 C.DR_SEQUENCE
  else
    let (id, s) := s.newTicket 0 6 0 0 []
    ({ s with dr := { s.dr with ended := true, ok := false } }).drRespond 0xE5 0 id []

def execDrEnd (s : State) : Host.Outcome State Fault Refusal := .next (doDrEnd s)

/-- DR_END_DONE: the rest of the buffer is written, the digest compared, and stages 2 and 3 run on the written NVM (R540). -/
def doDrEndDone (s : State) : State :=
  match s.ticketOf 6 with
  | none => s
  | some t =>
    let s := doDrStagingWrite s.dr.got.length s
    if sha3_512 s.dr.got ≠ s.dr.digest then ({ s with dr := { s.dr with code := C.DR_IMAGE_MISMATCH } }).endTicket t.id C.DR_IMAGE_MISMATCH
    else
      let (r, s) := s.checkImage (s.nvmRead nvmDir 4096) (fun n => s.nvmRead nvmConfig n) (fun n => s.nvmRead nvmFirmware n)
      if r ≠ 0 then ({ s with dr := { s.dr with code := C.DR_IMAGE_INVALID, reason := r } }).endTicket t.id C.DR_IMAGE_INVALID
      else ({ s with dr := { s.dr with ok := true, code := 0 } }).endTicket t.id 0

def execDrEndDone (s : State) : Host.Outcome State Fault Refusal := .next (doDrEndDone s)

/-- DR_RESTART: after a DR_END that ended with success, ATTEMPTS 0 and a start (R540). -/
def doDrRestart (env : StartEnv) (s : State) : State :=
  if !s.inDarkroom then s.drRespond 0xE6 C.TELLER_OP 0 []
  else if s.dr.ended = false ∨ s.dr.ok = false then s.drCode 0xE6 C.DR_SEQUENCE
  else (((s.writeCounter 0 0).resetPackage).runStart env).drRespond 0xE6 0 0 []

def execDrRestart (env : StartEnv) (s : State) : Host.Outcome State Fault Refusal := .next (doDrRestart env s)

end Sys2Proof.Machine
end

