-- ==== Sys2Proof/Machine/Teller.lean ====
section
/-! DEFINITION. The Tellers and the host port: the request checks, sessions, identity, attestation, job keys, boot updates, doorbells and CXL.mem (R542 to R564, R609). -/
namespace Sys2Proof.Machine

/-! Requests and responses (R555, R558). -/

/-- Bytes 0 to 31 + LEN of a request whose OP is `op`. -/
def reqBytes (r : TellerReq) (op : Nat) : List Byte :=
  leBytes 2 op ++ leBytes 1 r.host ++ leBytes 1 0 ++ leBytes 4 r.session ++ leBytes 8 r.counter ++ leBytes 4 r.payload.length ++ List.replicate 12 0 ++ r.payload

/-- The TAG of a request under a session's K_mac. -/
def reqTag (key m : List Byte) : List Byte := kmac256 key m 32 (ascii "SZ-AN4 TELLER REQ")

def rspTag (key m : List Byte) : List Byte := kmac256 key m 32 (ascii "SZ-AN4 TELLER RSP")

/-- The response is written to the slot and its SLOT_DONE bit set; the TAG is 0 when none was verified (R554, R555). -/
def State.respond (s : State) (r : TellerReq) (op status ticket : Nat) (payload : List Byte) (key : Option (List Byte)) : State :=
  let m := respBytes op status ticket r.counter payload
  let b := m ++ key.elim (List.replicate 32 0) (fun k => rspTag k m)
  let s := { s with boot := { s.boot with slots := Assoc.put s.boot.slots (4 * r.p.val + r.slot.val) b [] } }
  ((s.hwSet (F.TELLER_STATUS_SLOT_DONE r.p.val) (2 ^ r.slot.val)).setF (F.TELLER_STATUS_SLOT_PENDING r.p.val)
    (setBits (s.getF (F.TELLER_STATUS_SLOT_PENDING r.p.val)) r.slot.val 1 0)).answerBytes status b

/-- The session that a host entry has. -/
def State.sessionOf (s : State) (h : Nat) : Option Session := s.boot.sessions.find? (fun x => x.host == h)

/-- A request's class (R556). -/
inductive RClass where
  | r | w | s | c
deriving DecidableEq, Repr

/-- What a request is: its OP, class, whether it is a service request, and whether it needs partition 0 (R556, R558). -/
structure RKind where
  op : Nat
  cls : RClass
  service : Bool
  p0 : Bool
deriving DecidableEq, Repr

/-- Checks 1 to 6 (R558, R559): the code of the first failure, or 0; the key with which the response is tagged; and LAST_CTR set by a request that passes checks 4 and 5. (DEDUCED, notes/assumptions/52.md) -/
def State.checkReq (s : State) (r : TellerReq) (k : RKind) : Nat × Option (List Byte) × State :=
  if !s.isRunning then (C.TELLER_OP, none, s)
  else match s.boot.hosts[r.host]? with
    | none => (C.TELLER_RIGHTS, none, s)
    | some e =>
      if e.part ≠ r.p.val then (C.TELLER_RIGHTS, none, s)
      else if k.cls = .s then (0, none, s)
      else match s.sessionOf r.host with
        | none => (C.TELLER_NO_SESSION, none, s)
        | some x =>
          if x.id ≠ r.session then (C.TELLER_NO_SESSION, none, s)
          else if reqTag x.kmac (reqBytes r k.op) ≠ r.tag then (C.TELLER_TAG, none, s)
          else if r.counter ≤ s.boot.lastCtr.get r.host 0 then (C.TELLER_COUNTER, some x.kmac, s)
          else
            let s := { s with boot := { s.boot with lastCtr := s.boot.lastCtr.put r.host r.counter 0 } }
            if k.cls = .c ∧ bit e.rights 0 = false then (C.TELLER_RIGHTS, some x.kmac, s)
            else if k.service ∧ bit e.rights 1 = false then (C.TELLER_RIGHTS, some x.kmac, s)
            else if k.p0 ∧ r.p.val ≠ 0 then (C.TELLER_RIGHTS, some x.kmac, s)
            else (0, some x.kmac, s)

/-- What a request's own action answers: a code (0 = success), a ticket and a payload. -/
structure Reply where
  code : Nat
  ticket : Nat
  payload : List Byte
deriving DecidableEq, Repr

def Reply.ok (payload : List Byte) : Reply := ⟨0, 0, payload⟩
def Reply.no (code : Nat) : Reply := ⟨code, 0, []⟩

/-- A request is refused: the code is the response, and is reported (R516, R558). (DESIGN CHOICE for LOCATION and VALUE, notes/assumptions/71.md) -/
def State.refuseReq (s : State) (r : TellerReq) (op code loc : Nat) (key : Option (List Byte)) : State :=
  (s.raise code 6 2 loc 0 r.counter).respond r op code 0 [] key

/-- A request: checks, the action, the response, and CRITICAL_DONE for an accepted critical one, with `loc` as its LOCATION; a code that refuses it is reported in the same way, unless the unit that refused it has done so (R516, R558, R560). No Teller answers before a start completes, nor one of a partition that is not in use (R534, R550). (DEDUCED, notes/assumptions/52.md) -/
def State.serve (s : State) (r : TellerReq) (k : RKind) (loc : Nat) (act : State → Reply × State) : State :=
  if (!s.isRunning && !s.inDarkroom) || (s.isRunning && !(s.hasPart r.p.val)) then s
  else
    let (code, key, s) := s.checkReq r k
    if code ≠ 0 then s.refuseReq r k.op code loc key
    else
      let n := s.reports.length
      let (a, s) := act s
      let s := if a.code = 0 ∨ (s.reports.drop n).any (fun x => x.code == a.code) then s else s.raise a.code 6 2 loc 0 r.counter
      let s := if k.cls = .c ∧ a.code = 0 then s.raise C.CRITICAL_DONE 6 2 loc 0 r.counter else s
      s.respond r k.op a.code a.ticket a.payload key

/-- TELLER_STATUS.SESSIONS and TICKETS follow the sessions and tickets (R567). -/
def State.tellerView (s : State) : State :=
  [0, 1, 2, 3].foldl (fun (s : State) (p : Nat) =>
    let m := s.boot.sessions.foldl (fun (m : Nat) (x : Session) => if (s.boot.hosts[x.host]?).any (fun e => e.part == p) then m ||| 2 ^ x.host else m) 0
    s.setFs [(F.TELLER_STATUS_SESSIONS p, m), (F.TELLER_STATUS_TICKETS p, (s.boot.tickets.filter (fun t => t.part == p && t.state == 0 && t.kind != 6)).length)]) s

/-- IDE ends on LD `p` (R551). -/
def State.endIde (s : State) (p : Nat) : State :=
  { s.setF (F.TELLER_STATUS_IDE p) 0 with boot := { s.boot with ide := s.boot.ide.filter (fun x => x.1 != p) } }

/-- A session ends, with the IDE that its keys set, and an alert (R551, R564). -/
def State.endSession (s : State) (p id : Nat) : State :=
  let s := (s.boot.ide.filter (fun x => x.2 == id)).foldl (fun (s : State) (x : Nat × Nat) => s.endIde x.1) s
  (({ s with boot := { s.boot with sessions := s.boot.sessions.filter (fun x => x.id != id) } }).alert p 0 3 0).tellerView

/-! Sessions (R557). -/

/-- SESSION_INIT. (DEDUCED, notes/assumptions/52.md) -/
def doSessionInit (r : TellerReq) (s : State) : State :=
  s.serve r ⟨1, .s, false, false⟩ 1 (fun s =>
    let id := s.boot.nextId
    let (seed, s) := s.freshBytes 64
    let (np, s) := s.freshBytes 32
    let ek := slice (Config.mlkemPub seed) 0 1568
    let (sig, s) := s.sign idSeed (leBytes 4 id ++ leBytes 1 r.host ++ ek ++ np)
    let offers := (s.boot.offers.filter (fun x => x.host != r.host)) ++ [⟨r.host, id, seed, np, s.clk.ns⟩]
    (Reply.ok (leBytes 4 id ++ ek ++ np ++ sig), { s with boot := { s.boot with nextId := id + 1, offers := offers } }))

def execSessionInit (req : TellerReq) (s : State) : Host.Outcome State Fault Refusal := .next (doSessionInit req s)

/-- SESSION_INIT_EXPIRY: an offer 10 s old is void. -/
def doSessionInitExpiry (h : Nat) (s : State) : State :=
  match s.boot.offers.find? (fun x => x.host == h) with
  | none => s
  | some o =>
    let s := s.toNs (o.ns + 10000000000)
    { s with boot := { s.boot with offers := s.boot.offers.filter (fun x => x.host != h) } }

def execSessionInitExpiry (host : Fin 16) (s : State) : Host.Outcome State Fault Refusal := .next (doSessionInitExpiry host s)

/-- SESSION_FINISH: the host's signature, the session keys, the end of its previous session; the response carries the new tag. (DEDUCED, notes/assumptions/52.md) -/
def doSessionFinish (r : TellerReq) (s : State) : State :=
  if (!s.isRunning && !s.inDarkroom) || (s.isRunning && !(s.hasPart r.p.val)) then s
  else
    let (code, _, s) := s.checkReq r ⟨2, .s, false, false⟩
    if code ≠ 0 then s.refuseReq r 2 code 2 none
    else match s.boot.offers.find? (fun x => x.host == r.host && x.id == r.session && decide (s.clk.ns ≤ x.ns + 10000000000)) with
      | none => s.refuseReq r 2 C.TELLER_NO_SESSION 2 none
      | some o =>
        let ct := slice r.payload 0 1568
        let ek := slice (Config.mlkemPub o.seed) 0 1568
        let pub := ((s.boot.hosts[r.host]?).map (fun e => e.pub)).getD []
        let (ok, s) := s.verify pub (leBytes 4 o.id ++ ek ++ o.np ++ ct) (slice r.payload 1568 4627)
        if !ok then s.refuseReq r 2 C.TELLER_HOST_KEY 2 none
        else
          let ss := slice (Config.mlkemDecaps o.seed ct) 0 32
          let x := sha3_512 (leBytes 4 o.id ++ leBytes 1 r.host ++ ek ++ o.np ++ ct)
          let keys := kmac256 ss x 96 (ascii "SZ-AN4 SESSION")
          let s := match s.sessionOf r.host with
            | none => s
            | some old => s.endSession r.p.val old.id
          let ses : Session := ⟨r.host, o.id, slice keys 0 32, slice keys 32 32, slice keys 64 32⟩
          let s := { s with boot := { s.boot with
            sessions := s.boot.sessions ++ [ses]
            offers := s.boot.offers.filter (fun x => x.host != r.host) } }
          let s := (s.tellerView).raise C.SESSION_OPENED 6 2 0 0 0
          s.respond r 2 0 0 (leBytes 8 (s.boot.lastCtr.get r.host 0)) (some ses.kmac)

def execSessionFinish (req : TellerReq) (s : State) : Host.Outcome State Fault Refusal := .next (doSessionFinish req s)

/-- SESSION_CLOSE. -/
def doSessionClose (r : TellerReq) (s : State) : State :=
  s.serve r ⟨3, .w, false, false⟩ 3 (fun s => (Reply.ok [], s.endSession r.p.val r.session))

def execSessionClose (req : TellerReq) (s : State) : Host.Outcome State Fault Refusal := .next (doSessionClose req s)

/-- IDE_START (R551). -/
def doIdeStart (r : TellerReq) (s : State) : State :=
  s.serve r ⟨4, .w, false, false⟩ 4 (fun s =>
    let s := s.endIde r.p.val
    (Reply.ok [], ({ s with boot := { s.boot with ide := s.boot.ide ++ [(r.p.val, r.session)] } }).setF (F.TELLER_STATUS_IDE r.p.val) 1))

def execIdeStart (req : TellerReq) (s : State) : Host.Outcome State Fault Refusal := .next (doIdeStart req s)

/-! Identity, attestation, tickets (R539, R545, R556). -/

/-- TELLER_IDENTITY. -/
def doTellerIdentity (r : TellerReq) (s : State) : State :=
  s.serve r ⟨0x20, .r, false, false⟩ 0x20 (fun s =>
    match s.identity (fieldAt r.payload 0 1) with
    | none => (Reply.no C.TELLER_OP, s)
    | some b => (Reply.ok b, s))

def execTellerIdentity (req : TellerReq) (s : State) : Host.Outcome State Fault Refusal := .next (doTellerIdentity req s)

/-- The node of a partition. -/
def State.partNode (s : State) (p : Nat) : Nat := ((s.cfg[p]?).map (fun c => c.node)).getD 0

/-- The attestation report without its signature (R545). -/
def State.report (s : State) (p : Nat) (nonce : List Byte) : List Byte :=
  let job := (s.boot.jobIds.find? (fun x => x.1 == p)).elim (List.replicate 64 0) (fun x => sha3_512 (jobPub x.2 (s.partNode p)))
  let plan := (s.abank ((s.diesOf p).headD 0)).planId
  leBytes 2 0x030E ++ leBytes 2 p ++ leBytes 4 0 ++ leBytes 8 (s.regValue D.PKG_ID) ++ slice nonce 0 32 ++ sha3_512 idPub
    ++ slice s.boot.fwDigest 0 64 ++ slice s.boot.cfgDigest 0 64 ++ s.bookDigest
    ++ (List.range 8).flatMap (fun (k : Nat) => leBytes 8 (s.getF (F.FAB_DIGEST_DIGEST k))) ++ job
    ++ leBytes 8 plan ++ leBytes 2 s.fused.svn ++ leBytes 2 (s.getF F.BOOT_STATUS_FW_SVN) ++ leBytes 4 s.boot.cfgSeq ++ List.replicate 64 0

/-- ATTEST. -/
def doAttest (r : TellerReq) (s : State) : State :=
  s.serve r ⟨0x21, .r, false, false⟩ 0x21 (fun s =>
    let b := s.report r.p.val r.payload
    let (sig, s) := s.sign idSeed b
    (Reply.ok (b ++ sig), s))

def execAttest (req : TellerReq) (s : State) : Host.Outcome State Fault Refusal := .next (doAttest req s)

/-- TELLER_TICKET: progress of an unfinished ticket, and the answer for a number that names no ticket, are free values. (DEDUCED, notes/assumptions/52.md) -/
def doTellerTicket (r : TellerReq) (s : State) : State :=
  s.serve r ⟨0x22, .r, false, false⟩ 0x22 (fun s =>
    match s.boot.tickets.find? (fun t => t.part == r.p.val && t.id == fieldAt r.payload 0 4) with
    | none =>
      let (b, s) := s.freshBytes 4
      (Reply.ok b, s)
    | some t =>
      let (n, s) := s.freshNat
      (Reply.ok (leBytes 1 t.state ++ leBytes 2 t.code ++ leBytes 1 (if t.state = 1 then 100 else n % 101)), s))

def execTellerTicket (req : TellerReq) (s : State) : Host.Outcome State Fault Refusal := .next (doTellerTicket req s)

/-- The alert of a completed ticket (R562, R564). -/
def State.ticketDone (s : State) (t : Ticket) (code : Nat) : State := ((s.endTicket t.id code).alert t.part code 2 t.id).tellerView

/-- Whether a Teller holds 4 pending tickets (R562). -/
def State.ticketsFull (s : State) (p : Nat) : Bool := decide (4 ≤ (s.boot.tickets.filter (fun t => t.part == p && t.state == 0)).length)

/-! Job keys (R544). -/

/-- JOB_KEYGEN. -/
def doJobKeygen (r : TellerReq) (s : State) : State :=
  s.serve r ⟨0x30, .c, false, false⟩ 0x30 (fun s =>
    let p := r.p.val
    let job := fieldAt r.payload 0 8
    let node := s.partNode p
    let pub := jobPub job node
    let s := { s with boot := { s.boot with jobIds := (s.boot.jobIds.filter (fun (x : Nat × Nat) => x.1 != p)) ++ [(p, job)] } }
    let (sig, s) := s.sign idSeed (pub ++ leBytes 8 job ++ leBytes 4 node)
    (Reply.ok (pub ++ sig), s))

def execJobKeygen (req : TellerReq) (s : State) : Host.Outcome State Fault Refusal := .next (doJobKeygen req s)

/-- JOB_KEYLIST. -/
def doJobKeylist (r : TellerReq) (s : State) : State :=
  s.serve r ⟨0x31, .c, false, false⟩ 0x31 (fun s =>
    let p := r.p.val
    let e := (p, slice r.payload 12 64, fieldAt r.payload 4 8, fieldAt r.payload 0 4)
    (Reply.ok [], { s with boot := { s.boot with keyLists := (s.boot.keyLists.filter (fun x => x.1 != p)) ++ [e] } }))

def execJobKeylist (req : TellerReq) (s : State) : Host.Outcome State Fault Refusal := .next (doJobKeylist req s)

/-! Boot updates and resets (R556, R562). -/

/-- Whether [a, a + n) lies in the installed T1 of partition `p`'s A-dies (R548). -/
def State.inPartT1 (s : State) (p a n : Nat) : Bool := s.inT1 a n && (s.diesOf p).contains (a / 0x2000000000) && (s.diesOf p).contains ((a + n - 1) / 0x2000000000)

/-- NVM_UPDATE: the image is verified before any flash write (R562). (DEDUCED, notes/assumptions/52.md) -/
def doNvmUpdate (r : TellerReq) (s : State) : State :=
  s.serve r ⟨0x40, .c, false, true⟩ 0x40 (fun s =>
    let a := fieldAt r.payload 0 8
    let n := fieldAt r.payload 8 8
    if s.ticketsFull r.p.val then (Reply.no C.TELLER_BUSY, s)
    else if n < 4096 ∨ s.inPartT1 0 a n = false then (Reply.no C.TELLER_UPDATE_INVALID, s)
    else
      let img := s.readMem a n
      let (cb, fb) := (dirSizes (img.take 4096)).getD (0, 0)
      let (code, s) := if n = 4096 + cb + fb then s.checkImage (img.take 4096) (fun k => slice img 4096 k) (fun k => slice img (4096 + cb) k) else (C.BOOT_NVM_READ, s)
      if code ≠ 0 then (Reply.no C.TELLER_UPDATE_INVALID, s)
      else
        let (id, s) := s.newTicket r.p.val 1 a n img
        (⟨0, id, []⟩, s.tellerView))

def execNvmUpdate (req : TellerReq) (s : State) : Host.Outcome State Fault Refusal := .next (doNvmUpdate req s)

/-- NVM_UPDATE_DONE: the sections are in the NVM; it is not written while a frame is RUNNING (R529, R562). -/
def doNvmUpdateDone (s : State) : State :=
  match s.ticketOf 1 with
  | none => s
  | some t => if s.noneRunning then (s.writeImage (fieldAt t.data 8 4) 0 t.data).ticketDone t 0 else s

def execNvmUpdateDone (s : State) : Host.Outcome State Fault Refusal := .next (doNvmUpdateDone s)

/-- SVN_ADVANCE. -/
def doSvnAdvance (r : TellerReq) (s : State) : State :=
  s.serve r ⟨0x41, .c, false, true⟩ 0x41 (fun s =>
    let v := s.getF F.BOOT_STATUS_FW_SVN
    (Reply.ok [], ({ s with fused := { s.fused with svn := v } }).setF F.BOOT_STATUS_FUSE_SVN v))

def execSvnAdvance (req : TellerReq) (s : State) : Host.Outcome State Fault Refusal := .next (doSvnAdvance req s)

/-- TELLER_RESET: a package reset is due 1 ms after the response. -/
def doTellerReset (r : TellerReq) (s : State) : State :=
  s.serve r ⟨0x42, .c, false, true⟩ 0x42 (fun s => (Reply.ok [], { s with boot := { s.boot with resetDue := true } }))

def execTellerReset (req : TellerReq) (s : State) : Host.Outcome State Fault Refusal := .next (doTellerReset req s)

/-- OPs that some Teller request has in the current mode (R539, R556, R588). -/
def State.opListed (s : State) (op : Nat) : Bool :=
  if s.inDarkroom then decide (0xE0 ≤ op) && decide (op ≤ 0xE6)
  else [1, 2, 3, 4, 0x10, 0x11, 0x12, 0x20, 0x21, 0x22, 0x30, 0x31, 0x40, 0x41, 0x42, 0x50, 0x51, 0x52, 0x53, 0x54, 0x55].contains op

/-- TELLER_UNLISTED_OP: check 1 (R558). -/
def doTellerUnlistedOp (r : TellerReq) (s : State) : State :=
  if (!s.isRunning && !s.inDarkroom) || (s.isRunning && !(s.hasPart r.p.val)) || s.opListed r.op then s
  else s.refuseReq r r.op C.TELLER_OP r.op none

def execTellerUnlistedOp (req : TellerReq) (s : State) : Host.Outcome State Fault Refusal := .next (doTellerUnlistedOp req s)

/-! The host port (R550 to R552, R609). -/

/-- HOST_RING_WRITE: the doorbells of the current frame while it is RUNNING, else of the next; dropped without IDE (R551, R552). -/
def doHostRingWrite (p v : Nat) (s : State) : State :=
  if !(s.ideOn p) then (s.satF (F.TELLER_STATUS_UNPROTECTED p) 1).answer 0 0
  else
    let old := s.getF (F.HOST_RING_RING p)
    let s := s.setF (F.HOST_RING_RING p) (old ||| v)
    if s.frameState p = stRunning then
      ((List.range 64).foldl (fun (s : State) (d : Nat) => if bit v d then s.sendDep p 8 d (s.frameCyc p) 0 0 else s) s).answer 0 0
    else (s.updPart p (fun x => { x with doorbells := x.doorbells ||| v % 2 ^ 64 })).answer 0 0

def execHostRingWrite (p : Fin 4) (val : Word) (s : State) : Host.Outcome State Fault Refusal := .next (doHostRingWrite p val.toNat s)

/-- Whether [a, a + n) lies in memory that partition `p` owns: T1 of its A-dies, its T2 and T3 ranges (R548, R550). -/
def State.ownsMem (s : State) (p a n : Nat) : Bool :=
  match rowOf a with
  | some .t1 => s.inPartT1 p a n
  | some .t2 => (s.cfg[p]?).elim (p == 0) (fun c => decide (t2Base + c.t2Base ≤ a) && decide (a + n ≤ t2Base + c.t2Base + c.t2Size))
  | some .t3 => (s.cfg[p]?).elim (p == 0) (fun c => decide (t3Base + c.t3Base ≤ a) && decide (a + n ≤ t3Base + c.t3Base + c.t3Size))
  | _ => false

/-- HOST_CXL_MEM_ACCESS: without IDE a read answers poison and a write is dropped; an address outside the partition's ranges, or SPM, is an address error that changes nothing; otherwise the access is served in the F-die's slots (R36, R40, R550, R551). Chapter 14 gives no code for the address error: the answer carries MOV_ADDR. (DESIGN CHOICE for that code, notes/assumptions/54.md) -/
def doHostCxlMemAccess (p : Nat) (write : Bool) (addr : Nat) (data : List Byte) (len : Nat) (s : State) : State :=
  let n := if write then data.length else len
  if !(s.ideOn p) then (s.satF (F.TELLER_STATUS_UNPROTECTED p) 1).answer (if write then 0 else 1) 0
  else if n = 0 then s.answer 0 0
  else if s.ownsMem p addr n = false ∨ s.rangeOk addr n = false then s.answer C.MOV_ADDR 0
  else if write then
    let (c, s) := s.extWrite 0xA0 addr data
    s.answer c 0
  else
    let (c, b, s) := s.extRead 0xA0 addr n
    s.answerBytes c (if c = 0 then b else [])

def execHostCxlMemAccess (p : Fin 4) (write : Bool) (addr : Nat) (data : List Byte) (len : Nat) (s : State) : Host.Outcome State Fault Refusal :=
  .next (s.orWait (doHostCxlMemAccess p write addr data len))

/-- HOST_PERST: the host port link resets, and IDE ends on every LD (R609). (DEDUCED, notes/assumptions/54.md) -/
def doHostPerst (s : State) : State :=
  let s := s.setFs [(F.HOSTPORT_STATUS_PERST, 1), (F.HOSTPORT_STATUS_UP, 0)]
  [0, 1, 2, 3].foldl (fun (s : State) (p : Nat) => s.endIde p) s

def execHostPerst (s : State) : Host.Outcome State Fault Refusal := .next (doHostPerst s)

/-- HOST_PERST_RELEASE: the link trains again; IDE waits for IDE_START (R609). -/
def doHostPerstRelease (s : State) : State :=
  if s.getF F.HOSTPORT_STATUS_PERST = 1 then s.setFs [(F.HOSTPORT_STATUS_PERST, 0), (F.HOSTPORT_STATUS_UP, 1)] else s

def execHostPerstRelease (s : State) : Host.Outcome State Fault Refusal := .next (doHostPerstRelease s)

end Sys2Proof.Machine
end

