-- ==== Sys2Proof/Machine/Service.lean ====
section
/-! DEFINITION. Service: repair book records, spares by request, calibration sets, self-tests and Slot Link lanes (R570 to R588). -/
namespace Sys2Proof.Machine

/-- RB_RECORD_WRITE: a record is written when DIRTY is 1, a free block remains and every frame is at rest; it ends a pending RB_FLUSH, which also ends when there is nothing to write (R573, R588). (DEDUCED, notes/assumptions/53.md) -/
def doRbRecordWrite (s : State) : State :=
  let go := s.recordReady
  let s := if go then s.writeRecord (s.getF F.RB_STATUS_HALF) else s
  if (go || s.getF F.RB_STATUS_DIRTY == 0) && s.allAtRest then (s.ticketOf 5).elim s (fun t => s.ticketDone t 0) else s

def execRbRecordWrite (s : State) : Host.Outcome State Fault Refusal := .next (doRbRecordWrite s)

/-- A lane of a port is replaced by the port's spare lane on request (R386, R575): the code and the state. (DEDUCED, notes/assumptions/53.md) -/
def State.applyLane (s : State) (p lane : Nat) : Nat × State :=
  let act := s.getF (F.PORT_STATUS_ACTIVE p)
  let bad := s.getF (F.PORT_STATUS_FAILED p)
  if s.fab.lanePend.contains p then (C.SPARE_BUSY, s)
  else match (List.range 9).find? (fun (k : Nat) => k != lane && !(bit act k) && !(bit bad k)) with
    | none => (C.SPARE_NONE, s)
    | some k =>
      let s := (s.portDown p).setFs [(F.PORT_STATUS_FAILED p, bad ||| 2 ^ lane), (F.PORT_STATUS_ACTIVE p, setBits act lane 1 0 ||| 2 ^ k)]
      (0, { s.dirty with fab := { s.dirty.fab with lanePend := p :: s.fab.lanePend } })

/-- Whether some operation holds a reduction slot. -/
def State.slotHeld (s : State) (bulk : Bool) (n : Nat) : Bool :=
  if bulk then s.coll.ops.any (fun o => o.chunks.any (fun c => c.slot == some n)) else s.coll.scalarHeld.any (fun x => x.2.2 == n)

/-- A reduction slot is replaced on request; one that an operation holds, once none does (R575, R578). (DEDUCED, notes/assumptions/53.md) -/
def State.applySlot (s : State) (bulk : Bool) (n : Nat) : Nat × State :=
  if (if bulk then s.coll.bulkSpares else s.coll.scalarSpares) = 0 then (C.SPARE_NONE, s)
  else if s.slotHeld bulk n then
    (0, s.updColl (fun c => if bulk then { c with bulkBad := n :: c.bulkBad } else { c with scalarBad := n :: c.scalarBad }))
  else (0, doReSlotSpare bulk n s)

/-- SPARE_APPLY of a KIND at a LOCATION: the code and the state (R576, R588). A KIND or LOCATION that names no unit has no spare. (DEDUCED, notes/assumptions/53.md) -/
def State.applySpare (s : State) (kind hi lo : Nat) : Nat × State :=
  match kind with
  | 1 => if 4 ≤ hi ∨ 1024 ≤ lo then (C.SPARE_NONE, s) else s.startBringIn 1 hi 0 lo false
  | 2 => if 4 ≤ hi ∨ 512 ≤ lo then (C.SPARE_NONE, s) else s.startBringIn 2 hi 0 lo false
  | 3 => if 4 ≤ hi ∨ 256 ≤ lo then (C.SPARE_NONE, s) else s.startBringIn 3 hi 0 lo false
  | 4 => if 12 ≤ hi ∨ 32 ≤ lo then (C.SPARE_NONE, s) else hbmRetire (hi / 3) (hi % 3) lo s
  | 5 => if 64 ≤ lo then (C.SPARE_NONE, s) else s.startBringIn 5 4 0 lo false
  | 6 => if 32 ≤ hi ∨ 9 ≤ lo then (C.SPARE_NONE, s) else s.applyLane hi lo
  | 7 => match ((List.range 30).find? (fun (i : Nat) => pairNo (i / 5) (linkPeer (i / 5) (i % 5)) == hi)) with
    | none => (C.SPARE_NONE, s)
    | some i => s.startBringIn 7 (i / 5) (i % 5) (i % 5) true
  | 8 => s.applySlot (hi == 0) lo
  | _ => (C.SPARE_NONE, s)

/-- SPARE_APPLY. -/
def doSpareApply (r : TellerReq) (s : State) : State :=
  s.serve r ⟨0x50, .c, true, false⟩ 0x50 (fun s =>
    let (code, t) := s.applySpare (fieldAt r.payload 0 1) (fieldAt r.payload 4 1) (fieldAt r.payload 1 3)
    if code = 0 then (Reply.ok [], t) else (Reply.no code, s))

def execSpareApply (req : TellerReq) (s : State) : Host.Outcome State Fault Refusal := .next (doSpareApply req s)

/-- SPARE_POLICY: RB_POLICY takes the value (R588, R592). -/
def doSparePolicy (r : TellerReq) (s : State) : State :=
  s.serve r ⟨0x51, .c, true, false⟩ 0x51 (fun s =>
    (Reply.ok [], ({ s with svc := { s.svc with event := (0, s.gstNs 0) } } : State).setFs [(F.RB_POLICY_AUTO, bits (fieldAt r.payload 0 8) 1 8), (F.RB_STATUS_DIRTY, 1)]))

def execSparePolicy (req : TellerReq) (s : State) : Host.Outcome State Fault Refusal := .next (doSparePolicy req s)

/-! Calibration (R585 to R588). -/

/-- A calibration set to be written: SOURCE 1, CAL_SEQ one more than the set it replaces, LANES, SENSORS and RAILS as given, and a signature of the identity key. -/
def State.calSet (s : State) (body : List Byte) : List Byte × State :=
  let b := leBytes 2 0x020F ++ leBytes 2 1 ++ leBytes 4 (s.getF F.CAL_STATUS_CAL_SEQ + 1) ++ List.replicate 56 0 ++ slice body 0 19968 ++ List.replicate 40877 0
  let (sig, s) := s.sign idSeed b
  (b ++ sig, s)

/-- CAL_WRITE: from an image in partition 0's T1, or from the live tuning values of the lanes with the current sensor and rail values (R587, R588). (DEDUCED, notes/assumptions/52.md) -/
def doCalWrite (r : TellerReq) (s : State) : State :=
  s.serve r ⟨0x52, .c, true, false⟩ 0x52 (fun s =>
    let src := fieldAt r.payload 0 1
    let a := fieldAt r.payload 1 8
    if s.allAtRest = false then (Reply.no C.SPARE_STATE, s)
    else if s.ticketsFull r.p.val then (Reply.no C.TELLER_BUSY, s)
    else if 1 < src then (Reply.no C.TELLER_OP, s)
    else if src = 0 ∧ s.inPartT1 0 a 65536 = false then
      let (id, s) := s.newTicket r.p.val 2 a 65536 []
      (⟨0, id, []⟩, (s.endTicket id C.MOV_ADDR).tellerView)
    else
      let (lanes, s) := s.freshBytes 18432
      let (set, s) := s.calSet (if src = 0 then s.readMem (a + 64) 19968 else lanes ++ slice s.svc.cal 18496 1536)
      let (id, s) := s.newTicket r.p.val 2 a 65536 set
      (⟨0, id, []⟩, (s.setF F.CAL_STATUS_WRITING 1).tellerView))

def execCalWrite (req : TellerReq) (s : State) : Host.Outcome State Fault Refusal := .next (doCalWrite req s)

/-- CAL_WRITE_DONE: the set replaces the one in the boot NVM and takes effect at the next start (R586, R587). -/
def doCalWriteDone (s : State) : State :=
  match s.ticketOf 2 with
  | none => s
  | some t =>
    if s.noneRunning then ((((s.nvmWrite nvmCal t.data).setF F.CAL_STATUS_WRITING 0).raise C.CAL_WRITTEN 6 1 0 0 0)).ticketDone t 0 else s

def execCalWriteDone (s : State) : Host.Outcome State Fault Refusal := .next (doCalWriteDone s)

/-- CAL_EXPORT. (DEDUCED, notes/assumptions/52.md) -/
def doCalExport (r : TellerReq) (s : State) : State :=
  s.serve r ⟨0x53, .c, true, false⟩ 0x53 (fun s =>
    let a := fieldAt r.payload 0 8
    if s.ticketsFull r.p.val then (Reply.no C.TELLER_BUSY, s)
    else
      let (id, s) := s.newTicket r.p.val 3 a 65536 []
      (⟨0, id, []⟩, if s.inPartT1 0 a 65536 then s.tellerView else (s.endTicket id C.MOV_ADDR).tellerView))

def execCalExport (req : TellerReq) (s : State) : Host.Outcome State Fault Refusal := .next (doCalExport req s)

/-- CAL_EXPORT_DONE: the set in effect is in T1; the ROM defaults are free values (R587, R588). -/
def doCalExportDone (s : State) : State :=
  match s.ticketOf 3 with
  | none => s
  | some t =>
    let (b, s) := if s.svc.cal = [] then s.freshBytes 65536 else (slice s.svc.cal 0 65536, s)
    let (c, s) := s.extWrite 0xA0 t.a b
    s.ticketDone t c

def execCalExportDone (s : State) : Host.Outcome State Fault Refusal := .next (s.orWait doCalExportDone)

/-! Self-tests and Slot Link lanes (R577, R582). -/

/-- A fault that a self-test finds in unit `num` of a kind: reported, and handled as the same fault found in use, except that no command faults (R582). (DEDUCED, notes/assumptions/53.md) -/
def State.selfTestFailed (s : State) (kind die unit num : Nat) : State :=
  let (d, u) := spareUnit kind die unit
  let s := s.raise C.SELFTEST_FAILED d u num 0 0
  match kind with
  | 4 => s.pcLost die unit num
  | 5 => (s.setF (F.CORE_STATUS_ABSENT num) 1).needSpare 5 4 0 num false
  | 6 => (s.portDown unit).laneFailed unit num
  | 8 => doReSlotSpare (unit == 0) num s
  | 3 => s.needSpare 3 die 0 num true
  | k => s.needSpare k die unit num true

/-- SELFTEST. -/
def doSelftest (r : TellerReq) (s : State) : State :=
  s.serve r ⟨0x54, .c, true, false⟩ 0x54 (fun s =>
    if s.allAtRest = false then (Reply.no C.SPARE_STATE, s)
    else if s.ticketsFull r.p.val then (Reply.no C.TELLER_BUSY, s)
    else
      let (id, s) := s.newTicket r.p.val 4 (fieldAt r.payload 0 1) (fieldAt r.payload 1 4) []
      (⟨0, id, []⟩, s.tellerView))

def execSelftest (req : TellerReq) (s : State) : Host.Outcome State Fault Refusal := .next (doSelftest req s)

/-- SELFTEST_DONE: `fault` is the row, column, bank, pseudo-channel, core, lane or slot found faulty (R582, R588). -/
def doSelftestDone (fault : Option Nat) (s : State) : State :=
  match s.ticketOf 4 with
  | none => s
  | some t =>
    match fault with
    | none => s.ticketDone t 0
    | some n =>
      let hi := bits t.n 24 8
      let (die, unit) := match t.a with
        | 4 => (hi / 3 % 4, hi % 3)
        | 5 => (4, 0)
        | 7 => (((List.range 30).find? (fun (i : Nat) => pairNo (i / 5) (linkPeer (i / 5) (i % 5)) == hi)).getD 0 / 5, n % 5)
        | 6 => (5, hi % 32)
        | 8 => (5, hi)
        | _ => (hi % 4, 0)
      (s.selfTestFailed t.a die unit n).ticketDone t C.SELFTEST_FAILED

def execSelftestDone (fault : Option Nat) (s : State) : Host.Outcome State Fault Refusal := .next (doSelftestDone fault s)

/-- RB_FLUSH: a ticket that RB_RECORD_WRITE ends. (DEDUCED, notes/assumptions/53.md) -/
def doRbFlush (r : TellerReq) (s : State) : State :=
  s.serve r ⟨0x55, .c, true, false⟩ 0x55 (fun s =>
    if s.allAtRest = false then (Reply.no C.SPARE_STATE, s)
    else if s.ticketsFull r.p.val then (Reply.no C.TELLER_BUSY, s)
    else
      let (id, s) := s.newTicket r.p.val 5 0 0 []
      (⟨0, id, []⟩, s.tellerView))

def execRbFlush (req : TellerReq) (s : State) : Host.Outcome State Fault Refusal := .next (doRbFlush req s)

/-- SLINK_LANE_FAULT: a lane stops working altogether. A repair lane is brought in when the module has one; otherwise the link goes down at both ends (R577). -/
def doSlinkLaneFault (e l : Nat) (hasSpare : Bool) (s : State) : State :=
  let y := linkPeer e l
  if hasSpare then s.needSpare 7 e l l true
  else (s.setFs [(F.SLINK_STATUS_UP e l, 0), (F.SLINK_STATUS_UP y (linkAt y e), 0)]).raise C.SLINK_SPARES_EXHAUSTED e (slinkUnit e) l 0 0

def execSlinkLaneFault (e : Fin 6) (l : Fin 5) (hasSpare : Bool) (s : State) : Host.Outcome State Fault Refusal := .next (doSlinkLaneFault e l hasSpare s)

end Sys2Proof.Machine
end

