-- ==== Sys2Proof/Machine/Dark.lean ====
section
/-! DEFINITION. The dark interval: units, priority, start and end of dark pieces, pieces run back to back, and tests of units that are spare (R58, R61, R130, R187, R329, R364, R387, R512, R576, R577, R580 to R582). -/
namespace Sys2Proof.Machine

/-- The units a piece runs on (R580): 100 + 3 die + stack HBM controllers, 200 + die SPM, 300 + die MXA and SXE, 400 cores, 500 + link, 600 + port. (DEDUCED, notes/assumptions/31.md) -/
def pieceUnits : Piece → List Nat
  | .exposure d => [100 + 3 * d, 101 + 3 * d, 102 + 3 * d]
  | .retire d k | .reserveTest d k => [100 + 3 * d + k]
  | .spmCopy d | .spmBringIn d | .spmTest d => [200 + d]
  | .arraySpare d _ | .selfTest d _ => [300 + d]
  | .coreSpare => [400]
  | .slink e l => [500 + pairNo e (linkPeer e l)]
  | .port p _ => [600 + p]

/-- The A-dies whose dark cycles a piece counts (R499, R577). -/
def pieceDies : Piece → List Nat
  | .exposure d | .retire d _ | .reserveTest d _ | .spmCopy d | .spmBringIn d | .spmTest d | .arraySpare d _ | .selfTest d _ => [d]
  | .slink e l => [e.val, linkPeer e l].filter (fun n => decide (n < 4))
  | .coreSpare | .port _ _ => []

/-- The bring-in that a piece works on. -/
def State.pieceBringIn (s : State) : Piece → Option BringIn
  | .retire d k => s.bringIn.find? (fun x => x.kind == 4 && x.die == d.val && x.unit == k.val)
  | .spmCopy d => s.bringIn.find? (fun x => x.kind == 3 && x.die == d.val && !x.noCopy)
  | .spmBringIn d => s.bringIn.find? (fun x => x.kind == 3 && x.die == d.val && x.noCopy)
  | .arraySpare d col => s.bringIn.find? (fun x => x.kind == (if col then 2 else 1) && x.die == d.val)
  | .coreSpare => s.bringIn.find? (fun x => x.kind == 5)
  | .slink e l => s.bringIn.find? (fun x => x.kind == 7 && x.die == e.val && x.unit == l.val)
  | _ => none

/-- An idle lane of a port that has not failed, other than `lane` (R387). -/
def State.spareLane (s : State) (p lane : Nat) : Option Nat :=
  (List.range 9).find? (fun k => k != lane && !(bit (s.getF (F.PORT_STATUS_ACTIVE p)) k) && !(bit (s.getF (F.PORT_STATUS_FAILED p)) k))

/-- Whether there is work for a piece. -/
def State.pieceDue (s : State) (x : Piece) : Bool :=
  match x with
  | .exposure d => s.getF (F.EXP_STATUS_DRAINING d) == 1
  | .reserveTest d k => (s.freeSpare 4 d k).isSome
  | .spmTest d => (s.freeSpare 3 d 0).isSome
  | .selfTest _ _ => true
  | .port p lane => !(bit (s.getF (F.PORT_STATUS_ACTIVE p)) lane) || (s.spareLane p lane).isSome
  | _ => (s.pieceBringIn x).isSome

/-- Pieces of higher priority on the same unit (R580). -/
def pieceAhead : Piece → List Piece
  | .retire d _ => [.exposure d]
  | .reserveTest d k => [.exposure d, .retire d k]
  | .spmBringIn d => [.spmCopy d]
  | .spmTest d => [.spmCopy d, .spmBringIn d]
  | .selfTest d _ => [.arraySpare d false, .arraySpare d true]
  | _ => []

/-- Longest piece: 12,000 cycles for a lane repair, 16,320 for an SPM copy, else 16,384 (R58, R187, R577). (DEDUCED, notes/assumptions/57.md) -/
def pieceMax : Piece → Nat
  | .slink _ _ => 12000
  | .spmCopy _ => 16320
  | _ => 16384

/-- Shortest piece: a copy piece has a length of its own (R187, R364). -/
def pieceMin : Piece → Nat
  | .retire _ _ => 16384
  | .spmCopy _ => 16320
  | _ => 1

/-- Whether a piece of `len` cycles is the next one of its unit, which is free (R580). -/
def State.pieceNext (s : State) (x : Piece) (len : Nat) : Bool :=
  decide (pieceMin x ≤ len) && decide (len ≤ pieceMax x) && s.pieceDue x && (pieceAhead x).all (fun y => !(s.pieceDue y))
    && s.dark.all (fun d => (pieceUnits d.piece).all (fun u => !((pieceUnits x).contains u)))
    && s.aclk != 0

/-- A copy piece is done, which copied `k` units of a pseudo-channel; the last one switches (R187, R364). -/
def State.copyPiece (s : State) (x : BringIn) (k : Nat) : State :=
  let y := { x with pieces := x.pieces + 1, units := x.units + k }
  let s := { s with bringIn := s.bringIn.map (fun z => if z == x then y else z) }
  let s := if x.kind = 4 then s.setF (F.HBM_RETIRE_PIECES_DONE x.die x.unit) y.pieces else s
  if y.copied then (if x.kind = 4 then s.switchPc y else s.useSpmSpare y) else s.migrating y 1

/-- A spare fails a test while it is idle: it is not used again (R576, R582). (DEDUCED, notes/assumptions/31.md) -/
def State.idleTestFailed (s : State) (kind die unit num : Nat) : State :=
  let (d, u) := spareUnit kind die unit
  ({ s with spareBad := s.spareBad ++ [(kind, die, unit, num)] }).raise C.SELFTEST_FAILED d u num 0 0

/-- Recalibration of a lane (R387, R579): an active one changes places with the port's spare lane; an idle one stands ready again, or has failed. (DEDUCED, notes/assumptions/31.md) -/
def State.recalibrate (s : State) (p lane : Nat) (fault : Option Nat) : State :=
  let act := s.getF (F.PORT_STATUS_ACTIVE p)
  let bad := s.getF (F.PORT_STATUS_FAILED p)
  let s := if bit act lane then
      (match s.spareLane p lane with
        | some k => s.setF (F.PORT_STATUS_ACTIVE p) (setBits act lane 1 0 ||| 2 ^ k)
        | none => s)
    else s
  if fault.isSome then (s.raise C.SELFTEST_FAILED 5 1 p 0 lane).laneFailed p lane
  else if bit bad lane ∧ bit act lane = false then (s.setF (F.PORT_STATUS_FAILED p) (setBits bad lane 1 0)).dirty
  else s

/-- What a piece that ran `len` cycles from cycle `c` has done at its end; `fault` is the unit that its test found faulty (R130, R187, R188, R329, R364, R387, R512, R576, R577, R582). (DEDUCED, notes/assumptions/57.md) -/
def State.pieceEffect (s : State) (x : Piece) (c len : Nat) (fault : Option Nat) : State :=
  match x, s.pieceBringIn x, fault with
  | .exposure d, _, _ => s.expoWrite d
  | .reserveTest d k, _, some n => s.idleTestFailed 4 d k n
  | .spmTest d, _, some n => s.idleTestFailed 3 d 0 n
  | .selfTest d false, _, some n => s.selfTestFailed (if n < 1024 then 1 else 2) d 0 (if n < 1024 then n else n - 1024)
  | .selfTest d true, _, some n => s.raise C.SELFTEST_FAILED d 2 n 0 0
  | .port p lane, _, _ => s.recalibrate p lane fault
  | _, some b, some _ => s.spareTestFailed b
  | .retire d _, some b, none => s.copyPiece b (s.slotsIn d c len)
  | .spmCopy _, some b, none => s.copyPiece b 0
  | .spmBringIn _, some b, none => s.useSpmSpare b
  | .arraySpare _ _, some b, none => s.useArraySpare b
  | .coreSpare, some b, none => s.useCoreSpare b (!b.noCopy)
  | .slink e l, some b, none => (s.useSlinkLane e l).dropBringIn b
  | _, _, _ => s

/-- Whether a port has had its one lane of the frame recalibrated (R387). -/
def State.portDone (s : State) : Piece → Bool
  | .port p _ => s.p0.portsDone.contains p.val
  | _ => false

/-- DARK_PIECE: the next piece of a unit starts, no earlier than offset FRAME_LEN − DARK_LEN, if it can end by FRAME_LEN; otherwise it is deferred (R58, R580). (DEDUCED, notes/assumptions/31.md) -/
def doDarkPiece (x : Piece) (len : Nat) (s : State) : State :=
  let ps := s.piecePart x
  if ps.all (fun p => s.frameState p == stDark && (s.part p).startAt.isNone) = false ∨ s.pieceNext x len = false ∨ s.portDone x then s
  else
    let start := ps.foldl (fun (m : Nat) (p : Nat) => max m ((s.part p).cycle0 + ((s.part p).len - (s.part p).dark))) s.clk.cyc
    if ps.all (fun p => decide (start + len ≤ (s.part p).cycle0 + (s.part p).len)) then
      let s := s.advanceCyc (start - s.clk.cyc)
      let d : DarkRun := ⟨x, start, len⟩
      let s := ({ s with dark := s.dark ++ [d] }).satF F.DARK_STATUS_PIECES 1
      let s := (s.pieceBringIn x).elim s (fun b => s.migrating b 0)
      match x with
      | .port p _ => s.updPart 0 (fun y => { y with portsDone := p.val :: y.portsDone })
      | _ => s
    else s.satF F.DARK_STATUS_DEFERRED 1

def execDarkPiece (piece : Piece) (len : Nat) (s : State) : Host.Outcome State Fault Refusal := .next (doDarkPiece piece len s)

/-- DARK_PIECE_END: a piece in progress ends after its cycles. (DEDUCED, notes/assumptions/31.md; DEDUCED, notes/assumptions/57.md) -/
def doDarkPieceEnd (x : Piece) (fault : Option Nat) (s : State) : State :=
  match s.dark.find? (fun d => d.piece == x) with
  | none => s
  | some d =>
    if s.aclk = 0 then s
    else
    let s := s.advanceCyc (d.start + d.len - s.clk.cyc)
    let s := { s with dark := s.dark.filter (fun y => !(y.piece == x)) }
    let s := (pieceDies x).foldl (fun (s : State) (n : Nat) => s.count n 31 d.len) s
    s.pieceEffect x d.start d.len fault

def execDarkPieceEnd (piece : Piece) (fault : Option Nat) (s : State) : Host.Outcome State Fault Refusal := .next (doDarkPieceEnd piece fault s)

/-- BACK_TO_BACK_PIECE: in IDLE and STOPPED a unit runs its pieces one after another (R364, R387, R512, R580). (DEDUCED, notes/assumptions/57.md) -/
def doBackToBackPiece (x : Piece) (len : Nat) (fault : Option Nat) (s : State) : State :=
  if (s.piecePart x).all (fun p => s.atRest p) = false ∨ s.pieceNext x len = false then s
  else (s.advanceCyc len).pieceEffect x s.clk.cyc len fault

def execBackToBackPiece (piece : Piece) (len : Nat) (fault : Option Nat) (s : State) : Host.Outcome State Fault Refusal :=
  .next (doBackToBackPiece piece len fault s)

/-- SPARE_UNIT_TEST: a unit that is spare at that moment is tested, whatever the frame does (R387, R581, R582). -/
def doSpareUnitTest (x : Piece) (fault : Bool) (s : State) : State :=
  let test := fun (kind die unit : Nat) => match s.freeSpare kind die unit with
    | some n => if fault then s.idleTestFailed kind die unit n else s
    | none => s
  match x with
  | .reserveTest d k => test 4 d k
  | .spmTest d => test 3 d 0
  | .arraySpare d col => test (if col then 2 else 1) d 0
  | .coreSpare => test 5 4 0
  | .port p lane => if bit (s.getF (F.PORT_STATUS_ACTIVE p)) lane then s else s.recalibrate p lane (if fault then some lane.val else none)
  | .exposure _ | .retire _ _ | .spmCopy _ | .spmBringIn _ | .selfTest _ _ | .slink _ _ => s

def execSpareUnitTest (piece : Piece) (fault : Bool) (s : State) : Host.Outcome State Fault Refusal := .next (doSpareUnitTest piece fault s)

end Sys2Proof.Machine
end

