-- ==== Sys2Proof/Machine/SveMath.lean ====
section
/-! DEFINITION. The Solver Engine's arithmetic: matrices in storage order, FP32 factorisation and solves, FP64 residuals and norms, refinement, operator splitting, iterates and merit, and the problem clock (R267 to R287, R293). -/
namespace Sys2Proof.Machine

/-! FP64 and FP32 operations with RNE (R270). -/

def f64 (x : Nat) : Fv := fmtF64.decode x
def f32 (x : Nat) : Fv := fmtF32.decode x
def f64neg (a : Nat) : Nat := if (f64 a).isNan then fmtF64.cnan else (a + 2 ^ 63) % 2 ^ 64
def f64abs (a : Nat) : Nat := if (f64 a).isNan then fmtF64.cnan else a % 2 ^ 63
def f64fma (a b c : Nat) : Nat := (fmtF64.fma .rne (f64 a) (f64 b) (f64 c)).1
def f64add (a b : Nat) : Nat := (fmtF64.add .rne (f64 a) (f64 b)).1
def f64sub (a b : Nat) : Nat := f64add a (f64neg b)
def f64mul (a b : Nat) : Nat := (fmtF64.mul .rne (f64 a) (f64 b)).1
def f64div (a b : Nat) : Nat := (fmtF64.div .rne (f64 a) (f64 b)).1
def f32fma (a b c : Nat) : Nat := (fmtF32.fma .rne (f32 a) (f32 b) (f32 c)).1
def f32mul (a b : Nat) : Nat := (fmtF32.mul .rne (f32 a) (f32 b)).1
def f32div (a b : Nat) : Nat := (fmtF32.div .rne (f32 a) (f32 b)).1
def f32neg (a : Nat) : Nat := if (f32 a).isNan then fmtF32.cnan else (a + 2 ^ 31) % 2 ^ 32
def to32 (a : Nat) : Nat := (fmtF32.round .rne false (f64 a)).1
def to64 (a : Nat) : Nat := (fmtF64.round .rne false (f32 a)).1

/-- FP64 constants: one, one half, +∞. -/
def f64one : Nat := 0x3FF0000000000000
def f64half : Nat := 0x3FE0000000000000
def f64inf : Nat := 0x7FF0000000000000

/-- Ordered comparisons: false with a NaN. -/
def fvLt (a b : Fv) : Bool := !(a.isNan) && !(b.isNan) && Fv.cmp a b == .lt
def fvLe (a b : Fv) : Bool := !(a.isNan) && !(b.isNan) && Fv.cmp a b != .gt
def f64lt (a b : Nat) : Bool := fvLt (f64 a) (f64 b)
def f64le (a b : Nat) : Bool := fvLe (f64 a) (f64 b)
def f64fin (a : Nat) : Bool := bits a 52 11 != 2047
def f64max (a b : Nat) : Nat := if (f64 a).isNan || (f64 b).isNan then fmtF64.cnan else if f64lt a b then b else a

/-- ‖v‖∞; a NaN component gives a NaN. -/
def normInf (v : List Nat) : Nat := v.foldl (fun m x => f64max m (f64abs x)) 0

/-- aᵀb, accumulated in order. -/
def dot64 (a b : List Nat) : Nat := (List.zip a b).foldl (fun acc x => f64fma x.1 x.2 acc) 0

/-! Matrices: stored entries (row, column, FP64 value) in storage order; `sym` matrices store the lower triangle (R267). -/

structure Mat where
  rows : Nat
  cols : Nat
  sym : Bool
  ents : List (Nat × Nat × Nat)
deriving DecidableEq, Repr

/-- y + M x, or y + Mᵀ x, by fused multiply-adds in storage order (R270); `neg` subtracts the product. -/
def Mat.acc (m : Mat) (trans neg : Bool) (x y : List Nat) : List Nat :=
  m.ents.foldl (fun (y : List Nat) (e : Nat × Nat × Nat) =>
    let a := if neg then f64neg e.2.2 else e.2.2
    let i := if trans then e.2.1 else e.1
    let j := if trans then e.1 else e.2.1
    let y := y.set i (f64fma a (x.getD j 0) (y.getD i 0))
    if m.sym && i != j then y.set j (f64fma a (x.getD i 0) (y.getD j 0)) else y) y

def Mat.mulVec (m : Mat) (x : List Nat) : List Nat := m.acc false false x (List.replicate m.rows 0)
def Mat.mulT (m : Mat) (x : List Nat) : List Nat := m.acc true false x (List.replicate m.cols 0)

/-- ‖M‖∞: the largest sum of magnitudes of a row. -/
def Mat.norm (m : Mat) : Nat :=
  normInf (m.ents.foldl (fun (y : List Nat) e =>
    let y := y.set e.1 (f64add (y.getD e.1 0) (f64abs e.2.2))
    if m.sym && e.1 != e.2.1 then y.set e.2.1 (f64add (y.getD e.2.1 0) (f64abs e.2.2)) else y) (List.replicate m.rows 0))

/-- The KKT matrix of a QP (R255, R281): P + σI over its diagonal, A below, −ρ⁻¹ on the trailing diagonal. -/
def kkt (p a : Mat) (sigma rho : Nat) : Mat where
  rows := p.rows + a.rows
  cols := p.rows + a.rows
  sym := true
  ents := (List.range p.rows).flatMap (fun j =>
      (j, j, f64add (((p.ents.find? (fun e => e.1 == j && e.2.1 == j)).map (fun e => e.2.2)).getD 0) sigma)
        :: (p.ents.filter (fun e => e.2.1 == j && e.1 != j)
        ++ (a.ents.filter (fun e => e.2.1 == j)).map (fun e => (e.1 + p.rows, e.2))))
    ++ (List.range a.rows).map (fun i => (p.rows + i, p.rows + i, f64neg (f64div f64one rho)))

/-! Symbolic analysis (R266, R268). -/

/-- The place of each index in the elimination order. -/
def invPerm (perm : List Nat) : List Nat :=
  (perm.zipIdx).foldl (fun (l : List Nat) x => l.set x.1 x.2) (List.replicate perm.length 0)

/-- Sorted union of two rising lists. -/
def unionSorted : List Nat → List Nat → List Nat
  | [], l => l
  | l, [] => l
  | a :: r, b :: t => if a < b then a :: unionSorted r (b :: t) else if b < a then b :: unionSorted (a :: r) t else a :: unionSorted r t

/-- The strictly lower structure of the factor, column by column in elimination order: the stored rows joined with those of the columns whose first row it is. -/
def symCols (n : Nat) (ents : List (Nat × Nat)) : List (List Nat) :=
  (List.range n).foldl (fun (cols : List (List Nat)) j =>
    let own := (ents.filter (fun e => e.2 == j && e.1 != j)).foldl (fun l e => unionSorted l [e.1]) []
    let all := cols.foldl (fun l c => if c.head? == some j then unionSorted l (c.drop 1) else l) own
    cols ++ [all]) []

/-- Row indices of the supernodes: columns with the same structure share one list, that of the first with its diagonal. -/
def supernodeRows (cols : List (List Nat)) : Nat :=
  ((List.range cols.length).map (fun j =>
    let c := cols.getD j []
    let p := cols.getD (j - 1) []
    if j ≠ 0 ∧ p = j :: c ∧ ((cols.take j).filter (fun x => x.head? == some j)).length = 1 then 0 else c.length + 1)).sum

/-- F of R293. -/
def flopsF (cols : List (List Nat)) : Nat := (cols.map (fun c => c.length * (c.length + 3) / 2)).sum

/-! Factorisation in FP32 (R273, R276 to R278). -/

/-- A factor: for LDLᵀ the columns of L with rows in elimination order and the pivots; for LU the rows of L and U and the row order. -/
structure Factor where
  lu : Bool
  perm : List Nat
  cols : List (List (Nat × Nat))
  diag : List Nat
  rowsLU : List (List Nat)
  flagged : Nat
  first : Nat
deriving DecidableEq, Repr

/-- How a small pivot is judged and replaced: τ, δ as FP32, NAN mode, and n of a QP (the order itself for a linear system is not split). -/
structure PivotRule where
  tau : Nat
  delta : Nat
  nan : Bool
  split : Option Nat
deriving DecidableEq, Repr

/-- The largest magnitude of each row of the FP32 matrix, both triangles when symmetric. -/
def rowMax (m : Mat) : List Nat :=
  m.ents.foldl (fun (y : List Nat) e =>
    let v := to32 e.2.2 % 2 ^ 31
    let y := y.set e.1 (max (y.getD e.1 0) v)
    if m.sym then y.set e.2.1 (max (y.getD e.2.1 0) v) else y) (List.replicate m.rows 0)

/-- The pivot used for index `k` with computed value `d`, and whether it was flagged. -/
def PivotRule.pick (r : PivotRule) (norms : List Nat) (k d : Nat) : Nat × Bool :=
  let small := (f32 d).isZero || fvLt (f32 (d % 2 ^ 31)) (f64 (f64mul r.tau (to64 (norms.getD k 0))))
  if !small then (d, false)
  else if r.nan then (fmtF32.cnan, true)
  else
    let neg := match r.split with
      | some n => !decide (k < n)
      | none => bit d 31 && !(f32 d).isZero
    (r.delta + b2n neg * 2 ^ 31, true)

/-- The entry of a column at a row, if stored. -/
def colAt (c : List (Nat × Nat)) (i : Nat) : Option Nat := (c.find? (fun x => x.1 == i)).map (fun x => x.2)

/-- LDLᵀ without pivoting in elimination order (R273): column j takes the updates of earlier columns in order. (DEDUCED, notes/assumptions/19.md) -/
def factorLDL (m : Mat) (perm : List Nat) (r : PivotRule) : Factor :=
  let inv := invPerm perm
  let place := fun (e : Nat × Nat × Nat) =>
    let a := inv.getD e.1 0
    let b := inv.getD e.2.1 0
    (max a b, min a b, to32 e.2.2)
  let ents := m.ents.map place
  let st := symCols m.rows (ents.map (fun e => (e.1, e.2.1)))
  let norms := rowMax m
  (List.range m.rows).foldl (fun (f : Factor) j =>
    let own := (ents.filter (fun e => e.2.1 == j)).map (fun e => (e.1, e.2.2))
    let v := (j :: st.getD j []).map (fun i => (i, (colAt own i).getD 0))
    let v := (f.cols.zip f.diag).foldl (fun (v : List (Nat × Nat)) k =>
      match colAt k.1 j with
      | none => v
      | some l =>
        let w := f32mul l k.2
        v.map (fun x => match (if x.1 = j then some l else colAt k.1 x.1) with
          | some li => (x.1, f32fma (f32neg li) w x.2)
          | none => x)) v
    let idx := perm.getD j 0
    let (d, fl) := r.pick norms idx ((colAt v j).getD 0)
    { f with
      cols := f.cols ++ [(v.filter (fun x => x.1 != j)).map (fun x => (x.1, f32div x.2 d))]
      diag := f.diag ++ [d]
      flagged := f.flagged + b2n fl
      first := if fl && f.flagged == 0 then idx else f.first }) ⟨false, perm, [], [], [], 0, 0xFFFFFFFF⟩

/-- The row of the pivot of column `k`: largest magnitude, lowest index. -/
def pivotRow (a : List (List Nat)) (n k : Nat) : Nat :=
  ((List.range n).filter (fun i => decide (k ≤ i))).foldl (fun b i =>
    if fvLt (f32 ((a.getD b []).getD k 0 % 2 ^ 31)) (f32 ((a.getD i []).getD k 0 % 2 ^ 31)) then i else b) k

/-- LU with partial pivoting, right-looking (R273). (DEDUCED, notes/assumptions/19.md) -/
def factorLU (m : Mat) (r : PivotRule) : Factor :=
  let n := m.rows
  let a := (List.range n).map (fun i => (List.range n).map (fun j => ((m.ents.find? (fun e => e.1 == i && e.2.1 == j)).map (fun e => to32 e.2.2)).getD 0))
  let norms := rowMax m
  (List.range n).foldl (fun (f : Factor) k =>
    let p := pivotRow f.rowsLU n k
    let a := (f.rowsLU.set k (f.rowsLU.getD p [])).set p (f.rowsLU.getD k [])
    let perm := (f.perm.set k (f.perm.getD p 0)).set p (f.perm.getD k 0)
    let rk := a.getD k []
    let (d, fl) := r.pick norms k (rk.getD k 0)
    let rk := rk.set k d
    let a := (List.range n).map (fun i =>
      let ri := a.getD i []
      if i < k then ri else if i = k then rk
      else
        let l := f32div (ri.getD k 0) d
        (List.range n).map (fun j => if j < k then ri.getD j 0 else if j = k then l else f32fma (f32neg l) (rk.getD j 0) (ri.getD j 0)))
    { f with
      perm := perm
      rowsLU := a
      flagged := f.flagged + b2n fl
      first := if fl && f.flagged == 0 then k else f.first }) ⟨true, List.range n, [], [], a, 0, 0xFFFFFFFF⟩

/-- Solve with the factor in FP32, the right side rounded from FP64 (R273); the answer in FP64. -/
def Factor.solve (f : Factor) (b : List Nat) : List Nat :=
  let n := b.length
  let y0 := (List.range n).map (fun k => to32 (b.getD (f.perm.getD k 0) 0))
  if f.lu then
    let y := (List.range n).foldl (fun (y : List Nat) i =>
      y.set i ((List.range i).foldl (fun acc j => f32fma (f32neg ((f.rowsLU.getD i []).getD j 0)) (y.getD j 0) acc) (y.getD i 0))) y0
    let x := ((List.range n).reverse).foldl (fun (x : List Nat) i =>
      let r := f.rowsLU.getD i []
      let t := ((List.range n).filter (fun j => decide (i < j))).foldl (fun acc j => f32fma (f32neg (r.getD j 0)) (x.getD j 0) acc) (x.getD i 0)
      x.set i (f32div t (r.getD i 0))) y
    x.map to64
  else
    let y := (List.range n).foldl (fun (y : List Nat) k =>
      (f.cols.getD k []).foldl (fun (y : List Nat) e => y.set e.1 (f32fma (f32neg e.2) (y.getD k 0) (y.getD e.1 0))) y) y0
    let z := (List.range n).map (fun k => f32div (y.getD k 0) (f.diag.getD k 0))
    let x := ((List.range n).reverse).foldl (fun (x : List Nat) k =>
      x.set k ((f.cols.getD k []).foldl (fun acc e => f32fma (f32neg e.2) (x.getD e.1 0) acc) (x.getD k 0))) z
    let inv := invPerm f.perm
    (List.range n).map (fun i => to64 (x.getD (inv.getD i 0) 0))

/-- A linear solve with `r` refinement steps (R275). -/
def Factor.refined (f : Factor) (k : Mat) (b : List Nat) : Nat → List Nat
  | 0 => f.solve b
  | r + 1 =>
    let x := f.refined k b r
    List.zipWith f64add x (f.solve (k.acc false true x b))

/-! Problems, iterates and outcomes. -/

/-- A problem's numbers as its descriptor gives them (R264). -/
structure Prob where
  cls : Nat
  ctrl : Nat
  refine : Nat
  n : Nat
  m : Nat
  nnzP : Nat
  nnzA : Nat
  iterCap : Nat
  deadline : Nat
  reserve : Nat
  mat : Nat
  amat : Nat
  vq : Nat
  vl : Nat
  vu : Nat
  perm : Nat
  warm : Nat
  result : Nat
  work : Nat
  sramOff : Nat
  sramBytes : Nat
  epsAbs : Nat
  epsRel : Nat
  epsInf : Nat
  tau : Nat
  delta : Nat
  rho : Nat
  sigma : Nat
  alpha : Nat
deriving DecidableEq, Repr

def Prob.parse (b : List Byte) : Prob where
  cls := fieldAt b 0 1
  ctrl := fieldAt b 1 1
  refine := fieldAt b 2 1
  n := fieldAt b 4 4
  m := fieldAt b 8 4
  nnzP := fieldAt b 12 4
  nnzA := fieldAt b 16 4
  iterCap := fieldAt b 20 2
  deadline := fieldAt b 24 4
  reserve := fieldAt b 28 4
  mat := fieldAt b 32 8
  amat := fieldAt b 40 8
  vq := fieldAt b 48 8
  vl := fieldAt b 56 8
  vu := fieldAt b 64 8
  perm := fieldAt b 72 8
  warm := fieldAt b 80 8
  result := fieldAt b 88 8
  work := fieldAt b 96 8
  sramOff := fieldAt b 104 4
  sramBytes := fieldAt b 108 4
  epsAbs := fieldAt b 112 8
  epsRel := fieldAt b 120 8
  epsInf := fieldAt b 128 8
  tau := fieldAt b 136 8
  delta := fieldAt b 144 8
  rho := fieldAt b 152 8
  sigma := fieldAt b 160 8
  alpha := fieldAt b 168 8

def Prob.qp (p : Prob) : Bool := p.cls == 3 || p.cls == 4
def Prob.sparse (p : Prob) : Bool := p.cls == 2 || (p.qp && bit p.ctrl 0)
def Prob.nk (p : Prob) : Nat := p.n + p.m
def Prob.nanMode (p : Prob) : Bool := bit p.ctrl 1
def Prob.budget (p : Prob) : Nat := p.deadline - p.reserve

/-- The inputs of a problem as read: matrices, vectors, elimination order, and the warm start's vectors when accepted. -/
structure ProbIn where
  bytes : List Byte
  fmtBad : Bool
  p : Mat
  a : Mat
  q : List Nat
  l : List Nat
  u : List Nat
  perm : List Nat
  warm : Option (List Nat × List Nat × List Nat)
deriving DecidableEq, Repr

/-- An iterate with its residuals and merit (R283, R284). -/
structure Iter where
  idx : Nat
  merit : Nat
  rPrim : Nat
  rDual : Nat
  gap : Nat
  obj : Nat
  x : List Nat
  z : List Nat
  y : List Nat
deriving DecidableEq, Repr

/-- The outcome of a problem: status, valid and certificate bits, iterations, the iterate returned (none: open header fields), vectors, pivot flags, problem clock, structure counts, and whether the budget stopped it. -/
structure Outcome where
  status : Nat
  valid : Bool
  cert : Bool
  iters : Nat
  ret : Option Iter
  vec : List Nat
  flagged : Nat
  first : Nat
  pclock : Nat
  nnzL : Nat
  nIdx : Nat
  deadline : Bool
deriving DecidableEq, Repr

/-- A NaN merit counts as +∞ (R284). -/
def meritOf (x : Nat) : Nat := if (f64 x).isNan then f64inf else x

/-- The best of two iterates: least merit, the earlier among equals. -/
def better (a : Option Iter) (b : Iter) : Option Iter :=
  match a with
  | none => some b
  | some x => if f64lt b.merit x.merit then some b else some x

/-! Counts of R293. -/

structure Costs where
  symbolic : Nat
  factor : Nat
  solve : Nat
  vk : Nat
  step : Nat
  upd : Nat
  ipm : Nat
deriving DecidableEq, Repr

/-- nnz_K: the lower triangle of the factored matrix; a QP's matrix holds its whole diagonal. (DEDUCED, notes/assumptions/19.md) -/
def nnzK (p : Prob) (i : ProbIn) : Nat :=
  if p.qp then (i.p.ents.filter (fun e => e.1 != e.2.1)).length + p.n + i.a.ents.length + p.m else i.p.ents.length

/-- DEDUCED, notes/assumptions/19.md. -/
def costs (p : Prob) (i : ProbIn) (cols : List (List Nat)) : Costs :=
  let nk := p.nk
  let k := nnzK p i
  let nl := (cols.map List.length).sum
  let fac := if p.sparse then 256 + cdiv (flopsF cols) 1024 + 2 * nk
    else if p.cls = 1 then 512 + cdiv (p.n ^ 3) 1536 + 16 * p.n else 512 + cdiv (nk ^ 3) 3072 + 8 * nk
  let sol := if p.sparse then 128 + cdiv (2 * nl + nk) 256 else 64 + cdiv (nk ^ 2) 512
  let vk := if p.sparse then 64 + cdiv (2 * k - nk) 128 else 64 + cdiv (nk ^ 2) 256
  let vx := fun (m : Mat) => if p.sparse then 64 + cdiv m.ents.length 128 else 64 + cdiv (m.rows * m.cols) 256
  let t := vk + sol + cdiv (2 * nk) 256
  { symbolic := if p.sparse then 256 + 2 * (nk + k) else 0
    factor := fac
    solve := sol
    vk := vk
    step := t
    upd := 64 + cdiv (12 * nk) 256 + vx i.p + 2 * vx i.a
    ipm := fac + 2 * (sol + p.refine * t) + 64 + cdiv (32 * nk) 256 + vx i.p + 2 * vx i.a }

/-! Residuals and tests. -/

/-- EPS_ABS + EPS_REL × t. -/
def Prob.tol (p : Prob) (t : Nat) : Nat := f64fma p.epsRel t p.epsAbs

/-- The iterate `k` of a linear problem and its test (R274). -/
def linIter (p : Prob) (i : ProbIn) (k : Nat) (x : List Nat) : Iter × List Nat :=
  let r := i.p.acc false true x i.q
  let nr := normInf r
  let tol := p.tol (f64fma i.p.norm (normInf x) (normInf i.q))
  (⟨k, meritOf (f64div nr tol), nr, 0, 0, 0, x, [], []⟩, r)

/-- ½xᵀPx + qᵀx. -/
def objective (i : ProbIn) (x : List Nat) : Nat := f64fma f64half (dot64 x (i.p.mulVec x)) (dot64 i.q x)

/-- The iterate `k` of QP_OSM with its residuals: R280 without the complementarity (R282). -/
def qpIter (p : Prob) (i : ProbIn) (k : Nat) (x z y : List Nat) : Iter :=
  let ax := i.a.mulVec x
  let px := i.p.mulVec x
  let ay := i.a.mulT y
  let rp := normInf (List.zipWith f64sub ax z)
  let rd := normInf (List.zipWith f64add (List.zipWith f64add px i.q) ay)
  let o := objective i x
  let tp := p.tol (f64max (normInf ax) (normInf z))
  let td := p.tol (f64max (f64max (normInf px) (normInf ay)) (normInf i.q))
  ⟨k, meritOf (f64max (f64div rp tp) (f64div rd td)), rp, rd, 0, o, x, z, y⟩

/-- R282's certificate of primal infeasibility. -/
def primalInf (p : Prob) (i : ProbIn) (dy : List Nat) : Bool :=
  let e := f64mul p.epsInf (normInf dy)
  let t := List.zip dy (List.zip i.l i.u)
  let pos := fun (x : Nat) => f64lt 0 x
  let neg := fun (x : Nat) => f64lt x 0
  let sum := t.foldl (fun acc w =>
    if pos w.1 then f64fma w.2.2 w.1 acc else if neg w.1 then f64fma w.2.1 w.1 acc else acc) 0
  dy.any (fun x => pos x || neg x) && f64le (normInf (i.a.mulT dy)) e
    && t.all (fun w => (!pos w.1 || f64fin w.2.2) && (!neg w.1 || f64fin w.2.1)) && f64le sum (f64neg e)

/-- R282's certificate of dual infeasibility. -/
def dualInf (p : Prob) (i : ProbIn) (dx : List Nat) : Bool :=
  let e := f64mul p.epsInf (normInf dx)
  dx.any (fun x => f64lt 0 x || f64lt x 0) && f64le (normInf (i.p.mulVec dx)) e && f64le (dot64 i.q dx) (f64neg e)
    && (List.zip (i.a.mulVec dx) (List.zip i.l i.u)).all (fun w =>
      let lo := f64fin w.2.1
      let hi := f64fin w.2.2
      ((hi && !lo) || f64le (f64neg e) w.1) && ((lo && !hi) || f64le w.1 e))

/-- One iteration of operator splitting (R281). (DEDUCED, notes/assumptions/19.md) -/
def osmStep (p : Prob) (i : ProbIn) (k : Mat) (f : Factor) (x z y : List Nat) : List Nat × List Nat × List Nat :=
  let yr := y.map (fun v => f64div v p.rho)
  let b := List.zipWith (fun a q => f64fma p.sigma a (f64neg q)) x i.q ++ List.zipWith f64sub z yr
  let s := f.refined k b p.refine
  let xt := s.take p.n
  let nu := s.drop p.n
  let zt := List.zipWith f64add z (List.zipWith (fun a c => f64div (f64sub a c) p.rho) nu y)
  let be := f64sub f64one p.alpha
  let mix := fun (a c : List Nat) => List.zipWith (fun v w => f64fma p.alpha v (f64mul be w)) a c
  let xr := mix xt x
  let zr := mix zt z
  let w := List.zipWith f64add zr yr
  let zn := (List.zip w (List.zip i.l i.u)).map (fun v => if f64lt v.1 v.2.1 then v.2.1 else if f64lt v.2.2 v.1 then v.2.2 else v.1)
  let yn := List.zipWith (fun a d => f64fma p.rho d a) y (List.zipWith f64sub zr zn)
  (xr, zn, yn)

/-! Running a problem. -/

/-- What the phases before the iterations leave: the clock, the structure counts and the pivot flags. -/
structure Pre where
  clock : Nat
  nnzL : Nat
  nIdx : Nat
  flagged : Nat
  first : Nat
deriving DecidableEq, Repr

def Pre.out (r : Pre) (status : Nat) (valid cert : Bool) (iters : Nat) (ret : Option Iter) (vec : List Nat) : Outcome :=
  ⟨status, valid, cert, iters, ret, vec, r.flagged, r.first, r.clock, r.nnzL, r.nIdx, false⟩

def Iter.vec (t : Iter) : List Nat := t.x ++ t.z ++ t.y

/-- The budget is reached (R286): the best iterate, or none. -/
def Pre.stop (r : Pre) (p : Prob) (iters : Nat) (best : Option Iter) : Outcome :=
  let r := { r with clock := p.budget }
  match best with
  | some b => { r.out 0x0702 true false iters (some b) b.vec with deadline := true }
  | none => { r.out 0x0703 false false iters none [] with deadline := true }

/-- The end of a run that returns its best iterate. -/
def Pre.best (r : Pre) (status iters : Nat) (best : Option Iter) : Outcome :=
  match best with
  | some b => r.out status true false iters (some b) b.vec
  | none => r.out status false false iters none []

/-- Refinement of a linear problem from iterate `k` (R274). -/
def linRefine (p : Prob) (i : ProbIn) (c : Costs) (f : Factor) (r : Pre) : Nat → Nat → List Nat → List Nat → Nat → Option Iter → Outcome
  | 0, k, _, _, _, best => r.best 0x0705 k best
  | n + 1, k, x, res, nr, best =>
    if p.budget < r.clock + (k + 1) * c.step then r.stop p k best
    else
      let x := List.zipWith f64add x (f.solve res)
      let (t, res') := linIter p i (k + 1) x
      let r' := { r with clock := r.clock + (k + 1) * c.step }
      if f64le t.merit f64one then r'.out 0x0701 true false (k + 1) (some t) t.vec
      else if p.refine ≤ k + 1 then r'.best 0x0705 (k + 1) (better best t)
      else if !(f64lt t.rPrim (f64mul f64half nr)) then r'.best 0x0706 (k + 1) (better best t)
      else linRefine p i c f r n (k + 1) x res' t.rPrim (better best t)

/-- A linear problem after its factorisation. -/
def linRun (p : Prob) (i : ProbIn) (c : Costs) (f : Factor) (r : Pre) : Outcome :=
  if p.nanMode && f.flagged != 0 then
    (if p.budget < r.clock + c.solve then r.stop p 0 none
    else { r with clock := r.clock + c.solve }.out 0x0709 true false 0 none (f.solve i.q))
  else if p.budget < r.clock + c.solve + c.vk then r.stop p 0 none
  else
    let r := { r with clock := r.clock + c.solve + c.vk }
    let (t, res) := linIter p i 0 (f.solve i.q)
    if f64le t.merit f64one then r.out 0x0701 true false 0 (some t) t.vec
    else linRefine p i c f r p.refine 0 t.x res t.rPrim (some t)

/-- QP_OSM's iterations from (x, z, y), `k` of them complete (R281, R282, R287). -/
def osmRun (p : Prob) (i : ProbIn) (c : Costs) (km : Mat) (f : Factor) (r : Pre) : Nat → Nat → List Nat → List Nat → List Nat → Option Iter → Outcome
  | 0, k, _, _, _, best => r.best 0x0704 k best
  | n + 1, k, x, z, y, best =>
    let d := c.solve + p.refine * c.step + c.upd
    if p.budget < r.clock + d then r.stop p k best
    else
      let r := { r with clock := r.clock + d }
      let (x', z', y') := osmStep p i km f x z y
      let t := qpIter p i (k + 1) x' z' y'
      let dy := List.zipWith f64sub y' y
      let dx := List.zipWith f64sub x' x
      if f64le t.merit f64one then r.out 0x0701 true false (k + 1) (some t) t.vec
      else if primalInf p i dy then r.out 0x0707 false true (k + 1) (some t) (x' ++ z' ++ dy)
      else if dualInf p i dx then r.out 0x0708 false true (k + 1) (some t) (dx ++ z' ++ y')
      else osmRun p i c km f r n (k + 1) x' z' y' (better best t)

/-! Interior point (R279, R280). -/

/-- A point of QP_IPM: x, and for each row the slacks and the multipliers of its lower and its upper bound, 0 for an infinite bound. -/
structure IpmPt where
  x : List Nat
  tl : List Nat
  tu : List Nat
  ll : List Nat
  lu : List Nat
deriving DecidableEq, Repr

/-- The slacks and multipliers of a point, or the steps of them, one for each finite bound: lower bounds, then upper ones. -/
def IpmPt.bounds (i : ProbIn) (t : IpmPt) : List (Nat × Nat) :=
  ((List.zip i.l (List.zip t.tl t.ll)).filter (fun w => f64fin w.1)).map (fun w => w.2)
    ++ ((List.zip i.u (List.zip t.tu t.lu)).filter (fun w => f64fin w.1)).map (fun w => w.2)

/-- Total complementarity: slack times multiplier, over the finite bounds. -/
def IpmPt.comp (i : ProbIn) (t : IpmPt) : Nat := (t.bounds i).foldl (fun acc w => f64fma w.1 w.2 acc) 0

/-- The start: x = 0, with a slack and a multiplier of 1 for each finite bound (R279). -/
def ipmStart (p : Prob) (i : ProbIn) : IpmPt :=
  let one := fun (l : List Nat) => l.map (fun b => if f64fin b then f64one else 0)
  ⟨List.replicate p.n 0, one i.l, one i.u, one i.l, one i.u⟩

/-- The direction that a solve gives: a value the rules leave open in each element. (DESIGN CHOICE, notes/assumptions/20.md) -/
def ipmSolve (p : Prob) (i : ProbIn) (k solve : Nat) : IpmPt :=
  let v := fun (a n : Nat) => (List.range n).map (fun j => Config.ipmDir i.bytes k solve (a + j) % 2 ^ 64)
  ⟨v 0 p.n, v p.n p.m, v (p.n + p.m) p.m, v (p.n + 2 * p.m) p.m, v (p.n + 3 * p.m) p.m⟩

/-- A point moved by `a` times a direction. -/
def IpmPt.move (t d : IpmPt) (a : Nat) : IpmPt :=
  let go := fun (u v : List Nat) => List.zipWith (fun x y => f64fma a y x) u v
  ⟨go t.x d.x, go t.tl d.tl, go t.tu d.tu, go t.ll d.ll, go t.lu d.lu⟩

/-- The largest step along a direction, up to a whole one, that keeps slacks and multipliers positive; `frac` of it where something bounds it. (DEDUCED, notes/assumptions/20.md) -/
def IpmPt.step (i : ProbIn) (t d : IpmPt) (frac : Nat) : Nat :=
  let cut := fun (acc v w : Nat) => if f64lt w 0 then (let a := f64mul frac (f64div (f64neg v) w); if f64lt a acc then a else acc) else acc
  (List.zip (t.bounds i) (d.bounds i)).foldl (fun acc w => cut (cut acc w.1.1 w.2.1) w.1.2 w.2.2) f64one

/-- The centring parameter (μ_aff / μ)³ after a predictor direction (R279). -/
def IpmPt.centring (i : ProbIn) (t d : IpmPt) : Nat :=
  let n := (t.bounds i).foldl (fun acc _ => f64add acc f64one) 0
  let r := f64div (f64div ((t.move d (t.step i d f64one)).comp i) n) (f64div (t.comp i) n)
  f64mul (f64mul r r) r

/-- 0.99 in FP64. -/
def f64c99 : Nat := 0x3FEFAE147AE147AE

/-- One iteration: a predictor and a corrector solve, and 0.99 of the largest step (R279). -/
def ipmStep (p : Prob) (i : ProbIn) (k : Nat) (t : IpmPt) : IpmPt :=
  let d := ipmSolve p i k (1 + t.centring i (ipmSolve p i k 0))
  t.move d (t.step i d f64c99)

/-- The iterate `k` of QP_IPM with its residuals; rows with both bounds infinite are left out, and the slack that a result shows for one is open (R279, R280). (DEDUCED, notes/assumptions/20.md) -/
def ipmIter (p : Prob) (i : ProbIn) (k : Nat) (t : IpmPt) : Iter :=
  let ax := i.a.mulVec t.x
  let at_ := fun (l : List Nat) (r : Nat) => l.getD r 0
  let lo := fun (r : Nat) => f64fin (at_ i.l r)
  let hi := fun (r : Nat) => f64fin (at_ i.u r)
  let sl := fun (r : Nat) => f64add (at_ i.l r) (at_ t.tl r)
  let su := fun (r : Nat) => f64sub (at_ i.u r) (at_ t.tu r)
  let rows := (List.range p.m).filter (fun r => lo r || hi r)
  let s := rows.flatMap (fun r => (if lo r then [sl r] else []) ++ (if hi r then [su r] else []))
  let axs := rows.flatMap (fun r => (if lo r then [at_ ax r] else []) ++ (if hi r then [at_ ax r] else []))
  let z := (List.range p.m).map (fun r => if lo r then sl r else if hi r then su r else Config.sveOpen i.bytes k r % 2 ^ 64)
  let y := List.zipWith f64sub t.lu t.ll
  let px := i.p.mulVec t.x
  let ay := i.a.mulT y
  let rp := normInf (List.zipWith f64sub axs s)
  let rd := normInf (List.zipWith f64add (List.zipWith f64add px i.q) ay)
  let g := t.comp i
  let o := objective i t.x
  let tp := p.tol (f64max (normInf axs) (normInf s))
  let td := p.tol (f64max (f64max (normInf px) (normInf ay)) (normInf i.q))
  let m := f64max (f64max (f64div rp tp) (f64div rd td)) (f64div g (p.tol (f64abs o)))
  ⟨k, meritOf m, rp, rd, g, o, t.x, z, y⟩

/-- QP_IPM's iterations from a point, `k` of them complete (R279, R280, R286): the directions and the pivot flags are open values; start, steps, residuals, tests, counts and the budget are not. (DESIGN CHOICE, notes/assumptions/20.md) -/
def ipmRun (p : Prob) (i : ProbIn) (c : Costs) : Nat → Nat → IpmPt → Option Iter → Pre → Outcome
  | 0, k, _, best, r => r.best 0x0704 k best
  | n + 1, k, pt, best, r =>
    let v := fun (e : Nat) => Config.sveOpen i.bytes (k + 1) (p.m + e) % 2 ^ 64
    let fl := v 0 % (p.nk + 1)
    let fresh := decide (r.flagged = 0) && decide (fl ≠ 0)
    let r' := { r with flagged := r.flagged + fl, first := if fresh then v 1 % p.nk else r.first }
    if p.budget < r.clock + c.factor then r.stop p k best
    else if p.nanMode && fl != 0 then
      (if p.budget < r.clock + c.factor + c.solve then r'.stop p k best
      else { r' with clock := r.clock + c.factor + c.solve }.out 0x0709 true false k none ((List.range (p.n + 2 * p.m)).map (fun j => v (2 + j))))
    else if p.budget < r.clock + c.ipm then r'.stop p k best
    else
      let r := { r' with clock := r.clock + c.ipm }
      let pt := ipmStep p i (k + 1) pt
      let t := ipmIter p i (k + 1) pt
      if f64le t.merit f64one then r.out 0x0701 true false (k + 1) (some t) t.vec
      else ipmRun p i c n (k + 1) pt (better best t) r

/-- INPUT_NOT_FINITE of R272. -/
def notFinite (p : Prob) (i : ProbIn) : Bool :=
  let bad := fun (m : Mat) => m.ents.any (fun e => !(f64fin e.2.2) || bits (to32 e.2.2) 23 8 == 255)
  bad i.p || bad i.a || i.q.any (fun v => !(f64fin v))
    || (p.qp && (i.l.any (fun v => (f64 v).isNan || v == f64inf) || i.u.any (fun v => (f64 v).isNan || v == f64inf + 2 ^ 63)))

/-- The working area a sparse problem needs (R266). -/
def sparseNeed (p : Prob) (k nnzL nIdx : Nat) : Nat := 4 * nnzL + 4 * nIdx + 128 * p.nk + 12 * k

/-- CHECK to ITERATE (R268, R272 to R287): the problem's outcome; SVE_MATRIX_FORMAT and SVE_FACTOR_SIZE are command faults. -/
def sveRun (p : Prob) (i : ProbIn) : Outcome :=
  let r : Pre := ⟨4, 0, 0, 0, 0xFFFFFFFF⟩
  if i.fmtBad then r.out 0x0723 false false 0 none []
  else if notFinite p i then r.out 0x070A false false 0 none []
  else if p.qp && (List.zip i.l i.u).any (fun x => f64lt x.2 x.1) then r.out 0x0707 false false 0 none []
  else
    let km := if p.qp then kkt i.p i.a p.sigma p.rho else i.p
    let inv := invPerm i.perm
    let cols := if p.sparse then symCols p.nk (km.ents.map (fun e => (max (inv.getD e.1 0) (inv.getD e.2.1 0), min (inv.getD e.1 0) (inv.getD e.2.1 0)))) else []
    let c := costs p i cols
    let warm := i.warm.map (fun w => qpIter p i 0 w.1 w.2.1 w.2.2)
    if warm.isSome && decide (p.budget < r.clock + c.upd) then r.stop p 0 none
    else
      let r := { r with clock := r.clock + (if warm.isSome then c.upd else 0) }
      if p.budget < r.clock + c.symbolic then r.stop p 0 warm
      else
        let nl := (cols.map List.length).sum
        let ni := supernodeRows cols
        let r := { r with clock := r.clock + c.symbolic, nnzL := nl, nIdx := if p.sparse then ni else 0 }
        if p.sparse && (decide (p.sramBytes < sparseNeed p (nnzK p i) nl ni) || decide (16777216 < nl)) then r.out 0x0724 false false 0 none []
        else if p.cls = 3 then ipmRun p i c p.iterCap 0 (ipmStart p i) none r
        else if p.budget < r.clock + c.factor then r.stop p 0 warm
        else
          let rule : PivotRule := ⟨p.tau, to32 p.delta, p.nanMode, if p.qp then some p.n else none⟩
          let f := if p.cls = 1 then factorLU km rule else factorLDL km i.perm rule
          let r := { r with clock := r.clock + c.factor, flagged := f.flagged, first := f.first }
          if p.cls < 3 then linRun p i c f r
          else
            let (x, z, y) := i.warm.getD (List.replicate p.n 0, List.replicate p.m 0, List.replicate p.m 0)
            if p.nanMode && f.flagged != 0 then
              (if p.budget < r.clock + c.solve then r.stop p 0 warm
              else
                let yr := y.map (fun v => f64div v p.rho)
                let s := f.solve (List.zipWith (fun a q => f64fma p.sigma a (f64neg q)) x i.q ++ List.zipWith f64sub z yr)
                let nu := s.drop p.n
                let zt := List.zipWith f64add z (List.zipWith (fun a b => f64div (f64sub a b) p.rho) nu y)
                { r with clock := r.clock + c.solve }.out 0x0709 true false 0 none (s.take p.n ++ zt ++ nu))
            else osmRun p i c km f r p.iterCap 0 x z y warm

end Sys2Proof.Machine
end

