-- ==== Sys2Proof/Machine/Solver.lean ====
section
/-! DEFINITION. The Solver Engine: schedule loads, problems from their inputs to their result blocks, and faults (R255 to R297). -/
namespace Sys2Proof.Machine

/-! Descriptors (R264 to R266). -/

/-- The end of the working area: the schedule banks follow (R255, R256). -/
def sveArea : Nat := 0x07FE0000

/-- Bytes of a CSC matrix with `c` columns and `k` entries (R267). -/
def cscBytes (c k : Nat) : Nat := roundUp (4 * (c + 1)) 8 + roundUp (4 * k) 8 + 8 * k

/-- The operands of a descriptor as (address, bytes): matrices as stored, vectors, order array, both blocks. -/
def Prob.operands (p : Prob) : List (Nat × Nat) :=
  let blk := 128 + 8 * (p.n + 2 * p.m)
  (if p.sparse then [(p.mat, cscBytes p.n p.nnzP)] ++ (if p.qp then [(p.amat, cscBytes p.n p.nnzA)] else [])
    else [(p.mat, 8 * p.n * p.n)] ++ (if p.qp then [(p.amat, 8 * p.m * p.n)] else []))
  ++ [(p.vq, 8 * p.n)] ++ (if p.qp then [(p.vl, 8 * p.m), (p.vu, 8 * p.m)] else [])
  ++ (if p.perm = 0 then [] else [(p.perm, 4 * p.nk)])
  ++ (if bit p.ctrl 2 then [(p.warm, blk)] else []) ++ [(p.result, blk)]

/-- The SRAM working area and WORK bytes needed that a load can know (R266). -/
def Prob.needs (p : Prob) : Nat × Nat :=
  let nk := p.nk
  if p.sparse then (128 * nk + 12 * (p.nnzP + if p.qp then p.nnzA + p.m else 0), 0)
  else if p.work ≠ 0 then (1088 * nk, if p.cls = 1 then 4 * p.n * p.n else 2 * nk * (nk + 1))
  else (if p.cls = 1 then 4 * p.n * p.n + 64 * p.n else 2 * nk * (nk + 1) + 64 * nk, 0)

/-- The class limits of R255. -/
def Prob.inLimits (p : Prob) : Bool :=
  if p.sparse then decide (p.nk ≤ 1048576) && decide (p.nnzP + p.nnzA ≤ 2097152)
  else if p.qp then decide (p.nk ≤ (if p.work = 0 then 6144 else 8192))
  else decide (p.n ≤ (if p.work ≠ 0 then 40000 else if p.cls = 1 then 5760 else 6144))

/-- The form of an address field (R265): SRAM offset or device address, on a multiple of `k`. -/
def addrForm (a k : Nat) : Bool := a % k == 0 && (if bit a 63 then bits a 27 36 == 0 else bits a 52 11 == 0)

/-- Whether a descriptor keeps R255, R264, R265 and R266. -/
def State.probOk (s : State) (b : List Byte) : Bool :=
  let p := Prob.parse b
  let osm := p.cls == 4
  let wb := bit p.ctrl 2
  let pos := fun (x : Nat) => f64lt 0 x
  let (need, wneed) := p.needs
  let off := p.sramOff
  decide (p.cls < 5) && decide (p.ctrl < 16) && (!(bit p.ctrl 0) || p.qp) && (!wb || osm) && decide (p.refine < 16)
    && zeroAt b 3 1 && zeroAt b 22 2 && zeroAt b 176 16
    && decide (1 ≤ p.n) && (if p.qp then decide (1 ≤ p.m) && decide (1 ≤ p.iterCap) else p.m == 0 && p.iterCap == 0)
    && (p.sparse || p.nnzP == 0) && ((p.sparse && p.qp) || p.nnzA == 0) && p.inLimits
    && decide (4096 ≤ p.deadline) && decide (p.reserve + 1024 ≤ p.deadline)
    && addrForm p.mat 64 && addrForm p.amat 64 && addrForm p.perm 64 && addrForm p.warm 64 && addrForm p.result 64 && addrForm p.work 64
    && addrForm p.vq 8 && addrForm p.vl 8 && addrForm p.vu 8
    && (p.qp || (p.amat == 0 && p.vl == 0 && p.vu == 0)) && (p.sparse || p.perm == 0) && (wb || p.warm == 0)
    && (p.work == 0 || (!(bit p.work 63) && !p.sparse && s.inT1 p.work wneed))
    && p.sramOff % 4096 == 0 && decide (off + p.sramBytes ≤ sveArea) && decide (need ≤ p.sramBytes)
    && p.operands.all (fun o => !(bit o.1 63) || (let a := bits o.1 0 27; decide (a + o.2 ≤ off) || decide (off + p.sramBytes ≤ a)))
    && pos p.epsAbs && f64le 0 p.epsRel && (if osm then pos p.epsInf && pos p.rho && pos p.sigma && pos p.alpha && f64lt p.alpha 0x4000000000000000
      else p.epsInf == 0 && p.rho == 0 && p.sigma == 0 && p.alpha == 0)
    && f64le 0 p.tau && f64lt p.tau f64one && f64le 0x3810000000000000 p.delta && f64le p.delta 0x43F0000000000000

/-! Schedule loads (R256, R257, R262). -/

def sveEntry (b : List Byte) (o doff dn : Nat) : TabEntry where
  release := fieldAt b o 4
  dep0 := fieldAt b (o + 4) 4
  dep1 := fieldAt b (o + 8) 4
  num := fieldAt b (o + 12) 2
  irrev := bit (fieldAt b (o + 15) 1) 0
  on := 0
  pin := false
  pc := 0
  descs := if fieldAt b (o + 14) 1 < dn then [(b.drop (doff + 192 * fieldAt b (o + 14) 1)).take 192] else []

/-- Validate a schedule image (R257, R262): the table, or (code, entry). -/
def State.sveTable (s : State) (b : List Byte) : Except (Nat × Nat) TabBank :=
  let n := fieldAt b 2 2
  let sz := fieldAt b 4 4
  let off := fieldAt b 16 4
  let doff := fieldAt b 20 4
  let dn := fieldAt b 24 2
  if fieldAt b 0 2 ≠ 0x0107 ∨ n = 0 ∨ 256 < n ∨ 65536 < sz ∨ off % 64 ≠ 0 ∨ off < 64 ∨ sz < off + 16 * n ∨ doff % 64 ≠ 0 ∨ doff < 64
      ∨ dn = 0 ∨ 256 < dn ∨ sz < doff + 192 * dn ∨ zeroAt b 26 38 = false then .error (C.SVE_SCHED_INVALID, 0xFFFF)
  else
    let es := (List.range n).map (fun i => sveEntry b (off + 16 * i) doff dn)
    let bad1 := (List.range n).find? (fun i => decide (1 < fieldAt b (off + 16 * i + 15) 1) || decide (dn ≤ fieldAt b (off + 16 * i + 14) 1))
    let bad := match bad1, entriesOk (s.releaseLimit 0) es with
      | some a, some c => some (min a c)
      | some a, none => some a
      | none, c => c
    match bad with
    | some i => .error (C.SVE_SCHED_INVALID, i)
    | none =>
      match (List.range dn).find? (fun k => !(s.probOk ((b.drop (doff + 192 * k)).take 192))) with
      | some k => .error (C.SVE_DESC, ((List.range n).find? (fun i => fieldAt b (off + 16 * i + 14) 1 == k)).getD 0xFFFF)
      | none => .ok ⟨true, fieldAt b 8 8, es⟩

/-- SVE_LOAD (R256). -/
def doSveLoad (v : Nat) (s : State) : State := s.seqLoad .sve v

def execSveLoad (val : Word) (s : State) : Host.Outcome State Fault Refusal := .next (doSveLoad val.toNat s)

/-- SVE_LOAD_DONE: the load in progress finishes; the image stands in its bank in SRAM (R256, R262). -/
def doSveLoadDone (s : State) : State :=
  match s.sve.load with
  | none => s
  | some (b, src) =>
    let n := max 64 (min 65536 (s.readNat (src + 4) 4))
    let (c, img, s) := if s.inT1 src n then s.extRead 0x84 src n else (C.SVE_SCHED_INVALID, [], s)
    let res := if c ≠ 0 then .error (c, 0xFFFF) else s.sveTable img
    let s := match res with
      | .ok _ => s.store (sveSram + sveArea + b * 65536) img
      | .error _ => s
    s.seqLoaded .sve b res

def execSveLoadDone (s : State) : Host.Outcome State Fault Refusal := .next (doSveLoadDone s)

/-! Starting a problem (R259, R268). -/

/-- SVE_PROBLEM_START: entry `i` starts and its LOAD phase begins. (DEDUCED, notes/assumptions/21.md) -/
def doSveProblemStart (i : Nat) (s : State) : State :=
  match s.seqReady .sve i with
  | none => s
  | some (e, t, dep, ou) =>
    let s := (s.seqBegin .sve i e t dep ou 0).count 4 256 1
    let j : SveJob := ⟨i, t, e.num, e.descs.headD [], decide (s.jobStep 0 % 2 = 1), false, 0, [], [], 0, 0, 0, false, 0, []⟩
    { s with sveJob := some j }.setFs [(F.SVE_STATUS_BUSY, 1), (F.SVE_STATUS_WAITING, 1), (F.SVE_STATUS_ENTRY, i), (F.SVE_CLOCK_PCLOCK, 0), (F.SVE_CLOCK_WAIT, 0)]

def execSveProblemStart (entry : Nat) (s : State) : Host.Outcome State Fault Refusal := .next (doSveProblemStart entry s)

/-! Transfers of the SVE's channels (R265, R294, R296). -/

/-- What kind of memory an operand address names: 0 SRAM, 1 T1, 2 elsewhere. (DESIGN CHOICE, notes/assumptions/18.md) -/
def State.opTier (s : State) (a : Nat) : Nat := if bit a 63 then 0 else if s.tierOf a == some .t1 then 1 else 2

/-- Whether an operand lies in T2 or T3, outside the promise (R81, R294). -/
def farOp (a : Nat) : Bool := !(bit a 63) && (rowOf a == some .t2 || rowOf a == some .t3)

/-- Whether channel `req` may read or write a device range: all of it is served, and the active plans give the channel every slot that it needs there, of Slot Links and of pseudo-channels (R297, R624). -/
def State.sveMay (s : State) (req : Nat) (wr : Bool) (a n : Nat) : Bool := s.rangeOk a n && s.extMay req wr a n

/-- Read an operand: its code and bytes. A corrected SRAM word counts in SVE_SRAM_ERR. -/
def State.sveRead (s : State) (a n : Nat) : Nat × List Byte × State :=
  if bit a 63 then
    (let o := bits a 0 27
    let b := sveSram + o
    if sramSize < o + n then (C.SVE_ADDR, [], s)
    else if s.poisoned b n then (C.SVE_SRAM_UNCORRECTABLE, [], s)
    else (0, s.readMem b n, s.sramCorrect b n))
  else if !(s.sveMay 0x84 false a n) then (C.SVE_ADDR, [], s)
  else s.extRead 0x84 a n

/-- Write a result: its code. -/
def State.sveWrite (s : State) (a : Nat) (b : List Byte) : Nat × State :=
  if bit a 63 then
    (if sramSize < bits a 0 27 + b.length then (C.SVE_ADDR, s) else (0, s.store (sveSram + bits a 0 27) b))
  else if !(s.sveMay 0x85 true a b.length) then (C.SVE_ADDR, s)
  else s.extWrite 0x85 a b

/-- Read a list of operands in order, each into its own byte list. -/
def State.sveReads (s : State) : List (Nat × Nat) → Nat × List (List Byte) × State
  | [] => (0, [], s)
  | x :: r =>
    let (c, b, s) := s.sveRead x.1 x.2
    if c ≠ 0 then (c, [], s)
    else
      let (c, bs, s) := s.sveReads r
      (c, b :: bs, s)

/-- Bytes per cycle that the active plans give a channel, as 64-byte slots over a round, summed over partition 0's dies: (numerator, denominator). (DEDUCED, notes/assumptions/21.md) -/
def State.slotRate (s : State) (req : Nat) : Nat × Nat :=
  (s.diesOf 0).foldl (fun (acc : Nat × Nat) n =>
    let h := s.hbmPlan n
    let k := (h.slots.map (fun t => (t.filter (· == req)).length)).sum
    (acc.1 * roundCycles h.g + 64 * k * acc.2, acc.2 * roundCycles h.g)) (0, 1)

/-- Transfer cycles of (address, bytes) operands (R294): T1 and SRAM by their formulas; others wait outside the promise. (DEDUCED, notes/assumptions/21.md) -/
def State.transferCycles (s : State) (req : Nat) (l : List (Nat × Nat)) : Nat :=
  let sum := fun (t : Nat) => ((l.filter (fun x => s.opTier x.1 == t)).map (fun x => x.2)).sum
  let (a, b) := s.slotRate req
  (if sum 1 = 0 then 0 else 128 + (if a = 0 then 0 else cdiv (sum 1 * b) a)) + (if sum 0 = 0 then 0 else 16 + cdiv (sum 0) 4096)

/-- The cost of the retries of the SVE's channels among the reports after the first `k` (R70, R288, R294). -/
def State.retryCost (s : State) (k : Nat) : Nat :=
  ((s.reports.drop k).filter (fun x => x.code == C.MOV_RETRY && x.die == 4 && x.unit == 1)).foldl (fun a x => a + x.value) 0

/-! Inputs (R267, R289, R290). -/

/-- Consecutive little-endian numbers of `w` bytes. -/
def numsOf (w n : Nat) (b : List Byte) : List Nat := (List.range n).map (fun i => fieldAt b (w * i) w)

/-- A CSC matrix: its entries, whether its form breaks R272, and its structure bytes for the fingerprint. (DEDUCED, notes/assumptions/19.md) -/
def parseCsc (rows cols k : Nat) (sym : Bool) (b : List Byte) : Mat × Bool × List Byte :=
  let o1 := roundUp (4 * (cols + 1)) 8
  let o2 := o1 + roundUp (4 * k) 8
  let ptr := numsOf 4 (cols + 1) b
  let row := numsOf 4 k (b.drop o1)
  let val := numsOf 8 k (b.drop o2)
  let colsOf := (List.range cols).map (fun j => (List.range (ptr.getD (j + 1) 0 - ptr.getD j 0)).map (fun t => (row.getD (ptr.getD j 0 + t) rows, j, val.getD (ptr.getD j 0 + t) 0)))
  let rising := fun (l : List (Nat × Nat × Nat)) => (List.zip l (l.drop 1)).all (fun x => decide (x.1.1 < x.2.1))
  let bad := ptr.headD 1 != 0 || ptr.getLastD 0 != k || (List.zip ptr (ptr.drop 1)).any (fun x => decide (x.2 < x.1))
    || colsOf.any (fun c => !(rising c) || c.any (fun e => decide (rows ≤ e.1) || (sym && decide (e.1 < e.2.1))))
  (⟨rows, cols, sym, if bad then [] else colsOf.flatten⟩, bad, b.take (4 * (cols + 1)) ++ (b.drop o1).take (4 * k))

/-- A dense matrix in column-major order; of a symmetric one only the lower triangle's bytes were read. -/
def parseDense (rows cols : Nat) (sym : Bool) (b : List Byte) : Mat :=
  let l := (List.range cols).flatMap (fun j => ((List.range rows).filter (fun i => !sym || decide (j ≤ i))).map (fun i => (i, j)))
  ⟨rows, cols, sym, (l.zipIdx).map (fun x => (x.1.1, x.1.2, fieldAt b (8 * x.2) 8))⟩

/-- The ranges of a dense matrix that the SVE reads. -/
def denseReads (a rows cols : Nat) (sym : Bool) : List (Nat × Nat) :=
  if sym then (List.range cols).map (fun j => (a + 8 * (rows * j + j), 8 * (rows - j))) else [(a, 8 * rows * cols)]

/-- Whether a list of `n` numbers is a permutation of 0 to n − 1. -/
def isPerm (l : List Nat) : Bool := (List.range l.length).all (fun i => l.contains i)

/-- The ranges that LOAD reads, group by group: matrix or P, A, b or q, l, u, order array, warm start block (R268). -/
def Prob.groups (p : Prob) (warmAt : Nat) : List (List (Nat × Nat)) :=
  let sym := p.cls != 1
  let mats := if p.sparse then [[(p.mat, cscBytes p.n p.nnzP)], if p.qp then [(p.amat, cscBytes p.n p.nnzA)] else []]
    else [denseReads p.mat p.n p.n sym, if p.qp then denseReads p.amat p.m p.n false else []]
  mats ++ [[(p.vq, 8 * p.n)], if p.qp then [(p.vl, 8 * p.m)] else [], if p.qp then [(p.vu, 8 * p.m)] else [],
    if p.perm = 0 then [] else [(p.perm, 4 * p.nk)], if bit p.ctrl 2 then [(warmAt, 128 + 8 * (p.n + 2 * p.m))] else []]

/-- A problem's inputs and fingerprint from the bytes of its groups (R267, R289). -/
def Prob.input (p : Prob) (gs : List (List Byte)) : ProbIn × Nat :=
  let at_ := fun (k : Nat) => gs.getD k []
  let sym := p.cls != 1
  let (mp, badP, fpP) := if p.sparse then parseCsc p.n p.n p.nnzP true (at_ 0) else (parseDense p.n p.n sym (at_ 0), false, [])
  let (ma, badA, fpA) := if !p.qp then (⟨0, 0, false, []⟩, false, []) else if p.sparse then parseCsc p.m p.n p.nnzA false (at_ 1) else (parseDense p.m p.n false (at_ 1), false, [])
  let perm := if p.perm = 0 then List.range p.nk else numsOf 4 p.nk (at_ 5)
  let fp := crcOf 2 (leBytes 1 p.cls ++ leBytes 1 (p.ctrl % 2) ++ leBytes 4 p.n ++ leBytes 4 p.m ++ leBytes 4 p.nnzP ++ leBytes 4 p.nnzA ++ fpP ++ fpA)
  (⟨gs.flatten, badP || badA || (p.perm != 0 && !(isPerm perm)), mp, ma, numsOf 8 p.n (at_ 2), numsOf 8 p.m (at_ 3), numsOf 8 p.m (at_ 4), perm, none⟩, fp)

/-- Read the groups of a problem's inputs (R268): code, bytes, and the state. -/
def State.sveInputs (s : State) (gs : List (List (Nat × Nat))) : Nat × List (List Byte) × State :=
  gs.foldl (fun (acc : Nat × List (List Byte) × State) g =>
    if acc.1 ≠ 0 then acc
    else
      let (c, bs, s) := acc.2.2.sveReads g
      (c, acc.2.1 ++ [bs.flatten], s)) (0, [], s)

/-- The reason a warm start block is refused, 0 for none (R290). -/
def warmReason (p : Prob) (fp : Nat) (b : List Byte) : Nat :=
  if fieldAt b 0 8 ≠ fp ∨ fieldAt b 12 4 ≠ p.n ∨ fieldAt b 16 4 ≠ p.m then 1
  else if bit (fieldAt b 10 2) 0 = false then 2
  else if (numsOf 8 (p.n + 2 * p.m) (b.drop 128)).all f64fin then 0 else 3

/-- The result header (R292); a field the rules leave open when no iterate is returned takes an open value. (DESIGN CHOICE, notes/assumptions/20.md) -/
def resultHeader (p : Prob) (inp : List Byte) (fp : Nat) (o : Outcome) (warmUsed : Bool) (reason : Nat) : List Byte :=
  let opn := fun (k : Nat) => Config.sveOpen inp 0 k
  let fl := b2n o.valid + 2 * b2n o.cert + 4 * b2n warmUsed + 8 * b2n (reason != 0) + 16 * reason + 64 * b2n (o.flagged != 0)
    + 128 * b2n (o.flagged != 0 && !p.nanMode) + 256 * b2n o.deadline
  let t := match o.ret with
    | some t => [t.merit, t.rPrim, t.rDual, t.gap, t.obj]
    | none => [opn 1, opn 2, if p.qp then opn 3 else 0, if p.cls = 3 then opn 4 else 0, if p.qp then opn 5 else 0]
  let best := match o.ret with
    | some t => t.idx
    | none => opn 0
  leBytes 8 fp ++ leBytes 2 o.status ++ leBytes 2 fl ++ leBytes 4 p.n ++ leBytes 4 p.m ++ leBytes 4 o.iters ++ leBytes 4 best
    ++ leBytes 4 o.flagged ++ leBytes 4 o.first ++ leBytes 4 o.pclock ++ leBytes 4 o.nnzL ++ leBytes 4 o.nIdx
    ++ t.flatMap (leBytes 8) ++ List.replicate 40 0

/-- The header of a problem that ends before it has computed anything; its fingerprint, of inputs not read whole, is open (R263, R296). (DEDUCED, notes/assumptions/21.md) -/
def bareHeader (p : Prob) (desc : List Byte) (status : Nat) : List Byte :=
  resultHeader p desc (Config.sveOpen desc 0 6) ⟨status, false, false, 0, none, [], 0, 0xFFFFFFFF, 0, 0, 0, false⟩ false 0

/-- A problem with its inputs in place: what the descriptor says, the inputs with the warm start that was accepted, the fingerprint, and the reason of a refusal (R268, R290). -/
def sveReady (desc : List Byte) (gs : List (List Byte)) : Prob × ProbIn × Nat × Nat :=
  let p := Prob.parse desc
  let (inp, fp) := p.input gs
  let wb := gs.getD 6 []
  let wr := if bit p.ctrl 2 then warmReason p fp wb else 0
  let v := numsOf 8 (p.n + 2 * p.m) (wb.drop 128)
  let warm := if bit p.ctrl 2 && wr == 0 then some (v.take p.n, (v.drop p.n).take p.m, v.drop (p.n + p.m)) else none
  (p, { inp with warm := warm }, fp, wr)

/-! The phases (R268 to R287). -/

/-- A fault of the problem in progress (R263): latched in SVE_FAULT, and the frame fails. -/
def State.sveFault (s : State) (j : SveJob) (code : Nat) : State :=
  let f := s.frameCyc 0
  let s := { s with sveJob := some { j with loaded := true, status := code, fault := code } }
  let s := (s.updSeqRun .sve j.idx (fun r => { r with fault := true })).hwSets
    [(F.SVE_STATUS_FAULTED, 1), (F.SVE_FAULT_CODE, code), (F.SVE_FAULT_PROBLEM, j.num), (F.SVE_FAULT_CYCLE, f), (F.SVE_STATUS_WAITING, 0)]
  s.seqFault .sve code j.num f

/-- Open bytes that a problem leaves in memory. (DESIGN CHOICE, notes/assumptions/20.md) -/
def sveBytes (inp : List Byte) (which n : Nat) : List Byte := (List.range n).map (fun i => BitVec.ofNat 8 (Config.sveOpen inp (2 ^ 40 + which) i))

/-- The working area, and WORK where it is used, hold open values after a problem. (DESIGN CHOICE, notes/assumptions/20.md) -/
def State.loseWork (s : State) (p : Prob) (inp : List Byte) : State :=
  let s := s.store (sveSram + p.sramOff) (sveBytes inp 0 p.sramBytes)
  if p.work = 0 then s else s.putAt (cycKey (s.absCyc 4 (s.frameCyc 0)) 0) (s.absCyc 4 (s.frameCyc 0)) 0x85 p.work (sveBytes inp 1 p.needs.2)

/-- The cycles of the transfers to and from WORK, which R294 adds to the waits: how often the factor crosses is open; it depends on the problem and on what the plan gives the channels. (DESIGN CHOICE, notes/assumptions/20.md) -/
def State.workCycles (s : State) (p : Prob) (inp : List Byte) : Nat :=
  if p.work = 0 then 0
  else
    let (a, b) := s.slotRate 0x84
    let (c, d) := s.slotRate 0x85
    Config.sveOpen (inp ++ leBytes 8 a ++ leBytes 8 b ++ leBytes 8 c ++ leBytes 8 d) 0 7 % 2 ^ 31

/-- What the phases report: a warm start refused, and tiny pivots (R271, R278). R272 ends a problem in CHECK before WARM; a refused block is noted in CHECK all the same. -/
def State.sveNotes (s : State) (num wr : Nat) (o : Outcome) : State :=
  let s := if wr = 0 then s else ((s.raise C.SVE_WARM_REJECTED 4 1 num 0 wr).hwSet F.SVE_STATUS_WARM_REJECTED 1).count 4 269 1
  if o.flagged = 0 then s
  else ((s.raise C.SVE_PIVOT_TINY 4 1 num 0 o.first).hwSet F.SVE_STATUS_PIVOT_TINY 1).count 4 270 o.flagged

/-- The phases from CHECK on, with the inputs in place: the outcome is held until the problem completes (R268, R292). A factor store that the plan gives no slots, or that is not installed, faults the problem as its first transfer is due (R297, R343, R624). -/
def State.svePhases (s : State) (j : SveJob) (gs : List (List Byte)) : State :=
  let (p, inp, fp, wr) := sveReady j.desc gs
  let o := sveRun p inp
  let s := s.sveNotes j.num wr o
  let reach := p.work == 0 || (s.sveMay 0x84 false p.work p.needs.2 && s.sveMay 0x85 true p.work p.needs.2)
  if !reach && o.status != C.SVE_MATRIX_FORMAT && o.status != 0x070A && decide (4 < o.pclock) then (s.toCyc 0 (j.start + j.load + 4)).sveFault j C.SVE_ADDR
  else
    let s := if reach then s.loseWork p inp.bytes else s
    let j := { j with
      loaded := true, status := o.status, header := resultHeader p inp.bytes fp o inp.warm.isSome wr, vecs := if o.valid || o.cert then o.vec.flatMap (leBytes 8) else [],
      iters := o.iters, pclock := o.pclock, load := j.load + s.workCycles p inp.bytes, deadline := o.deadline, inputs := gs }
    let s := s.setFs [(F.SVE_STATUS_WAITING, 0), (F.SVE_CLOCK_PCLOCK, o.pclock), (F.SVE_CLOCK_WAIT, j.load)]
    if o.status = C.SVE_MATRIX_FORMAT ∨ o.status = C.SVE_FACTOR_SIZE then (s.toCyc 0 (j.start + j.load + o.pclock)).sveFault j o.status
    else { s with sveJob := some j }

/-- The words of the active schedule bank in SRAM that hold entry `i` and its descriptor (R256, R257). -/
def State.sveBankWords (s : State) (i : Nat) : List (Nat × Nat) :=
  let b := sveSram + sveArea + (s.sve.active.getD 0) * 65536
  let e := b + s.readNat (b + 16) 4 + 16 * i
  [(e, 16), (b + s.readNat (b + 20) 4 + 192 * s.readNat (e + 14) 1, 192)]

/-- SVE_LOAD_PHASE_END: the inputs are there after the LOAD phase's cycles, with the cost of its retries (and `ns` more when it waits on T2, T3 or another die), and CHECK to ITERATE decide the outcome (R268, R288, R294, R296). -/
def doSveLoadPhaseEnd (ns : Nat) (s : State) : State :=
  match s.sveJob with
  | none => s
  | some j =>
    if j.loaded ∨ s.aclk = 0 then s
    else
      let p := Prob.parse j.desc
      let bank := s.sveBankWords j.idx
      if bank.any (fun x => s.poisoned x.1 x.2) then s.sveFault { j with header := bareHeader p j.desc C.SVE_SRAM_UNCORRECTABLE } C.SVE_SRAM_UNCORRECTABLE
      else
        let s := bank.foldl (fun (s : State) x => s.sramCorrect x.1 x.2) s
        let groups := p.groups (if bit p.ctrl 3 && j.swap then p.result else p.warm)
        let rng := groups.flatten
        let n := s.reports.length
        let cyc := s.transferCycles 0x84 rng
        let (code, gs, s) := s.sveInputs groups
        let outside := rng.any (fun x => s.opTier x.1 == 2)
        let s := s.toCyc 0 (j.start + cyc + s.retryCost n)
        let s := if outside then s.advanceNs ns else s
        let s := if rng.any (fun x => farOp x.1) then s.updSeqRun .sve j.idx (fun r => { r with outside := true }) else s
        let j := { j with load := s.frameCyc 0 - j.start }
        if code ≠ 0 then s.sveFault { j with header := if code = C.SVE_SRAM_UNCORRECTABLE then bareHeader p j.desc code else [] } code
        else s.svePhases j gs

def execSveLoadPhaseEnd (ns : Nat) (s : State) : Host.Outcome State Fault Refusal := .next (doSveLoadPhaseEnd ns s)

/-- SVE_DEADLINE: the problem clock reaches the budget with work remaining, and the SVE stops in 16 cycles (R286). -/
def doSveDeadline (s : State) : State :=
  match s.sveJob with
  | none => s
  | some j => if j.deadline ∧ s.aclk ≠ 0 then (s.toCyc 0 (j.start + j.load + j.pclock + 16)).hwSet F.SVE_STATUS_DEADLINE_HIT 1 else s

def execSveDeadline (s : State) : Host.Outcome State Fault Refusal := .next (doSveDeadline s)

/-! Completion (R260, R292, R294). -/

/-- Whether an abort stopped the problem before its own end in cycle `c` (R263). (DEDUCED, notes/assumptions/21.md) -/
def State.sveAborted (s : State) (c : Nat) : Option Nat :=
  match s.p0.abortAt with
  | some a => if a < c then some a else none
  | none => none

/-- Write a problem's result: the vectors, then the header; the first code that a write meets (R292). (DEDUCED, notes/assumptions/21.md) -/
def State.sveResult (s : State) (j : SveJob) (dest : Nat) : Nat × State :=
  let (c1, s) := if j.vecs.isEmpty then (0, s) else s.sveWrite (dest + 128) j.vecs
  if j.header.isEmpty ∨ c1 ≠ 0 then (c1, s) else s.sveWrite dest j.header

/-- A result that is late, and a problem that its budget stopped (R286, R293). -/
def State.sveLate (s : State) (j : SveJob) (p : Prob) (own : Nat) : State :=
  let s := if decide (j.start + p.deadline - 1 < own) then ((s.raise C.SVE_LATE_RESULT 4 1 j.num 0 (own - j.start)).hwSet F.SVE_STATUS_LATE_RESULT 1).count 4 271 1 else s
  if j.deadline then s.hwSet F.SVE_STATUS_DEADLINE_HIT 1 else s

/-- The registers and counters at a problem's end with status `st`, which is reported with the problem's event in LOCATION; `w` cycles went into writing the result (R292, R295, R297, R516). (DESIGN CHOICE for LOCATION and VALUE, notes/assumptions/71.md) -/
def State.sveRegs (s : State) (j : SveJob) (st w : Nat) : State :=
  let s := if 0x0701 ≤ st ∧ st ≤ 0x070A then (s.raise st 4 1 j.num 0 0).count 4 (259 + (st - 0x0701)) 1 else s
  ((s.count 4 257 j.pclock).count 4 258 (j.load + w)).setFs
    [(F.SVE_STATUS_BUSY, 0), (F.SVE_STATUS_WAITING, 0), (F.SVE_CLOCK_PCLOCK, j.pclock), (F.SVE_CLOCK_WAIT, j.load + w),
     (F.SVE_LAST_STATUS, st), (F.SVE_LAST_PROBLEM, j.num), (F.SVE_LAST_ITERATIONS, j.iters)]

/-- A job as an abort in frame cycle `a` leaves it: what the problem had computed by then, under the outcome FRAME_ABORTED; nothing when LOAD had not ended (R263, R292). (DEDUCED, notes/assumptions/21.md) -/
def SveJob.aborted (j : SveJob) (a : Nat) : SveJob :=
  let clock := a - (j.start + j.load)
  if j.loaded = false ∨ clock = 0 ∨ j.inputs = [] then
    { j with status := C.FRAME_ABORTED, header := bareHeader (Prob.parse j.desc) j.desc C.FRAME_ABORTED, vecs := [], iters := 0, pclock := 0, deadline := false }
  else
    let (p, inp, fp, wr) := sveReady j.desc j.inputs
    let o := if clock < j.pclock then sveRun { p with deadline := clock, reserve := 0 } inp else sveRun p inp
    let o := { o with status := C.FRAME_ABORTED, valid := false, cert := false, deadline := false }
    { j with status := C.FRAME_ABORTED, header := resultHeader p inp.bytes fp o inp.warm.isSome wr, vecs := [], iters := o.iters, pclock := o.pclock, deadline := false }

/-- A problem's result is written, and the problem ends in cycle `own` or, with the cost of the write's retries, later. A result write into T2 or T3 makes the completion one outside the promise (R81, R263, R288, R292, R294). -/
def State.sveEnd (s : State) (j : SveJob) (own : Nat) : State :=
  let p := Prob.parse j.desc
  let dest := if bit p.ctrl 3 && j.swap then p.warm else p.result
  let bytes := if j.vecs.isEmpty then j.header.length else 128 + j.vecs.length
  let w := s.transferCycles 0x85 [(dest, bytes)]
  let n := s.reports.length
  let (c2, s) := (s.toCyc 0 own).sveResult j dest
  let own := own + s.retryCost n
  let s := s.toCyc 0 own
  let own := max own (s.frameCyc 0)
  let st := if c2 ≠ 0 ∧ j.fault = 0 then c2 else j.status
  let s := (s.sveLate j p own).sveRegs j st (w + s.retryCost n)
  let s := if c2 ≠ 0 ∧ j.fault = 0 then s.sveFault j c2 else s
  let s := if farOp dest ∧ bytes ≠ 0 then s.updSeqRun .sve j.idx (fun r => { r with outside := true }) else s
  let s := { s with sveJob := none }
  if j.fault ≠ 0 ∨ c2 ≠ 0 then s.updSeq .sve (fun q => { q with run := q.run.filter (fun r => r.idx != j.idx) })
  else s.seqDone .sve j.idx own 4 j.num 25

/-- SVE_PROBLEM_COMPLETE: vectors, then header, after the problem's own cycles, or 16 cycles after an abort; the completion reaches the SCUs 25 cycles later (R263, R292, R294). (DESIGN CHOICE, notes/assumptions/10.md) -/
def doSveProblemComplete (s : State) : State :=
  match s.sveJob with
  | none => s
  | some j =>
    if s.aclk = 0 then s
    else
      let p := Prob.parse j.desc
      let dest := if bit p.ctrl 3 && j.swap then p.warm else p.result
      let w := s.transferCycles 0x85 [(dest, if j.vecs.isEmpty then j.header.length else 128 + j.vecs.length)]
      let own := max (s.frameCyc 0) (j.start + j.load + j.pclock + (if j.deadline then 16 else 0) + w - 1)
      match s.sveAborted own with
      | some a => (s.toCyc 0 (max a j.start + 16)).sveEnd (j.aborted a) (max a j.start + 16)
      | none => if !j.loaded then s else s.sveEnd j own

def execSveProblemComplete (s : State) : Host.Outcome State Fault Refusal := .next (doSveProblemComplete s)

end Sys2Proof.Machine
end

