-- ==== Sys2Proof/Machine/Thermal.lean ====
section
/-! DEFINITION. Temperature and the arithmetic clock (R26, R374 to R379, R612). -/
namespace Sys2Proof.Machine

/-- Limit of a sensor: 105 °C for an A-die, 95 °C for a stack (R374). -/
def sensorLimit (i : Nat) : Int := if i < 4 then 105 else 95

/-- Headroom of each of the 16 sensors. -/
def State.headrooms (s : State) : List Int := (List.range 16).map (fun i => sensorLimit i - s.th.temps.getD i 0)

/-- The sensor of least headroom (the lowest-numbered one among equals), and that headroom. -/
def leastHeadroom (l : List Int) : Nat × Int :=
  (l.zipIdx).foldl (fun (a : Nat × Int) x => if x.1 < a.2 then (x.2, x.1) else a) (0, l.headD 0)

/-- The counts at which an exposure's window opens and closes follow the clock as it now runs, as far as they lie ahead (R514). (DEDUCED, notes/assumptions/40.md) -/
def State.expoShift (s : State) (die : Nat) : State :=
  let p := s.partOf die
  let c := s.frameCyc p
  let a := s.getF (F.EXP_WINDOW_START die)
  let z := s.getF (F.EXP_WINDOW_END die)
  if s.getF (F.EXP_STATUS_CAPTURING die) = 0 then s
  else s.updExpo die (fun e => { e with
    header := if c < a then e.header.take 8 ++ leBytes 8 (s.gstNs p + s.cycNs (a - c)) ++ e.header.drop 16 else e.header
    closeNs := if c < z then s.gstNs p + s.cycNs (z - c) else e.closeNs })

/-- Change the arithmetic clock's level between two cycles; exposures record it (R26, R376, R514). -/
def State.setLevel (s : State) (lv sensor : Nat) : State :=
  let old := s.getF F.TH_STATUS_LEVEL
  if lv = old then s
  else
    let s := ((s.setFs [(F.TH_STATUS_LEVEL, lv), (F.TH_STATUS_ACLK, aclkOf s.fused.grade lv)]).satF F.TH_STATUS_STEPS 1).raise C.ACLK_STEP 6 0 sensor lv old
    [0, 1, 2, 3].foldl (fun s n => (s.expo n 0x08 (16 * lv) 0 0 (s.frameCyc (s.partOf n)) old 0 (some 7)).expoShift n) s

/-- The clock stops at the end of the current cycle; the stacks are refreshed and enter self-refresh; THERM_N goes low and I3C signals (R377, R378, R547, R612). -/
def State.trip (s : State) (sensor : Nat) : State :=
  let s := s.raise C.THERMAL_TRIP 6 0 sensor (s.getF F.TH_STATUS_LEVEL) (unsint 32 (s.th.temps.getD sensor 0))
  ({ s with th := { s.th with selfRefresh := true, thermLow := true, stopNs := [0, 1, 2, 3].map (fun p => s.gstNs p) }, boot := { s.boot with ibiTrip := s.boot.ibiTrip + 1 } }).setFs [(F.TH_STATUS_TRIPPED, 1), (F.TH_STATUS_ACLK, 0)]

/-- The level selected at a sample by the first row of the table that applies (R376): the level and whether rows 3 and 4 took a step. -/
def State.selectLevel (s : State) (h : Int) : Nat × Bool × Bool :=
  let lv := s.getF F.TH_STATUS_LEVEL
  let mn := s.getF F.TH_CTRL_MIN_LEVEL
  let low := lowestLevel s.fused.grade
  let since := fun (t : Option Nat) (d : Nat) => t.all (fun x => decide (d ≤ s.clk.ns - x))
  if lv < mn then (mn, false, false)
  else if h ≤ 0 then (min low (lv + 1), false, false)
  else if h ≤ 2 ∧ since s.th.lastSlow 1000000 then (min low (lv + 1), decide (lv < low), false)
  else if s.th.coolSince.any (fun t => decide (10000000 ≤ s.clk.ns - t)) ∧ mn < lv ∧ since s.th.lastFast 10000000 then (lv - 1, false, true)
  else (lv, false, false)

/-- The readings of a sample go to TH_TEMP, HBM_STATUS.TEMP and TH_STATUS (R374, R380). (DEDUCED, notes/assumptions/54.md) -/
def State.recordTemps (s : State) (temps : List Int) : State :=
  let t := (List.range 16).map (fun i => temps.getD i 0)
  let s := { s with th := { s.th with temps := t } }
  let (k, h) := leastHeadroom s.headrooms
  let s := s.setFs ((List.range 16).map (fun i => (F.TH_TEMP_T (i / 8) (i % 8), unsint 8 (t.getD i 0))))
  let s := s.setFs ((List.range 12).map (fun i => (F.HBM_STATUS_TEMP (i / 3) (i % 3), unsint 8 (t.getD (4 + i) 0))))
  s.setFs [(F.TH_STATUS_HEADROOM, unsint 8 h), (F.TH_STATUS_SENSOR, k)]

/-- THERMAL_SAMPLE: the next multiple of 100 µs; a trip, or the level table (R374 to R377). Without a valid calibration set each reading is raised by 5 °C (R587). (DEDUCED, notes/assumptions/54.md) -/
def doThermalSample (temps : List Int) (s : State) : State :=
  let s := s.toNs ((s.clk.ns / 100000 + 1) * 100000)
  let s := s.recordTemps (if s.getF F.CAL_STATUS_SOURCE = 2 then temps.map (fun x => x + 5) else temps)
  let (k, h) := leastHeadroom s.headrooms
  let s := { s with th := { s.th with coolSince := if 6 ≤ h then some (s.th.coolSince.getD s.clk.ns) else none, floorSeen := s.th.floorSeen && decide (h < 6) } }
  if s.getF F.TH_STATUS_TRIPPED = 1 then s
  else match (s.headrooms.zipIdx).find? (fun x => decide (x.1 ≤ -5)) with
    | some (_, i) => s.trip i
    | none =>
      let (lv, slow, fast) := s.selectLevel h
      let s : State := if s.getF F.TH_STATUS_LEVEL = lowestLevel s.fused.grade ∧ h ≤ 0 ∧ s.th.floorSeen = false then
          (({ s with th := { s.th with floorSeen := true } }).hwSet F.TH_STATUS_FLOOR 1).raise C.THERMAL_FLOOR 6 0 k 0 0
        else s
      let s : State := { s with th := { s.th with lastSlow := if slow then some s.clk.ns else s.th.lastSlow, lastFast := if fast then some s.clk.ns else s.th.lastFast } }
      s.setLevel lv k

def execThermalSample (temps : List Int) (s : State) : Host.Outcome State Fault Refusal := .next (doThermalSample temps s)

/-- THERMAL_RESTART: a write of RESTART while the clock is stopped and every sensor is 10 °C or more below its limit; otherwise ignored. The stacks leave self-refresh, the clock runs on at the lowest level, with an ACLK_STEP that names the sensor of least headroom where the level changes, and exposures record the gap and then the step (R83, R377, R378, R514, R612). (DEDUCED, notes/assumptions/54.md) -/
def doThermalRestart (s : State) : State :=
  if s.getF F.TH_STATUS_TRIPPED = 1 ∧ s.headrooms.all (fun h => decide (10 ≤ h)) then
    let lv := lowestLevel s.fused.grade
    let s := [0, 1, 2, 3].foldl (fun s n =>
      s.expoAt n (s.th.stopNs.getD (s.partOf n) 0) 0x09 0 0 0 (s.frameCyc (s.partOf n)) 0 (s.gstNs (s.partOf n)) none) s
    let s := (({ s with th := { s.th with selfRefresh := false, thermLow := false } }).setFs
      [(F.TH_STATUS_TRIPPED, 0), (F.TH_STATUS_ACLK, aclkOf s.fused.grade lv)]).setLevel lv (s.getF F.TH_STATUS_SENSOR)
    [0, 1, 2, 3].foldl (fun s n => s.expoShift n) s
  else s

def execThermalRestart (s : State) : Host.Outcome State Fault Refusal := .next (doThermalRestart s)

/-- MIN_LEVEL_WRITE: the fastest permitted level, at most the lowest of the grade; it takes effect at the next sample (R379). -/
def doMinLevelWrite (v : Nat) (s : State) : State := s.setF F.TH_CTRL_MIN_LEVEL (min (bits v 0 4) (lowestLevel s.fused.grade))

def execMinLevelWrite (val : Word) (s : State) : Host.Outcome State Fault Refusal := .next (doMinLevelWrite val.toNat s)

end Sys2Proof.Machine
end

