-- ==== Sys2Proof/Machine/Mgmt.lean ====
section
/-! DEFINITION. The management plane: register reads with the views that follow the machine's other state, register writes with the registers that act, the units a partition may reach, and the Teller's READ, WRITE and CRITICAL (R9 to R13, R33, R38, R39, R253, R466, R526, R548, R554, R556, R558 to R560, R565, R567, R623). -/
namespace Sys2Proof.Machine

/-! Reads (R10, R11, R38). -/

/-- Commands of a die's active bank that the running frame has released (R224). -/
def State.releasedCount (s : State) (n : Nat) : Nat :=
  let p := s.partOf n
  if s.inFrame p then ((s.abank n).cmds.filter (fun c => decide (c.release ≤ s.frameCyc p))).length else 0

/-- Whether a dependency is not met in frame cycle `c` (R223). -/
def State.depOpen (s : State) (n c dep : Nat) : Bool := (s.depMet n dep).all (fun t => decide (c < t))

/-- Whether command `i` of a die is released and waits on a dependency; a fault cancels it (R225, R244). -/
def State.waiting (s : State) (n c i : Nat) : Bool :=
  let d := s.die n
  !(d.run.any (fun r => r.idx == i)) && !(d.done.any (fun r => r.idx == i)) && (s.startLimit n).all (fun l => decide (c ≤ l))
    && (s.cmdAt n i).any (fun x => s.depOpen n c x.dep0 || s.depOpen n c x.dep1 || s.depOpen n c x.dep2)

/-- SCU_STATUS bits that show the commands: NEXT_INDEX, WAITING, RUNNING (R253). (DESIGN CHOICE, notes/assumptions/42.md) -/
def State.scuLive (s : State) (n : Nat) : Nat :=
  let k := s.releasedCount n
  min k 8191 * 2 ^ 32 + b2n ((List.range k).any (s.waiting n (s.frameCyc (s.partOf n)))) * 2 + b2n (!(s.die n).run.isEmpty)

/-- Whether a command runs on a unit of a die. (DESIGN CHOICE, notes/assumptions/42.md) -/
def State.unitBusy (s : State) (n u : Nat) : Bool := (s.die n).run.any (fun r => ((s.cmdAt n r.idx).bind Cmd.unit) == some u)

/-- Entries HELD now, in increasing order (R174). -/
def State.heldNow (s : State) (n : Nat) : List Nat :=
  let c := s.frameCyc (s.partOf n)
  (((s.die n).held.filter (fun h => decide (h.from_ ≤ c) && decide (c < h.until_))).map (fun h => h.entry)).eraseDups.mergeSort (fun a b => decide (a ≤ b))

/-- What to add to a register, modulo 2^64, so that the field at bit `lo` shows `v` instead of the value `old` that it holds. -/
def instead (lo old v : Nat) : Nat := (2 ^ 64 + v * 2 ^ lo - old * 2 ^ lo) % 2 ^ 64

/-- Register bits that follow the machine's other state, at an A-die's address (R133, R174, R217, R253). (DESIGN CHOICE, notes/assumptions/42.md) -/
def State.liveADie (s : State) (n sub o : Nat) : Nat :=
  let p := s.partOf n
  match sub with
  | 1 =>
    if o = 8 then s.scuLive n
    else if o = 0x10 then (s.getF (F.GST_STEP_STEP p) + 2 ^ 32 - s.getF (F.SCU_STEP_JOB_STEP n)) % 2 ^ 32 * 2 ^ 32
    else if 0x40 ≤ o ∧ o < 0xC0 then
      leNat ([0, 1, 2, 3].flatMap (fun (j : Nat) => leBytes 2 (sigValue (s.die n).sig (4 * ((o - 0x40) / 8) + j) (s.frameCyc p))))
    else 0
  | 2 =>
    if o = 8 then
      let (shadow, plane) := s.mxPlanes n (s.frameCyc p)
      b2n (s.unitBusy n 1) + 2 ^ ((F.MXA_STATUS_SHADOW_VALID n).key % 64) * b2n shadow
        + instead ((F.MXA_STATUS_ACTIVE_PLANE n).key % 64) (s.getF (F.MXA_STATUS_ACTIVE_PLANE n)) plane
    else 0
  | 3 =>
    if o = 8 then 2 * b2n (!(s.heldNow n).isEmpty) + b2n (s.unitBusy n 2)
    else if o = 0x10 then
      (match s.sxePos n (s.frameCyc p) with
      | none => 0
      | some (row, seg, slen) =>
        instead ((F.SXE_POS_ROW n).key % 64) (s.getF (F.SXE_POS_ROW n)) row + instead ((F.SXE_POS_SEGMENT n).key % 64) (s.getF (F.SXE_POS_SEGMENT n)) seg
          + instead ((F.SXE_POS_SLEN n).key % 64) (s.getF (F.SXE_POS_SLEN n)) slen)
    else if o = 0x18 then (s.heldNow n).length * 2 ^ 16 + (s.heldNow n).headD 0
    else 0
  | 4 | 5 | 6 | 7 => if o = 0 then b2n (s.unitBusy n sub) else 0
  | _ => 0

/-- The same for every address (R66, R295, R380, R526, R592). (DESIGN CHOICE, notes/assumptions/42.md; DESIGN CHOICE, notes/assumptions/60.md) -/
def State.live (s : State) (a : Nat) : Nat :=
  let off := a % 0x100000000; let sub := off / 0x10000; let o := off % 0x10000
  match dieOfAddr a with
  | some n => s.liveADie n sub o
  | none =>
    match a / 0x100000000, sub with
    | 0x20, 2 => if o = 8 then b2n (s.sve.active == some 1) * 2 ^ (F.SVE_STATUS_ACTIVE_BANK.key % 64) else 0
    | 0x20, 3 =>
      if 0x20 ≤ o ∧ o < 0x60 then
        let c := (o - 0x20) / 8
        b2n (s.pmc.run.any (fun r => (s.pmc.table[r.idx]?).any (fun e => e.on == c)) || (c == 7 && s.mig.isSome)
          || (c == 4 && s.sveJob.any (fun j => !j.loaded))) * 2 ^ ((F.PMOV_STATUS_BUSY c).key % 64)
      else 0
    | 0x30, 7 => if o < 0x400 ∧ o % 0x100 = 0x18 then s.gstNs (o / 0x100) else 0
    | 0x30, 11 => if o = 0x6010 then s.jqueue.length * 2 ^ 32 + 2 * b2n (!s.jnlRoom) else 0
    | 0, 7 => if 0x40 ≤ o ∧ o < 0x80 then fieldAt s.bookDigest (o - 0x40) 8 else 0
    | _, _ => 0

/-- Teller `p`, slot and offset of an address in a message slot (R554). -/
def slotOf (a : Nat) : Option (Nat × Nat × Nat) :=
  if 0x10000 ≤ a ∧ a < 0x50000 ∧ 0x8000 ≤ a % 0x10000 then some (a / 0x10000 - 1, (a % 0x10000 - 0x8000) / 0x2000, a % 0x2000) else none

/-- Teller `p` and offset of an address in an alert ring (R554, R566). -/
def ringOf (a : Nat) : Option (Nat × Nat) :=
  if 0x10000 ≤ a ∧ a < 0x50000 ∧ 0x1000 ≤ a % 0x10000 ∧ a % 0x10000 < 0x2000 then some (a / 0x10000 - 1, a % 0x1000) else none

/-- The tables that are not registers: the completion table of an A-die (R228, R253), the Fault Journal's entries as partition `p` may read them (R565), and a Teller's message slots and alert ring (R554). -/
def State.readTable (s : State) (p a : Nat) : Nat :=
  let off := a % 0x100000000
  match dieOfAddr a with
  | some n =>
    if 0x18000 ≤ off ∧ off < 0x20000 then
      let w := (off - 0x18000) / 8
      let e := fun (i : Nat) => (((s.die n).done.find? (fun x => x.idx == i)).map (fun x => visEntry x.entry)).getD 0
      if (s.abank n).compat ∧ 2048 ≤ w then 0 else e (2 * w) + e (2 * w + 1) * 2 ^ 32
    else 0
  | none =>
    if 0x3000080000 ≤ a ∧ a < 0x30000A0000 then
      let i := (off - 0x80000) / 32
      match s.journal.find? (fun x => x.1 == i) with
      | some (_, e) =>
        let d := bits e.w0 56 3
        if d = 5 ∨ d = 6 ∨ s.partOfUnit d = p then fieldAt (s.jnlBytes i) (off % 32) 8 else 0
      | none => 0
    else match slotOf a, ringOf a with
      | some (q, k, i), _ => fieldAt (Assoc.get s.boot.slots (4 * q + k) []) i 8
      | _, some (q, i) => fieldAt (Assoc.get s.boot.ring (256 * q + i / 16) []) (i % 16) 8
      | _, _ => 0

/-- The value that partition `p` reads at a naturally aligned address of a management block; unimplemented offsets read 0 (R10). -/
def State.readReg (s : State) (p a : Nat) : Nat :=
  match regOf a with
  | some r => (s.regValue r + s.live a) % 2 ^ s.regBits a
  | none => s.readTable p a

/-- Whether an access is accepted: naturally aligned, 64 bits, in a management block (R9, R623). -/
def mgmtOk (a bytes : Nat) : Bool := bytes == 8 && a % 8 == 0 && inBlock a

/-! Writes. -/

/-- TOT_SEL_READ: CTX and INDEX are set, and READ copies the entry (R466). -/
def doTotSelRead (v : Nat) (s : State) : State :=
  let k := bits v 10 3
  let i := bits v 0 10
  let s := s.setFs [(F.TOT_SEL_CTX, k), (F.TOT_SEL_INDEX, i)]
  let s := if bit v 63 then
      let e := s.tot k i
      s.setFs [(F.TOT_DATA0_THRESHOLD, e.thr), (F.TOT_DATA0_COUNT, e.count), (F.TOT_DATA1_FIRED, b2n e.fired), (F.TOT_DATA1_DONE, b2n e.done),
        (F.TOT_DATA1_FAILED, b2n e.failed), (F.TOT_DATA1_RECORD, e.record), (F.TOT_DATA2_CODE, e.code), (F.TOT_DATA2_FENCE, e.fence), (F.TOT_DATA2_CHAIN, e.chain)]
    else s
  s.answer 0 0

def execTotSelRead (val : Word) (s : State) : Host.Outcome State Fault Refusal := .next (doTotSelRead val.toNat s)

/-- A write of a register whose fields act alone: at once, or at the close of a running frame (R11, R39). -/
def State.plainWrite (s : State) (a v : Nat) : State :=
  match regOf a with
  | none => s.answer 0 0
  | some r =>
    let p := s.regPart a
    if r.deferred ∧ s.regInFrame p then ({ s with defer := s.defer ++ [(p, a, v)] }).answer 0 0 else (s.writeAt a r v).answer 0 0

/-- A write into message slot `k` of Teller `p`: dropped while the slot is submitted (R554). (DEDUCED, notes/assumptions/41.md) -/
def State.writeSlot (s : State) (p k i : Nat) (l : List Byte) : State :=
  if bit (s.getF (F.TELLER_STATUS_SLOT_PENDING p)) k then s.answer 0 0
  else
    let b := slice (Assoc.get s.boot.slots (4 * p + k) []) 0 0x2000
    ({ s with boot := { s.boot with slots := Assoc.put s.boot.slots (4 * p + k) (b.take i ++ l ++ b.drop (i + l.length)) [] } }).answer 0 0

/-- Registers of the MGC (R379, R554, R567). -/
def State.writeMgc (s : State) (a sub o v : Nat) : State :=
  if 1 ≤ sub ∧ sub ≤ 4 then
    let p := sub - 1
    if o = 8 then (s.setF (F.TELLER_STATUS_SLOT_PENDING p) (s.getF (F.TELLER_STATUS_SLOT_PENDING p) ||| bits v 0 4)).answer 0 0
    else if o = 0x10 then doHostRingWrite p v s
    else if 0x8000 ≤ o then s.writeSlot p ((o - 0x8000) / 0x2000) ((o - 0x8000) % 0x2000) (leBytes 8 v)
    else s.plainWrite a v
  else if sub = 6 ∧ o = 8 then
    let s := doMinLevelWrite v s
    (if bit v 7 then doThermalRestart s else s).answer 0 0
  else s.plainWrite a v

/-- Registers of an A-die (R233, R239, R249, R364, R510). -/
def State.writeADie (s : State) (n a sub o v : Nat) : State :=
  match sub, o with
  | 1, 0 =>
    let s := (s.writeScuCtrl (s.partOf n) a v).answer 0 0
    if bit v 0 then (doScuAbort n s).answer 0 0 else s
  | 1, 0x10 => (s.writeJobStep (s.partOf n) a v).answer 0 0
  | 1, 0x18 => doScuLoad n v s
  | 9, 0x10 => doHbmRetire n 0 v s
  | 10, 0x10 => doHbmRetire n 1 v s
  | 11, 0x10 => doHbmRetire n 2 v s
  | 14, 0 => doExpArm n v s
  | _, _ => s.plainWrite a v

/-- Registers of the P-die (R256, R320, R333, R368, R373). -/
def State.writePDie (s : State) (a sub o v : Nat) : State :=
  match sub, o with
  | 0, 8 => doPinCfgWrite v s
  | 0, 0x18 => doCoreLoad v s
  | 2, 0x20 => doSveLoad v s
  | 3, 0 => doPmovLoad v s
  | 3, 0x90 => doMigrationStart 0 v s
  | _, _ => s.plainWrite a v

/-- FAB_CTRL: ENABLE, then the operation it starts (R426 to R428, R431). (DEDUCED, notes/assumptions/35.md) -/
def State.writeFabCtrl (s : State) (v : Nat) : State :=
  let s := if v % 2 = s.getF F.FAB_CTRL_ENABLE then s.answer 0 0 else doFabEnableWrite v s
  if bit v 2 then doFabDiscover s else if bit v 3 then doFabApply s else if bit v 4 then doFabSave s else s

/-- CKPT_CTRL of copy `p`: OP, and GO or ABANDON (R473, R484, R497); a GO that carries a reserved OP starts nothing (R15). -/
def State.writeCkptCtrl (s : State) (p v : Nat) : State :=
  let ok := (D.CKPT_CTRL p).fields.all (fun d => d.f.key != (F.CKPT_CTRL_OP p).key || d.takes (bits v d.lo d.f.width))
  let s := (s.writeReg (D.CKPT_CTRL p) v).answer 0 0
  if bit v 62 then doCkptAbandon p s
  else if bit v 63 ∧ ok then
    (match s.getF (F.CKPT_CTRL_OP p) with
      | 1 => doCkptSave p s
      | 2 => doCkptScan p s
      | 3 => doCkptRestore p s
      | _ => s)
  else s

/-- Registers of the F-die (R66, R431, R440, R466, R503 to R508, R521, R523). -/
def State.writeFDie (s : State) (a sub o v : Nat) : State :=
  match sub with
  | 0 => if o = 0x20 then s.writeFabCtrl v else s.plainWrite a v
  | 1 => if 0x200 ≤ o ∧ o < 0x300 then doPortDisableWrite ((o - 0x200) / 8) v s else s.plainWrite a v
  | 2 =>
    if o = 0 then
      let s := if bit v 63 then doTblWrite v s else if bit v 62 then s else (s.tblSel v).answer 0 0
      if bit v 62 then doTblRead v s else s
    else s.plainWrite a v
  | 4 => if o = 0x800 then doTotLoad v s else if o = 0x810 then doTotSelRead v s else s.plainWrite a v
  | 6 =>
    let p := (o - 0x8000) / 0x400
    let r := (o - 0x8000) % 0x400
    if 0x8000 ≤ o ∧ o < 0x9000 then
      (if r = 0 then s.writeCkptCtrl p v else if r = 0x20 ∨ r = 0x30 then doCkptMirrorWrite p r v s else s.plainWrite a v)
    else s.plainWrite a v
  | 7 =>
    let p := o / 0x100
    let r := o % 0x100
    if 0x400 ≤ o then s.plainWrite a v
    else if r = 0 then doGstCtrlWrite p v s
    else if r = 8 ∧ s.getF (F.GST_CTRL_ROLE p) = 0 then (s.setF (F.GST_PERIOD_PERIOD_NS p) v).answer 0 0
    else if r = 0x38 then doFrameLenWrite p v s
    else if r = 0x58 then (if bit v 0 then doFrameResume p s else s.answer 0 0)
    else s.plainWrite a v
  | 11 =>
    if o = 0x5000 then
      let s := doCsArm v s
      if bit v 62 then doCsNow s else s
    else if o = 0x5020 then (if bit v 0 then doTbMeasure s else s.answer 0 0)
    else if o = 0x6000 then doJnlHeadWrite v s
    else if o = 0x6018 then (if bit v 0 then doJnlClearSeen s else s.answer 0 0)
    else s.plainWrite a v
  | _ => s.plainWrite a v

/-- A management write of `v` to a naturally aligned address of a management block (R10, R11, R33). -/
def State.mgmtWrite (s : State) (a v : Nat) : State :=
  let off := a % 0x100000000; let sub := off / 0x10000; let o := off % 0x10000
  match dieOfAddr a with
  | some n => s.writeADie n a sub o v
  | none =>
    match a / 0x100000000 with
    | 0 => s.writeMgc a sub o v
    | 0x20 => s.writePDie a sub o v
    | 0x30 => s.writeFDie a sub o v
    | _ => s.answer 0 0

/-- REGISTER_WRITE: a write over the management plane; one that is not 64 bits wide, not naturally aligned, or outside every block changes nothing but the error response; a message slot also takes 4 bytes (R9, R554, R623). -/
def doRegisterWrite (a bytes v : Nat) (s : State) : State := 
  match slotOf a with
  | some (p, k, i) => if (bytes = 4 ∨ bytes = 8) ∧ a % bytes = 0 then s.writeSlot p k i (leBytes bytes v) else s.refused C.TELLER_ALIGN 6 2 0
  | none => if mgmtOk a bytes then s.mgmtWrite a v else s.refused C.TELLER_ALIGN 6 2 0

def execRegisterWrite (addr bytes : Nat) (val : Word) (s : State) : Host.Outcome State Fault Refusal := .next (doRegisterWrite addr bytes val.toNat s)

/-! Partitions and critical registers (R548, R560). -/

/-- Whether partition `p` may access the unit of an address; `v` is the value of a write (R548). (DEDUCED, notes/assumptions/41.md) -/
def State.mayAccess (s : State) (p a : Nat) (v : Option Nat) : Bool :=
  let off := a % 0x100000000; let sub := off / 0x10000; let o := off % 0x10000
  let own := fun (k : Nat) => s.nicOwner.getD k 0 == p
  match dieOfAddr a with
  | some n => s.partOf n == p
  | none =>
    if a / 0x100000000 = 0 then (if 1 ≤ sub ∧ sub ≤ 4 then sub - 1 == p else v.isNone || p == 0)
    else if a / 0x100000000 = 0x20 then p == 0
    else if sub = 7 ∧ o < 0x400 then o / 0x100 == p
    else if sub = 6 ∧ 0x8000 ≤ o ∧ o < 0x9000 ∧ !(o < 0x8400 ∧ 0x8100 ≤ o) then (o - 0x8000) / 0x400 == p
    else if sub = 4 ∧ o < 0x800 then own (o / 0x100)
    else if sub = 4 then
      (match v with
        | some v => if o = 0x800 then own (bits v 52 3) else if o = 0x810 then own (bits v 10 3) else p == 0
        | none => if 0x818 ≤ o ∧ o < 0x830 then own (s.getF F.TOT_SEL_CTX) else true)
    else v.isNone || p == 0

/-- Whether a write is critical (R560). -/
def isCritical (a v : Nat) : Bool :=
  let off := a % 0x100000000; let sub := off / 0x10000; let o := off % 0x10000
  match dieOfAddr a with
  | some _ => (sub == 1 && o == 0x18) || (decide (9 ≤ sub) && decide (sub ≤ 11) && o == 0x10)
  | none =>
    match a / 0x100000000 with
    | 0x20 => (sub == 0 && (o == 8 || o == 0x18)) || (sub == 2 && o == 0x20) || (sub == 3 && o == 0)
    | 0x30 => (sub == 0 && o == 0x20) || (sub == 1 && decide (0x200 ≤ o) && decide (o < 0x300)) || (sub == 2 && o == 0 && bit v 63)
        || (sub == 4 && o == 0x800) || (sub == 11 && (o == 0x5020 || o == 0x6018))
    | _ => false

/-- Check 7 on the addresses of a request (R558). -/
def State.addrCheck (s : State) (p : Nat) (l : List (Nat × Option Nat)) : Nat :=
  if l.any (fun x => !(mgmtOk x.1 8)) then C.TELLER_ALIGN else if l.any (fun x => !(s.mayAccess p x.1 x.2)) then C.TELLER_PARTITION else 0

/-- Writes one after another; the first that its unit refuses undoes them all (R558). -/
def State.tellerWrites (s : State) (l : List (Nat × Nat)) : Reply × State :=
  let (code, t) := l.foldl (fun (x : Nat × State) (w : Nat × Nat) =>
    if x.1 ≠ 0 then x else (let t := x.2.mgmtWrite w.1 w.2; (t.out.code, t))) (0, s)
  if code = 0 then (Reply.ok [], t) else (Reply.no code, s)

/-- TELLER_READ. -/
def doTellerRead (r : TellerReq) (s : State) : State :=
  s.serve r ⟨0x10, .r, false, false⟩ 0x10 (fun s =>
    let l := (List.range (min 512 (fieldAt r.payload 0 4))).map (fun (i : Nat) => fieldAt r.payload (4 + 8 * i) 8)
    let c := s.addrCheck r.p.val (l.map (fun a => (a, none)))
    if c ≠ 0 then (Reply.no c, s) else (Reply.ok (l.flatMap (fun a => leBytes 8 (s.readReg r.p.val a))), s))

def execTellerRead (req : TellerReq) (s : State) : Host.Outcome State Fault Refusal := .next (doTellerRead req s)

/-- TELLER_WRITE. (DEDUCED, notes/assumptions/41.md) -/
def doTellerWrite (r : TellerReq) (s : State) : State :=
  s.serve r ⟨0x11, .w, false, false⟩ 0x11 (fun s =>
    let l := (List.range (min 256 (fieldAt r.payload 0 4))).map (fun (i : Nat) => (fieldAt r.payload (4 + 16 * i) 8, fieldAt r.payload (12 + 16 * i) 8))
    let c := s.addrCheck r.p.val (l.map (fun x => (x.1, some x.2)))
    if c ≠ 0 then (Reply.no c, s)
    else if l.any (fun x => isCritical x.1 x.2) then (Reply.no C.TELLER_NEED_CRITICAL, s)
    else s.tellerWrites l)

def execTellerWrite (req : TellerReq) (s : State) : Host.Outcome State Fault Refusal := .next (doTellerWrite req s)

/-- TELLER_CRITICAL. -/
def doTellerCritical (r : TellerReq) (s : State) : State :=
  let a := fieldAt r.payload 0 8
  let v := fieldAt r.payload 8 8
  s.serve r ⟨0x12, .c, false, false⟩ (bits a 8 32) (fun s =>
    let c := s.addrCheck r.p.val [(a, some v)]
    if c ≠ 0 then (Reply.no c, s)
    else if isCritical a v = false then (Reply.no C.TELLER_NOT_CRITICAL, s)
    else s.tellerWrites [(a, v)])

def execTellerCritical (req : TellerReq) (s : State) : Host.Outcome State Fault Refusal := .next (doTellerCritical req s)

end Sys2Proof.Machine
end

