-- ==== Sys2Proof/Machine/CoreExec.lean ====
section
/-! DEFINITION. Core instructions: elements and vector views, timing, memory accesses and pin breaks, exceptions, and the meanings of the vector, reduction, ledger and scalar commands (R299 to R319, R323 to R326). -/
namespace Sys2Proof.Machine

/-! Elements of registers and register groups (R299, R301). -/

/-- Element width in bits of a SEW code. -/
def sewBits (k : Nat) : Nat := 8 * 2 ^ (k % 4)

/-- BITS of VLEN. -/
def Core.vbits (x : Core) : Nat := bits x.vlen 0 16

/-- SEW of VLEN, in bits. -/
def Core.vsew (x : Core) : Nat := sewBits (bits x.vlen 16 3)

/-- Element width of an instruction: VLEN.SEW for LVX, W for SVX (R303). -/
def Core.width (x : Core) (lvx : Bool) (w : Nat) : Nat := if lvx then x.vsew else sewBits w

/-- Elements in range: VCNT for LVX, all of 512 bits for SVX (R302, R308). -/
def Core.limit (x : Core) (lvx : Bool) (sw : Nat) : Nat := if lvx then x.vcnt else 512 / sw

/-- Registers an operand names (R301). -/
def Core.group (x : Core) (lvx : Bool) : Nat := if lvx then x.vbits / 512 else 1

/-- Passes (R304). -/
def Core.passes (x : Core) (lvx : Bool) (sw : Nat) : Nat := if lvx then max 1 (cdiv (x.vcnt * sw) 256) else 2

/-- Element `i` of the register or group that starts at register `r` (R299, R301). -/
def Core.elem (x : Core) (sw r i : Nat) : Nat := bits (x.vec (r + i * sw / 512)) (i * sw % 512) sw

def Core.setElem (x : Core) (sw r i v : Nat) : Core :=
  x.setV (r + i * sw / 512) (setBits (x.vec (r + i * sw / 512)) (i * sw % 512) sw v)

/-- Whether a qualifier admits element `i` (R302). -/
def Core.admits (x : Core) (q : Option (Fin 8)) (i : Nat) : Bool :=
  match q with
  | none => true
  | some q => bit (x.qual q.val) i

/-- The active elements from `lo` up to `hi`, in increasing order (R302, R308). -/
def Core.active (x : Core) (q : Option (Fin 8)) (lo hi : Nat) : List Nat :=
  ((List.range (hi - lo)).map (fun (k : Nat) => lo + k)).filter (fun i => x.admits q i)

/-- The rounding mode of an instruction (R311). -/
def Core.rm (x : Core) (r : Option (Fin 4)) : Rm :=
  Rm.ofCode (match r with
    | some k => k.val
    | none => bits x.fcsr 5 2)

/-- OR flags into FCSR.FLAGS (R312). -/
def Core.orFlags (x : Core) (fl : Nat) : Core := { x with fcsr := setBits x.fcsr 0 5 (bits x.fcsr 0 5 ||| fl) }

/-- Whether an enabled trap is among the flags (R312). -/
def Core.traps (x : Core) (fl : Nat) : Bool := bits x.fcsr 8 5 &&& fl != 0

/-- DEDUCED, notes/assumptions/24.md. -/
def Core.advance (x : Core) : Core := { x with pc := (x.pc + 4) % 2 ^ 64 }

/-! Floating-point operations (R311, R313). -/

/-- Operations of one operand. -/
def fpUnary (op : FpOp) : Bool :=
  match op with
  | .sqrt | .neg | .abs | .cvt _ | .rint _ | .toInt _ _ | .fromInt _ => true
  | _ => false

def fmtOfWidth (w : Nat) : Fmt := if w = 64 then fmtF64 else fmtF32

/-- A signaling NaN, which raises INVALID (IEEE 754-2019). -/
def isSnan (f : Fmt) (x : Nat) : Bool := (f.decode x).isNan && !(bit x (f.mw - 1))

/-- The operands whose signaling NaNs raise INVALID: those of a sign operation and integers raise nothing (IEEE 754-2019). -/
def fpReads (op : FpOp) (a b c : Nat) : List Nat :=
  match op with
  | .sqrt | .rint _ | .toInt _ _ => [a]
  | .fma => [a, b, c]
  | .neg | .abs | .copySign | .cvt _ | .fromInt _ => []
  | _ => [a, b]

/-- An encoding with sign `neg`; a NaN is canonical (R313). -/
def withSign (f : Fmt) (neg : Bool) (a : Nat) : Nat :=
  if (f.decode a).isNan then f.cnan else setBits a (f.ew + f.mw) 1 (b2n neg)

/-- IEEE 754-2019 remainder: x − y × n for the integer n nearest to x / y, ties to even; exact, with the sign of x when it is 0. -/
def Fmt.rem (f : Fmt) (a b : Fv) : Nat × Nat :=
  match a, b with
  | .nan, _ => (f.cnan, 0)
  | _, .nan => (f.cnan, 0)
  | .inf _, _ => (f.cnan, flagInvalid)
  | .fin s m e, .inf _ => f.roundFin .rne false s m e false
  | .fin s m e, .fin _ n g =>
    if n = 0 then (f.cnan, flagInvalid)
    else
      let k := if e ≤ g then e else g
      let x := m * 2 ^ (e - k).toNat
      let y := n * 2 ^ (g - k).toNat
      let q := x / y
      let r := x % y
      if 2 * r < y ∨ (2 * r = y ∧ q % 2 = 0) then f.roundFin .rne false s r k false else f.roundFin .rne false (!s) (y - r) k false

/-- Rounded to an integral value in the format (IEEE 754-2019). -/
def Fmt.rint (f : Fmt) (rm : Rm) (exact : Bool) (a : Fv) : Nat × Nat :=
  match a with
  | .fin s m e =>
    let (q, inx) := roundInt rm s m e
    (f.roundFin .rne false s q.natAbs 0 false |>.1, if exact && inx then flagInexact else 0)
  | v => f.round rm false v

/-- Rounded to an integer of `w` bits. A NaN, an infinity and a value out of range raise INVALID, and what is delivered then is open in IEEE 754-2019. (DESIGN CHOICE, notes/assumptions/23.md) -/
def coreToInt (f : Fmt) (rm : Rm) (w : Nat) (signed exact : Bool) (a : Nat) : Nat × Nat :=
  let bad := (Config.coreInt (0x2000 + w) a (2 * f.width + b2n signed) % 2 ^ w, flagInvalid)
  match f.decode a with
  | .fin s m e =>
    let (q, inx) := roundInt rm s m e
    let (lo, hi) : Int × Int := if signed then (-(2 ^ (w - 1) : Nat), (2 ^ (w - 1) : Nat)) else (0, (2 ^ w : Nat))
    if q < lo ∨ hi ≤ q then bad else (unsint w q, if exact && inx then flagInexact else 0)
  | _ => bad

/-- An integer of `w` bits rounded to the format (IEEE 754-2019). -/
def coreFromInt (f : Fmt) (rm : Rm) (w : Nat) (signed : Bool) (a : Nat) : Nat × Nat :=
  f.round rm false (Fv.ofInt (if signed then sint w a else (a : Int)))

/-- The convert between the two formats: to FP64 when `dbl`, else to FP32, each in the low bits of its register or 64-bit element (R300, R311). (DESIGN CHOICE, notes/assumptions/23.md) -/
def coreCvt (rm : Rm) (dbl : Bool) (a : Nat) : Nat × Nat :=
  let (src, dst) := if dbl then (fmtF32, fmtF64) else (fmtF64, fmtF32)
  let a := a % 2 ^ src.width
  let (v, fl) := dst.round rm false (src.decode a)
  (v, fl ||| (if isSnan src a then flagInvalid else 0))

/-- Result and flags of an operation on encodings; the FMA accumulates `c`. IEEE 754-2019 leaves open whether ∞ × 0 plus a quiet NaN raises INVALID; so does the model. (DESIGN CHOICE, notes/assumptions/23.md) -/
def coreFp (f : Fmt) (rm : Rm) (op : FpOp) (a b c : Nat) : Nat × Nat :=
  let va := f.decode a
  let vb := f.decode b
  let vc := f.decode c
  let sn := if (fpReads op a b c).any (isSnan f) then flagInvalid else 0
  let (v, fl) : Nat × Nat := match op with
    | .add => f.add rm va vb
    | .sub => f.add rm va vb.neg
    | .mul => f.mul rm va vb
    | .div => f.div rm va vb
    | .sqrt => f.sqrt rm va
    | .fma =>
      if vc.isNan && (Fv.mul va vb).2 != 0 then (f.cnan, flagInvalid * (Config.coreInt 0x1000 a b % 2)) else f.fma rm va vb vc
    | .min => ((f.round rm false (Fv.min va vb)).1, 0)
    | .max => ((f.round rm false (Fv.max va vb)).1, 0)
    | .rem => f.rem va vb
    | .neg => (withSign f (!va.isNeg) a, 0)
    | .abs => (withSign f false a, 0)
    | .copySign => (withSign f (bit b (f.ew + f.mw)) a, 0)
    | .cvt dbl => coreCvt rm dbl a
    | .rint exact => f.rint rm exact va
    | .toInt signed exact => coreToInt f rm f.width signed exact a
    | .fromInt signed => coreFromInt f rm f.width signed a
  (v, fl ||| sn)

/-- Base latency and occupancy of an FP operation of a width (R304). Minimum and maximum take the compare class, sign operations the move class, the remainder the divide class, and rounding to an integral value the convert class. (DESIGN CHOICE, notes/assumptions/23.md) -/
def fpTime (op : FpOp) (w : Nat) : Nat × Nat :=
  match op with
  | .div | .sqrt | .rem => if w = 64 then (20, 8) else (12, 4)
  | .min | .max | .neg | .abs | .copySign => (1, 1)
  | _ => (4, 1)

/-- EQ, NE, LT, LE, GT, GE of an ordering. -/
def relOf (k : Nat) (o : Ordering) : Bool :=
  match k with
  | 0 => o == .eq
  | 1 => o != .eq
  | 2 => o == .lt
  | 3 => o != .gt
  | 4 => o == .gt
  | _ => o != .lt

/-- An FP compare: the bit and the flags; a NaN operand is unordered (IEEE 754-2019). (DESIGN CHOICE, notes/assumptions/23.md) -/
def coreCmp (f : Fmt) (k : Nat) (signaling : Bool) (a b : Nat) : Bool × Nat :=
  let va := f.decode a
  let vb := f.decode b
  if va.isNan || vb.isNan then (k == 1, if signaling || isSnan f a || isSnan f b then flagInvalid else 0)
  else (relOf k (Fv.cmp va vb), 0)

/-- An integer compare. (DESIGN CHOICE, notes/assumptions/23.md) -/
def coreIcmp (w k : Nat) (signed : Bool) (a b : Nat) : Bool :=
  relOf k (if signed then compare (sint w a) (sint w b) else compare a b)

/-- The reduction tree of R314 over encodings, `k` levels deep at most: result and flags; the list is cut at 2^(ceil(log2 n) − 1). A single element is the result as it is, but for a NaN, which becomes the canonical one (R313). -/
def reduceTree (f : Fmt) (rm : Rm) : Nat → List Nat → Nat × Nat
  | 0, l => (withSign f (bit (l.headD 0) (f.ew + f.mw)) (l.headD 0), 0)
  | k + 1, l =>
    if l.length ≤ 1 then (withSign f (bit (l.headD 0) (f.ew + f.mw)) (l.headD 0), 0)
    else
      let h := 2 ^ (Nat.log2 (l.length - 1))
      let (a, fa) := reduceTree f rm k (l.take h)
      let (b, fb) := reduceTree f rm k (l.drop h)
      let (v, fl) := coreFp f rm .add a b 0
      (v, fa ||| fb ||| fl)

/-- ceil(log2 n), 0 for n ≤ 1. -/
def ceilLog2 (n : Nat) : Nat := if n ≤ 1 then 0 else Nat.log2 (n - 1) + 1

/-! Timing (R304, R305, R325). Results are kept by register: G 0 to 31, V and F 32 to 63, Q 64 to 71, the vector configuration 72, FCSR flags 73 and mode 74, the issue of the last instruction 75, the data of the last exchange-store access 76. -/

/-- The first cycle of the first pass that a result allows: an element-wise consumer follows pass by pass, any other waits for the last result. -/
def RegTime.allows (r : RegTime) (elem lvx : Bool) (reg k0 n o : Nat) : Nat :=
  if r.elem && elem && r.lvx == lvx && r.base == reg then
    (List.range n).foldl (fun (m : Nat) (k : Nat) =>
      if k0 ≤ k ∧ r.first ≤ k then max m (r.ready.getD (k - r.first) 0 - o * (k - k0)) else m) 0
  else r.ready.foldl max 0

/-- The cycle in which an instruction starts its first pass `k0` of `n`; `srcs` are (register, how many). -/
def Core.startAt (x : Core) (now : Nat) (ls elem lvx : Bool) (k0 n o : Nat) (srcs : List (Nat × Nat)) : Nat :=
  x.times.foldl (fun (m : Nat) r =>
    if r.reg = 75 then max m (r.ready.headD 0)
    else srcs.foldl (fun (m : Nat) y => if y.1 ≤ r.reg ∧ r.reg < y.1 + y.2 then max m (r.allows elem lvx y.1 k0 n o) else m) m)
    (max now (if ls then x.lsFree else x.dpFree))

/-- The instruction started at `t`, holds its path for `hold` cycles, and its results are ready pass by pass. -/
def Core.timed (x : Core) (ls elem lvx : Bool) (t hold first : Nat) (ready : List Nat) (dests : List (Nat × Nat)) : Core :=
  let ds := dests.flatMap (fun (y : Nat × Nat) => (List.range y.2).map (fun (i : Nat) => (y.1 + i, y.1)))
  let new := ds.map (fun (y : Nat × Nat) => (⟨y.1, y.2, lvx, elem, first, ready⟩ : RegTime))
  let issue : RegTime := ⟨75, 75, false, false, 0, [t]⟩
  { x with
    dpFree := if ls then x.dpFree else t + hold
    lsFree := if ls then t + hold else x.lsFree
    times := issue :: new ++ x.times.filter (fun r => r.reg != 75 && !(ds.any (fun y => y.1 == r.reg))) }

/-- The cycle in which an access of core `c` to an exchange-store address is performed when it is issued in `t`: (cycle − slice) mod 64 = c (R325). -/
def exchangeCycle (c a t : Nat) : Nat := t + (c + a / 64 % 16 + 64 - t % 64) % 64

/-- The cycle in which the data of an access issued in `t` are there: 24 cycles after its slots in the exchange store; otherwise `lat` cycles after issue. (DEDUCED, notes/assumptions/28.md) -/
def State.dataReady (s : State) (c t lat : Nat) (l : List (Nat × Nat)) : Nat :=
  l.foldl (fun (m : Nat) x =>
    if decide (exchangeBase ≤ x.1) && decide (x.1 + x.2 ≤ exchangeBase + s.exchangeSize) then
      (segs 64 x.1 x.2).foldl (fun (m : Nat) y => max m (exchangeCycle c y.1 t + 24)) m
    else max m (t + lat)) t

/-! Exceptions and boundaries (R307, R310, R323, R326, R328). -/

/-- Core `c` takes an exception with the program counter on the instruction: 1 illegal instruction, 2 memory or translation, 3 FP trap, 4 data, 5 interrupt. Other than an FP trap it breaks pinning; the entry of an FP trap costs 24 core cycles. (DEDUCED, notes/assumptions/24.md) -/
def State.takeExc (s : State) (c kind : Nat) : State :=
  let s := if kind = 3 ∨ kind = 5 then s else s.pinBreak c 3
  s.updCore c (fun x =>
    let d := if kind = 3 then 24 else 0
    { x with exc := some (kind, x.pc), dpFree := x.dpFree + d, lsFree := x.lsFree + d })

/-- What happens at an instruction boundary instead of the instruction: nothing on an absent core, the end of an aborted part, an interrupt that is due. (DEDUCED, notes/assumptions/24.md) -/
def State.boundary (s : State) (c : Nat) : Option State :=
  let x := s.core c
  if s.coreAbsent c then some s
  else if s.coreStops c then some (s.endPart c 0 true)
  else if !x.pinned && x.intAt == some 0 then some ((s.updCore c (fun x => { x with intAt := none })).takeExc c 5)
  else none

/-- A core fetches and executes an instruction; outside any entry it runs software (R321, R323). -/
def State.running (s : State) (c : Nat) : State := (s.fetch c).updCore c (fun x => if x.entry.isSome then x else { x with soft := true })

/-! Memory (R316 to R319, R323, R326). -/

/-- Whether the core caches serve a physical address: T1, T2 and T3, but not the addend windows and target words of an ADDER range (R318, R360). -/
def State.cached (s : State) (a : Nat) : Bool :=
  match rowOf a with
  | some .t1 => (s.adderAt (a / 0x2000000000) a).isNone && !(s.targetWord (a / 0x2000000000) a)
  | some .t2 => true
  | some .t3 => true
  | _ => false

/-- Write a line back when it is dirty, and drop it (R318); a line that cannot go, for want of a slot, stays. (DESIGN CHOICE, notes/assumptions/26.md) -/
def State.flushLine (s : State) (a : Nat) : State :=
  match s.ccache.find? (fun l => l.addr == a) with
  | none => s
  | some l =>
    let gone : State := { s with ccache := s.ccache.filter (fun l => l.addr != a) }
    if l.dirty = false then gone
    else
      let (code, t) := gone.extWrite 0x86 a l.bytes
      if code = C.MOV_NO_SLOT then s else t

/-- Lines that the L2 caches and the rest of L3 hold: 64 L2 of 15 ways of 128 KiB, less LS_WAYS of each, and 24 MiB less XS_MIB (R298, R333). -/
def State.cacheLines (s : State) : Nat :=
  131072 * (15 - s.getF F.PIN_CFG_LS_WAYS) + 16384 * (24 - s.getF F.PIN_CFG_XS_MIB)

/-- The caches give up lines: any, at any access, and the oldest when they are full; which lines, and when, is not in the manual (R298). (DESIGN CHOICE, notes/assumptions/26.md) -/
def State.evict (s : State) : State :=
  let (k, s) := s.freshNat
  let s := s.ccache.foldl (fun (s : State) l => if Config.evicts k l.addr then s.flushLine l.addr else s) s
  if s.cacheLines ≤ s.ccache.length then s.flushLine ((s.ccache.head?.map (fun l => l.addr)).getD 0) else s

/-- Bring the 64-byte line at `a` into the caches: the code of its read. (DESIGN CHOICE, notes/assumptions/26.md) -/
def State.fetchLine (s : State) (a : Nat) : Nat × State :=
  let s := s.evict
  if s.ccache.any (fun l => l.addr == a) then (0, s)
  else
    let (code, b, s) := s.extRead 0x86 a 64
    if code ≠ 0 then (code, s) else (0, { s with ccache := s.ccache ++ [⟨a, b, false⟩] })

/-- The bytes [a, a + n) of a cached line. (PRESUMED, notes/assumptions/43.md) -/
def State.lineBytes (s : State) (a n : Nat) : List Byte :=
  ((s.ccache.find? (fun l => l.addr == a / 64 * 64)).map (fun l => (l.bytes.drop (a % 64)).take n)).getD []

/-- DESIGN CHOICE, notes/assumptions/26.md. -/
def State.putLine (s : State) (a : Nat) (b : List Byte) : State :=
  { s with ccache := s.ccache.map (fun l =>
      if l.addr == a / 64 * 64 then { l with bytes := l.bytes.take (a % 64) ++ b ++ l.bytes.drop (a % 64 + b.length), dirty := true } else l) }

/-- The part of a cached read in one line, after the bytes before it. -/
def lineRead (acc : Option (List Byte) × State) (p : Nat × Nat) : Option (List Byte) × State :=
  match acc.1 with
  | none => acc
  | some b =>
    match acc.2.fetchLine (p.1 / 64 * 64) with
    | (0, s) => (some (b ++ s.lineBytes p.1 p.2), s)
    | (_, s) => (none, s)

/-- A cached read of [a, a + n), line by line: none where a line cannot be brought in. -/
def State.cachedRead (s : State) (a n : Nat) : Option (List Byte) × State := (segs 64 a n).foldl lineRead (some [], s)

/-- The part of a cached write of `b` at `a` in one line. -/
def lineWrite (a : Nat) (b : List Byte) (acc : Bool × State) (p : Nat × Nat) : Bool × State :=
  if acc.1 = false then acc
  else match acc.2.fetchLine (p.1 / 64 * 64) with
    | (0, s) => (true, s.putLine p.1 ((b.drop (p.1 - a)).take p.2))
    | (_, s) => (false, s)

/-- A cached write of `b` at `a`, all of it or none. -/
def State.cachedWrite (s : State) (a : Nat) (b : List Byte) : Bool × State :=
  let r := (segs 64 a b.length).foldl (lineWrite a b) (true, s)
  if r.1 then r else (false, s)

/-- A read of [a, a + n) at a physical address: none where the core takes an access exception. -/
def State.coreReadPhys (s : State) (c a n : Nat) : Option (List Byte) × State :=
  if s.cached a then s.cachedRead a n
  else if (rowOf a).isSome then
    let (code, b, s) := s.extRead 0x86 a n
    (if code ≠ 0 then none else some b, s)
  else if s.inWindow a n then
    let (code, b, s) := s.windowRead a n
    if code = 0 then (some b, s)
    else if code = C.CORE_POISON then (let (b, s) := s.freshBytes n; (some b, s.coreFault c C.CORE_POISON))
    else if code = C.CORE_MACHINE_CHECK then (let (b, s) := s.freshBytes n; (some b, s.coreMachineCheck c true))
    else (none, s)
  else if inMgmtWindow a then
    let m := a - mgmtWindow
    if mgmtOk m n && s.mayAccess 0 m none then (some (leBytes n (s.readReg 0 m)), s) else (none, s)
  else if inDoorbells a then (let (b, s) := s.freshBytes n; (some b, s))
  else (none, s)

/-- A core's store to management address `m`, on behalf of partition 0; false where it is turned away (R316, R550). -/
def State.mgmtStore (s : State) (m : Nat) (b : List Byte) : Bool × State :=
  if ((slotOf m).isSome || mgmtOk m b.length) && s.mayAccess 0 m (some (leNat b)) && !(isCritical m (leNat b)) then (true, doRegisterWrite m b.length (leNat b) s)
  else (false, s)

/-- A core's store at offset `x` of the doorbell pages (R316, R331, R438). -/
def State.doorbellStore (s : State) (x : Nat) (b : List Byte) : State :=
  if x % 0x10000 = 0 then doNicDoorbell (x / 0x10000) 0 (leNat b) s
  else if x % 0x10000 = 8 then doTotDoorbellIncrement (x / 0x10000) 0 (leNat b) s
  else s

/-- A write of `b` at a physical address; false where the core takes an access exception. -/
def State.coreWritePhys (s : State) (a : Nat) (b : List Byte) : Bool × State :=
  let n := b.length
  if s.cached a then s.cachedWrite a b
  else if (rowOf a).isSome then
    let (code, s) := s.extWrite 0x86 a b
    (code == 0, s)
  else if s.inWindow a n then (true, s.windowStore a b)
  else if inMgmtWindow a then s.mgmtStore (a - mgmtWindow) b
  else if inDoorbells a then (true, s.doorbellStore (a - doorbellBase) b)
  else (false, s)

/-- The physical pieces (address, bytes) of [va, va + n), and whether every page is in the pinned translation set; none on a translation miss. -/
def physPieces (pages : List PageMap) (va n : Nat) : Option (List (Nat × Nat) × Bool) :=
  let l := (segs 4096 va n).map (fun (p : Nat × Nat) => (pageOf pages p.1).map (fun g => ((g.phys * 4096 + p.1 % 4096, p.2), g.locked)))
  if l.any (fun x => x.isNone) then none
  else let m := l.filterMap id; some (m.map (fun x => x.1), m.all (fun x => x.2))

/-- A load of [va, va + n) or a store of `w` there, with the pin breaks it causes: the bytes, none where the core takes a memory exception. (PRESUMED, notes/assumptions/25.md; DEDUCED, notes/assumptions/28.md) -/
def State.coreAccess (s : State) (c va n : Nat) (w : Option (List Byte)) (pages : List PageMap) : Option (List Byte) × State :=
  match physPieces pages va n with
  | none => (none, s.pinBreak c 2)
  | some (l, locked) =>
    let s := if locked then s else s.pinBreak c 2
    let s := l.foldl (fun (s : State) x => match s.pinCause c x.1 x.2 with
      | some k => s.pinBreak c k
      | none => s) s
    let r := l.foldl (fun (acc : Option (List Byte) × State) x =>
      match acc.1, w with
      | none, _ => acc
      | some b, none => (let (d, s) := acc.2.coreReadPhys c x.1 x.2; (d.map (fun d => b ++ d), s))
      | some b, some v => (let (ok, s) := acc.2.coreWritePhys x.1 ((v.drop b.length).take x.2); (if ok then some (b ++ List.replicate x.2 0) else none, s))) (some [], s)
    if r.1.isNone && w.isSome && decide (1 < l.length) then (none, s) else r

/-- An access to the own local store enters L1D; whether all its lines were there is a function of the accesses since L1D was cleared (R323). (DESIGN CHOICE, notes/assumptions/18.md) -/
def Core.l1Access (x : Core) (write : Bool) (l : List (Nat × Nat)) : Bool × Core :=
  let lines := (l.flatMap (fun (p : Nat × Nat) => segs 64 p.1 p.2)).map (fun (p : Nat × Nat) => p.1 / 64)
  let hit := lines.all (fun a => x.l1.any (fun y => y.1 == a) && Config.l1Keeps x.l1 a)
  (hit, { x with l1 := x.l1 ++ lines.map (fun (a : Nat) => (a, write)) })

/-- Latency of a load outside the exchange store: 5 cycles from the own local store when L1D holds it, otherwise 16 (R304); any latency elsewhere, which lies outside the promise (R67). (DESIGN CHOICE, notes/assumptions/18.md) -/
def State.latency (s : State) (c : Nat) (l : List (Nat × Nat)) : Nat × State :=
  let own := l.filter (fun x => localOf x.1 == some c)
  let (hit, x) := (s.core c).l1Access false own
  let s := if own.isEmpty then s else s.updCore c (fun _ => x)
  if l.all (fun x => localOf x.1 == some c || (decide (exchangeBase ≤ x.1) && decide (x.1 < localBase 0))) then (if hit then 5 else 16, s)
  else
    let (d, s) := s.freshNat
    (5 + d % 2 ^ 32, s)

/-- The stores among an access's pieces that go through L1D (R298, R323). -/
def State.l1Store (s : State) (c : Nat) (l : List (Nat × Nat)) : State :=
  let own := l.filter (fun x => localOf x.1 == some c)
  if own.isEmpty then s else s.updCore c (fun x => (x.l1Access true own).2)

/-! VSETC (R301). -/

/-- DEDUCED, notes/assumptions/24.md. -/
def doVsetc (c gd gs imm : Nat) (s : State) : State :=
  match s.boundary c with
  | some t => t
  | none =>
    let s := s.running c
    let b := bits imm 0 16
    let w := bits imm 16 3
    if (b ≠ 512 ∧ b ≠ 1024 ∧ b ≠ 2048 ∧ b ≠ 4096) ∨ 3 < w then s.takeExc c 1
    else
      let x := s.core c
      let n := min (x.gpr gs) (b / sewBits w)
      let t := x.startAt (s.issueFrom c) false false false 0 1 1 [(gs, 1)]
      s.updCore c (fun x => (({ x.setG gd n with vlen := b + w * 65536, vcnt := n, vstart := 0 }).timed false false false t 1 0 [t + 1] [(gd, 1), (72, 1)]).advance)

def execVsetc (core : Fin 64) (gd gs : Fin 32) (imm : Nat) (s : State) : Host.Outcome State Fault Refusal := .next (doVsetc core gd gs imm s)

/-! Vector instructions (R302 to R310). -/

/-- Run elements in order until one takes an exception: that element, and the state. (DEDUCED, notes/assumptions/24.md) -/
def elemLoop (f : Nat → State → Bool × State) : List Nat → State → Option Nat × State
  | [], s => (none, s)
  | e :: l, s => let (bad, t) := f e s; if bad then (some e, t) else elemLoop f l t

/-- The vector registers an operation names. -/
def vecRegs (i : VecInstr) : List Nat :=
  match i.op with
  | .fp op => [i.vd.val, i.vs1.val] ++ (if fpUnary op || i.scalar then [] else [i.vs2.val])
  | .cmp _ _ | .icmp _ _ => i.vs1.val :: (if i.scalar then [] else [i.vs2.val])
  | .load => [i.vd.val]
  | .store => [i.vs1.val]
  | .permute _ | .other _ => [i.vd.val, i.vs1.val] ++ (if i.scalar then [] else [i.vs2.val])

/-- Whether a vector instruction is illegal: an LVX register number that is no multiple of g, W not 0 in LVX, FP at a width without a format, a convert between formats outside 64-bit elements (R301, R303, R311). (DESIGN CHOICE for the convert, notes/assumptions/23.md) -/
def Core.vecIllegal (x : Core) (i : VecInstr) : Bool :=
  (i.lvx && (i.w != 0 || (vecRegs i).any (fun r => r % x.group true != 0)))
  || (match i.op with
    | .fp (.cvt _) => decide (x.width i.lvx i.w.val ≠ 64)
    | .fp _ => decide (x.width i.lvx i.w.val < 32)
    | .cmp _ _ => decide (x.width i.lvx i.w.val < 32)
    | _ => false)

/-- The second source of element `e`: of VS2, or the scalar in G[VS2] (R303). -/
def Core.second (x : Core) (i : VecInstr) (sw e : Nat) : Nat := if i.scalar then x.gpr i.vs2.val % 2 ^ sw else x.elem sw i.vs2.val e

/-- The active elements of a register or group below `n`, in one number with the places they take, as a permute reads them (R302, R309). -/
def Core.packed (x : Core) (q : Option (Fin 8)) (sw n r : Nat) : Nat :=
  (x.active q 0 n).foldl (fun (m : Nat) (e : Nat) => m + x.elem sw r e * 2 ^ (e * sw) + 2 ^ (4096 + e)) 0

/-- What a permute puts into element `e`: an operation of the SZ-64 reference on the operands as they were before it, and on nothing else. (DESIGN CHOICE, notes/assumptions/23.md) -/
def Core.permuted (x : Core) (i : VecInstr) (k sw e : Nat) : Nat :=
  let n := x.limit i.lvx sw
  Config.coreInt (0x3000 + k + 0x10000 * (e + 0x1000 * sw + 0x100000 * n)) (x.packed i.qual sw n i.vs1.val)
    (if i.scalar then x.gpr i.vs2.val else x.packed i.qual sw n i.vs2.val) % 2 ^ sw

/-- One element of a vector instruction, which began on core state `x0`: whether it takes an exception, and the state. -/
def vecElem (c : Nat) (i : VecInstr) (x0 : Core) (sw e : Nat) (s : State) : Bool × State :=
  let x := s.core c
  let a := x.elem sw i.vs1.val e
  let b := x.second i sw e
  let va := (x.gpr i.vs2.val + e * (sw / 8)) % 2 ^ 64
  match i.op with
  | .fp op =>
    let (v, fl) := coreFp (fmtOfWidth sw) (x.rm i.rm) op a b (x.elem sw i.vd.val e)
    let y := x.orFlags fl
    if x.traps fl then (true, s.updCore c (fun _ => y)) else (false, s.updCore c (fun _ => y.setElem sw i.vd.val e v))
  | .cmp k sg =>
    let (r, fl) := coreCmp (fmtOfWidth sw) k.val sg a b
    let y := x.orFlags fl
    if x.traps fl then (true, s.updCore c (fun _ => y))
    else (false, s.updCore c (fun _ => y.setQ (i.vd.val % 8) (setBits (x.qual (i.vd.val % 8)) e 1 (b2n r))))
  | .icmp k sg => (false, s.updCore c (fun _ => x.setQ (i.vd.val % 8) (setBits (x.qual (i.vd.val % 8)) e 1 (b2n (coreIcmp sw k.val sg a b)))))
  | .load =>
    (match s.coreAccess c va (sw / 8) none i.pages with
    | (some d, s) => (false, s.updCore c (fun x => x.setElem sw i.vd.val e (leNat d)))
    | (none, s) => (true, s))
  | .store =>
    (match s.coreAccess c va (sw / 8) (some (leBytes (sw / 8) a)) i.pages with
    | (some _, s) => (false, s)
    | (none, s) => (true, s))
  | .permute k => (false, s.updCore c (fun _ => x.setElem sw i.vd.val e (x0.permuted i k.val sw e)))
  | .other k => (false, s.updCore c (fun _ => x.setElem sw i.vd.val e (Config.coreInt (0x4000 + k.val) a b % 2 ^ sw)))

/-- Whether an operation runs element by element; loads, stores and permutes on the load-store path or the datapath. -/
def vecElementwise (op : VecOp) : Bool :=
  match op with
  | .permute _ => false
  | _ => true

def vecLoadStore (op : VecOp) : Bool :=
  match op with
  | .load | .store => true
  | _ => false

/-- Base latency and occupancy (R304); a load's results follow the accesses. -/
def vecTime (op : VecOp) (sw : Nat) : Nat × Nat :=
  match op with
  | .fp o => fpTime o sw
  | .permute _ => (3, 1)
  | _ => (1, 1)

/-- Sources of a vector instruction as (register, how many). -/
def vecSources (i : VecInstr) (g : Nat) : List (Nat × Nat) :=
  (match i.op with
  | .load => [(i.vs2.val, 1)]
  | .store => [(32 + i.vs1.val, g), (i.vs2.val, 1)]
  | .fp op => [(32 + i.vs1.val, g)] ++ (if fpUnary op then [] else [if i.scalar then (i.vs2.val, 1) else (32 + i.vs2.val, g)])
      ++ (if op = .fma then [(32 + i.vd.val, g)] else [])
  | _ => [(32 + i.vs1.val, g), if i.scalar then (i.vs2.val, 1) else (32 + i.vs2.val, g)])
  ++ (match i.qual with
    | some q => [(64 + q.val, 1)]
    | none => [])
  ++ (if i.lvx then [(72, 1)] else [])
  ++ (match i.op, i.rm with
    | .fp _, none => [(74, 1)]
    | _, _ => [])

def vecDests (i : VecInstr) (g : Nat) : List (Nat × Nat) :=
  match i.op with
  | .fp _ => [(32 + i.vd.val, g), (73, 1)]
  | .cmp _ _ => [(64 + i.vd.val % 8, 1), (73, 1)]
  | .icmp _ _ => [(64 + i.vd.val % 8, 1)]
  | .store => []
  | _ => [(32 + i.vd.val, g)]

/-- The physical pieces that the active elements of pass `k` of a load or store access. -/
def vecPieces (x : Core) (i : VecInstr) (sw k : Nat) (acts : List Nat) : List (Nat × Nat) :=
  (acts.filter (fun e => e * sw / 256 == k)).flatMap (fun (e : Nat) =>
    ((physPieces i.pages ((x.gpr i.vs2.val + e * (sw / 8)) % 2 ^ 64) (sw / 8)).map (fun p => p.1)).getD [])

/-- The element before which a due interrupt is taken: the first of the next pass, or `n` when none comes before the end (R310). -/
def Core.cutAt (x : Core) (sw n : Nat) : Nat :=
  if x.pinned then n
  else match x.intAt with
    | none => n
    | some e => min n (roundUp e (256 / sw))

/-- Time of a vector instruction from element `lo` over the passes below `p`: its start, and when each pass is ready. -/
def State.vecTimes (s : State) (c : Nat) (i : VecInstr) (sw p k0 : Nat) (acts : List Nat) : Nat × List Nat × State :=
  let x := s.core c
  let (b, o) := vecTime i.op sw
  let t := x.startAt (s.issueFrom c) (vecLoadStore i.op) (vecElementwise i.op) i.lvx k0 p o (vecSources i (x.group i.lvx))
  if i.op = .load then
    let (lat, s) := s.latency c (acts.flatMap (fun (e : Nat) => vecPieces x i sw (e * sw / 256) [e]))
    (t, (List.range (p - k0)).map (fun (k : Nat) => s.dataReady c (t + k) lat (vecPieces x i sw (k0 + k) acts)), s)
  else if i.op = .store then (t, (List.range (p - k0)).map (fun (k : Nat) => t + b + o * k), s.l1Store c (acts.flatMap (fun (e : Nat) => vecPieces x i sw (e * sw / 256) [e])))
  else if vecElementwise i.op then (t, (List.range (p - k0)).map (fun (k : Nat) => t + b + o * k), s)
  else (t, [t + b + o * (p - k0 - 1)], s)

/-- A vector instruction is issued: its path is held, and its results are timed. (DESIGN CHOICE, notes/assumptions/23.md) -/
def State.vecIssue (s : State) (c : Nat) (i : VecInstr) (sw p k0 : Nat) (acts : List Nat) : State :=
  let (t, ready, s) := s.vecTimes c i sw p k0 acts
  let o := (vecTime i.op sw).2
  s.updCore c (fun x => x.timed (vecLoadStore i.op) (vecElementwise i.op) i.lvx t (o * (p - k0)) k0 ready (vecDests i (x.group i.lvx)))

/-- A vector instruction with no element to process holds its path for the passes it takes all the same, at least one with VCNT = 0 (R304, R308). -/
def State.vecHold (s : State) (c : Nat) (ls : Bool) (o k : Nat) : State :=
  if k = 0 then s
  else
    let t := (s.core c).startAt (s.issueFrom c) ls false false 0 k o [(72, 1)]
    s.updCore c (fun x => x.timed ls false false t (o * k) 0 [] [])

/-- A vector instruction on core `c` (R302 to R312, R316, R326). -/
def doVectorInstruction (c : Nat) (i : VecInstr) (s : State) : State :=
  match s.boundary c with
  | some t => t
  | none =>
    let s := s.running c
    let x := s.core c
    let sw := x.width i.lvx i.w.val
    let n := x.limit i.lvx sw
    if x.vecIllegal i then s.takeExc c 1
    else if n ≤ x.vstart then (s.vecHold c (vecLoadStore i.op) (vecTime i.op sw).2 (x.passes i.lvx sw - x.vstart * sw / 256)).updCore c (fun x => { x.advance with vstart := 0 })
    else
      let p := x.passes i.lvx sw
      let k0 := x.vstart * sw / 256
      let m := x.cutAt sw n
      if m ≤ x.vstart then (s.updCore c (fun x => { x with intAt := none })).takeExc c 5
      else
        let acts := x.active i.qual x.vstart m
        let s := s.vecIssue c i sw p k0 acts
        if vecElementwise i.op = false ∧ m < n then (s.updCore c (fun x => { x with vstart := 0, intAt := none })).takeExc c 5
        else
          match elemLoop (vecElem c i x sw) acts s with
          | (some e, s) => (s.updCore c (fun x => { x with vstart := e })).takeExc c (if vecLoadStore i.op then 2 else 3)
          | (none, s) =>
            if m < n then (s.updCore c (fun x => { x with vstart := m, intAt := none })).takeExc c 5
            else s.updCore c (fun x => { x.advance with vstart := 0, intAt := if x.pinned then x.intAt else x.intAt.map (fun _ => 0) })

def execVectorInstruction (core : Fin 64) (instr : VecInstr) (s : State) : Host.Outcome State Fault Refusal := .next (doVectorInstruction core instr s)

/-! FP reductions (R309, R314). -/

/-- DEDUCED, notes/assumptions/24.md. -/
def doFpReduction (c : Nat) (i : RedInstr) (s : State) : State :=
  match s.boundary c with
  | some t => t
  | none =>
    let s := s.running c
    let x := s.core c
    let sw := x.width i.lvx i.w.val
    let n := x.limit i.lvx sw
    let g := x.group i.lvx
    if (i.lvx = true ∧ (i.w ≠ 0 ∨ i.vd.val % g ≠ 0 ∨ i.vs1.val % g ≠ 0)) ∨ sw < 32 then s.takeExc c 1
    else if 0 < x.vstart ∧ n ≤ x.vstart then (s.vecHold c false 1 (x.passes i.lvx sw - x.vstart * sw / 256)).updCore c (fun x => { x.advance with vstart := 0 })
    else if x.cutAt sw n < n then (s.updCore c (fun x => { x with vstart := 0, intAt := none })).takeExc c 5
    else
      let f := fmtOfWidth sw
      let acts := (x.active i.qual x.vstart n).map (fun (e : Nat) => x.elem sw i.vs1.val e)
      let (v, fl) := reduceTree f (x.rm i.rm) 10 acts
      let b := 4 * ceilLog2 acts.length + 2
      let p := x.passes i.lvx sw
      let k0 := x.vstart * sw / 256
      let srcs := [(32 + i.vs1.val, g)] ++ (match i.qual with
        | some q => [(64 + q.val, 1)]
        | none => []) ++ (if i.lvx then [(72, 1)] else []) ++ (if i.rm.isNone then [(74, 1)] else [])
      let t := x.startAt (s.issueFrom c) false false i.lvx k0 p 1 srcs
      let y := (x.orFlags fl).timed false false i.lvx t (p - k0) 0 [t + b + (p - k0 - 1)] [(32 + i.vd.val, 1), (73, 1)]
      if x.traps fl then (s.updCore c (fun _ => { y with vstart := 0 })).takeExc c 3
      else s.updCore c (fun _ => { (y.setElem sw i.vd.val 0 v).advance with vstart := 0 })

def execFpReduction (core : Fin 64) (instr : RedInstr) (s : State) : Host.Outcome State Fault Refusal := .next (doFpReduction core instr s)

/-! Ledger instructions (R315). -/

/-- The element width that holds a format of R97: 8, 16, 32 or 64 bits. -/
def laneOf (fmt : Nat) : Nat := if fmt = 0xB then 64 else if fmt = 0xA then 32 else if fmt = 0x8 ∨ fmt = 0x9 then 16 else 8

/-- The format codes an LG32 takes (R113). (DEDUCED, notes/assumptions/27.md) -/
def lg32Takes (fmt : Nat) : Bool := fmt == 0xA || fmt == 0x8 || fmt == 0x9 || fmt == 0x1 || fmt == 0x2

/-- The addends of a ledger instruction with their element numbers, from VSTART on. -/
def Core.addends (x : Core) (r : LedgerSrc) : List (Nat × Fv) :=
  if r.vec = false then [(0, elemVal r.fmt (x.vec r.reg.val % 2 ^ laneOf r.fmt))]
  else
    let sw := if r.lvx then x.vsew else laneOf r.fmt
    (x.active r.qual x.vstart (x.limit r.lvx sw)).map (fun (e : Nat) => (e, elemVal r.fmt (x.elem sw r.reg.val e % 2 ^ laneOf r.fmt)))

/-- Whether a ledger word of `n` bytes lies in the core's own local store or in the exchange store, aligned to `al` (R118, R315). (DEDUCED, notes/assumptions/27.md) -/
def State.ledgerAt (s : State) (c a n al : Nat) : Bool := a % al == 0 && s.inWindow a n && (s.pinCause c a n).isNone

/-- Shared form of the ledger instructions: the word of `n` bytes aligned to `al`, base latency `b`, `src` its addends, and `f` its new bytes, none when the word is in the wrong phase. (DEDUCED, notes/assumptions/27.md) -/
def State.ledgerOp (s : State) (c a n al b : Nat) (src : Option LedgerSrc) (f : List Byte → List Fv → Option (List Byte)) : State :=
  let x := s.core c
  let vec := src.any (fun r => r.vec)
  let lvx := src.any (fun r => r.vec && r.lvx)
  let illegal := src.any (fun r => r.vec && r.lvx && (r.reg.val % x.group true != 0 || x.vsew != laneOf r.fmt))
  let adds := (src.map (fun r => x.addends r)).getD []
  let sw := (src.map (fun r => if r.lvx then x.vsew else laneOf r.fmt)).getD 64
  let first := if vec then (adds.head?.map (fun y => y.1)).getD 0 else x.vstart
  if illegal then s.takeExc c 1
  else if vec ∧ x.limit lvx sw ≤ x.vstart then (s.vecHold c true 2 (x.passes lvx sw - x.vstart * sw / 256)).updCore c (fun x => { x.advance with vstart := 0 })
  else if vec ∧ adds = [] then (s.vecHold c true 2 (x.passes lvx sw - x.vstart * sw / 256)).updCore c (fun x => { x.advance with vstart := 0 })
  else if s.ledgerAt c a n al = false then (s.updCore c (fun x => { x with vstart := first })).takeExc c 2
  else
      let (code, w, s) := s.windowRead a n
      let p := if vec then x.passes lvx sw - x.vstart * sw / 256 else 1
      let o := if vec then 2 else 1
      let srcs := (src.map (fun r => [(32 + r.reg.val, if r.vec then x.group r.lvx else 1)])).getD []
      let t0 := x.startAt (s.issueFrom c) true false lvx 0 p o srcs
      let t := if localOf a = none then exchangeCycle c a t0 else t0
      let done := fun (s : State) => s.updCore c (fun x => { (x.timed true false lvx t0 (t - t0 + o * p) 0 [t + b + o * (p - 1)] []).advance with
        vstart := if vec then 0 else x.vstart })
      if code = C.CORE_POISON then done (s.coreFault c code)
      else if code ≠ 0 then s.coreMachineCheck c true
      else match f w (adds.map (fun y => y.2)) with
        | some w' => done (s.windowStore a w')
        | none =>
          let s := s.raise C.CORE_LEDGER_PHASE 4 2 c 0 0
          (s.updCore c (fun x => { x with vstart := first })).takeExc c 4

/-- LGA32: add into an LG32 word (R114, R315). (DEDUCED, notes/assumptions/27.md) -/
def doLga32 (c a : Nat) (r : LedgerSrc) (s : State) : State :=
  match s.boundary c with
  | some t => t
  | none =>
    let s := s.running c
    if lg32Takes r.fmt = false then s.takeExc c 1
    else s.ledgerOp c a 64 64 12 (some r) (fun w l => some (l.foldl (fun (y : Lg32) (v : Fv) => y.add v) (Lg32.ofBytes w)).toBytes)

def execLga32 (core : Fin 64) (addr : Nat) (src : LedgerSrc) (s : State) : Host.Outcome State Fault Refusal := .next (doLga32 core addr src s)

/-- LGW1: pass 1 into an LG64W word, refused while PHASE is 1 (R116, R119, R315). (DEDUCED, notes/assumptions/27.md; DESIGN CHOICE for another PHASE byte, notes/assumptions/68.md) -/
def doLgw1 (c a : Nat) (r : LedgerSrc) (s : State) : State :=
  match s.boundary c with
  | some t => t
  | none =>
    let s := s.running c
    if r.fmt ≠ 0xB then s.takeExc c 1
    else s.ledgerOp c a 80 16 10 (some r) (fun w l =>
      let y := Lgw.ofBytes w
      if l.isEmpty then some w else if y.phase = 1 then none else some (l.foldl (fun (y : Lgw) (v : Fv) => y.pass1 v) y).toBytes)

def execLgw1 (core : Fin 64) (addr : Nat) (src : LedgerSrc) (s : State) : Host.Outcome State Fault Refusal := .next (doLgw1 core addr src s)

/-- LGWPH: PHASE 1, WINDOW and COUNT cleared (R315). (DEDUCED, notes/assumptions/27.md) -/
def doLgwph (c a : Nat) (s : State) : State :=
  match s.boundary c with
  | some t => t
  | none => (s.running c).ledgerOp c a 80 16 6 none (fun w _ => some (Lgw.ofBytes w).setPhase.toBytes)

def execLgwph (core : Fin 64) (addr : Nat) (s : State) : Host.Outcome State Fault Refusal := .next (doLgwph core addr s)

/-- LGW2: pass 2 into an LG64W word, refused while PHASE is 0 (R116, R119, R315). (DEDUCED, notes/assumptions/27.md; DESIGN CHOICE for another PHASE byte, notes/assumptions/68.md) -/
def doLgw2 (c a : Nat) (r : LedgerSrc) (s : State) : State :=
  match s.boundary c with
  | some t => t
  | none =>
    let s := s.running c
    if r.fmt ≠ 0xB then s.takeExc c 1
    else s.ledgerOp c a 80 16 14 (some r) (fun w l =>
      let y := Lgw.ofBytes w
      if l.isEmpty then some w else if y.phase = 0 then none else some (l.foldl (fun (y : Lgw) (v : Fv) => y.pass2 v) y).toBytes)

def execLgw2 (core : Fin 64) (addr : Nat) (src : LedgerSrc) (s : State) : Host.Outcome State Fault Refusal := .next (doLgw2 core addr src s)

/-- A scalar write of Fd (R300). -/
def Core.setF (x : Core) (dbl : Bool) (i v : Nat) : Core :=
  x.setV i (setBits (x.vec i) 0 64 (if dbl then v % 2 ^ 64 else v % 2 ^ 32))

/-- LGRD: read out an LG64W word to FP64 (`wide`) or an LG32 word to FP32 with RNE; an LG32 or LG64W of any phase reads out (R115, R117, R315). (DEDUCED, notes/assumptions/27.md) -/
def doLgrd (c a : Nat) (wide : Bool) (fd : Nat) (s : State) : State :=
  match s.boundary c with
  | some t => t
  | none =>
    let s := s.running c
    let (n, al) := if wide then (80, 16) else (64, 64)
    if s.ledgerAt c a n al = false then s.takeExc c 2
    else
      let x := s.core c
      let (code, w, s) := s.windowRead a n
      if code = C.CORE_POISON then
        let (b, s) := s.freshBytes 8
        ((s.coreFault c code).updCore c (fun x => (x.setF wide fd (leNat b)).advance))
      else if code ≠ 0 then s.coreMachineCheck c true
      else
        let (v, fl) := if wide then (Lgw.ofBytes w).readOut else (Lg32.ofBytes w).readOut fmtF32
        let t0 := x.startAt (s.issueFrom c) true false false 0 1 1 []
        let t := if localOf a = none then exchangeCycle c a t0 else t0
        let y := (x.orFlags fl).timed true false false t0 (t - t0 + 1) 0 [t + 8] [(32 + fd, 1), (73, 1)]
        if x.traps fl then (s.updCore c (fun _ => y)).takeExc c 3
        else s.updCore c (fun _ => (y.setF wide fd v).advance)

def execLgrd (core : Fin 64) (addr : Nat) (wide : Bool) (fd : Fin 32) (s : State) : Host.Outcome State Fault Refusal := .next (doLgrd core addr wide fd s)

/-! EXCHANGE_STORE_ACCESS (R325). -/

/-- An access to offset `off` of the exchange store, in the core's phase of the slice; a read answers the bytes. (DEDUCED, notes/assumptions/28.md) -/
def doExchangeStoreAccess (c : Nat) (write : Bool) (off val n : Nat) (s : State) : State :=
  match s.boundary c with
  | some t => t
  | none =>
    let s := s.running c
    let a := exchangeBase + off
    if n = 0 ∨ s.exchangeSize < off + n then (s.pinBreak c 1).takeExc c 2
    else
      let x := s.core c
      let t := x.startAt (s.issueFrom c) true false false 0 1 1 []
      let r := s.dataReady c t 0 [(a, n)]
      let s := s.updCore c (fun x => (x.timed true false false t 1 0 [r] [(76, 1)]).advance)
      if write then (s.windowStore a (leBytes n val)).answer 0 r
      else
        let (code, b, s) := s.windowRead a n
        if code ≠ 0 then s.coreMachineCheck c true else { s with out := ⟨0, r, b⟩ }

def execExchangeStoreAccess (core : Fin 64) (write : Bool) (off val bytes : Nat) (s : State) : Host.Outcome State Fault Refusal :=
  .next (doExchangeStoreAccess core write off val bytes s)

/-! Scalar instructions (R300, R304, R311, R312, R316). -/

/-- An effect of core `c` on its registers alone, in the datapath with latency `b` and occupancy `o`. -/
def State.scalarOp (s : State) (c b o : Nat) (srcs dests : List (Nat × Nat)) (f : Nat → Core → Core) : State :=
  let t := (s.core c).startAt (s.issueFrom c) false false false 0 1 o srcs
  s.updCore c (fun x => ((f t x).timed false false false t o 0 [t + b] dests).advance)

/-- A load or store of core `c`: its time, then the access; `done` writes what a load gives. -/
def State.scalarMem (s : State) (c va n : Nat) (w : Option (List Byte)) (pages : List PageMap) (srcs dests : List (Nat × Nat)) (done : List Byte → Core → Core) : State :=
  let l := ((physPieces pages va n).map (fun p => p.1)).getD []
  let t := (s.core c).startAt (s.issueFrom c) true false false 0 1 1 srcs
  match s.coreAccess c va n w pages with
  | (none, s) => s.takeExc c 2
  | (some b, s) =>
    if w.isSome then (s.l1Store c l).updCore c (fun x => (x.timed true false false t 1 0 [t + 1] dests).advance)
    else
      let (lat, s) := s.latency c l
      s.updCore c (fun x => ((done b x).timed true false false t 1 0 [s.dataReady c t lat l] dests).advance)

/-- The flags `fl` of an FP operation that core `c` performs: a trap when one is enabled, and otherwise the effect `f` at the end of the operation, whose time is `b` and `o` (R307, R312). -/
def State.fpOp (s : State) (c b o fl : Nat) (srcs dests : List (Nat × Nat)) (f : Core → Core) : State :=
  let x := s.core c
  let t := x.startAt (s.issueFrom c) false false false 0 1 o srcs
  let y := (x.orFlags fl).timed false false false t o 0 [t + b] (dests ++ [(73, 1)])
  if x.traps fl then (s.updCore c (fun _ => y)).takeExc c 3 else s.updCore c (fun _ => (f y).advance)

/-- FCSR.RM as a source of an instruction with dynamic rounding. -/
def rmSource (rm : Option (Fin 4)) : List (Nat × Nat) := if rm.isNone then [(74, 1)] else []

/-- Whether a scalar operation's result is an FP64 one. -/
def fpToDbl (op : FpOp) (dbl : Bool) : Bool :=
  match op with
  | .cvt d => d
  | _ => dbl

/-- The sources of a scalar FP operation. -/
def fpSources (op : FpOp) (fd fs1 fs2 : Nat) : List (Nat × Nat) :=
  [(32 + fs1, 1)] ++ (if fpUnary op then [] else [(32 + fs2, 1)]) ++ (if op = .fma then [(32 + fd, 1)] else [])

/-- A scalar FP operation (R300, R311). The convert between the formats takes `dbl` from itself, and an integer conversion stays in the F registers. -/
def State.scalarFp (s : State) (c : Nat) (op : FpOp) (dbl : Bool) (fd fs1 fs2 : Nat) (rm : Option (Fin 4)) : State :=
  let x := s.core c
  let w := if dbl then 64 else 32
  let r := coreFp (fmtOfWidth w) (x.rm rm) op (x.vec fs1 % 2 ^ (if op = .cvt false ∨ dbl then 64 else 32)) (x.vec fs2 % 2 ^ w) (x.vec fd % 2 ^ w)
  let t := fpTime op w
  s.fpOp c t.1 t.2 r.2 (fpSources op fd fs1 fs2 ++ rmSource rm) [(32 + fd, 1)] (fun y => y.setF (fpToDbl op dbl) fd r.1)

/-- Return from an exception: the program counter goes back to the instruction, and after an FP trap the return costs 16 core cycles (R307, R323). With no exception to return from, the next instruction follows. (DESIGN CHOICE, notes/assumptions/24.md) -/
def State.excReturn (s : State) (c : Nat) : State :=
  match (s.core c).exc with
  | none => s.updCore c (fun x => x.advance)
  | some (k, pc) => s.updCore c (fun x =>
      let d := if k = 3 then 16 else 0
      { x with exc := none, pc := pc, dpFree := x.dpFree + d, lsFree := x.lsFree + d })

/-- The effective address of a scalar access. -/
def Core.effAddr (x : Core) (gs : Nat) (off : Word) : Nat := (x.gpr gs + off.toNat) % 2 ^ 64

/-- Bits of FCSR that are not reserved (R312). -/
def fcsrMask (v : Nat) : Nat := bits v 8 5 * 256 + bits v 5 2 * 32 + bits v 0 5

/-- Write the T1 to T3 lines of an address back and invalidate them (R318); on T1 to T3 this breaks pinning with CAUSE 4. -/
def State.cacheOp (s : State) (c va : Nat) (pages : List PageMap) (gs : Nat) : State :=
  match physPieces pages va 1 with
  | none => (s.pinBreak c 2).takeExc c 2
  | some (l, locked) =>
    let a := (l.headD (0, 0)).1
    let s := if locked then s else s.pinBreak c 2
    let s := if rowOf a = some .t1 ∨ rowOf a = some .t2 ∨ rowOf a = some .t3 then s.pinBreak c 4 else s
    let t := (s.core c).startAt (s.issueFrom c) true false false 0 1 1 [(gs, 1)]
    let s := s.flushLine (a / 64 * 64)
    s.updCore c (fun x => (x.timed true false false t 1 0 [t + 1] []).advance)

def doScalarInstruction (c : Nat) (i : ScalarInstr) (s : State) : State :=
  match s.boundary c with
  | some t => t
  | none =>
    let s := s.running c
    let x := s.core c
    match i with
    | .fp op dbl fd fs1 fs2 rm => s.scalarFp c op dbl fd fs1 fs2 rm
    | .fcmp k sg dbl gd fs1 fs2 =>
      let w := if dbl then 64 else 32
      let r := coreCmp (fmtOfWidth w) k.val sg (x.vec fs1.val % 2 ^ w) (x.vec fs2.val % 2 ^ w)
      s.fpOp c 1 1 r.2 [(32 + fs1.val, 1), (32 + fs2.val, 1)] [(gd.val, 1)] (fun y => y.setG gd.val (b2n r.1))
    | .ftoi dbl signed wide exact gd fs rm =>
      let w := if dbl then 64 else 32
      let a := x.vec fs.val % 2 ^ w
      let r := coreToInt (fmtOfWidth w) (x.rm rm) (if wide then 64 else 32) signed exact a
      s.fpOp c 4 1 (r.2 ||| (if isSnan (fmtOfWidth w) a then flagInvalid else 0)) ((32 + fs.val, 1) :: rmSource rm) [(gd.val, 1)]
        (fun y => y.setG gd.val (if wide ∨ signed = false then r.1 else unsint 64 (sint 32 r.1)))
    | .itof dbl signed wide fd gs rm =>
      let w := if wide then 64 else 32
      let r := coreFromInt (fmtOfWidth (if dbl then 64 else 32)) (x.rm rm) w signed (x.gpr gs.val % 2 ^ w)
      s.fpOp c 4 1 r.2 ((gs.val, 1) :: rmSource rm) [(32 + fd.val, 1)] (fun y => y.setF dbl fd.val r.1)
    | .int func gd gs1 gs2 =>
      s.scalarOp c 1 1 [(gs1.val, 1), (gs2.val, 1)] [(gd.val, 1)] (fun _ x => x.setG gd.val (Config.coreInt func (x.gpr gs1.val) (x.gpr gs2.val)))
    | .load gd gs off k signed pages =>
      let n := 2 ^ k.val
      if 3 < k.val then s.takeExc c 1
      else s.scalarMem c (x.effAddr gs.val off) n none pages [(gs.val, 1)] [(gd.val, 1)]
        (fun b x => x.setG gd.val (if signed then unsint 64 (sint (8 * n) (leNat b)) else leNat b))
    | .store gs1 gs off k pages =>
      if 3 < k.val then s.takeExc c 1
      else s.scalarMem c (x.effAddr gs.val off) (2 ^ k.val) (some (leBytes (2 ^ k.val) (x.gpr gs1.val))) pages [(gs1.val, 1), (gs.val, 1)] [] (fun _ x => x)
    | .fload fd gs off dbl pages =>
      s.scalarMem c (x.effAddr gs.val off) (if dbl then 8 else 4) none pages [(gs.val, 1)] [(32 + fd.val, 1)] (fun b x => x.setF dbl fd.val (leNat b))
    | .fstore fs gs off dbl pages =>
      let n := if dbl then 8 else 4
      s.scalarMem c (x.effAddr gs.val off) n (some (leBytes n (x.vec fs.val))) pages [(32 + fs.val, 1), (gs.val, 1)] [] (fun _ x => x)
    | .cache gs off pages => s.cacheOp c (x.effAddr gs.val off) pages gs.val
    | .readFcsr gd => s.scalarOp c 1 1 [(73, 2)] [(gd.val, 1)] (fun _ x => x.setG gd.val x.fcsr)
    | .writeFcsr gs => s.scalarOp c 1 1 [(gs.val, 1)] [(73, 1), (74, 1)] (fun _ x => { x with fcsr := fcsrMask (x.gpr gs.val) })
    | .readCcount gd => s.scalarOp c 1 1 [] [(gd.val, 1)] (fun t x => x.setG gd.val t)
    | .readQ gd q k => s.scalarOp c 1 1 [(64 + q.val, 1)] [(gd.val, 1)] (fun _ x => x.setG gd.val (bits (x.qual q.val) (64 * k.val) 64))
    | .writeQ gs q k => s.scalarOp c 1 1 [(gs.val, 1), (64 + q.val, 1)] [(64 + q.val, 1)] (fun _ x => x.setQ q.val (setBits (x.qual q.val) (64 * k.val) 64 (x.gpr gs.val)))
    | .ret => s.excReturn c

def execScalarInstruction (core : Fin 64) (instr : ScalarInstr) (s : State) : Host.Outcome State Fault Refusal := .next (doScalarInstruction core instr s)

end Sys2Proof.Machine
end

