-- ==== Sys2Proof/Machine/FabCmd.lean ====
section
/-! DEFINITION. What a packet does when it arrives: operations at a target, answers at a source, retransmission, and the collective packets (R392 to R394, R403 to R421, R449, R450, R454, R461). -/
namespace Sys2Proof.Machine

/-! Arrival. -/

/-- A packet arrives on an UP port: counted, dropped when a CRC fails, sent on when its DST is another package's, and otherwise handed to its partition (R390, R394, R399). -/
def State.arrive (s : State) (k : Packet) (op : Nat) (run : Nat → Packet → State → State) : State :=
  if s.isUp k.port.val = false then s
  else
    let s := s.count 5 (8 * k.port.val + 2) 1
    if k.crcOk = false then s.dropCrc k
    else
    let k : Packet := { k with op := op }
    match s.partOfNode k.dst with
      | none => s.emit k
      | some p => run p k s

/-- What follows every arrival: RELEASEs whose predecessors are complete, and triggers of fences that completed (R413, R420, R441). -/
def State.afterPacket (s : State) : State := (s.settleReleases).settleFences

/-- The answer stored for a complete transfer is sent again, for the last packet of a copy with RETX set (R410). -/
def State.answerAgain (s : State) (p : Nat) (k : Packet) : State :=
  if k.retx && k.pkt + 1 == k.npkt then
    match (s.peer p k.src).answers.find? (fun a => a.1 == k.seq) with
    | some (_, op, b) => s.sendAnswer k op b true
    | none => s
  else s

/-- Deduplication at a target (R410): `fresh` performs a packet not yet received; `again` handles one of a complete transfer. (DEDUCED, notes/assumptions/32.md) -/
def State.dedupe (s : State) (p : Nat) (k : Packet) (again fresh : State → State) : State :=
  match (s.peer p k.src).class k.seq with
  | 0 => s.satF F.FAB_REFUSED_OTHER 1
  | 1 => again s
  | _ => if ((s.peer p k.src).got k.seq).contains k.pkt then s else fresh s

/-- A refused transfer: counted, journalled, and answered with NACK (R403). -/
def State.refuseIn (s : State) (p code : Nat) (k : Packet) : State :=
  (s.refuse p code k.src k.region).finishIn p k 9 (nackBytes code)

/-- A target's access faulted (R403). -/
def State.targetError (s : State) (p : Nat) (k : Packet) : State := s.finishIn p k 9 (nackBytes C.FAB_TARGET_ERROR)

/-! WRITE and ADD, with the staging and down transfers of collectives (R403, R405, R453 to R456). -/

/-- The group whose staging area a WRITE addresses (R453). -/
def State.stageOf (s : State) (k : Packet) : Option Group :=
  match s.group k.group with
  | some gr => if k.op = 1 ∧ k.region = gr.stageRegion ∧ gr.stageAddr ≤ k.addr ∧ k.addr < gr.stageAddr + (gr.nchild + 1) * gr.depth * 262144 then some gr else none
  | none => none

/-- Perform one packet of a WRITE or ADD. -/
def State.performPacket (s : State) (p : Nat) (k : Packet) : Nat × State :=
  match s.stageOf k with
  | some gr =>
    let (c, s) := if gr.root = false ∧ k.src = gr.parent then s.extWrite 0xA0 (k.addr + gr.nchild * gr.depth * 262144) k.payload else s.stagePacket k.group gr k.addr k.payload
    if c = 0 then (0, s) else (C.FAB_TARGET_ERROR, s.raiseP p c 0 0 0)
  | none =>
    let (c, _, s) := s.performOp p k.op k.addr k.payload
    (c, s)

/-- A collective's WRITE is complete: anchors, a child's chunk, or results. -/
def State.collectiveWrite (s : State) (k : Packet) (bytes : Nat) : State :=
  match s.stageOf k with
  | some gr =>
    if gr.root = false ∧ k.src = gr.parent then
      let base := k.addr - (k.addr - gr.stageAddr) % 262144
      s.anchorsIn k.group gr base (s.readMem (base + gr.nchild * gr.depth * 262144) bytes)
    else s.stageDone k.group gr k.addr
  | none => if k.group < 64 then s.downDone k.group k.src (k.addr - 1024 * k.pkt) bytes else s

/-- A WRITE or ADD packet at its target. -/
def State.writePacket (p : Nat) (k : Packet) (s : State) : State :=
  s.dedupe p k (fun s => s.answerAgain p k) (fun s =>
    if s.tooEarly p k then s.dropEarly p k
    else match s.targetCheck k.op k.src k.region k.key k.addr k.payload.length with
      | some code => (s.refuseIn p code k).afterPacket
      | none =>
        let (c, s) := s.performPacket p k
        if c ≠ 0 then (s.targetError p k).afterPacket
        else
          let x := (s.peer p k.src).mark k.seq k.pkt k.payload.length
          let s := s.setPeer x
          if (x.marks k.seq).length < k.npkt then s
          else
            let s := (s.countIn p k).finishIn p k 8 []
            (s.collectiveWrite k (x.bytes k.seq)).afterPacket)

/-- FAB_WRITE_PACKET (R403, R405, R410). -/
def doFabWritePacket (k : Packet) (s : State) : State := s.arrive k 1 State.writePacket

def execFabWritePacket (pkt : Packet) (s : State) : Host.Outcome State Fault Refusal := .next (s.orWait (doFabWritePacket pkt))

/-- FAB_ADD_PACKET (R403, R407, R410). -/
def doFabAddPacket (k : Packet) (s : State) : State := s.arrive k 4 State.writePacket

def execFabAddPacket (pkt : Packet) (s : State) : Host.Outcome State Fault Refusal := .next (s.orWait (doFabAddPacket pkt))

/-! READ, CAS and FADD (R406, R407). -/

/-- Bytes a single-packet operation touches. -/
def Packet.touch (k : Packet) : Nat := if k.op = 2 then fieldAt k.payload 0 2 else if k.op = 5 ∨ k.op = 6 then 8 else 0

/-- A READ is performed: the operation and payload of its answer (R403, R406). -/
def State.fabRead (s : State) (p : Nat) (k : Packet) : Nat × List Byte × State :=
  match s.targetCheck 2 k.src k.region k.key k.addr (fieldAt k.payload 0 2) with
  | some code => (9, nackBytes code, s.refuse p code k.src k.region)
  | none =>
    let (c, d, s) := s.performOp p 2 k.addr k.payload
    if c ≠ 0 then (9, nackBytes C.FAB_TARGET_ERROR, s) else (3, d, s)

/-- FAB_READ_PACKET (R406, R410): a READ that is complete is performed again, and answered again. -/
def doFabReadPacket (k : Packet) (s : State) : State :=
  s.arrive k 2 (fun p k s => s.dedupe p k
    (fun s =>
      let (op, b, s) := s.fabRead p k
      s.sendAnswer k op b false)
    (fun s =>
      let (op, b, s) := s.fabRead p k
      (s.finishIn p k op b).afterPacket))

def execFabReadPacket (pkt : Packet) (s : State) : Host.Outcome State Fault Refusal := .next (s.orWait (doFabReadPacket pkt))

/-- CAS and FADD at their target: performed once, answered with the old value (R407). -/
def State.atomicPacket (p : Nat) (k : Packet) (s : State) : State :=
  s.dedupe p k (fun s => s.answerAgain p k) (fun s =>
    if s.tooEarly p k then s.dropEarly p k
    else match s.targetCheck k.op k.src k.region k.key k.addr 8 with
      | some code => (s.refuseIn p code k).afterPacket
      | none =>
        let (c, d, s) := s.performOp p k.op k.addr k.payload
        if c ≠ 0 then (s.targetError p k).afterPacket else ((s.countIn p k).finishIn p k 7 d).afterPacket)

/-- FAB_CAS_PACKET (R407). -/
def doFabCasPacket (k : Packet) (s : State) : State := s.arrive k 5 State.atomicPacket

def execFabCasPacket (pkt : Packet) (s : State) : Host.Outcome State Fault Refusal := .next (s.orWait (doFabCasPacket pkt))

/-- FAB_FADD_PACKET (R407). -/
def doFabFaddPacket (k : Packet) (s : State) : State := s.arrive k 6 State.atomicPacket

def execFabFaddPacket (pkt : Packet) (s : State) : Host.Outcome State Fault Refusal := .next (s.orWait (doFabFaddPacket pkt))

/-! Tokens (R412, R413). -/

/-- FAB_ACQUIRE: the token is granted, the requester queued among at most 16 waiters, or turned away (R412). -/
def doFabAcquire (k : Packet) (s : State) : State :=
  s.arrive k 0xA (fun p k s => s.dedupe p k (fun s => s.answerAgain p k) (fun s =>
    match s.targetCheck 0xA k.src k.region k.key k.addr 0 with
    | some code => (s.refuseIn p code k).afterPacket
    | none =>
      let r := s.region k.region
      if r.held = false then ((s.setRegion k.region { r with held := true, holder := k.src }).finishIn p k 0xC (nackBytes 0)).afterPacket
      else if r.waiters.length < 16 then (s.setRegion k.region { r with waiters := r.waiters ++ [k] }).setPeer ((s.peer p k.src).mark k.seq k.pkt 0)
      else (s.finishIn p k 0xC (nackBytes C.FAB_TOKEN_BUSY)).afterPacket))

def execFabAcquire (pkt : Packet) (s : State) : Host.Outcome State Fault Refusal := .next (doFabAcquire pkt s)

/-- FAB_RELEASE: it takes effect once every earlier transfer of the holder is complete (R413). -/
def doFabRelease (k : Packet) (s : State) : State :=
  s.arrive k 0xB (fun p k s => s.dedupe p k (fun s => s.answerAgain p k) (fun s =>
    match s.targetCheck 0xB k.src k.region k.key k.addr 0 with
    | some code => (s.refuseIn p code k).afterPacket
    | none => ({ s.setPeer ((s.peer p k.src).mark k.seq k.pkt 0) with fab := { (s.setPeer ((s.peer p k.src).mark k.seq k.pkt 0)).fab with
        releases := s.fab.releases ++ [k] } }).afterPacket))

def execFabRelease (pkt : Packet) (s : State) : Host.Outcome State Fault Refusal := .next (doFabRelease pkt s)

/-! BULK (R416, R417). -/

/-- The records of a BULK: (OP, SIZE, ADDR, data). -/
def bulkRecords : Nat → List Byte → List (Nat × Nat × Nat × List Byte)
  | 0, _ => []
  | n + 1, b =>
    if b.length < 16 then []
    else
      let op := fieldAt b 0 1
      let size := fieldAt b 1 1
      let len := if op = 2 then 0 else size
      (op, size, fieldAt b 8 8, (b.drop 16).take len) :: bulkRecords n (b.drop (16 + roundUp len 8))

/-- One record of a BULK: its result bytes (R417). -/
def State.bulkRecord (s : State) (p : Nat) (k : Packet) (r : Nat × Nat × Nat × List Byte) : List Byte × State :=
  let n := if r.1 = 2 then r.2.1 else if r.1 = 5 ∨ r.1 = 6 then 8 else r.2.2.2.length
  match s.targetCheck r.1 k.src k.region k.key r.2.2.1 n with
  | some code => (leBytes 8 code, s.refuse p code k.src k.region)
  | none =>
    let (c, d, s) := s.performOp p r.1 r.2.2.1 (if r.1 = 2 then leBytes 8 r.2.1 else r.2.2.2)
    (leBytes 8 c ++ (if c = 0 then slice d 0 (roundUp d.length 8) else []), s)

/-- FAB_BULK: the records in order; a refused one does not stop those after it (R417). -/
def doFabBulk (k : Packet) (s : State) : State :=
  s.arrive k 0xD (fun p k s => s.dedupe p k (fun s => s.answerAgain p k) (fun s =>
    if s.tooEarly p k then s.dropEarly p k
    else
      let (b, s) := (bulkRecords 64 k.payload).foldl (fun (acc : List Byte × State) r =>
        let (x, s) := acc.2.bulkRecord p k r
        (acc.1 ++ x, s)) ([], s)
      ((s.countIn p k).finishIn p k 0xE b).afterPacket))

def execFabBulk (pkt : Packet) (s : State) : Host.Outcome State Fault Refusal := .next (s.orWait (doFabBulk pkt))

/-! Other packets. -/

/-- FAB_MGMT: a management message or probe on VC1 is handed to the MGC (R393, R395). -/
def doFabMgmt (k : Packet) (s : State) : State := s.arrive k 0x20 (fun _ k s => s.answerBytes 0 k.payload)

def execFabMgmt (pkt : Packet) (s : State) : Host.Outcome State Fault Refusal := .next (doFabMgmt pkt s)

/-- Whether no operation has an OP (R393): of the collective ones, R449 and the rules after it give 0x10 to 0x13. -/
def reservedOp (op : Nat) : Bool := op == 0 || op == 0xF || (decide (0x14 ≤ op) && op != 0x20)

/-- FAB_RESERVED_OP: a packet with a reserved OP is dropped and counted (R393). -/
def doFabReservedOp (k : Packet) (s : State) : State := s.arrive k k.op (fun _ k s => if reservedOp k.op then s.satF F.FAB_REFUSED_OTHER 1 else s)

def execFabReservedOp (pkt : Packet) (s : State) : Host.Outcome State Fault Refusal := .next (doFabReservedOp pkt s)

/-! Answers at the source (R404, R411, R415 to R417). -/

/-- A record completes, with what its completion triggers (R439, R441). -/
def State.recDone (s : State) (num code : Nat) : State :=
  let (l, s) := s.recComplete num code
  s.settleTots totDepth l

/-- Data for a record's RESP address: the code of a failed write. -/
def State.putResp (s : State) (resp : Nat) (d : List Byte) : Nat × State := if resp = 0 ∨ d.isEmpty then (0, s) else s.extWrite 0xA0 resp d

/-- The answer `op` with payload `b` to a transfer of NIC context `ctx`. -/
def State.nicAnswer (s : State) (op num resp : Nat) (b : List Byte) : State :=
  if op = 0xC then s.recDone num (fieldAt b 0 2)
  else
    let (c, s) := s.putResp resp (if op = 3 ∨ op = 7 then b else [])
    s.recDone num c

/-- The results of a BULK, item by item (R417). -/
def State.bulkAnswer (s : State) : List (Nat × Nat × Nat × Nat) → List Byte → State
  | [], _ => s
  | (op, size, resp, num) :: r, b =>
    let code := fieldAt b 0 2
    let n := if code ≠ 0 then 0 else if op = 2 then size else if op = 5 ∨ op = 6 then 8 else 0
    let (c, s) := if code ≠ 0 then (code, s) else s.putResp resp ((b.drop 8).take n)
    (s.recDone num c).bulkAnswer r (b.drop (8 + roundUp n 8))

/-- An answer of operation `op` reaches the source of transfer `t` (R404, R411). -/
def State.sourceAnswer (s : State) (t : Tx) (op : Nat) (b : List Byte) : State :=
  let s := s.answerTx t false
  let s := match t.org with
    | .nic _ num resp => s.nicAnswer op num resp b
    | .bulk _ _ items => s.bulkAnswer items b
    | .coll g q tag => if op = 8 then s.colAcked g q t.dst tag else s
    | .mirror p n => s.mirrorAcked p n
    | _ => s
  s.sendGathers.afterPacket

/-- An answer packet that names no unanswered transfer is ignored (R411). -/
def State.answerPacket (op : Nat) (p : Nat) (k : Packet) (s : State) : State :=
  match s.openTx p k.src k.seq with
  | none => s
  | some t => s.sourceAnswer t op k.payload

/-- FAB_READ_RESP. -/
def doFabReadResp (k : Packet) (s : State) : State := s.arrive k 3 (State.answerPacket 3)

def execFabReadResp (pkt : Packet) (s : State) : Host.Outcome State Fault Refusal := .next (s.orWait (doFabReadResp pkt))

/-- FAB_ATOMIC_RESP. -/
def doFabAtomicResp (k : Packet) (s : State) : State := s.arrive k 7 (State.answerPacket 7)

def execFabAtomicResp (pkt : Packet) (s : State) : Host.Outcome State Fault Refusal := .next (s.orWait (doFabAtomicResp pkt))

/-- FAB_ACK. -/
def doFabAck (k : Packet) (s : State) : State := s.arrive k 8 (State.answerPacket 8)

def execFabAck (pkt : Packet) (s : State) : Host.Outcome State Fault Refusal := .next (doFabAck pkt s)

/-- FAB_TOKEN_RESP. -/
def doFabTokenResp (k : Packet) (s : State) : State := s.arrive k 0xC (State.answerPacket 0xC)

def execFabTokenResp (pkt : Packet) (s : State) : Host.Outcome State Fault Refusal := .next (doFabTokenResp pkt s)

/-- FAB_BULK_RESP. -/
def doFabBulkResp (k : Packet) (s : State) : State := s.arrive k 0xE (State.answerPacket 0xE)

def execFabBulkResp (pkt : Packet) (s : State) : Host.Outcome State Fault Refusal := .next (s.orWait (doFabBulkResp pkt))

/-- The reports of a transfer's code that were added after the first `n` name its destination and SEQ (R518). -/
def State.nameDest (s : State) (n code dst seq : Nat) : State :=
  if code ≠ C.FAB_RETRY_EXHAUSTED then s
  else { s with reports := s.reports.take n ++ (s.reports.drop n).map (fun r => if r.code = code then { r with loc := dst, value := seq, addrForm := false } else r) }

/-- Whether a transfer is of a command of the present frame, which is `mine` if in progress or complete: a mover's command completes with the F-die's acknowledgement, before the answer from the other package (R404, R405). -/
def State.ofFrame (s : State) (t : Tx) (mine : Bool) : Bool := t.step == s.jobStep t.part && mine

/-- A transfer ends with a NACK's code, or without an answer: the mover's command or channel's entry faults, also when it is complete, records complete with the code, a collective fails (R404, R411, R459). (DEDUCED, notes/assumptions/32.md) -/
def State.sourceNack (s : State) (t : Tx) (code : Nat) : State :=
  let s := s.answerTx t true
  let n := s.reports.length
  let s := match t.org with
    | .mover die m idx desc =>
      if s.ofFrame t ((s.runAt die idx).any (fun (r : RunCmd) => r.fault.isNone) || (s.die die).done.any (fun x => x.idx == idx)) = false then s
      else s.faultMove die m idx desc 2 code (max (((s.runAt die idx).map (fun (r : RunCmd) => r.start)).getD 0) (s.frameCyc (s.partOf die))) (0, 0)
    | .pmc ch i =>
      (match s.pmc.table[i]? with
      | some e =>
        if s.ofFrame t (s.pmc.run.any (fun (r : SeqRun) => r.idx == i && !r.fault) || s.pmc.done.any (fun x => x.1 == i)) = false then s
        else s.faultPmov ch i e.num code (max (((s.pmc.run.find? (fun (r : SeqRun) => r.idx == i)).map (fun (r : SeqRun) => r.start)).getD 0) (s.frameCyc 0))
      | none => s)
    | .nic k num _ => (s.countNic k 7).recDone num code
    | .bulk k _ items => items.foldl (fun (s : State) (x : Nat × Nat × Nat × Nat) => s.recDone x.2.2.2 code) (s.countNic k 7)
    | .coll g q tag => s.colNacked g q t.dst tag
    | .mirror p x => s.restoreNacked p x code
    | .chunk _ _ => s
  let s := if code = C.FAB_RETRY_EXHAUSTED ∧ !((s.reports.drop n).any (fun r => r.code == code)) then s.raise code 5 2 t.dst 0 t.seq else s
  (s.nameDest n code t.dst t.seq).sendGathers.afterPacket

/-- FAB_NACK (R404). -/
def doFabNack (k : Packet) (s : State) : State :=
  s.arrive k 9 (fun p k s => match s.openTx p k.src k.seq with
    | none => s
    | some t => s.sourceNack t (fieldAt k.payload 0 2))

def execFabNack (pkt : Packet) (s : State) : Host.Outcome State Fault Refusal := .next (doFabNack pkt s)

/-- The timeout of a level in fabric nanoseconds (R411, R431). (DEDUCED, notes/assumptions/32.md) -/
def State.fabTimeout (s : State) (level : Nat) : Nat :=
  1000 * (match level with
    | 1 => s.getF F.FAB_TIMEOUT_L1_US
    | 2 => s.getF F.FAB_TIMEOUT_L2_US
    | _ => s.getF F.FAB_TIMEOUT_L3_US)

/-- FAB_RETRANSMIT: a transfer's answer has not arrived in time; after the third retransmission it ends (R411). -/
def doFabRetransmit (dst vc seq : Nat) (s : State) : State :=
  match s.fab.txs.find? (fun t => t.dst == dst && t.vc == vc && t.seq == seq && t.sent && !t.answered) with
  | none => s
  | some t =>
    let d := s.fabTimeout t.level
    let s := s.toNs (t.ns + d)
    if 3 ≤ t.tries then s.sourceNack t C.FAB_RETRY_EXHAUSTED
    else
      let s := s.updTx t.part dst seq (fun t => { t with tries := t.tries + 1 })
      let s := s.launch { t with tries := t.tries + 1 } true
      let s := match t.org with
        | .nic k _ _ => s.countNic k 4
        | .bulk k _ _ => s.countNic k 4
        | _ => s
      s.raise C.FAB_RETRANSMIT 5 2 dst 0 (s.clk.ns - t.ns)

def execFabRetransmit (dst vc seq : Nat) (s : State) : Host.Outcome State Fault Refusal := .next (doFabRetransmit dst vc seq s)

/-! Collective packets (R449, R450, R454, R461). -/

/-- Whether a collective packet's source is one the receiver takes (R449). -/
def State.colFrom (s : State) (k : Packet) : Bool :=
  match s.group k.group with
  | none => false
  | some gr => (!gr.root && k.src == gr.parent) || gr.children.contains k.src
      || (k.op == 0x13 && (s.coll.ops ++ s.coll.lastBcast).any (fun o => o.group == k.group && o.op == 0x86 && o.targets.contains k.src))

/-- A collective packet: dropped and counted when it comes from no relative; otherwise numbered, acknowledged and deduplicated as every transfer (R409 to R411, R449). -/
def State.colPacketIn (run : Packet → State → State) (p : Nat) (k : Packet) (s : State) : State :=
  if s.colFrom k = false then s.satF F.FAB_REFUSED_OTHER 1
  else s.dedupe p k (fun s => s.answerAgain p k) (fun s => (run k (s.finishIn p k 8 [])).afterPacket)

/-- A child's COL_UP is held until its operation is posted and every child's is here (R450, R451, R458). -/
def State.takeUp (k : Packet) (s : State) : State :=
  let q := bits k.addr 0 32
  let s := s.takeScalar k.group q
  let s := s.updColl (fun c => { c with ups := c.ups ++ [⟨k.group, q, bits k.addr 32 4, k.src, bits k.addr 40 8, k.payload⟩] })
  s.scalarStep k.group q 3

/-- COL_UP (R450). -/
def doColUp (k : Packet) (s : State) : State := s.arrive k 0x10 (State.colPacketIn State.takeUp)

def execColUp (pkt : Packet) (s : State) : Host.Outcome State Fault Refusal := .next (s.orWait (doColUp pkt))

/-- COL_DOWN from the parent: forwarded to every child; anchors begin the second pass, results end the operation here (R450). -/
def State.takeDown (k : Packet) (s : State) : State :=
  let q := bits k.addr 0 32
  match s.opAt k.group q, s.group k.group with
  | some o, some gr =>
    if gr.root ∨ k.src ≠ gr.parent ∨ o.isBulk ∨ o.fail ≠ 0 then s
    else
      let kind := bits k.addr 32 4
      let s := gr.children.foldl (fun s c => s.colPacket o c 0x11 kind k.payload) s
      if kind = 0 then (s.updOp k.group q (fun x => { x with anchors := k.payload, pass := 1, sentUp := false })).scalarStep k.group q 3
      else s.scalarResult o k.payload
  | _, _ => s

/-- COL_DOWN (R450). -/
def doColDown (k : Packet) (s : State) : State := s.arrive k 0x11 (State.colPacketIn State.takeDown)

def execColDown (pkt : Packet) (s : State) : Host.Outcome State Fault Refusal := .next (s.orWait (doColDown pkt))

/-- COL_CREDIT: the parent has freed a chunk's staging position (R454). -/
def doColCredit (k : Packet) (s : State) : State :=
  s.arrive k 0x12 (State.colPacketIn (fun k s =>
    (s.updColl (fun c => { c with credited := c.credited ++ [(k.group, bits k.addr 0 32)] })).groupStep k.group))

def execColCredit (pkt : Packet) (s : State) : Host.Outcome State Fault Refusal := .next (doColCredit pkt s)

/-- The broadcast that an acknowledgement from `src` is for: of its GSEQ, or the repair that names the node as a target (R461, R464). -/
def State.bcastFor (s : State) (g q src : Nat) : Option CollOp :=
  match s.coll.ops.find? (fun o => o.group == g && o.op == 0x86 && o.targets.contains src) with
  | some o => some o
  | none => s.coll.ops.find? (fun o => o.group == g && o.gseq == q && o.isBcast)

/-- A child's BCAST_ACK: a CRC-64 that differs declares the child failed; one that agrees replaces an earlier acknowledgement (R461, R462, R464). (DEDUCED, notes/assumptions/36.md) -/
def State.takeBcastAck (k : Packet) (s : State) : State :=
  match s.bcastFor k.group (bits k.addr 0 32) k.src with
  | none => s
  | some o =>
    let (crc, s) := s.bcastCrc o
    if crc ≠ fieldAt k.payload 8 8 then (s.bcastLost k.group o.gseq k.src).bcastStep k.group o.gseq
    else
      let nfail := fieldAt k.payload 4 4
      let l := (List.range (min nfail 60)).map (fun i => fieldAt k.payload (16 + 4 * i) 4)
      (s.updOp k.group o.gseq (fun x => { x with acks := x.acks.filter (fun a => a.1 != k.src) ++ [(k.src, fieldAt k.payload 0 4, nfail, l)] })).bcastStep k.group o.gseq

/-- BCAST_ACK (R461 to R464). -/
def doBcastAck (k : Packet) (s : State) : State := s.arrive k 0x13 (State.colPacketIn State.takeBcastAck)

def execBcastAck (pkt : Packet) (s : State) : Host.Outcome State Fault Refusal := .next (doBcastAck pkt s)

end Sys2Proof.Machine
end

