-- ==== Sys2Proof/Machine/Package.lean ====
section
/-! DEFINITION. The laser source control interface and the test access port (R579, R611, R615, R616). -/
namespace Sys2Proof.Machine

/-- Commands are queued for the source unless the link was given up; the first of the queue is in flight (R615, R616). (DESIGN CHOICE, notes/assumptions/62.md) -/
def State.lscPush (s : State) (l : List (Nat × Nat × Nat)) : State := if s.lsc.dead then s else { s with lsc := { s.lsc with queue := s.lsc.queue ++ l } }

/-- LSC_FAULT: READ_STATUS for each channel of the ports that are DOWN (R616). -/
def doLscFault (s : State) : State :=
  let ch := ((List.range 32).filter (fun (p : Nat) => s.getF (F.PORT_STATUS_STATE p) == 3)).flatMap (fun (p : Nat) => (List.range 9).map (fun (k : Nat) => 9 * p + k))
  ({ s with lsc := { s.lsc with fault := true, lost := ch } }).lscPush (ch.map (fun c => (4, c, 0)))

def execLscFault (s : State) : Host.Outcome State Fault Refusal := .next (doLscFault s)

/-- The command in flight failed: it is sent again, or after 3 failures the link is given up (R616). (DESIGN CHOICE, notes/assumptions/62.md) -/
def State.lscRetry (s : State) : State :=
  if s.lsc.queue = [] then s
  else if s.lsc.tries + 1 < 3 then { s with lsc := { s.lsc with tries := s.lsc.tries + 1 } }
  else ({ s with lsc := { s.lsc with tries := 0, dead := true, queue := [] } }).raise C.LSC_LINK_LOST 5 1 0 0 0

/-- The status of channel `c` (R579, R616): a spare switched to it, or none left for it. -/
def State.lscStatus (s : State) (c v : Nat) : State :=
  let s : State := { s with lsc := { s.lsc with lost := s.lsc.lost.filter (fun x => x != c) } }
  let s : State := { s with lsc := { s.lsc with fault := s.lsc.fault && !s.lsc.lost.isEmpty } }
  if bit v 1 then
    (if s.lsc.spares.any (fun x => x.2 == c) then s
    else
      let k := ((List.range 16).find? (fun (k : Nat) => s.lsc.spares.get k 0xFFFF == 0xFFFF)).getD 15
      ((({ s with lsc := { s.lsc with spares := s.lsc.spares.put k c 0xFFFF } } : State).raise C.LASER_SPARED 5 1 c 0 0)).dirty)
  else if bit v 0 then s
  else s.raise C.LASER_SPARES_EXHAUSTED 5 1 c 0 0

/-- LSC_RESPONSE: the answer to the command in flight; a bad CHECK or SEQ counts as a failure (R615, R616). (DESIGN CHOICE, notes/assumptions/62.md) -/
def doLscResponse (frame : List Byte) (s : State) : State :=
  match s.lsc.queue with
  | [] => s
  | (op, c, _) :: r =>
    if frame.length ≠ 8 ∨ fieldAt frame 6 2 ≠ crcOf 0 (frame.take 6) % 65536 ∨ fieldAt frame 5 1 ≠ s.lsc.seq % 256 then s.lscRetry
    else
      let s := { s with lsc := { s.lsc with queue := r, seq := (s.lsc.seq + 1) % 256, tries := 0 } }
      if op = 4 then s.lscStatus c (fieldAt frame 3 2) else s

def execLscResponse (frame : List Byte) (s : State) : Host.Outcome State Fault Refusal := .next (doLscResponse frame s)

/-- LSC_TIMEOUT: no response within 10 µs (R616). -/
def doLscTimeout (s : State) : State := (s.advanceNs 10000).lscRetry

def execLscTimeout (s : State) : Host.Outcome State Fault Refusal := .next (doLscTimeout s)

/-! The test access port (R611). -/

/-- JTAG_IDCODE. -/
def doJtagIdcode (s : State) : State :=
  ({ s with tap := { s.tap with instr := 1 } }).answer 0 (if s.fused.stepping = 2 then 0x20A045A7 else 0x10A045A7)

def execJtagIdcode (s : State) : Host.Outcome State Fault Refusal := .next (doJtagIdcode s)

/-- JTAG_BYPASS. (DESIGN CHOICE, notes/assumptions/62.md) -/
def doJtagBypass (s : State) : State := { s with tap := { s.tap with instr := 0 } }

def execJtagBypass (s : State) : Host.Outcome State Fault Refusal := .next (doJtagBypass s)

/-- JTAG_SAMPLE_PRELOAD: in Darkroom mode the lands are sampled (free values) and the boundary register is loaded; otherwise BYPASS. (DESIGN CHOICE, notes/assumptions/50.md) -/
def doJtagSamplePreload (data : Nat) (s : State) : State :=
  if s.inDarkroom then
    let (v, s) := s.freshNat
    ({ s with tap := ⟨2, data⟩ }).answer 0 v
  else doJtagBypass s

def execJtagSamplePreload (data : Nat) (s : State) : Host.Outcome State Fault Refusal := .next (doJtagSamplePreload data s)

/-- JTAG_EXTEST: in Darkroom mode the boundary register drives the lands; otherwise BYPASS. -/
def doJtagExtest (s : State) : State := if s.inDarkroom then { s with tap := { s.tap with instr := 3 } } else doJtagBypass s

def execJtagExtest (s : State) : Host.Outcome State Fault Refusal := .next (doJtagExtest s)

end Sys2Proof.Machine
end

