-- ==== Sys2Proof/Machine/Meanings.lean ====
section
/-! DEFINITION. Every family's meanings, for the dispatch. -/
end

