-- ==== Sys2Proof/Machine/Dispatch.lean ====
section
/-! DEFINITION. One arm per command: a direct call of its meaning, or a refusal by name. -/
namespace Sys2Proof.Machine

def exec (i : Instr) (s : State) : Host.Outcome State Fault Refusal :=
  match i with
  | .registerWrite addr bytes val => Sys2Proof.Machine.execRegisterWrite addr bytes val s
  | .gstCtrlWrite p val => Sys2Proof.Machine.execGstCtrlWrite p val s
  | .gstTickIssue p ns => Sys2Proof.Machine.execGstTickIssue p ns s
  | .tickReceive p port index rootNs hops ns => Sys2Proof.Machine.execTickReceive p port index rootNs hops ns s
  | .gstTimeout p ns => Sys2Proof.Machine.execGstTimeout p ns s
  | .standbyRootTakeover p ns => Sys2Proof.Machine.execStandbyRootTakeover p ns s
  | .frameStart p => Sys2Proof.Machine.execFrameStart p s
  | .frameClose p => Sys2Proof.Machine.execFrameClose p s
  | .darkPiece piece len => Sys2Proof.Machine.execDarkPiece piece len s
  | .darkPieceEnd piece fault => Sys2Proof.Machine.execDarkPieceEnd piece fault s
  | .frameLenReached p => Sys2Proof.Machine.execFrameLenReached p s
  | .frameResume p => Sys2Proof.Machine.execFrameResume p s
  | .frameLenWrite p val => Sys2Proof.Machine.execFrameLenWrite p val s
  | .commandStart die idx => Sys2Proof.Machine.execCommandStart die idx s
  | .commandComplete die idx cyc => Sys2Proof.Machine.execCommandComplete die idx cyc s
  | .nop die idx => Sys2Proof.Machine.execNop die idx s
  | .fence die idx => Sys2Proof.Machine.execFence die idx s
  | .signal die idx => Sys2Proof.Machine.execSignal die idx s
  | .trigger die idx => Sys2Proof.Machine.execTrigger die idx s
  | .qswitch die idx => Sys2Proof.Machine.execQswitch die idx s
  | .stepval die idx => Sys2Proof.Machine.execStepval die idx s
  | .qload die idx => Sys2Proof.Machine.execQload die idx s
  | .mxa die idx residueFail => Sys2Proof.Machine.execMxa die idx residueFail s
  | .mxaNtileStart die idx n => Sys2Proof.Machine.execMxaNtileStart die idx n s
  | .sxe die idx => Sys2Proof.Machine.execSxe die idx s
  | .sxeAcfWaitEnd die idx => Sys2Proof.Machine.execSxeAcfWaitEnd die idx s
  | .move die idx => Sys2Proof.Machine.execMove die idx s
  | .spmScrub die bank fails => Sys2Proof.Machine.execSpmScrub die bank fails s
  | .linkReplay e l req skip n => Sys2Proof.Machine.execLinkReplay e l req skip n s
  | .moverRetransmit req y skip n => Sys2Proof.Machine.execMoverRetransmit req y skip n s
  | .dependencyEvent p => Sys2Proof.Machine.execDependencyEvent p s
  | .scuLoad die val => Sys2Proof.Machine.execScuLoad die val s
  | .scuLoadDone die => Sys2Proof.Machine.execScuLoadDone die s
  | .scuAbort die => Sys2Proof.Machine.execScuAbort die s
  | .frameDrained p => Sys2Proof.Machine.execFrameDrained p s
  | .sveLoad val => Sys2Proof.Machine.execSveLoad val s
  | .sveLoadDone => Sys2Proof.Machine.execSveLoadDone s
  | .sveProblemStart entry => Sys2Proof.Machine.execSveProblemStart entry s
  | .sveLoadPhaseEnd ns => Sys2Proof.Machine.execSveLoadPhaseEnd ns s
  | .sveDeadline => Sys2Proof.Machine.execSveDeadline s
  | .sveProblemComplete => Sys2Proof.Machine.execSveProblemComplete s
  | .vsetc core gd gs imm => Sys2Proof.Machine.execVsetc core gd gs imm s
  | .vectorInstruction core instr => Sys2Proof.Machine.execVectorInstruction core instr s
  | .fpReduction core instr => Sys2Proof.Machine.execFpReduction core instr s
  | .lga32 core addr src => Sys2Proof.Machine.execLga32 core addr src s
  | .lgw1 core addr src => Sys2Proof.Machine.execLgw1 core addr src s
  | .lgwph core addr => Sys2Proof.Machine.execLgwph core addr s
  | .lgw2 core addr src => Sys2Proof.Machine.execLgw2 core addr src s
  | .lgrd core addr wide fd => Sys2Proof.Machine.execLgrd core addr wide fd s
  | .exchangeStoreAccess core write off val bytes => Sys2Proof.Machine.execExchangeStoreAccess core write off val bytes s
  | .cdone core gs => Sys2Proof.Machine.execCdone core gs s
  | .cidle core => Sys2Proof.Machine.execCidle core s
  | .coreInterrupt core sig => Sys2Proof.Machine.execCoreInterrupt core sig s
  | .coreEntryStart e => Sys2Proof.Machine.execCoreEntryStart e s
  | .coreClockStep temps => Sys2Proof.Machine.execCoreClockStep temps s
  | .coreLoad val => Sys2Proof.Machine.execCoreLoad val s
  | .coreLoadDone => Sys2Proof.Machine.execCoreLoadDone s
  | .pinCfgWrite val => Sys2Proof.Machine.execPinCfgWrite val s
  | .adderWrite req addr data => Sys2Proof.Machine.execAdderWrite req addr data s
  | .adderRead req addr bytes => Sys2Proof.Machine.execAdderRead req addr bytes s
  | .t1EccReread req addr skip tries unit => Sys2Proof.Machine.execT1EccReread req addr skip tries unit s
  | .hbmScrub die stack u => Sys2Proof.Machine.execHbmScrub die stack u s
  | .hbmRetire die stack val => Sys2Proof.Machine.execHbmRetire die stack val s
  | .hbmReserveReplace die stack pc => Sys2Proof.Machine.execHbmReserveReplace die stack pc s
  | .hbmMapOut die stack pc => Sys2Proof.Machine.execHbmMapOut die stack pc s
  | .pmovLoad val => Sys2Proof.Machine.execPmovLoad val s
  | .pmovLoadDone => Sys2Proof.Machine.execPmovLoadDone s
  | .pmovEntryStart entry => Sys2Proof.Machine.execPmovEntryStart entry s
  | .pmovTransferComplete ch cyc => Sys2Proof.Machine.execPmovTransferComplete ch cyc s
  | .migrationStart p val => Sys2Proof.Machine.execMigrationStart p val s
  | .migrationDone => Sys2Proof.Machine.execMigrationDone s
  | .thermalSample temps => Sys2Proof.Machine.execThermalSample temps s
  | .thermalRestart => Sys2Proof.Machine.execThermalRestart s
  | .minLevelWrite val => Sys2Proof.Machine.execMinLevelWrite val s
  | .fabWritePacket pkt => Sys2Proof.Machine.execFabWritePacket pkt s
  | .fabReadPacket pkt => Sys2Proof.Machine.execFabReadPacket pkt s
  | .fabReadResp pkt => Sys2Proof.Machine.execFabReadResp pkt s
  | .fabAddPacket pkt => Sys2Proof.Machine.execFabAddPacket pkt s
  | .fabCasPacket pkt => Sys2Proof.Machine.execFabCasPacket pkt s
  | .fabFaddPacket pkt => Sys2Proof.Machine.execFabFaddPacket pkt s
  | .fabAtomicResp pkt => Sys2Proof.Machine.execFabAtomicResp pkt s
  | .fabAck pkt => Sys2Proof.Machine.execFabAck pkt s
  | .fabNack pkt => Sys2Proof.Machine.execFabNack pkt s
  | .fabAcquire pkt => Sys2Proof.Machine.execFabAcquire pkt s
  | .fabRelease pkt => Sys2Proof.Machine.execFabRelease pkt s
  | .fabTokenResp pkt => Sys2Proof.Machine.execFabTokenResp pkt s
  | .fabBulk pkt => Sys2Proof.Machine.execFabBulk pkt s
  | .fabBulkResp pkt => Sys2Proof.Machine.execFabBulkResp pkt s
  | .fabMgmt pkt => Sys2Proof.Machine.execFabMgmt pkt s
  | .fabReservedOp pkt => Sys2Proof.Machine.execFabReservedOp pkt s
  | .fabLinkReplay port cost lane => Sys2Proof.Machine.execFabLinkReplay port cost lane s
  | .laneLightLoss port lane => Sys2Proof.Machine.execLaneLightLoss port lane s
  | .portDownSymbol port => Sys2Proof.Machine.execPortDownSymbol port s
  | .portRetrain port => Sys2Proof.Machine.execPortRetrain port s
  | .portDisableWrite port val => Sys2Proof.Machine.execPortDisableWrite port val s
  | .fabPortUp port => Sys2Proof.Machine.execFabPortUp port s
  | .portUpTimeout port => Sys2Proof.Machine.execPortUpTimeout port s
  | .fabRetransmit dst vc seq => Sys2Proof.Machine.execFabRetransmit dst vc seq s
  | .fabLevelSaturated level vc => Sys2Proof.Machine.execFabLevelSaturated level vc s
  | .egressCreditReturn die level n => Sys2Proof.Machine.execEgressCreditReturn die level n s
  | .fabDiscover => Sys2Proof.Machine.execFabDiscover s
  | .discoverDone links => Sys2Proof.Machine.execDiscoverDone links s
  | .fabApply => Sys2Proof.Machine.execFabApply s
  | .applyDone => Sys2Proof.Machine.execApplyDone s
  | .fabSave => Sys2Proof.Machine.execFabSave s
  | .fabSaveDone => Sys2Proof.Machine.execFabSaveDone s
  | .fabEnableWrite val => Sys2Proof.Machine.execFabEnableWrite val s
  | .tblWrite val => Sys2Proof.Machine.execTblWrite val s
  | .tblRead val => Sys2Proof.Machine.execTblRead val s
  | .gatherTimeout gw key => Sys2Proof.Machine.execGatherTimeout gw key s
  | .nicDoorbell ctx p tail => Sys2Proof.Machine.execNicDoorbell ctx p tail s
  | .totDoorbellIncrement ctx p val => Sys2Proof.Machine.execTotDoorbellIncrement ctx p val s
  | .nicRecordPost ctx => Sys2Proof.Machine.execNicRecordPost ctx s
  | .totLoad val => Sys2Proof.Machine.execTotLoad val s
  | .totLoadDone => Sys2Proof.Machine.execTotLoadDone s
  | .barrier ctx => Sys2Proof.Machine.execBarrier ctx s
  | .scalar ctx => Sys2Proof.Machine.execScalar ctx s
  | .allreduce ctx => Sys2Proof.Machine.execAllreduce ctx s
  | .reduceScatter ctx => Sys2Proof.Machine.execReduceScatter ctx s
  | .allgather ctx => Sys2Proof.Machine.execAllgather ctx s
  | .broadcast ctx => Sys2Proof.Machine.execBroadcast ctx s
  | .repairBcast ctx => Sys2Proof.Machine.execRepairBcast ctx s
  | .colUp pkt => Sys2Proof.Machine.execColUp pkt s
  | .colDown pkt => Sys2Proof.Machine.execColDown pkt s
  | .colCredit pkt => Sys2Proof.Machine.execColCredit pkt s
  | .bcastAck pkt => Sys2Proof.Machine.execBcastAck pkt s
  | .bcastChildTimeout group gseq child => Sys2Proof.Machine.execBcastChildTimeout group gseq child s
  | .collectiveComplete group gseq => Sys2Proof.Machine.execCollectiveComplete group gseq s
  | .reSlotSpare bulk slot => Sys2Proof.Machine.execReSlotSpare bulk slot s
  | .ckptSave p => Sys2Proof.Machine.execCkptSave p s
  | .ckptCommit p => Sys2Proof.Machine.execCkptCommit p s
  | .ckptAbandon p => Sys2Proof.Machine.execCkptAbandon p s
  | .ckptBuddyLost p => Sys2Proof.Machine.execCkptBuddyLost p s
  | .ckptScan p => Sys2Proof.Machine.execCkptScan p s
  | .ckptRestore p => Sys2Proof.Machine.execCkptRestore p s
  | .ckptOpDone p => Sys2Proof.Machine.execCkptOpDone p s
  | .mirrorChunkSend p => Sys2Proof.Machine.execMirrorChunkSend p s
  | .mirrorChunkTake p => Sys2Proof.Machine.execMirrorChunkTake p s
  | .ckptMirrorWrite p off val => Sys2Proof.Machine.execCkptMirrorWrite p off val s
  | .csArm val => Sys2Proof.Machine.execCsArm val s
  | .csNow => Sys2Proof.Machine.execCsNow s
  | .tbMeasure => Sys2Proof.Machine.execTbMeasure s
  | .tbProbeTimeout probe => Sys2Proof.Machine.execTbProbeTimeout probe s
  | .tbMeasureDone stamps => Sys2Proof.Machine.execTbMeasureDone stamps s
  | .expArm die val => Sys2Proof.Machine.execExpArm die val s
  | .expStop die => Sys2Proof.Machine.execExpStop die s
  | .journalReport => Sys2Proof.Machine.execJournalReport s
  | .journalRecord => Sys2Proof.Machine.execJournalRecord s
  | .journalAlert index => Sys2Proof.Machine.execJournalAlert index s
  | .jnlHeadWrite val => Sys2Proof.Machine.execJnlHeadWrite val s
  | .jnlClearSeen => Sys2Proof.Machine.execJnlClearSeen s
  | .pwrokRise env => Sys2Proof.Machine.execPwrokRise env s
  | .bootTimeout => Sys2Proof.Machine.execBootTimeout s
  | .internalRestart env => Sys2Proof.Machine.execInternalRestart env s
  | .pwrokFall => Sys2Proof.Machine.execPwrokFall s
  | .sbyokRise straps => Sys2Proof.Machine.execSbyokRise straps s
  | .sbyokFall => Sys2Proof.Machine.execSbyokFall s
  | .packageReset => Sys2Proof.Machine.execPackageReset s
  | .drIdentity which => Sys2Proof.Machine.execDrIdentity which s
  | .drStatus => Sys2Proof.Machine.execDrStatus s
  | .drNonce => Sys2Proof.Machine.execDrNonce s
  | .drBegin req => Sys2Proof.Machine.execDrBegin req s
  | .drData off data => Sys2Proof.Machine.execDrData off data s
  | .drEnd => Sys2Proof.Machine.execDrEnd s
  | .drEndDone => Sys2Proof.Machine.execDrEndDone s
  | .drRestart env => Sys2Proof.Machine.execDrRestart env s
  | .sessionInit req => Sys2Proof.Machine.execSessionInit req s
  | .sessionInitExpiry host => Sys2Proof.Machine.execSessionInitExpiry host s
  | .sessionFinish req => Sys2Proof.Machine.execSessionFinish req s
  | .sessionClose req => Sys2Proof.Machine.execSessionClose req s
  | .ideStart req => Sys2Proof.Machine.execIdeStart req s
  | .tellerRead req => Sys2Proof.Machine.execTellerRead req s
  | .tellerWrite req => Sys2Proof.Machine.execTellerWrite req s
  | .tellerCritical req => Sys2Proof.Machine.execTellerCritical req s
  | .tellerIdentity req => Sys2Proof.Machine.execTellerIdentity req s
  | .attest req => Sys2Proof.Machine.execAttest req s
  | .tellerTicket req => Sys2Proof.Machine.execTellerTicket req s
  | .jobKeygen req => Sys2Proof.Machine.execJobKeygen req s
  | .jobKeylist req => Sys2Proof.Machine.execJobKeylist req s
  | .nvmUpdate req => Sys2Proof.Machine.execNvmUpdate req s
  | .nvmUpdateDone => Sys2Proof.Machine.execNvmUpdateDone s
  | .svnAdvance req => Sys2Proof.Machine.execSvnAdvance req s
  | .tellerReset req => Sys2Proof.Machine.execTellerReset req s
  | .hostRingWrite p val => Sys2Proof.Machine.execHostRingWrite p val s
  | .hostCxlMemAccess p write addr data len => Sys2Proof.Machine.execHostCxlMemAccess p write addr data len s
  | .hostPerst => Sys2Proof.Machine.execHostPerst s
  | .i3cRead reg write => Sys2Proof.Machine.execI3cRead reg write s
  | .rbRecordWrite => Sys2Proof.Machine.execRbRecordWrite s
  | .spareApply req => Sys2Proof.Machine.execSpareApply req s
  | .sparePolicy req => Sys2Proof.Machine.execSparePolicy req s
  | .calWrite req => Sys2Proof.Machine.execCalWrite req s
  | .calWriteDone => Sys2Proof.Machine.execCalWriteDone s
  | .calExport req => Sys2Proof.Machine.execCalExport req s
  | .calExportDone => Sys2Proof.Machine.execCalExportDone s
  | .selftest req => Sys2Proof.Machine.execSelftest req s
  | .selftestDone fault => Sys2Proof.Machine.execSelftestDone fault s
  | .rbFlush req => Sys2Proof.Machine.execRbFlush req s
  | .lscFault => Sys2Proof.Machine.execLscFault s
  | .lscResponse frame => Sys2Proof.Machine.execLscResponse frame s
  | .lscTimeout => Sys2Proof.Machine.execLscTimeout s
  | .jtagIdcode => Sys2Proof.Machine.execJtagIdcode s
  | .jtagBypass => Sys2Proof.Machine.execJtagBypass s
  | .jtagSamplePreload data => Sys2Proof.Machine.execJtagSamplePreload data s
  | .jtagExtest => Sys2Proof.Machine.execJtagExtest s
  | .scalarInstruction core instr => Sys2Proof.Machine.execScalarInstruction core instr s
  | .fabPacketForward port pkt => Sys2Proof.Machine.execFabPacketForward port pkt s
  | .linkAckSymbol port count => Sys2Proof.Machine.execLinkAckSymbol port count s
  | .vcCreditReturn port vc n => Sys2Proof.Machine.execVcCreditReturn port vc n s
  | .hbmRefreshPoint die stack pc => Sys2Proof.Machine.execHbmRefreshPoint die stack pc s
  | .tellerUnlistedOp req => Sys2Proof.Machine.execTellerUnlistedOp req s
  | .drStagingWrite n => Sys2Proof.Machine.execDrStagingWrite n s
  | .hostPerstRelease => Sys2Proof.Machine.execHostPerstRelease s
  | .totSelRead val => Sys2Proof.Machine.execTotSelRead val s
  | .slinkLaneFault e l hasSpare => Sys2Proof.Machine.execSlinkLaneFault e l hasSpare s
  | .spareUnitTest piece fault => Sys2Proof.Machine.execSpareUnitTest piece fault s
  | .backToBackPiece piece len fault => Sys2Proof.Machine.execBackToBackPiece piece len fault s

end Sys2Proof.Machine
end

