-- ==== Sys2Proof/Machine/Step.lean ====
section
/-! DEFINITION. One step: the command at the front of the queue, or one arithmetic cycle when the queue is empty. -/
namespace Sys2Proof.Machine

/-- Take the front command and run its meaning with the queue's rest; an empty queue lets one arithmetic cycle pass (notes/assumptions/1.md). -/
def step (s : State) : Host.Outcome State Fault Refusal :=
  match s.pending with
  | [] => .next (s.advanceCyc 1)
  | c :: r => exec c { s with pending := r }

/-- The state with the command that a table word spells at the front of its queue. (DESIGN CHOICE, notes/assumptions/9.md) -/
def State.withFetchWord (s : State) (nbits w : Nat) : State :=
  match decodeTableWord nbits w with
  | some c => { s with pending := c :: s.pending }
  | none => s

end Sys2Proof.Machine
end

