-- ==== Sys2Proof/Safety.lean ====
section
/-! DEFINITION. What counts as a sound state: the sparse stores are canonical, so that equal contents are equal data, and the package has its 64 cores and a checkpoint engine per partition. -/
namespace Sys2Proof.Machine

/-- Device memory, the register store and the boot NVM are in canonical form; there are 64 logical cores (R299) and four checkpoint engines (R473). -/
structure State.Inv (s : State) : Prop where
  mem : Memory.wf s = true
  fld : Assoc.sorted s.fld = true
  nvm : Assoc.wf (fun _ => (0xFF : Byte)) s.nvm = true
  cores : s.cores.length = 64
  ckpt : s.ckpt.length = 4

/-- The codes of the events that have been raised and are not yet in the journal's queue, in the order of raising (R516). -/
def State.codes (s : State) : List Nat := s.reports.map (fun r => r.code)

/-- The state in which a row whose accesses the F-die makes begins: none of them waits yet (R40). -/
def State.noWait (s : State) : State := { s with fdieWait := false }

/-- The same state but for the note that an access of the F-die waits, which every row that can wait begins anew (R40). -/
def State.alike (s t : State) : Prop := s.noWait = t.noWait

/-- Every access that the F-die makes in a row has its way: an UP link and, where a plan is active, slots of its own (R40). -/
def State.hasWay (s : State) (f : State → State) : Prop := (f s.noWait).fdieWait = false

/-- A packet is counted at the port it arrived on (R502). -/
def State.counted (s : State) (k : Packet) : State := s.count 5 (8 * k.port.val + 2) 1

/-- A packet that its target has not received, of a transfer that is not complete there (R410). -/
def State.newPacket (s : State) (p : Nat) (k : Packet) : Bool :=
  (s.peer p k.src).class k.seq == 2 && !(((s.peer p k.src).got k.seq).contains k.pkt)

/-- An answer is on its way: sent and kept for replay, or waiting for a port (R385, R399). -/
def State.onItsWay (s : State) (dst op seq : Nat) (payload : List Byte) : Bool :=
  (s.fab.replay ++ s.fab.waiting).any (fun k => k.dst == dst && k.op == op && k.seq == seq && k.payload == payload)

/-- Between two states one transfer was added at the source, with the next SEQ of its destination (R394, R409). -/
def State.sends (s t : State) (part dst op : Nat) (addrs : List (Nat × List Byte)) : Prop :=
  t.fab.txs.length = s.fab.txs.length + 1 ∧ ∃ x, t.fab.txs.getLast? = some x ∧ x.part = part ∧ x.dst = dst ∧ x.op = op ∧
    x.seq = s.fab.seqs.get (part * 2 ^ 28 + dst) 0 ∧ x.addrs = addrs

/-- `n` bytes at `a` that lie in one 64-byte unit of T2 and read without error. -/
def State.t2Unit (s : State) (a n : Nat) : Prop := 0 < n ∧ a % 64 + n ≤ 64 ∧ s.tierOf a = some .t2 ∧ s.poisoned a n = false

/-- The rows whose command is the arrival of a packet for this package, with the packet's OP. -/
def packetRows : List ((Packet → Instr) × Nat) :=
  [(.fabWritePacket, 1), (.fabReadPacket, 2), (.fabReadResp, 3), (.fabAddPacket, 4), (.fabCasPacket, 5), (.fabFaddPacket, 6), (.fabAtomicResp, 7), (.fabAck, 8),
   (.fabNack, 9), (.fabAcquire, 0xA), (.fabRelease, 0xB), (.fabTokenResp, 0xC), (.fabBulk, 0xD), (.fabBulkResp, 0xE), (.colUp, 0x10), (.colDown, 0x11),
   (.colCredit, 0x12), (.bcastAck, 0x13), (.fabMgmt, 0x20)]

/-- The Teller rows that pass the checks of a session (R556, R558), each with its OP, class and rights. -/
def tellerRows : List ((TellerReq → Instr) × RKind) :=
  [(.sessionClose, ⟨3, .w, false, false⟩), (.ideStart, ⟨4, .w, false, false⟩), (.tellerRead, ⟨0x10, .r, false, false⟩), (.tellerWrite, ⟨0x11, .w, false, false⟩),
   (.tellerCritical, ⟨0x12, .c, false, false⟩), (.tellerIdentity, ⟨0x20, .r, false, false⟩), (.attest, ⟨0x21, .r, false, false⟩), (.tellerTicket, ⟨0x22, .r, false, false⟩),
   (.jobKeygen, ⟨0x30, .c, false, false⟩), (.jobKeylist, ⟨0x31, .c, false, false⟩), (.nvmUpdate, ⟨0x40, .c, false, true⟩), (.svnAdvance, ⟨0x41, .c, false, true⟩),
   (.tellerReset, ⟨0x42, .c, false, true⟩), (.spareApply, ⟨0x50, .c, true, false⟩), (.sparePolicy, ⟨0x51, .c, true, false⟩), (.calWrite, ⟨0x52, .c, true, false⟩),
   (.calExport, ⟨0x53, .c, true, false⟩), (.selftest, ⟨0x54, .c, true, false⟩), (.rbFlush, ⟨0x55, .c, true, false⟩)]

/-- A running Teller in use accepts a request of a kind: every check passes, its answer is tagged with `key`, and `u` has the request's COUNTER as LAST_CTR (R558, R559). -/
def State.grants (s : State) (r : TellerReq) (k : RKind) (key : List Byte) (u : State) : Prop :=
  s.isRunning = true ∧ s.hasPart r.p = true ∧ s.checkReq r k = (0, some key, u)

/-- The event of a bring-in that a piece ends without a copy of its own (R130, R188, R329, R577). -/
def pieceCode : Piece → Option Nat
  | .arraySpare .. => some C.ARRAY_SPARE_USED
  | .spmBringIn .. => some C.SPM_SPARE_USED
  | .coreSpare => some C.CORE_SPARE_USED
  | .slink .. => some C.SLINK_LANE_SPARED
  | _ => none

/-- The event of the switch at the end of a copy (R187, R364). -/
def copyCode : Piece → Option Nat
  | .retire .. => some C.HBM_RESERVE_USED
  | .spmCopy .. => some C.SPM_SPARE_USED
  | _ => none

/-- The kind, die and unit of the spares that a test piece tests (R581). -/
def spareOf : Piece → Option (Nat × Nat × Nat)
  | .reserveTest d k => some (4, d, k)
  | .spmTest d => some (3, d, 0)
  | .arraySpare d col => some (if col then 2 else 1, d, 0)
  | .coreSpare => some (5, 4, 0)
  | _ => none

/-- What a piece has done between a state and the one at its end, `fault` being the unit that its test found faulty (R130, R187, R188, R329, R364, R387, R512, R576, R577, R582). -/
def State.pieceDid (s : State) (x : Piece) (fault : Option Nat) (t : State) : Prop :=
  (∀ b n, s.pieceBringIn x = some b → fault = some n → t.spareBad = s.spareBad ++ [(b.kind, b.die, b.unit, b.spare)]) ∧
  (∀ b k, s.pieceBringIn x = some b → fault = none → pieceCode x = some k → t.codes = s.codes ++ [k] ∧ t.bringIn = s.bringIn.filter (fun y => !(y == b))) ∧
  (∀ b k, s.pieceBringIn x = some b → fault = none → copyCode x = some k →
    ∃ u y, y = { b with pieces := b.pieces + 1, units := b.units + u } ∧
      (y.copied = false → t.codes = s.codes ∧ t.bringIn = s.bringIn.map (fun z => if z == b then y else z)) ∧ (y.copied = true → t.codes = s.codes ++ [k])) ∧
  (∀ d k, x = .reserveTest d k → t.spareBad = s.spareBad ++ fault.toList.map (fun n => (4, d.val, k.val, n)) ∧ t.codes = s.codes ++ fault.toList.map (fun _ => C.SELFTEST_FAILED)) ∧
  (∀ d, x = .spmTest d → t.spareBad = s.spareBad ++ fault.toList.map (fun n => (3, d.val, 0, n)) ∧ t.codes = s.codes ++ fault.toList.map (fun _ => C.SELFTEST_FAILED)) ∧
  (∀ d, x = .selfTest d true → t.codes = s.codes ++ fault.toList.map (fun _ => C.SELFTEST_FAILED)) ∧
  (∀ d, x = .selfTest d false → fault.isSome = true → C.SELFTEST_FAILED ∈ t.codes) ∧
  (∀ d, x = .exposure d → s.getF (F.EXP_STATUS_DRAINING d) = 1 → t.getF (F.EXP_STATUS_DRAINING d) = 0) ∧
  (∀ p lane k, x = .port p lane → fault = none → bit (s.getF (F.PORT_STATUS_ACTIVE p)) lane = true → s.spareLane p lane = some k →
    t.getF (F.PORT_STATUS_ACTIVE p) = (setBits (s.getF (F.PORT_STATUS_ACTIVE p)) lane 1 0 ||| 2 ^ k) % 2 ^ (F.PORT_STATUS_ACTIVE p).width)

/-- The commands that store no data: they move state between registers, queues, tables and sequencers, and leave device memory, the accumulators, the cores, the boot NVM, the CSM and the fuses alone. -/
def storesNoData : Instr → Bool
  | .gstCtrlWrite .. | .gstTimeout .. | .standbyRootTakeover .. | .frameStart .. | .frameClose ..
  | .darkPiece .. | .frameLenReached .. | .frameResume .. | .frameLenWrite .. | .commandStart .. | .commandComplete .. | .nop .. | .fence ..
  | .signal .. | .trigger .. | .qswitch .. | .qload .. | .sxeAcfWaitEnd .. | .spmScrub .. | .linkReplay .. | .moverRetransmit ..
  | .dependencyEvent .. | .scuLoad .. | .scuLoadDone .. | .sveLoad .. | .sveProblemStart .. | .sveDeadline | .coreClockStep ..
  | .coreLoad .. | .coreLoadDone | .adderRead .. | .t1EccReread .. | .hbmScrub .. | .hbmRetire .. | .hbmReserveReplace .. | .pmovLoad ..
  | .pmovLoadDone | .pmovTransferComplete .. | .migrationStart .. | .thermalSample .. | .thermalRestart | .minLevelWrite .. | .fabAcquire ..
  | .fabRelease .. | .fabMgmt .. | .fabReservedOp .. | .fabLinkReplay .. | .laneLightLoss .. | .portDownSymbol .. | .portRetrain ..
  | .portDisableWrite .. | .fabPortUp .. | .portUpTimeout .. | .fabLevelSaturated .. | .egressCreditReturn .. | .fabDiscover
  | .discoverDone .. | .fabApply | .fabSave | .fabEnableWrite .. | .tblWrite .. | .tblRead .. | .gatherTimeout .. | .nicDoorbell ..
  | .totDoorbellIncrement .. | .nicRecordPost .. | .totLoad .. | .totLoadDone | .bcastAck .. | .bcastChildTimeout .. | .reSlotSpare ..
  | .ckptAbandon .. | .ckptBuddyLost .. | .ckptOpDone .. | .ckptMirrorWrite .. | .csArm .. | .csNow | .tbMeasure | .tbProbeTimeout ..
  | .tbMeasureDone .. | .expArm .. | .expStop .. | .journalReport | .journalRecord | .journalAlert .. | .jnlHeadWrite .. | .jnlClearSeen
  | .sbyokRise .. | .drIdentity .. | .drStatus | .drNonce | .drBegin .. | .drData .. | .drEnd | .sessionInit .. | .sessionInitExpiry ..
  | .sessionFinish .. | .sessionClose .. | .ideStart .. | .tellerRead .. | .tellerIdentity .. | .attest .. | .tellerTicket .. | .jobKeygen ..
  | .jobKeylist .. | .nvmUpdate .. | .tellerReset .. | .hostRingWrite .. | .hostPerst | .i3cRead .. | .spareApply .. | .sparePolicy ..
  | .calWrite .. | .calExport .. | .selftest .. | .selftestDone .. | .rbFlush .. | .lscFault | .lscResponse .. | .lscTimeout | .jtagIdcode
  | .jtagBypass | .jtagSamplePreload .. | .jtagExtest | .fabPacketForward .. | .linkAckSymbol .. | .vcCreditReturn .. | .hbmRefreshPoint ..
  | .tellerUnlistedOp .. | .hostPerstRelease | .totSelRead .. | .slinkLaneFault .. | .spareUnitTest .. => true
  | _ => false

end Sys2Proof.Machine
end

