-- ==== Sys2Proof/Certificates/Slice0/Obligations.lean ====
section
/-! DEFINITION. The statements for the provers. -/

/-- For every command c and every state s, a step of s with c put at the front of its queue is the meaning of c on s with the rest of the queue. The queue is the model's form (a block takes commands one at a time), so this is the model's own and no rule of the spec. -/
def Obligations.StepTakesFront : Prop :=
  ∀ (c : Sys2Proof.Instr) (s : Sys2Proof.Machine.State), Sys2Proof.Machine.step { s with pending := c :: s.pending } = Sys2Proof.Machine.exec c s

/-- A step on an empty queue answers a next state in which only time has moved: with the arithmetic clock running, one more arithmetic cycle has passed, and no register, no byte of memory and no queue entry has changed. That an empty queue lets a cycle pass is the model's choice (assumption 1). -/
def Obligations.IdleStepPassesOneCycle : Prop :=
  ∀ s : Sys2Proof.Machine.State, s.pending = [] →
    ∃ t, Sys2Proof.Machine.step s = .next t ∧ t.pending = [] ∧ (s.aclk ≠ 0 → t.clk.cyc = s.clk.cyc + 1) ∧ (s.aclk = 0 → t = s) ∧
      (∀ f, t.getF f = s.getF f) ∧ (∀ a, t.memByte a = s.memByte a)

/-- The spec gives every row of the command table an effect, so no meaning faults and none refuses: for every command and every state there is a next state. -/
def Obligations.EveryCommandCompletes : Prop :=
  ∀ (c : Sys2Proof.Instr) (s : Sys2Proof.Machine.State), ∃ t, Sys2Proof.Machine.exec c s = .next t

/-- From every state in which the byte stores of device memory and of the boot NVM are in canonical form (addresses strictly rising, no entry equal to what an unlisted address reads), the register store is in order, and there are 64 logical cores (R299) and four checkpoint engines (R473), every step that answers a next state answers one of which the same holds, whatever the command at the front of the queue. -/
def Obligations.StepKeepsSoundState : Prop :=
  ∀ s t : Sys2Proof.Machine.State, s.Inv → Sys2Proof.Machine.step s = .next t → t.Inv

/-- The state right after reset has canonical stores, 64 cores and four checkpoint engines, and an empty queue. -/
def Obligations.ResetIsSound : Prop :=
  Sys2Proof.Machine.State.reset.Inv ∧ Sys2Proof.Machine.State.reset.pending = []

/-- Whatever the command at the front of the queue, a step that answers a next state leaves exactly the rest of the queue; the part's grade and stepping stay as they are, and an owner key once in FUSE_OWNER stays there (R537). The queue itself is the model's form. -/
def Obligations.StepTakesCommandsInOrder : Prop :=
  ∀ (c : Sys2Proof.Instr) (r : List Sys2Proof.Instr) (s t : Sys2Proof.Machine.State), s.pending = c :: r → Sys2Proof.Machine.step s = .next t →
    t.pending = r ∧ t.fused.grade = s.fused.grade ∧ t.fused.stepping = s.fused.stepping ∧
    (∀ o, s.fused.owner = some o → t.fused.owner = some o)

/-- For each of the commands that storesNoData lists (a timeout of ticks, a root's takeover, frame start and close, schedule control other than STEPVAL, the unit operations and the abort, loads of images, scrubs and repairs of the memory controllers, thermal control, most of the fabric's and the observability commands, sessions and identity, the service channel), in every state, there is a next state in which every byte of device memory, the ACF accumulators, the registers of every core, the boot NVM, the CSM's blocks and the fuses are what they were. -/
def Obligations.CommandsThatStoreNothing : Prop :=
  ∀ (c : Sys2Proof.Instr) (s : Sys2Proof.Machine.State), Sys2Proof.Machine.storesNoData c = true →
    ∃ t, Sys2Proof.Machine.exec c s = .next t ∧ (∀ a, t.memByte a = s.memByte a) ∧ t.acf = s.acf ∧ t.cores = s.cores ∧ t.nvm = s.nvm ∧ t.csm = s.csm ∧ t.fused = s.fused

/-- A write of GST_CTRL of a partition answers success with ENABLE as written; with ENABLE 0 a partition whose frame is not open is IDLE (R56). A write of FRAME_RUN.RESUME in STOPPED clears the waiting ticks and enters WAIT_TICK, when ticks are enabled and a job is loaded (R64), and is answered with success; elsewhere it is ignored. -/
def Obligations.GstControlWrites : Prop :=
  (∀ (p : Fin 4) (val : Sys2Proof.Word) (s : Sys2Proof.Machine.State), ∃ t, Sys2Proof.Machine.exec (.gstCtrlWrite p val) s = .next t ∧
    t.getF (Sys2Proof.Machine.F.GST_CTRL_ENABLE p) = Sys2Proof.bits val.toNat 2 1 ∧ t.out = ⟨0, 0, []⟩ ∧
    (Sys2Proof.bits val.toNat 2 1 = 0 → s.inFrame p = false → t.frameState p = Sys2Proof.Machine.stIdle)) ∧
  (∀ (p : Fin 4) (s : Sys2Proof.Machine.State), s.frameState p = Sys2Proof.Machine.stStopped → s.getF (Sys2Proof.Machine.F.GST_CTRL_ENABLE p) = 1 → s.jobLoaded p = true →
    ∃ t, Sys2Proof.Machine.exec (.frameResume p) s = .next t ∧ t.frameState p = Sys2Proof.Machine.stWaitTick ∧ (t.part p).ticks = [] ∧ t.out = ⟨0, 0, []⟩) ∧
  (∀ (p : Fin 4) (s : Sys2Proof.Machine.State), s.frameState p ≠ Sys2Proof.Machine.stStopped → Sys2Proof.Machine.exec (.frameResume p) s = .next (s.answer 0 0))

/-- A partition that issues ticks (R42) with a legal period sends, at GST_TICK_ISSUE, a tick symbol of kind 1 with hops 0 to its child ports, with an index one above the last (0 for the first) and the partition's count at that moment, which has reached the time of the tick; it takes the tick itself, and its next tick is due one period later. A follower, or a former root, with ENABLE 1 that receives on a parent port a tick symbol whose index is neither the last one nor stale, takes it (R44, R45, R51), and forwards the symbol with one hop more and the root's count unchanged when it has child ports and hops is below 255. A tick of the next index that one of them takes in WAIT_TICK, with no frame start ordered, orders the start within 4 cycles (R53). A copy of the last index changes no tick and no frame; a stale index raises GST_STALE besides (R45, R52). -/
def Obligations.TicksAreIssuedAndForwarded : Prop :=
  (∀ (p : Fin 4) (ns i : Nat) (s u : Sys2Proof.Machine.State), (s.part p).issuing = true → Sys2Proof.Machine.periodOk (s.getF (Sys2Proof.Machine.F.GST_PERIOD_PERIOD_NS p)) = true →
    i = ((s.part p).lastIndex.map (fun k => (k + 1) % 2 ^ 32)).getD 0 → u = (s.toNs ns).advanceNs ((s.part p).nsUntil ((s.toNs ns).gstNs p) (s.part p).nextTick) →
    ∃ t, Sys2Proof.Machine.exec (.gstTickIssue p ns) s = .next t ∧
      t.out = ⟨0, t.fab.childPorts, Sys2Proof.leBytes 1 1 ++ Sys2Proof.leBytes 1 0 ++ Sys2Proof.leBytes 2 0 ++ Sys2Proof.leBytes 4 i ++ Sys2Proof.leBytes 8 (u.gstNs p)⟩ ∧
      (t.part p).lastIndex = some i ∧ (t.part p).nextTick = (s.part p).nextTick + s.getF (Sys2Proof.Machine.F.GST_PERIOD_PERIOD_NS p) ∧
      (s.frameState p = Sys2Proof.Machine.stWaitTick → (s.part p).startAt = none →
        ∃ c, (t.part p).startAt = some c ∧ u.clk.cyc ≤ c ∧ c ≤ u.clk.cyc + 4 ∧ (t.part p).ticks = (s.part p).ticks ++ [(i, u.gstNs p)])) ∧
  (∀ (p : Fin 4) (port index rootNs hops ns : Nat) (s : Sys2Proof.Machine.State), s.getF (Sys2Proof.Machine.F.GST_CTRL_ENABLE p) = 1 → ((s.part p).issuing = false ∨ s.getF (Sys2Proof.Machine.F.GST_CTRL_ROLE p) = 1) →
    Sys2Proof.bit s.fab.parentPorts port = true →
    (∀ k, (s.part p).lastIndex = some k → index % 2 ^ 32 ≠ k ∧ (index % 2 ^ 32 + 2 ^ 32 - (k + 1) % 2 ^ 32) % 2 ^ 32 < 2 ^ 31) →
    ∃ t, Sys2Proof.Machine.exec (.tickReceive p port index rootNs hops ns) s = .next t ∧ (t.part p).lastIndex = some (index % 2 ^ 32) ∧
      (hops < 255 → t.fab.childPorts ≠ 0 →
        t.out = ⟨0, t.fab.childPorts, Sys2Proof.leBytes 1 1 ++ Sys2Proof.leBytes 1 (hops + 1) ++ Sys2Proof.leBytes 2 0 ++ Sys2Proof.leBytes 4 (index % 2 ^ 32) ++ Sys2Proof.leBytes 8 rootNs⟩) ∧
      (s.frameState p = Sys2Proof.Machine.stWaitTick → (s.part p).startAt = none → (∀ k, (s.part p).lastIndex = some k → index % 2 ^ 32 = (k + 1) % 2 ^ 32) →
        ∃ c, (t.part p).startAt = some c ∧ (s.toNs ns).clk.cyc ≤ c ∧ c ≤ (s.toNs ns).clk.cyc + 4)) ∧
  (∀ (p : Fin 4) (port index rootNs hops ns k : Nat) (s : Sys2Proof.Machine.State), s.getF (Sys2Proof.Machine.F.GST_CTRL_ENABLE p) = 1 → ((s.part p).issuing = false ∨ s.getF (Sys2Proof.Machine.F.GST_CTRL_ROLE p) = 1) →
    Sys2Proof.bit s.fab.parentPorts port = true → (s.part p).lastIndex = some k →
    (index % 2 ^ 32 = k ∨ 2 ^ 31 ≤ (index % 2 ^ 32 + 2 ^ 32 - (k + 1) % 2 ^ 32) % 2 ^ 32) →
    ∃ t, Sys2Proof.Machine.exec (.tickReceive p port index rootNs hops ns) s = .next t ∧ (t.part p).lastIndex = some k ∧ (t.part p).ticks = (s.part p).ticks ∧ t.frameState p = s.frameState p ∧
      t.codes = s.codes ++ (if index % 2 ^ 32 = k then [] else [Sys2Proof.Machine.C.GST_STALE]))

/-- When no tick came for 2 × GST_PERIOD after the last, with ENABLE 1, at the GST_TIMEOUT command a partition that follows ticks (ROLE follower, or root while another package issues them) raises GST_TIMEOUT and keeps its frame state; given again, the command raises nothing (R49, R51). A standby root becomes the root, with GST_ROOTS.ON_STANDBY set and GST_ROOT_CHANGE raised; its next tick is due 3 × GST_PERIOD after the last one's arrival by its own count (R50). -/
def Obligations.LostTicks : Prop :=
  (∀ (p : Fin 4) (ns : Nat) (s : Sys2Proof.Machine.State), s.tickSilence p ns = true → s.getF (Sys2Proof.Machine.F.GST_CTRL_ROLE p) ≠ 2 → (s.part p).timedOut = false →
    ∃ t, Sys2Proof.Machine.exec (.gstTimeout p ns) s = .next t ∧ t.codes = s.codes ++ [Sys2Proof.Machine.C.GST_TIMEOUT] ∧ t.frameState p = s.frameState p ∧
      (t.part p).timedOut = true ∧ ∀ n, Sys2Proof.Machine.exec (.gstTimeout p n) t = .next t) ∧
  (∀ (p : Fin 4) (ns : Nat) (s : Sys2Proof.Machine.State), s.tickSilence p ns = true → s.getF (Sys2Proof.Machine.F.GST_CTRL_ROLE p) = 2 →
    ∃ t, Sys2Proof.Machine.exec (.standbyRootTakeover p ns) s = .next t ∧ t.codes = s.codes ++ [Sys2Proof.Machine.C.GST_ROOT_CHANGE] ∧
      t.getF (Sys2Proof.Machine.F.GST_ROOTS_ON_STANDBY p) = 1 ∧ (t.part p).issuing = true ∧
      (t.part p).nextTick = (s.part p).lastTickNs + 3 * s.getF (Sys2Proof.Machine.F.GST_PERIOD_PERIOD_NS p))

/-- A partition with a tick taken for its next frame, a running arithmetic clock and no dark piece in progress: at FRAME_START armed switches are taken; when the plan identities then agree, the frame is RUNNING, and a rerun reports FRAME_RERUN last (R233, R241, R246); when they differ, the partition is STOPPED with no frame start pending, and FRAME_PLAN_MISMATCH is raised (R242). -/
def Obligations.FramesStart : Prop :=
  (∀ (p : Fin 4) (c : Nat) (x : Nat × Nat) (rest : List (Nat × Nat)) (s : Sys2Proof.Machine.State), (s.part p).startAt = some c → (s.part p).ticks = x :: rest →
    s.aclk ≠ 0 → s.darkOf p = [] →
    ((s.diesOf p).foldl (fun (u : Sys2Proof.Machine.State) (n : Nat) => u.switchBank n) (s.advanceCyc (c - s.clk.cyc))).plansAgree p = true →
    ∃ t, Sys2Proof.Machine.exec (.frameStart p) s = .next t ∧ t.frameState p = Sys2Proof.Machine.stRunning ∧
      ((s.part p).rerunArmed = true → t.codes.getLast? = some Sys2Proof.Machine.C.FRAME_RERUN)) ∧
  (∀ (p : Fin 4) (c : Nat) (x : Nat × Nat) (rest : List (Nat × Nat)) (s : Sys2Proof.Machine.State), (s.part p).startAt = some c → (s.part p).ticks = x :: rest →
    s.aclk ≠ 0 → s.darkOf p = [] →
    ((s.diesOf p).foldl (fun (u : Sys2Proof.Machine.State) (n : Nat) => u.switchBank n) (s.advanceCyc (c - s.clk.cyc))).plansAgree p = false →
    ∃ t, Sys2Proof.Machine.exec (.frameStart p) s = .next t ∧ t.frameState p = Sys2Proof.Machine.stStopped ∧ t.codes.getLast? = some Sys2Proof.Machine.C.FRAME_PLAN_MISMATCH ∧
      (t.part p).startAt = none ∧ (t.part p).ticks = rest)

/-- A RUNNING frame of which every command, problem, core program and transfer has completed closes at FRAME_CLOSE, with the cycle of its last completion in CLOSE_CYCLE: with ENABLE 0 to IDLE; with a waiting tick and OVR_POLICY 0 the next frame starts in the cycle after, with another OVR_POLICY the partition stops; otherwise to WAIT_TICK when it closed at or after offset FRAME_LEN (IDLE with no job loaded), and to DARK before (R57 to R63). A frame in the dark interval with no piece in progress and no start ordered ends at FRAME_LEN and waits for a tick (R60). A FAILED frame whose last started command, problem, core program and transfer has completed drains: one that was to stop for a backlog stops; one that may run again is armed and waits for a tick, or starts with one that waits, or is IDLE with ENABLE 0; one that may not stops with the code of the reason (R65, R244, R245, R250). Register writes that waited take effect after the state has changed (R39). -/
def Obligations.FramesEnd : Prop :=
  (∀ (p : Fin 4) (s : Sys2Proof.Machine.State), s.aclk ≠ 0 → s.frameState p = Sys2Proof.Machine.stRunning → s.allDone p = true →
    ∃ u : Sys2Proof.Machine.State, Sys2Proof.Machine.exec (.frameClose p) s = .next (u.applyDeferred p) ∧
      u.frameState p = (if s.getF (Sys2Proof.Machine.F.GST_CTRL_ENABLE p) = 0 then Sys2Proof.Machine.stIdle
        else if (s.part p).ticks ≠ [] ∧ s.getF (Sys2Proof.Machine.F.GST_CTRL_OVR_POLICY p) = 0 then (if (s.part p).len ≤ s.lastDone p then Sys2Proof.Machine.stWaitTick else Sys2Proof.Machine.stDark)
        else if (s.part p).ticks ≠ [] then Sys2Proof.Machine.stStopped
        else if (s.part p).len ≤ s.lastDone p then (if s.getF (Sys2Proof.Machine.F.GST_CTRL_ENABLE p) = 1 ∧ s.jobLoaded p = true then Sys2Proof.Machine.stWaitTick else Sys2Proof.Machine.stIdle)
        else Sys2Proof.Machine.stDark) ∧
      (s.getF (Sys2Proof.Machine.F.GST_CTRL_ENABLE p) ≠ 0 → (s.part p).ticks ≠ [] → s.getF (Sys2Proof.Machine.F.GST_CTRL_OVR_POLICY p) = 0 → (u.part p).startAt = some ((s.part p).cycle0 + s.lastDone p + 1)) ∧
      u.getF (Sys2Proof.Machine.F.FRAME_CLOSE_CLOSE_CYCLE p) = s.lastDone p % 2 ^ (Sys2Proof.Machine.F.FRAME_CLOSE_CLOSE_CYCLE p).width ∧
      u.getF (Sys2Proof.Machine.F.FRAME_CLOSE_SLIP_CYCLES p) = (s.part p).slip % 2 ^ (Sys2Proof.Machine.F.FRAME_CLOSE_SLIP_CYCLES p).width) ∧
  (∀ (p : Fin 4) (s : Sys2Proof.Machine.State), s.aclk ≠ 0 → s.frameState p = Sys2Proof.Machine.stDark → (s.part p).startAt = none → s.darkOf p = [] →
    ∃ t, Sys2Proof.Machine.exec (.frameLenReached p) s = .next t ∧
      t.frameState p = (if s.getF (Sys2Proof.Machine.F.GST_CTRL_ENABLE p) = 1 ∧ s.jobLoaded p = true then Sys2Proof.Machine.stWaitTick else Sys2Proof.Machine.stIdle) ∧ t.clk.cyc = s.clk.cyc + ((s.part p).len - s.frameCyc p) ∧
      t.fab = s.fab ∧ t.coll = s.coll ∧ t.reports = s.reports ∧ (∀ a, t.memByte a = s.memByte a)) ∧
  (∀ (p : Fin 4) (s v : Sys2Proof.Machine.State), s.aclk ≠ 0 → s.frameState p = Sys2Proof.Machine.stFailed → v = (if p.val = 0 ∧ (s.part p).abortAt.isSome = true then s.stopCores else s) →
    v.anyRun p = false → (p.val = 0 → v.sve.run = [] ∧ v.cor.run = [] ∧ v.pmc.run = []) →
    ∃ u : Sys2Proof.Machine.State, Sys2Proof.Machine.exec (.frameDrained p) s = .next (u.applyDeferred p) ∧
      u.frameState p = (if (v.part p).stopAfter then Sys2Proof.Machine.stStopped
        else if v.rerunCode p = some 0 then
          (if v.getF (Sys2Proof.Machine.F.GST_CTRL_ENABLE p) = 0 then Sys2Proof.Machine.stIdle else if (v.part p).ticks = [] then (if v.getF (Sys2Proof.Machine.F.GST_CTRL_ENABLE p) = 1 ∧ v.jobLoaded p = true then Sys2Proof.Machine.stWaitTick else Sys2Proof.Machine.stIdle) else Sys2Proof.Machine.stWaitTick)
        else Sys2Proof.Machine.stStopped) ∧
      ((v.part p).stopAfter = false → v.rerunCode p = some 0 → v.getF (Sys2Proof.Machine.F.GST_CTRL_ENABLE p) ≠ 0 → (u.part p).rerunArmed = true ∧ ((v.part p).ticks ≠ [] → (u.part p).startAt = some (v.clk.cyc + 1))) ∧
      (∀ c, (v.part p).stopAfter = false → v.rerunCode p = some c → c ≠ 0 → u.codes.getLast? = some c))

/-- A write over the management plane that is not an aligned 64-bit access of a block, outside the message slots, answers TELLER_ALIGN and changes nothing but the report of that code (R9, R516, R623). A write of FRAME_EXPECT of a partition not in a frame sets EXPECT to bits 31 to 0 and is answered with 0 (R11, R66). A FRAME_LEN write that breaks R55 for an active or armed bank answers FRAME_RANGE, reports it and changes nothing else; a legal one sets LEN and DARK_LEN when no frame is open, and waits for the close otherwise (R39, R238). A write of 4 or 8 bytes into a message slot that is not submitted is answered with 0 and touches no register (R554). The places of the two reports are the model's choice (log 71). -/
def Obligations.RegisterWritesAct : Prop :=
  (∀ (a n : Nat) (v : Sys2Proof.Word) (s : Sys2Proof.Machine.State), Sys2Proof.Machine.slotOf a = none → Sys2Proof.Machine.mgmtOk a n = false → Sys2Proof.Machine.exec (.registerWrite a n v) s = .next (s.refused Sys2Proof.Machine.C.TELLER_ALIGN 6 2 0)) ∧
  (∀ (p : Fin 4) (v : Sys2Proof.Word) (s : Sys2Proof.Machine.State), s.inFrame p = false →
    ∃ t, Sys2Proof.Machine.exec (.registerWrite (0x3000070040 + p * 0x100) 8 v) s = .next t ∧ t.getF (Sys2Proof.Machine.F.FRAME_EXPECT_EXPECT p) = v.toNat % 2 ^ 32 ∧ t.out = ⟨0, 0, []⟩ ∧
      ∀ f, f.key ≠ (Sys2Proof.Machine.F.FRAME_EXPECT_EXPECT p).key → t.getF f = s.getF f) ∧
  (∀ (p k : Fin 4) (i n : Nat) (v : Sys2Proof.Word) (s : Sys2Proof.Machine.State), i < 0x2000 → (n = 4 ∨ n = 8) → i % n = 0 → Sys2Proof.bit (s.getF (Sys2Proof.Machine.F.TELLER_STATUS_SLOT_PENDING p)) k = false →
    ∃ t, Sys2Proof.Machine.exec (.registerWrite (0x10000 + p * 0x10000 + 0x8000 + k * 0x2000 + i) n v) s = .next t ∧ t.out = ⟨0, 0, []⟩ ∧ (∀ f, t.getF f = s.getF f) ∧
      Sys2Proof.slice (Sys2Proof.Assoc.get t.boot.slots (4 * p + k) []) i n = Sys2Proof.leBytes n v.toNat) ∧
  (∀ (p : Fin 4) (v : Sys2Proof.Word) (s : Sys2Proof.Machine.State), s.frameLenOk p (Sys2Proof.bits v.toNat 0 32) (Sys2Proof.bits v.toNat 32 32) = false → Sys2Proof.Machine.exec (.frameLenWrite p v) s = .next ((s.raiseP p Sys2Proof.Machine.C.FRAME_RANGE 0 0 0).answer Sys2Proof.Machine.C.FRAME_RANGE 0)) ∧
  (∀ (p : Fin 4) (v : Sys2Proof.Word) (s : Sys2Proof.Machine.State), s.frameLenOk p (Sys2Proof.bits v.toNat 0 32) (Sys2Proof.bits v.toNat 32 32) = true → s.inFrame p = false →
    ∃ t, Sys2Proof.Machine.exec (.frameLenWrite p v) s = .next t ∧ t.getF (Sys2Proof.Machine.F.FRAME_LEN_LEN p) = v.toNat % 2 ^ 32 ∧ t.getF (Sys2Proof.Machine.F.FRAME_LEN_DARK_LEN p) = v.toNat / 2 ^ 32 % 2 ^ 32 ∧ t.out = ⟨0, 0, []⟩) ∧
  (∀ (p : Fin 4) (v : Sys2Proof.Word) (s : Sys2Proof.Machine.State), s.frameLenOk p (Sys2Proof.bits v.toNat 0 32) (Sys2Proof.bits v.toNat 32 32) = true → s.inFrame p = true →
    ∃ t, Sys2Proof.Machine.exec (.frameLenWrite p v) s = .next t ∧ (∀ f, t.getF f = s.getF f) ∧ t.defer = s.defer ++ [(p.val, 0x3000070038 + p.val * 0x100, v.toNat)] ∧ t.out = ⟨0, 0, []⟩)

/-- At a naturally aligned offset of a management block where no register, no table, no message slot and no alert ring lies, a read returns 0 for every partition that may reach it, and a 64-bit write is ignored: apart from the answer (success) the state is unchanged (R10). -/
def Obligations.UnimplementedOffsets : Prop :=
  ∀ (a : Nat) (s : Sys2Proof.Machine.State), Sys2Proof.Machine.mgmtOk a 8 = true → Sys2Proof.Machine.regOf a = none → Sys2Proof.Machine.slotOf a = none → Sys2Proof.Machine.ringOf a = none →
    (∀ n, Sys2Proof.Machine.dieOfAddr a = some n → a % 0x100000000 < 0x18000 ∨ 0x20000 ≤ a % 0x100000000) → (a < 0x3000080000 ∨ 0x30000A0000 ≤ a) →
    (∀ p, s.readReg p a = 0) ∧ (∀ v, Sys2Proof.Machine.exec (.registerWrite a 8 v) s = .next (s.answer 0 0))

/-- The next piece of a free unit, of partitions that are in the dark interval with no frame start ordered, starts at the later of now and FRAME_LEN − DARK_LEN when it can end by FRAME_LEN, and counts in DARK_STATUS.PIECES; otherwise it is deferred and counts in DARK_STATUS.DEFERRED (R58). A piece of any kind in progress ends after its cycles and is in progress no more, and what pieceDid says has happened: a bring-in has ended with its event, a copy piece has added to its copy, the last one has switched, a failed test has marked the spare and the next of its kind is taken, an exposure is written (R130, R187, R188, R329, R364, R387, R512, R576, R577, R582). A piece run in IDLE or STOPPED needs no dark interval and does the same. The test of a unit that is spare at that moment does the same whatever the frame does: a spare that fails is not used again and SELFTEST_FAILED is raised; one that passes changes nothing (R580 to R582). -/
def Obligations.DarkPiecesRun : Prop :=
  (∀ (x : Sys2Proof.Piece) (len c : Nat) (s : Sys2Proof.Machine.State), (s.piecePart x).all (fun p => s.frameState p == Sys2Proof.Machine.stDark && (s.part p).startAt.isNone) = true →
    s.pieceNext x len = true → s.portDone x = false →
    c = (s.piecePart x).foldl (fun (m : Nat) (p : Nat) => max m ((s.part p).cycle0 + ((s.part p).len - (s.part p).dark))) s.clk.cyc →
    (s.piecePart x).all (fun p => decide (c + len ≤ (s.part p).cycle0 + (s.part p).len)) = true →
    ∃ t, Sys2Proof.Machine.exec (.darkPiece x len) s = .next t ∧ t.dark = s.dark ++ [⟨x, c, len⟩] ∧ t.clk.cyc = c ∧
      t.getF Sys2Proof.Machine.F.DARK_STATUS_PIECES = Sys2Proof.satAdd Sys2Proof.Machine.F.DARK_STATUS_PIECES.width (s.getF Sys2Proof.Machine.F.DARK_STATUS_PIECES) 1 % 2 ^ Sys2Proof.Machine.F.DARK_STATUS_PIECES.width) ∧
  (∀ (x : Sys2Proof.Piece) (len c : Nat) (s : Sys2Proof.Machine.State), (s.piecePart x).all (fun p => s.frameState p == Sys2Proof.Machine.stDark && (s.part p).startAt.isNone) = true →
    s.pieceNext x len = true → s.portDone x = false →
    c = (s.piecePart x).foldl (fun (m : Nat) (p : Nat) => max m ((s.part p).cycle0 + ((s.part p).len - (s.part p).dark))) s.clk.cyc →
    (s.piecePart x).all (fun p => decide (c + len ≤ (s.part p).cycle0 + (s.part p).len)) = false →
    Sys2Proof.Machine.exec (.darkPiece x len) s = .next (s.satF Sys2Proof.Machine.F.DARK_STATUS_DEFERRED 1)) ∧
  (∀ (x : Sys2Proof.Piece) (fault : Option Nat) (d : Sys2Proof.Machine.DarkRun) (s : Sys2Proof.Machine.State), s.dark.find? (fun y => y.piece == x) = some d → s.aclk ≠ 0 →
    ∃ t, Sys2Proof.Machine.exec (.darkPieceEnd x fault) s = .next t ∧ t.dark = s.dark.filter (fun y => !(y.piece == x)) ∧ t.clk.cyc = max s.clk.cyc (d.start + d.len) ∧
      s.pieceDid x fault t) ∧
  (∀ (x : Sys2Proof.Piece) (len : Nat) (fault : Option Nat) (s : Sys2Proof.Machine.State), (s.piecePart x).all (fun p => s.atRest p) = true → s.pieceNext x len = true →
    ∃ t, Sys2Proof.Machine.exec (.backToBackPiece x len fault) s = .next t ∧ t.dark = s.dark ∧ t.clk.cyc = s.clk.cyc + len ∧ s.pieceDid x fault t) ∧
  (∀ (x : Sys2Proof.Piece) (kind die unit n : Nat) (s : Sys2Proof.Machine.State), Sys2Proof.Machine.spareOf x = some (kind, die, unit) → s.freeSpare kind die unit = some n →
    (∃ t, Sys2Proof.Machine.exec (.spareUnitTest x true) s = .next t ∧ t.codes = s.codes ++ [Sys2Proof.Machine.C.SELFTEST_FAILED] ∧ t.spareBad = s.spareBad ++ [(kind, die, unit, n)]) ∧
    Sys2Proof.Machine.exec (.spareUnitTest x false) s = .next s)

/-- A command of a frame whose start cycle the schedule gives, not yet started and not stopped by a fault, starts, with the arithmetic clock running: in the latest of its release offset, its unit's free cycle and its dependencies' cycle it joins the started commands with nothing performed yet (R225). Outside compatibility banks it raises RELEASE_SLIP as it starts exactly when its dependencies were met after both its release offset and its unit, and the partition's slip grows by the difference, saturating (R226); in a compatibility bank it never does (R227). A command with IRREV commits the frame (R247). -/
def Obligations.CommandsStart : Prop :=
  ∀ (die : Fin 4) (idx c0 dep ou : Nat) (c : Sys2Proof.Machine.Cmd) (s : Sys2Proof.Machine.State), s.aclk ≠ 0 → s.cmdAt die idx = some c → s.inFrame (s.partOf die) = true → (s.abank die).valid = true →
    (s.die die).run.any (fun r => r.idx == idx) = false → (s.die die).done.any (fun r => r.idx == idx) = false →
    s.startCycle die idx c = some (c0, dep, ou) → (s.startLimit die).any (fun l => decide (l < c0)) = false →
    c0 = max ou dep ∧
    ∃ t, Sys2Proof.Machine.exec (.commandStart die idx) s = .next t ∧ (t.die die).run = (s.die die).run ++ [⟨idx, c0, none, 0, false, 0, 0, none, []⟩] ∧
      ((s.abank die).compat = false → ou < dep → t.codes = s.codes ++ [Sys2Proof.Machine.C.RELEASE_SLIP] ∧ (t.part (s.partOf die)).slip = Sys2Proof.satAdd 32 (s.part (s.partOf die)).slip (c0 - ou)) ∧
      ((dep ≤ ou ∨ (s.abank die).compat = true) → t.codes = s.codes ∧ (t.part (s.partOf die)).slip = (s.part (s.partOf die)).slip) ∧
      (Sys2Proof.bit c.cflags 0 = true → (t.part (s.partOf die)).committed = true)

/-- A started command whose effect is performed completes with the arithmetic clock running: it moves from the started to the completed commands, in the cycle its formula gives or, outside the promise, in the cycle in which it was seen to end, with its completion entry (R228). The flags of an MXA or SXE command's entry stay set in MXA_STATUS or SXE_STATUS (R133, R174). A QLOAD's bank is installed as it completes: BUSY is 0, DONE is 1, BANK names the inactive bank, and NEXT_VALID is 1 when the checks succeeded (R240). -/
def Obligations.CommandsComplete : Prop :=
  ∀ (die : Fin 4) (idx cyc : Nat) (c : Sys2Proof.Machine.Cmd) (r : Sys2Proof.Machine.RunCmd) (s : Sys2Proof.Machine.State), s.aclk ≠ 0 → s.runAt die idx = some r → s.cmdAt die idx = some c → r.performed = true →
    ∃ t, Sys2Proof.Machine.exec (.commandComplete die idx cyc) s = .next t ∧
      (t.die die).run = (s.die die).run.filter (fun x => x.idx != idx) ∧
      (t.die die).done = (s.die die).done ++ [⟨idx, r.doneAt.getD (max (max r.start r.wait) cyc), Sys2Proof.Machine.compEntry r ((s.die die).slipped.contains idx)⟩] ∧
      (c.opcode = Sys2Proof.Machine.opMxa → ∀ x ∈ [(0, Sys2Proof.Machine.F.MXA_STATUS_INVALID die), (1, Sys2Proof.Machine.F.MXA_STATUS_OVERFLOW die), (2, Sys2Proof.Machine.F.MXA_STATUS_UNDERFLOW die), (3, Sys2Proof.Machine.F.MXA_STATUS_INEXACT die), (5, Sys2Proof.Machine.F.MXA_STATUS_ACC_SAT die),
        (6, Sys2Proof.Machine.F.MXA_STATUS_ACC_TRUNC die), (7, Sys2Proof.Machine.F.MXA_STATUS_SLICE_ROUNDED die), (8, Sys2Proof.Machine.F.MXA_STATUS_LG_DROPPED die)], Sys2Proof.bit r.entry x.1 = true → t.getF x.2 = 1) ∧
      (c.opcode = Sys2Proof.Machine.opSxe → ∀ x ∈ [(0, Sys2Proof.Machine.F.SXE_STATUS_INVALID die), (1, Sys2Proof.Machine.F.SXE_STATUS_OVERFLOW die), (2, Sys2Proof.Machine.F.SXE_STATUS_UNDERFLOW die), (3, Sys2Proof.Machine.F.SXE_STATUS_INEXACT die), (4, Sys2Proof.Machine.F.SXE_STATUS_DIVZERO die),
        (10, Sys2Proof.Machine.F.SXE_STATUS_ACF_WAIT die)], Sys2Proof.bit r.entry x.1 = true → t.getF x.2 = 1) ∧
      (c.opcode = Sys2Proof.Machine.opQload → s.activeBank die < 2 → ∀ q, (s.die die).qload = some q → t.getF (Sys2Proof.Machine.F.SCU_LOAD_STATUS_DONE die) = 1 ∧ t.getF (Sys2Proof.Machine.F.SCU_LOAD_STATUS_BUSY die) = 0 ∧
        t.getF (Sys2Proof.Machine.F.SCU_LOAD_STATUS_BANK die) = 1 - s.activeBank die ∧ (q.1.isSome = true → t.getF (Sys2Proof.Machine.F.SCU_STATUS_NEXT_VALID die) = 1))

/-- A started NOP completes in its start cycle (R222). A FENCE completes, once every earlier-indexed command on its units has completed, in the cycle after the last of them, or in its start cycle when that is later; until then it waits (R222). A SIGNAL completes 25 cycles after its start and adds its increment, in that cycle, to the counter of every die it names, its own excepted (R229). A TRIGGER completes 25 cycles after its start and adds its increment, saturating, to the counter of the entry it names; an entry that crossed a frame holds the increment back; one whose counter so reaches its THRESHOLD for the first time, in an enabled context that no core drives, fires and commits the frame (R222, R441, R444). A QSWITCH completes in its start cycle: it arms the switch when NEXT_VALID is 1, and otherwise raises QSWITCH_REFUSED and arms nothing (R241). None of NOP, FENCE, SIGNAL and QSWITCH changes a byte of memory (CommandsThatStoreNothing says so of every state). -/
def Obligations.ScuCommandsAct : Prop :=
  (∀ (die : Fin 4) (idx : Nat) (c : Sys2Proof.Machine.Cmd) (r : Sys2Proof.Machine.RunCmd) (s : Sys2Proof.Machine.State), s.toRun die idx Sys2Proof.Machine.opNop = some (c, r) →
    Sys2Proof.Machine.exec (.nop die idx) s = .next (s.perform die idx (some r.start) 0)) ∧
  (∀ (die : Fin 4) (idx : Nat) (c : Sys2Proof.Machine.Cmd) (r : Sys2Proof.Machine.RunCmd) (s : Sys2Proof.Machine.State), s.toRun die idx Sys2Proof.Machine.opFence = some (c, r) →
    (∀ i < idx, ∀ d u, s.cmdAt die i = some d → d.unit = some u → u ∈ Sys2Proof.Machine.fenceUnits (Sys2Proof.fieldAt c.operands 0 1) → ((s.die die).done.find? (fun x => x.idx == i)).isSome = true) →
    ∃ m, Sys2Proof.Machine.exec (.fence die idx) s = .next (s.perform die idx (some m) 0) ∧ r.start ≤ m ∧
      (∀ i < idx, ∀ d u x, s.cmdAt die i = some d → d.unit = some u → u ∈ Sys2Proof.Machine.fenceUnits (Sys2Proof.fieldAt c.operands 0 1) → (s.die die).done.find? (fun x => x.idx == i) = some x → x.cyc + 1 ≤ m) ∧
      (m = r.start ∨ ∃ i < idx, ∃ d u x, s.cmdAt die i = some d ∧ d.unit = some u ∧ u ∈ Sys2Proof.Machine.fenceUnits (Sys2Proof.fieldAt c.operands 0 1) ∧
        (s.die die).done.find? (fun x => x.idx == i) = some x ∧ m = x.cyc + 1)) ∧
  (∀ (die : Fin 4) (idx i u : Nat) (c d : Sys2Proof.Machine.Cmd) (r : Sys2Proof.Machine.RunCmd) (s : Sys2Proof.Machine.State), s.toRun die idx Sys2Proof.Machine.opFence = some (c, r) →
    i < idx → s.cmdAt die i = some d → d.unit = some u → u ∈ Sys2Proof.Machine.fenceUnits (Sys2Proof.fieldAt c.operands 0 1) → (s.die die).done.find? (fun x => x.idx == i) = none →
    Sys2Proof.Machine.exec (.fence die idx) s = .next s) ∧
  (∀ (die : Fin 4) (idx : Nat) (c : Sys2Proof.Machine.Cmd) (r : Sys2Proof.Machine.RunCmd) (s : Sys2Proof.Machine.State), s.toRun die idx Sys2Proof.Machine.opSignal = some (c, r) →
    ∃ t, Sys2Proof.Machine.exec (.signal die idx) s = .next t ∧ (t.runAt die idx).map (fun y => (y.performed, y.doneAt)) = some (true, some (r.start + 25)) ∧
      (t.die die).sig = (s.die die).sig ∧
      ∀ k : Fin 4, k ≠ die → (t.die k).sig = (s.die k).sig ++
        (if Sys2Proof.bit (Sys2Proof.fieldAt c.operands 0 1) k then [⟨r.start + 25, Sys2Proof.fieldAt c.operands 1 1 % 64, Sys2Proof.fieldAt c.operands 2 1⟩] else [])) ∧
  (∀ (die : Fin 4) (idx k i : Nat) (c : Sys2Proof.Machine.Cmd) (r : Sys2Proof.Machine.RunCmd) (e : Sys2Proof.Machine.TotEntry) (s : Sys2Proof.Machine.State), s.toRun die idx Sys2Proof.Machine.opTrigger = some (c, r) →
    k = Sys2Proof.fieldAt c.operands 0 1 % 8 → i = Sys2Proof.fieldAt c.operands 2 2 % 1024 → e = s.tot k i →
    ∃ t, Sys2Proof.Machine.exec (.trigger die idx) s = .next t ∧ (t.runAt die idx).map (fun y => (y.performed, y.doneAt)) = some (true, some (r.start + 25)) ∧
      (e.cross = true → t.tot k i = { e with heldInc := Sys2Proof.satAdd 32 e.heldInc (Sys2Proof.fieldAt c.operands 4 4) }) ∧
      (e.cross = false → (e.thr = 0 ∨ e.fired = true ∨ Sys2Proof.satAdd 32 e.count (Sys2Proof.fieldAt c.operands 4 4) < e.thr ∨ s.getF (Sys2Proof.Machine.F.NIC_CTRL_ENABLE k) ≠ 1 ∨ s.getF (Sys2Proof.Machine.F.NIC_CTRL_CORE_DRIVEN k) ≠ 0) →
        t.tot k i = { e with count := Sys2Proof.satAdd 32 e.count (Sys2Proof.fieldAt c.operands 4 4) }) ∧
      (e.cross = false → e.thr ≠ 0 → e.fired = false → e.thr ≤ Sys2Proof.satAdd 32 e.count (Sys2Proof.fieldAt c.operands 4 4) → s.getF (Sys2Proof.Machine.F.NIC_CTRL_ENABLE k) = 1 → s.getF (Sys2Proof.Machine.F.NIC_CTRL_CORE_DRIVEN k) = 0 →
        (t.tot k i).fired = true ∧ (t.part (s.ctxPart k)).committed = true)) ∧
  (∀ (die : Fin 4) (idx : Nat) (c : Sys2Proof.Machine.Cmd) (r : Sys2Proof.Machine.RunCmd) (s : Sys2Proof.Machine.State), s.toRun die idx Sys2Proof.Machine.opQswitch = some (c, r) →
    ∃ t, Sys2Proof.Machine.exec (.qswitch die idx) s = .next t ∧ (t.runAt die idx).map (fun y => (y.performed, y.doneAt)) = some (true, some r.start) ∧
      (s.getF (Sys2Proof.Machine.F.SCU_STATUS_NEXT_VALID die) = 1 → t.getF (Sys2Proof.Machine.F.SCU_STATUS_SWITCH_ARMED die) = 1 ∧ t.codes = s.codes) ∧
      (s.getF (Sys2Proof.Machine.F.SCU_STATUS_NEXT_VALID die) ≠ 1 → t.getF (Sys2Proof.Machine.F.SCU_STATUS_SWITCH_ARMED die) = s.getF (Sys2Proof.Machine.F.SCU_STATUS_SWITCH_ARMED die) ∧
        t.codes = s.codes ++ [Sys2Proof.Machine.C.QSWITCH_REFUSED]))

/-- A write of SCU_LOAD, SVE_LOAD, CORE_LOAD or PMOV_LOAD with GO starts a load in frame state IDLE, or in STOPPED for a bank that the next frame does not need (the inactive queue bank; a table bank whose PLAN_ID is not the active one), when none is in progress: BUSY is set, the bank and the image address are noted and the answer is success (R239, R256, R320, R368); in another state, or while a load is in progress, it is refused and reported with the owning chapter's LOAD_STATE code, and starts nothing. A write of TOT_LOAD with GO does the same in IDLE and STOPPED of the partition that owns the context, refused otherwise with TOT_LOAD_STATE (R440). Without GO the write sets BANK (CTX for TOT_LOAD) and SRC alone. That a refusal is reported, and how, is the model's choice (assumption 71). -/
def Obligations.LoadsStart : Prop :=
  (∀ (die : Fin 4) (v : Sys2Proof.Word) (s : Sys2Proof.Machine.State), Sys2Proof.bit v.toNat 63 = true → (s.die die).load = none →
    (s.frameState (s.partOf die) = Sys2Proof.Machine.stIdle ∨ (s.frameState (s.partOf die) = Sys2Proof.Machine.stStopped ∧ Sys2Proof.bits v.toNat 61 1 ≠ s.activeBank die)) →
    ∃ t, Sys2Proof.Machine.exec (.scuLoad die v) s = .next t ∧ t.getF (Sys2Proof.Machine.F.SCU_LOAD_STATUS_BUSY die) = 1 ∧ t.out = ⟨0, 0, []⟩ ∧
      (t.die die).load = some ⟨Sys2Proof.bits v.toNat 61 1, if Sys2Proof.bits v.toNat 0 6 = 0 then Sys2Proof.bits v.toNat 0 52 else s.getF (Sys2Proof.Machine.F.SCU_LOAD_SRC die), Sys2Proof.bit v.toNat 62, s.clk.ns⟩) ∧
  (∀ (die : Fin 4) (v : Sys2Proof.Word) (s : Sys2Proof.Machine.State), Sys2Proof.bit v.toNat 63 = true →
    ((s.die die).load.isSome = true ∨ ¬ (s.frameState (s.partOf die) = Sys2Proof.Machine.stIdle ∨ (s.frameState (s.partOf die) = Sys2Proof.Machine.stStopped ∧ Sys2Proof.bits v.toNat 61 1 ≠ s.activeBank die))) →
    Sys2Proof.Machine.exec (.scuLoad die v) s = .next (s.refused Sys2Proof.Machine.C.FRAME_LOAD_STATE die 0 0)) ∧
  (∀ (die : Fin 4) (v : Sys2Proof.Word) (s : Sys2Proof.Machine.State), Sys2Proof.bit v.toNat 63 = false →
    ∃ t, Sys2Proof.Machine.exec (.scuLoad die v) s = .next t ∧ t.getF (Sys2Proof.Machine.F.SCU_LOAD_BANK die) = Sys2Proof.bits v.toNat 61 1 ∧ (t.die die).load = (s.die die).load ∧ t.out = ⟨0, 0, []⟩) ∧
  (∀ v : Sys2Proof.Word, ∀ x ∈ [(Sys2Proof.Instr.sveLoad v, Sys2Proof.Machine.SeqId.sve), (.coreLoad v, .cor), (.pmovLoad v, .pmc)], ∀ s : Sys2Proof.Machine.State,
    (Sys2Proof.bit v.toNat 63 = true → (s.seq x.2).load = none →
      (s.frameState 0 = Sys2Proof.Machine.stIdle ∨ (s.frameState 0 = Sys2Proof.Machine.stStopped ∧ ∀ p, s.activePlan = some p → p ≠ s.getF (if Sys2Proof.bits v.toNat 61 1 = 0 then x.2.regs.plan0 else x.2.regs.plan1))) →
      ∃ t, Sys2Proof.Machine.exec x.1 s = .next t ∧ t.getF x.2.regs.busy = 1 ∧ t.out = ⟨0, 0, []⟩ ∧
        (t.seq x.2).load = some (Sys2Proof.bits v.toNat 61 1, if Sys2Proof.bits v.toNat 0 6 = 0 then Sys2Proof.bits v.toNat 0 52 else s.getF x.2.regs.src)) ∧
    (Sys2Proof.bit v.toNat 63 = true →
      ((s.seq x.2).load.isSome = true ∨
        ¬ (s.frameState 0 = Sys2Proof.Machine.stIdle ∨ (s.frameState 0 = Sys2Proof.Machine.stStopped ∧ ∀ p, s.activePlan = some p → p ≠ s.getF (if Sys2Proof.bits v.toNat 61 1 = 0 then x.2.regs.plan0 else x.2.regs.plan1)))) →
      Sys2Proof.Machine.exec x.1 s = .next (s.refused x.2.stateCode 4 x.2.unit 0)) ∧
    (Sys2Proof.bit v.toNat 63 = false → ∃ t, Sys2Proof.Machine.exec x.1 s = .next t ∧ t.getF x.2.regs.bank = Sys2Proof.bits v.toNat 61 1 ∧ (t.seq x.2).load = (s.seq x.2).load ∧ t.out = ⟨0, 0, []⟩)) ∧
  (∀ (v : Sys2Proof.Word) (s : Sys2Proof.Machine.State), Sys2Proof.bit v.toNat 63 = true → s.atRest (s.ctxPart (Sys2Proof.bits v.toNat 52 3)) = true → s.coll.totLoad = none →
    ∃ t, Sys2Proof.Machine.exec (.totLoad v) s = .next t ∧ t.getF Sys2Proof.Machine.F.TOT_LOAD_STATUS_BUSY = 1 ∧ t.out = ⟨0, 0, []⟩ ∧
      t.coll.totLoad = some (Sys2Proof.bits v.toNat 52 3, if Sys2Proof.bits v.toNat 0 6 = 0 then Sys2Proof.bits v.toNat 0 52 else s.getF Sys2Proof.Machine.F.TOT_LOAD_SRC)) ∧
  (∀ (v : Sys2Proof.Word) (s : Sys2Proof.Machine.State), Sys2Proof.bit v.toNat 63 = true → (s.atRest (s.ctxPart (Sys2Proof.bits v.toNat 52 3)) = false ∨ s.coll.totLoad.isSome = true) →
    Sys2Proof.Machine.exec (.totLoad v) s = .next (s.refused Sys2Proof.Machine.C.TOT_LOAD_STATE 5 4 (Sys2Proof.bits v.toNat 52 3))) ∧
  (∀ (v : Sys2Proof.Word) (s : Sys2Proof.Machine.State), Sys2Proof.bit v.toNat 63 = false →
    ∃ t, Sys2Proof.Machine.exec (.totLoad v) s = .next t ∧ t.getF Sys2Proof.Machine.F.TOT_LOAD_CTX = Sys2Proof.bits v.toNat 52 3 ∧ t.coll = s.coll ∧ t.out = ⟨0, 0, []⟩)

/-- At its end a load of a queue bank, of the SVE schedule, of the core table, of the P-die mover table or of TOT entries is over: DONE is 1, BUSY is 0 and the unit takes the next load (R239, R256, R320, R368, R440); SCU_LOAD_STATUS.BANK names a queue bank load's bank. An image that is read and passes its checks fills its bank, with code 0, and becomes active where ACTIVATE says so (R237, R239); a TOT image replaces the context's entries. A table image that does not lie in installed T1 leaves its bank empty with the unit's INVALID code, and the TOT entries as they were. The TOT load is read by the F-die, which waits for its slots (R40; assumption 72). -/
def Obligations.LoadsEnd : Prop :=
  (∀ (die : Fin 4) (j : Sys2Proof.Machine.LoadJob) (s : Sys2Proof.Machine.State), (s.die die).load = some j → j.bank < 2 →
    ∃ t, Sys2Proof.Machine.exec (.scuLoadDone die) s = .next t ∧ (t.die die).load = none ∧ t.getF (Sys2Proof.Machine.F.SCU_LOAD_STATUS_DONE die) = 1 ∧ t.getF (Sys2Proof.Machine.F.SCU_LOAD_STATUS_BUSY die) = 0 ∧
      t.getF (Sys2Proof.Machine.F.SCU_LOAD_STATUS_BANK die) = j.bank ∧
      ∀ n img u B, n = min 1048576 (max 320 (s.readNat (j.src + 36) 4)) → s.inT1 j.src n = true →
        (s.updDie die (fun d => { d with load := none })).extRead (die * 32) j.src n = (0, img, u) → u.frameImage die img = .ok B →
        t.bank die j.bank = B ∧ t.getF (Sys2Proof.Machine.F.SCU_LOAD_STATUS_CODE die) = 0 ∧ (j.activate = true → j.bank ≠ s.activeBank die → t.activeBank die = j.bank)) ∧
  (∀ (b src n : Nat) (s : Sys2Proof.Machine.State), n = max 64 (min 65536 (s.readNat (src + 4) 4)) →
    (s.sve.load = some (b, src) → ∃ t, Sys2Proof.Machine.exec .sveLoadDone s = .next t ∧ t.sve.load = none ∧ t.getF Sys2Proof.Machine.F.SVE_LOAD_STATUS_DONE = 1 ∧ t.getF Sys2Proof.Machine.F.SVE_LOAD_STATUS_BUSY = 0 ∧
      (s.inT1 src n = false → (t.sve.bank b).valid = false ∧ t.getF Sys2Proof.Machine.F.SVE_LOAD_STATUS_CODE = Sys2Proof.Machine.C.SVE_SCHED_INVALID) ∧
      (∀ img u T, s.inT1 src n = true → s.extRead 0x84 src n = (0, img, u) → u.sveTable img = .ok T → t.sve.bank b = T ∧ t.getF Sys2Proof.Machine.F.SVE_LOAD_STATUS_CODE = 0)) ∧
    (s.cor.load = some (b, src) → ∃ t, Sys2Proof.Machine.exec .coreLoadDone s = .next t ∧ t.cor.load = none ∧ t.getF Sys2Proof.Machine.F.CORE_LOAD_STATUS_DONE = 1 ∧ t.getF Sys2Proof.Machine.F.CORE_LOAD_STATUS_BUSY = 0 ∧
      (s.inT1 src n = false → (t.cor.bank b).valid = false ∧ t.getF Sys2Proof.Machine.F.CORE_LOAD_STATUS_CODE = Sys2Proof.Machine.C.CORE_TABLE_INVALID) ∧
      (∀ img u T, s.inT1 src n = true → s.extRead 0x86 src n = (0, img, u) → u.coreTable img = .ok T → t.cor.bank b = T ∧ t.getF Sys2Proof.Machine.F.CORE_LOAD_STATUS_CODE = 0)) ∧
    (s.pmc.load = some (b, src) → ∃ t, Sys2Proof.Machine.exec .pmovLoadDone s = .next t ∧ t.pmc.load = none ∧ t.getF Sys2Proof.Machine.F.PMOV_LOAD_STATUS_DONE = 1 ∧ t.getF Sys2Proof.Machine.F.PMOV_LOAD_STATUS_BUSY = 0 ∧
      (s.inT1 src n = false → (t.pmc.bank b).valid = false ∧ t.getF Sys2Proof.Machine.F.PMOV_LOAD_STATUS_CODE = Sys2Proof.Machine.C.PMOV_TABLE_INVALID) ∧
      (∀ img u T, s.inT1 src n = true → s.extRead 0x80 src n = (0, img, u) → u.pmovTable img = .ok T → t.pmc.bank b = T ∧ t.getF Sys2Proof.Machine.F.PMOV_LOAD_STATUS_CODE = 0))) ∧
  (∀ (k src n : Nat) (s : Sys2Proof.Machine.State), s.coll.totLoad = some (k, src) → n = max 64 (min 32832 (s.readNat (src + 4) 4)) → s.hasWay Sys2Proof.Machine.doTotLoadDone →
    ∃ t, Sys2Proof.Machine.exec .totLoadDone s = .next t ∧ t.coll.totLoad = none ∧ t.getF Sys2Proof.Machine.F.TOT_LOAD_STATUS_DONE = 1 ∧ t.getF Sys2Proof.Machine.F.TOT_LOAD_STATUS_BUSY = 0 ∧
      (s.inT1 src n = false → t.coll.tots = s.coll.tots ∧ t.getF Sys2Proof.Machine.F.TOT_LOAD_STATUS_CODE = Sys2Proof.Machine.C.TOT_TABLE_INVALID) ∧
      (∀ img u l, s.inT1 src n = true → (s.noWait.updColl (fun c => { c with totLoad := none })).extRead 0xA0 src n = (0, img, u) → u.totImage img = .ok l → t.getF Sys2Proof.Machine.F.TOT_LOAD_STATUS_CODE = 0 ∧
        ∀ i, l[i]? = some (t.tot k i) ∨ l.length ≤ i))

/-- SCU_CTRL.ABORT in a RUNNING frame makes the frame FAILED and raises FRAME_FAILED and, last, FRAME_ABORTED; a started command of the frame that had not ended by then is performed with FRAME_ABORTED; outside RUNNING and FAILED the abort is ignored (R249). The oldest completion on its way to the SCUs arrives, with the arithmetic clock running: it leaves the way, and a dependency of its kind and number is met (R223); a collective's completion with a status other than success makes a RUNNING frame FAILED (R443). -/
def Obligations.AbortsAndDependencies : Prop :=
  (∀ (die : Fin 4) (s : Sys2Proof.Machine.State), s.frameState (s.partOf die) = Sys2Proof.Machine.stRunning →
    ∃ t, Sys2Proof.Machine.exec (.scuAbort die) s = .next t ∧ t.frameState (s.partOf die) = Sys2Proof.Machine.stFailed ∧ t.codes = s.codes ++ [Sys2Proof.Machine.C.FRAME_FAILED, Sys2Proof.Machine.C.FRAME_ABORTED] ∧
      (t.part (s.partOf die)).abortAt.isSome = true ∧
      ∀ r ∈ (t.die die).run, r.fault = some Sys2Proof.Machine.C.FRAME_ABORTED ∨ r.doneAt.any (fun c => decide (c ≤ s.frameCyc (s.partOf die))) = true) ∧
  (∀ (die : Fin 4) (s : Sys2Proof.Machine.State), s.inFrame (s.partOf die) = false → Sys2Proof.Machine.exec (.scuAbort die) s = .next s) ∧
  (∀ (p : Fin 4) (e : Sys2Proof.Machine.DepEv) (r : List Sys2Proof.Machine.DepEv) (s : Sys2Proof.Machine.State), s.aclk ≠ 0 → (s.part p).depsIn = e :: r →
    ∃ t, Sys2Proof.Machine.exec (.dependencyEvent p) s = .next t ∧ (t.part p).depsIn = r ∧ (t.part p).deps.any (fun d => d.kind == e.kind && d.num == e.num) = true ∧
      ((s.part p).deps.any (fun d => d.kind == e.kind && d.num == e.num) = false → (t.part p).deps = (s.part p).deps ++ [e]) ∧
      (e.kind = 7 → e.status ≠ 0 → s.frameState p = Sys2Proof.Machine.stRunning → t.frameState p = Sys2Proof.Machine.stFailed))

/-- A started STEPVAL on a die whose SPM is not degraded and within its bank budget completes at the end of the window that contains cycle t + 1; when no write that a row run before has already made takes effect after it, the 64 bytes at its offset are then JOB_STEP (8 bytes), the SHARD_ID of its slot (4), the slot (4) and 48 zero bytes, and every other byte of memory is unchanged (R180, R232). Every ACF entry, every core and every other started command is unchanged. -/
def Obligations.StepvalWritesRecord : Prop :=
  ∀ (die : Fin 4) (idx : Nat) (c : Sys2Proof.Machine.Cmd) (r : Sys2Proof.Machine.RunCmd) (s : Sys2Proof.Machine.State), s.toRun die idx Sys2Proof.Machine.opStepval = some (c, r) → s.spmDegraded die = false →
    (s.spmRequest die (4 + Sys2Proof.fieldAt c.operands 0 1 % 4) 1 (r.start + 1) true (Sys2Proof.fieldAt c.operands 4 4) 64).1 = false →
    ∃ t, Sys2Proof.Machine.exec (.stepval die idx) s = .next t ∧
      ((∀ h ∈ s.hist, h.at_ < Sys2Proof.Machine.cycKey (s.absCyc die (16 * ((r.start + 1) / 16 + 1))) 0) →
        (∀ i < 64, t.memByte (Sys2Proof.Machine.spmBase die + Sys2Proof.fieldAt c.operands 4 4 + i) = (s.stepRecord die c).getD i 0) ∧
        (∀ a, a < Sys2Proof.Machine.spmBase die + Sys2Proof.fieldAt c.operands 4 4 ∨ Sys2Proof.Machine.spmBase die + Sys2Proof.fieldAt c.operands 4 4 + 64 ≤ a → t.memByte a = s.memByte a)) ∧
      t.acf = s.acf ∧ t.cores = s.cores ∧
      (t.die die).run = (s.die die).run.map (fun x => if x.idx == idx then { x with performed := true, doneAt := some (16 * ((r.start + 1) / 16 + 1)) } else x)

/-- A started MOVE with legal operands and a readable SPM runs its next descriptor, read and corrected as it stands in the SPM; when that is its last one, the command is performed: in the cycle in which the descriptor ends inside the promise, or to be completed when its end is seen outside it; short of credit it waits, with the descriptors and flits that are done kept; a descriptor that faults, or operands that break R191, fault the command with that code, and a RUNNING frame becomes FAILED (R190, R193, R214, R216, R243, R422). A started QLOAD clears NEXT_VALID, empties the inactive bank, reads its image and is performed; the bank is installed as it completes (R240, CommandsComplete). LINK_REPLAY and MOVER_RETRANSMIT announce a failure of a flit to come and change nothing else (assumption 69). A flit that fails its link check is sent again in the requester's next owned slot: the sending end counts it in REPLAYS, and the wait between the two is the retry's cost; a data flit that its target discards is sent again 48 cycles later at the earliest, and the fourth failure ends the transfer; a retry raises MOV_RETRY (R70, R215, R218). A scrub reads the next granule of its bank, corrects its single-bit errors and touches no data (R185). -/
def Obligations.MoversAndLoadsOfQueues : Prop :=
  (∀ (die : Fin 4) (idx n off i t0 : Nat) (c : Sys2Proof.Machine.Cmd) (r : Sys2Proof.Machine.RunCmd) (s v u : Sys2Proof.Machine.State) (e : Sys2Proof.Machine.DescEnd), s.toRun die idx Sys2Proof.Machine.opMove = some (c, r) →
    s.spmDegraded die = false → Sys2Proof.Machine.moveOperands c.operands = .ok (n, off) → i = r.progress % 256 → n = i + 1 → r.wait = 0 → t0 = r.start →
    v = (s.setF (Sys2Proof.Machine.F.MOV_STATUS_DESC_INDEX die (Sys2Proof.fieldAt c.operands 0 1 % 4)) i).spmCorrect die (off + 128 * i) 128 →
    (s.setF (Sys2Proof.Machine.F.MOV_STATUS_DESC_INDEX die (Sys2Proof.fieldAt c.operands 0 1 % 4)) i).spmPoison die (off + 128 * i) 128 = false →
    Sys2Proof.Machine.runDesc die (Sys2Proof.fieldAt c.operands 0 1 % 4) idx (Sys2Proof.Machine.Desc.parse (v.spmData die t0 (off + 128 * i) 128)) t0 (r.progress / 256) v = (e, u) → (u.runAt die idx).isSome = true →
    ∃ t, Sys2Proof.Machine.exec (.move die idx) s = .next t ∧
      (∀ w, e = .done w → (t.runAt die idx).map (fun x => (x.performed, x.doneAt)) = some (true, some w) ∧ (∀ a, t.memByte a = u.memByte a)) ∧
      (∀ w, e = .outside w → (t.runAt die idx).map (fun x => (x.performed, x.doneAt, x.wait)) = some (true, none, w) ∧ (∀ a, t.memByte a = u.memByte a)) ∧
      (∀ k w, e = .noCredit k w → (t.runAt die idx).map (fun x => (x.progress, x.wait)) = some (i + 256 * k, w) ∧ (∀ a, t.memByte a = u.memByte a)) ∧
      (∀ cls code w kv, e = .fault cls code w kv → (t.runAt die idx).map (fun x => (x.performed, x.fault)) = some (true, some code) ∧
        t.getF (Sys2Proof.Machine.F.MOV_STATUS_FAULT_CODE die (Sys2Proof.fieldAt c.operands 0 1 % 4)) = code % 2 ^ 16 ∧ (u.frameState (u.partOf die) = Sys2Proof.Machine.stRunning → t.frameState (u.partOf die) = Sys2Proof.Machine.stFailed))) ∧
  (∀ (die : Fin 4) (idx e : Nat) (c : Sys2Proof.Machine.Cmd) (r : Sys2Proof.Machine.RunCmd) (s : Sys2Proof.Machine.State), s.toRun die idx Sys2Proof.Machine.opMove = some (c, r) →
    s.spmDegraded die = false → Sys2Proof.Machine.moveOperands c.operands = .error e → s.frameState (s.partOf die) = Sys2Proof.Machine.stRunning →
    ∃ t, Sys2Proof.Machine.exec (.move die idx) s = .next t ∧ t.frameState (s.partOf die) = Sys2Proof.Machine.stFailed ∧ t.getF (Sys2Proof.Machine.F.MOV_STATUS_FAULT_CODE die (Sys2Proof.fieldAt c.operands 0 1 % 4)) = e % 2 ^ 16) ∧
  (∀ (die : Fin 4) (idx : Nat) (c : Sys2Proof.Machine.Cmd) (r : Sys2Proof.Machine.RunCmd) (s : Sys2Proof.Machine.State), s.toRun die idx Sys2Proof.Machine.opQload = some (c, r) →
    ∃ t, Sys2Proof.Machine.exec (.qload die idx) s = .next t ∧ t.getF (Sys2Proof.Machine.F.SCU_STATUS_NEXT_VALID die) = 0 ∧ (t.bank die (1 - s.activeBank die)).valid = false ∧
      (t.runAt die idx).map (fun x => x.performed) = some true ∧ (∀ a, t.memByte a = s.memByte a)) ∧
  (∀ (e : Fin 6) (l : Fin 5) (req skip n : Nat) (s : Sys2Proof.Machine.State), ∃ y, y < 6 ∧ y ≠ e ∧ Sys2Proof.Machine.linkAt e y = l ∧
    Sys2Proof.Machine.exec (.linkReplay e l req skip n) s = .next { s with fails := s.fails ++ [⟨.link, req, e, y, skip, n⟩] }) ∧
  (∀ (x y : Fin 6) (p req t0 c k : Nat) (s u v : Sys2Proof.Machine.State), x ≠ y → req < 256 → s.fails = [⟨.link, req, x, y, 0, 1⟩] → s.takeLink p x y req t0 = (some c, u) → ({ u with fails := [] } : Sys2Proof.Machine.State).takeLink p x y req (c + 1) = (some k, v) →
    s.sendFlit p x y req t0 = (some k, v.linkReplay x y req (k - c)) ∧
    (v.linkReplay x y req (k - c)).getF (Sys2Proof.Machine.F.SLINK_STATUS_REPLAYS x (Sys2Proof.Machine.linkAt x y))
      = Sys2Proof.satAdd (Sys2Proof.Machine.F.SLINK_STATUS_REPLAYS x (Sys2Proof.Machine.linkAt x y)).width (v.getF (Sys2Proof.Machine.F.SLINK_STATUS_REPLAYS x (Sys2Proof.Machine.linkAt x y))) 1 % 2 ^ (Sys2Proof.Machine.F.SLINK_STATUS_REPLAYS x (Sys2Proof.Machine.linkAt x y)).width) ∧
  (∀ (req skip n : Nat) (y : Fin 6) (s : Sys2Proof.Machine.State), Sys2Proof.Machine.exec (.moverRetransmit req y skip n) s = .next { s with fails := s.fails ++ [⟨.flit, req, Sys2Proof.Machine.reqDie req, y, skip, n⟩] }) ∧
  (∀ (x y : Fin 6) (p req t0 c k : Nat) (s u v : Sys2Proof.Machine.State), x ≠ y → req < 256 → s.fails = [⟨.flit, req, x, y, 0, 1⟩] → s.sendFlit p x y req t0 = (some c, u) → ({ u with fails := [] } : Sys2Proof.Machine.State).sendFlit p x y req (c + 48) = (some k, v) →
    s.sendData p x y req t0 = (.sent k, v.retry req (k - c) (8 * x + Sys2Proof.Machine.linkAt x y))) ∧
  (∀ (p x y req c : Nat) (s : Sys2Proof.Machine.State), (s.flitFails .flit req x y).1 = true → (Sys2Proof.Machine.resendData p x y req 0 c s).1 = .lost (c + 48)) ∧
  (∀ (req cost det : Nat) (s : Sys2Proof.Machine.State), ((s.moverRun req).isSome = true ∨ 0x80 ≤ req) → (s.retry req cost det).codes = s.codes ++ [Sys2Proof.Machine.C.MOV_RETRY]) ∧
  (∀ (die : Fin 4) (bank : Fin 256) (fails : Bool) (s : Sys2Proof.Machine.State),
    ∃ t, Sys2Proof.Machine.exec (.spmScrub die bank fails) s = .next t ∧ Sys2Proof.Assoc.get (t.die die).scrubRow bank 0 = (Sys2Proof.Assoc.get (s.die die).scrubRow bank 0 + 1) % 32768 ∧
      ((s.die die).spmReq = [] → ∀ x ∈ t.ecc, x.2 = 1 → x.1 / 16 ≠ (Sys2Proof.Machine.spmBase die) / 128 + Sys2Proof.Assoc.get (s.die die).scrubRow bank 0 * 256 + bank) ∧
      (∀ a, t.memByte a = s.memByte a) ∧ t.cores = s.cores)

/-- An N-tile of a started MXA command that no check rejects starts when it is the next one, unless a chain that started before its first row has still to run, for which it waits: the operation's progress goes on to the next N-tile, its start stays, and it stores nothing to memory; ACTIVE_PLANE keeps its value in FP32 and FP64 modes (R87, R127, R133, R165, R166; that it keeps it there is the model's choice, assumption 70). An MXA command whose N-tiles have all run without a fault is performed and ends in the cycle that its start, its holds and the cycle formula of its mode give (R125 to R127); its accumulators are what its N-tiles left. One that a check rejects faults at its start, and a RUNNING frame becomes FAILED, with nothing written (R132, R243). -/
def Obligations.MxaComputesItsGemm : Prop :=
  (∀ (die : Fin 4) (idx : Nat) (bad : Option (Nat × Nat × Nat)) (c : Sys2Proof.Machine.Cmd) (r q : Sys2Proof.Machine.RunCmd) (o o' : Sys2Proof.Machine.MxaOp) (md md' : Sys2Proof.Machine.MxMode) (nts nts' : List (Sys2Proof.Machine.MxGrp × Nat)) (s u : Sys2Proof.Machine.State), s.toRun die idx Sys2Proof.Machine.opMxa = some (c, r) →
    Sys2Proof.Machine.mxaReject s die r.start c = none → Sys2Proof.Machine.cmdNTiles s die r.start c = some (o, md, nts) →
    (List.range nts.length).foldl (fun x k => Sys2Proof.Machine.startNTile die idx k c bad x) (if r.progress = 0 then s.count die 32 1 else s) = u →
    u.runAt die idx = some q → q.fault = none → Sys2Proof.Machine.cmdNTiles u die q.start c = some (o', md', nts') → nts'.length ≤ q.progress →
    ∃ t, Sys2Proof.Machine.exec (.mxa die idx bad) s = .next t ∧
      (t.runAt die idx).map (fun x => (x.performed, x.doneAt)) = some (true, some (q.start + q.wait + Sys2Proof.Machine.mxCycles o' md' nts' - 1)) ∧
      t.acf = u.acf ∧ t.cores = u.cores ∧ (∀ a, t.memByte a = u.memByte a)) ∧
  (∀ (die : Fin 4) (idx cls code : Nat) (bad : Option (Nat × Nat × Nat)) (c : Sys2Proof.Machine.Cmd) (r : Sys2Proof.Machine.RunCmd) (s : Sys2Proof.Machine.State), s.toRun die idx Sys2Proof.Machine.opMxa = some (c, r) →
    Sys2Proof.Machine.mxaReject s die r.start c = some (cls, code) → s.frameState (s.partOf die) = Sys2Proof.Machine.stRunning →
    ∃ t, Sys2Proof.Machine.exec (.mxa die idx bad) s = .next t ∧ t.frameState (s.partOf die) = Sys2Proof.Machine.stFailed ∧ (t.runAt die idx).map (fun x => x.fault) = some (some code) ∧
      t.acf = s.acf ∧ (∀ a, t.memByte a = s.memByte a)) ∧
  (∀ (die : Fin 4) (idx n : Nat) (bad : Option (Nat × Nat × Nat)) (c : Sys2Proof.Machine.Cmd) (r : Sys2Proof.Machine.RunCmd) (o : Sys2Proof.Machine.MxaOp) (md : Sys2Proof.Machine.MxMode) (nts : List (Sys2Proof.Machine.MxGrp × Nat)) (s : Sys2Proof.Machine.State), s.toRun die idx Sys2Proof.Machine.opMxa = some (c, r) →
    Sys2Proof.Machine.mxaReject s die r.start c = none → Sys2Proof.Machine.cmdNTiles s die r.start c = some (o, md, nts) → r.progress = n → r.fault = none → n < nts.length →
    (s.chainFirst die (r.start + r.wait + Sys2Proof.Machine.rowEntry o md (Sys2Proof.Machine.tileStart o md nts n 0) 0) = false →
      ∃ t, Sys2Proof.Machine.exec (.mxaNtileStart die idx ⟨n, bad⟩) s = .next t ∧ (t.runAt die idx).map (fun x => (x.progress, x.start)) = some (n + 1, r.start) ∧
        ((md = .fp32 ∨ md = .fp64) → t.getF (Sys2Proof.Machine.F.MXA_STATUS_ACTIVE_PLANE die) = s.getF (Sys2Proof.Machine.F.MXA_STATUS_ACTIVE_PLANE die) % 2 ^ (Sys2Proof.Machine.F.MXA_STATUS_ACTIVE_PLANE die).width) ∧
        t.cores = s.cores ∧ (∀ a, t.memByte a = s.memByte a)) ∧
    (s.chainFirst die (r.start + r.wait + Sys2Proof.Machine.rowEntry o md (Sys2Proof.Machine.tileStart o md nts n 0) 0) = true → Sys2Proof.Machine.exec (.mxaNtileStart die idx ⟨n, bad⟩) s = .next s))

/-- A started SXE command that no check rejects runs, unless an N-tile that enters no later than its start has still to run, for which it waits. Its chain, when it meets neither a fault nor an enabled trap, ends in the cycle that its start, the cycle formula of its chain and its waits give (R146, R166), shows the row and segment of its last beat in SXE_POS (R174), and leaves in memory what its rows wrote. A fault of the chain, or a flag whose trap is enabled, faults the command with its code and makes a RUNNING frame FAILED; one that a check rejects does the same at its start, with nothing written (R168, R172, R243). When a wait for a PENDING entry ends, time reaches the cycle in which the entry's bit clears, and nothing else changes (R165). -/
def Obligations.SxeRunsItsChain : Prop :=
  (∀ (die : Fin 4) (idx : Nat) (c : Sys2Proof.Machine.Cmd) (r : Sys2Proof.Machine.RunCmd) (ch : Sys2Proof.Machine.SxChain) (s : Sys2Proof.Machine.State) (run : Sys2Proof.Machine.SxRun), s.toRun die idx Sys2Proof.Machine.opSxe = some (c, r) → s.arrayFirst die r.start = false → Sys2Proof.Machine.sxeReject s die r.start c = none →
    ch = Sys2Proof.Machine.readChain s die (s.spmKey die r.start) (Sys2Proof.Machine.SxOp.ofBytes c.operands) → Sys2Proof.Machine.runChain die idx r.start ch s = run → (run.s.runAt die idx).isSome = true →
    ∃ t, Sys2Proof.Machine.exec (.sxe die idx) s = .next t ∧
      (run.fault = none → (run.fl % 32) &&& ch.trap = 0 →
        (t.runAt die idx).map (fun x => (x.performed, x.doneAt)) = some (true, some (r.start + Sys2Proof.Machine.chainCycles ch + run.wait - 1)) ∧
        t.getF (Sys2Proof.Machine.F.SXE_POS_ROW die) = min run.beats (ch.o.rows * Sys2Proof.Machine.chainB ch - 1) / Sys2Proof.Machine.chainB ch % 2 ^ (Sys2Proof.Machine.F.SXE_POS_ROW die).width ∧
        t.getF (Sys2Proof.Machine.F.SXE_POS_SEGMENT die) = min run.beats (ch.o.rows * Sys2Proof.Machine.chainB ch - 1) % Sys2Proof.Machine.chainB ch / 8 % 2 ^ (Sys2Proof.Machine.F.SXE_POS_SEGMENT die).width ∧
        t.acf = run.s.acf ∧ t.cores = run.s.cores ∧ (∀ a, t.memByte a = run.s.memByte a)) ∧
      (∀ code f, (run.fault = some (code, f) ∨ (run.fault = none ∧ (run.fl % 32) &&& ch.trap ≠ 0 ∧ code = Sys2Proof.Machine.C.SXE_FP_TRAP)) →
        (t.runAt die idx).map (fun x => (x.performed, x.fault)) = some (true, some code) ∧ (run.s.frameState (run.s.partOf die) = Sys2Proof.Machine.stRunning → t.frameState (run.s.partOf die) = Sys2Proof.Machine.stFailed))) ∧
  (∀ (die : Fin 4) (idx cls code : Nat) (c : Sys2Proof.Machine.Cmd) (r : Sys2Proof.Machine.RunCmd) (s : Sys2Proof.Machine.State), s.toRun die idx Sys2Proof.Machine.opSxe = some (c, r) → s.arrayFirst die r.start = false → Sys2Proof.Machine.sxeReject s die r.start c = some (cls, code) →
    s.frameState (s.partOf die) = Sys2Proof.Machine.stRunning →
    ∃ t, Sys2Proof.Machine.exec (.sxe die idx) s = .next t ∧ t.frameState (s.partOf die) = Sys2Proof.Machine.stFailed ∧ (t.runAt die idx).map (fun x => x.fault) = some (some code) ∧
      t.acf = s.acf ∧ (∀ a, t.memByte a = s.memByte a)) ∧
  (∀ (die : Fin 4) (idx : Nat) (c : Sys2Proof.Machine.Cmd) (r : Sys2Proof.Machine.RunCmd) (s : Sys2Proof.Machine.State), s.toRun die idx Sys2Proof.Machine.opSxe = some (c, r) → s.arrayFirst die r.start = true → Sys2Proof.Machine.exec (.sxe die idx) s = .next s) ∧
  (∀ (die : Fin 4) (e : Nat) (m : Sys2Proof.Machine.AcfMark) (s : Sys2Proof.Machine.State), s.aclk ≠ 0 → (s.die die).pend.find? (fun x => x.entry == e % 4096 && decide (s.frameCyc (s.partOf die) < x.until_)) = some m →
    ∃ t, Sys2Proof.Machine.exec (.sxeAcfWaitEnd die e) s = .next t ∧ t.clk.cyc = s.clk.cyc + (m.until_ - s.frameCyc (s.partOf die)) ∧ (∀ k, t.die k = s.die k) ∧ (∀ f, t.getF f = s.getF f) ∧
      t.acf = s.acf ∧ t.cores = s.cores ∧ (∀ a, t.memByte a = s.memByte a))

/-- An entry of the SVE schedule that can start makes the SVE busy with it and begins its LOAD phase (R259, R268). When the LOAD phase ends, WAITING is 0 and the problem is loaded: with its schedule words and inputs readable the phases from CHECK on have decided its outcome (told here for a problem without a WORK area); with a word or an input that cannot be read it faults with that code, and a RUNNING frame becomes FAILED (R263, R296, R297). A problem whose budget stops it has DEADLINE_HIT set 16 cycles after its clock reached the budget (R286). A loaded problem completes, and one that an abort stops ends as well: LAST_PROBLEM names it, the SVE is no longer busy, and the entry no longer runs; when its result is written, its vectors and then its header, LAST_STATUS is its outcome, memory holds what the writes left, and an entry that met no fault joins the completed ones, no earlier than its own cycles (R260, R263, R292). -/
def Obligations.SolverRunsProblems : Prop :=
  (∀ (i t0 dep ou : Nat) (e : Sys2Proof.Machine.TabEntry) (s : Sys2Proof.Machine.State), s.seqReady .sve i = some (e, t0, dep, ou) →
    ∃ t, Sys2Proof.Machine.exec (.sveProblemStart i) s = .next t ∧ t.getF Sys2Proof.Machine.F.SVE_STATUS_BUSY = 1 ∧ t.getF Sys2Proof.Machine.F.SVE_STATUS_WAITING = 1 ∧ t.getF Sys2Proof.Machine.F.SVE_CLOCK_PCLOCK = 0 ∧
      t.getF Sys2Proof.Machine.F.SVE_STATUS_ENTRY = i % 2 ^ Sys2Proof.Machine.F.SVE_STATUS_ENTRY.width ∧ t.sve.run = s.sve.run ++ [⟨i, t0, none, 0, 0, 0, false, false, 0⟩] ∧
      t.sveJob.map (fun j => (j.idx, j.start, j.num, j.desc, j.loaded)) = some (i, t0, e.num, e.descs.headD [], false) ∧
      t.acf = s.acf ∧ t.cores = s.cores ∧ (∀ a, t.memByte a = s.memByte a)) ∧
  (∀ (ns code : Nat) (j : Sys2Proof.Machine.SveJob) (p : Sys2Proof.Machine.Prob) (gs : List (List Sys2Proof.Byte)) (s v u : Sys2Proof.Machine.State), s.sveJob = some j → j.loaded = false → s.aclk ≠ 0 → p = Sys2Proof.Machine.Prob.parse j.desc →
    (s.sveBankWords j.idx).any (fun x => s.poisoned x.1 x.2) = false → v = (s.sveBankWords j.idx).foldl (fun (s : Sys2Proof.Machine.State) x => s.sramCorrect x.1 x.2) s →
    v.sveInputs (p.groups (if Sys2Proof.bit p.ctrl 3 && j.swap then p.result else p.warm)) = (code, gs, u) →
    ∃ t, Sys2Proof.Machine.exec (.sveLoadPhaseEnd ns) s = .next t ∧ t.getF Sys2Proof.Machine.F.SVE_STATUS_WAITING = 0 ∧ t.sveJob.map (fun x => (x.idx, x.num, x.loaded)) = some (j.idx, j.num, true) ∧
      t.acf = s.acf ∧ t.cores = s.cores ∧
      (code = 0 → p.work = 0 → t.sveJob.map (fun x => x.status) = some (Sys2Proof.Machine.sveRun (Sys2Proof.Machine.sveReady j.desc gs).1 (Sys2Proof.Machine.sveReady j.desc gs).2.1).status) ∧
      (code ≠ 0 → t.sveJob.map (fun x => (x.status, x.fault)) = some (code, code) ∧ t.getF Sys2Proof.Machine.F.SVE_FAULT_CODE = code % 2 ^ Sys2Proof.Machine.F.SVE_FAULT_CODE.width ∧
        (s.frameState 0 = Sys2Proof.Machine.stRunning → t.frameState 0 = Sys2Proof.Machine.stFailed))) ∧
  (∀ (ns : Nat) (j : Sys2Proof.Machine.SveJob) (s : Sys2Proof.Machine.State), s.sveJob = some j → j.loaded = false → s.aclk ≠ 0 → (s.sveBankWords j.idx).any (fun x => s.poisoned x.1 x.2) = true →
    ∃ t, Sys2Proof.Machine.exec (.sveLoadPhaseEnd ns) s = .next t ∧ t.sveJob.map (fun x => (x.loaded, x.fault)) = some (true, Sys2Proof.Machine.C.SVE_SRAM_UNCORRECTABLE) ∧
      (s.frameState 0 = Sys2Proof.Machine.stRunning → t.frameState 0 = Sys2Proof.Machine.stFailed) ∧ (∀ a, t.memByte a = s.memByte a)) ∧
  (∀ (j : Sys2Proof.Machine.SveJob) (s : Sys2Proof.Machine.State), s.sveJob = some j → j.deadline = true → s.aclk ≠ 0 →
    ∃ t, Sys2Proof.Machine.exec .sveDeadline s = .next t ∧ t.getF Sys2Proof.Machine.F.SVE_STATUS_DEADLINE_HIT = 1 ∧ t.clk.cyc = s.clk.cyc + (j.start + j.load + j.pclock + 16 - s.frameCyc 0) ∧
      t.acf = s.acf ∧ t.cores = s.cores ∧ (∀ a, t.memByte a = s.memByte a)) ∧
  (∀ (own dest : Nat) (j : Sys2Proof.Machine.SveJob) (p : Sys2Proof.Machine.Prob) (s : Sys2Proof.Machine.State), s.sveJob = some j → s.aclk ≠ 0 → p = Sys2Proof.Machine.Prob.parse j.desc → dest = (if Sys2Proof.bit p.ctrl 3 && j.swap then p.warm else p.result) →
    own = max (s.frameCyc 0) (j.start + j.load + j.pclock + (if j.deadline then 16 else 0)
      + s.transferCycles 0x85 [(dest, if j.vecs.isEmpty then j.header.length else 128 + j.vecs.length)] - 1) →
    (j.loaded = true ∨ (s.sveAborted own).isSome = true) →
    ∃ t, Sys2Proof.Machine.exec .sveProblemComplete s = .next t ∧ t.sveJob = none ∧ t.getF Sys2Proof.Machine.F.SVE_STATUS_BUSY = 0 ∧ t.getF Sys2Proof.Machine.F.SVE_LAST_PROBLEM = j.num % 2 ^ Sys2Proof.Machine.F.SVE_LAST_PROBLEM.width ∧
      t.sve.run = s.sve.run.filter (fun r => r.idx != j.idx) ∧ t.acf = s.acf ∧ t.cores = s.cores ∧
      ∀ u, s.sveAborted own = none → (s.toCyc 0 own).sveResult j dest = (0, u) →
        t.getF Sys2Proof.Machine.F.SVE_LAST_STATUS = j.status % 2 ^ Sys2Proof.Machine.F.SVE_LAST_STATUS.width ∧ (∀ a, t.memByte a = u.memByte a) ∧
        (j.fault = 0 → ∃ c, own ≤ c ∧ t.sve.done = s.sve.done ++ [(j.idx, c)]))

/-- Adding the same addends to an LG32 word in any order, taking them in pass 1 of an LG64W word in any order, and in pass 2 of one in any order, gives the same word: the same integer or window, anchor, flags and count. It rests on R113, R114 and R116: integer addition modulo 2^320 and 2^512, sticky flags, a maximum as the anchor. -/
def Obligations.LedgersDoNotDependOnOrder : Prop :=
  ∀ (l m : List Sys2Proof.Machine.Fv), l.Perm m →
    (∀ x : Sys2Proof.Machine.Lg32, l.foldl (fun y v => y.add v) x = m.foldl (fun y v => y.add v) x) ∧
    (∀ x : Sys2Proof.Machine.Lgw, l.foldl (fun y v => y.pass1 v) x = m.foldl (fun y v => y.pass1 v) x) ∧
    (∀ x : Sys2Proof.Machine.Lgw, l.foldl (fun y v => y.pass2 v) x = m.foldl (fun y v => y.pass2 v) x)

/-- On a core that is present, neither stopped by an abort nor due an interrupt, VSETC with legal BITS and SEW sets VLEN to them, VCNT to min(Gs, BITS / SEW) and Gd to the new VCNT (G0 stays 0) and clears VSTART, and the next instruction follows; with other BITS or SEW the core takes an illegal-instruction exception at that instruction and no register changes (R301). No other core, no vector register and no byte of memory changes. -/
def Obligations.VsetcSetsTheVectorLength : Prop :=
  (∀ (c : Fin 64) (gd gs : Fin 32) (imm : Nat) (s : Sys2Proof.Machine.State), s.cores.length = 64 → s.boundary c = none →
    (Sys2Proof.bits imm 0 16 = 512 ∨ Sys2Proof.bits imm 0 16 = 1024 ∨ Sys2Proof.bits imm 0 16 = 2048 ∨ Sys2Proof.bits imm 0 16 = 4096) → Sys2Proof.bits imm 16 3 ≤ 3 →
    ∃ t, Sys2Proof.Machine.exec (.vsetc c gd gs imm) s = .next t ∧ (t.core c).vlen = Sys2Proof.bits imm 0 16 + Sys2Proof.bits imm 16 3 * 65536 ∧
      (t.core c).vcnt = min ((s.core c).gpr gs) (Sys2Proof.bits imm 0 16 / Sys2Proof.Machine.sewBits (Sys2Proof.bits imm 16 3)) ∧ (t.core c).vstart = 0 ∧
      (gd ≠ 0 → (t.core c).gpr gd = min ((s.core c).gpr gs) (Sys2Proof.bits imm 0 16 / Sys2Proof.Machine.sewBits (Sys2Proof.bits imm 16 3)) % 2 ^ 64) ∧
      (∀ k, k ≠ gd.val → (t.core c).gpr k = (s.core c).gpr k) ∧ (t.core c).v = (s.core c).v ∧ (t.core c).q = (s.core c).q ∧ (t.core c).fcsr = (s.core c).fcsr ∧
      (t.core c).pc = ((s.core c).pc + 4) % 2 ^ 64 ∧ (∀ k, k ≠ c.val → t.core k = s.core k) ∧ (∀ a, t.memByte a = s.memByte a)) ∧
  (∀ (c : Fin 64) (gd gs : Fin 32) (imm : Nat) (s : Sys2Proof.Machine.State), s.cores.length = 64 → s.boundary c = none →
    ¬(Sys2Proof.bits imm 0 16 = 512 ∨ Sys2Proof.bits imm 0 16 = 1024 ∨ Sys2Proof.bits imm 0 16 = 2048 ∨ Sys2Proof.bits imm 0 16 = 4096) ∨ 3 < Sys2Proof.bits imm 16 3 →
    ∃ t, Sys2Proof.Machine.exec (.vsetc c gd gs imm) s = .next t ∧ (t.core c).exc = some (1, (s.core c).pc) ∧ (t.core c).g = (s.core c).g ∧ (t.core c).v = (s.core c).v ∧
      (t.core c).q = (s.core c).q ∧ (t.core c).vlen = (s.core c).vlen ∧ (t.core c).vcnt = (s.core c).vcnt ∧ (t.core c).vstart = (s.core c).vstart ∧
      (t.core c).pc = (s.core c).pc ∧ (∀ a, t.memByte a = s.memByte a))

/-- A floating-point vector instruction with all traps disabled and no interrupt due leaves in each active element the rounded result of its sources at the same place, the second one being the scalar in G[VS2] where the instruction says so, and every other element as it was; for LVX the VCNT elements fit a VLEN of whole registers (R301, R302, R303, R308, R311, R313). A vector instruction of any kind, SVX or LVX, none of whose elements takes an exception ends with VSTART 0 at the next instruction; one whose element does stops there, with VSTART naming it and the instruction to be run again (R307). One that starts at or above its element count does nothing but clear VSTART and go on (R308); an illegal one takes an illegal-instruction exception and changes no register (R301, R303); an interrupt that is due before the first element is taken there (R310). -/
def Obligations.VectorInstructionsRun : Prop :=
  (∀ (c : Fin 64) (i : Sys2Proof.VecInstr) (op : Sys2Proof.FpOp) (n sw : Nat) (acts : List Nat) (s : Sys2Proof.Machine.State), s.cores.length = 64 → s.boundary c = none → i.op = .fp op →
    (s.core c).vecIllegal i = false → sw = (s.core c).width i.lvx i.w → n = (s.core c).limit i.lvx sw → (i.lvx = true → n * sw ≤ (s.core c).vbits ∧ (s.core c).vbits % 512 = 0) →
    acts = (s.core c).active i.qual (s.core c).vstart n → (s.core c).vstart < n → (s.core c).intAt = none → Sys2Proof.bits (s.core c).fcsr 8 5 = 0 →
    ∃ t, Sys2Proof.Machine.exec (.vectorInstruction c i) s = .next t ∧ (t.core c).vstart = 0 ∧ (t.core c).pc = ((s.core c).pc + 4) % 2 ^ 64 ∧
      (∀ e ∈ acts, (t.core c).elem sw i.vd e
        = (Sys2Proof.Machine.coreFp (Sys2Proof.Machine.fmtOfWidth sw) ((s.core c).rm i.rm) op ((s.core c).elem sw i.vs1 e) ((s.core c).second i sw e) ((s.core c).elem sw i.vd e)).1 % 2 ^ sw) ∧
      (∀ e, e ∉ acts → (t.core c).elem sw i.vd e = (s.core c).elem sw i.vd e) ∧
      (∀ k, k < i.vd.val ∨ i.vd.val + (s.core c).group i.lvx ≤ k → (t.core c).vec k = (s.core c).vec k) ∧ (t.core c).g = (s.core c).g ∧ (t.core c).q = (s.core c).q ∧
      (∀ k, k ≠ c.val → t.core k = s.core k) ∧ (∀ a, t.memByte a = s.memByte a)) ∧
  (∀ (c : Fin 64) (i : Sys2Proof.VecInstr) (n sw : Nat) (acts : List Nat) (o : Option Nat) (s u : Sys2Proof.Machine.State), s.cores.length = 64 → s.boundary c = none → (s.core c).vecIllegal i = false →
    (s.core c).intAt = none → sw = (s.core c).width i.lvx i.w → n = (s.core c).limit i.lvx sw → (s.core c).vstart < n → acts = (s.core c).active i.qual (s.core c).vstart n →
    Sys2Proof.Machine.elemLoop (Sys2Proof.Machine.vecElem c i ((s.running c).core c) sw) acts ((s.running c).vecIssue c i sw ((s.core c).passes i.lvx sw) ((s.core c).vstart * sw / 256) acts) = (o, u) →
    u.cores.length = 64 →
    ∃ t, Sys2Proof.Machine.exec (.vectorInstruction c i) s = .next t ∧ (t.core c).v = (u.core c).v ∧ (t.core c).q = (u.core c).q ∧ (t.core c).g = (u.core c).g ∧ (∀ a, t.memByte a = u.memByte a) ∧
      (o = none → (t.core c).vstart = 0 ∧ (t.core c).pc = ((u.core c).pc + 4) % 2 ^ 64 ∧ (t.core c).exc = (u.core c).exc) ∧
      (∀ e, o = some e → (t.core c).vstart = e ∧ (t.core c).pc = (u.core c).pc ∧ (t.core c).exc = some (if Sys2Proof.Machine.vecLoadStore i.op then 2 else 3, (u.core c).pc))) ∧
  (∀ (c : Fin 64) (i : Sys2Proof.VecInstr) (s : Sys2Proof.Machine.State), s.cores.length = 64 → s.boundary c = none → (s.core c).vecIllegal i = false →
    (s.core c).limit i.lvx ((s.core c).width i.lvx i.w) ≤ (s.core c).vstart →
    ∃ t, Sys2Proof.Machine.exec (.vectorInstruction c i) s = .next t ∧ (t.core c).vstart = 0 ∧ (t.core c).pc = ((s.core c).pc + 4) % 2 ^ 64 ∧ (t.core c).g = (s.core c).g ∧
      (t.core c).v = (s.core c).v ∧ (t.core c).q = (s.core c).q ∧ (t.core c).fcsr = (s.core c).fcsr ∧ (∀ a, t.memByte a = s.memByte a)) ∧
  (∀ (c : Fin 64) (i : Sys2Proof.VecInstr) (s : Sys2Proof.Machine.State), s.cores.length = 64 → s.boundary c = none → (s.core c).vecIllegal i = true →
    ∃ t, Sys2Proof.Machine.exec (.vectorInstruction c i) s = .next t ∧ (t.core c).exc = some (1, (s.core c).pc) ∧ (t.core c).g = (s.core c).g ∧ (t.core c).v = (s.core c).v ∧
      (t.core c).q = (s.core c).q ∧ (t.core c).pc = (s.core c).pc ∧ (∀ a, t.memByte a = s.memByte a)) ∧
  (∀ (c : Fin 64) (i : Sys2Proof.VecInstr) (s : Sys2Proof.Machine.State), s.cores.length = 64 → s.boundary c = none → (s.core c).vecIllegal i = false →
    (s.core c).vstart < (s.core c).limit i.lvx ((s.core c).width i.lvx i.w) →
    ((s.running c).core c).cutAt ((s.core c).width i.lvx i.w) ((s.core c).limit i.lvx ((s.core c).width i.lvx i.w)) ≤ (s.core c).vstart →
    ∃ t, Sys2Proof.Machine.exec (.vectorInstruction c i) s = .next t ∧ (t.core c).exc = some (5, (s.core c).pc) ∧ (t.core c).intAt = none ∧ (t.core c).vstart = (s.core c).vstart ∧
      (t.core c).g = (s.core c).g ∧ (t.core c).v = (s.core c).v ∧ (t.core c).q = (s.core c).q ∧ (t.core c).pc = (s.core c).pc ∧ (∀ a, t.memByte a = s.memByte a))

/-- An FP reduction with legal operands, traps disabled and no interrupt due writes to element 0 of VD the value of the recursion of R314 over its active elements in increasing order, ORs the flags of its additions into FCSR.FLAGS, clears VSTART and goes on to the next instruction; every other vector register, the general and qualifier registers, the other cores and memory are unchanged (R308, R309, R312, R314). One that would start at or above its element count with VSTART not 0 only clears VSTART (R308), and an illegal one takes an illegal-instruction exception and changes no register (R301, R303). -/
def Obligations.ReductionsFollowTheTree : Prop :=
  (∀ (c : Fin 64) (i : Sys2Proof.RedInstr) (n sw : Nat) (r : Nat × Nat) (s : Sys2Proof.Machine.State), s.cores.length = 64 → s.boundary c = none → sw = (s.core c).width i.lvx i.w → n = (s.core c).limit i.lvx sw →
    ¬((i.lvx = true ∧ (i.w ≠ 0 ∨ i.vd.val % (s.core c).group i.lvx ≠ 0 ∨ i.vs1.val % (s.core c).group i.lvx ≠ 0)) ∨ sw < 32) →
    ((s.core c).vstart = 0 ∨ (s.core c).vstart < n) → (s.core c).intAt = none → Sys2Proof.bits (s.core c).fcsr 8 5 = 0 →
    r = Sys2Proof.Machine.reduceTree (Sys2Proof.Machine.fmtOfWidth sw) ((s.core c).rm i.rm) 10 (((s.core c).active i.qual (s.core c).vstart n).map (fun e => (s.core c).elem sw i.vs1 e)) →
    ∃ t, Sys2Proof.Machine.exec (.fpReduction c i) s = .next t ∧ (t.core c).vstart = 0 ∧ (t.core c).pc = ((s.core c).pc + 4) % 2 ^ 64 ∧ (t.core c).elem sw i.vd 0 = r.1 % 2 ^ sw ∧
      (t.core c).fcsr = Sys2Proof.setBits (s.core c).fcsr 0 5 (Sys2Proof.bits (s.core c).fcsr 0 5 ||| r.2) ∧
      (∀ k, k ≠ i.vd.val → (t.core c).vec k = (s.core c).vec k) ∧ (t.core c).g = (s.core c).g ∧ (t.core c).q = (s.core c).q ∧
      (∀ k, k ≠ c.val → t.core k = s.core k) ∧ (∀ a, t.memByte a = s.memByte a)) ∧
  (∀ (c : Fin 64) (i : Sys2Proof.RedInstr) (s : Sys2Proof.Machine.State), s.cores.length = 64 → s.boundary c = none →
    ¬((i.lvx = true ∧ (i.w ≠ 0 ∨ i.vd.val % (s.core c).group i.lvx ≠ 0 ∨ i.vs1.val % (s.core c).group i.lvx ≠ 0)) ∨ (s.core c).width i.lvx i.w < 32) →
    0 < (s.core c).vstart → (s.core c).limit i.lvx ((s.core c).width i.lvx i.w) ≤ (s.core c).vstart →
    ∃ t, Sys2Proof.Machine.exec (.fpReduction c i) s = .next t ∧ (t.core c).vstart = 0 ∧ (t.core c).pc = ((s.core c).pc + 4) % 2 ^ 64 ∧ (t.core c).v = (s.core c).v ∧ (t.core c).g = (s.core c).g ∧
      (t.core c).q = (s.core c).q ∧ (t.core c).fcsr = (s.core c).fcsr ∧ (∀ a, t.memByte a = s.memByte a)) ∧
  (∀ (c : Fin 64) (i : Sys2Proof.RedInstr) (s : Sys2Proof.Machine.State), s.cores.length = 64 → s.boundary c = none →
    (i.lvx = true ∧ (i.w ≠ 0 ∨ i.vd.val % (s.core c).group i.lvx ≠ 0 ∨ i.vs1.val % (s.core c).group i.lvx ≠ 0)) ∨ (s.core c).width i.lvx i.w < 32 →
    ∃ t, Sys2Proof.Machine.exec (.fpReduction c i) s = .next t ∧ (t.core c).exc = some (1, (s.core c).pc) ∧ (t.core c).pc = (s.core c).pc ∧ (t.core c).v = (s.core c).v ∧ (t.core c).g = (s.core c).g ∧
      (t.core c).q = (s.core c).q ∧ (t.core c).fcsr = (s.core c).fcsr)

/-- With a word in the core's own local store or in the exchange store, aligned, and readable: LGA32 adds its addends to an LG32 word in order; LGW1 takes them in pass 1 while PHASE is 0 and LGW2 in pass 2 while PHASE is 1; LGWPH sets PHASE 1 and clears WINDOW and COUNT; LGRD puts the rounded read-out into Fd (R113 to R117, R315). Each stores exactly its word, or nothing for LGRD; every other byte of memory is unchanged, VSTART of a vector form is 0 and the next instruction follows. A vector form with no element to process only clears VSTART and goes on (R308). A word in the wrong phase is unchanged, CORE_LEDGER_PHASE is raised and the core takes a data exception (R119, R315); a place that is no such word gives a memory exception and stores nothing. -/
def Obligations.LedgerInstructionsAct : Prop :=
  (∀ (c : Fin 64) (a : Nat) (r : Sys2Proof.LedgerSrc) (s : Sys2Proof.Machine.State), s.cores.length = 64 → s.boundary c = none → Sys2Proof.Machine.lg32Takes r.fmt = true →
    (r.vec && r.lvx && (r.reg.val % (s.core c).group true != 0 || (s.core c).vsew != Sys2Proof.Machine.laneOf r.fmt)) = false → s.ledgerAt c a 64 64 = true → (r.vec = true → (s.core c).vstart < (s.core c).limit r.lvx (if r.lvx then (s.core c).vsew else Sys2Proof.Machine.laneOf r.fmt)) → (s.core c).addends r ≠ [] → s.localPoison a 64 = false → s.poisoned a 64 = false →
    ∃ t, Sys2Proof.Machine.exec (.lga32 c a r) s = .next t ∧
      t.readMem a 64 = (((s.core c).addends r).foldl (fun (y : Sys2Proof.Machine.Lg32) v => y.add v.2) (Sys2Proof.Machine.Lg32.ofBytes (s.readMem a 64))).toBytes ∧
      (∀ b, b < a ∨ a + 64 ≤ b → t.memByte b = s.memByte b) ∧ (t.core c).pc = ((s.core c).pc + 4) % 2 ^ 64 ∧ (r.vec = true → (t.core c).vstart = 0) ∧
      (t.core c).g = (s.core c).g ∧ (t.core c).v = (s.core c).v ∧ (t.core c).q = (s.core c).q) ∧
  (∀ (c : Fin 64) (a : Nat) (r : Sys2Proof.LedgerSrc) (s : Sys2Proof.Machine.State), s.cores.length = 64 → s.boundary c = none → r.fmt = 0xB →
    (r.vec && r.lvx && (r.reg.val % (s.core c).group true != 0 || (s.core c).vsew != Sys2Proof.Machine.laneOf r.fmt)) = false → s.ledgerAt c a 80 16 = true → (r.vec = true → (s.core c).vstart < (s.core c).limit r.lvx (if r.lvx then (s.core c).vsew else Sys2Proof.Machine.laneOf r.fmt)) → s.localPoison a 80 = false → s.poisoned a 80 = false → (s.core c).addends r ≠ [] →
    ∃ t u, Sys2Proof.Machine.exec (.lgw1 c a r) s = .next t ∧ Sys2Proof.Machine.exec (.lgw2 c a r) s = .next u ∧
      ((Sys2Proof.Machine.Lgw.ofBytes (s.readMem a 80)).phase = 0 →
        t.readMem a 80 = (((s.core c).addends r).foldl (fun (y : Sys2Proof.Machine.Lgw) v => y.pass1 v.2) (Sys2Proof.Machine.Lgw.ofBytes (s.readMem a 80))).toBytes ∧
        (∀ b, b < a ∨ a + 80 ≤ b → t.memByte b = s.memByte b) ∧ (t.core c).pc = ((s.core c).pc + 4) % 2 ^ 64 ∧ (r.vec = true → (t.core c).vstart = 0) ∧
        u.codes = (s.running c).codes ++ [Sys2Proof.Machine.C.CORE_LEDGER_PHASE] ++ (if ((s.running c).core c).pinned then [Sys2Proof.Machine.C.CORE_PIN_BREAK] else []) ∧ (u.core c).exc = some (4, (s.core c).pc) ∧ (∀ b, u.memByte b = s.memByte b)) ∧
      ((Sys2Proof.Machine.Lgw.ofBytes (s.readMem a 80)).phase = 1 →
        u.readMem a 80 = (((s.core c).addends r).foldl (fun (y : Sys2Proof.Machine.Lgw) v => y.pass2 v.2) (Sys2Proof.Machine.Lgw.ofBytes (s.readMem a 80))).toBytes ∧
        (∀ b, b < a ∨ a + 80 ≤ b → u.memByte b = s.memByte b) ∧ (u.core c).pc = ((s.core c).pc + 4) % 2 ^ 64 ∧ (r.vec = true → (u.core c).vstart = 0) ∧
        t.codes = (s.running c).codes ++ [Sys2Proof.Machine.C.CORE_LEDGER_PHASE] ++ (if ((s.running c).core c).pinned then [Sys2Proof.Machine.C.CORE_PIN_BREAK] else []) ∧ (t.core c).exc = some (4, (s.core c).pc) ∧ (∀ b, t.memByte b = s.memByte b))) ∧
  (∀ (c : Fin 64) (a : Nat) (r : Sys2Proof.LedgerSrc) (x : Sys2Proof.Instr) (s : Sys2Proof.Machine.State), s.cores.length = 64 → s.boundary c = none →
    (x = .lga32 c a r ∧ Sys2Proof.Machine.lg32Takes r.fmt = true) ∨ ((x = .lgw1 c a r ∨ x = .lgw2 c a r) ∧ r.fmt = 0xB) → (r.vec && r.lvx && (r.reg.val % (s.core c).group true != 0 || (s.core c).vsew != Sys2Proof.Machine.laneOf r.fmt)) = false → r.vec = true → (s.core c).addends r = [] →
    ∃ t, Sys2Proof.Machine.exec x s = .next t ∧ (t.core c).vstart = 0 ∧ (t.core c).pc = ((s.core c).pc + 4) % 2 ^ 64 ∧ (t.core c).g = (s.core c).g ∧ (t.core c).v = (s.core c).v ∧
      (t.core c).q = (s.core c).q ∧ (∀ b, t.memByte b = s.memByte b)) ∧
  (∀ (c : Fin 64) (a : Nat) (s : Sys2Proof.Machine.State), s.cores.length = 64 → s.boundary c = none → s.ledgerAt c a 80 16 = true → s.localPoison a 80 = false → s.poisoned a 80 = false →
    ∃ t, Sys2Proof.Machine.exec (.lgwph c a) s = .next t ∧ t.readMem a 80 = (Sys2Proof.Machine.Lgw.ofBytes (s.readMem a 80)).setPhase.toBytes ∧
      (∀ b, b < a ∨ a + 80 ≤ b → t.memByte b = s.memByte b) ∧ (t.core c).pc = ((s.core c).pc + 4) % 2 ^ 64) ∧
  (∀ (c : Fin 64) (a : Nat) (s : Sys2Proof.Machine.State), s.cores.length = 64 → s.boundary c = none → s.ledgerAt c a 80 16 = false →
    ∃ t, Sys2Proof.Machine.exec (.lgwph c a) s = .next t ∧ (t.core c).exc = some (2, (s.core c).pc) ∧ (t.core c).pc = (s.core c).pc ∧ (∀ b, t.memByte b = s.memByte b)) ∧
  (∀ (c : Fin 64) (a : Nat) (wide : Bool) (fd : Fin 32) (s : Sys2Proof.Machine.State), s.cores.length = 64 → s.boundary c = none →
    s.ledgerAt c a (if wide then 80 else 64) (if wide then 16 else 64) = true → s.localPoison a (if wide then 80 else 64) = false →
    s.poisoned a (if wide then 80 else 64) = false → Sys2Proof.bits (s.core c).fcsr 8 5 = 0 →
    ∃ t, Sys2Proof.Machine.exec (.lgrd c a wide fd) s = .next t ∧
      Sys2Proof.bits ((t.core c).vec fd) 0 64 = (if wide then (Sys2Proof.Machine.Lgw.ofBytes (s.readMem a 80)).readOut.1 % 2 ^ 64 else ((Sys2Proof.Machine.Lg32.ofBytes (s.readMem a 64)).readOut Sys2Proof.Machine.fmtF32).1 % 2 ^ 32) ∧
      (∀ k, k ≠ fd.val → (t.core c).vec k = (s.core c).vec k) ∧ (∀ b, t.memByte b = s.memByte b) ∧ (t.core c).pc = ((s.core c).pc + 4) % 2 ^ 64)

/-- On a core that is present, neither stopped by an abort nor due an interrupt: a scalar FP instruction with traps disabled puts the rounded result into Fd, of the format that the operation gives (R300, R311); an enabled trap among its flags stops it with an FP-trap exception and Fd as it was (R307, R312). Compares and conversions to an integer put their result into Gd, conversions from one into Fd. A load from a mapped and readable place of the P-die stores puts its bytes, extended as it says, into Gd or Fd; a store there writes its bytes and no other (R316). A cache maintenance operation leaves no copy of its line, and changes no register. Moves to and from FCSR, CCOUNT and the qualifier registers act on those registers (R299, R312). In each case the next instruction follows. A return goes back to the instruction that took the exception (R307). -/
def Obligations.ScalarInstructionsAct : Prop :=
  (∀ (c : Fin 64) (op : Sys2Proof.FpOp) (dbl : Bool) (fd f1 f2 : Fin 32) (rm : Option (Fin 4)) (w : Nat) (r : Nat × Nat) (s : Sys2Proof.Machine.State), s.cores.length = 64 → s.boundary c = none →
    w = (if dbl then 64 else 32) →
    r = Sys2Proof.Machine.coreFp (Sys2Proof.Machine.fmtOfWidth w) ((s.core c).rm rm) op ((s.core c).vec f1 % 2 ^ (if op = .cvt false ∨ dbl = true then 64 else 32)) ((s.core c).vec f2 % 2 ^ w) ((s.core c).vec fd % 2 ^ w) →
    ∃ t, Sys2Proof.Machine.exec (.scalarInstruction c (.fp op dbl fd f1 f2 rm)) s = .next t ∧
      ((s.core c).traps r.2 = false → (t.core c).pc = ((s.core c).pc + 4) % 2 ^ 64 ∧ Sys2Proof.bits ((t.core c).vec fd) 0 64 = r.1 % 2 ^ (if Sys2Proof.Machine.fpToDbl op dbl then 64 else 32)) ∧
      ((s.core c).traps r.2 = true → (t.core c).pc = (s.core c).pc ∧ (t.core c).exc = some (3, (s.core c).pc) ∧ (t.core c).vec fd = (s.core c).vec fd) ∧
      (t.core c).fcsr = Sys2Proof.setBits (s.core c).fcsr 0 5 (Sys2Proof.bits (s.core c).fcsr 0 5 ||| r.2) ∧
      (∀ k, k ≠ fd.val → (t.core c).vec k = (s.core c).vec k) ∧ (t.core c).g = (s.core c).g ∧ (t.core c).q = (s.core c).q ∧ (∀ b, t.memByte b = s.memByte b)) ∧
  (∀ (c : Fin 64) (k : Fin 6) (sg dbl signed wide exact : Bool) (gd f1 f2 : Fin 32) (rm : Option (Fin 4)) (w : Nat) (s : Sys2Proof.Machine.State), s.cores.length = 64 → s.boundary c = none → Sys2Proof.bits (s.core c).fcsr 8 5 = 0 → gd ≠ 0 →
    w = (if dbl then 64 else 32) →
    ∃ t u v x, Sys2Proof.Machine.exec (.scalarInstruction c (.fcmp k sg dbl gd f1 f2)) s = .next t ∧ Sys2Proof.Machine.exec (.scalarInstruction c (.ftoi dbl signed wide exact gd f1 rm)) s = .next u ∧
      Sys2Proof.Machine.exec (.scalarInstruction c (.itof dbl signed wide f1 gd rm)) s = .next v ∧ Sys2Proof.Machine.exec (.scalarInstruction c (.int w gd f1 f2)) s = .next x ∧
      (t.core c).gpr gd = Sys2Proof.b2n (Sys2Proof.Machine.coreCmp (Sys2Proof.Machine.fmtOfWidth w) k sg ((s.core c).vec f1 % 2 ^ w) ((s.core c).vec f2 % 2 ^ w)).1 ∧ (t.core c).pc = ((s.core c).pc + 4) % 2 ^ 64 ∧ (t.core c).v = (s.core c).v ∧ (t.core c).q = (s.core c).q ∧
      (u.core c).gpr gd = (if wide = true ∨ signed = false then (Sys2Proof.Machine.coreToInt (Sys2Proof.Machine.fmtOfWidth w) ((s.core c).rm rm) (if wide then 64 else 32) signed exact ((s.core c).vec f1 % 2 ^ w)).1
        else Sys2Proof.unsint 64 (Sys2Proof.sint 32 (Sys2Proof.Machine.coreToInt (Sys2Proof.Machine.fmtOfWidth w) ((s.core c).rm rm) 32 signed exact ((s.core c).vec f1 % 2 ^ w)).1)) % 2 ^ 64 ∧
      (u.core c).pc = ((s.core c).pc + 4) % 2 ^ 64 ∧ (u.core c).v = (s.core c).v ∧ (u.core c).q = (s.core c).q ∧
      Sys2Proof.bits ((v.core c).vec f1) 0 64 = (Sys2Proof.Machine.coreFromInt (Sys2Proof.Machine.fmtOfWidth w) ((s.core c).rm rm) (if wide then 64 else 32) signed ((s.core c).gpr gd % 2 ^ (if wide then 64 else 32))).1 % 2 ^ w ∧
      (v.core c).pc = ((s.core c).pc + 4) % 2 ^ 64 ∧ (v.core c).g = (s.core c).g ∧ (v.core c).q = (s.core c).q ∧
      (x.core c).gpr gd = Sys2Proof.Config.coreInt w ((s.core c).gpr f1) ((s.core c).gpr f2) % 2 ^ 64 ∧ (x.core c).pc = ((s.core c).pc + 4) % 2 ^ 64 ∧ (x.core c).v = (s.core c).v ∧ (x.core c).q = (s.core c).q) ∧
  (∀ (c : Fin 64) (gd gs : Fin 32) (off : Sys2Proof.Word) (k : Fin 4) (sg lk : Bool) (pages : List Sys2Proof.PageMap) (a n : Nat) (s : Sys2Proof.Machine.State), s.cores.length = 64 → s.boundary c = none → n = 2 ^ k.val →
    Sys2Proof.Machine.physPieces pages ((s.core c).effAddr gs off) n = some ([(a, n)], lk) → Sys2Proof.Machine.rowOf a = none → s.inWindow a n = true →
    s.localPoison a n = false → s.poisoned a n = false → gd ≠ 0 →
    ∃ t, Sys2Proof.Machine.exec (.scalarInstruction c (.load gd gs off k sg pages)) s = .next t ∧ (t.core c).pc = ((s.core c).pc + 4) % 2 ^ 64 ∧
      (t.core c).gpr gd = (if sg then Sys2Proof.unsint 64 (Sys2Proof.sint (8 * n) (s.readNat a n)) else s.readNat a n) % 2 ^ 64 ∧
      (∀ i, i ≠ gd.val → (t.core c).gpr i = (s.core c).gpr i) ∧ (t.core c).v = (s.core c).v ∧ (∀ b, t.memByte b = s.memByte b)) ∧
  (∀ (c : Fin 64) (g1 gs : Fin 32) (off : Sys2Proof.Word) (k : Fin 4) (lk : Bool) (pages : List Sys2Proof.PageMap) (a n : Nat) (s : Sys2Proof.Machine.State), s.cores.length = 64 → s.boundary c = none → n = 2 ^ k.val →
    Sys2Proof.Machine.physPieces pages ((s.core c).effAddr gs off) n = some ([(a, n)], lk) → Sys2Proof.Machine.rowOf a = none → s.inWindow a n = true →
    ∃ t, Sys2Proof.Machine.exec (.scalarInstruction c (.store g1 gs off k pages)) s = .next t ∧ (t.core c).pc = ((s.core c).pc + 4) % 2 ^ 64 ∧
      t.readMem a n = Sys2Proof.leBytes n ((s.core c).gpr g1) ∧ (∀ b, b < a ∨ a + n ≤ b → t.memByte b = s.memByte b) ∧
      (t.core c).g = (s.core c).g ∧ (t.core c).v = (s.core c).v ∧ (t.core c).q = (s.core c).q) ∧
  (∀ (c : Fin 64) (f gs : Fin 32) (off : Sys2Proof.Word) (dbl lk : Bool) (pages : List Sys2Proof.PageMap) (a n : Nat) (s : Sys2Proof.Machine.State), s.cores.length = 64 → s.boundary c = none → n = (if dbl then 8 else 4) →
    Sys2Proof.Machine.physPieces pages ((s.core c).effAddr gs off) n = some ([(a, n)], lk) → Sys2Proof.Machine.rowOf a = none → s.inWindow a n = true → s.localPoison a n = false → s.poisoned a n = false →
    ∃ t u, Sys2Proof.Machine.exec (.scalarInstruction c (.fload f gs off dbl pages)) s = .next t ∧ Sys2Proof.Machine.exec (.scalarInstruction c (.fstore f gs off dbl pages)) s = .next u ∧
      (t.core c).pc = ((s.core c).pc + 4) % 2 ^ 64 ∧ Sys2Proof.bits ((t.core c).vec f) 0 64 = s.readNat a n % 2 ^ (8 * n) ∧ (∀ i, i ≠ f.val → (t.core c).vec i = (s.core c).vec i) ∧ (t.core c).g = (s.core c).g ∧ (∀ b, t.memByte b = s.memByte b) ∧
      (u.core c).pc = ((s.core c).pc + 4) % 2 ^ 64 ∧ u.readMem a n = Sys2Proof.leBytes n ((s.core c).vec f) ∧ (∀ b, b < a ∨ a + n ≤ b → u.memByte b = s.memByte b) ∧ (u.core c).g = (s.core c).g ∧ (u.core c).v = (s.core c).v ∧ (u.core c).q = (s.core c).q) ∧
  (∀ (c : Fin 64) (gs : Fin 32) (off : Sys2Proof.Word) (lk : Bool) (pages : List Sys2Proof.PageMap) (a : Nat) (s : Sys2Proof.Machine.State), s.cores.length = 64 → s.boundary c = none → Sys2Proof.Machine.physPieces pages ((s.core c).effAddr gs off) 1 = some ([(a, 1)], lk) →
    (∀ x ∈ s.ccache, x.addr = a / 64 * 64 → x.dirty = false) →
    ∃ t, Sys2Proof.Machine.exec (.scalarInstruction c (.cache gs off pages)) s = .next t ∧ (t.core c).pc = ((s.core c).pc + 4) % 2 ^ 64 ∧ (∀ x ∈ t.ccache, x.addr ≠ a / 64 * 64) ∧ (t.core c).g = (s.core c).g ∧ (t.core c).v = (s.core c).v ∧ (t.core c).q = (s.core c).q ∧ (∀ b, t.memByte b = s.memByte b)) ∧
  (∀ (c : Fin 64) (gd gs : Fin 32) (q : Fin 8) (k : Fin 8) (s : Sys2Proof.Machine.State), s.cores.length = 64 → s.boundary c = none → gd ≠ 0 →
    ∃ t1 t2 t3 t4 t5, Sys2Proof.Machine.exec (.scalarInstruction c (.readFcsr gd)) s = .next t1 ∧ (t1.core c).gpr gd = (s.core c).fcsr % 2 ^ 64 ∧
      Sys2Proof.Machine.exec (.scalarInstruction c (.writeFcsr gs)) s = .next t2 ∧ (t2.core c).fcsr = Sys2Proof.Machine.fcsrMask ((s.core c).gpr gs) ∧ (t2.core c).g = (s.core c).g ∧
      Sys2Proof.Machine.exec (.scalarInstruction c (.readQ gd q k)) s = .next t3 ∧ (t3.core c).gpr gd = Sys2Proof.bits ((s.core c).qual q) (64 * k.val) 64 ∧ (t3.core c).q = (s.core c).q ∧
      Sys2Proof.Machine.exec (.scalarInstruction c (.writeQ gs q k)) s = .next t4 ∧ (t4.core c).qual q = Sys2Proof.setBits ((s.core c).qual q) (64 * k.val) 64 ((s.core c).gpr gs) % 2 ^ 512 ∧ (t4.core c).g = (s.core c).g ∧
      Sys2Proof.Machine.exec (.scalarInstruction c (.readCcount gd)) s = .next t5 ∧
      (t5.core c).gpr gd = (s.core c).startAt ((s.running c).issueFrom c) false false false 0 1 1 [] % 2 ^ 64 ∧
      ((t1.core c).pc = ((s.core c).pc + 4) % 2 ^ 64 ∧ (t2.core c).pc = ((s.core c).pc + 4) % 2 ^ 64 ∧ (t3.core c).pc = ((s.core c).pc + 4) % 2 ^ 64 ∧
        (t4.core c).pc = ((s.core c).pc + 4) % 2 ^ 64 ∧ (t5.core c).pc = ((s.core c).pc + 4) % 2 ^ 64)) ∧
  (∀ (c : Fin 64) (k p : Nat) (s : Sys2Proof.Machine.State), s.cores.length = 64 → s.boundary c = none → (s.core c).exc = some (k, p) →
    ∃ t, Sys2Proof.Machine.exec (.scalarInstruction c .ret) s = .next t ∧ (t.core c).pc = p ∧ (t.core c).exc = none ∧ (t.core c).g = (s.core c).g ∧ (t.core c).v = (s.core c).v ∧ (t.core c).q = (s.core c).q)

/-- The turn of an access by core c to an address issued in cycle t0 is the first cycle at or after t0 that is c more than the slice modulo 64 (R325). A read inside the exchange store answers the bytes and, as the value, the core cycle in which the last of them are there; a write stores its bytes and no other byte (R325). An access beyond the store breaks pinning with CAUSE 1 and takes a memory exception (R326), and stores nothing. -/
def Obligations.ExchangeStoreAccesses : Prop :=
  (∀ (c : Fin 64) (a t0 : Nat), t0 ≤ Sys2Proof.Machine.exchangeCycle c a t0 ∧ Sys2Proof.Machine.exchangeCycle c a t0 < t0 + 64 ∧ Sys2Proof.Machine.exchangeCycle c a t0 % 64 = (c.val + a / 64 % 16) % 64) ∧
  (∀ (c : Fin 64) (off v n : Nat) (s : Sys2Proof.Machine.State), s.cores.length = 64 → s.boundary c = none → 0 < n → off + n ≤ s.exchangeSize → s.localPoison (Sys2Proof.Machine.exchangeBase + off) n = false →
    s.poisoned (Sys2Proof.Machine.exchangeBase + off) n = false →
    ∃ t, Sys2Proof.Machine.exec (.exchangeStoreAccess c false off v n) s = .next t ∧ t.out.bytes = s.readMem (Sys2Proof.Machine.exchangeBase + off) n ∧
      (off % 64 + n ≤ 64 → t.out.value = Sys2Proof.Machine.exchangeCycle c (Sys2Proof.Machine.exchangeBase + off) ((s.core c).startAt ((s.running c).issueFrom c) true false false 0 1 1 []) + 24) ∧
      (t.core c).pc = ((s.core c).pc + 4) % 2 ^ 64 ∧ (t.core c).g = (s.core c).g ∧ (∀ b, t.memByte b = s.memByte b)) ∧
  (∀ (c : Fin 64) (off v n : Nat) (s : Sys2Proof.Machine.State), s.cores.length = 64 → s.boundary c = none → 0 < n → off + n ≤ s.exchangeSize →
    ∃ t, Sys2Proof.Machine.exec (.exchangeStoreAccess c true off v n) s = .next t ∧ t.readMem (Sys2Proof.Machine.exchangeBase + off) n = Sys2Proof.leBytes n v ∧
      (∀ b, b < Sys2Proof.Machine.exchangeBase + off ∨ Sys2Proof.Machine.exchangeBase + off + n ≤ b → t.memByte b = s.memByte b) ∧ (t.core c).pc = ((s.core c).pc + 4) % 2 ^ 64 ∧ (t.core c).g = (s.core c).g) ∧
  (∀ (c : Fin 64) (w : Bool) (off v n : Nat) (s : Sys2Proof.Machine.State), s.cores.length = 64 → s.boundary c = none → s.exchangeSize < off + n →
    ∃ t, Sys2Proof.Machine.exec (.exchangeStoreAccess c w off v n) s = .next t ∧ (t.core c).exc = some (2, (s.core c).pc) ∧ (t.core c).pinned = false ∧ (∀ b, t.memByte b = s.memByte b))

/-- An entry that can start, on cores that are present and free of software, puts its number, entry point and start on each of its cores: the core runs it, G1 is its number and G2 the EVENT, and it starts at a CCOUNT multiple of 64 (R321). CDONE of the last core with status 0 ends the core's part and completes the entry; any other status faults it (R322). CIDLE frees a core that runs software outside any entry (R321). An interrupt is held on a pinned core and due otherwise (R310, R323); a machine check takes the core out of service and faults its entry (R328, R330). The core clock steps down when a sensor reads within 2 °C of the limit, and up when all have been 6 °C below it for 10 ms, with an event; with none near and no such time it stays (R327). PIN_CFG takes its fields only while partition 0 is IDLE or STOPPED (R333). -/
def Obligations.CoreEntriesRun : Prop :=
  (∀ (i t0 dep ou w : Nat) (pages : List Sys2Proof.PageMap) (e : Sys2Proof.Machine.TabEntry) (s : Sys2Proof.Machine.State), s.cores.length = 64 → s.seqReady .cor i = some (e, t0, dep, ou) →
    s.softFree (Sys2Proof.Machine.coresOf e.on) = some w → (s.seqLimit .cor).any (fun l => decide (l < max t0 w)) = false → (Sys2Proof.Machine.coresOf e.on).any s.coreAbsent = false →
    ∃ t, Sys2Proof.Machine.exec (.coreEntryStart ⟨i, pages⟩) s = .next t ∧ t.cor.run = s.cor.run ++ [⟨i, t0, none, 0, 0, 0, false, false, e.on⟩] ∧
      ∀ c ∈ Sys2Proof.Machine.coresOf e.on, (t.core c).entry = some i ∧ (t.core c).pc = e.pc ∧ (t.core c).gpr 1 = c ∧ (t.core c).gpr 2 = e.num % 2 ^ 64 ∧ (t.core c).start % 64 = 0 ∧
        (t.core c).pinned = e.pin ∧ (t.core c).code = pages ∧ t.getF (Sys2Proof.Machine.F.CORE_STATUS_RUNNING c) = 1 ∧ (t.core c).v = (s.core c).v) ∧
  (∀ (c : Fin 64) (gs : Fin 32) (i : Nat) (e : Sys2Proof.Machine.TabEntry) (r : Sys2Proof.Machine.SeqRun) (s : Sys2Proof.Machine.State), (s.core c).gpr gs = 0 → s.cores.length = 64 → s.coreAbsent c = false → s.coreStops c = false → (s.core c).entry = some i →
    s.cor.run.find? (fun x => x.idx == i) = some r → r.left = 2 ^ c.val → r.fault = false → s.cor.table[i]? = some e →
    ∃ t k, Sys2Proof.Machine.exec (.cdone c gs) s = .next t ∧ (t.core c).entry = none ∧ (t.core c).pinned = false ∧ t.getF (Sys2Proof.Machine.F.CORE_STATUS_RUNNING c) = 0 ∧
      t.cor.done = s.cor.done ++ [(i, k)] ∧ t.cor.run = (s.cor.run.filter (fun x => x.idx != i)) ∧ (∀ b, t.memByte b = s.memByte b)) ∧
  (∀ (c : Fin 64) (gs : Fin 32) (i : Nat) (s : Sys2Proof.Machine.State), s.cores.length = 64 → s.coreAbsent c = false → s.coreStops c = false → (s.core c).entry = some i → (s.core c).gpr gs ≠ 0 →
    ∃ t, Sys2Proof.Machine.exec (.cdone c gs) s = .next t ∧ (t.core c).entry = none ∧ t.cor.failed = true ∧ t.getF (Sys2Proof.Machine.F.CORE_STATUS_FAULTED c) = 1 ∧ (∀ b, t.memByte b = s.memByte b)) ∧
  (∀ (c : Fin 64) (s : Sys2Proof.Machine.State), s.cores.length = 64 → s.coreAbsent c = false → (s.core c).entry = none →
    ∃ t, Sys2Proof.Machine.exec (.cidle c) s = .next t ∧ (t.core c).soft = false ∧ (t.core c).idleAt = s.clk.cyc ∧ (t.core c).pc = ((s.core c).pc + 4) % 2 ^ 64 ∧ (t.core c).g = (s.core c).g ∧
      (∀ b, t.memByte b = s.memByte b)) ∧
  (∀ (c : Fin 64) (k : Nat) (s : Sys2Proof.Machine.State), s.cores.length = 64 → s.coreAbsent c = false →
    ∃ t, Sys2Proof.Machine.exec (.coreInterrupt c (.interrupt k)) s = .next t ∧ ((s.core c).pinned = true → (t.core c).held = (s.core c).held + 1 ∧ (t.core c).intAt = (s.core c).intAt) ∧
      ((s.core c).pinned = false → (t.core c).intAt = some k ∧ (t.core c).held = (s.core c).held) ∧ (t.core c).g = (s.core c).g ∧ (∀ b, t.memByte b = s.memByte b)) ∧
  (∀ (c : Fin 64) (readable : Bool) (s : Sys2Proof.Machine.State), s.cores.length = 64 → s.coreAbsent c = false →
    ∃ t, Sys2Proof.Machine.exec (.coreInterrupt c (.machineCheck readable)) s = .next t ∧ (t.core c).entry = none ∧ t.getF (Sys2Proof.Machine.F.CORE_STATUS_ABSENT c) = 1 ∧ (t.core c).g = (s.core c).g ∧
      ((s.core c).entry.isSome → t.cor.failed = true ∧ t.getF (Sys2Proof.Machine.F.CORE_STATUS_FAULTED c) = 1)) ∧
  (∀ (temps : List Int) (old n : Nat) (s : Sys2Proof.Machine.State), old = s.getF Sys2Proof.Machine.F.CLK_STATUS_CORE_CLK → n ≠ old → n < 2 ^ Sys2Proof.Machine.F.CLK_STATUS_CORE_CLK.width →
    ((∃ y ∈ temps, 98 ≤ y) ∧ n = max 20 (old - 2)) ∨ ((∀ y ∈ temps, y ≤ 94) ∧ (∃ t0, s.pdieCool = some t0 ∧ 10000000 ≤ s.clk.ns - t0) ∧ n = min 26 (old + 2)) →
    ∃ t, Sys2Proof.Machine.exec (.coreClockStep temps) s = .next t ∧ t.getF Sys2Proof.Machine.F.CLK_STATUS_CORE_CLK = n ∧ t.codes = s.codes ++ [Sys2Proof.Machine.C.CORE_CLOCK_STEP] ∧ t.cores = s.cores ∧ t.clk = s.clk) ∧
  (∀ (temps : List Int) (s : Sys2Proof.Machine.State), (∀ y ∈ temps, y < 98) → (∀ t0, s.pdieCool = some t0 → s.clk.ns - t0 < 10000000) →
    ∃ t, Sys2Proof.Machine.exec (.coreClockStep temps) s = .next t ∧ t.getF Sys2Proof.Machine.F.CLK_STATUS_CORE_CLK = s.getF Sys2Proof.Machine.F.CLK_STATUS_CORE_CLK ∧ t.codes = s.codes ∧ t.cores = s.cores) ∧
  (∀ (v : Sys2Proof.Word) (s : Sys2Proof.Machine.State), s.atRest 0 = false → Sys2Proof.Machine.exec (.pinCfgWrite v) s = .next (s.refused Sys2Proof.Machine.C.CORE_LOAD_STATE 4 2 0)) ∧
  (∀ (v : Sys2Proof.Word) (s : Sys2Proof.Machine.State), s.atRest 0 = true → Sys2Proof.bits v.toNat 8 5 ≤ 24 → Sys2Proof.bits v.toNat 0 4 ≤ 12 →
    ∃ t, Sys2Proof.Machine.exec (.pinCfgWrite v) s = .next t ∧ t.getF Sys2Proof.Machine.F.PIN_CFG_XS_MIB = Sys2Proof.bits v.toNat 8 5 ∧ t.getF Sys2Proof.Machine.F.PIN_CFG_LS_WAYS = Sys2Proof.bits v.toNat 0 4 ∧ t.out = ⟨0, 0, []⟩)

/-- A write of exactly one element to an addend window of T1, whose requester gets its slots, adds the element to its target word by the TYPE's rule: integers modulo their width, FP32 and BF16 into an LG32 word, FP64 through its three windows into an LG64W word (R354, R355); it is answered with success, and every byte outside the target word is unchanged. (In a frame: where no write of a later cycle than its own has been made.) One that does not start at an element's first byte answers ADDER_ALIGN and adds nothing (R356); one in the wrong phase answers ADDER_LEDGER_PHASE (R355). A read of one element returns what its target word holds in the slot's cycle and changes no byte (R357, R358); a read of a word that cannot be read answers T1_UNCORRECTABLE (R362). -/
def Obligations.AddersAddWholeElements : Prop :=
  (∀ (req a : Nat) (data : List Sys2Proof.Byte) (die w o f c d : Nat) (r : Sys2Proof.Machine.RangeE) (y : List Sys2Proof.Byte) (s u v : Sys2Proof.Machine.State), s.servingDie a = some die → s.adderAt die a = some (r, w, o) → o % Sys2Proof.Machine.adderE r.sel = 0 →
    data.length = Sys2Proof.Machine.adderE r.sel → s.adderSlots die req (s.frameCyc (s.partOf die)) (Sys2Proof.Machine.adderUnits r (o / Sys2Proof.Machine.adderE r.sel) ++ Sys2Proof.Machine.adderUnits r (o / Sys2Proof.Machine.adderE r.sel)) = (some (f, c), u) →
    (u.countHbm die (u.t1Pc die ((r.target (o / Sys2Proof.Machine.adderE r.sel)) % 0x2000000000)).1 4 1).t1Check die req (u.t1Pc die ((r.target (o / Sys2Proof.Machine.adderE r.sel)) % 0x2000000000)).1 (r.target (o / Sys2Proof.Machine.adderE r.sel)) (Sys2Proof.Machine.adderWord r.sel) f = (true, d, v) →
    (s.quiet = true ∨ ∀ h ∈ s.hist, h.at_ ≤ Sys2Proof.Machine.cycKey (s.absCyc die f) 0) → Sys2Proof.Machine.addWord r.sel w (Sys2Proof.leNat data) (s.readMem (r.target (o / Sys2Proof.Machine.adderE r.sel)) (Sys2Proof.Machine.adderWord r.sel)) = some y →
    ∃ t, Sys2Proof.Machine.exec (.adderWrite req a data) s = .next t ∧ t.out.code = 0 ∧
      (r.sel < 2 → t.readNat (r.target (o / Sys2Proof.Machine.adderE r.sel)) (Sys2Proof.Machine.adderE r.sel) = (s.readNat (r.target (o / Sys2Proof.Machine.adderE r.sel)) (Sys2Proof.Machine.adderE r.sel) + Sys2Proof.leNat data) % 2 ^ (8 * Sys2Proof.Machine.adderE r.sel)) ∧
      (r.sel = 2 → t.readMem (r.target (o / Sys2Proof.Machine.adderE r.sel)) 64 = ((Sys2Proof.Machine.Lg32.ofBytes (s.readMem (r.target (o / Sys2Proof.Machine.adderE r.sel)) 64)).add (Sys2Proof.Machine.fmtF32.decode (Sys2Proof.leNat data))).toBytes) ∧
      (r.sel = 3 → t.readMem (r.target (o / Sys2Proof.Machine.adderE r.sel)) 64 = ((Sys2Proof.Machine.Lg32.ofBytes (s.readMem (r.target (o / Sys2Proof.Machine.adderE r.sel)) 64)).add (Sys2Proof.Machine.elemVal 8 (Sys2Proof.leNat data))).toBytes) ∧
      (r.sel = 4 → t.readMem (r.target (o / Sys2Proof.Machine.adderE r.sel)) 80
        = (if w = 1 then (Sys2Proof.Machine.Lgw.ofBytes (s.readMem (r.target (o / Sys2Proof.Machine.adderE r.sel)) 80)).setPhase
          else if w = 0 then (Sys2Proof.Machine.Lgw.ofBytes (s.readMem (r.target (o / Sys2Proof.Machine.adderE r.sel)) 80)).pass1 (Sys2Proof.Machine.fmtF64.decode (Sys2Proof.leNat data))
          else (Sys2Proof.Machine.Lgw.ofBytes (s.readMem (r.target (o / Sys2Proof.Machine.adderE r.sel)) 80)).pass2 (Sys2Proof.Machine.fmtF64.decode (Sys2Proof.leNat data))).toBytes) ∧
      (∀ b, b < (r.target (o / Sys2Proof.Machine.adderE r.sel)) ∨ (r.target (o / Sys2Proof.Machine.adderE r.sel)) + Sys2Proof.Machine.adderWord r.sel ≤ b → t.memByte b = s.memByte b)) ∧
  (∀ (req a : Nat) (data : List Sys2Proof.Byte) (die w o : Nat) (r : Sys2Proof.Machine.RangeE) (s : Sys2Proof.Machine.State), s.servingDie a = some die → s.adderAt die a = some (r, w, o) → o % Sys2Proof.Machine.adderE r.sel ≠ 0 → data ≠ [] →
    ∃ t, Sys2Proof.Machine.exec (.adderWrite req a data) s = .next t ∧ t.out.code = Sys2Proof.Machine.C.ADDER_ALIGN ∧ (∀ b, t.memByte b = s.memByte b)) ∧
  (∀ (req a : Nat) (data : List Sys2Proof.Byte) (die w o f c d : Nat) (r : Sys2Proof.Machine.RangeE) (s u v : Sys2Proof.Machine.State), s.servingDie a = some die → s.adderAt die a = some (r, w, o) → o % Sys2Proof.Machine.adderE r.sel = 0 →
    data.length = Sys2Proof.Machine.adderE r.sel → s.adderSlots die req (s.frameCyc (s.partOf die)) (Sys2Proof.Machine.adderUnits r (o / Sys2Proof.Machine.adderE r.sel) ++ Sys2Proof.Machine.adderUnits r (o / Sys2Proof.Machine.adderE r.sel)) = (some (f, c), u) →
    (u.countHbm die (u.t1Pc die ((r.target (o / Sys2Proof.Machine.adderE r.sel)) % 0x2000000000)).1 4 1).t1Check die req (u.t1Pc die ((r.target (o / Sys2Proof.Machine.adderE r.sel)) % 0x2000000000)).1 (r.target (o / Sys2Proof.Machine.adderE r.sel)) (Sys2Proof.Machine.adderWord r.sel) f = (true, d, v) →
    (s.quiet = true ∨ ∀ h ∈ s.hist, h.at_ ≤ Sys2Proof.Machine.cycKey (s.absCyc die f) 0) → Sys2Proof.Machine.addWord r.sel w (Sys2Proof.leNat data) (s.readMem (r.target (o / Sys2Proof.Machine.adderE r.sel)) (Sys2Proof.Machine.adderWord r.sel)) = none →
    ∃ t, Sys2Proof.Machine.exec (.adderWrite req a data) s = .next t ∧ t.out.code = Sys2Proof.Machine.C.ADDER_LEDGER_PHASE ∧ (∀ b, t.memByte b = s.memByte b)) ∧
  (∀ (req a : Nat) (die w o f c d : Nat) (ok : Bool) (r : Sys2Proof.Machine.RangeE) (s u v : Sys2Proof.Machine.State), s.servingDie a = some die → s.adderAt die a = some (r, w, o) → o % Sys2Proof.Machine.adderE r.sel = 0 →
    s.adderSlots die req (s.frameCyc (s.partOf die)) (Sys2Proof.Machine.adderUnits r (o / Sys2Proof.Machine.adderE r.sel)) = (some (f, c), u) →
    u.t1Check die req (u.t1Pc die ((r.target (o / Sys2Proof.Machine.adderE r.sel)) % 0x2000000000)).1 (r.target (o / Sys2Proof.Machine.adderE r.sel)) (Sys2Proof.Machine.adderWord r.sel) f = (ok, d, v) →
    ∃ t, Sys2Proof.Machine.exec (.adderRead req a (Sys2Proof.Machine.adderE r.sel)) s = .next t ∧ (∀ b, t.memByte b = s.memByte b) ∧
      (ok = true → t.out = ⟨0, 0, Sys2Proof.leBytes (Sys2Proof.Machine.adderE r.sel) (s.adderValue (s.t1Key die f) r (o / Sys2Proof.Machine.adderE r.sel))⟩) ∧ (ok = false → t.out = ⟨Sys2Proof.Machine.C.T1_UNCORRECTABLE, 0, []⟩))

/-- With the stacks not in self-refresh: a scrub of an exposed pseudo-channel that has an unowned slot reads its next unit and moves its pointer to the one after, wrapping after the last, and the on-die corrections reported with it are counted (R361, R363); a refresh of an exposed pseudo-channel counts (R338, R339). In self-refresh neither does anything (R378). T1_ECC_REREAD announces failed reads of a unit, or a failed check of its copy in the stream cache; the read that meets them sets the stack's REREAD bit when it gets a slot to read again, gives its data after one or two failures, and at the third sets UNCORRECTABLE and gives none (R362). HBM_RETIRE with GO starts a retirement with a copy on the lowest free reserve and raises HBM_RETIRE_STARTED, or answers SPARE_NONE for a pseudo-channel that is not exposed (R364, R583). None of these commands changes a byte of memory. -/
def Obligations.HbmUpkeepKeepsData : Prop :=
  (∀ (die : Fin 4) (k : Fin 3) (j : Fin 32) (n : Nat) (s : Sys2Proof.Machine.State), s.pcState die k j < 90 → s.th.selfRefresh = false →
    (s.atRest (s.partOf die) || (Sys2Proof.Machine.nextSlotBy (s.hbmPlan die).g 0 (Sys2Proof.Machine.ownsSlot ((s.hbmPlan die).slots.getD (s.pcState die k j) []) 0xFF)).isSome) = true →
    ∃ t, Sys2Proof.Machine.exec (.hbmScrub die k ⟨j, n⟩) s = .next t ∧
      Sys2Proof.Assoc.get (t.die die).hbmScrub (k * 32 + j) 0 = (Sys2Proof.Assoc.get (s.die die).hbmScrub (k * 32 + j) 0 + 1) % Sys2Proof.Machine.unitsPerPc ∧
      t.getF (Sys2Proof.Machine.F.HBM_ERR_ONDIE die k) = Sys2Proof.satAdd (Sys2Proof.Machine.F.HBM_ERR_ONDIE die k).width (s.getF (Sys2Proof.Machine.F.HBM_ERR_ONDIE die k)) n ∧ t.acf = s.acf ∧ t.cores = s.cores ∧ (∀ a, t.memByte a = s.memByte a)) ∧
  (∀ (die : Fin 4) (k : Fin 3) (j : Fin 32) (s : Sys2Proof.Machine.State), s.pcState die k j < 90 → s.th.selfRefresh = false →
    Sys2Proof.Machine.exec (.hbmRefreshPoint die k j) s = .next (s.count die (256 + 128 * k + 9) 1)) ∧
  (∀ (die : Fin 4) (k : Fin 3) (j : Fin 32) (n : Nat) (s : Sys2Proof.Machine.State), s.th.selfRefresh = true → Sys2Proof.Machine.exec (.hbmRefreshPoint die k j) s = .next s ∧ Sys2Proof.Machine.exec (.hbmScrub die k ⟨j, n⟩) s = .next s) ∧
  (∀ (req a skip tries : Nat) (unit : Bool) (s : Sys2Proof.Machine.State), Sys2Proof.Machine.rowOf a = some .t1 →
    ∃ t, Sys2Proof.Machine.exec (.t1EccReread req a skip tries unit) s = .next t ∧ t.fails = s.fails ++ [⟨if unit then .unit else .t1, req, skip, 0, a, tries⟩] ∧ (∀ f, t.getF f = s.getF f) ∧ (∀ b, t.memByte b = s.memByte b)) ∧
  (∀ (die : Fin 4) (req l a n c m : Nat) (k j : Nat) (s v : Sys2Proof.Machine.State), s.unitFailed die l = false → s.poisoned a n = false → s.readFails .t1 req a = (m, v) → s.physOf die l = some (k, j) → 0 < m →
    (v.takeSlot die req l (c + 1)).1.isSome = true →
    (s.t1Check die req l a n c).2.2.getF (Sys2Proof.Machine.F.HBM_STATUS_REREAD die k) = 1 ∧ ((s.t1Check die req l a n c).1 = true ↔ m < 3) ∧
      (3 ≤ m → (s.t1Check die req l a n c).2.2.getF (Sys2Proof.Machine.F.HBM_STATUS_UNCORRECTABLE die k) = 1) ∧ (∀ b, (s.t1Check die req l a n c).2.2.memByte b = s.memByte b)) ∧
  (∀ (die : Fin 4) (k : Fin 3) (v : Sys2Proof.Word) (r : Nat) (s : Sys2Proof.Machine.State), Sys2Proof.bit v.toNat 63 = true → s.pcState die k (Sys2Proof.bits v.toNat 0 5) < 90 →
    s.hbmWait.any (fun w => w.die == die.val && w.stack == k.val && w.pc == Sys2Proof.bits v.toNat 0 5) = false → s.bringing 4 die k (Sys2Proof.bits v.toNat 0 5) = false → s.freeSpare 4 die k = some r →
    ∃ t, Sys2Proof.Machine.exec (.hbmRetire die k v) s = .next t ∧ t.out = ⟨0, 0, []⟩ ∧ t.getF (Sys2Proof.Machine.F.HBM_RETIRE_PIECES_DONE die k) = 0 ∧ t.codes = s.codes ++ [Sys2Proof.Machine.C.HBM_RETIRE_STARTED] ∧
      t.bringIn = s.bringIn ++ [⟨4, die, k, Sys2Proof.bits v.toNat 0 5, r, false, 0, 0⟩] ∧ (∀ b, t.memByte b = s.memByte b)) ∧
  (∀ (die : Fin 4) (k : Fin 3) (v : Sys2Proof.Word) (s : Sys2Proof.Machine.State), Sys2Proof.bit v.toNat 63 = true → 90 ≤ s.pcState die k (Sys2Proof.bits v.toNat 0 5) →
    ∃ t, Sys2Proof.Machine.exec (.hbmRetire die k v) s = .next t ∧ t.out = ⟨Sys2Proof.Machine.C.SPARE_NONE, 0, []⟩ ∧ t.bringIn = s.bringIn ∧ (∀ b, t.memByte b = s.memByte b)) ∧
  (∀ (die : Fin 4) (k : Fin 3) (v : Sys2Proof.Word) (s : Sys2Proof.Machine.State), Sys2Proof.bit v.toNat 63 = false →
    Sys2Proof.Machine.exec (.hbmRetire die k v) s = .next ((s.setF (Sys2Proof.Machine.F.HBM_RETIRE_PC die k) (Sys2Proof.bits v.toNat 0 5)).answer 0 0))

/-- A pseudo-channel that can no longer be read, whose replacement is ordered and whose die's frame is not RUNNING, gives its logical number to a reserve: that of a copy of it under way, else the lowest free one, else that of another copy; it is retired, the reserve's units are poisoned until written, and HBM_RESERVE_USED is raised (R365). With no reserve left and no frame RUNNING it is mapped out: P_n falls by one, its map entry reads 0xFF, every partition that has dies is STOPPED, HBM_MAPPED_OUT is raised, and the bytes of the other memories are what they were (R366). -/
def Obligations.LostPseudoChannelsAreReplaced : Prop :=
  (∀ (die : Fin 4) (k : Fin 3) (j : Fin 32) (r : Nat) (s : Sys2Proof.Machine.State), s.hbmWait.any (fun w => w.die == die.val && w.stack == k.val && w.pc == j.val && w.go) = true → s.notRunning die = true →
    s.pcState die k j < 90 → (s.bringIn.find? (fun x => x.kind == 4 && x.die == die.val && x.unit == k.val) = none ∧ s.freeSpare 4 die k = some r ∨
      (∃ x, s.bringIn.find? (fun x => x.kind == 4 && x.die == die.val && x.unit == k.val) = some x ∧
        (x.num ≠ j ∧ s.freeSpare 4 die k = some r ∨ (x.num = j ∨ s.freeSpare 4 die k = none) ∧ r = x.spare ∧ s.pcState die k r = 0xFD ∧ r < 32))) →
    ∃ t, Sys2Proof.Machine.exec (.hbmReserveReplace die k j) s = .next t ∧ t.pcState die k r = s.pcState die k j ∧ t.pcState die k j = 0xFE ∧ t.codes = s.codes ++ [Sys2Proof.Machine.C.HBM_RESERVE_USED] ∧
      t.poison = s.poison.filter (fun p => !(p.t1 && p.die == die.val && p.num == s.pcState die k j)) ++ [⟨true, die, s.pcState die k j, []⟩] ∧
      t.hbmWait = s.hbmWait.filter (fun w => !(w.die == die.val && w.stack == k.val && w.pc == j.val)) ∧ (∀ a, t.memByte a = s.memByte a)) ∧
  (∀ (die : Fin 4) (k : Fin 3) (j : Fin 32) (s : Sys2Proof.Machine.State), s.hbmWait.any (fun w => w.die == die.val && w.stack == k.val && w.pc == j.val && w.go) = true → s.noneRunning = true →
    s.freeSpare 4 die k = none → s.bringing 4 die k 0 = false →
    ∃ t, Sys2Proof.Machine.exec (.hbmMapOut die k j) s = .next t ∧ t.pcState die k j = 0xFF ∧ t.pcs die = (s.pcs die - 1) % 2 ^ (Sys2Proof.Machine.F.HBM_STATUS_DIE_PCS die 0).width ∧
      (t.codes = s.codes ++ [Sys2Proof.Machine.C.HBM_MAPPED_OUT] ∨ t.codes = s.codes ++ [Sys2Proof.Machine.C.HBM_MAPPED_OUT, Sys2Proof.Machine.C.T1_REMOVE_REQUEST]) ∧
      (∀ p : Fin 4, s.diesOf p ≠ [] → t.frameState p = Sys2Proof.Machine.stStopped) ∧ (∀ n : Fin 4, (t.die n).bank0.valid = false ∧ (t.die n).bank1.valid = false) ∧
      (∀ a, Sys2Proof.Machine.memRegion a ≠ some die.val → t.memByte a = s.memByte a))

/-- An entry of the P-die mover table that can start runs its descriptors in order on its channel, whose XFER names it; one with a single descriptor that ends in cycle w inside the promise has w as its completion cycle; an entry that waits outside the promise goes on with its next descriptor (R368 to R370). With the clock running, an entry without a fault, all its descriptors run, completes in its cycle, and one that faulted leaves its channel (R370). MIG_CTRL.GO starts a migration when none runs and both ranges lie in the writing partition, and otherwise ends with FAILED and MOV_ADDR (R373). A migration whose source reads and whose destination takes the bytes ends with DONE, and with the bytes of the write in memory; one whose source cannot be read ends with FAILED and the code, and one without a slot with MOV_NO_SLOT (R373). -/
def Obligations.PmovEntriesAndMigrations : Prop :=
  (∀ (i t0 dep ou w : Nat) (e : Sys2Proof.Machine.TabEntry) (s u : Sys2Proof.Machine.State) (q : Sys2Proof.Machine.SeqRun), s.pmc.run.find? (fun r => r.idx == i) = none → s.seqReady .pmc i = some (e, t0, dep, ou) →
    Sys2Proof.Machine.exec (.pmovEntryStart i) s = .next (Sys2Proof.Machine.runPmovs e.on i e e.descs.length 0 t0 0 (((if ou < dep then (s.seqBegin .pmc i e t0 dep ou 0).count 4 (290 + 8 * e.on) (t0 - ou) else s.seqBegin .pmc i e t0 dep ou 0).setF (Sys2Proof.Machine.F.PMOV_STATUS_XFER e.on) e.num).count 4 (288 + 8 * e.on) 1)) ∧
    (e.descs.length = 1 → Sys2Proof.Machine.runPmov e.on i (Sys2Proof.Machine.Desc.parse (e.descs.getD 0 [])) t0 0 (((if ou < dep then (s.seqBegin .pmc i e t0 dep ou 0).count 4 (290 + 8 * e.on) (t0 - ou) else s.seqBegin .pmc i e t0 dep ou 0).setF (Sys2Proof.Machine.F.PMOV_STATUS_XFER e.on) e.num).count 4 (288 + 8 * e.on) 1) = (.done w, u) →
      u.pmc.run.find? (fun r => r.idx == i) = some q →
      ∃ t, Sys2Proof.Machine.exec (.pmovEntryStart i) s = .next t ∧ (t.pmc.run.find? (fun r => r.idx == i)).map (fun x => (x.start, x.next, x.doneAt)) = some (q.start, 1, some w) ∧
        (∀ a, t.memByte a = u.memByte a) ∧ t.acf = u.acf)) ∧
  (∀ (i : Nat) (e : Sys2Proof.Machine.TabEntry) (s : Sys2Proof.Machine.State) (r : Sys2Proof.Machine.SeqRun), s.pmc.run.find? (fun r => r.idx == i) = some r → s.pmc.table[i]? = some e → s.aclk ≠ 0 → r.fault = false → r.next < e.descs.length →
    Sys2Proof.Machine.exec (.pmovEntryStart i) s = .next (Sys2Proof.Machine.runPmovs e.on i e (e.descs.length - r.next) r.next (max r.wait (s.frameCyc 0)) r.sent s)) ∧
  (∀ (ch : Fin 4) (cyc : Nat) (r : Sys2Proof.Machine.SeqRun) (e : Sys2Proof.Machine.TabEntry) (s : Sys2Proof.Machine.State), s.pmc.run.find? (fun x => (s.pmc.table[x.idx]?).any (fun y => y.on == ch.val)) = some r →
    s.pmc.table[r.idx]? = some e → s.aclk ≠ 0 → r.fault = true ∨ e.descs.length ≤ r.next →
    ∃ t, Sys2Proof.Machine.exec (.pmovTransferComplete ch cyc) s = .next t ∧ t.pmc.run = s.pmc.run.filter (fun x => x.idx != r.idx) ∧
      t.pmc.done = s.pmc.done ++ (if r.fault then [] else [(r.idx, r.doneAt.getD (max r.wait cyc))]) ∧ t.acf = s.acf ∧ t.cores = s.cores ∧ (∀ a, t.memByte a = s.memByte a)) ∧
  (∀ (p : Fin 4) (v : Sys2Proof.Word) (n : Nat) (s : Sys2Proof.Machine.State), n = (if Sys2Proof.bits v.toNat 0 6 = 0 then Sys2Proof.bits v.toNat 0 40 else s.getF Sys2Proof.Machine.F.MIG_CTRL_BYTES) →
    ∃ t, Sys2Proof.Machine.exec (.migrationStart p v) s = .next t ∧ t.getF Sys2Proof.Machine.F.MIG_CTRL_BYTES = n % 2 ^ Sys2Proof.Machine.F.MIG_CTRL_BYTES.width ∧
      (Sys2Proof.bit v.toNat 63 = false → t.mig = s.mig ∧ t.out = ⟨0, 0, []⟩) ∧
      (Sys2Proof.bit v.toNat 63 = true → s.mig = none → s.inPart p (s.getF Sys2Proof.Machine.F.MIG_SRC_ADDR) n = true → s.inPart p (s.getF Sys2Proof.Machine.F.MIG_DST_ADDR) n = true →
        t.mig = some ⟨s.getF Sys2Proof.Machine.F.MIG_SRC_ADDR, s.getF Sys2Proof.Machine.F.MIG_DST_ADDR, n⟩ ∧ t.getF Sys2Proof.Machine.F.MIG_CTRL_BUSY = 1 ∧ t.out = ⟨0, 0, []⟩) ∧
      (Sys2Proof.bit v.toNat 63 = true → s.mig.isSome = true ∨ s.inPart p (s.getF Sys2Proof.Machine.F.MIG_SRC_ADDR) n = false ∨ s.inPart p (s.getF Sys2Proof.Machine.F.MIG_DST_ADDR) n = false →
        t.mig = s.mig ∧ t.getF Sys2Proof.Machine.F.MIG_CTRL_FAILED = 1 ∧ t.getF Sys2Proof.Machine.F.MIG_CTRL_CODE = Sys2Proof.Machine.C.MOV_ADDR ∧ t.out = ⟨Sys2Proof.Machine.C.MOV_ADDR, 0, []⟩) ∧ (∀ a, t.memByte a = s.memByte a)) ∧
  (∀ (m : Sys2Proof.Machine.MigJob) (c : Nat) (b : List Sys2Proof.Byte) (s u v : Sys2Proof.Machine.State), s.mig = some m → s.migNoSlot m.src m.bytes = false → s.migNoSlot m.dst m.bytes = false →
    ({ s with mig := none }.setF Sys2Proof.Machine.F.MIG_CTRL_BUSY 0).extRead 0x87 m.src m.bytes = (c, b, u) → (c = 0 → u.extWrite 0x87 m.dst b = (0, v)) →
    ∃ t, Sys2Proof.Machine.exec .migrationDone s = .next t ∧ (c = 0 → t.getF Sys2Proof.Machine.F.MIG_CTRL_DONE = 1 ∧ t.getF Sys2Proof.Machine.F.MIG_CTRL_CODE = 0 ∧ (∀ a, t.memByte a = v.memByte a)) ∧
      (c ≠ 0 → t.getF Sys2Proof.Machine.F.MIG_CTRL_FAILED = 1 ∧ t.getF Sys2Proof.Machine.F.MIG_CTRL_CODE = c % 2 ^ Sys2Proof.Machine.F.MIG_CTRL_CODE.width ∧ (∀ a, t.memByte a = u.memByte a))) ∧
  (∀ (m : Sys2Proof.Machine.MigJob) (s : Sys2Proof.Machine.State), s.mig = some m → s.migNoSlot m.src m.bytes = true ∨ s.migNoSlot m.dst m.bytes = true →
    ∃ t, Sys2Proof.Machine.exec .migrationDone s = .next t ∧ t.mig = none ∧ t.getF Sys2Proof.Machine.F.MIG_CTRL_FAILED = 1 ∧ t.getF Sys2Proof.Machine.F.MIG_CTRL_CODE = Sys2Proof.Machine.C.MOV_NO_SLOT ∧ (∀ a, t.memByte a = s.memByte a))

/-- At any time a write of TH_CTRL.MIN_LEVEL sets the value written, or the lowest level of the grade when that is larger (7 on grade A, 5 on grade B), and changes no other register; and at the next sample, with the clock running and no sensor at its trip temperature, a level below MIN_LEVEL becomes MIN_LEVEL in one change (R379). -/
def Obligations.MinLevelBoundsTheClock : Prop :=
  (∀ (v : Sys2Proof.Word) (s : Sys2Proof.Machine.State), ∃ t, Sys2Proof.Machine.exec (.minLevelWrite v) s = .next t ∧
    t.getF Sys2Proof.Machine.F.TH_CTRL_MIN_LEVEL = (if s.fused.grade = 1 then min (Sys2Proof.bits v.toNat 0 4) 7 else min (Sys2Proof.bits v.toNat 0 4) 5) ∧
    (∀ f, f.key ≠ Sys2Proof.Machine.F.TH_CTRL_MIN_LEVEL.key → t.getF f = s.getF f) ∧ (∀ a, t.memByte a = s.memByte a)) ∧
  (∀ (temps : List Int) (s : Sys2Proof.Machine.State), s.getF Sys2Proof.Machine.F.TH_STATUS_TRIPPED ≠ 1 → s.getF Sys2Proof.Machine.F.TH_STATUS_LEVEL < s.getF Sys2Proof.Machine.F.TH_CTRL_MIN_LEVEL → s.getF Sys2Proof.Machine.F.TH_CTRL_MIN_LEVEL < 16 →
    (∀ i < 16, (if s.getF Sys2Proof.Machine.F.CAL_STATUS_SOURCE = 2 then temps.map (· + 5) else temps).getD i 0 < Sys2Proof.Machine.sensorLimit i + 5) →
    ∃ t, Sys2Proof.Machine.exec (.thermalSample temps) s = .next t ∧ t.getF Sys2Proof.Machine.F.TH_STATUS_LEVEL = s.getF Sys2Proof.Machine.F.TH_CTRL_MIN_LEVEL)

/-- A sample in which a sensor reads its limit plus 5 °C or more, with the clock running, stops the arithmetic clock: TRIPPED is set, ACLK reads 0, LEVEL stays, THERMAL_TRIP is raised, the stacks are in self-refresh, THERM_N is low and the I3C alert is signalled (R377, R378, R612). Every sample records its readings. A restart with every sensor 10 °C or more below its limit clears TRIPPED and takes the clock up at the lowest level of the grade, with an ACLK_STEP where that changes the level; without that, or with the clock running, it does nothing (R377, R378). -/
def Obligations.ThermalTripAndRestart : Prop :=
  (∀ (temps : List Int) (i : Nat) (s : Sys2Proof.Machine.State), s.getF Sys2Proof.Machine.F.TH_STATUS_TRIPPED ≠ 1 → i < 16 →
    Sys2Proof.Machine.sensorLimit i + 5 ≤ (if s.getF Sys2Proof.Machine.F.CAL_STATUS_SOURCE = 2 then temps.map (· + 5) else temps).getD i 0 →
    ∃ t, Sys2Proof.Machine.exec (.thermalSample temps) s = .next t ∧ t.getF Sys2Proof.Machine.F.TH_STATUS_TRIPPED = 1 ∧ t.getF Sys2Proof.Machine.F.TH_STATUS_ACLK = 0 ∧ t.aclk = 0 ∧ t.getF Sys2Proof.Machine.F.TH_STATUS_LEVEL = s.getF Sys2Proof.Machine.F.TH_STATUS_LEVEL ∧
      t.codes = s.codes ++ [Sys2Proof.Machine.C.THERMAL_TRIP] ∧ t.th.selfRefresh = true ∧ t.th.thermLow = true ∧ t.boot.ibiTrip = s.boot.ibiTrip + 1 ∧ (∀ a, t.memByte a = s.memByte a)) ∧
  (∀ (temps : List Int) (s : Sys2Proof.Machine.State), ∃ t, Sys2Proof.Machine.exec (.thermalSample temps) s = .next t ∧
    t.th.temps = (List.range 16).map (fun i => (if s.getF Sys2Proof.Machine.F.CAL_STATUS_SOURCE = 2 then temps.map (· + 5) else temps).getD i 0) ∧ (∀ a, t.memByte a = s.memByte a) ∧ t.cores = s.cores) ∧
  (∀ s : Sys2Proof.Machine.State, s.getF Sys2Proof.Machine.F.TH_STATUS_TRIPPED = 1 → s.headrooms.all (fun h => decide (10 ≤ h)) = true →
    ∃ t, Sys2Proof.Machine.exec .thermalRestart s = .next t ∧ t.getF Sys2Proof.Machine.F.TH_STATUS_TRIPPED = 0 ∧ t.getF Sys2Proof.Machine.F.TH_STATUS_LEVEL = Sys2Proof.Machine.lowestLevel s.fused.grade ∧ t.th.selfRefresh = false ∧ t.th.thermLow = false ∧
      t.aclk = Sys2Proof.Machine.aclkOf s.fused.grade (Sys2Proof.Machine.lowestLevel s.fused.grade) ∧ (s.getF Sys2Proof.Machine.F.TH_STATUS_LEVEL ≠ Sys2Proof.Machine.lowestLevel s.fused.grade → Sys2Proof.Machine.C.ACLK_STEP ∈ t.codes) ∧ (∀ a, t.memByte a = s.memByte a)) ∧
  (∀ s : Sys2Proof.Machine.State, s.getF Sys2Proof.Machine.F.TH_STATUS_TRIPPED ≠ 1 ∨ s.headrooms.all (fun h => decide (10 ≤ h)) = false → Sys2Proof.Machine.exec .thermalRestart s = .next s)

/-- For every packet command (up to the note of a waiting access, which each such row begins anew): on a port that is not UP it has no effect; on an UP port it is counted, and dropped and counted again when its CRC fails (R394), and sent on when no partition of the package has its DST (R390, R399). For this package, a management packet is handed to the MGC and one with a reserved OP is dropped and counted (R393); a duplicate beyond the target's window is dropped and counted, and one of a complete transfer changes no byte of memory (R410, shown for the operations that store). -/
def Obligations.PacketsArriveOnUpPorts : Prop :=
  (∀ x ∈ Sys2Proof.Machine.packetRows, ∀ (k : Sys2Proof.Packet) (s : Sys2Proof.Machine.State), s.isUp k.port = false → ∃ t : Sys2Proof.Machine.State, Sys2Proof.Machine.exec (x.1 k) s = .next t ∧ t.alike s) ∧
  (∀ x ∈ Sys2Proof.Machine.packetRows, ∀ (k : Sys2Proof.Packet) (s : Sys2Proof.Machine.State), s.isUp k.port = true → k.crcOk = false → ∃ t : Sys2Proof.Machine.State, Sys2Proof.Machine.exec (x.1 k) s = .next t ∧ t.alike ((s.counted k).dropCrc k)) ∧
  (∀ x ∈ Sys2Proof.Machine.packetRows, ∀ (k : Sys2Proof.Packet) (s : Sys2Proof.Machine.State), s.isUp k.port = true → k.crcOk = true → (s.counted k).partOfNode k.dst = none →
    ∃ t : Sys2Proof.Machine.State, Sys2Proof.Machine.exec (x.1 k) s = .next t ∧ t.alike ((s.counted k).emit { k with op := x.2 })) ∧
  (∀ (k : Sys2Proof.Packet) (p : Nat) (s : Sys2Proof.Machine.State), s.isUp k.port = true → k.crcOk = true → (s.counted k).partOfNode k.dst = some p →
    Sys2Proof.Machine.exec (.fabMgmt k) s = .next ((s.counted k).answerBytes 0 k.payload) ∧
    (Sys2Proof.Machine.reservedOp k.op = true → Sys2Proof.Machine.exec (.fabReservedOp k) s = .next ((s.counted k).satF Sys2Proof.Machine.F.FAB_REFUSED_OTHER 1))) ∧
  (∀ x ∈ [(Sys2Proof.Instr.fabWritePacket, 1), (Sys2Proof.Instr.fabAddPacket, 4), (Sys2Proof.Instr.fabCasPacket, 5), (Sys2Proof.Instr.fabFaddPacket, 6), (Sys2Proof.Instr.fabBulk, 0xD)],
    ∀ (k : Sys2Proof.Packet) (p : Nat) (s : Sys2Proof.Machine.State), s.isUp k.port = true → k.crcOk = true → (s.counted k).partOfNode k.dst = some p →
    (((s.counted k).peer p k.src).class k.seq = 0 → ∃ t : Sys2Proof.Machine.State, Sys2Proof.Machine.exec (x.1 k) s = .next t ∧ t.alike ((s.counted k).satF Sys2Proof.Machine.F.FAB_REFUSED_OTHER 1)) ∧
    (((s.counted k).peer p k.src).class k.seq = 1 → ∃ t : Sys2Proof.Machine.State, Sys2Proof.Machine.exec (x.1 k) s = .next t ∧ (∀ a, t.memByte a = s.memByte a) ∧ t.reports = s.reports))

/-- A packet not received before, whose checks pass and whose accesses have their way: the packet that completes a WRITE or ADD of one packet leaves its bytes as the target's write does and is acknowledged; one of a longer transfer is performed and remembered (R394, R403, R405). A READ returns its bytes and changes none (R406). CAS and FADD return the old value; FADD adds to the aligned 64-bit word and CAS replaces it when it equals the first operand (R407). A BULK performs its records in order and returns their results (R417). A packet that a check refuses is answered with NACK and the code, and changes no byte (R403). RELEASEs and fences that this completes follow at once. A packet whose access has to wait for slots of the F-die changes nothing yet (R40). -/
def Obligations.FabricOperationsAct : Prop :=
  (∀ x ∈ [(Sys2Proof.Instr.fabWritePacket, 1, Sys2Proof.Machine.doFabWritePacket), (Sys2Proof.Instr.fabAddPacket, 4, Sys2Proof.Machine.doFabAddPacket)], ∀ (k : Sys2Proof.Packet) (p : Nat) (s u : Sys2Proof.Machine.State), k.op = x.2.1 → s.isUp k.port = true → k.crcOk = true → (s.counted k).partOfNode k.dst = some p →
    (s.counted k).newPacket p k = true → (s.counted k).tooEarly p k = false →
    (s.counted k).targetCheck k.op k.src k.region k.key k.addr k.payload.length = none → (s.counted k).stageOf k = none → 64 ≤ k.group →
    s.hasWay (x.2.2 k) → (s.noWait.counted k).extWrite 0xA0 k.addr k.payload = (0, u) →
    (k.npkt = 1 → ∃ t : Sys2Proof.Machine.State, Sys2Proof.Machine.exec (x.1 k) s = .next t.afterPacket ∧ (∀ a, t.memByte a = u.memByte a) ∧ t.onItsWay k.src 8 k.seq [] = true) ∧
    (((u.peer p k.src).marks k.seq).length + 1 < k.npkt → Sys2Proof.Machine.exec (x.1 k) s = .next (u.setPeer ((u.peer p k.src).mark k.seq k.pkt k.payload.length)))) ∧
  (∀ (k : Sys2Proof.Packet) (p : Nat) (d : List Sys2Proof.Byte) (s u : Sys2Proof.Machine.State), k.op = 2 → s.isUp k.port = true → k.crcOk = true → (s.counted k).partOfNode k.dst = some p →
    (s.counted k).newPacket p k = true → (s.counted k).targetCheck 2 k.src k.region k.key k.addr (Sys2Proof.fieldAt k.payload 0 2) = none →
    s.hasWay (Sys2Proof.Machine.doFabReadPacket k) → (s.noWait.counted k).extRead 0xA0 k.addr (Sys2Proof.fieldAt k.payload 0 2) = (0, d, u) →
    ∃ t : Sys2Proof.Machine.State, Sys2Proof.Machine.exec (.fabReadPacket k) s = .next t.afterPacket ∧ (∀ a, t.memByte a = s.memByte a) ∧ t.onItsWay k.src 3 k.seq d = true) ∧
  (∀ x ∈ [(Sys2Proof.Instr.fabCasPacket, 5, Sys2Proof.Machine.doFabCasPacket), (Sys2Proof.Instr.fabFaddPacket, 6, Sys2Proof.Machine.doFabFaddPacket)], ∀ (k : Sys2Proof.Packet) (p : Nat) (d : List Sys2Proof.Byte) (s u : Sys2Proof.Machine.State), k.op = x.2.1 → s.isUp k.port = true → k.crcOk = true → (s.counted k).partOfNode k.dst = some p →
    (s.counted k).newPacket p k = true → (s.counted k).tooEarly p k = false →
    (s.counted k).targetCheck k.op k.src k.region k.key k.addr 8 = none → s.hasWay (x.2.2 k) → (s.noWait.counted k).performOp p k.op k.addr k.payload = (0, d, u) →
    ∃ t : Sys2Proof.Machine.State, Sys2Proof.Machine.exec (x.1 k) s = .next t.afterPacket ∧ (∀ a, t.memByte a = u.memByte a) ∧ t.onItsWay k.src 7 k.seq d = true) ∧
  (∀ (p a : Nat) (data old : List Sys2Proof.Byte) (s u v : Sys2Proof.Machine.State), s.extRead 0xA0 a 8 = (0, old, u) →
    (u.extWrite 0xA0 a (Sys2Proof.leBytes 8 (Sys2Proof.leNat old + Sys2Proof.leNat (data.take 8))) = (0, v) → s.performOp p 6 a data = (0, old, v)) ∧
    (Sys2Proof.leNat (data.take 8) = Sys2Proof.leNat old → u.extWrite 0xA0 a ((data.drop 8).take 8) = (0, v) → s.performOp p 5 a data = (0, old, v)) ∧
    (Sys2Proof.leNat (data.take 8) ≠ Sys2Proof.leNat old → s.performOp p 5 a data = (0, old, u))) ∧
  (∀ (k : Sys2Proof.Packet) (p : Nat) (b : List Sys2Proof.Byte) (s u : Sys2Proof.Machine.State), k.op = 0xD → s.isUp k.port = true → k.crcOk = true → (s.counted k).partOfNode k.dst = some p →
    (s.counted k).newPacket p k = true → (s.counted k).tooEarly p k = false → s.hasWay (Sys2Proof.Machine.doFabBulk k) →
    (Sys2Proof.Machine.bulkRecords 64 k.payload).foldl (fun (acc : List Sys2Proof.Byte × Sys2Proof.Machine.State) r => let y := acc.2.bulkRecord p k r; (acc.1 ++ y.1, y.2)) ([], (s.noWait.counted k)) = (b, u) →
    ∃ t : Sys2Proof.Machine.State, Sys2Proof.Machine.exec (.fabBulk k) s = .next t.afterPacket ∧ (∀ a, t.memByte a = u.memByte a) ∧ t.onItsWay k.src 0xE k.seq b = true) ∧
  (∀ x ∈ [(Sys2Proof.Instr.fabWritePacket, 1, Sys2Proof.Machine.doFabWritePacket), (Sys2Proof.Instr.fabAddPacket, 4, Sys2Proof.Machine.doFabAddPacket), (Sys2Proof.Instr.fabCasPacket, 5, Sys2Proof.Machine.doFabCasPacket), (Sys2Proof.Instr.fabFaddPacket, 6, Sys2Proof.Machine.doFabFaddPacket)],
    ∀ (k : Sys2Proof.Packet) (p code : Nat) (s : Sys2Proof.Machine.State), k.op = x.2.1 → s.isUp k.port = true → k.crcOk = true → (s.counted k).partOfNode k.dst = some p → (s.counted k).newPacket p k = true → (s.counted k).tooEarly p k = false →
    (s.counted k).targetCheck k.op k.src k.region k.key k.addr (if k.op = 1 ∨ k.op = 4 then k.payload.length else 8) = some code → s.hasWay (x.2.2 k) →
    ∃ t : Sys2Proof.Machine.State, Sys2Proof.Machine.exec (x.1 k) s = .next t.afterPacket ∧ (∀ a, t.memByte a = s.memByte a) ∧ t.fab.regions = s.fab.regions ∧ t.onItsWay k.src 9 k.seq (Sys2Proof.Machine.nackBytes code) = true) ∧
  (∀ x ∈ [(Sys2Proof.Instr.fabAcquire, 0xA), (Sys2Proof.Instr.fabRelease, 0xB)],
    ∀ (k : Sys2Proof.Packet) (p code : Nat) (s : Sys2Proof.Machine.State), s.isUp k.port = true → k.crcOk = true → (s.counted k).partOfNode k.dst = some p → (s.counted k).newPacket p k = true → (s.counted k).targetCheck x.2 k.src k.region k.key k.addr 0 = some code →
    ∃ t : Sys2Proof.Machine.State, Sys2Proof.Machine.exec (x.1 k) s = .next t.afterPacket ∧ (∀ a, t.memByte a = s.memByte a) ∧ t.fab.regions = s.fab.regions ∧ t.onItsWay k.src 9 k.seq (Sys2Proof.Machine.nackBytes code) = true) ∧
  (∀ x ∈ [(Sys2Proof.Instr.fabWritePacket, Sys2Proof.Machine.doFabWritePacket), (Sys2Proof.Instr.fabAddPacket, Sys2Proof.Machine.doFabAddPacket), (Sys2Proof.Instr.fabReadPacket, Sys2Proof.Machine.doFabReadPacket), (Sys2Proof.Instr.fabCasPacket, Sys2Proof.Machine.doFabCasPacket),
      (Sys2Proof.Instr.fabFaddPacket, Sys2Proof.Machine.doFabFaddPacket), (Sys2Proof.Instr.fabBulk, Sys2Proof.Machine.doFabBulk)],
    ∀ (k : Sys2Proof.Packet) (s : Sys2Proof.Machine.State), ¬s.hasWay (x.2 k) → Sys2Proof.Machine.exec (x.1 k) s = .next s)

/-- An ACQUIRE whose checks pass takes the token of its region when it is free, and is answered with success; with the token held and fewer than 16 waiters it joins the end of the queue, unanswered; with 16 waiters it is answered with FAB_TOKEN_BUSY and the region is unchanged. When a RELEASE of the holder takes effect, the first waiter holds the token, the others keep their order, and the waiter's TOKEN_RESP is sent (R412). -/
def Obligations.TokensAreGrantedInOrder : Prop :=
  (∀ (k : Sys2Proof.Packet) (p : Nat) (s : Sys2Proof.Machine.State), k.op = 0xA → s.isUp k.port = true → k.crcOk = true → (s.counted k).partOfNode k.dst = some p → (s.counted k).newPacket p k = true →
    (s.counted k).targetCheck 0xA k.src k.region k.key k.addr 0 = none →
    ((s.region k.region).held = false → ∃ t : Sys2Proof.Machine.State, Sys2Proof.Machine.exec (.fabAcquire k) s = .next t.afterPacket ∧ t.region k.region = { s.region k.region with held := true, holder := k.src } ∧
      t.onItsWay k.src 0xC k.seq (Sys2Proof.Machine.nackBytes 0) = true) ∧
    ((s.region k.region).held = true → (s.region k.region).waiters.length < 16 → ∃ t : Sys2Proof.Machine.State, Sys2Proof.Machine.exec (.fabAcquire k) s = .next t ∧
      t.region k.region = { s.region k.region with waiters := (s.region k.region).waiters ++ [k] } ∧ t.fab.replay = s.fab.replay ∧ t.fab.waiting = s.fab.waiting) ∧
    ((s.region k.region).held = true → 16 ≤ (s.region k.region).waiters.length → ∃ t : Sys2Proof.Machine.State, Sys2Proof.Machine.exec (.fabAcquire k) s = .next t.afterPacket ∧ t.region k.region = s.region k.region ∧
      t.onItsWay k.src 0xC k.seq (Sys2Proof.Machine.nackBytes Sys2Proof.Machine.C.FAB_TOKEN_BUSY) = true)) ∧
  (∀ (k w : Sys2Proof.Packet) (l : List Sys2Proof.Packet) (p q : Nat) (s : Sys2Proof.Machine.State), k.op = 0xB → s.isUp k.port = true → k.crcOk = true → (s.counted k).partOfNode k.dst = some p →
    (s.counted k).newPacket p k = true → (s.counted k).targetCheck 0xB k.src k.region k.key k.addr 0 = none → s.fab.releases = [] → s.fab.doneFences = [] →
    (s.peer p k.src).next = k.seq → (s.region k.region).waiters = w :: l → (s.counted k).partOfNode w.dst = some q →
    ∃ t : Sys2Proof.Machine.State, Sys2Proof.Machine.exec (.fabRelease k) s = .next t ∧ t.region k.region = { s.region k.region with held := true, holder := w.src, waiters := l } ∧
      t.onItsWay w.src 0xC w.seq (Sys2Proof.Machine.nackBytes 0) = true)

/-- An answer that names no unanswered transfer is ignored. The first answer to one is handled with its payload by what sent the transfer, once the accesses it makes have their way, and a NACK with its code (R404, R411): shown whole for a mover's transfer with nothing else waiting on it, which is then answered, and which a NACK makes the mover's command and a RUNNING frame fail with (R404, R243). A transfer whose answer is overdue is sent again with its SEQ, raising FAB_RETRANSMIT, and after the third time it ends with FAB_RETRY_EXHAUSTED, handled as a NACK (R411). -/
def Obligations.AnswersEndTransfers : Prop :=
  (∀ x ∈ [(Sys2Proof.Instr.fabReadResp, 3), (Sys2Proof.Instr.fabAtomicResp, 7), (Sys2Proof.Instr.fabAck, 8), (Sys2Proof.Instr.fabTokenResp, 0xC), (Sys2Proof.Instr.fabBulkResp, 0xE), (Sys2Proof.Instr.fabNack, 9)],
    ∀ (k : Sys2Proof.Packet) (p : Nat) (s : Sys2Proof.Machine.State), s.isUp k.port = true → k.crcOk = true → (s.counted k).partOfNode k.dst = some p → s.openTx p k.src k.seq = none → ∃ t : Sys2Proof.Machine.State, Sys2Proof.Machine.exec (x.1 k) s = .next t ∧ t.alike (s.counted k)) ∧
  (∀ x ∈ [(Sys2Proof.Instr.fabAck, 8), (Sys2Proof.Instr.fabTokenResp, 0xC), (Sys2Proof.Instr.fabNack, 9)], ∀ (k : Sys2Proof.Packet) (p : Nat) (t : Sys2Proof.Machine.Tx) (s : Sys2Proof.Machine.State), s.isUp k.port = true → k.crcOk = true → (s.counted k).partOfNode k.dst = some p → s.openTx p k.src k.seq = some t →
    Sys2Proof.Machine.exec (x.1 k) s = .next (if x.2 = 9 then (s.counted k).sourceNack t (Sys2Proof.fieldAt k.payload 0 2) else (s.counted k).sourceAnswer t x.2 k.payload)) ∧
  (∀ x ∈ [(Sys2Proof.Instr.fabReadResp, 3, Sys2Proof.Machine.doFabReadResp), (Sys2Proof.Instr.fabAtomicResp, 7, Sys2Proof.Machine.doFabAtomicResp), (Sys2Proof.Instr.fabBulkResp, 0xE, Sys2Proof.Machine.doFabBulkResp)], ∀ (k : Sys2Proof.Packet) (p : Nat) (t : Sys2Proof.Machine.Tx) (s : Sys2Proof.Machine.State), s.isUp k.port = true → k.crcOk = true → (s.counted k).partOfNode k.dst = some p →
    s.openTx p k.src k.seq = some t → (s.hasWay (x.2.2 k) → Sys2Proof.Machine.exec (x.1 k) s = .next ((s.noWait.counted k).sourceAnswer t x.2.1 k.payload)) ∧ (¬s.hasWay (x.2.2 k) → Sys2Proof.Machine.exec (x.1 k) s = .next s)) ∧
  (∀ x ∈ [(Sys2Proof.Instr.fabReadResp, 3), (Sys2Proof.Instr.fabAtomicResp, 7), (Sys2Proof.Instr.fabAck, 8), (Sys2Proof.Instr.fabTokenResp, 0xC), (Sys2Proof.Instr.fabBulkResp, 0xE)],
    ∀ (k : Sys2Proof.Packet) (p die m idx desc : Nat) (t : Sys2Proof.Machine.Tx) (s : Sys2Proof.Machine.State), s.isUp k.port = true → k.crcOk = true → (s.counted k).partOfNode k.dst = some p →
    s.openTx p k.src k.seq = some t → t.org = .mover die m idx desc → s.fab.fences = [] → s.fab.gathers = [] → s.fab.releases = [] → s.fab.doneFences = [] →
    ∃ u : Sys2Proof.Machine.State, Sys2Proof.Machine.exec (x.1 k) s = .next u ∧ u.openTx p k.src k.seq = none ∧ (∀ a, u.memByte a = s.memByte a) ∧ u.codes = s.codes) ∧
  (∀ (k : Sys2Proof.Packet) (p idx desc : Nat) (die m : Fin 4) (t : Sys2Proof.Machine.Tx) (r : Sys2Proof.Machine.RunCmd) (s : Sys2Proof.Machine.State), s.isUp k.port = true → k.crcOk = true → (s.counted k).partOfNode k.dst = some p →
    s.openTx p k.src k.seq = some t → t.org = .mover die m idx desc → s.fab.fences = [] → s.fab.gathers = [] → s.fab.releases = [] → s.fab.doneFences = [] →
    t.step = s.jobStep t.part → s.runAt die idx = some r → r.fault = none → s.frameState (s.partOf die) = Sys2Proof.Machine.stRunning →
    ∃ u : Sys2Proof.Machine.State, Sys2Proof.Machine.exec (.fabNack k) s = .next u ∧ u.openTx p k.src k.seq = none ∧ u.frameState (s.partOf die) = Sys2Proof.Machine.stFailed ∧ (∀ a, u.memByte a = s.memByte a) ∧
      u.getF (Sys2Proof.Machine.F.MOV_STATUS_FAULT_CODE die m) = Sys2Proof.fieldAt k.payload 0 2 % 2 ^ (Sys2Proof.Machine.F.MOV_STATUS_FAULT_CODE die m).width) ∧
  (∀ (dst vc seq : Nat) (t : Sys2Proof.Machine.Tx) (s : Sys2Proof.Machine.State), s.fab.txs.find? (fun x => x.dst == dst && x.vc == vc && x.seq == seq && x.sent && !x.answered) = some t →
    (t.tries < 3 → ∃ u : Sys2Proof.Machine.State, Sys2Proof.Machine.exec (.fabRetransmit dst vc seq) s = .next u ∧ u.codes = s.codes ++ [Sys2Proof.Machine.C.FAB_RETRANSMIT] ∧ t.ns + s.fabTimeout t.level ≤ u.clk.ns ∧
      (∀ k ∈ s.packets { t with tries := t.tries + 1 } true, u.onItsWay k.dst k.op k.seq k.payload = true) ∧ (∀ a, u.memByte a = s.memByte a)) ∧
    (3 ≤ t.tries → Sys2Proof.Machine.exec (.fabRetransmit dst vc seq) s = .next ((s.toNs (t.ns + s.fabTimeout t.level)).sourceNack t Sys2Proof.Machine.C.FAB_RETRY_EXHAUSTED)))

/-- An UP port goes DOWN, with FAB_PORT_DOWN, on the loss of light of an active lane, on the neighbour's symbol and on RETRAIN; a failed lane with no spare makes it FAILED (R386). A training or DOWN port with eight lanes comes UP with FAB_PORT_UP, after FAB_LANE_SPARED where a spare lane came in; one still DOWN 10 ms after it went DOWN enters FAILED. DISABLE turns a port that is not FAILED OFF and its removal lets it train; ENABLE does so for every port (R386, R431). A replay counts, and the sixteenth in a row takes the port DOWN; an acknowledgement of n packets drops the port's n oldest (R385). Returned credits are counted (R398, R422), a packet for another node is sent on or, with a CRC that fails, dropped and counted (R394, R397), and a saturated level raises FAB_LEVEL_SATURATED once in a frame (R424). No byte of memory changes (CommandsThatStoreNothing). -/
def Obligations.PortsAndLinks : Prop :=
  (∀ (p : Fin 32) (s : Sys2Proof.Machine.State), s.isUp p = true →
    ∃ t u, Sys2Proof.Machine.exec (.portDownSymbol p) s = .next t ∧ t.getF (Sys2Proof.Machine.F.PORT_STATUS_STATE p) = 3 ∧ t.codes = s.codes ++ [Sys2Proof.Machine.C.FAB_PORT_DOWN] ∧ t.replayOf p = [] ∧
      Sys2Proof.Machine.exec (.portRetrain p) s = .next u ∧ u.getF (Sys2Proof.Machine.F.PORT_STATUS_STATE p) = 3 ∧ u.codes = s.codes ++ [Sys2Proof.Machine.C.FAB_PORT_DOWN] ∧ u.out = ⟨0, 0, []⟩) ∧
  (∀ (p : Fin 32) (l : Fin 9) (s : Sys2Proof.Machine.State), s.isUp p = true → Sys2Proof.bit (s.getF (Sys2Proof.Machine.F.PORT_STATUS_ACTIVE p)) l = true →
    ∃ t, Sys2Proof.Machine.exec (.laneLightLoss p l) s = .next t ∧ Sys2Proof.bit (t.getF (Sys2Proof.Machine.F.PORT_STATUS_FAILED p)) l = true ∧
      ((∀ k < 9, k ≠ l.val → Sys2Proof.bit (s.getF (Sys2Proof.Machine.F.PORT_STATUS_ACTIVE p)) k = true) ∨ (∀ k < 9, Sys2Proof.bit (s.getF (Sys2Proof.Machine.F.PORT_STATUS_ACTIVE p)) k = false → Sys2Proof.bit (s.getF (Sys2Proof.Machine.F.PORT_STATUS_FAILED p)) k = true) →
        t.getF (Sys2Proof.Machine.F.PORT_STATUS_STATE p) = 4 ∧ t.codes = s.codes ++ [Sys2Proof.Machine.C.FAB_PORT_DOWN, Sys2Proof.Machine.C.FAB_PORT_FAILED])) ∧
  (∀ (p : Fin 32) (s : Sys2Proof.Machine.State), s.getF (Sys2Proof.Machine.F.PORT_STATUS_STATE p) = 1 ∨ (s.getF (Sys2Proof.Machine.F.PORT_STATUS_STATE p) = 3 ∧ s.clk.ns ≤ s.upLimit p) → s.lanesOk p = true →
    ∃ t, Sys2Proof.Machine.exec (.fabPortUp p) s = .next t ∧ t.getF (Sys2Proof.Machine.F.PORT_STATUS_STATE p) = 2 ∧ t.codes = s.codes ++ (if s.fab.lanePend.contains p.val then [Sys2Proof.Machine.C.FAB_LANE_SPARED] else []) ++ [Sys2Proof.Machine.C.FAB_PORT_UP]) ∧
  (∀ (p : Fin 32) (s : Sys2Proof.Machine.State), s.getF (Sys2Proof.Machine.F.PORT_STATUS_STATE p) = 3 → s.upLimit p < s.clk.ns → s.lanesOk p = true →
    ∃ t, Sys2Proof.Machine.exec (.fabPortUp p) s = .next t ∧ t.getF (Sys2Proof.Machine.F.PORT_STATUS_STATE p) = 4 ∧ t.codes = s.codes ++ [Sys2Proof.Machine.C.FAB_PORT_FAILED]) ∧
  (∀ (p : Fin 32) (s : Sys2Proof.Machine.State), (s.getF (Sys2Proof.Machine.F.PORT_STATUS_STATE p) = 3 → ∃ t, Sys2Proof.Machine.exec (.portUpTimeout p) s = .next t ∧ s.upLimit p ≤ t.clk.ns ∧ t.getF (Sys2Proof.Machine.F.PORT_STATUS_STATE p) = 4 ∧ t.codes = s.codes ++ [Sys2Proof.Machine.C.FAB_PORT_FAILED]) ∧
    (s.getF (Sys2Proof.Machine.F.PORT_STATUS_STATE p) ≠ 3 → Sys2Proof.Machine.exec (.portUpTimeout p) s = .next s)) ∧
  (∀ (p : Fin 32) (v : Sys2Proof.Word) (s : Sys2Proof.Machine.State),
    ∃ t, Sys2Proof.Machine.exec (.portDisableWrite p v) s = .next t ∧ t.getF (Sys2Proof.Machine.F.PORT_CTRL_DISABLE p) = Sys2Proof.b2n (Sys2Proof.bit v.toNat 0) ∧ t.out = ⟨0, 0, []⟩ ∧
      (Sys2Proof.bit v.toNat 0 = true → s.getF (Sys2Proof.Machine.F.PORT_STATUS_STATE p) ≠ 4 → t.getF (Sys2Proof.Machine.F.PORT_STATUS_STATE p) = 0) ∧
      (Sys2Proof.bit v.toNat 0 = false → s.getF (Sys2Proof.Machine.F.PORT_STATUS_STATE p) = 0 → s.getF Sys2Proof.Machine.F.FAB_CTRL_ENABLE = 1 → t.getF (Sys2Proof.Machine.F.PORT_STATUS_STATE p) = 1)) ∧
  (∀ (v : Sys2Proof.Word) (s : Sys2Proof.Machine.State), ∃ t, Sys2Proof.Machine.exec (.fabEnableWrite v) s = .next t ∧ t.getF Sys2Proof.Machine.F.FAB_CTRL_ENABLE = v.toNat % 2 ∧ t.out = ⟨0, 0, []⟩ ∧
    ∀ p : Fin 32, (v.toNat % 2 = 0 → s.getF (Sys2Proof.Machine.F.PORT_STATUS_STATE p) ≠ 4 → t.getF (Sys2Proof.Machine.F.PORT_STATUS_STATE p) = 0) ∧
      (v.toNat % 2 = 1 → s.getF (Sys2Proof.Machine.F.PORT_STATUS_STATE p) = 0 → s.getF (Sys2Proof.Machine.F.PORT_CTRL_DISABLE p) = 0 → t.getF (Sys2Proof.Machine.F.PORT_STATUS_STATE p) = 1)) ∧
  (∀ (p : Fin 32) (cost lane : Nat) (s : Sys2Proof.Machine.State), s.isUp p = true → s.replayOf p ≠ [] → Sys2Proof.Assoc.get s.fab.replayed p 0 + 1 < 16 →
    ∃ t, Sys2Proof.Machine.exec (.fabLinkReplay p cost lane) s = .next t ∧ Sys2Proof.Assoc.get t.fab.replayed p 0 = Sys2Proof.Assoc.get s.fab.replayed p 0 + 1 ∧ t.codes = s.codes ++ [Sys2Proof.Machine.C.FAB_LINK_REPLAY] ∧
      t.getF (Sys2Proof.Machine.F.PORT_STATUS_STATE p) = 2) ∧
  (∀ (p : Fin 32) (cost lane : Nat) (s : Sys2Proof.Machine.State), s.isUp p = true → s.replayOf p ≠ [] → 16 ≤ Sys2Proof.Assoc.get s.fab.replayed p 0 + 1 →
    ∃ t, Sys2Proof.Machine.exec (.fabLinkReplay p cost lane) s = .next t ∧ t.getF (Sys2Proof.Machine.F.PORT_STATUS_STATE p) ≠ 2 ∧ Sys2Proof.Machine.C.FAB_LINK_REPLAY ∈ t.codes ∧ Sys2Proof.Machine.C.FAB_PORT_DOWN ∈ t.codes) ∧
  (∀ (p : Fin 32) (n : Nat) (s : Sys2Proof.Machine.State),
    ∃ t, Sys2Proof.Machine.exec (.linkAckSymbol p n) s = .next t ∧ t.replayOf p = (s.replayOf p).drop n ∧ (∀ q, q ≠ p.val → t.replayOf q = s.replayOf q) ∧ (∀ f, t.getF f = s.getF f)) ∧
  (∀ (p : Fin 32) (vc : Fin 8) (n : Nat) (s : Sys2Proof.Machine.State),
    ∃ t, Sys2Proof.Machine.exec (.vcCreditReturn p vc n) s = .next t ∧ Sys2Proof.Assoc.get t.fab.credit (p * 8 + vc) 0 = Sys2Proof.Assoc.get s.fab.credit (p * 8 + vc) 0 + n ∧
      (s.fab.waiting = [] → ∀ f, t.getF f = s.getF f)) ∧
  (∀ (d : Fin 5) (l : Fin 3) (n : Nat) (s : Sys2Proof.Machine.State), ∃ t, Sys2Proof.Machine.exec (.egressCreditReturn d l n) s = .next t ∧ t.egressUsed d (l + 1) = s.egressUsed d (l + 1) - n ∧ (∀ f, t.getF f = s.getF f)) ∧
  (∀ (p : Fin 32) (k : Sys2Proof.Packet) (s : Sys2Proof.Machine.State), k.crcOk = true → (s.count 5 (8 * p + 2) 1).partOfNode k.dst = none → Sys2Proof.Machine.exec (.fabPacketForward p k) s = .next ((s.count 5 (8 * p + 2) 1).emit k)) ∧
  (∀ (p : Fin 32) (k : Sys2Proof.Packet) (s : Sys2Proof.Machine.State), k.crcOk = false → Sys2Proof.Machine.exec (.fabPacketForward p k) s = .next ((s.count 5 (8 * p + 2) 1).dropCrc { k with port := p })) ∧
  (∀ (l : Fin 3) (vc : Fin 8) (s : Sys2Proof.Machine.State), ∃ t, Sys2Proof.Machine.exec (.fabLevelSaturated l vc) s = .next t ∧
    (s.fab.saturated.contains l.val = false → t.codes = s.codes ++ [Sys2Proof.Machine.C.FAB_LEVEL_SATURATED] ∧ t.fab.saturated = l.val :: s.fab.saturated) ∧
    (s.fab.saturated.contains l.val = true → t.codes = s.codes ∧ t.fab.saturated = s.fab.saturated))

/-- DISCOVER and APPLY are refused with FAB_SETUP_STATE unless every partition is IDLE or STOPPED and none is in progress, and SAVE while one is; an accepted DISCOVER makes the set-up unit busy, and its end fills NEIGHBOUR of each UP port with a neighbour one hop away (R426). APPLY of a record that checks clears every fabric table and installs the record's, with its digest, at once (R427); SAVE takes the installed tables and, at its end, writes them at FAB_SETUP_ADDR (R428). A table write that breaks its table's rules, or a read beyond the table, answers FAB_TABLE_INVALID; a legal write acts at once with no frame RUNNING and waits for the close otherwise; a read copies the entry into TBL_DATA (R39, R431). A gather whose time is over is closed and, with no BULK of its key unanswered, sent (R416). -/
def Obligations.SetupAndTables : Prop :=
  (∀ s : Sys2Proof.Machine.State, s.allAtRest = false ∨ s.fab.op ≠ 0 → Sys2Proof.Machine.exec .fabDiscover s = .next (s.refused Sys2Proof.Machine.C.FAB_SETUP_STATE 5 2 0) ∧ Sys2Proof.Machine.exec .fabApply s = .next (s.refused Sys2Proof.Machine.C.FAB_SETUP_STATE 5 2 0)) ∧
  (∀ s : Sys2Proof.Machine.State, s.fab.op ≠ 0 → Sys2Proof.Machine.exec .fabSave s = .next (s.refused Sys2Proof.Machine.C.FAB_SETUP_STATE 5 2 0)) ∧
  (∀ s : Sys2Proof.Machine.State, s.allAtRest = true → s.fab.op = 0 → ∃ t, Sys2Proof.Machine.exec .fabDiscover s = .next t ∧ t.fab.op = 1 ∧ t.getF Sys2Proof.Machine.F.FAB_SETUP_STATUS_BUSY = 1 ∧ t.out = ⟨0, 0, []⟩ ∧ t.fab.regions = s.fab.regions) ∧
  (∀ (l : List (Nat × Nat × Nat)) (s : Sys2Proof.Machine.State), s.fab.op = 1 →
    ∃ t, Sys2Proof.Machine.exec (.discoverDone l) s = .next t ∧ t.fab.op = 0 ∧ t.getF Sys2Proof.Machine.F.FAB_SETUP_STATUS_DONE = 1 ∧ t.getF Sys2Proof.Machine.F.FAB_SETUP_STATUS_BUSY = 0 ∧ t.getF Sys2Proof.Machine.F.FAB_SETUP_STATUS_CODE = 0 ∧
      t.fab.regions = s.fab.regions ∧ t.fab.fences = s.fab.fences ∧ t.fab.groups = s.fab.groups ∧
      ∀ (p : Fin 32) (x : Nat × Nat × Nat), (l.filter (fun y => s.isUp y.1)).find? (fun y => y.1 == p.val && y.2.2 == 1) = some x →
        t.getF (Sys2Proof.Machine.F.PORT_STATUS_NEIGHBOUR p) = x.2.1 % 2 ^ (Sys2Proof.Machine.F.PORT_STATUS_NEIGHBOUR p).width ∧ t.getF (Sys2Proof.Machine.F.PORT_STATUS_NBR_VALID p) = 1) ∧
  (∀ (s : Sys2Proof.Machine.State) (n : Nat), s.allAtRest = true → s.fab.op = 0 → s.rangeOk (s.getF Sys2Proof.Machine.F.FAB_SETUP_ADDR_ADDR) 8 = true →
    Sys2Proof.fieldAt (s.readMem (s.getF Sys2Proof.Machine.F.FAB_SETUP_ADDR_ADDR) 8) 4 4 = n → 128 ≤ n → n ≤ 1048576 → s.rangeOk (s.getF Sys2Proof.Machine.F.FAB_SETUP_ADDR_ADDR) n = true →
    ∃ t, Sys2Proof.Machine.exec .fabApply s = .next t ∧ t.out = ⟨0, 0, []⟩ ∧
      (s.checkRecord (s.readMem (s.getF Sys2Proof.Machine.F.FAB_SETUP_ADDR_ADDR) n) = 0 → t.fab.op = 2 ∧ t.getF Sys2Proof.Machine.F.FAB_SETUP_STATUS_BUSY = 1 ∧ t.fab.record = s.readMem (s.getF Sys2Proof.Machine.F.FAB_SETUP_ADDR_ADDR) n) ∧
      (s.checkRecord (s.readMem (s.getF Sys2Proof.Machine.F.FAB_SETUP_ADDR_ADDR) n) ≠ 0 →
        t.getF Sys2Proof.Machine.F.FAB_SETUP_STATUS_CODE = s.checkRecord (s.readMem (s.getF Sys2Proof.Machine.F.FAB_SETUP_ADDR_ADDR) n) % 2 ^ Sys2Proof.Machine.F.FAB_SETUP_STATUS_CODE.width ∧ t.getF Sys2Proof.Machine.F.FAB_SETUP_STATUS_DONE = 1 ∧ t.fab.regions = s.fab.regions)) ∧
  (∀ s : Sys2Proof.Machine.State, s.fab.op = 2 → s.hasWay Sys2Proof.Machine.doApplyDone →
    ∃ t, Sys2Proof.Machine.exec .applyDone s = .next t ∧ t.fab.op = 0 ∧ t.fab.record = [] ∧ t.fab.peers = [] ∧ t.fab.txs = [] ∧ t.getF Sys2Proof.Machine.F.FAB_SETUP_STATUS_STATE = 2 ∧ t.getF Sys2Proof.Machine.F.FAB_SETUP_STATUS_DONE = 1 ∧
      t.fab.nodes = (List.range (Sys2Proof.fieldAt s.fab.record 8 4)).map (fun i => Sys2Proof.fieldAt s.fab.record (Sys2Proof.fieldAt s.fab.record 12 4 + 4 * i) 4) ∧
      (∀ k : Fin 8, t.getF (Sys2Proof.Machine.F.FAB_DIGEST_DIGEST k) = Sys2Proof.fieldAt s.fab.record (64 + 8 * k) 8)) ∧
  (∀ s : Sys2Proof.Machine.State, s.fab.op = 0 → ∃ t, Sys2Proof.Machine.exec .fabSave s = .next t ∧ t.fab.op = 3 ∧ t.fab.record = s.makeRecord ∧ t.getF Sys2Proof.Machine.F.FAB_SETUP_STATUS_BUSY = 1 ∧ t.out = ⟨0, 0, []⟩) ∧
  (∀ (s u : Sys2Proof.Machine.State), s.fab.op = 3 → s.hasWay Sys2Proof.Machine.doFabSaveDone → s.noWait.extWrite 0xA0 (s.getF Sys2Proof.Machine.F.FAB_SETUP_ADDR_ADDR) s.fab.record = (0, u) →
    ∃ t, Sys2Proof.Machine.exec .fabSaveDone s = .next t ∧ t.getF Sys2Proof.Machine.F.FAB_SETUP_STATUS_DONE = 1 ∧ t.getF Sys2Proof.Machine.F.FAB_SETUP_STATUS_CODE = 0 ∧ t.fab.op = 0 ∧ (∀ a, t.memByte a = u.memByte a)) ∧
  (∀ (v : Sys2Proof.Word) (s u : Sys2Proof.Machine.State), s.tblSel v.toNat = u →
    (Sys2Proof.Machine.tblSize (u.getF Sys2Proof.Machine.F.TBL_SEL_TABLE) ≤ u.getF Sys2Proof.Machine.F.TBL_SEL_INDEX ∨ Sys2Proof.Machine.tblOk (u.getF Sys2Proof.Machine.F.TBL_SEL_TABLE) u.tblData = false → Sys2Proof.Machine.exec (.tblWrite v) s = .next (u.refused Sys2Proof.Machine.C.FAB_TABLE_INVALID 5 2 (u.getF Sys2Proof.Machine.F.TBL_SEL_TABLE))) ∧
    (Sys2Proof.Machine.tblSize (u.getF Sys2Proof.Machine.F.TBL_SEL_TABLE) ≤ u.getF Sys2Proof.Machine.F.TBL_SEL_INDEX → Sys2Proof.Machine.exec (.tblRead v) s = .next (u.refused Sys2Proof.Machine.C.FAB_TABLE_INVALID 5 2 (u.getF Sys2Proof.Machine.F.TBL_SEL_TABLE))) ∧
    (u.getF Sys2Proof.Machine.F.TBL_SEL_INDEX < Sys2Proof.Machine.tblSize (u.getF Sys2Proof.Machine.F.TBL_SEL_TABLE) → Sys2Proof.Machine.tblOk (u.getF Sys2Proof.Machine.F.TBL_SEL_TABLE) u.tblData = true → u.noneRunning = true →
      Sys2Proof.Machine.exec (.tblWrite v) s = .next (((u.tblHeld (u.getF Sys2Proof.Machine.F.TBL_SEL_TABLE) (u.getF Sys2Proof.Machine.F.TBL_SEL_INDEX) u.tblData).tblPut (u.getF Sys2Proof.Machine.F.TBL_SEL_TABLE) (u.getF Sys2Proof.Machine.F.TBL_SEL_INDEX) u.tblData).answer 0 0)) ∧
    (u.getF Sys2Proof.Machine.F.TBL_SEL_INDEX < Sys2Proof.Machine.tblSize (u.getF Sys2Proof.Machine.F.TBL_SEL_TABLE) → Sys2Proof.Machine.tblOk (u.getF Sys2Proof.Machine.F.TBL_SEL_TABLE) u.tblData = true → u.noneRunning = false →
      ∃ t, Sys2Proof.Machine.exec (.tblWrite v) s = .next t ∧ t.fab.tblDefer = s.fab.tblDefer ++ [(u.getF Sys2Proof.Machine.F.TBL_SEL_TABLE, u.getF Sys2Proof.Machine.F.TBL_SEL_INDEX, u.tblData)] ∧ t.fab.routes = s.fab.routes ∧ t.out = ⟨0, 0, []⟩) ∧
    (u.getF Sys2Proof.Machine.F.TBL_SEL_INDEX < Sys2Proof.Machine.tblSize (u.getF Sys2Proof.Machine.F.TBL_SEL_TABLE) →
      ∃ t, Sys2Proof.Machine.exec (.tblRead v) s = .next t ∧ t.out = ⟨0, 0, []⟩ ∧ t.fab = s.fab ∧
        ∀ w : Fin 4, t.getF (Sys2Proof.Machine.F.TBL_DATA_DATA w) = ((u.tblEntry (u.getF Sys2Proof.Machine.F.TBL_SEL_TABLE) (u.getF Sys2Proof.Machine.F.TBL_SEL_INDEX)).getD w 0) % 2 ^ (Sys2Proof.Machine.F.TBL_DATA_DATA w).width)) ∧
  (∀ (gw : Fin 2) (g : Sys2Proof.Machine.Gather) (s : Sys2Proof.Machine.State), s.fab.gathers = [g] → g.gw = gw → g.closed = false → s.bulkOpen { g with closed := true } = false →
    ∃ t, Sys2Proof.Machine.exec (.gatherTimeout gw 0) s = .next t ∧ t.fab.gathers = [] ∧ t.fab.txs.length = s.fab.txs.length + 1 ∧
      (t.fab.txs.getLast?).map (fun x => (x.dst, x.op, x.addrs)) = some (g.dst, 0xD, [(0, g.payload)]))

/-- A host's doorbell write without IDE on its LD is dropped and counted in UNPROTECTED (R551); with it, one of a disabled context or of another partition has no effect, and NIC_DOORBELL writes TAIL (R438). TOT_DOORBELL_INCREMENT adds its increment to the entry's counter, saturating at 32 bits: shown whole for an entry that is unused, so that it does not fire (R441). With a record between HEAD and TAIL and none waiting, HEAD advances in the ring; a collective record that breaks its layout raises COLL_DESC, sets REJECTED with it and posts nothing (R439, R516), and one that keeps it joins its group's operations with the next GSEQ, not yet started (R435). TOT_SEL.READ copies the entry that CTX and INDEX name (R466). -/
def Obligations.NicAndTots : Prop :=
  (∀ (k : Fin 8) (p : Fin 4) (v : Nat) (s : Sys2Proof.Machine.State), s.ideOn p = false →
    Sys2Proof.Machine.exec (.nicDoorbell k p v) s = .next (s.satF (Sys2Proof.Machine.F.TELLER_STATUS_UNPROTECTED p) 1) ∧
      ∃ t : Sys2Proof.Machine.State, Sys2Proof.Machine.exec (.totDoorbellIncrement k p v) s = .next t ∧ t.alike (s.satF (Sys2Proof.Machine.F.TELLER_STATUS_UNPROTECTED p) 1)) ∧
  (∀ (k : Fin 8) (p : Fin 4) (v : Nat) (s : Sys2Proof.Machine.State), s.ideOn p = true → s.getF (Sys2Proof.Machine.F.NIC_CTRL_ENABLE k) = 0 ∨ s.ctxPart k ≠ p →
    Sys2Proof.Machine.exec (.nicDoorbell k p v) s = .next s ∧ ∃ t : Sys2Proof.Machine.State, Sys2Proof.Machine.exec (.totDoorbellIncrement k p v) s = .next t ∧ t.alike s) ∧
  (∀ (k : Fin 8) (p : Fin 4) (v : Nat) (s : Sys2Proof.Machine.State), s.ideOn p = true → s.getF (Sys2Proof.Machine.F.NIC_CTRL_ENABLE k) ≠ 0 → s.ctxPart k = p →
    ∃ t, Sys2Proof.Machine.exec (.nicDoorbell k p v) s = .next t ∧ t.getF (Sys2Proof.Machine.F.NIC_QPOS_TAIL k) = v % 2 ^ (Sys2Proof.Machine.F.NIC_QPOS_TAIL k).width ∧
      t.getF (Sys2Proof.Machine.F.NIC_QPOS_HEAD k) = s.getF (Sys2Proof.Machine.F.NIC_QPOS_HEAD k) ∧ t.coll = s.coll ∧ (∀ a, t.memByte a = s.memByte a)) ∧
  (∀ (k : Fin 8) (p : Fin 4) (v : Nat) (s : Sys2Proof.Machine.State), s.ideOn p = true → s.getF (Sys2Proof.Machine.F.NIC_CTRL_ENABLE k) ≠ 0 → s.ctxPart k = p → (s.tot k (Sys2Proof.bits v 0 10)).cross = false → (s.tot k (Sys2Proof.bits v 0 10)).thr = 0 →
    ∃ t, Sys2Proof.Machine.exec (.totDoorbellIncrement k p v) s = .next t ∧ t.fld = s.fld ∧ (∀ a, t.memByte a = s.memByte a) ∧
      t.tot k (Sys2Proof.bits v 0 10) = { s.tot k (Sys2Proof.bits v 0 10) with count := Sys2Proof.satAdd 32 (s.tot k (Sys2Proof.bits v 0 10)).count (Sys2Proof.bits v 16 32) }) ∧
  (∀ (k : Fin 8) (h lg : Nat) (b : List Sys2Proof.Byte) (s u : Sys2Proof.Machine.State), s.getF (Sys2Proof.Machine.F.NIC_CTRL_ENABLE k) ≠ 0 → s.getF (Sys2Proof.Machine.F.NIC_QPOS_HEAD k) = h → s.getF (Sys2Proof.Machine.F.NIC_QBASE_LOG2_SIZE k) = lg →
    h % 2 ^ lg ≠ s.getF (Sys2Proof.Machine.F.NIC_QPOS_TAIL k) % 2 ^ lg → s.coll.held.any (fun x => x.1 == k.val) = false → s.hasWay (Sys2Proof.Machine.doNicRecordPost k) →
    s.noWait.extRead 0xA0 (s.getF (Sys2Proof.Machine.F.NIC_QBASE_BASE k) + 128 * (h % 2 ^ lg)) 128 = (0, b, u) → 0x80 ≤ Sys2Proof.fieldAt b 0 1 →
    (u.colOk b = false → ∃ t, Sys2Proof.Machine.exec (.nicRecordPost k) s = .next t ∧ t.coll = u.coll ∧ t.getF (Sys2Proof.Machine.F.NIC_STATUS_REJECTED k) = 1 ∧ t.getF (Sys2Proof.Machine.F.NIC_STATUS_LAST_CODE k) = Sys2Proof.Machine.C.COLL_DESC ∧ t.codes = u.codes ++ [Sys2Proof.Machine.C.COLL_DESC] ∧
      t.getF (Sys2Proof.Machine.F.NIC_QPOS_HEAD k) = (h % 2 ^ lg + 1) % 2 ^ lg % 2 ^ (Sys2Proof.Machine.F.NIC_QPOS_HEAD k).width) ∧
    (∀ g : Fin 64, Sys2Proof.fieldAt b 1 1 = g → u.colOk b = true → u.inFlight g < 64 → ∃ t o, Sys2Proof.Machine.exec (.nicRecordPost k) s = .next t ∧
      t.coll.ops = u.coll.ops ++ [o] ∧ o.group = g.val ∧ o.gseq = u.getF (Sys2Proof.Machine.F.GRP_SEQ_POSTED g) ∧ o.ctx = k.val ∧ o.bytes = b ∧ o.started = false ∧
      t.getF (Sys2Proof.Machine.F.GRP_SEQ_POSTED g) = (u.getF (Sys2Proof.Machine.F.GRP_SEQ_POSTED g) + 1) % 2 ^ (Sys2Proof.Machine.F.GRP_SEQ_POSTED g).width ∧
      t.getF (Sys2Proof.Machine.F.NIC_QPOS_HEAD k) = (h % 2 ^ lg + 1) % 2 ^ lg % 2 ^ (Sys2Proof.Machine.F.NIC_QPOS_HEAD k).width)) ∧
  (∀ (v : Sys2Proof.Word) (s : Sys2Proof.Machine.State), ∃ t, Sys2Proof.Machine.exec (.totSelRead v) s = .next t ∧ t.coll = s.coll ∧ t.getF Sys2Proof.Machine.F.TOT_SEL_CTX = Sys2Proof.bits v.toNat 10 3 ∧ t.getF Sys2Proof.Machine.F.TOT_SEL_INDEX = Sys2Proof.bits v.toNat 0 10 ∧
    (Sys2Proof.bit v.toNat 63 = true → t.getF Sys2Proof.Machine.F.TOT_DATA0_THRESHOLD = (s.tot (Sys2Proof.bits v.toNat 10 3) (Sys2Proof.bits v.toNat 0 10)).thr % 2 ^ 32 ∧
      t.getF Sys2Proof.Machine.F.TOT_DATA0_COUNT = (s.tot (Sys2Proof.bits v.toNat 10 3) (Sys2Proof.bits v.toNat 0 10)).count % 2 ^ 32 ∧
      t.getF Sys2Proof.Machine.F.TOT_DATA1_DONE = Sys2Proof.b2n (s.tot (Sys2Proof.bits v.toNat 10 3) (Sys2Proof.bits v.toNat 0 10)).done ∧ t.getF Sys2Proof.Machine.F.TOT_DATA1_FAILED = Sys2Proof.b2n (s.tot (Sys2Proof.bits v.toNat 10 3) (Sys2Proof.bits v.toNat 0 10)).failed))

/-- A row finds the context's first posted operation of its kind; with none it changes nothing but the note that an access of the F-die waits, which every such row begins anew, and a row one of whose accesses has to wait changes nothing at all (R40). A leaf's BARRIER sends an empty COL_UP to its parent and its SCALAR its elements (R450); the root of a group alone completes a BARRIER at once. A leaf's ALLREDUCE and REDUCE_SCATTER of one chunk with one contribution send its bytes to the parent's staging row for this child (R453, R455), its ALLGATHER its rank's bytes at their place in the chunk (R456). A member's BROADCAST waits for data; a root's BROADCAST or REPAIR_BCAST of one chunk leaves the data at DST and sends them there to each child, or to each node of the target list (R461, R464). Shown whole for data in one 64-byte unit of T2 that the F-die has its way to, and operations of at most one chunk, with no other of the group in flight. -/
def Obligations.CollectivesStart : Prop :=
  (∀ x ∈ [((fun k => Sys2Proof.Instr.barrier k : Fin 8 → Sys2Proof.Instr), 0x80), ((fun k => Sys2Proof.Instr.scalar k), 0x81), ((fun k => Sys2Proof.Instr.allreduce k), 0x82), ((fun k => Sys2Proof.Instr.reduceScatter k), 0x83), ((fun k => Sys2Proof.Instr.allgather k), 0x84), ((fun k => Sys2Proof.Instr.broadcast k), 0x85), ((fun k => Sys2Proof.Instr.repairBcast k), 0x86)],
    ∀ (k : Fin 8) (s : Sys2Proof.Machine.State), s.coll.ops.find? (fun o => o.ctx == k.val && o.op == x.2 && !o.started) = none → ∃ t : Sys2Proof.Machine.State, Sys2Proof.Machine.exec (x.1 k) s = .next t ∧ t.alike s) ∧
  (∀ x ∈ [((fun k => Sys2Proof.Instr.barrier k : Fin 8 → Sys2Proof.Instr), (fun k : Fin 8 => Sys2Proof.Machine.doBarrier k)), ((fun k => Sys2Proof.Instr.scalar k), fun k => Sys2Proof.Machine.doScalar k), ((fun k => Sys2Proof.Instr.allreduce k), fun k => Sys2Proof.Machine.doAllreduce k), ((fun k => Sys2Proof.Instr.reduceScatter k), fun k => Sys2Proof.Machine.doReduceScatter k), ((fun k => Sys2Proof.Instr.allgather k), fun k => Sys2Proof.Machine.doAllgather k), ((fun k => Sys2Proof.Instr.broadcast k), fun k => Sys2Proof.Machine.doBroadcast k), ((fun k => Sys2Proof.Instr.repairBcast k), fun k => Sys2Proof.Machine.doRepairBcast k)],
    ∀ (k : Fin 8) (s : Sys2Proof.Machine.State), ¬s.hasWay (x.2 k) → Sys2Proof.Machine.exec (x.1 k) s = .next s) ∧
  (∀ x ∈ [((fun k => Sys2Proof.Instr.barrier k : Fin 8 → Sys2Proof.Instr), 0x80, (fun k : Fin 8 => Sys2Proof.Machine.doBarrier k)), ((fun k => Sys2Proof.Instr.scalar k), 0x81, fun k => Sys2Proof.Machine.doScalar k)], ∀ (k : Fin 8) (o : Sys2Proof.Machine.CollOp) (gr : Sys2Proof.Machine.Group) (s : Sys2Proof.Machine.State),
    s.hasWay (x.2.2 k) → s.coll.ops = [o] → o.ctx = k → o.op = x.2.1 → o.started = false → o.sentUp = false → o.fail = 0 → s.group o.group = some gr → gr.children = [] →
    (gr.root = false → (x.2.1 = 0x80 ∨ (o.nsrc = 1 ∧ o.two = false ∧ s.t2Unit o.from_ (8 * o.nval))) →
      ∃ t, Sys2Proof.Machine.exec (x.1 k) s = .next t ∧ t.coll.ops = [{ o with started := true, sentUp := true }] ∧ (∀ a, t.memByte a = s.memByte a) ∧
        s.sends t (s.ctxPart k) gr.parent 0x10 [(o.gseq + o.pass * 2 ^ 32, if x.2.1 = 0x80 then [] else ((Sys2Proof.Machine.cutBy 8 (s.readMem o.from_ (8 * o.nval))).map (fun b => b.take (Sys2Proof.Machine.colE o.ty))).flatten)]) ∧
    (gr.root = true → x.2.1 = 0x80 → ∃ t, Sys2Proof.Machine.exec (x.1 k) s = .next t ∧ t.coll.ops = [{ o with started := true, sentUp := true, res := true }] ∧ t.fab = s.fab)) ∧
  (∀ x ∈ [((fun k => Sys2Proof.Instr.allreduce k : Fin 8 → Sys2Proof.Instr), 0x82, (fun k : Fin 8 => Sys2Proof.Machine.doAllreduce k)), ((fun k => Sys2Proof.Instr.reduceScatter k), 0x83, fun k => Sys2Proof.Machine.doReduceScatter k)], ∀ (k : Fin 8) (o : Sys2Proof.Machine.CollOp) (gr : Sys2Proof.Machine.Group) (n : Nat) (s : Sys2Proof.Machine.State),
    s.hasWay (x.2.2 k) → s.coll.ops = [o] → o.ctx = k → o.op = x.2.1 → o.started = false → o.fail = 0 → s.group o.group = some gr → gr.children = [] → gr.root = false →
    o.count = 1 → o.reached = 0 → o.chunks = [] → o.wrote = 0 → o.two = false → o.nsrc = 1 → o.chunk0 < gr.depth → 0 < o.want gr → s.coll.staged = [] → s.coll.downs = [] →
    o.span gr.members 0 = (0, n) → s.t2Unit o.from_ (n * Sys2Proof.Machine.colE o.ty) →
    ∃ t, Sys2Proof.Machine.exec (x.1 k) s = .next t ∧ (∀ a, t.memByte a = s.memByte a) ∧
      s.sends t (s.ctxPart k) gr.parent 1 (Sys2Proof.Machine.writeAddrs (Sys2Proof.Machine.stageAt gr gr.childIndex o.chunk0) (s.readMem o.from_ (n * Sys2Proof.Machine.colE o.ty)))) ∧
  (∀ (k : Fin 8) (o : Sys2Proof.Machine.CollOp) (gr : Sys2Proof.Machine.Group) (s : Sys2Proof.Machine.State),
    s.hasWay (Sys2Proof.Machine.doAllgather k) → s.coll.ops = [o] → o.ctx = k → o.op = 0x84 → o.started = false → o.fail = 0 → s.group o.group = some gr → gr.children = [] → gr.root = false →
    o.count = 1 → o.reached = 0 → o.chunks = [] → o.wrote = 0 → o.chunk0 < gr.depth → gr.rank < gr.members → o.len * gr.members ≤ 262144 → s.coll.staged = [] → s.coll.downs = [] →
    s.t2Unit o.from_ o.len →
    ∃ t, Sys2Proof.Machine.exec (.allgather k) s = .next t ∧ (∀ a, t.memByte a = s.memByte a) ∧
      s.sends t (s.ctxPart k) gr.parent 1 (Sys2Proof.Machine.writeAddrs (Sys2Proof.Machine.stageAt gr gr.childIndex o.chunk0 + gr.rank * o.len) (s.readMem o.from_ o.len))) ∧
  (∀ (k : Fin 8) (o : Sys2Proof.Machine.CollOp) (gr : Sys2Proof.Machine.Group) (s : Sys2Proof.Machine.State), s.hasWay (Sys2Proof.Machine.doBroadcast k) → s.coll.ops = [o] → o.ctx = k → o.op = 0x85 → o.started = false → s.group o.group = some gr → gr.root = false →
    o.wrote < o.want gr → o.res = false → s.coll.downs = [] → ∃ t, Sys2Proof.Machine.exec (.broadcast k) s = .next t ∧ t.coll.ops = [{ o with started := true }] ∧ t.fab = s.fab ∧ t.mem = s.mem) ∧
  (∀ x ∈ [((fun k => Sys2Proof.Instr.broadcast k : Fin 8 → Sys2Proof.Instr), 0x85, (fun k : Fin 8 => Sys2Proof.Machine.doBroadcast k)), ((fun k => Sys2Proof.Instr.repairBcast k), 0x86, fun k => Sys2Proof.Machine.doRepairBcast k)], ∀ (k : Fin 8) (o : Sys2Proof.Machine.CollOp) (gr : Sys2Proof.Machine.Group) (l : List Nat) (s : Sys2Proof.Machine.State),
    s.hasWay (x.2.2 k) → s.coll.ops = [o] → o.ctx = k → o.op = x.2.1 → o.started = false → o.fail = 0 → s.group o.group = some gr → gr.root = true →
    o.count = 1 → o.reached = 0 → o.chunks = [] → o.wrote = 0 → s.coll.downs = [] → o.want gr = o.len → o.total gr.members = o.len → s.t2Unit o.from_ o.len → o.dst % 64 + o.len ≤ 64 → s.tierOf o.dst = some .t2 →
    (x.2.1 = 0x85 → l = gr.children) → (x.2.1 = 0x86 → s.t2Unit o.list (4 * Sys2Proof.fieldAt o.bytes 48 4) ∧ l = (Sys2Proof.Machine.cutBy 4 (s.readMem o.list (4 * Sys2Proof.fieldAt o.bytes 48 4))).map Sys2Proof.leNat) →
    ∃ t, Sys2Proof.Machine.exec (x.1 k) s = .next t ∧ t.readMem o.dst o.len = s.readMem o.from_ o.len ∧
      (∀ a, a < o.dst ∨ o.dst + o.len ≤ a → t.memByte a = s.memByte a) ∧
      (∀ n ∈ l, ∃ y ∈ t.fab.txs, y.dst = n ∧ y.op = 1 ∧ y.addrs = Sys2Proof.Machine.writeAddrs o.dst (s.readMem o.from_ o.len)))

/-- A packet that comes neither from the parent nor from a child is dropped and counted (R449). A COL_UP or COL_DOWN one of whose accesses has to wait changes nothing (R40). A new one from a relative that has its way is acknowledged (R411), and: a COL_UP for an operation not yet posted is kept (R458); a COL_DOWN of results at a leaf ends its BARRIER, or leaves the results of its SCALAR at DST (R450); a COL_CREDIT is remembered for its chunk (R454); a BCAST_ACK whose CRC-64 agrees replaces the child's earlier one (R461, R464), and one that differs declares the child failed (R462). A child that has acknowledged every data transfer, and does not send its BCAST_ACK within HEIGHT times BCAST_WAIT_US, is declared failed (R462). -/
def Obligations.CollectivePackets : Prop :=
  (∀ x ∈ [(Sys2Proof.Instr.colUp, 0x10), (Sys2Proof.Instr.colDown, 0x11), (Sys2Proof.Instr.colCredit, 0x12), (Sys2Proof.Instr.bcastAck, 0x13)], ∀ (k : Sys2Proof.Packet) (p : Nat) (s : Sys2Proof.Machine.State), k.op = x.2 →
    s.isUp k.port = true → k.crcOk = true → (s.counted k).partOfNode k.dst = some p → s.colFrom k = false →
    ∃ t : Sys2Proof.Machine.State, Sys2Proof.Machine.exec (x.1 k) s = .next t ∧ t.alike ((s.counted k).satF Sys2Proof.Machine.F.FAB_REFUSED_OTHER 1)) ∧
  (∀ x ∈ [(Sys2Proof.Instr.colUp, Sys2Proof.Machine.doColUp), (Sys2Proof.Instr.colDown, Sys2Proof.Machine.doColDown)], ∀ (k : Sys2Proof.Packet) (s : Sys2Proof.Machine.State), ¬s.hasWay (x.2 k) → Sys2Proof.Machine.exec (x.1 k) s = .next s) ∧
  (∀ (k : Sys2Proof.Packet) (p : Nat) (s : Sys2Proof.Machine.State), s.hasWay (Sys2Proof.Machine.doColUp k) → k.op = 0x10 → s.isUp k.port = true → k.crcOk = true → (s.counted k).partOfNode k.dst = some p → s.colFrom k = true →
    (s.counted k).newPacket p k = true → s.opAt k.group (Sys2Proof.bits k.addr 0 32) = none →
    ∃ t : Sys2Proof.Machine.State, Sys2Proof.Machine.exec (.colUp k) s = .next t.afterPacket ∧ t.onItsWay k.src 8 k.seq [] = true ∧ (∀ a, t.memByte a = s.memByte a) ∧
      t.coll.ups = s.coll.ups ++ [⟨k.group, Sys2Proof.bits k.addr 0 32, Sys2Proof.bits k.addr 32 4, k.src, Sys2Proof.bits k.addr 40 8, k.payload⟩]) ∧
  (∀ (k : Sys2Proof.Packet) (p : Nat) (o : Sys2Proof.Machine.CollOp) (gr : Sys2Proof.Machine.Group) (s : Sys2Proof.Machine.State), s.hasWay (Sys2Proof.Machine.doColDown k) → k.op = 0x11 → s.isUp k.port = true → k.crcOk = true → (s.counted k).partOfNode k.dst = some p →
    s.group k.group = some gr → gr.root = false → gr.children = [] → k.src = gr.parent → (s.counted k).newPacket p k = true → s.coll.ops = [o] → o.group = k.group → o.gseq = Sys2Proof.bits k.addr 0 32 →
    o.isBulk = false → o.fail = 0 → Sys2Proof.bits k.addr 32 4 = 1 → (k.payload = [] ∨ (k.payload.length ≤ 64 - o.dst % 64 ∧ s.tierOf o.dst = some .t2)) →
    ∃ t : Sys2Proof.Machine.State, Sys2Proof.Machine.exec (.colDown k) s = .next t.afterPacket ∧ t.onItsWay k.src 8 k.seq [] = true ∧ t.coll.ops = [{ o with res := true }] ∧ t.readMem o.dst k.payload.length = k.payload ∧
      (∀ a, a < o.dst ∨ o.dst + k.payload.length ≤ a → t.memByte a = s.memByte a)) ∧
  (∀ (k : Sys2Proof.Packet) (p : Nat) (s : Sys2Proof.Machine.State), k.op = 0x12 → s.isUp k.port = true → k.crcOk = true → (s.counted k).partOfNode k.dst = some p → s.colFrom k = true →
    (s.counted k).newPacket p k = true → s.coll.ops = [] →
    ∃ t : Sys2Proof.Machine.State, Sys2Proof.Machine.exec (.colCredit k) s = .next t.afterPacket ∧ t.onItsWay k.src 8 k.seq [] = true ∧ (∀ a, t.memByte a = s.memByte a) ∧
      t.coll.credited = s.coll.credited ++ [(k.group, Sys2Proof.bits k.addr 0 32)]) ∧
  (∀ (k : Sys2Proof.Packet) (p : Nat) (o : Sys2Proof.Machine.CollOp) (s : Sys2Proof.Machine.State), k.op = 0x13 → s.isUp k.port = true → k.crcOk = true → (s.counted k).partOfNode k.dst = some p → s.colFrom k = true →
    (s.counted k).newPacket p k = true → s.coll.ops = [o] → o.group = k.group → o.gseq = Sys2Proof.bits k.addr 0 32 → o.isBcast = true →
    (Sys2Proof.fieldAt k.payload 8 8 = Sys2Proof.Machine.crcOf 2 (s.readMem o.dst o.len) → ∃ (t : Sys2Proof.Machine.State) (u : Sys2Proof.Machine.CollOp), Sys2Proof.Machine.exec (.bcastAck k) s = .next t.afterPacket ∧ t.onItsWay k.src 8 k.seq [] = true ∧
      t.coll.ops = [u] ∧ (∀ a, t.memByte a = s.memByte a) ∧ t.codes = s.codes ∧
      u.acks = o.acks.filter (fun a => a.1 != k.src) ++ [(k.src, Sys2Proof.fieldAt k.payload 0 4, Sys2Proof.fieldAt k.payload 4 4, (List.range (min (Sys2Proof.fieldAt k.payload 4 4) 60)).map (fun i => Sys2Proof.fieldAt k.payload (16 + 4 * i) 4))]) ∧
    (Sys2Proof.fieldAt k.payload 8 8 ≠ Sys2Proof.Machine.crcOf 2 (s.readMem o.dst o.len) → o.fail = 0 → o.lost.contains k.src = false → o.acks.any (fun a => a.1 == k.src) = false →
      ∃ (t : Sys2Proof.Machine.State) (u : Sys2Proof.Machine.CollOp), Sys2Proof.Machine.exec (.bcastAck k) s = .next t.afterPacket ∧ t.coll.ops = [u] ∧ u.lost = o.lost ++ [k.src] ∧ u.acks = o.acks ∧ t.codes = s.codes ++ [Sys2Proof.Machine.C.BCAST_MEMBER_LOST])) ∧
  (∀ (i n : Nat) (o : Sys2Proof.Machine.CollOp) (gr : Sys2Proof.Machine.Group) (s : Sys2Proof.Machine.State), s.coll.ops = [o] → s.group o.group = some gr → o.isBcast = true → o.started = true → o.res = true → o.fail = 0 →
    (o.kids gr)[i]? = some n → o.lost.contains n = false → o.acks.any (fun a => a.1 == n) = false → s.dataHeard o n = true →
    ∃ (t : Sys2Proof.Machine.State) (u : Sys2Proof.Machine.CollOp), Sys2Proof.Machine.exec (.bcastChildTimeout o.group o.gseq i) s = .next t ∧ o.heard.get n 0 + 1000 * gr.height * s.getF Sys2Proof.Machine.F.RE_CTRL_BCAST_WAIT_US ≤ t.clk.ns ∧ t.coll.ops = [u] ∧ u.lost = o.lost ++ [n] ∧ t.codes = s.codes ++ [Sys2Proof.Machine.C.BCAST_MEMBER_LOST] ∧ (∀ a, t.memByte a = s.memByte a))

/-- COLLECTIVE_COMPLETE leaves the state alike while the operation has something left to do, and changes nothing while an access it makes has to wait (R40). An operation that is done leaves its group, and its record completes: NIC_DONE counts it, or a failed one raises COLL_FAILED and keeps its code (R443, R459), shown whole for an operation other than a broadcast and a record that no TOT entry waits for. A double-bit error in a bulk slot fails the operation that holds it with COLL_FAILED; a slot that none holds is replaced by a spare, with RE_SLOT_SPARED, or is used no more (R578). With no scalar spare left, RE_SPARES_EXHAUSTED is raised once (R578). -/
def Obligations.CollectivesEnd : Prop :=
  (∀ (o : Sys2Proof.Machine.CollOp) (s : Sys2Proof.Machine.State), s.opAt o.group o.gseq = some o → s.opDone o = false → ∃ t : Sys2Proof.Machine.State, Sys2Proof.Machine.exec (.collectiveComplete o.group o.gseq) s = .next t ∧ t.alike s) ∧
  (∀ (g q : Nat) (s : Sys2Proof.Machine.State), ¬s.hasWay (Sys2Proof.Machine.doCollectiveComplete g q) → Sys2Proof.Machine.exec (.collectiveComplete g q) s = .next s) ∧
  (∀ (k : Fin 8) (o : Sys2Proof.Machine.CollOp) (r : Sys2Proof.Machine.NicRec) (s : Sys2Proof.Machine.State), s.hasWay (Sys2Proof.Machine.doCollectiveComplete o.group o.gseq) → o.group < 64 → s.opAt o.group o.gseq = some o → s.opDone o = true → o.isBcast = false → o.ctx = k → s.coll.recs.find? (fun r => r.num == o.num) = some r →
    r.ctx = k → r.tot = none → Sys2Proof.bit (Sys2Proof.fieldAt o.bytes 52 2) 15 = false → s.coll.held = [] →
    (o.fail = 0 → ∃ t, Sys2Proof.Machine.exec (.collectiveComplete o.group o.gseq) s = .next t ∧ t.coll.ops = s.coll.ops.filter (fun x => !(x.group == o.group && x.gseq == o.gseq)) ∧ t.codes = s.codes ∧
      t.getF (Sys2Proof.Machine.F.NIC_DONE_COUNT k) = (s.getF (Sys2Proof.Machine.F.NIC_DONE_COUNT k) + 1) % 2 ^ (Sys2Proof.Machine.F.NIC_DONE_COUNT k).width ∧ t.coll.recs = s.coll.recs.filter (fun x => x.num != o.num) ∧ (∀ a, t.memByte a = s.memByte a)) ∧
    (o.fail = Sys2Proof.Machine.C.COLL_FAILED → ∃ t, Sys2Proof.Machine.exec (.collectiveComplete o.group o.gseq) s = .next t ∧ t.coll.ops = s.coll.ops.filter (fun x => !(x.group == o.group && x.gseq == o.gseq)) ∧
      t.codes = s.codes ++ [Sys2Proof.Machine.C.COLL_FAILED] ∧ t.getF (Sys2Proof.Machine.F.NIC_STATUS_FAILED k) = 1 ∧ t.getF (Sys2Proof.Machine.F.NIC_STATUS_LAST_CODE k) = Sys2Proof.Machine.C.COLL_FAILED ∧ t.getF (Sys2Proof.Machine.F.NIC_DONE_COUNT k) = s.getF (Sys2Proof.Machine.F.NIC_DONE_COUNT k))) ∧
  (∀ (n : Nat) (o : Sys2Proof.Machine.CollOp) (s : Sys2Proof.Machine.State), s.coll.ops = [o] → o.chunks.any (fun c => c.slot == some n) = true → o.fail = 0 →
    ∃ t u, Sys2Proof.Machine.exec (.reSlotSpare true n) s = .next t ∧ t.coll.ops = [u] ∧ u.fail = Sys2Proof.Machine.C.COLL_FAILED ∧ u.chunks.all (fun c => c.slot.isNone) = true ∧ t.codes = s.codes ∧ t.coll.bulkBad.contains n = true) ∧
  (∀ (n : Nat) (s : Sys2Proof.Machine.State), s.coll.ops.find? (fun o => o.chunks.any (fun c => c.slot == some n)) = none →
    (s.coll.bulkSpares ≠ 0 → ∃ t, Sys2Proof.Machine.exec (.reSlotSpare true n) s = .next t ∧ t.coll.bulkSpares = s.coll.bulkSpares - 1 ∧ t.codes = s.codes ++ [Sys2Proof.Machine.C.RE_SLOT_SPARED] ∧ t.coll.bulkBad.contains n = false ∧ t.coll.ops = s.coll.ops) ∧
    (s.coll.bulkSpares = 0 → ∃ t, Sys2Proof.Machine.exec (.reSlotSpare true n) s = .next t ∧ t.coll.bulkBad.contains n = true ∧ t.codes = s.codes ∧ t.coll.ops = s.coll.ops)) ∧
  (∀ (n : Nat) (s : Sys2Proof.Machine.State), s.coll.scalarHeld.find? (fun x => x.2.2 == n) = none → s.coll.scalarSpares = 0 →
    (s.coll.scalarDead = true → Sys2Proof.Machine.exec (.reSlotSpare false n) s = .next s) ∧
    (s.coll.scalarDead = false → ∃ t, Sys2Proof.Machine.exec (.reSlotSpare false n) s = .next t ∧ t.coll.scalarDead = true ∧ t.codes = s.codes ++ [Sys2Proof.Machine.C.RE_SPARES_EXHAUSTED]))

/-- A SAVE is refused with CKPT_BUSY while BUSY or without a mirror (R482, R492), and one that is accepted clears the commit block of the slot that is not the newest, with BUSY and PHASE 1 (R483). A chunk goes out only while fewer than 16 are outstanding and the reads it makes have their way (R40); an OPEN is sent as its header to its ring slot at the buddy, and a DATA chunk's blocks are written to the own area as well (R479, R483). When DRAINED covers every chunk, CKPT_COMMIT writes the commit block and raises CKPT_COMMITTED; a failed CSM command ends the SAVE instead (R483, R486). ABANDON and a buddy that is lost, or that cannot be sent to (assumption 37), end a SAVE without a commit, and leave the CSM as it is (R484). CKPT_MIRROR and CKPT_RING are refused with CKPT_BUSY while BUSY (R497). None of these changes a byte of memory, but that RESULT 0 and BLOCK of an entry are written when its last blocks go out (R481). That a refusal is reported beside its answer, and with which LOCATION, is the model's reading (notes/assumptions/71.md). -/
def Obligations.CheckpointSaves : Prop :=
  (∀ (p : Fin 4) (s : Sys2Proof.Machine.State), s.getF (Sys2Proof.Machine.F.CKPT_STATUS_BUSY p) = 1 ∨ s.getF (Sys2Proof.Machine.F.CKPT_MIRROR_VALID p) = 0 → Sys2Proof.Machine.exec (.ckptSave p) s = .next (s.refused Sys2Proof.Machine.C.CKPT_BUSY 5 6 p)) ∧
  (∀ (p : Fin 4) (h : List Sys2Proof.Byte) (es : List (List Sys2Proof.Byte)) (s : Sys2Proof.Machine.State), s.Inv → s.ckSaveCode p = 0 → s.ckList p = some (h, es) →
    s.csmOk (s.ckSlotLb p (if s.newestSlot p 0 = some 0 then 1 else 0)) 1 = true →
    ∃ t, Sys2Proof.Machine.exec (.ckptSave p) s = .next t ∧ t.csmLb (s.ckSlotLb p (if s.newestSlot p 0 = some 0 then 1 else 0)) = Sys2Proof.Machine.zeroLb ∧
      (∀ b, b ≠ s.ckSlotLb p (if s.newestSlot p 0 = some 0 then 1 else 0) → t.csmLb b = s.csmLb b) ∧
      t.getF (Sys2Proof.Machine.F.CKPT_STATUS_BUSY p) = 1 ∧ t.getF (Sys2Proof.Machine.F.CKPT_STATUS_PHASE p) = 1 ∧ (t.ck p).op = 1 ∧ (t.ck p).entries = es ∧
      (t.ck p).seq = 1 + max ((s.slotSeq p 0).getD 0) ((s.slotSeq p 1).getD 0) ∧ (∀ a, t.memByte a = s.memByte a)) ∧
  (∀ (p : Fin 4) (x : Sys2Proof.Machine.CkChunk) (l : List Sys2Proof.Machine.CkChunk) (s : Sys2Proof.Machine.State), (s.ck p).op = 1 → (s.ck p).todo = x :: l → s.ckDrained p + 16 ≤ (s.ck p).sent →
    Sys2Proof.Machine.exec (.mirrorChunkSend p) s = .next s.noWait) ∧
  (∀ (p : Fin 4) (s : Sys2Proof.Machine.State), ¬s.hasWay (Sys2Proof.Machine.doMirrorChunkSend p) → Sys2Proof.Machine.exec (.mirrorChunkSend p) s = .next s) ∧
  (∀ (p : Fin 4) (x : Sys2Proof.Machine.CkChunk) (l : List Sys2Proof.Machine.CkChunk) (s : Sys2Proof.Machine.State), s.Inv → (s.ck p).op = 1 → (s.ck p).todo = x :: l → (s.ck p).sent < s.ckDrained p + 16 →
    s.unreachable p (s.getF (Sys2Proof.Machine.F.CKPT_MIRROR_BUDDY p)) = false → (s.region (s.getF (Sys2Proof.Machine.F.CKPT_RING_REGION p))).valid = true →
    (x.kind = 0 → ∃ t, Sys2Proof.Machine.exec (.mirrorChunkSend p) s = .next t ∧ (t.ck p).todo = l ∧ (t.ck p).sent = (s.ck p).sent + 1 ∧ t.getF (Sys2Proof.Machine.F.CKPT_STATUS_PHASE p) = 2 ∧ t.csm = s.csm ∧
      (∀ a, t.memByte a = s.memByte a) ∧ s.sends t p (s.getF (Sys2Proof.Machine.F.CKPT_MIRROR_BUDDY p)) 1
        (Sys2Proof.Machine.cutPackets 10 [(s.getF (Sys2Proof.Machine.F.CKPT_RING_ADDR p) + (s.ck p).sent % 16 * 67108864, Sys2Proof.Machine.chunkHead 0 (s.node p) (s.ck p).seq x.target 0)])) ∧
    (∀ (b : List Sys2Proof.Byte) (u : Sys2Proof.Machine.State), x.kind = 1 → s.hasWay (Sys2Proof.Machine.doMirrorChunkSend p) → (s.noWait.setF (Sys2Proof.Machine.F.CKPT_STATUS_ENTRY p) x.entry).recordPart ((s.ck p).entries.getD x.entry []) (x.target - (Sys2Proof.Machine.recordStarts (s.ck p).entries).getD x.entry 0) x.lbs = (0, b, u) →
      b.length = 4096 * x.lbs → s.csmOk (s.ckAreaLb p (s.ck p).slot + x.target) x.lbs = true →
      ∃ t, Sys2Proof.Machine.exec (.mirrorChunkSend p) s = .next t ∧ (t.ck p).todo = l ∧ (t.ck p).sent = (s.ck p).sent + 1 ∧ t.csmRead (s.ckAreaLb p (s.ck p).slot + x.target) x.lbs = b ∧
        (∀ k, k < s.ckAreaLb p (s.ck p).slot + x.target ∨ s.ckAreaLb p (s.ck p).slot + x.target + x.lbs ≤ k → t.csmLb k = s.csmLb k) ∧
        (l.any (fun y => y.kind == 1 && y.entry == x.entry) = true → ∀ a, t.memByte a = s.memByte a) ∧
        (∀ e : Nat, l.any (fun y => y.kind == 1 && y.entry == x.entry) = false → e = (s.ck p).list + 128 + 64 * x.entry → (∀ i < 48, s.tierOf (e + i) = some .t2) →
          t.readMem (e + 32) 2 = Sys2Proof.leBytes 2 0 ∧ t.readMem (e + 40) 8 = Sys2Proof.leBytes 8 Sys2Proof.Machine.noBlock ∧ (∀ a, a < e + 32 ∨ e + 48 ≤ a → t.memByte a = s.memByte a)))) ∧
  (∀ (p : Fin 4) (s : Sys2Proof.Machine.State), (s.ck p).op ≠ 1 ∨ (s.ck p).todo ≠ [] ∨ s.ckDrained p < (s.ck p).sent → Sys2Proof.Machine.exec (.ckptCommit p) s = .next s.noWait) ∧
  (∀ (p : Fin 4) (s : Sys2Proof.Machine.State), s.Inv → (s.ck p).op = 1 → (s.ck p).todo = [] → (s.ck p).sent ≤ s.ckDrained p →
    (s.csmOk (s.ckSlotLb p (s.ck p).slot) 1 = true → ∃ t, Sys2Proof.Machine.exec (.ckptCommit p) s = .next t ∧ t.csmLb (s.ckSlotLb p (s.ck p).slot) = Sys2Proof.Machine.commitBlock (s.ck p).seq (s.ck p).body ∧
      t.codes = s.codes ++ [Sys2Proof.Machine.C.CKPT_COMMITTED] ∧ (t.ck p).op = 0 ∧ t.getF (Sys2Proof.Machine.F.CKPT_STATUS_BUSY p) = 0 ∧ t.getF (Sys2Proof.Machine.F.CKPT_STATUS_DONE p) = 1 ∧ t.getF (Sys2Proof.Machine.F.CKPT_STATUS_CODE p) = 0 ∧
      (∀ b, b ≠ s.ckSlotLb p (s.ck p).slot → t.csmLb b = s.csmLb b) ∧ (∀ a, t.memByte a = s.memByte a)) ∧
    (s.csmOk (s.ckSlotLb p (s.ck p).slot) 1 = false → ∃ t, Sys2Proof.Machine.exec (.ckptCommit p) s = .next t ∧ t.csm = s.csm ∧ t.codes = s.codes ++ [Sys2Proof.Machine.C.CKPT_CSM_ERROR] ∧ (t.ck p).op = 0 ∧
      t.getF (Sys2Proof.Machine.F.CKPT_STATUS_CODE p) = Sys2Proof.Machine.C.CKPT_CSM_ERROR)) ∧
  (∀ x ∈ [((fun p => Sys2Proof.Instr.ckptAbandon p : Fin 4 → Sys2Proof.Instr), Sys2Proof.Machine.C.CKPT_ABANDONED), ((fun p => Sys2Proof.Instr.ckptBuddyLost p), Sys2Proof.Machine.C.CKPT_BUDDY_LOST)], ∀ (p : Fin 4) (s : Sys2Proof.Machine.State), s.Inv → (s.ck p).op = 1 →
    s.ckDrained p < (s.ck p).sent ∨ s.noBuddy p = true → ∃ t, Sys2Proof.Machine.exec (x.1 p) s = .next t ∧ t.csm = s.csm ∧ t.codes = s.codes ++ [x.2] ∧ (t.ck p).op = 0 ∧ (t.ck p).todo = [] ∧
      t.getF (Sys2Proof.Machine.F.CKPT_STATUS_BUSY p) = 0 ∧ t.getF (Sys2Proof.Machine.F.CKPT_STATUS_CODE p) = x.2 ∧ (∀ a, t.memByte a = s.memByte a)) ∧
  (∀ (p : Fin 4) (s : Sys2Proof.Machine.State), (s.ck p).op ≠ 1 → Sys2Proof.Machine.exec (.ckptAbandon p) s = .next (s.answer 0 0) ∧ Sys2Proof.Machine.exec (.ckptBuddyLost p) s = .next s) ∧
  (∀ (p : Fin 4) (s : Sys2Proof.Machine.State), (s.ck p).sent ≤ s.ckDrained p → s.noBuddy p = false → Sys2Proof.Machine.exec (.ckptBuddyLost p) s = .next s) ∧
  (∀ (p : Fin 4) (off : Nat) (v : Sys2Proof.Word) (s : Sys2Proof.Machine.State),
    (s.getF (Sys2Proof.Machine.F.CKPT_STATUS_BUSY p) = 1 → Sys2Proof.Machine.exec (.ckptMirrorWrite p off v) s = .next (s.refused Sys2Proof.Machine.C.CKPT_BUSY 5 6 p)) ∧
    (s.getF (Sys2Proof.Machine.F.CKPT_STATUS_BUSY p) ≠ 1 → off = 0x20 → ∃ t, Sys2Proof.Machine.exec (.ckptMirrorWrite p off v) s = .next t ∧ t.getF (Sys2Proof.Machine.F.CKPT_MIRROR_VALID p) = Sys2Proof.bits v.toNat 63 1 ∧
      t.getF (Sys2Proof.Machine.F.CKPT_MIRROR_BUDDY p) = Sys2Proof.bits v.toNat 32 28 ∧ t.getF (Sys2Proof.Machine.F.CKPT_MIRROR_ORIGIN p) = Sys2Proof.bits v.toNat 0 28 ∧ t.csm = s.csm ∧ (∀ a, t.memByte a = s.memByte a)) ∧
    (s.getF (Sys2Proof.Machine.F.CKPT_STATUS_BUSY p) ≠ 1 → off = 0x30 → ∃ t, Sys2Proof.Machine.exec (.ckptMirrorWrite p off v) s = .next t ∧ t.getF (Sys2Proof.Machine.F.CKPT_RING_REGION p) = Sys2Proof.bits v.toNat 52 12 ∧
      t.getF (Sys2Proof.Machine.F.CKPT_RING_ADDR p) = (if Sys2Proof.bits v.toNat 0 12 = 0 then Sys2Proof.bits v.toNat 0 52 else s.getF (Sys2Proof.Machine.F.CKPT_RING_ADDR p)) ∧ t.csm = s.csm ∧ (∀ a, t.memByte a = s.memByte a)))

/-- A chunk is taken only when one has arrived. One whose origin, SEQ, kind or extent is wrong is rejected: it is counted, its SEQ reported once, and the CSM is unchanged (R480). A DATA chunk's blocks are written to this partition's area, and 1 is added to the origin's DRAINED (R479). SCAN and RESTORE are refused while BUSY or with an invalid list (R488, R489); a SCAN of a ready CSM whose writes have their way (R40) leaves each slot's SEQ in its report and changes no byte outside the list's 4 MiB; a RESTORE of an entry whose slot holds no committed manifest leaves CKPT_SIGNATURE_INVALID in the entry (R489), and one whose blocks and digest agree writes its bytes as they were saved. The operation ends with DONE, its code, and a report of a code that is not 0 (R489). That a refusal is reported beside its answer, and with which LOCATION, is the model's reading (notes/assumptions/71.md). -/
def Obligations.MirrorScanRestore : Prop :=
  (∀ (p : Fin 4) (s : Sys2Proof.Machine.State), s.getF (Sys2Proof.Machine.F.CKPT_MIRROR_VALID p) = 0 ∨ s.ckArrived p ≤ (s.ck p).taken → Sys2Proof.Machine.exec (.mirrorChunkTake p) s = .next s) ∧
  (∀ (p : Fin 4) (h : List Sys2Proof.Byte) (s : Sys2Proof.Machine.State), s.Inv → s.getF (Sys2Proof.Machine.F.CKPT_MIRROR_VALID p) ≠ 0 → (s.ck p).taken < s.ckArrived p → h = s.readMem (s.getF (Sys2Proof.Machine.F.CKPT_RING_ADDR p) + (s.ck p).taken % 16 * 67108864) 4096 →
    (s.chunkBad p h = true → ∃ t, Sys2Proof.Machine.exec (.mirrorChunkTake p) s = .next t ∧ t.csm = s.csm ∧ (t.ck p).taken = (s.ck p).taken + 1 ∧ (∀ a, t.memByte a = s.memByte a) ∧ t.fab = s.fab ∧
      t.codes = s.codes ++ (if (s.ck p).refused.contains (Sys2Proof.fieldAt h 8 8) then [] else [Sys2Proof.Machine.C.CKPT_MIRROR_REFUSED])) ∧
    (s.chunkBad p h = false → Sys2Proof.fieldAt h 0 1 = 1 → s.csmOk (s.ckAreaLb p (s.ck p).mslot + Sys2Proof.fieldAt h 16 8) (Sys2Proof.fieldAt h 24 4) = true →
      s.unreachable p (s.getF (Sys2Proof.Machine.F.CKPT_MIRROR_ORIGIN p)) = false → (s.region (s.getF (Sys2Proof.Machine.F.CKPT_RING_REGION p))).valid = true →
      ∃ t, Sys2Proof.Machine.exec (.mirrorChunkTake p) s = .next t ∧ (t.ck p).taken = (s.ck p).taken + 1 ∧ (∀ a, t.memByte a = s.memByte a) ∧ t.codes = s.codes ∧
        t.csmRead (s.ckAreaLb p (s.ck p).mslot + Sys2Proof.fieldAt h 16 8) (Sys2Proof.fieldAt h 24 4) = s.readMem (s.getF (Sys2Proof.Machine.F.CKPT_RING_ADDR p) + (s.ck p).taken % 16 * 67108864 + 4096) (4096 * Sys2Proof.fieldAt h 24 4) ∧
        s.sends t p (s.getF (Sys2Proof.Machine.F.CKPT_MIRROR_ORIGIN p)) 6 [(s.getF (Sys2Proof.Machine.F.CKPT_RING_ADDR p) + 1073741832, Sys2Proof.leBytes 8 1)])) ∧
  (∀ (p : Fin 4) (s : Sys2Proof.Machine.State), s.getF (Sys2Proof.Machine.F.CKPT_STATUS_BUSY p) = 1 → Sys2Proof.Machine.exec (.ckptScan p) s = .next (s.noWait.refused Sys2Proof.Machine.C.CKPT_BUSY 5 6 p) ∧ Sys2Proof.Machine.exec (.ckptRestore p) s = .next (s.refused Sys2Proof.Machine.C.CKPT_BUSY 5 6 p)) ∧
  (∀ (p : Fin 4) (s : Sys2Proof.Machine.State), s.getF (Sys2Proof.Machine.F.CKPT_STATUS_BUSY p) ≠ 1 → (s.ckList p = none → Sys2Proof.Machine.exec (.ckptRestore p) s = .next (s.refused Sys2Proof.Machine.C.CKPT_LIST_INVALID 5 6 p)) ∧
    (s.getF (Sys2Proof.Machine.F.CKPT_LIST_ADDR p) % 4096 ≠ 0 → Sys2Proof.Machine.exec (.ckptScan p) s = .next (s.noWait.refused Sys2Proof.Machine.C.CKPT_LIST_INVALID 5 6 p))) ∧
  (∀ (p : Fin 4) (s : Sys2Proof.Machine.State), ¬s.hasWay (Sys2Proof.Machine.doCkptScan p) → Sys2Proof.Machine.exec (.ckptScan p) s = .next s) ∧
  (∀ (p : Fin 4) (a : Nat) (s : Sys2Proof.Machine.State), s.Inv → s.hasWay (Sys2Proof.Machine.doCkptScan p) → s.getF (Sys2Proof.Machine.F.CKPT_STATUS_BUSY p) ≠ 1 → s.getF (Sys2Proof.Machine.F.CKPT_LIST_ADDR p) = a → a % 4096 = 0 → s.inPart p a 4194304 = true → s.csmOk (s.ckSlotLb p 0) 1024 = true →
    (∀ i < 4194304, s.tierOf (a + i) = some .t2) →
    ∃ t, Sys2Proof.Machine.exec (.ckptScan p) s = .next t ∧ t.csm = s.csm ∧ (t.ck p).op = 2 ∧ t.getF (Sys2Proof.Machine.F.CKPT_STATUS_BUSY p) = 1 ∧ t.getF (Sys2Proof.Machine.F.CKPT_STATUS_PHASE p) = 6 ∧
      (∀ x, x < a ∨ a + 4194304 ≤ x → t.memByte x = s.memByte x) ∧ (∀ i < 4, t.readMem (a + i * 0x100000) 8 = Sys2Proof.leBytes 8 (Sys2Proof.fieldAt (s.csmLb (s.ckSlotLb p i)) 0 8))) ∧
  (∀ (p : Fin 4) (a i : Nat) (h e : List Sys2Proof.Byte) (s : Sys2Proof.Machine.State), s.Inv → s.getF (Sys2Proof.Machine.F.CKPT_STATUS_BUSY p) ≠ 1 → s.getF (Sys2Proof.Machine.F.CKPT_LIST_ADDR p) = a → s.ckList p = some (h, [e]) → Sys2Proof.Machine.ckRestoreOk e = true →
    i = 2 * Sys2Proof.bits (Sys2Proof.fieldAt e 4 1) 1 1 + Sys2Proof.bits (Sys2Proof.fieldAt e 4 1) 2 1 → s.slotSeq p i = none → (∀ i < 192, s.tierOf (a + i) = some .t2) →
    ∃ t, Sys2Proof.Machine.exec (.ckptRestore p) s = .next t ∧ t.csm = s.csm ∧ (t.ck p).op = 3 ∧ (t.ck p).result = Sys2Proof.Machine.C.CKPT_RESTORE_PARTIAL ∧ t.readMem (a + 160) 2 = Sys2Proof.leBytes 2 Sys2Proof.Machine.C.CKPT_SIGNATURE_INVALID ∧
      t.readMem (a + 168) 8 = Sys2Proof.leBytes 8 Sys2Proof.Machine.noBlock ∧ (∀ x, x < a + 160 ∨ a + 176 ≤ x → t.memByte x = s.memByte x)) ∧
  (∀ (p i bytes : Nat) (h e m b d : List Sys2Proof.Byte) (s u v : Sys2Proof.Machine.State), s.slotValid p (2 * Sys2Proof.bits (Sys2Proof.fieldAt e 4 1) 1 1 + Sys2Proof.bits (Sys2Proof.fieldAt e 4 1) 2 1) = (true, u) →
    b = u.slotBody p (2 * Sys2Proof.bits (Sys2Proof.fieldAt e 4 1) 1 1 + Sys2Proof.bits (Sys2Proof.fieldAt e 4 1) 2 1) → ((List.range (Sys2Proof.fieldAt b 4 4)).map (fun k => Sys2Proof.slice b (128 + 128 * k) 128)).find? (fun m => Sys2Proof.fieldAt m 0 4 == Sys2Proof.fieldAt e 0 4) = some m →
    Sys2Proof.slice b 16 8 = Sys2Proof.slice h 8 8 → Sys2Proof.slice b 64 64 = Sys2Proof.slice h 64 64 → bytes = Sys2Proof.fieldAt m 16 8 →
    u.csmOk (u.ckAreaLb p (2 * Sys2Proof.bits (Sys2Proof.fieldAt e 4 1) 1 1 + Sys2Proof.bits (Sys2Proof.fieldAt e 4 1) 2 1) + Sys2Proof.fieldAt m 8 8) (Sys2Proof.Machine.recordLbs bytes) = true →
    d = (u.csmRead (u.ckAreaLb p (2 * Sys2Proof.bits (Sys2Proof.fieldAt e 4 1) 1 1 + Sys2Proof.bits (Sys2Proof.fieldAt e 4 1) 2 1) + Sys2Proof.fieldAt m 8 8) (Sys2Proof.cdiv bytes 4096)).take bytes →
    (∀ k < (Sys2Proof.Machine.chunksOf 1048576 (Sys2Proof.cdiv bytes 1048576) d).length, Sys2Proof.Machine.crcOf 2 ((Sys2Proof.Machine.chunksOf 1048576 (Sys2Proof.cdiv bytes 1048576) d).getD k []) =
      Sys2Proof.fieldAt (u.csmRead (u.ckAreaLb p (2 * Sys2Proof.bits (Sys2Proof.fieldAt e 4 1) 1 1 + Sys2Proof.bits (Sys2Proof.fieldAt e 4 1) 2 1) + Sys2Proof.fieldAt m 24 8) (Sys2Proof.Machine.tableLbs bytes)) (8 * k) 8) →
    Sys2Proof.Machine.sha3_512 d = Sys2Proof.slice m 32 64 → ((u.count 5 401 (4096 * Sys2Proof.Machine.recordLbs bytes)).ckFeed p 0 d).ckDeliver p i (Sys2Proof.fieldAt e 24 4) (Sys2Proof.fieldAt e 28 2) (Sys2Proof.fieldAt e 8 8) d = (0, v) →
    s.ckRestoreOne p i h e = (0, Sys2Proof.Machine.noBlock, v)) ∧
  (∀ (p : Fin 4) (s : Sys2Proof.Machine.State), (s.ck p).op ≠ 2 ∧ (s.ck p).op ≠ 3 → Sys2Proof.Machine.exec (.ckptOpDone p) s = .next s.noWait) ∧
  (∀ (p : Fin 4) (s : Sys2Proof.Machine.State), s.Inv → ((s.ck p).op = 2 ∨ (s.ck p).op = 3) → s.fab.txs = [] → (s.ck p).result < 65536 →
    ∃ t, Sys2Proof.Machine.exec (.ckptOpDone p) s = .next t ∧ (t.ck p).op = 0 ∧ t.getF (Sys2Proof.Machine.F.CKPT_STATUS_CODE p) = (s.ck p).result ∧ t.getF (Sys2Proof.Machine.F.CKPT_STATUS_DONE p) = 1 ∧ t.getF (Sys2Proof.Machine.F.CKPT_STATUS_BUSY p) = 0 ∧
      t.codes = s.codes ++ (if (s.ck p).result = 0 then [] else [(s.ck p).result]) ∧ t.csm = s.csm ∧ (∀ a, t.memByte a = s.memByte a))

/-- An ARM for a step already past answers CS_STEP_PAST; any other arms the sheet and clears VALID (R503). CS_NOW, with every frame at rest, copies each counter that CS_MASK selects and no other, and sets VALID; else it answers CS_STEP_PAST (R505, R506). TB_MEASURE needs a locked rate, else TB_NOT_LOCKED, and sends 16 probes to the root; an unanswered probe is sent again and after the third ends the measurement with TB_PROBE_TIMEOUT; 16 answered ones give the 8th smallest offset and as SPREAD the 12th less the 4th (R508, R509). An ARM of an exposure with a bad configuration answers EXP_CONFIG_INVALID, a good one arms FRAMES frames, STOP ends it, and in a running frame both wait for its close (R39, R510, R511). A code that refuses is an event too (R516); its DIE, UNIT and LOCATION are the model's choice (notes/assumptions/71.md). -/
def Obligations.SheetsMeasurementsExposures : Prop :=
  (∀ (v : Sys2Proof.Word) (s : Sys2Proof.Machine.State), Sys2Proof.bit v.toNat 63 = true →
    (Sys2Proof.bit v.toNat 61 = false → ((Sys2Proof.bits v.toNat 0 32 + 2 ^ 32 - s.getF (Sys2Proof.Machine.F.GST_STEP_STEP 0)) % 2 ^ 32 = 0 ∨ 2 ^ 31 ≤ (Sys2Proof.bits v.toNat 0 32 + 2 ^ 32 - s.getF (Sys2Proof.Machine.F.GST_STEP_STEP 0)) % 2 ^ 32) →
      ∃ t, Sys2Proof.Machine.exec (.csArm v) s = .next t ∧ t.out.code = Sys2Proof.Machine.C.CS_STEP_PAST ∧ t.codes = s.codes ++ [Sys2Proof.Machine.C.CS_STEP_PAST] ∧ t.csArm = s.csArm ∧ t.getF Sys2Proof.Machine.F.CS_STATUS_VALID = s.getF Sys2Proof.Machine.F.CS_STATUS_VALID) ∧
    ((Sys2Proof.bit v.toNat 61 = true ∨ (0 < (Sys2Proof.bits v.toNat 0 32 + 2 ^ 32 - s.getF (Sys2Proof.Machine.F.GST_STEP_STEP 0)) % 2 ^ 32 ∧ (Sys2Proof.bits v.toNat 0 32 + 2 ^ 32 - s.getF (Sys2Proof.Machine.F.GST_STEP_STEP 0)) % 2 ^ 32 < 2 ^ 31)) →
      ∃ t, Sys2Proof.Machine.exec (.csArm v) s = .next t ∧ t.out.code = 0 ∧ t.csArm = some (if Sys2Proof.bit v.toNat 61 = true then none else some (Sys2Proof.bits v.toNat 0 32)) ∧
        t.getF Sys2Proof.Machine.F.CS_STATUS_VALID = 0 ∧ t.getF Sys2Proof.Machine.F.CS_STATUS_ARMED = 1)) ∧
  (∀ s : Sys2Proof.Machine.State, (s.allAtRest = false → Sys2Proof.Machine.exec .csNow s = .next (s.refused Sys2Proof.Machine.C.CS_STEP_PAST 5 0 0)) ∧
    (s.allAtRest = true → ∃ t, Sys2Proof.Machine.exec .csNow s = .next t ∧ t.getF Sys2Proof.Machine.F.CS_STATUS_VALID = 1 ∧ t.getF Sys2Proof.Machine.F.CS_STATUS_STEP = s.getF (Sys2Proof.Machine.F.GST_STEP_STEP 0) % 2 ^ (Sys2Proof.Machine.F.CS_STATUS_STEP).width ∧ (∀ a, t.memByte a = s.memByte a) ∧
      ∀ (e : Fin 6), ∀ i < Sys2Proof.Machine.counterCount e, t.getF (Sys2Proof.Machine.F.SHEET_VALUE e i) = if Sys2Proof.bit (s.getF (Sys2Proof.Machine.F.CS_MASK_SEL e (i / 64))) (i % 64) = true then s.getF (Sys2Proof.Machine.F.CNT_COUNT e i) % 2 ^ (Sys2Proof.Machine.F.SHEET_VALUE e i).width else s.getF (Sys2Proof.Machine.F.SHEET_VALUE e i))) ∧
  (∀ s : Sys2Proof.Machine.State, (s.getF (Sys2Proof.Machine.F.GST_DISC_LOCKED 0) = 0 → Sys2Proof.Machine.exec .tbMeasure s = .next (s.refused Sys2Proof.Machine.C.TB_NOT_LOCKED 5 0 0)) ∧
    (s.getF (Sys2Proof.Machine.F.GST_DISC_LOCKED 0) ≠ 0 → s.getF Sys2Proof.Machine.F.TB_STATUS_BUSY = 1 → Sys2Proof.Machine.exec .tbMeasure s = .next (s.answer 0 0)) ∧
    (s.getF (Sys2Proof.Machine.F.GST_DISC_LOCKED 0) ≠ 0 → s.getF Sys2Proof.Machine.F.TB_STATUS_BUSY ≠ 1 → ∃ t, Sys2Proof.Machine.exec .tbMeasure s = .next t ∧ t.out.code = 0 ∧ t.getF Sys2Proof.Machine.F.TB_STATUS_BUSY = 1 ∧ t.tbTries = List.replicate 16 1 ∧ t.codes = s.codes ∧
      (s.isRoot = false → ∀ i < 16, t.onItsWay (s.getF (Sys2Proof.Machine.F.GST_ROOTS_ROOT 0)) 0x20 i [] = true))) ∧
  (∀ (i n : Nat) (s : Sys2Proof.Machine.State), s.tbTries[i]? = some n →
    (n < 3 → ∃ t, Sys2Proof.Machine.exec (.tbProbeTimeout i) s = .next t ∧ t.tbTries = s.tbTries.set i (n + 1) ∧ t.onItsWay (s.getF (Sys2Proof.Machine.F.GST_ROOTS_ROOT 0)) 0x20 i [] = true ∧ t.codes = s.codes) ∧
    (3 ≤ n → ∃ t, Sys2Proof.Machine.exec (.tbProbeTimeout i) s = .next t ∧ t.tbTries = [] ∧ t.getF Sys2Proof.Machine.F.TB_STATUS_BUSY = 0 ∧ t.getF Sys2Proof.Machine.F.TB_STATUS_DONE = 1 ∧ t.getF Sys2Proof.Machine.F.TB_STATUS_CODE = Sys2Proof.Machine.C.TB_PROBE_TIMEOUT ∧ t.codes = s.codes ++ [Sys2Proof.Machine.C.TB_PROBE_TIMEOUT])) ∧
  (∀ (i : Nat) (s : Sys2Proof.Machine.State), s.tbTries = [] → Sys2Proof.Machine.exec (.tbProbeTimeout i) s = .next s) ∧
  (∀ (l : List (Int × Int × Int × Int)) (s : Sys2Proof.Machine.State), s.tbTries ≠ [] → s.isRoot = false → l.length = 16 → ∃ t o, Sys2Proof.Machine.exec (.tbMeasureDone l) s = .next t ∧
    List.Perm o (l.map Sys2Proof.Machine.probeOffset) ∧ o.Pairwise (fun a b => a ≤ b) ∧ t.getF Sys2Proof.Machine.F.TB_OFFSET_OFFSET_NS = Sys2Proof.unsint 64 (o.getD 7 0) % 2 ^ 64 ∧
    t.getF Sys2Proof.Machine.F.TB_STATUS_SPREAD = (o.getD 11 0 - o.getD 3 0).toNat % 2 ^ (Sys2Proof.Machine.F.TB_STATUS_SPREAD).width ∧ t.getF Sys2Proof.Machine.F.TB_STATUS_BUSY = 0 ∧ t.getF Sys2Proof.Machine.F.TB_STATUS_CODE = 0 ∧ t.tbTries = []) ∧
  (∀ (l : List (Int × Int × Int × Int)) (s : Sys2Proof.Machine.State), s.tbTries ≠ [] → s.isRoot = true → ∃ t, Sys2Proof.Machine.exec (.tbMeasureDone l) s = .next t ∧ t.getF Sys2Proof.Machine.F.TB_OFFSET_OFFSET_NS = 0 ∧ t.getF Sys2Proof.Machine.F.TB_STATUS_BUSY = 0) ∧
  (∀ (n : Fin 4) (v : Sys2Proof.Word) (s : Sys2Proof.Machine.State), s.inFrame (s.partOf n) = true → ∃ t, Sys2Proof.Machine.exec (.expArm n v) s = .next t ∧ (∀ f, t.getF f = s.getF f) ∧ t.out.code = 0 ∧
    t.defer = s.defer ++ [(s.partOf n, (Sys2Proof.Machine.F.EXP_CTRL_ARM n).key / 64, v.toNat)] ∧ (t.die n).expo = (s.die n).expo) ∧
  (∀ (n : Fin 4) (v : Sys2Proof.Word) (s : Sys2Proof.Machine.State), s.inFrame (s.partOf n) = false → Sys2Proof.bit v.toNat 62 = false → Sys2Proof.bit v.toNat 63 = true →
    (s.expoOk n = false → ∃ t, Sys2Proof.Machine.exec (.expArm n v) s = .next t ∧ t.out.code = Sys2Proof.Machine.C.EXP_CONFIG_INVALID ∧ t.codes = s.codes ++ [Sys2Proof.Machine.C.EXP_CONFIG_INVALID] ∧ (t.die n).expo = (s.die n).expo ∧ t.getF (Sys2Proof.Machine.F.EXP_STATUS_ARMED n) = s.getF (Sys2Proof.Machine.F.EXP_STATUS_ARMED n)) ∧
    (s.expoOk n = true → ∃ t, Sys2Proof.Machine.exec (.expArm n v) s = .next t ∧ t.out.code = 0 ∧ (t.die n).expo.left = Sys2Proof.bits v.toNat 0 8 ∧ ((t.die n).expo.unlimited = true ↔ Sys2Proof.bits v.toNat 0 8 = 0) ∧
      t.getF (Sys2Proof.Machine.F.EXP_STATUS_ARMED n) = 1 ∧ t.getF (Sys2Proof.Machine.F.EXP_STATUS_WRITTEN n) = 0)) ∧
  (∀ (n : Fin 4) (s : Sys2Proof.Machine.State), s.inFrame (s.partOf n) = false → s.getF (Sys2Proof.Machine.F.EXP_CTRL_FRAMES n) < 256 → ∃ t, Sys2Proof.Machine.exec (.expStop n) s = .next t ∧ (t.die n).expo.left = 0 ∧ (t.die n).expo.unlimited = false ∧ t.getF (Sys2Proof.Machine.F.EXP_STATUS_ARMED n) = 0 ∧
    t.getF (Sys2Proof.Machine.F.EXP_CTRL_FRAMES n) = s.getF (Sys2Proof.Machine.F.EXP_CTRL_FRAMES n) ∧ (∀ a, t.memByte a = s.memByte a)) ∧
  (∀ (n : Fin 4) (s : Sys2Proof.Machine.State), s.inFrame (s.partOf n) = true → ∃ t, Sys2Proof.Machine.exec (.expStop n) s = .next t ∧ (∀ f, t.getF f = s.getF f) ∧ (t.die n).expo = (s.die n).expo)

/-- The next report leaves the waiting list; one identical to a queued report is merged into it, the first of an unseen class or one of at most 256 others is queued at the end, and any other is counted lost for its class (R520 to R522). The report recorded next becomes the entry at TAIL, TAIL advances and its class is SEEN (R520); nothing is recorded while no queued report may take the room (R521). An entry whose class JNL_ALERT.MASK selects posts one alert to each Teller its die concerns whose ring has room (R524, R564). JNL_HEAD never passes TAIL nor goes back (R523), and CLEAR_SEEN clears every class (R521). -/
def Obligations.JournalRecordsReports : Prop :=
  (∀ s : Sys2Proof.Machine.State, s.reports = [] → Sys2Proof.Machine.exec .journalReport s = .next s) ∧
  (∀ (r : Sys2Proof.Machine.Report) (s : Sys2Proof.Machine.State), s.nextReport = some r →
    (s.jqueue.any (fun x => x.same r) = true → ∃ t, Sys2Proof.Machine.exec .journalReport s = .next t ∧ t.reports = s.reports.erase r ∧ t.fld = s.fld ∧
      t.jqueue = s.jqueue.map (fun x => if x.same r = true then { x with count := Sys2Proof.satAdd 32 x.count 1, value := Sys2Proof.satAdd 32 x.value r.value, lastNs := r.ns } else x)) ∧
    (s.jqueue.any (fun x => x.same r) = false → ((s.classSeen r.cls = false ∧ s.jqueue.any (fun x => x.cls == r.cls) = false) ∨ s.ordinary < 256) →
      ∃ t, Sys2Proof.Machine.exec .journalReport s = .next t ∧ t.reports = s.reports.erase r ∧ t.jqueue = s.jqueue ++ [r] ∧ t.fld = s.fld) ∧
    (r.cls < 8 → s.jqueue.any (fun x => x.same r) = false → (s.classSeen r.cls = true ∨ s.jqueue.any (fun x => x.cls == r.cls) = true) → 256 ≤ s.ordinary →
      ∃ t, Sys2Proof.Machine.exec .journalReport s = .next t ∧ t.reports = s.reports.erase r ∧ t.jqueue = s.jqueue ∧
        t.getF (Sys2Proof.Machine.F.JNL_LOST_LOST (r.cls / 2) (r.cls % 2)) = Sys2Proof.satAdd (Sys2Proof.Machine.F.JNL_LOST_LOST (r.cls / 2) (r.cls % 2)).width (s.getF (Sys2Proof.Machine.F.JNL_LOST_LOST (r.cls / 2) (r.cls % 2))) 1)) ∧
  (∀ s : Sys2Proof.Machine.State, s.nextRecord = none → Sys2Proof.Machine.exec .journalRecord s = .next s) ∧
  (∀ s : Sys2Proof.Machine.State, s.jnlRoom = false → (∀ i, s.isReserved i = false) → s.nextRecord = none) ∧
  (∀ (i : Nat) (r : Sys2Proof.Machine.Report) (s : Sys2Proof.Machine.State), s.nextRecord = some i → s.jqueue[i]? = some r → r.cls < 8 →
    ∃ t, Sys2Proof.Machine.exec .journalRecord s = .next t ∧ t.jqueue = s.jqueue.eraseIdx i ∧ t.journal.find? (fun x => x.1 == s.getF Sys2Proof.Machine.F.JNL_TAIL_TAIL % 4096) = some (s.getF Sys2Proof.Machine.F.JNL_TAIL_TAIL % 4096, r.entry) ∧
      t.getF Sys2Proof.Machine.F.JNL_TAIL_TAIL = (s.getF Sys2Proof.Machine.F.JNL_TAIL_TAIL + 1) % 2 ^ (Sys2Proof.Machine.F.JNL_TAIL_TAIL).width ∧ t.classSeen r.cls = true ∧ (∀ c < 8, c ≠ r.cls → t.classSeen c = s.classSeen c) ∧
      (∀ k, k ≠ s.getF Sys2Proof.Machine.F.JNL_TAIL_TAIL % 4096 → t.jnlBytes k = s.jnlBytes k)) ∧
  (∀ (i : Nat) (x : Nat) (e : Sys2Proof.Machine.JEntry) (s : Sys2Proof.Machine.State), s.journal.find? (fun x => x.1 == i % 4096) = some (x, e) →
    ((e.posted = true ∨ Sys2Proof.bit (s.getF Sys2Proof.Machine.F.JNL_ALERT_MASK) e.cls = false) → Sys2Proof.Machine.exec (.journalAlert i) s = .next s) ∧
    (e.posted = false → Sys2Proof.bit (s.getF Sys2Proof.Machine.F.JNL_ALERT_MASK) e.cls = true → ∃ t, Sys2Proof.Machine.exec (.journalAlert i) s = .next t ∧ (∀ a, t.memByte a = s.memByte a) ∧ ∀ p : Fin 4,
      t.getF (Sys2Proof.Machine.F.ALERT_POS_TAIL p) = if s.hasPart p = true ∧ (Sys2Proof.bits e.w0 56 3 = 5 ∨ Sys2Proof.bits e.w0 56 3 = 6 ∨ s.partOfUnit (Sys2Proof.bits e.w0 56 3) = p.val) ∧ (s.getF (Sys2Proof.Machine.F.ALERT_POS_TAIL p) + 1) % 256 ≠ s.getF (Sys2Proof.Machine.F.ALERT_POS_HEAD p)
        then (s.getF (Sys2Proof.Machine.F.ALERT_POS_TAIL p) + 1) % 2 ^ (Sys2Proof.Machine.F.ALERT_POS_TAIL p).width else s.getF (Sys2Proof.Machine.F.ALERT_POS_TAIL p))) ∧
  (∀ (v : Sys2Proof.Word) (s : Sys2Proof.Machine.State), ∃ t, Sys2Proof.Machine.exec (.jnlHeadWrite v) s = .next t ∧ t.out.code = 0 ∧ t.journal = s.journal ∧
    t.getF Sys2Proof.Machine.F.JNL_HEAD_HEAD = if (v.toNat % 2 ^ 32 + 2 ^ 32 - s.getF Sys2Proof.Machine.F.JNL_HEAD_HEAD) % 2 ^ 32 ≤ (s.getF Sys2Proof.Machine.F.JNL_TAIL_TAIL + 2 ^ 32 - s.getF Sys2Proof.Machine.F.JNL_HEAD_HEAD) % 2 ^ 32 then v.toNat % 2 ^ 32 else s.getF Sys2Proof.Machine.F.JNL_HEAD_HEAD) ∧
  (∀ s : Sys2Proof.Machine.State, ∃ t, Sys2Proof.Machine.exec .jnlClearSeen s = .next t ∧ (∀ c, t.classSeen c = false) ∧ t.journal = s.journal ∧ t.jqueue = s.jqueue)

/-- A fall of PWROK ends a start in progress, drops the pins and resets the package (R604, R605); a fall of SBYOK does the same and loses the always-on state; SBYOK's rise samples the straps (R602). A package reset keeps the part, the CSM and the test port, and leaves no session, no ticket, no waiting report, MODE 0 and the registers named here at 0 (R605). PWROK's rise runs a start when SBYOK is high, and a failed start is run again after a reset (R535, R603). In a start, three failed attempts lead to Darkroom mode (R536, R539); else the first check that fails names the reason, then the service section, the self-test and a stall; otherwise MODE is RUNNING and the owner key is burnt (R534, R537). Stage 7 not reached in 30 s fails the start with BOOT_TIMEOUT (R535). -/
def Obligations.PowerAndReset : Prop :=
  (∀ (s : Sys2Proof.Machine.State), (s.boot.pwrok = false → Sys2Proof.Machine.exec .pwrokFall s = .next s) ∧
    (s.boot.pwrok = true → ∃ t, Sys2Proof.Machine.exec .pwrokFall s = .next t ∧ t.boot.pwrok = false ∧ t.boot.pinsLow = true ∧ t.boot.starting = false ∧ t.boot.cut = (s.boot.cut || s.boot.starting) ∧ t.boot.sbyok = s.boot.sbyok ∧
      t.getF Sys2Proof.Machine.F.BOOT_STATUS_MODE = 0 ∧ t.csm = s.csm ∧ t.fused = s.fused)) ∧
  (∀ (s : Sys2Proof.Machine.State), ∃ t, Sys2Proof.Machine.exec .sbyokFall s = .next t ∧ t.boot.pwrok = false ∧ t.boot.sbyok = false ∧ t.boot.pinsLow = true ∧ t.svc.aon = none ∧ t.getF Sys2Proof.Machine.F.BOOT_STATUS_MODE = 0 ∧ t.csm = s.csm ∧ t.fused = s.fused) ∧
  (∀ (x : Nat) (s : Sys2Proof.Machine.State), (s.boot.sbyok = true → Sys2Proof.Machine.exec (.sbyokRise x) s = .next s) ∧
    (s.boot.sbyok = false → Sys2Proof.Machine.exec (.sbyokRise x) s = .next { s with boot := { s.boot with sbyok := true, straps := x % 8 } })) ∧
  (∀ (s : Sys2Proof.Machine.State), ∃ t, Sys2Proof.Machine.exec .packageReset s = .next t ∧ t.csm = s.csm ∧ t.fused = s.fused ∧ t.tap = s.tap ∧ t.pending = s.pending ∧ t.cores = Sys2Proof.Machine.State.reset.cores ∧ t.ckpt = Sys2Proof.Machine.State.reset.ckpt ∧
    t.boot.sessions = [] ∧ t.boot.tickets = [] ∧ t.reports = [] ∧ t.jqueue = [] ∧ t.fab.txs = [] ∧ t.coll.ops = [] ∧ t.frameState 0 = Sys2Proof.Machine.stIdle ∧
    (∀ f ∈ [Sys2Proof.Machine.F.BOOT_STATUS_MODE, Sys2Proof.Machine.F.JNL_TAIL_TAIL, Sys2Proof.Machine.F.JNL_HEAD_HEAD, Sys2Proof.Machine.F.GST_STEP_STEP 0, Sys2Proof.Machine.F.NIC_CTRL_ENABLE 0, Sys2Proof.Machine.F.FAB_CTRL_ENABLE, Sys2Proof.Machine.F.CS_STATUS_VALID, Sys2Proof.Machine.F.CKPT_STATUS_BUSY 0], t.getF f = 0) ∧
    ((∀ k ∈ s.boot.tickets, k.state ≠ 0) → t.nvm = s.nvm) ∧ (s.boot.sbyok = true → t.svc.aon.isSome = true)) ∧
  (∀ (env : Sys2Proof.StartEnv) (s : Sys2Proof.Machine.State),
    (s.boot.sbyok = false → Sys2Proof.Machine.exec (.pwrokRise env) s = .next s) ∧
    (s.boot.sbyok = true → (s.boot.pwrok = false ∨ (s.boot.starting = true ∧ s.boot.stalled = false)) → Sys2Proof.Machine.exec (.pwrokRise env) s = .next (({ s with boot := { s.boot with pwrok := true } } : Sys2Proof.Machine.State).runStart env)) ∧
    (s.boot.failed ≠ 0 → s.boot.pwrok = true → Sys2Proof.Machine.exec (.internalRestart env) s = .next (s.resetPackage.runStart env)) ∧
    (s.boot.failed = 0 ∨ s.boot.pwrok = false → Sys2Proof.Machine.exec (.internalRestart env) s = .next s)) ∧
  (∀ (env : Sys2Proof.StartEnv) (s : Sys2Proof.Machine.State), 3 ≤ s.attempts.1 → (s.runStart env).getF Sys2Proof.Machine.F.BOOT_STATUS_MODE = 2 ∧ (s.runStart env).boot.starting = false ∧ (s.runStart env).boot.ibiDark = s.boot.ibiDark + 1 ∧ (s.runStart env).cfg = s.cfg) ∧
  (∀ (env : Sys2Proof.StartEnv) (code : Nat) (s w u : Sys2Proof.Machine.State), s.attempts.1 < 3 →
    w = ({ s with boot := { s.boot with starting := true, failed := 0, cut := false } } : Sys2Proof.Machine.State).writeCounter (s.attempts.1 + 1) (if s.boot.cut then Sys2Proof.Machine.C.BOOT_RESET_IN_START else s.attempts.2) →
    w.checkImage (w.nvmRead Sys2Proof.Machine.nvmDir 4096) (fun n => w.nvmRead Sys2Proof.Machine.nvmConfig n) (fun n => w.nvmRead Sys2Proof.Machine.nvmFirmware n) = (code, u) →
    if code ≠ 0 then (s.runStart env).boot.failed = code ∧ (s.runStart env).boot.starting = false
    else match u.checkService.1 with
      | none => (s.runStart env).boot.failed = Sys2Proof.Machine.C.BOOT_SERVICE_INVALID
      | some _ => if env.fails = true then (s.runStart env).boot.failed = Sys2Proof.Machine.C.BOOT_SELFTEST
        else if env.stalls = true then (s.runStart env).boot.stalled = true
        else (s.runStart env).getF Sys2Proof.Machine.F.BOOT_STATUS_MODE = 1 ∧ (s.runStart env).getF Sys2Proof.Machine.F.BOOT_STATUS_OWNED = 1 ∧ (s.runStart env).fused.owner.isSome = true ∧ (s.runStart env).boot.starting = false ∧ (s.runStart env).boot.failed = 0) ∧
  (∀ (s : Sys2Proof.Machine.State), (s.boot.pwrok = true → s.boot.starting = true → ∃ t, Sys2Proof.Machine.exec .bootTimeout s = .next t ∧ t.boot.failed = Sys2Proof.Machine.C.BOOT_TIMEOUT ∧ t.boot.starting = false ∧ t.getF Sys2Proof.Machine.F.BOOT_STATUS_REASON = Sys2Proof.Machine.C.BOOT_TIMEOUT) ∧
    (s.boot.pwrok = false ∨ s.boot.starting = false → Sys2Proof.Machine.exec .bootTimeout s = .next s))

/-- Outside Darkroom mode every DR request answers TELLER_OP, and a staging write does nothing. In it, DR_IDENTITY part 0 answers PKG_ID and the identity key, DR_STATUS BOOT_STATUS, the bytes received and the last code, DR_NONCE a fresh nonce of 32 bytes (R539). DR_BEGIN needs no signature while FUSE_OWNER is blank, and is refused with DR_AUTH_INVALID when the part is owned and no nonce is current (R540). DR_DATA appends the next bytes, and out of sequence answers DR_SEQUENCE and takes nothing. A staging write puts buffered bytes at their places in the NVM, and changes no other. DR_END gives a ticket; at its end a digest that differs fails it with DR_IMAGE_MISMATCH, an image that fails stages 2 and 3 with DR_IMAGE_INVALID, and otherwise DR_RESTART resets the package and starts it; before that DR_RESTART answers DR_SEQUENCE (R540). -/
def Obligations.DarkroomRequests : Prop :=
  (∀ (w n off : Nat) (q d : List Sys2Proof.Byte) (env : Sys2Proof.StartEnv) (s : Sys2Proof.Machine.State), s.inDarkroom = false →
    (∀ x ∈ [(Sys2Proof.Instr.drIdentity w, 0xE0), (Sys2Proof.Instr.drStatus, 0xE1), (Sys2Proof.Instr.drNonce, 0xE2), (Sys2Proof.Instr.drBegin q, 0xE3), (Sys2Proof.Instr.drData off d, 0xE4), (Sys2Proof.Instr.drEnd, 0xE5), (Sys2Proof.Instr.drRestart env, 0xE6)],
      Sys2Proof.Machine.exec x.1 s = .next (s.drRespond x.2 Sys2Proof.Machine.C.TELLER_OP 0 [])) ∧ Sys2Proof.Machine.exec (.drStagingWrite n) s = .next s) ∧
  (∀ s : Sys2Proof.Machine.State, s.inDarkroom = true → Sys2Proof.Machine.exec (.drIdentity 0) s = .next (s.drRespond 0xE0 0 0 (Sys2Proof.leBytes 8 (s.regValue Sys2Proof.Machine.D.PKG_ID) ++ Sys2Proof.Machine.idPub))) ∧
  (∀ s : Sys2Proof.Machine.State, s.inDarkroom = true → ∃ t st, Sys2Proof.Machine.exec .drStatus s = .next t ∧ st.length = 4 ∧ t.out.code = 0 ∧ t.fld = s.fld ∧ t.dr = s.dr ∧
    t.out.bytes = Sys2Proof.Machine.respBytes 0xE1 0 0 0 (Sys2Proof.leBytes 8 (s.regValue Sys2Proof.Machine.D.BOOT_STATUS) ++ st ++ Sys2Proof.leBytes 8 s.dr.got.length ++ Sys2Proof.leBytes 2 s.dr.code) ++ List.replicate 32 0) ∧
  (∀ s : Sys2Proof.Machine.State, s.inDarkroom = true → ∃ t b, Sys2Proof.Machine.exec .drNonce s = .next t ∧ b.length = 32 ∧ t.dr = { s.dr with nonce := some b } ∧ t.out.code = 0 ∧
    t.out.bytes = Sys2Proof.Machine.respBytes 0xE2 0 0 0 b ++ List.replicate 32 0) ∧
  (∀ (q : List Sys2Proof.Byte) (s : Sys2Proof.Machine.State), s.inDarkroom = true →
    (s.fused.owner = none → ∃ t, Sys2Proof.Machine.exec (.drBegin q) s = .next t ∧ t.out.code = 0 ∧ t.dr.begun = true ∧ t.dr.ended = false ∧ t.dr.got = [] ∧ t.dr.total = Sys2Proof.fieldAt q 0 8 ∧ t.dr.digest = Sys2Proof.slice q 8 64 ∧ t.nvm = s.nvm) ∧
    (s.fused.owner ≠ none → s.dr.nonce = none → ∃ t, Sys2Proof.Machine.exec (.drBegin q) s = .next t ∧ t.out.code = Sys2Proof.Machine.C.DR_AUTH_INVALID ∧ t.dr = { s.dr with code := Sys2Proof.Machine.C.DR_AUTH_INVALID } ∧ t.nvm = s.nvm)) ∧
  (∀ (off : Nat) (d : List Sys2Proof.Byte) (s : Sys2Proof.Machine.State), s.inDarkroom = true →
    (s.dr.begun = true → s.dr.ended = false → off = s.dr.got.length → 0 < d.length → d.length ≤ 8056 → off + d.length ≤ s.dr.total → s.dr.got.length - s.dr.written + d.length ≤ 0x100000 →
      ∃ t, Sys2Proof.Machine.exec (.drData off d) s = .next t ∧ t.out.code = 0 ∧ t.dr = { s.dr with got := s.dr.got ++ d } ∧ t.nvm = s.nvm) ∧
    (s.dr.begun = false ∨ s.dr.ended = true ∨ off ≠ s.dr.got.length → ∃ t, Sys2Proof.Machine.exec (.drData off d) s = .next t ∧ t.out.code = Sys2Proof.Machine.C.DR_SEQUENCE ∧ t.dr = { s.dr with code := Sys2Proof.Machine.C.DR_SEQUENCE } ∧ t.nvm = s.nvm)) ∧
  (∀ (n : Nat) (s : Sys2Proof.Machine.State), s.inDarkroom = true → s.dr.begun = true → ∃ t, Sys2Proof.Machine.exec (.drStagingWrite n) s = .next t ∧ t.dr.written = s.dr.written + min n (s.dr.got.length - s.dr.written) ∧ t.dr.got = s.dr.got ∧
    (∀ i a, s.dr.written ≤ i → i < s.dr.written + n → i < s.dr.got.length → Sys2Proof.Machine.imagePlace (Sys2Proof.fieldAt s.dr.got 8 4) i = some a → t.nvmByte a = s.dr.got.getD i 0) ∧
    (∀ a, (∀ i, s.dr.written ≤ i → i < s.dr.written + n → i < s.dr.got.length → Sys2Proof.Machine.imagePlace (Sys2Proof.fieldAt s.dr.got 8 4) i ≠ some a) → t.nvmByte a = s.nvmByte a)) ∧
  (∀ s : Sys2Proof.Machine.State, s.inDarkroom = true → (s.dr.begun = false ∨ s.dr.ended = true → ∃ t, Sys2Proof.Machine.exec .drEnd s = .next t ∧ t.out.code = Sys2Proof.Machine.C.DR_SEQUENCE ∧ t.boot.tickets = s.boot.tickets) ∧
    (s.dr.begun = true → s.dr.ended = false → ∃ t, Sys2Proof.Machine.exec .drEnd s = .next t ∧ t.out.code = 0 ∧ t.dr.ended = true ∧ t.dr.ok = false ∧ t.boot.tickets = s.boot.tickets ++ [⟨0, s.boot.nextId, 6, 0, 0, 0, 0, []⟩])) ∧
  (∀ s : Sys2Proof.Machine.State, s.ticketOf 6 = none → Sys2Proof.Machine.exec .drEndDone s = .next s) ∧
  (∀ (k : Sys2Proof.Machine.Ticket) (r : Nat) (s u : Sys2Proof.Machine.State), s.inDarkroom = true → s.dr.begun = true → s.boot.tickets = [k] → k.kind = 6 → k.state = 0 →
    (Sys2Proof.Machine.sha3_512 s.dr.got ≠ s.dr.digest → ∃ t, Sys2Proof.Machine.exec .drEndDone s = .next t ∧ t.boot.tickets = [{ k with state := 2, code := Sys2Proof.Machine.C.DR_IMAGE_MISMATCH, data := [] }] ∧ t.dr.code = Sys2Proof.Machine.C.DR_IMAGE_MISMATCH ∧ t.dr.ok = s.dr.ok) ∧
    (Sys2Proof.Machine.sha3_512 s.dr.got = s.dr.digest → (∃ w, Sys2Proof.Machine.exec (.drStagingWrite s.dr.got.length) s = .next w ∧ w.checkImage (w.nvmRead Sys2Proof.Machine.nvmDir 4096) (fun n => w.nvmRead Sys2Proof.Machine.nvmConfig n) (fun n => w.nvmRead Sys2Proof.Machine.nvmFirmware n) = (r, u)) →
      ∃ t, Sys2Proof.Machine.exec .drEndDone s = .next t ∧ (if r = 0 then t.dr.ok = true ∧ t.boot.tickets = [{ k with state := 1, code := 0, data := [] }]
        else t.dr.code = Sys2Proof.Machine.C.DR_IMAGE_INVALID ∧ t.dr.reason = r ∧ t.dr.ok = s.dr.ok ∧ t.boot.tickets = [{ k with state := 2, code := Sys2Proof.Machine.C.DR_IMAGE_INVALID, data := [] }]))) ∧
  (∀ (env : Sys2Proof.StartEnv) (s : Sys2Proof.Machine.State), s.inDarkroom = true →
    (s.dr.ended = false ∨ s.dr.ok = false → ∃ t, Sys2Proof.Machine.exec (.drRestart env) s = .next t ∧ t.out.code = Sys2Proof.Machine.C.DR_SEQUENCE ∧ t.nvm = s.nvm ∧ t.boot = s.boot) ∧
    (s.dr.ended = true → s.dr.ok = true → Sys2Proof.Machine.exec (.drRestart env) s = .next (((s.writeCounter 0 0).resetPackage.runStart env).drRespond 0xE6 0 0 [])))

/-- No Teller answers before a start completes nor for a partition not in use; an unlisted OP answers TELLER_OP (R534, R550, R558). A request that fails a check is answered with that check's code, which is reported too (R516), and does nothing else; the checks go: host entry, session, TAG, COUNTER above LAST_CTR, which is then set, rights (R558, R559). The response stands in its slot with DONE set and PENDING clear (R554). SESSION_INIT leaves one offer for the host, void after 10 s; SESSION_FINISH without a current one answers TELLER_NO_SESSION, and opens the session or answers TELLER_HOST_KEY as the host's signature decides (R557). SESSION_CLOSE ends the session and the IDE of its keys; IDE_START sets IDE on the LD (R551). The LOCATION and VALUE of that report are the model's choice (notes/assumptions/71.md). -/
def Obligations.SessionsAndChecks : Prop :=
  (∀ x ∈ Sys2Proof.Machine.tellerRows, ∀ (r : Sys2Proof.TellerReq) (s : Sys2Proof.Machine.State),
    ((s.isRunning = false ∧ s.inDarkroom = false) ∨ (s.isRunning = true ∧ s.hasPart r.p = false) → Sys2Proof.Machine.exec (x.1 r) s = .next s) ∧
    (∀ code key u, s.isRunning = true → s.hasPart r.p = true → s.checkReq r x.2 = (code, key, u) → code ≠ 0 →
      Sys2Proof.Machine.exec (x.1 r) s = .next (u.refuseReq r x.2.op code (if x.2.op = 0x12 then Sys2Proof.bits (Sys2Proof.fieldAt r.payload 0 8) 8 32 else x.2.op) key))) ∧
  (∀ (r : Sys2Proof.TellerReq) (s : Sys2Proof.Machine.State), s.isRunning = true → s.hasPart r.p = true → s.opListed r.op = false → Sys2Proof.Machine.exec (.tellerUnlistedOp r) s = .next (s.refuseReq r r.op Sys2Proof.Machine.C.TELLER_OP r.op none)) ∧
  (∀ (r : Sys2Proof.TellerReq) (op code loc : Nat) (key : Option (List Sys2Proof.Byte)) (s : Sys2Proof.Machine.State), s.refuseReq r op code loc key = (s.raise code 6 2 loc 0 r.counter).respond r op code 0 [] key) ∧
  (∀ (r : Sys2Proof.TellerReq) (k : Sys2Proof.Machine.RKind) (e : Sys2Proof.Machine.HostEntry) (x : Sys2Proof.Machine.Session) (s : Sys2Proof.Machine.State), k.cls ≠ .s → s.isRunning = true →
    (s.boot.hosts[r.host]? = none → s.checkReq r k = (Sys2Proof.Machine.C.TELLER_RIGHTS, none, s)) ∧
    (s.boot.hosts[r.host]? = some e →
      (e.part ≠ r.p → s.checkReq r k = (Sys2Proof.Machine.C.TELLER_RIGHTS, none, s)) ∧
      (e.part = r.p → s.sessionOf r.host = none → s.checkReq r k = (Sys2Proof.Machine.C.TELLER_NO_SESSION, none, s)) ∧
      (e.part = r.p → s.sessionOf r.host = some x →
        (x.id ≠ r.session → s.checkReq r k = (Sys2Proof.Machine.C.TELLER_NO_SESSION, none, s)) ∧
        (x.id = r.session → Sys2Proof.Machine.reqTag x.kmac (Sys2Proof.Machine.reqBytes r k.op) ≠ r.tag → s.checkReq r k = (Sys2Proof.Machine.C.TELLER_TAG, none, s)) ∧
        (x.id = r.session → Sys2Proof.Machine.reqTag x.kmac (Sys2Proof.Machine.reqBytes r k.op) = r.tag → r.counter ≤ s.boot.lastCtr.get r.host 0 → s.checkReq r k = (Sys2Proof.Machine.C.TELLER_COUNTER, some x.kmac, s)) ∧
        (x.id = r.session → Sys2Proof.Machine.reqTag x.kmac (Sys2Proof.Machine.reqBytes r k.op) = r.tag → s.boot.lastCtr.get r.host 0 < r.counter →
          s.checkReq r k = (if (k.cls = .c ∧ Sys2Proof.bit e.rights 0 = false) ∨ (k.service = true ∧ Sys2Proof.bit e.rights 1 = false) ∨ (k.p0 = true ∧ r.p ≠ 0) then Sys2Proof.Machine.C.TELLER_RIGHTS else 0, some x.kmac,
            { s with boot := { s.boot with lastCtr := s.boot.lastCtr.put r.host r.counter 0 } }))))) ∧
  (∀ (r : Sys2Proof.TellerReq) (op status ticket : Nat) (b : List Sys2Proof.Byte) (key : Option (List Sys2Proof.Byte)) (s : Sys2Proof.Machine.State), let t := s.respond r op status ticket b key;
    t.out.code = status ∧ Sys2Proof.Assoc.get t.boot.slots (4 * r.p + r.slot) [] = t.out.bytes ∧ Sys2Proof.bit (t.getF (Sys2Proof.Machine.F.TELLER_STATUS_SLOT_DONE r.p)) r.slot = true ∧ Sys2Proof.bit (t.getF (Sys2Proof.Machine.F.TELLER_STATUS_SLOT_PENDING r.p)) r.slot = false) ∧
  (∀ (r : Sys2Proof.TellerReq) (e : Sys2Proof.Machine.HostEntry) (s : Sys2Proof.Machine.State), s.isRunning = true → s.hasPart r.p = true → s.boot.hosts[r.host]? = some e → e.part = r.p →
    ∃ t o, Sys2Proof.Machine.exec (.sessionInit r) s = .next t ∧ t.out.code = 0 ∧ t.boot.offers = s.boot.offers.filter (fun x => x.host != r.host) ++ [o] ∧ o.host = r.host ∧ o.id = s.boot.nextId ∧ o.ns = s.clk.ns ∧
      t.boot.nextId = s.boot.nextId + 1 ∧ t.boot.sessions = s.boot.sessions ∧ (∀ a, t.memByte a = s.memByte a)) ∧
  (∀ (h : Fin 16) (o : Sys2Proof.Machine.Offer) (s : Sys2Proof.Machine.State), s.boot.offers.find? (fun x => x.host == h.val) = some o →
    ∃ t, Sys2Proof.Machine.exec (.sessionInitExpiry h) s = .next t ∧ t.boot.offers = s.boot.offers.filter (fun x => x.host != h.val) ∧ o.ns + 10000000000 ≤ t.clk.ns ∧ t.boot.sessions = s.boot.sessions) ∧
  (∀ (r : Sys2Proof.TellerReq) (e : Sys2Proof.Machine.HostEntry) (s : Sys2Proof.Machine.State), s.isRunning = true → s.hasPart r.p = true → s.boot.hosts[r.host]? = some e → e.part = r.p →
    (s.boot.offers.find? (fun x => x.host == r.host && x.id == r.session && decide (s.clk.ns ≤ x.ns + 10000000000)) = none → Sys2Proof.Machine.exec (.sessionFinish r) s = .next (s.refuseReq r 2 Sys2Proof.Machine.C.TELLER_NO_SESSION 2 none)) ∧
    (∀ o ok u, s.boot.offers.find? (fun x => x.host == r.host && x.id == r.session && decide (s.clk.ns ≤ x.ns + 10000000000)) = some o →
      s.verify e.pub (Sys2Proof.leBytes 4 o.id ++ Sys2Proof.slice (Sys2Proof.Config.mlkemPub o.seed) 0 1568 ++ o.np ++ Sys2Proof.slice r.payload 0 1568) (Sys2Proof.slice r.payload 1568 4627) = (ok, u) →
      if ok = false then Sys2Proof.Machine.exec (.sessionFinish r) s = .next (u.refuseReq r 2 Sys2Proof.Machine.C.TELLER_HOST_KEY 2 none)
      else ∃ t x, Sys2Proof.Machine.exec (.sessionFinish r) s = .next t ∧ t.out.code = 0 ∧ t.boot.sessions.getLast? = some x ∧ x.host = r.host ∧ x.id = o.id ∧ t.codes = s.codes ++ [Sys2Proof.Machine.C.SESSION_OPENED] ∧
        t.boot.offers = s.boot.offers.filter (fun x => x.host != r.host) ∧ (∀ old, s.sessionOf r.host = some old → old.id ≠ o.id → ∀ y ∈ t.boot.sessions, y.id ≠ old.id))) ∧
  (∀ (r : Sys2Proof.TellerReq) (key : List Sys2Proof.Byte) (s u : Sys2Proof.Machine.State), s.grants r ⟨3, .w, false, false⟩ key u → ∃ t, Sys2Proof.Machine.exec (.sessionClose r) s = .next t ∧ t.out.code = 0 ∧
    t.boot.sessions = s.boot.sessions.filter (fun x => x.id != r.session) ∧ (∀ x ∈ t.boot.ide, x.2 ≠ r.session) ∧ (∀ p : Fin 4, (p.val, r.session) ∈ s.boot.ide → t.getF (Sys2Proof.Machine.F.TELLER_STATUS_IDE p) = 0) ∧ (∀ a, t.memByte a = s.memByte a)) ∧
  (∀ (r : Sys2Proof.TellerReq) (key : List Sys2Proof.Byte) (s u : Sys2Proof.Machine.State), s.grants r ⟨4, .w, false, false⟩ key u → ∃ t, Sys2Proof.Machine.exec (.ideStart r) s = .next t ∧ t.out.code = 0 ∧ t.getF (Sys2Proof.Machine.F.TELLER_STATUS_IDE r.p) = 1 ∧
    t.boot.ide.getLast? = some (r.p.val, r.session) ∧ t.boot.sessions = s.boot.sessions ∧ (∀ a, t.memByte a = s.memByte a))

/-- An accepted READ returns the named registers, after the address checks; a WRITE whose address fails them answers with their code, one that is critical TELLER_NEED_CRITICAL, and one that its unit refuses that code, all without effect; otherwise it performs the writes (R558). A CRITICAL write performs one critical write and raises CRITICAL_DONE, or answers TELLER_NOT_CRITICAL (R560). IDENTITY returns the identity data of a listed PART, ATTEST the report with a signature (R539, R545), TICKET the state and code of the host's ticket (R556). JOB_KEYGEN sets the partition's job key, and JOB_KEYLIST its list, with CRITICAL_DONE (R544, R560). A code that refuses a request is its response and is reported too (R516); the report's LOCATION and VALUE are the model's choice (notes/assumptions/71.md). -/
def Obligations.TellerCommands : Prop :=
  (∀ (r : Sys2Proof.TellerReq) (key : List Sys2Proof.Byte) (l : List Nat) (s u : Sys2Proof.Machine.State), s.grants r ⟨0x10, .r, false, false⟩ key u → l = (List.range (min 512 (Sys2Proof.fieldAt r.payload 0 4))).map (fun i => Sys2Proof.fieldAt r.payload (4 + 8 * i) 8) →
    Sys2Proof.Machine.exec (.tellerRead r) s = .next (if u.addrCheck r.p (l.map (fun a => (a, none))) = 0 then u.respond r 0x10 0 0 (l.flatMap (fun a => Sys2Proof.leBytes 8 (u.readReg r.p a))) (some key)
      else u.refuseReq r 0x10 (u.addrCheck r.p (l.map (fun a => (a, none)))) 0x10 (some key))) ∧
  (∀ (p : Nat) (l : List (Nat × Option Nat)) (s : Sys2Proof.Machine.State), (l.any (fun x => !(Sys2Proof.Machine.mgmtOk x.1 8)) = true → s.addrCheck p l = Sys2Proof.Machine.C.TELLER_ALIGN) ∧
    (l.all (fun x => Sys2Proof.Machine.mgmtOk x.1 8) = true → l.any (fun x => !(s.mayAccess p x.1 x.2)) = true → s.addrCheck p l = Sys2Proof.Machine.C.TELLER_PARTITION) ∧
    (l.all (fun x => Sys2Proof.Machine.mgmtOk x.1 8 && s.mayAccess p x.1 x.2) = true → s.addrCheck p l = 0)) ∧
  (∀ (r : Sys2Proof.TellerReq) (key : List Sys2Proof.Byte) (a v : Nat) (s u : Sys2Proof.Machine.State), s.grants r ⟨0x11, .w, false, false⟩ key u → Sys2Proof.fieldAt r.payload 0 4 = 1 → a = Sys2Proof.fieldAt r.payload 4 8 → v = Sys2Proof.fieldAt r.payload 12 8 →
    (u.addrCheck r.p [(a, some v)] ≠ 0 → Sys2Proof.Machine.exec (.tellerWrite r) s = .next (u.refuseReq r 0x11 (u.addrCheck r.p [(a, some v)]) 0x11 (some key))) ∧
    (u.addrCheck r.p [(a, some v)] = 0 → Sys2Proof.Machine.isCritical a v = true → Sys2Proof.Machine.exec (.tellerWrite r) s = .next (u.refuseReq r 0x11 Sys2Proof.Machine.C.TELLER_NEED_CRITICAL 0x11 (some key))) ∧
    (u.addrCheck r.p [(a, some v)] = 0 → Sys2Proof.Machine.isCritical a v = false → (u.mgmtWrite a v).out.code ≠ 0 → Sys2Proof.Machine.exec (.tellerWrite r) s = .next (u.refuseReq r 0x11 (u.mgmtWrite a v).out.code 0x11 (some key))) ∧
    (u.addrCheck r.p [(a, some v)] = 0 → Sys2Proof.Machine.isCritical a v = false → (u.mgmtWrite a v).out.code = 0 → Sys2Proof.Machine.exec (.tellerWrite r) s = .next ((u.mgmtWrite a v).respond r 0x11 0 0 [] (some key)))) ∧
  (∀ (r : Sys2Proof.TellerReq) (key : List Sys2Proof.Byte) (a v : Nat) (s u : Sys2Proof.Machine.State), s.grants r ⟨0x12, .c, false, false⟩ key u → a = Sys2Proof.fieldAt r.payload 0 8 → v = Sys2Proof.fieldAt r.payload 8 8 → u.addrCheck r.p [(a, some v)] = 0 →
    (Sys2Proof.Machine.isCritical a v = false → Sys2Proof.Machine.exec (.tellerCritical r) s = .next (u.refuseReq r 0x12 Sys2Proof.Machine.C.TELLER_NOT_CRITICAL (Sys2Proof.bits a 8 32) (some key))) ∧
    (Sys2Proof.Machine.isCritical a v = true → (u.mgmtWrite a v).out.code = 0 → ∃ t, Sys2Proof.Machine.exec (.tellerCritical r) s = .next t ∧ t.out.code = 0 ∧ t.codes = (u.mgmtWrite a v).codes ++ [Sys2Proof.Machine.C.CRITICAL_DONE] ∧
      (∀ a', t.memByte a' = (u.mgmtWrite a v).memByte a')) ∧
    (Sys2Proof.Machine.isCritical a v = true → (u.mgmtWrite a v).out.code ≠ 0 → Sys2Proof.Machine.exec (.tellerCritical r) s = .next (u.refuseReq r 0x12 (u.mgmtWrite a v).out.code (Sys2Proof.bits a 8 32) (some key)))) ∧
  (∀ (r : Sys2Proof.TellerReq) (key : List Sys2Proof.Byte) (s u : Sys2Proof.Machine.State), s.grants r ⟨0x20, .r, false, false⟩ key u →
    Sys2Proof.Machine.exec (.tellerIdentity r) s = .next (match u.identity (Sys2Proof.fieldAt r.payload 0 1) with
      | some b => u.respond r 0x20 0 0 b (some key)
      | none => u.refuseReq r 0x20 Sys2Proof.Machine.C.TELLER_OP 0x20 (some key))) ∧
  (∀ (w : Nat) (s : Sys2Proof.Machine.State), (s.identity w).isSome = true ↔ w < 2) ∧
  (∀ (r : Sys2Proof.TellerReq) (key : List Sys2Proof.Byte) (s u : Sys2Proof.Machine.State), s.grants r ⟨0x21, .r, false, false⟩ key u → ∃ (t v : Sys2Proof.Machine.State) (sig : List Sys2Proof.Byte), Sys2Proof.Machine.exec (.attest r) s = .next t ∧ t = v.respond r 0x21 0 0 (u.report r.p r.payload ++ sig) (some key) ∧
    sig.length = 4627 ∧ v.boot = u.boot ∧ (∀ a, t.memByte a = s.memByte a)) ∧
  (∀ (r : Sys2Proof.TellerReq) (key : List Sys2Proof.Byte) (k : Sys2Proof.Machine.Ticket) (s u : Sys2Proof.Machine.State), s.grants r ⟨0x22, .r, false, false⟩ key u →
    u.boot.tickets.find? (fun t => t.part == r.p.val && t.id == Sys2Proof.fieldAt r.payload 0 4) = some k →
    ∃ (t v : Sys2Proof.Machine.State) (n : Nat), Sys2Proof.Machine.exec (.tellerTicket r) s = .next t ∧ t = v.respond r 0x22 0 0 (Sys2Proof.leBytes 1 k.state ++ Sys2Proof.leBytes 2 k.code ++ Sys2Proof.leBytes 1 n) (some key) ∧ n ≤ 100 ∧ (k.state = 1 → n = 100) ∧ v.boot = u.boot) ∧
  (∀ (r : Sys2Proof.TellerReq) (key : List Sys2Proof.Byte) (s u : Sys2Proof.Machine.State), s.grants r ⟨0x30, .c, false, false⟩ key u → ∃ t, Sys2Proof.Machine.exec (.jobKeygen r) s = .next t ∧ t.out.code = 0 ∧
    t.boot.jobIds = s.boot.jobIds.filter (fun x => x.1 != r.p.val) ++ [(r.p.val, Sys2Proof.fieldAt r.payload 0 8)] ∧ t.codes = s.codes ++ [Sys2Proof.Machine.C.CRITICAL_DONE] ∧ t.boot.sessions = s.boot.sessions) ∧
  (∀ (r : Sys2Proof.TellerReq) (key : List Sys2Proof.Byte) (s u : Sys2Proof.Machine.State), s.grants r ⟨0x31, .c, false, false⟩ key u → ∃ t, Sys2Proof.Machine.exec (.jobKeylist r) s = .next t ∧ t.out.code = 0 ∧
    t.boot.keyLists = s.boot.keyLists.filter (fun x => x.1 != r.p.val) ++ [(r.p.val, Sys2Proof.slice r.payload 12 64, Sys2Proof.fieldAt r.payload 4 8, Sys2Proof.fieldAt r.payload 0 4)] ∧ t.codes = s.codes ++ [Sys2Proof.Machine.C.CRITICAL_DONE] ∧
    t.boot.jobIds = s.boot.jobIds)

/-- NVM_UPDATE answers TELLER_BUSY with four pending tickets, TELLER_UPDATE_INVALID for an image that fails its checks, else a ticket, with no flash write yet; its end writes the image while no frame is RUNNING (R562). SVN_ADVANCE burns the running firmware's SVN, and RESET makes a reset due (R556). A record of the live repair book is written when DIRTY, at rest (R573). SPARE_APPLY answers with its code, or starts the bring-in; a KIND that names no unit answers SPARE_NONE, and a row of the array starts one unless one is under way or no spare is left (R576, R588). SPARE_POLICY sets RB_POLICY (R588). CAL_WRITE and SELFTEST need every frame at rest (SPARE_STATE); their tickets, and those of CAL_EXPORT and RB_FLUSH, end with the set in the NVM and CAL_WRITTEN, the set in T1, the fault found with SELFTEST_FAILED, or the record (R582, R587, R588). A lane lost without a repair lane takes the link down (R577). CAL_EXPORT's writes wait for their way (R40). A code that refuses a request is reported too (R516), with the model's LOCATION and VALUE (notes/assumptions/71.md). -/
def Obligations.UpdatesAndService : Prop :=
  (∀ (r : Sys2Proof.TellerReq) (key img : List Sys2Proof.Byte) (a n cb fb : Nat) (s u : Sys2Proof.Machine.State), s.grants r ⟨0x40, .c, false, true⟩ key u → a = Sys2Proof.fieldAt r.payload 0 8 → n = Sys2Proof.fieldAt r.payload 8 8 → img = u.readMem a n → (cb, fb) = (Sys2Proof.Machine.dirSizes (img.take 4096)).getD (0, 0) →
    (u.ticketsFull r.p = true → Sys2Proof.Machine.exec (.nvmUpdate r) s = .next (u.refuseReq r 0x40 Sys2Proof.Machine.C.TELLER_BUSY 0x40 (some key))) ∧
    (u.ticketsFull r.p = false → (n < 4096 ∨ u.inPartT1 0 a n = false) → Sys2Proof.Machine.exec (.nvmUpdate r) s = .next (u.refuseReq r 0x40 Sys2Proof.Machine.C.TELLER_UPDATE_INVALID 0x40 (some key))) ∧
    (∀ code v, u.ticketsFull r.p = false → 4096 ≤ n → u.inPartT1 0 a n = true → n = 4096 + cb + fb → u.checkImage (img.take 4096) (fun k => Sys2Proof.slice img 4096 k) (fun k => Sys2Proof.slice img (4096 + cb) k) = (code, v) →
      if code ≠ 0 then Sys2Proof.Machine.exec (.nvmUpdate r) s = .next (v.refuseReq r 0x40 Sys2Proof.Machine.C.TELLER_UPDATE_INVALID 0x40 (some key))
      else ∃ t, Sys2Proof.Machine.exec (.nvmUpdate r) s = .next t ∧ t.out.code = 0 ∧ t.nvm = s.nvm ∧ t.boot.tickets = s.boot.tickets ++ [⟨r.p, s.boot.nextId, 1, 0, 0, a, n, img⟩])) ∧
  (∀ s : Sys2Proof.Machine.State, s.ticketOf 1 = none ∨ s.noneRunning = false → Sys2Proof.Machine.exec .nvmUpdateDone s = .next s) ∧
  (∀ (k : Sys2Proof.Machine.Ticket) (s : Sys2Proof.Machine.State), s.boot.tickets = [k] → k.kind = 1 → k.state = 0 → s.noneRunning = true → ∃ t, Sys2Proof.Machine.exec .nvmUpdateDone s = .next t ∧ t.boot.tickets = [{ k with state := 1, code := 0, data := [] }] ∧
    (∀ i b, i < k.data.length → Sys2Proof.Machine.imagePlace (Sys2Proof.fieldAt k.data 8 4) i = some b → t.nvmByte b = k.data.getD i 0) ∧ (∀ b, (∀ i < k.data.length, Sys2Proof.Machine.imagePlace (Sys2Proof.fieldAt k.data 8 4) i ≠ some b) → t.nvmByte b = s.nvmByte b)) ∧
  (∀ (r : Sys2Proof.TellerReq) (key : List Sys2Proof.Byte) (s u : Sys2Proof.Machine.State), s.grants r ⟨0x41, .c, false, true⟩ key u → ∃ t, Sys2Proof.Machine.exec (.svnAdvance r) s = .next t ∧ t.out.code = 0 ∧ t.fused = { s.fused with svn := s.getF Sys2Proof.Machine.F.BOOT_STATUS_FW_SVN } ∧
    t.codes = s.codes ++ [Sys2Proof.Machine.C.CRITICAL_DONE]) ∧
  (∀ (r : Sys2Proof.TellerReq) (key : List Sys2Proof.Byte) (s u : Sys2Proof.Machine.State), s.grants r ⟨0x42, .c, false, true⟩ key u → ∃ t, Sys2Proof.Machine.exec (.tellerReset r) s = .next t ∧ t.out.code = 0 ∧ t.boot.resetDue = true ∧ t.codes = s.codes ++ [Sys2Proof.Machine.C.CRITICAL_DONE] ∧ t.mem = s.mem) ∧
  (∀ s : Sys2Proof.Machine.State, s.allAtRest = false → Sys2Proof.Machine.exec .rbRecordWrite s = .next s) ∧
  (∀ (i : Nat) (l : List Nat) (s : Sys2Proof.Machine.State), s.allAtRest = true → s.getF Sys2Proof.Machine.F.RB_STATUS_DIRTY = 1 → s.freeBlocks (s.getF Sys2Proof.Machine.F.RB_STATUS_HALF) = i :: l → s.ticketOf 5 = none →
    ∃ t, Sys2Proof.Machine.exec .rbRecordWrite s = .next t ∧ t.getF Sys2Proof.Machine.F.RB_STATUS_DIRTY = 0 ∧ t.getF Sys2Proof.Machine.F.RB_STATUS_RSEQ = (s.getF Sys2Proof.Machine.F.RB_STATUS_RSEQ + 1) % 2 ^ (Sys2Proof.Machine.F.RB_STATUS_RSEQ).width ∧
      t.nvmRead (Sys2Proof.Machine.nvmBook + (s.getF Sys2Proof.Machine.F.RB_STATUS_HALF * 123 + i) * 8192 + 64) 2048 = s.bookState) ∧
  (∀ (r : Sys2Proof.TellerReq) (key : List Sys2Proof.Byte) (code : Nat) (s u v : Sys2Proof.Machine.State), s.grants r ⟨0x50, .c, true, false⟩ key u → u.applySpare (Sys2Proof.fieldAt r.payload 0 1) (Sys2Proof.fieldAt r.payload 4 1) (Sys2Proof.fieldAt r.payload 1 3) = (code, v) →
    if code = 0 then ∃ t, Sys2Proof.Machine.exec (.spareApply r) s = .next t ∧ t.out.code = 0 ∧ t.codes = v.codes ++ [Sys2Proof.Machine.C.CRITICAL_DONE] ∧ t.bringIn = v.bringIn ∧ (∀ a, t.memByte a = v.memByte a)
    else Sys2Proof.Machine.exec (.spareApply r) s = .next (u.refuseReq r 0x50 code 0x50 (some key))) ∧
  (∀ (kind hi lo : Nat) (s : Sys2Proof.Machine.State), (kind = 0 ∨ 8 < kind → s.applySpare kind hi lo = (Sys2Proof.Machine.C.SPARE_NONE, s)) ∧
    (hi < 4 → lo < 1024 → (s.bringing 1 hi 0 lo = true → s.applySpare 1 hi lo = (Sys2Proof.Machine.C.SPARE_BUSY, s)) ∧
      (∀ i, s.bringing 1 hi 0 lo = false → s.freeSpare 1 hi 0 = some i → s.applySpare 1 hi lo = (0, { s with bringIn := s.bringIn ++ [⟨1, hi, 0, lo, i, false, 0, 0⟩] })) ∧
      (s.bringing 1 hi 0 lo = false → s.freeSpare 1 hi 0 = none → s.applySpare 1 hi lo = (Sys2Proof.Machine.C.SPARE_NONE, s)))) ∧
  (∀ (r : Sys2Proof.TellerReq) (key : List Sys2Proof.Byte) (s u : Sys2Proof.Machine.State), s.grants r ⟨0x51, .c, true, false⟩ key u → ∃ t, Sys2Proof.Machine.exec (.sparePolicy r) s = .next t ∧ t.out.code = 0 ∧ t.getF Sys2Proof.Machine.F.RB_POLICY_AUTO = Sys2Proof.bits (Sys2Proof.fieldAt r.payload 0 8) 1 8 ∧
    t.getF Sys2Proof.Machine.F.RB_STATUS_DIRTY = 1 ∧ t.codes = s.codes ++ [Sys2Proof.Machine.C.CRITICAL_DONE]) ∧
  (∀ x ∈ [(Sys2Proof.Instr.calWrite, 0x52), (Sys2Proof.Instr.selftest, 0x54), (Sys2Proof.Instr.rbFlush, 0x55)], ∀ (r : Sys2Proof.TellerReq) (key : List Sys2Proof.Byte) (s u : Sys2Proof.Machine.State), s.grants r ⟨x.2, .c, true, false⟩ key u →
    (u.allAtRest = false → Sys2Proof.Machine.exec (x.1 r) s = .next (u.refuseReq r x.2 Sys2Proof.Machine.C.SPARE_STATE x.2 (some key))) ∧
    (u.allAtRest = true → u.ticketsFull r.p = true → Sys2Proof.Machine.exec (x.1 r) s = .next (u.refuseReq r x.2 Sys2Proof.Machine.C.TELLER_BUSY x.2 (some key)))) ∧
  (∀ (r : Sys2Proof.TellerReq) (key : List Sys2Proof.Byte) (s u : Sys2Proof.Machine.State), s.grants r ⟨0x52, .c, true, false⟩ key u → u.allAtRest = true → u.ticketsFull r.p = false → Sys2Proof.fieldAt r.payload 0 1 = 0 → u.inPartT1 0 (Sys2Proof.fieldAt r.payload 1 8) 65536 = true →
    ∃ t sig, Sys2Proof.Machine.exec (.calWrite r) s = .next t ∧ t.out.code = 0 ∧ t.getF Sys2Proof.Machine.F.CAL_STATUS_WRITING = 1 ∧ t.nvm = s.nvm ∧ t.boot.tickets = s.boot.tickets ++ [⟨r.p, s.boot.nextId, 2, 0, 0, Sys2Proof.fieldAt r.payload 1 8, 65536,
      Sys2Proof.leBytes 2 0x020F ++ Sys2Proof.leBytes 2 1 ++ Sys2Proof.leBytes 4 (s.getF Sys2Proof.Machine.F.CAL_STATUS_CAL_SEQ + 1) ++ List.replicate 56 0 ++ s.readMem (Sys2Proof.fieldAt r.payload 1 8 + 64) 19968 ++ List.replicate 40877 0 ++ sig⟩] ∧ sig.length = 4627) ∧
  (∀ (k : Sys2Proof.Machine.Ticket) (s : Sys2Proof.Machine.State), s.boot.tickets = [k] → k.kind = 2 → k.state = 0 → s.noneRunning = true → ∃ t, Sys2Proof.Machine.exec .calWriteDone s = .next t ∧ t.nvmRead Sys2Proof.Machine.nvmCal k.data.length = k.data ∧ t.getF Sys2Proof.Machine.F.CAL_STATUS_WRITING = 0 ∧
    t.codes = s.codes ++ [Sys2Proof.Machine.C.CAL_WRITTEN] ∧ t.boot.tickets = [{ k with state := 1, code := 0, data := [] }]) ∧
  (∀ (r : Sys2Proof.TellerReq) (key : List Sys2Proof.Byte) (s u : Sys2Proof.Machine.State), s.grants r ⟨0x53, .c, true, false⟩ key u → u.ticketsFull r.p = false → u.inPartT1 r.p (Sys2Proof.fieldAt r.payload 0 8) 65536 = true →
    ∃ t, Sys2Proof.Machine.exec (.calExport r) s = .next t ∧ t.out.code = 0 ∧ t.boot.tickets = s.boot.tickets ++ [⟨r.p, s.boot.nextId, 3, 0, 0, Sys2Proof.fieldAt r.payload 0 8, 65536, []⟩] ∧ t.mem = s.mem) ∧
  (∀ (k : Sys2Proof.Machine.Ticket) (s v : Sys2Proof.Machine.State), s.boot.tickets = [k] → k.kind = 3 → k.state = 0 → s.svc.cal ≠ [] → s.hasWay Sys2Proof.Machine.doCalExportDone → s.noWait.extWrite 0xA0 k.a (Sys2Proof.slice s.svc.cal 0 65536) = (0, v) →
    ∃ t, Sys2Proof.Machine.exec .calExportDone s = .next t ∧ (∀ a, t.memByte a = v.memByte a) ∧ t.boot.tickets = [{ k with state := 1, code := 0, data := [] }]) ∧
  (∀ s : Sys2Proof.Machine.State, ¬s.hasWay Sys2Proof.Machine.doCalExportDone → Sys2Proof.Machine.exec .calExportDone s = .next s) ∧
  (∀ x ∈ [(Sys2Proof.Instr.selftest, 0x54, 4), (Sys2Proof.Instr.rbFlush, 0x55, 5)], ∀ (r : Sys2Proof.TellerReq) (key : List Sys2Proof.Byte) (s u : Sys2Proof.Machine.State), s.grants r ⟨x.2.1, .c, true, false⟩ key u → u.allAtRest = true → u.ticketsFull r.p = false →
    ∃ t k, Sys2Proof.Machine.exec (x.1 r) s = .next t ∧ t.out.code = 0 ∧ t.boot.tickets = s.boot.tickets ++ [k] ∧ k.part = r.p.val ∧ k.id = s.boot.nextId ∧ k.kind = x.2.2 ∧ k.state = 0 ∧ t.mem = s.mem) ∧
  (∀ (k : Sys2Proof.Machine.Ticket) (s : Sys2Proof.Machine.State), s.boot.tickets = [k] → k.kind = 4 → k.state = 0 →
    (∃ t, Sys2Proof.Machine.exec (.selftestDone none) s = .next t ∧ t.boot.tickets = [{ k with state := 1, code := 0, data := [] }] ∧ t.codes = s.codes) ∧
    (∀ n, ∃ t, Sys2Proof.Machine.exec (.selftestDone (some n)) s = .next t ∧ t.boot.tickets = [{ k with state := 2, code := Sys2Proof.Machine.C.SELFTEST_FAILED, data := [] }] ∧ (∃ l, t.codes = s.codes ++ Sys2Proof.Machine.C.SELFTEST_FAILED :: l))) ∧
  (∀ (e : Fin 6) (l : Fin 5) (s : Sys2Proof.Machine.State),
    (∃ t, Sys2Proof.Machine.exec (.slinkLaneFault e l false) s = .next t ∧ t.getF (Sys2Proof.Machine.F.SLINK_STATUS_UP e l) = 0 ∧ t.getF (Sys2Proof.Machine.F.SLINK_STATUS_UP (Sys2Proof.Machine.linkPeer e l) (Sys2Proof.Machine.linkAt (Sys2Proof.Machine.linkPeer e l) e)) = 0 ∧ t.codes = s.codes ++ [Sys2Proof.Machine.C.SLINK_SPARES_EXHAUSTED]) ∧
    (∀ i, s.bringing 7 e l l = false → s.freeSpare 7 e l = some i → s.spareAuto 7 = true →
      ∃ t, Sys2Proof.Machine.exec (.slinkLaneFault e l true) s = .next t ∧ t.bringIn = s.bringIn ++ [⟨7, e, l, l, i, true, 0, 0⟩] ∧ t.codes = s.codes))

/-- Without IDE on its LD a doorbell write is dropped and counted, a CXL.mem write dropped, and a read answers poison (R551). With it, doorbells are kept for the frame (R552), an access outside the partition's ranges answers an address error and changes nothing, and one inside acts on memory (R550); MOV_ADDR as that error's code is the model's choice (notes/assumptions/54.md). An access whose way is not open waits, and changes nothing (R40). PERST takes the link down and ends IDE on every LD; its release trains the link (R609). I3C answers five registers in standby and refuses writes (R547). LSC_FAULT asks for the status of the channels of DOWN ports; a good response advances SEQ and, for a lost channel, reports its spare or that none is left; a bad one or a timeout is retried, and the third failure gives up the link with LSC_LINK_LOST (R616). IDCODE and BYPASS always act; SAMPLE/PRELOAD and EXTEST in Darkroom mode only (R611). -/
def Obligations.HostAndServiceBuses : Prop :=
  (∀ (p : Fin 4) (v : Sys2Proof.Word) (a n : Nat) (d : List Sys2Proof.Byte) (s : Sys2Proof.Machine.State), s.ideOn p = false →
    (∃ t, Sys2Proof.Machine.exec (.hostRingWrite p v) s = .next t ∧ t.getF (Sys2Proof.Machine.F.HOST_RING_RING p) = s.getF (Sys2Proof.Machine.F.HOST_RING_RING p) ∧ t.part p = s.part p ∧
      t.getF (Sys2Proof.Machine.F.TELLER_STATUS_UNPROTECTED p) = Sys2Proof.satAdd (Sys2Proof.Machine.F.TELLER_STATUS_UNPROTECTED p).width (s.getF (Sys2Proof.Machine.F.TELLER_STATUS_UNPROTECTED p)) 1) ∧
    (∃ t, Sys2Proof.Machine.exec (.hostCxlMemAccess p true a d n) s = .next t ∧ t.out = ⟨0, 0, []⟩ ∧ t.mem = s.mem) ∧ (∃ t, Sys2Proof.Machine.exec (.hostCxlMemAccess p false a d n) s = .next t ∧ t.out = ⟨1, 0, []⟩ ∧ t.mem = s.mem)) ∧
  (∀ (p : Fin 4) (v : Sys2Proof.Word) (s : Sys2Proof.Machine.State), s.ideOn p = true →
    (∃ t, Sys2Proof.Machine.exec (.hostRingWrite p v) s = .next t ∧ t.out.code = 0 ∧ t.getF (Sys2Proof.Machine.F.HOST_RING_RING p) = (s.getF (Sys2Proof.Machine.F.HOST_RING_RING p) ||| v.toNat) % 2 ^ 64 ∧ (∀ a, t.memByte a = s.memByte a) ∧
      (s.frameState p ≠ Sys2Proof.Machine.stRunning → t.part p = { s.part p with doorbells := (s.part p).doorbells ||| v.toNat }))) ∧
  (∀ (p : Fin 4) (a n : Nat) (d b : List Sys2Proof.Byte) (s u : Sys2Proof.Machine.State), s.ideOn p = true →
    (0 < d.length → (s.ownsMem p a d.length = false ∨ s.rangeOk a d.length = false) → Sys2Proof.Machine.exec (.hostCxlMemAccess p true a d n) s = .next (s.noWait.answer Sys2Proof.Machine.C.MOV_ADDR 0)) ∧
    (0 < n → (s.ownsMem p a n = false ∨ s.rangeOk a n = false) → Sys2Proof.Machine.exec (.hostCxlMemAccess p false a d n) s = .next (s.noWait.answer Sys2Proof.Machine.C.MOV_ADDR 0)) ∧
    (0 < d.length → s.ownsMem p a d.length = true → s.rangeOk a d.length = true → s.hasWay (Sys2Proof.Machine.doHostCxlMemAccess p true a d n) → s.noWait.extWrite 0xA0 a d = (0, u) → Sys2Proof.Machine.exec (.hostCxlMemAccess p true a d n) s = .next (u.answer 0 0)) ∧
    (0 < n → s.ownsMem p a n = true → s.rangeOk a n = true → s.hasWay (Sys2Proof.Machine.doHostCxlMemAccess p false a d n) → s.noWait.extRead 0xA0 a n = (0, b, u) → Sys2Proof.Machine.exec (.hostCxlMemAccess p false a d n) s = .next (u.answerBytes 0 b))) ∧
  (∀ (p : Fin 4) (w : Bool) (a n : Nat) (d : List Sys2Proof.Byte) (s : Sys2Proof.Machine.State), ¬s.hasWay (Sys2Proof.Machine.doHostCxlMemAccess p w a d n) → Sys2Proof.Machine.exec (.hostCxlMemAccess p w a d n) s = .next s) ∧
  (∀ s : Sys2Proof.Machine.State, ∃ t, Sys2Proof.Machine.exec .hostPerst s = .next t ∧ t.getF Sys2Proof.Machine.F.HOSTPORT_STATUS_PERST = 1 ∧ t.getF Sys2Proof.Machine.F.HOSTPORT_STATUS_UP = 0 ∧ (∀ p : Fin 4, t.ideOn p = false) ∧ (∀ x ∈ t.boot.ide, 4 ≤ x.1) ∧ t.boot.sessions = s.boot.sessions) ∧
  (∀ s : Sys2Proof.Machine.State, (s.getF Sys2Proof.Machine.F.HOSTPORT_STATUS_PERST ≠ 1 → Sys2Proof.Machine.exec .hostPerstRelease s = .next s) ∧
    (s.getF Sys2Proof.Machine.F.HOSTPORT_STATUS_PERST = 1 → ∃ t, Sys2Proof.Machine.exec .hostPerstRelease s = .next t ∧ t.getF Sys2Proof.Machine.F.HOSTPORT_STATUS_PERST = 0 ∧ t.getF Sys2Proof.Machine.F.HOSTPORT_STATUS_UP = 1 ∧ t.boot = s.boot)) ∧
  (∀ (i : Fin 5) (w : Bool) (s : Sys2Proof.Machine.State), (s.boot.sbyok = false → Sys2Proof.Machine.exec (.i3cRead i w) s = .next s) ∧ (s.boot.sbyok = true → w = true → Sys2Proof.Machine.exec (.i3cRead i w) s = .next (s.answer 1 0)) ∧
    (s.boot.sbyok = true → w = false → Sys2Proof.Machine.exec (.i3cRead i w) s = .next (s.answer 0 (s.regValue (match i with
      | 0 => Sys2Proof.Machine.D.PKG_ID
      | 1 => Sys2Proof.Machine.D.BOOT_STATUS
      | 2 => Sys2Proof.Machine.D.TH_STATUS
      | 3 => Sys2Proof.Machine.D.TH_TEMP 0
      | 4 => Sys2Proof.Machine.D.TH_TEMP 1))))) ∧
  (∀ s : Sys2Proof.Machine.State, s.lsc.dead = false → ∃ t l, Sys2Proof.Machine.exec .lscFault s = .next t ∧ t.lsc.fault = true ∧ t.lsc.queue = s.lsc.queue ++ l.map (fun c => (4, c, 0)) ∧ t.lsc.lost = l ∧
    (∀ c, c ∈ l ↔ (c < 288 ∧ s.getF (Sys2Proof.Machine.F.PORT_STATUS_STATE (c / 9)) = 3)) ∧ t.fld = s.fld) ∧
  (∀ s : Sys2Proof.Machine.State, s.lsc.dead = true → ∃ t, Sys2Proof.Machine.exec .lscFault s = .next t ∧ t.lsc.queue = s.lsc.queue ∧ t.lsc.fault = true) ∧
  (∀ (q : List Sys2Proof.Byte) (op c v : Nat) (l : List (Nat × Nat × Nat)) (s : Sys2Proof.Machine.State), s.lsc.queue = (op, c, v) :: l →
    (q.length = 8 → Sys2Proof.fieldAt q 6 2 = Sys2Proof.Machine.crcOf 0 (q.take 6) % 65536 → Sys2Proof.fieldAt q 5 1 = s.lsc.seq % 256 →
      (op ≠ 4 → ∃ t, Sys2Proof.Machine.exec (.lscResponse q) s = .next t ∧ t.lsc = { s.lsc with queue := l, seq := (s.lsc.seq + 1) % 256, tries := 0 } ∧ t.codes = s.codes) ∧
      (op = 4 → ∃ t, Sys2Proof.Machine.exec (.lscResponse q) s = .next t ∧ t.lsc.queue = l ∧ t.lsc.seq = (s.lsc.seq + 1) % 256 ∧ t.lsc.tries = 0 ∧ t.lsc.lost = s.lsc.lost.filter (fun x => x != c) ∧
        t.codes = s.codes ++ (if Sys2Proof.bit (Sys2Proof.fieldAt q 3 2) 1 = true then (if s.lsc.spares.any (fun x => x.2 == c) = true then [] else [Sys2Proof.Machine.C.LASER_SPARED])
          else if Sys2Proof.bit (Sys2Proof.fieldAt q 3 2) 0 = true then [] else [Sys2Proof.Machine.C.LASER_SPARES_EXHAUSTED]))) ∧
    (q.length ≠ 8 ∨ Sys2Proof.fieldAt q 5 1 ≠ s.lsc.seq % 256 →
      (s.lsc.tries < 2 → Sys2Proof.Machine.exec (.lscResponse q) s = .next { s with lsc := { s.lsc with tries := s.lsc.tries + 1 } }) ∧
      (2 ≤ s.lsc.tries → ∃ t, Sys2Proof.Machine.exec (.lscResponse q) s = .next t ∧ t.lsc = { s.lsc with tries := 0, dead := true, queue := [] } ∧ t.codes = s.codes ++ [Sys2Proof.Machine.C.LSC_LINK_LOST])) ∧
    (s.lsc.tries < 2 → ∃ t, Sys2Proof.Machine.exec .lscTimeout s = .next t ∧ t.lsc = { s.lsc with tries := s.lsc.tries + 1 } ∧ t.clk.ns = s.clk.ns + 10000 ∧ t.codes = s.codes) ∧
    (2 ≤ s.lsc.tries → ∃ t, Sys2Proof.Machine.exec .lscTimeout s = .next t ∧ t.lsc = { s.lsc with tries := 0, dead := true, queue := [] } ∧ t.codes = s.codes ++ [Sys2Proof.Machine.C.LSC_LINK_LOST])) ∧
  (∀ (q : List Sys2Proof.Byte) (s : Sys2Proof.Machine.State), s.lsc.queue = [] → Sys2Proof.Machine.exec (.lscResponse q) s = .next s) ∧
  (∀ (d : Nat) (s : Sys2Proof.Machine.State),
    (∃ t, Sys2Proof.Machine.exec .jtagIdcode s = .next t ∧ t.tap.instr = 1 ∧ t.tap.boundary = s.tap.boundary ∧ t.out = ⟨0, if s.fused.stepping = 2 then 0x20A045A7 else 0x10A045A7, []⟩ ∧ t.fld = s.fld) ∧
    Sys2Proof.Machine.exec .jtagBypass s = .next { s with tap := { s.tap with instr := 0 } } ∧
    (s.inDarkroom = false → Sys2Proof.Machine.exec (.jtagSamplePreload d) s = Sys2Proof.Machine.exec .jtagBypass s ∧ Sys2Proof.Machine.exec .jtagExtest s = Sys2Proof.Machine.exec .jtagBypass s) ∧
    (s.inDarkroom = true → Sys2Proof.Machine.exec .jtagExtest s = .next { s with tap := { s.tap with instr := 3 } } ∧ ∃ t, Sys2Proof.Machine.exec (.jtagSamplePreload d) s = .next t ∧ t.tap = ⟨2, d⟩ ∧ t.out.code = 0 ∧ t.fld = s.fld))
end

