-- ==== Sys2Proof/Laws/State.lean ====
section
/-! SUPPORT. What the named operations leave as it was: one lemma per operation and field, and read after write of dies, partitions, cores and fields. -/
namespace Sys2Proof.Machine

/-! `setF` changes fld at most. -/

@[simp] theorem State.setF_pending (s : State) (f : Fld) (v : Nat) : (s.setF f v).pending = s.pending := rfl
@[simp] theorem State.setF_clk (s : State) (f : Fld) (v : Nat) : (s.setF f v).clk = s.clk := rfl
@[simp] theorem State.setF_fused (s : State) (f : Fld) (v : Nat) : (s.setF f v).fused = s.fused := rfl
@[simp] theorem State.setF_defer (s : State) (f : Fld) (v : Nat) : (s.setF f v).defer = s.defer := rfl
@[simp] theorem State.setF_mem (s : State) (f : Fld) (v : Nat) : (s.setF f v).mem = s.mem := rfl
@[simp] theorem State.setF_undef (s : State) (f : Fld) (v : Nat) : (s.setF f v).undef = s.undef := rfl
@[simp] theorem State.setF_ecc (s : State) (f : Fld) (v : Nat) : (s.setF f v).ecc = s.ecc := rfl
@[simp] theorem State.setF_poison (s : State) (f : Fld) (v : Nat) : (s.setF f v).poison = s.poison := rfl
@[simp] theorem State.setF_acf (s : State) (f : Fld) (v : Nat) : (s.setF f v).acf = s.acf := rfl
@[simp] theorem State.setF_acfEcc (s : State) (f : Fld) (v : Nat) : (s.setF f v).acfEcc = s.acfEcc := rfl
@[simp] theorem State.setF_a0 (s : State) (f : Fld) (v : Nat) : (s.setF f v).a0 = s.a0 := rfl
@[simp] theorem State.setF_a1 (s : State) (f : Fld) (v : Nat) : (s.setF f v).a1 = s.a1 := rfl
@[simp] theorem State.setF_a2 (s : State) (f : Fld) (v : Nat) : (s.setF f v).a2 = s.a2 := rfl
@[simp] theorem State.setF_a3 (s : State) (f : Fld) (v : Nat) : (s.setF f v).a3 = s.a3 := rfl
@[simp] theorem State.setF_p0 (s : State) (f : Fld) (v : Nat) : (s.setF f v).p0 = s.p0 := rfl
@[simp] theorem State.setF_p1 (s : State) (f : Fld) (v : Nat) : (s.setF f v).p1 = s.p1 := rfl
@[simp] theorem State.setF_p2 (s : State) (f : Fld) (v : Nat) : (s.setF f v).p2 = s.p2 := rfl
@[simp] theorem State.setF_p3 (s : State) (f : Fld) (v : Nat) : (s.setF f v).p3 = s.p3 := rfl
@[simp] theorem State.setF_owner (s : State) (f : Fld) (v : Nat) : (s.setF f v).owner = s.owner := rfl
@[simp] theorem State.setF_dark (s : State) (f : Fld) (v : Nat) : (s.setF f v).dark = s.dark := rfl
@[simp] theorem State.setF_reports (s : State) (f : Fld) (v : Nat) : (s.setF f v).reports = s.reports := rfl
@[simp] theorem State.setF_jqueue (s : State) (f : Fld) (v : Nat) : (s.setF f v).jqueue = s.jqueue := rfl
@[simp] theorem State.setF_journal (s : State) (f : Fld) (v : Nat) : (s.setF f v).journal = s.journal := rfl
@[simp] theorem State.setF_bringIn (s : State) (f : Fld) (v : Nat) : (s.setF f v).bringIn = s.bringIn := rfl
@[simp] theorem State.setF_spareBad (s : State) (f : Fld) (v : Nat) : (s.setF f v).spareBad = s.spareBad := rfl
@[simp] theorem State.setF_hbmWait (s : State) (f : Fld) (v : Nat) : (s.setF f v).hbmWait = s.hbmWait := rfl
@[simp] theorem State.setF_rowMap (s : State) (f : Fld) (v : Nat) : (s.setF f v).rowMap = s.rowMap := rfl
@[simp] theorem State.setF_colMap (s : State) (f : Fld) (v : Nat) : (s.setF f v).colMap = s.colMap := rfl
@[simp] theorem State.setF_th (s : State) (f : Fld) (v : Nat) : (s.setF f v).th = s.th := rfl
@[simp] theorem State.setF_fab (s : State) (f : Fld) (v : Nat) : (s.setF f v).fab = s.fab := rfl
@[simp] theorem State.setF_coll (s : State) (f : Fld) (v : Nat) : (s.setF f v).coll = s.coll := rfl
@[simp] theorem State.setF_nicOwner (s : State) (f : Fld) (v : Nat) : (s.setF f v).nicOwner = s.nicOwner := rfl
@[simp] theorem State.setF_sve (s : State) (f : Fld) (v : Nat) : (s.setF f v).sve = s.sve := rfl
@[simp] theorem State.setF_sveJob (s : State) (f : Fld) (v : Nat) : (s.setF f v).sveJob = s.sveJob := rfl
@[simp] theorem State.setF_cor (s : State) (f : Fld) (v : Nat) : (s.setF f v).cor = s.cor := rfl
@[simp] theorem State.setF_cores (s : State) (f : Fld) (v : Nat) : (s.setF f v).cores = s.cores := rfl
@[simp] theorem State.setF_ccache (s : State) (f : Fld) (v : Nat) : (s.setF f v).ccache = s.ccache := rfl
@[simp] theorem State.setF_pmc (s : State) (f : Fld) (v : Nat) : (s.setF f v).pmc = s.pmc := rfl
@[simp] theorem State.setF_mig (s : State) (f : Fld) (v : Nat) : (s.setF f v).mig = s.mig := rfl
@[simp] theorem State.setF_cfg (s : State) (f : Fld) (v : Nat) : (s.setF f v).cfg = s.cfg := rfl
@[simp] theorem State.setF_ckpt (s : State) (f : Fld) (v : Nat) : (s.setF f v).ckpt = s.ckpt := rfl
@[simp] theorem State.setF_csm (s : State) (f : Fld) (v : Nat) : (s.setF f v).csm = s.csm := rfl
@[simp] theorem State.setF_csArm (s : State) (f : Fld) (v : Nat) : (s.setF f v).csArm = s.csArm := rfl
@[simp] theorem State.setF_tbTries (s : State) (f : Fld) (v : Nat) : (s.setF f v).tbTries = s.tbTries := rfl
@[simp] theorem State.setF_boot (s : State) (f : Fld) (v : Nat) : (s.setF f v).boot = s.boot := rfl
@[simp] theorem State.setF_dr (s : State) (f : Fld) (v : Nat) : (s.setF f v).dr = s.dr := rfl
@[simp] theorem State.setF_lsc (s : State) (f : Fld) (v : Nat) : (s.setF f v).lsc = s.lsc := rfl
@[simp] theorem State.setF_tap (s : State) (f : Fld) (v : Nat) : (s.setF f v).tap = s.tap := rfl
@[simp] theorem State.setF_pdieCool (s : State) (f : Fld) (v : Nat) : (s.setF f v).pdieCool = s.pdieCool := rfl
@[simp] theorem State.setF_fdieWait (s : State) (f : Fld) (v : Nat) : (s.setF f v).fdieWait = s.fdieWait := rfl
@[simp] theorem State.setF_fails (s : State) (f : Fld) (v : Nat) : (s.setF f v).fails = s.fails := rfl
@[simp] theorem State.setF_acfHist (s : State) (f : Fld) (v : Nat) : (s.setF f v).acfHist = s.acfHist := rfl
@[simp] theorem State.setF_hist (s : State) (f : Fld) (v : Nat) : (s.setF f v).hist = s.hist := rfl
@[simp] theorem State.setF_w1c (s : State) (f : Fld) (v : Nat) : (s.setF f v).w1c = s.w1c := rfl
@[simp] theorem State.setF_svc (s : State) (f : Fld) (v : Nat) : (s.setF f v).svc = s.svc := rfl
@[simp] theorem State.setF_nvm (s : State) (f : Fld) (v : Nat) : (s.setF f v).nvm = s.nvm := rfl
@[simp] theorem State.setF_out (s : State) (f : Fld) (v : Nat) : (s.setF f v).out = s.out := rfl
@[simp] theorem State.setF_free (s : State) (f : Fld) (v : Nat) : (s.setF f v).free = s.free := rfl

/-! `satF` changes fld at most. -/

@[simp] theorem State.satF_pending (s : State) (f : Fld) (n : Nat) : (s.satF f n).pending = s.pending := rfl
@[simp] theorem State.satF_clk (s : State) (f : Fld) (n : Nat) : (s.satF f n).clk = s.clk := rfl
@[simp] theorem State.satF_fused (s : State) (f : Fld) (n : Nat) : (s.satF f n).fused = s.fused := rfl
@[simp] theorem State.satF_defer (s : State) (f : Fld) (n : Nat) : (s.satF f n).defer = s.defer := rfl
@[simp] theorem State.satF_mem (s : State) (f : Fld) (n : Nat) : (s.satF f n).mem = s.mem := rfl
@[simp] theorem State.satF_undef (s : State) (f : Fld) (n : Nat) : (s.satF f n).undef = s.undef := rfl
@[simp] theorem State.satF_ecc (s : State) (f : Fld) (n : Nat) : (s.satF f n).ecc = s.ecc := rfl
@[simp] theorem State.satF_poison (s : State) (f : Fld) (n : Nat) : (s.satF f n).poison = s.poison := rfl
@[simp] theorem State.satF_acf (s : State) (f : Fld) (n : Nat) : (s.satF f n).acf = s.acf := rfl
@[simp] theorem State.satF_acfEcc (s : State) (f : Fld) (n : Nat) : (s.satF f n).acfEcc = s.acfEcc := rfl
@[simp] theorem State.satF_a0 (s : State) (f : Fld) (n : Nat) : (s.satF f n).a0 = s.a0 := rfl
@[simp] theorem State.satF_a1 (s : State) (f : Fld) (n : Nat) : (s.satF f n).a1 = s.a1 := rfl
@[simp] theorem State.satF_a2 (s : State) (f : Fld) (n : Nat) : (s.satF f n).a2 = s.a2 := rfl
@[simp] theorem State.satF_a3 (s : State) (f : Fld) (n : Nat) : (s.satF f n).a3 = s.a3 := rfl
@[simp] theorem State.satF_p0 (s : State) (f : Fld) (n : Nat) : (s.satF f n).p0 = s.p0 := rfl
@[simp] theorem State.satF_p1 (s : State) (f : Fld) (n : Nat) : (s.satF f n).p1 = s.p1 := rfl
@[simp] theorem State.satF_p2 (s : State) (f : Fld) (n : Nat) : (s.satF f n).p2 = s.p2 := rfl
@[simp] theorem State.satF_p3 (s : State) (f : Fld) (n : Nat) : (s.satF f n).p3 = s.p3 := rfl
@[simp] theorem State.satF_owner (s : State) (f : Fld) (n : Nat) : (s.satF f n).owner = s.owner := rfl
@[simp] theorem State.satF_dark (s : State) (f : Fld) (n : Nat) : (s.satF f n).dark = s.dark := rfl
@[simp] theorem State.satF_reports (s : State) (f : Fld) (n : Nat) : (s.satF f n).reports = s.reports := rfl
@[simp] theorem State.satF_jqueue (s : State) (f : Fld) (n : Nat) : (s.satF f n).jqueue = s.jqueue := rfl
@[simp] theorem State.satF_journal (s : State) (f : Fld) (n : Nat) : (s.satF f n).journal = s.journal := rfl
@[simp] theorem State.satF_bringIn (s : State) (f : Fld) (n : Nat) : (s.satF f n).bringIn = s.bringIn := rfl
@[simp] theorem State.satF_spareBad (s : State) (f : Fld) (n : Nat) : (s.satF f n).spareBad = s.spareBad := rfl
@[simp] theorem State.satF_hbmWait (s : State) (f : Fld) (n : Nat) : (s.satF f n).hbmWait = s.hbmWait := rfl
@[simp] theorem State.satF_rowMap (s : State) (f : Fld) (n : Nat) : (s.satF f n).rowMap = s.rowMap := rfl
@[simp] theorem State.satF_colMap (s : State) (f : Fld) (n : Nat) : (s.satF f n).colMap = s.colMap := rfl
@[simp] theorem State.satF_th (s : State) (f : Fld) (n : Nat) : (s.satF f n).th = s.th := rfl
@[simp] theorem State.satF_fab (s : State) (f : Fld) (n : Nat) : (s.satF f n).fab = s.fab := rfl
@[simp] theorem State.satF_coll (s : State) (f : Fld) (n : Nat) : (s.satF f n).coll = s.coll := rfl
@[simp] theorem State.satF_nicOwner (s : State) (f : Fld) (n : Nat) : (s.satF f n).nicOwner = s.nicOwner := rfl
@[simp] theorem State.satF_sve (s : State) (f : Fld) (n : Nat) : (s.satF f n).sve = s.sve := rfl
@[simp] theorem State.satF_sveJob (s : State) (f : Fld) (n : Nat) : (s.satF f n).sveJob = s.sveJob := rfl
@[simp] theorem State.satF_cor (s : State) (f : Fld) (n : Nat) : (s.satF f n).cor = s.cor := rfl
@[simp] theorem State.satF_cores (s : State) (f : Fld) (n : Nat) : (s.satF f n).cores = s.cores := rfl
@[simp] theorem State.satF_ccache (s : State) (f : Fld) (n : Nat) : (s.satF f n).ccache = s.ccache := rfl
@[simp] theorem State.satF_pmc (s : State) (f : Fld) (n : Nat) : (s.satF f n).pmc = s.pmc := rfl
@[simp] theorem State.satF_mig (s : State) (f : Fld) (n : Nat) : (s.satF f n).mig = s.mig := rfl
@[simp] theorem State.satF_cfg (s : State) (f : Fld) (n : Nat) : (s.satF f n).cfg = s.cfg := rfl
@[simp] theorem State.satF_ckpt (s : State) (f : Fld) (n : Nat) : (s.satF f n).ckpt = s.ckpt := rfl
@[simp] theorem State.satF_csm (s : State) (f : Fld) (n : Nat) : (s.satF f n).csm = s.csm := rfl
@[simp] theorem State.satF_csArm (s : State) (f : Fld) (n : Nat) : (s.satF f n).csArm = s.csArm := rfl
@[simp] theorem State.satF_tbTries (s : State) (f : Fld) (n : Nat) : (s.satF f n).tbTries = s.tbTries := rfl
@[simp] theorem State.satF_boot (s : State) (f : Fld) (n : Nat) : (s.satF f n).boot = s.boot := rfl
@[simp] theorem State.satF_dr (s : State) (f : Fld) (n : Nat) : (s.satF f n).dr = s.dr := rfl
@[simp] theorem State.satF_lsc (s : State) (f : Fld) (n : Nat) : (s.satF f n).lsc = s.lsc := rfl
@[simp] theorem State.satF_tap (s : State) (f : Fld) (n : Nat) : (s.satF f n).tap = s.tap := rfl
@[simp] theorem State.satF_pdieCool (s : State) (f : Fld) (n : Nat) : (s.satF f n).pdieCool = s.pdieCool := rfl
@[simp] theorem State.satF_fdieWait (s : State) (f : Fld) (n : Nat) : (s.satF f n).fdieWait = s.fdieWait := rfl
@[simp] theorem State.satF_fails (s : State) (f : Fld) (n : Nat) : (s.satF f n).fails = s.fails := rfl
@[simp] theorem State.satF_acfHist (s : State) (f : Fld) (n : Nat) : (s.satF f n).acfHist = s.acfHist := rfl
@[simp] theorem State.satF_hist (s : State) (f : Fld) (n : Nat) : (s.satF f n).hist = s.hist := rfl
@[simp] theorem State.satF_w1c (s : State) (f : Fld) (n : Nat) : (s.satF f n).w1c = s.w1c := rfl
@[simp] theorem State.satF_svc (s : State) (f : Fld) (n : Nat) : (s.satF f n).svc = s.svc := rfl
@[simp] theorem State.satF_nvm (s : State) (f : Fld) (n : Nat) : (s.satF f n).nvm = s.nvm := rfl
@[simp] theorem State.satF_out (s : State) (f : Fld) (n : Nat) : (s.satF f n).out = s.out := rfl
@[simp] theorem State.satF_free (s : State) (f : Fld) (n : Nat) : (s.satF f n).free = s.free := rfl

/-! `count` changes fld at most. -/

@[simp] theorem State.count_pending (s : State) (e i n : Nat) : (s.count e i n).pending = s.pending := rfl
@[simp] theorem State.count_clk (s : State) (e i n : Nat) : (s.count e i n).clk = s.clk := rfl
@[simp] theorem State.count_fused (s : State) (e i n : Nat) : (s.count e i n).fused = s.fused := rfl
@[simp] theorem State.count_defer (s : State) (e i n : Nat) : (s.count e i n).defer = s.defer := rfl
@[simp] theorem State.count_mem (s : State) (e i n : Nat) : (s.count e i n).mem = s.mem := rfl
@[simp] theorem State.count_undef (s : State) (e i n : Nat) : (s.count e i n).undef = s.undef := rfl
@[simp] theorem State.count_ecc (s : State) (e i n : Nat) : (s.count e i n).ecc = s.ecc := rfl
@[simp] theorem State.count_poison (s : State) (e i n : Nat) : (s.count e i n).poison = s.poison := rfl
@[simp] theorem State.count_acf (s : State) (e i n : Nat) : (s.count e i n).acf = s.acf := rfl
@[simp] theorem State.count_acfEcc (s : State) (e i n : Nat) : (s.count e i n).acfEcc = s.acfEcc := rfl
@[simp] theorem State.count_a0 (s : State) (e i n : Nat) : (s.count e i n).a0 = s.a0 := rfl
@[simp] theorem State.count_a1 (s : State) (e i n : Nat) : (s.count e i n).a1 = s.a1 := rfl
@[simp] theorem State.count_a2 (s : State) (e i n : Nat) : (s.count e i n).a2 = s.a2 := rfl
@[simp] theorem State.count_a3 (s : State) (e i n : Nat) : (s.count e i n).a3 = s.a3 := rfl
@[simp] theorem State.count_p0 (s : State) (e i n : Nat) : (s.count e i n).p0 = s.p0 := rfl
@[simp] theorem State.count_p1 (s : State) (e i n : Nat) : (s.count e i n).p1 = s.p1 := rfl
@[simp] theorem State.count_p2 (s : State) (e i n : Nat) : (s.count e i n).p2 = s.p2 := rfl
@[simp] theorem State.count_p3 (s : State) (e i n : Nat) : (s.count e i n).p3 = s.p3 := rfl
@[simp] theorem State.count_owner (s : State) (e i n : Nat) : (s.count e i n).owner = s.owner := rfl
@[simp] theorem State.count_dark (s : State) (e i n : Nat) : (s.count e i n).dark = s.dark := rfl
@[simp] theorem State.count_reports (s : State) (e i n : Nat) : (s.count e i n).reports = s.reports := rfl
@[simp] theorem State.count_jqueue (s : State) (e i n : Nat) : (s.count e i n).jqueue = s.jqueue := rfl
@[simp] theorem State.count_journal (s : State) (e i n : Nat) : (s.count e i n).journal = s.journal := rfl
@[simp] theorem State.count_bringIn (s : State) (e i n : Nat) : (s.count e i n).bringIn = s.bringIn := rfl
@[simp] theorem State.count_spareBad (s : State) (e i n : Nat) : (s.count e i n).spareBad = s.spareBad := rfl
@[simp] theorem State.count_hbmWait (s : State) (e i n : Nat) : (s.count e i n).hbmWait = s.hbmWait := rfl
@[simp] theorem State.count_rowMap (s : State) (e i n : Nat) : (s.count e i n).rowMap = s.rowMap := rfl
@[simp] theorem State.count_colMap (s : State) (e i n : Nat) : (s.count e i n).colMap = s.colMap := rfl
@[simp] theorem State.count_th (s : State) (e i n : Nat) : (s.count e i n).th = s.th := rfl
@[simp] theorem State.count_fab (s : State) (e i n : Nat) : (s.count e i n).fab = s.fab := rfl
@[simp] theorem State.count_coll (s : State) (e i n : Nat) : (s.count e i n).coll = s.coll := rfl
@[simp] theorem State.count_nicOwner (s : State) (e i n : Nat) : (s.count e i n).nicOwner = s.nicOwner := rfl
@[simp] theorem State.count_sve (s : State) (e i n : Nat) : (s.count e i n).sve = s.sve := rfl
@[simp] theorem State.count_sveJob (s : State) (e i n : Nat) : (s.count e i n).sveJob = s.sveJob := rfl
@[simp] theorem State.count_cor (s : State) (e i n : Nat) : (s.count e i n).cor = s.cor := rfl
@[simp] theorem State.count_cores (s : State) (e i n : Nat) : (s.count e i n).cores = s.cores := rfl
@[simp] theorem State.count_ccache (s : State) (e i n : Nat) : (s.count e i n).ccache = s.ccache := rfl
@[simp] theorem State.count_pmc (s : State) (e i n : Nat) : (s.count e i n).pmc = s.pmc := rfl
@[simp] theorem State.count_mig (s : State) (e i n : Nat) : (s.count e i n).mig = s.mig := rfl
@[simp] theorem State.count_cfg (s : State) (e i n : Nat) : (s.count e i n).cfg = s.cfg := rfl
@[simp] theorem State.count_ckpt (s : State) (e i n : Nat) : (s.count e i n).ckpt = s.ckpt := rfl
@[simp] theorem State.count_csm (s : State) (e i n : Nat) : (s.count e i n).csm = s.csm := rfl
@[simp] theorem State.count_csArm (s : State) (e i n : Nat) : (s.count e i n).csArm = s.csArm := rfl
@[simp] theorem State.count_tbTries (s : State) (e i n : Nat) : (s.count e i n).tbTries = s.tbTries := rfl
@[simp] theorem State.count_boot (s : State) (e i n : Nat) : (s.count e i n).boot = s.boot := rfl
@[simp] theorem State.count_dr (s : State) (e i n : Nat) : (s.count e i n).dr = s.dr := rfl
@[simp] theorem State.count_lsc (s : State) (e i n : Nat) : (s.count e i n).lsc = s.lsc := rfl
@[simp] theorem State.count_tap (s : State) (e i n : Nat) : (s.count e i n).tap = s.tap := rfl
@[simp] theorem State.count_pdieCool (s : State) (e i n : Nat) : (s.count e i n).pdieCool = s.pdieCool := rfl
@[simp] theorem State.count_fdieWait (s : State) (e i n : Nat) : (s.count e i n).fdieWait = s.fdieWait := rfl
@[simp] theorem State.count_fails (s : State) (e i n : Nat) : (s.count e i n).fails = s.fails := rfl
@[simp] theorem State.count_acfHist (s : State) (e i n : Nat) : (s.count e i n).acfHist = s.acfHist := rfl
@[simp] theorem State.count_hist (s : State) (e i n : Nat) : (s.count e i n).hist = s.hist := rfl
@[simp] theorem State.count_w1c (s : State) (e i n : Nat) : (s.count e i n).w1c = s.w1c := rfl
@[simp] theorem State.count_svc (s : State) (e i n : Nat) : (s.count e i n).svc = s.svc := rfl
@[simp] theorem State.count_nvm (s : State) (e i n : Nat) : (s.count e i n).nvm = s.nvm := rfl
@[simp] theorem State.count_out (s : State) (e i n : Nat) : (s.count e i n).out = s.out := rfl
@[simp] theorem State.count_free (s : State) (e i n : Nat) : (s.count e i n).free = s.free := rfl

/-! `setFrameState` changes fld at most. -/

@[simp] theorem State.setFrameState_pending (s : State) (p st : Nat) : (s.setFrameState p st).pending = s.pending := rfl
@[simp] theorem State.setFrameState_clk (s : State) (p st : Nat) : (s.setFrameState p st).clk = s.clk := rfl
@[simp] theorem State.setFrameState_fused (s : State) (p st : Nat) : (s.setFrameState p st).fused = s.fused := rfl
@[simp] theorem State.setFrameState_defer (s : State) (p st : Nat) : (s.setFrameState p st).defer = s.defer := rfl
@[simp] theorem State.setFrameState_mem (s : State) (p st : Nat) : (s.setFrameState p st).mem = s.mem := rfl
@[simp] theorem State.setFrameState_undef (s : State) (p st : Nat) : (s.setFrameState p st).undef = s.undef := rfl
@[simp] theorem State.setFrameState_ecc (s : State) (p st : Nat) : (s.setFrameState p st).ecc = s.ecc := rfl
@[simp] theorem State.setFrameState_poison (s : State) (p st : Nat) : (s.setFrameState p st).poison = s.poison := rfl
@[simp] theorem State.setFrameState_acf (s : State) (p st : Nat) : (s.setFrameState p st).acf = s.acf := rfl
@[simp] theorem State.setFrameState_acfEcc (s : State) (p st : Nat) : (s.setFrameState p st).acfEcc = s.acfEcc := rfl
@[simp] theorem State.setFrameState_a0 (s : State) (p st : Nat) : (s.setFrameState p st).a0 = s.a0 := rfl
@[simp] theorem State.setFrameState_a1 (s : State) (p st : Nat) : (s.setFrameState p st).a1 = s.a1 := rfl
@[simp] theorem State.setFrameState_a2 (s : State) (p st : Nat) : (s.setFrameState p st).a2 = s.a2 := rfl
@[simp] theorem State.setFrameState_a3 (s : State) (p st : Nat) : (s.setFrameState p st).a3 = s.a3 := rfl
@[simp] theorem State.setFrameState_p0 (s : State) (p st : Nat) : (s.setFrameState p st).p0 = s.p0 := rfl
@[simp] theorem State.setFrameState_p1 (s : State) (p st : Nat) : (s.setFrameState p st).p1 = s.p1 := rfl
@[simp] theorem State.setFrameState_p2 (s : State) (p st : Nat) : (s.setFrameState p st).p2 = s.p2 := rfl
@[simp] theorem State.setFrameState_p3 (s : State) (p st : Nat) : (s.setFrameState p st).p3 = s.p3 := rfl
@[simp] theorem State.setFrameState_owner (s : State) (p st : Nat) : (s.setFrameState p st).owner = s.owner := rfl
@[simp] theorem State.setFrameState_dark (s : State) (p st : Nat) : (s.setFrameState p st).dark = s.dark := rfl
@[simp] theorem State.setFrameState_reports (s : State) (p st : Nat) : (s.setFrameState p st).reports = s.reports := rfl
@[simp] theorem State.setFrameState_jqueue (s : State) (p st : Nat) : (s.setFrameState p st).jqueue = s.jqueue := rfl
@[simp] theorem State.setFrameState_journal (s : State) (p st : Nat) : (s.setFrameState p st).journal = s.journal := rfl
@[simp] theorem State.setFrameState_bringIn (s : State) (p st : Nat) : (s.setFrameState p st).bringIn = s.bringIn := rfl
@[simp] theorem State.setFrameState_spareBad (s : State) (p st : Nat) : (s.setFrameState p st).spareBad = s.spareBad := rfl
@[simp] theorem State.setFrameState_hbmWait (s : State) (p st : Nat) : (s.setFrameState p st).hbmWait = s.hbmWait := rfl
@[simp] theorem State.setFrameState_rowMap (s : State) (p st : Nat) : (s.setFrameState p st).rowMap = s.rowMap := rfl
@[simp] theorem State.setFrameState_colMap (s : State) (p st : Nat) : (s.setFrameState p st).colMap = s.colMap := rfl
@[simp] theorem State.setFrameState_th (s : State) (p st : Nat) : (s.setFrameState p st).th = s.th := rfl
@[simp] theorem State.setFrameState_fab (s : State) (p st : Nat) : (s.setFrameState p st).fab = s.fab := rfl
@[simp] theorem State.setFrameState_coll (s : State) (p st : Nat) : (s.setFrameState p st).coll = s.coll := rfl
@[simp] theorem State.setFrameState_nicOwner (s : State) (p st : Nat) : (s.setFrameState p st).nicOwner = s.nicOwner := rfl
@[simp] theorem State.setFrameState_sve (s : State) (p st : Nat) : (s.setFrameState p st).sve = s.sve := rfl
@[simp] theorem State.setFrameState_sveJob (s : State) (p st : Nat) : (s.setFrameState p st).sveJob = s.sveJob := rfl
@[simp] theorem State.setFrameState_cor (s : State) (p st : Nat) : (s.setFrameState p st).cor = s.cor := rfl
@[simp] theorem State.setFrameState_cores (s : State) (p st : Nat) : (s.setFrameState p st).cores = s.cores := rfl
@[simp] theorem State.setFrameState_ccache (s : State) (p st : Nat) : (s.setFrameState p st).ccache = s.ccache := rfl
@[simp] theorem State.setFrameState_pmc (s : State) (p st : Nat) : (s.setFrameState p st).pmc = s.pmc := rfl
@[simp] theorem State.setFrameState_mig (s : State) (p st : Nat) : (s.setFrameState p st).mig = s.mig := rfl
@[simp] theorem State.setFrameState_cfg (s : State) (p st : Nat) : (s.setFrameState p st).cfg = s.cfg := rfl
@[simp] theorem State.setFrameState_ckpt (s : State) (p st : Nat) : (s.setFrameState p st).ckpt = s.ckpt := rfl
@[simp] theorem State.setFrameState_csm (s : State) (p st : Nat) : (s.setFrameState p st).csm = s.csm := rfl
@[simp] theorem State.setFrameState_csArm (s : State) (p st : Nat) : (s.setFrameState p st).csArm = s.csArm := rfl
@[simp] theorem State.setFrameState_tbTries (s : State) (p st : Nat) : (s.setFrameState p st).tbTries = s.tbTries := rfl
@[simp] theorem State.setFrameState_boot (s : State) (p st : Nat) : (s.setFrameState p st).boot = s.boot := rfl
@[simp] theorem State.setFrameState_dr (s : State) (p st : Nat) : (s.setFrameState p st).dr = s.dr := rfl
@[simp] theorem State.setFrameState_lsc (s : State) (p st : Nat) : (s.setFrameState p st).lsc = s.lsc := rfl
@[simp] theorem State.setFrameState_tap (s : State) (p st : Nat) : (s.setFrameState p st).tap = s.tap := rfl
@[simp] theorem State.setFrameState_pdieCool (s : State) (p st : Nat) : (s.setFrameState p st).pdieCool = s.pdieCool := rfl
@[simp] theorem State.setFrameState_fdieWait (s : State) (p st : Nat) : (s.setFrameState p st).fdieWait = s.fdieWait := rfl
@[simp] theorem State.setFrameState_fails (s : State) (p st : Nat) : (s.setFrameState p st).fails = s.fails := rfl
@[simp] theorem State.setFrameState_acfHist (s : State) (p st : Nat) : (s.setFrameState p st).acfHist = s.acfHist := rfl
@[simp] theorem State.setFrameState_hist (s : State) (p st : Nat) : (s.setFrameState p st).hist = s.hist := rfl
@[simp] theorem State.setFrameState_w1c (s : State) (p st : Nat) : (s.setFrameState p st).w1c = s.w1c := rfl
@[simp] theorem State.setFrameState_svc (s : State) (p st : Nat) : (s.setFrameState p st).svc = s.svc := rfl
@[simp] theorem State.setFrameState_nvm (s : State) (p st : Nat) : (s.setFrameState p st).nvm = s.nvm := rfl
@[simp] theorem State.setFrameState_out (s : State) (p st : Nat) : (s.setFrameState p st).out = s.out := rfl
@[simp] theorem State.setFrameState_free (s : State) (p st : Nat) : (s.setFrameState p st).free = s.free := rfl

/-! `answer` changes out at most. -/

@[simp] theorem State.answer_pending (s : State) (c v : Nat) : (s.answer c v).pending = s.pending := rfl
@[simp] theorem State.answer_clk (s : State) (c v : Nat) : (s.answer c v).clk = s.clk := rfl
@[simp] theorem State.answer_fused (s : State) (c v : Nat) : (s.answer c v).fused = s.fused := rfl
@[simp] theorem State.answer_fld (s : State) (c v : Nat) : (s.answer c v).fld = s.fld := rfl
@[simp] theorem State.answer_defer (s : State) (c v : Nat) : (s.answer c v).defer = s.defer := rfl
@[simp] theorem State.answer_mem (s : State) (c v : Nat) : (s.answer c v).mem = s.mem := rfl
@[simp] theorem State.answer_undef (s : State) (c v : Nat) : (s.answer c v).undef = s.undef := rfl
@[simp] theorem State.answer_ecc (s : State) (c v : Nat) : (s.answer c v).ecc = s.ecc := rfl
@[simp] theorem State.answer_poison (s : State) (c v : Nat) : (s.answer c v).poison = s.poison := rfl
@[simp] theorem State.answer_acf (s : State) (c v : Nat) : (s.answer c v).acf = s.acf := rfl
@[simp] theorem State.answer_acfEcc (s : State) (c v : Nat) : (s.answer c v).acfEcc = s.acfEcc := rfl
@[simp] theorem State.answer_a0 (s : State) (c v : Nat) : (s.answer c v).a0 = s.a0 := rfl
@[simp] theorem State.answer_a1 (s : State) (c v : Nat) : (s.answer c v).a1 = s.a1 := rfl
@[simp] theorem State.answer_a2 (s : State) (c v : Nat) : (s.answer c v).a2 = s.a2 := rfl
@[simp] theorem State.answer_a3 (s : State) (c v : Nat) : (s.answer c v).a3 = s.a3 := rfl
@[simp] theorem State.answer_p0 (s : State) (c v : Nat) : (s.answer c v).p0 = s.p0 := rfl
@[simp] theorem State.answer_p1 (s : State) (c v : Nat) : (s.answer c v).p1 = s.p1 := rfl
@[simp] theorem State.answer_p2 (s : State) (c v : Nat) : (s.answer c v).p2 = s.p2 := rfl
@[simp] theorem State.answer_p3 (s : State) (c v : Nat) : (s.answer c v).p3 = s.p3 := rfl
@[simp] theorem State.answer_owner (s : State) (c v : Nat) : (s.answer c v).owner = s.owner := rfl
@[simp] theorem State.answer_dark (s : State) (c v : Nat) : (s.answer c v).dark = s.dark := rfl
@[simp] theorem State.answer_reports (s : State) (c v : Nat) : (s.answer c v).reports = s.reports := rfl
@[simp] theorem State.answer_jqueue (s : State) (c v : Nat) : (s.answer c v).jqueue = s.jqueue := rfl
@[simp] theorem State.answer_journal (s : State) (c v : Nat) : (s.answer c v).journal = s.journal := rfl
@[simp] theorem State.answer_bringIn (s : State) (c v : Nat) : (s.answer c v).bringIn = s.bringIn := rfl
@[simp] theorem State.answer_spareBad (s : State) (c v : Nat) : (s.answer c v).spareBad = s.spareBad := rfl
@[simp] theorem State.answer_hbmWait (s : State) (c v : Nat) : (s.answer c v).hbmWait = s.hbmWait := rfl
@[simp] theorem State.answer_rowMap (s : State) (c v : Nat) : (s.answer c v).rowMap = s.rowMap := rfl
@[simp] theorem State.answer_colMap (s : State) (c v : Nat) : (s.answer c v).colMap = s.colMap := rfl
@[simp] theorem State.answer_th (s : State) (c v : Nat) : (s.answer c v).th = s.th := rfl
@[simp] theorem State.answer_fab (s : State) (c v : Nat) : (s.answer c v).fab = s.fab := rfl
@[simp] theorem State.answer_coll (s : State) (c v : Nat) : (s.answer c v).coll = s.coll := rfl
@[simp] theorem State.answer_nicOwner (s : State) (c v : Nat) : (s.answer c v).nicOwner = s.nicOwner := rfl
@[simp] theorem State.answer_sve (s : State) (c v : Nat) : (s.answer c v).sve = s.sve := rfl
@[simp] theorem State.answer_sveJob (s : State) (c v : Nat) : (s.answer c v).sveJob = s.sveJob := rfl
@[simp] theorem State.answer_cor (s : State) (c v : Nat) : (s.answer c v).cor = s.cor := rfl
@[simp] theorem State.answer_cores (s : State) (c v : Nat) : (s.answer c v).cores = s.cores := rfl
@[simp] theorem State.answer_ccache (s : State) (c v : Nat) : (s.answer c v).ccache = s.ccache := rfl
@[simp] theorem State.answer_pmc (s : State) (c v : Nat) : (s.answer c v).pmc = s.pmc := rfl
@[simp] theorem State.answer_mig (s : State) (c v : Nat) : (s.answer c v).mig = s.mig := rfl
@[simp] theorem State.answer_cfg (s : State) (c v : Nat) : (s.answer c v).cfg = s.cfg := rfl
@[simp] theorem State.answer_ckpt (s : State) (c v : Nat) : (s.answer c v).ckpt = s.ckpt := rfl
@[simp] theorem State.answer_csm (s : State) (c v : Nat) : (s.answer c v).csm = s.csm := rfl
@[simp] theorem State.answer_csArm (s : State) (c v : Nat) : (s.answer c v).csArm = s.csArm := rfl
@[simp] theorem State.answer_tbTries (s : State) (c v : Nat) : (s.answer c v).tbTries = s.tbTries := rfl
@[simp] theorem State.answer_boot (s : State) (c v : Nat) : (s.answer c v).boot = s.boot := rfl
@[simp] theorem State.answer_dr (s : State) (c v : Nat) : (s.answer c v).dr = s.dr := rfl
@[simp] theorem State.answer_lsc (s : State) (c v : Nat) : (s.answer c v).lsc = s.lsc := rfl
@[simp] theorem State.answer_tap (s : State) (c v : Nat) : (s.answer c v).tap = s.tap := rfl
@[simp] theorem State.answer_pdieCool (s : State) (c v : Nat) : (s.answer c v).pdieCool = s.pdieCool := rfl
@[simp] theorem State.answer_fdieWait (s : State) (c v : Nat) : (s.answer c v).fdieWait = s.fdieWait := rfl
@[simp] theorem State.answer_fails (s : State) (c v : Nat) : (s.answer c v).fails = s.fails := rfl
@[simp] theorem State.answer_acfHist (s : State) (c v : Nat) : (s.answer c v).acfHist = s.acfHist := rfl
@[simp] theorem State.answer_hist (s : State) (c v : Nat) : (s.answer c v).hist = s.hist := rfl
@[simp] theorem State.answer_w1c (s : State) (c v : Nat) : (s.answer c v).w1c = s.w1c := rfl
@[simp] theorem State.answer_svc (s : State) (c v : Nat) : (s.answer c v).svc = s.svc := rfl
@[simp] theorem State.answer_nvm (s : State) (c v : Nat) : (s.answer c v).nvm = s.nvm := rfl
@[simp] theorem State.answer_free (s : State) (c v : Nat) : (s.answer c v).free = s.free := rfl

/-! `answerBytes` changes out at most. -/

@[simp] theorem State.answerBytes_pending (s : State) (c : Nat) (b : List Byte) : (s.answerBytes c b).pending = s.pending := rfl
@[simp] theorem State.answerBytes_clk (s : State) (c : Nat) (b : List Byte) : (s.answerBytes c b).clk = s.clk := rfl
@[simp] theorem State.answerBytes_fused (s : State) (c : Nat) (b : List Byte) : (s.answerBytes c b).fused = s.fused := rfl
@[simp] theorem State.answerBytes_fld (s : State) (c : Nat) (b : List Byte) : (s.answerBytes c b).fld = s.fld := rfl
@[simp] theorem State.answerBytes_defer (s : State) (c : Nat) (b : List Byte) : (s.answerBytes c b).defer = s.defer := rfl
@[simp] theorem State.answerBytes_mem (s : State) (c : Nat) (b : List Byte) : (s.answerBytes c b).mem = s.mem := rfl
@[simp] theorem State.answerBytes_undef (s : State) (c : Nat) (b : List Byte) : (s.answerBytes c b).undef = s.undef := rfl
@[simp] theorem State.answerBytes_ecc (s : State) (c : Nat) (b : List Byte) : (s.answerBytes c b).ecc = s.ecc := rfl
@[simp] theorem State.answerBytes_poison (s : State) (c : Nat) (b : List Byte) : (s.answerBytes c b).poison = s.poison := rfl
@[simp] theorem State.answerBytes_acf (s : State) (c : Nat) (b : List Byte) : (s.answerBytes c b).acf = s.acf := rfl
@[simp] theorem State.answerBytes_acfEcc (s : State) (c : Nat) (b : List Byte) : (s.answerBytes c b).acfEcc = s.acfEcc := rfl
@[simp] theorem State.answerBytes_a0 (s : State) (c : Nat) (b : List Byte) : (s.answerBytes c b).a0 = s.a0 := rfl
@[simp] theorem State.answerBytes_a1 (s : State) (c : Nat) (b : List Byte) : (s.answerBytes c b).a1 = s.a1 := rfl
@[simp] theorem State.answerBytes_a2 (s : State) (c : Nat) (b : List Byte) : (s.answerBytes c b).a2 = s.a2 := rfl
@[simp] theorem State.answerBytes_a3 (s : State) (c : Nat) (b : List Byte) : (s.answerBytes c b).a3 = s.a3 := rfl
@[simp] theorem State.answerBytes_p0 (s : State) (c : Nat) (b : List Byte) : (s.answerBytes c b).p0 = s.p0 := rfl
@[simp] theorem State.answerBytes_p1 (s : State) (c : Nat) (b : List Byte) : (s.answerBytes c b).p1 = s.p1 := rfl
@[simp] theorem State.answerBytes_p2 (s : State) (c : Nat) (b : List Byte) : (s.answerBytes c b).p2 = s.p2 := rfl
@[simp] theorem State.answerBytes_p3 (s : State) (c : Nat) (b : List Byte) : (s.answerBytes c b).p3 = s.p3 := rfl
@[simp] theorem State.answerBytes_owner (s : State) (c : Nat) (b : List Byte) : (s.answerBytes c b).owner = s.owner := rfl
@[simp] theorem State.answerBytes_dark (s : State) (c : Nat) (b : List Byte) : (s.answerBytes c b).dark = s.dark := rfl
@[simp] theorem State.answerBytes_reports (s : State) (c : Nat) (b : List Byte) : (s.answerBytes c b).reports = s.reports := rfl
@[simp] theorem State.answerBytes_jqueue (s : State) (c : Nat) (b : List Byte) : (s.answerBytes c b).jqueue = s.jqueue := rfl
@[simp] theorem State.answerBytes_journal (s : State) (c : Nat) (b : List Byte) : (s.answerBytes c b).journal = s.journal := rfl
@[simp] theorem State.answerBytes_bringIn (s : State) (c : Nat) (b : List Byte) : (s.answerBytes c b).bringIn = s.bringIn := rfl
@[simp] theorem State.answerBytes_spareBad (s : State) (c : Nat) (b : List Byte) : (s.answerBytes c b).spareBad = s.spareBad := rfl
@[simp] theorem State.answerBytes_hbmWait (s : State) (c : Nat) (b : List Byte) : (s.answerBytes c b).hbmWait = s.hbmWait := rfl
@[simp] theorem State.answerBytes_rowMap (s : State) (c : Nat) (b : List Byte) : (s.answerBytes c b).rowMap = s.rowMap := rfl
@[simp] theorem State.answerBytes_colMap (s : State) (c : Nat) (b : List Byte) : (s.answerBytes c b).colMap = s.colMap := rfl
@[simp] theorem State.answerBytes_th (s : State) (c : Nat) (b : List Byte) : (s.answerBytes c b).th = s.th := rfl
@[simp] theorem State.answerBytes_fab (s : State) (c : Nat) (b : List Byte) : (s.answerBytes c b).fab = s.fab := rfl
@[simp] theorem State.answerBytes_coll (s : State) (c : Nat) (b : List Byte) : (s.answerBytes c b).coll = s.coll := rfl
@[simp] theorem State.answerBytes_nicOwner (s : State) (c : Nat) (b : List Byte) : (s.answerBytes c b).nicOwner = s.nicOwner := rfl
@[simp] theorem State.answerBytes_sve (s : State) (c : Nat) (b : List Byte) : (s.answerBytes c b).sve = s.sve := rfl
@[simp] theorem State.answerBytes_sveJob (s : State) (c : Nat) (b : List Byte) : (s.answerBytes c b).sveJob = s.sveJob := rfl
@[simp] theorem State.answerBytes_cor (s : State) (c : Nat) (b : List Byte) : (s.answerBytes c b).cor = s.cor := rfl
@[simp] theorem State.answerBytes_cores (s : State) (c : Nat) (b : List Byte) : (s.answerBytes c b).cores = s.cores := rfl
@[simp] theorem State.answerBytes_ccache (s : State) (c : Nat) (b : List Byte) : (s.answerBytes c b).ccache = s.ccache := rfl
@[simp] theorem State.answerBytes_pmc (s : State) (c : Nat) (b : List Byte) : (s.answerBytes c b).pmc = s.pmc := rfl
@[simp] theorem State.answerBytes_mig (s : State) (c : Nat) (b : List Byte) : (s.answerBytes c b).mig = s.mig := rfl
@[simp] theorem State.answerBytes_cfg (s : State) (c : Nat) (b : List Byte) : (s.answerBytes c b).cfg = s.cfg := rfl
@[simp] theorem State.answerBytes_ckpt (s : State) (c : Nat) (b : List Byte) : (s.answerBytes c b).ckpt = s.ckpt := rfl
@[simp] theorem State.answerBytes_csm (s : State) (c : Nat) (b : List Byte) : (s.answerBytes c b).csm = s.csm := rfl
@[simp] theorem State.answerBytes_csArm (s : State) (c : Nat) (b : List Byte) : (s.answerBytes c b).csArm = s.csArm := rfl
@[simp] theorem State.answerBytes_tbTries (s : State) (c : Nat) (b : List Byte) : (s.answerBytes c b).tbTries = s.tbTries := rfl
@[simp] theorem State.answerBytes_boot (s : State) (c : Nat) (b : List Byte) : (s.answerBytes c b).boot = s.boot := rfl
@[simp] theorem State.answerBytes_dr (s : State) (c : Nat) (b : List Byte) : (s.answerBytes c b).dr = s.dr := rfl
@[simp] theorem State.answerBytes_lsc (s : State) (c : Nat) (b : List Byte) : (s.answerBytes c b).lsc = s.lsc := rfl
@[simp] theorem State.answerBytes_tap (s : State) (c : Nat) (b : List Byte) : (s.answerBytes c b).tap = s.tap := rfl
@[simp] theorem State.answerBytes_pdieCool (s : State) (c : Nat) (b : List Byte) : (s.answerBytes c b).pdieCool = s.pdieCool := rfl
@[simp] theorem State.answerBytes_fdieWait (s : State) (c : Nat) (b : List Byte) : (s.answerBytes c b).fdieWait = s.fdieWait := rfl
@[simp] theorem State.answerBytes_fails (s : State) (c : Nat) (b : List Byte) : (s.answerBytes c b).fails = s.fails := rfl
@[simp] theorem State.answerBytes_acfHist (s : State) (c : Nat) (b : List Byte) : (s.answerBytes c b).acfHist = s.acfHist := rfl
@[simp] theorem State.answerBytes_hist (s : State) (c : Nat) (b : List Byte) : (s.answerBytes c b).hist = s.hist := rfl
@[simp] theorem State.answerBytes_w1c (s : State) (c : Nat) (b : List Byte) : (s.answerBytes c b).w1c = s.w1c := rfl
@[simp] theorem State.answerBytes_svc (s : State) (c : Nat) (b : List Byte) : (s.answerBytes c b).svc = s.svc := rfl
@[simp] theorem State.answerBytes_nvm (s : State) (c : Nat) (b : List Byte) : (s.answerBytes c b).nvm = s.nvm := rfl
@[simp] theorem State.answerBytes_free (s : State) (c : Nat) (b : List Byte) : (s.answerBytes c b).free = s.free := rfl

/-! `raiseC` changes reports at most. -/

@[simp] theorem State.raiseC_pending (s : State) (cls code die unit loc kind value : Nat) (b : Bool) : (s.raiseC cls code die unit loc kind value b).pending = s.pending := rfl
@[simp] theorem State.raiseC_clk (s : State) (cls code die unit loc kind value : Nat) (b : Bool) : (s.raiseC cls code die unit loc kind value b).clk = s.clk := rfl
@[simp] theorem State.raiseC_fused (s : State) (cls code die unit loc kind value : Nat) (b : Bool) : (s.raiseC cls code die unit loc kind value b).fused = s.fused := rfl
@[simp] theorem State.raiseC_fld (s : State) (cls code die unit loc kind value : Nat) (b : Bool) : (s.raiseC cls code die unit loc kind value b).fld = s.fld := rfl
@[simp] theorem State.raiseC_defer (s : State) (cls code die unit loc kind value : Nat) (b : Bool) : (s.raiseC cls code die unit loc kind value b).defer = s.defer := rfl
@[simp] theorem State.raiseC_mem (s : State) (cls code die unit loc kind value : Nat) (b : Bool) : (s.raiseC cls code die unit loc kind value b).mem = s.mem := rfl
@[simp] theorem State.raiseC_undef (s : State) (cls code die unit loc kind value : Nat) (b : Bool) : (s.raiseC cls code die unit loc kind value b).undef = s.undef := rfl
@[simp] theorem State.raiseC_ecc (s : State) (cls code die unit loc kind value : Nat) (b : Bool) : (s.raiseC cls code die unit loc kind value b).ecc = s.ecc := rfl
@[simp] theorem State.raiseC_poison (s : State) (cls code die unit loc kind value : Nat) (b : Bool) : (s.raiseC cls code die unit loc kind value b).poison = s.poison := rfl
@[simp] theorem State.raiseC_acf (s : State) (cls code die unit loc kind value : Nat) (b : Bool) : (s.raiseC cls code die unit loc kind value b).acf = s.acf := rfl
@[simp] theorem State.raiseC_acfEcc (s : State) (cls code die unit loc kind value : Nat) (b : Bool) : (s.raiseC cls code die unit loc kind value b).acfEcc = s.acfEcc := rfl
@[simp] theorem State.raiseC_a0 (s : State) (cls code die unit loc kind value : Nat) (b : Bool) : (s.raiseC cls code die unit loc kind value b).a0 = s.a0 := rfl
@[simp] theorem State.raiseC_a1 (s : State) (cls code die unit loc kind value : Nat) (b : Bool) : (s.raiseC cls code die unit loc kind value b).a1 = s.a1 := rfl
@[simp] theorem State.raiseC_a2 (s : State) (cls code die unit loc kind value : Nat) (b : Bool) : (s.raiseC cls code die unit loc kind value b).a2 = s.a2 := rfl
@[simp] theorem State.raiseC_a3 (s : State) (cls code die unit loc kind value : Nat) (b : Bool) : (s.raiseC cls code die unit loc kind value b).a3 = s.a3 := rfl
@[simp] theorem State.raiseC_p0 (s : State) (cls code die unit loc kind value : Nat) (b : Bool) : (s.raiseC cls code die unit loc kind value b).p0 = s.p0 := rfl
@[simp] theorem State.raiseC_p1 (s : State) (cls code die unit loc kind value : Nat) (b : Bool) : (s.raiseC cls code die unit loc kind value b).p1 = s.p1 := rfl
@[simp] theorem State.raiseC_p2 (s : State) (cls code die unit loc kind value : Nat) (b : Bool) : (s.raiseC cls code die unit loc kind value b).p2 = s.p2 := rfl
@[simp] theorem State.raiseC_p3 (s : State) (cls code die unit loc kind value : Nat) (b : Bool) : (s.raiseC cls code die unit loc kind value b).p3 = s.p3 := rfl
@[simp] theorem State.raiseC_owner (s : State) (cls code die unit loc kind value : Nat) (b : Bool) : (s.raiseC cls code die unit loc kind value b).owner = s.owner := rfl
@[simp] theorem State.raiseC_dark (s : State) (cls code die unit loc kind value : Nat) (b : Bool) : (s.raiseC cls code die unit loc kind value b).dark = s.dark := rfl
@[simp] theorem State.raiseC_jqueue (s : State) (cls code die unit loc kind value : Nat) (b : Bool) : (s.raiseC cls code die unit loc kind value b).jqueue = s.jqueue := rfl
@[simp] theorem State.raiseC_journal (s : State) (cls code die unit loc kind value : Nat) (b : Bool) : (s.raiseC cls code die unit loc kind value b).journal = s.journal := rfl
@[simp] theorem State.raiseC_bringIn (s : State) (cls code die unit loc kind value : Nat) (b : Bool) : (s.raiseC cls code die unit loc kind value b).bringIn = s.bringIn := rfl
@[simp] theorem State.raiseC_spareBad (s : State) (cls code die unit loc kind value : Nat) (b : Bool) : (s.raiseC cls code die unit loc kind value b).spareBad = s.spareBad := rfl
@[simp] theorem State.raiseC_hbmWait (s : State) (cls code die unit loc kind value : Nat) (b : Bool) : (s.raiseC cls code die unit loc kind value b).hbmWait = s.hbmWait := rfl
@[simp] theorem State.raiseC_rowMap (s : State) (cls code die unit loc kind value : Nat) (b : Bool) : (s.raiseC cls code die unit loc kind value b).rowMap = s.rowMap := rfl
@[simp] theorem State.raiseC_colMap (s : State) (cls code die unit loc kind value : Nat) (b : Bool) : (s.raiseC cls code die unit loc kind value b).colMap = s.colMap := rfl
@[simp] theorem State.raiseC_th (s : State) (cls code die unit loc kind value : Nat) (b : Bool) : (s.raiseC cls code die unit loc kind value b).th = s.th := rfl
@[simp] theorem State.raiseC_fab (s : State) (cls code die unit loc kind value : Nat) (b : Bool) : (s.raiseC cls code die unit loc kind value b).fab = s.fab := rfl
@[simp] theorem State.raiseC_coll (s : State) (cls code die unit loc kind value : Nat) (b : Bool) : (s.raiseC cls code die unit loc kind value b).coll = s.coll := rfl
@[simp] theorem State.raiseC_nicOwner (s : State) (cls code die unit loc kind value : Nat) (b : Bool) : (s.raiseC cls code die unit loc kind value b).nicOwner = s.nicOwner := rfl
@[simp] theorem State.raiseC_sve (s : State) (cls code die unit loc kind value : Nat) (b : Bool) : (s.raiseC cls code die unit loc kind value b).sve = s.sve := rfl
@[simp] theorem State.raiseC_sveJob (s : State) (cls code die unit loc kind value : Nat) (b : Bool) : (s.raiseC cls code die unit loc kind value b).sveJob = s.sveJob := rfl
@[simp] theorem State.raiseC_cor (s : State) (cls code die unit loc kind value : Nat) (b : Bool) : (s.raiseC cls code die unit loc kind value b).cor = s.cor := rfl
@[simp] theorem State.raiseC_cores (s : State) (cls code die unit loc kind value : Nat) (b : Bool) : (s.raiseC cls code die unit loc kind value b).cores = s.cores := rfl
@[simp] theorem State.raiseC_ccache (s : State) (cls code die unit loc kind value : Nat) (b : Bool) : (s.raiseC cls code die unit loc kind value b).ccache = s.ccache := rfl
@[simp] theorem State.raiseC_pmc (s : State) (cls code die unit loc kind value : Nat) (b : Bool) : (s.raiseC cls code die unit loc kind value b).pmc = s.pmc := rfl
@[simp] theorem State.raiseC_mig (s : State) (cls code die unit loc kind value : Nat) (b : Bool) : (s.raiseC cls code die unit loc kind value b).mig = s.mig := rfl
@[simp] theorem State.raiseC_cfg (s : State) (cls code die unit loc kind value : Nat) (b : Bool) : (s.raiseC cls code die unit loc kind value b).cfg = s.cfg := rfl
@[simp] theorem State.raiseC_ckpt (s : State) (cls code die unit loc kind value : Nat) (b : Bool) : (s.raiseC cls code die unit loc kind value b).ckpt = s.ckpt := rfl
@[simp] theorem State.raiseC_csm (s : State) (cls code die unit loc kind value : Nat) (b : Bool) : (s.raiseC cls code die unit loc kind value b).csm = s.csm := rfl
@[simp] theorem State.raiseC_csArm (s : State) (cls code die unit loc kind value : Nat) (b : Bool) : (s.raiseC cls code die unit loc kind value b).csArm = s.csArm := rfl
@[simp] theorem State.raiseC_tbTries (s : State) (cls code die unit loc kind value : Nat) (b : Bool) : (s.raiseC cls code die unit loc kind value b).tbTries = s.tbTries := rfl
@[simp] theorem State.raiseC_boot (s : State) (cls code die unit loc kind value : Nat) (b : Bool) : (s.raiseC cls code die unit loc kind value b).boot = s.boot := rfl
@[simp] theorem State.raiseC_dr (s : State) (cls code die unit loc kind value : Nat) (b : Bool) : (s.raiseC cls code die unit loc kind value b).dr = s.dr := rfl
@[simp] theorem State.raiseC_lsc (s : State) (cls code die unit loc kind value : Nat) (b : Bool) : (s.raiseC cls code die unit loc kind value b).lsc = s.lsc := rfl
@[simp] theorem State.raiseC_tap (s : State) (cls code die unit loc kind value : Nat) (b : Bool) : (s.raiseC cls code die unit loc kind value b).tap = s.tap := rfl
@[simp] theorem State.raiseC_pdieCool (s : State) (cls code die unit loc kind value : Nat) (b : Bool) : (s.raiseC cls code die unit loc kind value b).pdieCool = s.pdieCool := rfl
@[simp] theorem State.raiseC_fdieWait (s : State) (cls code die unit loc kind value : Nat) (b : Bool) : (s.raiseC cls code die unit loc kind value b).fdieWait = s.fdieWait := rfl
@[simp] theorem State.raiseC_fails (s : State) (cls code die unit loc kind value : Nat) (b : Bool) : (s.raiseC cls code die unit loc kind value b).fails = s.fails := rfl
@[simp] theorem State.raiseC_acfHist (s : State) (cls code die unit loc kind value : Nat) (b : Bool) : (s.raiseC cls code die unit loc kind value b).acfHist = s.acfHist := rfl
@[simp] theorem State.raiseC_hist (s : State) (cls code die unit loc kind value : Nat) (b : Bool) : (s.raiseC cls code die unit loc kind value b).hist = s.hist := rfl
@[simp] theorem State.raiseC_w1c (s : State) (cls code die unit loc kind value : Nat) (b : Bool) : (s.raiseC cls code die unit loc kind value b).w1c = s.w1c := rfl
@[simp] theorem State.raiseC_svc (s : State) (cls code die unit loc kind value : Nat) (b : Bool) : (s.raiseC cls code die unit loc kind value b).svc = s.svc := rfl
@[simp] theorem State.raiseC_nvm (s : State) (cls code die unit loc kind value : Nat) (b : Bool) : (s.raiseC cls code die unit loc kind value b).nvm = s.nvm := rfl
@[simp] theorem State.raiseC_out (s : State) (cls code die unit loc kind value : Nat) (b : Bool) : (s.raiseC cls code die unit loc kind value b).out = s.out := rfl
@[simp] theorem State.raiseC_free (s : State) (cls code die unit loc kind value : Nat) (b : Bool) : (s.raiseC cls code die unit loc kind value b).free = s.free := rfl

/-! `raise` changes reports at most. -/

@[simp] theorem State.raise_pending (s : State) (code die unit loc kind value : Nat) : (s.raise code die unit loc kind value).pending = s.pending := rfl
@[simp] theorem State.raise_clk (s : State) (code die unit loc kind value : Nat) : (s.raise code die unit loc kind value).clk = s.clk := rfl
@[simp] theorem State.raise_fused (s : State) (code die unit loc kind value : Nat) : (s.raise code die unit loc kind value).fused = s.fused := rfl
@[simp] theorem State.raise_fld (s : State) (code die unit loc kind value : Nat) : (s.raise code die unit loc kind value).fld = s.fld := rfl
@[simp] theorem State.raise_defer (s : State) (code die unit loc kind value : Nat) : (s.raise code die unit loc kind value).defer = s.defer := rfl
@[simp] theorem State.raise_mem (s : State) (code die unit loc kind value : Nat) : (s.raise code die unit loc kind value).mem = s.mem := rfl
@[simp] theorem State.raise_undef (s : State) (code die unit loc kind value : Nat) : (s.raise code die unit loc kind value).undef = s.undef := rfl
@[simp] theorem State.raise_ecc (s : State) (code die unit loc kind value : Nat) : (s.raise code die unit loc kind value).ecc = s.ecc := rfl
@[simp] theorem State.raise_poison (s : State) (code die unit loc kind value : Nat) : (s.raise code die unit loc kind value).poison = s.poison := rfl
@[simp] theorem State.raise_acf (s : State) (code die unit loc kind value : Nat) : (s.raise code die unit loc kind value).acf = s.acf := rfl
@[simp] theorem State.raise_acfEcc (s : State) (code die unit loc kind value : Nat) : (s.raise code die unit loc kind value).acfEcc = s.acfEcc := rfl
@[simp] theorem State.raise_a0 (s : State) (code die unit loc kind value : Nat) : (s.raise code die unit loc kind value).a0 = s.a0 := rfl
@[simp] theorem State.raise_a1 (s : State) (code die unit loc kind value : Nat) : (s.raise code die unit loc kind value).a1 = s.a1 := rfl
@[simp] theorem State.raise_a2 (s : State) (code die unit loc kind value : Nat) : (s.raise code die unit loc kind value).a2 = s.a2 := rfl
@[simp] theorem State.raise_a3 (s : State) (code die unit loc kind value : Nat) : (s.raise code die unit loc kind value).a3 = s.a3 := rfl
@[simp] theorem State.raise_p0 (s : State) (code die unit loc kind value : Nat) : (s.raise code die unit loc kind value).p0 = s.p0 := rfl
@[simp] theorem State.raise_p1 (s : State) (code die unit loc kind value : Nat) : (s.raise code die unit loc kind value).p1 = s.p1 := rfl
@[simp] theorem State.raise_p2 (s : State) (code die unit loc kind value : Nat) : (s.raise code die unit loc kind value).p2 = s.p2 := rfl
@[simp] theorem State.raise_p3 (s : State) (code die unit loc kind value : Nat) : (s.raise code die unit loc kind value).p3 = s.p3 := rfl
@[simp] theorem State.raise_owner (s : State) (code die unit loc kind value : Nat) : (s.raise code die unit loc kind value).owner = s.owner := rfl
@[simp] theorem State.raise_dark (s : State) (code die unit loc kind value : Nat) : (s.raise code die unit loc kind value).dark = s.dark := rfl
@[simp] theorem State.raise_jqueue (s : State) (code die unit loc kind value : Nat) : (s.raise code die unit loc kind value).jqueue = s.jqueue := rfl
@[simp] theorem State.raise_journal (s : State) (code die unit loc kind value : Nat) : (s.raise code die unit loc kind value).journal = s.journal := rfl
@[simp] theorem State.raise_bringIn (s : State) (code die unit loc kind value : Nat) : (s.raise code die unit loc kind value).bringIn = s.bringIn := rfl
@[simp] theorem State.raise_spareBad (s : State) (code die unit loc kind value : Nat) : (s.raise code die unit loc kind value).spareBad = s.spareBad := rfl
@[simp] theorem State.raise_hbmWait (s : State) (code die unit loc kind value : Nat) : (s.raise code die unit loc kind value).hbmWait = s.hbmWait := rfl
@[simp] theorem State.raise_rowMap (s : State) (code die unit loc kind value : Nat) : (s.raise code die unit loc kind value).rowMap = s.rowMap := rfl
@[simp] theorem State.raise_colMap (s : State) (code die unit loc kind value : Nat) : (s.raise code die unit loc kind value).colMap = s.colMap := rfl
@[simp] theorem State.raise_th (s : State) (code die unit loc kind value : Nat) : (s.raise code die unit loc kind value).th = s.th := rfl
@[simp] theorem State.raise_fab (s : State) (code die unit loc kind value : Nat) : (s.raise code die unit loc kind value).fab = s.fab := rfl
@[simp] theorem State.raise_coll (s : State) (code die unit loc kind value : Nat) : (s.raise code die unit loc kind value).coll = s.coll := rfl
@[simp] theorem State.raise_nicOwner (s : State) (code die unit loc kind value : Nat) : (s.raise code die unit loc kind value).nicOwner = s.nicOwner := rfl
@[simp] theorem State.raise_sve (s : State) (code die unit loc kind value : Nat) : (s.raise code die unit loc kind value).sve = s.sve := rfl
@[simp] theorem State.raise_sveJob (s : State) (code die unit loc kind value : Nat) : (s.raise code die unit loc kind value).sveJob = s.sveJob := rfl
@[simp] theorem State.raise_cor (s : State) (code die unit loc kind value : Nat) : (s.raise code die unit loc kind value).cor = s.cor := rfl
@[simp] theorem State.raise_cores (s : State) (code die unit loc kind value : Nat) : (s.raise code die unit loc kind value).cores = s.cores := rfl
@[simp] theorem State.raise_ccache (s : State) (code die unit loc kind value : Nat) : (s.raise code die unit loc kind value).ccache = s.ccache := rfl
@[simp] theorem State.raise_pmc (s : State) (code die unit loc kind value : Nat) : (s.raise code die unit loc kind value).pmc = s.pmc := rfl
@[simp] theorem State.raise_mig (s : State) (code die unit loc kind value : Nat) : (s.raise code die unit loc kind value).mig = s.mig := rfl
@[simp] theorem State.raise_cfg (s : State) (code die unit loc kind value : Nat) : (s.raise code die unit loc kind value).cfg = s.cfg := rfl
@[simp] theorem State.raise_ckpt (s : State) (code die unit loc kind value : Nat) : (s.raise code die unit loc kind value).ckpt = s.ckpt := rfl
@[simp] theorem State.raise_csm (s : State) (code die unit loc kind value : Nat) : (s.raise code die unit loc kind value).csm = s.csm := rfl
@[simp] theorem State.raise_csArm (s : State) (code die unit loc kind value : Nat) : (s.raise code die unit loc kind value).csArm = s.csArm := rfl
@[simp] theorem State.raise_tbTries (s : State) (code die unit loc kind value : Nat) : (s.raise code die unit loc kind value).tbTries = s.tbTries := rfl
@[simp] theorem State.raise_boot (s : State) (code die unit loc kind value : Nat) : (s.raise code die unit loc kind value).boot = s.boot := rfl
@[simp] theorem State.raise_dr (s : State) (code die unit loc kind value : Nat) : (s.raise code die unit loc kind value).dr = s.dr := rfl
@[simp] theorem State.raise_lsc (s : State) (code die unit loc kind value : Nat) : (s.raise code die unit loc kind value).lsc = s.lsc := rfl
@[simp] theorem State.raise_tap (s : State) (code die unit loc kind value : Nat) : (s.raise code die unit loc kind value).tap = s.tap := rfl
@[simp] theorem State.raise_pdieCool (s : State) (code die unit loc kind value : Nat) : (s.raise code die unit loc kind value).pdieCool = s.pdieCool := rfl
@[simp] theorem State.raise_fdieWait (s : State) (code die unit loc kind value : Nat) : (s.raise code die unit loc kind value).fdieWait = s.fdieWait := rfl
@[simp] theorem State.raise_fails (s : State) (code die unit loc kind value : Nat) : (s.raise code die unit loc kind value).fails = s.fails := rfl
@[simp] theorem State.raise_acfHist (s : State) (code die unit loc kind value : Nat) : (s.raise code die unit loc kind value).acfHist = s.acfHist := rfl
@[simp] theorem State.raise_hist (s : State) (code die unit loc kind value : Nat) : (s.raise code die unit loc kind value).hist = s.hist := rfl
@[simp] theorem State.raise_w1c (s : State) (code die unit loc kind value : Nat) : (s.raise code die unit loc kind value).w1c = s.w1c := rfl
@[simp] theorem State.raise_svc (s : State) (code die unit loc kind value : Nat) : (s.raise code die unit loc kind value).svc = s.svc := rfl
@[simp] theorem State.raise_nvm (s : State) (code die unit loc kind value : Nat) : (s.raise code die unit loc kind value).nvm = s.nvm := rfl
@[simp] theorem State.raise_out (s : State) (code die unit loc kind value : Nat) : (s.raise code die unit loc kind value).out = s.out := rfl
@[simp] theorem State.raise_free (s : State) (code die unit loc kind value : Nat) : (s.raise code die unit loc kind value).free = s.free := rfl

/-! `raiseP` changes reports at most. -/

@[simp] theorem State.raiseP_pending (s : State) (p code loc kind value : Nat) : (s.raiseP p code loc kind value).pending = s.pending := rfl
@[simp] theorem State.raiseP_clk (s : State) (p code loc kind value : Nat) : (s.raiseP p code loc kind value).clk = s.clk := rfl
@[simp] theorem State.raiseP_fused (s : State) (p code loc kind value : Nat) : (s.raiseP p code loc kind value).fused = s.fused := rfl
@[simp] theorem State.raiseP_fld (s : State) (p code loc kind value : Nat) : (s.raiseP p code loc kind value).fld = s.fld := rfl
@[simp] theorem State.raiseP_defer (s : State) (p code loc kind value : Nat) : (s.raiseP p code loc kind value).defer = s.defer := rfl
@[simp] theorem State.raiseP_mem (s : State) (p code loc kind value : Nat) : (s.raiseP p code loc kind value).mem = s.mem := rfl
@[simp] theorem State.raiseP_undef (s : State) (p code loc kind value : Nat) : (s.raiseP p code loc kind value).undef = s.undef := rfl
@[simp] theorem State.raiseP_ecc (s : State) (p code loc kind value : Nat) : (s.raiseP p code loc kind value).ecc = s.ecc := rfl
@[simp] theorem State.raiseP_poison (s : State) (p code loc kind value : Nat) : (s.raiseP p code loc kind value).poison = s.poison := rfl
@[simp] theorem State.raiseP_acf (s : State) (p code loc kind value : Nat) : (s.raiseP p code loc kind value).acf = s.acf := rfl
@[simp] theorem State.raiseP_acfEcc (s : State) (p code loc kind value : Nat) : (s.raiseP p code loc kind value).acfEcc = s.acfEcc := rfl
@[simp] theorem State.raiseP_a0 (s : State) (p code loc kind value : Nat) : (s.raiseP p code loc kind value).a0 = s.a0 := rfl
@[simp] theorem State.raiseP_a1 (s : State) (p code loc kind value : Nat) : (s.raiseP p code loc kind value).a1 = s.a1 := rfl
@[simp] theorem State.raiseP_a2 (s : State) (p code loc kind value : Nat) : (s.raiseP p code loc kind value).a2 = s.a2 := rfl
@[simp] theorem State.raiseP_a3 (s : State) (p code loc kind value : Nat) : (s.raiseP p code loc kind value).a3 = s.a3 := rfl
@[simp] theorem State.raiseP_p0 (s : State) (p code loc kind value : Nat) : (s.raiseP p code loc kind value).p0 = s.p0 := rfl
@[simp] theorem State.raiseP_p1 (s : State) (p code loc kind value : Nat) : (s.raiseP p code loc kind value).p1 = s.p1 := rfl
@[simp] theorem State.raiseP_p2 (s : State) (p code loc kind value : Nat) : (s.raiseP p code loc kind value).p2 = s.p2 := rfl
@[simp] theorem State.raiseP_p3 (s : State) (p code loc kind value : Nat) : (s.raiseP p code loc kind value).p3 = s.p3 := rfl
@[simp] theorem State.raiseP_owner (s : State) (p code loc kind value : Nat) : (s.raiseP p code loc kind value).owner = s.owner := rfl
@[simp] theorem State.raiseP_dark (s : State) (p code loc kind value : Nat) : (s.raiseP p code loc kind value).dark = s.dark := rfl
@[simp] theorem State.raiseP_jqueue (s : State) (p code loc kind value : Nat) : (s.raiseP p code loc kind value).jqueue = s.jqueue := rfl
@[simp] theorem State.raiseP_journal (s : State) (p code loc kind value : Nat) : (s.raiseP p code loc kind value).journal = s.journal := rfl
@[simp] theorem State.raiseP_bringIn (s : State) (p code loc kind value : Nat) : (s.raiseP p code loc kind value).bringIn = s.bringIn := rfl
@[simp] theorem State.raiseP_spareBad (s : State) (p code loc kind value : Nat) : (s.raiseP p code loc kind value).spareBad = s.spareBad := rfl
@[simp] theorem State.raiseP_hbmWait (s : State) (p code loc kind value : Nat) : (s.raiseP p code loc kind value).hbmWait = s.hbmWait := rfl
@[simp] theorem State.raiseP_rowMap (s : State) (p code loc kind value : Nat) : (s.raiseP p code loc kind value).rowMap = s.rowMap := rfl
@[simp] theorem State.raiseP_colMap (s : State) (p code loc kind value : Nat) : (s.raiseP p code loc kind value).colMap = s.colMap := rfl
@[simp] theorem State.raiseP_th (s : State) (p code loc kind value : Nat) : (s.raiseP p code loc kind value).th = s.th := rfl
@[simp] theorem State.raiseP_fab (s : State) (p code loc kind value : Nat) : (s.raiseP p code loc kind value).fab = s.fab := rfl
@[simp] theorem State.raiseP_coll (s : State) (p code loc kind value : Nat) : (s.raiseP p code loc kind value).coll = s.coll := rfl
@[simp] theorem State.raiseP_nicOwner (s : State) (p code loc kind value : Nat) : (s.raiseP p code loc kind value).nicOwner = s.nicOwner := rfl
@[simp] theorem State.raiseP_sve (s : State) (p code loc kind value : Nat) : (s.raiseP p code loc kind value).sve = s.sve := rfl
@[simp] theorem State.raiseP_sveJob (s : State) (p code loc kind value : Nat) : (s.raiseP p code loc kind value).sveJob = s.sveJob := rfl
@[simp] theorem State.raiseP_cor (s : State) (p code loc kind value : Nat) : (s.raiseP p code loc kind value).cor = s.cor := rfl
@[simp] theorem State.raiseP_cores (s : State) (p code loc kind value : Nat) : (s.raiseP p code loc kind value).cores = s.cores := rfl
@[simp] theorem State.raiseP_ccache (s : State) (p code loc kind value : Nat) : (s.raiseP p code loc kind value).ccache = s.ccache := rfl
@[simp] theorem State.raiseP_pmc (s : State) (p code loc kind value : Nat) : (s.raiseP p code loc kind value).pmc = s.pmc := rfl
@[simp] theorem State.raiseP_mig (s : State) (p code loc kind value : Nat) : (s.raiseP p code loc kind value).mig = s.mig := rfl
@[simp] theorem State.raiseP_cfg (s : State) (p code loc kind value : Nat) : (s.raiseP p code loc kind value).cfg = s.cfg := rfl
@[simp] theorem State.raiseP_ckpt (s : State) (p code loc kind value : Nat) : (s.raiseP p code loc kind value).ckpt = s.ckpt := rfl
@[simp] theorem State.raiseP_csm (s : State) (p code loc kind value : Nat) : (s.raiseP p code loc kind value).csm = s.csm := rfl
@[simp] theorem State.raiseP_csArm (s : State) (p code loc kind value : Nat) : (s.raiseP p code loc kind value).csArm = s.csArm := rfl
@[simp] theorem State.raiseP_tbTries (s : State) (p code loc kind value : Nat) : (s.raiseP p code loc kind value).tbTries = s.tbTries := rfl
@[simp] theorem State.raiseP_boot (s : State) (p code loc kind value : Nat) : (s.raiseP p code loc kind value).boot = s.boot := rfl
@[simp] theorem State.raiseP_dr (s : State) (p code loc kind value : Nat) : (s.raiseP p code loc kind value).dr = s.dr := rfl
@[simp] theorem State.raiseP_lsc (s : State) (p code loc kind value : Nat) : (s.raiseP p code loc kind value).lsc = s.lsc := rfl
@[simp] theorem State.raiseP_tap (s : State) (p code loc kind value : Nat) : (s.raiseP p code loc kind value).tap = s.tap := rfl
@[simp] theorem State.raiseP_pdieCool (s : State) (p code loc kind value : Nat) : (s.raiseP p code loc kind value).pdieCool = s.pdieCool := rfl
@[simp] theorem State.raiseP_fdieWait (s : State) (p code loc kind value : Nat) : (s.raiseP p code loc kind value).fdieWait = s.fdieWait := rfl
@[simp] theorem State.raiseP_fails (s : State) (p code loc kind value : Nat) : (s.raiseP p code loc kind value).fails = s.fails := rfl
@[simp] theorem State.raiseP_acfHist (s : State) (p code loc kind value : Nat) : (s.raiseP p code loc kind value).acfHist = s.acfHist := rfl
@[simp] theorem State.raiseP_hist (s : State) (p code loc kind value : Nat) : (s.raiseP p code loc kind value).hist = s.hist := rfl
@[simp] theorem State.raiseP_w1c (s : State) (p code loc kind value : Nat) : (s.raiseP p code loc kind value).w1c = s.w1c := rfl
@[simp] theorem State.raiseP_svc (s : State) (p code loc kind value : Nat) : (s.raiseP p code loc kind value).svc = s.svc := rfl
@[simp] theorem State.raiseP_nvm (s : State) (p code loc kind value : Nat) : (s.raiseP p code loc kind value).nvm = s.nvm := rfl
@[simp] theorem State.raiseP_out (s : State) (p code loc kind value : Nat) : (s.raiseP p code loc kind value).out = s.out := rfl
@[simp] theorem State.raiseP_free (s : State) (p code loc kind value : Nat) : (s.raiseP p code loc kind value).free = s.free := rfl

/-! `setByte` changes mem at most. -/

@[simp] theorem State.setByte_pending (s : State) (a : Nat) (b : Byte) : (s.setByte a b).pending = s.pending := rfl
@[simp] theorem State.setByte_clk (s : State) (a : Nat) (b : Byte) : (s.setByte a b).clk = s.clk := rfl
@[simp] theorem State.setByte_fused (s : State) (a : Nat) (b : Byte) : (s.setByte a b).fused = s.fused := rfl
@[simp] theorem State.setByte_fld (s : State) (a : Nat) (b : Byte) : (s.setByte a b).fld = s.fld := rfl
@[simp] theorem State.setByte_defer (s : State) (a : Nat) (b : Byte) : (s.setByte a b).defer = s.defer := rfl
@[simp] theorem State.setByte_undef (s : State) (a : Nat) (b : Byte) : (s.setByte a b).undef = s.undef := rfl
@[simp] theorem State.setByte_ecc (s : State) (a : Nat) (b : Byte) : (s.setByte a b).ecc = s.ecc := rfl
@[simp] theorem State.setByte_poison (s : State) (a : Nat) (b : Byte) : (s.setByte a b).poison = s.poison := rfl
@[simp] theorem State.setByte_acf (s : State) (a : Nat) (b : Byte) : (s.setByte a b).acf = s.acf := rfl
@[simp] theorem State.setByte_acfEcc (s : State) (a : Nat) (b : Byte) : (s.setByte a b).acfEcc = s.acfEcc := rfl
@[simp] theorem State.setByte_a0 (s : State) (a : Nat) (b : Byte) : (s.setByte a b).a0 = s.a0 := rfl
@[simp] theorem State.setByte_a1 (s : State) (a : Nat) (b : Byte) : (s.setByte a b).a1 = s.a1 := rfl
@[simp] theorem State.setByte_a2 (s : State) (a : Nat) (b : Byte) : (s.setByte a b).a2 = s.a2 := rfl
@[simp] theorem State.setByte_a3 (s : State) (a : Nat) (b : Byte) : (s.setByte a b).a3 = s.a3 := rfl
@[simp] theorem State.setByte_p0 (s : State) (a : Nat) (b : Byte) : (s.setByte a b).p0 = s.p0 := rfl
@[simp] theorem State.setByte_p1 (s : State) (a : Nat) (b : Byte) : (s.setByte a b).p1 = s.p1 := rfl
@[simp] theorem State.setByte_p2 (s : State) (a : Nat) (b : Byte) : (s.setByte a b).p2 = s.p2 := rfl
@[simp] theorem State.setByte_p3 (s : State) (a : Nat) (b : Byte) : (s.setByte a b).p3 = s.p3 := rfl
@[simp] theorem State.setByte_owner (s : State) (a : Nat) (b : Byte) : (s.setByte a b).owner = s.owner := rfl
@[simp] theorem State.setByte_dark (s : State) (a : Nat) (b : Byte) : (s.setByte a b).dark = s.dark := rfl
@[simp] theorem State.setByte_reports (s : State) (a : Nat) (b : Byte) : (s.setByte a b).reports = s.reports := rfl
@[simp] theorem State.setByte_jqueue (s : State) (a : Nat) (b : Byte) : (s.setByte a b).jqueue = s.jqueue := rfl
@[simp] theorem State.setByte_journal (s : State) (a : Nat) (b : Byte) : (s.setByte a b).journal = s.journal := rfl
@[simp] theorem State.setByte_bringIn (s : State) (a : Nat) (b : Byte) : (s.setByte a b).bringIn = s.bringIn := rfl
@[simp] theorem State.setByte_spareBad (s : State) (a : Nat) (b : Byte) : (s.setByte a b).spareBad = s.spareBad := rfl
@[simp] theorem State.setByte_hbmWait (s : State) (a : Nat) (b : Byte) : (s.setByte a b).hbmWait = s.hbmWait := rfl
@[simp] theorem State.setByte_rowMap (s : State) (a : Nat) (b : Byte) : (s.setByte a b).rowMap = s.rowMap := rfl
@[simp] theorem State.setByte_colMap (s : State) (a : Nat) (b : Byte) : (s.setByte a b).colMap = s.colMap := rfl
@[simp] theorem State.setByte_th (s : State) (a : Nat) (b : Byte) : (s.setByte a b).th = s.th := rfl
@[simp] theorem State.setByte_fab (s : State) (a : Nat) (b : Byte) : (s.setByte a b).fab = s.fab := rfl
@[simp] theorem State.setByte_coll (s : State) (a : Nat) (b : Byte) : (s.setByte a b).coll = s.coll := rfl
@[simp] theorem State.setByte_nicOwner (s : State) (a : Nat) (b : Byte) : (s.setByte a b).nicOwner = s.nicOwner := rfl
@[simp] theorem State.setByte_sve (s : State) (a : Nat) (b : Byte) : (s.setByte a b).sve = s.sve := rfl
@[simp] theorem State.setByte_sveJob (s : State) (a : Nat) (b : Byte) : (s.setByte a b).sveJob = s.sveJob := rfl
@[simp] theorem State.setByte_cor (s : State) (a : Nat) (b : Byte) : (s.setByte a b).cor = s.cor := rfl
@[simp] theorem State.setByte_cores (s : State) (a : Nat) (b : Byte) : (s.setByte a b).cores = s.cores := rfl
@[simp] theorem State.setByte_ccache (s : State) (a : Nat) (b : Byte) : (s.setByte a b).ccache = s.ccache := rfl
@[simp] theorem State.setByte_pmc (s : State) (a : Nat) (b : Byte) : (s.setByte a b).pmc = s.pmc := rfl
@[simp] theorem State.setByte_mig (s : State) (a : Nat) (b : Byte) : (s.setByte a b).mig = s.mig := rfl
@[simp] theorem State.setByte_cfg (s : State) (a : Nat) (b : Byte) : (s.setByte a b).cfg = s.cfg := rfl
@[simp] theorem State.setByte_ckpt (s : State) (a : Nat) (b : Byte) : (s.setByte a b).ckpt = s.ckpt := rfl
@[simp] theorem State.setByte_csm (s : State) (a : Nat) (b : Byte) : (s.setByte a b).csm = s.csm := rfl
@[simp] theorem State.setByte_csArm (s : State) (a : Nat) (b : Byte) : (s.setByte a b).csArm = s.csArm := rfl
@[simp] theorem State.setByte_tbTries (s : State) (a : Nat) (b : Byte) : (s.setByte a b).tbTries = s.tbTries := rfl
@[simp] theorem State.setByte_boot (s : State) (a : Nat) (b : Byte) : (s.setByte a b).boot = s.boot := rfl
@[simp] theorem State.setByte_dr (s : State) (a : Nat) (b : Byte) : (s.setByte a b).dr = s.dr := rfl
@[simp] theorem State.setByte_lsc (s : State) (a : Nat) (b : Byte) : (s.setByte a b).lsc = s.lsc := rfl
@[simp] theorem State.setByte_tap (s : State) (a : Nat) (b : Byte) : (s.setByte a b).tap = s.tap := rfl
@[simp] theorem State.setByte_pdieCool (s : State) (a : Nat) (b : Byte) : (s.setByte a b).pdieCool = s.pdieCool := rfl
@[simp] theorem State.setByte_fdieWait (s : State) (a : Nat) (b : Byte) : (s.setByte a b).fdieWait = s.fdieWait := rfl
@[simp] theorem State.setByte_fails (s : State) (a : Nat) (b : Byte) : (s.setByte a b).fails = s.fails := rfl
@[simp] theorem State.setByte_acfHist (s : State) (a : Nat) (b : Byte) : (s.setByte a b).acfHist = s.acfHist := rfl
@[simp] theorem State.setByte_hist (s : State) (a : Nat) (b : Byte) : (s.setByte a b).hist = s.hist := rfl
@[simp] theorem State.setByte_w1c (s : State) (a : Nat) (b : Byte) : (s.setByte a b).w1c = s.w1c := rfl
@[simp] theorem State.setByte_svc (s : State) (a : Nat) (b : Byte) : (s.setByte a b).svc = s.svc := rfl
@[simp] theorem State.setByte_nvm (s : State) (a : Nat) (b : Byte) : (s.setByte a b).nvm = s.nvm := rfl
@[simp] theorem State.setByte_out (s : State) (a : Nat) (b : Byte) : (s.setByte a b).out = s.out := rfl
@[simp] theorem State.setByte_free (s : State) (a : Nat) (b : Byte) : (s.setByte a b).free = s.free := rfl

/-! `advanceNs` changes clk, p0, p1, p2, p3 at most. -/

@[simp] theorem State.advanceNs_pending (s : State) (d : Nat) : (s.advanceNs d).pending = s.pending := rfl
@[simp] theorem State.advanceNs_fused (s : State) (d : Nat) : (s.advanceNs d).fused = s.fused := rfl
@[simp] theorem State.advanceNs_fld (s : State) (d : Nat) : (s.advanceNs d).fld = s.fld := rfl
@[simp] theorem State.advanceNs_defer (s : State) (d : Nat) : (s.advanceNs d).defer = s.defer := rfl
@[simp] theorem State.advanceNs_mem (s : State) (d : Nat) : (s.advanceNs d).mem = s.mem := rfl
@[simp] theorem State.advanceNs_undef (s : State) (d : Nat) : (s.advanceNs d).undef = s.undef := rfl
@[simp] theorem State.advanceNs_ecc (s : State) (d : Nat) : (s.advanceNs d).ecc = s.ecc := rfl
@[simp] theorem State.advanceNs_poison (s : State) (d : Nat) : (s.advanceNs d).poison = s.poison := rfl
@[simp] theorem State.advanceNs_acf (s : State) (d : Nat) : (s.advanceNs d).acf = s.acf := rfl
@[simp] theorem State.advanceNs_acfEcc (s : State) (d : Nat) : (s.advanceNs d).acfEcc = s.acfEcc := rfl
@[simp] theorem State.advanceNs_a0 (s : State) (d : Nat) : (s.advanceNs d).a0 = s.a0 := rfl
@[simp] theorem State.advanceNs_a1 (s : State) (d : Nat) : (s.advanceNs d).a1 = s.a1 := rfl
@[simp] theorem State.advanceNs_a2 (s : State) (d : Nat) : (s.advanceNs d).a2 = s.a2 := rfl
@[simp] theorem State.advanceNs_a3 (s : State) (d : Nat) : (s.advanceNs d).a3 = s.a3 := rfl
@[simp] theorem State.advanceNs_owner (s : State) (d : Nat) : (s.advanceNs d).owner = s.owner := rfl
@[simp] theorem State.advanceNs_dark (s : State) (d : Nat) : (s.advanceNs d).dark = s.dark := rfl
@[simp] theorem State.advanceNs_reports (s : State) (d : Nat) : (s.advanceNs d).reports = s.reports := rfl
@[simp] theorem State.advanceNs_jqueue (s : State) (d : Nat) : (s.advanceNs d).jqueue = s.jqueue := rfl
@[simp] theorem State.advanceNs_journal (s : State) (d : Nat) : (s.advanceNs d).journal = s.journal := rfl
@[simp] theorem State.advanceNs_bringIn (s : State) (d : Nat) : (s.advanceNs d).bringIn = s.bringIn := rfl
@[simp] theorem State.advanceNs_spareBad (s : State) (d : Nat) : (s.advanceNs d).spareBad = s.spareBad := rfl
@[simp] theorem State.advanceNs_hbmWait (s : State) (d : Nat) : (s.advanceNs d).hbmWait = s.hbmWait := rfl
@[simp] theorem State.advanceNs_rowMap (s : State) (d : Nat) : (s.advanceNs d).rowMap = s.rowMap := rfl
@[simp] theorem State.advanceNs_colMap (s : State) (d : Nat) : (s.advanceNs d).colMap = s.colMap := rfl
@[simp] theorem State.advanceNs_th (s : State) (d : Nat) : (s.advanceNs d).th = s.th := rfl
@[simp] theorem State.advanceNs_fab (s : State) (d : Nat) : (s.advanceNs d).fab = s.fab := rfl
@[simp] theorem State.advanceNs_coll (s : State) (d : Nat) : (s.advanceNs d).coll = s.coll := rfl
@[simp] theorem State.advanceNs_nicOwner (s : State) (d : Nat) : (s.advanceNs d).nicOwner = s.nicOwner := rfl
@[simp] theorem State.advanceNs_sve (s : State) (d : Nat) : (s.advanceNs d).sve = s.sve := rfl
@[simp] theorem State.advanceNs_sveJob (s : State) (d : Nat) : (s.advanceNs d).sveJob = s.sveJob := rfl
@[simp] theorem State.advanceNs_cor (s : State) (d : Nat) : (s.advanceNs d).cor = s.cor := rfl
@[simp] theorem State.advanceNs_cores (s : State) (d : Nat) : (s.advanceNs d).cores = s.cores := rfl
@[simp] theorem State.advanceNs_ccache (s : State) (d : Nat) : (s.advanceNs d).ccache = s.ccache := rfl
@[simp] theorem State.advanceNs_pmc (s : State) (d : Nat) : (s.advanceNs d).pmc = s.pmc := rfl
@[simp] theorem State.advanceNs_mig (s : State) (d : Nat) : (s.advanceNs d).mig = s.mig := rfl
@[simp] theorem State.advanceNs_cfg (s : State) (d : Nat) : (s.advanceNs d).cfg = s.cfg := rfl
@[simp] theorem State.advanceNs_ckpt (s : State) (d : Nat) : (s.advanceNs d).ckpt = s.ckpt := rfl
@[simp] theorem State.advanceNs_csm (s : State) (d : Nat) : (s.advanceNs d).csm = s.csm := rfl
@[simp] theorem State.advanceNs_csArm (s : State) (d : Nat) : (s.advanceNs d).csArm = s.csArm := rfl
@[simp] theorem State.advanceNs_tbTries (s : State) (d : Nat) : (s.advanceNs d).tbTries = s.tbTries := rfl
@[simp] theorem State.advanceNs_boot (s : State) (d : Nat) : (s.advanceNs d).boot = s.boot := rfl
@[simp] theorem State.advanceNs_dr (s : State) (d : Nat) : (s.advanceNs d).dr = s.dr := rfl
@[simp] theorem State.advanceNs_lsc (s : State) (d : Nat) : (s.advanceNs d).lsc = s.lsc := rfl
@[simp] theorem State.advanceNs_tap (s : State) (d : Nat) : (s.advanceNs d).tap = s.tap := rfl
@[simp] theorem State.advanceNs_pdieCool (s : State) (d : Nat) : (s.advanceNs d).pdieCool = s.pdieCool := rfl
@[simp] theorem State.advanceNs_fdieWait (s : State) (d : Nat) : (s.advanceNs d).fdieWait = s.fdieWait := rfl
@[simp] theorem State.advanceNs_fails (s : State) (d : Nat) : (s.advanceNs d).fails = s.fails := rfl
@[simp] theorem State.advanceNs_acfHist (s : State) (d : Nat) : (s.advanceNs d).acfHist = s.acfHist := rfl
@[simp] theorem State.advanceNs_hist (s : State) (d : Nat) : (s.advanceNs d).hist = s.hist := rfl
@[simp] theorem State.advanceNs_w1c (s : State) (d : Nat) : (s.advanceNs d).w1c = s.w1c := rfl
@[simp] theorem State.advanceNs_svc (s : State) (d : Nat) : (s.advanceNs d).svc = s.svc := rfl
@[simp] theorem State.advanceNs_nvm (s : State) (d : Nat) : (s.advanceNs d).nvm = s.nvm := rfl
@[simp] theorem State.advanceNs_out (s : State) (d : Nat) : (s.advanceNs d).out = s.out := rfl
@[simp] theorem State.advanceNs_free (s : State) (d : Nat) : (s.advanceNs d).free = s.free := rfl

/-! `setDie` changes a0, a1, a2, a3 at most. -/

@[simp] theorem State.setDie_pending (s : State) (n : Nat) (d : ADie) : (s.setDie n d).pending = s.pending := by unfold State.setDie; split <;> rfl
@[simp] theorem State.setDie_clk (s : State) (n : Nat) (d : ADie) : (s.setDie n d).clk = s.clk := by unfold State.setDie; split <;> rfl
@[simp] theorem State.setDie_fused (s : State) (n : Nat) (d : ADie) : (s.setDie n d).fused = s.fused := by unfold State.setDie; split <;> rfl
@[simp] theorem State.setDie_fld (s : State) (n : Nat) (d : ADie) : (s.setDie n d).fld = s.fld := by unfold State.setDie; split <;> rfl
@[simp] theorem State.setDie_defer (s : State) (n : Nat) (d : ADie) : (s.setDie n d).defer = s.defer := by unfold State.setDie; split <;> rfl
@[simp] theorem State.setDie_mem (s : State) (n : Nat) (d : ADie) : (s.setDie n d).mem = s.mem := by unfold State.setDie; split <;> rfl
@[simp] theorem State.setDie_undef (s : State) (n : Nat) (d : ADie) : (s.setDie n d).undef = s.undef := by unfold State.setDie; split <;> rfl
@[simp] theorem State.setDie_ecc (s : State) (n : Nat) (d : ADie) : (s.setDie n d).ecc = s.ecc := by unfold State.setDie; split <;> rfl
@[simp] theorem State.setDie_poison (s : State) (n : Nat) (d : ADie) : (s.setDie n d).poison = s.poison := by unfold State.setDie; split <;> rfl
@[simp] theorem State.setDie_acf (s : State) (n : Nat) (d : ADie) : (s.setDie n d).acf = s.acf := by unfold State.setDie; split <;> rfl
@[simp] theorem State.setDie_acfEcc (s : State) (n : Nat) (d : ADie) : (s.setDie n d).acfEcc = s.acfEcc := by unfold State.setDie; split <;> rfl
@[simp] theorem State.setDie_p0 (s : State) (n : Nat) (d : ADie) : (s.setDie n d).p0 = s.p0 := by unfold State.setDie; split <;> rfl
@[simp] theorem State.setDie_p1 (s : State) (n : Nat) (d : ADie) : (s.setDie n d).p1 = s.p1 := by unfold State.setDie; split <;> rfl
@[simp] theorem State.setDie_p2 (s : State) (n : Nat) (d : ADie) : (s.setDie n d).p2 = s.p2 := by unfold State.setDie; split <;> rfl
@[simp] theorem State.setDie_p3 (s : State) (n : Nat) (d : ADie) : (s.setDie n d).p3 = s.p3 := by unfold State.setDie; split <;> rfl
@[simp] theorem State.setDie_owner (s : State) (n : Nat) (d : ADie) : (s.setDie n d).owner = s.owner := by unfold State.setDie; split <;> rfl
@[simp] theorem State.setDie_dark (s : State) (n : Nat) (d : ADie) : (s.setDie n d).dark = s.dark := by unfold State.setDie; split <;> rfl
@[simp] theorem State.setDie_reports (s : State) (n : Nat) (d : ADie) : (s.setDie n d).reports = s.reports := by unfold State.setDie; split <;> rfl
@[simp] theorem State.setDie_jqueue (s : State) (n : Nat) (d : ADie) : (s.setDie n d).jqueue = s.jqueue := by unfold State.setDie; split <;> rfl
@[simp] theorem State.setDie_journal (s : State) (n : Nat) (d : ADie) : (s.setDie n d).journal = s.journal := by unfold State.setDie; split <;> rfl
@[simp] theorem State.setDie_bringIn (s : State) (n : Nat) (d : ADie) : (s.setDie n d).bringIn = s.bringIn := by unfold State.setDie; split <;> rfl
@[simp] theorem State.setDie_spareBad (s : State) (n : Nat) (d : ADie) : (s.setDie n d).spareBad = s.spareBad := by unfold State.setDie; split <;> rfl
@[simp] theorem State.setDie_hbmWait (s : State) (n : Nat) (d : ADie) : (s.setDie n d).hbmWait = s.hbmWait := by unfold State.setDie; split <;> rfl
@[simp] theorem State.setDie_rowMap (s : State) (n : Nat) (d : ADie) : (s.setDie n d).rowMap = s.rowMap := by unfold State.setDie; split <;> rfl
@[simp] theorem State.setDie_colMap (s : State) (n : Nat) (d : ADie) : (s.setDie n d).colMap = s.colMap := by unfold State.setDie; split <;> rfl
@[simp] theorem State.setDie_th (s : State) (n : Nat) (d : ADie) : (s.setDie n d).th = s.th := by unfold State.setDie; split <;> rfl
@[simp] theorem State.setDie_fab (s : State) (n : Nat) (d : ADie) : (s.setDie n d).fab = s.fab := by unfold State.setDie; split <;> rfl
@[simp] theorem State.setDie_coll (s : State) (n : Nat) (d : ADie) : (s.setDie n d).coll = s.coll := by unfold State.setDie; split <;> rfl
@[simp] theorem State.setDie_nicOwner (s : State) (n : Nat) (d : ADie) : (s.setDie n d).nicOwner = s.nicOwner := by unfold State.setDie; split <;> rfl
@[simp] theorem State.setDie_sve (s : State) (n : Nat) (d : ADie) : (s.setDie n d).sve = s.sve := by unfold State.setDie; split <;> rfl
@[simp] theorem State.setDie_sveJob (s : State) (n : Nat) (d : ADie) : (s.setDie n d).sveJob = s.sveJob := by unfold State.setDie; split <;> rfl
@[simp] theorem State.setDie_cor (s : State) (n : Nat) (d : ADie) : (s.setDie n d).cor = s.cor := by unfold State.setDie; split <;> rfl
@[simp] theorem State.setDie_cores (s : State) (n : Nat) (d : ADie) : (s.setDie n d).cores = s.cores := by unfold State.setDie; split <;> rfl
@[simp] theorem State.setDie_ccache (s : State) (n : Nat) (d : ADie) : (s.setDie n d).ccache = s.ccache := by unfold State.setDie; split <;> rfl
@[simp] theorem State.setDie_pmc (s : State) (n : Nat) (d : ADie) : (s.setDie n d).pmc = s.pmc := by unfold State.setDie; split <;> rfl
@[simp] theorem State.setDie_mig (s : State) (n : Nat) (d : ADie) : (s.setDie n d).mig = s.mig := by unfold State.setDie; split <;> rfl
@[simp] theorem State.setDie_cfg (s : State) (n : Nat) (d : ADie) : (s.setDie n d).cfg = s.cfg := by unfold State.setDie; split <;> rfl
@[simp] theorem State.setDie_ckpt (s : State) (n : Nat) (d : ADie) : (s.setDie n d).ckpt = s.ckpt := by unfold State.setDie; split <;> rfl
@[simp] theorem State.setDie_csm (s : State) (n : Nat) (d : ADie) : (s.setDie n d).csm = s.csm := by unfold State.setDie; split <;> rfl
@[simp] theorem State.setDie_csArm (s : State) (n : Nat) (d : ADie) : (s.setDie n d).csArm = s.csArm := by unfold State.setDie; split <;> rfl
@[simp] theorem State.setDie_tbTries (s : State) (n : Nat) (d : ADie) : (s.setDie n d).tbTries = s.tbTries := by unfold State.setDie; split <;> rfl
@[simp] theorem State.setDie_boot (s : State) (n : Nat) (d : ADie) : (s.setDie n d).boot = s.boot := by unfold State.setDie; split <;> rfl
@[simp] theorem State.setDie_dr (s : State) (n : Nat) (d : ADie) : (s.setDie n d).dr = s.dr := by unfold State.setDie; split <;> rfl
@[simp] theorem State.setDie_lsc (s : State) (n : Nat) (d : ADie) : (s.setDie n d).lsc = s.lsc := by unfold State.setDie; split <;> rfl
@[simp] theorem State.setDie_tap (s : State) (n : Nat) (d : ADie) : (s.setDie n d).tap = s.tap := by unfold State.setDie; split <;> rfl
@[simp] theorem State.setDie_pdieCool (s : State) (n : Nat) (d : ADie) : (s.setDie n d).pdieCool = s.pdieCool := by unfold State.setDie; split <;> rfl
@[simp] theorem State.setDie_fdieWait (s : State) (n : Nat) (d : ADie) : (s.setDie n d).fdieWait = s.fdieWait := by unfold State.setDie; split <;> rfl
@[simp] theorem State.setDie_fails (s : State) (n : Nat) (d : ADie) : (s.setDie n d).fails = s.fails := by unfold State.setDie; split <;> rfl
@[simp] theorem State.setDie_acfHist (s : State) (n : Nat) (d : ADie) : (s.setDie n d).acfHist = s.acfHist := by unfold State.setDie; split <;> rfl
@[simp] theorem State.setDie_hist (s : State) (n : Nat) (d : ADie) : (s.setDie n d).hist = s.hist := by unfold State.setDie; split <;> rfl
@[simp] theorem State.setDie_w1c (s : State) (n : Nat) (d : ADie) : (s.setDie n d).w1c = s.w1c := by unfold State.setDie; split <;> rfl
@[simp] theorem State.setDie_svc (s : State) (n : Nat) (d : ADie) : (s.setDie n d).svc = s.svc := by unfold State.setDie; split <;> rfl
@[simp] theorem State.setDie_nvm (s : State) (n : Nat) (d : ADie) : (s.setDie n d).nvm = s.nvm := by unfold State.setDie; split <;> rfl
@[simp] theorem State.setDie_out (s : State) (n : Nat) (d : ADie) : (s.setDie n d).out = s.out := by unfold State.setDie; split <;> rfl
@[simp] theorem State.setDie_free (s : State) (n : Nat) (d : ADie) : (s.setDie n d).free = s.free := by unfold State.setDie; split <;> rfl

/-! `setPart` changes p0, p1, p2, p3 at most. -/

@[simp] theorem State.setPart_pending (s : State) (p : Nat) (x : Part) : (s.setPart p x).pending = s.pending := by unfold State.setPart; split <;> rfl
@[simp] theorem State.setPart_clk (s : State) (p : Nat) (x : Part) : (s.setPart p x).clk = s.clk := by unfold State.setPart; split <;> rfl
@[simp] theorem State.setPart_fused (s : State) (p : Nat) (x : Part) : (s.setPart p x).fused = s.fused := by unfold State.setPart; split <;> rfl
@[simp] theorem State.setPart_fld (s : State) (p : Nat) (x : Part) : (s.setPart p x).fld = s.fld := by unfold State.setPart; split <;> rfl
@[simp] theorem State.setPart_defer (s : State) (p : Nat) (x : Part) : (s.setPart p x).defer = s.defer := by unfold State.setPart; split <;> rfl
@[simp] theorem State.setPart_mem (s : State) (p : Nat) (x : Part) : (s.setPart p x).mem = s.mem := by unfold State.setPart; split <;> rfl
@[simp] theorem State.setPart_undef (s : State) (p : Nat) (x : Part) : (s.setPart p x).undef = s.undef := by unfold State.setPart; split <;> rfl
@[simp] theorem State.setPart_ecc (s : State) (p : Nat) (x : Part) : (s.setPart p x).ecc = s.ecc := by unfold State.setPart; split <;> rfl
@[simp] theorem State.setPart_poison (s : State) (p : Nat) (x : Part) : (s.setPart p x).poison = s.poison := by unfold State.setPart; split <;> rfl
@[simp] theorem State.setPart_acf (s : State) (p : Nat) (x : Part) : (s.setPart p x).acf = s.acf := by unfold State.setPart; split <;> rfl
@[simp] theorem State.setPart_acfEcc (s : State) (p : Nat) (x : Part) : (s.setPart p x).acfEcc = s.acfEcc := by unfold State.setPart; split <;> rfl
@[simp] theorem State.setPart_a0 (s : State) (p : Nat) (x : Part) : (s.setPart p x).a0 = s.a0 := by unfold State.setPart; split <;> rfl
@[simp] theorem State.setPart_a1 (s : State) (p : Nat) (x : Part) : (s.setPart p x).a1 = s.a1 := by unfold State.setPart; split <;> rfl
@[simp] theorem State.setPart_a2 (s : State) (p : Nat) (x : Part) : (s.setPart p x).a2 = s.a2 := by unfold State.setPart; split <;> rfl
@[simp] theorem State.setPart_a3 (s : State) (p : Nat) (x : Part) : (s.setPart p x).a3 = s.a3 := by unfold State.setPart; split <;> rfl
@[simp] theorem State.setPart_owner (s : State) (p : Nat) (x : Part) : (s.setPart p x).owner = s.owner := by unfold State.setPart; split <;> rfl
@[simp] theorem State.setPart_dark (s : State) (p : Nat) (x : Part) : (s.setPart p x).dark = s.dark := by unfold State.setPart; split <;> rfl
@[simp] theorem State.setPart_reports (s : State) (p : Nat) (x : Part) : (s.setPart p x).reports = s.reports := by unfold State.setPart; split <;> rfl
@[simp] theorem State.setPart_jqueue (s : State) (p : Nat) (x : Part) : (s.setPart p x).jqueue = s.jqueue := by unfold State.setPart; split <;> rfl
@[simp] theorem State.setPart_journal (s : State) (p : Nat) (x : Part) : (s.setPart p x).journal = s.journal := by unfold State.setPart; split <;> rfl
@[simp] theorem State.setPart_bringIn (s : State) (p : Nat) (x : Part) : (s.setPart p x).bringIn = s.bringIn := by unfold State.setPart; split <;> rfl
@[simp] theorem State.setPart_spareBad (s : State) (p : Nat) (x : Part) : (s.setPart p x).spareBad = s.spareBad := by unfold State.setPart; split <;> rfl
@[simp] theorem State.setPart_hbmWait (s : State) (p : Nat) (x : Part) : (s.setPart p x).hbmWait = s.hbmWait := by unfold State.setPart; split <;> rfl
@[simp] theorem State.setPart_rowMap (s : State) (p : Nat) (x : Part) : (s.setPart p x).rowMap = s.rowMap := by unfold State.setPart; split <;> rfl
@[simp] theorem State.setPart_colMap (s : State) (p : Nat) (x : Part) : (s.setPart p x).colMap = s.colMap := by unfold State.setPart; split <;> rfl
@[simp] theorem State.setPart_th (s : State) (p : Nat) (x : Part) : (s.setPart p x).th = s.th := by unfold State.setPart; split <;> rfl
@[simp] theorem State.setPart_fab (s : State) (p : Nat) (x : Part) : (s.setPart p x).fab = s.fab := by unfold State.setPart; split <;> rfl
@[simp] theorem State.setPart_coll (s : State) (p : Nat) (x : Part) : (s.setPart p x).coll = s.coll := by unfold State.setPart; split <;> rfl
@[simp] theorem State.setPart_nicOwner (s : State) (p : Nat) (x : Part) : (s.setPart p x).nicOwner = s.nicOwner := by unfold State.setPart; split <;> rfl
@[simp] theorem State.setPart_sve (s : State) (p : Nat) (x : Part) : (s.setPart p x).sve = s.sve := by unfold State.setPart; split <;> rfl
@[simp] theorem State.setPart_sveJob (s : State) (p : Nat) (x : Part) : (s.setPart p x).sveJob = s.sveJob := by unfold State.setPart; split <;> rfl
@[simp] theorem State.setPart_cor (s : State) (p : Nat) (x : Part) : (s.setPart p x).cor = s.cor := by unfold State.setPart; split <;> rfl
@[simp] theorem State.setPart_cores (s : State) (p : Nat) (x : Part) : (s.setPart p x).cores = s.cores := by unfold State.setPart; split <;> rfl
@[simp] theorem State.setPart_ccache (s : State) (p : Nat) (x : Part) : (s.setPart p x).ccache = s.ccache := by unfold State.setPart; split <;> rfl
@[simp] theorem State.setPart_pmc (s : State) (p : Nat) (x : Part) : (s.setPart p x).pmc = s.pmc := by unfold State.setPart; split <;> rfl
@[simp] theorem State.setPart_mig (s : State) (p : Nat) (x : Part) : (s.setPart p x).mig = s.mig := by unfold State.setPart; split <;> rfl
@[simp] theorem State.setPart_cfg (s : State) (p : Nat) (x : Part) : (s.setPart p x).cfg = s.cfg := by unfold State.setPart; split <;> rfl
@[simp] theorem State.setPart_ckpt (s : State) (p : Nat) (x : Part) : (s.setPart p x).ckpt = s.ckpt := by unfold State.setPart; split <;> rfl
@[simp] theorem State.setPart_csm (s : State) (p : Nat) (x : Part) : (s.setPart p x).csm = s.csm := by unfold State.setPart; split <;> rfl
@[simp] theorem State.setPart_csArm (s : State) (p : Nat) (x : Part) : (s.setPart p x).csArm = s.csArm := by unfold State.setPart; split <;> rfl
@[simp] theorem State.setPart_tbTries (s : State) (p : Nat) (x : Part) : (s.setPart p x).tbTries = s.tbTries := by unfold State.setPart; split <;> rfl
@[simp] theorem State.setPart_boot (s : State) (p : Nat) (x : Part) : (s.setPart p x).boot = s.boot := by unfold State.setPart; split <;> rfl
@[simp] theorem State.setPart_dr (s : State) (p : Nat) (x : Part) : (s.setPart p x).dr = s.dr := by unfold State.setPart; split <;> rfl
@[simp] theorem State.setPart_lsc (s : State) (p : Nat) (x : Part) : (s.setPart p x).lsc = s.lsc := by unfold State.setPart; split <;> rfl
@[simp] theorem State.setPart_tap (s : State) (p : Nat) (x : Part) : (s.setPart p x).tap = s.tap := by unfold State.setPart; split <;> rfl
@[simp] theorem State.setPart_pdieCool (s : State) (p : Nat) (x : Part) : (s.setPart p x).pdieCool = s.pdieCool := by unfold State.setPart; split <;> rfl
@[simp] theorem State.setPart_fdieWait (s : State) (p : Nat) (x : Part) : (s.setPart p x).fdieWait = s.fdieWait := by unfold State.setPart; split <;> rfl
@[simp] theorem State.setPart_fails (s : State) (p : Nat) (x : Part) : (s.setPart p x).fails = s.fails := by unfold State.setPart; split <;> rfl
@[simp] theorem State.setPart_acfHist (s : State) (p : Nat) (x : Part) : (s.setPart p x).acfHist = s.acfHist := by unfold State.setPart; split <;> rfl
@[simp] theorem State.setPart_hist (s : State) (p : Nat) (x : Part) : (s.setPart p x).hist = s.hist := by unfold State.setPart; split <;> rfl
@[simp] theorem State.setPart_w1c (s : State) (p : Nat) (x : Part) : (s.setPart p x).w1c = s.w1c := by unfold State.setPart; split <;> rfl
@[simp] theorem State.setPart_svc (s : State) (p : Nat) (x : Part) : (s.setPart p x).svc = s.svc := by unfold State.setPart; split <;> rfl
@[simp] theorem State.setPart_nvm (s : State) (p : Nat) (x : Part) : (s.setPart p x).nvm = s.nvm := by unfold State.setPart; split <;> rfl
@[simp] theorem State.setPart_out (s : State) (p : Nat) (x : Part) : (s.setPart p x).out = s.out := by unfold State.setPart; split <;> rfl
@[simp] theorem State.setPart_free (s : State) (p : Nat) (x : Part) : (s.setPart p x).free = s.free := by unfold State.setPart; split <;> rfl

/-! `updDie` changes a0, a1, a2, a3 at most. -/

@[simp] theorem State.updDie_pending (s : State) (n : Nat) (f : ADie → ADie) : (s.updDie n f).pending = s.pending := by simp [State.updDie]
@[simp] theorem State.updDie_clk (s : State) (n : Nat) (f : ADie → ADie) : (s.updDie n f).clk = s.clk := by simp [State.updDie]
@[simp] theorem State.updDie_fused (s : State) (n : Nat) (f : ADie → ADie) : (s.updDie n f).fused = s.fused := by simp [State.updDie]
@[simp] theorem State.updDie_fld (s : State) (n : Nat) (f : ADie → ADie) : (s.updDie n f).fld = s.fld := by simp [State.updDie]
@[simp] theorem State.updDie_defer (s : State) (n : Nat) (f : ADie → ADie) : (s.updDie n f).defer = s.defer := by simp [State.updDie]
@[simp] theorem State.updDie_mem (s : State) (n : Nat) (f : ADie → ADie) : (s.updDie n f).mem = s.mem := by simp [State.updDie]
@[simp] theorem State.updDie_undef (s : State) (n : Nat) (f : ADie → ADie) : (s.updDie n f).undef = s.undef := by simp [State.updDie]
@[simp] theorem State.updDie_ecc (s : State) (n : Nat) (f : ADie → ADie) : (s.updDie n f).ecc = s.ecc := by simp [State.updDie]
@[simp] theorem State.updDie_poison (s : State) (n : Nat) (f : ADie → ADie) : (s.updDie n f).poison = s.poison := by simp [State.updDie]
@[simp] theorem State.updDie_acf (s : State) (n : Nat) (f : ADie → ADie) : (s.updDie n f).acf = s.acf := by simp [State.updDie]
@[simp] theorem State.updDie_acfEcc (s : State) (n : Nat) (f : ADie → ADie) : (s.updDie n f).acfEcc = s.acfEcc := by simp [State.updDie]
@[simp] theorem State.updDie_p0 (s : State) (n : Nat) (f : ADie → ADie) : (s.updDie n f).p0 = s.p0 := by simp [State.updDie]
@[simp] theorem State.updDie_p1 (s : State) (n : Nat) (f : ADie → ADie) : (s.updDie n f).p1 = s.p1 := by simp [State.updDie]
@[simp] theorem State.updDie_p2 (s : State) (n : Nat) (f : ADie → ADie) : (s.updDie n f).p2 = s.p2 := by simp [State.updDie]
@[simp] theorem State.updDie_p3 (s : State) (n : Nat) (f : ADie → ADie) : (s.updDie n f).p3 = s.p3 := by simp [State.updDie]
@[simp] theorem State.updDie_owner (s : State) (n : Nat) (f : ADie → ADie) : (s.updDie n f).owner = s.owner := by simp [State.updDie]
@[simp] theorem State.updDie_dark (s : State) (n : Nat) (f : ADie → ADie) : (s.updDie n f).dark = s.dark := by simp [State.updDie]
@[simp] theorem State.updDie_reports (s : State) (n : Nat) (f : ADie → ADie) : (s.updDie n f).reports = s.reports := by simp [State.updDie]
@[simp] theorem State.updDie_jqueue (s : State) (n : Nat) (f : ADie → ADie) : (s.updDie n f).jqueue = s.jqueue := by simp [State.updDie]
@[simp] theorem State.updDie_journal (s : State) (n : Nat) (f : ADie → ADie) : (s.updDie n f).journal = s.journal := by simp [State.updDie]
@[simp] theorem State.updDie_bringIn (s : State) (n : Nat) (f : ADie → ADie) : (s.updDie n f).bringIn = s.bringIn := by simp [State.updDie]
@[simp] theorem State.updDie_spareBad (s : State) (n : Nat) (f : ADie → ADie) : (s.updDie n f).spareBad = s.spareBad := by simp [State.updDie]
@[simp] theorem State.updDie_hbmWait (s : State) (n : Nat) (f : ADie → ADie) : (s.updDie n f).hbmWait = s.hbmWait := by simp [State.updDie]
@[simp] theorem State.updDie_rowMap (s : State) (n : Nat) (f : ADie → ADie) : (s.updDie n f).rowMap = s.rowMap := by simp [State.updDie]
@[simp] theorem State.updDie_colMap (s : State) (n : Nat) (f : ADie → ADie) : (s.updDie n f).colMap = s.colMap := by simp [State.updDie]
@[simp] theorem State.updDie_th (s : State) (n : Nat) (f : ADie → ADie) : (s.updDie n f).th = s.th := by simp [State.updDie]
@[simp] theorem State.updDie_fab (s : State) (n : Nat) (f : ADie → ADie) : (s.updDie n f).fab = s.fab := by simp [State.updDie]
@[simp] theorem State.updDie_coll (s : State) (n : Nat) (f : ADie → ADie) : (s.updDie n f).coll = s.coll := by simp [State.updDie]
@[simp] theorem State.updDie_nicOwner (s : State) (n : Nat) (f : ADie → ADie) : (s.updDie n f).nicOwner = s.nicOwner := by simp [State.updDie]
@[simp] theorem State.updDie_sve (s : State) (n : Nat) (f : ADie → ADie) : (s.updDie n f).sve = s.sve := by simp [State.updDie]
@[simp] theorem State.updDie_sveJob (s : State) (n : Nat) (f : ADie → ADie) : (s.updDie n f).sveJob = s.sveJob := by simp [State.updDie]
@[simp] theorem State.updDie_cor (s : State) (n : Nat) (f : ADie → ADie) : (s.updDie n f).cor = s.cor := by simp [State.updDie]
@[simp] theorem State.updDie_cores (s : State) (n : Nat) (f : ADie → ADie) : (s.updDie n f).cores = s.cores := by simp [State.updDie]
@[simp] theorem State.updDie_ccache (s : State) (n : Nat) (f : ADie → ADie) : (s.updDie n f).ccache = s.ccache := by simp [State.updDie]
@[simp] theorem State.updDie_pmc (s : State) (n : Nat) (f : ADie → ADie) : (s.updDie n f).pmc = s.pmc := by simp [State.updDie]
@[simp] theorem State.updDie_mig (s : State) (n : Nat) (f : ADie → ADie) : (s.updDie n f).mig = s.mig := by simp [State.updDie]
@[simp] theorem State.updDie_cfg (s : State) (n : Nat) (f : ADie → ADie) : (s.updDie n f).cfg = s.cfg := by simp [State.updDie]
@[simp] theorem State.updDie_ckpt (s : State) (n : Nat) (f : ADie → ADie) : (s.updDie n f).ckpt = s.ckpt := by simp [State.updDie]
@[simp] theorem State.updDie_csm (s : State) (n : Nat) (f : ADie → ADie) : (s.updDie n f).csm = s.csm := by simp [State.updDie]
@[simp] theorem State.updDie_csArm (s : State) (n : Nat) (f : ADie → ADie) : (s.updDie n f).csArm = s.csArm := by simp [State.updDie]
@[simp] theorem State.updDie_tbTries (s : State) (n : Nat) (f : ADie → ADie) : (s.updDie n f).tbTries = s.tbTries := by simp [State.updDie]
@[simp] theorem State.updDie_boot (s : State) (n : Nat) (f : ADie → ADie) : (s.updDie n f).boot = s.boot := by simp [State.updDie]
@[simp] theorem State.updDie_dr (s : State) (n : Nat) (f : ADie → ADie) : (s.updDie n f).dr = s.dr := by simp [State.updDie]
@[simp] theorem State.updDie_lsc (s : State) (n : Nat) (f : ADie → ADie) : (s.updDie n f).lsc = s.lsc := by simp [State.updDie]
@[simp] theorem State.updDie_tap (s : State) (n : Nat) (f : ADie → ADie) : (s.updDie n f).tap = s.tap := by simp [State.updDie]
@[simp] theorem State.updDie_pdieCool (s : State) (n : Nat) (f : ADie → ADie) : (s.updDie n f).pdieCool = s.pdieCool := by simp [State.updDie]
@[simp] theorem State.updDie_fdieWait (s : State) (n : Nat) (f : ADie → ADie) : (s.updDie n f).fdieWait = s.fdieWait := by simp [State.updDie]
@[simp] theorem State.updDie_fails (s : State) (n : Nat) (f : ADie → ADie) : (s.updDie n f).fails = s.fails := by simp [State.updDie]
@[simp] theorem State.updDie_acfHist (s : State) (n : Nat) (f : ADie → ADie) : (s.updDie n f).acfHist = s.acfHist := by simp [State.updDie]
@[simp] theorem State.updDie_hist (s : State) (n : Nat) (f : ADie → ADie) : (s.updDie n f).hist = s.hist := by simp [State.updDie]
@[simp] theorem State.updDie_w1c (s : State) (n : Nat) (f : ADie → ADie) : (s.updDie n f).w1c = s.w1c := by simp [State.updDie]
@[simp] theorem State.updDie_svc (s : State) (n : Nat) (f : ADie → ADie) : (s.updDie n f).svc = s.svc := by simp [State.updDie]
@[simp] theorem State.updDie_nvm (s : State) (n : Nat) (f : ADie → ADie) : (s.updDie n f).nvm = s.nvm := by simp [State.updDie]
@[simp] theorem State.updDie_out (s : State) (n : Nat) (f : ADie → ADie) : (s.updDie n f).out = s.out := by simp [State.updDie]
@[simp] theorem State.updDie_free (s : State) (n : Nat) (f : ADie → ADie) : (s.updDie n f).free = s.free := by simp [State.updDie]

/-! `updPart` changes p0, p1, p2, p3 at most. -/

@[simp] theorem State.updPart_pending (s : State) (p : Nat) (f : Part → Part) : (s.updPart p f).pending = s.pending := by simp [State.updPart]
@[simp] theorem State.updPart_clk (s : State) (p : Nat) (f : Part → Part) : (s.updPart p f).clk = s.clk := by simp [State.updPart]
@[simp] theorem State.updPart_fused (s : State) (p : Nat) (f : Part → Part) : (s.updPart p f).fused = s.fused := by simp [State.updPart]
@[simp] theorem State.updPart_fld (s : State) (p : Nat) (f : Part → Part) : (s.updPart p f).fld = s.fld := by simp [State.updPart]
@[simp] theorem State.updPart_defer (s : State) (p : Nat) (f : Part → Part) : (s.updPart p f).defer = s.defer := by simp [State.updPart]
@[simp] theorem State.updPart_mem (s : State) (p : Nat) (f : Part → Part) : (s.updPart p f).mem = s.mem := by simp [State.updPart]
@[simp] theorem State.updPart_undef (s : State) (p : Nat) (f : Part → Part) : (s.updPart p f).undef = s.undef := by simp [State.updPart]
@[simp] theorem State.updPart_ecc (s : State) (p : Nat) (f : Part → Part) : (s.updPart p f).ecc = s.ecc := by simp [State.updPart]
@[simp] theorem State.updPart_poison (s : State) (p : Nat) (f : Part → Part) : (s.updPart p f).poison = s.poison := by simp [State.updPart]
@[simp] theorem State.updPart_acf (s : State) (p : Nat) (f : Part → Part) : (s.updPart p f).acf = s.acf := by simp [State.updPart]
@[simp] theorem State.updPart_acfEcc (s : State) (p : Nat) (f : Part → Part) : (s.updPart p f).acfEcc = s.acfEcc := by simp [State.updPart]
@[simp] theorem State.updPart_a0 (s : State) (p : Nat) (f : Part → Part) : (s.updPart p f).a0 = s.a0 := by simp [State.updPart]
@[simp] theorem State.updPart_a1 (s : State) (p : Nat) (f : Part → Part) : (s.updPart p f).a1 = s.a1 := by simp [State.updPart]
@[simp] theorem State.updPart_a2 (s : State) (p : Nat) (f : Part → Part) : (s.updPart p f).a2 = s.a2 := by simp [State.updPart]
@[simp] theorem State.updPart_a3 (s : State) (p : Nat) (f : Part → Part) : (s.updPart p f).a3 = s.a3 := by simp [State.updPart]
@[simp] theorem State.updPart_owner (s : State) (p : Nat) (f : Part → Part) : (s.updPart p f).owner = s.owner := by simp [State.updPart]
@[simp] theorem State.updPart_dark (s : State) (p : Nat) (f : Part → Part) : (s.updPart p f).dark = s.dark := by simp [State.updPart]
@[simp] theorem State.updPart_reports (s : State) (p : Nat) (f : Part → Part) : (s.updPart p f).reports = s.reports := by simp [State.updPart]
@[simp] theorem State.updPart_jqueue (s : State) (p : Nat) (f : Part → Part) : (s.updPart p f).jqueue = s.jqueue := by simp [State.updPart]
@[simp] theorem State.updPart_journal (s : State) (p : Nat) (f : Part → Part) : (s.updPart p f).journal = s.journal := by simp [State.updPart]
@[simp] theorem State.updPart_bringIn (s : State) (p : Nat) (f : Part → Part) : (s.updPart p f).bringIn = s.bringIn := by simp [State.updPart]
@[simp] theorem State.updPart_spareBad (s : State) (p : Nat) (f : Part → Part) : (s.updPart p f).spareBad = s.spareBad := by simp [State.updPart]
@[simp] theorem State.updPart_hbmWait (s : State) (p : Nat) (f : Part → Part) : (s.updPart p f).hbmWait = s.hbmWait := by simp [State.updPart]
@[simp] theorem State.updPart_rowMap (s : State) (p : Nat) (f : Part → Part) : (s.updPart p f).rowMap = s.rowMap := by simp [State.updPart]
@[simp] theorem State.updPart_colMap (s : State) (p : Nat) (f : Part → Part) : (s.updPart p f).colMap = s.colMap := by simp [State.updPart]
@[simp] theorem State.updPart_th (s : State) (p : Nat) (f : Part → Part) : (s.updPart p f).th = s.th := by simp [State.updPart]
@[simp] theorem State.updPart_fab (s : State) (p : Nat) (f : Part → Part) : (s.updPart p f).fab = s.fab := by simp [State.updPart]
@[simp] theorem State.updPart_coll (s : State) (p : Nat) (f : Part → Part) : (s.updPart p f).coll = s.coll := by simp [State.updPart]
@[simp] theorem State.updPart_nicOwner (s : State) (p : Nat) (f : Part → Part) : (s.updPart p f).nicOwner = s.nicOwner := by simp [State.updPart]
@[simp] theorem State.updPart_sve (s : State) (p : Nat) (f : Part → Part) : (s.updPart p f).sve = s.sve := by simp [State.updPart]
@[simp] theorem State.updPart_sveJob (s : State) (p : Nat) (f : Part → Part) : (s.updPart p f).sveJob = s.sveJob := by simp [State.updPart]
@[simp] theorem State.updPart_cor (s : State) (p : Nat) (f : Part → Part) : (s.updPart p f).cor = s.cor := by simp [State.updPart]
@[simp] theorem State.updPart_cores (s : State) (p : Nat) (f : Part → Part) : (s.updPart p f).cores = s.cores := by simp [State.updPart]
@[simp] theorem State.updPart_ccache (s : State) (p : Nat) (f : Part → Part) : (s.updPart p f).ccache = s.ccache := by simp [State.updPart]
@[simp] theorem State.updPart_pmc (s : State) (p : Nat) (f : Part → Part) : (s.updPart p f).pmc = s.pmc := by simp [State.updPart]
@[simp] theorem State.updPart_mig (s : State) (p : Nat) (f : Part → Part) : (s.updPart p f).mig = s.mig := by simp [State.updPart]
@[simp] theorem State.updPart_cfg (s : State) (p : Nat) (f : Part → Part) : (s.updPart p f).cfg = s.cfg := by simp [State.updPart]
@[simp] theorem State.updPart_ckpt (s : State) (p : Nat) (f : Part → Part) : (s.updPart p f).ckpt = s.ckpt := by simp [State.updPart]
@[simp] theorem State.updPart_csm (s : State) (p : Nat) (f : Part → Part) : (s.updPart p f).csm = s.csm := by simp [State.updPart]
@[simp] theorem State.updPart_csArm (s : State) (p : Nat) (f : Part → Part) : (s.updPart p f).csArm = s.csArm := by simp [State.updPart]
@[simp] theorem State.updPart_tbTries (s : State) (p : Nat) (f : Part → Part) : (s.updPart p f).tbTries = s.tbTries := by simp [State.updPart]
@[simp] theorem State.updPart_boot (s : State) (p : Nat) (f : Part → Part) : (s.updPart p f).boot = s.boot := by simp [State.updPart]
@[simp] theorem State.updPart_dr (s : State) (p : Nat) (f : Part → Part) : (s.updPart p f).dr = s.dr := by simp [State.updPart]
@[simp] theorem State.updPart_lsc (s : State) (p : Nat) (f : Part → Part) : (s.updPart p f).lsc = s.lsc := by simp [State.updPart]
@[simp] theorem State.updPart_tap (s : State) (p : Nat) (f : Part → Part) : (s.updPart p f).tap = s.tap := by simp [State.updPart]
@[simp] theorem State.updPart_pdieCool (s : State) (p : Nat) (f : Part → Part) : (s.updPart p f).pdieCool = s.pdieCool := by simp [State.updPart]
@[simp] theorem State.updPart_fdieWait (s : State) (p : Nat) (f : Part → Part) : (s.updPart p f).fdieWait = s.fdieWait := by simp [State.updPart]
@[simp] theorem State.updPart_fails (s : State) (p : Nat) (f : Part → Part) : (s.updPart p f).fails = s.fails := by simp [State.updPart]
@[simp] theorem State.updPart_acfHist (s : State) (p : Nat) (f : Part → Part) : (s.updPart p f).acfHist = s.acfHist := by simp [State.updPart]
@[simp] theorem State.updPart_hist (s : State) (p : Nat) (f : Part → Part) : (s.updPart p f).hist = s.hist := by simp [State.updPart]
@[simp] theorem State.updPart_w1c (s : State) (p : Nat) (f : Part → Part) : (s.updPart p f).w1c = s.w1c := by simp [State.updPart]
@[simp] theorem State.updPart_svc (s : State) (p : Nat) (f : Part → Part) : (s.updPart p f).svc = s.svc := by simp [State.updPart]
@[simp] theorem State.updPart_nvm (s : State) (p : Nat) (f : Part → Part) : (s.updPart p f).nvm = s.nvm := by simp [State.updPart]
@[simp] theorem State.updPart_out (s : State) (p : Nat) (f : Part → Part) : (s.updPart p f).out = s.out := by simp [State.updPart]
@[simp] theorem State.updPart_free (s : State) (p : Nat) (f : Part → Part) : (s.updPart p f).free = s.free := by simp [State.updPart]

/-! `updCore` changes cores at most. -/

@[simp] theorem State.updCore_pending (s : State) (c : Nat) (f : Core → Core) : (s.updCore c f).pending = s.pending := rfl
@[simp] theorem State.updCore_clk (s : State) (c : Nat) (f : Core → Core) : (s.updCore c f).clk = s.clk := rfl
@[simp] theorem State.updCore_fused (s : State) (c : Nat) (f : Core → Core) : (s.updCore c f).fused = s.fused := rfl
@[simp] theorem State.updCore_fld (s : State) (c : Nat) (f : Core → Core) : (s.updCore c f).fld = s.fld := rfl
@[simp] theorem State.updCore_defer (s : State) (c : Nat) (f : Core → Core) : (s.updCore c f).defer = s.defer := rfl
@[simp] theorem State.updCore_mem (s : State) (c : Nat) (f : Core → Core) : (s.updCore c f).mem = s.mem := rfl
@[simp] theorem State.updCore_undef (s : State) (c : Nat) (f : Core → Core) : (s.updCore c f).undef = s.undef := rfl
@[simp] theorem State.updCore_ecc (s : State) (c : Nat) (f : Core → Core) : (s.updCore c f).ecc = s.ecc := rfl
@[simp] theorem State.updCore_poison (s : State) (c : Nat) (f : Core → Core) : (s.updCore c f).poison = s.poison := rfl
@[simp] theorem State.updCore_acf (s : State) (c : Nat) (f : Core → Core) : (s.updCore c f).acf = s.acf := rfl
@[simp] theorem State.updCore_acfEcc (s : State) (c : Nat) (f : Core → Core) : (s.updCore c f).acfEcc = s.acfEcc := rfl
@[simp] theorem State.updCore_a0 (s : State) (c : Nat) (f : Core → Core) : (s.updCore c f).a0 = s.a0 := rfl
@[simp] theorem State.updCore_a1 (s : State) (c : Nat) (f : Core → Core) : (s.updCore c f).a1 = s.a1 := rfl
@[simp] theorem State.updCore_a2 (s : State) (c : Nat) (f : Core → Core) : (s.updCore c f).a2 = s.a2 := rfl
@[simp] theorem State.updCore_a3 (s : State) (c : Nat) (f : Core → Core) : (s.updCore c f).a3 = s.a3 := rfl
@[simp] theorem State.updCore_p0 (s : State) (c : Nat) (f : Core → Core) : (s.updCore c f).p0 = s.p0 := rfl
@[simp] theorem State.updCore_p1 (s : State) (c : Nat) (f : Core → Core) : (s.updCore c f).p1 = s.p1 := rfl
@[simp] theorem State.updCore_p2 (s : State) (c : Nat) (f : Core → Core) : (s.updCore c f).p2 = s.p2 := rfl
@[simp] theorem State.updCore_p3 (s : State) (c : Nat) (f : Core → Core) : (s.updCore c f).p3 = s.p3 := rfl
@[simp] theorem State.updCore_owner (s : State) (c : Nat) (f : Core → Core) : (s.updCore c f).owner = s.owner := rfl
@[simp] theorem State.updCore_dark (s : State) (c : Nat) (f : Core → Core) : (s.updCore c f).dark = s.dark := rfl
@[simp] theorem State.updCore_reports (s : State) (c : Nat) (f : Core → Core) : (s.updCore c f).reports = s.reports := rfl
@[simp] theorem State.updCore_jqueue (s : State) (c : Nat) (f : Core → Core) : (s.updCore c f).jqueue = s.jqueue := rfl
@[simp] theorem State.updCore_journal (s : State) (c : Nat) (f : Core → Core) : (s.updCore c f).journal = s.journal := rfl
@[simp] theorem State.updCore_bringIn (s : State) (c : Nat) (f : Core → Core) : (s.updCore c f).bringIn = s.bringIn := rfl
@[simp] theorem State.updCore_spareBad (s : State) (c : Nat) (f : Core → Core) : (s.updCore c f).spareBad = s.spareBad := rfl
@[simp] theorem State.updCore_hbmWait (s : State) (c : Nat) (f : Core → Core) : (s.updCore c f).hbmWait = s.hbmWait := rfl
@[simp] theorem State.updCore_rowMap (s : State) (c : Nat) (f : Core → Core) : (s.updCore c f).rowMap = s.rowMap := rfl
@[simp] theorem State.updCore_colMap (s : State) (c : Nat) (f : Core → Core) : (s.updCore c f).colMap = s.colMap := rfl
@[simp] theorem State.updCore_th (s : State) (c : Nat) (f : Core → Core) : (s.updCore c f).th = s.th := rfl
@[simp] theorem State.updCore_fab (s : State) (c : Nat) (f : Core → Core) : (s.updCore c f).fab = s.fab := rfl
@[simp] theorem State.updCore_coll (s : State) (c : Nat) (f : Core → Core) : (s.updCore c f).coll = s.coll := rfl
@[simp] theorem State.updCore_nicOwner (s : State) (c : Nat) (f : Core → Core) : (s.updCore c f).nicOwner = s.nicOwner := rfl
@[simp] theorem State.updCore_sve (s : State) (c : Nat) (f : Core → Core) : (s.updCore c f).sve = s.sve := rfl
@[simp] theorem State.updCore_sveJob (s : State) (c : Nat) (f : Core → Core) : (s.updCore c f).sveJob = s.sveJob := rfl
@[simp] theorem State.updCore_cor (s : State) (c : Nat) (f : Core → Core) : (s.updCore c f).cor = s.cor := rfl
@[simp] theorem State.updCore_ccache (s : State) (c : Nat) (f : Core → Core) : (s.updCore c f).ccache = s.ccache := rfl
@[simp] theorem State.updCore_pmc (s : State) (c : Nat) (f : Core → Core) : (s.updCore c f).pmc = s.pmc := rfl
@[simp] theorem State.updCore_mig (s : State) (c : Nat) (f : Core → Core) : (s.updCore c f).mig = s.mig := rfl
@[simp] theorem State.updCore_cfg (s : State) (c : Nat) (f : Core → Core) : (s.updCore c f).cfg = s.cfg := rfl
@[simp] theorem State.updCore_ckpt (s : State) (c : Nat) (f : Core → Core) : (s.updCore c f).ckpt = s.ckpt := rfl
@[simp] theorem State.updCore_csm (s : State) (c : Nat) (f : Core → Core) : (s.updCore c f).csm = s.csm := rfl
@[simp] theorem State.updCore_csArm (s : State) (c : Nat) (f : Core → Core) : (s.updCore c f).csArm = s.csArm := rfl
@[simp] theorem State.updCore_tbTries (s : State) (c : Nat) (f : Core → Core) : (s.updCore c f).tbTries = s.tbTries := rfl
@[simp] theorem State.updCore_boot (s : State) (c : Nat) (f : Core → Core) : (s.updCore c f).boot = s.boot := rfl
@[simp] theorem State.updCore_dr (s : State) (c : Nat) (f : Core → Core) : (s.updCore c f).dr = s.dr := rfl
@[simp] theorem State.updCore_lsc (s : State) (c : Nat) (f : Core → Core) : (s.updCore c f).lsc = s.lsc := rfl
@[simp] theorem State.updCore_tap (s : State) (c : Nat) (f : Core → Core) : (s.updCore c f).tap = s.tap := rfl
@[simp] theorem State.updCore_pdieCool (s : State) (c : Nat) (f : Core → Core) : (s.updCore c f).pdieCool = s.pdieCool := rfl
@[simp] theorem State.updCore_fdieWait (s : State) (c : Nat) (f : Core → Core) : (s.updCore c f).fdieWait = s.fdieWait := rfl
@[simp] theorem State.updCore_fails (s : State) (c : Nat) (f : Core → Core) : (s.updCore c f).fails = s.fails := rfl
@[simp] theorem State.updCore_acfHist (s : State) (c : Nat) (f : Core → Core) : (s.updCore c f).acfHist = s.acfHist := rfl
@[simp] theorem State.updCore_hist (s : State) (c : Nat) (f : Core → Core) : (s.updCore c f).hist = s.hist := rfl
@[simp] theorem State.updCore_w1c (s : State) (c : Nat) (f : Core → Core) : (s.updCore c f).w1c = s.w1c := rfl
@[simp] theorem State.updCore_svc (s : State) (c : Nat) (f : Core → Core) : (s.updCore c f).svc = s.svc := rfl
@[simp] theorem State.updCore_nvm (s : State) (c : Nat) (f : Core → Core) : (s.updCore c f).nvm = s.nvm := rfl
@[simp] theorem State.updCore_out (s : State) (c : Nat) (f : Core → Core) : (s.updCore c f).out = s.out := rfl
@[simp] theorem State.updCore_free (s : State) (c : Nat) (f : Core → Core) : (s.updCore c f).free = s.free := rfl

/-! `updRun` changes a0, a1, a2, a3 at most. -/

@[simp] theorem State.updRun_pending (s : State) (die idx : Nat) (f : RunCmd → RunCmd) : (s.updRun die idx f).pending = s.pending := by simp [State.updRun]
@[simp] theorem State.updRun_clk (s : State) (die idx : Nat) (f : RunCmd → RunCmd) : (s.updRun die idx f).clk = s.clk := by simp [State.updRun]
@[simp] theorem State.updRun_fused (s : State) (die idx : Nat) (f : RunCmd → RunCmd) : (s.updRun die idx f).fused = s.fused := by simp [State.updRun]
@[simp] theorem State.updRun_fld (s : State) (die idx : Nat) (f : RunCmd → RunCmd) : (s.updRun die idx f).fld = s.fld := by simp [State.updRun]
@[simp] theorem State.updRun_defer (s : State) (die idx : Nat) (f : RunCmd → RunCmd) : (s.updRun die idx f).defer = s.defer := by simp [State.updRun]
@[simp] theorem State.updRun_mem (s : State) (die idx : Nat) (f : RunCmd → RunCmd) : (s.updRun die idx f).mem = s.mem := by simp [State.updRun]
@[simp] theorem State.updRun_undef (s : State) (die idx : Nat) (f : RunCmd → RunCmd) : (s.updRun die idx f).undef = s.undef := by simp [State.updRun]
@[simp] theorem State.updRun_ecc (s : State) (die idx : Nat) (f : RunCmd → RunCmd) : (s.updRun die idx f).ecc = s.ecc := by simp [State.updRun]
@[simp] theorem State.updRun_poison (s : State) (die idx : Nat) (f : RunCmd → RunCmd) : (s.updRun die idx f).poison = s.poison := by simp [State.updRun]
@[simp] theorem State.updRun_acf (s : State) (die idx : Nat) (f : RunCmd → RunCmd) : (s.updRun die idx f).acf = s.acf := by simp [State.updRun]
@[simp] theorem State.updRun_acfEcc (s : State) (die idx : Nat) (f : RunCmd → RunCmd) : (s.updRun die idx f).acfEcc = s.acfEcc := by simp [State.updRun]
@[simp] theorem State.updRun_p0 (s : State) (die idx : Nat) (f : RunCmd → RunCmd) : (s.updRun die idx f).p0 = s.p0 := by simp [State.updRun]
@[simp] theorem State.updRun_p1 (s : State) (die idx : Nat) (f : RunCmd → RunCmd) : (s.updRun die idx f).p1 = s.p1 := by simp [State.updRun]
@[simp] theorem State.updRun_p2 (s : State) (die idx : Nat) (f : RunCmd → RunCmd) : (s.updRun die idx f).p2 = s.p2 := by simp [State.updRun]
@[simp] theorem State.updRun_p3 (s : State) (die idx : Nat) (f : RunCmd → RunCmd) : (s.updRun die idx f).p3 = s.p3 := by simp [State.updRun]
@[simp] theorem State.updRun_owner (s : State) (die idx : Nat) (f : RunCmd → RunCmd) : (s.updRun die idx f).owner = s.owner := by simp [State.updRun]
@[simp] theorem State.updRun_dark (s : State) (die idx : Nat) (f : RunCmd → RunCmd) : (s.updRun die idx f).dark = s.dark := by simp [State.updRun]
@[simp] theorem State.updRun_reports (s : State) (die idx : Nat) (f : RunCmd → RunCmd) : (s.updRun die idx f).reports = s.reports := by simp [State.updRun]
@[simp] theorem State.updRun_jqueue (s : State) (die idx : Nat) (f : RunCmd → RunCmd) : (s.updRun die idx f).jqueue = s.jqueue := by simp [State.updRun]
@[simp] theorem State.updRun_journal (s : State) (die idx : Nat) (f : RunCmd → RunCmd) : (s.updRun die idx f).journal = s.journal := by simp [State.updRun]
@[simp] theorem State.updRun_bringIn (s : State) (die idx : Nat) (f : RunCmd → RunCmd) : (s.updRun die idx f).bringIn = s.bringIn := by simp [State.updRun]
@[simp] theorem State.updRun_spareBad (s : State) (die idx : Nat) (f : RunCmd → RunCmd) : (s.updRun die idx f).spareBad = s.spareBad := by simp [State.updRun]
@[simp] theorem State.updRun_hbmWait (s : State) (die idx : Nat) (f : RunCmd → RunCmd) : (s.updRun die idx f).hbmWait = s.hbmWait := by simp [State.updRun]
@[simp] theorem State.updRun_rowMap (s : State) (die idx : Nat) (f : RunCmd → RunCmd) : (s.updRun die idx f).rowMap = s.rowMap := by simp [State.updRun]
@[simp] theorem State.updRun_colMap (s : State) (die idx : Nat) (f : RunCmd → RunCmd) : (s.updRun die idx f).colMap = s.colMap := by simp [State.updRun]
@[simp] theorem State.updRun_th (s : State) (die idx : Nat) (f : RunCmd → RunCmd) : (s.updRun die idx f).th = s.th := by simp [State.updRun]
@[simp] theorem State.updRun_fab (s : State) (die idx : Nat) (f : RunCmd → RunCmd) : (s.updRun die idx f).fab = s.fab := by simp [State.updRun]
@[simp] theorem State.updRun_coll (s : State) (die idx : Nat) (f : RunCmd → RunCmd) : (s.updRun die idx f).coll = s.coll := by simp [State.updRun]
@[simp] theorem State.updRun_nicOwner (s : State) (die idx : Nat) (f : RunCmd → RunCmd) : (s.updRun die idx f).nicOwner = s.nicOwner := by simp [State.updRun]
@[simp] theorem State.updRun_sve (s : State) (die idx : Nat) (f : RunCmd → RunCmd) : (s.updRun die idx f).sve = s.sve := by simp [State.updRun]
@[simp] theorem State.updRun_sveJob (s : State) (die idx : Nat) (f : RunCmd → RunCmd) : (s.updRun die idx f).sveJob = s.sveJob := by simp [State.updRun]
@[simp] theorem State.updRun_cor (s : State) (die idx : Nat) (f : RunCmd → RunCmd) : (s.updRun die idx f).cor = s.cor := by simp [State.updRun]
@[simp] theorem State.updRun_cores (s : State) (die idx : Nat) (f : RunCmd → RunCmd) : (s.updRun die idx f).cores = s.cores := by simp [State.updRun]
@[simp] theorem State.updRun_ccache (s : State) (die idx : Nat) (f : RunCmd → RunCmd) : (s.updRun die idx f).ccache = s.ccache := by simp [State.updRun]
@[simp] theorem State.updRun_pmc (s : State) (die idx : Nat) (f : RunCmd → RunCmd) : (s.updRun die idx f).pmc = s.pmc := by simp [State.updRun]
@[simp] theorem State.updRun_mig (s : State) (die idx : Nat) (f : RunCmd → RunCmd) : (s.updRun die idx f).mig = s.mig := by simp [State.updRun]
@[simp] theorem State.updRun_cfg (s : State) (die idx : Nat) (f : RunCmd → RunCmd) : (s.updRun die idx f).cfg = s.cfg := by simp [State.updRun]
@[simp] theorem State.updRun_ckpt (s : State) (die idx : Nat) (f : RunCmd → RunCmd) : (s.updRun die idx f).ckpt = s.ckpt := by simp [State.updRun]
@[simp] theorem State.updRun_csm (s : State) (die idx : Nat) (f : RunCmd → RunCmd) : (s.updRun die idx f).csm = s.csm := by simp [State.updRun]
@[simp] theorem State.updRun_csArm (s : State) (die idx : Nat) (f : RunCmd → RunCmd) : (s.updRun die idx f).csArm = s.csArm := by simp [State.updRun]
@[simp] theorem State.updRun_tbTries (s : State) (die idx : Nat) (f : RunCmd → RunCmd) : (s.updRun die idx f).tbTries = s.tbTries := by simp [State.updRun]
@[simp] theorem State.updRun_boot (s : State) (die idx : Nat) (f : RunCmd → RunCmd) : (s.updRun die idx f).boot = s.boot := by simp [State.updRun]
@[simp] theorem State.updRun_dr (s : State) (die idx : Nat) (f : RunCmd → RunCmd) : (s.updRun die idx f).dr = s.dr := by simp [State.updRun]
@[simp] theorem State.updRun_lsc (s : State) (die idx : Nat) (f : RunCmd → RunCmd) : (s.updRun die idx f).lsc = s.lsc := by simp [State.updRun]
@[simp] theorem State.updRun_tap (s : State) (die idx : Nat) (f : RunCmd → RunCmd) : (s.updRun die idx f).tap = s.tap := by simp [State.updRun]
@[simp] theorem State.updRun_pdieCool (s : State) (die idx : Nat) (f : RunCmd → RunCmd) : (s.updRun die idx f).pdieCool = s.pdieCool := by simp [State.updRun]
@[simp] theorem State.updRun_fdieWait (s : State) (die idx : Nat) (f : RunCmd → RunCmd) : (s.updRun die idx f).fdieWait = s.fdieWait := by simp [State.updRun]
@[simp] theorem State.updRun_fails (s : State) (die idx : Nat) (f : RunCmd → RunCmd) : (s.updRun die idx f).fails = s.fails := by simp [State.updRun]
@[simp] theorem State.updRun_acfHist (s : State) (die idx : Nat) (f : RunCmd → RunCmd) : (s.updRun die idx f).acfHist = s.acfHist := by simp [State.updRun]
@[simp] theorem State.updRun_hist (s : State) (die idx : Nat) (f : RunCmd → RunCmd) : (s.updRun die idx f).hist = s.hist := by simp [State.updRun]
@[simp] theorem State.updRun_w1c (s : State) (die idx : Nat) (f : RunCmd → RunCmd) : (s.updRun die idx f).w1c = s.w1c := by simp [State.updRun]
@[simp] theorem State.updRun_svc (s : State) (die idx : Nat) (f : RunCmd → RunCmd) : (s.updRun die idx f).svc = s.svc := by simp [State.updRun]
@[simp] theorem State.updRun_nvm (s : State) (die idx : Nat) (f : RunCmd → RunCmd) : (s.updRun die idx f).nvm = s.nvm := by simp [State.updRun]
@[simp] theorem State.updRun_out (s : State) (die idx : Nat) (f : RunCmd → RunCmd) : (s.updRun die idx f).out = s.out := by simp [State.updRun]
@[simp] theorem State.updRun_free (s : State) (die idx : Nat) (f : RunCmd → RunCmd) : (s.updRun die idx f).free = s.free := by simp [State.updRun]

/-! `advanceCyc` changes clk, p0, p1, p2, p3 at most. -/

@[simp] theorem State.advanceCyc_pending (s : State) (n : Nat) : (s.advanceCyc n).pending = s.pending := by unfold State.advanceCyc; dsimp only; split <;> rfl
@[simp] theorem State.advanceCyc_fused (s : State) (n : Nat) : (s.advanceCyc n).fused = s.fused := by unfold State.advanceCyc; dsimp only; split <;> rfl
@[simp] theorem State.advanceCyc_fld (s : State) (n : Nat) : (s.advanceCyc n).fld = s.fld := by unfold State.advanceCyc; dsimp only; split <;> rfl
@[simp] theorem State.advanceCyc_defer (s : State) (n : Nat) : (s.advanceCyc n).defer = s.defer := by unfold State.advanceCyc; dsimp only; split <;> rfl
@[simp] theorem State.advanceCyc_mem (s : State) (n : Nat) : (s.advanceCyc n).mem = s.mem := by unfold State.advanceCyc; dsimp only; split <;> rfl
@[simp] theorem State.advanceCyc_undef (s : State) (n : Nat) : (s.advanceCyc n).undef = s.undef := by unfold State.advanceCyc; dsimp only; split <;> rfl
@[simp] theorem State.advanceCyc_ecc (s : State) (n : Nat) : (s.advanceCyc n).ecc = s.ecc := by unfold State.advanceCyc; dsimp only; split <;> rfl
@[simp] theorem State.advanceCyc_poison (s : State) (n : Nat) : (s.advanceCyc n).poison = s.poison := by unfold State.advanceCyc; dsimp only; split <;> rfl
@[simp] theorem State.advanceCyc_acf (s : State) (n : Nat) : (s.advanceCyc n).acf = s.acf := by unfold State.advanceCyc; dsimp only; split <;> rfl
@[simp] theorem State.advanceCyc_acfEcc (s : State) (n : Nat) : (s.advanceCyc n).acfEcc = s.acfEcc := by unfold State.advanceCyc; dsimp only; split <;> rfl
@[simp] theorem State.advanceCyc_a0 (s : State) (n : Nat) : (s.advanceCyc n).a0 = s.a0 := by unfold State.advanceCyc; dsimp only; split <;> rfl
@[simp] theorem State.advanceCyc_a1 (s : State) (n : Nat) : (s.advanceCyc n).a1 = s.a1 := by unfold State.advanceCyc; dsimp only; split <;> rfl
@[simp] theorem State.advanceCyc_a2 (s : State) (n : Nat) : (s.advanceCyc n).a2 = s.a2 := by unfold State.advanceCyc; dsimp only; split <;> rfl
@[simp] theorem State.advanceCyc_a3 (s : State) (n : Nat) : (s.advanceCyc n).a3 = s.a3 := by unfold State.advanceCyc; dsimp only; split <;> rfl
@[simp] theorem State.advanceCyc_owner (s : State) (n : Nat) : (s.advanceCyc n).owner = s.owner := by unfold State.advanceCyc; dsimp only; split <;> rfl
@[simp] theorem State.advanceCyc_dark (s : State) (n : Nat) : (s.advanceCyc n).dark = s.dark := by unfold State.advanceCyc; dsimp only; split <;> rfl
@[simp] theorem State.advanceCyc_reports (s : State) (n : Nat) : (s.advanceCyc n).reports = s.reports := by unfold State.advanceCyc; dsimp only; split <;> rfl
@[simp] theorem State.advanceCyc_jqueue (s : State) (n : Nat) : (s.advanceCyc n).jqueue = s.jqueue := by unfold State.advanceCyc; dsimp only; split <;> rfl
@[simp] theorem State.advanceCyc_journal (s : State) (n : Nat) : (s.advanceCyc n).journal = s.journal := by unfold State.advanceCyc; dsimp only; split <;> rfl
@[simp] theorem State.advanceCyc_bringIn (s : State) (n : Nat) : (s.advanceCyc n).bringIn = s.bringIn := by unfold State.advanceCyc; dsimp only; split <;> rfl
@[simp] theorem State.advanceCyc_spareBad (s : State) (n : Nat) : (s.advanceCyc n).spareBad = s.spareBad := by unfold State.advanceCyc; dsimp only; split <;> rfl
@[simp] theorem State.advanceCyc_hbmWait (s : State) (n : Nat) : (s.advanceCyc n).hbmWait = s.hbmWait := by unfold State.advanceCyc; dsimp only; split <;> rfl
@[simp] theorem State.advanceCyc_rowMap (s : State) (n : Nat) : (s.advanceCyc n).rowMap = s.rowMap := by unfold State.advanceCyc; dsimp only; split <;> rfl
@[simp] theorem State.advanceCyc_colMap (s : State) (n : Nat) : (s.advanceCyc n).colMap = s.colMap := by unfold State.advanceCyc; dsimp only; split <;> rfl
@[simp] theorem State.advanceCyc_th (s : State) (n : Nat) : (s.advanceCyc n).th = s.th := by unfold State.advanceCyc; dsimp only; split <;> rfl
@[simp] theorem State.advanceCyc_fab (s : State) (n : Nat) : (s.advanceCyc n).fab = s.fab := by unfold State.advanceCyc; dsimp only; split <;> rfl
@[simp] theorem State.advanceCyc_coll (s : State) (n : Nat) : (s.advanceCyc n).coll = s.coll := by unfold State.advanceCyc; dsimp only; split <;> rfl
@[simp] theorem State.advanceCyc_nicOwner (s : State) (n : Nat) : (s.advanceCyc n).nicOwner = s.nicOwner := by unfold State.advanceCyc; dsimp only; split <;> rfl
@[simp] theorem State.advanceCyc_sve (s : State) (n : Nat) : (s.advanceCyc n).sve = s.sve := by unfold State.advanceCyc; dsimp only; split <;> rfl
@[simp] theorem State.advanceCyc_sveJob (s : State) (n : Nat) : (s.advanceCyc n).sveJob = s.sveJob := by unfold State.advanceCyc; dsimp only; split <;> rfl
@[simp] theorem State.advanceCyc_cor (s : State) (n : Nat) : (s.advanceCyc n).cor = s.cor := by unfold State.advanceCyc; dsimp only; split <;> rfl
@[simp] theorem State.advanceCyc_cores (s : State) (n : Nat) : (s.advanceCyc n).cores = s.cores := by unfold State.advanceCyc; dsimp only; split <;> rfl
@[simp] theorem State.advanceCyc_ccache (s : State) (n : Nat) : (s.advanceCyc n).ccache = s.ccache := by unfold State.advanceCyc; dsimp only; split <;> rfl
@[simp] theorem State.advanceCyc_pmc (s : State) (n : Nat) : (s.advanceCyc n).pmc = s.pmc := by unfold State.advanceCyc; dsimp only; split <;> rfl
@[simp] theorem State.advanceCyc_mig (s : State) (n : Nat) : (s.advanceCyc n).mig = s.mig := by unfold State.advanceCyc; dsimp only; split <;> rfl
@[simp] theorem State.advanceCyc_cfg (s : State) (n : Nat) : (s.advanceCyc n).cfg = s.cfg := by unfold State.advanceCyc; dsimp only; split <;> rfl
@[simp] theorem State.advanceCyc_ckpt (s : State) (n : Nat) : (s.advanceCyc n).ckpt = s.ckpt := by unfold State.advanceCyc; dsimp only; split <;> rfl
@[simp] theorem State.advanceCyc_csm (s : State) (n : Nat) : (s.advanceCyc n).csm = s.csm := by unfold State.advanceCyc; dsimp only; split <;> rfl
@[simp] theorem State.advanceCyc_csArm (s : State) (n : Nat) : (s.advanceCyc n).csArm = s.csArm := by unfold State.advanceCyc; dsimp only; split <;> rfl
@[simp] theorem State.advanceCyc_tbTries (s : State) (n : Nat) : (s.advanceCyc n).tbTries = s.tbTries := by unfold State.advanceCyc; dsimp only; split <;> rfl
@[simp] theorem State.advanceCyc_boot (s : State) (n : Nat) : (s.advanceCyc n).boot = s.boot := by unfold State.advanceCyc; dsimp only; split <;> rfl
@[simp] theorem State.advanceCyc_dr (s : State) (n : Nat) : (s.advanceCyc n).dr = s.dr := by unfold State.advanceCyc; dsimp only; split <;> rfl
@[simp] theorem State.advanceCyc_lsc (s : State) (n : Nat) : (s.advanceCyc n).lsc = s.lsc := by unfold State.advanceCyc; dsimp only; split <;> rfl
@[simp] theorem State.advanceCyc_tap (s : State) (n : Nat) : (s.advanceCyc n).tap = s.tap := by unfold State.advanceCyc; dsimp only; split <;> rfl
@[simp] theorem State.advanceCyc_pdieCool (s : State) (n : Nat) : (s.advanceCyc n).pdieCool = s.pdieCool := by unfold State.advanceCyc; dsimp only; split <;> rfl
@[simp] theorem State.advanceCyc_fdieWait (s : State) (n : Nat) : (s.advanceCyc n).fdieWait = s.fdieWait := by unfold State.advanceCyc; dsimp only; split <;> rfl
@[simp] theorem State.advanceCyc_fails (s : State) (n : Nat) : (s.advanceCyc n).fails = s.fails := by unfold State.advanceCyc; dsimp only; split <;> rfl
@[simp] theorem State.advanceCyc_acfHist (s : State) (n : Nat) : (s.advanceCyc n).acfHist = s.acfHist := by unfold State.advanceCyc; dsimp only; split <;> rfl
@[simp] theorem State.advanceCyc_hist (s : State) (n : Nat) : (s.advanceCyc n).hist = s.hist := by unfold State.advanceCyc; dsimp only; split <;> rfl
@[simp] theorem State.advanceCyc_w1c (s : State) (n : Nat) : (s.advanceCyc n).w1c = s.w1c := by unfold State.advanceCyc; dsimp only; split <;> rfl
@[simp] theorem State.advanceCyc_svc (s : State) (n : Nat) : (s.advanceCyc n).svc = s.svc := by unfold State.advanceCyc; dsimp only; split <;> rfl
@[simp] theorem State.advanceCyc_nvm (s : State) (n : Nat) : (s.advanceCyc n).nvm = s.nvm := by unfold State.advanceCyc; dsimp only; split <;> rfl
@[simp] theorem State.advanceCyc_out (s : State) (n : Nat) : (s.advanceCyc n).out = s.out := by unfold State.advanceCyc; dsimp only; split <;> rfl
@[simp] theorem State.advanceCyc_free (s : State) (n : Nat) : (s.advanceCyc n).free = s.free := by unfold State.advanceCyc; dsimp only; split <;> rfl

/-! `toCyc` changes clk, p0, p1, p2, p3 at most. -/

@[simp] theorem State.toCyc_pending (s : State) (p c : Nat) : (s.toCyc p c).pending = s.pending := by simp [State.toCyc]
@[simp] theorem State.toCyc_fused (s : State) (p c : Nat) : (s.toCyc p c).fused = s.fused := by simp [State.toCyc]
@[simp] theorem State.toCyc_fld (s : State) (p c : Nat) : (s.toCyc p c).fld = s.fld := by simp [State.toCyc]
@[simp] theorem State.toCyc_defer (s : State) (p c : Nat) : (s.toCyc p c).defer = s.defer := by simp [State.toCyc]
@[simp] theorem State.toCyc_mem (s : State) (p c : Nat) : (s.toCyc p c).mem = s.mem := by simp [State.toCyc]
@[simp] theorem State.toCyc_undef (s : State) (p c : Nat) : (s.toCyc p c).undef = s.undef := by simp [State.toCyc]
@[simp] theorem State.toCyc_ecc (s : State) (p c : Nat) : (s.toCyc p c).ecc = s.ecc := by simp [State.toCyc]
@[simp] theorem State.toCyc_poison (s : State) (p c : Nat) : (s.toCyc p c).poison = s.poison := by simp [State.toCyc]
@[simp] theorem State.toCyc_acf (s : State) (p c : Nat) : (s.toCyc p c).acf = s.acf := by simp [State.toCyc]
@[simp] theorem State.toCyc_acfEcc (s : State) (p c : Nat) : (s.toCyc p c).acfEcc = s.acfEcc := by simp [State.toCyc]
@[simp] theorem State.toCyc_a0 (s : State) (p c : Nat) : (s.toCyc p c).a0 = s.a0 := by simp [State.toCyc]
@[simp] theorem State.toCyc_a1 (s : State) (p c : Nat) : (s.toCyc p c).a1 = s.a1 := by simp [State.toCyc]
@[simp] theorem State.toCyc_a2 (s : State) (p c : Nat) : (s.toCyc p c).a2 = s.a2 := by simp [State.toCyc]
@[simp] theorem State.toCyc_a3 (s : State) (p c : Nat) : (s.toCyc p c).a3 = s.a3 := by simp [State.toCyc]
@[simp] theorem State.toCyc_owner (s : State) (p c : Nat) : (s.toCyc p c).owner = s.owner := by simp [State.toCyc]
@[simp] theorem State.toCyc_dark (s : State) (p c : Nat) : (s.toCyc p c).dark = s.dark := by simp [State.toCyc]
@[simp] theorem State.toCyc_reports (s : State) (p c : Nat) : (s.toCyc p c).reports = s.reports := by simp [State.toCyc]
@[simp] theorem State.toCyc_jqueue (s : State) (p c : Nat) : (s.toCyc p c).jqueue = s.jqueue := by simp [State.toCyc]
@[simp] theorem State.toCyc_journal (s : State) (p c : Nat) : (s.toCyc p c).journal = s.journal := by simp [State.toCyc]
@[simp] theorem State.toCyc_bringIn (s : State) (p c : Nat) : (s.toCyc p c).bringIn = s.bringIn := by simp [State.toCyc]
@[simp] theorem State.toCyc_spareBad (s : State) (p c : Nat) : (s.toCyc p c).spareBad = s.spareBad := by simp [State.toCyc]
@[simp] theorem State.toCyc_hbmWait (s : State) (p c : Nat) : (s.toCyc p c).hbmWait = s.hbmWait := by simp [State.toCyc]
@[simp] theorem State.toCyc_rowMap (s : State) (p c : Nat) : (s.toCyc p c).rowMap = s.rowMap := by simp [State.toCyc]
@[simp] theorem State.toCyc_colMap (s : State) (p c : Nat) : (s.toCyc p c).colMap = s.colMap := by simp [State.toCyc]
@[simp] theorem State.toCyc_th (s : State) (p c : Nat) : (s.toCyc p c).th = s.th := by simp [State.toCyc]
@[simp] theorem State.toCyc_fab (s : State) (p c : Nat) : (s.toCyc p c).fab = s.fab := by simp [State.toCyc]
@[simp] theorem State.toCyc_coll (s : State) (p c : Nat) : (s.toCyc p c).coll = s.coll := by simp [State.toCyc]
@[simp] theorem State.toCyc_nicOwner (s : State) (p c : Nat) : (s.toCyc p c).nicOwner = s.nicOwner := by simp [State.toCyc]
@[simp] theorem State.toCyc_sve (s : State) (p c : Nat) : (s.toCyc p c).sve = s.sve := by simp [State.toCyc]
@[simp] theorem State.toCyc_sveJob (s : State) (p c : Nat) : (s.toCyc p c).sveJob = s.sveJob := by simp [State.toCyc]
@[simp] theorem State.toCyc_cor (s : State) (p c : Nat) : (s.toCyc p c).cor = s.cor := by simp [State.toCyc]
@[simp] theorem State.toCyc_cores (s : State) (p c : Nat) : (s.toCyc p c).cores = s.cores := by simp [State.toCyc]
@[simp] theorem State.toCyc_ccache (s : State) (p c : Nat) : (s.toCyc p c).ccache = s.ccache := by simp [State.toCyc]
@[simp] theorem State.toCyc_pmc (s : State) (p c : Nat) : (s.toCyc p c).pmc = s.pmc := by simp [State.toCyc]
@[simp] theorem State.toCyc_mig (s : State) (p c : Nat) : (s.toCyc p c).mig = s.mig := by simp [State.toCyc]
@[simp] theorem State.toCyc_cfg (s : State) (p c : Nat) : (s.toCyc p c).cfg = s.cfg := by simp [State.toCyc]
@[simp] theorem State.toCyc_ckpt (s : State) (p c : Nat) : (s.toCyc p c).ckpt = s.ckpt := by simp [State.toCyc]
@[simp] theorem State.toCyc_csm (s : State) (p c : Nat) : (s.toCyc p c).csm = s.csm := by simp [State.toCyc]
@[simp] theorem State.toCyc_csArm (s : State) (p c : Nat) : (s.toCyc p c).csArm = s.csArm := by simp [State.toCyc]
@[simp] theorem State.toCyc_tbTries (s : State) (p c : Nat) : (s.toCyc p c).tbTries = s.tbTries := by simp [State.toCyc]
@[simp] theorem State.toCyc_boot (s : State) (p c : Nat) : (s.toCyc p c).boot = s.boot := by simp [State.toCyc]
@[simp] theorem State.toCyc_dr (s : State) (p c : Nat) : (s.toCyc p c).dr = s.dr := by simp [State.toCyc]
@[simp] theorem State.toCyc_lsc (s : State) (p c : Nat) : (s.toCyc p c).lsc = s.lsc := by simp [State.toCyc]
@[simp] theorem State.toCyc_tap (s : State) (p c : Nat) : (s.toCyc p c).tap = s.tap := by simp [State.toCyc]
@[simp] theorem State.toCyc_pdieCool (s : State) (p c : Nat) : (s.toCyc p c).pdieCool = s.pdieCool := by simp [State.toCyc]
@[simp] theorem State.toCyc_fdieWait (s : State) (p c : Nat) : (s.toCyc p c).fdieWait = s.fdieWait := by simp [State.toCyc]
@[simp] theorem State.toCyc_fails (s : State) (p c : Nat) : (s.toCyc p c).fails = s.fails := by simp [State.toCyc]
@[simp] theorem State.toCyc_acfHist (s : State) (p c : Nat) : (s.toCyc p c).acfHist = s.acfHist := by simp [State.toCyc]
@[simp] theorem State.toCyc_hist (s : State) (p c : Nat) : (s.toCyc p c).hist = s.hist := by simp [State.toCyc]
@[simp] theorem State.toCyc_w1c (s : State) (p c : Nat) : (s.toCyc p c).w1c = s.w1c := by simp [State.toCyc]
@[simp] theorem State.toCyc_svc (s : State) (p c : Nat) : (s.toCyc p c).svc = s.svc := by simp [State.toCyc]
@[simp] theorem State.toCyc_nvm (s : State) (p c : Nat) : (s.toCyc p c).nvm = s.nvm := by simp [State.toCyc]
@[simp] theorem State.toCyc_out (s : State) (p c : Nat) : (s.toCyc p c).out = s.out := by simp [State.toCyc]
@[simp] theorem State.toCyc_free (s : State) (p c : Nat) : (s.toCyc p c).free = s.free := by simp [State.toCyc]

/-! `raiseCmd` changes reports at most. -/

@[simp] theorem State.raiseCmd_pending (s : State) (cls code die unit idx kind value : Nat) : (s.raiseCmd cls code die unit idx kind value).pending = s.pending := rfl
@[simp] theorem State.raiseCmd_clk (s : State) (cls code die unit idx kind value : Nat) : (s.raiseCmd cls code die unit idx kind value).clk = s.clk := rfl
@[simp] theorem State.raiseCmd_fused (s : State) (cls code die unit idx kind value : Nat) : (s.raiseCmd cls code die unit idx kind value).fused = s.fused := rfl
@[simp] theorem State.raiseCmd_fld (s : State) (cls code die unit idx kind value : Nat) : (s.raiseCmd cls code die unit idx kind value).fld = s.fld := rfl
@[simp] theorem State.raiseCmd_defer (s : State) (cls code die unit idx kind value : Nat) : (s.raiseCmd cls code die unit idx kind value).defer = s.defer := rfl
@[simp] theorem State.raiseCmd_mem (s : State) (cls code die unit idx kind value : Nat) : (s.raiseCmd cls code die unit idx kind value).mem = s.mem := rfl
@[simp] theorem State.raiseCmd_undef (s : State) (cls code die unit idx kind value : Nat) : (s.raiseCmd cls code die unit idx kind value).undef = s.undef := rfl
@[simp] theorem State.raiseCmd_ecc (s : State) (cls code die unit idx kind value : Nat) : (s.raiseCmd cls code die unit idx kind value).ecc = s.ecc := rfl
@[simp] theorem State.raiseCmd_poison (s : State) (cls code die unit idx kind value : Nat) : (s.raiseCmd cls code die unit idx kind value).poison = s.poison := rfl
@[simp] theorem State.raiseCmd_acf (s : State) (cls code die unit idx kind value : Nat) : (s.raiseCmd cls code die unit idx kind value).acf = s.acf := rfl
@[simp] theorem State.raiseCmd_acfEcc (s : State) (cls code die unit idx kind value : Nat) : (s.raiseCmd cls code die unit idx kind value).acfEcc = s.acfEcc := rfl
@[simp] theorem State.raiseCmd_a0 (s : State) (cls code die unit idx kind value : Nat) : (s.raiseCmd cls code die unit idx kind value).a0 = s.a0 := rfl
@[simp] theorem State.raiseCmd_a1 (s : State) (cls code die unit idx kind value : Nat) : (s.raiseCmd cls code die unit idx kind value).a1 = s.a1 := rfl
@[simp] theorem State.raiseCmd_a2 (s : State) (cls code die unit idx kind value : Nat) : (s.raiseCmd cls code die unit idx kind value).a2 = s.a2 := rfl
@[simp] theorem State.raiseCmd_a3 (s : State) (cls code die unit idx kind value : Nat) : (s.raiseCmd cls code die unit idx kind value).a3 = s.a3 := rfl
@[simp] theorem State.raiseCmd_p0 (s : State) (cls code die unit idx kind value : Nat) : (s.raiseCmd cls code die unit idx kind value).p0 = s.p0 := rfl
@[simp] theorem State.raiseCmd_p1 (s : State) (cls code die unit idx kind value : Nat) : (s.raiseCmd cls code die unit idx kind value).p1 = s.p1 := rfl
@[simp] theorem State.raiseCmd_p2 (s : State) (cls code die unit idx kind value : Nat) : (s.raiseCmd cls code die unit idx kind value).p2 = s.p2 := rfl
@[simp] theorem State.raiseCmd_p3 (s : State) (cls code die unit idx kind value : Nat) : (s.raiseCmd cls code die unit idx kind value).p3 = s.p3 := rfl
@[simp] theorem State.raiseCmd_owner (s : State) (cls code die unit idx kind value : Nat) : (s.raiseCmd cls code die unit idx kind value).owner = s.owner := rfl
@[simp] theorem State.raiseCmd_dark (s : State) (cls code die unit idx kind value : Nat) : (s.raiseCmd cls code die unit idx kind value).dark = s.dark := rfl
@[simp] theorem State.raiseCmd_jqueue (s : State) (cls code die unit idx kind value : Nat) : (s.raiseCmd cls code die unit idx kind value).jqueue = s.jqueue := rfl
@[simp] theorem State.raiseCmd_journal (s : State) (cls code die unit idx kind value : Nat) : (s.raiseCmd cls code die unit idx kind value).journal = s.journal := rfl
@[simp] theorem State.raiseCmd_bringIn (s : State) (cls code die unit idx kind value : Nat) : (s.raiseCmd cls code die unit idx kind value).bringIn = s.bringIn := rfl
@[simp] theorem State.raiseCmd_spareBad (s : State) (cls code die unit idx kind value : Nat) : (s.raiseCmd cls code die unit idx kind value).spareBad = s.spareBad := rfl
@[simp] theorem State.raiseCmd_hbmWait (s : State) (cls code die unit idx kind value : Nat) : (s.raiseCmd cls code die unit idx kind value).hbmWait = s.hbmWait := rfl
@[simp] theorem State.raiseCmd_rowMap (s : State) (cls code die unit idx kind value : Nat) : (s.raiseCmd cls code die unit idx kind value).rowMap = s.rowMap := rfl
@[simp] theorem State.raiseCmd_colMap (s : State) (cls code die unit idx kind value : Nat) : (s.raiseCmd cls code die unit idx kind value).colMap = s.colMap := rfl
@[simp] theorem State.raiseCmd_th (s : State) (cls code die unit idx kind value : Nat) : (s.raiseCmd cls code die unit idx kind value).th = s.th := rfl
@[simp] theorem State.raiseCmd_fab (s : State) (cls code die unit idx kind value : Nat) : (s.raiseCmd cls code die unit idx kind value).fab = s.fab := rfl
@[simp] theorem State.raiseCmd_coll (s : State) (cls code die unit idx kind value : Nat) : (s.raiseCmd cls code die unit idx kind value).coll = s.coll := rfl
@[simp] theorem State.raiseCmd_nicOwner (s : State) (cls code die unit idx kind value : Nat) : (s.raiseCmd cls code die unit idx kind value).nicOwner = s.nicOwner := rfl
@[simp] theorem State.raiseCmd_sve (s : State) (cls code die unit idx kind value : Nat) : (s.raiseCmd cls code die unit idx kind value).sve = s.sve := rfl
@[simp] theorem State.raiseCmd_sveJob (s : State) (cls code die unit idx kind value : Nat) : (s.raiseCmd cls code die unit idx kind value).sveJob = s.sveJob := rfl
@[simp] theorem State.raiseCmd_cor (s : State) (cls code die unit idx kind value : Nat) : (s.raiseCmd cls code die unit idx kind value).cor = s.cor := rfl
@[simp] theorem State.raiseCmd_cores (s : State) (cls code die unit idx kind value : Nat) : (s.raiseCmd cls code die unit idx kind value).cores = s.cores := rfl
@[simp] theorem State.raiseCmd_ccache (s : State) (cls code die unit idx kind value : Nat) : (s.raiseCmd cls code die unit idx kind value).ccache = s.ccache := rfl
@[simp] theorem State.raiseCmd_pmc (s : State) (cls code die unit idx kind value : Nat) : (s.raiseCmd cls code die unit idx kind value).pmc = s.pmc := rfl
@[simp] theorem State.raiseCmd_mig (s : State) (cls code die unit idx kind value : Nat) : (s.raiseCmd cls code die unit idx kind value).mig = s.mig := rfl
@[simp] theorem State.raiseCmd_cfg (s : State) (cls code die unit idx kind value : Nat) : (s.raiseCmd cls code die unit idx kind value).cfg = s.cfg := rfl
@[simp] theorem State.raiseCmd_ckpt (s : State) (cls code die unit idx kind value : Nat) : (s.raiseCmd cls code die unit idx kind value).ckpt = s.ckpt := rfl
@[simp] theorem State.raiseCmd_csm (s : State) (cls code die unit idx kind value : Nat) : (s.raiseCmd cls code die unit idx kind value).csm = s.csm := rfl
@[simp] theorem State.raiseCmd_csArm (s : State) (cls code die unit idx kind value : Nat) : (s.raiseCmd cls code die unit idx kind value).csArm = s.csArm := rfl
@[simp] theorem State.raiseCmd_tbTries (s : State) (cls code die unit idx kind value : Nat) : (s.raiseCmd cls code die unit idx kind value).tbTries = s.tbTries := rfl
@[simp] theorem State.raiseCmd_boot (s : State) (cls code die unit idx kind value : Nat) : (s.raiseCmd cls code die unit idx kind value).boot = s.boot := rfl
@[simp] theorem State.raiseCmd_dr (s : State) (cls code die unit idx kind value : Nat) : (s.raiseCmd cls code die unit idx kind value).dr = s.dr := rfl
@[simp] theorem State.raiseCmd_lsc (s : State) (cls code die unit idx kind value : Nat) : (s.raiseCmd cls code die unit idx kind value).lsc = s.lsc := rfl
@[simp] theorem State.raiseCmd_tap (s : State) (cls code die unit idx kind value : Nat) : (s.raiseCmd cls code die unit idx kind value).tap = s.tap := rfl
@[simp] theorem State.raiseCmd_pdieCool (s : State) (cls code die unit idx kind value : Nat) : (s.raiseCmd cls code die unit idx kind value).pdieCool = s.pdieCool := rfl
@[simp] theorem State.raiseCmd_fdieWait (s : State) (cls code die unit idx kind value : Nat) : (s.raiseCmd cls code die unit idx kind value).fdieWait = s.fdieWait := rfl
@[simp] theorem State.raiseCmd_fails (s : State) (cls code die unit idx kind value : Nat) : (s.raiseCmd cls code die unit idx kind value).fails = s.fails := rfl
@[simp] theorem State.raiseCmd_acfHist (s : State) (cls code die unit idx kind value : Nat) : (s.raiseCmd cls code die unit idx kind value).acfHist = s.acfHist := rfl
@[simp] theorem State.raiseCmd_hist (s : State) (cls code die unit idx kind value : Nat) : (s.raiseCmd cls code die unit idx kind value).hist = s.hist := rfl
@[simp] theorem State.raiseCmd_w1c (s : State) (cls code die unit idx kind value : Nat) : (s.raiseCmd cls code die unit idx kind value).w1c = s.w1c := rfl
@[simp] theorem State.raiseCmd_svc (s : State) (cls code die unit idx kind value : Nat) : (s.raiseCmd cls code die unit idx kind value).svc = s.svc := rfl
@[simp] theorem State.raiseCmd_nvm (s : State) (cls code die unit idx kind value : Nat) : (s.raiseCmd cls code die unit idx kind value).nvm = s.nvm := rfl
@[simp] theorem State.raiseCmd_out (s : State) (cls code die unit idx kind value : Nat) : (s.raiseCmd cls code die unit idx kind value).out = s.out := rfl
@[simp] theorem State.raiseCmd_free (s : State) (cls code die unit idx kind value : Nat) : (s.raiseCmd cls code die unit idx kind value).free = s.free := rfl

/-- An exposure record changes its die's capture state at most (R511, R514). -/
theorem State.expoAt_updDie (s : State) (die ns typ flags code idx cyc value detail : Nat) (mbit : Option Nat) :
    ∃ x, s.expoAt die ns typ flags code idx cyc value detail mbit = s.updDie die (fun d => { d with expo := x }) := by
  have hs : s = s.updDie die (fun d => { d with expo := (s.die die).expo }) := by
    unfold State.updDie State.setDie State.die
    have hk : die % 4 = 0 ∨ die % 4 = 1 ∨ die % 4 = 2 ∨ die % 4 = 3 := by omega
    obtain h | h | h | h := hk <;> (rw [h]; rfl)
  unfold State.expoAt
  dsimp only
  repeat' split
  all_goals first
    | exact ⟨_, hs⟩
    | exact ⟨_, rfl⟩

/-! `expoAt` changes a0, a1, a2, a3 at most. -/

@[simp] theorem State.expoAt_pending (s : State) (die ns typ flags code idx cyc value detail : Nat) (mbit : Option Nat) : (s.expoAt die ns typ flags code idx cyc value detail mbit).pending = s.pending := by obtain ⟨x, h⟩ := s.expoAt_updDie die ns typ flags code idx cyc value detail mbit; rw [h]; simp
@[simp] theorem State.expoAt_clk (s : State) (die ns typ flags code idx cyc value detail : Nat) (mbit : Option Nat) : (s.expoAt die ns typ flags code idx cyc value detail mbit).clk = s.clk := by obtain ⟨x, h⟩ := s.expoAt_updDie die ns typ flags code idx cyc value detail mbit; rw [h]; simp
@[simp] theorem State.expoAt_fused (s : State) (die ns typ flags code idx cyc value detail : Nat) (mbit : Option Nat) : (s.expoAt die ns typ flags code idx cyc value detail mbit).fused = s.fused := by obtain ⟨x, h⟩ := s.expoAt_updDie die ns typ flags code idx cyc value detail mbit; rw [h]; simp
@[simp] theorem State.expoAt_fld (s : State) (die ns typ flags code idx cyc value detail : Nat) (mbit : Option Nat) : (s.expoAt die ns typ flags code idx cyc value detail mbit).fld = s.fld := by obtain ⟨x, h⟩ := s.expoAt_updDie die ns typ flags code idx cyc value detail mbit; rw [h]; simp
@[simp] theorem State.expoAt_defer (s : State) (die ns typ flags code idx cyc value detail : Nat) (mbit : Option Nat) : (s.expoAt die ns typ flags code idx cyc value detail mbit).defer = s.defer := by obtain ⟨x, h⟩ := s.expoAt_updDie die ns typ flags code idx cyc value detail mbit; rw [h]; simp
@[simp] theorem State.expoAt_mem (s : State) (die ns typ flags code idx cyc value detail : Nat) (mbit : Option Nat) : (s.expoAt die ns typ flags code idx cyc value detail mbit).mem = s.mem := by obtain ⟨x, h⟩ := s.expoAt_updDie die ns typ flags code idx cyc value detail mbit; rw [h]; simp
@[simp] theorem State.expoAt_undef (s : State) (die ns typ flags code idx cyc value detail : Nat) (mbit : Option Nat) : (s.expoAt die ns typ flags code idx cyc value detail mbit).undef = s.undef := by obtain ⟨x, h⟩ := s.expoAt_updDie die ns typ flags code idx cyc value detail mbit; rw [h]; simp
@[simp] theorem State.expoAt_ecc (s : State) (die ns typ flags code idx cyc value detail : Nat) (mbit : Option Nat) : (s.expoAt die ns typ flags code idx cyc value detail mbit).ecc = s.ecc := by obtain ⟨x, h⟩ := s.expoAt_updDie die ns typ flags code idx cyc value detail mbit; rw [h]; simp
@[simp] theorem State.expoAt_poison (s : State) (die ns typ flags code idx cyc value detail : Nat) (mbit : Option Nat) : (s.expoAt die ns typ flags code idx cyc value detail mbit).poison = s.poison := by obtain ⟨x, h⟩ := s.expoAt_updDie die ns typ flags code idx cyc value detail mbit; rw [h]; simp
@[simp] theorem State.expoAt_acf (s : State) (die ns typ flags code idx cyc value detail : Nat) (mbit : Option Nat) : (s.expoAt die ns typ flags code idx cyc value detail mbit).acf = s.acf := by obtain ⟨x, h⟩ := s.expoAt_updDie die ns typ flags code idx cyc value detail mbit; rw [h]; simp
@[simp] theorem State.expoAt_acfEcc (s : State) (die ns typ flags code idx cyc value detail : Nat) (mbit : Option Nat) : (s.expoAt die ns typ flags code idx cyc value detail mbit).acfEcc = s.acfEcc := by obtain ⟨x, h⟩ := s.expoAt_updDie die ns typ flags code idx cyc value detail mbit; rw [h]; simp
@[simp] theorem State.expoAt_p0 (s : State) (die ns typ flags code idx cyc value detail : Nat) (mbit : Option Nat) : (s.expoAt die ns typ flags code idx cyc value detail mbit).p0 = s.p0 := by obtain ⟨x, h⟩ := s.expoAt_updDie die ns typ flags code idx cyc value detail mbit; rw [h]; simp
@[simp] theorem State.expoAt_p1 (s : State) (die ns typ flags code idx cyc value detail : Nat) (mbit : Option Nat) : (s.expoAt die ns typ flags code idx cyc value detail mbit).p1 = s.p1 := by obtain ⟨x, h⟩ := s.expoAt_updDie die ns typ flags code idx cyc value detail mbit; rw [h]; simp
@[simp] theorem State.expoAt_p2 (s : State) (die ns typ flags code idx cyc value detail : Nat) (mbit : Option Nat) : (s.expoAt die ns typ flags code idx cyc value detail mbit).p2 = s.p2 := by obtain ⟨x, h⟩ := s.expoAt_updDie die ns typ flags code idx cyc value detail mbit; rw [h]; simp
@[simp] theorem State.expoAt_p3 (s : State) (die ns typ flags code idx cyc value detail : Nat) (mbit : Option Nat) : (s.expoAt die ns typ flags code idx cyc value detail mbit).p3 = s.p3 := by obtain ⟨x, h⟩ := s.expoAt_updDie die ns typ flags code idx cyc value detail mbit; rw [h]; simp
@[simp] theorem State.expoAt_owner (s : State) (die ns typ flags code idx cyc value detail : Nat) (mbit : Option Nat) : (s.expoAt die ns typ flags code idx cyc value detail mbit).owner = s.owner := by obtain ⟨x, h⟩ := s.expoAt_updDie die ns typ flags code idx cyc value detail mbit; rw [h]; simp
@[simp] theorem State.expoAt_dark (s : State) (die ns typ flags code idx cyc value detail : Nat) (mbit : Option Nat) : (s.expoAt die ns typ flags code idx cyc value detail mbit).dark = s.dark := by obtain ⟨x, h⟩ := s.expoAt_updDie die ns typ flags code idx cyc value detail mbit; rw [h]; simp
@[simp] theorem State.expoAt_reports (s : State) (die ns typ flags code idx cyc value detail : Nat) (mbit : Option Nat) : (s.expoAt die ns typ flags code idx cyc value detail mbit).reports = s.reports := by obtain ⟨x, h⟩ := s.expoAt_updDie die ns typ flags code idx cyc value detail mbit; rw [h]; simp
@[simp] theorem State.expoAt_jqueue (s : State) (die ns typ flags code idx cyc value detail : Nat) (mbit : Option Nat) : (s.expoAt die ns typ flags code idx cyc value detail mbit).jqueue = s.jqueue := by obtain ⟨x, h⟩ := s.expoAt_updDie die ns typ flags code idx cyc value detail mbit; rw [h]; simp
@[simp] theorem State.expoAt_journal (s : State) (die ns typ flags code idx cyc value detail : Nat) (mbit : Option Nat) : (s.expoAt die ns typ flags code idx cyc value detail mbit).journal = s.journal := by obtain ⟨x, h⟩ := s.expoAt_updDie die ns typ flags code idx cyc value detail mbit; rw [h]; simp
@[simp] theorem State.expoAt_bringIn (s : State) (die ns typ flags code idx cyc value detail : Nat) (mbit : Option Nat) : (s.expoAt die ns typ flags code idx cyc value detail mbit).bringIn = s.bringIn := by obtain ⟨x, h⟩ := s.expoAt_updDie die ns typ flags code idx cyc value detail mbit; rw [h]; simp
@[simp] theorem State.expoAt_spareBad (s : State) (die ns typ flags code idx cyc value detail : Nat) (mbit : Option Nat) : (s.expoAt die ns typ flags code idx cyc value detail mbit).spareBad = s.spareBad := by obtain ⟨x, h⟩ := s.expoAt_updDie die ns typ flags code idx cyc value detail mbit; rw [h]; simp
@[simp] theorem State.expoAt_hbmWait (s : State) (die ns typ flags code idx cyc value detail : Nat) (mbit : Option Nat) : (s.expoAt die ns typ flags code idx cyc value detail mbit).hbmWait = s.hbmWait := by obtain ⟨x, h⟩ := s.expoAt_updDie die ns typ flags code idx cyc value detail mbit; rw [h]; simp
@[simp] theorem State.expoAt_rowMap (s : State) (die ns typ flags code idx cyc value detail : Nat) (mbit : Option Nat) : (s.expoAt die ns typ flags code idx cyc value detail mbit).rowMap = s.rowMap := by obtain ⟨x, h⟩ := s.expoAt_updDie die ns typ flags code idx cyc value detail mbit; rw [h]; simp
@[simp] theorem State.expoAt_colMap (s : State) (die ns typ flags code idx cyc value detail : Nat) (mbit : Option Nat) : (s.expoAt die ns typ flags code idx cyc value detail mbit).colMap = s.colMap := by obtain ⟨x, h⟩ := s.expoAt_updDie die ns typ flags code idx cyc value detail mbit; rw [h]; simp
@[simp] theorem State.expoAt_th (s : State) (die ns typ flags code idx cyc value detail : Nat) (mbit : Option Nat) : (s.expoAt die ns typ flags code idx cyc value detail mbit).th = s.th := by obtain ⟨x, h⟩ := s.expoAt_updDie die ns typ flags code idx cyc value detail mbit; rw [h]; simp
@[simp] theorem State.expoAt_fab (s : State) (die ns typ flags code idx cyc value detail : Nat) (mbit : Option Nat) : (s.expoAt die ns typ flags code idx cyc value detail mbit).fab = s.fab := by obtain ⟨x, h⟩ := s.expoAt_updDie die ns typ flags code idx cyc value detail mbit; rw [h]; simp
@[simp] theorem State.expoAt_coll (s : State) (die ns typ flags code idx cyc value detail : Nat) (mbit : Option Nat) : (s.expoAt die ns typ flags code idx cyc value detail mbit).coll = s.coll := by obtain ⟨x, h⟩ := s.expoAt_updDie die ns typ flags code idx cyc value detail mbit; rw [h]; simp
@[simp] theorem State.expoAt_nicOwner (s : State) (die ns typ flags code idx cyc value detail : Nat) (mbit : Option Nat) : (s.expoAt die ns typ flags code idx cyc value detail mbit).nicOwner = s.nicOwner := by obtain ⟨x, h⟩ := s.expoAt_updDie die ns typ flags code idx cyc value detail mbit; rw [h]; simp
@[simp] theorem State.expoAt_sve (s : State) (die ns typ flags code idx cyc value detail : Nat) (mbit : Option Nat) : (s.expoAt die ns typ flags code idx cyc value detail mbit).sve = s.sve := by obtain ⟨x, h⟩ := s.expoAt_updDie die ns typ flags code idx cyc value detail mbit; rw [h]; simp
@[simp] theorem State.expoAt_sveJob (s : State) (die ns typ flags code idx cyc value detail : Nat) (mbit : Option Nat) : (s.expoAt die ns typ flags code idx cyc value detail mbit).sveJob = s.sveJob := by obtain ⟨x, h⟩ := s.expoAt_updDie die ns typ flags code idx cyc value detail mbit; rw [h]; simp
@[simp] theorem State.expoAt_cor (s : State) (die ns typ flags code idx cyc value detail : Nat) (mbit : Option Nat) : (s.expoAt die ns typ flags code idx cyc value detail mbit).cor = s.cor := by obtain ⟨x, h⟩ := s.expoAt_updDie die ns typ flags code idx cyc value detail mbit; rw [h]; simp
@[simp] theorem State.expoAt_cores (s : State) (die ns typ flags code idx cyc value detail : Nat) (mbit : Option Nat) : (s.expoAt die ns typ flags code idx cyc value detail mbit).cores = s.cores := by obtain ⟨x, h⟩ := s.expoAt_updDie die ns typ flags code idx cyc value detail mbit; rw [h]; simp
@[simp] theorem State.expoAt_ccache (s : State) (die ns typ flags code idx cyc value detail : Nat) (mbit : Option Nat) : (s.expoAt die ns typ flags code idx cyc value detail mbit).ccache = s.ccache := by obtain ⟨x, h⟩ := s.expoAt_updDie die ns typ flags code idx cyc value detail mbit; rw [h]; simp
@[simp] theorem State.expoAt_pmc (s : State) (die ns typ flags code idx cyc value detail : Nat) (mbit : Option Nat) : (s.expoAt die ns typ flags code idx cyc value detail mbit).pmc = s.pmc := by obtain ⟨x, h⟩ := s.expoAt_updDie die ns typ flags code idx cyc value detail mbit; rw [h]; simp
@[simp] theorem State.expoAt_mig (s : State) (die ns typ flags code idx cyc value detail : Nat) (mbit : Option Nat) : (s.expoAt die ns typ flags code idx cyc value detail mbit).mig = s.mig := by obtain ⟨x, h⟩ := s.expoAt_updDie die ns typ flags code idx cyc value detail mbit; rw [h]; simp
@[simp] theorem State.expoAt_cfg (s : State) (die ns typ flags code idx cyc value detail : Nat) (mbit : Option Nat) : (s.expoAt die ns typ flags code idx cyc value detail mbit).cfg = s.cfg := by obtain ⟨x, h⟩ := s.expoAt_updDie die ns typ flags code idx cyc value detail mbit; rw [h]; simp
@[simp] theorem State.expoAt_ckpt (s : State) (die ns typ flags code idx cyc value detail : Nat) (mbit : Option Nat) : (s.expoAt die ns typ flags code idx cyc value detail mbit).ckpt = s.ckpt := by obtain ⟨x, h⟩ := s.expoAt_updDie die ns typ flags code idx cyc value detail mbit; rw [h]; simp
@[simp] theorem State.expoAt_csm (s : State) (die ns typ flags code idx cyc value detail : Nat) (mbit : Option Nat) : (s.expoAt die ns typ flags code idx cyc value detail mbit).csm = s.csm := by obtain ⟨x, h⟩ := s.expoAt_updDie die ns typ flags code idx cyc value detail mbit; rw [h]; simp
@[simp] theorem State.expoAt_csArm (s : State) (die ns typ flags code idx cyc value detail : Nat) (mbit : Option Nat) : (s.expoAt die ns typ flags code idx cyc value detail mbit).csArm = s.csArm := by obtain ⟨x, h⟩ := s.expoAt_updDie die ns typ flags code idx cyc value detail mbit; rw [h]; simp
@[simp] theorem State.expoAt_tbTries (s : State) (die ns typ flags code idx cyc value detail : Nat) (mbit : Option Nat) : (s.expoAt die ns typ flags code idx cyc value detail mbit).tbTries = s.tbTries := by obtain ⟨x, h⟩ := s.expoAt_updDie die ns typ flags code idx cyc value detail mbit; rw [h]; simp
@[simp] theorem State.expoAt_boot (s : State) (die ns typ flags code idx cyc value detail : Nat) (mbit : Option Nat) : (s.expoAt die ns typ flags code idx cyc value detail mbit).boot = s.boot := by obtain ⟨x, h⟩ := s.expoAt_updDie die ns typ flags code idx cyc value detail mbit; rw [h]; simp
@[simp] theorem State.expoAt_dr (s : State) (die ns typ flags code idx cyc value detail : Nat) (mbit : Option Nat) : (s.expoAt die ns typ flags code idx cyc value detail mbit).dr = s.dr := by obtain ⟨x, h⟩ := s.expoAt_updDie die ns typ flags code idx cyc value detail mbit; rw [h]; simp
@[simp] theorem State.expoAt_lsc (s : State) (die ns typ flags code idx cyc value detail : Nat) (mbit : Option Nat) : (s.expoAt die ns typ flags code idx cyc value detail mbit).lsc = s.lsc := by obtain ⟨x, h⟩ := s.expoAt_updDie die ns typ flags code idx cyc value detail mbit; rw [h]; simp
@[simp] theorem State.expoAt_tap (s : State) (die ns typ flags code idx cyc value detail : Nat) (mbit : Option Nat) : (s.expoAt die ns typ flags code idx cyc value detail mbit).tap = s.tap := by obtain ⟨x, h⟩ := s.expoAt_updDie die ns typ flags code idx cyc value detail mbit; rw [h]; simp
@[simp] theorem State.expoAt_pdieCool (s : State) (die ns typ flags code idx cyc value detail : Nat) (mbit : Option Nat) : (s.expoAt die ns typ flags code idx cyc value detail mbit).pdieCool = s.pdieCool := by obtain ⟨x, h⟩ := s.expoAt_updDie die ns typ flags code idx cyc value detail mbit; rw [h]; simp
@[simp] theorem State.expoAt_fdieWait (s : State) (die ns typ flags code idx cyc value detail : Nat) (mbit : Option Nat) : (s.expoAt die ns typ flags code idx cyc value detail mbit).fdieWait = s.fdieWait := by obtain ⟨x, h⟩ := s.expoAt_updDie die ns typ flags code idx cyc value detail mbit; rw [h]; simp
@[simp] theorem State.expoAt_fails (s : State) (die ns typ flags code idx cyc value detail : Nat) (mbit : Option Nat) : (s.expoAt die ns typ flags code idx cyc value detail mbit).fails = s.fails := by obtain ⟨x, h⟩ := s.expoAt_updDie die ns typ flags code idx cyc value detail mbit; rw [h]; simp
@[simp] theorem State.expoAt_acfHist (s : State) (die ns typ flags code idx cyc value detail : Nat) (mbit : Option Nat) : (s.expoAt die ns typ flags code idx cyc value detail mbit).acfHist = s.acfHist := by obtain ⟨x, h⟩ := s.expoAt_updDie die ns typ flags code idx cyc value detail mbit; rw [h]; simp
@[simp] theorem State.expoAt_hist (s : State) (die ns typ flags code idx cyc value detail : Nat) (mbit : Option Nat) : (s.expoAt die ns typ flags code idx cyc value detail mbit).hist = s.hist := by obtain ⟨x, h⟩ := s.expoAt_updDie die ns typ flags code idx cyc value detail mbit; rw [h]; simp
@[simp] theorem State.expoAt_w1c (s : State) (die ns typ flags code idx cyc value detail : Nat) (mbit : Option Nat) : (s.expoAt die ns typ flags code idx cyc value detail mbit).w1c = s.w1c := by obtain ⟨x, h⟩ := s.expoAt_updDie die ns typ flags code idx cyc value detail mbit; rw [h]; simp
@[simp] theorem State.expoAt_svc (s : State) (die ns typ flags code idx cyc value detail : Nat) (mbit : Option Nat) : (s.expoAt die ns typ flags code idx cyc value detail mbit).svc = s.svc := by obtain ⟨x, h⟩ := s.expoAt_updDie die ns typ flags code idx cyc value detail mbit; rw [h]; simp
@[simp] theorem State.expoAt_nvm (s : State) (die ns typ flags code idx cyc value detail : Nat) (mbit : Option Nat) : (s.expoAt die ns typ flags code idx cyc value detail mbit).nvm = s.nvm := by obtain ⟨x, h⟩ := s.expoAt_updDie die ns typ flags code idx cyc value detail mbit; rw [h]; simp
@[simp] theorem State.expoAt_out (s : State) (die ns typ flags code idx cyc value detail : Nat) (mbit : Option Nat) : (s.expoAt die ns typ flags code idx cyc value detail mbit).out = s.out := by obtain ⟨x, h⟩ := s.expoAt_updDie die ns typ flags code idx cyc value detail mbit; rw [h]; simp
@[simp] theorem State.expoAt_free (s : State) (die ns typ flags code idx cyc value detail : Nat) (mbit : Option Nat) : (s.expoAt die ns typ flags code idx cyc value detail mbit).free = s.free := by obtain ⟨x, h⟩ := s.expoAt_updDie die ns typ flags code idx cyc value detail mbit; rw [h]; simp

/-! `expo` changes a0, a1, a2, a3 at most. -/

@[simp] theorem State.expo_pending (s : State) (die typ flags code idx cyc value detail : Nat) (mbit : Option Nat) : (s.expo die typ flags code idx cyc value detail mbit).pending = s.pending := by simp [State.expo]
@[simp] theorem State.expo_clk (s : State) (die typ flags code idx cyc value detail : Nat) (mbit : Option Nat) : (s.expo die typ flags code idx cyc value detail mbit).clk = s.clk := by simp [State.expo]
@[simp] theorem State.expo_fused (s : State) (die typ flags code idx cyc value detail : Nat) (mbit : Option Nat) : (s.expo die typ flags code idx cyc value detail mbit).fused = s.fused := by simp [State.expo]
@[simp] theorem State.expo_fld (s : State) (die typ flags code idx cyc value detail : Nat) (mbit : Option Nat) : (s.expo die typ flags code idx cyc value detail mbit).fld = s.fld := by simp [State.expo]
@[simp] theorem State.expo_defer (s : State) (die typ flags code idx cyc value detail : Nat) (mbit : Option Nat) : (s.expo die typ flags code idx cyc value detail mbit).defer = s.defer := by simp [State.expo]
@[simp] theorem State.expo_mem (s : State) (die typ flags code idx cyc value detail : Nat) (mbit : Option Nat) : (s.expo die typ flags code idx cyc value detail mbit).mem = s.mem := by simp [State.expo]
@[simp] theorem State.expo_undef (s : State) (die typ flags code idx cyc value detail : Nat) (mbit : Option Nat) : (s.expo die typ flags code idx cyc value detail mbit).undef = s.undef := by simp [State.expo]
@[simp] theorem State.expo_ecc (s : State) (die typ flags code idx cyc value detail : Nat) (mbit : Option Nat) : (s.expo die typ flags code idx cyc value detail mbit).ecc = s.ecc := by simp [State.expo]
@[simp] theorem State.expo_poison (s : State) (die typ flags code idx cyc value detail : Nat) (mbit : Option Nat) : (s.expo die typ flags code idx cyc value detail mbit).poison = s.poison := by simp [State.expo]
@[simp] theorem State.expo_acf (s : State) (die typ flags code idx cyc value detail : Nat) (mbit : Option Nat) : (s.expo die typ flags code idx cyc value detail mbit).acf = s.acf := by simp [State.expo]
@[simp] theorem State.expo_acfEcc (s : State) (die typ flags code idx cyc value detail : Nat) (mbit : Option Nat) : (s.expo die typ flags code idx cyc value detail mbit).acfEcc = s.acfEcc := by simp [State.expo]
@[simp] theorem State.expo_p0 (s : State) (die typ flags code idx cyc value detail : Nat) (mbit : Option Nat) : (s.expo die typ flags code idx cyc value detail mbit).p0 = s.p0 := by simp [State.expo]
@[simp] theorem State.expo_p1 (s : State) (die typ flags code idx cyc value detail : Nat) (mbit : Option Nat) : (s.expo die typ flags code idx cyc value detail mbit).p1 = s.p1 := by simp [State.expo]
@[simp] theorem State.expo_p2 (s : State) (die typ flags code idx cyc value detail : Nat) (mbit : Option Nat) : (s.expo die typ flags code idx cyc value detail mbit).p2 = s.p2 := by simp [State.expo]
@[simp] theorem State.expo_p3 (s : State) (die typ flags code idx cyc value detail : Nat) (mbit : Option Nat) : (s.expo die typ flags code idx cyc value detail mbit).p3 = s.p3 := by simp [State.expo]
@[simp] theorem State.expo_owner (s : State) (die typ flags code idx cyc value detail : Nat) (mbit : Option Nat) : (s.expo die typ flags code idx cyc value detail mbit).owner = s.owner := by simp [State.expo]
@[simp] theorem State.expo_dark (s : State) (die typ flags code idx cyc value detail : Nat) (mbit : Option Nat) : (s.expo die typ flags code idx cyc value detail mbit).dark = s.dark := by simp [State.expo]
@[simp] theorem State.expo_reports (s : State) (die typ flags code idx cyc value detail : Nat) (mbit : Option Nat) : (s.expo die typ flags code idx cyc value detail mbit).reports = s.reports := by simp [State.expo]
@[simp] theorem State.expo_jqueue (s : State) (die typ flags code idx cyc value detail : Nat) (mbit : Option Nat) : (s.expo die typ flags code idx cyc value detail mbit).jqueue = s.jqueue := by simp [State.expo]
@[simp] theorem State.expo_journal (s : State) (die typ flags code idx cyc value detail : Nat) (mbit : Option Nat) : (s.expo die typ flags code idx cyc value detail mbit).journal = s.journal := by simp [State.expo]
@[simp] theorem State.expo_bringIn (s : State) (die typ flags code idx cyc value detail : Nat) (mbit : Option Nat) : (s.expo die typ flags code idx cyc value detail mbit).bringIn = s.bringIn := by simp [State.expo]
@[simp] theorem State.expo_spareBad (s : State) (die typ flags code idx cyc value detail : Nat) (mbit : Option Nat) : (s.expo die typ flags code idx cyc value detail mbit).spareBad = s.spareBad := by simp [State.expo]
@[simp] theorem State.expo_hbmWait (s : State) (die typ flags code idx cyc value detail : Nat) (mbit : Option Nat) : (s.expo die typ flags code idx cyc value detail mbit).hbmWait = s.hbmWait := by simp [State.expo]
@[simp] theorem State.expo_rowMap (s : State) (die typ flags code idx cyc value detail : Nat) (mbit : Option Nat) : (s.expo die typ flags code idx cyc value detail mbit).rowMap = s.rowMap := by simp [State.expo]
@[simp] theorem State.expo_colMap (s : State) (die typ flags code idx cyc value detail : Nat) (mbit : Option Nat) : (s.expo die typ flags code idx cyc value detail mbit).colMap = s.colMap := by simp [State.expo]
@[simp] theorem State.expo_th (s : State) (die typ flags code idx cyc value detail : Nat) (mbit : Option Nat) : (s.expo die typ flags code idx cyc value detail mbit).th = s.th := by simp [State.expo]
@[simp] theorem State.expo_fab (s : State) (die typ flags code idx cyc value detail : Nat) (mbit : Option Nat) : (s.expo die typ flags code idx cyc value detail mbit).fab = s.fab := by simp [State.expo]
@[simp] theorem State.expo_coll (s : State) (die typ flags code idx cyc value detail : Nat) (mbit : Option Nat) : (s.expo die typ flags code idx cyc value detail mbit).coll = s.coll := by simp [State.expo]
@[simp] theorem State.expo_nicOwner (s : State) (die typ flags code idx cyc value detail : Nat) (mbit : Option Nat) : (s.expo die typ flags code idx cyc value detail mbit).nicOwner = s.nicOwner := by simp [State.expo]
@[simp] theorem State.expo_sve (s : State) (die typ flags code idx cyc value detail : Nat) (mbit : Option Nat) : (s.expo die typ flags code idx cyc value detail mbit).sve = s.sve := by simp [State.expo]
@[simp] theorem State.expo_sveJob (s : State) (die typ flags code idx cyc value detail : Nat) (mbit : Option Nat) : (s.expo die typ flags code idx cyc value detail mbit).sveJob = s.sveJob := by simp [State.expo]
@[simp] theorem State.expo_cor (s : State) (die typ flags code idx cyc value detail : Nat) (mbit : Option Nat) : (s.expo die typ flags code idx cyc value detail mbit).cor = s.cor := by simp [State.expo]
@[simp] theorem State.expo_cores (s : State) (die typ flags code idx cyc value detail : Nat) (mbit : Option Nat) : (s.expo die typ flags code idx cyc value detail mbit).cores = s.cores := by simp [State.expo]
@[simp] theorem State.expo_ccache (s : State) (die typ flags code idx cyc value detail : Nat) (mbit : Option Nat) : (s.expo die typ flags code idx cyc value detail mbit).ccache = s.ccache := by simp [State.expo]
@[simp] theorem State.expo_pmc (s : State) (die typ flags code idx cyc value detail : Nat) (mbit : Option Nat) : (s.expo die typ flags code idx cyc value detail mbit).pmc = s.pmc := by simp [State.expo]
@[simp] theorem State.expo_mig (s : State) (die typ flags code idx cyc value detail : Nat) (mbit : Option Nat) : (s.expo die typ flags code idx cyc value detail mbit).mig = s.mig := by simp [State.expo]
@[simp] theorem State.expo_cfg (s : State) (die typ flags code idx cyc value detail : Nat) (mbit : Option Nat) : (s.expo die typ flags code idx cyc value detail mbit).cfg = s.cfg := by simp [State.expo]
@[simp] theorem State.expo_ckpt (s : State) (die typ flags code idx cyc value detail : Nat) (mbit : Option Nat) : (s.expo die typ flags code idx cyc value detail mbit).ckpt = s.ckpt := by simp [State.expo]
@[simp] theorem State.expo_csm (s : State) (die typ flags code idx cyc value detail : Nat) (mbit : Option Nat) : (s.expo die typ flags code idx cyc value detail mbit).csm = s.csm := by simp [State.expo]
@[simp] theorem State.expo_csArm (s : State) (die typ flags code idx cyc value detail : Nat) (mbit : Option Nat) : (s.expo die typ flags code idx cyc value detail mbit).csArm = s.csArm := by simp [State.expo]
@[simp] theorem State.expo_tbTries (s : State) (die typ flags code idx cyc value detail : Nat) (mbit : Option Nat) : (s.expo die typ flags code idx cyc value detail mbit).tbTries = s.tbTries := by simp [State.expo]
@[simp] theorem State.expo_boot (s : State) (die typ flags code idx cyc value detail : Nat) (mbit : Option Nat) : (s.expo die typ flags code idx cyc value detail mbit).boot = s.boot := by simp [State.expo]
@[simp] theorem State.expo_dr (s : State) (die typ flags code idx cyc value detail : Nat) (mbit : Option Nat) : (s.expo die typ flags code idx cyc value detail mbit).dr = s.dr := by simp [State.expo]
@[simp] theorem State.expo_lsc (s : State) (die typ flags code idx cyc value detail : Nat) (mbit : Option Nat) : (s.expo die typ flags code idx cyc value detail mbit).lsc = s.lsc := by simp [State.expo]
@[simp] theorem State.expo_tap (s : State) (die typ flags code idx cyc value detail : Nat) (mbit : Option Nat) : (s.expo die typ flags code idx cyc value detail mbit).tap = s.tap := by simp [State.expo]
@[simp] theorem State.expo_pdieCool (s : State) (die typ flags code idx cyc value detail : Nat) (mbit : Option Nat) : (s.expo die typ flags code idx cyc value detail mbit).pdieCool = s.pdieCool := by simp [State.expo]
@[simp] theorem State.expo_fdieWait (s : State) (die typ flags code idx cyc value detail : Nat) (mbit : Option Nat) : (s.expo die typ flags code idx cyc value detail mbit).fdieWait = s.fdieWait := by simp [State.expo]
@[simp] theorem State.expo_fails (s : State) (die typ flags code idx cyc value detail : Nat) (mbit : Option Nat) : (s.expo die typ flags code idx cyc value detail mbit).fails = s.fails := by simp [State.expo]
@[simp] theorem State.expo_acfHist (s : State) (die typ flags code idx cyc value detail : Nat) (mbit : Option Nat) : (s.expo die typ flags code idx cyc value detail mbit).acfHist = s.acfHist := by simp [State.expo]
@[simp] theorem State.expo_hist (s : State) (die typ flags code idx cyc value detail : Nat) (mbit : Option Nat) : (s.expo die typ flags code idx cyc value detail mbit).hist = s.hist := by simp [State.expo]
@[simp] theorem State.expo_w1c (s : State) (die typ flags code idx cyc value detail : Nat) (mbit : Option Nat) : (s.expo die typ flags code idx cyc value detail mbit).w1c = s.w1c := by simp [State.expo]
@[simp] theorem State.expo_svc (s : State) (die typ flags code idx cyc value detail : Nat) (mbit : Option Nat) : (s.expo die typ flags code idx cyc value detail mbit).svc = s.svc := by simp [State.expo]
@[simp] theorem State.expo_nvm (s : State) (die typ flags code idx cyc value detail : Nat) (mbit : Option Nat) : (s.expo die typ flags code idx cyc value detail mbit).nvm = s.nvm := by simp [State.expo]
@[simp] theorem State.expo_out (s : State) (die typ flags code idx cyc value detail : Nat) (mbit : Option Nat) : (s.expo die typ flags code idx cyc value detail mbit).out = s.out := by simp [State.expo]
@[simp] theorem State.expo_free (s : State) (die typ flags code idx cyc value detail : Nat) (mbit : Option Nat) : (s.expo die typ flags code idx cyc value detail mbit).free = s.free := by simp [State.expo]

/-! `toNs` changes clk, p0, p1, p2, p3 at most. -/

@[simp] theorem State.toNs_pending (s : State) (t : Nat) : (s.toNs t).pending = s.pending := rfl
@[simp] theorem State.toNs_fused (s : State) (t : Nat) : (s.toNs t).fused = s.fused := rfl
@[simp] theorem State.toNs_fld (s : State) (t : Nat) : (s.toNs t).fld = s.fld := rfl
@[simp] theorem State.toNs_defer (s : State) (t : Nat) : (s.toNs t).defer = s.defer := rfl
@[simp] theorem State.toNs_mem (s : State) (t : Nat) : (s.toNs t).mem = s.mem := rfl
@[simp] theorem State.toNs_undef (s : State) (t : Nat) : (s.toNs t).undef = s.undef := rfl
@[simp] theorem State.toNs_ecc (s : State) (t : Nat) : (s.toNs t).ecc = s.ecc := rfl
@[simp] theorem State.toNs_poison (s : State) (t : Nat) : (s.toNs t).poison = s.poison := rfl
@[simp] theorem State.toNs_acf (s : State) (t : Nat) : (s.toNs t).acf = s.acf := rfl
@[simp] theorem State.toNs_acfEcc (s : State) (t : Nat) : (s.toNs t).acfEcc = s.acfEcc := rfl
@[simp] theorem State.toNs_a0 (s : State) (t : Nat) : (s.toNs t).a0 = s.a0 := rfl
@[simp] theorem State.toNs_a1 (s : State) (t : Nat) : (s.toNs t).a1 = s.a1 := rfl
@[simp] theorem State.toNs_a2 (s : State) (t : Nat) : (s.toNs t).a2 = s.a2 := rfl
@[simp] theorem State.toNs_a3 (s : State) (t : Nat) : (s.toNs t).a3 = s.a3 := rfl
@[simp] theorem State.toNs_owner (s : State) (t : Nat) : (s.toNs t).owner = s.owner := rfl
@[simp] theorem State.toNs_dark (s : State) (t : Nat) : (s.toNs t).dark = s.dark := rfl
@[simp] theorem State.toNs_reports (s : State) (t : Nat) : (s.toNs t).reports = s.reports := rfl
@[simp] theorem State.toNs_jqueue (s : State) (t : Nat) : (s.toNs t).jqueue = s.jqueue := rfl
@[simp] theorem State.toNs_journal (s : State) (t : Nat) : (s.toNs t).journal = s.journal := rfl
@[simp] theorem State.toNs_bringIn (s : State) (t : Nat) : (s.toNs t).bringIn = s.bringIn := rfl
@[simp] theorem State.toNs_spareBad (s : State) (t : Nat) : (s.toNs t).spareBad = s.spareBad := rfl
@[simp] theorem State.toNs_hbmWait (s : State) (t : Nat) : (s.toNs t).hbmWait = s.hbmWait := rfl
@[simp] theorem State.toNs_rowMap (s : State) (t : Nat) : (s.toNs t).rowMap = s.rowMap := rfl
@[simp] theorem State.toNs_colMap (s : State) (t : Nat) : (s.toNs t).colMap = s.colMap := rfl
@[simp] theorem State.toNs_th (s : State) (t : Nat) : (s.toNs t).th = s.th := rfl
@[simp] theorem State.toNs_fab (s : State) (t : Nat) : (s.toNs t).fab = s.fab := rfl
@[simp] theorem State.toNs_coll (s : State) (t : Nat) : (s.toNs t).coll = s.coll := rfl
@[simp] theorem State.toNs_nicOwner (s : State) (t : Nat) : (s.toNs t).nicOwner = s.nicOwner := rfl
@[simp] theorem State.toNs_sve (s : State) (t : Nat) : (s.toNs t).sve = s.sve := rfl
@[simp] theorem State.toNs_sveJob (s : State) (t : Nat) : (s.toNs t).sveJob = s.sveJob := rfl
@[simp] theorem State.toNs_cor (s : State) (t : Nat) : (s.toNs t).cor = s.cor := rfl
@[simp] theorem State.toNs_cores (s : State) (t : Nat) : (s.toNs t).cores = s.cores := rfl
@[simp] theorem State.toNs_ccache (s : State) (t : Nat) : (s.toNs t).ccache = s.ccache := rfl
@[simp] theorem State.toNs_pmc (s : State) (t : Nat) : (s.toNs t).pmc = s.pmc := rfl
@[simp] theorem State.toNs_mig (s : State) (t : Nat) : (s.toNs t).mig = s.mig := rfl
@[simp] theorem State.toNs_cfg (s : State) (t : Nat) : (s.toNs t).cfg = s.cfg := rfl
@[simp] theorem State.toNs_ckpt (s : State) (t : Nat) : (s.toNs t).ckpt = s.ckpt := rfl
@[simp] theorem State.toNs_csm (s : State) (t : Nat) : (s.toNs t).csm = s.csm := rfl
@[simp] theorem State.toNs_csArm (s : State) (t : Nat) : (s.toNs t).csArm = s.csArm := rfl
@[simp] theorem State.toNs_tbTries (s : State) (t : Nat) : (s.toNs t).tbTries = s.tbTries := rfl
@[simp] theorem State.toNs_boot (s : State) (t : Nat) : (s.toNs t).boot = s.boot := rfl
@[simp] theorem State.toNs_dr (s : State) (t : Nat) : (s.toNs t).dr = s.dr := rfl
@[simp] theorem State.toNs_lsc (s : State) (t : Nat) : (s.toNs t).lsc = s.lsc := rfl
@[simp] theorem State.toNs_tap (s : State) (t : Nat) : (s.toNs t).tap = s.tap := rfl
@[simp] theorem State.toNs_pdieCool (s : State) (t : Nat) : (s.toNs t).pdieCool = s.pdieCool := rfl
@[simp] theorem State.toNs_fdieWait (s : State) (t : Nat) : (s.toNs t).fdieWait = s.fdieWait := rfl
@[simp] theorem State.toNs_fails (s : State) (t : Nat) : (s.toNs t).fails = s.fails := rfl
@[simp] theorem State.toNs_acfHist (s : State) (t : Nat) : (s.toNs t).acfHist = s.acfHist := rfl
@[simp] theorem State.toNs_hist (s : State) (t : Nat) : (s.toNs t).hist = s.hist := rfl
@[simp] theorem State.toNs_w1c (s : State) (t : Nat) : (s.toNs t).w1c = s.w1c := rfl
@[simp] theorem State.toNs_svc (s : State) (t : Nat) : (s.toNs t).svc = s.svc := rfl
@[simp] theorem State.toNs_nvm (s : State) (t : Nat) : (s.toNs t).nvm = s.nvm := rfl
@[simp] theorem State.toNs_out (s : State) (t : Nat) : (s.toNs t).out = s.out := rfl
@[simp] theorem State.toNs_free (s : State) (t : Nat) : (s.toNs t).free = s.free := rfl

/-! Folds: a list of field writes and a byte string. -/

@[simp] theorem State.setFs_pending (l : List (Fld × Nat)) (s : State) : (s.setFs l).pending = s.pending := by
  induction l generalizing s with
  | nil => rfl
  | cons x r ih => exact (ih (s.setF x.1 x.2)).trans rfl
@[simp] theorem State.setFs_clk (l : List (Fld × Nat)) (s : State) : (s.setFs l).clk = s.clk := by
  induction l generalizing s with
  | nil => rfl
  | cons x r ih => exact (ih (s.setF x.1 x.2)).trans rfl
@[simp] theorem State.setFs_fused (l : List (Fld × Nat)) (s : State) : (s.setFs l).fused = s.fused := by
  induction l generalizing s with
  | nil => rfl
  | cons x r ih => exact (ih (s.setF x.1 x.2)).trans rfl
@[simp] theorem State.setFs_defer (l : List (Fld × Nat)) (s : State) : (s.setFs l).defer = s.defer := by
  induction l generalizing s with
  | nil => rfl
  | cons x r ih => exact (ih (s.setF x.1 x.2)).trans rfl
@[simp] theorem State.setFs_mem (l : List (Fld × Nat)) (s : State) : (s.setFs l).mem = s.mem := by
  induction l generalizing s with
  | nil => rfl
  | cons x r ih => exact (ih (s.setF x.1 x.2)).trans rfl
@[simp] theorem State.setFs_undef (l : List (Fld × Nat)) (s : State) : (s.setFs l).undef = s.undef := by
  induction l generalizing s with
  | nil => rfl
  | cons x r ih => exact (ih (s.setF x.1 x.2)).trans rfl
@[simp] theorem State.setFs_ecc (l : List (Fld × Nat)) (s : State) : (s.setFs l).ecc = s.ecc := by
  induction l generalizing s with
  | nil => rfl
  | cons x r ih => exact (ih (s.setF x.1 x.2)).trans rfl
@[simp] theorem State.setFs_poison (l : List (Fld × Nat)) (s : State) : (s.setFs l).poison = s.poison := by
  induction l generalizing s with
  | nil => rfl
  | cons x r ih => exact (ih (s.setF x.1 x.2)).trans rfl
@[simp] theorem State.setFs_acf (l : List (Fld × Nat)) (s : State) : (s.setFs l).acf = s.acf := by
  induction l generalizing s with
  | nil => rfl
  | cons x r ih => exact (ih (s.setF x.1 x.2)).trans rfl
@[simp] theorem State.setFs_acfEcc (l : List (Fld × Nat)) (s : State) : (s.setFs l).acfEcc = s.acfEcc := by
  induction l generalizing s with
  | nil => rfl
  | cons x r ih => exact (ih (s.setF x.1 x.2)).trans rfl
@[simp] theorem State.setFs_a0 (l : List (Fld × Nat)) (s : State) : (s.setFs l).a0 = s.a0 := by
  induction l generalizing s with
  | nil => rfl
  | cons x r ih => exact (ih (s.setF x.1 x.2)).trans rfl
@[simp] theorem State.setFs_a1 (l : List (Fld × Nat)) (s : State) : (s.setFs l).a1 = s.a1 := by
  induction l generalizing s with
  | nil => rfl
  | cons x r ih => exact (ih (s.setF x.1 x.2)).trans rfl
@[simp] theorem State.setFs_a2 (l : List (Fld × Nat)) (s : State) : (s.setFs l).a2 = s.a2 := by
  induction l generalizing s with
  | nil => rfl
  | cons x r ih => exact (ih (s.setF x.1 x.2)).trans rfl
@[simp] theorem State.setFs_a3 (l : List (Fld × Nat)) (s : State) : (s.setFs l).a3 = s.a3 := by
  induction l generalizing s with
  | nil => rfl
  | cons x r ih => exact (ih (s.setF x.1 x.2)).trans rfl
@[simp] theorem State.setFs_p0 (l : List (Fld × Nat)) (s : State) : (s.setFs l).p0 = s.p0 := by
  induction l generalizing s with
  | nil => rfl
  | cons x r ih => exact (ih (s.setF x.1 x.2)).trans rfl
@[simp] theorem State.setFs_p1 (l : List (Fld × Nat)) (s : State) : (s.setFs l).p1 = s.p1 := by
  induction l generalizing s with
  | nil => rfl
  | cons x r ih => exact (ih (s.setF x.1 x.2)).trans rfl
@[simp] theorem State.setFs_p2 (l : List (Fld × Nat)) (s : State) : (s.setFs l).p2 = s.p2 := by
  induction l generalizing s with
  | nil => rfl
  | cons x r ih => exact (ih (s.setF x.1 x.2)).trans rfl
@[simp] theorem State.setFs_p3 (l : List (Fld × Nat)) (s : State) : (s.setFs l).p3 = s.p3 := by
  induction l generalizing s with
  | nil => rfl
  | cons x r ih => exact (ih (s.setF x.1 x.2)).trans rfl
@[simp] theorem State.setFs_owner (l : List (Fld × Nat)) (s : State) : (s.setFs l).owner = s.owner := by
  induction l generalizing s with
  | nil => rfl
  | cons x r ih => exact (ih (s.setF x.1 x.2)).trans rfl
@[simp] theorem State.setFs_dark (l : List (Fld × Nat)) (s : State) : (s.setFs l).dark = s.dark := by
  induction l generalizing s with
  | nil => rfl
  | cons x r ih => exact (ih (s.setF x.1 x.2)).trans rfl
@[simp] theorem State.setFs_reports (l : List (Fld × Nat)) (s : State) : (s.setFs l).reports = s.reports := by
  induction l generalizing s with
  | nil => rfl
  | cons x r ih => exact (ih (s.setF x.1 x.2)).trans rfl
@[simp] theorem State.setFs_jqueue (l : List (Fld × Nat)) (s : State) : (s.setFs l).jqueue = s.jqueue := by
  induction l generalizing s with
  | nil => rfl
  | cons x r ih => exact (ih (s.setF x.1 x.2)).trans rfl
@[simp] theorem State.setFs_journal (l : List (Fld × Nat)) (s : State) : (s.setFs l).journal = s.journal := by
  induction l generalizing s with
  | nil => rfl
  | cons x r ih => exact (ih (s.setF x.1 x.2)).trans rfl
@[simp] theorem State.setFs_bringIn (l : List (Fld × Nat)) (s : State) : (s.setFs l).bringIn = s.bringIn := by
  induction l generalizing s with
  | nil => rfl
  | cons x r ih => exact (ih (s.setF x.1 x.2)).trans rfl
@[simp] theorem State.setFs_spareBad (l : List (Fld × Nat)) (s : State) : (s.setFs l).spareBad = s.spareBad := by
  induction l generalizing s with
  | nil => rfl
  | cons x r ih => exact (ih (s.setF x.1 x.2)).trans rfl
@[simp] theorem State.setFs_hbmWait (l : List (Fld × Nat)) (s : State) : (s.setFs l).hbmWait = s.hbmWait := by
  induction l generalizing s with
  | nil => rfl
  | cons x r ih => exact (ih (s.setF x.1 x.2)).trans rfl
@[simp] theorem State.setFs_rowMap (l : List (Fld × Nat)) (s : State) : (s.setFs l).rowMap = s.rowMap := by
  induction l generalizing s with
  | nil => rfl
  | cons x r ih => exact (ih (s.setF x.1 x.2)).trans rfl
@[simp] theorem State.setFs_colMap (l : List (Fld × Nat)) (s : State) : (s.setFs l).colMap = s.colMap := by
  induction l generalizing s with
  | nil => rfl
  | cons x r ih => exact (ih (s.setF x.1 x.2)).trans rfl
@[simp] theorem State.setFs_th (l : List (Fld × Nat)) (s : State) : (s.setFs l).th = s.th := by
  induction l generalizing s with
  | nil => rfl
  | cons x r ih => exact (ih (s.setF x.1 x.2)).trans rfl
@[simp] theorem State.setFs_fab (l : List (Fld × Nat)) (s : State) : (s.setFs l).fab = s.fab := by
  induction l generalizing s with
  | nil => rfl
  | cons x r ih => exact (ih (s.setF x.1 x.2)).trans rfl
@[simp] theorem State.setFs_coll (l : List (Fld × Nat)) (s : State) : (s.setFs l).coll = s.coll := by
  induction l generalizing s with
  | nil => rfl
  | cons x r ih => exact (ih (s.setF x.1 x.2)).trans rfl
@[simp] theorem State.setFs_nicOwner (l : List (Fld × Nat)) (s : State) : (s.setFs l).nicOwner = s.nicOwner := by
  induction l generalizing s with
  | nil => rfl
  | cons x r ih => exact (ih (s.setF x.1 x.2)).trans rfl
@[simp] theorem State.setFs_sve (l : List (Fld × Nat)) (s : State) : (s.setFs l).sve = s.sve := by
  induction l generalizing s with
  | nil => rfl
  | cons x r ih => exact (ih (s.setF x.1 x.2)).trans rfl
@[simp] theorem State.setFs_sveJob (l : List (Fld × Nat)) (s : State) : (s.setFs l).sveJob = s.sveJob := by
  induction l generalizing s with
  | nil => rfl
  | cons x r ih => exact (ih (s.setF x.1 x.2)).trans rfl
@[simp] theorem State.setFs_cor (l : List (Fld × Nat)) (s : State) : (s.setFs l).cor = s.cor := by
  induction l generalizing s with
  | nil => rfl
  | cons x r ih => exact (ih (s.setF x.1 x.2)).trans rfl
@[simp] theorem State.setFs_cores (l : List (Fld × Nat)) (s : State) : (s.setFs l).cores = s.cores := by
  induction l generalizing s with
  | nil => rfl
  | cons x r ih => exact (ih (s.setF x.1 x.2)).trans rfl
@[simp] theorem State.setFs_ccache (l : List (Fld × Nat)) (s : State) : (s.setFs l).ccache = s.ccache := by
  induction l generalizing s with
  | nil => rfl
  | cons x r ih => exact (ih (s.setF x.1 x.2)).trans rfl
@[simp] theorem State.setFs_pmc (l : List (Fld × Nat)) (s : State) : (s.setFs l).pmc = s.pmc := by
  induction l generalizing s with
  | nil => rfl
  | cons x r ih => exact (ih (s.setF x.1 x.2)).trans rfl
@[simp] theorem State.setFs_mig (l : List (Fld × Nat)) (s : State) : (s.setFs l).mig = s.mig := by
  induction l generalizing s with
  | nil => rfl
  | cons x r ih => exact (ih (s.setF x.1 x.2)).trans rfl
@[simp] theorem State.setFs_cfg (l : List (Fld × Nat)) (s : State) : (s.setFs l).cfg = s.cfg := by
  induction l generalizing s with
  | nil => rfl
  | cons x r ih => exact (ih (s.setF x.1 x.2)).trans rfl
@[simp] theorem State.setFs_ckpt (l : List (Fld × Nat)) (s : State) : (s.setFs l).ckpt = s.ckpt := by
  induction l generalizing s with
  | nil => rfl
  | cons x r ih => exact (ih (s.setF x.1 x.2)).trans rfl
@[simp] theorem State.setFs_csm (l : List (Fld × Nat)) (s : State) : (s.setFs l).csm = s.csm := by
  induction l generalizing s with
  | nil => rfl
  | cons x r ih => exact (ih (s.setF x.1 x.2)).trans rfl
@[simp] theorem State.setFs_csArm (l : List (Fld × Nat)) (s : State) : (s.setFs l).csArm = s.csArm := by
  induction l generalizing s with
  | nil => rfl
  | cons x r ih => exact (ih (s.setF x.1 x.2)).trans rfl
@[simp] theorem State.setFs_tbTries (l : List (Fld × Nat)) (s : State) : (s.setFs l).tbTries = s.tbTries := by
  induction l generalizing s with
  | nil => rfl
  | cons x r ih => exact (ih (s.setF x.1 x.2)).trans rfl
@[simp] theorem State.setFs_boot (l : List (Fld × Nat)) (s : State) : (s.setFs l).boot = s.boot := by
  induction l generalizing s with
  | nil => rfl
  | cons x r ih => exact (ih (s.setF x.1 x.2)).trans rfl
@[simp] theorem State.setFs_dr (l : List (Fld × Nat)) (s : State) : (s.setFs l).dr = s.dr := by
  induction l generalizing s with
  | nil => rfl
  | cons x r ih => exact (ih (s.setF x.1 x.2)).trans rfl
@[simp] theorem State.setFs_lsc (l : List (Fld × Nat)) (s : State) : (s.setFs l).lsc = s.lsc := by
  induction l generalizing s with
  | nil => rfl
  | cons x r ih => exact (ih (s.setF x.1 x.2)).trans rfl
@[simp] theorem State.setFs_tap (l : List (Fld × Nat)) (s : State) : (s.setFs l).tap = s.tap := by
  induction l generalizing s with
  | nil => rfl
  | cons x r ih => exact (ih (s.setF x.1 x.2)).trans rfl
@[simp] theorem State.setFs_pdieCool (l : List (Fld × Nat)) (s : State) : (s.setFs l).pdieCool = s.pdieCool := by
  induction l generalizing s with
  | nil => rfl
  | cons x r ih => exact (ih (s.setF x.1 x.2)).trans rfl
@[simp] theorem State.setFs_fdieWait (l : List (Fld × Nat)) (s : State) : (s.setFs l).fdieWait = s.fdieWait := by
  induction l generalizing s with
  | nil => rfl
  | cons x r ih => exact (ih (s.setF x.1 x.2)).trans rfl
@[simp] theorem State.setFs_fails (l : List (Fld × Nat)) (s : State) : (s.setFs l).fails = s.fails := by
  induction l generalizing s with
  | nil => rfl
  | cons x r ih => exact (ih (s.setF x.1 x.2)).trans rfl
@[simp] theorem State.setFs_acfHist (l : List (Fld × Nat)) (s : State) : (s.setFs l).acfHist = s.acfHist := by
  induction l generalizing s with
  | nil => rfl
  | cons x r ih => exact (ih (s.setF x.1 x.2)).trans rfl
@[simp] theorem State.setFs_hist (l : List (Fld × Nat)) (s : State) : (s.setFs l).hist = s.hist := by
  induction l generalizing s with
  | nil => rfl
  | cons x r ih => exact (ih (s.setF x.1 x.2)).trans rfl
@[simp] theorem State.setFs_w1c (l : List (Fld × Nat)) (s : State) : (s.setFs l).w1c = s.w1c := by
  induction l generalizing s with
  | nil => rfl
  | cons x r ih => exact (ih (s.setF x.1 x.2)).trans rfl
@[simp] theorem State.setFs_svc (l : List (Fld × Nat)) (s : State) : (s.setFs l).svc = s.svc := by
  induction l generalizing s with
  | nil => rfl
  | cons x r ih => exact (ih (s.setF x.1 x.2)).trans rfl
@[simp] theorem State.setFs_nvm (l : List (Fld × Nat)) (s : State) : (s.setFs l).nvm = s.nvm := by
  induction l generalizing s with
  | nil => rfl
  | cons x r ih => exact (ih (s.setF x.1 x.2)).trans rfl
@[simp] theorem State.setFs_out (l : List (Fld × Nat)) (s : State) : (s.setFs l).out = s.out := by
  induction l generalizing s with
  | nil => rfl
  | cons x r ih => exact (ih (s.setF x.1 x.2)).trans rfl
@[simp] theorem State.setFs_free (l : List (Fld × Nat)) (s : State) : (s.setFs l).free = s.free := by
  induction l generalizing s with
  | nil => rfl
  | cons x r ih => exact (ih (s.setF x.1 x.2)).trans rfl

@[simp] theorem State.writeMem_pending (b : List Byte) (s : State) (a : Nat) : (s.writeMem a b).pending = s.pending := by
  induction b generalizing s a with
  | nil => rfl
  | cons x r ih => exact (ih (s.setByte a x) (a + 1)).trans rfl
@[simp] theorem State.writeMem_clk (b : List Byte) (s : State) (a : Nat) : (s.writeMem a b).clk = s.clk := by
  induction b generalizing s a with
  | nil => rfl
  | cons x r ih => exact (ih (s.setByte a x) (a + 1)).trans rfl
@[simp] theorem State.writeMem_fused (b : List Byte) (s : State) (a : Nat) : (s.writeMem a b).fused = s.fused := by
  induction b generalizing s a with
  | nil => rfl
  | cons x r ih => exact (ih (s.setByte a x) (a + 1)).trans rfl
@[simp] theorem State.writeMem_fld (b : List Byte) (s : State) (a : Nat) : (s.writeMem a b).fld = s.fld := by
  induction b generalizing s a with
  | nil => rfl
  | cons x r ih => exact (ih (s.setByte a x) (a + 1)).trans rfl
@[simp] theorem State.writeMem_defer (b : List Byte) (s : State) (a : Nat) : (s.writeMem a b).defer = s.defer := by
  induction b generalizing s a with
  | nil => rfl
  | cons x r ih => exact (ih (s.setByte a x) (a + 1)).trans rfl
@[simp] theorem State.writeMem_undef (b : List Byte) (s : State) (a : Nat) : (s.writeMem a b).undef = s.undef := by
  induction b generalizing s a with
  | nil => rfl
  | cons x r ih => exact (ih (s.setByte a x) (a + 1)).trans rfl
@[simp] theorem State.writeMem_ecc (b : List Byte) (s : State) (a : Nat) : (s.writeMem a b).ecc = s.ecc := by
  induction b generalizing s a with
  | nil => rfl
  | cons x r ih => exact (ih (s.setByte a x) (a + 1)).trans rfl
@[simp] theorem State.writeMem_poison (b : List Byte) (s : State) (a : Nat) : (s.writeMem a b).poison = s.poison := by
  induction b generalizing s a with
  | nil => rfl
  | cons x r ih => exact (ih (s.setByte a x) (a + 1)).trans rfl
@[simp] theorem State.writeMem_acf (b : List Byte) (s : State) (a : Nat) : (s.writeMem a b).acf = s.acf := by
  induction b generalizing s a with
  | nil => rfl
  | cons x r ih => exact (ih (s.setByte a x) (a + 1)).trans rfl
@[simp] theorem State.writeMem_acfEcc (b : List Byte) (s : State) (a : Nat) : (s.writeMem a b).acfEcc = s.acfEcc := by
  induction b generalizing s a with
  | nil => rfl
  | cons x r ih => exact (ih (s.setByte a x) (a + 1)).trans rfl
@[simp] theorem State.writeMem_a0 (b : List Byte) (s : State) (a : Nat) : (s.writeMem a b).a0 = s.a0 := by
  induction b generalizing s a with
  | nil => rfl
  | cons x r ih => exact (ih (s.setByte a x) (a + 1)).trans rfl
@[simp] theorem State.writeMem_a1 (b : List Byte) (s : State) (a : Nat) : (s.writeMem a b).a1 = s.a1 := by
  induction b generalizing s a with
  | nil => rfl
  | cons x r ih => exact (ih (s.setByte a x) (a + 1)).trans rfl
@[simp] theorem State.writeMem_a2 (b : List Byte) (s : State) (a : Nat) : (s.writeMem a b).a2 = s.a2 := by
  induction b generalizing s a with
  | nil => rfl
  | cons x r ih => exact (ih (s.setByte a x) (a + 1)).trans rfl
@[simp] theorem State.writeMem_a3 (b : List Byte) (s : State) (a : Nat) : (s.writeMem a b).a3 = s.a3 := by
  induction b generalizing s a with
  | nil => rfl
  | cons x r ih => exact (ih (s.setByte a x) (a + 1)).trans rfl
@[simp] theorem State.writeMem_p0 (b : List Byte) (s : State) (a : Nat) : (s.writeMem a b).p0 = s.p0 := by
  induction b generalizing s a with
  | nil => rfl
  | cons x r ih => exact (ih (s.setByte a x) (a + 1)).trans rfl
@[simp] theorem State.writeMem_p1 (b : List Byte) (s : State) (a : Nat) : (s.writeMem a b).p1 = s.p1 := by
  induction b generalizing s a with
  | nil => rfl
  | cons x r ih => exact (ih (s.setByte a x) (a + 1)).trans rfl
@[simp] theorem State.writeMem_p2 (b : List Byte) (s : State) (a : Nat) : (s.writeMem a b).p2 = s.p2 := by
  induction b generalizing s a with
  | nil => rfl
  | cons x r ih => exact (ih (s.setByte a x) (a + 1)).trans rfl
@[simp] theorem State.writeMem_p3 (b : List Byte) (s : State) (a : Nat) : (s.writeMem a b).p3 = s.p3 := by
  induction b generalizing s a with
  | nil => rfl
  | cons x r ih => exact (ih (s.setByte a x) (a + 1)).trans rfl
@[simp] theorem State.writeMem_owner (b : List Byte) (s : State) (a : Nat) : (s.writeMem a b).owner = s.owner := by
  induction b generalizing s a with
  | nil => rfl
  | cons x r ih => exact (ih (s.setByte a x) (a + 1)).trans rfl
@[simp] theorem State.writeMem_dark (b : List Byte) (s : State) (a : Nat) : (s.writeMem a b).dark = s.dark := by
  induction b generalizing s a with
  | nil => rfl
  | cons x r ih => exact (ih (s.setByte a x) (a + 1)).trans rfl
@[simp] theorem State.writeMem_reports (b : List Byte) (s : State) (a : Nat) : (s.writeMem a b).reports = s.reports := by
  induction b generalizing s a with
  | nil => rfl
  | cons x r ih => exact (ih (s.setByte a x) (a + 1)).trans rfl
@[simp] theorem State.writeMem_jqueue (b : List Byte) (s : State) (a : Nat) : (s.writeMem a b).jqueue = s.jqueue := by
  induction b generalizing s a with
  | nil => rfl
  | cons x r ih => exact (ih (s.setByte a x) (a + 1)).trans rfl
@[simp] theorem State.writeMem_journal (b : List Byte) (s : State) (a : Nat) : (s.writeMem a b).journal = s.journal := by
  induction b generalizing s a with
  | nil => rfl
  | cons x r ih => exact (ih (s.setByte a x) (a + 1)).trans rfl
@[simp] theorem State.writeMem_bringIn (b : List Byte) (s : State) (a : Nat) : (s.writeMem a b).bringIn = s.bringIn := by
  induction b generalizing s a with
  | nil => rfl
  | cons x r ih => exact (ih (s.setByte a x) (a + 1)).trans rfl
@[simp] theorem State.writeMem_spareBad (b : List Byte) (s : State) (a : Nat) : (s.writeMem a b).spareBad = s.spareBad := by
  induction b generalizing s a with
  | nil => rfl
  | cons x r ih => exact (ih (s.setByte a x) (a + 1)).trans rfl
@[simp] theorem State.writeMem_hbmWait (b : List Byte) (s : State) (a : Nat) : (s.writeMem a b).hbmWait = s.hbmWait := by
  induction b generalizing s a with
  | nil => rfl
  | cons x r ih => exact (ih (s.setByte a x) (a + 1)).trans rfl
@[simp] theorem State.writeMem_rowMap (b : List Byte) (s : State) (a : Nat) : (s.writeMem a b).rowMap = s.rowMap := by
  induction b generalizing s a with
  | nil => rfl
  | cons x r ih => exact (ih (s.setByte a x) (a + 1)).trans rfl
@[simp] theorem State.writeMem_colMap (b : List Byte) (s : State) (a : Nat) : (s.writeMem a b).colMap = s.colMap := by
  induction b generalizing s a with
  | nil => rfl
  | cons x r ih => exact (ih (s.setByte a x) (a + 1)).trans rfl
@[simp] theorem State.writeMem_th (b : List Byte) (s : State) (a : Nat) : (s.writeMem a b).th = s.th := by
  induction b generalizing s a with
  | nil => rfl
  | cons x r ih => exact (ih (s.setByte a x) (a + 1)).trans rfl
@[simp] theorem State.writeMem_fab (b : List Byte) (s : State) (a : Nat) : (s.writeMem a b).fab = s.fab := by
  induction b generalizing s a with
  | nil => rfl
  | cons x r ih => exact (ih (s.setByte a x) (a + 1)).trans rfl
@[simp] theorem State.writeMem_coll (b : List Byte) (s : State) (a : Nat) : (s.writeMem a b).coll = s.coll := by
  induction b generalizing s a with
  | nil => rfl
  | cons x r ih => exact (ih (s.setByte a x) (a + 1)).trans rfl
@[simp] theorem State.writeMem_nicOwner (b : List Byte) (s : State) (a : Nat) : (s.writeMem a b).nicOwner = s.nicOwner := by
  induction b generalizing s a with
  | nil => rfl
  | cons x r ih => exact (ih (s.setByte a x) (a + 1)).trans rfl
@[simp] theorem State.writeMem_sve (b : List Byte) (s : State) (a : Nat) : (s.writeMem a b).sve = s.sve := by
  induction b generalizing s a with
  | nil => rfl
  | cons x r ih => exact (ih (s.setByte a x) (a + 1)).trans rfl
@[simp] theorem State.writeMem_sveJob (b : List Byte) (s : State) (a : Nat) : (s.writeMem a b).sveJob = s.sveJob := by
  induction b generalizing s a with
  | nil => rfl
  | cons x r ih => exact (ih (s.setByte a x) (a + 1)).trans rfl
@[simp] theorem State.writeMem_cor (b : List Byte) (s : State) (a : Nat) : (s.writeMem a b).cor = s.cor := by
  induction b generalizing s a with
  | nil => rfl
  | cons x r ih => exact (ih (s.setByte a x) (a + 1)).trans rfl
@[simp] theorem State.writeMem_cores (b : List Byte) (s : State) (a : Nat) : (s.writeMem a b).cores = s.cores := by
  induction b generalizing s a with
  | nil => rfl
  | cons x r ih => exact (ih (s.setByte a x) (a + 1)).trans rfl
@[simp] theorem State.writeMem_ccache (b : List Byte) (s : State) (a : Nat) : (s.writeMem a b).ccache = s.ccache := by
  induction b generalizing s a with
  | nil => rfl
  | cons x r ih => exact (ih (s.setByte a x) (a + 1)).trans rfl
@[simp] theorem State.writeMem_pmc (b : List Byte) (s : State) (a : Nat) : (s.writeMem a b).pmc = s.pmc := by
  induction b generalizing s a with
  | nil => rfl
  | cons x r ih => exact (ih (s.setByte a x) (a + 1)).trans rfl
@[simp] theorem State.writeMem_mig (b : List Byte) (s : State) (a : Nat) : (s.writeMem a b).mig = s.mig := by
  induction b generalizing s a with
  | nil => rfl
  | cons x r ih => exact (ih (s.setByte a x) (a + 1)).trans rfl
@[simp] theorem State.writeMem_cfg (b : List Byte) (s : State) (a : Nat) : (s.writeMem a b).cfg = s.cfg := by
  induction b generalizing s a with
  | nil => rfl
  | cons x r ih => exact (ih (s.setByte a x) (a + 1)).trans rfl
@[simp] theorem State.writeMem_ckpt (b : List Byte) (s : State) (a : Nat) : (s.writeMem a b).ckpt = s.ckpt := by
  induction b generalizing s a with
  | nil => rfl
  | cons x r ih => exact (ih (s.setByte a x) (a + 1)).trans rfl
@[simp] theorem State.writeMem_csm (b : List Byte) (s : State) (a : Nat) : (s.writeMem a b).csm = s.csm := by
  induction b generalizing s a with
  | nil => rfl
  | cons x r ih => exact (ih (s.setByte a x) (a + 1)).trans rfl
@[simp] theorem State.writeMem_csArm (b : List Byte) (s : State) (a : Nat) : (s.writeMem a b).csArm = s.csArm := by
  induction b generalizing s a with
  | nil => rfl
  | cons x r ih => exact (ih (s.setByte a x) (a + 1)).trans rfl
@[simp] theorem State.writeMem_tbTries (b : List Byte) (s : State) (a : Nat) : (s.writeMem a b).tbTries = s.tbTries := by
  induction b generalizing s a with
  | nil => rfl
  | cons x r ih => exact (ih (s.setByte a x) (a + 1)).trans rfl
@[simp] theorem State.writeMem_boot (b : List Byte) (s : State) (a : Nat) : (s.writeMem a b).boot = s.boot := by
  induction b generalizing s a with
  | nil => rfl
  | cons x r ih => exact (ih (s.setByte a x) (a + 1)).trans rfl
@[simp] theorem State.writeMem_dr (b : List Byte) (s : State) (a : Nat) : (s.writeMem a b).dr = s.dr := by
  induction b generalizing s a with
  | nil => rfl
  | cons x r ih => exact (ih (s.setByte a x) (a + 1)).trans rfl
@[simp] theorem State.writeMem_lsc (b : List Byte) (s : State) (a : Nat) : (s.writeMem a b).lsc = s.lsc := by
  induction b generalizing s a with
  | nil => rfl
  | cons x r ih => exact (ih (s.setByte a x) (a + 1)).trans rfl
@[simp] theorem State.writeMem_tap (b : List Byte) (s : State) (a : Nat) : (s.writeMem a b).tap = s.tap := by
  induction b generalizing s a with
  | nil => rfl
  | cons x r ih => exact (ih (s.setByte a x) (a + 1)).trans rfl
@[simp] theorem State.writeMem_pdieCool (b : List Byte) (s : State) (a : Nat) : (s.writeMem a b).pdieCool = s.pdieCool := by
  induction b generalizing s a with
  | nil => rfl
  | cons x r ih => exact (ih (s.setByte a x) (a + 1)).trans rfl
@[simp] theorem State.writeMem_fdieWait (b : List Byte) (s : State) (a : Nat) : (s.writeMem a b).fdieWait = s.fdieWait := by
  induction b generalizing s a with
  | nil => rfl
  | cons x r ih => exact (ih (s.setByte a x) (a + 1)).trans rfl
@[simp] theorem State.writeMem_fails (b : List Byte) (s : State) (a : Nat) : (s.writeMem a b).fails = s.fails := by
  induction b generalizing s a with
  | nil => rfl
  | cons x r ih => exact (ih (s.setByte a x) (a + 1)).trans rfl
@[simp] theorem State.writeMem_acfHist (b : List Byte) (s : State) (a : Nat) : (s.writeMem a b).acfHist = s.acfHist := by
  induction b generalizing s a with
  | nil => rfl
  | cons x r ih => exact (ih (s.setByte a x) (a + 1)).trans rfl
@[simp] theorem State.writeMem_hist (b : List Byte) (s : State) (a : Nat) : (s.writeMem a b).hist = s.hist := by
  induction b generalizing s a with
  | nil => rfl
  | cons x r ih => exact (ih (s.setByte a x) (a + 1)).trans rfl
@[simp] theorem State.writeMem_w1c (b : List Byte) (s : State) (a : Nat) : (s.writeMem a b).w1c = s.w1c := by
  induction b generalizing s a with
  | nil => rfl
  | cons x r ih => exact (ih (s.setByte a x) (a + 1)).trans rfl
@[simp] theorem State.writeMem_svc (b : List Byte) (s : State) (a : Nat) : (s.writeMem a b).svc = s.svc := by
  induction b generalizing s a with
  | nil => rfl
  | cons x r ih => exact (ih (s.setByte a x) (a + 1)).trans rfl
@[simp] theorem State.writeMem_nvm (b : List Byte) (s : State) (a : Nat) : (s.writeMem a b).nvm = s.nvm := by
  induction b generalizing s a with
  | nil => rfl
  | cons x r ih => exact (ih (s.setByte a x) (a + 1)).trans rfl
@[simp] theorem State.writeMem_out (b : List Byte) (s : State) (a : Nat) : (s.writeMem a b).out = s.out := by
  induction b generalizing s a with
  | nil => rfl
  | cons x r ih => exact (ih (s.setByte a x) (a + 1)).trans rfl
@[simp] theorem State.writeMem_free (b : List Byte) (s : State) (a : Nat) : (s.writeMem a b).free = s.free := by
  induction b generalizing s a with
  | nil => rfl
  | cons x r ih => exact (ih (s.setByte a x) (a + 1)).trans rfl

/-! Reading back what was set. -/

@[simp] theorem State.die_setDie (s : State) (n : Nat) (d : ADie) : (s.setDie n d).die n = d := by
  unfold State.setDie State.die
  split <;> simp_all

theorem State.die_setDie_ne (s : State) (n m : Nat) (d : ADie) (h : m % 4 ≠ n % 4) : (s.setDie n d).die m = s.die m := by
  unfold State.setDie State.die
  split <;> split <;> first
    | rfl
    | (exfalso; simp_all; done)
    | (exfalso; simp_all; omega)

theorem State.die_updDie_mod (s : State) (n m : Nat) (f : ADie → ADie) (h : m % 4 = n % 4) : (s.updDie n f).die m = f (s.die m) := by
  unfold State.updDie State.setDie State.die
  rw [h]
  split <;> simp_all

@[simp] theorem State.die_updDie (s : State) (n : Nat) (f : ADie → ADie) : (s.updDie n f).die n = f (s.die n) := by
  simp [State.updDie]

@[simp] theorem State.part_setPart (s : State) (p : Nat) (x : Part) : (s.setPart p x).part p = x := by
  unfold State.setPart State.part
  split <;> simp_all

theorem State.part_setPart_ne (s : State) (p q : Nat) (x : Part) (h : q % 4 ≠ p % 4) : (s.setPart p x).part q = s.part q := by
  unfold State.setPart State.part
  split <;> split <;> first
    | rfl
    | (exfalso; simp_all; done)
    | (exfalso; simp_all; omega)

@[simp] theorem State.part_updPart (s : State) (p : Nat) (f : Part → Part) : (s.updPart p f).part p = f (s.part p) := by
  simp [State.updPart]

@[simp] theorem State.die_setF (s : State) (f : Fld) (v n : Nat) : (s.setF f v).die n = s.die n := rfl
@[simp] theorem State.part_setF (s : State) (f : Fld) (v p : Nat) : (s.setF f v).part p = s.part p := rfl
@[simp] theorem State.die_count (s : State) (e i k n : Nat) : (s.count e i k).die n = s.die n := rfl
@[simp] theorem State.part_count (s : State) (e i k p : Nat) : (s.count e i k).part p = s.part p := rfl
@[simp] theorem State.die_raise (s : State) (a b c d e f n : Nat) : (s.raise a b c d e f).die n = s.die n := rfl
@[simp] theorem State.part_raise (s : State) (a b c d e f p : Nat) : (s.raise a b c d e f).part p = s.part p := rfl
@[simp] theorem State.die_raiseP (s : State) (a b c d e n : Nat) : (s.raiseP a b c d e).die n = s.die n := rfl
@[simp] theorem State.part_raiseP (s : State) (a b c d e p : Nat) : (s.raiseP a b c d e).part p = s.part p := rfl
@[simp] theorem State.die_updPart (s : State) (p n : Nat) (f : Part → Part) : (s.updPart p f).die n = s.die n := by
  unfold State.die
  split <;> simp
@[simp] theorem State.part_updDie (s : State) (n p : Nat) (f : ADie → ADie) : (s.updDie n f).part p = s.part p := by
  unfold State.part
  split <;> simp
@[simp] theorem State.die_toCyc (s : State) (p c n : Nat) : (s.toCyc p c).die n = s.die n := by
  unfold State.die
  split <;> simp
@[simp] theorem State.die_advanceCyc (s : State) (c n : Nat) : (s.advanceCyc c).die n = s.die n := by
  unfold State.die
  split <;> simp

/-- What an operation that leaves the register store alone reads from it. -/
theorem State.getF_congr (s t : State) (f : Fld) (h : t.fld = s.fld) : t.getF f = s.getF f := by
  unfold State.getF
  rw [h]

theorem State.memByte_congr (s t : State) (a : Nat) (h : t.mem = s.mem) (hu : t.undef = s.undef) : t.memByte a = s.memByte a := by
  unfold State.memByte State.memDflt State.epoch
  rw [h, hu]

@[simp] theorem State.core_updCore (s : State) (c : Nat) (f : Core → Core) (h : c < s.cores.length) : (s.updCore c f).core c = f (s.core c) := by
  simp [State.updCore, State.core, List.getD, h]

theorem State.core_updCore_ne (s : State) (c d : Nat) (f : Core → Core) (h : d ≠ c) : (s.updCore c f).core d = s.core d := by
  simp [State.updCore, State.core, List.getD, Ne.symm h]

/-! Reads through the operations that leave what is read alone. -/

@[simp] theorem State.memByte_setF (s : State) (f : Fld) (v : Nat) (m : Nat) : (s.setF f v).memByte m = s.memByte m := State.memByte_congr _ _ _ (by simp) (by simp)
@[simp] theorem State.core_setF (s : State) (f : Fld) (v : Nat) (k : Nat) : (s.setF f v).core k = s.core k := by simp [State.core]
@[simp] theorem State.die_satF (s : State) (f : Fld) (n : Nat) (m : Nat) : (s.satF f n).die m = s.die m := rfl
@[simp] theorem State.part_satF (s : State) (f : Fld) (n : Nat) (m : Nat) : (s.satF f n).part m = s.part m := rfl
@[simp] theorem State.memByte_satF (s : State) (f : Fld) (n : Nat) (m : Nat) : (s.satF f n).memByte m = s.memByte m := State.memByte_congr _ _ _ (by simp) (by simp)
@[simp] theorem State.core_satF (s : State) (f : Fld) (n : Nat) (k : Nat) : (s.satF f n).core k = s.core k := by simp [State.core]
@[simp] theorem State.memByte_count (s : State) (e i n : Nat) (m : Nat) : (s.count e i n).memByte m = s.memByte m := State.memByte_congr _ _ _ (by simp) (by simp)
@[simp] theorem State.core_count (s : State) (e i n : Nat) (k : Nat) : (s.count e i n).core k = s.core k := by simp [State.core]
@[simp] theorem State.die_setFrameState (s : State) (p st : Nat) (m : Nat) : (s.setFrameState p st).die m = s.die m := rfl
@[simp] theorem State.part_setFrameState (s : State) (p st : Nat) (m : Nat) : (s.setFrameState p st).part m = s.part m := rfl
@[simp] theorem State.memByte_setFrameState (s : State) (p st : Nat) (m : Nat) : (s.setFrameState p st).memByte m = s.memByte m := State.memByte_congr _ _ _ (by simp) (by simp)
@[simp] theorem State.core_setFrameState (s : State) (p st : Nat) (k : Nat) : (s.setFrameState p st).core k = s.core k := by simp [State.core]
@[simp] theorem State.getF_answer (s : State) (c v : Nat) (g : Fld) : (s.answer c v).getF g = s.getF g := State.getF_congr _ _ _ (by simp)
@[simp] theorem State.die_answer (s : State) (c v : Nat) (m : Nat) : (s.answer c v).die m = s.die m := rfl
@[simp] theorem State.part_answer (s : State) (c v : Nat) (m : Nat) : (s.answer c v).part m = s.part m := rfl
@[simp] theorem State.memByte_answer (s : State) (c v : Nat) (m : Nat) : (s.answer c v).memByte m = s.memByte m := State.memByte_congr _ _ _ (by simp) (by simp)
@[simp] theorem State.core_answer (s : State) (c v : Nat) (k : Nat) : (s.answer c v).core k = s.core k := by simp [State.core]
@[simp] theorem State.getF_answerBytes (s : State) (c : Nat) (b : List Byte) (g : Fld) : (s.answerBytes c b).getF g = s.getF g := State.getF_congr _ _ _ (by simp)
@[simp] theorem State.die_answerBytes (s : State) (c : Nat) (b : List Byte) (m : Nat) : (s.answerBytes c b).die m = s.die m := rfl
@[simp] theorem State.part_answerBytes (s : State) (c : Nat) (b : List Byte) (m : Nat) : (s.answerBytes c b).part m = s.part m := rfl
@[simp] theorem State.memByte_answerBytes (s : State) (c : Nat) (b : List Byte) (m : Nat) : (s.answerBytes c b).memByte m = s.memByte m := State.memByte_congr _ _ _ (by simp) (by simp)
@[simp] theorem State.core_answerBytes (s : State) (c : Nat) (b : List Byte) (k : Nat) : (s.answerBytes c b).core k = s.core k := by simp [State.core]
@[simp] theorem State.getF_raiseC (s : State) (cls code die unit loc kind value : Nat) (b : Bool) (g : Fld) : (s.raiseC cls code die unit loc kind value b).getF g = s.getF g := State.getF_congr _ _ _ (by simp)
@[simp] theorem State.die_raiseC (s : State) (cls code die unit loc kind value : Nat) (b : Bool) (m : Nat) : (s.raiseC cls code die unit loc kind value b).die m = s.die m := rfl
@[simp] theorem State.part_raiseC (s : State) (cls code die unit loc kind value : Nat) (b : Bool) (m : Nat) : (s.raiseC cls code die unit loc kind value b).part m = s.part m := rfl
@[simp] theorem State.memByte_raiseC (s : State) (cls code die unit loc kind value : Nat) (b : Bool) (m : Nat) : (s.raiseC cls code die unit loc kind value b).memByte m = s.memByte m := State.memByte_congr _ _ _ (by simp) (by simp)
@[simp] theorem State.core_raiseC (s : State) (cls code die unit loc kind value : Nat) (b : Bool) (k : Nat) : (s.raiseC cls code die unit loc kind value b).core k = s.core k := by simp [State.core]
@[simp] theorem State.getF_raise (s : State) (code die unit loc kind value : Nat) (g : Fld) : (s.raise code die unit loc kind value).getF g = s.getF g := State.getF_congr _ _ _ (by simp)
@[simp] theorem State.memByte_raise (s : State) (code die unit loc kind value : Nat) (m : Nat) : (s.raise code die unit loc kind value).memByte m = s.memByte m := State.memByte_congr _ _ _ (by simp) (by simp)
@[simp] theorem State.core_raise (s : State) (code die unit loc kind value : Nat) (k : Nat) : (s.raise code die unit loc kind value).core k = s.core k := by simp [State.core]
@[simp] theorem State.getF_raiseP (s : State) (p code loc kind value : Nat) (g : Fld) : (s.raiseP p code loc kind value).getF g = s.getF g := State.getF_congr _ _ _ (by simp)
@[simp] theorem State.memByte_raiseP (s : State) (p code loc kind value : Nat) (m : Nat) : (s.raiseP p code loc kind value).memByte m = s.memByte m := State.memByte_congr _ _ _ (by simp) (by simp)
@[simp] theorem State.core_raiseP (s : State) (p code loc kind value : Nat) (k : Nat) : (s.raiseP p code loc kind value).core k = s.core k := by simp [State.core]
@[simp] theorem State.getF_setByte (s : State) (a : Nat) (b : Byte) (g : Fld) : (s.setByte a b).getF g = s.getF g := State.getF_congr _ _ _ (by simp)
@[simp] theorem State.die_setByte (s : State) (a : Nat) (b : Byte) (m : Nat) : (s.setByte a b).die m = s.die m := rfl
@[simp] theorem State.part_setByte (s : State) (a : Nat) (b : Byte) (m : Nat) : (s.setByte a b).part m = s.part m := rfl
@[simp] theorem State.core_setByte (s : State) (a : Nat) (b : Byte) (k : Nat) : (s.setByte a b).core k = s.core k := by simp [State.core]
@[simp] theorem State.getF_advanceNs (s : State) (d : Nat) (g : Fld) : (s.advanceNs d).getF g = s.getF g := State.getF_congr _ _ _ (by simp)
@[simp] theorem State.memByte_advanceNs (s : State) (d : Nat) (m : Nat) : (s.advanceNs d).memByte m = s.memByte m := State.memByte_congr _ _ _ (by simp) (by simp)
@[simp] theorem State.core_advanceNs (s : State) (d : Nat) (k : Nat) : (s.advanceNs d).core k = s.core k := by simp [State.core]
@[simp] theorem State.getF_setDie (s : State) (n : Nat) (d : ADie) (g : Fld) : (s.setDie n d).getF g = s.getF g := State.getF_congr _ _ _ (by simp)
@[simp] theorem State.memByte_setDie (s : State) (n : Nat) (d : ADie) (m : Nat) : (s.setDie n d).memByte m = s.memByte m := State.memByte_congr _ _ _ (by simp) (by simp)
@[simp] theorem State.core_setDie (s : State) (n : Nat) (d : ADie) (k : Nat) : (s.setDie n d).core k = s.core k := by simp [State.core]
@[simp] theorem State.getF_setPart (s : State) (p : Nat) (x : Part) (g : Fld) : (s.setPart p x).getF g = s.getF g := State.getF_congr _ _ _ (by simp)
@[simp] theorem State.memByte_setPart (s : State) (p : Nat) (x : Part) (m : Nat) : (s.setPart p x).memByte m = s.memByte m := State.memByte_congr _ _ _ (by simp) (by simp)
@[simp] theorem State.core_setPart (s : State) (p : Nat) (x : Part) (k : Nat) : (s.setPart p x).core k = s.core k := by simp [State.core]
@[simp] theorem State.getF_updDie (s : State) (n : Nat) (f : ADie → ADie) (g : Fld) : (s.updDie n f).getF g = s.getF g := State.getF_congr _ _ _ (by simp)
@[simp] theorem State.memByte_updDie (s : State) (n : Nat) (f : ADie → ADie) (m : Nat) : (s.updDie n f).memByte m = s.memByte m := State.memByte_congr _ _ _ (by simp) (by simp)
@[simp] theorem State.core_updDie (s : State) (n : Nat) (f : ADie → ADie) (k : Nat) : (s.updDie n f).core k = s.core k := by simp [State.core]
@[simp] theorem State.getF_updPart (s : State) (p : Nat) (f : Part → Part) (g : Fld) : (s.updPart p f).getF g = s.getF g := State.getF_congr _ _ _ (by simp)
@[simp] theorem State.memByte_updPart (s : State) (p : Nat) (f : Part → Part) (m : Nat) : (s.updPart p f).memByte m = s.memByte m := State.memByte_congr _ _ _ (by simp) (by simp)
@[simp] theorem State.core_updPart (s : State) (p : Nat) (f : Part → Part) (k : Nat) : (s.updPart p f).core k = s.core k := by simp [State.core]
@[simp] theorem State.getF_updCore (s : State) (c : Nat) (f : Core → Core) (g : Fld) : (s.updCore c f).getF g = s.getF g := State.getF_congr _ _ _ (by simp)
@[simp] theorem State.die_updCore (s : State) (c : Nat) (f : Core → Core) (m : Nat) : (s.updCore c f).die m = s.die m := rfl
@[simp] theorem State.part_updCore (s : State) (c : Nat) (f : Core → Core) (m : Nat) : (s.updCore c f).part m = s.part m := rfl
@[simp] theorem State.memByte_updCore (s : State) (c : Nat) (f : Core → Core) (m : Nat) : (s.updCore c f).memByte m = s.memByte m := State.memByte_congr _ _ _ (by simp) (by simp)
@[simp] theorem State.getF_updRun (s : State) (die idx : Nat) (f : RunCmd → RunCmd) (g : Fld) : (s.updRun die idx f).getF g = s.getF g := State.getF_congr _ _ _ (by simp)
@[simp] theorem State.memByte_updRun (s : State) (die idx : Nat) (f : RunCmd → RunCmd) (m : Nat) : (s.updRun die idx f).memByte m = s.memByte m := State.memByte_congr _ _ _ (by simp) (by simp)
@[simp] theorem State.core_updRun (s : State) (die idx : Nat) (f : RunCmd → RunCmd) (k : Nat) : (s.updRun die idx f).core k = s.core k := by simp [State.core]
@[simp] theorem State.getF_advanceCyc (s : State) (n : Nat) (g : Fld) : (s.advanceCyc n).getF g = s.getF g := State.getF_congr _ _ _ (by simp)
@[simp] theorem State.memByte_advanceCyc (s : State) (n : Nat) (m : Nat) : (s.advanceCyc n).memByte m = s.memByte m := State.memByte_congr _ _ _ (by simp) (by simp)
@[simp] theorem State.core_advanceCyc (s : State) (n : Nat) (k : Nat) : (s.advanceCyc n).core k = s.core k := by simp [State.core]
@[simp] theorem State.getF_toCyc (s : State) (p c : Nat) (g : Fld) : (s.toCyc p c).getF g = s.getF g := State.getF_congr _ _ _ (by simp)
@[simp] theorem State.memByte_toCyc (s : State) (p c : Nat) (m : Nat) : (s.toCyc p c).memByte m = s.memByte m := State.memByte_congr _ _ _ (by simp) (by simp)
@[simp] theorem State.core_toCyc (s : State) (p c : Nat) (k : Nat) : (s.toCyc p c).core k = s.core k := by simp [State.core]
@[simp] theorem State.getF_toNs (s : State) (t : Nat) (g : Fld) : (s.toNs t).getF g = s.getF g := State.getF_congr _ _ _ (by simp)
@[simp] theorem State.memByte_toNs (s : State) (t : Nat) (m : Nat) : (s.toNs t).memByte m = s.memByte m := State.memByte_congr _ _ _ (by simp) (by simp)
@[simp] theorem State.core_toNs (s : State) (t : Nat) (k : Nat) : (s.toNs t).core k = s.core k := by simp [State.core]
@[simp] theorem State.memByte_setFs (l : List (Fld × Nat)) (s : State) (m : Nat) : (s.setFs l).memByte m = s.memByte m :=
  State.memByte_congr _ _ _ (by simp) (by simp)
@[simp] theorem State.core_setFs (l : List (Fld × Nat)) (s : State) (k : Nat) : (s.setFs l).core k = s.core k := by simp [State.core]
@[simp] theorem State.part_setFs (l : List (Fld × Nat)) (s : State) (p : Nat) : (s.setFs l).part p = s.part p := by
  unfold State.part
  split <;> simp
@[simp] theorem State.die_setFs (l : List (Fld × Nat)) (s : State) (n : Nat) : (s.setFs l).die n = s.die n := by
  unfold State.die
  split <;> simp
theorem State.expoAt_die (s : State) (die ns typ flags code idx cyc value detail : Nat) (mbit : Option Nat) (m : Nat) :
    ∃ x, (s.expoAt die ns typ flags code idx cyc value detail mbit).die m = { s.die m with expo := x } := by
  obtain ⟨x, h⟩ := s.expoAt_updDie die ns typ flags code idx cyc value detail mbit
  rw [h]
  by_cases k : m % 4 = die % 4
  · exact ⟨_, State.die_updDie_mod s die m _ k⟩
  · exact ⟨_, (State.die_setDie_ne s die m _ k).trans rfl⟩

theorem State.expo_die (s : State) (die typ flags code idx cyc value detail : Nat) (mbit : Option Nat) (m : Nat) :
    ∃ x, (s.expo die typ flags code idx cyc value detail mbit).die m = { s.die m with expo := x } := State.expoAt_die _ _ _ _ _ _ _ _ _ _ _ _
@[simp] theorem State.expo_die_run (s : State) (die typ flags code idx cyc value detail : Nat) (mbit : Option Nat) (m : Nat) :
    ((s.expo die typ flags code idx cyc value detail mbit).die m).run = (s.die m).run := by
  obtain ⟨x, h⟩ := s.expo_die die typ flags code idx cyc value detail mbit m
  rw [h]
@[simp] theorem State.expo_die_done (s : State) (die typ flags code idx cyc value detail : Nat) (mbit : Option Nat) (m : Nat) :
    ((s.expo die typ flags code idx cyc value detail mbit).die m).done = (s.die m).done := by
  obtain ⟨x, h⟩ := s.expo_die die typ flags code idx cyc value detail mbit m
  rw [h]
@[simp] theorem State.expo_die_sig (s : State) (die typ flags code idx cyc value detail : Nat) (mbit : Option Nat) (m : Nat) :
    ((s.expo die typ flags code idx cyc value detail mbit).die m).sig = (s.die m).sig := by
  obtain ⟨x, h⟩ := s.expo_die die typ flags code idx cyc value detail mbit m
  rw [h]
@[simp] theorem State.expo_die_pend (s : State) (die typ flags code idx cyc value detail : Nat) (mbit : Option Nat) (m : Nat) :
    ((s.expo die typ flags code idx cyc value detail mbit).die m).pend = (s.die m).pend := by
  obtain ⟨x, h⟩ := s.expo_die die typ flags code idx cyc value detail mbit m
  rw [h]
@[simp] theorem State.part_expo (s : State) (die typ flags code idx cyc value detail : Nat) (mbit : Option Nat) (m : Nat) :
    (s.expo die typ flags code idx cyc value detail mbit).part m = s.part m := by
  unfold State.part
  split <;> simp

@[simp] theorem State.getF_writeMem (b : List Byte) (s : State) (a : Nat) (g : Fld) : (s.writeMem a b).getF g = s.getF g :=
  State.getF_congr _ _ _ (by simp)

end Sys2Proof.Machine
end

