-- ==== Sys2Proof/Laws/Codes.lean ====
section
/-! SUPPORT. The codes of the events raised, through every named operation (R516). -/
namespace Sys2Proof.Machine

@[simp] theorem State.codes_setF (s : State) (f : Fld) (v : Nat) : (s.setF f v).codes = s.codes := by simp [State.codes]
@[simp] theorem State.codes_satF (s : State) (f : Fld) (n : Nat) : (s.satF f n).codes = s.codes := by simp [State.codes]
@[simp] theorem State.codes_count (s : State) (e i n : Nat) : (s.count e i n).codes = s.codes := by simp [State.codes]
@[simp] theorem State.codes_setFrameState (s : State) (p st : Nat) : (s.setFrameState p st).codes = s.codes := by simp [State.codes]
@[simp] theorem State.codes_answer (s : State) (c v : Nat) : (s.answer c v).codes = s.codes := by simp [State.codes]
@[simp] theorem State.codes_answerBytes (s : State) (c : Nat) (b : List Byte) : (s.answerBytes c b).codes = s.codes := by simp [State.codes]
@[simp] theorem State.codes_raiseC (s : State) (cls code die unit loc kind value : Nat) (b : Bool) : (s.raiseC cls code die unit loc kind value b).codes = s.codes ++ [code] := by simp [State.codes, State.raiseC]
@[simp] theorem State.codes_raise (s : State) (code die unit loc kind value : Nat) : (s.raise code die unit loc kind value).codes = s.codes ++ [code] := by simp [State.codes, State.raise, State.raiseC]
@[simp] theorem State.codes_raiseP (s : State) (p code loc kind value : Nat) : (s.raiseP p code loc kind value).codes = s.codes ++ [code] := by simp [State.codes, State.raiseP]
@[simp] theorem State.codes_setByte (s : State) (a : Nat) (b : Byte) : (s.setByte a b).codes = s.codes := by simp [State.codes]
@[simp] theorem State.codes_advanceNs (s : State) (d : Nat) : (s.advanceNs d).codes = s.codes := by simp [State.codes]
@[simp] theorem State.codes_setDie (s : State) (n : Nat) (d : ADie) : (s.setDie n d).codes = s.codes := by simp [State.codes]
@[simp] theorem State.codes_setPart (s : State) (p : Nat) (x : Part) : (s.setPart p x).codes = s.codes := by simp [State.codes]
@[simp] theorem State.codes_updDie (s : State) (n : Nat) (f : ADie → ADie) : (s.updDie n f).codes = s.codes := by simp [State.codes]
@[simp] theorem State.codes_updPart (s : State) (p : Nat) (f : Part → Part) : (s.updPart p f).codes = s.codes := by simp [State.codes]
@[simp] theorem State.codes_updCore (s : State) (c : Nat) (f : Core → Core) : (s.updCore c f).codes = s.codes := by simp [State.codes]
@[simp] theorem State.codes_updRun (s : State) (die idx : Nat) (f : RunCmd → RunCmd) : (s.updRun die idx f).codes = s.codes := by simp [State.codes]
@[simp] theorem State.codes_advanceCyc (s : State) (n : Nat) : (s.advanceCyc n).codes = s.codes := by simp [State.codes]
@[simp] theorem State.codes_toCyc (s : State) (p c : Nat) : (s.toCyc p c).codes = s.codes := by simp [State.codes]
@[simp] theorem State.codes_raiseCmd (s : State) (cls code die unit idx kind value : Nat) : (s.raiseCmd cls code die unit idx kind value).codes = s.codes ++ [code] := by simp [State.codes, State.raiseCmd, State.raiseC]
@[simp] theorem State.codes_expoAt (s : State) (die ns typ flags code idx cyc value detail : Nat) (mbit : Option Nat) : (s.expoAt die ns typ flags code idx cyc value detail mbit).codes = s.codes := by simp [State.codes]
@[simp] theorem State.codes_expo (s : State) (die typ flags code idx cyc value detail : Nat) (mbit : Option Nat) : (s.expo die typ flags code idx cyc value detail mbit).codes = s.codes := by simp [State.codes]
@[simp] theorem State.codes_toNs (s : State) (t : Nat) : (s.toNs t).codes = s.codes := by simp [State.codes]
@[simp] theorem State.codes_setFs (s : State) (l : List (Fld × Nat)) : (s.setFs l).codes = s.codes := by simp [State.codes]
@[simp] theorem State.codes_writeMem (s : State) (a : Nat) (b : List Byte) : (s.writeMem a b).codes = s.codes := by simp [State.codes]

end Sys2Proof.Machine
end

