-- ==== Sys2Proof/Laws/Data.lean ====
section
/-! SUPPORT. Operations that leave all stored data alone: one relation between the states before and after, with the rules that build it. -/
namespace Sys2Proof.Machine

set_option linter.all false
set_option Elab.async false

/-- Device memory, the accumulators, the cores' registers, the boot NVM, the CSM and the fuses hold what they held. -/
structure State.Data (s t : State) : Prop where
  mem : t.mem = s.mem
  undef : t.undef = s.undef
  acf : t.acf = s.acf
  cores : t.cores = s.cores
  nvm : t.nvm = s.nvm
  csm : t.csm = s.csm
  fused : t.fused = s.fused

/-- A command completes with all stored data as it was. -/
def State.DataOut (s : State) (o : Host.Outcome State Fault Refusal) : Prop := ∃ t, o = .next t ∧ s.Data t

theorem State.Data.same (s : State) : s.Data s := ⟨rfl, rfl, rfl, rfl, rfl, rfl, rfl⟩

theorem State.Data.memByte {s t : State} (h : s.Data t) (a : Nat) : t.memByte a = s.memByte a := by
  unfold State.memByte State.memDflt State.epoch
  rw [h.mem, h.undef]

theorem State.Data.next {s t : State} (h : s.Data t) : s.DataOut (.next t) := ⟨t, rfl, h⟩

theorem State.Data.ite {s a b : State} {c : Prop} [Decidable c] (ha : s.Data a) (hb : s.Data b) : s.Data (if c then a else b) := by
  split <;> assumption

theorem State.Data.ite2 {β : Type} {s : State} {a b : β × State} {c : Prop} [Decidable c] (ha : s.Data a.2) (hb : s.Data b.2) :
    s.Data (if c then a else b).2 := by
  split <;> assumption

theorem State.Data.ite22 {β γ : Type} {s : State} {a b : β × γ × State} {c : Prop} [Decidable c] (ha : s.Data a.2.2) (hb : s.Data b.2.2) :
    s.Data (if c then a else b).2.2 := by
  split <;> assumption

theorem State.Data.ite222 {β γ δ : Type} {s : State} {a b : β × γ × δ × State} {c : Prop} [Decidable c] (ha : s.Data a.2.2.2) (hb : s.Data b.2.2.2) :
    s.Data (if c then a else b).2.2.2 := by
  split <;> assumption

theorem State.Data.ite1 {β : Type} {s : State} {a b : State × β} {c : Prop} [Decidable c] (ha : s.Data a.1) (hb : s.Data b.1) :
    s.Data (if c then a else b).1 := by
  split <;> assumption

theorem State.Data.ite21 {β γ : Type} {s : State} {a b : β × State × γ} {c : Prop} [Decidable c] (ha : s.Data a.2.1) (hb : s.Data b.2.1) :
    s.Data (if c then a else b).2.1 := by
  split <;> assumption

theorem State.Data.foldl {α : Type} {s : State} {f : State → α → State} {l : List α} {t : State} (h : s.Data t)
    (hf : ∀ u x, s.Data u → s.Data (f u x)) : s.Data (l.foldl f t) := by
  induction l generalizing t with
  | nil => exact h
  | cons x r ih => exact ih (hf t x h)

theorem State.Data.foldl2 {α β : Type} {s : State} {f : β × State → α → β × State} {l : List α} {t : β × State} (h : s.Data t.2)
    (hf : ∀ u x, s.Data u.2 → s.Data (f u x).2) : s.Data (l.foldl f t).2 := by
  induction l generalizing t with
  | nil => exact h
  | cons x r ih => exact ih (hf t x h)

theorem State.Data.foldl22 {α β γ : Type} {s : State} {f : β × γ × State → α → β × γ × State} {l : List α} {t : β × γ × State} (h : s.Data t.2.2)
    (hf : ∀ u x, s.Data u.2.2 → s.Data (f u x).2.2) : s.Data (l.foldl f t).2.2 := by
  induction l generalizing t with
  | nil => exact h
  | cons x r ih => exact ih (hf t x h)

theorem State.Data.foldl222 {α β γ δ : Type} {s : State} {f : β × γ × δ × State → α → β × γ × δ × State} {l : List α} {t : β × γ × δ × State}
    (h : s.Data t.2.2.2) (hf : ∀ u x, s.Data u.2.2.2 → s.Data (f u x).2.2.2) : s.Data (l.foldl f t).2.2.2 := by
  induction l generalizing t with
  | nil => exact h
  | cons x r ih => exact ih (hf t x h)

theorem State.Data.foldl1 {α β : Type} {s : State} {f : State × β → α → State × β} {l : List α} {t : State × β} (h : s.Data t.1)
    (hf : ∀ u x, s.Data u.1 → s.Data (f u x).1) : s.Data (l.foldl f t).1 := by
  induction l generalizing t with
  | nil => exact h
  | cons x r ih => exact ih (hf t x h)

theorem State.Data.elim {α : Type} {s t : State} {o : Option α} {f : α → State} (h : s.Data t) (hf : ∀ x, s.Data (f x)) : s.Data (o.elim t f) := by
  cases o with
  | none => exact h
  | some x => exact hf x

theorem State.Data.pair2 {β : Type} {s t : State} {a : β} (h : s.Data t) : s.Data (a, t).2 := h

theorem State.Data.pair22 {β γ : Type} {s t : State} {a : β} {b : γ} (h : s.Data t) : s.Data (a, b, t).2.2 := h

theorem State.Data.pair222 {β γ δ : Type} {s t : State} {a : β} {b : γ} {c : δ} (h : s.Data t) : s.Data (a, b, c, t).2.2.2 := h

theorem State.Data.eq2 {β : Type} {s t : State} {a : β} {x : β × State} (e : x = (a, t)) (h : s.Data x.2) : s.Data t := by
  rw [e] at h
  exact h

theorem State.Data.eq22 {β γ : Type} {s t : State} {a : β} {b : γ} {x : β × γ × State} (e : x = (a, b, t)) (h : s.Data x.2.2) : s.Data t := by
  rw [e] at h
  exact h

theorem State.Data.eq222 {β γ δ : Type} {s t : State} {a : β} {b : γ} {c : δ} {x : β × γ × δ × State} (e : x = (a, b, c, t)) (h : s.Data x.2.2.2) : s.Data t := by
  rw [e] at h
  exact h

theorem State.Data.eq1 {β : Type} {s t : State} {a : β} {x : State × β} (e : x = (t, a)) (h : s.Data x.1) : s.Data t := by
  rw [e] at h
  exact h

/-- A change of any other part of the state. -/
theorem State.Data.mk_ {s t : State} {pending : List Instr} {clk : Clock} {fld : Assoc Nat} {defer : List (Nat × Nat × Nat)} {ecc : Assoc Nat} {poison : List PArea} {acfEcc : Assoc Nat} {a0 : ADie} {a1 : ADie} {a2 : ADie} {a3 : ADie} {p0 : Part} {p1 : Part} {p2 : Part} {p3 : Part} {owner : List Nat} {dark : List DarkRun} {reports : List Report} {jqueue : List Report} {journal : List (Nat × JEntry)} {bringIn : List BringIn} {spareBad : List (Nat × Nat × Nat × Nat)} {hbmWait : List HbmWait} {rowMap : Assoc Nat} {colMap : Assoc Nat} {th : Thermal} {fab : Fab} {coll : Coll} {nicOwner : List Nat} {sve : Seq} {sveJob : Option SveJob} {cor : Seq} {ccache : List CacheLine} {pmc : Seq} {mig : Option MigJob} {cfg : List PartCfg} {ckpt : List Ckpt} {csArm : Option (Option Nat)} {tbTries : List Nat} {boot : Boot} {dr : Dr} {lsc : Lsc} {tap : Tap} {svc : Svc} {out : Out} {free : Nat} {w1c : List (Nat × Nat × Nat)} {hist : List MemW} {acfHist : List AcfW} {fails : List Fail} {fdieWait : Bool} {pdieCool : Option Nat}
    (h : s.Data t) :
    s.Data (State.mk pending clk t.fused fld defer t.mem t.undef ecc poison t.acf acfEcc a0 a1 a2 a3 p0 p1 p2 p3 owner dark reports jqueue journal bringIn spareBad hbmWait rowMap colMap th fab coll nicOwner sve sveJob cor t.cores ccache pmc mig cfg ckpt t.csm csArm tbTries boot dr lsc tap svc t.nvm out free w1c hist acfHist fails fdieWait pdieCool) := ⟨h.mem, h.undef, h.acf, h.cores, h.nvm, h.csm, h.fused⟩

end Sys2Proof.Machine
end

