-- ==== Sys2Proof/Laws/DataOps.lean ====
section
/-! SUPPORT. Operations of Machine/Ops.lean that leave all stored data alone. -/
namespace Sys2Proof.Machine

set_option linter.all false
set_option Elab.async false

theorem State.setDie_data (b0 : State) (s : State) (n : Nat) (d : ADie) (h0 : b0.Data s) : b0.Data (State.setDie s n d) := by
  unfold State.setDie
  repeat' (first | with_reducible assumption | split | ((with_reducible conv => arg 2; whnf); split) | with_reducible refine State.Data.eq2 (by with_reducible assumption) ?_ | with_reducible refine State.Data.eq22 (by with_reducible assumption) ?_ | with_reducible refine State.Data.eq222 (by with_reducible assumption) ?_ | with_reducible refine State.Data.eq1 (by with_reducible assumption) ?_ | with_reducible apply State.Data.mk_ | intro _)

theorem State.updDie_data (b0 : State) (s : State) (n : Nat) (f : ADie → ADie) (h0 : b0.Data s) : b0.Data (State.updDie s n f) := by
  unfold State.updDie
  repeat' (first | with_reducible assumption | with_reducible apply State.setDie_data | intro _)

theorem State.setPart_data (b0 : State) (s : State) (p : Nat) (x : Part) (h0 : b0.Data s) : b0.Data (State.setPart s p x) := by
  unfold State.setPart
  repeat' (first | with_reducible assumption | split | ((with_reducible conv => arg 2; whnf); split) | with_reducible refine State.Data.eq2 (by with_reducible assumption) ?_ | with_reducible refine State.Data.eq22 (by with_reducible assumption) ?_ | with_reducible refine State.Data.eq222 (by with_reducible assumption) ?_ | with_reducible refine State.Data.eq1 (by with_reducible assumption) ?_ | with_reducible apply State.Data.mk_ | intro _)

theorem State.updPart_data (b0 : State) (s : State) (p : Nat) (f : Part → Part) (h0 : b0.Data s) : b0.Data (State.updPart s p f) := by
  unfold State.updPart
  repeat' (first | with_reducible assumption | with_reducible apply State.setPart_data | intro _)

theorem State.setF_data (b0 : State) (s : State) (f : Fld) (v : Nat) (h0 : b0.Data s) : b0.Data (s.setF f v) := State.Data.mk_ h0

theorem State.setFs_data (b0 : State) (s : State) (l : List (Fld × Nat)) (h0 : b0.Data s) : b0.Data (State.setFs s l) := by
  unfold State.setFs
  repeat' (first | with_reducible assumption | intro _ _ _ | intro _ | with_reducible apply State.setF_data | with_reducible apply State.Data.foldl | with_reducible apply State.Data.foldl2 | with_reducible apply State.Data.foldl22 | with_reducible apply State.Data.foldl222 | with_reducible apply State.Data.foldl1 | split | ((with_reducible conv => arg 2; whnf); split) | ((with_reducible conv => arg 2; arg 1; whnf); split) | ((with_reducible conv => arg 2; arg 1; arg 1; whnf); split))

theorem State.hwSet_data (b0 : State) (s : State) (f : Fld) (m : Nat) (h0 : b0.Data s) : b0.Data (State.hwSet s f m) := by
  unfold State.hwSet
  repeat' (first | with_reducible assumption | intro _ _ _ | intro _ | with_reducible apply State.setF_data | split | ((with_reducible conv => arg 2; whnf); split) | ((with_reducible conv => arg 2; arg 1; whnf); split) | ((with_reducible conv => arg 2; arg 1; arg 1; whnf); split) | with_reducible apply State.Data.mk_)

theorem State.clearBits_data (b0 : State) (s : State) (f : Fld) (m : Nat) (h0 : b0.Data s) : b0.Data (State.clearBits s f m) := by
  unfold State.clearBits
  repeat' (first | with_reducible assumption | intro _ _ _ | intro _ | with_reducible apply State.setF_data | split | ((with_reducible conv => arg 2; whnf); split) | ((with_reducible conv => arg 2; arg 1; whnf); split) | ((with_reducible conv => arg 2; arg 1; arg 1; whnf); split) | with_reducible apply State.Data.mk_)

theorem State.hwSets_data (b0 : State) (s : State) (l : List (Fld × Nat)) (h0 : b0.Data s) : b0.Data (State.hwSets s l) := by
  unfold State.hwSets
  repeat' (first | with_reducible assumption | intro _ _ _ | intro _ | with_reducible apply State.setFs_data | split | ((with_reducible conv => arg 2; whnf); split) | ((with_reducible conv => arg 2; arg 1; whnf); split) | ((with_reducible conv => arg 2; arg 1; arg 1; whnf); split) | with_reducible apply State.Data.mk_)

theorem State.satF_data (b0 : State) (s : State) (f : Fld) (n : Nat) (h0 : b0.Data s) : b0.Data (State.satF s f n) := by
  unfold State.satF
  repeat' (first | with_reducible assumption | with_reducible apply State.setF_data | intro _)

theorem State.bar2_data (b0 : State) (s : State) (p : Nat) (f : State → State) (h0 : b0.Data s) (hf : ∀ u, b0.Data u → b0.Data (f u)) : b0.Data (State.bar2 s p f) := by
  unfold State.bar2
  split
  · exact hf _ h0
  · exact State.satF_data _ _ _ _ h0

theorem State.count_data (b0 : State) (s : State) (e i n : Nat) (h0 : b0.Data s) : b0.Data (State.count s e i n) := by
  unfold State.count
  repeat' (first | with_reducible assumption | with_reducible apply State.satF_data | intro _)

theorem State.freshNat_data (b0 : State) (s : State) (h0 : b0.Data s) : b0.Data (State.freshNat s).2 := by
  unfold State.freshNat
  repeat' (first | with_reducible assumption | with_reducible apply State.Data.mk_ | intro _)

theorem State.freshBytes_data (b0 : State) (s : State) (n : Nat) (h0 : b0.Data s) : b0.Data (State.freshBytes s n).2 := by
  unfold State.freshBytes
  repeat' (first | with_reducible assumption | intro _ _ _ | intro _ | split | ((with_reducible conv => arg 2; whnf); split) | ((with_reducible conv => arg 2; arg 1; whnf); split) | ((with_reducible conv => arg 2; arg 1; arg 1; whnf); split) | with_reducible apply State.Data.mk_)

theorem State.advanceNs_data (b0 : State) (s : State) (d : Nat) (h0 : b0.Data s) : b0.Data (State.advanceNs s d) := by
  unfold State.advanceNs
  repeat' (first | with_reducible assumption | with_reducible apply State.Data.mk_ | intro _)

theorem State.advanceCyc_data (b0 : State) (s : State) (n : Nat) (h0 : b0.Data s) : b0.Data (State.advanceCyc s n) := by
  unfold State.advanceCyc
  repeat' (first | with_reducible assumption | with_reducible apply State.Data.ite | split | ((with_reducible conv => arg 2; whnf); split) | with_reducible apply State.Data.mk_ | intro _)

theorem State.toCyc_data (b0 : State) (s : State) (p c : Nat) (h0 : b0.Data s) : b0.Data (State.toCyc s p c) := by
  unfold State.toCyc
  repeat' (first | with_reducible assumption | with_reducible apply State.advanceCyc_data | intro _)

theorem State.toNs_data (b0 : State) (s : State) (t : Nat) (h0 : b0.Data s) : b0.Data (State.toNs s t) := by
  unfold State.toNs
  repeat' (first | with_reducible assumption | with_reducible apply State.advanceNs_data | intro _)

theorem State.setFrameState_data (b0 : State) (s : State) (p st : Nat) (h0 : b0.Data s) : b0.Data (State.setFrameState s p st) := by
  unfold State.setFrameState
  repeat' (first | with_reducible assumption | with_reducible apply State.setF_data | intro _)

theorem State.showPending_data (b0 : State) (s : State) (p : Nat) (h0 : b0.Data s) : b0.Data (State.showPending s p) := by
  unfold State.showPending
  repeat' (first | with_reducible assumption | intro _ _ _ | intro _ | with_reducible apply State.setF_data | with_reducible apply State.Data.mk_)

theorem State.stopFrame_data (b0 : State) (s : State) (p : Nat) (h0 : b0.Data s) : b0.Data (State.stopFrame s p) := by
  unfold State.stopFrame
  repeat' (first | with_reducible assumption | intro _ _ _ | intro _ | with_reducible apply State.updPart_data | with_reducible apply State.setFrameState_data | with_reducible apply State.showPending_data | split | ((with_reducible conv => arg 2; whnf); split) | ((with_reducible conv => arg 2; arg 1; whnf); split) | ((with_reducible conv => arg 2; arg 1; arg 1; whnf); split) | with_reducible apply State.Data.mk_)

theorem State.raiseC_data (b0 : State) (s : State) (cls code die unit loc kind value : Nat) (addrForm : Bool) (h0 : b0.Data s) : b0.Data (State.raiseC s cls code die unit loc kind value addrForm) := by
  unfold State.raiseC
  repeat' (first | with_reducible assumption | with_reducible apply State.Data.mk_ | intro _)

theorem State.raise_data (b0 : State) (s : State) (code die unit loc kind value : Nat) (h0 : b0.Data s) : b0.Data (State.raise s code die unit loc kind value) := by
  unfold State.raise
  repeat' (first | with_reducible assumption | with_reducible apply State.raiseC_data | intro _)

theorem State.raiseP_data (b0 : State) (s : State) (p code loc kind value : Nat) (h0 : b0.Data s) : b0.Data (State.raiseP s p code loc kind value) := by
  unfold State.raiseP
  repeat' (first | with_reducible assumption | with_reducible apply State.Data.mk_ | intro _)

theorem State.setEcc_data (b0 : State) (s : State) (a v : Nat) (h0 : b0.Data s) : b0.Data (State.setEcc s a v) := by
  unfold State.setEcc
  repeat' (first | with_reducible assumption | with_reducible apply State.Data.mk_ | intro _)

theorem State.eccWrite_data (b0 : State) (s : State) (a n : Nat) (h0 : b0.Data s) : b0.Data (State.eccWrite s a n) := by
  unfold State.eccWrite
  repeat' (first | with_reducible assumption | intro _ _ _ | intro _ | split | ((with_reducible conv => arg 2; whnf); split) | ((with_reducible conv => arg 2; arg 1; whnf); split) | ((with_reducible conv => arg 2; arg 1; arg 1; whnf); split) | with_reducible apply State.Data.mk_)

theorem State.trimHist_data (b0 : State) (s : State) (h0 : b0.Data s) : b0.Data (State.trimHist s) := by
  unfold State.trimHist
  repeat' (first | with_reducible assumption | intro _ _ _ | intro _ | with_reducible apply State.Data.foldl | with_reducible apply State.Data.foldl2 | with_reducible apply State.Data.foldl22 | with_reducible apply State.Data.foldl222 | with_reducible apply State.Data.foldl1 | split | ((with_reducible conv => arg 2; whnf); split) | ((with_reducible conv => arg 2; arg 1; whnf); split) | ((with_reducible conv => arg 2; arg 1; arg 1; whnf); split) | with_reducible apply State.Data.mk_)

theorem State.correct_data (b0 : State) (s : State) (a n : Nat) (h0 : b0.Data s) : b0.Data (State.correct s a n).2 := by
  unfold State.correct
  repeat' (first | with_reducible assumption | intro _ _ _ | intro _ | with_reducible apply State.Data.ite | with_reducible apply State.Data.ite2 | with_reducible apply State.Data.ite22 | with_reducible apply State.Data.ite222 | with_reducible apply State.Data.ite1 | with_reducible apply State.Data.ite21 | split | ((with_reducible conv => arg 2; whnf); split) | ((with_reducible conv => arg 2; arg 1; whnf); split) | ((with_reducible conv => arg 2; arg 1; arg 1; whnf); split) | with_reducible apply State.Data.mk_)

theorem State.sramCorrect_data (b0 : State) (s : State) (a n : Nat) (h0 : b0.Data s) : b0.Data (State.sramCorrect s a n) := by
  unfold State.sramCorrect
  repeat' (first | with_reducible assumption | intro _ _ _ | intro _ | with_reducible apply State.correct_data | with_reducible apply State.satF_data | with_reducible apply State.setF_data | split | ((with_reducible conv => arg 2; whnf); split) | ((with_reducible conv => arg 2; arg 1; whnf); split) | ((with_reducible conv => arg 2; arg 1; arg 1; whnf); split) | with_reducible refine State.Data.eq2 (by with_reducible assumption) ?_ | with_reducible refine State.Data.eq22 (by with_reducible assumption) ?_ | with_reducible refine State.Data.eq222 (by with_reducible assumption) ?_ | with_reducible refine State.Data.eq1 (by with_reducible assumption) ?_ | with_reducible apply State.Data.mk_)

theorem State.windowRead_data (b0 : State) (s : State) (a n : Nat) (h0 : b0.Data s) : b0.Data (State.windowRead s a n).2.2 := by
  unfold State.windowRead
  repeat' (first | with_reducible assumption | intro _ _ _ | intro _ | with_reducible apply State.sramCorrect_data | with_reducible apply State.correct_data | with_reducible apply State.Data.ite | with_reducible apply State.Data.ite2 | with_reducible apply State.Data.ite22 | with_reducible apply State.Data.ite222 | with_reducible apply State.Data.ite1 | with_reducible apply State.Data.ite21 | split | ((with_reducible conv => arg 2; whnf); split) | ((with_reducible conv => arg 2; arg 1; whnf); split) | ((with_reducible conv => arg 2; arg 1; arg 1; whnf); split) | with_reducible apply State.Data.pair2 | with_reducible apply State.Data.pair22 | with_reducible apply State.Data.pair222 | with_reducible apply State.Data.mk_)

theorem State.answer_data (b0 : State) (s : State) (code value : Nat) (h0 : b0.Data s) : b0.Data (State.answer s code value) := by
  unfold State.answer
  repeat' (first | with_reducible assumption | with_reducible apply State.Data.mk_ | intro _)

theorem State.refused_data (b0 : State) (s : State) (code die unit loc : Nat) (h0 : b0.Data s) : b0.Data (State.refused s code die unit loc) := by
  unfold State.refused
  repeat' (first | with_reducible assumption | intro _ _ _ | intro _ | with_reducible apply State.raise_data | with_reducible apply State.answer_data | with_reducible apply State.Data.mk_)

theorem State.answerBytes_data (b0 : State) (s : State) (code : Nat) (b : List Byte) (h0 : b0.Data s) : b0.Data (State.answerBytes s code b) := by
  unfold State.answerBytes
  repeat' (first | with_reducible assumption | with_reducible apply State.Data.mk_ | intro _)

end Sys2Proof.Machine
end

