-- ==== Sys2Proof/Laws/DataSpares.lean ====
section
/-! SUPPORT. Operations of Machine/Spares.lean that leave all stored data alone. -/
namespace Sys2Proof.Machine

set_option linter.all false
set_option Elab.async false

theorem State.dirty_data (b0 : State) (s : State) (h0 : b0.Data s) : b0.Data (State.dirty s) := by
  unfold State.dirty
  repeat' (first | with_reducible assumption | intro _ _ _ | intro _ | with_reducible apply State.setF_data | split | ((with_reducible conv => arg 2; whnf); split) | with_reducible apply State.Data.mk_)

theorem State.startBringIn_data (b0 : State) (s : State) (kind die unit num : Nat) (noCopy : Bool) (h0 : b0.Data s) : b0.Data (State.startBringIn s kind die unit num noCopy).2 := by
  unfold State.startBringIn
  split
  · exact h0
  · split
    · exact h0
    · next i _ =>
      have h1 : b0.Data { s with bringIn := s.bringIn ++ [⟨kind, die, unit, num, i, noCopy, 0, 0⟩] } := State.Data.mk_ h0
      split
      · exact State.dirty_data _ _ (State.raise_data _ _ _ _ _ _ _ _ (State.setF_data _ _ _ _ h1))
      · exact h1

theorem State.sparesExhausted_data (b0 : State) (s : State) (kind die num : Nat) (h0 : b0.Data s) : b0.Data (State.sparesExhausted s kind die num) := by
  unfold State.sparesExhausted
  repeat' (first | with_reducible assumption | with_reducible apply State.setFs_data | with_reducible apply State.raise_data | with_reducible apply State.setF_data | split | ((with_reducible conv => arg 2; whnf); split) | with_reducible refine State.Data.eq2 (by with_reducible assumption) ?_ | with_reducible refine State.Data.eq22 (by with_reducible assumption) ?_ | with_reducible refine State.Data.eq222 (by with_reducible assumption) ?_ | with_reducible refine State.Data.eq1 (by with_reducible assumption) ?_ | intro _)

theorem State.needSpare_data (b0 : State) (s : State) (kind die unit num : Nat) (noCopy : Bool) (h0 : b0.Data s) : b0.Data (State.needSpare s kind die unit num noCopy) := by
  unfold State.needSpare
  repeat' (first | with_reducible assumption | with_reducible apply State.sparesExhausted_data | with_reducible apply State.startBringIn_data | with_reducible apply State.Data.ite | with_reducible apply State.Data.ite2 | with_reducible apply State.Data.ite22 | with_reducible apply State.Data.ite222 | with_reducible apply State.Data.ite1 | with_reducible apply State.Data.ite21 | split | ((with_reducible conv => arg 2; whnf); split) | ((with_reducible conv => arg 2; arg 1; whnf); split) | ((with_reducible conv => arg 2; arg 1; arg 1; whnf); split) | intro _)

theorem State.pcLost_data (b0 : State) (s : State) (die stack pc : Nat) (h0 : b0.Data s) : b0.Data (State.pcLost s die stack pc) := by
  unfold State.pcLost
  repeat' (first | with_reducible assumption | intro _ _ _ | intro _ | with_reducible apply State.Data.ite | split | ((with_reducible conv => arg 2; whnf); split) | with_reducible apply State.Data.mk_)

theorem State.dropRetire_data (b0 : State) (s : State) (die stack : Nat) (h0 : b0.Data s) : b0.Data (State.dropRetire s die stack) := by
  unfold State.dropRetire
  repeat' (first | with_reducible assumption | intro _ _ _ | intro _ | with_reducible apply State.setF_data | split | ((with_reducible conv => arg 2; whnf); split) | with_reducible apply State.Data.mk_)

theorem State.swapPc_data (b0 : State) (s : State) (die stack pc r : Nat) (h0 : b0.Data s) : b0.Data (State.swapPc s die stack pc r) := by
  unfold State.swapPc
  repeat' (first | with_reducible assumption | intro _ _ _ | intro _ | with_reducible apply State.hwSets_data | with_reducible apply State.raise_data | with_reducible apply State.dirty_data | split | ((with_reducible conv => arg 2; whnf); split) | ((with_reducible conv => arg 2; arg 1; whnf); split) | ((with_reducible conv => arg 2; arg 1; arg 1; whnf); split) | with_reducible apply State.Data.mk_)

theorem State.switchPc_data (b0 : State) (s : State) (x : BringIn) (h0 : b0.Data s) : b0.Data (State.switchPc s x) := by
  unfold State.switchPc
  repeat' (first | with_reducible assumption | with_reducible apply State.swapPc_data | with_reducible apply State.dropRetire_data | intro _)

theorem State.replacePc_data (b0 : State) (s : State) (die stack pc r : Nat) (h0 : b0.Data s) : b0.Data (State.replacePc s die stack pc r) := by
  unfold State.replacePc
  repeat' (first | with_reducible assumption | intro _ _ _ | intro _ | with_reducible apply State.swapPc_data | split | ((with_reducible conv => arg 2; whnf); split) | with_reducible apply State.Data.mk_)

theorem doHbmReserveReplace_data (b0 : State) (die stack pc : Nat) (s : State) (h0 : b0.Data s) : b0.Data (doHbmReserveReplace die stack pc s) := by
  unfold doHbmReserveReplace
  repeat' (first | with_reducible assumption | intro _ _ _ | intro _ | with_reducible apply State.dropRetire_data | with_reducible apply State.replacePc_data | with_reducible apply State.Data.ite | split | ((with_reducible conv => arg 2; whnf); split) | with_reducible refine State.Data.eq2 (by with_reducible assumption) ?_ | with_reducible refine State.Data.eq22 (by with_reducible assumption) ?_ | with_reducible refine State.Data.eq222 (by with_reducible assumption) ?_ | with_reducible refine State.Data.eq1 (by with_reducible assumption) ?_)

theorem execHbmReserveReplace_data (b0 : State) (die : Fin 4) (stack : Fin 3) (pc : Fin 32) (s : State) (h0 : b0.Data s) : b0.DataOut (execHbmReserveReplace die stack pc s) := by
  unfold execHbmReserveReplace
  repeat' (first | with_reducible assumption | with_reducible apply doHbmReserveReplace_data | with_reducible apply State.Data.next | intro _)

theorem State.dropBank_data (b0 : State) (s : State) (die b : Nat) (h0 : b0.Data s) : b0.Data (State.dropBank s die b) := by
  unfold State.dropBank
  repeat' (first | with_reducible assumption | intro _ _ _ | intro _ | with_reducible apply State.updDie_data | with_reducible apply State.setF_data | with_reducible apply State.Data.ite | split | ((with_reducible conv => arg 2; whnf); split) | with_reducible apply State.Data.mk_)

theorem State.dropBanks_data (b0 : State) (s : State) (die : Nat) (h0 : b0.Data s) : b0.Data (State.dropBanks s die) := by
  unfold State.dropBanks
  repeat' (first | with_reducible assumption | intro _ _ _ | intro _ | with_reducible apply State.dropBank_data | with_reducible apply State.setFs_data | with_reducible apply State.updDie_data | with_reducible apply State.Data.foldl | with_reducible apply State.Data.foldl2 | with_reducible apply State.Data.foldl22 | with_reducible apply State.Data.foldl222 | with_reducible apply State.Data.foldl1 | split | ((with_reducible conv => arg 2; whnf); split) | ((with_reducible conv => arg 2; arg 1; whnf); split) | ((with_reducible conv => arg 2; arg 1; arg 1; whnf); split) | with_reducible apply State.Data.mk_)

theorem hbmRetire_data (b0 : State) (die stack pc : Nat) (s : State) (h0 : b0.Data s) : b0.Data (hbmRetire die stack pc s).2 := by
  unfold hbmRetire
  repeat' (first | with_reducible assumption | intro _ _ _ | intro _ | with_reducible apply State.startBringIn_data | with_reducible apply State.Data.ite | with_reducible apply State.Data.ite2 | with_reducible apply State.Data.ite22 | with_reducible apply State.Data.ite222 | with_reducible apply State.Data.ite1 | with_reducible apply State.Data.ite21 | split | ((with_reducible conv => arg 2; whnf); split) | ((with_reducible conv => arg 2; arg 1; whnf); split) | ((with_reducible conv => arg 2; arg 1; arg 1; whnf); split))

theorem doHbmRetire_data (b0 : State) (die stack v : Nat) (s : State) (h0 : b0.Data s) : b0.Data (doHbmRetire die stack v s) := by
  unfold doHbmRetire
  repeat' (first | with_reducible assumption | intro _ _ _ | intro _ | with_reducible apply State.setF_data | with_reducible apply hbmRetire_data | with_reducible apply State.answer_data | with_reducible apply State.refused_data | with_reducible apply State.Data.ite | with_reducible apply State.Data.ite2 | with_reducible apply State.Data.ite22 | with_reducible apply State.Data.ite222 | with_reducible apply State.Data.ite1 | with_reducible apply State.Data.ite21 | split | ((with_reducible conv => arg 2; whnf); split) | ((with_reducible conv => arg 2; arg 1; whnf); split) | ((with_reducible conv => arg 2; arg 1; arg 1; whnf); split) | with_reducible refine State.Data.eq2 (by with_reducible assumption) ?_ | with_reducible refine State.Data.eq22 (by with_reducible assumption) ?_ | with_reducible refine State.Data.eq222 (by with_reducible assumption) ?_ | with_reducible refine State.Data.eq1 (by with_reducible assumption) ?_ | with_reducible apply State.Data.mk_)

theorem execHbmRetire_data (b0 : State) (die : Fin 4) (stack : Fin 3) (val : Word) (s : State) (h0 : b0.Data s) : b0.DataOut (execHbmRetire die stack val s) := by
  unfold execHbmRetire
  repeat' (first | with_reducible assumption | with_reducible apply doHbmRetire_data | with_reducible apply State.Data.next | intro _)

theorem State.dropBringIn_data (b0 : State) (s : State) (x : BringIn) (h0 : b0.Data s) : b0.Data (State.dropBringIn s x) := by
  unfold State.dropBringIn
  repeat' (first | with_reducible assumption | intro _ _ _ | intro _ | split | ((with_reducible conv => arg 2; whnf); split) | with_reducible apply State.Data.mk_)

theorem State.migrating_data (b0 : State) (s : State) (x : BringIn) (v : Nat) (h0 : b0.Data s) : b0.Data (State.migrating s x v) := by
  unfold State.migrating
  repeat' (first | with_reducible assumption | intro _ _ _ | intro _ | with_reducible apply State.setF_data | with_reducible apply State.Data.ite | with_reducible apply State.Data.ite2 | with_reducible apply State.Data.ite22 | with_reducible apply State.Data.ite222 | with_reducible apply State.Data.ite1 | with_reducible apply State.Data.ite21 | split | ((with_reducible conv => arg 2; whnf); split) | ((with_reducible conv => arg 2; arg 1; whnf); split) | ((with_reducible conv => arg 2; arg 1; arg 1; whnf); split) | with_reducible apply State.Data.mk_)

theorem State.useArraySpare_data (b0 : State) (s : State) (x : BringIn) (h0 : b0.Data s) : b0.Data (State.useArraySpare s x) := by
  unfold State.useArraySpare
  repeat' (first | with_reducible assumption | intro _ _ _ | intro _ | with_reducible apply State.setF_data | with_reducible apply State.raise_data | with_reducible apply State.dirty_data | with_reducible apply State.dropBringIn_data | with_reducible apply State.Data.ite | with_reducible apply State.Data.foldl | with_reducible apply State.Data.foldl2 | with_reducible apply State.Data.foldl22 | with_reducible apply State.Data.foldl222 | with_reducible apply State.Data.foldl1 | split | ((with_reducible conv => arg 2; whnf); split) | with_reducible apply State.Data.mk_)

theorem State.useSpmSpare_data (b0 : State) (s : State) (x : BringIn) (h0 : b0.Data s) : b0.Data (State.useSpmSpare s x) := by
  unfold State.useSpmSpare
  repeat' (first | with_reducible assumption | intro _ _ _ | intro _ | with_reducible apply State.setFs_data | with_reducible apply State.raise_data | with_reducible apply State.dirty_data | with_reducible apply State.dropBringIn_data | with_reducible apply State.Data.ite | split | ((with_reducible conv => arg 2; whnf); split) | with_reducible apply State.Data.mk_)

theorem State.spareTestFailed_data (b0 : State) (s : State) (x : BringIn) (h0 : b0.Data s) : b0.Data (State.spareTestFailed s x) := by
  unfold State.spareTestFailed
  repeat' (first | with_reducible assumption | intro _ _ _ | intro _ | with_reducible apply State.dropBringIn_data | with_reducible apply State.migrating_data | with_reducible apply State.sparesExhausted_data | with_reducible apply State.setF_data | with_reducible apply State.Data.ite | with_reducible apply State.Data.ite2 | with_reducible apply State.Data.ite22 | with_reducible apply State.Data.ite222 | with_reducible apply State.Data.ite1 | with_reducible apply State.Data.ite21 | split | ((with_reducible conv => arg 2; whnf); split) | ((with_reducible conv => arg 2; arg 1; whnf); split) | ((with_reducible conv => arg 2; arg 1; arg 1; whnf); split) | with_reducible refine State.Data.eq2 (by with_reducible assumption) ?_ | with_reducible refine State.Data.eq22 (by with_reducible assumption) ?_ | with_reducible refine State.Data.eq222 (by with_reducible assumption) ?_ | with_reducible refine State.Data.eq1 (by with_reducible assumption) ?_ | with_reducible apply State.Data.mk_)

end Sys2Proof.Machine
end

