-- ==== Sys2Proof/Laws/DataVault.lean ====
section
/-! SUPPORT. Operations of Machine/Vault.lean that leave all stored data alone. -/
namespace Sys2Proof.Machine

set_option linter.all false
set_option Elab.async false

theorem State.sign_data (b0 : State) (s : State) (seed m : List Byte) (h0 : b0.Data s) : b0.Data (State.sign s seed m).2 := by
  unfold State.sign
  repeat' (first | with_reducible assumption | with_reducible apply State.satF_data | with_reducible apply State.Data.mk_ | intro _)

theorem State.verify_data (b0 : State) (s : State) (pub m sig : List Byte) (h0 : b0.Data s) : b0.Data (State.verify s pub m sig).2 := by
  unfold State.verify
  repeat' (first | with_reducible assumption | with_reducible apply State.satF_data | with_reducible apply State.Data.ite | with_reducible apply State.Data.ite2 | with_reducible apply State.Data.ite22 | with_reducible apply State.Data.ite222 | with_reducible apply State.Data.ite1 | with_reducible apply State.Data.ite21 | split | ((with_reducible conv => arg 2; whnf); split) | ((with_reducible conv => arg 2; arg 1; whnf); split) | ((with_reducible conv => arg 2; arg 1; arg 1; whnf); split) | intro _)

end Sys2Proof.Machine
end

