-- ==== Sys2Proof/Laws/DataBook.lean ====
section
/-! SUPPORT. Operations of Machine/Book.lean that leave all stored data alone. -/
namespace Sys2Proof.Machine

set_option linter.all false
set_option Elab.async false

theorem State.countPcs_data (b0 : State) (s : State) (die : Nat) (h0 : b0.Data s) : b0.Data (State.countPcs s die) := by
  unfold State.countPcs
  repeat' (first | with_reducible assumption | intro _ _ _ | intro _ | with_reducible apply State.setFs_data | with_reducible apply State.Data.foldl | with_reducible apply State.Data.foldl2 | with_reducible apply State.Data.foldl22 | with_reducible apply State.Data.foldl222 | with_reducible apply State.Data.foldl1 | split | ((with_reducible conv => arg 2; whnf); split))

theorem State.applyBook_data (b0 : State) (s : State) (b : List Byte) (h0 : b0.Data s) : b0.Data (State.applyBook s b) := by
  unfold State.applyBook
  repeat' (first | with_reducible assumption | intro _ _ _ | intro _ | with_reducible apply State.setFs_data | with_reducible apply State.setF_data | with_reducible apply State.countPcs_data | with_reducible apply State.Data.ite | with_reducible apply State.Data.foldl | with_reducible apply State.Data.foldl2 | with_reducible apply State.Data.foldl22 | with_reducible apply State.Data.foldl222 | with_reducible apply State.Data.foldl1 | split | ((with_reducible conv => arg 2; whnf); split) | with_reducible apply State.Data.mk_)

theorem State.recordAt_data (b0 : State) (s : State) (i : Nat) (h0 : b0.Data s) : b0.Data (State.recordAt s i).2 := by
  unfold State.recordAt
  repeat' (first | with_reducible assumption | with_reducible apply State.verify_data | with_reducible apply State.Data.ite | with_reducible apply State.Data.ite2 | with_reducible apply State.Data.ite22 | with_reducible apply State.Data.ite222 | with_reducible apply State.Data.ite1 | with_reducible apply State.Data.ite21 | split | ((with_reducible conv => arg 2; whnf); split) | ((with_reducible conv => arg 2; arg 1; whnf); split) | ((with_reducible conv => arg 2; arg 1; arg 1; whnf); split) | intro _)

theorem State.currentRecord_data (b0 : State) (s : State) (h0 : b0.Data s) : b0.Data (State.currentRecord s).2 := by
  unfold State.currentRecord
  repeat' (first | with_reducible assumption | intro _ _ _ | intro _ | with_reducible apply State.recordAt_data | with_reducible apply State.Data.ite | with_reducible apply State.Data.ite2 | with_reducible apply State.Data.ite22 | with_reducible apply State.Data.ite222 | with_reducible apply State.Data.ite1 | with_reducible apply State.Data.ite21 | with_reducible apply State.Data.foldl | with_reducible apply State.Data.foldl2 | with_reducible apply State.Data.foldl22 | with_reducible apply State.Data.foldl222 | with_reducible apply State.Data.foldl1 | split | ((with_reducible conv => arg 2; whnf); split) | ((with_reducible conv => arg 2; arg 1; whnf); split) | ((with_reducible conv => arg 2; arg 1; arg 1; whnf); split))

theorem State.useSlinkLane_data (b0 : State) (s : State) (e l : Nat) (h0 : b0.Data s) : b0.Data (State.useSlinkLane s e l) := by
  unfold State.useSlinkLane
  repeat' (first | with_reducible assumption | with_reducible apply State.setFs_data | with_reducible apply State.raise_data | with_reducible apply State.dirty_data | with_reducible apply State.Data.ite | split | ((with_reducible conv => arg 2; whnf); split) | with_reducible apply State.Data.mk_ | intro _)

end Sys2Proof.Machine
end

