-- ==== Sys2Proof/Laws/DataSched.lean ====
section
/-! SUPPORT. Operations of Machine/Sched.lean that leave all stored data alone. -/
namespace Sys2Proof.Machine

set_option linter.all false
set_option Elab.async false

theorem State.setBank_data (b0 : State) (s : State) (die b : Nat) (x : Bank) (h0 : b0.Data s) : b0.Data (State.setBank s die b x) := by
  unfold State.setBank
  repeat' (first | with_reducible assumption | intro _ _ _ | intro _ | with_reducible apply State.updDie_data | with_reducible apply State.Data.ite | split | ((with_reducible conv => arg 2; whnf); split) | with_reducible apply State.Data.mk_)

theorem State.raiseCmd_data (b0 : State) (s : State) (cls code die unit idx kind value : Nat) (h0 : b0.Data s) : b0.Data (State.raiseCmd s cls code die unit idx kind value) := by
  unfold State.raiseCmd
  repeat' (first | with_reducible assumption | with_reducible apply State.raiseC_data | intro _)

theorem State.nameReports_data (b0 : State) (s : State) (n code kind value : Nat) (h0 : b0.Data s) : b0.Data (State.nameReports s n code kind value) := by
  unfold State.nameReports
  repeat' (first | with_reducible assumption | intro _ _ _ | intro _ | with_reducible apply State.Data.ite | with_reducible apply State.Data.ite2 | with_reducible apply State.Data.ite22 | with_reducible apply State.Data.ite222 | with_reducible apply State.Data.ite1 | with_reducible apply State.Data.ite21 | split | ((with_reducible conv => arg 2; whnf); split) | ((with_reducible conv => arg 2; arg 1; whnf); split) | ((with_reducible conv => arg 2; arg 1; arg 1; whnf); split) | with_reducible apply State.Data.mk_)

theorem State.expoAt_data (b0 : State) (s : State) (die ns typ flags code idx cyc value detail : Nat) (mbit : Option Nat) (h0 : b0.Data s) : b0.Data (State.expoAt s die ns typ flags code idx cyc value detail mbit) := by
  unfold State.expoAt
  repeat' (first | with_reducible assumption | intro _ _ _ | intro _ | with_reducible apply State.expo_data | with_reducible apply State.updDie_data | with_reducible apply State.Data.ite | with_reducible apply State.Data.ite2 | with_reducible apply State.Data.ite22 | with_reducible apply State.Data.ite222 | with_reducible apply State.Data.ite1 | with_reducible apply State.Data.ite21 | split | ((with_reducible conv => arg 2; whnf); split) | ((with_reducible conv => arg 2; arg 1; whnf); split) | ((with_reducible conv => arg 2; arg 1; arg 1; whnf); split) | with_reducible refine State.Data.eq2 (by with_reducible assumption) ?_ | with_reducible refine State.Data.eq22 (by with_reducible assumption) ?_ | with_reducible refine State.Data.eq222 (by with_reducible assumption) ?_ | with_reducible refine State.Data.eq1 (by with_reducible assumption) ?_ | with_reducible apply State.Data.mk_)

theorem State.expo_data (b0 : State) (s : State) (die typ flags code idx cyc value detail : Nat) (mbit : Option Nat) (h0 : b0.Data s) : b0.Data (State.expo s die typ flags code idx cyc value detail mbit) := by
  unfold State.expo
  repeat' (first | with_reducible assumption | with_reducible apply State.expoAt_data | intro _)

theorem State.updRun_data (b0 : State) (s : State) (die idx : Nat) (f : RunCmd → RunCmd) (h0 : b0.Data s) : b0.Data (State.updRun s die idx f) := by
  unfold State.updRun
  repeat' (first | with_reducible assumption | intro _ _ _ | intro _ | with_reducible apply State.updDie_data | with_reducible apply State.Data.ite | split | ((with_reducible conv => arg 2; whnf); split) | with_reducible apply State.Data.mk_)

theorem State.commit_data (b0 : State) (s : State) (p : Nat) (h0 : b0.Data s) : b0.Data (State.commit s p) := by
  unfold State.commit
  repeat' (first | with_reducible assumption | intro _ _ _ | intro _ | with_reducible apply State.setF_data | with_reducible apply State.updPart_data | with_reducible apply State.Data.foldl | with_reducible apply State.Data.foldl2 | with_reducible apply State.Data.foldl22 | with_reducible apply State.Data.foldl222 | with_reducible apply State.Data.foldl1 | split | ((with_reducible conv => arg 2; whnf); split) | with_reducible apply State.Data.mk_)

theorem State.addSlip_data (b0 : State) (s : State) (p slip : Nat) (h0 : b0.Data s) : b0.Data (State.addSlip s p slip) := by
  unfold State.addSlip
  repeat' (first | with_reducible assumption | intro _ _ _ | intro _ | with_reducible apply State.updPart_data | split | ((with_reducible conv => arg 2; whnf); split) | with_reducible apply State.Data.mk_)

theorem doStart_data (b0 : State) (die idx : Nat) (s : State) (h0 : b0.Data s) : b0.Data (doStart die idx s) := by
  unfold doStart
  repeat' (first | with_reducible assumption | intro _ _ _ | intro _ | with_reducible apply State.toCyc_data | with_reducible apply State.count_data | with_reducible apply State.raiseCmd_data | with_reducible apply State.addSlip_data | with_reducible apply State.updDie_data | with_reducible apply State.expo_data | with_reducible apply State.commit_data | with_reducible apply State.Data.ite | with_reducible apply State.Data.ite2 | with_reducible apply State.Data.ite22 | with_reducible apply State.Data.ite222 | with_reducible apply State.Data.ite1 | with_reducible apply State.Data.ite21 | split | ((with_reducible conv => arg 2; whnf); split) | ((with_reducible conv => arg 2; arg 1; whnf); split) | ((with_reducible conv => arg 2; arg 1; arg 1; whnf); split) | with_reducible refine State.Data.eq2 (by with_reducible assumption) ?_ | with_reducible refine State.Data.eq22 (by with_reducible assumption) ?_ | with_reducible refine State.Data.eq222 (by with_reducible assumption) ?_ | with_reducible refine State.Data.eq1 (by with_reducible assumption) ?_ | with_reducible apply State.Data.mk_)

theorem execCommandStart_data (b0 : State) (die : Fin 4) (idx : Nat) (s : State) (h0 : b0.Data s) : b0.DataOut (execCommandStart die idx s) := by
  unfold execCommandStart
  repeat' (first | with_reducible assumption | with_reducible apply doStart_data | with_reducible apply State.Data.next | intro _)

theorem State.latchFault_data (b0 : State) (s : State) (die code idx f : Nat) (h0 : b0.Data s) : b0.Data (State.latchFault s die code idx f) := by
  unfold State.latchFault
  repeat' (first | with_reducible assumption | intro _ _ _ | intro _ | with_reducible apply State.setFs_data | with_reducible apply State.updDie_data | with_reducible apply State.Data.ite | with_reducible apply State.Data.ite2 | with_reducible apply State.Data.ite22 | with_reducible apply State.Data.ite222 | with_reducible apply State.Data.ite1 | with_reducible apply State.Data.ite21 | split | ((with_reducible conv => arg 2; whnf); split) | ((with_reducible conv => arg 2; arg 1; whnf); split) | ((with_reducible conv => arg 2; arg 1; arg 1; whnf); split) | with_reducible apply State.Data.mk_)

theorem State.failFrame_data (b0 : State) (s : State) (p die f : Nat) (h0 : b0.Data s) : b0.Data (State.failFrame s p die f) := by
  unfold State.failFrame
  repeat' (first | with_reducible assumption | intro _ _ _ | intro _ | with_reducible apply State.updPart_data | with_reducible apply State.setFrameState_data | with_reducible apply State.setF_data | with_reducible apply State.raiseP_data | with_reducible apply State.Data.ite | with_reducible apply State.Data.ite2 | with_reducible apply State.Data.ite22 | with_reducible apply State.Data.ite222 | with_reducible apply State.Data.ite1 | with_reducible apply State.Data.ite21 | with_reducible apply State.Data.foldl | with_reducible apply State.Data.foldl2 | with_reducible apply State.Data.foldl22 | with_reducible apply State.Data.foldl222 | with_reducible apply State.Data.foldl1 | split | ((with_reducible conv => arg 2; whnf); split) | ((with_reducible conv => arg 2; arg 1; whnf); split) | ((with_reducible conv => arg 2; arg 1; arg 1; whnf); split) | with_reducible apply State.Data.mk_)

theorem State.faultCmd_data (b0 : State) (s : State) (cls die idx code f : Nat) (h0 : b0.Data s) : b0.Data (State.faultCmd s cls die idx code f) := by
  unfold State.faultCmd
  repeat' (first | with_reducible assumption | intro _ _ _ | intro _ | with_reducible apply State.latchFault_data | with_reducible apply State.raiseCmd_data | with_reducible apply State.count_data | with_reducible apply State.expo_data | with_reducible apply State.updRun_data | with_reducible apply State.failFrame_data | with_reducible apply State.Data.ite | with_reducible apply State.Data.ite2 | with_reducible apply State.Data.ite22 | with_reducible apply State.Data.ite222 | with_reducible apply State.Data.ite1 | with_reducible apply State.Data.ite21 | split | ((with_reducible conv => arg 2; whnf); split) | ((with_reducible conv => arg 2; arg 1; whnf); split) | ((with_reducible conv => arg 2; arg 1; arg 1; whnf); split) | with_reducible apply State.Data.mk_)

theorem State.planBits_data (b0 : State) (s : State) (die : Nat) (h0 : b0.Data s) : b0.Data (State.planBits s die) := by
  unfold State.planBits
  repeat' (first | with_reducible assumption | intro _ _ _ | intro _ | with_reducible apply State.setFs_data | with_reducible apply State.Data.foldl | with_reducible apply State.Data.foldl2 | with_reducible apply State.Data.foldl22 | with_reducible apply State.Data.foldl222 | with_reducible apply State.Data.foldl1 | split | ((with_reducible conv => arg 2; whnf); split) | ((with_reducible conv => arg 2; arg 1; whnf); split) | ((with_reducible conv => arg 2; arg 1; arg 1; whnf); split) | with_reducible apply State.Data.mk_)

theorem State.loadStatus_data (b0 : State) (s : State) (die b : Nat) (e : LoadErr) (h0 : b0.Data s) : b0.Data (State.loadStatus s die b e) := by
  unfold State.loadStatus
  repeat' (first | with_reducible assumption | intro _ _ _ | intro _ | with_reducible apply State.hwSets_data | with_reducible apply State.Data.mk_)

theorem State.installBank_data (b0 : State) (s : State) (die b : Nat) (r : Option Bank × LoadErr) (h0 : b0.Data s) : b0.Data (State.installBank s die b r) := by
  unfold State.installBank
  repeat' (first | with_reducible assumption | intro _ _ _ | intro _ | with_reducible apply State.setBank_data | with_reducible apply State.setF_data | with_reducible apply State.loadStatus_data | with_reducible apply State.planBits_data | with_reducible apply State.dropBank_data | with_reducible apply State.raiseC_data | with_reducible apply State.Data.ite | with_reducible apply State.Data.ite2 | with_reducible apply State.Data.ite22 | with_reducible apply State.Data.ite222 | with_reducible apply State.Data.ite1 | with_reducible apply State.Data.ite21 | split | ((with_reducible conv => arg 2; whnf); split) | ((with_reducible conv => arg 2; arg 1; whnf); split) | ((with_reducible conv => arg 2; arg 1; arg 1; whnf); split) | with_reducible refine State.Data.eq2 (by with_reducible assumption) ?_ | with_reducible refine State.Data.eq22 (by with_reducible assumption) ?_ | with_reducible refine State.Data.eq222 (by with_reducible assumption) ?_ | with_reducible refine State.Data.eq1 (by with_reducible assumption) ?_ | with_reducible apply State.Data.mk_)

theorem State.qloadEnd_data (b0 : State) (s : State) (die : Nat) (h0 : b0.Data s) : b0.Data (State.qloadEnd s die) := by
  unfold State.qloadEnd
  repeat' (first | with_reducible assumption | intro _ _ _ | intro _ | with_reducible apply State.updDie_data | with_reducible apply State.installBank_data | with_reducible apply State.setF_data | with_reducible apply State.Data.ite | with_reducible apply State.Data.ite2 | with_reducible apply State.Data.ite22 | with_reducible apply State.Data.ite222 | with_reducible apply State.Data.ite1 | with_reducible apply State.Data.ite21 | split | ((with_reducible conv => arg 2; whnf); split) | ((with_reducible conv => arg 2; arg 1; whnf); split) | ((with_reducible conv => arg 2; arg 1; arg 1; whnf); split) | with_reducible refine State.Data.eq2 (by with_reducible assumption) ?_ | with_reducible refine State.Data.eq22 (by with_reducible assumption) ?_ | with_reducible refine State.Data.eq222 (by with_reducible assumption) ?_ | with_reducible refine State.Data.eq1 (by with_reducible assumption) ?_ | with_reducible apply State.Data.mk_)

theorem State.orStatus_data (b0 : State) (s : State) (die : Nat) (c : Cmd) (entry : Nat) (h0 : b0.Data s) : b0.Data (State.orStatus s die c entry) := by
  unfold State.orStatus
  repeat' (first | with_reducible assumption | intro _ _ _ | intro _ | with_reducible apply State.hwSet_data | with_reducible apply State.count_data | with_reducible apply State.Data.ite | with_reducible apply State.Data.ite2 | with_reducible apply State.Data.ite22 | with_reducible apply State.Data.ite222 | with_reducible apply State.Data.ite1 | with_reducible apply State.Data.ite21 | with_reducible apply State.Data.foldl | with_reducible apply State.Data.foldl2 | with_reducible apply State.Data.foldl22 | with_reducible apply State.Data.foldl222 | with_reducible apply State.Data.foldl1 | split | ((with_reducible conv => arg 2; whnf); split) | ((with_reducible conv => arg 2; arg 1; whnf); split) | ((with_reducible conv => arg 2; arg 1; arg 1; whnf); split) | with_reducible apply State.Data.mk_)

theorem doComplete_data (b0 : State) (die idx cyc : Nat) (s : State) (h0 : b0.Data s) : b0.Data (doComplete die idx cyc s) := by
  unfold doComplete
  repeat' (first | with_reducible assumption | intro _ _ _ | intro _ | with_reducible apply State.toCyc_data | with_reducible apply State.qloadEnd_data | with_reducible apply State.updDie_data | with_reducible apply State.count_data | with_reducible apply State.expo_data | with_reducible apply State.orStatus_data | with_reducible apply State.Data.ite | with_reducible apply State.Data.ite2 | with_reducible apply State.Data.ite22 | with_reducible apply State.Data.ite222 | with_reducible apply State.Data.ite1 | with_reducible apply State.Data.ite21 | split | ((with_reducible conv => arg 2; whnf); split) | ((with_reducible conv => arg 2; arg 1; whnf); split) | ((with_reducible conv => arg 2; arg 1; arg 1; whnf); split) | with_reducible refine State.Data.eq2 (by with_reducible assumption) ?_ | with_reducible refine State.Data.eq22 (by with_reducible assumption) ?_ | with_reducible refine State.Data.eq222 (by with_reducible assumption) ?_ | with_reducible refine State.Data.eq1 (by with_reducible assumption) ?_ | with_reducible apply State.Data.mk_)

theorem execCommandComplete_data (b0 : State) (die : Fin 4) (idx cyc : Nat) (s : State) (h0 : b0.Data s) : b0.DataOut (execCommandComplete die idx cyc s) := by
  unfold execCommandComplete
  repeat' (first | with_reducible assumption | with_reducible apply doComplete_data | with_reducible apply State.Data.next | intro _)

theorem State.perform_data (b0 : State) (s : State) (die idx : Nat) (doneAt : Option Nat) (entry : Nat) (h0 : b0.Data s) : b0.Data (State.perform s die idx doneAt entry) := by
  unfold State.perform
  repeat' (first | with_reducible assumption | intro _ _ _ | intro _ | with_reducible apply State.updRun_data | split | ((with_reducible conv => arg 2; whnf); split) | with_reducible apply State.Data.mk_)

theorem doNop_data (b0 : State) (die idx : Nat) (s : State) (h0 : b0.Data s) : b0.Data (doNop die idx s) := by
  unfold doNop
  repeat' (first | with_reducible assumption | with_reducible apply State.perform_data | split | ((with_reducible conv => arg 2; whnf); split) | with_reducible refine State.Data.eq2 (by with_reducible assumption) ?_ | with_reducible refine State.Data.eq22 (by with_reducible assumption) ?_ | with_reducible refine State.Data.eq222 (by with_reducible assumption) ?_ | with_reducible refine State.Data.eq1 (by with_reducible assumption) ?_ | intro _)

theorem execNop_data (b0 : State) (die : Fin 4) (idx : Nat) (s : State) (h0 : b0.Data s) : b0.DataOut (execNop die idx s) := by
  unfold execNop
  repeat' (first | with_reducible assumption | with_reducible apply doNop_data | with_reducible apply State.Data.next | intro _)

theorem doFence_data (b0 : State) (die idx : Nat) (s : State) (h0 : b0.Data s) : b0.Data (doFence die idx s) := by
  unfold doFence
  repeat' (first | with_reducible assumption | intro _ _ _ | intro _ | with_reducible apply State.perform_data | with_reducible apply State.Data.foldl | with_reducible apply State.Data.foldl2 | with_reducible apply State.Data.foldl22 | with_reducible apply State.Data.foldl222 | with_reducible apply State.Data.foldl1 | split | ((with_reducible conv => arg 2; whnf); split) | with_reducible refine State.Data.eq2 (by with_reducible assumption) ?_ | with_reducible refine State.Data.eq22 (by with_reducible assumption) ?_ | with_reducible refine State.Data.eq222 (by with_reducible assumption) ?_ | with_reducible refine State.Data.eq1 (by with_reducible assumption) ?_)

theorem execFence_data (b0 : State) (die : Fin 4) (idx : Nat) (s : State) (h0 : b0.Data s) : b0.DataOut (execFence die idx s) := by
  unfold execFence
  repeat' (first | with_reducible assumption | with_reducible apply doFence_data | with_reducible apply State.Data.next | intro _)

theorem State.takeSignal_data (b0 : State) (s : State) (t cmd ctr inc c : Nat) (h0 : b0.Data s) : b0.Data (State.takeSignal s t cmd ctr inc c) := by
  unfold State.takeSignal
  repeat' (first | with_reducible assumption | intro _ _ _ | intro _ | with_reducible apply State.updDie_data | with_reducible apply State.count_data | with_reducible apply State.expo_data | with_reducible apply State.raise_data | with_reducible apply State.Data.ite | with_reducible apply State.Data.ite2 | with_reducible apply State.Data.ite22 | with_reducible apply State.Data.ite222 | with_reducible apply State.Data.ite1 | with_reducible apply State.Data.ite21 | with_reducible apply State.Data.foldl | with_reducible apply State.Data.foldl2 | with_reducible apply State.Data.foldl22 | with_reducible apply State.Data.foldl222 | with_reducible apply State.Data.foldl1 | split | ((with_reducible conv => arg 2; whnf); split) | ((with_reducible conv => arg 2; arg 1; whnf); split) | ((with_reducible conv => arg 2; arg 1; arg 1; whnf); split) | with_reducible apply State.Data.mk_)

theorem doSignal_data (b0 : State) (die idx : Nat) (s : State) (h0 : b0.Data s) : b0.Data (doSignal die idx s) := by
  unfold doSignal
  repeat' (first | with_reducible assumption | intro _ _ _ | intro _ | with_reducible apply State.takeSignal_data | with_reducible apply State.count_data | with_reducible apply State.perform_data | with_reducible apply State.Data.foldl | with_reducible apply State.Data.foldl2 | with_reducible apply State.Data.foldl22 | with_reducible apply State.Data.foldl222 | with_reducible apply State.Data.foldl1 | split | ((with_reducible conv => arg 2; whnf); split) | ((with_reducible conv => arg 2; arg 1; whnf); split) | ((with_reducible conv => arg 2; arg 1; arg 1; whnf); split) | with_reducible refine State.Data.eq2 (by with_reducible assumption) ?_ | with_reducible refine State.Data.eq22 (by with_reducible assumption) ?_ | with_reducible refine State.Data.eq222 (by with_reducible assumption) ?_ | with_reducible refine State.Data.eq1 (by with_reducible assumption) ?_ | with_reducible apply State.Data.mk_)

theorem execSignal_data (b0 : State) (die : Fin 4) (idx : Nat) (s : State) (h0 : b0.Data s) : b0.DataOut (execSignal die idx s) := by
  unfold execSignal
  repeat' (first | with_reducible assumption | with_reducible apply doSignal_data | with_reducible apply State.Data.next | intro _)

theorem doQswitch_data (b0 : State) (die idx : Nat) (s : State) (h0 : b0.Data s) : b0.Data (doQswitch die idx s) := by
  unfold doQswitch
  repeat' (first | with_reducible assumption | with_reducible apply State.setF_data | with_reducible apply State.raiseCmd_data | with_reducible apply State.perform_data | with_reducible apply State.Data.ite | split | ((with_reducible conv => arg 2; whnf); split) | with_reducible refine State.Data.eq2 (by with_reducible assumption) ?_ | with_reducible refine State.Data.eq22 (by with_reducible assumption) ?_ | with_reducible refine State.Data.eq222 (by with_reducible assumption) ?_ | with_reducible refine State.Data.eq1 (by with_reducible assumption) ?_ | intro _)

theorem execQswitch_data (b0 : State) (die : Fin 4) (idx : Nat) (s : State) (h0 : b0.Data s) : b0.DataOut (execQswitch die idx s) := by
  unfold execQswitch
  repeat' (first | with_reducible assumption | with_reducible apply doQswitch_data | with_reducible apply State.Data.next | intro _)

theorem State.sendDep_data (b0 : State) (s : State) (p kind num cyc status node : Nat) (h0 : b0.Data s) : b0.Data (State.sendDep s p kind num cyc status node) := by
  unfold State.sendDep
  repeat' (first | with_reducible assumption | intro _ _ _ | intro _ | with_reducible apply State.updPart_data | split | ((with_reducible conv => arg 2; whnf); split) | with_reducible apply State.Data.mk_)

theorem doDependencyEvent_data (b0 : State) (p : Nat) (s : State) (h0 : b0.Data s) : b0.Data (doDependencyEvent p s) := by
  unfold doDependencyEvent
  repeat' (first | with_reducible assumption | intro _ _ _ | intro _ | with_reducible apply State.toCyc_data | with_reducible apply State.updPart_data | with_reducible apply State.expo_data | with_reducible apply State.latchFault_data | with_reducible apply State.failFrame_data | with_reducible apply State.raise_data | with_reducible apply State.Data.ite | with_reducible apply State.Data.ite2 | with_reducible apply State.Data.ite22 | with_reducible apply State.Data.ite222 | with_reducible apply State.Data.ite1 | with_reducible apply State.Data.ite21 | with_reducible apply State.Data.foldl | with_reducible apply State.Data.foldl2 | with_reducible apply State.Data.foldl22 | with_reducible apply State.Data.foldl222 | with_reducible apply State.Data.foldl1 | split | ((with_reducible conv => arg 2; whnf); split) | ((with_reducible conv => arg 2; arg 1; whnf); split) | ((with_reducible conv => arg 2; arg 1; arg 1; whnf); split) | with_reducible refine State.Data.eq2 (by with_reducible assumption) ?_ | with_reducible refine State.Data.eq22 (by with_reducible assumption) ?_ | with_reducible refine State.Data.eq222 (by with_reducible assumption) ?_ | with_reducible refine State.Data.eq1 (by with_reducible assumption) ?_ | with_reducible apply State.Data.mk_)

theorem execDependencyEvent_data (b0 : State) (p : Fin 4) (s : State) (h0 : b0.Data s) : b0.DataOut (execDependencyEvent p s) := by
  unfold execDependencyEvent
  repeat' (first | with_reducible assumption | with_reducible apply doDependencyEvent_data | with_reducible apply State.Data.next | intro _)

end Sys2Proof.Machine
end

