-- ==== Sys2Proof/Laws/DataSpm.lean ====
section
/-! SUPPORT. Operations of Machine/Spm.lean that leave all stored data alone. -/
namespace Sys2Proof.Machine

set_option linter.all false
set_option Elab.async false

theorem State.spmRequest_data (b0 : State) (s : State) (die port tag cyc : Nat) (wr : Bool) (off n : Nat) (h0 : b0.Data s) : b0.Data (State.spmRequest s die port tag cyc wr off n).2 := by
  unfold State.spmRequest
  repeat' (first | with_reducible assumption | intro _ _ _ | intro _ | with_reducible apply State.updDie_data | with_reducible apply State.count_data | with_reducible apply State.hwSet_data | with_reducible apply State.Data.ite | with_reducible apply State.Data.ite2 | with_reducible apply State.Data.ite22 | with_reducible apply State.Data.ite222 | with_reducible apply State.Data.ite1 | with_reducible apply State.Data.ite21 | split | ((with_reducible conv => arg 2; whnf); split) | ((with_reducible conv => arg 2; arg 1; whnf); split) | ((with_reducible conv => arg 2; arg 1; arg 1; whnf); split) | with_reducible apply State.Data.pair2 | with_reducible apply State.Data.pair22 | with_reducible apply State.Data.pair222 | with_reducible apply State.Data.mk_)

theorem State.bankCorrected_data (b0 : State) (s : State) (die b : Nat) (h0 : b0.Data s) : b0.Data (State.bankCorrected s die b) := by
  unfold State.bankCorrected
  repeat' (first | with_reducible assumption | intro _ _ _ | intro _ | with_reducible apply State.updDie_data | with_reducible apply State.needSpare_data | with_reducible apply State.Data.ite | split | ((with_reducible conv => arg 2; whnf); split) | with_reducible apply State.Data.mk_)

theorem State.spmCorrect_data (b0 : State) (s : State) (die off n : Nat) (h0 : b0.Data s) : b0.Data (State.spmCorrect s die off n) := by
  unfold State.spmCorrect
  repeat' (first | with_reducible assumption | intro _ _ _ | intro _ | with_reducible apply State.correct_data | with_reducible apply State.bankCorrected_data | with_reducible apply State.satF_data | with_reducible apply State.count_data | with_reducible apply State.Data.ite | with_reducible apply State.Data.ite2 | with_reducible apply State.Data.ite22 | with_reducible apply State.Data.ite222 | with_reducible apply State.Data.ite1 | with_reducible apply State.Data.ite21 | with_reducible apply State.Data.foldl | with_reducible apply State.Data.foldl2 | with_reducible apply State.Data.foldl22 | with_reducible apply State.Data.foldl222 | with_reducible apply State.Data.foldl1 | split | ((with_reducible conv => arg 2; whnf); split) | ((with_reducible conv => arg 2; arg 1; whnf); split) | ((with_reducible conv => arg 2; arg 1; arg 1; whnf); split))

theorem State.spmRead_data (b0 : State) (s : State) (die port tag cyc off n : Nat) (h0 : b0.Data s) : b0.Data (State.spmRead s die port tag cyc off n).2 := by
  unfold State.spmRead
  repeat' (first | with_reducible assumption | with_reducible apply State.spmRequest_data | with_reducible apply State.spmCorrect_data | intro _)

theorem State.noteDouble_data (b0 : State) (s : State) (die : Nat) (l : List (Nat × Nat)) (h0 : b0.Data s) : b0.Data (State.noteDouble s die l) := by
  unfold State.noteDouble
  repeat' (first | with_reducible assumption | intro _ _ _ | intro _ | with_reducible apply State.needSpare_data | split | ((with_reducible conv => arg 2; whnf); split) | ((with_reducible conv => arg 2; arg 1; whnf); split) | ((with_reducible conv => arg 2; arg 1; arg 1; whnf); split) | with_reducible refine State.Data.eq2 (by with_reducible assumption) ?_ | with_reducible refine State.Data.eq22 (by with_reducible assumption) ?_ | with_reducible refine State.Data.eq222 (by with_reducible assumption) ?_ | with_reducible refine State.Data.eq1 (by with_reducible assumption) ?_)

theorem State.noteSpm_data (b0 : State) (s : State) (die code : Nat) (h0 : b0.Data s) : b0.Data (State.noteSpm s die code) := by
  unfold State.noteSpm
  repeat' (first | with_reducible assumption | intro _ _ _ | intro _ | with_reducible apply State.hwSet_data | with_reducible apply State.Data.ite | with_reducible apply State.Data.ite2 | with_reducible apply State.Data.ite22 | with_reducible apply State.Data.ite222 | with_reducible apply State.Data.ite1 | with_reducible apply State.Data.ite21 | split | ((with_reducible conv => arg 2; whnf); split) | ((with_reducible conv => arg 2; arg 1; whnf); split) | ((with_reducible conv => arg 2; arg 1; arg 1; whnf); split) | with_reducible apply State.Data.mk_)

theorem State.faultUnit_data (b0 : State) (s : State) (cls die idx code f : Nat) (h0 : b0.Data s) : b0.Data (State.faultUnit s cls die idx code f) := by
  unfold State.faultUnit
  repeat' (first | with_reducible assumption | with_reducible apply State.noteSpm_data | with_reducible apply State.faultCmd_data | intro _)

end Sys2Proof.Machine
end

