-- ==== Sys2Proof/Laws/DataTiers.lean ====
section
/-! SUPPORT. Operations of Machine/Tiers.lean that leave all stored data alone. -/
namespace Sys2Proof.Machine

set_option linter.all false
set_option Elab.async false

theorem State.countHbm_data (b0 : State) (s : State) (die l x n : Nat) (h0 : b0.Data s) : b0.Data (State.countHbm s die l x n) := by
  unfold State.countHbm
  repeat' (first | with_reducible assumption | with_reducible apply State.count_data | split | ((with_reducible conv => arg 2; whnf); split) | with_reducible refine State.Data.eq2 (by with_reducible assumption) ?_ | with_reducible refine State.Data.eq22 (by with_reducible assumption) ?_ | with_reducible refine State.Data.eq222 (by with_reducible assumption) ?_ | with_reducible refine State.Data.eq1 (by with_reducible assumption) ?_ | intro _)

theorem State.takeSlot_data (b0 : State) (s : State) (die req pc t : Nat) (h0 : b0.Data s) : b0.Data (State.takeSlot s die req pc t).2 := by
  unfold State.takeSlot
  repeat' (first | with_reducible assumption | intro _ _ _ | intro _ | with_reducible apply State.updDie_data | with_reducible apply State.count_data | with_reducible apply State.Data.ite | with_reducible apply State.Data.ite2 | with_reducible apply State.Data.ite22 | with_reducible apply State.Data.ite222 | with_reducible apply State.Data.ite1 | with_reducible apply State.Data.ite21 | split | ((with_reducible conv => arg 2; whnf); split) | ((with_reducible conv => arg 2; arg 1; whnf); split) | ((with_reducible conv => arg 2; arg 1; arg 1; whnf); split) | with_reducible refine State.Data.eq2 (by with_reducible assumption) ?_ | with_reducible refine State.Data.eq22 (by with_reducible assumption) ?_ | with_reducible refine State.Data.eq222 (by with_reducible assumption) ?_ | with_reducible refine State.Data.eq1 (by with_reducible assumption) ?_ | with_reducible apply State.Data.pair2 | with_reducible apply State.Data.pair22 | with_reducible apply State.Data.pair222 | with_reducible apply State.Data.mk_)

theorem State.noteRetry_data (b0 : State) (s : State) (die m idx cost det : Nat) (h0 : b0.Data s) : b0.Data (State.noteRetry s die m idx cost det) := by
  unfold State.noteRetry
  repeat' (first | with_reducible assumption | intro _ _ _ | intro _ | with_reducible apply State.raiseCmd_data | with_reducible apply State.expo_data | with_reducible apply State.satF_data | with_reducible apply State.hwSet_data | with_reducible apply State.count_data | with_reducible apply State.updPart_data | with_reducible apply State.updRun_data | split | ((with_reducible conv => arg 2; whnf); split) | ((with_reducible conv => arg 2; arg 1; whnf); split) | ((with_reducible conv => arg 2; arg 1; arg 1; whnf); split) | with_reducible apply State.Data.mk_)

theorem State.retry_data (b0 : State) (s : State) (req cost det : Nat) (h0 : b0.Data s) : b0.Data (State.retry s req cost det) := by
  unfold State.retry
  repeat' (first | with_reducible assumption | intro _ _ _ | intro _ | with_reducible apply State.noteRetry_data | with_reducible apply State.raise_data | with_reducible apply State.updPart_data | with_reducible apply State.hwSet_data | with_reducible apply State.count_data | with_reducible apply State.Data.ite | with_reducible apply State.Data.ite2 | with_reducible apply State.Data.ite22 | with_reducible apply State.Data.ite222 | with_reducible apply State.Data.ite1 | with_reducible apply State.Data.ite21 | split | ((with_reducible conv => arg 2; whnf); split) | ((with_reducible conv => arg 2; arg 1; whnf); split) | ((with_reducible conv => arg 2; arg 1; arg 1; whnf); split) | with_reducible refine State.Data.eq2 (by with_reducible assumption) ?_ | with_reducible refine State.Data.eq22 (by with_reducible assumption) ?_ | with_reducible refine State.Data.eq222 (by with_reducible assumption) ?_ | with_reducible refine State.Data.eq1 (by with_reducible assumption) ?_ | with_reducible apply State.Data.mk_)

theorem State.flitFails_data (b0 : State) (s : State) (k : FailKind) (req x y : Nat) (h0 : b0.Data s) : b0.Data (s.flitFails k req x y).2 := by
  unfold State.flitFails
  split
  · exact h0
  · exact State.Data.mk_ h0

theorem State.readFails_data (b0 : State) (s : State) (k : FailKind) (req a : Nat) (h0 : b0.Data s) : b0.Data (s.readFails k req a).2 := by
  unfold State.readFails
  split
  · exact h0
  · split
    · exact State.Data.mk_ h0
    · exact State.Data.mk_ h0

theorem State.serveHit_data (b0 : State) (s : State) (die req t : Nat) (h0 : b0.Data s) : b0.Data (State.serveHit s die req t).2 := by
  unfold State.serveHit
  repeat' (first | with_reducible assumption | intro _ _ _ | intro _ | with_reducible apply State.updDie_data | with_reducible apply State.Data.ite | with_reducible apply State.Data.ite2 | with_reducible apply State.Data.ite22 | with_reducible apply State.Data.ite222 | with_reducible apply State.Data.ite1 | with_reducible apply State.Data.ite21 | split | ((with_reducible conv => arg 2; whnf); split) | ((with_reducible conv => arg 2; arg 1; whnf); split) | ((with_reducible conv => arg 2; arg 1; arg 1; whnf); split) | with_reducible apply State.Data.mk_)

theorem State.cacheHit_data (b0 : State) (s : State) (die req l t : Nat) (u : CacheUnit) (uses : Nat) (h0 : b0.Data s) : b0.Data (State.cacheHit s die req l t u uses).2 := by
  unfold State.cacheHit
  repeat' (first | with_reducible assumption | intro _ _ _ | intro _ | with_reducible apply State.serveHit_data | with_reducible apply State.countHbm_data | with_reducible apply State.satF_data | with_reducible apply State.updDie_data | with_reducible apply State.Data.ite | with_reducible apply State.Data.ite2 | with_reducible apply State.Data.ite22 | with_reducible apply State.Data.ite222 | with_reducible apply State.Data.ite1 | with_reducible apply State.Data.ite21 | split | ((with_reducible conv => arg 2; whnf); split) | ((with_reducible conv => arg 2; arg 1; whnf); split) | ((with_reducible conv => arg 2; arg 1; arg 1; whnf); split) | with_reducible refine State.Data.eq2 (by with_reducible assumption) ?_ | with_reducible refine State.Data.eq22 (by with_reducible assumption) ?_ | with_reducible refine State.Data.eq222 (by with_reducible assumption) ?_ | with_reducible refine State.Data.eq1 (by with_reducible assumption) ?_ | with_reducible apply State.Data.mk_)

theorem State.cacheAlloc_data (b0 : State) (s : State) (die req l o c : Nat) (hint : Option (Nat × Nat)) (h0 : b0.Data s) : b0.Data (State.cacheAlloc s die req l o c hint) := by
  unfold State.cacheAlloc
  repeat' (first | with_reducible assumption | intro _ _ _ | intro _ | with_reducible apply State.countHbm_data | with_reducible apply State.satF_data | with_reducible apply State.updDie_data | with_reducible apply State.Data.ite | with_reducible apply State.Data.ite2 | with_reducible apply State.Data.ite22 | with_reducible apply State.Data.ite222 | with_reducible apply State.Data.ite1 | with_reducible apply State.Data.ite21 | split | ((with_reducible conv => arg 2; whnf); split) | ((with_reducible conv => arg 2; arg 1; whnf); split) | ((with_reducible conv => arg 2; arg 1; arg 1; whnf); split) | with_reducible refine State.Data.eq2 (by with_reducible assumption) ?_ | with_reducible refine State.Data.eq22 (by with_reducible assumption) ?_ | with_reducible refine State.Data.eq222 (by with_reducible assumption) ?_ | with_reducible refine State.Data.eq1 (by with_reducible assumption) ?_ | with_reducible apply State.Data.mk_)

theorem State.hbmCorrected_data (b0 : State) (s : State) (die l n : Nat) (h0 : b0.Data s) : b0.Data (State.hbmCorrected s die l n) := by
  unfold State.hbmCorrected
  repeat' (first | with_reducible assumption | intro _ _ _ | intro _ | with_reducible apply State.satF_data | with_reducible apply State.count_data | with_reducible apply State.updDie_data | with_reducible apply State.startBringIn_data | with_reducible apply State.Data.ite | with_reducible apply State.Data.ite2 | with_reducible apply State.Data.ite22 | with_reducible apply State.Data.ite222 | with_reducible apply State.Data.ite1 | with_reducible apply State.Data.ite21 | split | ((with_reducible conv => arg 2; whnf); split) | ((with_reducible conv => arg 2; arg 1; whnf); split) | ((with_reducible conv => arg 2; arg 1; arg 1; whnf); split) | with_reducible refine State.Data.eq2 (by with_reducible assumption) ?_ | with_reducible refine State.Data.eq22 (by with_reducible assumption) ?_ | with_reducible refine State.Data.eq222 (by with_reducible assumption) ?_ | with_reducible refine State.Data.eq1 (by with_reducible assumption) ?_ | with_reducible apply State.Data.mk_)

theorem State.rereadNote_data (b0 : State) (s : State) (die l cost : Nat) (h0 : b0.Data s) : b0.Data (State.rereadNote s die l cost) := by
  unfold State.rereadNote
  repeat' (first | with_reducible assumption | intro _ _ _ | intro _ | with_reducible apply State.hwSet_data | with_reducible apply State.count_data | with_reducible apply State.raise_data | with_reducible apply State.expo_data | with_reducible apply State.updPart_data | with_reducible apply State.updDie_data | with_reducible apply State.startBringIn_data | with_reducible apply State.Data.ite | with_reducible apply State.Data.ite2 | with_reducible apply State.Data.ite22 | with_reducible apply State.Data.ite222 | with_reducible apply State.Data.ite1 | with_reducible apply State.Data.ite21 | split | ((with_reducible conv => arg 2; whnf); split) | ((with_reducible conv => arg 2; arg 1; whnf); split) | ((with_reducible conv => arg 2; arg 1; arg 1; whnf); split) | with_reducible refine State.Data.eq2 (by with_reducible assumption) ?_ | with_reducible refine State.Data.eq22 (by with_reducible assumption) ?_ | with_reducible refine State.Data.eq222 (by with_reducible assumption) ?_ | with_reducible refine State.Data.eq1 (by with_reducible assumption) ?_ | with_reducible apply State.Data.mk_)

theorem State.t1Lost_data (b0 : State) (s : State) (die l : Nat) (gone : Bool) (h0 : b0.Data s) : b0.Data (State.t1Lost s die l gone) := by
  unfold State.t1Lost
  repeat' (first | with_reducible assumption | intro _ _ _ | intro _ | with_reducible apply State.hwSet_data | with_reducible apply State.pcLost_data | with_reducible apply State.Data.ite | with_reducible apply State.Data.ite2 | with_reducible apply State.Data.ite22 | with_reducible apply State.Data.ite222 | with_reducible apply State.Data.ite1 | with_reducible apply State.Data.ite21 | split | ((with_reducible conv => arg 2; whnf); split) | ((with_reducible conv => arg 2; arg 1; whnf); split) | ((with_reducible conv => arg 2; arg 1; arg 1; whnf); split) | with_reducible refine State.Data.eq2 (by with_reducible assumption) ?_ | with_reducible refine State.Data.eq22 (by with_reducible assumption) ?_ | with_reducible refine State.Data.eq222 (by with_reducible assumption) ?_ | with_reducible refine State.Data.eq1 (by with_reducible assumption) ?_ | with_reducible apply State.Data.mk_)

theorem rereads_data (b0 : State) (die req l : Nat) (x0 : Nat) (x1 : Nat) (x2 : State) (h0 : b0.Data x2) : b0.Data (rereads die req l x0 x1 x2).2 := by
  induction x0 generalizing x1 x2 with
  | zero =>
    unfold rereads
    repeat' (first | with_reducible assumption | intro _ _ _ | intro _ | with_reducible apply State.takeSlot_data | with_reducible apply State.rereadNote_data | with_reducible apply State.retry_data | split | ((with_reducible conv => arg 2; whnf); split) | ((with_reducible conv => arg 2; arg 1; whnf); split) | ((with_reducible conv => arg 2; arg 1; arg 1; whnf); split) | with_reducible refine State.Data.eq2 (by with_reducible assumption) ?_ | with_reducible refine State.Data.eq22 (by with_reducible assumption) ?_ | with_reducible refine State.Data.eq222 (by with_reducible assumption) ?_ | with_reducible refine State.Data.eq1 (by with_reducible assumption) ?_ | with_reducible apply State.Data.pair2 | with_reducible apply State.Data.pair22 | with_reducible apply State.Data.pair222 | with_reducible apply State.Data.mk_)
  | succ k ih =>
    unfold rereads
    repeat' (first | with_reducible apply ih | with_reducible assumption | intro _ _ _ | intro _ | with_reducible apply State.takeSlot_data | with_reducible apply State.rereadNote_data | with_reducible apply State.retry_data | split | ((with_reducible conv => arg 2; whnf); split) | ((with_reducible conv => arg 2; arg 1; whnf); split) | ((with_reducible conv => arg 2; arg 1; arg 1; whnf); split) | with_reducible refine State.Data.eq2 (by with_reducible assumption) ?_ | with_reducible refine State.Data.eq22 (by with_reducible assumption) ?_ | with_reducible refine State.Data.eq222 (by with_reducible assumption) ?_ | with_reducible refine State.Data.eq1 (by with_reducible assumption) ?_ | with_reducible apply State.Data.pair2 | with_reducible apply State.Data.pair22 | with_reducible apply State.Data.pair222 | with_reducible apply State.Data.mk_)

theorem State.t1Check_data (b0 : State) (s : State) (die req l a n c : Nat) (h0 : b0.Data s) : b0.Data (State.t1Check s die req l a n c).2.2 := by
  unfold State.t1Check
  repeat' (first | with_reducible assumption | intro _ _ _ | intro _ | with_reducible apply State.t1Lost_data | with_reducible apply rereads_data | with_reducible apply State.readFails_data | with_reducible apply State.correct_data | with_reducible apply State.hbmCorrected_data | with_reducible apply State.Data.ite | with_reducible apply State.Data.ite2 | with_reducible apply State.Data.ite22 | with_reducible apply State.Data.ite222 | with_reducible apply State.Data.ite1 | with_reducible apply State.Data.ite21 | split | ((with_reducible conv => arg 2; whnf); split) | ((with_reducible conv => arg 2; arg 1; whnf); split) | ((with_reducible conv => arg 2; arg 1; arg 1; whnf); split) | with_reducible refine State.Data.eq2 (by with_reducible assumption) ?_ | with_reducible refine State.Data.eq22 (by with_reducible assumption) ?_ | with_reducible refine State.Data.eq222 (by with_reducible assumption) ?_ | with_reducible refine State.Data.eq1 (by with_reducible assumption) ?_ | with_reducible apply State.Data.pair2 | with_reducible apply State.Data.pair22 | with_reducible apply State.Data.pair222 | with_reducible apply State.Data.mk_)

theorem State.unitCheck_data (b0 : State) (s : State) (die req l a : Nat) (u : CacheUnit) (h0 : b0.Data s) : b0.Data (State.unitCheck s die req l a u).2 := by
  unfold State.unitCheck
  repeat' (first | with_reducible assumption | intro _ _ _ | intro _ | with_reducible apply State.readFails_data | with_reducible apply State.updDie_data | with_reducible apply State.retry_data | with_reducible apply State.Data.ite | with_reducible apply State.Data.ite2 | with_reducible apply State.Data.ite22 | with_reducible apply State.Data.ite222 | with_reducible apply State.Data.ite1 | with_reducible apply State.Data.ite21 | split | ((with_reducible conv => arg 2; whnf); split) | ((with_reducible conv => arg 2; arg 1; whnf); split) | ((with_reducible conv => arg 2; arg 1; arg 1; whnf); split) | with_reducible refine State.Data.eq2 (by with_reducible assumption) ?_ | with_reducible refine State.Data.eq22 (by with_reducible assumption) ?_ | with_reducible refine State.Data.eq222 (by with_reducible assumption) ?_ | with_reducible refine State.Data.eq1 (by with_reducible assumption) ?_ | with_reducible apply State.Data.pair2 | with_reducible apply State.Data.pair22 | with_reducible apply State.Data.pair222 | with_reducible apply State.Data.mk_)

theorem State.t1Miss_data (b0 : State) (s : State) (die req a n t : Nat) (hint : Option (Nat × Nat)) (h0 : b0.Data s) : b0.Data (State.t1Miss s die req a n t hint).2 := by
  unfold State.t1Miss
  repeat' (first | with_reducible assumption | intro _ _ _ | intro _ | with_reducible apply State.takeSlot_data | with_reducible apply State.countHbm_data | with_reducible apply State.t1Check_data | with_reducible apply State.cacheAlloc_data | with_reducible apply State.Data.ite | with_reducible apply State.Data.ite2 | with_reducible apply State.Data.ite22 | with_reducible apply State.Data.ite222 | with_reducible apply State.Data.ite1 | with_reducible apply State.Data.ite21 | split | ((with_reducible conv => arg 2; whnf); split) | ((with_reducible conv => arg 2; arg 1; whnf); split) | ((with_reducible conv => arg 2; arg 1; arg 1; whnf); split) | with_reducible refine State.Data.eq2 (by with_reducible assumption) ?_ | with_reducible refine State.Data.eq22 (by with_reducible assumption) ?_ | with_reducible refine State.Data.eq222 (by with_reducible assumption) ?_ | with_reducible refine State.Data.eq1 (by with_reducible assumption) ?_ | with_reducible apply State.Data.pair2 | with_reducible apply State.Data.pair22 | with_reducible apply State.Data.pair222 | with_reducible apply State.Data.mk_)

theorem State.t1Read_data (b0 : State) (s : State) (die req a n t : Nat) (h0 : b0.Data s) : b0.Data (State.t1Read s die req a n t).2 := by
  unfold State.t1Read
  repeat' (first | with_reducible assumption | intro _ _ _ | intro _ | with_reducible apply State.unitCheck_data | with_reducible apply State.cacheHit_data | with_reducible apply State.t1Miss_data | with_reducible apply State.Data.ite | with_reducible apply State.Data.ite2 | with_reducible apply State.Data.ite22 | with_reducible apply State.Data.ite222 | with_reducible apply State.Data.ite1 | with_reducible apply State.Data.ite21 | split | ((with_reducible conv => arg 2; whnf); split) | ((with_reducible conv => arg 2; arg 1; whnf); split) | ((with_reducible conv => arg 2; arg 1; arg 1; whnf); split) | with_reducible refine State.Data.eq2 (by with_reducible assumption) ?_ | with_reducible refine State.Data.eq22 (by with_reducible assumption) ?_ | with_reducible refine State.Data.eq222 (by with_reducible assumption) ?_ | with_reducible refine State.Data.eq1 (by with_reducible assumption) ?_ | with_reducible apply State.Data.pair2 | with_reducible apply State.Data.pair22 | with_reducible apply State.Data.pair222 | with_reducible apply State.Data.mk_)

theorem State.adderSlots_data (b0 : State) (s : State) (die req t : Nat) (us : List Nat) (h0 : b0.Data s) : b0.Data (State.adderSlots s die req t us).2 := by
  unfold State.adderSlots
  repeat' (first | with_reducible assumption | intro _ _ _ | intro _ | with_reducible apply State.takeSlot_data | with_reducible apply State.Data.ite | with_reducible apply State.Data.ite2 | with_reducible apply State.Data.ite22 | with_reducible apply State.Data.ite222 | with_reducible apply State.Data.ite1 | with_reducible apply State.Data.ite21 | with_reducible apply State.Data.foldl | with_reducible apply State.Data.foldl2 | with_reducible apply State.Data.foldl22 | with_reducible apply State.Data.foldl222 | with_reducible apply State.Data.foldl1 | split | ((with_reducible conv => arg 2; whnf); split) | ((with_reducible conv => arg 2; arg 1; whnf); split) | ((with_reducible conv => arg 2; arg 1; arg 1; whnf); split) | with_reducible refine State.Data.eq2 (by with_reducible assumption) ?_ | with_reducible refine State.Data.eq22 (by with_reducible assumption) ?_ | with_reducible refine State.Data.eq222 (by with_reducible assumption) ?_ | with_reducible refine State.Data.eq1 (by with_reducible assumption) ?_ | with_reducible apply State.Data.pair2 | with_reducible apply State.Data.pair22 | with_reducible apply State.Data.pair222 | with_reducible apply State.Data.mk_)

theorem State.adderRead_data (b0 : State) (s : State) (die req a n t : Nat) (h0 : b0.Data s) : b0.Data (State.adderRead s die req a n t).2 := by
  unfold State.adderRead
  repeat' (first | with_reducible assumption | intro _ _ _ | intro _ | with_reducible apply State.adderSlots_data | with_reducible apply State.t1Check_data | with_reducible apply State.Data.ite | with_reducible apply State.Data.ite2 | with_reducible apply State.Data.ite22 | with_reducible apply State.Data.ite222 | with_reducible apply State.Data.ite1 | with_reducible apply State.Data.ite21 | with_reducible apply State.Data.foldl | with_reducible apply State.Data.foldl2 | with_reducible apply State.Data.foldl22 | with_reducible apply State.Data.foldl222 | with_reducible apply State.Data.foldl1 | split | ((with_reducible conv => arg 2; whnf); split) | ((with_reducible conv => arg 2; arg 1; whnf); split) | ((with_reducible conv => arg 2; arg 1; arg 1; whnf); split) | with_reducible refine State.Data.eq2 (by with_reducible assumption) ?_ | with_reducible refine State.Data.eq22 (by with_reducible assumption) ?_ | with_reducible refine State.Data.eq222 (by with_reducible assumption) ?_ | with_reducible refine State.Data.eq1 (by with_reducible assumption) ?_ | with_reducible apply State.Data.pair2 | with_reducible apply State.Data.pair22 | with_reducible apply State.Data.pair222 | with_reducible apply State.Data.mk_)

theorem State.faultReq_data (b0 : State) (s : State) (req code : Nat) (h0 : b0.Data s) : b0.Data (State.faultReq s req code) := by
  unfold State.faultReq
  repeat' (first | with_reducible assumption | with_reducible apply State.faultUnit_data | with_reducible apply State.answer_data | split | ((with_reducible conv => arg 2; whnf); split) | with_reducible refine State.Data.eq2 (by with_reducible assumption) ?_ | with_reducible refine State.Data.eq22 (by with_reducible assumption) ?_ | with_reducible refine State.Data.eq222 (by with_reducible assumption) ?_ | with_reducible refine State.Data.eq1 (by with_reducible assumption) ?_ | intro _)

theorem doAdderRead_data (b0 : State) (req a n : Nat) (s : State) (h0 : b0.Data s) : b0.Data (doAdderRead req a n s) := by
  unfold doAdderRead
  repeat' (first | with_reducible assumption | intro _ _ _ | intro _ | with_reducible apply State.answer_data | with_reducible apply State.adderRead_data | with_reducible apply State.answerBytes_data | with_reducible apply State.faultReq_data | split | ((with_reducible conv => arg 2; whnf); split) | ((with_reducible conv => arg 2; arg 1; whnf); split) | ((with_reducible conv => arg 2; arg 1; arg 1; whnf); split) | with_reducible refine State.Data.eq2 (by with_reducible assumption) ?_ | with_reducible refine State.Data.eq22 (by with_reducible assumption) ?_ | with_reducible refine State.Data.eq222 (by with_reducible assumption) ?_ | with_reducible refine State.Data.eq1 (by with_reducible assumption) ?_ | with_reducible apply State.Data.mk_)

theorem execAdderRead_data (b0 : State) (req : Nat) (addr : Nat) (bytes : Nat) (s : State) (h0 : b0.Data s) : b0.DataOut (execAdderRead req addr bytes s) := by
  unfold execAdderRead
  repeat' (first | with_reducible assumption | with_reducible apply doAdderRead_data | with_reducible apply State.Data.next | intro _)

theorem doHbmScrub_data (b0 : State) (die stack pc ondie : Nat) (s : State) (h0 : b0.Data s) : b0.Data (doHbmScrub die stack pc ondie s) := by
  unfold doHbmScrub
  repeat' (first | with_reducible assumption | intro _ _ _ | intro _ | with_reducible apply State.correct_data | with_reducible apply State.hbmCorrected_data | with_reducible apply State.satF_data | with_reducible apply State.count_data | with_reducible apply State.updDie_data | with_reducible apply State.hwSet_data | with_reducible apply State.Data.ite | with_reducible apply State.Data.ite2 | with_reducible apply State.Data.ite22 | with_reducible apply State.Data.ite222 | with_reducible apply State.Data.ite1 | with_reducible apply State.Data.ite21 | split | ((with_reducible conv => arg 2; whnf); split) | ((with_reducible conv => arg 2; arg 1; whnf); split) | ((with_reducible conv => arg 2; arg 1; arg 1; whnf); split) | with_reducible refine State.Data.eq2 (by with_reducible assumption) ?_ | with_reducible refine State.Data.eq22 (by with_reducible assumption) ?_ | with_reducible refine State.Data.eq222 (by with_reducible assumption) ?_ | with_reducible refine State.Data.eq1 (by with_reducible assumption) ?_ | with_reducible apply State.Data.mk_)

theorem execHbmScrub_data (b0 : State) (die : Fin 4) (stack : Fin 3) (u : ScrubUnit) (s : State) (h0 : b0.Data s) : b0.DataOut (execHbmScrub die stack u s) := by
  unfold execHbmScrub
  repeat' (first | with_reducible assumption | intro _ _ _ | intro _ | with_reducible apply doHbmScrub_data | with_reducible apply State.Data.next | with_reducible apply State.Data.mk_)

theorem doHbmRefreshPoint_data (b0 : State) (die stack pc : Nat) (s : State) (h0 : b0.Data s) : b0.Data (doHbmRefreshPoint die stack pc s) := by
  unfold doHbmRefreshPoint
  repeat' (first | with_reducible assumption | intro _ _ _ | intro _ | with_reducible apply State.count_data | with_reducible apply State.Data.ite | with_reducible apply State.Data.ite2 | with_reducible apply State.Data.ite22 | with_reducible apply State.Data.ite222 | with_reducible apply State.Data.ite1 | with_reducible apply State.Data.ite21 | split | ((with_reducible conv => arg 2; whnf); split) | ((with_reducible conv => arg 2; arg 1; whnf); split) | ((with_reducible conv => arg 2; arg 1; arg 1; whnf); split) | with_reducible apply State.Data.mk_)

theorem execHbmRefreshPoint_data (b0 : State) (die : Fin 4) (stack : Fin 3) (pc : Fin 32) (s : State) (h0 : b0.Data s) : b0.DataOut (execHbmRefreshPoint die stack pc s) := by
  unfold execHbmRefreshPoint
  repeat' (first | with_reducible assumption | with_reducible apply doHbmRefreshPoint_data | with_reducible apply State.Data.next | intro _)

theorem State.takeLink_data (b0 : State) (s : State) (p x y req t : Nat) (h0 : b0.Data s) : b0.Data (State.takeLink s p x y req t).2 := by
  unfold State.takeLink
  repeat' (first | with_reducible assumption | intro _ _ _ | intro _ | with_reducible apply State.count_data | with_reducible apply State.updDie_data | with_reducible apply State.Data.ite | with_reducible apply State.Data.ite2 | with_reducible apply State.Data.ite22 | with_reducible apply State.Data.ite222 | with_reducible apply State.Data.ite1 | with_reducible apply State.Data.ite21 | split | ((with_reducible conv => arg 2; whnf); split) | ((with_reducible conv => arg 2; arg 1; whnf); split) | ((with_reducible conv => arg 2; arg 1; arg 1; whnf); split) | with_reducible refine State.Data.eq2 (by with_reducible assumption) ?_ | with_reducible refine State.Data.eq22 (by with_reducible assumption) ?_ | with_reducible refine State.Data.eq222 (by with_reducible assumption) ?_ | with_reducible refine State.Data.eq1 (by with_reducible assumption) ?_ | with_reducible apply State.Data.pair2 | with_reducible apply State.Data.pair22 | with_reducible apply State.Data.pair222 | with_reducible apply State.Data.mk_)

theorem State.linkReplay_data (b0 : State) (s : State) (x y req cost : Nat) (h0 : b0.Data s) : b0.Data (State.linkReplay s x y req cost) := by
  unfold State.linkReplay
  repeat' (first | with_reducible assumption | intro _ _ _ | intro _ | with_reducible apply State.satF_data | with_reducible apply State.count_data | with_reducible apply State.needSpare_data | with_reducible apply State.retry_data | with_reducible apply State.Data.ite | with_reducible apply State.Data.ite2 | with_reducible apply State.Data.ite22 | with_reducible apply State.Data.ite222 | with_reducible apply State.Data.ite1 | with_reducible apply State.Data.ite21 | split | ((with_reducible conv => arg 2; whnf); split) | ((with_reducible conv => arg 2; arg 1; whnf); split) | ((with_reducible conv => arg 2; arg 1; arg 1; whnf); split) | with_reducible apply State.Data.mk_)

theorem sendAgain_data (b0 : State) (p x y req : Nat) (x0 : Nat) (x1 : Nat) (x2 : State) (h0 : b0.Data x2) : b0.Data (sendAgain p x y req x0 x1 x2).2 := by
  induction x0 generalizing x1 x2 with
  | zero =>
    unfold sendAgain
    repeat' (first | with_reducible assumption | intro _ _ _ | intro _ | with_reducible apply State.flitFails_data | with_reducible apply State.takeLink_data | with_reducible apply State.linkReplay_data | split | ((with_reducible conv => arg 2; whnf); split) | ((with_reducible conv => arg 2; arg 1; whnf); split) | ((with_reducible conv => arg 2; arg 1; arg 1; whnf); split) | with_reducible refine State.Data.eq2 (by with_reducible assumption) ?_ | with_reducible refine State.Data.eq22 (by with_reducible assumption) ?_ | with_reducible refine State.Data.eq222 (by with_reducible assumption) ?_ | with_reducible refine State.Data.eq1 (by with_reducible assumption) ?_ | with_reducible apply State.Data.pair2 | with_reducible apply State.Data.pair22 | with_reducible apply State.Data.pair222 | with_reducible apply State.Data.mk_)
  | succ k ih =>
    unfold sendAgain
    repeat' (first | with_reducible apply ih | with_reducible assumption | intro _ _ _ | intro _ | with_reducible apply State.flitFails_data | with_reducible apply State.takeLink_data | with_reducible apply State.linkReplay_data | split | ((with_reducible conv => arg 2; whnf); split) | ((with_reducible conv => arg 2; arg 1; whnf); split) | ((with_reducible conv => arg 2; arg 1; arg 1; whnf); split) | with_reducible refine State.Data.eq2 (by with_reducible assumption) ?_ | with_reducible refine State.Data.eq22 (by with_reducible assumption) ?_ | with_reducible refine State.Data.eq222 (by with_reducible assumption) ?_ | with_reducible refine State.Data.eq1 (by with_reducible assumption) ?_ | with_reducible apply State.Data.pair2 | with_reducible apply State.Data.pair22 | with_reducible apply State.Data.pair222 | with_reducible apply State.Data.mk_)

theorem State.sendFlit_data (b0 : State) (s : State) (p x y req t : Nat) (h0 : b0.Data s) : b0.Data (State.sendFlit s p x y req t).2 := by
  unfold State.sendFlit
  repeat' (first | with_reducible assumption | intro _ _ _ | intro _ | with_reducible apply State.takeLink_data | with_reducible apply sendAgain_data | with_reducible apply State.Data.foldl | with_reducible apply State.Data.foldl2 | with_reducible apply State.Data.foldl22 | with_reducible apply State.Data.foldl222 | with_reducible apply State.Data.foldl1 | split | ((with_reducible conv => arg 2; whnf); split) | ((with_reducible conv => arg 2; arg 1; whnf); split) | ((with_reducible conv => arg 2; arg 1; arg 1; whnf); split) | with_reducible refine State.Data.eq2 (by with_reducible assumption) ?_ | with_reducible refine State.Data.eq22 (by with_reducible assumption) ?_ | with_reducible refine State.Data.eq222 (by with_reducible assumption) ?_ | with_reducible refine State.Data.eq1 (by with_reducible assumption) ?_ | with_reducible apply State.Data.pair2 | with_reducible apply State.Data.pair22 | with_reducible apply State.Data.pair222 | with_reducible apply State.Data.mk_)

theorem resendData_data (b0 : State) (p x y req : Nat) (x0 : Nat) (x1 : Nat) (x2 : State) (h0 : b0.Data x2) : b0.Data (resendData p x y req x0 x1 x2).2 := by
  induction x0 generalizing x1 x2 with
  | zero =>
    unfold resendData
    repeat' (first | with_reducible assumption | intro _ _ _ | intro _ | with_reducible apply State.flitFails_data | with_reducible apply State.sendFlit_data | with_reducible apply State.retry_data | split | ((with_reducible conv => arg 2; whnf); split) | ((with_reducible conv => arg 2; arg 1; whnf); split) | ((with_reducible conv => arg 2; arg 1; arg 1; whnf); split) | with_reducible refine State.Data.eq2 (by with_reducible assumption) ?_ | with_reducible refine State.Data.eq22 (by with_reducible assumption) ?_ | with_reducible refine State.Data.eq222 (by with_reducible assumption) ?_ | with_reducible refine State.Data.eq1 (by with_reducible assumption) ?_ | with_reducible apply State.Data.pair2 | with_reducible apply State.Data.pair22 | with_reducible apply State.Data.pair222 | with_reducible apply State.Data.mk_)
  | succ k ih =>
    unfold resendData
    repeat' (first | with_reducible apply ih | with_reducible assumption | intro _ _ _ | intro _ | with_reducible apply State.flitFails_data | with_reducible apply State.sendFlit_data | with_reducible apply State.retry_data | split | ((with_reducible conv => arg 2; whnf); split) | ((with_reducible conv => arg 2; arg 1; whnf); split) | ((with_reducible conv => arg 2; arg 1; arg 1; whnf); split) | with_reducible refine State.Data.eq2 (by with_reducible assumption) ?_ | with_reducible refine State.Data.eq22 (by with_reducible assumption) ?_ | with_reducible refine State.Data.eq222 (by with_reducible assumption) ?_ | with_reducible refine State.Data.eq1 (by with_reducible assumption) ?_ | with_reducible apply State.Data.pair2 | with_reducible apply State.Data.pair22 | with_reducible apply State.Data.pair222 | with_reducible apply State.Data.mk_)

theorem State.sendData_data (b0 : State) (s : State) (p x y req t : Nat) (h0 : b0.Data s) : b0.Data (State.sendData s p x y req t).2 := by
  unfold State.sendData
  repeat' (first | with_reducible assumption | intro _ _ _ | intro _ | with_reducible apply State.sendFlit_data | with_reducible apply resendData_data | split | ((with_reducible conv => arg 2; whnf); split) | ((with_reducible conv => arg 2; arg 1; whnf); split) | ((with_reducible conv => arg 2; arg 1; arg 1; whnf); split) | with_reducible refine State.Data.eq2 (by with_reducible assumption) ?_ | with_reducible refine State.Data.eq22 (by with_reducible assumption) ?_ | with_reducible refine State.Data.eq222 (by with_reducible assumption) ?_ | with_reducible refine State.Data.eq1 (by with_reducible assumption) ?_ | with_reducible apply State.Data.pair2 | with_reducible apply State.Data.pair22 | with_reducible apply State.Data.pair222 | with_reducible apply State.Data.mk_)

theorem State.reach_data (b0 : State) (s : State) (x y req t : Nat) (h0 : b0.Data s) : b0.Data (State.reach s x y req t).2 := by
  unfold State.reach
  repeat' (first | with_reducible assumption | intro _ _ _ | intro _ | with_reducible apply State.sendFlit_data | with_reducible apply State.Data.ite | with_reducible apply State.Data.ite2 | with_reducible apply State.Data.ite22 | with_reducible apply State.Data.ite222 | with_reducible apply State.Data.ite1 | with_reducible apply State.Data.ite21 | split | ((with_reducible conv => arg 2; whnf); split) | ((with_reducible conv => arg 2; arg 1; whnf); split) | ((with_reducible conv => arg 2; arg 1; arg 1; whnf); split) | with_reducible refine State.Data.eq2 (by with_reducible assumption) ?_ | with_reducible refine State.Data.eq22 (by with_reducible assumption) ?_ | with_reducible refine State.Data.eq222 (by with_reducible assumption) ?_ | with_reducible refine State.Data.eq1 (by with_reducible assumption) ?_ | with_reducible apply State.Data.pair2 | with_reducible apply State.Data.pair22 | with_reducible apply State.Data.pair222 | with_reducible apply State.Data.mk_)

theorem State.extReadPiece_data (b0 : State) (s : State) (req a n t : Nat) (h0 : b0.Data s) : b0.Data (State.extReadPiece s req a n t).2.2.2 := by
  unfold State.extReadPiece
  split
  · exact h0
  · dsimp only []
    have h1 : b0.Data (if (s.adderAt (a / 0x2000000000) a).isSome then s.adderRead (a / 0x2000000000) req a n t else s.t1Read (a / 0x2000000000) req a n t).2 :=
      State.Data.ite2 (State.adderRead_data _ _ _ _ _ _ _ h0) (State.t1Read_data _ _ _ _ _ _ _ h0)
    revert h1
    generalize (if (s.adderAt (a / 0x2000000000) a).isSome then s.adderRead (a / 0x2000000000) req a n t else s.t1Read (a / 0x2000000000) req a n t) = q
    obtain ⟨x, u⟩ := q
    intro h1
    cases x <;> exact h1
  · split
    · exact h0
    · split
      · exact State.hwSet_data _ _ _ _ (State.noteDouble_data _ _ _ _ h0)
      · next d _ _ _ =>
        have h1 := State.spmRead_data b0 s d 8 req t (a - spmBase d) n h0
        revert h1
        generalize s.spmRead d 8 req t (a - spmBase d) n = q
        obtain ⟨x, u⟩ := q
        cases x <;> exact id
  · have h1 := State.count_data b0 s 4 352 1 h0
    dsimp only []
    split
    · exact State.count_data _ _ _ _ _ (State.satF_data _ _ _ _ h1)
    · have h2 := State.correct_data _ _ a n h1
      revert h2
      generalize (s.count 4 352 1).correct a n = q
      obtain ⟨x, u⟩ := q
      intro h2
      exact State.Data.ite h2 (State.count_data _ _ _ _ _ (State.satF_data _ _ _ _ h2))
  · have h1 := State.readFails_data b0 s .t3 req a h0
    revert h1
    generalize s.readFails .t3 req a = q
    obtain ⟨x, u⟩ := q
    intro h1
    exact State.Data.ite222 h1 h1

theorem State.extReadFlit_data (b0 : State) (s : State) (req a n t : Nat) (h0 : b0.Data s) : b0.Data (State.extReadFlit s req a n t).2.2.2 := by
  unfold State.extReadFlit
  repeat' (first | with_reducible assumption | intro _ _ _ | intro _ | with_reducible apply State.extReadPiece_data | with_reducible apply State.Data.ite | with_reducible apply State.Data.ite2 | with_reducible apply State.Data.ite22 | with_reducible apply State.Data.ite222 | with_reducible apply State.Data.ite1 | with_reducible apply State.Data.ite21 | with_reducible apply State.Data.foldl | with_reducible apply State.Data.foldl2 | with_reducible apply State.Data.foldl22 | with_reducible apply State.Data.foldl222 | with_reducible apply State.Data.foldl1 | split | ((with_reducible conv => arg 2; whnf); split) | ((with_reducible conv => arg 2; arg 1; whnf); split) | ((with_reducible conv => arg 2; arg 1; arg 1; whnf); split) | with_reducible refine State.Data.eq2 (by with_reducible assumption) ?_ | with_reducible refine State.Data.eq22 (by with_reducible assumption) ?_ | with_reducible refine State.Data.eq222 (by with_reducible assumption) ?_ | with_reducible refine State.Data.eq1 (by with_reducible assumption) ?_ | with_reducible apply State.Data.pair2 | with_reducible apply State.Data.pair22 | with_reducible apply State.Data.pair222 | with_reducible apply State.Data.mk_)

theorem State.markWait_data (b0 : State) (s : State) (h0 : b0.Data s) : b0.Data (State.markWait s) := by
  unfold State.markWait
  repeat' (first | with_reducible assumption | intro _ _ _ | intro _ | with_reducible apply State.Data.mk_)

theorem State.orWait_data (b0 : State) (s : State) (f : State → State) (h0 : b0.Data s) (hf : ∀ u, b0.Data u → b0.Data (f u)) : b0.Data (s.orWait f) := by
  have h1 : b0.Data (f { s with fdieWait := false }) := hf _ (State.Data.mk_ h0)
  exact State.Data.ite h0 h1

theorem State.reachIf_data (b0 : State) (s : State) (way : Bool) (x y req t : Nat) (h0 : b0.Data s) : b0.Data (State.reachIf s way x y req t).2 := by
  unfold State.reachIf
  repeat' (first | with_reducible assumption | intro _ _ _ | intro _ | with_reducible apply State.reach_data | with_reducible apply State.Data.ite | with_reducible apply State.Data.ite2 | with_reducible apply State.Data.ite22 | with_reducible apply State.Data.ite222 | with_reducible apply State.Data.ite1 | with_reducible apply State.Data.ite21 | split | ((with_reducible conv => arg 2; whnf); split) | ((with_reducible conv => arg 2; arg 1; whnf); split) | ((with_reducible conv => arg 2; arg 1; arg 1; whnf); split) | with_reducible apply State.Data.pair2 | with_reducible apply State.Data.pair22 | with_reducible apply State.Data.pair222 | with_reducible apply State.Data.mk_)

theorem State.extRead_data (b0 : State) (s : State) (req a n : Nat) (h0 : b0.Data s) : b0.Data (State.extRead s req a n).2.2 := by
  unfold State.extRead
  repeat' (first | with_reducible assumption | intro _ _ _ | intro _ | with_reducible apply State.reachIf_data | with_reducible apply State.extReadFlit_data | with_reducible apply State.markWait_data | with_reducible apply State.Data.ite | with_reducible apply State.Data.ite2 | with_reducible apply State.Data.ite22 | with_reducible apply State.Data.ite222 | with_reducible apply State.Data.ite1 | with_reducible apply State.Data.ite21 | with_reducible apply State.Data.foldl | with_reducible apply State.Data.foldl2 | with_reducible apply State.Data.foldl22 | with_reducible apply State.Data.foldl222 | with_reducible apply State.Data.foldl1 | split | ((with_reducible conv => arg 2; whnf); split) | ((with_reducible conv => arg 2; arg 1; whnf); split) | ((with_reducible conv => arg 2; arg 1; arg 1; whnf); split) | with_reducible refine State.Data.eq2 (by with_reducible assumption) ?_ | with_reducible refine State.Data.eq22 (by with_reducible assumption) ?_ | with_reducible refine State.Data.eq222 (by with_reducible assumption) ?_ | with_reducible refine State.Data.eq1 (by with_reducible assumption) ?_ | with_reducible apply State.Data.pair2 | with_reducible apply State.Data.pair22 | with_reducible apply State.Data.pair222 | with_reducible apply State.Data.mk_)

theorem doLinkReplay_data (b0 : State) (e l req skip n : Nat) (s : State) (h0 : b0.Data s) : b0.Data (doLinkReplay e l req skip n s) := by
  unfold doLinkReplay
  repeat' (first | with_reducible assumption | intro _ _ _ | intro _ | with_reducible apply State.Data.ite | with_reducible apply State.Data.ite2 | with_reducible apply State.Data.ite22 | with_reducible apply State.Data.ite222 | with_reducible apply State.Data.ite1 | with_reducible apply State.Data.ite21 | split | ((with_reducible conv => arg 2; whnf); split) | ((with_reducible conv => arg 2; arg 1; whnf); split) | ((with_reducible conv => arg 2; arg 1; arg 1; whnf); split) | with_reducible apply State.Data.mk_)

theorem execLinkReplay_data (b0 : State) (e : Fin 6) (l : Fin 5) (req skip n : Nat) (s : State) (h0 : b0.Data s) : b0.DataOut (execLinkReplay e l req skip n s) := by
  unfold execLinkReplay
  repeat' (first | with_reducible assumption | intro _ _ _ | intro _ | with_reducible apply doLinkReplay_data | with_reducible apply State.Data.next | with_reducible apply State.Data.mk_)

theorem doMoverRetransmit_data (b0 : State) (req y skip n : Nat) (s : State) (h0 : b0.Data s) : b0.Data (doMoverRetransmit req y skip n s) := by
  unfold doMoverRetransmit
  repeat' (first | with_reducible assumption | intro _ _ _ | intro _ | with_reducible apply State.Data.mk_)

theorem execMoverRetransmit_data (b0 : State) (req : Nat) (y : Fin 6) (skip n : Nat) (s : State) (h0 : b0.Data s) : b0.DataOut (execMoverRetransmit req y skip n s) := by
  unfold execMoverRetransmit
  repeat' (first | with_reducible assumption | intro _ _ _ | intro _ | with_reducible apply doMoverRetransmit_data | with_reducible apply State.Data.next | with_reducible apply State.Data.mk_)

theorem doT1EccReread_data (b0 : State) (req a skip tries : Nat) (unit : Bool) (s : State) (h0 : b0.Data s) : b0.Data (doT1EccReread req a skip tries unit s) := by
  unfold doT1EccReread
  repeat' (first | with_reducible assumption | intro _ _ _ | intro _ | with_reducible apply State.Data.ite | with_reducible apply State.Data.ite2 | with_reducible apply State.Data.ite22 | with_reducible apply State.Data.ite222 | with_reducible apply State.Data.ite1 | with_reducible apply State.Data.ite21 | split | ((with_reducible conv => arg 2; whnf); split) | ((with_reducible conv => arg 2; arg 1; whnf); split) | ((with_reducible conv => arg 2; arg 1; arg 1; whnf); split) | with_reducible apply State.Data.mk_)

theorem execT1EccReread_data (b0 : State) (req addr skip tries : Nat) (unit : Bool) (s : State) (h0 : b0.Data s) : b0.DataOut (execT1EccReread req addr skip tries unit s) := by
  unfold execT1EccReread
  repeat' (first | with_reducible assumption | intro _ _ _ | intro _ | with_reducible apply doT1EccReread_data | with_reducible apply State.Data.next | with_reducible apply State.Data.mk_)

end Sys2Proof.Machine
end

