-- ==== Sys2Proof/Laws/DataFabric.lean ====
section
/-! SUPPORT. Operations of Machine/Fabric.lean that leave all stored data alone. -/
namespace Sys2Proof.Machine

set_option linter.all false
set_option Elab.async false

theorem State.sendOn_data (b0 : State) (s : State) (k : Packet) (p : Nat) (h0 : b0.Data s) : b0.Data (State.sendOn s k p) := by
  unfold State.sendOn
  repeat' (first | with_reducible assumption | with_reducible apply State.count_data | with_reducible apply State.satF_data | with_reducible apply State.Data.mk_ | intro _)

theorem State.emit_data (b0 : State) (s : State) (k : Packet) (h0 : b0.Data s) : b0.Data (State.emit s k) := by
  unfold State.emit
  repeat' (first | with_reducible assumption | with_reducible apply State.sendOn_data | split | ((with_reducible conv => arg 2; whnf); split) | with_reducible refine State.Data.eq2 (by with_reducible assumption) ?_ | with_reducible refine State.Data.eq22 (by with_reducible assumption) ?_ | with_reducible refine State.Data.eq222 (by with_reducible assumption) ?_ | with_reducible refine State.Data.eq1 (by with_reducible assumption) ?_ | with_reducible apply State.Data.mk_ | intro _)

theorem State.flushWaiting_data (b0 : State) (s : State) (h0 : b0.Data s) : b0.Data (State.flushWaiting s) := by
  unfold State.flushWaiting
  repeat' (first | with_reducible assumption | intro _ _ _ | intro _ | with_reducible apply State.emit_data | with_reducible apply State.Data.foldl | with_reducible apply State.Data.foldl2 | with_reducible apply State.Data.foldl22 | with_reducible apply State.Data.foldl222 | with_reducible apply State.Data.foldl1 | split | ((with_reducible conv => arg 2; whnf); split) | ((with_reducible conv => arg 2; arg 1; whnf); split) | ((with_reducible conv => arg 2; arg 1; arg 1; whnf); split) | with_reducible apply State.Data.mk_)

theorem State.setRegion_data (b0 : State) (s : State) (r : Nat) (x : Region) (h0 : b0.Data s) : b0.Data (State.setRegion s r x) := by
  unfold State.setRegion
  repeat' (first | with_reducible assumption | with_reducible apply State.Data.mk_ | intro _)

theorem State.setFence_data (b0 : State) (s : State) (n : Nat) (x : Fence) (h0 : b0.Data s) : b0.Data (State.setFence s n x) := by
  unfold State.setFence
  repeat' (first | with_reducible assumption | with_reducible apply State.Data.mk_ | intro _)

theorem State.fenceComplete_data (b0 : State) (s : State) (n node : Nat) (h0 : b0.Data s) : b0.Data (State.fenceComplete s n node) := by
  unfold State.fenceComplete
  repeat' (first | with_reducible assumption | intro _ _ _ | intro _ | with_reducible apply State.sendDep_data | with_reducible apply State.Data.ite | with_reducible apply State.Data.foldl | with_reducible apply State.Data.foldl2 | with_reducible apply State.Data.foldl22 | with_reducible apply State.Data.foldl222 | with_reducible apply State.Data.foldl1 | split | ((with_reducible conv => arg 2; whnf); split) | with_reducible apply State.Data.mk_)

theorem State.fenceCount_data (b0 : State) (s : State) (n step node : Nat) (h0 : b0.Data s) : b0.Data (State.fenceCount s n step node) := by
  unfold State.fenceCount
  repeat' (first | with_reducible assumption | intro _ _ _ | intro _ | with_reducible apply State.count_data | with_reducible apply State.setFence_data | with_reducible apply State.fenceComplete_data | with_reducible apply State.Data.ite | split | ((with_reducible conv => arg 2; whnf); split) | with_reducible apply State.Data.mk_)

theorem State.rollFences_data (b0 : State) (s : State) (p j : Nat) (rerun : Bool) (h0 : b0.Data s) : b0.Data (State.rollFences s p j rerun) := by
  unfold State.rollFences
  repeat' (first | with_reducible assumption | intro _ _ _ | intro _ | with_reducible apply State.setFence_data | with_reducible apply State.updPart_data | with_reducible apply State.Data.ite | with_reducible apply State.Data.ite2 | with_reducible apply State.Data.ite22 | with_reducible apply State.Data.ite222 | with_reducible apply State.Data.ite1 | with_reducible apply State.Data.ite21 | with_reducible apply State.Data.foldl | with_reducible apply State.Data.foldl2 | with_reducible apply State.Data.foldl22 | with_reducible apply State.Data.foldl222 | with_reducible apply State.Data.foldl1 | split | ((with_reducible conv => arg 2; whnf); split) | ((with_reducible conv => arg 2; arg 1; whnf); split) | ((with_reducible conv => arg 2; arg 1; arg 1; whnf); split) | with_reducible apply State.Data.mk_)

theorem State.updTx_data (b0 : State) (s : State) (part dst seq : Nat) (f : Tx → Tx) (h0 : b0.Data s) : b0.Data (State.updTx s part dst seq f) := by
  unfold State.updTx
  repeat' (first | with_reducible assumption | intro _ _ _ | intro _ | with_reducible apply State.Data.ite | split | ((with_reducible conv => arg 2; whnf); split) | with_reducible apply State.Data.mk_)

theorem State.launch_data (b0 : State) (s : State) (t : Tx) (retx : Bool) (h0 : b0.Data s) : b0.Data (State.launch s t retx) := by
  unfold State.launch
  repeat' (first | with_reducible assumption | intro _ _ _ | intro _ | with_reducible apply State.emit_data | with_reducible apply State.updTx_data | with_reducible apply State.Data.foldl | with_reducible apply State.Data.foldl2 | with_reducible apply State.Data.foldl22 | with_reducible apply State.Data.foldl222 | with_reducible apply State.Data.foldl1 | split | ((with_reducible conv => arg 2; whnf); split) | with_reducible apply State.Data.mk_)

theorem State.newTx_data (b0 : State) (s : State) (part dst op vc group region key : Nat) (addrs : List (Nat × List Byte)) (org : Origin) (h0 : b0.Data s) : b0.Data (State.newTx s part dst op vc group region key addrs org) := by
  unfold State.newTx
  repeat' (first | with_reducible assumption | intro _ _ _ | intro _ | with_reducible apply State.launch_data | with_reducible apply State.Data.ite | split | ((with_reducible conv => arg 2; whnf); split) | with_reducible apply State.Data.mk_)

theorem State.launchWaiting_data (b0 : State) (s : State) (part dst : Nat) (h0 : b0.Data s) : b0.Data (State.launchWaiting s part dst) := by
  unfold State.launchWaiting
  repeat' (first | with_reducible assumption | intro _ _ _ | intro _ | with_reducible apply State.launch_data | with_reducible apply State.Data.ite | with_reducible apply State.Data.ite2 | with_reducible apply State.Data.ite22 | with_reducible apply State.Data.ite222 | with_reducible apply State.Data.ite1 | with_reducible apply State.Data.ite21 | with_reducible apply State.Data.foldl | with_reducible apply State.Data.foldl2 | with_reducible apply State.Data.foldl22 | with_reducible apply State.Data.foldl222 | with_reducible apply State.Data.foldl1 | split | ((with_reducible conv => arg 2; whnf); split) | ((with_reducible conv => arg 2; arg 1; whnf); split) | ((with_reducible conv => arg 2; arg 1; arg 1; whnf); split))

theorem State.answerTx_data (b0 : State) (s : State) (t : Tx) (nack : Bool) (h0 : b0.Data s) : b0.Data (State.answerTx s t nack) := by
  unfold State.answerTx
  repeat' (first | with_reducible assumption | intro _ _ _ | intro _ | with_reducible apply State.updTx_data | with_reducible apply State.fenceCount_data | with_reducible apply State.launchWaiting_data | with_reducible apply State.Data.ite | with_reducible apply State.Data.ite2 | with_reducible apply State.Data.ite22 | with_reducible apply State.Data.ite222 | with_reducible apply State.Data.ite1 | with_reducible apply State.Data.ite21 | with_reducible apply State.Data.foldl | with_reducible apply State.Data.foldl2 | with_reducible apply State.Data.foldl22 | with_reducible apply State.Data.foldl222 | with_reducible apply State.Data.foldl1 | split | ((with_reducible conv => arg 2; whnf); split) | ((with_reducible conv => arg 2; arg 1; whnf); split) | ((with_reducible conv => arg 2; arg 1; arg 1; whnf); split) | with_reducible refine State.Data.eq2 (by with_reducible assumption) ?_ | with_reducible refine State.Data.eq22 (by with_reducible assumption) ?_ | with_reducible refine State.Data.eq222 (by with_reducible assumption) ?_ | with_reducible refine State.Data.eq1 (by with_reducible assumption) ?_ | with_reducible apply State.Data.mk_)

theorem State.rollSeqs_data (b0 : State) (s : State) (p : Nat) (rerun : Bool) (h0 : b0.Data s) : b0.Data (State.rollSeqs s p rerun) := by
  unfold State.rollSeqs
  repeat' (first | with_reducible assumption | intro _ _ _ | intro _ | with_reducible apply State.emit_data | with_reducible apply State.Data.ite | with_reducible apply State.Data.ite2 | with_reducible apply State.Data.ite22 | with_reducible apply State.Data.ite222 | with_reducible apply State.Data.ite1 | with_reducible apply State.Data.ite21 | with_reducible apply State.Data.foldl | with_reducible apply State.Data.foldl2 | with_reducible apply State.Data.foldl22 | with_reducible apply State.Data.foldl222 | with_reducible apply State.Data.foldl1 | split | ((with_reducible conv => arg 2; whnf); split) | ((with_reducible conv => arg 2; arg 1; whnf); split) | ((with_reducible conv => arg 2; arg 1; arg 1; whnf); split) | with_reducible apply State.Data.mk_)

theorem State.newTxOnce_data (b0 : State) (s : State) (part dst op vc group region key : Nat) (addrs : List (Nat × List Byte)) (org : Origin) (h0 : b0.Data s) : b0.Data (State.newTxOnce s part dst op vc group region key addrs org) := by
  unfold State.newTxOnce
  repeat' (first | with_reducible assumption | intro _ _ _ | intro _ | with_reducible apply State.newTx_data | split | ((with_reducible conv => arg 2; whnf); split) | with_reducible refine State.Data.eq2 (by with_reducible assumption) ?_ | with_reducible refine State.Data.eq22 (by with_reducible assumption) ?_ | with_reducible refine State.Data.eq222 (by with_reducible assumption) ?_ | with_reducible refine State.Data.eq1 (by with_reducible assumption) ?_ | with_reducible apply State.Data.mk_)

theorem State.setCut_data (b0 : State) (s : State) (org : Origin) (runs : List (Nat × List Byte)) (h0 : b0.Data s) : b0.Data (State.setCut s org runs) := by
  unfold State.setCut
  repeat' (first | with_reducible assumption | intro _ | with_reducible apply State.Data.mk_)

theorem State.sendWrite_data (b0 : State) (s : State) (part dst vc region : Nat) (runs : List (Nat × List Byte)) (more : Bool) (org : Origin) (h0 : b0.Data s) : b0.Data (State.sendWrite s part dst vc region runs more org).2 := by
  unfold State.sendWrite
  repeat' (first | with_reducible assumption | with_reducible apply State.setCut_data | intro _ _ _ | intro _ | with_reducible apply State.newTxOnce_data | with_reducible apply State.Data.ite | with_reducible apply State.Data.ite2 | with_reducible apply State.Data.ite22 | with_reducible apply State.Data.ite222 | with_reducible apply State.Data.ite1 | with_reducible apply State.Data.ite21 | with_reducible apply State.Data.foldl | with_reducible apply State.Data.foldl2 | with_reducible apply State.Data.foldl22 | with_reducible apply State.Data.foldl222 | with_reducible apply State.Data.foldl1 | split | ((with_reducible conv => arg 2; whnf); split) | ((with_reducible conv => arg 2; arg 1; whnf); split) | ((with_reducible conv => arg 2; arg 1; arg 1; whnf); split))

theorem State.refuse_data (b0 : State) (s : State) (part code src region : Nat) (h0 : b0.Data s) : b0.Data (State.refuse s part code src region) := by
  unfold State.refuse
  repeat' (first | with_reducible assumption | with_reducible apply State.satF_data | with_reducible apply State.raiseP_data | with_reducible apply State.Data.ite | split | ((with_reducible conv => arg 2; whnf); split) | with_reducible apply State.Data.mk_ | intro _)

theorem State.sendAnswer_data (b0 : State) (s : State) (k : Packet) (op : Nat) (payload : List Byte) (retx : Bool) (h0 : b0.Data s) : b0.Data (State.sendAnswer s k op payload retx) := by
  unfold State.sendAnswer
  repeat' (first | with_reducible assumption | with_reducible apply State.emit_data | with_reducible apply State.Data.mk_ | intro _)

theorem State.setPeer_data (b0 : State) (s : State) (x : PeerIn) (h0 : b0.Data s) : b0.Data (State.setPeer s x) := by
  unfold State.setPeer
  repeat' (first | with_reducible assumption | intro _ _ _ | intro _ | split | ((with_reducible conv => arg 2; whnf); split) | with_reducible apply State.Data.mk_)

theorem State.finishIn_data (b0 : State) (s : State) (part : Nat) (k : Packet) (op : Nat) (payload : List Byte) (h0 : b0.Data s) : b0.Data (State.finishIn s part k op payload) := by
  unfold State.finishIn
  repeat' (first | with_reducible assumption | with_reducible apply State.setPeer_data | with_reducible apply State.sendAnswer_data | intro _)

theorem State.countIn_data (b0 : State) (s : State) (part : Nat) (k : Packet) (h0 : b0.Data s) : b0.Data (State.countIn s part k) := by
  unfold State.countIn
  repeat' (first | with_reducible assumption | with_reducible apply State.raiseP_data | with_reducible apply State.fenceCount_data | with_reducible apply State.Data.ite | split | ((with_reducible conv => arg 2; whnf); split) | intro _)

theorem State.dropEarly_data (b0 : State) (s : State) (part : Nat) (k : Packet) (h0 : b0.Data s) : b0.Data (State.dropEarly s part k) := by
  unfold State.dropEarly
  repeat' (first | with_reducible assumption | with_reducible apply State.satF_data | with_reducible apply State.raiseP_data | with_reducible apply State.Data.ite | split | ((with_reducible conv => arg 2; whnf); split) | with_reducible apply State.Data.mk_ | intro _)

theorem State.dropCrc_data (b0 : State) (s : State) (k : Packet) (h0 : b0.Data s) : b0.Data (State.dropCrc s k) := by
  unfold State.dropCrc
  repeat' (first | with_reducible assumption | with_reducible apply State.satF_data | with_reducible apply State.count_data | intro _)

theorem State.passToken_data (b0 : State) (s : State) (r : Nat) (h0 : b0.Data s) : b0.Data (State.passToken s r) := by
  unfold State.passToken
  repeat' (first | with_reducible assumption | with_reducible apply State.setRegion_data | with_reducible apply State.finishIn_data | split | ((with_reducible conv => arg 2; whnf); split) | with_reducible refine State.Data.eq2 (by with_reducible assumption) ?_ | with_reducible refine State.Data.eq22 (by with_reducible assumption) ?_ | with_reducible refine State.Data.eq222 (by with_reducible assumption) ?_ | with_reducible refine State.Data.eq1 (by with_reducible assumption) ?_ | with_reducible apply State.Data.mk_ | intro _)

theorem State.settleReleases_data (b0 : State) (s : State) (h0 : b0.Data s) : b0.Data (State.settleReleases s) := by
  unfold State.settleReleases
  repeat' (first | with_reducible assumption | intro _ _ _ | intro _ | with_reducible apply State.passToken_data | with_reducible apply State.finishIn_data | with_reducible apply State.Data.foldl | with_reducible apply State.Data.foldl2 | with_reducible apply State.Data.foldl22 | with_reducible apply State.Data.foldl222 | with_reducible apply State.Data.foldl1 | split | ((with_reducible conv => arg 2; whnf); split) | with_reducible refine State.Data.eq2 (by with_reducible assumption) ?_ | with_reducible refine State.Data.eq22 (by with_reducible assumption) ?_ | with_reducible refine State.Data.eq222 (by with_reducible assumption) ?_ | with_reducible refine State.Data.eq1 (by with_reducible assumption) ?_ | with_reducible apply State.Data.mk_)

theorem State.gwStatus_data (b0 : State) (s : State) (h0 : b0.Data s) : b0.Data (State.gwStatus s) := by
  unfold State.gwStatus
  repeat' (first | with_reducible assumption | intro _ _ _ | intro _ | with_reducible apply State.setF_data | with_reducible apply State.Data.foldl | with_reducible apply State.Data.foldl2 | with_reducible apply State.Data.foldl22 | with_reducible apply State.Data.foldl222 | with_reducible apply State.Data.foldl1 | split | ((with_reducible conv => arg 2; whnf); split))

theorem State.sendGathers_data (b0 : State) (s : State) (h0 : b0.Data s) : b0.Data (State.sendGathers s) := by
  unfold State.sendGathers
  repeat' (first | with_reducible assumption | intro _ _ _ | intro _ | with_reducible apply State.newTx_data | with_reducible apply State.satF_data | with_reducible apply State.count_data | with_reducible apply State.gwStatus_data | with_reducible apply State.Data.ite | with_reducible apply State.Data.ite2 | with_reducible apply State.Data.ite22 | with_reducible apply State.Data.ite222 | with_reducible apply State.Data.ite1 | with_reducible apply State.Data.ite21 | with_reducible apply State.Data.foldl | with_reducible apply State.Data.foldl2 | with_reducible apply State.Data.foldl22 | with_reducible apply State.Data.foldl222 | with_reducible apply State.Data.foldl1 | split | ((with_reducible conv => arg 2; whnf); split) | ((with_reducible conv => arg 2; arg 1; whnf); split) | ((with_reducible conv => arg 2; arg 1; arg 1; whnf); split) | with_reducible apply State.Data.mk_)

theorem State.closeGathers_data (b0 : State) (s : State) (sel : Gather → Bool) (h0 : b0.Data s) : b0.Data (State.closeGathers s sel) := by
  unfold State.closeGathers
  repeat' (first | with_reducible assumption | intro _ _ _ | intro _ | with_reducible apply State.sendGathers_data | with_reducible apply State.Data.ite | split | ((with_reducible conv => arg 2; whnf); split) | with_reducible apply State.Data.mk_)

theorem State.joinGather_data (b0 : State) (s : State) (ctx dst region vc level op size a : Nat) (data : List Byte) (resp num : Nat) (h0 : b0.Data s) : b0.Data (State.joinGather s ctx dst region vc level op size a data resp num) := by
  unfold State.joinGather
  repeat' (first | with_reducible assumption | intro _ _ _ | intro _ | with_reducible apply State.closeGathers_data | with_reducible apply State.gwStatus_data | with_reducible apply State.Data.ite | split | ((with_reducible conv => arg 2; whnf); split) | with_reducible refine State.Data.eq2 (by with_reducible assumption) ?_ | with_reducible refine State.Data.eq22 (by with_reducible assumption) ?_ | with_reducible refine State.Data.eq222 (by with_reducible assumption) ?_ | with_reducible refine State.Data.eq1 (by with_reducible assumption) ?_ | with_reducible apply State.Data.mk_)

theorem State.portDown_data (b0 : State) (s : State) (p : Nat) (h0 : b0.Data s) : b0.Data (State.portDown s p) := by
  unfold State.portDown
  repeat' (first | with_reducible assumption | intro _ _ _ | intro _ | with_reducible apply State.setF_data | with_reducible apply State.emit_data | with_reducible apply State.count_data | with_reducible apply State.raise_data | with_reducible apply State.Data.ite | with_reducible apply State.Data.foldl | with_reducible apply State.Data.foldl2 | with_reducible apply State.Data.foldl22 | with_reducible apply State.Data.foldl222 | with_reducible apply State.Data.foldl1 | split | ((with_reducible conv => arg 2; whnf); split) | with_reducible apply State.Data.mk_)

theorem State.portFailed_data (b0 : State) (s : State) (p : Nat) (h0 : b0.Data s) : b0.Data (State.portFailed s p) := by
  unfold State.portFailed
  repeat' (first | with_reducible assumption | intro _ _ _ | intro _ | with_reducible apply State.setF_data | with_reducible apply State.raise_data | split | ((with_reducible conv => arg 2; whnf); split) | with_reducible apply State.Data.mk_)

theorem State.laneFailed_data (b0 : State) (s : State) (p lane : Nat) (h0 : b0.Data s) : b0.Data (State.laneFailed s p lane) := by
  unfold State.laneFailed
  repeat' (first | with_reducible assumption | intro _ _ _ | intro _ | with_reducible apply State.setF_data | with_reducible apply State.dirty_data | with_reducible apply State.portFailed_data | with_reducible apply State.Data.ite | split | ((with_reducible conv => arg 2; whnf); split) | with_reducible refine State.Data.eq2 (by with_reducible assumption) ?_ | with_reducible refine State.Data.eq22 (by with_reducible assumption) ?_ | with_reducible refine State.Data.eq222 (by with_reducible assumption) ?_ | with_reducible refine State.Data.eq1 (by with_reducible assumption) ?_ | with_reducible apply State.Data.mk_)

theorem doLaneLightLoss_data (b0 : State) (p lane : Nat) (s : State) (h0 : b0.Data s) : b0.Data (doLaneLightLoss p lane s) := by
  unfold doLaneLightLoss
  repeat' (first | with_reducible assumption | with_reducible apply State.portDown_data | with_reducible apply State.laneFailed_data | with_reducible apply State.Data.ite | split | ((with_reducible conv => arg 2; whnf); split) | intro _)

theorem execLaneLightLoss_data (b0 : State) (port : Fin 32) (lane : Fin 9) (s : State) (h0 : b0.Data s) : b0.DataOut (execLaneLightLoss port lane s) := by
  unfold execLaneLightLoss
  repeat' (first | with_reducible assumption | with_reducible apply doLaneLightLoss_data | with_reducible apply State.Data.next | intro _)

theorem doPortDownSymbol_data (b0 : State) (p : Nat) (s : State) (h0 : b0.Data s) : b0.Data (doPortDownSymbol p s) := by
  unfold doPortDownSymbol
  repeat' (first | with_reducible assumption | with_reducible apply State.portDown_data | intro _)

theorem execPortDownSymbol_data (b0 : State) (port : Fin 32) (s : State) (h0 : b0.Data s) : b0.DataOut (execPortDownSymbol port s) := by
  unfold execPortDownSymbol
  repeat' (first | with_reducible assumption | with_reducible apply doPortDownSymbol_data | with_reducible apply State.Data.next | intro _)

theorem doPortRetrain_data (b0 : State) (p : Nat) (s : State) (h0 : b0.Data s) : b0.Data (doPortRetrain p s) := by
  unfold doPortRetrain
  repeat' (first | with_reducible assumption | with_reducible apply State.portDown_data | with_reducible apply State.answer_data | intro _)

theorem execPortRetrain_data (b0 : State) (port : Fin 32) (s : State) (h0 : b0.Data s) : b0.DataOut (execPortRetrain port s) := by
  unfold execPortRetrain
  repeat' (first | with_reducible assumption | with_reducible apply doPortRetrain_data | with_reducible apply State.Data.next | intro _)

theorem doFabPortUp_data (b0 : State) (p : Nat) (s : State) (h0 : b0.Data s) : b0.Data (doFabPortUp p s) := by
  unfold doFabPortUp
  repeat' (first | with_reducible assumption | with_reducible apply State.portFailed_data | intro _ _ _ | intro _ | with_reducible apply State.raise_data | with_reducible apply State.count_data | with_reducible apply State.setF_data | with_reducible apply State.flushWaiting_data | with_reducible apply State.Data.ite | split | ((with_reducible conv => arg 2; whnf); split) | with_reducible apply State.Data.mk_)

theorem execFabPortUp_data (b0 : State) (port : Fin 32) (s : State) (h0 : b0.Data s) : b0.DataOut (execFabPortUp port s) := by
  unfold execFabPortUp
  repeat' (first | with_reducible assumption | with_reducible apply doFabPortUp_data | with_reducible apply State.Data.next | intro _)

theorem doPortUpTimeout_data (b0 : State) (p : Nat) (s : State) (h0 : b0.Data s) : b0.Data (doPortUpTimeout p s) := by
  unfold doPortUpTimeout
  repeat' (first | with_reducible assumption | with_reducible apply State.toNs_data | with_reducible apply State.portFailed_data | with_reducible apply State.Data.ite | split | ((with_reducible conv => arg 2; whnf); split) | intro _)

theorem execPortUpTimeout_data (b0 : State) (port : Fin 32) (s : State) (h0 : b0.Data s) : b0.DataOut (execPortUpTimeout port s) := by
  unfold execPortUpTimeout
  repeat' (first | with_reducible assumption | with_reducible apply doPortUpTimeout_data | with_reducible apply State.Data.next | intro _)

theorem doFabLinkReplay_data (b0 : State) (p cost lane : Nat) (s : State) (h0 : b0.Data s) : b0.Data (doFabLinkReplay p cost lane s) := by
  unfold doFabLinkReplay
  repeat' (first | with_reducible assumption | with_reducible apply State.satF_data | with_reducible apply State.count_data | with_reducible apply State.raise_data | with_reducible apply State.portDown_data | with_reducible apply State.laneFailed_data | with_reducible apply State.Data.ite | split | ((with_reducible conv => arg 2; whnf); split) | with_reducible apply State.Data.mk_ | intro _)

theorem execFabLinkReplay_data (b0 : State) (port : Fin 32) (cost lane : Nat) (s : State) (h0 : b0.Data s) : b0.DataOut (execFabLinkReplay port cost lane s) := by
  unfold execFabLinkReplay
  repeat' (first | with_reducible assumption | with_reducible apply doFabLinkReplay_data | with_reducible apply State.Data.next | intro _)

theorem doLinkAckSymbol_data (b0 : State) (p n : Nat) (s : State) (h0 : b0.Data s) : b0.Data (doLinkAckSymbol p n s) := by
  unfold doLinkAckSymbol
  repeat' (first | with_reducible assumption | intro _ _ _ | intro _ | with_reducible apply State.Data.ite | with_reducible apply State.Data.ite2 | with_reducible apply State.Data.ite22 | with_reducible apply State.Data.ite222 | with_reducible apply State.Data.ite1 | with_reducible apply State.Data.ite21 | with_reducible apply State.Data.foldl | with_reducible apply State.Data.foldl2 | with_reducible apply State.Data.foldl22 | with_reducible apply State.Data.foldl222 | with_reducible apply State.Data.foldl1 | split | ((with_reducible conv => arg 2; whnf); split) | ((with_reducible conv => arg 2; arg 1; whnf); split) | ((with_reducible conv => arg 2; arg 1; arg 1; whnf); split) | with_reducible apply State.Data.mk_)

theorem execLinkAckSymbol_data (b0 : State) (port : Fin 32) (count : Nat) (s : State) (h0 : b0.Data s) : b0.DataOut (execLinkAckSymbol port count s) := by
  unfold execLinkAckSymbol
  repeat' (first | with_reducible assumption | with_reducible apply doLinkAckSymbol_data | with_reducible apply State.count_data | with_reducible apply State.Data.next | intro _)

theorem doVcCreditReturn_data (b0 : State) (p vc n : Nat) (s : State) (h0 : b0.Data s) : b0.Data (doVcCreditReturn p vc n s) := by
  unfold doVcCreditReturn
  repeat' (first | with_reducible assumption | with_reducible apply State.flushWaiting_data | with_reducible apply State.Data.mk_ | intro _)

theorem execVcCreditReturn_data (b0 : State) (port : Fin 32) (vc : Fin 8) (n : Nat) (s : State) (h0 : b0.Data s) : b0.DataOut (execVcCreditReturn port vc n s) := by
  unfold execVcCreditReturn
  repeat' (first | with_reducible assumption | with_reducible apply doVcCreditReturn_data | with_reducible apply State.Data.next | intro _)

theorem doFabPacketForward_data (b0 : State) (p : Nat) (k : Packet) (s : State) (h0 : b0.Data s) : b0.Data (doFabPacketForward p k s) := by
  unfold doFabPacketForward
  repeat' (first | with_reducible assumption | with_reducible apply State.count_data | with_reducible apply State.dropCrc_data | with_reducible apply State.emit_data | with_reducible apply State.Data.ite | split | ((with_reducible conv => arg 2; whnf); split) | with_reducible apply State.Data.mk_ | intro _)

theorem execFabPacketForward_data (b0 : State) (port : Fin 32) (pkt : Packet) (s : State) (h0 : b0.Data s) : b0.DataOut (execFabPacketForward port pkt s) := by
  unfold execFabPacketForward
  repeat' (first | with_reducible assumption | with_reducible apply doFabPacketForward_data | with_reducible apply State.Data.next | intro _)

theorem doFabLevelSaturated_data (b0 : State) (level vc : Nat) (s : State) (h0 : b0.Data s) : b0.Data (doFabLevelSaturated level vc s) := by
  unfold doFabLevelSaturated
  repeat' (first | with_reducible assumption | with_reducible apply State.satF_data | with_reducible apply State.count_data | with_reducible apply State.raise_data | with_reducible apply State.Data.ite | split | ((with_reducible conv => arg 2; whnf); split) | with_reducible apply State.Data.mk_ | intro _)

theorem execFabLevelSaturated_data (b0 : State) (level : Fin 3) (vc : Fin 8) (s : State) (h0 : b0.Data s) : b0.DataOut (execFabLevelSaturated level vc s) := by
  unfold execFabLevelSaturated
  repeat' (first | with_reducible assumption | with_reducible apply doFabLevelSaturated_data | with_reducible apply State.Data.next | intro _)

theorem State.setEgress_data (b0 : State) (s : State) (die level n : Nat) (h0 : b0.Data s) : b0.Data (State.setEgress s die level n) := by
  unfold State.setEgress
  repeat' (first | with_reducible assumption | with_reducible apply State.Data.mk_ | intro _)

theorem State.leave_data (b0 : State) (s : State) (part die level node vc region n : Nat) (runs : List (Nat × List Byte)) (more : Bool) (org : Origin) (h0 : b0.Data s) :
    b0.Data (State.leave s part die level node vc region n runs more org).2 := by
  unfold State.leave
  repeat' (first | with_reducible assumption | with_reducible apply State.sendWrite_data | with_reducible apply State.setEgress_data)

theorem doEgressCreditReturn_data (b0 : State) (die level n : Nat) (s : State) (h0 : b0.Data s) : b0.Data (doEgressCreditReturn die level n s) := by
  unfold doEgressCreditReturn
  repeat' (first | with_reducible assumption | with_reducible apply State.setEgress_data | intro _)

theorem execEgressCreditReturn_data (b0 : State) (die : Fin 5) (level : Fin 3) (n : Nat) (s : State) (h0 : b0.Data s) : b0.DataOut (execEgressCreditReturn die level n s) := by
  unfold execEgressCreditReturn
  repeat' (first | with_reducible assumption | with_reducible apply doEgressCreditReturn_data | with_reducible apply State.Data.next | intro _)

theorem doPortDisableWrite_data (b0 : State) (p v : Nat) (s : State) (h0 : b0.Data s) : b0.Data (doPortDisableWrite p v s) := by
  unfold doPortDisableWrite
  repeat' (first | with_reducible assumption | intro _ _ _ | intro _ | with_reducible apply State.setF_data | with_reducible apply State.portDown_data | with_reducible apply State.answer_data | with_reducible apply State.Data.ite | split | ((with_reducible conv => arg 2; whnf); split) | with_reducible apply State.Data.mk_)

theorem execPortDisableWrite_data (b0 : State) (port : Fin 32) (val : Word) (s : State) (h0 : b0.Data s) : b0.DataOut (execPortDisableWrite port val s) := by
  unfold execPortDisableWrite
  repeat' (first | with_reducible assumption | with_reducible apply doPortDisableWrite_data | with_reducible apply State.Data.next | intro _)

theorem doFabEnableWrite_data (b0 : State) (v : Nat) (s : State) (h0 : b0.Data s) : b0.Data (doFabEnableWrite v s) := by
  unfold doFabEnableWrite
  repeat' (first | with_reducible assumption | intro _ _ _ | intro _ | with_reducible apply State.setF_data | with_reducible apply State.answer_data | with_reducible apply State.Data.ite | with_reducible apply State.Data.foldl | with_reducible apply State.Data.foldl2 | with_reducible apply State.Data.foldl22 | with_reducible apply State.Data.foldl222 | with_reducible apply State.Data.foldl1 | split | ((with_reducible conv => arg 2; whnf); split) | with_reducible apply State.Data.mk_)

theorem execFabEnableWrite_data (b0 : State) (val : Word) (s : State) (h0 : b0.Data s) : b0.DataOut (execFabEnableWrite val s) := by
  unfold execFabEnableWrite
  repeat' (first | with_reducible assumption | with_reducible apply doFabEnableWrite_data | with_reducible apply State.Data.next | intro _)

theorem State.tblPut_data (b0 : State) (s : State) (t i : Nat) (w : List Nat) (h0 : b0.Data s) : b0.Data (State.tblPut s t i w) := by
  unfold State.tblPut
  repeat' (first | with_reducible assumption | with_reducible apply State.setRegion_data | with_reducible apply State.setFence_data | with_reducible apply State.Data.ite | split | ((with_reducible conv => arg 2; whnf); split) | with_reducible apply State.Data.mk_ | intro _)

theorem State.tblHeld_data (b0 : State) (s : State) (t i : Nat) (w : List Nat) (h0 : b0.Data s) : b0.Data (State.tblHeld s t i w) := by
  unfold State.tblHeld
  repeat' (first | with_reducible assumption | with_reducible apply State.setRegion_data | with_reducible apply State.Data.ite | split | ((with_reducible conv => arg 2; whnf); split) | with_reducible apply State.Data.mk_ | intro _)

theorem State.tblSel_data (b0 : State) (s : State) (v : Nat) (h0 : b0.Data s) : b0.Data (State.tblSel s v) := by
  unfold State.tblSel
  repeat' (first | with_reducible assumption | with_reducible apply State.setF_data | with_reducible apply State.Data.ite | split | ((with_reducible conv => arg 2; whnf); split) | intro _)

theorem doTblWrite_data (b0 : State) (v : Nat) (s : State) (h0 : b0.Data s) : b0.Data (doTblWrite v s) := by
  unfold doTblWrite
  repeat' (first | with_reducible assumption | intro _ _ _ | intro _ | with_reducible apply State.tblSel_data | with_reducible apply State.refused_data | with_reducible apply State.tblHeld_data | with_reducible apply State.tblPut_data | with_reducible apply State.answer_data | with_reducible apply State.Data.ite | with_reducible apply State.Data.ite2 | with_reducible apply State.Data.ite22 | with_reducible apply State.Data.ite222 | with_reducible apply State.Data.ite1 | with_reducible apply State.Data.ite21 | split | ((with_reducible conv => arg 2; whnf); split) | ((with_reducible conv => arg 2; arg 1; whnf); split) | ((with_reducible conv => arg 2; arg 1; arg 1; whnf); split) | with_reducible apply State.Data.mk_)

theorem execTblWrite_data (b0 : State) (val : Word) (s : State) (h0 : b0.Data s) : b0.DataOut (execTblWrite val s) := by
  unfold execTblWrite
  repeat' (first | with_reducible assumption | with_reducible apply doTblWrite_data | with_reducible apply State.Data.next | intro _)

theorem doTblRead_data (b0 : State) (v : Nat) (s : State) (h0 : b0.Data s) : b0.Data (doTblRead v s) := by
  unfold doTblRead
  repeat' (first | with_reducible assumption | intro _ _ _ | intro _ | with_reducible apply State.tblSel_data | with_reducible apply State.refused_data | with_reducible apply State.setF_data | with_reducible apply State.answer_data | with_reducible apply State.Data.ite | with_reducible apply State.Data.ite2 | with_reducible apply State.Data.ite22 | with_reducible apply State.Data.ite222 | with_reducible apply State.Data.ite1 | with_reducible apply State.Data.ite21 | with_reducible apply State.Data.foldl | with_reducible apply State.Data.foldl2 | with_reducible apply State.Data.foldl22 | with_reducible apply State.Data.foldl222 | with_reducible apply State.Data.foldl1 | split | ((with_reducible conv => arg 2; whnf); split) | ((with_reducible conv => arg 2; arg 1; whnf); split) | ((with_reducible conv => arg 2; arg 1; arg 1; whnf); split) | with_reducible apply State.Data.mk_)

theorem execTblRead_data (b0 : State) (val : Word) (s : State) (h0 : b0.Data s) : b0.DataOut (execTblRead val s) := by
  unfold execTblRead
  repeat' (first | with_reducible assumption | with_reducible apply doTblRead_data | with_reducible apply State.Data.next | intro _)

theorem State.applyTables_data (b0 : State) (s : State) (h0 : b0.Data s) : b0.Data (State.applyTables s) := by
  unfold State.applyTables
  repeat' (first | with_reducible assumption | intro _ _ _ | intro _ | with_reducible apply State.tblPut_data | with_reducible apply State.Data.foldl | with_reducible apply State.Data.foldl2 | with_reducible apply State.Data.foldl22 | with_reducible apply State.Data.foldl222 | with_reducible apply State.Data.foldl1 | split | ((with_reducible conv => arg 2; whnf); split) | ((with_reducible conv => arg 2; arg 1; whnf); split) | ((with_reducible conv => arg 2; arg 1; arg 1; whnf); split) | with_reducible apply State.Data.mk_)

theorem State.setupStart_data (b0 : State) (s : State) (op : Nat) (h0 : b0.Data s) : b0.Data (State.setupStart s op) := by
  unfold State.setupStart
  repeat' (first | with_reducible assumption | with_reducible apply State.setF_data | with_reducible apply State.Data.mk_ | intro _)

theorem State.setupEnd_data (b0 : State) (s : State) (code : Nat) (h0 : b0.Data s) : b0.Data (State.setupEnd s code) := by
  unfold State.setupEnd
  repeat' (first | with_reducible assumption | intro _ _ _ | intro _ | with_reducible apply State.raise_data | with_reducible apply State.hwSets_data | with_reducible apply State.Data.ite | with_reducible apply State.Data.ite2 | with_reducible apply State.Data.ite22 | with_reducible apply State.Data.ite222 | with_reducible apply State.Data.ite1 | with_reducible apply State.Data.ite21 | split | ((with_reducible conv => arg 2; whnf); split) | ((with_reducible conv => arg 2; arg 1; whnf); split) | ((with_reducible conv => arg 2; arg 1; arg 1; whnf); split) | with_reducible apply State.Data.mk_)

theorem doFabDiscover_data (b0 : State) (s : State) (h0 : b0.Data s) : b0.Data (doFabDiscover s) := by
  unfold doFabDiscover
  repeat' (first | with_reducible assumption | intro _ _ _ | intro _ | with_reducible apply State.refused_data | with_reducible apply State.setupStart_data | with_reducible apply State.answer_data | with_reducible apply State.Data.ite | with_reducible apply State.Data.ite2 | with_reducible apply State.Data.ite22 | with_reducible apply State.Data.ite222 | with_reducible apply State.Data.ite1 | with_reducible apply State.Data.ite21 | split | ((with_reducible conv => arg 2; whnf); split) | ((with_reducible conv => arg 2; arg 1; whnf); split) | ((with_reducible conv => arg 2; arg 1; arg 1; whnf); split) | with_reducible apply State.Data.mk_)

theorem execFabDiscover_data (b0 : State) (s : State) (h0 : b0.Data s) : b0.DataOut (execFabDiscover s) := by
  unfold execFabDiscover
  repeat' (first | with_reducible assumption | with_reducible apply doFabDiscover_data | with_reducible apply State.Data.next | intro _)

theorem doDiscoverDone_data (b0 : State) (links : List (Nat × Nat × Nat)) (s : State) (h0 : b0.Data s) : b0.Data (doDiscoverDone links s) := by
  unfold doDiscoverDone
  repeat' (first | with_reducible assumption | intro _ _ _ | intro _ | with_reducible apply State.setFs_data | with_reducible apply State.setF_data | with_reducible apply State.setupEnd_data | with_reducible apply State.Data.ite | with_reducible apply State.Data.ite2 | with_reducible apply State.Data.ite22 | with_reducible apply State.Data.ite222 | with_reducible apply State.Data.ite1 | with_reducible apply State.Data.ite21 | with_reducible apply State.Data.foldl | with_reducible apply State.Data.foldl2 | with_reducible apply State.Data.foldl22 | with_reducible apply State.Data.foldl222 | with_reducible apply State.Data.foldl1 | split | ((with_reducible conv => arg 2; whnf); split) | ((with_reducible conv => arg 2; arg 1; whnf); split) | ((with_reducible conv => arg 2; arg 1; arg 1; whnf); split) | with_reducible refine State.Data.eq2 (by with_reducible assumption) ?_ | with_reducible refine State.Data.eq22 (by with_reducible assumption) ?_ | with_reducible refine State.Data.eq222 (by with_reducible assumption) ?_ | with_reducible refine State.Data.eq1 (by with_reducible assumption) ?_ | with_reducible apply State.Data.mk_)

theorem execDiscoverDone_data (b0 : State) (links : List (Nat × Nat × Nat)) (s : State) (h0 : b0.Data s) : b0.DataOut (execDiscoverDone links s) := by
  unfold execDiscoverDone
  repeat' (first | with_reducible assumption | with_reducible apply doDiscoverDone_data | with_reducible apply State.Data.next | intro _)

theorem doFabApply_data (b0 : State) (s : State) (h0 : b0.Data s) : b0.Data (doFabApply s) := by
  unfold doFabApply
  repeat' (first | with_reducible assumption | intro _ _ _ | intro _ | with_reducible apply State.refused_data | with_reducible apply State.setupEnd_data | with_reducible apply State.answer_data | with_reducible apply State.setupStart_data | with_reducible apply State.Data.ite | with_reducible apply State.Data.ite2 | with_reducible apply State.Data.ite22 | with_reducible apply State.Data.ite222 | with_reducible apply State.Data.ite1 | with_reducible apply State.Data.ite21 | split | ((with_reducible conv => arg 2; whnf); split) | ((with_reducible conv => arg 2; arg 1; whnf); split) | ((with_reducible conv => arg 2; arg 1; arg 1; whnf); split) | with_reducible apply State.Data.mk_)

theorem execFabApply_data (b0 : State) (s : State) (h0 : b0.Data s) : b0.DataOut (execFabApply s) := by
  unfold execFabApply
  repeat' (first | with_reducible assumption | with_reducible apply doFabApply_data | with_reducible apply State.Data.next | intro _)

theorem doFabSave_data (b0 : State) (s : State) (h0 : b0.Data s) : b0.Data (doFabSave s) := by
  unfold doFabSave
  repeat' (first | with_reducible assumption | intro _ _ _ | intro _ | with_reducible apply State.refused_data | with_reducible apply State.setupStart_data | with_reducible apply State.answer_data | with_reducible apply State.Data.ite | with_reducible apply State.Data.ite2 | with_reducible apply State.Data.ite22 | with_reducible apply State.Data.ite222 | with_reducible apply State.Data.ite1 | with_reducible apply State.Data.ite21 | split | ((with_reducible conv => arg 2; whnf); split) | ((with_reducible conv => arg 2; arg 1; whnf); split) | ((with_reducible conv => arg 2; arg 1; arg 1; whnf); split) | with_reducible apply State.Data.mk_)

theorem execFabSave_data (b0 : State) (s : State) (h0 : b0.Data s) : b0.DataOut (execFabSave s) := by
  unfold execFabSave
  repeat' (first | with_reducible assumption | with_reducible apply doFabSave_data | with_reducible apply State.Data.next | intro _)

theorem doGatherTimeout_data (b0 : State) (gw key : Nat) (s : State) (h0 : b0.Data s) : b0.Data (doGatherTimeout gw key s) := by
  unfold doGatherTimeout
  repeat' (first | with_reducible assumption | intro _ _ _ | intro _ | with_reducible apply State.toNs_data | with_reducible apply State.closeGathers_data | split | ((with_reducible conv => arg 2; whnf); split) | with_reducible refine State.Data.eq2 (by with_reducible assumption) ?_ | with_reducible refine State.Data.eq22 (by with_reducible assumption) ?_ | with_reducible refine State.Data.eq222 (by with_reducible assumption) ?_ | with_reducible refine State.Data.eq1 (by with_reducible assumption) ?_)

theorem execGatherTimeout_data (b0 : State) (gw : Fin 2) (key : Nat) (s : State) (h0 : b0.Data s) : b0.DataOut (execGatherTimeout gw key s) := by
  unfold execGatherTimeout
  repeat' (first | with_reducible assumption | with_reducible apply doGatherTimeout_data | with_reducible apply State.Data.next | intro _)

end Sys2Proof.Machine
end

