-- ==== Sys2Proof/Laws/DataMover.lean ====
section
/-! SUPPORT. Operations of Machine/Mover.lean that leave all stored data alone. -/
namespace Sys2Proof.Machine

set_option linter.all false
set_option Elab.async false

theorem servePiece_data (b0 : State) (y port tag req t : Nat) (acc : List Byte × Nat × Option Nat × State) (p : Nat × Nat) (h0 : b0.Data acc.2.2.2) :
    b0.Data (servePiece y port tag req t acc p).2.2.2 := by
  obtain ⟨b, r, bad, s⟩ := acc
  unfold servePiece
  repeat' (first | with_reducible assumption | intro _ _ _ | intro _ | with_reducible apply State.spmRead_data | with_reducible apply State.noteSpm_data | with_reducible apply State.noteDouble_data | with_reducible apply State.adderRead_data | with_reducible apply State.t1Read_data | with_reducible apply State.Data.ite | with_reducible apply State.Data.ite2 | with_reducible apply State.Data.ite22 | with_reducible apply State.Data.ite222 | with_reducible apply State.Data.foldl | with_reducible apply State.Data.foldl2 | with_reducible apply State.Data.foldl22 | with_reducible apply State.Data.foldl222 | with_reducible refine State.Data.eq2 (by with_reducible assumption) ?_ | with_reducible refine State.Data.eq22 (by with_reducible assumption) ?_ | with_reducible refine State.Data.eq222 (by with_reducible assumption) ?_ | (with_reducible dsimp only []) | split | with_reducible apply State.Data.mk_)

theorem State.serveRead_data (b0 : State) (s : State) (y port tag req t : Nat) (l : List (Nat × Nat)) (h0 : b0.Data s) : b0.Data (State.serveRead s y port tag req t l).2.2.2 :=
  State.Data.foldl222 (t := ([], t, none, s)) h0 (fun u x h => servePiece_data _ _ _ _ _ _ u x h)

theorem flowAsk_data (b0 : State) (x : Xfer) (y t : Nat) (f : Flow) (s : State) (h0 : b0.Data s) : b0.Data (flowAsk x y t f s).2.2 := by
  unfold flowAsk
  repeat' (first | with_reducible assumption | intro _ _ _ | intro _ | with_reducible apply State.sendFlit_data | with_reducible apply State.Data.ite | with_reducible apply State.Data.ite2 | with_reducible apply State.Data.ite22 | with_reducible apply State.Data.ite222 | with_reducible apply State.Data.ite1 | with_reducible apply State.Data.ite21 | with_reducible refine State.Data.eq2 (by with_reducible assumption) ?_ | with_reducible refine State.Data.eq22 (by with_reducible assumption) ?_ | with_reducible refine State.Data.eq222 (by with_reducible assumption) ?_ | with_reducible refine State.Data.eq1 (by with_reducible assumption) ?_ | (with_reducible dsimp only []) | split | with_reducible apply State.Data.mk_)

theorem flowIndex_data (b0 : State) (x : Xfer) (acc : Flow × State) (g : Nat) (h0 : b0.Data acc.2) : b0.Data (flowIndex x acc g).2 := by
  obtain ⟨f, s⟩ := acc
  unfold flowIndex
  repeat' (first | with_reducible assumption | intro _ _ _ | intro _ | with_reducible apply State.spmRead_data | with_reducible apply State.Data.ite | with_reducible apply State.Data.ite2 | with_reducible apply State.Data.ite22 | with_reducible apply State.Data.ite222 | with_reducible apply State.Data.foldl | with_reducible apply State.Data.foldl2 | with_reducible apply State.Data.foldl22 | with_reducible apply State.Data.foldl222 | with_reducible refine State.Data.eq2 (by with_reducible assumption) ?_ | with_reducible refine State.Data.eq22 (by with_reducible assumption) ?_ | with_reducible refine State.Data.eq222 (by with_reducible assumption) ?_ | (with_reducible dsimp only []) | split | with_reducible apply State.Data.mk_)

theorem flowTier_data (b0 : State) (x : Xfer) (cls t : Nat) (acc : Nat × List Byte × State) (p : Nat × Nat) (h0 : b0.Data acc.2.2) : b0.Data (flowTier x cls t acc p).2.2 := by
  obtain ⟨c, d, s⟩ := acc
  unfold flowTier
  repeat' (first | with_reducible assumption | intro _ _ _ | intro _ | with_reducible apply State.windowRead_data | with_reducible apply State.extReadFlit_data | with_reducible apply State.Data.ite | with_reducible apply State.Data.ite2 | with_reducible apply State.Data.ite22 | with_reducible apply State.Data.ite222 | with_reducible apply State.Data.foldl | with_reducible apply State.Data.foldl2 | with_reducible apply State.Data.foldl22 | with_reducible apply State.Data.foldl222 | with_reducible refine State.Data.eq2 (by with_reducible assumption) ?_ | with_reducible refine State.Data.eq22 (by with_reducible assumption) ?_ | with_reducible refine State.Data.eq222 (by with_reducible assumption) ?_ | (with_reducible dsimp only []) | split | with_reducible apply State.Data.mk_)

theorem flowRequest_data (b0 : State) (x : Xfer) (f : Flow) (s : State) (h0 : b0.Data s) : b0.Data (flowRequest x f s).2 := by
  unfold flowRequest
  repeat' (first | with_reducible assumption | intro _ _ _ | intro _ | with_reducible apply flowIndex_data | with_reducible apply State.serveRead_data | with_reducible apply flowAsk_data | with_reducible apply State.sendFlit_data | with_reducible apply flowTier_data | with_reducible apply State.Data.ite | with_reducible apply State.Data.ite2 | with_reducible apply State.Data.ite22 | with_reducible apply State.Data.ite222 | with_reducible apply State.Data.ite1 | with_reducible apply State.Data.ite21 | with_reducible apply State.Data.foldl | with_reducible apply State.Data.foldl2 | with_reducible apply State.Data.foldl22 | with_reducible apply State.Data.foldl222 | with_reducible apply State.Data.foldl1 | with_reducible refine State.Data.eq2 (by with_reducible assumption) ?_ | with_reducible refine State.Data.eq22 (by with_reducible assumption) ?_ | with_reducible refine State.Data.eq222 (by with_reducible assumption) ?_ | with_reducible refine State.Data.eq1 (by with_reducible assumption) ?_ | (with_reducible dsimp only []) | split | with_reducible apply State.Data.mk_)

theorem scanRun_data (b0 : State) (x : Xfer) (x0 : Nat) (x1 : Flow) (s : State) (h0 : b0.Data s) : b0.Data (scanRun x x0 x1 s).2 := by
  induction x0 generalizing x1 s with
  | zero =>
    unfold scanRun
    repeat' (first | with_reducible assumption | intro _ _ _ | intro _ | with_reducible apply flowRequest_data | with_reducible apply State.Data.ite | with_reducible apply State.Data.ite2 | with_reducible apply State.Data.ite22 | with_reducible apply State.Data.ite222 | with_reducible apply State.Data.ite1 | with_reducible apply State.Data.ite21 | split | ((with_reducible conv => arg 2; whnf); split) | ((with_reducible conv => arg 2; arg 1; whnf); split) | ((with_reducible conv => arg 2; arg 1; arg 1; whnf); split) | with_reducible refine State.Data.eq2 (by with_reducible assumption) ?_ | with_reducible refine State.Data.eq22 (by with_reducible assumption) ?_ | with_reducible refine State.Data.eq222 (by with_reducible assumption) ?_ | with_reducible refine State.Data.eq1 (by with_reducible assumption) ?_ | with_reducible apply State.Data.mk_)
  | succ k ih =>
    unfold scanRun
    repeat' (first | with_reducible apply ih | with_reducible assumption | intro _ _ _ | intro _ | with_reducible apply flowRequest_data | with_reducible apply State.Data.ite | with_reducible apply State.Data.ite2 | with_reducible apply State.Data.ite22 | with_reducible apply State.Data.ite222 | with_reducible apply State.Data.ite1 | with_reducible apply State.Data.ite21 | split | ((with_reducible conv => arg 2; whnf); split) | ((with_reducible conv => arg 2; arg 1; whnf); split) | ((with_reducible conv => arg 2; arg 1; arg 1; whnf); split) | with_reducible refine State.Data.eq2 (by with_reducible assumption) ?_ | with_reducible refine State.Data.eq22 (by with_reducible assumption) ?_ | with_reducible refine State.Data.eq222 (by with_reducible assumption) ?_ | with_reducible refine State.Data.eq1 (by with_reducible assumption) ?_ | with_reducible apply State.Data.mk_)

theorem State.mismatch_data (b0 : State) (s : State) (die m idx poly got read : Nat) (h0 : b0.Data s) : b0.Data (State.mismatch s die m idx poly got read) := by
  unfold State.mismatch
  repeat' (first | with_reducible assumption | intro _ _ _ | intro _ | with_reducible apply State.hwSet_data | with_reducible apply State.count_data | with_reducible apply State.raiseCmd_data | with_reducible apply State.Data.ite | with_reducible apply State.Data.ite2 | with_reducible apply State.Data.ite22 | with_reducible apply State.Data.ite222 | with_reducible apply State.Data.ite1 | with_reducible apply State.Data.ite21 | with_reducible apply State.Data.foldl | with_reducible apply State.Data.foldl2 | with_reducible apply State.Data.foldl22 | with_reducible apply State.Data.foldl222 | with_reducible apply State.Data.foldl1 | split | ((with_reducible conv => arg 2; whnf); split) | ((with_reducible conv => arg 2; arg 1; whnf); split) | ((with_reducible conv => arg 2; arg 1; arg 1; whnf); split) | with_reducible apply State.Data.mk_)

theorem checked_data (b0 : State) (die m idx poly v got fin w : Nat) (out : Bool) (s : State) (h0 : b0.Data s) : b0.Data (checked die m idx poly v got fin w out s).2 := by
  unfold checked
  repeat' (first | with_reducible assumption | intro _ _ _ | intro _ | with_reducible apply State.mismatch_data | with_reducible apply State.Data.ite | with_reducible apply State.Data.ite2 | with_reducible apply State.Data.ite22 | with_reducible apply State.Data.ite222 | with_reducible apply State.Data.ite1 | with_reducible apply State.Data.ite21 | split | ((with_reducible conv => arg 2; whnf); split) | ((with_reducible conv => arg 2; arg 1; whnf); split) | ((with_reducible conv => arg 2; arg 1; arg 1; whnf); split) | with_reducible apply State.Data.pair2 | with_reducible apply State.Data.pair22 | with_reducible apply State.Data.pair222 | with_reducible apply State.Data.mk_)

theorem State.faultMove_data (b0 : State) (s : State) (die m idx i cls code cyc : Nat) (kv : Nat × Nat) (h0 : b0.Data s) : b0.Data (State.faultMove s die m idx i cls code cyc kv) := by
  unfold State.faultMove
  repeat' (first | with_reducible assumption | intro _ _ _ | intro _ | with_reducible apply State.hwSets_data | with_reducible apply State.noteSpm_data | with_reducible apply State.faultCmd_data | with_reducible apply State.nameReports_data | with_reducible apply State.Data.ite | with_reducible apply State.Data.ite2 | with_reducible apply State.Data.ite22 | with_reducible apply State.Data.ite222 | with_reducible apply State.Data.ite1 | with_reducible apply State.Data.ite21 | split | ((with_reducible conv => arg 2; whnf); split) | ((with_reducible conv => arg 2; arg 1; whnf); split) | ((with_reducible conv => arg 2; arg 1; arg 1; whnf); split) | with_reducible apply State.Data.mk_)

theorem doSpmScrub_data (b0 : State) (die bank : Nat) (fails : Bool) (s : State) (h0 : b0.Data s) : b0.Data (doSpmScrub die bank fails s) := by
  unfold doSpmScrub
  repeat' (first | with_reducible assumption | intro _ _ _ | intro _ | with_reducible apply State.spmCorrect_data | with_reducible apply State.count_data | with_reducible apply State.updDie_data | with_reducible apply State.needSpare_data | with_reducible apply State.Data.ite | split | ((with_reducible conv => arg 2; whnf); split) | with_reducible apply State.Data.mk_)

theorem execSpmScrub_data (b0 : State) (die : Fin 4) (bank : Fin 256) (fails : Bool) (s : State) (h0 : b0.Data s) : b0.DataOut (execSpmScrub die bank fails s) := by
  unfold execSpmScrub
  repeat' (first | with_reducible assumption | with_reducible apply doSpmScrub_data | with_reducible apply State.Data.next | intro _)

end Sys2Proof.Machine
end

