-- ==== Sys2Proof/Laws/DataSeq.lean ====
section
/-! SUPPORT. Operations of Machine/Seq.lean that leave all stored data alone. -/
namespace Sys2Proof.Machine

set_option linter.all false
set_option Elab.async false

theorem State.setSeq_data (b0 : State) (s : State) (k : SeqId) (q : Seq) (h0 : b0.Data s) : b0.Data (State.setSeq s k q) := by
  unfold State.setSeq
  repeat' (first | with_reducible assumption | split | ((with_reducible conv => arg 2; whnf); split) | with_reducible refine State.Data.eq2 (by with_reducible assumption) ?_ | with_reducible refine State.Data.eq22 (by with_reducible assumption) ?_ | with_reducible refine State.Data.eq222 (by with_reducible assumption) ?_ | with_reducible refine State.Data.eq1 (by with_reducible assumption) ?_ | with_reducible apply State.Data.mk_ | intro _)

theorem State.updSeq_data (b0 : State) (s : State) (k : SeqId) (f : Seq → Seq) (h0 : b0.Data s) : b0.Data (State.updSeq s k f) := by
  unfold State.updSeq
  repeat' (first | with_reducible assumption | with_reducible apply State.setSeq_data | intro _)

theorem State.seqLoad_data (b0 : State) (s : State) (k : SeqId) (v : Nat) (h0 : b0.Data s) : b0.Data (State.seqLoad s k v) := by
  unfold State.seqLoad
  repeat' (first | with_reducible assumption | intro _ _ _ | intro _ | with_reducible apply State.setFs_data | with_reducible apply State.answer_data | with_reducible apply State.refused_data | with_reducible apply State.setF_data | with_reducible apply State.updSeq_data | with_reducible apply State.Data.ite | with_reducible apply State.Data.ite2 | with_reducible apply State.Data.ite22 | with_reducible apply State.Data.ite222 | with_reducible apply State.Data.ite1 | with_reducible apply State.Data.ite21 | split | ((with_reducible conv => arg 2; whnf); split) | ((with_reducible conv => arg 2; arg 1; whnf); split) | ((with_reducible conv => arg 2; arg 1; arg 1; whnf); split) | with_reducible apply State.Data.mk_)

theorem State.seqLoaded_data (b0 : State) (s : State) (k : SeqId) (b : Nat) (res : Except (Nat × Nat) TabBank) (h0 : b0.Data s) : b0.Data (State.seqLoaded s k b res) := by
  unfold State.seqLoaded
  repeat' (first | with_reducible assumption | intro _ _ _ | intro _ | with_reducible apply State.raise_data | with_reducible apply State.updSeq_data | with_reducible apply State.setBank_data | with_reducible apply State.hwSets_data | with_reducible apply State.Data.ite | with_reducible apply State.Data.ite2 | with_reducible apply State.Data.ite22 | with_reducible apply State.Data.ite222 | with_reducible apply State.Data.ite1 | with_reducible apply State.Data.ite21 | split | ((with_reducible conv => arg 2; whnf); split) | ((with_reducible conv => arg 2; arg 1; whnf); split) | ((with_reducible conv => arg 2; arg 1; arg 1; whnf); split) | with_reducible refine State.Data.eq2 (by with_reducible assumption) ?_ | with_reducible refine State.Data.eq22 (by with_reducible assumption) ?_ | with_reducible refine State.Data.eq222 (by with_reducible assumption) ?_ | with_reducible refine State.Data.eq1 (by with_reducible assumption) ?_ | with_reducible apply State.Data.mk_)

theorem State.seqSlip_data (b0 : State) (s : State) (k : SeqId) (e : TabEntry) (kind slip : Nat) (h0 : b0.Data s) : b0.Data (State.seqSlip s k e kind slip) := by
  unfold State.seqSlip
  repeat' (first | with_reducible assumption | with_reducible apply State.raise_data | with_reducible apply State.addSlip_data | intro _)

theorem State.seqBegin_data (b0 : State) (s : State) (k : SeqId) (i : Nat) (e : TabEntry) (t dep ou left : Nat) (h0 : b0.Data s) : b0.Data (State.seqBegin s k i e t dep ou left) := by
  unfold State.seqBegin
  repeat' (first | with_reducible assumption | intro _ _ _ | intro _ | with_reducible apply State.toCyc_data | with_reducible apply State.seqSlip_data | with_reducible apply State.commit_data | with_reducible apply State.updSeq_data | with_reducible apply State.Data.ite | split | ((with_reducible conv => arg 2; whnf); split) | with_reducible apply State.Data.mk_)

theorem State.updSeqRun_data (b0 : State) (s : State) (k : SeqId) (i : Nat) (f : SeqRun → SeqRun) (h0 : b0.Data s) : b0.Data (State.updSeqRun s k i f) := by
  unfold State.updSeqRun
  repeat' (first | with_reducible assumption | intro _ _ _ | intro _ | with_reducible apply State.updSeq_data | with_reducible apply State.Data.ite | split | ((with_reducible conv => arg 2; whnf); split) | with_reducible apply State.Data.mk_)

theorem State.seqDone_data (b0 : State) (s : State) (k : SeqId) (i c kind num delay : Nat) (h0 : b0.Data s) : b0.Data (State.seqDone s k i c kind num delay) := by
  unfold State.seqDone
  repeat' (first | with_reducible assumption | intro _ _ _ | intro _ | with_reducible apply State.updSeq_data | with_reducible apply State.updPart_data | with_reducible apply State.sendDep_data | with_reducible apply State.Data.ite | split | ((with_reducible conv => arg 2; whnf); split) | with_reducible apply State.Data.mk_)

theorem State.seqFault_data (b0 : State) (s : State) (k : SeqId) (code num f : Nat) (h0 : b0.Data s) : b0.Data (State.seqFault s k code num f) := by
  unfold State.seqFault
  repeat' (first | with_reducible assumption | with_reducible apply State.raise_data | with_reducible apply State.failFrame_data | intro _)

end Sys2Proof.Machine
end

