-- ==== Sys2Proof/Laws/DataPmov.lean ====
section
/-! SUPPORT. Operations of Machine/Pmov.lean that leave all stored data alone. -/
namespace Sys2Proof.Machine

set_option linter.all false
set_option Elab.async false

theorem doPmovLoad_data (b0 : State) (v : Nat) (s : State) (h0 : b0.Data s) : b0.Data (doPmovLoad v s) := by
  unfold doPmovLoad
  repeat' (first | with_reducible assumption | with_reducible apply State.seqLoad_data | intro _)

theorem execPmovLoad_data (b0 : State) (val : Word) (s : State) (h0 : b0.Data s) : b0.DataOut (execPmovLoad val s) := by
  unfold execPmovLoad
  repeat' (first | with_reducible assumption | with_reducible apply doPmovLoad_data | with_reducible apply State.Data.next | intro _)

theorem doPmovLoadDone_data (b0 : State) (s : State) (h0 : b0.Data s) : b0.Data (doPmovLoadDone s) := by
  unfold doPmovLoadDone
  repeat' (first | with_reducible assumption | intro _ _ _ | intro _ | with_reducible apply State.extRead_data | with_reducible apply State.setF_data | with_reducible apply State.seqLoaded_data | with_reducible apply State.Data.ite | with_reducible apply State.Data.ite2 | with_reducible apply State.Data.ite22 | with_reducible apply State.Data.ite222 | with_reducible apply State.Data.ite1 | with_reducible apply State.Data.ite21 | split | ((with_reducible conv => arg 2; whnf); split) | ((with_reducible conv => arg 2; arg 1; whnf); split) | ((with_reducible conv => arg 2; arg 1; arg 1; whnf); split) | with_reducible refine State.Data.eq2 (by with_reducible assumption) ?_ | with_reducible refine State.Data.eq22 (by with_reducible assumption) ?_ | with_reducible refine State.Data.eq222 (by with_reducible assumption) ?_ | with_reducible refine State.Data.eq1 (by with_reducible assumption) ?_ | with_reducible apply State.Data.mk_)

theorem execPmovLoadDone_data (b0 : State) (s : State) (h0 : b0.Data s) : b0.DataOut (execPmovLoadDone s) := by
  unfold execPmovLoadDone
  repeat' (first | with_reducible assumption | with_reducible apply doPmovLoadDone_data | with_reducible apply State.Data.next | intro _)

theorem State.faultPmov_data (b0 : State) (s : State) (ch i num code f : Nat) (h0 : b0.Data s) : b0.Data (State.faultPmov s ch i num code f) := by
  unfold State.faultPmov
  repeat' (first | with_reducible assumption | intro _ _ _ | intro _ | with_reducible apply State.hwSets_data | with_reducible apply State.updSeqRun_data | with_reducible apply State.seqFault_data | split | ((with_reducible conv => arg 2; whnf); split) | ((with_reducible conv => arg 2; arg 1; whnf); split) | ((with_reducible conv => arg 2; arg 1; arg 1; whnf); split) | with_reducible apply State.Data.mk_)

theorem doPmovTransferComplete_data (b0 : State) (ch cyc : Nat) (s : State) (h0 : b0.Data s) : b0.Data (doPmovTransferComplete ch cyc s) := by
  unfold doPmovTransferComplete
  repeat' (first | with_reducible assumption | intro _ _ _ | intro _ | with_reducible apply State.toCyc_data | with_reducible apply State.updSeq_data | with_reducible apply State.seqDone_data | with_reducible apply State.Data.ite | with_reducible apply State.Data.ite2 | with_reducible apply State.Data.ite22 | with_reducible apply State.Data.ite222 | with_reducible apply State.Data.ite1 | with_reducible apply State.Data.ite21 | split | ((with_reducible conv => arg 2; whnf); split) | ((with_reducible conv => arg 2; arg 1; whnf); split) | ((with_reducible conv => arg 2; arg 1; arg 1; whnf); split) | with_reducible refine State.Data.eq2 (by with_reducible assumption) ?_ | with_reducible refine State.Data.eq22 (by with_reducible assumption) ?_ | with_reducible refine State.Data.eq222 (by with_reducible assumption) ?_ | with_reducible refine State.Data.eq1 (by with_reducible assumption) ?_ | with_reducible apply State.Data.mk_)

theorem execPmovTransferComplete_data (b0 : State) (ch : Fin 4) (cyc : Nat) (s : State) (h0 : b0.Data s) : b0.DataOut (execPmovTransferComplete ch cyc s) := by
  unfold execPmovTransferComplete
  repeat' (first | with_reducible assumption | with_reducible apply doPmovTransferComplete_data | with_reducible apply State.Data.next | intro _)

theorem doMigrationStart_data (b0 : State) (p v : Nat) (s : State) (h0 : b0.Data s) : b0.Data (doMigrationStart p v s) := by
  unfold doMigrationStart
  repeat' (first | with_reducible assumption | intro _ _ _ | intro _ | with_reducible apply State.setF_data | with_reducible apply State.clearBits_data | with_reducible apply State.answer_data | with_reducible apply State.hwSets_data | with_reducible apply State.refused_data | with_reducible apply State.Data.ite | with_reducible apply State.Data.ite2 | with_reducible apply State.Data.ite22 | with_reducible apply State.Data.ite222 | with_reducible apply State.Data.ite1 | with_reducible apply State.Data.ite21 | split | ((with_reducible conv => arg 2; whnf); split) | ((with_reducible conv => arg 2; arg 1; whnf); split) | ((with_reducible conv => arg 2; arg 1; arg 1; whnf); split) | with_reducible apply State.Data.mk_)

theorem execMigrationStart_data (b0 : State) (p : Fin 4) (val : Word) (s : State) (h0 : b0.Data s) : b0.DataOut (execMigrationStart p val s) := by
  unfold execMigrationStart
  repeat' (first | with_reducible assumption | with_reducible apply doMigrationStart_data | with_reducible apply State.Data.next | intro _)

end Sys2Proof.Machine
end

