-- ==== Sys2Proof/Laws/DataCkpt.lean ====
section
/-! SUPPORT. Operations of Machine/Ckpt.lean that leave all stored data alone. -/
namespace Sys2Proof.Machine

set_option linter.all false
set_option Elab.async false

theorem State.updCk_data (b0 : State) (s : State) (p : Nat) (f : Ckpt → Ckpt) (h0 : b0.Data s) : b0.Data (State.updCk s p f) := by
  unfold State.updCk
  repeat' (first | with_reducible assumption | intro _ _ _ | intro _ | with_reducible apply State.Data.ite | with_reducible apply State.Data.ite2 | with_reducible apply State.Data.ite22 | with_reducible apply State.Data.ite222 | with_reducible apply State.Data.ite1 | with_reducible apply State.Data.ite21 | split | ((with_reducible conv => arg 2; whnf); split) | ((with_reducible conv => arg 2; arg 1; whnf); split) | ((with_reducible conv => arg 2; arg 1; arg 1; whnf); split) | with_reducible apply State.Data.mk_)

theorem State.slotValid_data (b0 : State) (s : State) (p i : Nat) (h0 : b0.Data s) : b0.Data (State.slotValid s p i).2 := by
  unfold State.slotValid
  repeat' (first | with_reducible assumption | with_reducible apply State.verify_data | with_reducible apply State.Data.ite | with_reducible apply State.Data.ite2 | with_reducible apply State.Data.ite22 | with_reducible apply State.Data.ite222 | with_reducible apply State.Data.ite1 | with_reducible apply State.Data.ite21 | split | ((with_reducible conv => arg 2; whnf); split) | ((with_reducible conv => arg 2; arg 1; whnf); split) | ((with_reducible conv => arg 2; arg 1; arg 1; whnf); split) | with_reducible refine State.Data.eq2 (by with_reducible assumption) ?_ | with_reducible refine State.Data.eq22 (by with_reducible assumption) ?_ | with_reducible refine State.Data.eq222 (by with_reducible assumption) ?_ | with_reducible refine State.Data.eq1 (by with_reducible assumption) ?_ | intro _)

theorem State.ckSlots_data (b0 : State) (s : State) (p : Nat) (h0 : b0.Data s) : b0.Data (State.ckSlots s p) := by
  unfold State.ckSlots
  repeat' (first | with_reducible assumption | intro _ _ _ | intro _ | with_reducible apply State.setFs_data | split | ((with_reducible conv => arg 2; whnf); split))

theorem State.allSlots_data (b0 : State) (s : State) (h0 : b0.Data s) : b0.Data (State.allSlots s) := by
  unfold State.allSlots
  repeat' (first | with_reducible assumption | intro _ _ _ | intro _ | with_reducible apply State.ckSlots_data | with_reducible apply State.Data.foldl | with_reducible apply State.Data.foldl2 | with_reducible apply State.Data.foldl22 | with_reducible apply State.Data.foldl222 | with_reducible apply State.Data.foldl1 | split | ((with_reducible conv => arg 2; whnf); split) | ((with_reducible conv => arg 2; arg 1; whnf); split) | ((with_reducible conv => arg 2; arg 1; arg 1; whnf); split) | with_reducible apply State.Data.mk_)

theorem State.ckEnd_data (b0 : State) (s : State) (p code : Nat) (h0 : b0.Data s) : b0.Data (State.ckEnd s p code) := by
  unfold State.ckEnd
  repeat' (first | with_reducible assumption | intro _ _ _ | intro _ | with_reducible apply State.hwSets_data | with_reducible apply State.updCk_data | with_reducible apply State.raise_data | with_reducible apply State.Data.ite | with_reducible apply State.Data.ite2 | with_reducible apply State.Data.ite22 | with_reducible apply State.Data.ite222 | with_reducible apply State.Data.ite1 | with_reducible apply State.Data.ite21 | split | ((with_reducible conv => arg 2; whnf); split) | ((with_reducible conv => arg 2; arg 1; whnf); split) | ((with_reducible conv => arg 2; arg 1; arg 1; whnf); split) | with_reducible apply State.Data.mk_)

theorem State.ckFail_data (b0 : State) (s : State) (p code : Nat) (h0 : b0.Data s) : b0.Data (State.ckFail s p code) := by
  unfold State.ckFail
  repeat' (first | with_reducible assumption | with_reducible apply State.ckEnd_data | with_reducible apply State.ckSlots_data | intro _)

theorem State.ckManifest_data (b0 : State) (s : State) (p : Nat) (h0 : b0.Data s) : b0.Data (State.ckManifest s p).2 := by
  unfold State.ckManifest
  repeat' (first | with_reducible assumption | intro _ _ _ | intro _ | with_reducible apply State.sign_data | with_reducible apply State.freshBytes_data | split | ((with_reducible conv => arg 2; whnf); split) | ((with_reducible conv => arg 2; arg 1; whnf); split) | ((with_reducible conv => arg 2; arg 1; arg 1; whnf); split) | with_reducible refine State.Data.eq2 (by with_reducible assumption) ?_ | with_reducible refine State.Data.eq22 (by with_reducible assumption) ?_ | with_reducible refine State.Data.eq222 (by with_reducible assumption) ?_ | with_reducible refine State.Data.eq1 (by with_reducible assumption) ?_)

theorem State.ckSend_data (b0 : State) (s : State) (p : Nat) (c : CkChunk) (payload : List Byte) (h0 : b0.Data s) : b0.Data (State.ckSend s p c payload) := by
  unfold State.ckSend
  repeat' (first | with_reducible assumption | intro _ _ _ | intro _ | with_reducible apply State.updCk_data | with_reducible apply State.count_data | with_reducible apply State.newTx_data | with_reducible apply State.Data.foldl | with_reducible apply State.Data.foldl2 | with_reducible apply State.Data.foldl22 | with_reducible apply State.Data.foldl222 | with_reducible apply State.Data.foldl1 | split | ((with_reducible conv => arg 2; whnf); split) | with_reducible apply State.Data.mk_)

theorem State.recordPart_data (b0 : State) (s : State) (e : List Byte) (lo n : Nat) (h0 : b0.Data s) : b0.Data (State.recordPart s e lo n).2.2 := by
  unfold State.recordPart
  repeat' (first | with_reducible assumption | intro _ _ _ | intro _ | with_reducible apply State.extRead_data | with_reducible apply State.Data.ite | with_reducible apply State.Data.ite2 | with_reducible apply State.Data.ite22 | with_reducible apply State.Data.ite222 | with_reducible apply State.Data.ite1 | with_reducible apply State.Data.ite21 | split | ((with_reducible conv => arg 2; whnf); split) | ((with_reducible conv => arg 2; arg 1; whnf); split) | ((with_reducible conv => arg 2; arg 1; arg 1; whnf); split) | with_reducible refine State.Data.eq2 (by with_reducible assumption) ?_ | with_reducible refine State.Data.eq22 (by with_reducible assumption) ?_ | with_reducible refine State.Data.eq222 (by with_reducible assumption) ?_ | with_reducible refine State.Data.eq1 (by with_reducible assumption) ?_ | with_reducible apply State.Data.pair2 | with_reducible apply State.Data.pair22 | with_reducible apply State.Data.pair222 | with_reducible apply State.Data.mk_)

theorem State.ckFeed_data (b0 : State) (s : State) (p o : Nat) (b : List Byte) (h0 : b0.Data s) : b0.Data (State.ckFeed s p o b) := by
  unfold State.ckFeed
  repeat' (first | with_reducible assumption | intro _ _ _ | intro _ | with_reducible apply State.setF_data | with_reducible apply State.Data.mk_)

theorem State.mirrorAcked_data (b0 : State) (s : State) (p n : Nat) (h0 : b0.Data s) : b0.Data (State.mirrorAcked s p n) := by
  unfold State.mirrorAcked
  repeat' (first | with_reducible assumption | intro _ _ _ | intro _ | with_reducible apply State.updCk_data | with_reducible apply State.newTx_data | with_reducible apply State.Data.ite | split | ((with_reducible conv => arg 2; whnf); split) | with_reducible apply State.Data.mk_)

theorem doCkptAbandon_data (b0 : State) (p : Nat) (s : State) (h0 : b0.Data s) : b0.Data (doCkptAbandon p s) := by
  unfold doCkptAbandon
  repeat' (first | with_reducible assumption | with_reducible apply State.ckFail_data | with_reducible apply State.answer_data | with_reducible apply State.Data.ite | split | ((with_reducible conv => arg 2; whnf); split) | intro _)

theorem execCkptAbandon_data (b0 : State) (p : Fin 4) (s : State) (h0 : b0.Data s) : b0.DataOut (execCkptAbandon p s) := by
  unfold execCkptAbandon
  repeat' (first | with_reducible assumption | with_reducible apply doCkptAbandon_data | with_reducible apply State.Data.next | intro _)

theorem doCkptBuddyLost_data (b0 : State) (p : Nat) (s : State) (h0 : b0.Data s) : b0.Data (doCkptBuddyLost p s) := by
  unfold doCkptBuddyLost
  repeat' (first | with_reducible assumption | with_reducible apply State.ckFail_data | with_reducible apply State.Data.ite | split | ((with_reducible conv => arg 2; whnf); split) | intro _)

theorem execCkptBuddyLost_data (b0 : State) (p : Fin 4) (s : State) (h0 : b0.Data s) : b0.DataOut (execCkptBuddyLost p s) := by
  unfold execCkptBuddyLost
  repeat' (first | with_reducible assumption | with_reducible apply doCkptBuddyLost_data | with_reducible apply State.Data.next | intro _)

theorem doCkptMirrorWrite_data (b0 : State) (p off v : Nat) (s : State) (h0 : b0.Data s) : b0.Data (doCkptMirrorWrite p off v s) := by
  unfold doCkptMirrorWrite
  repeat' (first | with_reducible assumption | intro _ _ _ | intro _ | with_reducible apply State.refused_data | with_reducible apply State.setF_data | with_reducible apply State.answer_data | with_reducible apply State.setFs_data | with_reducible apply State.updCk_data | with_reducible apply State.Data.ite | with_reducible apply State.Data.ite2 | with_reducible apply State.Data.ite22 | with_reducible apply State.Data.ite222 | with_reducible apply State.Data.ite1 | with_reducible apply State.Data.ite21 | split | ((with_reducible conv => arg 2; whnf); split) | ((with_reducible conv => arg 2; arg 1; whnf); split) | ((with_reducible conv => arg 2; arg 1; arg 1; whnf); split) | with_reducible apply State.Data.mk_)

theorem execCkptMirrorWrite_data (b0 : State) (p : Fin 4) (off : Nat) (val : Word) (s : State) (h0 : b0.Data s) : b0.DataOut (execCkptMirrorWrite p off val s) := by
  unfold execCkptMirrorWrite
  repeat' (first | with_reducible assumption | with_reducible apply doCkptMirrorWrite_data | with_reducible apply State.Data.next | intro _)

theorem State.ckBegin_data (b0 : State) (s : State) (p op : Nat) (h0 : b0.Data s) : b0.Data (State.ckBegin s p op) := by
  unfold State.ckBegin
  repeat' (first | with_reducible assumption | intro _ _ _ | intro _ | with_reducible apply State.setFs_data | with_reducible apply State.updCk_data | split | ((with_reducible conv => arg 2; whnf); split) | with_reducible apply State.Data.mk_)

theorem doCkptOpDone_data (b0 : State) (p : Nat) (s : State) (h0 : b0.Data s) : b0.Data (doCkptOpDone p s) := by
  unfold doCkptOpDone
  repeat' (first | with_reducible assumption | intro _ _ _ | intro _ | with_reducible apply State.ckEnd_data | with_reducible apply State.Data.ite | split | ((with_reducible conv => arg 2; whnf); split) | with_reducible refine State.Data.eq2 (by with_reducible assumption) ?_ | with_reducible refine State.Data.eq22 (by with_reducible assumption) ?_ | with_reducible refine State.Data.eq222 (by with_reducible assumption) ?_ | with_reducible refine State.Data.eq1 (by with_reducible assumption) ?_)

theorem execCkptOpDone_data (b0 : State) (p : Fin 4) (s : State) (h0 : b0.Data s) : b0.DataOut (execCkptOpDone p s) := by
  unfold execCkptOpDone
  repeat' (first | with_reducible assumption | intro _ _ _ | intro _ | with_reducible apply State.orWait_data | with_reducible apply doCkptOpDone_data | with_reducible apply State.Data.next | with_reducible apply State.Data.mk_)

end Sys2Proof.Machine
end

