-- ==== Sys2Proof/Laws/DataBoot.lean ====
section
/-! SUPPORT. Operations of Machine/Boot.lean that leave all stored data alone. -/
namespace Sys2Proof.Machine

set_option linter.all false
set_option Elab.async false

theorem State.checkFirmware_data (b0 : State) (s : State) (fw : List Byte) (h0 : b0.Data s) : b0.Data (State.checkFirmware s fw).2 := by
  unfold State.checkFirmware
  repeat' (first | with_reducible assumption | with_reducible apply State.verify_data | with_reducible apply State.Data.ite | with_reducible apply State.Data.ite2 | with_reducible apply State.Data.ite22 | with_reducible apply State.Data.ite222 | with_reducible apply State.Data.ite1 | with_reducible apply State.Data.ite21 | split | ((with_reducible conv => arg 2; whnf); split) | ((with_reducible conv => arg 2; arg 1; whnf); split) | ((with_reducible conv => arg 2; arg 1; arg 1; whnf); split) | intro _)

theorem State.checkConfig_data (b0 : State) (s : State) (c : List Byte) (h0 : b0.Data s) : b0.Data (State.checkConfig s c).2 := by
  unfold State.checkConfig
  repeat' (first | with_reducible assumption | intro _ _ _ | intro _ | with_reducible apply State.verify_data | with_reducible apply State.Data.ite | with_reducible apply State.Data.ite2 | with_reducible apply State.Data.ite22 | with_reducible apply State.Data.ite222 | with_reducible apply State.Data.ite1 | with_reducible apply State.Data.ite21 | split | ((with_reducible conv => arg 2; whnf); split) | ((with_reducible conv => arg 2; arg 1; whnf); split) | ((with_reducible conv => arg 2; arg 1; arg 1; whnf); split))

theorem State.checkImage_data (b0 : State) (s : State) (dir : List Byte) (cfg fw : Nat → List Byte) (h0 : b0.Data s) : b0.Data (State.checkImage s dir cfg fw).2 := by
  unfold State.checkImage
  repeat' (first | with_reducible assumption | with_reducible apply State.checkFirmware_data | with_reducible apply State.checkConfig_data | with_reducible apply State.Data.ite | with_reducible apply State.Data.ite2 | with_reducible apply State.Data.ite22 | with_reducible apply State.Data.ite222 | with_reducible apply State.Data.ite1 | with_reducible apply State.Data.ite21 | split | ((with_reducible conv => arg 2; whnf); split) | ((with_reducible conv => arg 2; arg 1; whnf); split) | ((with_reducible conv => arg 2; arg 1; arg 1; whnf); split) | with_reducible refine State.Data.eq2 (by with_reducible assumption) ?_ | with_reducible refine State.Data.eq22 (by with_reducible assumption) ?_ | with_reducible refine State.Data.eq222 (by with_reducible assumption) ?_ | with_reducible refine State.Data.eq1 (by with_reducible assumption) ?_ | intro _)

theorem State.darkroom_data (b0 : State) (s : State) (h0 : b0.Data s) : b0.Data (State.darkroom s) := by
  unfold State.darkroom
  repeat' (first | with_reducible assumption | with_reducible apply State.setF_data | with_reducible apply State.Data.mk_ | intro _)

theorem State.checkService_data (b0 : State) (s : State) (h0 : b0.Data s) : b0.Data (State.checkService s).2 := by
  unfold State.checkService
  repeat' (first | with_reducible assumption | with_reducible apply State.verify_data | with_reducible apply State.currentRecord_data | with_reducible apply State.Data.ite | with_reducible apply State.Data.ite2 | with_reducible apply State.Data.ite22 | with_reducible apply State.Data.ite222 | with_reducible apply State.Data.ite1 | with_reducible apply State.Data.ite21 | split | ((with_reducible conv => arg 2; whnf); split) | ((with_reducible conv => arg 2; arg 1; whnf); split) | ((with_reducible conv => arg 2; arg 1; arg 1; whnf); split) | with_reducible apply State.Data.mk_ | intro _)

theorem State.applyConfig_data (b0 : State) (s : State) (c : List Byte) (t3Gb : Nat) (h0 : b0.Data s) : b0.Data (State.applyConfig s c t3Gb) := by
  unfold State.applyConfig
  repeat' (first | with_reducible assumption | intro _ _ _ | intro _ | with_reducible apply State.setFs_data | with_reducible apply State.Data.ite | with_reducible apply State.Data.ite2 | with_reducible apply State.Data.ite22 | with_reducible apply State.Data.ite222 | with_reducible apply State.Data.ite1 | with_reducible apply State.Data.ite21 | with_reducible apply State.Data.foldl | with_reducible apply State.Data.foldl2 | with_reducible apply State.Data.foldl22 | with_reducible apply State.Data.foldl222 | with_reducible apply State.Data.foldl1 | split | ((with_reducible conv => arg 2; whnf); split) | ((with_reducible conv => arg 2; arg 1; whnf); split) | ((with_reducible conv => arg 2; arg 1; arg 1; whnf); split) | with_reducible apply State.Data.mk_)

theorem State.applyCal_data (b0 : State) (s : State) (h0 : b0.Data s) : b0.Data (State.applyCal s) := by
  unfold State.applyCal
  repeat' (first | with_reducible assumption | with_reducible apply State.verify_data | with_reducible apply State.setFs_data | with_reducible apply State.raise_data | with_reducible apply State.Data.ite | with_reducible apply State.Data.ite2 | with_reducible apply State.Data.ite22 | with_reducible apply State.Data.ite222 | with_reducible apply State.Data.ite1 | with_reducible apply State.Data.ite21 | split | ((with_reducible conv => arg 2; whnf); split) | ((with_reducible conv => arg 2; arg 1; whnf); split) | ((with_reducible conv => arg 2; arg 1; arg 1; whnf); split) | with_reducible apply State.Data.mk_ | intro _)

theorem State.trainPorts_data (b0 : State) (s : State) (env : StartEnv) (h0 : b0.Data s) : b0.Data (State.trainPorts s env) := by
  unfold State.trainPorts
  repeat' (first | with_reducible assumption | with_reducible apply State.setFs_data | with_reducible apply State.Data.ite | split | ((with_reducible conv => arg 2; whnf); split) | with_reducible refine State.Data.eq2 (by with_reducible assumption) ?_ | with_reducible refine State.Data.eq22 (by with_reducible assumption) ?_ | with_reducible refine State.Data.eq222 (by with_reducible assumption) ?_ | with_reducible refine State.Data.eq1 (by with_reducible assumption) ?_ | with_reducible apply State.Data.mk_ | intro _)

theorem State.laserStart_data (b0 : State) (s : State) (h0 : b0.Data s) : b0.Data (State.laserStart s) := by
  unfold State.laserStart
  repeat' (first | with_reducible assumption | intro _ _ _ | intro _ | split | ((with_reducible conv => arg 2; whnf); split) | with_reducible apply State.Data.mk_)

theorem doSbyokRise_data (b0 : State) (straps : Nat) (s : State) (h0 : b0.Data s) : b0.Data (doSbyokRise straps s) := by
  unfold doSbyokRise
  repeat' (first | with_reducible assumption | with_reducible apply State.Data.ite | split | ((with_reducible conv => arg 2; whnf); split) | with_reducible apply State.Data.mk_ | intro _)

theorem execSbyokRise_data (b0 : State) (straps : Nat) (s : State) (h0 : b0.Data s) : b0.DataOut (execSbyokRise straps s) := by
  unfold execSbyokRise
  repeat' (first | with_reducible assumption | with_reducible apply doSbyokRise_data | with_reducible apply State.Data.next | intro _)

theorem doI3cRead_data (b0 : State) (reg : Nat) (write : Bool) (s : State) (h0 : b0.Data s) : b0.Data (doI3cRead reg write s) := by
  unfold doI3cRead
  repeat' (first | with_reducible assumption | with_reducible apply State.answer_data | with_reducible apply State.Data.ite | split | ((with_reducible conv => arg 2; whnf); split) | with_reducible refine State.Data.eq2 (by with_reducible assumption) ?_ | with_reducible refine State.Data.eq22 (by with_reducible assumption) ?_ | with_reducible refine State.Data.eq222 (by with_reducible assumption) ?_ | with_reducible refine State.Data.eq1 (by with_reducible assumption) ?_ | intro _)

theorem execI3cRead_data (b0 : State) (reg : Fin 5) (write : Bool) (s : State) (h0 : b0.Data s) : b0.DataOut (execI3cRead reg write s) := by
  unfold execI3cRead
  repeat' (first | with_reducible assumption | with_reducible apply doI3cRead_data | with_reducible apply State.Data.next | intro _)

theorem State.drRespond_data (b0 : State) (s : State) (op status ticket : Nat) (payload : List Byte) (h0 : b0.Data s) : b0.Data (State.drRespond s op status ticket payload) := by
  unfold State.drRespond
  repeat' (first | with_reducible assumption | with_reducible apply State.answerBytes_data | intro _)

theorem doDrIdentity_data (b0 : State) (which : Nat) (s : State) (h0 : b0.Data s) : b0.Data (doDrIdentity which s) := by
  unfold doDrIdentity
  repeat' (first | with_reducible assumption | with_reducible apply State.drRespond_data | with_reducible apply State.Data.ite | split | ((with_reducible conv => arg 2; whnf); split) | with_reducible refine State.Data.eq2 (by with_reducible assumption) ?_ | with_reducible refine State.Data.eq22 (by with_reducible assumption) ?_ | with_reducible refine State.Data.eq222 (by with_reducible assumption) ?_ | with_reducible refine State.Data.eq1 (by with_reducible assumption) ?_ | intro _)

theorem execDrIdentity_data (b0 : State) (which : Nat) (s : State) (h0 : b0.Data s) : b0.DataOut (execDrIdentity which s) := by
  unfold execDrIdentity
  repeat' (first | with_reducible assumption | with_reducible apply doDrIdentity_data | with_reducible apply State.Data.next | intro _)

theorem doDrStatus_data (b0 : State) (s : State) (h0 : b0.Data s) : b0.Data (doDrStatus s) := by
  unfold doDrStatus
  repeat' (first | with_reducible assumption | with_reducible apply State.drRespond_data | with_reducible apply State.freshBytes_data | with_reducible apply State.Data.ite | with_reducible apply State.Data.ite2 | with_reducible apply State.Data.ite22 | with_reducible apply State.Data.ite222 | with_reducible apply State.Data.ite1 | with_reducible apply State.Data.ite21 | split | ((with_reducible conv => arg 2; whnf); split) | ((with_reducible conv => arg 2; arg 1; whnf); split) | ((with_reducible conv => arg 2; arg 1; arg 1; whnf); split) | intro _)

theorem execDrStatus_data (b0 : State) (s : State) (h0 : b0.Data s) : b0.DataOut (execDrStatus s) := by
  unfold execDrStatus
  repeat' (first | with_reducible assumption | with_reducible apply doDrStatus_data | with_reducible apply State.Data.next | intro _)

theorem doDrNonce_data (b0 : State) (s : State) (h0 : b0.Data s) : b0.Data (doDrNonce s) := by
  unfold doDrNonce
  repeat' (first | with_reducible assumption | with_reducible apply State.drRespond_data | with_reducible apply State.freshBytes_data | with_reducible apply State.Data.ite | with_reducible apply State.Data.ite2 | with_reducible apply State.Data.ite22 | with_reducible apply State.Data.ite222 | with_reducible apply State.Data.ite1 | with_reducible apply State.Data.ite21 | split | ((with_reducible conv => arg 2; whnf); split) | ((with_reducible conv => arg 2; arg 1; whnf); split) | ((with_reducible conv => arg 2; arg 1; arg 1; whnf); split) | with_reducible apply State.Data.mk_ | intro _)

theorem execDrNonce_data (b0 : State) (s : State) (h0 : b0.Data s) : b0.DataOut (execDrNonce s) := by
  unfold execDrNonce
  repeat' (first | with_reducible assumption | with_reducible apply doDrNonce_data | with_reducible apply State.Data.next | intro _)

theorem State.drCode_data (b0 : State) (s : State) (op code : Nat) (h0 : b0.Data s) : b0.Data (State.drCode s op code) := by
  unfold State.drCode
  repeat' (first | with_reducible assumption | with_reducible apply State.drRespond_data | with_reducible apply State.Data.mk_ | intro _)

theorem doDrBegin_data (b0 : State) (req : List Byte) (s : State) (h0 : b0.Data s) : b0.Data (doDrBegin req s) := by
  unfold doDrBegin
  repeat' (first | with_reducible assumption | with_reducible apply State.drRespond_data | with_reducible apply State.verify_data | with_reducible apply State.drCode_data | with_reducible apply State.Data.ite | with_reducible apply State.Data.ite2 | with_reducible apply State.Data.ite22 | with_reducible apply State.Data.ite222 | with_reducible apply State.Data.ite1 | with_reducible apply State.Data.ite21 | split | ((with_reducible conv => arg 2; whnf); split) | ((with_reducible conv => arg 2; arg 1; whnf); split) | ((with_reducible conv => arg 2; arg 1; arg 1; whnf); split) | with_reducible refine State.Data.eq2 (by with_reducible assumption) ?_ | with_reducible refine State.Data.eq22 (by with_reducible assumption) ?_ | with_reducible refine State.Data.eq222 (by with_reducible assumption) ?_ | with_reducible refine State.Data.eq1 (by with_reducible assumption) ?_ | with_reducible apply State.Data.mk_ | intro _)

theorem execDrBegin_data (b0 : State) (req : List Byte) (s : State) (h0 : b0.Data s) : b0.DataOut (execDrBegin req s) := by
  unfold execDrBegin
  repeat' (first | with_reducible assumption | with_reducible apply doDrBegin_data | with_reducible apply State.Data.next | intro _)

theorem doDrData_data (b0 : State) (off : Nat) (data : List Byte) (s : State) (h0 : b0.Data s) : b0.Data (doDrData off data s) := by
  unfold doDrData
  repeat' (first | with_reducible assumption | with_reducible apply State.drRespond_data | with_reducible apply State.drCode_data | with_reducible apply State.Data.ite | split | ((with_reducible conv => arg 2; whnf); split) | with_reducible apply State.Data.mk_ | intro _)

theorem execDrData_data (b0 : State) (off : Nat) (data : List Byte) (s : State) (h0 : b0.Data s) : b0.DataOut (execDrData off data s) := by
  unfold execDrData
  repeat' (first | with_reducible assumption | with_reducible apply doDrData_data | with_reducible apply State.Data.next | intro _)

theorem State.newTicket_data (b0 : State) (s : State) (p kind a n : Nat) (data : List Byte) (h0 : b0.Data s) : b0.Data (State.newTicket s p kind a n data).2 := by
  unfold State.newTicket
  repeat' (first | with_reducible assumption | with_reducible apply State.Data.mk_ | intro _)

theorem State.endTicket_data (b0 : State) (s : State) (id code : Nat) (h0 : b0.Data s) : b0.Data (State.endTicket s id code) := by
  unfold State.endTicket
  repeat' (first | with_reducible assumption | intro _ _ _ | intro _ | with_reducible apply State.Data.ite | split | ((with_reducible conv => arg 2; whnf); split) | with_reducible apply State.Data.mk_)

theorem doDrEnd_data (b0 : State) (s : State) (h0 : b0.Data s) : b0.Data (doDrEnd s) := by
  unfold doDrEnd
  repeat' (first | with_reducible assumption | with_reducible apply State.drRespond_data | with_reducible apply State.drCode_data | with_reducible apply State.newTicket_data | with_reducible apply State.Data.ite | with_reducible apply State.Data.ite2 | with_reducible apply State.Data.ite22 | with_reducible apply State.Data.ite222 | with_reducible apply State.Data.ite1 | with_reducible apply State.Data.ite21 | split | ((with_reducible conv => arg 2; whnf); split) | ((with_reducible conv => arg 2; arg 1; whnf); split) | ((with_reducible conv => arg 2; arg 1; arg 1; whnf); split) | with_reducible apply State.Data.mk_ | intro _)

theorem execDrEnd_data (b0 : State) (s : State) (h0 : b0.Data s) : b0.DataOut (execDrEnd s) := by
  unfold execDrEnd
  repeat' (first | with_reducible assumption | with_reducible apply doDrEnd_data | with_reducible apply State.Data.next | intro _)

end Sys2Proof.Machine
end

