-- ==== Sys2Proof/Laws/DataCollect.lean ====
section
/-! SUPPORT. Operations of Machine/Collect.lean that leave all stored data alone. -/
namespace Sys2Proof.Machine

set_option linter.all false
set_option Elab.async false

theorem State.updColl_data (b0 : State) (s : State) (f : Coll → Coll) (h0 : b0.Data s) : b0.Data (State.updColl s f) := by
  unfold State.updColl
  repeat' (first | with_reducible assumption | with_reducible apply State.Data.mk_ | intro _)

theorem State.countNic_data (b0 : State) (s : State) (k x : Nat) (h0 : b0.Data s) : b0.Data (State.countNic s k x) := by
  unfold State.countNic
  repeat' (first | with_reducible assumption | with_reducible apply State.count_data | intro _)

theorem State.nicBusy_data (b0 : State) (s : State) (k : Nat) (h0 : b0.Data s) : b0.Data (State.nicBusy s k) := by
  unfold State.nicBusy
  repeat' (first | with_reducible assumption | intro _ _ _ | intro _ | with_reducible apply State.setF_data | split | ((with_reducible conv => arg 2; whnf); split))

theorem State.nicFail_data (b0 : State) (s : State) (k : Nat) (f : Fld) (code : Nat) (h0 : b0.Data s) : b0.Data (State.nicFail s k f code) := by
  unfold State.nicFail
  repeat' (first | with_reducible assumption | with_reducible apply State.raise_data | with_reducible apply State.Data.ite | intro _ _ _ | intro _ | with_reducible apply State.hwSets_data | with_reducible apply State.Data.mk_)

theorem State.setTot_data (b0 : State) (s : State) (k i : Nat) (e : TotEntry) (h0 : b0.Data s) : b0.Data (State.setTot s k i e) := by
  unfold State.setTot
  repeat' (first | with_reducible assumption | intro _ _ _ | intro _ | with_reducible apply State.updColl_data | split | ((with_reducible conv => arg 2; whnf); split) | with_reducible apply State.Data.mk_)

theorem State.totComplete_data (b0 : State) (s : State) (k i code : Nat) (h0 : b0.Data s) : b0.Data (State.totComplete s k i code).2 := by
  unfold State.totComplete
  repeat' (first | with_reducible assumption | with_reducible apply State.sendDep_data | with_reducible apply State.setTot_data | with_reducible apply State.count_data | with_reducible apply State.Data.ite | with_reducible apply State.Data.ite2 | with_reducible apply State.Data.ite22 | with_reducible apply State.Data.ite222 | with_reducible apply State.Data.ite1 | with_reducible apply State.Data.ite21 | split | ((with_reducible conv => arg 2; whnf); split) | ((with_reducible conv => arg 2; arg 1; whnf); split) | ((with_reducible conv => arg 2; arg 1; arg 1; whnf); split) | with_reducible apply State.Data.mk_ | intro _)

theorem State.recComplete_data (b0 : State) (s : State) (num code : Nat) (h0 : b0.Data s) : b0.Data (State.recComplete s num code).2 := by
  unfold State.recComplete
  repeat' (first | with_reducible assumption | intro _ _ _ | intro _ | with_reducible apply State.updColl_data | with_reducible apply State.nicBusy_data | with_reducible apply State.setF_data | with_reducible apply State.countNic_data | with_reducible apply State.nicFail_data | with_reducible apply State.totComplete_data | with_reducible apply State.Data.ite | with_reducible apply State.Data.ite2 | with_reducible apply State.Data.ite22 | with_reducible apply State.Data.ite222 | with_reducible apply State.Data.ite1 | with_reducible apply State.Data.ite21 | split | ((with_reducible conv => arg 2; whnf); split) | ((with_reducible conv => arg 2; arg 1; whnf); split) | ((with_reducible conv => arg 2; arg 1; arg 1; whnf); split) | with_reducible refine State.Data.eq2 (by with_reducible assumption) ?_ | with_reducible refine State.Data.eq22 (by with_reducible assumption) ?_ | with_reducible refine State.Data.eq222 (by with_reducible assumption) ?_ | with_reducible refine State.Data.eq1 (by with_reducible assumption) ?_ | with_reducible apply State.Data.mk_)

theorem State.postRemote_data (b0 : State) (s : State) (k num : Nat) (b : List Byte) (h0 : b0.Data s) : b0.Data (State.postRemote s k num b).2 := by
  unfold State.postRemote
  repeat' (first | with_reducible assumption | intro _ _ _ | intro _ | with_reducible apply State.recComplete_data | with_reducible apply State.closeGathers_data | with_reducible apply State.newTx_data | with_reducible apply State.joinGather_data | with_reducible apply State.Data.ite | with_reducible apply State.Data.ite2 | with_reducible apply State.Data.ite22 | with_reducible apply State.Data.ite222 | with_reducible apply State.Data.ite1 | with_reducible apply State.Data.ite21 | split | ((with_reducible conv => arg 2; whnf); split) | ((with_reducible conv => arg 2; arg 1; whnf); split) | ((with_reducible conv => arg 2; arg 1; arg 1; whnf); split))

theorem State.reStatus_data (b0 : State) (s : State) (h0 : b0.Data s) : b0.Data (State.reStatus s) := by
  unfold State.reStatus
  repeat' (first | with_reducible assumption | intro _ _ _ | intro _ | with_reducible apply State.setFs_data | split | ((with_reducible conv => arg 2; whnf); split))

theorem State.takeScalar_data (b0 : State) (s : State) (g q : Nat) (h0 : b0.Data s) : b0.Data (State.takeScalar s g q) := by
  unfold State.takeScalar
  repeat' (first | with_reducible assumption | intro _ _ _ | intro _ | with_reducible apply State.updColl_data | with_reducible apply State.reStatus_data | with_reducible apply State.Data.ite | with_reducible apply State.Data.ite2 | with_reducible apply State.Data.ite22 | with_reducible apply State.Data.ite222 | with_reducible apply State.Data.ite1 | with_reducible apply State.Data.ite21 | split | ((with_reducible conv => arg 2; whnf); split) | ((with_reducible conv => arg 2; arg 1; whnf); split) | ((with_reducible conv => arg 2; arg 1; arg 1; whnf); split) | with_reducible apply State.Data.mk_)

theorem State.postColl_data (b0 : State) (s : State) (k num : Nat) (b : List Byte) (h0 : b0.Data s) : b0.Data (State.postColl s k num b) := by
  unfold State.postColl
  repeat' (first | with_reducible assumption | intro _ _ _ | intro _ | with_reducible apply State.count_data | with_reducible apply State.setF_data | with_reducible apply State.updColl_data | with_reducible apply State.countNic_data | with_reducible apply State.takeScalar_data | with_reducible apply State.Data.ite | split | ((with_reducible conv => arg 2; whnf); split) | with_reducible apply State.Data.mk_)

theorem State.post_data (b0 : State) (s : State) (k : Nat) (b : List Byte) (tot : Option Nat) (h0 : b0.Data s) : b0.Data (State.post s k b tot).2 := by
  unfold State.post
  repeat' (first | with_reducible assumption | with_reducible apply State.setTot_data | intro _ _ _ | intro _ | with_reducible apply State.nicFail_data | with_reducible apply State.updColl_data | with_reducible apply State.nicBusy_data | with_reducible apply State.countNic_data | with_reducible apply State.postRemote_data | with_reducible apply State.postColl_data | with_reducible apply State.Data.ite | with_reducible apply State.Data.ite2 | with_reducible apply State.Data.ite22 | with_reducible apply State.Data.ite222 | with_reducible apply State.Data.ite1 | with_reducible apply State.Data.ite21 | split | ((with_reducible conv => arg 2; whnf); split) | ((with_reducible conv => arg 2; arg 1; whnf); split) | ((with_reducible conv => arg 2; arg 1; arg 1; whnf); split) | with_reducible apply State.Data.mk_)

theorem State.acceptHeld_data (b0 : State) (s : State) (h0 : b0.Data s) : b0.Data (State.acceptHeld s) := by
  unfold State.acceptHeld
  repeat' (first | with_reducible assumption | intro _ _ _ | intro _ | with_reducible apply State.updColl_data | with_reducible apply State.postColl_data | with_reducible apply State.Data.ite | with_reducible apply State.Data.ite2 | with_reducible apply State.Data.ite22 | with_reducible apply State.Data.ite222 | with_reducible apply State.Data.ite1 | with_reducible apply State.Data.ite21 | with_reducible apply State.Data.foldl | with_reducible apply State.Data.foldl2 | with_reducible apply State.Data.foldl22 | with_reducible apply State.Data.foldl222 | with_reducible apply State.Data.foldl1 | split | ((with_reducible conv => arg 2; whnf); split) | ((with_reducible conv => arg 2; arg 1; whnf); split) | ((with_reducible conv => arg 2; arg 1; arg 1; whnf); split) | with_reducible apply State.Data.mk_)

theorem State.totInc_data (b0 : State) (s : State) (k i n : Nat) (h0 : b0.Data s) : b0.Data (State.totInc s k i n).2 := by
  unfold State.totInc
  repeat' (first | with_reducible assumption | intro _ _ _ | intro _ | with_reducible apply State.setTot_data | with_reducible apply State.count_data | with_reducible apply State.commit_data | with_reducible apply State.countNic_data | with_reducible apply State.extRead_data | with_reducible apply State.nicFail_data | with_reducible apply State.post_data | with_reducible apply State.Data.ite | with_reducible apply State.Data.ite2 | with_reducible apply State.Data.ite22 | with_reducible apply State.Data.ite222 | with_reducible apply State.Data.ite1 | with_reducible apply State.Data.ite21 | split | ((with_reducible conv => arg 2; whnf); split) | ((with_reducible conv => arg 2; arg 1; whnf); split) | ((with_reducible conv => arg 2; arg 1; arg 1; whnf); split) | with_reducible refine State.Data.eq2 (by with_reducible assumption) ?_ | with_reducible refine State.Data.eq22 (by with_reducible assumption) ?_ | with_reducible refine State.Data.eq222 (by with_reducible assumption) ?_ | with_reducible refine State.Data.eq1 (by with_reducible assumption) ?_ | with_reducible apply State.Data.pair2 | with_reducible apply State.Data.pair22 | with_reducible apply State.Data.pair222 | with_reducible apply State.Data.mk_)

theorem State.settleTots_data (b0 : State) (s : State) (x0 : Nat) (x1 : Incs) (h0 : b0.Data s) : b0.Data (State.settleTots s x0 x1) := by
  induction x0 generalizing x1 s with
  | zero =>
    unfold State.settleTots
    repeat' (first | with_reducible assumption | intro _ _ _ | intro _ | with_reducible apply State.totInc_data | with_reducible apply State.Data.ite | with_reducible apply State.Data.ite2 | with_reducible apply State.Data.ite22 | with_reducible apply State.Data.ite222 | with_reducible apply State.Data.ite1 | with_reducible apply State.Data.ite21 | with_reducible apply State.Data.foldl | with_reducible apply State.Data.foldl2 | with_reducible apply State.Data.foldl22 | with_reducible apply State.Data.foldl222 | with_reducible apply State.Data.foldl1 | split | ((with_reducible conv => arg 2; whnf); split) | ((with_reducible conv => arg 2; arg 1; whnf); split) | ((with_reducible conv => arg 2; arg 1; arg 1; whnf); split))
  | succ k ih =>
    unfold State.settleTots
    repeat' (first | with_reducible apply ih | with_reducible assumption | intro _ _ _ | intro _ | with_reducible apply State.totInc_data | with_reducible apply State.Data.ite | with_reducible apply State.Data.ite2 | with_reducible apply State.Data.ite22 | with_reducible apply State.Data.ite222 | with_reducible apply State.Data.ite1 | with_reducible apply State.Data.ite21 | with_reducible apply State.Data.foldl | with_reducible apply State.Data.foldl2 | with_reducible apply State.Data.foldl22 | with_reducible apply State.Data.foldl222 | with_reducible apply State.Data.foldl1 | split | ((with_reducible conv => arg 2; whnf); split) | ((with_reducible conv => arg 2; arg 1; whnf); split) | ((with_reducible conv => arg 2; arg 1; arg 1; whnf); split))

theorem State.settleFences_data (b0 : State) (s : State) (h0 : b0.Data s) : b0.Data (State.settleFences s) := by
  unfold State.settleFences
  repeat' (first | with_reducible assumption | intro _ _ _ | intro _ | with_reducible apply State.settleTots_data | with_reducible apply State.Data.ite | with_reducible apply State.Data.ite2 | with_reducible apply State.Data.ite22 | with_reducible apply State.Data.ite222 | with_reducible apply State.Data.ite1 | with_reducible apply State.Data.ite21 | split | ((with_reducible conv => arg 2; whnf); split) | ((with_reducible conv => arg 2; arg 1; whnf); split) | ((with_reducible conv => arg 2; arg 1; arg 1; whnf); split) | with_reducible apply State.Data.mk_)

theorem State.rollTots_data (b0 : State) (s : State) (p : Nat) (h0 : b0.Data s) : b0.Data (State.rollTots s p) := by
  unfold State.rollTots
  repeat' (first | with_reducible assumption | intro _ _ _ | intro _ | with_reducible apply State.setTot_data | with_reducible apply State.raise_data | with_reducible apply State.count_data | with_reducible apply State.Data.ite | with_reducible apply State.Data.ite2 | with_reducible apply State.Data.ite22 | with_reducible apply State.Data.ite222 | with_reducible apply State.Data.ite1 | with_reducible apply State.Data.ite21 | with_reducible apply State.Data.foldl | with_reducible apply State.Data.foldl2 | with_reducible apply State.Data.foldl22 | with_reducible apply State.Data.foldl222 | with_reducible apply State.Data.foldl1 | split | ((with_reducible conv => arg 2; whnf); split) | ((with_reducible conv => arg 2; arg 1; whnf); split) | ((with_reducible conv => arg 2; arg 1; arg 1; whnf); split) | with_reducible apply State.Data.mk_)

theorem doTrigger_data (b0 : State) (die idx : Nat) (s : State) (h0 : b0.Data s) : b0.Data (doTrigger die idx s) := by
  unfold doTrigger
  repeat' (first | with_reducible assumption | with_reducible apply State.toCyc_data | with_reducible apply State.perform_data | with_reducible apply State.settleTots_data | split | ((with_reducible conv => arg 2; whnf); split) | with_reducible refine State.Data.eq2 (by with_reducible assumption) ?_ | with_reducible refine State.Data.eq22 (by with_reducible assumption) ?_ | with_reducible refine State.Data.eq222 (by with_reducible assumption) ?_ | with_reducible refine State.Data.eq1 (by with_reducible assumption) ?_ | intro _)

theorem execTrigger_data (b0 : State) (die : Fin 4) (idx : Nat) (s : State) (h0 : b0.Data s) : b0.DataOut (execTrigger die idx s) := by
  unfold execTrigger
  repeat' (first | with_reducible assumption | with_reducible apply doTrigger_data | with_reducible apply State.Data.next | intro _)

theorem doNicDoorbell_data (b0 : State) (k p tail : Nat) (s : State) (h0 : b0.Data s) : b0.Data (doNicDoorbell k p tail s) := by
  unfold doNicDoorbell
  repeat' (first | with_reducible assumption | with_reducible apply State.setF_data | with_reducible apply State.Data.ite | split | ((with_reducible conv => arg 2; whnf); split) | intro _)

theorem execNicDoorbell_data (b0 : State) (ctx : Fin 8) (p : Fin 4) (tail : Nat) (s : State) (h0 : b0.Data s) : b0.DataOut (execNicDoorbell ctx p tail s) := by
  unfold execNicDoorbell
  repeat' (first | with_reducible assumption | with_reducible apply State.bar2_data | with_reducible apply doNicDoorbell_data | with_reducible apply State.Data.next | intro _)

theorem doTotDoorbellIncrement_data (b0 : State) (k p v : Nat) (s : State) (h0 : b0.Data s) : b0.Data (doTotDoorbellIncrement k p v s) := by
  unfold doTotDoorbellIncrement
  repeat' (first | with_reducible assumption | with_reducible apply State.settleTots_data | with_reducible apply State.Data.ite | split | ((with_reducible conv => arg 2; whnf); split) | intro _)

theorem execTotDoorbellIncrement_data (b0 : State) (ctx : Fin 8) (p : Fin 4) (val : Nat) (s : State) (h0 : b0.Data s) : b0.DataOut (execTotDoorbellIncrement ctx p val s) := by
  unfold execTotDoorbellIncrement
  repeat' (first | with_reducible assumption | with_reducible apply State.bar2_data | intro _ _ _ | intro _ | with_reducible apply State.orWait_data | with_reducible apply doTotDoorbellIncrement_data | with_reducible apply State.Data.next | with_reducible apply State.Data.mk_)

theorem doNicRecordPost_data (b0 : State) (k : Nat) (s : State) (h0 : b0.Data s) : b0.Data (doNicRecordPost k s) := by
  unfold doNicRecordPost
  repeat' (first | with_reducible assumption | intro _ _ _ | intro _ | with_reducible apply State.extRead_data | with_reducible apply State.setF_data | with_reducible apply State.nicFail_data | with_reducible apply State.post_data | with_reducible apply State.settleTots_data | with_reducible apply State.Data.ite | with_reducible apply State.Data.ite2 | with_reducible apply State.Data.ite22 | with_reducible apply State.Data.ite222 | with_reducible apply State.Data.ite1 | with_reducible apply State.Data.ite21 | split | ((with_reducible conv => arg 2; whnf); split) | ((with_reducible conv => arg 2; arg 1; whnf); split) | ((with_reducible conv => arg 2; arg 1; arg 1; whnf); split) | with_reducible refine State.Data.eq2 (by with_reducible assumption) ?_ | with_reducible refine State.Data.eq22 (by with_reducible assumption) ?_ | with_reducible refine State.Data.eq222 (by with_reducible assumption) ?_ | with_reducible refine State.Data.eq1 (by with_reducible assumption) ?_ | with_reducible apply State.Data.mk_)

theorem execNicRecordPost_data (b0 : State) (ctx : Fin 8) (s : State) (h0 : b0.Data s) : b0.DataOut (execNicRecordPost ctx s) := by
  unfold execNicRecordPost
  repeat' (first | with_reducible assumption | intro _ _ _ | intro _ | with_reducible apply State.orWait_data | with_reducible apply doNicRecordPost_data | with_reducible apply State.Data.next | with_reducible apply State.Data.mk_)

theorem doTotLoad_data (b0 : State) (v : Nat) (s : State) (h0 : b0.Data s) : b0.Data (doTotLoad v s) := by
  unfold doTotLoad
  repeat' (first | with_reducible assumption | intro _ _ _ | intro _ | with_reducible apply State.setFs_data | with_reducible apply State.answer_data | with_reducible apply State.refused_data | with_reducible apply State.setF_data | with_reducible apply State.updColl_data | with_reducible apply State.Data.ite | with_reducible apply State.Data.ite2 | with_reducible apply State.Data.ite22 | with_reducible apply State.Data.ite222 | with_reducible apply State.Data.ite1 | with_reducible apply State.Data.ite21 | split | ((with_reducible conv => arg 2; whnf); split) | ((with_reducible conv => arg 2; arg 1; whnf); split) | ((with_reducible conv => arg 2; arg 1; arg 1; whnf); split) | with_reducible apply State.Data.mk_)

theorem execTotLoad_data (b0 : State) (val : Word) (s : State) (h0 : b0.Data s) : b0.DataOut (execTotLoad val s) := by
  unfold execTotLoad
  repeat' (first | with_reducible assumption | with_reducible apply doTotLoad_data | with_reducible apply State.Data.next | intro _)

theorem doTotLoadDone_data (b0 : State) (s : State) (h0 : b0.Data s) : b0.Data (doTotLoadDone s) := by
  unfold doTotLoadDone
  repeat' (first | with_reducible assumption | intro _ _ _ | intro _ | with_reducible apply State.updColl_data | with_reducible apply State.extRead_data | with_reducible apply State.hwSets_data | with_reducible apply State.raise_data | with_reducible apply State.setTot_data | with_reducible apply State.Data.ite | with_reducible apply State.Data.ite2 | with_reducible apply State.Data.ite22 | with_reducible apply State.Data.ite222 | with_reducible apply State.Data.ite1 | with_reducible apply State.Data.ite21 | with_reducible apply State.Data.foldl | with_reducible apply State.Data.foldl2 | with_reducible apply State.Data.foldl22 | with_reducible apply State.Data.foldl222 | with_reducible apply State.Data.foldl1 | split | ((with_reducible conv => arg 2; whnf); split) | ((with_reducible conv => arg 2; arg 1; whnf); split) | ((with_reducible conv => arg 2; arg 1; arg 1; whnf); split) | with_reducible refine State.Data.eq2 (by with_reducible assumption) ?_ | with_reducible refine State.Data.eq22 (by with_reducible assumption) ?_ | with_reducible refine State.Data.eq222 (by with_reducible assumption) ?_ | with_reducible refine State.Data.eq1 (by with_reducible assumption) ?_ | with_reducible apply State.Data.mk_)

theorem execTotLoadDone_data (b0 : State) (s : State) (h0 : b0.Data s) : b0.DataOut (execTotLoadDone s) := by
  unfold execTotLoadDone
  repeat' (first | with_reducible assumption | intro _ _ _ | intro _ | with_reducible apply State.orWait_data | with_reducible apply doTotLoadDone_data | with_reducible apply State.Data.next | with_reducible apply State.Data.mk_)

theorem State.updOp_data (b0 : State) (s : State) (g q : Nat) (f : CollOp → CollOp) (h0 : b0.Data s) : b0.Data (State.updOp s g q f) := by
  unfold State.updOp
  repeat' (first | with_reducible assumption | intro _ _ _ | intro _ | with_reducible apply State.updColl_data | with_reducible apply State.Data.ite | split | ((with_reducible conv => arg 2; whnf); split) | with_reducible apply State.Data.mk_)

theorem State.failOp_data (b0 : State) (s : State) (g q code : Nat) (h0 : b0.Data s) : b0.Data (State.failOp s g q code) := by
  unfold State.failOp
  repeat' (first | with_reducible assumption | intro _ _ _ | intro _ | with_reducible apply State.updOp_data | with_reducible apply State.Data.ite | split | ((with_reducible conv => arg 2; whnf); split) | with_reducible apply State.Data.mk_)

theorem State.updChunk_data (b0 : State) (s : State) (g q idx : Nat) (f : Chunk → Chunk) (h0 : b0.Data s) : b0.Data (State.updChunk s g q idx f) := by
  unfold State.updChunk
  repeat' (first | with_reducible assumption | intro _ _ _ | intro _ | with_reducible apply State.updOp_data | with_reducible apply State.Data.ite | split | ((with_reducible conv => arg 2; whnf); split) | with_reducible apply State.Data.mk_)

theorem State.colSend_data (b0 : State) (s : State) (o : CollOp) (dst op vc region key : Nat) (addrs : List (Nat × List Byte)) (tag : Nat) (h0 : b0.Data s) : b0.Data (State.colSend s o dst op vc region key addrs tag) := by
  unfold State.colSend
  repeat' (first | with_reducible assumption | with_reducible apply State.newTx_data | intro _)

theorem State.colPacket_data (b0 : State) (s : State) (o : CollOp) (dst op pass : Nat) (b : List Byte) (h0 : b0.Data s) : b0.Data (State.colPacket s o dst op pass b) := by
  unfold State.colPacket
  repeat' (first | with_reducible assumption | intro _ _ _ | intro _ | with_reducible apply State.colSend_data | with_reducible apply State.Data.foldl | with_reducible apply State.Data.foldl2 | with_reducible apply State.Data.foldl22 | with_reducible apply State.Data.foldl222 | with_reducible apply State.Data.foldl1 | split | ((with_reducible conv => arg 2; whnf); split) | ((with_reducible conv => arg 2; arg 1; whnf); split) | ((with_reducible conv => arg 2; arg 1; arg 1; whnf); split))

theorem State.ownScalar_data (b0 : State) (s : State) (o : CollOp) (h0 : b0.Data s) : b0.Data (State.ownScalar s o).2.2 := by
  unfold State.ownScalar
  repeat' (first | with_reducible assumption | intro _ _ _ | intro _ | with_reducible apply State.extRead_data | with_reducible apply State.Data.ite | with_reducible apply State.Data.ite2 | with_reducible apply State.Data.ite22 | with_reducible apply State.Data.ite222 | with_reducible apply State.Data.ite1 | with_reducible apply State.Data.ite21 | with_reducible apply State.Data.foldl | with_reducible apply State.Data.foldl2 | with_reducible apply State.Data.foldl22 | with_reducible apply State.Data.foldl222 | with_reducible apply State.Data.foldl1 | split | ((with_reducible conv => arg 2; whnf); split) | ((with_reducible conv => arg 2; arg 1; whnf); split) | ((with_reducible conv => arg 2; arg 1; arg 1; whnf); split) | with_reducible refine State.Data.eq2 (by with_reducible assumption) ?_ | with_reducible refine State.Data.eq22 (by with_reducible assumption) ?_ | with_reducible refine State.Data.eq222 (by with_reducible assumption) ?_ | with_reducible refine State.Data.eq1 (by with_reducible assumption) ?_ | with_reducible apply State.Data.pair2 | with_reducible apply State.Data.pair22 | with_reducible apply State.Data.pair222 | with_reducible apply State.Data.mk_)

theorem State.ownElements_data (b0 : State) (s : State) (o : CollOp) (h0 : b0.Data s) : b0.Data (State.ownElements s o).2.2 := by
  unfold State.ownElements
  repeat' (first | with_reducible assumption | intro _ _ _ | intro _ | with_reducible apply State.extRead_data | with_reducible apply State.Data.ite | with_reducible apply State.Data.ite2 | with_reducible apply State.Data.ite22 | with_reducible apply State.Data.ite222 | with_reducible apply State.Data.ite1 | with_reducible apply State.Data.ite21 | split | ((with_reducible conv => arg 2; whnf); split) | ((with_reducible conv => arg 2; arg 1; whnf); split) | ((with_reducible conv => arg 2; arg 1; arg 1; whnf); split) | with_reducible refine State.Data.eq2 (by with_reducible assumption) ?_ | with_reducible refine State.Data.eq22 (by with_reducible assumption) ?_ | with_reducible refine State.Data.eq222 (by with_reducible assumption) ?_ | with_reducible refine State.Data.eq1 (by with_reducible assumption) ?_ | with_reducible apply State.Data.pair2 | with_reducible apply State.Data.pair22 | with_reducible apply State.Data.pair222 | with_reducible apply State.Data.mk_)

theorem State.ownChunk_data (b0 : State) (s : State) (o : CollOp) (gr : Group) (c : Chunk) (pass : Nat) (h0 : b0.Data s) : b0.Data (State.ownChunk s o gr c pass).2.2.2 := by
  unfold State.ownChunk
  repeat' (first | with_reducible assumption | intro _ _ _ | intro _ | with_reducible apply State.extRead_data | with_reducible apply State.Data.ite | with_reducible apply State.Data.ite2 | with_reducible apply State.Data.ite22 | with_reducible apply State.Data.ite222 | with_reducible apply State.Data.ite1 | with_reducible apply State.Data.ite21 | with_reducible apply State.Data.foldl | with_reducible apply State.Data.foldl2 | with_reducible apply State.Data.foldl22 | with_reducible apply State.Data.foldl222 | with_reducible apply State.Data.foldl1 | split | ((with_reducible conv => arg 2; whnf); split) | ((with_reducible conv => arg 2; arg 1; whnf); split) | ((with_reducible conv => arg 2; arg 1; arg 1; whnf); split) | with_reducible refine State.Data.eq2 (by with_reducible assumption) ?_ | with_reducible refine State.Data.eq22 (by with_reducible assumption) ?_ | with_reducible refine State.Data.eq222 (by with_reducible assumption) ?_ | with_reducible refine State.Data.eq1 (by with_reducible assumption) ?_ | with_reducible apply State.Data.pair2 | with_reducible apply State.Data.pair22 | with_reducible apply State.Data.pair222 | with_reducible apply State.Data.mk_)

theorem State.noteResult_data (b0 : State) (s : State) (g q : Nat) (h0 : b0.Data s) : b0.Data (State.noteResult s g q) := by
  unfold State.noteResult
  repeat' (first | with_reducible assumption | intro _ _ _ | intro _ | with_reducible apply State.updOp_data | with_reducible apply State.Data.ite | split | ((with_reducible conv => arg 2; whnf); split) | with_reducible refine State.Data.eq2 (by with_reducible assumption) ?_ | with_reducible refine State.Data.eq22 (by with_reducible assumption) ?_ | with_reducible refine State.Data.eq222 (by with_reducible assumption) ?_ | with_reducible refine State.Data.eq1 (by with_reducible assumption) ?_ | with_reducible apply State.Data.mk_)

theorem State.freeChunkSlot_data (b0 : State) (s : State) (g q idx : Nat) (h0 : b0.Data s) : b0.Data (State.freeChunkSlot s g q idx) := by
  unfold State.freeChunkSlot
  repeat' (first | with_reducible assumption | intro _ _ _ | intro _ | with_reducible apply State.updChunk_data | with_reducible apply State.reStatus_data | split | ((with_reducible conv => arg 2; whnf); split) | with_reducible apply State.Data.mk_)

theorem State.bcastCrc_data (b0 : State) (s : State) (o : CollOp) (h0 : b0.Data s) : b0.Data (State.bcastCrc s o).2 := by
  unfold State.bcastCrc
  repeat' (first | with_reducible assumption | intro _ _ _ | intro _ | with_reducible apply State.setF_data | split | ((with_reducible conv => arg 2; whnf); split) | ((with_reducible conv => arg 2; arg 1; whnf); split) | ((with_reducible conv => arg 2; arg 1; arg 1; whnf); split) | with_reducible apply State.Data.pair2 | with_reducible apply State.Data.pair22 | with_reducible apply State.Data.pair222 | with_reducible apply State.Data.mk_)

theorem State.bcastLost_data (b0 : State) (s : State) (g q child : Nat) (h0 : b0.Data s) : b0.Data (State.bcastLost s g q child) := by
  unfold State.bcastLost
  repeat' (first | with_reducible assumption | intro _ _ _ | intro _ | with_reducible apply State.updOp_data | with_reducible apply State.raise_data | with_reducible apply State.Data.ite | with_reducible apply State.Data.ite2 | with_reducible apply State.Data.ite22 | with_reducible apply State.Data.ite222 | with_reducible apply State.Data.ite1 | with_reducible apply State.Data.ite21 | split | ((with_reducible conv => arg 2; whnf); split) | ((with_reducible conv => arg 2; arg 1; whnf); split) | ((with_reducible conv => arg 2; arg 1; arg 1; whnf); split) | with_reducible refine State.Data.eq2 (by with_reducible assumption) ?_ | with_reducible refine State.Data.eq22 (by with_reducible assumption) ?_ | with_reducible refine State.Data.eq222 (by with_reducible assumption) ?_ | with_reducible refine State.Data.eq1 (by with_reducible assumption) ?_ | with_reducible apply State.Data.mk_)

theorem State.sendBcastAck_data (b0 : State) (s : State) (o : CollOp) (h0 : b0.Data s) : b0.Data (State.sendBcastAck s o) := by
  unfold State.sendBcastAck
  repeat' (first | with_reducible assumption | with_reducible apply State.bcastCrc_data | with_reducible apply State.colSend_data | intro _)

theorem State.bcastStep_data (b0 : State) (s : State) (g q : Nat) (h0 : b0.Data s) : b0.Data (State.bcastStep s g q) := by
  unfold State.bcastStep
  repeat' (first | with_reducible assumption | intro _ _ _ | intro _ | with_reducible apply State.updOp_data | with_reducible apply State.sendBcastAck_data | with_reducible apply State.Data.ite | with_reducible apply State.Data.ite2 | with_reducible apply State.Data.ite22 | with_reducible apply State.Data.ite222 | with_reducible apply State.Data.ite1 | with_reducible apply State.Data.ite21 | split | ((with_reducible conv => arg 2; whnf); split) | ((with_reducible conv => arg 2; arg 1; whnf); split) | ((with_reducible conv => arg 2; arg 1; arg 1; whnf); split) | with_reducible refine State.Data.eq2 (by with_reducible assumption) ?_ | with_reducible refine State.Data.eq22 (by with_reducible assumption) ?_ | with_reducible refine State.Data.eq222 (by with_reducible assumption) ?_ | with_reducible refine State.Data.eq1 (by with_reducible assumption) ?_ | with_reducible apply State.Data.mk_)

theorem State.downDone_data (b0 : State) (s : State) (g src a n : Nat) (h0 : b0.Data s) : b0.Data (State.downDone s g src a n) := by
  unfold State.downDone
  repeat' (first | with_reducible assumption | intro _ _ _ | intro _ | with_reducible apply State.updOp_data | with_reducible apply State.colSend_data | with_reducible apply State.updChunk_data | with_reducible apply State.noteResult_data | with_reducible apply State.bcastStep_data | with_reducible apply State.sendBcastAck_data | with_reducible apply State.updColl_data | with_reducible apply State.Data.ite | with_reducible apply State.Data.foldl | with_reducible apply State.Data.foldl2 | with_reducible apply State.Data.foldl22 | with_reducible apply State.Data.foldl222 | with_reducible apply State.Data.foldl1 | split | ((with_reducible conv => arg 2; whnf); split) | with_reducible refine State.Data.eq2 (by with_reducible assumption) ?_ | with_reducible refine State.Data.eq22 (by with_reducible assumption) ?_ | with_reducible refine State.Data.eq222 (by with_reducible assumption) ?_ | with_reducible refine State.Data.eq1 (by with_reducible assumption) ?_ | with_reducible apply State.Data.mk_)

theorem State.takeDowns_data (b0 : State) (s : State) (g : Nat) (h0 : b0.Data s) : b0.Data (State.takeDowns s g) := by
  unfold State.takeDowns
  repeat' (first | with_reducible assumption | intro _ _ _ | intro _ | with_reducible apply State.downDone_data | with_reducible apply State.updColl_data | with_reducible apply State.Data.foldl | with_reducible apply State.Data.foldl2 | with_reducible apply State.Data.foldl22 | with_reducible apply State.Data.foldl222 | with_reducible apply State.Data.foldl1 | split | ((with_reducible conv => arg 2; whnf); split) | ((with_reducible conv => arg 2; arg 1; whnf); split) | ((with_reducible conv => arg 2; arg 1; arg 1; whnf); split) | with_reducible apply State.Data.mk_)

theorem State.startOp_data (b0 : State) (s : State) (k op : Nat) (run : Nat → Nat → State → State) (h0 : b0.Data s) (hrun : ∀ y0 y1 u, b0.Data u → b0.Data (run y0 y1 u)) : b0.Data (State.startOp s k op run) := by
  unfold State.startOp
  repeat' (first | with_reducible assumption | intro _ _ _ | intro _ | with_reducible apply State.updOp_data | with_reducible apply hrun | split | ((with_reducible conv => arg 2; whnf); split) | with_reducible refine State.Data.eq2 (by with_reducible assumption) ?_ | with_reducible refine State.Data.eq22 (by with_reducible assumption) ?_ | with_reducible refine State.Data.eq222 (by with_reducible assumption) ?_ | with_reducible refine State.Data.eq1 (by with_reducible assumption) ?_ | with_reducible apply State.Data.mk_)

theorem State.colNacked_data (b0 : State) (s : State) (g q dst tag : Nat) (h0 : b0.Data s) : b0.Data (State.colNacked s g q dst tag) := by
  unfold State.colNacked
  repeat' (first | with_reducible assumption | intro _ _ _ | intro _ | with_reducible apply State.bcastLost_data | with_reducible apply State.bcastStep_data | with_reducible apply State.failOp_data | with_reducible apply State.updOp_data | with_reducible apply State.Data.ite | split | ((with_reducible conv => arg 2; whnf); split) | with_reducible refine State.Data.eq2 (by with_reducible assumption) ?_ | with_reducible refine State.Data.eq22 (by with_reducible assumption) ?_ | with_reducible refine State.Data.eq222 (by with_reducible assumption) ?_ | with_reducible refine State.Data.eq1 (by with_reducible assumption) ?_ | with_reducible apply State.Data.mk_)

theorem doBcastChildTimeout_data (b0 : State) (g q child : Nat) (s : State) (h0 : b0.Data s) : b0.Data (doBcastChildTimeout g q child s) := by
  unfold doBcastChildTimeout
  repeat' (first | with_reducible assumption | with_reducible apply State.toNs_data | with_reducible apply State.bcastLost_data | with_reducible apply State.bcastStep_data | with_reducible apply State.Data.ite | split | ((with_reducible conv => arg 2; whnf); split) | with_reducible refine State.Data.eq2 (by with_reducible assumption) ?_ | with_reducible refine State.Data.eq22 (by with_reducible assumption) ?_ | with_reducible refine State.Data.eq222 (by with_reducible assumption) ?_ | with_reducible refine State.Data.eq1 (by with_reducible assumption) ?_ | intro _)

theorem execBcastChildTimeout_data (b0 : State) (group gseq child : Nat) (s : State) (h0 : b0.Data s) : b0.DataOut (execBcastChildTimeout group gseq child s) := by
  unfold execBcastChildTimeout
  repeat' (first | with_reducible assumption | with_reducible apply doBcastChildTimeout_data | with_reducible apply State.Data.next | intro _)

theorem State.grpCompleted_data (b0 : State) (s : State) (g : Nat) (h0 : b0.Data s) : b0.Data (State.grpCompleted s g) := by
  unfold State.grpCompleted
  repeat' (first | with_reducible assumption | intro _ _ _ | intro _ | with_reducible apply State.setF_data | with_reducible apply State.Data.foldl | with_reducible apply State.Data.foldl2 | with_reducible apply State.Data.foldl22 | with_reducible apply State.Data.foldl222 | with_reducible apply State.Data.foldl1 | split | ((with_reducible conv => arg 2; whnf); split))

theorem doReSlotSpare_data (b0 : State) (bulk : Bool) (n : Nat) (s : State) (h0 : b0.Data s) : b0.Data (doReSlotSpare bulk n s) := by
  unfold doReSlotSpare
  repeat' (first | with_reducible assumption | intro _ _ _ | intro _ | with_reducible apply State.failOp_data | with_reducible apply State.updOp_data | with_reducible apply State.updColl_data | with_reducible apply State.raise_data | with_reducible apply State.dirty_data | with_reducible apply State.Data.ite | with_reducible apply State.Data.ite2 | with_reducible apply State.Data.ite22 | with_reducible apply State.Data.ite222 | with_reducible apply State.Data.ite1 | with_reducible apply State.Data.ite21 | split | ((with_reducible conv => arg 2; whnf); split) | ((with_reducible conv => arg 2; arg 1; whnf); split) | ((with_reducible conv => arg 2; arg 1; arg 1; whnf); split) | with_reducible refine State.Data.eq2 (by with_reducible assumption) ?_ | with_reducible refine State.Data.eq22 (by with_reducible assumption) ?_ | with_reducible refine State.Data.eq222 (by with_reducible assumption) ?_ | with_reducible refine State.Data.eq1 (by with_reducible assumption) ?_ | with_reducible apply State.Data.mk_)

theorem execReSlotSpare_data (b0 : State) (bulk : Bool) (slot : Nat) (s : State) (h0 : b0.Data s) : b0.DataOut (execReSlotSpare bulk slot s) := by
  unfold execReSlotSpare
  repeat' (first | with_reducible assumption | with_reducible apply doReSlotSpare_data | with_reducible apply State.Data.next | intro _)

end Sys2Proof.Machine
end

