-- ==== Sys2Proof/Laws/DataCores.lean ====
section
/-! SUPPORT. Operations of Machine/Cores.lean that leave all stored data alone. -/
namespace Sys2Proof.Machine

set_option linter.all false
set_option Elab.async false

theorem doCoreLoad_data (b0 : State) (v : Nat) (s : State) (h0 : b0.Data s) : b0.Data (doCoreLoad v s) := by
  unfold doCoreLoad
  repeat' (first | with_reducible assumption | with_reducible apply State.seqLoad_data | intro _)

theorem execCoreLoad_data (b0 : State) (val : Word) (s : State) (h0 : b0.Data s) : b0.DataOut (execCoreLoad val s) := by
  unfold execCoreLoad
  repeat' (first | with_reducible assumption | with_reducible apply doCoreLoad_data | with_reducible apply State.Data.next | intro _)

theorem doCoreLoadDone_data (b0 : State) (s : State) (h0 : b0.Data s) : b0.Data (doCoreLoadDone s) := by
  unfold doCoreLoadDone
  repeat' (first | with_reducible assumption | intro _ _ _ | intro _ | with_reducible apply State.extRead_data | with_reducible apply State.seqLoaded_data | with_reducible apply State.Data.ite | with_reducible apply State.Data.ite2 | with_reducible apply State.Data.ite22 | with_reducible apply State.Data.ite222 | with_reducible apply State.Data.ite1 | with_reducible apply State.Data.ite21 | split | ((with_reducible conv => arg 2; whnf); split) | ((with_reducible conv => arg 2; arg 1; whnf); split) | ((with_reducible conv => arg 2; arg 1; arg 1; whnf); split) | with_reducible refine State.Data.eq2 (by with_reducible assumption) ?_ | with_reducible refine State.Data.eq22 (by with_reducible assumption) ?_ | with_reducible refine State.Data.eq222 (by with_reducible assumption) ?_ | with_reducible refine State.Data.eq1 (by with_reducible assumption) ?_ | with_reducible apply State.Data.mk_)

theorem execCoreLoadDone_data (b0 : State) (s : State) (h0 : b0.Data s) : b0.DataOut (execCoreLoadDone s) := by
  unfold execCoreLoadDone
  repeat' (first | with_reducible assumption | with_reducible apply doCoreLoadDone_data | with_reducible apply State.Data.next | intro _)

theorem State.coreFault_data (b0 : State) (s : State) (c code : Nat) (h0 : b0.Data s) : b0.Data (State.coreFault s c code) := by
  unfold State.coreFault
  repeat' (first | with_reducible assumption | intro _ _ _ | intro _ | with_reducible apply State.setFs_data | with_reducible apply State.hwSet_data | with_reducible apply State.updSeq_data | with_reducible apply State.updSeqRun_data | with_reducible apply State.seqFault_data | with_reducible apply State.Data.ite | with_reducible apply State.Data.ite2 | with_reducible apply State.Data.ite22 | with_reducible apply State.Data.ite222 | with_reducible apply State.Data.ite1 | with_reducible apply State.Data.ite21 | split | ((with_reducible conv => arg 2; whnf); split) | ((with_reducible conv => arg 2; arg 1; whnf); split) | ((with_reducible conv => arg 2; arg 1; arg 1; whnf); split) | with_reducible refine State.Data.eq2 (by with_reducible assumption) ?_ | with_reducible refine State.Data.eq22 (by with_reducible assumption) ?_ | with_reducible refine State.Data.eq222 (by with_reducible assumption) ?_ | with_reducible refine State.Data.eq1 (by with_reducible assumption) ?_ | with_reducible apply State.Data.mk_)

theorem State.toCore_data (b0 : State) (s : State) (t : Nat) (h0 : b0.Data s) : b0.Data (State.toCore s t) := by
  unfold State.toCore
  repeat' (first | with_reducible assumption | with_reducible apply State.advanceNs_data | with_reducible apply State.Data.ite | split | ((with_reducible conv => arg 2; whnf); split) | intro _)

theorem doCoreClockStep_data (b0 : State) (temps : List Int) (s : State) (h0 : b0.Data s) : b0.Data (doCoreClockStep temps s) := by
  unfold doCoreClockStep
  repeat' (first | with_reducible assumption | intro _ _ _ | intro _ | with_reducible apply State.setF_data | with_reducible apply State.satF_data | with_reducible apply State.count_data | with_reducible apply State.raise_data | with_reducible apply State.Data.ite | with_reducible apply State.Data.ite2 | with_reducible apply State.Data.ite22 | with_reducible apply State.Data.ite222 | with_reducible apply State.Data.ite1 | with_reducible apply State.Data.ite21 | split | ((with_reducible conv => arg 2; whnf); split) | ((with_reducible conv => arg 2; arg 1; whnf); split) | ((with_reducible conv => arg 2; arg 1; arg 1; whnf); split) | with_reducible apply State.Data.mk_)

theorem execCoreClockStep_data (b0 : State) (temps : List Int) (s : State) (h0 : b0.Data s) : b0.DataOut (execCoreClockStep temps s) := by
  unfold execCoreClockStep
  repeat' (first | with_reducible assumption | intro _ _ _ | intro _ | with_reducible apply doCoreClockStep_data | with_reducible apply State.Data.next | with_reducible apply State.Data.mk_)

end Sys2Proof.Machine
end

