-- ==== Sys2Proof/Laws/DataMxa.lean ====
section
/-! SUPPORT. Operations of Machine/Mxa.lean that leave all stored data alone. -/
namespace Sys2Proof.Machine

set_option linter.all false
set_option Elab.async false

theorem State.acfCorrect_data (b0 : State) (s : State) (die col entry : Nat) (h0 : b0.Data s) : b0.Data (State.acfCorrect s die col entry) := by
  unfold State.acfCorrect
  repeat' (first | with_reducible assumption | intro _ _ _ | intro _ | with_reducible apply State.satF_data | with_reducible apply State.hwSets_data | with_reducible apply State.count_data | with_reducible apply State.Data.ite | with_reducible apply State.Data.ite2 | with_reducible apply State.Data.ite22 | with_reducible apply State.Data.ite222 | with_reducible apply State.Data.ite1 | with_reducible apply State.Data.ite21 | split | ((with_reducible conv => arg 2; whnf); split) | ((with_reducible conv => arg 2; arg 1; whnf); split) | ((with_reducible conv => arg 2; arg 1; arg 1; whnf); split) | with_reducible apply State.Data.mk_)

theorem loadTile_data (b0 : State) (die off n ld : Nat) (s : State) (h0 : b0.Data s) : b0.Data (loadTile die off n ld s).2 := by
  unfold loadTile
  repeat' (first | with_reducible assumption | intro _ _ _ | intro _ | with_reducible apply State.spmRequest_data | with_reducible apply State.count_data | with_reducible apply State.spmCorrect_data | with_reducible apply State.Data.ite | with_reducible apply State.Data.ite2 | with_reducible apply State.Data.ite22 | with_reducible apply State.Data.ite222 | with_reducible apply State.Data.ite1 | with_reducible apply State.Data.ite21 | split | ((with_reducible conv => arg 2; whnf); split) | ((with_reducible conv => arg 2; arg 1; whnf); split) | ((with_reducible conv => arg 2; arg 1; arg 1; whnf); split) | with_reducible refine State.Data.eq2 (by with_reducible assumption) ?_ | with_reducible refine State.Data.eq22 (by with_reducible assumption) ?_ | with_reducible refine State.Data.eq222 (by with_reducible assumption) ?_ | with_reducible refine State.Data.eq1 (by with_reducible assumption) ?_ | with_reducible apply State.Data.pair2 | with_reducible apply State.Data.pair22 | with_reducible apply State.Data.pair222 | with_reducible apply State.Data.mk_)

theorem mxaEnd_data (b0 : State) (die idx : Nat) (c : Cmd) (s : State) (h0 : b0.Data s) : b0.Data (mxaEnd die idx c s) := by
  unfold mxaEnd
  repeat' (first | with_reducible assumption | intro _ _ _ | intro _ | with_reducible apply State.count_data | with_reducible apply State.perform_data | with_reducible apply State.Data.ite | with_reducible apply State.Data.ite2 | with_reducible apply State.Data.ite22 | with_reducible apply State.Data.ite222 | with_reducible apply State.Data.ite1 | with_reducible apply State.Data.ite21 | split | ((with_reducible conv => arg 2; whnf); split) | ((with_reducible conv => arg 2; arg 1; whnf); split) | ((with_reducible conv => arg 2; arg 1; arg 1; whnf); split) | with_reducible refine State.Data.eq2 (by with_reducible assumption) ?_ | with_reducible refine State.Data.eq22 (by with_reducible assumption) ?_ | with_reducible refine State.Data.eq222 (by with_reducible assumption) ?_ | with_reducible refine State.Data.eq1 (by with_reducible assumption) ?_ | with_reducible apply State.Data.mk_)

end Sys2Proof.Machine
end

