-- ==== Sys2Proof/Laws/DataSxe.lean ====
section
/-! SUPPORT. Operations of Machine/Sxe.lean that leave all stored data alone. -/
namespace Sys2Proof.Machine

set_option linter.all false
set_option Elab.async false

theorem State.Data.iteSxRun {s : State} {a b : SxRun} {c : Prop} [Decidable c] (ha : s.Data a.s) (hb : s.Data b.s) : s.Data (if c then a else b).s := by
  split <;> assumption

theorem State.Data.foldlSxRun {α : Type} {s : State} {f : SxRun → α → SxRun} {l : List α} {t : SxRun} (h : s.Data t.s)
    (hf : ∀ u x, s.Data u.s → s.Data (f u x).s) : s.Data (l.foldl f t).s := by
  induction l generalizing t with
  | nil => exact h
  | cons x r ih => exact ih (hf t x h)

theorem State.Data.ite1s {β : Type} {s : State} {a b : SxRun × β} {c : Prop} [Decidable c] (ha : s.Data a.1.s) (hb : s.Data b.1.s) :
    s.Data (if c then a else b).1.s := by
  split <;> assumption

theorem State.Data.foldl1s {α β : Type} {s : State} {f : SxRun × β → α → SxRun × β} {l : List α} {t : SxRun × β} (h : s.Data t.1.s)
    (hf : ∀ u x, s.Data u.1.s → s.Data (f u x).1.s) : s.Data (l.foldl f t).1.s := by
  induction l generalizing t with
  | nil => exact h
  | cons x r ih => exact ih (hf t x h)

theorem sxeReads_data (b0 : State) (die cyc : Nat) (l : List (Nat × Nat × Nat)) (s : State) (h0 : b0.Data s) : b0.Data (sxeReads die cyc l s).2 := by
  unfold sxeReads
  repeat' (first | with_reducible assumption | intro _ _ _ | intro _ | with_reducible apply State.spmRead_data | with_reducible apply State.Data.foldl | with_reducible apply State.Data.foldl2 | with_reducible apply State.Data.foldl22 | with_reducible apply State.Data.foldl222 | with_reducible apply State.Data.foldl1 | with_reducible apply State.Data.iteSxRun | with_reducible apply State.Data.foldlSxRun | with_reducible apply State.Data.ite1s | with_reducible apply State.Data.foldl1s | split | ((with_reducible conv => arg 2; whnf); split) | ((with_reducible conv => arg 2; arg 1; whnf); split) | ((with_reducible conv => arg 2; arg 1; arg 1; whnf); split))

theorem doSxeAcfWaitEnd_data (b0 : State) (die e : Nat) (s : State) (h0 : b0.Data s) : b0.Data (doSxeAcfWaitEnd die e s) := by
  unfold doSxeAcfWaitEnd
  repeat' (first | with_reducible assumption | intro _ _ _ | intro _ | with_reducible apply State.toCyc_data | split | ((with_reducible conv => arg 2; whnf); split) | ((with_reducible conv => arg 2; arg 1; whnf); split) | ((with_reducible conv => arg 2; arg 1; arg 1; whnf); split) | with_reducible refine State.Data.eq2 (by with_reducible assumption) ?_ | with_reducible refine State.Data.eq22 (by with_reducible assumption) ?_ | with_reducible refine State.Data.eq222 (by with_reducible assumption) ?_ | with_reducible refine State.Data.eq1 (by with_reducible assumption) ?_ | with_reducible apply State.Data.mk_)

theorem execSxeAcfWaitEnd_data (b0 : State) (die : Fin 4) (idx : Nat) (s : State) (h0 : b0.Data s) : b0.DataOut (execSxeAcfWaitEnd die idx s) := by
  unfold execSxeAcfWaitEnd
  repeat' (first | with_reducible assumption | with_reducible apply doSxeAcfWaitEnd_data | with_reducible apply State.Data.next | with_reducible apply State.Data.iteSxRun | with_reducible apply State.Data.foldlSxRun | with_reducible apply State.Data.ite1s | with_reducible apply State.Data.foldl1s | intro _)

end Sys2Proof.Machine
end

