-- ==== Sys2Proof/Laws/DataLoad.lean ====
section
/-! SUPPORT. Operations of Machine/Load.lean that leave all stored data alone. -/
namespace Sys2Proof.Machine

set_option linter.all false
set_option Elab.async false

theorem State.compatBit_data (b0 : State) (s : State) (die : Nat) (h0 : b0.Data s) : b0.Data (State.compatBit s die) := by
  unfold State.compatBit
  repeat' (first | with_reducible assumption | with_reducible apply State.setF_data | intro _)

theorem State.settleIdle_data (b0 : State) (s : State) (p : Nat) (h0 : b0.Data s) : b0.Data (State.settleIdle s p) := by
  unfold State.settleIdle
  repeat' (first | with_reducible assumption | intro _ _ _ | intro _ | with_reducible apply State.setFrameState_data | with_reducible apply State.Data.ite | split | ((with_reducible conv => arg 2; whnf); split))

theorem doScuLoad_data (b0 : State) (die v : Nat) (s : State) (h0 : b0.Data s) : b0.Data (doScuLoad die v s) := by
  unfold doScuLoad
  repeat' (first | with_reducible assumption | intro _ _ _ | intro _ | with_reducible apply State.setFs_data | with_reducible apply State.answer_data | with_reducible apply State.refused_data | with_reducible apply State.setF_data | with_reducible apply State.updDie_data | with_reducible apply State.Data.ite | with_reducible apply State.Data.ite2 | with_reducible apply State.Data.ite22 | with_reducible apply State.Data.ite222 | with_reducible apply State.Data.ite1 | with_reducible apply State.Data.ite21 | split | ((with_reducible conv => arg 2; whnf); split) | ((with_reducible conv => arg 2; arg 1; whnf); split) | ((with_reducible conv => arg 2; arg 1; arg 1; whnf); split) | with_reducible apply State.Data.mk_)

theorem execScuLoad_data (b0 : State) (die : Fin 4) (val : Word) (s : State) (h0 : b0.Data s) : b0.DataOut (execScuLoad die val s) := by
  unfold execScuLoad
  repeat' (first | with_reducible assumption | with_reducible apply doScuLoad_data | with_reducible apply State.Data.next | intro _)

theorem doScuLoadDone_data (b0 : State) (die : Nat) (s : State) (h0 : b0.Data s) : b0.Data (doScuLoadDone die s) := by
  unfold doScuLoadDone
  repeat' (first | with_reducible assumption | intro _ _ _ | intro _ | with_reducible apply State.updDie_data | with_reducible apply State.extRead_data | with_reducible apply State.installBank_data | with_reducible apply State.setFs_data | with_reducible apply State.planBits_data | with_reducible apply State.compatBit_data | with_reducible apply State.settleIdle_data | with_reducible apply State.Data.ite | with_reducible apply State.Data.ite2 | with_reducible apply State.Data.ite22 | with_reducible apply State.Data.ite222 | with_reducible apply State.Data.ite1 | with_reducible apply State.Data.ite21 | split | ((with_reducible conv => arg 2; whnf); split) | ((with_reducible conv => arg 2; arg 1; whnf); split) | ((with_reducible conv => arg 2; arg 1; arg 1; whnf); split) | with_reducible refine State.Data.eq2 (by with_reducible assumption) ?_ | with_reducible refine State.Data.eq22 (by with_reducible assumption) ?_ | with_reducible refine State.Data.eq222 (by with_reducible assumption) ?_ | with_reducible refine State.Data.eq1 (by with_reducible assumption) ?_ | with_reducible apply State.Data.mk_)

theorem execScuLoadDone_data (b0 : State) (die : Fin 4) (s : State) (h0 : b0.Data s) : b0.DataOut (execScuLoadDone die s) := by
  unfold execScuLoadDone
  repeat' (first | with_reducible assumption | with_reducible apply doScuLoadDone_data | with_reducible apply State.Data.next | intro _)

theorem qloadRun_data (b0 : State) (x : Xfer) (x0 : Nat) (x1 : Flow) (x2 : List Byte) (x3 : State) (h0 : b0.Data x3) : b0.Data (qloadRun x x0 x1 x2 x3).2 := by
  induction x0 generalizing x1 x2 x3 with
  | zero =>
    unfold qloadRun
    repeat' (first | with_reducible assumption | intro _ _ _ | intro _ | with_reducible apply flowRequest_data | with_reducible apply State.Data.ite | with_reducible apply State.Data.ite2 | with_reducible apply State.Data.ite22 | with_reducible apply State.Data.ite222 | with_reducible apply State.Data.ite1 | with_reducible apply State.Data.ite21 | split | ((with_reducible conv => arg 2; whnf); split) | ((with_reducible conv => arg 2; arg 1; whnf); split) | ((with_reducible conv => arg 2; arg 1; arg 1; whnf); split) | with_reducible refine State.Data.eq2 (by with_reducible assumption) ?_ | with_reducible refine State.Data.eq22 (by with_reducible assumption) ?_ | with_reducible refine State.Data.eq222 (by with_reducible assumption) ?_ | with_reducible refine State.Data.eq1 (by with_reducible assumption) ?_ | with_reducible apply State.Data.pair2 | with_reducible apply State.Data.pair22 | with_reducible apply State.Data.pair222 | with_reducible apply State.Data.mk_)
  | succ k ih =>
    unfold qloadRun
    repeat' (first | with_reducible apply ih | with_reducible assumption | intro _ _ _ | intro _ | with_reducible apply flowRequest_data | with_reducible apply State.Data.ite | with_reducible apply State.Data.ite2 | with_reducible apply State.Data.ite22 | with_reducible apply State.Data.ite222 | with_reducible apply State.Data.ite1 | with_reducible apply State.Data.ite21 | split | ((with_reducible conv => arg 2; whnf); split) | ((with_reducible conv => arg 2; arg 1; whnf); split) | ((with_reducible conv => arg 2; arg 1; arg 1; whnf); split) | with_reducible refine State.Data.eq2 (by with_reducible assumption) ?_ | with_reducible refine State.Data.eq22 (by with_reducible assumption) ?_ | with_reducible refine State.Data.eq222 (by with_reducible assumption) ?_ | with_reducible refine State.Data.eq1 (by with_reducible assumption) ?_ | with_reducible apply State.Data.pair2 | with_reducible apply State.Data.pair22 | with_reducible apply State.Data.pair222 | with_reducible apply State.Data.mk_)

theorem doQload_data (b0 : State) (die idx : Nat) (s : State) (h0 : b0.Data s) : b0.Data (doQload die idx s) := by
  unfold doQload
  repeat' (first | with_reducible assumption | intro _ _ _ | intro _ | with_reducible apply State.setFs_data | with_reducible apply State.dropBank_data | with_reducible apply qloadRun_data | with_reducible apply State.loadStatus_data | with_reducible apply State.faultMove_data | with_reducible apply State.updDie_data | with_reducible apply State.perform_data | with_reducible apply State.Data.ite | with_reducible apply State.Data.ite2 | with_reducible apply State.Data.ite22 | with_reducible apply State.Data.ite222 | with_reducible apply State.Data.ite1 | with_reducible apply State.Data.ite21 | split | ((with_reducible conv => arg 2; whnf); split) | ((with_reducible conv => arg 2; arg 1; whnf); split) | ((with_reducible conv => arg 2; arg 1; arg 1; whnf); split) | with_reducible refine State.Data.eq2 (by with_reducible assumption) ?_ | with_reducible refine State.Data.eq22 (by with_reducible assumption) ?_ | with_reducible refine State.Data.eq222 (by with_reducible assumption) ?_ | with_reducible refine State.Data.eq1 (by with_reducible assumption) ?_ | with_reducible apply State.Data.mk_)

theorem execQload_data (b0 : State) (die : Fin 4) (idx : Nat) (s : State) (h0 : b0.Data s) : b0.DataOut (execQload die idx s) := by
  unfold execQload
  repeat' (first | with_reducible assumption | with_reducible apply doQload_data | with_reducible apply State.Data.next | intro _)

theorem doFrameLenWrite_data (b0 : State) (p v : Nat) (s : State) (h0 : b0.Data s) : b0.Data (doFrameLenWrite p v s) := by
  unfold doFrameLenWrite
  repeat' (first | with_reducible assumption | intro _ _ _ | intro _ | with_reducible apply State.raiseP_data | with_reducible apply State.answer_data | with_reducible apply State.setFs_data | with_reducible apply State.Data.ite | with_reducible apply State.Data.ite2 | with_reducible apply State.Data.ite22 | with_reducible apply State.Data.ite222 | with_reducible apply State.Data.ite1 | with_reducible apply State.Data.ite21 | split | ((with_reducible conv => arg 2; whnf); split) | ((with_reducible conv => arg 2; arg 1; whnf); split) | ((with_reducible conv => arg 2; arg 1; arg 1; whnf); split) | with_reducible apply State.Data.mk_)

theorem execFrameLenWrite_data (b0 : State) (p : Fin 4) (val : Word) (s : State) (h0 : b0.Data s) : b0.DataOut (execFrameLenWrite p val s) := by
  unfold execFrameLenWrite
  repeat' (first | with_reducible assumption | with_reducible apply doFrameLenWrite_data | with_reducible apply State.Data.next | intro _)

end Sys2Proof.Machine
end

