-- ==== Sys2Proof/Laws/DataObserve.lean ====
section
/-! SUPPORT. Operations of Machine/Observe.lean that leave all stored data alone. -/
namespace Sys2Proof.Machine

set_option linter.all false
set_option Elab.async false

theorem State.alert_data (b0 : State) (s : State) (p code kind num : Nat) (h0 : b0.Data s) : b0.Data (State.alert s p code kind num) := by
  unfold State.alert
  repeat' (first | with_reducible assumption | with_reducible apply State.satF_data | with_reducible apply State.setF_data | with_reducible apply State.Data.ite | split | ((with_reducible conv => arg 2; whnf); split) | with_reducible apply State.Data.mk_ | intro _)

theorem State.alertAll_data (b0 : State) (s : State) (code kind num : Nat) (h0 : b0.Data s) : b0.Data (State.alertAll s code kind num) := by
  unfold State.alertAll
  repeat' (first | with_reducible assumption | intro _ _ _ | intro _ | with_reducible apply State.alert_data | with_reducible apply State.Data.ite | with_reducible apply State.Data.foldl | with_reducible apply State.Data.foldl2 | with_reducible apply State.Data.foldl22 | with_reducible apply State.Data.foldl222 | with_reducible apply State.Data.foldl1 | split | ((with_reducible conv => arg 2; whnf); split))

theorem State.csLatch_data (b0 : State) (s : State) (step : Nat) (h0 : b0.Data s) : b0.Data (State.csLatch s step) := by
  unfold State.csLatch
  repeat' (first | with_reducible assumption | intro _ _ _ | intro _ | with_reducible apply State.setF_data | with_reducible apply State.setFs_data | with_reducible apply State.Data.ite | with_reducible apply State.Data.foldl | with_reducible apply State.Data.foldl2 | with_reducible apply State.Data.foldl22 | with_reducible apply State.Data.foldl222 | with_reducible apply State.Data.foldl1 | split | ((with_reducible conv => arg 2; whnf); split) | with_reducible apply State.Data.mk_)

theorem State.csTick_data (b0 : State) (s : State) (first n : Nat) (h0 : b0.Data s) : b0.Data (State.csTick s first n) := by
  unfold State.csTick
  repeat' (first | with_reducible assumption | with_reducible apply State.csLatch_data | with_reducible apply State.Data.ite | split | ((with_reducible conv => arg 2; whnf); split) | with_reducible refine State.Data.eq2 (by with_reducible assumption) ?_ | with_reducible refine State.Data.eq22 (by with_reducible assumption) ?_ | with_reducible refine State.Data.eq222 (by with_reducible assumption) ?_ | with_reducible refine State.Data.eq1 (by with_reducible assumption) ?_ | intro _)

theorem doCsArm_data (b0 : State) (v : Nat) (s : State) (h0 : b0.Data s) : b0.Data (doCsArm v s) := by
  unfold doCsArm
  repeat' (first | with_reducible assumption | intro _ _ _ | intro _ | with_reducible apply State.setFs_data | with_reducible apply State.answer_data | with_reducible apply State.refused_data | with_reducible apply State.Data.ite | with_reducible apply State.Data.ite2 | with_reducible apply State.Data.ite22 | with_reducible apply State.Data.ite222 | with_reducible apply State.Data.ite1 | with_reducible apply State.Data.ite21 | split | ((with_reducible conv => arg 2; whnf); split) | ((with_reducible conv => arg 2; arg 1; whnf); split) | ((with_reducible conv => arg 2; arg 1; arg 1; whnf); split) | with_reducible apply State.Data.mk_)

theorem execCsArm_data (b0 : State) (val : Word) (s : State) (h0 : b0.Data s) : b0.DataOut (execCsArm val s) := by
  unfold execCsArm
  repeat' (first | with_reducible assumption | with_reducible apply doCsArm_data | with_reducible apply State.Data.next | intro _)

theorem doCsNow_data (b0 : State) (s : State) (h0 : b0.Data s) : b0.Data (doCsNow s) := by
  unfold doCsNow
  repeat' (first | with_reducible assumption | intro _ _ _ | intro _ | with_reducible apply State.csLatch_data | with_reducible apply State.answer_data | with_reducible apply State.refused_data | with_reducible apply State.Data.ite | with_reducible apply State.Data.ite2 | with_reducible apply State.Data.ite22 | with_reducible apply State.Data.ite222 | with_reducible apply State.Data.ite1 | with_reducible apply State.Data.ite21 | split | ((with_reducible conv => arg 2; whnf); split) | ((with_reducible conv => arg 2; arg 1; whnf); split) | ((with_reducible conv => arg 2; arg 1; arg 1; whnf); split) | with_reducible apply State.Data.mk_)

theorem execCsNow_data (b0 : State) (s : State) (h0 : b0.Data s) : b0.DataOut (execCsNow s) := by
  unfold execCsNow
  repeat' (first | with_reducible assumption | with_reducible apply doCsNow_data | with_reducible apply State.Data.next | intro _)

theorem State.sendProbe_data (b0 : State) (s : State) (i : Nat) (h0 : b0.Data s) : b0.Data (State.sendProbe s i) := by
  unfold State.sendProbe
  repeat' (first | with_reducible assumption | with_reducible apply State.emit_data | intro _)

theorem doTbMeasure_data (b0 : State) (s : State) (h0 : b0.Data s) : b0.Data (doTbMeasure s) := by
  unfold doTbMeasure
  repeat' (first | with_reducible assumption | intro _ _ _ | intro _ | with_reducible apply State.refused_data | with_reducible apply State.answer_data | with_reducible apply State.setF_data | with_reducible apply State.sendProbe_data | with_reducible apply State.Data.ite | with_reducible apply State.Data.ite2 | with_reducible apply State.Data.ite22 | with_reducible apply State.Data.ite222 | with_reducible apply State.Data.ite1 | with_reducible apply State.Data.ite21 | with_reducible apply State.Data.foldl | with_reducible apply State.Data.foldl2 | with_reducible apply State.Data.foldl22 | with_reducible apply State.Data.foldl222 | with_reducible apply State.Data.foldl1 | split | ((with_reducible conv => arg 2; whnf); split) | ((with_reducible conv => arg 2; arg 1; whnf); split) | ((with_reducible conv => arg 2; arg 1; arg 1; whnf); split) | with_reducible apply State.Data.mk_)

theorem execTbMeasure_data (b0 : State) (s : State) (h0 : b0.Data s) : b0.DataOut (execTbMeasure s) := by
  unfold execTbMeasure
  repeat' (first | with_reducible assumption | with_reducible apply doTbMeasure_data | with_reducible apply State.Data.next | intro _)

theorem State.tbEnd_data (b0 : State) (s : State) (code : Nat) (h0 : b0.Data s) : b0.Data (State.tbEnd s code) := by
  unfold State.tbEnd
  repeat' (first | with_reducible assumption | intro _ _ _ | intro _ | with_reducible apply State.hwSets_data | with_reducible apply State.Data.mk_)

theorem doTbProbeTimeout_data (b0 : State) (i : Nat) (s : State) (h0 : b0.Data s) : b0.Data (doTbProbeTimeout i s) := by
  unfold doTbProbeTimeout
  repeat' (first | with_reducible assumption | with_reducible apply State.tbEnd_data | with_reducible apply State.raise_data | with_reducible apply State.sendProbe_data | with_reducible apply State.Data.ite | split | ((with_reducible conv => arg 2; whnf); split) | with_reducible refine State.Data.eq2 (by with_reducible assumption) ?_ | with_reducible refine State.Data.eq22 (by with_reducible assumption) ?_ | with_reducible refine State.Data.eq222 (by with_reducible assumption) ?_ | with_reducible refine State.Data.eq1 (by with_reducible assumption) ?_ | with_reducible apply State.Data.mk_ | intro _)

theorem execTbProbeTimeout_data (b0 : State) (probe : Nat) (s : State) (h0 : b0.Data s) : b0.DataOut (execTbProbeTimeout probe s) := by
  unfold execTbProbeTimeout
  repeat' (first | with_reducible assumption | with_reducible apply doTbProbeTimeout_data | with_reducible apply State.Data.next | intro _)

theorem doTbMeasureDone_data (b0 : State) (stamps : List (Int × Int × Int × Int)) (s : State) (h0 : b0.Data s) : b0.Data (doTbMeasureDone stamps s) := by
  unfold doTbMeasureDone
  repeat' (first | with_reducible assumption | intro _ _ _ | intro _ | with_reducible apply State.tbEnd_data | with_reducible apply State.setFs_data | with_reducible apply State.Data.ite | split | ((with_reducible conv => arg 2; whnf); split) | with_reducible apply State.Data.mk_)

theorem execTbMeasureDone_data (b0 : State) (stamps : List (Int × Int × Int × Int)) (s : State) (h0 : b0.Data s) : b0.DataOut (execTbMeasureDone stamps s) := by
  unfold execTbMeasureDone
  repeat' (first | with_reducible assumption | with_reducible apply doTbMeasureDone_data | with_reducible apply State.Data.next | intro _)

theorem State.updExpo_data (b0 : State) (s : State) (die : Nat) (f : Expo → Expo) (h0 : b0.Data s) : b0.Data (State.updExpo s die f) := by
  unfold State.updExpo
  repeat' (first | with_reducible assumption | intro _ _ _ | intro _ | with_reducible apply State.updDie_data | with_reducible apply State.expo_data | split | ((with_reducible conv => arg 2; whnf); split) | with_reducible apply State.Data.mk_)

theorem State.expoCtrl_data (b0 : State) (s : State) (die v : Nat) (h0 : b0.Data s) : b0.Data (State.expoCtrl s die v).2 := by
  unfold State.expoCtrl
  repeat' (first | with_reducible assumption | intro _ _ _ | intro _ | with_reducible apply State.setF_data | with_reducible apply State.updExpo_data | with_reducible apply State.setFs_data | with_reducible apply State.Data.ite | with_reducible apply State.Data.ite2 | with_reducible apply State.Data.ite22 | with_reducible apply State.Data.ite222 | with_reducible apply State.Data.ite1 | with_reducible apply State.Data.ite21 | split | ((with_reducible conv => arg 2; whnf); split) | ((with_reducible conv => arg 2; arg 1; whnf); split) | ((with_reducible conv => arg 2; arg 1; arg 1; whnf); split) | with_reducible apply State.Data.mk_)

theorem doExpArm_data (b0 : State) (die v : Nat) (s : State) (h0 : b0.Data s) : b0.Data (doExpArm die v s) := by
  unfold doExpArm
  repeat' (first | with_reducible assumption | intro _ _ _ | intro _ | with_reducible apply State.answer_data | with_reducible apply State.expoCtrl_data | with_reducible apply State.refused_data | with_reducible apply State.Data.ite | with_reducible apply State.Data.ite2 | with_reducible apply State.Data.ite22 | with_reducible apply State.Data.ite222 | with_reducible apply State.Data.ite1 | with_reducible apply State.Data.ite21 | split | ((with_reducible conv => arg 2; whnf); split) | ((with_reducible conv => arg 2; arg 1; whnf); split) | ((with_reducible conv => arg 2; arg 1; arg 1; whnf); split) | with_reducible refine State.Data.eq2 (by with_reducible assumption) ?_ | with_reducible refine State.Data.eq22 (by with_reducible assumption) ?_ | with_reducible refine State.Data.eq222 (by with_reducible assumption) ?_ | with_reducible refine State.Data.eq1 (by with_reducible assumption) ?_ | with_reducible apply State.Data.mk_)

theorem execExpArm_data (b0 : State) (die : Fin 4) (val : Word) (s : State) (h0 : b0.Data s) : b0.DataOut (execExpArm die val s) := by
  unfold execExpArm
  repeat' (first | with_reducible assumption | with_reducible apply doExpArm_data | with_reducible apply State.Data.next | intro _)

theorem doExpStop_data (b0 : State) (die : Nat) (s : State) (h0 : b0.Data s) : b0.Data (doExpStop die s) := by
  unfold doExpStop
  repeat' (first | with_reducible assumption | with_reducible apply doExpArm_data | intro _)

theorem execExpStop_data (b0 : State) (die : Fin 4) (s : State) (h0 : b0.Data s) : b0.DataOut (execExpStop die s) := by
  unfold execExpStop
  repeat' (first | with_reducible assumption | with_reducible apply doExpStop_data | with_reducible apply State.Data.next | intro _)

theorem State.expoStart_data (b0 : State) (s : State) (die : Nat) (rerun : Bool) (h0 : b0.Data s) : b0.Data (State.expoStart s die rerun) := by
  unfold State.expoStart
  repeat' (first | with_reducible assumption | intro _ _ _ | intro _ | with_reducible apply State.expo_data | with_reducible apply State.setF_data | with_reducible apply State.updExpo_data | with_reducible apply State.hwSet_data | with_reducible apply State.raise_data | with_reducible apply State.Data.ite | with_reducible apply State.Data.ite2 | with_reducible apply State.Data.ite22 | with_reducible apply State.Data.ite222 | with_reducible apply State.Data.ite1 | with_reducible apply State.Data.ite21 | split | ((with_reducible conv => arg 2; whnf); split) | ((with_reducible conv => arg 2; arg 1; whnf); split) | ((with_reducible conv => arg 2; arg 1; arg 1; whnf); split) | with_reducible apply State.Data.mk_)

theorem State.expoEnd_data (b0 : State) (s : State) (die : Nat) (h0 : b0.Data s) : b0.Data (State.expoEnd s die) := by
  unfold State.expoEnd
  repeat' (first | with_reducible assumption | intro _ _ _ | intro _ | with_reducible apply State.updExpo_data | with_reducible apply State.setFs_data | with_reducible apply State.Data.ite | split | ((with_reducible conv => arg 2; whnf); split) | with_reducible apply State.Data.mk_)

theorem doJournalReport_data (b0 : State) (s : State) (h0 : b0.Data s) : b0.Data (doJournalReport s) := by
  unfold doJournalReport
  repeat' (first | with_reducible assumption | intro _ _ _ | intro _ | with_reducible apply State.count_data | with_reducible apply State.satF_data | with_reducible apply State.hwSet_data | with_reducible apply State.alertAll_data | with_reducible apply State.Data.ite | with_reducible apply State.Data.ite2 | with_reducible apply State.Data.ite22 | with_reducible apply State.Data.ite222 | with_reducible apply State.Data.ite1 | with_reducible apply State.Data.ite21 | split | ((with_reducible conv => arg 2; whnf); split) | ((with_reducible conv => arg 2; arg 1; whnf); split) | ((with_reducible conv => arg 2; arg 1; arg 1; whnf); split) | with_reducible refine State.Data.eq2 (by with_reducible assumption) ?_ | with_reducible refine State.Data.eq22 (by with_reducible assumption) ?_ | with_reducible refine State.Data.eq222 (by with_reducible assumption) ?_ | with_reducible refine State.Data.eq1 (by with_reducible assumption) ?_ | with_reducible apply State.Data.mk_)

theorem execJournalReport_data (b0 : State) (s : State) (h0 : b0.Data s) : b0.DataOut (execJournalReport s) := by
  unfold execJournalReport
  repeat' (first | with_reducible assumption | with_reducible apply doJournalReport_data | with_reducible apply State.Data.next | intro _)

theorem doJournalRecord_data (b0 : State) (s : State) (h0 : b0.Data s) : b0.Data (doJournalRecord s) := by
  unfold doJournalRecord
  repeat' (first | with_reducible assumption | intro _ _ _ | intro _ | with_reducible apply State.setFs_data | split | ((with_reducible conv => arg 2; whnf); split) | ((with_reducible conv => arg 2; arg 1; whnf); split) | ((with_reducible conv => arg 2; arg 1; arg 1; whnf); split) | with_reducible refine State.Data.eq2 (by with_reducible assumption) ?_ | with_reducible refine State.Data.eq22 (by with_reducible assumption) ?_ | with_reducible refine State.Data.eq222 (by with_reducible assumption) ?_ | with_reducible refine State.Data.eq1 (by with_reducible assumption) ?_ | with_reducible apply State.Data.mk_)

theorem execJournalRecord_data (b0 : State) (s : State) (h0 : b0.Data s) : b0.DataOut (execJournalRecord s) := by
  unfold execJournalRecord
  repeat' (first | with_reducible assumption | with_reducible apply doJournalRecord_data | with_reducible apply State.Data.next | intro _)

theorem doJournalAlert_data (b0 : State) (i : Nat) (s : State) (h0 : b0.Data s) : b0.Data (doJournalAlert i s) := by
  unfold doJournalAlert
  repeat' (first | with_reducible assumption | intro _ _ _ | intro _ | with_reducible apply State.alert_data | with_reducible apply State.Data.ite | with_reducible apply State.Data.ite2 | with_reducible apply State.Data.ite22 | with_reducible apply State.Data.ite222 | with_reducible apply State.Data.ite1 | with_reducible apply State.Data.ite21 | with_reducible apply State.Data.foldl | with_reducible apply State.Data.foldl2 | with_reducible apply State.Data.foldl22 | with_reducible apply State.Data.foldl222 | with_reducible apply State.Data.foldl1 | split | ((with_reducible conv => arg 2; whnf); split) | ((with_reducible conv => arg 2; arg 1; whnf); split) | ((with_reducible conv => arg 2; arg 1; arg 1; whnf); split) | with_reducible refine State.Data.eq2 (by with_reducible assumption) ?_ | with_reducible refine State.Data.eq22 (by with_reducible assumption) ?_ | with_reducible refine State.Data.eq222 (by with_reducible assumption) ?_ | with_reducible refine State.Data.eq1 (by with_reducible assumption) ?_ | with_reducible apply State.Data.mk_)

theorem execJournalAlert_data (b0 : State) (index : Nat) (s : State) (h0 : b0.Data s) : b0.DataOut (execJournalAlert index s) := by
  unfold execJournalAlert
  repeat' (first | with_reducible assumption | with_reducible apply doJournalAlert_data | with_reducible apply State.Data.next | intro _)

theorem doJnlHeadWrite_data (b0 : State) (v : Nat) (s : State) (h0 : b0.Data s) : b0.Data (doJnlHeadWrite v s) := by
  unfold doJnlHeadWrite
  repeat' (first | with_reducible assumption | with_reducible apply State.setF_data | with_reducible apply State.answer_data | with_reducible apply State.Data.ite | split | ((with_reducible conv => arg 2; whnf); split) | intro _)

theorem execJnlHeadWrite_data (b0 : State) (val : Word) (s : State) (h0 : b0.Data s) : b0.DataOut (execJnlHeadWrite val s) := by
  unfold execJnlHeadWrite
  repeat' (first | with_reducible assumption | with_reducible apply doJnlHeadWrite_data | with_reducible apply State.Data.next | intro _)

theorem doJnlClearSeen_data (b0 : State) (s : State) (h0 : b0.Data s) : b0.Data (doJnlClearSeen s) := by
  unfold doJnlClearSeen
  repeat' (first | with_reducible assumption | with_reducible apply State.setF_data | with_reducible apply State.answer_data | intro _)

theorem execJnlClearSeen_data (b0 : State) (s : State) (h0 : b0.Data s) : b0.DataOut (execJnlClearSeen s) := by
  unfold execJnlClearSeen
  repeat' (first | with_reducible assumption | with_reducible apply doJnlClearSeen_data | with_reducible apply State.Data.next | intro _)

end Sys2Proof.Machine
end

