-- ==== Sys2Proof/Laws/DataRegIo.lean ====
section
/-! SUPPORT. Operations of Machine/RegIo.lean that leave all stored data alone. -/
namespace Sys2Proof.Machine

set_option linter.all false
set_option Elab.async false

theorem State.writeField_data (b0 : State) (s : State) (d : FieldD) (v : Nat) (h0 : b0.Data s) : b0.Data (State.writeField s d v) := by
  unfold State.writeField
  repeat' (first | with_reducible assumption | intro _ _ _ | intro _ | with_reducible apply State.setF_data | with_reducible apply State.clearBits_data | with_reducible apply State.Data.ite | with_reducible apply State.Data.ite2 | with_reducible apply State.Data.ite22 | with_reducible apply State.Data.ite222 | with_reducible apply State.Data.ite1 | with_reducible apply State.Data.ite21 | split | ((with_reducible conv => arg 2; whnf); split) | ((with_reducible conv => arg 2; arg 1; whnf); split) | ((with_reducible conv => arg 2; arg 1; arg 1; whnf); split) | with_reducible refine State.Data.eq2 (by with_reducible assumption) ?_ | with_reducible refine State.Data.eq22 (by with_reducible assumption) ?_ | with_reducible refine State.Data.eq222 (by with_reducible assumption) ?_ | with_reducible refine State.Data.eq1 (by with_reducible assumption) ?_ | with_reducible apply State.Data.mk_)

theorem State.writeReg_data (b0 : State) (s : State) (r : RegD) (v : Nat) (h0 : b0.Data s) : b0.Data (State.writeReg s r v) := by
  unfold State.writeReg
  repeat' (first | with_reducible assumption | intro _ _ _ | intro _ | with_reducible apply State.writeField_data | with_reducible apply State.Data.foldl | with_reducible apply State.Data.foldl2 | with_reducible apply State.Data.foldl22 | with_reducible apply State.Data.foldl222 | with_reducible apply State.Data.foldl1 | split | ((with_reducible conv => arg 2; whnf); split))

theorem State.writeAt_data (b0 : State) (s : State) (a : Nat) (r : RegD) (v : Nat) (h0 : b0.Data s) : b0.Data (State.writeAt s a r v) := by
  unfold State.writeAt
  repeat' (first | with_reducible assumption | intro _ _ _ | intro _ | with_reducible apply State.writeReg_data | with_reducible apply State.Data.ite | with_reducible apply State.Data.ite2 | with_reducible apply State.Data.ite22 | with_reducible apply State.Data.ite222 | with_reducible apply State.Data.ite1 | with_reducible apply State.Data.ite21 | split | ((with_reducible conv => arg 2; whnf); split) | ((with_reducible conv => arg 2; arg 1; whnf); split) | ((with_reducible conv => arg 2; arg 1; arg 1; whnf); split) | with_reducible apply State.Data.mk_)

theorem State.setJobStep_data (b0 : State) (s : State) (p v : Nat) (h0 : b0.Data s) : b0.Data (State.setJobStep s p v) := by
  unfold State.setJobStep
  repeat' (first | with_reducible assumption | intro _ _ _ | intro _ | with_reducible apply State.setF_data | with_reducible apply State.updPart_data | with_reducible apply State.Data.foldl | with_reducible apply State.Data.foldl2 | with_reducible apply State.Data.foldl22 | with_reducible apply State.Data.foldl222 | with_reducible apply State.Data.foldl1 | split | ((with_reducible conv => arg 2; whnf); split) | ((with_reducible conv => arg 2; arg 1; whnf); split) | ((with_reducible conv => arg 2; arg 1; arg 1; whnf); split) | with_reducible apply State.Data.mk_)

theorem State.writeJobStep_data (b0 : State) (s : State) (p a v : Nat) (h0 : b0.Data s) : b0.Data (State.writeJobStep s p a v) := by
  unfold State.writeJobStep
  repeat' (first | with_reducible assumption | intro _ _ _ | intro _ | with_reducible apply State.setJobStep_data | with_reducible apply State.Data.ite | with_reducible apply State.Data.ite2 | with_reducible apply State.Data.ite22 | with_reducible apply State.Data.ite222 | with_reducible apply State.Data.ite1 | with_reducible apply State.Data.ite21 | split | ((with_reducible conv => arg 2; whnf); split) | ((with_reducible conv => arg 2; arg 1; whnf); split) | ((with_reducible conv => arg 2; arg 1; arg 1; whnf); split) | with_reducible apply State.Data.mk_)

theorem State.setScuCtrl_data (b0 : State) (s : State) (p v : Nat) (h0 : b0.Data s) : b0.Data (State.setScuCtrl s p v) := by
  unfold State.setScuCtrl
  repeat' (first | with_reducible assumption | intro _ _ _ | intro _ | with_reducible apply State.writeReg_data | with_reducible apply State.Data.foldl | with_reducible apply State.Data.foldl2 | with_reducible apply State.Data.foldl22 | with_reducible apply State.Data.foldl222 | with_reducible apply State.Data.foldl1 | split | ((with_reducible conv => arg 2; whnf); split) | ((with_reducible conv => arg 2; arg 1; whnf); split) | ((with_reducible conv => arg 2; arg 1; arg 1; whnf); split) | with_reducible apply State.Data.mk_)

theorem State.writeScuCtrl_data (b0 : State) (s : State) (p a v : Nat) (h0 : b0.Data s) : b0.Data (State.writeScuCtrl s p a v) := by
  unfold State.writeScuCtrl
  repeat' (first | with_reducible assumption | intro _ _ _ | intro _ | with_reducible apply State.setScuCtrl_data | with_reducible apply State.Data.ite | with_reducible apply State.Data.ite2 | with_reducible apply State.Data.ite22 | with_reducible apply State.Data.ite222 | with_reducible apply State.Data.ite1 | with_reducible apply State.Data.ite21 | split | ((with_reducible conv => arg 2; whnf); split) | ((with_reducible conv => arg 2; arg 1; whnf); split) | ((with_reducible conv => arg 2; arg 1; arg 1; whnf); split) | with_reducible apply State.Data.mk_)

theorem State.takeDeferred_data (b0 : State) (s : State) (a v : Nat) (h0 : b0.Data s) : b0.Data (State.takeDeferred s a v) := by
  unfold State.takeDeferred
  repeat' (first | with_reducible assumption | intro _ _ _ | intro _ | with_reducible apply State.expoCtrl_data | with_reducible apply State.raise_data | with_reducible apply State.setScuCtrl_data | with_reducible apply State.setJobStep_data | with_reducible apply State.writeReg_data | with_reducible apply State.raiseP_data | with_reducible apply State.writeAt_data | with_reducible apply State.Data.ite | with_reducible apply State.Data.ite2 | with_reducible apply State.Data.ite22 | with_reducible apply State.Data.ite222 | with_reducible apply State.Data.ite1 | with_reducible apply State.Data.ite21 | split | ((with_reducible conv => arg 2; whnf); split) | ((with_reducible conv => arg 2; arg 1; whnf); split) | ((with_reducible conv => arg 2; arg 1; arg 1; whnf); split) | with_reducible refine State.Data.eq2 (by with_reducible assumption) ?_ | with_reducible refine State.Data.eq22 (by with_reducible assumption) ?_ | with_reducible refine State.Data.eq222 (by with_reducible assumption) ?_ | with_reducible refine State.Data.eq1 (by with_reducible assumption) ?_ | with_reducible apply State.Data.mk_)

theorem State.applyDeferred_data (b0 : State) (s : State) (p : Nat) (h0 : b0.Data s) : b0.Data (State.applyDeferred s p) := by
  unfold State.applyDeferred
  repeat' (first | with_reducible assumption | intro _ _ _ | intro _ | with_reducible apply State.takeDeferred_data | with_reducible apply State.applyTables_data | with_reducible apply State.Data.ite | with_reducible apply State.Data.ite2 | with_reducible apply State.Data.ite22 | with_reducible apply State.Data.ite222 | with_reducible apply State.Data.ite1 | with_reducible apply State.Data.ite21 | with_reducible apply State.Data.foldl | with_reducible apply State.Data.foldl2 | with_reducible apply State.Data.foldl22 | with_reducible apply State.Data.foldl222 | with_reducible apply State.Data.foldl1 | split | ((with_reducible conv => arg 2; whnf); split) | ((with_reducible conv => arg 2; arg 1; whnf); split) | ((with_reducible conv => arg 2; arg 1; arg 1; whnf); split) | with_reducible refine State.Data.eq2 (by with_reducible assumption) ?_ | with_reducible refine State.Data.eq22 (by with_reducible assumption) ?_ | with_reducible refine State.Data.eq222 (by with_reducible assumption) ?_ | with_reducible refine State.Data.eq1 (by with_reducible assumption) ?_ | with_reducible apply State.Data.mk_)

end Sys2Proof.Machine
end

