-- ==== Sys2Proof/Laws/DataFrame.lean ====
section
/-! SUPPORT. Operations of Machine/Frame.lean that leave all stored data alone. -/
namespace Sys2Proof.Machine

set_option linter.all false
set_option Elab.async false

theorem State.countDies_data (b0 : State) (s : State) (p i n : Nat) (h0 : b0.Data s) : b0.Data (State.countDies s p i n) := by
  unfold State.countDies
  repeat' (first | with_reducible assumption | intro _ _ _ | intro _ | with_reducible apply State.count_data | with_reducible apply State.Data.foldl | with_reducible apply State.Data.foldl2 | with_reducible apply State.Data.foldl22 | with_reducible apply State.Data.foldl222 | with_reducible apply State.Data.foldl1 | split | ((with_reducible conv => arg 2; whnf); split))

theorem State.darkSkipped_data (b0 : State) (s : State) (p lost : Nat) (h0 : b0.Data s) : b0.Data (State.darkSkipped s p lost) := by
  unfold State.darkSkipped
  repeat' (first | with_reducible assumption | intro _ _ _ | intro _ | with_reducible apply State.raiseP_data | with_reducible apply State.hwSet_data | with_reducible apply State.countDies_data | with_reducible apply State.Data.mk_)

theorem State.enterWait_data (b0 : State) (s : State) (p : Nat) (h0 : b0.Data s) : b0.Data (State.enterWait s p) := by
  unfold State.enterWait
  repeat' (first | with_reducible assumption | with_reducible apply State.setFrameState_data | with_reducible apply State.Data.ite | split | ((with_reducible conv => arg 2; whnf); split) | intro _)

theorem State.startFrameAt_data (b0 : State) (s : State) (p c : Nat) (late held : Bool) (h0 : b0.Data s) : b0.Data (State.startFrameAt s p c late held) := by
  unfold State.startFrameAt
  repeat' (first | with_reducible assumption | intro _ _ _ | intro _ | with_reducible apply State.updPart_data | with_reducible apply State.showPending_data | split | ((with_reducible conv => arg 2; whnf); split) | with_reducible apply State.Data.mk_)

theorem State.tickStarts_data (b0 : State) (s : State) (p index arrival c : Nat) (late : Bool) (h0 : b0.Data s) : b0.Data (State.tickStarts s p index arrival c late) := by
  unfold State.tickStarts
  repeat' (first | with_reducible assumption | intro _ _ _ | intro _ | with_reducible apply State.updPart_data | with_reducible apply State.startFrameAt_data | split | ((with_reducible conv => arg 2; whnf); split) | with_reducible apply State.Data.mk_)

theorem State.discipline_data (b0 : State) (s : State) (p rootNs : Nat) (h0 : b0.Data s) : b0.Data (State.discipline s p rootNs) := by
  unfold State.discipline
  repeat' (first | with_reducible assumption | intro _ _ _ | intro _ | with_reducible apply State.updPart_data | with_reducible apply State.freshNat_data | with_reducible apply State.setF_data | with_reducible apply State.raiseP_data | with_reducible apply State.Data.ite | with_reducible apply State.Data.ite2 | with_reducible apply State.Data.ite22 | with_reducible apply State.Data.ite222 | with_reducible apply State.Data.ite1 | with_reducible apply State.Data.ite21 | split | ((with_reducible conv => arg 2; whnf); split) | ((with_reducible conv => arg 2; arg 1; whnf); split) | ((with_reducible conv => arg 2; arg 1; arg 1; whnf); split) | with_reducible apply State.Data.mk_)

theorem State.forwardTick_data (b0 : State) (s : State) (index hops rootNs : Nat) (h0 : b0.Data s) : b0.Data (State.forwardTick s index hops rootNs) := by
  unfold State.forwardTick
  repeat' (first | with_reducible assumption | with_reducible apply State.Data.mk_ | intro _)

theorem doGstCtrlWrite_data (b0 : State) (p v : Nat) (s : State) (h0 : b0.Data s) : b0.Data (doGstCtrlWrite p v s) := by
  unfold doGstCtrlWrite
  repeat' (first | with_reducible assumption | intro _ _ _ | intro _ | with_reducible apply State.writeReg_data | with_reducible apply State.updPart_data | with_reducible apply State.showPending_data | with_reducible apply State.setFrameState_data | with_reducible apply State.settleIdle_data | with_reducible apply State.answer_data | with_reducible apply State.Data.ite | with_reducible apply State.Data.ite2 | with_reducible apply State.Data.ite22 | with_reducible apply State.Data.ite222 | with_reducible apply State.Data.ite1 | with_reducible apply State.Data.ite21 | split | ((with_reducible conv => arg 2; whnf); split) | ((with_reducible conv => arg 2; arg 1; whnf); split) | ((with_reducible conv => arg 2; arg 1; arg 1; whnf); split) | with_reducible apply State.Data.mk_)

theorem execGstCtrlWrite_data (b0 : State) (p : Fin 4) (val : Word) (s : State) (h0 : b0.Data s) : b0.DataOut (execGstCtrlWrite p val s) := by
  unfold execGstCtrlWrite
  repeat' (first | with_reducible assumption | with_reducible apply doGstCtrlWrite_data | with_reducible apply State.Data.next | intro _)

theorem State.formerRoot_data (b0 : State) (s : State) (p : Nat) (h0 : b0.Data s) : b0.Data (State.formerRoot s p) := by
  unfold State.formerRoot
  repeat' (first | with_reducible assumption | intro _ _ _ | intro _ | with_reducible apply State.updPart_data | with_reducible apply State.Data.ite | with_reducible apply State.Data.ite2 | with_reducible apply State.Data.ite22 | with_reducible apply State.Data.ite222 | with_reducible apply State.Data.ite1 | with_reducible apply State.Data.ite21 | split | ((with_reducible conv => arg 2; whnf); split) | ((with_reducible conv => arg 2; arg 1; whnf); split) | ((with_reducible conv => arg 2; arg 1; arg 1; whnf); split) | with_reducible apply State.Data.mk_)

theorem doGstTimeout_data (b0 : State) (p ns : Nat) (s : State) (h0 : b0.Data s) : b0.Data (doGstTimeout p ns s) := by
  unfold doGstTimeout
  repeat' (first | with_reducible assumption | intro _ _ _ | intro _ | with_reducible apply State.toNs_data | with_reducible apply State.updPart_data | with_reducible apply State.raiseP_data | with_reducible apply State.Data.ite | with_reducible apply State.Data.ite2 | with_reducible apply State.Data.ite22 | with_reducible apply State.Data.ite222 | with_reducible apply State.Data.ite1 | with_reducible apply State.Data.ite21 | split | ((with_reducible conv => arg 2; whnf); split) | ((with_reducible conv => arg 2; arg 1; whnf); split) | ((with_reducible conv => arg 2; arg 1; arg 1; whnf); split) | with_reducible apply State.Data.mk_)

theorem execGstTimeout_data (b0 : State) (p : Fin 4) (ns : Nat) (s : State) (h0 : b0.Data s) : b0.DataOut (execGstTimeout p ns s) := by
  unfold execGstTimeout
  repeat' (first | with_reducible assumption | with_reducible apply doGstTimeout_data | with_reducible apply State.Data.next | intro _)

theorem doStandbyRootTakeover_data (b0 : State) (p ns : Nat) (s : State) (h0 : b0.Data s) : b0.Data (doStandbyRootTakeover p ns s) := by
  unfold doStandbyRootTakeover
  repeat' (first | with_reducible assumption | intro _ _ _ | intro _ | with_reducible apply State.toNs_data | with_reducible apply State.updPart_data | with_reducible apply State.setF_data | with_reducible apply State.raiseP_data | with_reducible apply State.Data.ite | with_reducible apply State.Data.ite2 | with_reducible apply State.Data.ite22 | with_reducible apply State.Data.ite222 | with_reducible apply State.Data.ite1 | with_reducible apply State.Data.ite21 | split | ((with_reducible conv => arg 2; whnf); split) | ((with_reducible conv => arg 2; arg 1; whnf); split) | ((with_reducible conv => arg 2; arg 1; arg 1; whnf); split) | with_reducible apply State.Data.mk_)

theorem execStandbyRootTakeover_data (b0 : State) (p : Fin 4) (ns : Nat) (s : State) (h0 : b0.Data s) : b0.DataOut (execStandbyRootTakeover p ns s) := by
  unfold execStandbyRootTakeover
  repeat' (first | with_reducible assumption | with_reducible apply doStandbyRootTakeover_data | with_reducible apply State.Data.next | intro _)

theorem State.switchBank_data (b0 : State) (s : State) (die : Nat) (h0 : b0.Data s) : b0.Data (State.switchBank s die) := by
  unfold State.switchBank
  repeat' (first | with_reducible assumption | with_reducible apply State.setFs_data | with_reducible apply State.compatBit_data | with_reducible apply State.planBits_data | with_reducible apply State.Data.ite | split | ((with_reducible conv => arg 2; whnf); split) | intro _)

theorem State.scuStart_data (b0 : State) (s : State) (p j : Nat) (rerun : Bool) (h0 : b0.Data s) : b0.Data (State.scuStart s p j rerun) := by
  unfold State.scuStart
  repeat' (first | with_reducible assumption | intro _ _ _ | intro _ | with_reducible apply State.updDie_data | with_reducible apply State.setFs_data | with_reducible apply State.count_data | with_reducible apply State.expoStart_data | with_reducible apply State.Data.ite | with_reducible apply State.Data.foldl | with_reducible apply State.Data.foldl2 | with_reducible apply State.Data.foldl22 | with_reducible apply State.Data.foldl222 | with_reducible apply State.Data.foldl1 | split | ((with_reducible conv => arg 2; whnf); split))

theorem State.restStart_data (b0 : State) (s : State) (p j : Nat) (rerun : Bool) (h0 : b0.Data s) : b0.Data (State.restStart s p j rerun) := by
  unfold State.restStart
  repeat' (first | with_reducible assumption | intro _ _ _ | intro _ | with_reducible apply State.rollFences_data | with_reducible apply State.rollSeqs_data | with_reducible apply State.rollTots_data | with_reducible apply State.settleFences_data | with_reducible apply State.setF_data | with_reducible apply State.updPart_data | with_reducible apply State.updSeq_data | with_reducible apply State.Data.ite | with_reducible apply State.Data.ite2 | with_reducible apply State.Data.ite22 | with_reducible apply State.Data.ite222 | with_reducible apply State.Data.ite1 | with_reducible apply State.Data.ite21 | split | ((with_reducible conv => arg 2; whnf); split) | ((with_reducible conv => arg 2; arg 1; whnf); split) | ((with_reducible conv => arg 2; arg 1; arg 1; whnf); split) | with_reducible apply State.Data.mk_)

theorem doFrameStart_data (b0 : State) (p : Nat) (s : State) (h0 : b0.Data s) : b0.Data (doFrameStart p s) := by
  unfold doFrameStart
  repeat' (first | with_reducible assumption | intro _ _ _ | intro _ | with_reducible apply State.advanceCyc_data | with_reducible apply State.switchBank_data | with_reducible apply State.updPart_data | with_reducible apply State.showPending_data | with_reducible apply State.setFrameState_data | with_reducible apply State.raiseP_data | with_reducible apply State.setFs_data | with_reducible apply State.hwSet_data | with_reducible apply State.scuStart_data | with_reducible apply State.restStart_data | with_reducible apply State.trimHist_data | with_reducible apply State.Data.ite | with_reducible apply State.Data.ite2 | with_reducible apply State.Data.ite22 | with_reducible apply State.Data.ite222 | with_reducible apply State.Data.ite1 | with_reducible apply State.Data.ite21 | with_reducible apply State.Data.foldl | with_reducible apply State.Data.foldl2 | with_reducible apply State.Data.foldl22 | with_reducible apply State.Data.foldl222 | with_reducible apply State.Data.foldl1 | split | ((with_reducible conv => arg 2; whnf); split) | ((with_reducible conv => arg 2; arg 1; whnf); split) | ((with_reducible conv => arg 2; arg 1; arg 1; whnf); split) | with_reducible refine State.Data.eq2 (by with_reducible assumption) ?_ | with_reducible refine State.Data.eq22 (by with_reducible assumption) ?_ | with_reducible refine State.Data.eq222 (by with_reducible assumption) ?_ | with_reducible refine State.Data.eq1 (by with_reducible assumption) ?_ | with_reducible apply State.Data.mk_)

theorem execFrameStart_data (b0 : State) (p : Fin 4) (s : State) (h0 : b0.Data s) : b0.DataOut (execFrameStart p s) := by
  unfold execFrameStart
  repeat' (first | with_reducible assumption | with_reducible apply doFrameStart_data | with_reducible apply State.Data.next | intro _)

theorem State.closeReports_data (b0 : State) (s : State) (p c : Nat) (h0 : b0.Data s) : b0.Data (State.closeReports s p c) := by
  unfold State.closeReports
  repeat' (first | with_reducible assumption | intro _ _ _ | intro _ | with_reducible apply State.updPart_data | with_reducible apply State.raiseP_data | with_reducible apply State.hwSet_data | with_reducible apply State.Data.ite | with_reducible apply State.Data.ite2 | with_reducible apply State.Data.ite22 | with_reducible apply State.Data.ite222 | with_reducible apply State.Data.ite1 | with_reducible apply State.Data.ite21 | split | ((with_reducible conv => arg 2; whnf); split) | ((with_reducible conv => arg 2; arg 1; whnf); split) | ((with_reducible conv => arg 2; arg 1; arg 1; whnf); split) | with_reducible apply State.Data.mk_)

theorem State.afterClose_data (b0 : State) (s : State) (p c : Nat) (x : Part) (en ovr : Nat) (h0 : b0.Data s) : b0.Data (State.afterClose s p c x en ovr) := by
  unfold State.afterClose
  repeat' (first | with_reducible assumption | intro _ _ _ | intro _ | with_reducible apply State.darkSkipped_data | with_reducible apply State.setFrameState_data | with_reducible apply State.startFrameAt_data | with_reducible apply State.enterWait_data | with_reducible apply State.Data.ite | split | ((with_reducible conv => arg 2; whnf); split))

theorem doFrameClose_data (b0 : State) (p : Nat) (s : State) (h0 : b0.Data s) : b0.Data (doFrameClose p s) := by
  unfold doFrameClose
  repeat' (first | with_reducible assumption | intro _ _ _ | intro _ | with_reducible apply State.toCyc_data | with_reducible apply State.setFs_data | with_reducible apply State.closeReports_data | with_reducible apply State.countDies_data | with_reducible apply State.expoEnd_data | with_reducible apply State.afterClose_data | with_reducible apply State.applyDeferred_data | with_reducible apply State.Data.ite | with_reducible apply State.Data.ite2 | with_reducible apply State.Data.ite22 | with_reducible apply State.Data.ite222 | with_reducible apply State.Data.ite1 | with_reducible apply State.Data.ite21 | with_reducible apply State.Data.foldl | with_reducible apply State.Data.foldl2 | with_reducible apply State.Data.foldl22 | with_reducible apply State.Data.foldl222 | with_reducible apply State.Data.foldl1 | split | ((with_reducible conv => arg 2; whnf); split) | ((with_reducible conv => arg 2; arg 1; whnf); split) | ((with_reducible conv => arg 2; arg 1; arg 1; whnf); split) | with_reducible apply State.Data.mk_)

theorem execFrameClose_data (b0 : State) (p : Fin 4) (s : State) (h0 : b0.Data s) : b0.DataOut (execFrameClose p s) := by
  unfold execFrameClose
  repeat' (first | with_reducible assumption | with_reducible apply doFrameClose_data | with_reducible apply State.Data.next | intro _)

theorem doFrameLenReached_data (b0 : State) (p : Nat) (s : State) (h0 : b0.Data s) : b0.Data (doFrameLenReached p s) := by
  unfold doFrameLenReached
  repeat' (first | with_reducible assumption | intro _ _ _ | intro _ | with_reducible apply State.toCyc_data | with_reducible apply State.enterWait_data | with_reducible apply State.Data.ite | with_reducible apply State.Data.ite2 | with_reducible apply State.Data.ite22 | with_reducible apply State.Data.ite222 | with_reducible apply State.Data.ite1 | with_reducible apply State.Data.ite21 | split | ((with_reducible conv => arg 2; whnf); split) | ((with_reducible conv => arg 2; arg 1; whnf); split) | ((with_reducible conv => arg 2; arg 1; arg 1; whnf); split) | with_reducible apply State.Data.mk_)

theorem execFrameLenReached_data (b0 : State) (p : Fin 4) (s : State) (h0 : b0.Data s) : b0.DataOut (execFrameLenReached p s) := by
  unfold execFrameLenReached
  repeat' (first | with_reducible assumption | with_reducible apply doFrameLenReached_data | with_reducible apply State.Data.next | intro _)

theorem doFrameResume_data (b0 : State) (p : Nat) (s : State) (h0 : b0.Data s) : b0.Data (doFrameResume p s) := by
  unfold doFrameResume
  repeat' (first | with_reducible assumption | intro _ _ _ | intro _ | with_reducible apply State.answer_data | with_reducible apply State.updPart_data | with_reducible apply State.showPending_data | with_reducible apply State.enterWait_data | with_reducible apply State.Data.ite | split | ((with_reducible conv => arg 2; whnf); split) | with_reducible apply State.Data.mk_)

theorem execFrameResume_data (b0 : State) (p : Fin 4) (s : State) (h0 : b0.Data s) : b0.DataOut (execFrameResume p s) := by
  unfold execFrameResume
  repeat' (first | with_reducible assumption | with_reducible apply doFrameResume_data | with_reducible apply State.Data.next | intro _)

end Sys2Proof.Machine
end

