-- ==== Sys2Proof/Laws/DataTeller.lean ====
section
/-! SUPPORT. Operations of Machine/Teller.lean that leave all stored data alone. -/
namespace Sys2Proof.Machine

set_option linter.all false
set_option Elab.async false

theorem State.respond_data (b0 : State) (s : State) (r : TellerReq) (op status ticket : Nat) (payload : List Byte) (key : Option (List Byte)) (h0 : b0.Data s) : b0.Data (State.respond s r op status ticket payload key) := by
  unfold State.respond
  repeat' (first | with_reducible assumption | intro _ _ _ | intro _ | with_reducible apply State.hwSet_data | with_reducible apply State.setF_data | with_reducible apply State.answerBytes_data | with_reducible apply State.Data.elim | split | ((with_reducible conv => arg 2; whnf); split) | ((with_reducible conv => arg 2; arg 1; whnf); split) | ((with_reducible conv => arg 2; arg 1; arg 1; whnf); split) | with_reducible apply State.Data.mk_)

theorem State.checkReq_data (b0 : State) (s : State) (r : TellerReq) (k : RKind) (h0 : b0.Data s) : b0.Data (State.checkReq s r k).2.2 := by
  unfold State.checkReq
  repeat' (first | with_reducible assumption | with_reducible apply State.Data.ite | with_reducible apply State.Data.ite2 | with_reducible apply State.Data.ite22 | with_reducible apply State.Data.ite222 | with_reducible apply State.Data.ite1 | with_reducible apply State.Data.ite21 | split | ((with_reducible conv => arg 2; whnf); split) | ((with_reducible conv => arg 2; arg 1; whnf); split) | ((with_reducible conv => arg 2; arg 1; arg 1; whnf); split) | with_reducible refine State.Data.eq2 (by with_reducible assumption) ?_ | with_reducible refine State.Data.eq22 (by with_reducible assumption) ?_ | with_reducible refine State.Data.eq222 (by with_reducible assumption) ?_ | with_reducible refine State.Data.eq1 (by with_reducible assumption) ?_ | with_reducible apply State.Data.mk_ | intro _)

theorem State.refuseReq_data (b0 : State) (s : State) (r : TellerReq) (op code loc : Nat) (key : Option (List Byte)) (h0 : b0.Data s) : b0.Data (State.refuseReq s r op code loc key) := by
  unfold State.refuseReq
  repeat' (first | with_reducible assumption | intro _ _ _ | intro _ | with_reducible apply State.raise_data | with_reducible apply State.respond_data | with_reducible apply State.Data.mk_)

theorem State.serve_data (b0 : State) (s : State) (r : TellerReq) (k : RKind) (loc : Nat) (act : State → Reply × State) (h0 : b0.Data s) (hact : ∀ u, b0.Data u → b0.Data (act u).2) :
    b0.Data (State.serve s r k loc act) := by
  unfold State.serve
  repeat' (first | with_reducible assumption | with_reducible apply hact | intro _ _ _ | intro _ | with_reducible apply State.checkReq_data | with_reducible apply State.refuseReq_data | with_reducible apply State.respond_data | with_reducible apply State.raise_data | with_reducible apply State.Data.ite | with_reducible apply State.Data.ite2 | with_reducible apply State.Data.ite22 | with_reducible apply State.Data.ite222 | with_reducible refine State.Data.eq2 (by with_reducible assumption) ?_ | with_reducible refine State.Data.eq22 (by with_reducible assumption) ?_ | with_reducible refine State.Data.eq222 (by with_reducible assumption) ?_ | (with_reducible dsimp only []) | split | with_reducible apply State.Data.mk_)

theorem State.tellerView_data (b0 : State) (s : State) (h0 : b0.Data s) : b0.Data (State.tellerView s) := by
  unfold State.tellerView
  repeat' (first | with_reducible assumption | intro _ _ _ | intro _ | with_reducible apply State.setFs_data | with_reducible apply State.Data.ite | with_reducible apply State.Data.foldl | with_reducible apply State.Data.foldl2 | with_reducible apply State.Data.foldl22 | with_reducible apply State.Data.foldl222 | with_reducible apply State.Data.foldl1 | split | ((with_reducible conv => arg 2; whnf); split))

theorem State.endIde_data (b0 : State) (s : State) (p : Nat) (h0 : b0.Data s) : b0.Data (State.endIde s p) := by
  unfold State.endIde
  repeat' (first | with_reducible assumption | intro _ _ _ | intro _ | with_reducible apply State.setF_data | split | ((with_reducible conv => arg 2; whnf); split) | ((with_reducible conv => arg 2; arg 1; whnf); split) | ((with_reducible conv => arg 2; arg 1; arg 1; whnf); split) | with_reducible apply State.Data.mk_)

theorem State.endSession_data (b0 : State) (s : State) (p id : Nat) (h0 : b0.Data s) : b0.Data (State.endSession s p id) := by
  unfold State.endSession
  repeat' (first | with_reducible assumption | intro _ _ _ | intro _ | with_reducible apply State.endIde_data | with_reducible apply State.alert_data | with_reducible apply State.tellerView_data | with_reducible apply State.Data.foldl | with_reducible apply State.Data.foldl2 | with_reducible apply State.Data.foldl22 | with_reducible apply State.Data.foldl222 | with_reducible apply State.Data.foldl1 | split | ((with_reducible conv => arg 2; whnf); split) | ((with_reducible conv => arg 2; arg 1; whnf); split) | ((with_reducible conv => arg 2; arg 1; arg 1; whnf); split) | with_reducible apply State.Data.mk_)

theorem doSessionInit_data (b0 : State) (r : TellerReq) (s : State) (h0 : b0.Data s) : b0.Data (doSessionInit r s) := by
  unfold doSessionInit
  refine State.serve_data _ _ _ _ _ _ h0 ?_
  intro u hu
  have h1 := State.freshBytes_data _ _ 32 (State.freshBytes_data _ u 64 hu)
  split
  rename_i seed s1 e1
  split
  rename_i np s2 e2
  have h2 : b0.Data s2 := by
    refine State.Data.eq2 e2 ?_
    refine State.freshBytes_data _ _ _ ?_
    exact State.Data.eq2 e1 (State.freshBytes_data _ u 64 hu)
  extract_lets ek
  split
  rename_i sig s3 e3
  have h3 : b0.Data s3 := State.Data.eq2 e3 (State.sign_data _ _ _ _ h2)
  exact State.Data.mk_ h3

theorem execSessionInit_data (b0 : State) (req : TellerReq) (s : State) (h0 : b0.Data s) : b0.DataOut (execSessionInit req s) := by
  unfold execSessionInit
  repeat' (first | with_reducible assumption | with_reducible apply doSessionInit_data | with_reducible apply State.Data.next | intro _)

theorem doSessionInitExpiry_data (b0 : State) (h : Nat) (s : State) (h0 : b0.Data s) : b0.Data (doSessionInitExpiry h s) := by
  unfold doSessionInitExpiry
  repeat' (first | with_reducible assumption | intro _ _ _ | intro _ | with_reducible apply State.toNs_data | split | ((with_reducible conv => arg 2; whnf); split) | with_reducible refine State.Data.eq2 (by with_reducible assumption) ?_ | with_reducible refine State.Data.eq22 (by with_reducible assumption) ?_ | with_reducible refine State.Data.eq222 (by with_reducible assumption) ?_ | with_reducible refine State.Data.eq1 (by with_reducible assumption) ?_ | with_reducible apply State.Data.mk_)

theorem execSessionInitExpiry_data (b0 : State) (host : Fin 16) (s : State) (h0 : b0.Data s) : b0.DataOut (execSessionInitExpiry host s) := by
  unfold execSessionInitExpiry
  repeat' (first | with_reducible assumption | with_reducible apply doSessionInitExpiry_data | with_reducible apply State.Data.next | intro _)

theorem doSessionFinish_data (b0 : State) (r : TellerReq) (s : State) (h0 : b0.Data s) : b0.Data (doSessionFinish r s) := by
  unfold doSessionFinish
  repeat' (first | with_reducible assumption | intro _ _ _ | intro _ | with_reducible apply State.checkReq_data | with_reducible apply State.refuseReq_data | with_reducible apply State.verify_data | with_reducible apply State.endSession_data | with_reducible apply State.tellerView_data | with_reducible apply State.raise_data | with_reducible apply State.respond_data | with_reducible apply State.Data.ite | with_reducible apply State.Data.ite2 | with_reducible apply State.Data.ite22 | with_reducible apply State.Data.ite222 | with_reducible apply State.Data.ite1 | with_reducible apply State.Data.ite21 | split | ((with_reducible conv => arg 2; whnf); split) | ((with_reducible conv => arg 2; arg 1; whnf); split) | ((with_reducible conv => arg 2; arg 1; arg 1; whnf); split) | with_reducible refine State.Data.eq2 (by with_reducible assumption) ?_ | with_reducible refine State.Data.eq22 (by with_reducible assumption) ?_ | with_reducible refine State.Data.eq222 (by with_reducible assumption) ?_ | with_reducible refine State.Data.eq1 (by with_reducible assumption) ?_ | with_reducible apply State.Data.mk_)

theorem execSessionFinish_data (b0 : State) (req : TellerReq) (s : State) (h0 : b0.Data s) : b0.DataOut (execSessionFinish req s) := by
  unfold execSessionFinish
  repeat' (first | with_reducible assumption | with_reducible apply doSessionFinish_data | with_reducible apply State.Data.next | intro _)

theorem doSessionClose_data (b0 : State) (r : TellerReq) (s : State) (h0 : b0.Data s) : b0.Data (doSessionClose r s) := by
  unfold doSessionClose
  repeat' (first | with_reducible assumption | intro _ _ _ | intro _ | with_reducible apply State.serve_data | with_reducible apply State.endSession_data | split | ((with_reducible conv => arg 2; whnf); split))

theorem execSessionClose_data (b0 : State) (req : TellerReq) (s : State) (h0 : b0.Data s) : b0.DataOut (execSessionClose req s) := by
  unfold execSessionClose
  repeat' (first | with_reducible assumption | with_reducible apply doSessionClose_data | with_reducible apply State.Data.next | intro _)

theorem doIdeStart_data (b0 : State) (r : TellerReq) (s : State) (h0 : b0.Data s) : b0.Data (doIdeStart r s) := by
  unfold doIdeStart
  repeat' (first | with_reducible assumption | intro _ _ _ | intro _ | with_reducible apply State.serve_data | with_reducible apply State.endIde_data | with_reducible apply State.setF_data | split | ((with_reducible conv => arg 2; whnf); split) | with_reducible apply State.Data.mk_)

theorem execIdeStart_data (b0 : State) (req : TellerReq) (s : State) (h0 : b0.Data s) : b0.DataOut (execIdeStart req s) := by
  unfold execIdeStart
  repeat' (first | with_reducible assumption | with_reducible apply doIdeStart_data | with_reducible apply State.Data.next | intro _)

theorem doTellerIdentity_data (b0 : State) (r : TellerReq) (s : State) (h0 : b0.Data s) : b0.Data (doTellerIdentity r s) := by
  unfold doTellerIdentity
  repeat' (first | with_reducible assumption | intro _ _ _ | intro _ | with_reducible apply State.serve_data | split | ((with_reducible conv => arg 2; whnf); split) | ((with_reducible conv => arg 2; arg 1; whnf); split) | ((with_reducible conv => arg 2; arg 1; arg 1; whnf); split) | with_reducible refine State.Data.eq2 (by with_reducible assumption) ?_ | with_reducible refine State.Data.eq22 (by with_reducible assumption) ?_ | with_reducible refine State.Data.eq222 (by with_reducible assumption) ?_ | with_reducible refine State.Data.eq1 (by with_reducible assumption) ?_)

theorem execTellerIdentity_data (b0 : State) (req : TellerReq) (s : State) (h0 : b0.Data s) : b0.DataOut (execTellerIdentity req s) := by
  unfold execTellerIdentity
  repeat' (first | with_reducible assumption | with_reducible apply doTellerIdentity_data | with_reducible apply State.Data.next | intro _)

theorem doAttest_data (b0 : State) (r : TellerReq) (s : State) (h0 : b0.Data s) : b0.Data (doAttest r s) := by
  unfold doAttest
  repeat' (first | with_reducible assumption | intro _ _ _ | intro _ | with_reducible apply State.serve_data | with_reducible apply State.sign_data | split | ((with_reducible conv => arg 2; whnf); split) | ((with_reducible conv => arg 2; arg 1; whnf); split) | ((with_reducible conv => arg 2; arg 1; arg 1; whnf); split))

theorem execAttest_data (b0 : State) (req : TellerReq) (s : State) (h0 : b0.Data s) : b0.DataOut (execAttest req s) := by
  unfold execAttest
  repeat' (first | with_reducible assumption | with_reducible apply doAttest_data | with_reducible apply State.Data.next | intro _)

theorem doTellerTicket_data (b0 : State) (r : TellerReq) (s : State) (h0 : b0.Data s) : b0.Data (doTellerTicket r s) := by
  unfold doTellerTicket
  repeat' (first | with_reducible assumption | intro _ _ _ | intro _ | with_reducible apply State.serve_data | with_reducible apply State.freshBytes_data | with_reducible apply State.freshNat_data | with_reducible apply State.Data.ite | with_reducible apply State.Data.ite2 | with_reducible apply State.Data.ite22 | with_reducible apply State.Data.ite222 | with_reducible apply State.Data.ite1 | with_reducible apply State.Data.ite21 | split | ((with_reducible conv => arg 2; whnf); split) | ((with_reducible conv => arg 2; arg 1; whnf); split) | ((with_reducible conv => arg 2; arg 1; arg 1; whnf); split) | with_reducible refine State.Data.eq2 (by with_reducible assumption) ?_ | with_reducible refine State.Data.eq22 (by with_reducible assumption) ?_ | with_reducible refine State.Data.eq222 (by with_reducible assumption) ?_ | with_reducible refine State.Data.eq1 (by with_reducible assumption) ?_)

theorem execTellerTicket_data (b0 : State) (req : TellerReq) (s : State) (h0 : b0.Data s) : b0.DataOut (execTellerTicket req s) := by
  unfold execTellerTicket
  repeat' (first | with_reducible assumption | with_reducible apply doTellerTicket_data | with_reducible apply State.Data.next | intro _)

theorem State.ticketDone_data (b0 : State) (s : State) (t : Ticket) (code : Nat) (h0 : b0.Data s) : b0.Data (State.ticketDone s t code) := by
  unfold State.ticketDone
  repeat' (first | with_reducible assumption | with_reducible apply State.endTicket_data | with_reducible apply State.alert_data | with_reducible apply State.tellerView_data | intro _)

theorem doJobKeygen_data (b0 : State) (r : TellerReq) (s : State) (h0 : b0.Data s) : b0.Data (doJobKeygen r s) := by
  unfold doJobKeygen
  repeat' (first | with_reducible assumption | intro _ _ _ | intro _ | with_reducible apply State.serve_data | with_reducible apply State.sign_data | split | ((with_reducible conv => arg 2; whnf); split) | ((with_reducible conv => arg 2; arg 1; whnf); split) | ((with_reducible conv => arg 2; arg 1; arg 1; whnf); split) | with_reducible apply State.Data.mk_)

theorem execJobKeygen_data (b0 : State) (req : TellerReq) (s : State) (h0 : b0.Data s) : b0.DataOut (execJobKeygen req s) := by
  unfold execJobKeygen
  repeat' (first | with_reducible assumption | with_reducible apply doJobKeygen_data | with_reducible apply State.Data.next | intro _)

theorem doJobKeylist_data (b0 : State) (r : TellerReq) (s : State) (h0 : b0.Data s) : b0.Data (doJobKeylist r s) := by
  unfold doJobKeylist
  repeat' (first | with_reducible assumption | intro _ _ _ | intro _ | with_reducible apply State.serve_data | split | ((with_reducible conv => arg 2; whnf); split) | ((with_reducible conv => arg 2; arg 1; whnf); split) | ((with_reducible conv => arg 2; arg 1; arg 1; whnf); split) | with_reducible apply State.Data.mk_)

theorem execJobKeylist_data (b0 : State) (req : TellerReq) (s : State) (h0 : b0.Data s) : b0.DataOut (execJobKeylist req s) := by
  unfold execJobKeylist
  repeat' (first | with_reducible assumption | with_reducible apply doJobKeylist_data | with_reducible apply State.Data.next | intro _)

theorem doNvmUpdate_data (b0 : State) (r : TellerReq) (s : State) (h0 : b0.Data s) : b0.Data (doNvmUpdate r s) := by
  unfold doNvmUpdate
  repeat' (first | with_reducible assumption | intro _ _ _ | intro _ | with_reducible apply State.serve_data | with_reducible apply State.checkImage_data | with_reducible apply State.newTicket_data | with_reducible apply State.tellerView_data | with_reducible apply State.Data.ite | with_reducible apply State.Data.ite2 | with_reducible apply State.Data.ite22 | with_reducible apply State.Data.ite222 | with_reducible apply State.Data.ite1 | with_reducible apply State.Data.ite21 | split | ((with_reducible conv => arg 2; whnf); split) | ((with_reducible conv => arg 2; arg 1; whnf); split) | ((with_reducible conv => arg 2; arg 1; arg 1; whnf); split))

theorem execNvmUpdate_data (b0 : State) (req : TellerReq) (s : State) (h0 : b0.Data s) : b0.DataOut (execNvmUpdate req s) := by
  unfold execNvmUpdate
  repeat' (first | with_reducible assumption | with_reducible apply doNvmUpdate_data | with_reducible apply State.Data.next | intro _)

theorem doTellerReset_data (b0 : State) (r : TellerReq) (s : State) (h0 : b0.Data s) : b0.Data (doTellerReset r s) := by
  unfold doTellerReset
  repeat' (first | with_reducible assumption | intro _ _ _ | intro _ | with_reducible apply State.serve_data | split | ((with_reducible conv => arg 2; whnf); split) | with_reducible apply State.Data.mk_)

theorem execTellerReset_data (b0 : State) (req : TellerReq) (s : State) (h0 : b0.Data s) : b0.DataOut (execTellerReset req s) := by
  unfold execTellerReset
  repeat' (first | with_reducible assumption | with_reducible apply doTellerReset_data | with_reducible apply State.Data.next | intro _)

theorem doTellerUnlistedOp_data (b0 : State) (r : TellerReq) (s : State) (h0 : b0.Data s) : b0.Data (doTellerUnlistedOp r s) := by
  unfold doTellerUnlistedOp
  repeat' (first | with_reducible assumption | intro _ _ _ | intro _ | with_reducible apply State.refuseReq_data | with_reducible apply State.Data.ite | with_reducible apply State.Data.ite2 | with_reducible apply State.Data.ite22 | with_reducible apply State.Data.ite222 | with_reducible apply State.Data.ite1 | with_reducible apply State.Data.ite21 | split | ((with_reducible conv => arg 2; whnf); split) | ((with_reducible conv => arg 2; arg 1; whnf); split) | ((with_reducible conv => arg 2; arg 1; arg 1; whnf); split) | with_reducible apply State.Data.mk_)

theorem execTellerUnlistedOp_data (b0 : State) (req : TellerReq) (s : State) (h0 : b0.Data s) : b0.DataOut (execTellerUnlistedOp req s) := by
  unfold execTellerUnlistedOp
  repeat' (first | with_reducible assumption | with_reducible apply doTellerUnlistedOp_data | with_reducible apply State.Data.next | intro _)

theorem doHostRingWrite_data (b0 : State) (p v : Nat) (s : State) (h0 : b0.Data s) : b0.Data (doHostRingWrite p v s) := by
  unfold doHostRingWrite
  repeat' (first | with_reducible assumption | intro _ _ _ | intro _ | with_reducible apply State.satF_data | with_reducible apply State.answer_data | with_reducible apply State.setF_data | with_reducible apply State.sendDep_data | with_reducible apply State.updPart_data | with_reducible apply State.Data.ite | with_reducible apply State.Data.foldl | with_reducible apply State.Data.foldl2 | with_reducible apply State.Data.foldl22 | with_reducible apply State.Data.foldl222 | with_reducible apply State.Data.foldl1 | split | ((with_reducible conv => arg 2; whnf); split) | with_reducible apply State.Data.mk_)

theorem execHostRingWrite_data (b0 : State) (p : Fin 4) (val : Word) (s : State) (h0 : b0.Data s) : b0.DataOut (execHostRingWrite p val s) := by
  unfold execHostRingWrite
  repeat' (first | with_reducible assumption | with_reducible apply doHostRingWrite_data | with_reducible apply State.Data.next | intro _)

theorem doHostPerst_data (b0 : State) (s : State) (h0 : b0.Data s) : b0.Data (doHostPerst s) := by
  unfold doHostPerst
  repeat' (first | with_reducible assumption | intro _ _ _ | intro _ | with_reducible apply State.setFs_data | with_reducible apply State.endIde_data | with_reducible apply State.Data.foldl | with_reducible apply State.Data.foldl2 | with_reducible apply State.Data.foldl22 | with_reducible apply State.Data.foldl222 | with_reducible apply State.Data.foldl1 | split | ((with_reducible conv => arg 2; whnf); split))

theorem execHostPerst_data (b0 : State) (s : State) (h0 : b0.Data s) : b0.DataOut (execHostPerst s) := by
  unfold execHostPerst
  repeat' (first | with_reducible assumption | with_reducible apply doHostPerst_data | with_reducible apply State.Data.next | intro _)

theorem doHostPerstRelease_data (b0 : State) (s : State) (h0 : b0.Data s) : b0.Data (doHostPerstRelease s) := by
  unfold doHostPerstRelease
  repeat' (first | with_reducible assumption | with_reducible apply State.setFs_data | with_reducible apply State.Data.ite | split | ((with_reducible conv => arg 2; whnf); split) | intro _)

theorem execHostPerstRelease_data (b0 : State) (s : State) (h0 : b0.Data s) : b0.DataOut (execHostPerstRelease s) := by
  unfold execHostPerstRelease
  repeat' (first | with_reducible assumption | with_reducible apply doHostPerstRelease_data | with_reducible apply State.Data.next | intro _)

end Sys2Proof.Machine
end

