-- ==== Sys2Proof/Laws/DataService.lean ====
section
/-! SUPPORT. Operations of Machine/Service.lean that leave all stored data alone. -/
namespace Sys2Proof.Machine

set_option linter.all false
set_option Elab.async false

theorem State.applyLane_data (b0 : State) (s : State) (p lane : Nat) (h0 : b0.Data s) : b0.Data (State.applyLane s p lane).2 := by
  unfold State.applyLane
  repeat' (first | with_reducible assumption | intro _ _ _ | intro _ | with_reducible apply State.portDown_data | with_reducible apply State.setFs_data | with_reducible apply State.dirty_data | with_reducible apply State.Data.ite | with_reducible apply State.Data.ite2 | with_reducible apply State.Data.ite22 | with_reducible apply State.Data.ite222 | with_reducible apply State.Data.ite1 | with_reducible apply State.Data.ite21 | split | ((with_reducible conv => arg 2; whnf); split) | ((with_reducible conv => arg 2; arg 1; whnf); split) | ((with_reducible conv => arg 2; arg 1; arg 1; whnf); split) | with_reducible refine State.Data.eq2 (by with_reducible assumption) ?_ | with_reducible refine State.Data.eq22 (by with_reducible assumption) ?_ | with_reducible refine State.Data.eq222 (by with_reducible assumption) ?_ | with_reducible refine State.Data.eq1 (by with_reducible assumption) ?_ | with_reducible apply State.Data.mk_)

theorem State.applySlot_data (b0 : State) (s : State) (bulk : Bool) (n : Nat) (h0 : b0.Data s) : b0.Data (State.applySlot s bulk n).2 := by
  unfold State.applySlot
  repeat' (first | with_reducible assumption | intro _ _ _ | intro _ | with_reducible apply State.updColl_data | with_reducible apply doReSlotSpare_data | with_reducible apply State.Data.ite | with_reducible apply State.Data.ite2 | with_reducible apply State.Data.ite22 | with_reducible apply State.Data.ite222 | with_reducible apply State.Data.ite1 | with_reducible apply State.Data.ite21 | split | ((with_reducible conv => arg 2; whnf); split) | ((with_reducible conv => arg 2; arg 1; whnf); split) | ((with_reducible conv => arg 2; arg 1; arg 1; whnf); split) | with_reducible apply State.Data.mk_)

theorem State.applySpare_data (b0 : State) (s : State) (kind hi lo : Nat) (h0 : b0.Data s) : b0.Data (State.applySpare s kind hi lo).2 := by
  unfold State.applySpare
  repeat' (first | with_reducible assumption | intro _ _ _ | intro _ | with_reducible apply State.startBringIn_data | with_reducible apply hbmRetire_data | with_reducible apply State.applyLane_data | with_reducible apply State.applySlot_data | with_reducible apply State.Data.ite | with_reducible apply State.Data.ite2 | with_reducible apply State.Data.ite22 | with_reducible apply State.Data.ite222 | with_reducible apply State.Data.ite1 | with_reducible apply State.Data.ite21 | split | ((with_reducible conv => arg 2; whnf); split) | ((with_reducible conv => arg 2; arg 1; whnf); split) | ((with_reducible conv => arg 2; arg 1; arg 1; whnf); split) | with_reducible refine State.Data.eq2 (by with_reducible assumption) ?_ | with_reducible refine State.Data.eq22 (by with_reducible assumption) ?_ | with_reducible refine State.Data.eq222 (by with_reducible assumption) ?_ | with_reducible refine State.Data.eq1 (by with_reducible assumption) ?_)

theorem doSpareApply_data (b0 : State) (r : TellerReq) (s : State) (h0 : b0.Data s) : b0.Data (doSpareApply r s) := by
  unfold doSpareApply
  repeat' (first | with_reducible assumption | intro _ _ _ | intro _ | with_reducible apply State.serve_data | with_reducible apply State.applySpare_data | with_reducible apply State.Data.ite | with_reducible apply State.Data.ite2 | with_reducible apply State.Data.ite22 | with_reducible apply State.Data.ite222 | with_reducible apply State.Data.ite1 | with_reducible apply State.Data.ite21 | split | ((with_reducible conv => arg 2; whnf); split) | ((with_reducible conv => arg 2; arg 1; whnf); split) | ((with_reducible conv => arg 2; arg 1; arg 1; whnf); split))

theorem execSpareApply_data (b0 : State) (req : TellerReq) (s : State) (h0 : b0.Data s) : b0.DataOut (execSpareApply req s) := by
  unfold execSpareApply
  repeat' (first | with_reducible assumption | with_reducible apply doSpareApply_data | with_reducible apply State.Data.next | intro _)

theorem doSparePolicy_data (b0 : State) (r : TellerReq) (s : State) (h0 : b0.Data s) : b0.Data (doSparePolicy r s) := by
  unfold doSparePolicy
  repeat' (first | with_reducible assumption | intro _ _ _ | intro _ | with_reducible apply State.serve_data | with_reducible apply State.setFs_data | split | ((with_reducible conv => arg 2; whnf); split) | with_reducible apply State.Data.mk_)

theorem execSparePolicy_data (b0 : State) (req : TellerReq) (s : State) (h0 : b0.Data s) : b0.DataOut (execSparePolicy req s) := by
  unfold execSparePolicy
  repeat' (first | with_reducible assumption | with_reducible apply doSparePolicy_data | with_reducible apply State.Data.next | intro _)

theorem State.calSet_data (b0 : State) (s : State) (body : List Byte) (h0 : b0.Data s) : b0.Data (State.calSet s body).2 := by
  unfold State.calSet
  repeat' (first | with_reducible assumption | with_reducible apply State.sign_data | intro _)

theorem doCalWrite_data (b0 : State) (r : TellerReq) (s : State) (h0 : b0.Data s) : b0.Data (doCalWrite r s) := by
  unfold doCalWrite
  repeat' (first | with_reducible assumption | intro _ _ _ | intro _ | with_reducible apply State.serve_data | with_reducible apply State.newTicket_data | with_reducible apply State.endTicket_data | with_reducible apply State.tellerView_data | with_reducible apply State.freshBytes_data | with_reducible apply State.calSet_data | with_reducible apply State.setF_data | with_reducible apply State.Data.ite | with_reducible apply State.Data.ite2 | with_reducible apply State.Data.ite22 | with_reducible apply State.Data.ite222 | with_reducible apply State.Data.ite1 | with_reducible apply State.Data.ite21 | split | ((with_reducible conv => arg 2; whnf); split) | ((with_reducible conv => arg 2; arg 1; whnf); split) | ((with_reducible conv => arg 2; arg 1; arg 1; whnf); split))

theorem execCalWrite_data (b0 : State) (req : TellerReq) (s : State) (h0 : b0.Data s) : b0.DataOut (execCalWrite req s) := by
  unfold execCalWrite
  repeat' (first | with_reducible assumption | with_reducible apply doCalWrite_data | with_reducible apply State.Data.next | intro _)

theorem doCalExport_data (b0 : State) (r : TellerReq) (s : State) (h0 : b0.Data s) : b0.Data (doCalExport r s) := by
  unfold doCalExport
  repeat' (first | with_reducible assumption | intro _ _ _ | intro _ | with_reducible apply State.serve_data | with_reducible apply State.newTicket_data | with_reducible apply State.tellerView_data | with_reducible apply State.endTicket_data | with_reducible apply State.Data.ite | with_reducible apply State.Data.ite2 | with_reducible apply State.Data.ite22 | with_reducible apply State.Data.ite222 | with_reducible apply State.Data.ite1 | with_reducible apply State.Data.ite21 | split | ((with_reducible conv => arg 2; whnf); split) | ((with_reducible conv => arg 2; arg 1; whnf); split) | ((with_reducible conv => arg 2; arg 1; arg 1; whnf); split))

theorem execCalExport_data (b0 : State) (req : TellerReq) (s : State) (h0 : b0.Data s) : b0.DataOut (execCalExport req s) := by
  unfold execCalExport
  repeat' (first | with_reducible assumption | with_reducible apply doCalExport_data | with_reducible apply State.Data.next | intro _)

theorem State.selfTestFailed_data (b0 : State) (s : State) (kind die unit num : Nat) (h0 : b0.Data s) : b0.Data (State.selfTestFailed s kind die unit num) := by
  unfold State.selfTestFailed
  repeat' (first | with_reducible assumption | with_reducible apply State.raise_data | with_reducible apply State.pcLost_data | with_reducible apply State.setF_data | with_reducible apply State.needSpare_data | with_reducible apply State.portDown_data | with_reducible apply State.laneFailed_data | with_reducible apply doReSlotSpare_data | split | ((with_reducible conv => arg 2; whnf); split) | with_reducible refine State.Data.eq2 (by with_reducible assumption) ?_ | with_reducible refine State.Data.eq22 (by with_reducible assumption) ?_ | with_reducible refine State.Data.eq222 (by with_reducible assumption) ?_ | with_reducible refine State.Data.eq1 (by with_reducible assumption) ?_ | intro _)

theorem doSelftest_data (b0 : State) (r : TellerReq) (s : State) (h0 : b0.Data s) : b0.Data (doSelftest r s) := by
  unfold doSelftest
  repeat' (first | with_reducible assumption | intro _ _ _ | intro _ | with_reducible apply State.serve_data | with_reducible apply State.newTicket_data | with_reducible apply State.tellerView_data | with_reducible apply State.Data.ite | with_reducible apply State.Data.ite2 | with_reducible apply State.Data.ite22 | with_reducible apply State.Data.ite222 | with_reducible apply State.Data.ite1 | with_reducible apply State.Data.ite21 | split | ((with_reducible conv => arg 2; whnf); split) | ((with_reducible conv => arg 2; arg 1; whnf); split) | ((with_reducible conv => arg 2; arg 1; arg 1; whnf); split))

theorem execSelftest_data (b0 : State) (req : TellerReq) (s : State) (h0 : b0.Data s) : b0.DataOut (execSelftest req s) := by
  unfold execSelftest
  repeat' (first | with_reducible assumption | with_reducible apply doSelftest_data | with_reducible apply State.Data.next | intro _)

theorem doSelftestDone_data (b0 : State) (fault : Option Nat) (s : State) (h0 : b0.Data s) : b0.Data (doSelftestDone fault s) := by
  unfold doSelftestDone
  repeat' (first | with_reducible assumption | intro _ _ _ | intro _ | with_reducible apply State.ticketDone_data | with_reducible apply State.selfTestFailed_data | split | ((with_reducible conv => arg 2; whnf); split) | with_reducible refine State.Data.eq2 (by with_reducible assumption) ?_ | with_reducible refine State.Data.eq22 (by with_reducible assumption) ?_ | with_reducible refine State.Data.eq222 (by with_reducible assumption) ?_ | with_reducible refine State.Data.eq1 (by with_reducible assumption) ?_)

theorem execSelftestDone_data (b0 : State) (fault : Option Nat) (s : State) (h0 : b0.Data s) : b0.DataOut (execSelftestDone fault s) := by
  unfold execSelftestDone
  repeat' (first | with_reducible assumption | with_reducible apply doSelftestDone_data | with_reducible apply State.Data.next | intro _)

theorem doRbFlush_data (b0 : State) (r : TellerReq) (s : State) (h0 : b0.Data s) : b0.Data (doRbFlush r s) := by
  unfold doRbFlush
  repeat' (first | with_reducible assumption | intro _ _ _ | intro _ | with_reducible apply State.serve_data | with_reducible apply State.newTicket_data | with_reducible apply State.tellerView_data | with_reducible apply State.Data.ite | with_reducible apply State.Data.ite2 | with_reducible apply State.Data.ite22 | with_reducible apply State.Data.ite222 | with_reducible apply State.Data.ite1 | with_reducible apply State.Data.ite21 | split | ((with_reducible conv => arg 2; whnf); split) | ((with_reducible conv => arg 2; arg 1; whnf); split) | ((with_reducible conv => arg 2; arg 1; arg 1; whnf); split))

theorem execRbFlush_data (b0 : State) (req : TellerReq) (s : State) (h0 : b0.Data s) : b0.DataOut (execRbFlush req s) := by
  unfold execRbFlush
  repeat' (first | with_reducible assumption | with_reducible apply doRbFlush_data | with_reducible apply State.Data.next | intro _)

theorem doSlinkLaneFault_data (b0 : State) (e l : Nat) (hasSpare : Bool) (s : State) (h0 : b0.Data s) : b0.Data (doSlinkLaneFault e l hasSpare s) := by
  unfold doSlinkLaneFault
  repeat' (first | with_reducible assumption | with_reducible apply State.needSpare_data | with_reducible apply State.setFs_data | with_reducible apply State.raise_data | with_reducible apply State.Data.ite | split | ((with_reducible conv => arg 2; whnf); split) | intro _)

theorem execSlinkLaneFault_data (b0 : State) (e : Fin 6) (l : Fin 5) (hasSpare : Bool) (s : State) (h0 : b0.Data s) : b0.DataOut (execSlinkLaneFault e l hasSpare s) := by
  unfold execSlinkLaneFault
  repeat' (first | with_reducible assumption | with_reducible apply doSlinkLaneFault_data | with_reducible apply State.Data.next | intro _)

end Sys2Proof.Machine
end

