-- ==== Sys2Proof/Laws/DataDark.lean ====
section
/-! SUPPORT. Operations of Machine/Dark.lean that leave all stored data alone. -/
namespace Sys2Proof.Machine

set_option linter.all false
set_option Elab.async false

theorem State.copyPiece_data (b0 : State) (s : State) (x : BringIn) (k : Nat) (h0 : b0.Data s) : b0.Data (State.copyPiece s x k) := by
  unfold State.copyPiece
  repeat' (first | with_reducible assumption | intro _ _ _ | intro _ | with_reducible apply State.setF_data | with_reducible apply State.switchPc_data | with_reducible apply State.useSpmSpare_data | with_reducible apply State.migrating_data | with_reducible apply State.Data.ite | with_reducible apply State.Data.ite2 | with_reducible apply State.Data.ite22 | with_reducible apply State.Data.ite222 | with_reducible apply State.Data.ite1 | with_reducible apply State.Data.ite21 | split | ((with_reducible conv => arg 2; whnf); split) | ((with_reducible conv => arg 2; arg 1; whnf); split) | ((with_reducible conv => arg 2; arg 1; arg 1; whnf); split) | with_reducible apply State.Data.mk_)

theorem State.idleTestFailed_data (b0 : State) (s : State) (kind die unit num : Nat) (h0 : b0.Data s) : b0.Data (State.idleTestFailed s kind die unit num) := by
  unfold State.idleTestFailed
  repeat' (first | with_reducible assumption | with_reducible apply State.raise_data | with_reducible apply State.Data.mk_ | intro _)

theorem State.recalibrate_data (b0 : State) (s : State) (p lane : Nat) (fault : Option Nat) (h0 : b0.Data s) : b0.Data (State.recalibrate s p lane fault) := by
  unfold State.recalibrate
  repeat' (first | with_reducible assumption | with_reducible apply State.setF_data | with_reducible apply State.raise_data | with_reducible apply State.laneFailed_data | with_reducible apply State.dirty_data | with_reducible apply State.Data.ite | split | ((with_reducible conv => arg 2; whnf); split) | with_reducible refine State.Data.eq2 (by with_reducible assumption) ?_ | with_reducible refine State.Data.eq22 (by with_reducible assumption) ?_ | with_reducible refine State.Data.eq222 (by with_reducible assumption) ?_ | with_reducible refine State.Data.eq1 (by with_reducible assumption) ?_ | intro _)

theorem doDarkPiece_data (b0 : State) (x : Piece) (len : Nat) (s : State) (h0 : b0.Data s) : b0.Data (doDarkPiece x len s) := by
  unfold doDarkPiece
  repeat' (first | with_reducible assumption | intro _ _ _ | intro _ | with_reducible apply State.advanceCyc_data | with_reducible apply State.satF_data | with_reducible apply State.migrating_data | with_reducible apply State.updPart_data | with_reducible apply State.Data.ite | with_reducible apply State.Data.ite2 | with_reducible apply State.Data.ite22 | with_reducible apply State.Data.ite222 | with_reducible apply State.Data.ite1 | with_reducible apply State.Data.ite21 | with_reducible apply State.Data.foldl | with_reducible apply State.Data.foldl2 | with_reducible apply State.Data.foldl22 | with_reducible apply State.Data.foldl222 | with_reducible apply State.Data.foldl1 | with_reducible apply State.Data.elim | split | ((with_reducible conv => arg 2; whnf); split) | ((with_reducible conv => arg 2; arg 1; whnf); split) | ((with_reducible conv => arg 2; arg 1; arg 1; whnf); split) | with_reducible refine State.Data.eq2 (by with_reducible assumption) ?_ | with_reducible refine State.Data.eq22 (by with_reducible assumption) ?_ | with_reducible refine State.Data.eq222 (by with_reducible assumption) ?_ | with_reducible refine State.Data.eq1 (by with_reducible assumption) ?_ | with_reducible apply State.Data.mk_)

theorem execDarkPiece_data (b0 : State) (piece : Piece) (len : Nat) (s : State) (h0 : b0.Data s) : b0.DataOut (execDarkPiece piece len s) := by
  unfold execDarkPiece
  repeat' (first | with_reducible assumption | with_reducible apply doDarkPiece_data | with_reducible apply State.Data.next | intro _)

theorem doSpareUnitTest_data (b0 : State) (x : Piece) (fault : Bool) (s : State) (h0 : b0.Data s) : b0.Data (doSpareUnitTest x fault s) := by
  unfold doSpareUnitTest
  repeat' (first | with_reducible assumption | intro _ _ _ | intro _ | with_reducible apply State.idleTestFailed_data | with_reducible apply State.recalibrate_data | with_reducible apply State.Data.ite | split | ((with_reducible conv => arg 2; whnf); split) | with_reducible refine State.Data.eq2 (by with_reducible assumption) ?_ | with_reducible refine State.Data.eq22 (by with_reducible assumption) ?_ | with_reducible refine State.Data.eq222 (by with_reducible assumption) ?_ | with_reducible refine State.Data.eq1 (by with_reducible assumption) ?_)

theorem execSpareUnitTest_data (b0 : State) (piece : Piece) (fault : Bool) (s : State) (h0 : b0.Data s) : b0.DataOut (execSpareUnitTest piece fault s) := by
  unfold execSpareUnitTest
  repeat' (first | with_reducible assumption | with_reducible apply doSpareUnitTest_data | with_reducible apply State.Data.next | intro _)

end Sys2Proof.Machine
end

