-- ==== Sys2Proof/Laws/DataFabCmd.lean ====
section
/-! SUPPORT. Operations of Machine/FabCmd.lean that leave all stored data alone. -/
namespace Sys2Proof.Machine

set_option linter.all false
set_option Elab.async false

theorem State.arrive_data (b0 : State) (s : State) (k : Packet) (op : Nat) (run : Nat → Packet → State → State) (h0 : b0.Data s) (hrun : ∀ y0 y1 u, b0.Data u → b0.Data (run y0 y1 u)) : b0.Data (State.arrive s k op run) := by
  unfold State.arrive
  repeat' (first | with_reducible assumption | with_reducible apply State.count_data | with_reducible apply State.dropCrc_data | with_reducible apply State.emit_data | with_reducible apply hrun | with_reducible apply State.Data.ite | split | ((with_reducible conv => arg 2; whnf); split) | with_reducible refine State.Data.eq2 (by with_reducible assumption) ?_ | with_reducible refine State.Data.eq22 (by with_reducible assumption) ?_ | with_reducible refine State.Data.eq222 (by with_reducible assumption) ?_ | with_reducible refine State.Data.eq1 (by with_reducible assumption) ?_ | with_reducible apply State.Data.mk_ | intro _)

theorem State.afterPacket_data (b0 : State) (s : State) (h0 : b0.Data s) : b0.Data (State.afterPacket s) := by
  unfold State.afterPacket
  repeat' (first | with_reducible assumption | with_reducible apply State.settleReleases_data | with_reducible apply State.settleFences_data | intro _)

theorem State.answerAgain_data (b0 : State) (s : State) (p : Nat) (k : Packet) (h0 : b0.Data s) : b0.Data (State.answerAgain s p k) := by
  unfold State.answerAgain
  repeat' (first | with_reducible assumption | intro _ _ _ | intro _ | with_reducible apply State.sendAnswer_data | with_reducible apply State.Data.ite | with_reducible apply State.Data.ite2 | with_reducible apply State.Data.ite22 | with_reducible apply State.Data.ite222 | with_reducible apply State.Data.ite1 | with_reducible apply State.Data.ite21 | split | ((with_reducible conv => arg 2; whnf); split) | ((with_reducible conv => arg 2; arg 1; whnf); split) | ((with_reducible conv => arg 2; arg 1; arg 1; whnf); split) | with_reducible refine State.Data.eq2 (by with_reducible assumption) ?_ | with_reducible refine State.Data.eq22 (by with_reducible assumption) ?_ | with_reducible refine State.Data.eq222 (by with_reducible assumption) ?_ | with_reducible refine State.Data.eq1 (by with_reducible assumption) ?_)

theorem State.dedupe_data (b0 : State) (s : State) (p : Nat) (k : Packet) (again fresh : State → State) (h0 : b0.Data s) (hagain : ∀ u, b0.Data u → b0.Data (again u)) (hfresh : ∀ u, b0.Data u → b0.Data (fresh u)) : b0.Data (State.dedupe s p k again fresh) := by
  unfold State.dedupe
  repeat' (first | with_reducible assumption | with_reducible apply State.satF_data | with_reducible apply hagain | with_reducible apply hfresh | with_reducible apply State.Data.ite | split | ((with_reducible conv => arg 2; whnf); split) | with_reducible refine State.Data.eq2 (by with_reducible assumption) ?_ | with_reducible refine State.Data.eq22 (by with_reducible assumption) ?_ | with_reducible refine State.Data.eq222 (by with_reducible assumption) ?_ | with_reducible refine State.Data.eq1 (by with_reducible assumption) ?_ | intro _)

theorem State.refuseIn_data (b0 : State) (s : State) (p code : Nat) (k : Packet) (h0 : b0.Data s) : b0.Data (State.refuseIn s p code k) := by
  unfold State.refuseIn
  repeat' (first | with_reducible assumption | with_reducible apply State.refuse_data | with_reducible apply State.finishIn_data | intro _)

theorem State.targetError_data (b0 : State) (s : State) (p : Nat) (k : Packet) (h0 : b0.Data s) : b0.Data (State.targetError s p k) := by
  unfold State.targetError
  repeat' (first | with_reducible assumption | with_reducible apply State.finishIn_data | intro _)

theorem doFabAcquire_data (b0 : State) (k : Packet) (s : State) (h0 : b0.Data s) : b0.Data (doFabAcquire k s) := by
  unfold doFabAcquire
  repeat' (first | with_reducible assumption | intro _ _ _ | intro _ | with_reducible apply State.arrive_data | with_reducible apply State.dedupe_data | with_reducible apply State.answerAgain_data | with_reducible apply State.refuseIn_data | with_reducible apply State.afterPacket_data | with_reducible apply State.setRegion_data | with_reducible apply State.finishIn_data | with_reducible apply State.setPeer_data | with_reducible apply State.Data.ite | split | ((with_reducible conv => arg 2; whnf); split) | with_reducible refine State.Data.eq2 (by with_reducible assumption) ?_ | with_reducible refine State.Data.eq22 (by with_reducible assumption) ?_ | with_reducible refine State.Data.eq222 (by with_reducible assumption) ?_ | with_reducible refine State.Data.eq1 (by with_reducible assumption) ?_ | with_reducible apply State.Data.mk_)

theorem execFabAcquire_data (b0 : State) (pkt : Packet) (s : State) (h0 : b0.Data s) : b0.DataOut (execFabAcquire pkt s) := by
  unfold execFabAcquire
  repeat' (first | with_reducible assumption | with_reducible apply doFabAcquire_data | with_reducible apply State.Data.next | intro _)

theorem doFabRelease_data (b0 : State) (k : Packet) (s : State) (h0 : b0.Data s) : b0.Data (doFabRelease k s) := by
  unfold doFabRelease
  repeat' (first | with_reducible assumption | intro _ _ _ | intro _ | with_reducible apply State.arrive_data | with_reducible apply State.dedupe_data | with_reducible apply State.answerAgain_data | with_reducible apply State.refuseIn_data | with_reducible apply State.afterPacket_data | with_reducible apply State.setPeer_data | split | ((with_reducible conv => arg 2; whnf); split) | with_reducible refine State.Data.eq2 (by with_reducible assumption) ?_ | with_reducible refine State.Data.eq22 (by with_reducible assumption) ?_ | with_reducible refine State.Data.eq222 (by with_reducible assumption) ?_ | with_reducible refine State.Data.eq1 (by with_reducible assumption) ?_ | with_reducible apply State.Data.mk_)

theorem execFabRelease_data (b0 : State) (pkt : Packet) (s : State) (h0 : b0.Data s) : b0.DataOut (execFabRelease pkt s) := by
  unfold execFabRelease
  repeat' (first | with_reducible assumption | with_reducible apply doFabRelease_data | with_reducible apply State.Data.next | intro _)

theorem doFabMgmt_data (b0 : State) (k : Packet) (s : State) (h0 : b0.Data s) : b0.Data (doFabMgmt k s) := by
  unfold doFabMgmt
  repeat' (first | with_reducible assumption | intro _ _ _ | intro _ | with_reducible apply State.arrive_data | with_reducible apply State.answerBytes_data | split | ((with_reducible conv => arg 2; whnf); split))

theorem execFabMgmt_data (b0 : State) (pkt : Packet) (s : State) (h0 : b0.Data s) : b0.DataOut (execFabMgmt pkt s) := by
  unfold execFabMgmt
  repeat' (first | with_reducible assumption | with_reducible apply doFabMgmt_data | with_reducible apply State.Data.next | intro _)

theorem doFabReservedOp_data (b0 : State) (k : Packet) (s : State) (h0 : b0.Data s) : b0.Data (doFabReservedOp k s) := by
  unfold doFabReservedOp
  repeat' (first | with_reducible assumption | intro _ _ _ | intro _ | with_reducible apply State.arrive_data | with_reducible apply State.satF_data | split | ((with_reducible conv => arg 2; whnf); split))

theorem execFabReservedOp_data (b0 : State) (pkt : Packet) (s : State) (h0 : b0.Data s) : b0.DataOut (execFabReservedOp pkt s) := by
  unfold execFabReservedOp
  repeat' (first | with_reducible assumption | with_reducible apply doFabReservedOp_data | with_reducible apply State.Data.next | intro _)

theorem State.recDone_data (b0 : State) (s : State) (num code : Nat) (h0 : b0.Data s) : b0.Data (State.recDone s num code) := by
  unfold State.recDone
  repeat' (first | with_reducible assumption | with_reducible apply State.recComplete_data | with_reducible apply State.settleTots_data | intro _)

theorem State.nameDest_data (b0 : State) (s : State) (n code dst seq : Nat) (h0 : b0.Data s) : b0.Data (State.nameDest s n code dst seq) := by
  unfold State.nameDest
  repeat' (first | with_reducible assumption | intro _ _ _ | intro _ | with_reducible apply State.Data.ite | split | ((with_reducible conv => arg 2; whnf); split) | with_reducible apply State.Data.mk_)

theorem State.colPacketIn_data (b0 : State) (run : Packet → State → State) (p : Nat) (k : Packet) (s : State) (h0 : b0.Data s) (hrun : ∀ y0 u, b0.Data u → b0.Data (run y0 u)) : b0.Data (State.colPacketIn run p k s) := by
  unfold State.colPacketIn
  repeat' (first | with_reducible assumption | intro _ _ _ | intro _ | with_reducible apply State.satF_data | with_reducible apply State.dedupe_data | with_reducible apply State.answerAgain_data | with_reducible apply State.finishIn_data | with_reducible apply State.afterPacket_data | with_reducible apply hrun | with_reducible apply State.Data.ite | split | ((with_reducible conv => arg 2; whnf); split))

theorem State.takeBcastAck_data (b0 : State) (k : Packet) (s : State) (h0 : b0.Data s) : b0.Data (State.takeBcastAck k s) := by
  unfold State.takeBcastAck
  repeat' (first | with_reducible assumption | intro _ _ _ | intro _ | with_reducible apply State.bcastCrc_data | with_reducible apply State.bcastLost_data | with_reducible apply State.bcastStep_data | with_reducible apply State.updOp_data | with_reducible apply State.Data.ite | with_reducible apply State.Data.ite2 | with_reducible apply State.Data.ite22 | with_reducible apply State.Data.ite222 | with_reducible apply State.Data.ite1 | with_reducible apply State.Data.ite21 | split | ((with_reducible conv => arg 2; whnf); split) | ((with_reducible conv => arg 2; arg 1; whnf); split) | ((with_reducible conv => arg 2; arg 1; arg 1; whnf); split) | with_reducible refine State.Data.eq2 (by with_reducible assumption) ?_ | with_reducible refine State.Data.eq22 (by with_reducible assumption) ?_ | with_reducible refine State.Data.eq222 (by with_reducible assumption) ?_ | with_reducible refine State.Data.eq1 (by with_reducible assumption) ?_ | with_reducible apply State.Data.mk_)

theorem doBcastAck_data (b0 : State) (k : Packet) (s : State) (h0 : b0.Data s) : b0.Data (doBcastAck k s) := by
  unfold doBcastAck
  repeat' (first | with_reducible assumption | with_reducible apply State.arrive_data | with_reducible apply State.colPacketIn_data | with_reducible apply State.takeBcastAck_data | intro _)

theorem execBcastAck_data (b0 : State) (pkt : Packet) (s : State) (h0 : b0.Data s) : b0.DataOut (execBcastAck pkt s) := by
  unfold execBcastAck
  repeat' (first | with_reducible assumption | with_reducible apply doBcastAck_data | with_reducible apply State.Data.next | intro _)

end Sys2Proof.Machine
end

