-- ==== Sys2Proof/Laws/DataSolver.lean ====
section
/-! SUPPORT. Operations of Machine/Solver.lean that leave all stored data alone. -/
namespace Sys2Proof.Machine

set_option linter.all false
set_option Elab.async false

theorem doSveLoad_data (b0 : State) (v : Nat) (s : State) (h0 : b0.Data s) : b0.Data (doSveLoad v s) := by
  unfold doSveLoad
  repeat' (first | with_reducible assumption | with_reducible apply State.seqLoad_data | intro _)

theorem execSveLoad_data (b0 : State) (val : Word) (s : State) (h0 : b0.Data s) : b0.DataOut (execSveLoad val s) := by
  unfold execSveLoad
  repeat' (first | with_reducible assumption | with_reducible apply doSveLoad_data | with_reducible apply State.Data.next | intro _)

theorem doSveProblemStart_data (b0 : State) (i : Nat) (s : State) (h0 : b0.Data s) : b0.Data (doSveProblemStart i s) := by
  unfold doSveProblemStart
  repeat' (first | with_reducible assumption | intro _ _ _ | intro _ | with_reducible apply State.seqBegin_data | with_reducible apply State.count_data | with_reducible apply State.setFs_data | split | ((with_reducible conv => arg 2; whnf); split) | ((with_reducible conv => arg 2; arg 1; whnf); split) | ((with_reducible conv => arg 2; arg 1; arg 1; whnf); split) | with_reducible refine State.Data.eq2 (by with_reducible assumption) ?_ | with_reducible refine State.Data.eq22 (by with_reducible assumption) ?_ | with_reducible refine State.Data.eq222 (by with_reducible assumption) ?_ | with_reducible refine State.Data.eq1 (by with_reducible assumption) ?_ | with_reducible apply State.Data.mk_)

theorem execSveProblemStart_data (b0 : State) (entry : Nat) (s : State) (h0 : b0.Data s) : b0.DataOut (execSveProblemStart entry s) := by
  unfold execSveProblemStart
  repeat' (first | with_reducible assumption | with_reducible apply doSveProblemStart_data | with_reducible apply State.Data.next | intro _)

theorem State.sveRead_data (b0 : State) (s : State) (a n : Nat) (h0 : b0.Data s) : b0.Data (State.sveRead s a n).2.2 := by
  unfold State.sveRead
  repeat' (first | with_reducible assumption | intro _ _ _ | intro _ | with_reducible apply State.sramCorrect_data | with_reducible apply State.extRead_data | with_reducible apply State.Data.ite | with_reducible apply State.Data.ite2 | with_reducible apply State.Data.ite22 | with_reducible apply State.Data.ite222 | with_reducible apply State.Data.ite1 | with_reducible apply State.Data.ite21 | split | ((with_reducible conv => arg 2; whnf); split) | ((with_reducible conv => arg 2; arg 1; whnf); split) | ((with_reducible conv => arg 2; arg 1; arg 1; whnf); split) | with_reducible apply State.Data.pair2 | with_reducible apply State.Data.pair22 | with_reducible apply State.Data.pair222 | with_reducible apply State.Data.mk_)

theorem State.sveReads_data (b0 : State) (s : State) (x0 : List (Nat × Nat)) (h0 : b0.Data s) : b0.Data (State.sveReads s x0).2.2 := by
  induction x0 generalizing s with
  | nil => exact h0
  | cons x r ih =>
    unfold State.sveReads
    have h1 := State.sveRead_data b0 s x.1 x.2 h0
    split
    rename_i c b s2 he
    have h2 := State.Data.eq22 he h1
    split
    · exact h2
    · split
      rename_i c3 b3 s3 he3
      exact State.Data.eq22 he3 (ih _ h2)

theorem State.sveInputs_data (b0 : State) (s : State) (gs : List (List (Nat × Nat))) (h0 : b0.Data s) : b0.Data (State.sveInputs s gs).2.2 := by
  unfold State.sveInputs
  repeat' (first | with_reducible assumption | intro _ _ _ | intro _ | with_reducible apply State.sveReads_data | with_reducible apply State.Data.ite | with_reducible apply State.Data.ite2 | with_reducible apply State.Data.ite22 | with_reducible apply State.Data.ite222 | with_reducible apply State.Data.ite1 | with_reducible apply State.Data.ite21 | with_reducible apply State.Data.foldl | with_reducible apply State.Data.foldl2 | with_reducible apply State.Data.foldl22 | with_reducible apply State.Data.foldl222 | with_reducible apply State.Data.foldl1 | split | ((with_reducible conv => arg 2; whnf); split) | ((with_reducible conv => arg 2; arg 1; whnf); split) | ((with_reducible conv => arg 2; arg 1; arg 1; whnf); split) | with_reducible refine State.Data.eq2 (by with_reducible assumption) ?_ | with_reducible refine State.Data.eq22 (by with_reducible assumption) ?_ | with_reducible refine State.Data.eq222 (by with_reducible assumption) ?_ | with_reducible refine State.Data.eq1 (by with_reducible assumption) ?_ | with_reducible apply State.Data.pair2 | with_reducible apply State.Data.pair22 | with_reducible apply State.Data.pair222 | with_reducible apply State.Data.mk_)

theorem State.sveFault_data (b0 : State) (s : State) (j : SveJob) (code : Nat) (h0 : b0.Data s) : b0.Data (State.sveFault s j code) := by
  unfold State.sveFault
  repeat' (first | with_reducible assumption | intro _ _ _ | intro _ | with_reducible apply State.updSeqRun_data | with_reducible apply State.hwSets_data | with_reducible apply State.seqFault_data | split | ((with_reducible conv => arg 2; whnf); split) | ((with_reducible conv => arg 2; arg 1; whnf); split) | ((with_reducible conv => arg 2; arg 1; arg 1; whnf); split) | with_reducible apply State.Data.mk_)

theorem State.sveNotes_data (b0 : State) (s : State) (num wr : Nat) (o : Outcome) (h0 : b0.Data s) : b0.Data (State.sveNotes s num wr o) := by
  unfold State.sveNotes
  repeat' (first | with_reducible assumption | intro _ _ _ | intro _ | with_reducible apply State.raise_data | with_reducible apply State.hwSet_data | with_reducible apply State.count_data | with_reducible apply State.Data.ite | with_reducible apply State.Data.ite2 | with_reducible apply State.Data.ite22 | with_reducible apply State.Data.ite222 | with_reducible apply State.Data.ite1 | with_reducible apply State.Data.ite21 | split | ((with_reducible conv => arg 2; whnf); split) | ((with_reducible conv => arg 2; arg 1; whnf); split) | ((with_reducible conv => arg 2; arg 1; arg 1; whnf); split) | with_reducible apply State.Data.mk_)

theorem doSveDeadline_data (b0 : State) (s : State) (h0 : b0.Data s) : b0.Data (doSveDeadline s) := by
  unfold doSveDeadline
  repeat' (first | with_reducible assumption | intro _ _ _ | intro _ | with_reducible apply State.toCyc_data | with_reducible apply State.hwSet_data | with_reducible apply State.Data.ite | with_reducible apply State.Data.ite2 | with_reducible apply State.Data.ite22 | with_reducible apply State.Data.ite222 | with_reducible apply State.Data.ite1 | with_reducible apply State.Data.ite21 | split | ((with_reducible conv => arg 2; whnf); split) | ((with_reducible conv => arg 2; arg 1; whnf); split) | ((with_reducible conv => arg 2; arg 1; arg 1; whnf); split) | with_reducible refine State.Data.eq2 (by with_reducible assumption) ?_ | with_reducible refine State.Data.eq22 (by with_reducible assumption) ?_ | with_reducible refine State.Data.eq222 (by with_reducible assumption) ?_ | with_reducible refine State.Data.eq1 (by with_reducible assumption) ?_ | with_reducible apply State.Data.mk_)

theorem execSveDeadline_data (b0 : State) (s : State) (h0 : b0.Data s) : b0.DataOut (execSveDeadline s) := by
  unfold execSveDeadline
  repeat' (first | with_reducible assumption | with_reducible apply doSveDeadline_data | with_reducible apply State.Data.next | intro _)

theorem State.sveLate_data (b0 : State) (s : State) (j : SveJob) (p : Prob) (own : Nat) (h0 : b0.Data s) : b0.Data (State.sveLate s j p own) := by
  unfold State.sveLate
  repeat' (first | with_reducible assumption | intro _ _ _ | intro _ | with_reducible apply State.raise_data | with_reducible apply State.hwSet_data | with_reducible apply State.count_data | with_reducible apply State.Data.ite | with_reducible apply State.Data.ite2 | with_reducible apply State.Data.ite22 | with_reducible apply State.Data.ite222 | with_reducible apply State.Data.ite1 | with_reducible apply State.Data.ite21 | split | ((with_reducible conv => arg 2; whnf); split) | ((with_reducible conv => arg 2; arg 1; whnf); split) | ((with_reducible conv => arg 2; arg 1; arg 1; whnf); split) | with_reducible apply State.Data.mk_)

theorem State.sveRegs_data (b0 : State) (s : State) (j : SveJob) (st w : Nat) (h0 : b0.Data s) : b0.Data (State.sveRegs s j st w) := by
  unfold State.sveRegs
  repeat' (first | with_reducible assumption | intro _ _ _ | intro _ | with_reducible apply State.raise_data | with_reducible apply State.count_data | with_reducible apply State.setFs_data | with_reducible apply State.Data.ite | with_reducible apply State.Data.ite2 | with_reducible apply State.Data.ite22 | with_reducible apply State.Data.ite222 | with_reducible apply State.Data.ite1 | with_reducible apply State.Data.ite21 | split | ((with_reducible conv => arg 2; whnf); split) | ((with_reducible conv => arg 2; arg 1; whnf); split) | ((with_reducible conv => arg 2; arg 1; arg 1; whnf); split) | with_reducible apply State.Data.mk_)

end Sys2Proof.Machine
end

