-- ==== Sys2Proof/Laws/DataThermal.lean ====
section
/-! SUPPORT. Operations of Machine/Thermal.lean that leave all stored data alone. -/
namespace Sys2Proof.Machine

set_option linter.all false
set_option Elab.async false

theorem State.expoShift_data (b0 : State) (s : State) (d : Nat) (h0 : b0.Data s) : b0.Data (State.expoShift s d) := by
  unfold State.expoShift
  repeat' (first | with_reducible assumption | intro _ | with_reducible apply State.Data.ite | with_reducible apply State.updExpo_data)

theorem State.setLevel_data (b0 : State) (s : State) (lv sensor : Nat) (h0 : b0.Data s) : b0.Data (State.setLevel s lv sensor) := by
  unfold State.setLevel
  repeat' (first | with_reducible assumption | with_reducible apply State.expoShift_data | intro _ _ _ | intro _ | with_reducible apply State.setFs_data | with_reducible apply State.satF_data | with_reducible apply State.raise_data | with_reducible apply State.expo_data | with_reducible apply State.Data.ite | with_reducible apply State.Data.foldl | with_reducible apply State.Data.foldl2 | with_reducible apply State.Data.foldl22 | with_reducible apply State.Data.foldl222 | with_reducible apply State.Data.foldl1 | split | ((with_reducible conv => arg 2; whnf); split))

theorem State.trip_data (b0 : State) (s : State) (sensor : Nat) (h0 : b0.Data s) : b0.Data (State.trip s sensor) := by
  unfold State.trip
  repeat' (first | with_reducible assumption | intro _ _ _ | intro _ | with_reducible apply State.raise_data | with_reducible apply State.setFs_data | split | ((with_reducible conv => arg 2; whnf); split) | with_reducible apply State.Data.mk_)

theorem State.recordTemps_data (b0 : State) (s : State) (temps : List Int) (h0 : b0.Data s) : b0.Data (State.recordTemps s temps) := by
  unfold State.recordTemps
  repeat' (first | with_reducible assumption | intro _ _ _ | intro _ | with_reducible apply State.setFs_data | split | ((with_reducible conv => arg 2; whnf); split) | with_reducible apply State.Data.mk_)

theorem doThermalSample_data (b0 : State) (temps : List Int) (s : State) (h0 : b0.Data s) : b0.Data (doThermalSample temps s) := by
  unfold doThermalSample
  repeat' (first | with_reducible assumption | intro _ _ _ | intro _ | with_reducible apply State.toNs_data | with_reducible apply State.recordTemps_data | with_reducible apply State.trip_data | with_reducible apply State.hwSet_data | with_reducible apply State.raise_data | with_reducible apply State.setLevel_data | with_reducible apply State.Data.ite | with_reducible apply State.Data.ite2 | with_reducible apply State.Data.ite22 | with_reducible apply State.Data.ite222 | with_reducible apply State.Data.ite1 | with_reducible apply State.Data.ite21 | split | ((with_reducible conv => arg 2; whnf); split) | ((with_reducible conv => arg 2; arg 1; whnf); split) | ((with_reducible conv => arg 2; arg 1; arg 1; whnf); split) | with_reducible refine State.Data.eq2 (by with_reducible assumption) ?_ | with_reducible refine State.Data.eq22 (by with_reducible assumption) ?_ | with_reducible refine State.Data.eq222 (by with_reducible assumption) ?_ | with_reducible refine State.Data.eq1 (by with_reducible assumption) ?_ | with_reducible apply State.Data.mk_)

theorem execThermalSample_data (b0 : State) (temps : List Int) (s : State) (h0 : b0.Data s) : b0.DataOut (execThermalSample temps s) := by
  unfold execThermalSample
  repeat' (first | with_reducible assumption | with_reducible apply doThermalSample_data | with_reducible apply State.Data.next | intro _)

theorem doThermalRestart_data (b0 : State) (s : State) (h0 : b0.Data s) : b0.Data (doThermalRestart s) := by
  unfold doThermalRestart
  repeat' (first | with_reducible assumption | with_reducible apply State.expoShift_data | intro _ _ _ | intro _ | with_reducible apply State.expoAt_data | with_reducible apply State.setFs_data | with_reducible apply State.setLevel_data | with_reducible apply State.Data.ite | with_reducible apply State.Data.ite2 | with_reducible apply State.Data.ite22 | with_reducible apply State.Data.ite222 | with_reducible apply State.Data.ite1 | with_reducible apply State.Data.ite21 | with_reducible apply State.Data.foldl | with_reducible apply State.Data.foldl2 | with_reducible apply State.Data.foldl22 | with_reducible apply State.Data.foldl222 | with_reducible apply State.Data.foldl1 | split | ((with_reducible conv => arg 2; whnf); split) | ((with_reducible conv => arg 2; arg 1; whnf); split) | ((with_reducible conv => arg 2; arg 1; arg 1; whnf); split) | with_reducible apply State.Data.mk_)

theorem execThermalRestart_data (b0 : State) (s : State) (h0 : b0.Data s) : b0.DataOut (execThermalRestart s) := by
  unfold execThermalRestart
  repeat' (first | with_reducible assumption | with_reducible apply doThermalRestart_data | with_reducible apply State.Data.next | intro _)

theorem doMinLevelWrite_data (b0 : State) (v : Nat) (s : State) (h0 : b0.Data s) : b0.Data (doMinLevelWrite v s) := by
  unfold doMinLevelWrite
  repeat' (first | with_reducible assumption | with_reducible apply State.setF_data | intro _)

theorem execMinLevelWrite_data (b0 : State) (val : Word) (s : State) (h0 : b0.Data s) : b0.DataOut (execMinLevelWrite val s) := by
  unfold execMinLevelWrite
  repeat' (first | with_reducible assumption | with_reducible apply doMinLevelWrite_data | with_reducible apply State.Data.next | intro _)

end Sys2Proof.Machine
end

