-- ==== Sys2Proof/Laws/DataMgmt.lean ====
section
/-! SUPPORT. Operations of Machine/Mgmt.lean that leave all stored data alone. -/
namespace Sys2Proof.Machine

set_option linter.all false
set_option Elab.async false

theorem doTotSelRead_data (b0 : State) (v : Nat) (s : State) (h0 : b0.Data s) : b0.Data (doTotSelRead v s) := by
  unfold doTotSelRead
  repeat' (first | with_reducible assumption | with_reducible apply State.setFs_data | with_reducible apply State.count_data | with_reducible apply State.answer_data | with_reducible apply State.Data.ite | split | ((with_reducible conv => arg 2; whnf); split) | intro _)

theorem execTotSelRead_data (b0 : State) (val : Word) (s : State) (h0 : b0.Data s) : b0.DataOut (execTotSelRead val s) := by
  unfold execTotSelRead
  repeat' (first | with_reducible assumption | with_reducible apply doTotSelRead_data | with_reducible apply State.Data.next | intro _)

theorem State.plainWrite_data (b0 : State) (s : State) (a v : Nat) (h0 : b0.Data s) : b0.Data (State.plainWrite s a v) := by
  unfold State.plainWrite
  repeat' (first | with_reducible assumption | intro _ _ _ | intro _ | with_reducible apply State.answer_data | with_reducible apply State.writeAt_data | with_reducible apply State.Data.ite | with_reducible apply State.Data.ite2 | with_reducible apply State.Data.ite22 | with_reducible apply State.Data.ite222 | with_reducible apply State.Data.ite1 | with_reducible apply State.Data.ite21 | split | ((with_reducible conv => arg 2; whnf); split) | ((with_reducible conv => arg 2; arg 1; whnf); split) | ((with_reducible conv => arg 2; arg 1; arg 1; whnf); split) | with_reducible refine State.Data.eq2 (by with_reducible assumption) ?_ | with_reducible refine State.Data.eq22 (by with_reducible assumption) ?_ | with_reducible refine State.Data.eq222 (by with_reducible assumption) ?_ | with_reducible refine State.Data.eq1 (by with_reducible assumption) ?_ | with_reducible apply State.Data.mk_)

theorem State.writeSlot_data (b0 : State) (s : State) (p k i : Nat) (l : List Byte) (h0 : b0.Data s) : b0.Data (State.writeSlot s p k i l) := by
  unfold State.writeSlot
  repeat' (first | with_reducible assumption | with_reducible apply State.answer_data | with_reducible apply State.Data.ite | split | ((with_reducible conv => arg 2; whnf); split) | with_reducible apply State.Data.mk_ | intro _)

theorem State.writeMgc_data (b0 : State) (s : State) (a sub o v : Nat) (h0 : b0.Data s) : b0.Data (State.writeMgc s a sub o v) := by
  unfold State.writeMgc
  repeat' (first | with_reducible assumption | with_reducible apply State.setF_data | with_reducible apply State.answer_data | with_reducible apply doHostRingWrite_data | with_reducible apply State.writeSlot_data | with_reducible apply State.plainWrite_data | with_reducible apply doMinLevelWrite_data | with_reducible apply doThermalRestart_data | with_reducible apply State.Data.ite | split | ((with_reducible conv => arg 2; whnf); split) | intro _)

theorem State.writeFabCtrl_data (b0 : State) (s : State) (v : Nat) (h0 : b0.Data s) : b0.Data (State.writeFabCtrl s v) := by
  unfold State.writeFabCtrl
  repeat' (first | with_reducible assumption | with_reducible apply State.answer_data | with_reducible apply doFabEnableWrite_data | with_reducible apply doFabDiscover_data | with_reducible apply doFabApply_data | with_reducible apply doFabSave_data | with_reducible apply State.Data.ite | split | ((with_reducible conv => arg 2; whnf); split) | intro _)

theorem doTellerRead_data (b0 : State) (r : TellerReq) (s : State) (h0 : b0.Data s) : b0.Data (doTellerRead r s) := by
  unfold doTellerRead
  repeat' (first | with_reducible assumption | intro _ _ _ | intro _ | with_reducible apply State.serve_data | with_reducible apply State.Data.ite | with_reducible apply State.Data.ite2 | with_reducible apply State.Data.ite22 | with_reducible apply State.Data.ite222 | with_reducible apply State.Data.ite1 | with_reducible apply State.Data.ite21 | split | ((with_reducible conv => arg 2; whnf); split) | ((with_reducible conv => arg 2; arg 1; whnf); split) | ((with_reducible conv => arg 2; arg 1; arg 1; whnf); split))

theorem execTellerRead_data (b0 : State) (req : TellerReq) (s : State) (h0 : b0.Data s) : b0.DataOut (execTellerRead req s) := by
  unfold execTellerRead
  repeat' (first | with_reducible assumption | with_reducible apply doTellerRead_data | with_reducible apply State.Data.next | intro _)

end Sys2Proof.Machine
end

