-- ==== Sys2Proof/Laws/DataPackage.lean ====
section
/-! SUPPORT. Operations of Machine/Package.lean that leave all stored data alone. -/
namespace Sys2Proof.Machine

set_option linter.all false
set_option Elab.async false

theorem State.lscPush_data (b0 : State) (s : State) (l : List (Nat × Nat × Nat)) (h0 : b0.Data s) : b0.Data (State.lscPush s l) := by
  unfold State.lscPush
  repeat' (first | with_reducible assumption | with_reducible apply State.Data.ite | split | ((with_reducible conv => arg 2; whnf); split) | with_reducible apply State.Data.mk_ | intro _)

theorem doLscFault_data (b0 : State) (s : State) (h0 : b0.Data s) : b0.Data (doLscFault s) := by
  unfold doLscFault
  repeat' (first | with_reducible assumption | intro _ _ _ | intro _ | with_reducible apply State.lscPush_data | split | ((with_reducible conv => arg 2; whnf); split) | with_reducible apply State.Data.mk_)

theorem execLscFault_data (b0 : State) (s : State) (h0 : b0.Data s) : b0.DataOut (execLscFault s) := by
  unfold execLscFault
  repeat' (first | with_reducible assumption | with_reducible apply doLscFault_data | with_reducible apply State.Data.next | intro _)

theorem State.lscRetry_data (b0 : State) (s : State) (h0 : b0.Data s) : b0.Data (State.lscRetry s) := by
  unfold State.lscRetry
  repeat' (first | with_reducible assumption | with_reducible apply State.raise_data | with_reducible apply State.Data.ite | split | ((with_reducible conv => arg 2; whnf); split) | with_reducible apply State.Data.mk_ | intro _)

theorem State.lscStatus_data (b0 : State) (s : State) (c v : Nat) (h0 : b0.Data s) : b0.Data (State.lscStatus s c v) := by
  unfold State.lscStatus
  repeat' (first | with_reducible assumption | intro _ _ _ | intro _ | with_reducible apply State.raise_data | with_reducible apply State.dirty_data | with_reducible apply State.Data.ite | with_reducible apply State.Data.ite2 | with_reducible apply State.Data.ite22 | with_reducible apply State.Data.ite222 | with_reducible apply State.Data.ite1 | with_reducible apply State.Data.ite21 | split | ((with_reducible conv => arg 2; whnf); split) | ((with_reducible conv => arg 2; arg 1; whnf); split) | ((with_reducible conv => arg 2; arg 1; arg 1; whnf); split) | with_reducible apply State.Data.mk_)

theorem doLscResponse_data (b0 : State) (frame : List Byte) (s : State) (h0 : b0.Data s) : b0.Data (doLscResponse frame s) := by
  unfold doLscResponse
  repeat' (first | with_reducible assumption | with_reducible apply State.lscRetry_data | with_reducible apply State.lscStatus_data | with_reducible apply State.Data.ite | split | ((with_reducible conv => arg 2; whnf); split) | with_reducible refine State.Data.eq2 (by with_reducible assumption) ?_ | with_reducible refine State.Data.eq22 (by with_reducible assumption) ?_ | with_reducible refine State.Data.eq222 (by with_reducible assumption) ?_ | with_reducible refine State.Data.eq1 (by with_reducible assumption) ?_ | with_reducible apply State.Data.mk_ | intro _)

theorem execLscResponse_data (b0 : State) (frame : List Byte) (s : State) (h0 : b0.Data s) : b0.DataOut (execLscResponse frame s) := by
  unfold execLscResponse
  repeat' (first | with_reducible assumption | with_reducible apply doLscResponse_data | with_reducible apply State.Data.next | intro _)

theorem doLscTimeout_data (b0 : State) (s : State) (h0 : b0.Data s) : b0.Data (doLscTimeout s) := by
  unfold doLscTimeout
  repeat' (first | with_reducible assumption | with_reducible apply State.advanceNs_data | with_reducible apply State.lscRetry_data | intro _)

theorem execLscTimeout_data (b0 : State) (s : State) (h0 : b0.Data s) : b0.DataOut (execLscTimeout s) := by
  unfold execLscTimeout
  repeat' (first | with_reducible assumption | with_reducible apply doLscTimeout_data | with_reducible apply State.Data.next | intro _)

theorem doJtagIdcode_data (b0 : State) (s : State) (h0 : b0.Data s) : b0.Data (doJtagIdcode s) := by
  unfold doJtagIdcode
  repeat' (first | with_reducible assumption | with_reducible apply State.answer_data | with_reducible apply State.Data.ite | split | ((with_reducible conv => arg 2; whnf); split) | with_reducible apply State.Data.mk_ | intro _)

theorem execJtagIdcode_data (b0 : State) (s : State) (h0 : b0.Data s) : b0.DataOut (execJtagIdcode s) := by
  unfold execJtagIdcode
  repeat' (first | with_reducible assumption | with_reducible apply doJtagIdcode_data | with_reducible apply State.Data.next | intro _)

theorem doJtagBypass_data (b0 : State) (s : State) (h0 : b0.Data s) : b0.Data (doJtagBypass s) := by
  unfold doJtagBypass
  repeat' (first | with_reducible assumption | with_reducible apply State.Data.mk_ | intro _)

theorem execJtagBypass_data (b0 : State) (s : State) (h0 : b0.Data s) : b0.DataOut (execJtagBypass s) := by
  unfold execJtagBypass
  repeat' (first | with_reducible assumption | with_reducible apply doJtagBypass_data | with_reducible apply State.Data.next | intro _)

theorem doJtagSamplePreload_data (b0 : State) (data : Nat) (s : State) (h0 : b0.Data s) : b0.Data (doJtagSamplePreload data s) := by
  unfold doJtagSamplePreload
  repeat' (first | with_reducible assumption | with_reducible apply State.freshNat_data | with_reducible apply State.answer_data | with_reducible apply doJtagBypass_data | with_reducible apply State.Data.ite | with_reducible apply State.Data.ite2 | with_reducible apply State.Data.ite22 | with_reducible apply State.Data.ite222 | with_reducible apply State.Data.ite1 | with_reducible apply State.Data.ite21 | split | ((with_reducible conv => arg 2; whnf); split) | ((with_reducible conv => arg 2; arg 1; whnf); split) | ((with_reducible conv => arg 2; arg 1; arg 1; whnf); split) | with_reducible apply State.Data.mk_ | intro _)

theorem execJtagSamplePreload_data (b0 : State) (data : Nat) (s : State) (h0 : b0.Data s) : b0.DataOut (execJtagSamplePreload data s) := by
  unfold execJtagSamplePreload
  repeat' (first | with_reducible assumption | with_reducible apply doJtagSamplePreload_data | with_reducible apply State.Data.next | intro _)

theorem doJtagExtest_data (b0 : State) (s : State) (h0 : b0.Data s) : b0.Data (doJtagExtest s) := by
  unfold doJtagExtest
  repeat' (first | with_reducible assumption | with_reducible apply doJtagBypass_data | with_reducible apply State.Data.ite | split | ((with_reducible conv => arg 2; whnf); split) | with_reducible apply State.Data.mk_ | intro _)

theorem execJtagExtest_data (b0 : State) (s : State) (h0 : b0.Data s) : b0.DataOut (execJtagExtest s) := by
  unfold execJtagExtest
  repeat' (first | with_reducible assumption | with_reducible apply doJtagExtest_data | with_reducible apply State.Data.next | intro _)

end Sys2Proof.Machine
end

