-- ==== Sys2Proof/Laws/Store.lean ====
section
/-! SUPPORT. Sparse stores: read after write, and the canonical form that a write and a removal keep. -/
namespace Sys2Proof

theorem Assoc.get_drop {α : Type} (m : Assoc α) (k : Nat) (d : α) : (Assoc.drop m k).get k d = d := by
  induction m with
  | nil => rfl
  | cons x r ih =>
    by_cases h : x.1 = k
    · simpa [Assoc.drop, h] using ih
    · simpa [Assoc.drop, Assoc.get, h] using ih

theorem Assoc.get_drop_ne {α : Type} (m : Assoc α) (k j : Nat) (d : α) (h : j ≠ k) : (Assoc.drop m k).get j d = m.get j d := by
  induction m with
  | nil => rfl
  | cons x r ih =>
    by_cases hx : x.1 = k
    · have hj : x.1 ≠ j := fun e => h (e.symm.trans hx)
      have hd : Assoc.drop (x :: r) k = Assoc.drop r k := by simp [Assoc.drop, hx]
      rw [hd, ih]
      simp [Assoc.get, hj]
    · have hd : Assoc.drop (x :: r) k = x :: Assoc.drop r k := by simp [Assoc.drop, hx]
      rw [hd]
      simp only [Assoc.get, ih]

theorem Assoc.get_add {α : Type} (m : Assoc α) (k : Nat) (v d : α) (hm : ∀ x ∈ m, x.1 ≠ k) : (Assoc.add m k v).get k d = v := by
  induction m with
  | nil => simp [Assoc.add, Assoc.get]
  | cons x r ih =>
    have hx := hm x List.mem_cons_self
    by_cases h : k < x.1
    · simp [Assoc.add, Assoc.get, h]
    · simpa [Assoc.add, Assoc.get, h, hx] using ih (fun y hy => hm y (List.mem_cons_of_mem x hy))

theorem Assoc.get_add_ne {α : Type} (m : Assoc α) (k j : Nat) (v d : α) (h : j ≠ k) : (Assoc.add m k v).get j d = m.get j d := by
  induction m with
  | nil => simp [Assoc.add, Assoc.get, Ne.symm h]
  | cons x r ih =>
    by_cases hk : k < x.1
    · simp [Assoc.add, Assoc.get, hk, Ne.symm h]
    · simp [Assoc.add, Assoc.get, hk, ih]

theorem Assoc.mem_drop {α : Type} (m : Assoc α) (k : Nat) : ∀ x ∈ Assoc.drop m k, x.1 ≠ k := by
  intro x hx
  simpa using (List.mem_filter.mp hx).2

variable {α : Type} [DecidableEq α]

/-- A key reads the value written to it. -/
theorem Assoc.get_put (m : Assoc α) (k : Nat) (v d : α) : (m.put k v d).get k d = v := by
  unfold Assoc.put
  split
  · next h => rw [h]; exact Assoc.get_drop m k d
  · exact Assoc.get_add _ k v d (Assoc.mem_drop m k)

/-- A write leaves every other key. -/
theorem Assoc.get_put_ne (m : Assoc α) (k j : Nat) (v d e : α) (h : j ≠ k) : (m.put k v d).get j e = m.get j e := by
  unfold Assoc.put
  split
  · exact Assoc.get_drop_ne m k j e h
  · exact (Assoc.get_add_ne _ k j v e h).trans (Assoc.get_drop_ne m k j e h)

/-! The canonical form. -/

theorem Assoc.wfFrom_mono (d : Nat → α) (lo lo' : Nat) (h : lo' ≤ lo) (m : Assoc α) (hm : Assoc.wfFrom d lo m = true) :
    Assoc.wfFrom d lo' m = true := by
  cases m with
  | nil => rfl
  | cons x r =>
    simp only [Assoc.wfFrom, Bool.and_eq_true, decide_eq_true_eq] at hm ⊢
    exact ⟨⟨Nat.le_trans h hm.1.1, hm.1.2⟩, hm.2⟩

theorem Assoc.wfFrom_filter (d e : Nat → α) (p : Nat × α → Bool) (hp : ∀ x, p x = true → e x.1 = d x.1) (m : Assoc α) (lo : Nat)
    (hm : Assoc.wfFrom d lo m = true) : Assoc.wfFrom e lo (m.filter p) = true := by
  induction m generalizing lo with
  | nil => rfl
  | cons x r ih =>
    simp only [Assoc.wfFrom, Bool.and_eq_true, decide_eq_true_eq] at hm
    by_cases h : p x = true
    · simp only [List.filter_cons, h, if_true, Assoc.wfFrom, Bool.and_eq_true, decide_eq_true_eq, hp x h]
      exact ⟨hm.1, ih _ hm.2⟩
    · simp only [List.filter_cons, h, Bool.false_eq_true, if_false]
      exact Assoc.wfFrom_mono e (x.1 + 1) lo (by omega) _ (ih _ hm.2)

/-- Removing pairs keeps the canonical form, for a default that agrees on the keys kept. -/
theorem Assoc.wf_filter (d e : Nat → α) (p : Nat × α → Bool) (hp : ∀ x, p x = true → e x.1 = d x.1) (m : Assoc α) (hm : m.wf d = true) :
    Assoc.wf e (m.filter p) = true :=
  Assoc.wfFrom_filter d e p hp m 0 hm

theorem Assoc.wfFrom_add (D : Nat → α) (m : Assoc α) (lo k : Nat) (v : α) (hm : Assoc.wfFrom D lo m = true) (hn : ∀ x ∈ m, x.1 ≠ k)
    (hk : lo ≤ k) (hv : v ≠ D k) : Assoc.wfFrom D lo (Assoc.add m k v) = true := by
  induction m generalizing lo with
  | nil => simp [Assoc.add, Assoc.wfFrom, hv, hk]
  | cons x r ih =>
    simp only [Assoc.wfFrom, Bool.and_eq_true, decide_eq_true_eq] at hm
    have hx := hn x List.mem_cons_self
    by_cases h : k < x.1
    · simp only [Assoc.add, h, if_true, Assoc.wfFrom, Bool.and_eq_true, decide_eq_true_eq]
      exact ⟨⟨hk, hv⟩, ⟨by omega, hm.1.2⟩, hm.2⟩
    · simp only [Assoc.add, h, if_false, Assoc.wfFrom, Bool.and_eq_true, decide_eq_true_eq]
      exact ⟨hm.1, ih (x.1 + 1) hm.2 (fun y hy => hn y (List.mem_cons_of_mem x hy)) (by omega)⟩

/-- A write keeps the canonical form. -/
theorem Assoc.wf_put (D : Nat → α) (m : Assoc α) (k : Nat) (v : α) (hm : m.wf D = true) : (m.put k v (D k)).wf D = true := by
  have hd : Assoc.wfFrom D 0 (Assoc.drop m k) = true := Assoc.wfFrom_filter D D _ (fun _ _ => rfl) m 0 hm
  unfold Assoc.put
  split
  · exact hd
  · next h => exact Assoc.wfFrom_add D _ 0 k v hd (Assoc.mem_drop m k) (Nat.zero_le k) h

/-! Rising keys. -/

theorem Assoc.sortedFrom_mono {β : Type} (lo lo' : Nat) (h : lo' ≤ lo) (m : Assoc β) (hm : Assoc.sortedFrom lo m = true) :
    Assoc.sortedFrom lo' m = true := by
  cases m with
  | nil => rfl
  | cons x r =>
    simp only [Assoc.sortedFrom, Bool.and_eq_true, decide_eq_true_eq] at hm ⊢
    exact ⟨Nat.le_trans h hm.1, hm.2⟩

theorem Assoc.sortedFrom_filter {β : Type} (p : Nat × β → Bool) (m : Assoc β) (lo : Nat) (hm : Assoc.sortedFrom lo m = true) :
    Assoc.sortedFrom lo (m.filter p) = true := by
  induction m generalizing lo with
  | nil => rfl
  | cons x r ih =>
    simp only [Assoc.sortedFrom, Bool.and_eq_true, decide_eq_true_eq] at hm
    by_cases h : p x = true
    · simp only [List.filter_cons, h, if_true, Assoc.sortedFrom, Bool.and_eq_true, decide_eq_true_eq]
      exact ⟨hm.1, ih _ hm.2⟩
    · simp only [List.filter_cons, h, Bool.false_eq_true, if_false]
      exact Assoc.sortedFrom_mono (x.1 + 1) lo (by omega) _ (ih _ hm.2)

theorem Assoc.sortedFrom_add {β : Type} (m : Assoc β) (lo k : Nat) (v : β) (hm : Assoc.sortedFrom lo m = true) (hn : ∀ x ∈ m, x.1 ≠ k)
    (hk : lo ≤ k) : Assoc.sortedFrom lo (Assoc.add m k v) = true := by
  induction m generalizing lo with
  | nil => simp [Assoc.add, Assoc.sortedFrom, hk]
  | cons x r ih =>
    simp only [Assoc.sortedFrom, Bool.and_eq_true, decide_eq_true_eq] at hm
    have hx := hn x List.mem_cons_self
    by_cases h : k < x.1
    · simp only [Assoc.add, h, if_true, Assoc.sortedFrom, Bool.and_eq_true, decide_eq_true_eq]
      exact ⟨hk, by omega, hm.2⟩
    · simp only [Assoc.add, h, if_false, Assoc.sortedFrom, Bool.and_eq_true, decide_eq_true_eq]
      exact ⟨hm.1, ih (x.1 + 1) hm.2 (fun y hy => hn y (List.mem_cons_of_mem x hy)) (by omega)⟩

/-- A write keeps keys rising. -/
theorem Assoc.sorted_put (m : Assoc α) (k : Nat) (v d : α) (hm : m.sorted = true) : (m.put k v d).sorted = true := by
  have hd : Assoc.sortedFrom 0 (Assoc.drop m k) = true := Assoc.sortedFrom_filter _ m 0 hm
  unfold Assoc.put
  split
  · exact hd
  · exact Assoc.sortedFrom_add _ 0 k v hd (Assoc.mem_drop m k) (Nat.zero_le k)

end Sys2Proof
end

