-- ==== Sys2Proof/Laws/Memory.lean ====
section
/-! SUPPORT. Device memory and register fields: what a write does to every byte and field, and the canonical forms that every memory operation keeps. -/
namespace Sys2Proof.Machine

/-! Register fields. -/

/-- A field reads the low bits of what was written to it. -/
@[simp] theorem State.getF_setF (s : State) (f : Fld) (v : Nat) : (s.setF f v).getF f = v % 2 ^ f.width := Assoc.get_put _ _ _ _

/-- A write of one field leaves every field of another key. -/
theorem State.getF_setF_ne (s : State) (f g : Fld) (v : Nat) (hk : g.key ≠ f.key) : (s.setF f v).getF g = s.getF g :=
  Assoc.get_put_ne _ _ _ _ _ _ hk

theorem State.getF_setFs_ne (g : Fld) (l : List (Fld × Nat)) (s : State) (hk : ∀ x ∈ l, g.key ≠ x.1.key) : (s.setFs l).getF g = s.getF g := by
  induction l generalizing s with
  | nil => rfl
  | cons x r ih =>
    have h1 := ih (s.setF x.1 x.2) (fun y hy => hk y (List.mem_cons_of_mem x hy))
    exact h1.trans (s.getF_setF_ne x.1 g x.2 (hk x List.mem_cons_self))

@[simp] theorem State.frameState_setFrameState (s : State) (p st : Nat) : (s.setFrameState p st).frameState p = st % 8 := State.getF_setF _ _ _

/-- The register store's keys rise. -/
theorem State.setF_sorted (s : State) (f : Fld) (v : Nat) (h : Assoc.sorted s.fld = true) : Assoc.sorted (s.setF f v).fld = true :=
  Assoc.sorted_put _ _ _ _ h

theorem State.setFs_sorted (l : List (Fld × Nat)) (s : State) (h : Assoc.sorted s.fld = true) : Assoc.sorted (s.setFs l).fld = true := by
  induction l generalizing s with
  | nil => exact h
  | cons x r ih => exact ih (s.setF x.1 x.2) (s.setF_sorted x.1 x.2 h)

/-! Device memory. -/

/-- A byte reads what was written to it. -/
@[simp] theorem State.memByte_setByte (s : State) (a : Nat) (b : Byte) : (s.setByte a b).memByte a = b := Assoc.get_put _ _ _ _

/-- A byte write leaves every other byte. -/
theorem State.memByte_setByte_ne (s : State) (a k : Nat) (b : Byte) (hk : k ≠ a) : (s.setByte a b).memByte k = s.memByte k :=
  Assoc.get_put_ne _ _ _ _ _ _ hk

/-- Bytes outside a write are as before. -/
theorem State.memByte_writeMem_out (b : List Byte) (s : State) (a k : Nat) (hk : k < a ∨ a + b.length ≤ k) : (s.writeMem a b).memByte k = s.memByte k := by
  induction b generalizing s a with
  | nil => rfl
  | cons x r ih =>
    have hl : (x :: r).length = r.length + 1 := rfl
    exact (ih (s.setByte a x) (a + 1) (by omega)).trans (s.memByte_setByte_ne a k x (by omega))

/-- Bytes inside a write read what was written. -/
theorem State.memByte_writeMem_in (b : List Byte) (s : State) (a i : Nat) (hi : i < b.length) : (s.writeMem a b).memByte (a + i) = b[i] := by
  induction b generalizing s a i with
  | nil => simp at hi
  | cons x r ih =>
    cases i with
    | zero => exact (State.memByte_writeMem_out r (s.setByte a x) (a + 1) a (by omega)).trans (s.memByte_setByte a x)
    | succ j =>
      have h1 := ih (s.setByte a x) (a + 1) j (by simpa using hi)
      have h2 : a + (j + 1) = a + 1 + j := by omega
      rw [h2]
      exact h1

@[simp] theorem State.eccWrite_mem (s : State) (a n : Nat) : (s.eccWrite a n).mem = s.mem := rfl
@[simp] theorem State.eccWrite_undef (s : State) (a n : Nat) : (s.eccWrite a n).undef = s.undef := rfl
@[simp] theorem State.eccWrite_fld (s : State) (a n : Nat) : (s.eccWrite a n).fld = s.fld := rfl

/-- A data write puts its bytes and leaves every other byte. -/
theorem State.store_spec (s : State) (a : Nat) (b : List Byte) :
    (∀ i (hi : i < b.length), (s.store a b).memByte (a + i) = b[i]) ∧ (∀ k, k < a ∨ a + b.length ≤ k → (s.store a b).memByte k = s.memByte k) :=
  ⟨fun i hi => State.memByte_writeMem_in b s a i hi, fun k hk => State.memByte_writeMem_out b s a k hk⟩

/-- Writing one byte keeps the canonical form. -/
theorem State.setByte_wf (s : State) (a : Nat) (b : Byte) (h : Memory.wf s = true) : Memory.wf (s.setByte a b) = true :=
  Assoc.wf_put s.memDflt s.mem a b h

theorem State.writeMem_wf (b : List Byte) (s : State) (a : Nat) (h : Memory.wf s = true) : Memory.wf (s.writeMem a b) = true := by
  induction b generalizing s a with
  | nil => exact h
  | cons x r ih => exact ih (s.setByte a x) (a + 1) (s.setByte_wf a x h)

/-- A data write keeps the canonical form. -/
theorem State.store_wf (s : State) (a : Nat) (b : List Byte) (h : Memory.wf s = true) : Memory.wf (s.store a b) = true := State.writeMem_wf b s a h

/-- Losing a memory keeps the canonical form. -/
theorem State.loseMem_wf (s : State) (r : Nat) (h : Memory.wf s = true) : Memory.wf (s.loseMem r) = true := by
  refine Assoc.wf_filter s.memDflt _ _ ?_ s.mem h
  intro x hx
  have hne : memRegion x.1 ≠ some r := by simpa using hx
  have he : (s.loseMem r).epoch x.1 = s.epoch x.1 := by
    unfold State.epoch State.loseMem
    cases hm : memRegion x.1 with
    | none => rfl
    | some q =>
      show (Assoc.put s.undef r (Assoc.get s.undef r 0 + 1) 0).get q 0 = s.undef.get q 0
      exact Assoc.get_put_ne s.undef r q _ 0 0 (fun e => hne (by rw [hm, e]))
  show (s.loseMem r).memDflt x.1 = s.memDflt x.1
  unfold State.memDflt
  rw [he]

/-- Filling a window with zeros keeps the canonical form. -/
theorem State.zeroFill_wf (s : State) (a n : Nat) (h : Memory.wf s = true) : Memory.wf (s.zeroFill a n) = true :=
  Assoc.wf_filter s.memDflt _ _ (fun _ _ => rfl) s.mem h

end Sys2Proof.Machine
end

