-- ==== Sys2Proof/Laws/Keeps.lean ====
section
/-! SUPPORT. What the operations of the model keep: one relation between the states before and after, with the rules that build it. -/
namespace Sys2Proof.Machine

set_option linter.all false
set_option Elab.async false

/-- The queue and the part stay, an owner key stays burnt, and a sound state stays sound. -/
structure State.Keeps (s t : State) : Prop where
  pending : t.pending = s.pending
  grade : t.fused.grade = s.fused.grade
  stepping : t.fused.stepping = s.fused.stepping
  owner : ∀ o, s.fused.owner = some o → t.fused.owner = some o
  inv : s.Inv → t.Inv

/-- A command completes in a state that keeps these. -/
def State.KeepsOut (s : State) (o : Host.Outcome State Fault Refusal) : Prop := ∃ t, o = .next t ∧ s.Keeps t

theorem State.Keeps.same (s : State) : s.Keeps s := ⟨rfl, rfl, rfl, fun _ h => h, fun h => h⟩

theorem State.Keeps.trans {s t u : State} (h : s.Keeps t) (k : t.Keeps u) : s.Keeps u :=
  ⟨k.pending.trans h.pending, k.grade.trans h.grade, k.stepping.trans h.stepping, fun o e => k.owner o (h.owner o e), fun e => k.inv (h.inv e)⟩

theorem State.Keeps.next {s t : State} (h : s.Keeps t) : s.KeepsOut (.next t) := ⟨t, rfl, h⟩

theorem State.Keeps.ite {s a b : State} {c : Prop} [Decidable c] (ha : s.Keeps a) (hb : s.Keeps b) : s.Keeps (if c then a else b) := by
  split <;> assumption

theorem State.Keeps.ite2 {β : Type} {s : State} {a b : β × State} {c : Prop} [Decidable c] (ha : s.Keeps a.2) (hb : s.Keeps b.2) :
    s.Keeps (if c then a else b).2 := by
  split <;> assumption

theorem State.Keeps.ite22 {β γ : Type} {s : State} {a b : β × γ × State} {c : Prop} [Decidable c] (ha : s.Keeps a.2.2) (hb : s.Keeps b.2.2) :
    s.Keeps (if c then a else b).2.2 := by
  split <;> assumption

theorem State.Keeps.ite222 {β γ δ : Type} {s : State} {a b : β × γ × δ × State} {c : Prop} [Decidable c] (ha : s.Keeps a.2.2.2) (hb : s.Keeps b.2.2.2) :
    s.Keeps (if c then a else b).2.2.2 := by
  split <;> assumption

theorem State.Keeps.ite1 {β : Type} {s : State} {a b : State × β} {c : Prop} [Decidable c] (ha : s.Keeps a.1) (hb : s.Keeps b.1) :
    s.Keeps (if c then a else b).1 := by
  split <;> assumption

theorem State.Keeps.ite21 {β γ : Type} {s : State} {a b : β × State × γ} {c : Prop} [Decidable c] (ha : s.Keeps a.2.1) (hb : s.Keeps b.2.1) :
    s.Keeps (if c then a else b).2.1 := by
  split <;> assumption

theorem State.Keeps.foldl {α : Type} {s : State} {f : State → α → State} {l : List α} {t : State} (h : s.Keeps t)
    (hf : ∀ u x, s.Keeps u → s.Keeps (f u x)) : s.Keeps (l.foldl f t) := by
  induction l generalizing t with
  | nil => exact h
  | cons x r ih => exact ih (hf t x h)

theorem State.Keeps.foldl2 {α β : Type} {s : State} {f : β × State → α → β × State} {l : List α} {t : β × State} (h : s.Keeps t.2)
    (hf : ∀ u x, s.Keeps u.2 → s.Keeps (f u x).2) : s.Keeps (l.foldl f t).2 := by
  induction l generalizing t with
  | nil => exact h
  | cons x r ih => exact ih (hf t x h)

theorem State.Keeps.foldl22 {α β γ : Type} {s : State} {f : β × γ × State → α → β × γ × State} {l : List α} {t : β × γ × State} (h : s.Keeps t.2.2)
    (hf : ∀ u x, s.Keeps u.2.2 → s.Keeps (f u x).2.2) : s.Keeps (l.foldl f t).2.2 := by
  induction l generalizing t with
  | nil => exact h
  | cons x r ih => exact ih (hf t x h)

theorem State.Keeps.foldl222 {α β γ δ : Type} {s : State} {f : β × γ × δ × State → α → β × γ × δ × State} {l : List α} {t : β × γ × δ × State}
    (h : s.Keeps t.2.2.2) (hf : ∀ u x, s.Keeps u.2.2.2 → s.Keeps (f u x).2.2.2) : s.Keeps (l.foldl f t).2.2.2 := by
  induction l generalizing t with
  | nil => exact h
  | cons x r ih => exact ih (hf t x h)

theorem State.Keeps.foldl1 {α β : Type} {s : State} {f : State × β → α → State × β} {l : List α} {t : State × β} (h : s.Keeps t.1)
    (hf : ∀ u x, s.Keeps u.1 → s.Keeps (f u x).1) : s.Keeps (l.foldl f t).1 := by
  induction l generalizing t with
  | nil => exact h
  | cons x r ih => exact ih (hf t x h)

theorem State.Keeps.elim {α : Type} {s t : State} {o : Option α} {f : α → State} (h : s.Keeps t) (hf : ∀ x, s.Keeps (f x)) : s.Keeps (o.elim t f) := by
  cases o with
  | none => exact h
  | some x => exact hf x

theorem State.Keeps.pair2 {β : Type} {s t : State} {a : β} (h : s.Keeps t) : s.Keeps (a, t).2 := h

theorem State.Keeps.pair22 {β γ : Type} {s t : State} {a : β} {b : γ} (h : s.Keeps t) : s.Keeps (a, b, t).2.2 := h

theorem State.Keeps.pair222 {β γ δ : Type} {s t : State} {a : β} {b : γ} {c : δ} (h : s.Keeps t) : s.Keeps (a, b, c, t).2.2.2 := h

theorem State.Keeps.eq2 {β : Type} {s t : State} {a : β} {x : β × State} (e : x = (a, t)) (h : s.Keeps x.2) : s.Keeps t := by
  rw [e] at h
  exact h

theorem State.Keeps.eq22 {β γ : Type} {s t : State} {a : β} {b : γ} {x : β × γ × State} (e : x = (a, b, t)) (h : s.Keeps x.2.2) : s.Keeps t := by
  rw [e] at h
  exact h

theorem State.Keeps.eq222 {β γ δ : Type} {s t : State} {a : β} {b : γ} {c : δ} {x : β × γ × δ × State} (e : x = (a, b, c, t)) (h : s.Keeps x.2.2.2) : s.Keeps t := by
  rw [e] at h
  exact h

theorem State.Keeps.eq1 {β : Type} {s t : State} {a : β} {x : State × β} (e : x = (t, a)) (h : s.Keeps x.1) : s.Keeps t := by
  rw [e] at h
  exact h

/-- A change of any other part of the state. -/
theorem State.Keeps.mk_ {s t : State} {clk : Clock} {defer : List (Nat × Nat × Nat)} {ecc : Assoc Nat} {poison : List PArea} {acf : Assoc Nat} {acfEcc : Assoc Nat} {a0 : ADie} {a1 : ADie} {a2 : ADie} {a3 : ADie} {p0 : Part} {p1 : Part} {p2 : Part} {p3 : Part} {owner : List Nat} {dark : List DarkRun} {reports : List Report} {jqueue : List Report} {journal : List (Nat × JEntry)} {bringIn : List BringIn} {spareBad : List (Nat × Nat × Nat × Nat)} {hbmWait : List HbmWait} {rowMap : Assoc Nat} {colMap : Assoc Nat} {th : Thermal} {fab : Fab} {coll : Coll} {nicOwner : List Nat} {sve : Seq} {sveJob : Option SveJob} {cor : Seq} {ccache : List CacheLine} {pmc : Seq} {mig : Option MigJob} {cfg : List PartCfg} {csm : List (Nat × List Byte)} {csArm : Option (Option Nat)} {tbTries : List Nat} {boot : Boot} {dr : Dr} {lsc : Lsc} {tap : Tap} {svc : Svc} {out : Out} {free : Nat} {w1c : List (Nat × Nat × Nat)} {hist : List MemW} {acfHist : List AcfW} {fails : List Fail} {fdieWait : Bool} {pdieCool : Option Nat}
    (h : s.Keeps t) :
    s.Keeps (State.mk t.pending clk t.fused t.fld defer t.mem t.undef ecc poison acf acfEcc a0 a1 a2 a3 p0 p1 p2 p3 owner dark reports jqueue journal bringIn spareBad hbmWait rowMap colMap th fab coll nicOwner sve sveJob cor t.cores ccache pmc mig cfg t.ckpt csm csArm tbTries boot dr lsc tap svc t.nvm out free w1c hist acfHist fails fdieWait pdieCool) := ⟨h.pending, h.grade, h.stepping, h.owner, fun e => ⟨(h.inv e).mem, (h.inv e).fld, (h.inv e).nvm, (h.inv e).cores, (h.inv e).ckpt⟩⟩

/-- A change of cores that keeps their number. -/
theorem State.Keeps.cores {s t : State} (h : s.Keeps t) (l : List Core) (hl : l.length = t.cores.length) : s.Keeps { t with cores := l } :=
  ⟨h.pending, h.grade, h.stepping, h.owner, fun e => ⟨(h.inv e).mem, (h.inv e).fld, (h.inv e).nvm, hl.trans (h.inv e).cores, (h.inv e).ckpt⟩⟩

/-- A change of the boot NVM that keeps its canonical form. -/
theorem State.Keeps.nvm {s t : State} (h : s.Keeps t) (l : List Host.Cell)
    (hl : Assoc.wf (fun _ => (0xFF : Byte)) t.nvm = true → Assoc.wf (fun _ => (0xFF : Byte)) l = true) : s.Keeps { t with nvm := l } :=
  ⟨h.pending, h.grade, h.stepping, h.owner, fun e => ⟨(h.inv e).mem, (h.inv e).fld, hl (h.inv e).nvm, (h.inv e).cores, (h.inv e).ckpt⟩⟩

/-- A change of the fuses that keeps the part and an owner key. -/
theorem State.Keeps.fuses {s t : State} (h : s.Keeps t) (f : Fused) (h1 : f.grade = t.fused.grade) (h2 : f.stepping = t.fused.stepping)
    (h3 : ∀ o, t.fused.owner = some o → f.owner = some o) : s.Keeps { t with fused := f } :=
  ⟨h.pending, h1.trans h.grade, h2.trans h.stepping, fun o e => h3 o (h.owner o e),
    fun e => ⟨(h.inv e).mem, (h.inv e).fld, (h.inv e).nvm, (h.inv e).cores, (h.inv e).ckpt⟩⟩

end Sys2Proof.Machine
end

