-- ==== Sys2Proof/Laws/KeepsOps.lean ====
section
/-! SUPPORT. What every operation of Machine/Ops.lean keeps: the queue, the part, and the canonical forms. -/
namespace Sys2Proof.Machine

set_option linter.all false
set_option Elab.async false

theorem State.setDie_keeps (b0 : State) (s : State) (n : Nat) (d : ADie) (h0 : b0.Keeps s) : b0.Keeps (State.setDie s n d) := by
  unfold State.setDie
  repeat' (first | with_reducible assumption | intro _ | split | with_reducible apply State.Keeps.mk_)

theorem State.updDie_keeps (b0 : State) (s : State) (n : Nat) (f : ADie → ADie) (h0 : b0.Keeps s) : b0.Keeps (State.updDie s n f) := by
  unfold State.updDie
  repeat' (first | with_reducible assumption | with_reducible apply State.setDie_keeps)

theorem State.setPart_keeps (b0 : State) (s : State) (p : Nat) (x : Part) (h0 : b0.Keeps s) : b0.Keeps (State.setPart s p x) := by
  unfold State.setPart
  repeat' (first | with_reducible assumption | intro _ | split | with_reducible apply State.Keeps.mk_)

theorem State.updPart_keeps (b0 : State) (s : State) (p : Nat) (f : Part → Part) (h0 : b0.Keeps s) : b0.Keeps (State.updPart s p f) := by
  unfold State.updPart
  repeat' (first | with_reducible assumption | with_reducible apply State.setPart_keeps)

theorem State.setF_keeps (b0 : State) (s : State) (f : Fld) (v : Nat) (h0 : b0.Keeps s) : b0.Keeps (s.setF f v) :=
  ⟨h0.pending, h0.grade, h0.stepping, h0.owner, fun e => ⟨(h0.inv e).mem, s.setF_sorted f v (h0.inv e).fld, (h0.inv e).nvm, (h0.inv e).cores, (h0.inv e).ckpt⟩⟩

theorem State.setFs_keeps (b0 : State) (s : State) (l : List (Fld × Nat)) (h0 : b0.Keeps s) : b0.Keeps (State.setFs s l) := by
  unfold State.setFs
  repeat' (first | with_reducible assumption | with_reducible apply State.setF_keeps | with_reducible apply State.Keeps.foldl | with_reducible apply State.Keeps.foldl2 | with_reducible apply State.Keeps.foldl1 | intro _ | split)

theorem State.hwSet_keeps (b0 : State) (s : State) (f : Fld) (m : Nat) (h0 : b0.Keeps s) : b0.Keeps (State.hwSet s f m) := by
  unfold State.hwSet
  repeat' (first | with_reducible assumption | intro _ _ _ | intro _ | with_reducible apply State.setF_keeps | split | ((with_reducible conv => arg 2; whnf); split) | ((with_reducible conv => arg 2; arg 1; whnf); split) | ((with_reducible conv => arg 2; arg 1; arg 1; whnf); split) | with_reducible apply State.Keeps.mk_)

theorem State.clearBits_keeps (b0 : State) (s : State) (f : Fld) (m : Nat) (h0 : b0.Keeps s) : b0.Keeps (State.clearBits s f m) := by
  unfold State.clearBits
  repeat' (first | with_reducible assumption | intro _ _ _ | intro _ | with_reducible apply State.setF_keeps | split | ((with_reducible conv => arg 2; whnf); split) | ((with_reducible conv => arg 2; arg 1; whnf); split) | ((with_reducible conv => arg 2; arg 1; arg 1; whnf); split) | with_reducible apply State.Keeps.mk_)

theorem State.hwSets_keeps (b0 : State) (s : State) (l : List (Fld × Nat)) (h0 : b0.Keeps s) : b0.Keeps (State.hwSets s l) := by
  unfold State.hwSets
  repeat' (first | with_reducible assumption | intro _ _ _ | intro _ | with_reducible apply State.setFs_keeps | split | ((with_reducible conv => arg 2; whnf); split) | ((with_reducible conv => arg 2; arg 1; whnf); split) | ((with_reducible conv => arg 2; arg 1; arg 1; whnf); split) | with_reducible apply State.Keeps.mk_)

theorem State.satF_keeps (b0 : State) (s : State) (f : Fld) (n : Nat) (h0 : b0.Keeps s) : b0.Keeps (State.satF s f n) := by
  unfold State.satF
  repeat' (first | with_reducible assumption | with_reducible apply State.setF_keeps)

theorem State.bar2_keeps (b0 : State) (s : State) (p : Nat) (f : State → State) (h0 : b0.Keeps s) (hf : ∀ u, b0.Keeps u → b0.Keeps (f u)) : b0.Keeps (State.bar2 s p f) := by
  unfold State.bar2
  split
  · exact hf _ h0
  · exact State.satF_keeps _ _ _ _ h0

theorem State.count_keeps (b0 : State) (s : State) (e i n : Nat) (h0 : b0.Keeps s) : b0.Keeps (State.count s e i n) := by
  unfold State.count
  repeat' (first | with_reducible assumption | with_reducible apply State.satF_keeps)

theorem State.freshNat_keeps (b0 : State) (s : State) (h0 : b0.Keeps s) : b0.Keeps (State.freshNat s).2 := by
  unfold State.freshNat
  repeat' (first | with_reducible assumption | with_reducible apply State.Keeps.mk_)

theorem State.freshBytes_keeps (b0 : State) (s : State) (n : Nat) (h0 : b0.Keeps s) : b0.Keeps (State.freshBytes s n).2 := by
  unfold State.freshBytes
  repeat' (first | with_reducible assumption | intro _ | split | with_reducible apply State.Keeps.mk_)

theorem State.advanceNs_keeps (b0 : State) (s : State) (d : Nat) (h0 : b0.Keeps s) : b0.Keeps (State.advanceNs s d) := by
  unfold State.advanceNs
  repeat' (first | with_reducible assumption | with_reducible apply State.Keeps.mk_)

theorem State.advanceCyc_keeps (b0 : State) (s : State) (n : Nat) (h0 : b0.Keeps s) : b0.Keeps (State.advanceCyc s n) := by
  unfold State.advanceCyc
  repeat' (first | with_reducible assumption | with_reducible apply State.Keeps.ite | intro _ | split | with_reducible apply State.Keeps.mk_)

theorem State.toCyc_keeps (b0 : State) (s : State) (p c : Nat) (h0 : b0.Keeps s) : b0.Keeps (State.toCyc s p c) := by
  unfold State.toCyc
  repeat' (first | with_reducible assumption | with_reducible apply State.advanceCyc_keeps)

theorem State.toNs_keeps (b0 : State) (s : State) (t : Nat) (h0 : b0.Keeps s) : b0.Keeps (State.toNs s t) := by
  unfold State.toNs
  repeat' (first | with_reducible assumption | with_reducible apply State.advanceNs_keeps)

theorem State.setFrameState_keeps (b0 : State) (s : State) (p st : Nat) (h0 : b0.Keeps s) : b0.Keeps (State.setFrameState s p st) := by
  unfold State.setFrameState
  repeat' (first | with_reducible assumption | with_reducible apply State.setF_keeps)

theorem State.showPending_keeps (b0 : State) (s : State) (p : Nat) (h0 : b0.Keeps s) : b0.Keeps (State.showPending s p) := by
  unfold State.showPending
  repeat' (first | with_reducible assumption | intro _ _ _ | intro _ | with_reducible apply State.setF_keeps | with_reducible apply State.Keeps.mk_)

theorem State.stopFrame_keeps (b0 : State) (s : State) (p : Nat) (h0 : b0.Keeps s) : b0.Keeps (State.stopFrame s p) := by
  unfold State.stopFrame
  repeat' (first | with_reducible assumption | intro _ _ _ | intro _ | with_reducible apply State.updPart_keeps | with_reducible apply State.setFrameState_keeps | with_reducible apply State.showPending_keeps | split | ((with_reducible conv => arg 2; whnf); split) | ((with_reducible conv => arg 2; arg 1; whnf); split) | ((with_reducible conv => arg 2; arg 1; arg 1; whnf); split) | with_reducible apply State.Keeps.mk_)

theorem State.raiseC_keeps (b0 : State) (s : State) (cls code die unit loc kind value : Nat) (addrForm : Bool) (h0 : b0.Keeps s) : b0.Keeps (State.raiseC s cls code die unit loc kind value addrForm) := by
  unfold State.raiseC
  repeat' (first | with_reducible assumption | with_reducible apply State.Keeps.mk_)

theorem State.raise_keeps (b0 : State) (s : State) (code die unit loc kind value : Nat) (h0 : b0.Keeps s) : b0.Keeps (State.raise s code die unit loc kind value) := by
  unfold State.raise
  repeat' (first | with_reducible assumption | with_reducible apply State.raiseC_keeps)

theorem State.raiseP_keeps (b0 : State) (s : State) (p code loc kind value : Nat) (h0 : b0.Keeps s) : b0.Keeps (State.raiseP s p code loc kind value) := by
  unfold State.raiseP
  repeat' (first | with_reducible assumption | with_reducible apply State.Keeps.mk_)

theorem State.setByte_keeps (b0 : State) (s : State) (a : Nat) (b : Byte) (h0 : b0.Keeps s) : b0.Keeps (s.setByte a b) :=
  ⟨h0.pending, h0.grade, h0.stepping, h0.owner, fun e => ⟨s.setByte_wf a b (h0.inv e).mem, (h0.inv e).fld, (h0.inv e).nvm, (h0.inv e).cores, (h0.inv e).ckpt⟩⟩

theorem State.writeMem_keeps (b0 : State) (s : State) (a : Nat) (x0 : List Byte) (h0 : b0.Keeps s) : b0.Keeps (s.writeMem a x0) := by
  induction x0 generalizing s a with
  | nil => exact h0
  | cons x r ih => exact ih (s.setByte a x) (a + 1) (State.setByte_keeps b0 s a x h0)

theorem State.loseMem_keeps (b0 : State) (s : State) (r : Nat) (h0 : b0.Keeps s) : b0.Keeps (s.loseMem r) :=
  ⟨h0.pending, h0.grade, h0.stepping, h0.owner, fun e => ⟨s.loseMem_wf r (h0.inv e).mem, (h0.inv e).fld, (h0.inv e).nvm, (h0.inv e).cores, (h0.inv e).ckpt⟩⟩

theorem State.writeNat_keeps (b0 : State) (s : State) (a n x : Nat) (h0 : b0.Keeps s) : b0.Keeps (State.writeNat s a n x) := by
  unfold State.writeNat
  repeat' (first | with_reducible assumption | with_reducible apply State.writeMem_keeps)

theorem State.setEcc_keeps (b0 : State) (s : State) (a v : Nat) (h0 : b0.Keeps s) : b0.Keeps (State.setEcc s a v) := by
  unfold State.setEcc
  repeat' (first | with_reducible assumption | with_reducible apply State.Keeps.mk_)

theorem State.eccWrite_keeps (b0 : State) (s : State) (a n : Nat) (h0 : b0.Keeps s) : b0.Keeps (State.eccWrite s a n) := by
  unfold State.eccWrite
  repeat' (first | with_reducible assumption | intro _ | split | with_reducible apply State.Keeps.mk_)

theorem State.store_keeps (b0 : State) (s : State) (a : Nat) (l : List Byte) (h0 : b0.Keeps s) : b0.Keeps (State.store s a l) := by
  unfold State.store
  repeat' (first | with_reducible assumption | with_reducible apply State.writeMem_keeps | with_reducible apply State.eccWrite_keeps)

theorem State.undo_keeps (b0 : State) (s : State) (h : MemW) (h0 : b0.Keeps s) : b0.Keeps (s.undo h) := State.writeMem_keeps b0 s h.addr h.old h0

theorem State.redo_keeps (b0 : State) (x : State × List MemW) (h : MemW) (h0 : b0.Keeps x.1) : b0.Keeps (State.redo x h).1 :=
  State.writeMem_keeps b0 x.1 h.addr _ h0

theorem State.Keeps.hist {s t : State} (h : s.Keeps t) (l : List MemW) : s.Keeps { t with hist := l } :=
  ⟨h.pending, h.grade, h.stepping, h.owner, fun e => ⟨(h.inv e).mem, (h.inv e).fld, (h.inv e).nvm, (h.inv e).cores, (h.inv e).ckpt⟩⟩

/-- A timed write keeps what every write of memory keeps. -/

theorem State.storeAt_keeps (b0 : State) (s t : State) (k u who a : Nat) (e : MemEff) (h0 : b0.Keeps s) (h : s.storeAt k u who a e = some t) : b0.Keeps t := by
  unfold State.storeAt at h
  split at h
  · obtain ⟨b, -, rfl⟩ := Option.map_eq_some_iff.mp h
    exact State.store_keeps b0 s a b h0
  · obtain ⟨b, -, rfl⟩ := Option.map_eq_some_iff.mp h
    exact (State.Keeps.foldl1 (State.store_keeps _ _ _ _ (State.Keeps.foldl h0 (fun u x hu => State.undo_keeps _ _ x hu)))
      (fun u x hu => State.redo_keeps _ _ x hu)).hist _

theorem State.putAt_keeps (b0 : State) (s : State) (k u who a : Nat) (b : List Byte) (h0 : b0.Keeps s) : b0.Keeps (s.putAt k u who a b) := by
  unfold State.putAt
  cases h : s.storeAt k u who a (.put b) with
  | none => exact h0
  | some t => exact State.storeAt_keeps b0 s t k u who a _ h0 h

theorem State.unwrite_keeps (b0 : State) (s : State) (gone : MemW → Bool) (h0 : b0.Keeps s) : b0.Keeps (s.unwrite gone) :=
  (State.Keeps.foldl1 (State.Keeps.foldl h0 (fun u x hu => State.undo_keeps _ _ x hu)) (fun u x hu => State.redo_keeps _ _ x hu)).hist _

theorem State.trimHist_keeps (b0 : State) (s : State) (h0 : b0.Keeps s) : b0.Keeps (State.trimHist s) := by
  unfold State.trimHist
  repeat' (first | with_reducible assumption | intro _ _ _ | intro _ | with_reducible apply State.Keeps.foldl | with_reducible apply State.Keeps.foldl2 | with_reducible apply State.Keeps.foldl22 | with_reducible apply State.Keeps.foldl222 | with_reducible apply State.Keeps.foldl1 | split | ((with_reducible conv => arg 2; whnf); split) | ((with_reducible conv => arg 2; arg 1; whnf); split) | ((with_reducible conv => arg 2; arg 1; arg 1; whnf); split) | with_reducible apply State.Keeps.mk_)

theorem State.correct_keeps (b0 : State) (s : State) (a n : Nat) (h0 : b0.Keeps s) : b0.Keeps (State.correct s a n).2 := by
  unfold State.correct
  repeat' (first | with_reducible assumption | with_reducible apply State.Keeps.ite | intro _ | split | with_reducible apply State.Keeps.mk_)

theorem State.sramCorrect_keeps (b0 : State) (s : State) (a n : Nat) (h0 : b0.Keeps s) : b0.Keeps (State.sramCorrect s a n) := by
  unfold State.sramCorrect
  repeat' (first | with_reducible assumption | intro _ _ _ | intro _ | with_reducible apply State.correct_keeps | with_reducible apply State.satF_keeps | with_reducible apply State.setF_keeps | split | ((with_reducible conv => arg 2; whnf); split) | ((with_reducible conv => arg 2; arg 1; whnf); split) | ((with_reducible conv => arg 2; arg 1; arg 1; whnf); split) | with_reducible refine State.Keeps.eq2 (by with_reducible assumption) ?_ | with_reducible refine State.Keeps.eq22 (by with_reducible assumption) ?_ | with_reducible refine State.Keeps.eq222 (by with_reducible assumption) ?_ | with_reducible refine State.Keeps.eq1 (by with_reducible assumption) ?_ | with_reducible apply State.Keeps.mk_)

theorem State.windowRead_keeps (b0 : State) (s : State) (a n : Nat) (h0 : b0.Keeps s) : b0.Keeps (State.windowRead s a n).2.2 := by
  unfold State.windowRead
  repeat' (first | with_reducible assumption | intro _ _ _ | intro _ | with_reducible apply State.sramCorrect_keeps | with_reducible apply State.correct_keeps | with_reducible apply State.Keeps.ite | with_reducible apply State.Keeps.ite2 | with_reducible apply State.Keeps.ite22 | with_reducible apply State.Keeps.ite222 | with_reducible apply State.Keeps.ite1 | with_reducible apply State.Keeps.ite21 | split | ((with_reducible conv => arg 2; whnf); split) | ((with_reducible conv => arg 2; arg 1; whnf); split) | ((with_reducible conv => arg 2; arg 1; arg 1; whnf); split) | with_reducible apply State.Keeps.pair2 | with_reducible apply State.Keeps.pair22 | with_reducible apply State.Keeps.pair222 | with_reducible apply State.Keeps.mk_)

theorem State.windowStore_keeps (b0 : State) (s : State) (a : Nat) (b : List Byte) (h0 : b0.Keeps s) : b0.Keeps (s.windowStore a b) := by
  have h1 := State.store_keeps b0 s a b h0
  unfold State.windowStore
  split
  · exact h1
  · exact State.Keeps.cores h1 _ (List.length_modify _ _ _)

theorem State.answer_keeps (b0 : State) (s : State) (code value : Nat) (h0 : b0.Keeps s) : b0.Keeps (State.answer s code value) := by
  unfold State.answer
  repeat' (first | with_reducible assumption | with_reducible apply State.Keeps.mk_)

theorem State.refused_keeps (b0 : State) (s : State) (code die unit loc : Nat) (h0 : b0.Keeps s) : b0.Keeps (State.refused s code die unit loc) := by
  unfold State.refused
  repeat' (first | with_reducible assumption | intro _ _ _ | intro _ | with_reducible apply State.raise_keeps | with_reducible apply State.answer_keeps | with_reducible apply State.Keeps.mk_)

theorem State.answerBytes_keeps (b0 : State) (s : State) (code : Nat) (b : List Byte) (h0 : b0.Keeps s) : b0.Keeps (State.answerBytes s code b) := by
  unfold State.answerBytes
  repeat' (first | with_reducible assumption | with_reducible apply State.Keeps.mk_)

end Sys2Proof.Machine
end

