-- ==== Sys2Proof/Laws/KeepsSpares.lean ====
section
/-! SUPPORT. What every operation of Machine/Spares.lean keeps: the queue, the part, and the canonical forms. -/
namespace Sys2Proof.Machine

set_option linter.all false
set_option Elab.async false

theorem State.dirty_keeps (b0 : State) (s : State) (h0 : b0.Keeps s) : b0.Keeps (State.dirty s) := by
  unfold State.dirty
  repeat' (first | with_reducible assumption | with_reducible apply State.setF_keeps | intro _ | split | ((with_reducible conv => arg 2; whnf); split) | with_reducible apply State.Keeps.mk_)

theorem State.startBringIn_keeps (b0 : State) (s : State) (kind die unit num : Nat) (noCopy : Bool) (h0 : b0.Keeps s) : b0.Keeps (State.startBringIn s kind die unit num noCopy).2 := by
  unfold State.startBringIn
  split
  · exact h0
  · split
    · exact h0
    · next i _ =>
      have h1 : b0.Keeps { s with bringIn := s.bringIn ++ [⟨kind, die, unit, num, i, noCopy, 0, 0⟩] } := State.Keeps.mk_ h0
      split
      · exact State.dirty_keeps _ _ (State.raise_keeps _ _ _ _ _ _ _ _ (State.setF_keeps _ _ _ _ h1))
      · exact h1

theorem State.sparesExhausted_keeps (b0 : State) (s : State) (kind die num : Nat) (h0 : b0.Keeps s) : b0.Keeps (State.sparesExhausted s kind die num) := by
  unfold State.sparesExhausted
  repeat' (first | with_reducible assumption | with_reducible apply State.setFs_keeps | with_reducible apply State.raise_keeps | with_reducible apply State.setF_keeps | intro _ | split | ((with_reducible conv => arg 2; whnf); split))

theorem State.needSpare_keeps (b0 : State) (s : State) (kind die unit num : Nat) (noCopy : Bool) (h0 : b0.Keeps s) : b0.Keeps (State.needSpare s kind die unit num noCopy) := by
  unfold State.needSpare
  repeat' (first | with_reducible assumption | with_reducible apply State.sparesExhausted_keeps | with_reducible apply State.startBringIn_keeps | with_reducible apply State.Keeps.ite | intro _ | split | ((with_reducible conv => arg 2; whnf); split))

theorem State.pcLost_keeps (b0 : State) (s : State) (die stack pc : Nat) (h0 : b0.Keeps s) : b0.Keeps (State.pcLost s die stack pc) := by
  unfold State.pcLost
  repeat' (first | with_reducible assumption | with_reducible apply State.Keeps.ite | intro _ | split | ((with_reducible conv => arg 2; whnf); split) | with_reducible apply State.Keeps.mk_)

theorem State.dropRetire_keeps (b0 : State) (s : State) (die stack : Nat) (h0 : b0.Keeps s) : b0.Keeps (State.dropRetire s die stack) := by
  unfold State.dropRetire
  repeat' (first | with_reducible assumption | with_reducible apply State.setF_keeps | intro _ | split | ((with_reducible conv => arg 2; whnf); split) | with_reducible apply State.Keeps.mk_)

theorem State.swapPc_keeps (b0 : State) (s : State) (die stack pc r : Nat) (h0 : b0.Keeps s) : b0.Keeps (State.swapPc s die stack pc r) := by
  unfold State.swapPc
  repeat' (first | with_reducible assumption | intro _ _ _ | intro _ | with_reducible apply State.hwSets_keeps | with_reducible apply State.raise_keeps | with_reducible apply State.dirty_keeps | split | ((with_reducible conv => arg 2; whnf); split) | ((with_reducible conv => arg 2; arg 1; whnf); split) | ((with_reducible conv => arg 2; arg 1; arg 1; whnf); split) | with_reducible apply State.Keeps.mk_)

theorem State.switchPc_keeps (b0 : State) (s : State) (x : BringIn) (h0 : b0.Keeps s) : b0.Keeps (State.switchPc s x) := by
  unfold State.switchPc
  repeat' (first | with_reducible assumption | with_reducible apply State.swapPc_keeps | with_reducible apply State.dropRetire_keeps)

theorem State.replacePc_keeps (b0 : State) (s : State) (die stack pc r : Nat) (h0 : b0.Keeps s) : b0.Keeps (State.replacePc s die stack pc r) := by
  unfold State.replacePc
  repeat' (first | with_reducible assumption | with_reducible apply State.swapPc_keeps | intro _ | split | ((with_reducible conv => arg 2; whnf); split) | with_reducible apply State.Keeps.mk_)

theorem doHbmReserveReplace_keeps (b0 : State) (die stack pc : Nat) (s : State) (h0 : b0.Keeps s) : b0.Keeps (doHbmReserveReplace die stack pc s) := by
  unfold doHbmReserveReplace
  repeat' (first | with_reducible assumption | with_reducible apply State.dropRetire_keeps | with_reducible apply State.replacePc_keeps | with_reducible apply State.Keeps.ite | intro _ | split | ((with_reducible conv => arg 2; whnf); split))

theorem execHbmReserveReplace_keeps (b0 : State) (die : Fin 4) (stack : Fin 3) (pc : Fin 32) (s : State) (h0 : b0.Keeps s) : b0.KeepsOut (execHbmReserveReplace die stack pc s) := by
  unfold execHbmReserveReplace
  repeat' (first | with_reducible assumption | with_reducible apply doHbmReserveReplace_keeps | with_reducible apply State.Keeps.next)

theorem State.dropBank_keeps (b0 : State) (s : State) (die b : Nat) (h0 : b0.Keeps s) : b0.Keeps (State.dropBank s die b) := by
  unfold State.dropBank
  repeat' (first | with_reducible assumption | with_reducible apply State.updDie_keeps | with_reducible apply State.setF_keeps | with_reducible apply State.Keeps.ite | intro _ | split | ((with_reducible conv => arg 2; whnf); split) | with_reducible apply State.Keeps.mk_)

theorem State.dropBanks_keeps (b0 : State) (s : State) (die : Nat) (h0 : b0.Keeps s) : b0.Keeps (State.dropBanks s die) := by
  unfold State.dropBanks
  repeat' (first | with_reducible assumption | intro _ _ _ | intro _ | with_reducible apply State.dropBank_keeps | with_reducible apply State.setFs_keeps | with_reducible apply State.updDie_keeps | with_reducible apply State.Keeps.foldl | with_reducible apply State.Keeps.foldl2 | with_reducible apply State.Keeps.foldl22 | with_reducible apply State.Keeps.foldl222 | with_reducible apply State.Keeps.foldl1 | split | ((with_reducible conv => arg 2; whnf); split) | ((with_reducible conv => arg 2; arg 1; whnf); split) | ((with_reducible conv => arg 2; arg 1; arg 1; whnf); split) | with_reducible apply State.Keeps.mk_)

theorem doHbmMapOut_keeps (b0 : State) (die stack pc : Nat) (s : State) (h0 : b0.Keeps s) : b0.Keeps (doHbmMapOut die stack pc s) := by
  unfold doHbmMapOut
  repeat' (first | with_reducible assumption | intro _ _ _ | intro _ | with_reducible apply State.setF_keeps | with_reducible apply State.hwSets_keeps | with_reducible apply State.setFs_keeps | with_reducible apply State.loseMem_keeps | with_reducible apply State.dropBanks_keeps | with_reducible apply State.stopFrame_keeps | with_reducible apply State.raise_keeps | with_reducible apply State.dirty_keeps | with_reducible apply State.Keeps.ite | with_reducible apply State.Keeps.ite2 | with_reducible apply State.Keeps.ite22 | with_reducible apply State.Keeps.ite222 | with_reducible apply State.Keeps.ite1 | with_reducible apply State.Keeps.ite21 | with_reducible apply State.Keeps.foldl | with_reducible apply State.Keeps.foldl2 | with_reducible apply State.Keeps.foldl22 | with_reducible apply State.Keeps.foldl222 | with_reducible apply State.Keeps.foldl1 | split | ((with_reducible conv => arg 2; whnf); split) | ((with_reducible conv => arg 2; arg 1; whnf); split) | ((with_reducible conv => arg 2; arg 1; arg 1; whnf); split) | with_reducible apply State.Keeps.mk_)

theorem execHbmMapOut_keeps (b0 : State) (die : Fin 4) (stack : Fin 3) (pc : Fin 32) (s : State) (h0 : b0.Keeps s) : b0.KeepsOut (execHbmMapOut die stack pc s) := by
  unfold execHbmMapOut
  repeat' (first | with_reducible assumption | with_reducible apply doHbmMapOut_keeps | with_reducible apply State.Keeps.next)

theorem hbmRetire_keeps (b0 : State) (die stack pc : Nat) (s : State) (h0 : b0.Keeps s) : b0.Keeps (hbmRetire die stack pc s).2 := by
  unfold hbmRetire
  repeat' (first | with_reducible assumption | with_reducible apply State.startBringIn_keeps | with_reducible apply State.Keeps.ite | intro _ | split | ((with_reducible conv => arg 2; whnf); split))

theorem doHbmRetire_keeps (b0 : State) (die stack v : Nat) (s : State) (h0 : b0.Keeps s) : b0.Keeps (doHbmRetire die stack v s) := by
  unfold doHbmRetire
  repeat' (first | with_reducible assumption | intro _ _ _ | intro _ | with_reducible apply State.setF_keeps | with_reducible apply hbmRetire_keeps | with_reducible apply State.answer_keeps | with_reducible apply State.refused_keeps | with_reducible apply State.Keeps.ite | with_reducible apply State.Keeps.ite2 | with_reducible apply State.Keeps.ite22 | with_reducible apply State.Keeps.ite222 | with_reducible apply State.Keeps.ite1 | with_reducible apply State.Keeps.ite21 | split | ((with_reducible conv => arg 2; whnf); split) | ((with_reducible conv => arg 2; arg 1; whnf); split) | ((with_reducible conv => arg 2; arg 1; arg 1; whnf); split) | with_reducible refine State.Keeps.eq2 (by with_reducible assumption) ?_ | with_reducible refine State.Keeps.eq22 (by with_reducible assumption) ?_ | with_reducible refine State.Keeps.eq222 (by with_reducible assumption) ?_ | with_reducible refine State.Keeps.eq1 (by with_reducible assumption) ?_ | with_reducible apply State.Keeps.mk_)

theorem execHbmRetire_keeps (b0 : State) (die : Fin 4) (stack : Fin 3) (val : Word) (s : State) (h0 : b0.Keeps s) : b0.KeepsOut (execHbmRetire die stack val s) := by
  unfold execHbmRetire
  repeat' (first | with_reducible assumption | with_reducible apply doHbmRetire_keeps | with_reducible apply State.Keeps.next)

theorem State.dropBringIn_keeps (b0 : State) (s : State) (x : BringIn) (h0 : b0.Keeps s) : b0.Keeps (State.dropBringIn s x) := by
  unfold State.dropBringIn
  repeat' (first | with_reducible assumption | intro _ | split | ((with_reducible conv => arg 2; whnf); split) | with_reducible apply State.Keeps.mk_)

theorem State.migrating_keeps (b0 : State) (s : State) (x : BringIn) (v : Nat) (h0 : b0.Keeps s) : b0.Keeps (State.migrating s x v) := by
  unfold State.migrating
  repeat' (first | with_reducible assumption | intro _ _ _ | intro _ | with_reducible apply State.setF_keeps | with_reducible apply State.Keeps.ite | with_reducible apply State.Keeps.ite2 | with_reducible apply State.Keeps.ite22 | with_reducible apply State.Keeps.ite222 | with_reducible apply State.Keeps.ite1 | with_reducible apply State.Keeps.ite21 | split | ((with_reducible conv => arg 2; whnf); split) | ((with_reducible conv => arg 2; arg 1; whnf); split) | ((with_reducible conv => arg 2; arg 1; arg 1; whnf); split) | with_reducible apply State.Keeps.mk_)

theorem State.useArraySpare_keeps (b0 : State) (s : State) (x : BringIn) (h0 : b0.Keeps s) : b0.Keeps (State.useArraySpare s x) := by
  unfold State.useArraySpare
  repeat' (first | with_reducible assumption | with_reducible apply State.setF_keeps | with_reducible apply State.raise_keeps | with_reducible apply State.dirty_keeps | with_reducible apply State.dropBringIn_keeps | with_reducible apply State.Keeps.ite | with_reducible apply State.Keeps.foldl | with_reducible apply State.Keeps.foldl2 | with_reducible apply State.Keeps.foldl1 | intro _ | split | ((with_reducible conv => arg 2; whnf); split) | with_reducible apply State.Keeps.mk_)

theorem State.useSpmSpare_keeps (b0 : State) (s : State) (x : BringIn) (h0 : b0.Keeps s) : b0.Keeps (State.useSpmSpare s x) := by
  unfold State.useSpmSpare
  repeat' (first | with_reducible assumption | with_reducible apply State.setFs_keeps | with_reducible apply State.raise_keeps | with_reducible apply State.dirty_keeps | with_reducible apply State.dropBringIn_keeps | with_reducible apply State.Keeps.ite | intro _ | split | ((with_reducible conv => arg 2; whnf); split) | with_reducible apply State.Keeps.mk_)

theorem State.spareTestFailed_keeps (b0 : State) (s : State) (x : BringIn) (h0 : b0.Keeps s) : b0.Keeps (State.spareTestFailed s x) := by
  unfold State.spareTestFailed
  repeat' (first | with_reducible assumption | intro _ _ _ | intro _ | with_reducible apply State.dropBringIn_keeps | with_reducible apply State.migrating_keeps | with_reducible apply State.sparesExhausted_keeps | with_reducible apply State.setF_keeps | with_reducible apply State.Keeps.ite | with_reducible apply State.Keeps.ite2 | with_reducible apply State.Keeps.ite22 | with_reducible apply State.Keeps.ite222 | with_reducible apply State.Keeps.ite1 | with_reducible apply State.Keeps.ite21 | split | ((with_reducible conv => arg 2; whnf); split) | ((with_reducible conv => arg 2; arg 1; whnf); split) | ((with_reducible conv => arg 2; arg 1; arg 1; whnf); split) | with_reducible refine State.Keeps.eq2 (by with_reducible assumption) ?_ | with_reducible refine State.Keeps.eq22 (by with_reducible assumption) ?_ | with_reducible refine State.Keeps.eq222 (by with_reducible assumption) ?_ | with_reducible refine State.Keeps.eq1 (by with_reducible assumption) ?_ | with_reducible apply State.Keeps.mk_)

end Sys2Proof.Machine
end

