-- ==== Sys2Proof/Laws/KeepsSched.lean ====
section
/-! SUPPORT. What every operation of Machine/Sched.lean keeps: the queue, the part, and the canonical forms. -/
namespace Sys2Proof.Machine

set_option linter.all false
set_option Elab.async false

theorem State.setBank_keeps (b0 : State) (s : State) (die b : Nat) (x : Bank) (h0 : b0.Keeps s) : b0.Keeps (State.setBank s die b x) := by
  unfold State.setBank
  repeat' (first | with_reducible assumption | intro _ _ _ | intro _ | with_reducible apply State.updDie_keeps | with_reducible apply State.Keeps.ite | split | ((with_reducible conv => arg 2; whnf); split) | with_reducible apply State.Keeps.mk_)

theorem State.raiseCmd_keeps (b0 : State) (s : State) (cls code die unit idx kind value : Nat) (h0 : b0.Keeps s) : b0.Keeps (State.raiseCmd s cls code die unit idx kind value) := by
  unfold State.raiseCmd
  repeat' (first | with_reducible assumption | with_reducible apply State.raiseC_keeps)

theorem State.nameReports_keeps (b0 : State) (s : State) (n code kind value : Nat) (h0 : b0.Keeps s) : b0.Keeps (State.nameReports s n code kind value) := by
  unfold State.nameReports
  repeat' (first | with_reducible assumption | intro _ _ _ | intro _ | with_reducible apply State.Keeps.ite | with_reducible apply State.Keeps.ite2 | with_reducible apply State.Keeps.ite22 | with_reducible apply State.Keeps.ite222 | with_reducible apply State.Keeps.ite1 | with_reducible apply State.Keeps.ite21 | split | ((with_reducible conv => arg 2; whnf); split) | ((with_reducible conv => arg 2; arg 1; whnf); split) | ((with_reducible conv => arg 2; arg 1; arg 1; whnf); split) | with_reducible apply State.Keeps.mk_)

theorem State.expoAt_keeps (b0 : State) (s : State) (die ns typ flags code idx cyc value detail : Nat) (mbit : Option Nat) (h0 : b0.Keeps s) : b0.Keeps (State.expoAt s die ns typ flags code idx cyc value detail mbit) := by
  unfold State.expoAt
  repeat' (first | with_reducible assumption | intro _ _ _ | intro _ | with_reducible apply State.expo_keeps | with_reducible apply State.updDie_keeps | with_reducible apply State.Keeps.ite | with_reducible apply State.Keeps.ite2 | with_reducible apply State.Keeps.ite22 | with_reducible apply State.Keeps.ite222 | with_reducible apply State.Keeps.ite1 | with_reducible apply State.Keeps.ite21 | split | ((with_reducible conv => arg 2; whnf); split) | ((with_reducible conv => arg 2; arg 1; whnf); split) | ((with_reducible conv => arg 2; arg 1; arg 1; whnf); split) | with_reducible refine State.Keeps.eq2 (by with_reducible assumption) ?_ | with_reducible refine State.Keeps.eq22 (by with_reducible assumption) ?_ | with_reducible refine State.Keeps.eq222 (by with_reducible assumption) ?_ | with_reducible refine State.Keeps.eq1 (by with_reducible assumption) ?_ | with_reducible apply State.Keeps.mk_)

theorem State.expo_keeps (b0 : State) (s : State) (die typ flags code idx cyc value detail : Nat) (mbit : Option Nat) (h0 : b0.Keeps s) : b0.Keeps (State.expo s die typ flags code idx cyc value detail mbit) := by
  unfold State.expo
  repeat' (first | with_reducible assumption | with_reducible apply State.expoAt_keeps)

theorem State.updRun_keeps (b0 : State) (s : State) (die idx : Nat) (f : RunCmd → RunCmd) (h0 : b0.Keeps s) : b0.Keeps (State.updRun s die idx f) := by
  unfold State.updRun
  repeat' (first | with_reducible assumption | intro _ _ _ | intro _ | with_reducible apply State.updDie_keeps | with_reducible apply State.Keeps.ite | split | ((with_reducible conv => arg 2; whnf); split) | with_reducible apply State.Keeps.mk_)

theorem State.commit_keeps (b0 : State) (s : State) (p : Nat) (h0 : b0.Keeps s) : b0.Keeps (State.commit s p) := by
  unfold State.commit
  repeat' (first | with_reducible assumption | intro _ _ _ | intro _ | with_reducible apply State.setF_keeps | with_reducible apply State.updPart_keeps | with_reducible apply State.Keeps.foldl | with_reducible apply State.Keeps.foldl2 | with_reducible apply State.Keeps.foldl1 | split | ((with_reducible conv => arg 2; whnf); split) | with_reducible apply State.Keeps.mk_)

theorem State.addSlip_keeps (b0 : State) (s : State) (p slip : Nat) (h0 : b0.Keeps s) : b0.Keeps (State.addSlip s p slip) := by
  unfold State.addSlip
  repeat' (first | with_reducible assumption | intro _ _ _ | intro _ | with_reducible apply State.updPart_keeps | split | ((with_reducible conv => arg 2; whnf); split) | with_reducible apply State.Keeps.mk_)

theorem doStart_keeps (b0 : State) (die idx : Nat) (s : State) (h0 : b0.Keeps s) : b0.Keeps (doStart die idx s) := by
  unfold doStart
  repeat' (first | with_reducible assumption | intro _ _ _ | intro _ | with_reducible apply State.toCyc_keeps | with_reducible apply State.count_keeps | with_reducible apply State.raiseCmd_keeps | with_reducible apply State.addSlip_keeps | with_reducible apply State.updDie_keeps | with_reducible apply State.expo_keeps | with_reducible apply State.commit_keeps | with_reducible apply State.Keeps.ite | with_reducible apply State.Keeps.ite2 | with_reducible apply State.Keeps.ite22 | with_reducible apply State.Keeps.ite222 | with_reducible apply State.Keeps.ite1 | with_reducible apply State.Keeps.ite21 | split | ((with_reducible conv => arg 2; whnf); split) | ((with_reducible conv => arg 2; arg 1; whnf); split) | ((with_reducible conv => arg 2; arg 1; arg 1; whnf); split) | with_reducible refine State.Keeps.eq2 (by with_reducible assumption) ?_ | with_reducible refine State.Keeps.eq22 (by with_reducible assumption) ?_ | with_reducible refine State.Keeps.eq222 (by with_reducible assumption) ?_ | with_reducible refine State.Keeps.eq1 (by with_reducible assumption) ?_ | with_reducible apply State.Keeps.mk_)

theorem execCommandStart_keeps (b0 : State) (die : Fin 4) (idx : Nat) (s : State) (h0 : b0.Keeps s) : b0.KeepsOut (execCommandStart die idx s) := by
  unfold execCommandStart
  repeat' (first | with_reducible assumption | with_reducible apply doStart_keeps | with_reducible apply State.Keeps.next)

theorem State.latchFault_keeps (b0 : State) (s : State) (die code idx f : Nat) (h0 : b0.Keeps s) : b0.Keeps (State.latchFault s die code idx f) := by
  unfold State.latchFault
  repeat' (first | with_reducible assumption | intro _ _ _ | intro _ | with_reducible apply State.setFs_keeps | with_reducible apply State.updDie_keeps | with_reducible apply State.Keeps.ite | with_reducible apply State.Keeps.ite2 | with_reducible apply State.Keeps.ite22 | with_reducible apply State.Keeps.ite222 | with_reducible apply State.Keeps.ite1 | with_reducible apply State.Keeps.ite21 | split | ((with_reducible conv => arg 2; whnf); split) | ((with_reducible conv => arg 2; arg 1; whnf); split) | ((with_reducible conv => arg 2; arg 1; arg 1; whnf); split) | with_reducible apply State.Keeps.mk_)

theorem State.failFrame_keeps (b0 : State) (s : State) (p die f : Nat) (h0 : b0.Keeps s) : b0.Keeps (State.failFrame s p die f) := by
  unfold State.failFrame
  repeat' (first | with_reducible assumption | intro _ _ _ | intro _ | with_reducible apply State.updPart_keeps | with_reducible apply State.setFrameState_keeps | with_reducible apply State.setF_keeps | with_reducible apply State.raiseP_keeps | with_reducible apply State.Keeps.ite | with_reducible apply State.Keeps.ite2 | with_reducible apply State.Keeps.ite22 | with_reducible apply State.Keeps.ite222 | with_reducible apply State.Keeps.ite1 | with_reducible apply State.Keeps.ite21 | with_reducible apply State.Keeps.foldl | with_reducible apply State.Keeps.foldl2 | with_reducible apply State.Keeps.foldl22 | with_reducible apply State.Keeps.foldl222 | with_reducible apply State.Keeps.foldl1 | split | ((with_reducible conv => arg 2; whnf); split) | ((with_reducible conv => arg 2; arg 1; whnf); split) | ((with_reducible conv => arg 2; arg 1; arg 1; whnf); split) | with_reducible apply State.Keeps.mk_)

theorem State.faultCmd_keeps (b0 : State) (s : State) (cls die idx code f : Nat) (h0 : b0.Keeps s) : b0.Keeps (State.faultCmd s cls die idx code f) := by
  unfold State.faultCmd
  repeat' (first | with_reducible assumption | intro _ _ _ | intro _ | with_reducible apply State.latchFault_keeps | with_reducible apply State.raiseCmd_keeps | with_reducible apply State.count_keeps | with_reducible apply State.expo_keeps | with_reducible apply State.updRun_keeps | with_reducible apply State.failFrame_keeps | with_reducible apply State.Keeps.ite | with_reducible apply State.Keeps.ite2 | with_reducible apply State.Keeps.ite22 | with_reducible apply State.Keeps.ite222 | with_reducible apply State.Keeps.ite1 | with_reducible apply State.Keeps.ite21 | split | ((with_reducible conv => arg 2; whnf); split) | ((with_reducible conv => arg 2; arg 1; whnf); split) | ((with_reducible conv => arg 2; arg 1; arg 1; whnf); split) | with_reducible apply State.Keeps.mk_)

theorem State.planBits_keeps (b0 : State) (s : State) (die : Nat) (h0 : b0.Keeps s) : b0.Keeps (State.planBits s die) := by
  unfold State.planBits
  repeat' (first | with_reducible assumption | intro _ _ _ | intro _ | with_reducible apply State.setFs_keeps | with_reducible apply State.Keeps.foldl | with_reducible apply State.Keeps.foldl2 | with_reducible apply State.Keeps.foldl22 | with_reducible apply State.Keeps.foldl222 | with_reducible apply State.Keeps.foldl1 | split | ((with_reducible conv => arg 2; whnf); split) | ((with_reducible conv => arg 2; arg 1; whnf); split) | ((with_reducible conv => arg 2; arg 1; arg 1; whnf); split) | with_reducible apply State.Keeps.mk_)

theorem State.loadStatus_keeps (b0 : State) (s : State) (die b : Nat) (e : LoadErr) (h0 : b0.Keeps s) : b0.Keeps (State.loadStatus s die b e) := by
  unfold State.loadStatus
  repeat' (first | with_reducible assumption | intro _ _ _ | intro _ | with_reducible apply State.hwSets_keeps | with_reducible apply State.Keeps.mk_)

theorem State.installBank_keeps (b0 : State) (s : State) (die b : Nat) (r : Option Bank × LoadErr) (h0 : b0.Keeps s) : b0.Keeps (State.installBank s die b r) := by
  unfold State.installBank
  repeat' (first | with_reducible assumption | intro _ _ _ | intro _ | with_reducible apply State.setBank_keeps | with_reducible apply State.setF_keeps | with_reducible apply State.loadStatus_keeps | with_reducible apply State.planBits_keeps | with_reducible apply State.dropBank_keeps | with_reducible apply State.raiseC_keeps | with_reducible apply State.Keeps.ite | with_reducible apply State.Keeps.ite2 | with_reducible apply State.Keeps.ite22 | with_reducible apply State.Keeps.ite222 | with_reducible apply State.Keeps.ite1 | with_reducible apply State.Keeps.ite21 | split | ((with_reducible conv => arg 2; whnf); split) | ((with_reducible conv => arg 2; arg 1; whnf); split) | ((with_reducible conv => arg 2; arg 1; arg 1; whnf); split) | with_reducible refine State.Keeps.eq2 (by with_reducible assumption) ?_ | with_reducible refine State.Keeps.eq22 (by with_reducible assumption) ?_ | with_reducible refine State.Keeps.eq222 (by with_reducible assumption) ?_ | with_reducible refine State.Keeps.eq1 (by with_reducible assumption) ?_ | with_reducible apply State.Keeps.mk_)

theorem State.qloadEnd_keeps (b0 : State) (s : State) (die : Nat) (h0 : b0.Keeps s) : b0.Keeps (State.qloadEnd s die) := by
  unfold State.qloadEnd
  repeat' (first | with_reducible assumption | intro _ _ _ | intro _ | with_reducible apply State.updDie_keeps | with_reducible apply State.installBank_keeps | with_reducible apply State.setF_keeps | with_reducible apply State.Keeps.ite | with_reducible apply State.Keeps.ite2 | with_reducible apply State.Keeps.ite22 | with_reducible apply State.Keeps.ite222 | with_reducible apply State.Keeps.ite1 | with_reducible apply State.Keeps.ite21 | split | ((with_reducible conv => arg 2; whnf); split) | ((with_reducible conv => arg 2; arg 1; whnf); split) | ((with_reducible conv => arg 2; arg 1; arg 1; whnf); split) | with_reducible refine State.Keeps.eq2 (by with_reducible assumption) ?_ | with_reducible refine State.Keeps.eq22 (by with_reducible assumption) ?_ | with_reducible refine State.Keeps.eq222 (by with_reducible assumption) ?_ | with_reducible refine State.Keeps.eq1 (by with_reducible assumption) ?_ | with_reducible apply State.Keeps.mk_)

theorem State.orStatus_keeps (b0 : State) (s : State) (die : Nat) (c : Cmd) (entry : Nat) (h0 : b0.Keeps s) : b0.Keeps (State.orStatus s die c entry) := by
  unfold State.orStatus
  repeat' (first | with_reducible assumption | intro _ _ _ | intro _ | with_reducible apply State.hwSet_keeps | with_reducible apply State.count_keeps | with_reducible apply State.Keeps.ite | with_reducible apply State.Keeps.ite2 | with_reducible apply State.Keeps.ite22 | with_reducible apply State.Keeps.ite222 | with_reducible apply State.Keeps.ite1 | with_reducible apply State.Keeps.ite21 | with_reducible apply State.Keeps.foldl | with_reducible apply State.Keeps.foldl2 | with_reducible apply State.Keeps.foldl22 | with_reducible apply State.Keeps.foldl222 | with_reducible apply State.Keeps.foldl1 | split | ((with_reducible conv => arg 2; whnf); split) | ((with_reducible conv => arg 2; arg 1; whnf); split) | ((with_reducible conv => arg 2; arg 1; arg 1; whnf); split) | with_reducible apply State.Keeps.mk_)

theorem doComplete_keeps (b0 : State) (die idx cyc : Nat) (s : State) (h0 : b0.Keeps s) : b0.Keeps (doComplete die idx cyc s) := by
  unfold doComplete
  repeat' (first | with_reducible assumption | intro _ _ _ | intro _ | with_reducible apply State.toCyc_keeps | with_reducible apply State.qloadEnd_keeps | with_reducible apply State.updDie_keeps | with_reducible apply State.count_keeps | with_reducible apply State.expo_keeps | with_reducible apply State.orStatus_keeps | with_reducible apply State.Keeps.ite | with_reducible apply State.Keeps.ite2 | with_reducible apply State.Keeps.ite22 | with_reducible apply State.Keeps.ite222 | with_reducible apply State.Keeps.ite1 | with_reducible apply State.Keeps.ite21 | split | ((with_reducible conv => arg 2; whnf); split) | ((with_reducible conv => arg 2; arg 1; whnf); split) | ((with_reducible conv => arg 2; arg 1; arg 1; whnf); split) | with_reducible refine State.Keeps.eq2 (by with_reducible assumption) ?_ | with_reducible refine State.Keeps.eq22 (by with_reducible assumption) ?_ | with_reducible refine State.Keeps.eq222 (by with_reducible assumption) ?_ | with_reducible refine State.Keeps.eq1 (by with_reducible assumption) ?_ | with_reducible apply State.Keeps.mk_)

theorem execCommandComplete_keeps (b0 : State) (die : Fin 4) (idx cyc : Nat) (s : State) (h0 : b0.Keeps s) : b0.KeepsOut (execCommandComplete die idx cyc s) := by
  unfold execCommandComplete
  repeat' (first | with_reducible assumption | with_reducible apply doComplete_keeps | with_reducible apply State.Keeps.next)

theorem State.perform_keeps (b0 : State) (s : State) (die idx : Nat) (doneAt : Option Nat) (entry : Nat) (h0 : b0.Keeps s) : b0.Keeps (State.perform s die idx doneAt entry) := by
  unfold State.perform
  repeat' (first | with_reducible assumption | intro _ _ _ | intro _ | with_reducible apply State.updRun_keeps | split | ((with_reducible conv => arg 2; whnf); split) | with_reducible apply State.Keeps.mk_)

theorem doNop_keeps (b0 : State) (die idx : Nat) (s : State) (h0 : b0.Keeps s) : b0.Keeps (doNop die idx s) := by
  unfold doNop
  repeat' (first | with_reducible assumption | with_reducible apply State.perform_keeps | split | ((with_reducible conv => arg 2; whnf); split))

theorem execNop_keeps (b0 : State) (die : Fin 4) (idx : Nat) (s : State) (h0 : b0.Keeps s) : b0.KeepsOut (execNop die idx s) := by
  unfold execNop
  repeat' (first | with_reducible assumption | with_reducible apply doNop_keeps | with_reducible apply State.Keeps.next)

theorem doFence_keeps (b0 : State) (die idx : Nat) (s : State) (h0 : b0.Keeps s) : b0.Keeps (doFence die idx s) := by
  unfold doFence
  repeat' (first | with_reducible assumption | intro _ _ _ | intro _ | with_reducible apply State.perform_keeps | with_reducible apply State.Keeps.foldl | with_reducible apply State.Keeps.foldl2 | with_reducible apply State.Keeps.foldl1 | split | ((with_reducible conv => arg 2; whnf); split))

theorem execFence_keeps (b0 : State) (die : Fin 4) (idx : Nat) (s : State) (h0 : b0.Keeps s) : b0.KeepsOut (execFence die idx s) := by
  unfold execFence
  repeat' (first | with_reducible assumption | with_reducible apply doFence_keeps | with_reducible apply State.Keeps.next)

theorem State.takeSignal_keeps (b0 : State) (s : State) (t cmd ctr inc c : Nat) (h0 : b0.Keeps s) : b0.Keeps (State.takeSignal s t cmd ctr inc c) := by
  unfold State.takeSignal
  repeat' (first | with_reducible assumption | intro _ _ _ | intro _ | with_reducible apply State.updDie_keeps | with_reducible apply State.count_keeps | with_reducible apply State.expo_keeps | with_reducible apply State.raise_keeps | with_reducible apply State.Keeps.ite | with_reducible apply State.Keeps.ite2 | with_reducible apply State.Keeps.ite22 | with_reducible apply State.Keeps.ite222 | with_reducible apply State.Keeps.ite1 | with_reducible apply State.Keeps.ite21 | with_reducible apply State.Keeps.foldl | with_reducible apply State.Keeps.foldl2 | with_reducible apply State.Keeps.foldl22 | with_reducible apply State.Keeps.foldl222 | with_reducible apply State.Keeps.foldl1 | split | ((with_reducible conv => arg 2; whnf); split) | ((with_reducible conv => arg 2; arg 1; whnf); split) | ((with_reducible conv => arg 2; arg 1; arg 1; whnf); split) | with_reducible apply State.Keeps.mk_)

theorem doSignal_keeps (b0 : State) (die idx : Nat) (s : State) (h0 : b0.Keeps s) : b0.Keeps (doSignal die idx s) := by
  unfold doSignal
  repeat' (first | with_reducible assumption | intro _ _ _ | intro _ | with_reducible apply State.takeSignal_keeps | with_reducible apply State.count_keeps | with_reducible apply State.perform_keeps | with_reducible apply State.Keeps.foldl | with_reducible apply State.Keeps.foldl2 | with_reducible apply State.Keeps.foldl22 | with_reducible apply State.Keeps.foldl222 | with_reducible apply State.Keeps.foldl1 | split | ((with_reducible conv => arg 2; whnf); split) | ((with_reducible conv => arg 2; arg 1; whnf); split) | ((with_reducible conv => arg 2; arg 1; arg 1; whnf); split) | with_reducible refine State.Keeps.eq2 (by with_reducible assumption) ?_ | with_reducible refine State.Keeps.eq22 (by with_reducible assumption) ?_ | with_reducible refine State.Keeps.eq222 (by with_reducible assumption) ?_ | with_reducible refine State.Keeps.eq1 (by with_reducible assumption) ?_ | with_reducible apply State.Keeps.mk_)

theorem execSignal_keeps (b0 : State) (die : Fin 4) (idx : Nat) (s : State) (h0 : b0.Keeps s) : b0.KeepsOut (execSignal die idx s) := by
  unfold execSignal
  repeat' (first | with_reducible assumption | with_reducible apply doSignal_keeps | with_reducible apply State.Keeps.next)

theorem doQswitch_keeps (b0 : State) (die idx : Nat) (s : State) (h0 : b0.Keeps s) : b0.Keeps (doQswitch die idx s) := by
  unfold doQswitch
  repeat' (first | with_reducible assumption | with_reducible apply State.setF_keeps | with_reducible apply State.raiseCmd_keeps | with_reducible apply State.perform_keeps | with_reducible apply State.Keeps.ite | split | ((with_reducible conv => arg 2; whnf); split))

theorem execQswitch_keeps (b0 : State) (die : Fin 4) (idx : Nat) (s : State) (h0 : b0.Keeps s) : b0.KeepsOut (execQswitch die idx s) := by
  unfold execQswitch
  repeat' (first | with_reducible assumption | with_reducible apply doQswitch_keeps | with_reducible apply State.Keeps.next)

theorem State.sendDep_keeps (b0 : State) (s : State) (p kind num cyc status node : Nat) (h0 : b0.Keeps s) : b0.Keeps (State.sendDep s p kind num cyc status node) := by
  unfold State.sendDep
  repeat' (first | with_reducible assumption | intro _ _ _ | intro _ | with_reducible apply State.updPart_keeps | split | ((with_reducible conv => arg 2; whnf); split) | with_reducible apply State.Keeps.mk_)

theorem doDependencyEvent_keeps (b0 : State) (p : Nat) (s : State) (h0 : b0.Keeps s) : b0.Keeps (doDependencyEvent p s) := by
  unfold doDependencyEvent
  repeat' (first | with_reducible assumption | intro _ _ _ | intro _ | with_reducible apply State.toCyc_keeps | with_reducible apply State.updPart_keeps | with_reducible apply State.expo_keeps | with_reducible apply State.latchFault_keeps | with_reducible apply State.failFrame_keeps | with_reducible apply State.raise_keeps | with_reducible apply State.Keeps.ite | with_reducible apply State.Keeps.ite2 | with_reducible apply State.Keeps.ite22 | with_reducible apply State.Keeps.ite222 | with_reducible apply State.Keeps.ite1 | with_reducible apply State.Keeps.ite21 | with_reducible apply State.Keeps.foldl | with_reducible apply State.Keeps.foldl2 | with_reducible apply State.Keeps.foldl22 | with_reducible apply State.Keeps.foldl222 | with_reducible apply State.Keeps.foldl1 | split | ((with_reducible conv => arg 2; whnf); split) | ((with_reducible conv => arg 2; arg 1; whnf); split) | ((with_reducible conv => arg 2; arg 1; arg 1; whnf); split) | with_reducible refine State.Keeps.eq2 (by with_reducible assumption) ?_ | with_reducible refine State.Keeps.eq22 (by with_reducible assumption) ?_ | with_reducible refine State.Keeps.eq222 (by with_reducible assumption) ?_ | with_reducible refine State.Keeps.eq1 (by with_reducible assumption) ?_ | with_reducible apply State.Keeps.mk_)

theorem execDependencyEvent_keeps (b0 : State) (p : Fin 4) (s : State) (h0 : b0.Keeps s) : b0.KeepsOut (execDependencyEvent p s) := by
  unfold execDependencyEvent
  repeat' (first | with_reducible assumption | with_reducible apply doDependencyEvent_keeps | with_reducible apply State.Keeps.next)

end Sys2Proof.Machine
end

