-- ==== Sys2Proof/Laws/KeepsSpm.lean ====
section
/-! SUPPORT. What every operation of Machine/Spm.lean keeps: the queue, the part, and the canonical forms. -/
namespace Sys2Proof.Machine

set_option linter.all false
set_option Elab.async false

theorem State.spmRequest_keeps (b0 : State) (s : State) (die port tag cyc : Nat) (wr : Bool) (off n : Nat) (h0 : b0.Keeps s) : b0.Keeps (State.spmRequest s die port tag cyc wr off n).2 := by
  unfold State.spmRequest
  repeat' (first | with_reducible assumption | intro _ _ _ | intro _ | with_reducible apply State.updDie_keeps | with_reducible apply State.count_keeps | with_reducible apply State.hwSet_keeps | with_reducible apply State.Keeps.ite | with_reducible apply State.Keeps.ite2 | with_reducible apply State.Keeps.ite22 | with_reducible apply State.Keeps.ite222 | with_reducible apply State.Keeps.ite1 | with_reducible apply State.Keeps.ite21 | split | ((with_reducible conv => arg 2; whnf); split) | ((with_reducible conv => arg 2; arg 1; whnf); split) | ((with_reducible conv => arg 2; arg 1; arg 1; whnf); split) | with_reducible apply State.Keeps.pair2 | with_reducible apply State.Keeps.pair22 | with_reducible apply State.Keeps.pair222 | with_reducible apply State.Keeps.mk_)

theorem State.bankCorrected_keeps (b0 : State) (s : State) (die b : Nat) (h0 : b0.Keeps s) : b0.Keeps (State.bankCorrected s die b) := by
  unfold State.bankCorrected
  repeat' (first | with_reducible assumption | intro _ _ _ | intro _ | with_reducible apply State.updDie_keeps | with_reducible apply State.needSpare_keeps | with_reducible apply State.Keeps.ite | split | ((with_reducible conv => arg 2; whnf); split) | with_reducible apply State.Keeps.mk_)

theorem State.spmCorrect_keeps (b0 : State) (s : State) (die off n : Nat) (h0 : b0.Keeps s) : b0.Keeps (State.spmCorrect s die off n) := by
  unfold State.spmCorrect
  repeat' (first | with_reducible assumption | intro _ _ _ | intro _ | with_reducible apply State.correct_keeps | with_reducible apply State.bankCorrected_keeps | with_reducible apply State.satF_keeps | with_reducible apply State.count_keeps | with_reducible apply State.Keeps.ite | with_reducible apply State.Keeps.ite2 | with_reducible apply State.Keeps.ite22 | with_reducible apply State.Keeps.ite222 | with_reducible apply State.Keeps.ite1 | with_reducible apply State.Keeps.ite21 | with_reducible apply State.Keeps.foldl | with_reducible apply State.Keeps.foldl2 | with_reducible apply State.Keeps.foldl1 | split | ((with_reducible conv => arg 2; whnf); split))

theorem State.spmRead_keeps (b0 : State) (s : State) (die port tag cyc off n : Nat) (h0 : b0.Keeps s) : b0.Keeps (State.spmRead s die port tag cyc off n).2 := by
  unfold State.spmRead
  repeat' (first | with_reducible assumption | with_reducible apply State.spmRequest_keeps | with_reducible apply State.spmCorrect_keeps)

theorem State.spmWrite_keeps (b0 : State) (s : State) (die port tag cyc u off : Nat) (l : List Byte) (h0 : b0.Keeps s) : b0.Keeps (State.spmWrite s die port tag cyc u off l).2 := by
  unfold State.spmWrite
  repeat' (first | with_reducible assumption | intro _ _ _ | intro _ | with_reducible apply State.spmRequest_keeps | with_reducible apply State.hwSet_keeps | with_reducible apply State.count_keeps | with_reducible apply State.raise_keeps | with_reducible apply State.updDie_keeps | with_reducible apply State.spmCorrect_keeps | with_reducible apply State.putAt_keeps | with_reducible apply State.Keeps.ite | with_reducible apply State.Keeps.ite2 | with_reducible apply State.Keeps.ite22 | with_reducible apply State.Keeps.ite222 | with_reducible apply State.Keeps.ite1 | with_reducible apply State.Keeps.ite21 | with_reducible apply State.Keeps.foldl | with_reducible apply State.Keeps.foldl2 | with_reducible apply State.Keeps.foldl22 | with_reducible apply State.Keeps.foldl222 | with_reducible apply State.Keeps.foldl1 | split | ((with_reducible conv => arg 2; whnf); split) | ((with_reducible conv => arg 2; arg 1; whnf); split) | ((with_reducible conv => arg 2; arg 1; arg 1; whnf); split) | with_reducible refine State.Keeps.eq2 (by with_reducible assumption) ?_ | with_reducible refine State.Keeps.eq22 (by with_reducible assumption) ?_ | with_reducible refine State.Keeps.eq222 (by with_reducible assumption) ?_ | with_reducible refine State.Keeps.eq1 (by with_reducible assumption) ?_ | with_reducible apply State.Keeps.pair2 | with_reducible apply State.Keeps.pair22 | with_reducible apply State.Keeps.pair222 | with_reducible apply State.Keeps.mk_)

theorem State.noteDouble_keeps (b0 : State) (s : State) (die : Nat) (l : List (Nat × Nat)) (h0 : b0.Keeps s) : b0.Keeps (State.noteDouble s die l) := by
  unfold State.noteDouble
  repeat' (first | with_reducible assumption | intro _ _ _ | intro _ | with_reducible apply State.needSpare_keeps | split | ((with_reducible conv => arg 2; whnf); split))

theorem State.noteSpm_keeps (b0 : State) (s : State) (die code : Nat) (h0 : b0.Keeps s) : b0.Keeps (State.noteSpm s die code) := by
  unfold State.noteSpm
  repeat' (first | with_reducible assumption | intro _ _ _ | intro _ | with_reducible apply State.hwSet_keeps | with_reducible apply State.Keeps.ite | with_reducible apply State.Keeps.ite2 | with_reducible apply State.Keeps.ite22 | with_reducible apply State.Keeps.ite222 | with_reducible apply State.Keeps.ite1 | with_reducible apply State.Keeps.ite21 | split | ((with_reducible conv => arg 2; whnf); split) | ((with_reducible conv => arg 2; arg 1; whnf); split) | ((with_reducible conv => arg 2; arg 1; arg 1; whnf); split) | with_reducible apply State.Keeps.mk_)

theorem State.faultUnit_keeps (b0 : State) (s : State) (cls die idx code f : Nat) (h0 : b0.Keeps s) : b0.Keeps (State.faultUnit s cls die idx code f) := by
  unfold State.faultUnit
  repeat' (first | with_reducible assumption | with_reducible apply State.noteSpm_keeps | with_reducible apply State.faultCmd_keeps)

end Sys2Proof.Machine
end

