-- ==== Sys2Proof/Laws/KeepsMxa.lean ====
section
/-! SUPPORT. What every operation of Machine/Mxa.lean keeps: the queue, the part, and the canonical forms. -/
namespace Sys2Proof.Machine

set_option linter.all false
set_option Elab.async false

theorem State.acfPut_keeps (b0 : State) (s : State) (die col entry v : Nat) (h0 : b0.Keeps s) : b0.Keeps (State.acfPut s die col entry v) := by
  unfold State.acfPut
  repeat' (first | with_reducible assumption | with_reducible apply State.Keeps.mk_)

theorem State.acfWrite_keeps (b0 : State) (s : State) (v : MxRow) (idx col entry x fl : Nat) (h0 : b0.Keeps s) : b0.Keeps (State.acfWrite s v idx col entry x fl) := by
  unfold State.acfWrite
  repeat' (first | with_reducible assumption | intro _ _ _ | intro _ | with_reducible apply State.acfPut_keeps | split | ((with_reducible conv => arg 2; whnf); split) | ((with_reducible conv => arg 2; arg 1; whnf); split) | ((with_reducible conv => arg 2; arg 1; arg 1; whnf); split) | with_reducible apply State.Keeps.mk_)

theorem mxRow_keeps (b0 : State) (v : MxRow) (idx : Nat) (s : State) (h0 : b0.Keeps s) : b0.Keeps (mxRow v idx s).1 := by
  unfold mxRow
  repeat' (first | with_reducible assumption | intro _ _ _ | intro _ | with_reducible apply State.acfWrite_keeps | with_reducible apply State.Keeps.foldl | with_reducible apply State.Keeps.foldl2 | with_reducible apply State.Keeps.foldl22 | with_reducible apply State.Keeps.foldl222 | with_reducible apply State.Keeps.foldl1 | split | ((with_reducible conv => arg 2; whnf); split) | ((with_reducible conv => arg 2; arg 1; whnf); split) | ((with_reducible conv => arg 2; arg 1; arg 1; whnf); split) | with_reducible refine State.Keeps.eq2 (by with_reducible assumption) ?_ | with_reducible refine State.Keeps.eq22 (by with_reducible assumption) ?_ | with_reducible refine State.Keeps.eq222 (by with_reducible assumption) ?_ | with_reducible refine State.Keeps.eq1 (by with_reducible assumption) ?_ | with_reducible apply State.Keeps.mk_)

theorem State.acfUnwrite_keeps (b0 : State) (s : State) (die idx f : Nat) (h0 : b0.Keeps s) : b0.Keeps (State.acfUnwrite s die idx f) := by
  unfold State.acfUnwrite
  repeat' (first | with_reducible assumption | intro _ _ _ | intro _ | with_reducible apply State.Keeps.ite | with_reducible apply State.Keeps.ite2 | with_reducible apply State.Keeps.ite22 | with_reducible apply State.Keeps.ite222 | with_reducible apply State.Keeps.ite1 | with_reducible apply State.Keeps.ite21 | with_reducible apply State.Keeps.foldl | with_reducible apply State.Keeps.foldl2 | with_reducible apply State.Keeps.foldl22 | with_reducible apply State.Keeps.foldl222 | with_reducible apply State.Keeps.foldl1 | split | ((with_reducible conv => arg 2; whnf); split) | ((with_reducible conv => arg 2; arg 1; whnf); split) | ((with_reducible conv => arg 2; arg 1; arg 1; whnf); split) | with_reducible apply State.Keeps.mk_)

theorem State.acfCorrect_keeps (b0 : State) (s : State) (die col entry : Nat) (h0 : b0.Keeps s) : b0.Keeps (State.acfCorrect s die col entry) := by
  unfold State.acfCorrect
  repeat' (first | with_reducible assumption | intro _ _ _ | intro _ | with_reducible apply State.satF_keeps | with_reducible apply State.hwSets_keeps | with_reducible apply State.count_keeps | with_reducible apply State.Keeps.ite | with_reducible apply State.Keeps.ite2 | with_reducible apply State.Keeps.ite22 | with_reducible apply State.Keeps.ite222 | with_reducible apply State.Keeps.ite1 | with_reducible apply State.Keeps.ite21 | split | ((with_reducible conv => arg 2; whnf); split) | ((with_reducible conv => arg 2; arg 1; whnf); split) | ((with_reducible conv => arg 2; arg 1; arg 1; whnf); split) | with_reducible apply State.Keeps.mk_)

theorem loadTile_keeps (b0 : State) (die off n ld : Nat) (s : State) (h0 : b0.Keeps s) : b0.Keeps (loadTile die off n ld s).2 := by
  unfold loadTile
  repeat' (first | with_reducible assumption | intro _ _ _ | intro _ | with_reducible apply State.spmRequest_keeps | with_reducible apply State.count_keeps | with_reducible apply State.spmCorrect_keeps | with_reducible apply State.Keeps.ite | with_reducible apply State.Keeps.ite2 | with_reducible apply State.Keeps.ite22 | with_reducible apply State.Keeps.ite222 | with_reducible apply State.Keeps.ite1 | with_reducible apply State.Keeps.ite21 | split | ((with_reducible conv => arg 2; whnf); split) | ((with_reducible conv => arg 2; arg 1; whnf); split) | ((with_reducible conv => arg 2; arg 1; arg 1; whnf); split) | with_reducible refine State.Keeps.eq2 (by with_reducible assumption) ?_ | with_reducible refine State.Keeps.eq22 (by with_reducible assumption) ?_ | with_reducible refine State.Keeps.eq222 (by with_reducible assumption) ?_ | with_reducible refine State.Keeps.eq1 (by with_reducible assumption) ?_ | with_reducible apply State.Keeps.pair2 | with_reducible apply State.Keeps.pair22 | with_reducible apply State.Keeps.pair222 | with_reducible apply State.Keeps.mk_)

theorem mxEnter_keeps (b0 : State) (bad : Option (Nat × Nat × Nat)) (q : Nat) (acc : Option (Nat × Nat) × State) (v : MxRow) (h0 : b0.Keeps acc.2) : b0.Keeps (mxEnter bad q acc v).2 := by
  unfold mxEnter
  refine State.Keeps.ite2 h0 ?_
  have hl : ∀ (n l : Nat) (s : State), b0.Keeps s → b0.Keeps (loadTile v.die (v.addr - spmBase v.die) n l s).2 := fun n l s h => loadTile_keeps _ _ _ _ _ _ h
  extract_lets s0
  split
  next ow s1 e1 =>
  have h1 : b0.Keeps s1 := by
    refine State.Keeps.eq2 e1 (State.Keeps.ite2 h0 ?_)
    dsimp only []
    have h2 := hl (tileBytes v.md v.o.fmtB v.o.kBlock) v.ld acc.2 h0
    revert h2
    generalize loadTile v.die (v.addr - spmBase v.die) (tileBytes v.md v.o.fmtB v.o.kBlock) v.ld acc.2 = p
    obtain ⟨a, u⟩ := p
    intro h2
    exact State.Keeps.ite2 (hl _ v.lo u h2) h2
  split
  next oa s2 e2 =>
  have h2 : b0.Keeps s2 := State.Keeps.eq2 e2 (State.Keeps.foldl2 h1 (fun u x h => State.spmRead_keeps _ _ _ _ _ _ _ _ h))
  exact State.count_keeps _ _ _ _ _ (State.Keeps.ite (State.count_keeps _ _ _ _ _ (State.Keeps.ite (State.noteDouble_keeps _ _ _ _ h2) h2)) (State.Keeps.ite (State.noteDouble_keeps _ _ _ _ h2) h2))

theorem mxWrite_keeps (b0 : State) (idx : Nat) (fault : Option (Nat × Nat)) (s : State) (v : MxRow) (h0 : b0.Keeps s) : b0.Keeps (mxWrite idx fault s v) := by
  unfold mxWrite
  repeat' (first | with_reducible assumption | intro _ _ _ | intro _ | with_reducible apply State.acfCorrect_keeps | with_reducible apply mxRow_keeps | with_reducible apply State.Keeps.ite | with_reducible apply State.Keeps.ite2 | with_reducible apply State.Keeps.ite22 | with_reducible apply State.Keeps.ite222 | with_reducible apply State.Keeps.ite1 | with_reducible apply State.Keeps.ite21 | with_reducible apply State.Keeps.foldl | with_reducible apply State.Keeps.foldl2 | with_reducible apply State.Keeps.foldl22 | with_reducible apply State.Keeps.foldl222 | with_reducible apply State.Keeps.foldl1 | split | ((with_reducible conv => arg 2; whnf); split) | ((with_reducible conv => arg 2; arg 1; whnf); split) | ((with_reducible conv => arg 2; arg 1; arg 1; whnf); split) | with_reducible apply State.Keeps.mk_)

theorem State.faultMxa_keeps (b0 : State) (s : State) (die idx code f : Nat) (bad : Option (Nat × Nat × Nat)) (h0 : b0.Keeps s) : b0.Keeps (State.faultMxa s die idx code f bad) := by
  have h1 := State.acfUnwrite_keeps _ _ die idx f h0
  have h2 := State.updRun_keeps _ _ die idx (fun r => { r with entry := (s.acfUnwrite die idx f).acfFlags die idx }) h1
  have h3 := State.faultUnit_keeps _ _ 2 die idx code f h2
  have h4 := State.updDie_keeps _ _ die (fun d => { d with pend := d.pend.map (fun p => if p.owner == idx then { p with until_ := min p.until_ (f + 1) } else p) }) h3
  have h5 := fun n k u => State.needSpare_keeps _ _ k die 0 u false (State.nameReports_keeps _ _ n C.MXA_CHECK k u h4)
  exact State.Keeps.ite h4 (h5 _ _ _)

theorem startNTile_keeps (b0 : State) (die idx q : Nat) (c : Cmd) (bad : Option (Nat × Nat × Nat)) (s : State) (h0 : b0.Keeps s) : b0.Keeps (startNTile die idx q c bad s) := by
  unfold startNTile
  split
  · exact h0
  · split
    · exact h0
    · next r o md nts _ =>
      refine State.Keeps.ite h0 ?_
      extract_lets ents hold rows marks s1 s2 s3
      have h1 : b0.Keeps s1 := State.count_keeps _ _ _ _ _ h0
      have h2 : b0.Keeps s2 := State.Keeps.ite h1 (State.expo_keeps _ _ _ _ _ _ _ _ _ _ _ h1)
      have h3 : b0.Keeps s3 := State.updDie_keeps _ _ _ _ h2
      have h4 : b0.Keeps (rows.foldl (mxEnter bad q) (none, s3)).2 := State.Keeps.foldl2 h3 (fun u x h => mxEnter_keeps _ _ _ _ _ h)
      revert h4
      generalize rows.foldl (mxEnter bad q) (none, s3) = p
      obtain ⟨fault, u⟩ := p
      intro h4
      have h5 : b0.Keeps (rows.foldl (mxWrite idx fault) u) := State.Keeps.foldl h4 (fun u x h => mxWrite_keeps _ _ _ _ _ h)
      have h6 := fun v => State.setF_keeps _ _ (F.MXA_STATUS_ACTIVE_PLANE die) v h5
      have h7 := fun v f => State.updRun_keeps _ _ die idx f (h6 v)
      cases fault with
      | none => exact h7 _ _
      | some x => exact State.faultMxa_keeps _ _ _ _ _ _ _ (h7 _ _)

theorem doMxaNtileStart_keeps (b0 : State) (die idx n : Nat) (residue : Option (Nat × Nat × Nat)) (s : State) (h0 : b0.Keeps s) : b0.Keeps (doMxaNtileStart die idx n residue s) := by
  unfold doMxaNtileStart
  repeat' (first | with_reducible assumption | intro _ _ _ | intro _ | with_reducible apply startNTile_keeps | with_reducible apply State.Keeps.ite | with_reducible apply State.Keeps.ite2 | with_reducible apply State.Keeps.ite22 | with_reducible apply State.Keeps.ite222 | with_reducible apply State.Keeps.ite1 | with_reducible apply State.Keeps.ite21 | split | ((with_reducible conv => arg 2; whnf); split) | ((with_reducible conv => arg 2; arg 1; whnf); split) | ((with_reducible conv => arg 2; arg 1; arg 1; whnf); split) | with_reducible refine State.Keeps.eq2 (by with_reducible assumption) ?_ | with_reducible refine State.Keeps.eq22 (by with_reducible assumption) ?_ | with_reducible refine State.Keeps.eq222 (by with_reducible assumption) ?_ | with_reducible refine State.Keeps.eq1 (by with_reducible assumption) ?_ | with_reducible apply State.Keeps.mk_)

theorem execMxaNtileStart_keeps (b0 : State) (die : Fin 4) (idx : Nat) (n : NTileStart) (s : State) (h0 : b0.Keeps s) : b0.KeepsOut (execMxaNtileStart die idx n s) := by
  unfold execMxaNtileStart
  repeat' (first | with_reducible assumption | intro _ _ _ | intro _ | with_reducible apply doMxaNtileStart_keeps | with_reducible apply State.Keeps.next | with_reducible apply State.Keeps.mk_)

theorem mxaEnd_keeps (b0 : State) (die idx : Nat) (c : Cmd) (s : State) (h0 : b0.Keeps s) : b0.Keeps (mxaEnd die idx c s) := by
  unfold mxaEnd
  repeat' (first | with_reducible assumption | intro _ _ _ | intro _ | with_reducible apply State.count_keeps | with_reducible apply State.perform_keeps | with_reducible apply State.Keeps.ite | with_reducible apply State.Keeps.ite2 | with_reducible apply State.Keeps.ite22 | with_reducible apply State.Keeps.ite222 | with_reducible apply State.Keeps.ite1 | with_reducible apply State.Keeps.ite21 | split | ((with_reducible conv => arg 2; whnf); split) | ((with_reducible conv => arg 2; arg 1; whnf); split) | ((with_reducible conv => arg 2; arg 1; arg 1; whnf); split) | with_reducible refine State.Keeps.eq2 (by with_reducible assumption) ?_ | with_reducible refine State.Keeps.eq22 (by with_reducible assumption) ?_ | with_reducible refine State.Keeps.eq222 (by with_reducible assumption) ?_ | with_reducible refine State.Keeps.eq1 (by with_reducible assumption) ?_ | with_reducible apply State.Keeps.mk_)

theorem doMxa_keeps (b0 : State) (die idx : Nat) (residue : Option (Nat × Nat × Nat)) (s : State) (h0 : b0.Keeps s) : b0.Keeps (doMxa die idx residue s) := by
  unfold doMxa
  repeat' (first | with_reducible assumption | intro _ _ _ | intro _ | with_reducible apply State.faultUnit_keeps | with_reducible apply State.count_keeps | with_reducible apply mxaEnd_keeps | with_reducible apply startNTile_keeps | with_reducible apply State.Keeps.ite | with_reducible apply State.Keeps.ite2 | with_reducible apply State.Keeps.ite22 | with_reducible apply State.Keeps.ite222 | with_reducible apply State.Keeps.ite1 | with_reducible apply State.Keeps.ite21 | with_reducible apply State.Keeps.foldl | with_reducible apply State.Keeps.foldl2 | with_reducible apply State.Keeps.foldl22 | with_reducible apply State.Keeps.foldl222 | with_reducible apply State.Keeps.foldl1 | split | ((with_reducible conv => arg 2; whnf); split) | ((with_reducible conv => arg 2; arg 1; whnf); split) | ((with_reducible conv => arg 2; arg 1; arg 1; whnf); split) | with_reducible refine State.Keeps.eq2 (by with_reducible assumption) ?_ | with_reducible refine State.Keeps.eq22 (by with_reducible assumption) ?_ | with_reducible refine State.Keeps.eq222 (by with_reducible assumption) ?_ | with_reducible refine State.Keeps.eq1 (by with_reducible assumption) ?_ | with_reducible apply State.Keeps.mk_)

theorem execMxa_keeps (b0 : State) (die : Fin 4) (idx : Nat) (residueFail : Option (Nat × Nat × Nat)) (s : State) (h0 : b0.Keeps s) : b0.KeepsOut (execMxa die idx residueFail s) := by
  unfold execMxa
  repeat' (first | with_reducible assumption | with_reducible apply doMxa_keeps | with_reducible apply State.Keeps.next)

end Sys2Proof.Machine
end

