-- ==== Sys2Proof/Laws/KeepsTiers.lean ====
section
/-! SUPPORT. What every operation of Machine/Tiers.lean keeps: the queue, the part, and the canonical forms. -/
namespace Sys2Proof.Machine

set_option linter.all false
set_option Elab.async false

theorem State.countHbm_keeps (b0 : State) (s : State) (die l x n : Nat) (h0 : b0.Keeps s) : b0.Keeps (State.countHbm s die l x n) := by
  unfold State.countHbm
  repeat' (first | with_reducible assumption | with_reducible apply State.count_keeps | split | ((with_reducible conv => arg 2; whnf); split) | with_reducible refine State.Keeps.eq2 (by with_reducible assumption) ?_ | with_reducible refine State.Keeps.eq22 (by with_reducible assumption) ?_ | with_reducible refine State.Keeps.eq1 (by with_reducible assumption) ?_)

theorem State.takeSlot_keeps (b0 : State) (s : State) (die req pc t : Nat) (h0 : b0.Keeps s) : b0.Keeps (State.takeSlot s die req pc t).2 := by
  unfold State.takeSlot
  repeat' (first | with_reducible assumption | intro _ _ _ | intro _ | with_reducible apply State.updDie_keeps | with_reducible apply State.count_keeps | with_reducible apply State.Keeps.ite | with_reducible apply State.Keeps.ite2 | with_reducible apply State.Keeps.ite22 | with_reducible apply State.Keeps.ite222 | with_reducible apply State.Keeps.ite1 | with_reducible apply State.Keeps.ite21 | split | ((with_reducible conv => arg 2; whnf); split) | ((with_reducible conv => arg 2; arg 1; whnf); split) | ((with_reducible conv => arg 2; arg 1; arg 1; whnf); split) | with_reducible refine State.Keeps.eq2 (by with_reducible assumption) ?_ | with_reducible refine State.Keeps.eq22 (by with_reducible assumption) ?_ | with_reducible refine State.Keeps.eq222 (by with_reducible assumption) ?_ | with_reducible refine State.Keeps.eq1 (by with_reducible assumption) ?_ | with_reducible apply State.Keeps.pair2 | with_reducible apply State.Keeps.pair22 | with_reducible apply State.Keeps.pair222 | with_reducible apply State.Keeps.mk_)

theorem State.noteRetry_keeps (b0 : State) (s : State) (die m idx cost det : Nat) (h0 : b0.Keeps s) : b0.Keeps (State.noteRetry s die m idx cost det) := by
  unfold State.noteRetry
  repeat' (first | with_reducible assumption | intro _ _ _ | intro _ | with_reducible apply State.raiseCmd_keeps | with_reducible apply State.expo_keeps | with_reducible apply State.satF_keeps | with_reducible apply State.hwSet_keeps | with_reducible apply State.count_keeps | with_reducible apply State.updPart_keeps | with_reducible apply State.updRun_keeps | split | ((with_reducible conv => arg 2; whnf); split) | ((with_reducible conv => arg 2; arg 1; whnf); split) | ((with_reducible conv => arg 2; arg 1; arg 1; whnf); split) | with_reducible apply State.Keeps.mk_)

theorem State.retry_keeps (b0 : State) (s : State) (req cost det : Nat) (h0 : b0.Keeps s) : b0.Keeps (State.retry s req cost det) := by
  unfold State.retry
  repeat' (first | with_reducible assumption | intro _ _ _ | intro _ | with_reducible apply State.noteRetry_keeps | with_reducible apply State.raise_keeps | with_reducible apply State.updPart_keeps | with_reducible apply State.hwSet_keeps | with_reducible apply State.count_keeps | with_reducible apply State.Keeps.ite | with_reducible apply State.Keeps.ite2 | with_reducible apply State.Keeps.ite22 | with_reducible apply State.Keeps.ite222 | with_reducible apply State.Keeps.ite1 | with_reducible apply State.Keeps.ite21 | split | ((with_reducible conv => arg 2; whnf); split) | ((with_reducible conv => arg 2; arg 1; whnf); split) | ((with_reducible conv => arg 2; arg 1; arg 1; whnf); split) | with_reducible refine State.Keeps.eq2 (by with_reducible assumption) ?_ | with_reducible refine State.Keeps.eq22 (by with_reducible assumption) ?_ | with_reducible refine State.Keeps.eq222 (by with_reducible assumption) ?_ | with_reducible refine State.Keeps.eq1 (by with_reducible assumption) ?_ | with_reducible apply State.Keeps.mk_)

theorem State.flitFails_keeps (b0 : State) (s : State) (k : FailKind) (req x y : Nat) (h0 : b0.Keeps s) : b0.Keeps (s.flitFails k req x y).2 := by
  unfold State.flitFails
  split
  · exact h0
  · exact State.Keeps.mk_ h0

theorem State.readFails_keeps (b0 : State) (s : State) (k : FailKind) (req a : Nat) (h0 : b0.Keeps s) : b0.Keeps (s.readFails k req a).2 := by
  unfold State.readFails
  split
  · exact h0
  · split
    · exact State.Keeps.mk_ h0
    · exact State.Keeps.mk_ h0

theorem State.serveHit_keeps (b0 : State) (s : State) (die req t : Nat) (h0 : b0.Keeps s) : b0.Keeps (State.serveHit s die req t).2 := by
  unfold State.serveHit
  repeat' (first | with_reducible assumption | intro _ _ _ | intro _ | with_reducible apply State.updDie_keeps | with_reducible apply State.Keeps.ite | with_reducible apply State.Keeps.ite2 | with_reducible apply State.Keeps.ite22 | with_reducible apply State.Keeps.ite222 | with_reducible apply State.Keeps.ite1 | with_reducible apply State.Keeps.ite21 | split | ((with_reducible conv => arg 2; whnf); split) | ((with_reducible conv => arg 2; arg 1; whnf); split) | ((with_reducible conv => arg 2; arg 1; arg 1; whnf); split) | with_reducible apply State.Keeps.mk_)

theorem State.cacheHit_keeps (b0 : State) (s : State) (die req l t : Nat) (u : CacheUnit) (uses : Nat) (h0 : b0.Keeps s) : b0.Keeps (State.cacheHit s die req l t u uses).2 := by
  unfold State.cacheHit
  repeat' (first | with_reducible assumption | intro _ _ _ | intro _ | with_reducible apply State.serveHit_keeps | with_reducible apply State.countHbm_keeps | with_reducible apply State.satF_keeps | with_reducible apply State.updDie_keeps | with_reducible apply State.Keeps.ite | with_reducible apply State.Keeps.ite2 | with_reducible apply State.Keeps.ite22 | with_reducible apply State.Keeps.ite222 | with_reducible apply State.Keeps.ite1 | with_reducible apply State.Keeps.ite21 | split | ((with_reducible conv => arg 2; whnf); split) | ((with_reducible conv => arg 2; arg 1; whnf); split) | ((with_reducible conv => arg 2; arg 1; arg 1; whnf); split) | with_reducible refine State.Keeps.eq2 (by with_reducible assumption) ?_ | with_reducible refine State.Keeps.eq22 (by with_reducible assumption) ?_ | with_reducible refine State.Keeps.eq1 (by with_reducible assumption) ?_ | with_reducible apply State.Keeps.mk_)

theorem State.cacheAlloc_keeps (b0 : State) (s : State) (die req l o c : Nat) (hint : Option (Nat × Nat)) (h0 : b0.Keeps s) : b0.Keeps (State.cacheAlloc s die req l o c hint) := by
  unfold State.cacheAlloc
  repeat' (first | with_reducible assumption | intro _ _ _ | intro _ | with_reducible apply State.countHbm_keeps | with_reducible apply State.satF_keeps | with_reducible apply State.updDie_keeps | with_reducible apply State.Keeps.ite | with_reducible apply State.Keeps.ite2 | with_reducible apply State.Keeps.ite22 | with_reducible apply State.Keeps.ite222 | with_reducible apply State.Keeps.ite1 | with_reducible apply State.Keeps.ite21 | split | ((with_reducible conv => arg 2; whnf); split) | ((with_reducible conv => arg 2; arg 1; whnf); split) | ((with_reducible conv => arg 2; arg 1; arg 1; whnf); split) | with_reducible refine State.Keeps.eq2 (by with_reducible assumption) ?_ | with_reducible refine State.Keeps.eq22 (by with_reducible assumption) ?_ | with_reducible refine State.Keeps.eq222 (by with_reducible assumption) ?_ | with_reducible refine State.Keeps.eq1 (by with_reducible assumption) ?_ | with_reducible apply State.Keeps.mk_)

theorem State.hbmCorrected_keeps (b0 : State) (s : State) (die l n : Nat) (h0 : b0.Keeps s) : b0.Keeps (State.hbmCorrected s die l n) := by
  unfold State.hbmCorrected
  repeat' (first | with_reducible assumption | intro _ _ _ | intro _ | with_reducible apply State.satF_keeps | with_reducible apply State.count_keeps | with_reducible apply State.updDie_keeps | with_reducible apply State.startBringIn_keeps | with_reducible apply State.Keeps.ite | with_reducible apply State.Keeps.ite2 | with_reducible apply State.Keeps.ite22 | with_reducible apply State.Keeps.ite222 | with_reducible apply State.Keeps.ite1 | with_reducible apply State.Keeps.ite21 | split | ((with_reducible conv => arg 2; whnf); split) | ((with_reducible conv => arg 2; arg 1; whnf); split) | ((with_reducible conv => arg 2; arg 1; arg 1; whnf); split) | with_reducible refine State.Keeps.eq2 (by with_reducible assumption) ?_ | with_reducible refine State.Keeps.eq22 (by with_reducible assumption) ?_ | with_reducible refine State.Keeps.eq1 (by with_reducible assumption) ?_ | with_reducible apply State.Keeps.mk_)

theorem State.rereadNote_keeps (b0 : State) (s : State) (die l cost : Nat) (h0 : b0.Keeps s) : b0.Keeps (State.rereadNote s die l cost) := by
  unfold State.rereadNote
  repeat' (first | with_reducible assumption | intro _ _ _ | intro _ | with_reducible apply State.hwSet_keeps | with_reducible apply State.count_keeps | with_reducible apply State.raise_keeps | with_reducible apply State.expo_keeps | with_reducible apply State.updPart_keeps | with_reducible apply State.updDie_keeps | with_reducible apply State.startBringIn_keeps | with_reducible apply State.Keeps.ite | with_reducible apply State.Keeps.ite2 | with_reducible apply State.Keeps.ite22 | with_reducible apply State.Keeps.ite222 | with_reducible apply State.Keeps.ite1 | with_reducible apply State.Keeps.ite21 | split | ((with_reducible conv => arg 2; whnf); split) | ((with_reducible conv => arg 2; arg 1; whnf); split) | ((with_reducible conv => arg 2; arg 1; arg 1; whnf); split) | with_reducible refine State.Keeps.eq2 (by with_reducible assumption) ?_ | with_reducible refine State.Keeps.eq22 (by with_reducible assumption) ?_ | with_reducible refine State.Keeps.eq222 (by with_reducible assumption) ?_ | with_reducible refine State.Keeps.eq1 (by with_reducible assumption) ?_ | with_reducible apply State.Keeps.mk_)

theorem State.t1Lost_keeps (b0 : State) (s : State) (die l : Nat) (gone : Bool) (h0 : b0.Keeps s) : b0.Keeps (State.t1Lost s die l gone) := by
  unfold State.t1Lost
  repeat' (first | with_reducible assumption | intro _ _ _ | intro _ | with_reducible apply State.hwSet_keeps | with_reducible apply State.pcLost_keeps | with_reducible apply State.Keeps.ite | with_reducible apply State.Keeps.ite2 | with_reducible apply State.Keeps.ite22 | with_reducible apply State.Keeps.ite222 | with_reducible apply State.Keeps.ite1 | with_reducible apply State.Keeps.ite21 | split | ((with_reducible conv => arg 2; whnf); split) | ((with_reducible conv => arg 2; arg 1; whnf); split) | ((with_reducible conv => arg 2; arg 1; arg 1; whnf); split) | with_reducible refine State.Keeps.eq2 (by with_reducible assumption) ?_ | with_reducible refine State.Keeps.eq22 (by with_reducible assumption) ?_ | with_reducible refine State.Keeps.eq222 (by with_reducible assumption) ?_ | with_reducible refine State.Keeps.eq1 (by with_reducible assumption) ?_ | with_reducible apply State.Keeps.mk_)

theorem rereads_keeps (b0 : State) (die req l : Nat) (x0 : Nat) (x1 : Nat) (x2 : State) (h0 : b0.Keeps x2) : b0.Keeps (rereads die req l x0 x1 x2).2 := by
  induction x0 generalizing x1 x2 with
  | zero =>
    unfold rereads
    repeat' (first | with_reducible assumption | intro _ _ _ | intro _ | with_reducible apply State.takeSlot_keeps | with_reducible apply State.rereadNote_keeps | with_reducible apply State.retry_keeps | split | ((with_reducible conv => arg 2; whnf); split) | ((with_reducible conv => arg 2; arg 1; whnf); split) | ((with_reducible conv => arg 2; arg 1; arg 1; whnf); split) | with_reducible refine State.Keeps.eq2 (by with_reducible assumption) ?_ | with_reducible refine State.Keeps.eq22 (by with_reducible assumption) ?_ | with_reducible refine State.Keeps.eq222 (by with_reducible assumption) ?_ | with_reducible refine State.Keeps.eq1 (by with_reducible assumption) ?_ | with_reducible apply State.Keeps.pair2 | with_reducible apply State.Keeps.pair22 | with_reducible apply State.Keeps.pair222 | with_reducible apply State.Keeps.mk_)
  | succ k ih =>
    unfold rereads
    repeat' (first | with_reducible apply ih | with_reducible assumption | intro _ _ _ | intro _ | with_reducible apply State.takeSlot_keeps | with_reducible apply State.rereadNote_keeps | with_reducible apply State.retry_keeps | split | ((with_reducible conv => arg 2; whnf); split) | ((with_reducible conv => arg 2; arg 1; whnf); split) | ((with_reducible conv => arg 2; arg 1; arg 1; whnf); split) | with_reducible refine State.Keeps.eq2 (by with_reducible assumption) ?_ | with_reducible refine State.Keeps.eq22 (by with_reducible assumption) ?_ | with_reducible refine State.Keeps.eq222 (by with_reducible assumption) ?_ | with_reducible refine State.Keeps.eq1 (by with_reducible assumption) ?_ | with_reducible apply State.Keeps.pair2 | with_reducible apply State.Keeps.pair22 | with_reducible apply State.Keeps.pair222 | with_reducible apply State.Keeps.mk_)

theorem State.t1Check_keeps (b0 : State) (s : State) (die req l a n c : Nat) (h0 : b0.Keeps s) : b0.Keeps (State.t1Check s die req l a n c).2.2 := by
  unfold State.t1Check
  repeat' (first | with_reducible assumption | intro _ _ _ | intro _ | with_reducible apply State.t1Lost_keeps | with_reducible apply rereads_keeps | with_reducible apply State.readFails_keeps | with_reducible apply State.correct_keeps | with_reducible apply State.hbmCorrected_keeps | with_reducible apply State.Keeps.ite | with_reducible apply State.Keeps.ite2 | with_reducible apply State.Keeps.ite22 | with_reducible apply State.Keeps.ite222 | with_reducible apply State.Keeps.ite1 | with_reducible apply State.Keeps.ite21 | split | ((with_reducible conv => arg 2; whnf); split) | ((with_reducible conv => arg 2; arg 1; whnf); split) | ((with_reducible conv => arg 2; arg 1; arg 1; whnf); split) | with_reducible refine State.Keeps.eq2 (by with_reducible assumption) ?_ | with_reducible refine State.Keeps.eq22 (by with_reducible assumption) ?_ | with_reducible refine State.Keeps.eq222 (by with_reducible assumption) ?_ | with_reducible refine State.Keeps.eq1 (by with_reducible assumption) ?_ | with_reducible apply State.Keeps.pair2 | with_reducible apply State.Keeps.pair22 | with_reducible apply State.Keeps.pair222 | with_reducible apply State.Keeps.mk_)

theorem State.unitCheck_keeps (b0 : State) (s : State) (die req l a : Nat) (u : CacheUnit) (h0 : b0.Keeps s) : b0.Keeps (State.unitCheck s die req l a u).2 := by
  unfold State.unitCheck
  repeat' (first | with_reducible assumption | intro _ _ _ | intro _ | with_reducible apply State.readFails_keeps | with_reducible apply State.updDie_keeps | with_reducible apply State.retry_keeps | with_reducible apply State.Keeps.ite | with_reducible apply State.Keeps.ite2 | with_reducible apply State.Keeps.ite22 | with_reducible apply State.Keeps.ite222 | with_reducible apply State.Keeps.ite1 | with_reducible apply State.Keeps.ite21 | split | ((with_reducible conv => arg 2; whnf); split) | ((with_reducible conv => arg 2; arg 1; whnf); split) | ((with_reducible conv => arg 2; arg 1; arg 1; whnf); split) | with_reducible refine State.Keeps.eq2 (by with_reducible assumption) ?_ | with_reducible refine State.Keeps.eq22 (by with_reducible assumption) ?_ | with_reducible refine State.Keeps.eq222 (by with_reducible assumption) ?_ | with_reducible refine State.Keeps.eq1 (by with_reducible assumption) ?_ | with_reducible apply State.Keeps.pair2 | with_reducible apply State.Keeps.pair22 | with_reducible apply State.Keeps.pair222 | with_reducible apply State.Keeps.mk_)

theorem State.t1Miss_keeps (b0 : State) (s : State) (die req a n t : Nat) (hint : Option (Nat × Nat)) (h0 : b0.Keeps s) : b0.Keeps (State.t1Miss s die req a n t hint).2 := by
  unfold State.t1Miss
  repeat' (first | with_reducible assumption | intro _ _ _ | intro _ | with_reducible apply State.takeSlot_keeps | with_reducible apply State.countHbm_keeps | with_reducible apply State.t1Check_keeps | with_reducible apply State.cacheAlloc_keeps | with_reducible apply State.Keeps.ite | with_reducible apply State.Keeps.ite2 | with_reducible apply State.Keeps.ite22 | with_reducible apply State.Keeps.ite222 | with_reducible apply State.Keeps.ite1 | with_reducible apply State.Keeps.ite21 | split | ((with_reducible conv => arg 2; whnf); split) | ((with_reducible conv => arg 2; arg 1; whnf); split) | ((with_reducible conv => arg 2; arg 1; arg 1; whnf); split) | with_reducible refine State.Keeps.eq2 (by with_reducible assumption) ?_ | with_reducible refine State.Keeps.eq22 (by with_reducible assumption) ?_ | with_reducible refine State.Keeps.eq222 (by with_reducible assumption) ?_ | with_reducible refine State.Keeps.eq1 (by with_reducible assumption) ?_ | with_reducible apply State.Keeps.pair2 | with_reducible apply State.Keeps.pair22 | with_reducible apply State.Keeps.pair222 | with_reducible apply State.Keeps.mk_)

theorem State.t1Read_keeps (b0 : State) (s : State) (die req a n t : Nat) (h0 : b0.Keeps s) : b0.Keeps (State.t1Read s die req a n t).2 := by
  unfold State.t1Read
  repeat' (first | with_reducible assumption | intro _ _ _ | intro _ | with_reducible apply State.unitCheck_keeps | with_reducible apply State.cacheHit_keeps | with_reducible apply State.t1Miss_keeps | with_reducible apply State.Keeps.ite | with_reducible apply State.Keeps.ite2 | with_reducible apply State.Keeps.ite22 | with_reducible apply State.Keeps.ite222 | with_reducible apply State.Keeps.ite1 | with_reducible apply State.Keeps.ite21 | split | ((with_reducible conv => arg 2; whnf); split) | ((with_reducible conv => arg 2; arg 1; whnf); split) | ((with_reducible conv => arg 2; arg 1; arg 1; whnf); split) | with_reducible refine State.Keeps.eq2 (by with_reducible assumption) ?_ | with_reducible refine State.Keeps.eq22 (by with_reducible assumption) ?_ | with_reducible refine State.Keeps.eq222 (by with_reducible assumption) ?_ | with_reducible refine State.Keeps.eq1 (by with_reducible assumption) ?_ | with_reducible apply State.Keeps.pair2 | with_reducible apply State.Keeps.pair22 | with_reducible apply State.Keeps.pair222 | with_reducible apply State.Keeps.mk_)

theorem State.t1Write_keeps (b0 : State) (s : State) (die req a : Nat) (b : List Byte) (t : Nat) (h0 : b0.Keeps s) : b0.Keeps (State.t1Write s die req a b t).2 := by
  unfold State.t1Write
  repeat' (first | with_reducible assumption | intro _ _ _ | intro _ | with_reducible apply State.takeSlot_keeps | with_reducible apply State.countHbm_keeps | with_reducible apply State.t1Lost_keeps | with_reducible apply State.hbmCorrected_keeps | with_reducible apply State.putAt_keeps | with_reducible apply State.Keeps.ite | with_reducible apply State.Keeps.ite2 | with_reducible apply State.Keeps.ite22 | with_reducible apply State.Keeps.ite222 | with_reducible apply State.Keeps.ite1 | with_reducible apply State.Keeps.ite21 | split | ((with_reducible conv => arg 2; whnf); split) | ((with_reducible conv => arg 2; arg 1; whnf); split) | ((with_reducible conv => arg 2; arg 1; arg 1; whnf); split) | with_reducible refine State.Keeps.eq2 (by with_reducible assumption) ?_ | with_reducible refine State.Keeps.eq22 (by with_reducible assumption) ?_ | with_reducible refine State.Keeps.eq222 (by with_reducible assumption) ?_ | with_reducible refine State.Keeps.eq1 (by with_reducible assumption) ?_ | with_reducible apply State.Keeps.pair2 | with_reducible apply State.Keeps.pair22 | with_reducible apply State.Keeps.pair222 | with_reducible apply State.Keeps.mk_)

theorem State.adderSlots_keeps (b0 : State) (s : State) (die req t : Nat) (us : List Nat) (h0 : b0.Keeps s) : b0.Keeps (State.adderSlots s die req t us).2 := by
  unfold State.adderSlots
  repeat' (first | with_reducible assumption | intro _ _ _ | intro _ | with_reducible apply State.takeSlot_keeps | with_reducible apply State.Keeps.ite | with_reducible apply State.Keeps.ite2 | with_reducible apply State.Keeps.ite22 | with_reducible apply State.Keeps.ite222 | with_reducible apply State.Keeps.ite1 | with_reducible apply State.Keeps.ite21 | with_reducible apply State.Keeps.foldl | with_reducible apply State.Keeps.foldl2 | with_reducible apply State.Keeps.foldl22 | with_reducible apply State.Keeps.foldl222 | with_reducible apply State.Keeps.foldl1 | split | ((with_reducible conv => arg 2; whnf); split) | ((with_reducible conv => arg 2; arg 1; whnf); split) | ((with_reducible conv => arg 2; arg 1; arg 1; whnf); split) | with_reducible refine State.Keeps.eq2 (by with_reducible assumption) ?_ | with_reducible refine State.Keeps.eq22 (by with_reducible assumption) ?_ | with_reducible refine State.Keeps.eq222 (by with_reducible assumption) ?_ | with_reducible refine State.Keeps.eq1 (by with_reducible assumption) ?_ | with_reducible apply State.Keeps.pair2 | with_reducible apply State.Keeps.pair22 | with_reducible apply State.Keeps.pair222 | with_reducible apply State.Keeps.mk_)

theorem adderElem_keeps (b0 : State) (die req t : Nat) (r : RangeE) (w base first : Nat) (cover : Nat → Bool) (x : AddRun) (i : Nat) (h0 : b0.Keeps x.s) :
    b0.Keeps (adderElem die req t r w base first cover x i).s := by
  unfold adderElem
  split
  · dsimp only []
    split
    · exact h0
    · split
      · exact h0
      · next b _ =>
        have h1 := State.adderSlots_keeps b0 x.s die req t (if r.sel < 2 ∧ i ≠ first ∧ i * adderE r.sel % 64 ≠ 0 then [] else adderUnits r i ++ adderUnits r i) h0
        split
        · next e => exact State.Keeps.eq2 e h1
        · next f c' s e =>
          have h2 := State.countHbm_keeps _ s die (s.t1Pc die (r.target i % 0x2000000000)).1 4 1 (State.Keeps.eq2 e h1)
          have h3 := fun f' => State.t1Check_keeps _ _ die req (s.t1Pc die (r.target i % 0x2000000000)).1 (r.target i) (adderWord r.sel) f' h2
          have h4 := h3 (if (if r.sel < 2 ∧ i ≠ first ∧ i * adderE r.sel % 64 ≠ 0 then ([] : List Nat) else adderUnits r i ++ adderUnits r i).isEmpty = true then x.first else f)
          revert h4
          generalize State.t1Check _ _ _ _ _ _ _ = q
          obtain ⟨ok, c2, u⟩ := q
          intro h4
          cases ok with
          | false => exact h4
          | true =>
            split
            · exact h4
            · split
              · exact h4
              · next h => exact State.storeAt_keeps _ _ _ _ _ _ _ _ h4 h
  · exact h0

theorem State.adderWrite_keeps (b0 : State) (s : State) (die req a : Nat) (b : List Byte) (t : Nat) (cover : Nat → Bool) (part : List (Nat × Byte)) (h0 : b0.Keeps s) :
    b0.Keeps (s.adderWrite die req a b t cover part).2.2.2 := by
  have hf : ∀ (r : RangeE) (w base first : Nat) (l : List Nat) (x : AddRun), b0.Keeps x.s → b0.Keeps (l.foldl (adderElem die req t r w base first cover) x).s := by
    intro r w base first l
    induction l with
    | nil => exact fun _ h => h
    | cons i l ih => exact fun x h => ih _ (adderElem_keeps b0 die req t r w base first cover x i h)
  unfold State.adderWrite
  split
  · exact h0
  · dsimp only []
    split <;> exact hf _ _ _ _ _ _ h0

theorem State.adderRead_keeps (b0 : State) (s : State) (die req a n t : Nat) (h0 : b0.Keeps s) : b0.Keeps (State.adderRead s die req a n t).2 := by
  unfold State.adderRead
  repeat' (first | with_reducible assumption | intro _ _ _ | intro _ | with_reducible apply State.adderSlots_keeps | with_reducible apply State.t1Check_keeps | with_reducible apply State.Keeps.ite | with_reducible apply State.Keeps.ite2 | with_reducible apply State.Keeps.ite22 | with_reducible apply State.Keeps.ite222 | with_reducible apply State.Keeps.ite1 | with_reducible apply State.Keeps.ite21 | with_reducible apply State.Keeps.foldl | with_reducible apply State.Keeps.foldl2 | with_reducible apply State.Keeps.foldl22 | with_reducible apply State.Keeps.foldl222 | with_reducible apply State.Keeps.foldl1 | split | ((with_reducible conv => arg 2; whnf); split) | ((with_reducible conv => arg 2; arg 1; whnf); split) | ((with_reducible conv => arg 2; arg 1; arg 1; whnf); split) | with_reducible refine State.Keeps.eq2 (by with_reducible assumption) ?_ | with_reducible refine State.Keeps.eq22 (by with_reducible assumption) ?_ | with_reducible refine State.Keeps.eq222 (by with_reducible assumption) ?_ | with_reducible refine State.Keeps.eq1 (by with_reducible assumption) ?_ | with_reducible apply State.Keeps.pair2 | with_reducible apply State.Keeps.pair22 | with_reducible apply State.Keeps.pair222 | with_reducible apply State.Keeps.mk_)

theorem State.faultReq_keeps (b0 : State) (s : State) (req code : Nat) (h0 : b0.Keeps s) : b0.Keeps (State.faultReq s req code) := by
  unfold State.faultReq
  repeat' (first | with_reducible assumption | with_reducible apply State.faultUnit_keeps | with_reducible apply State.answer_keeps | split | ((with_reducible conv => arg 2; whnf); split) | with_reducible refine State.Keeps.eq2 (by with_reducible assumption) ?_ | with_reducible refine State.Keeps.eq22 (by with_reducible assumption) ?_ | with_reducible refine State.Keeps.eq1 (by with_reducible assumption) ?_)

theorem doAdderWrite_keeps (b0 : State) (req a : Nat) (data : List Byte) (s : State) (h0 : b0.Keeps s) : b0.Keeps (doAdderWrite req a data s) := by
  unfold doAdderWrite
  repeat' (first | with_reducible assumption | intro _ _ _ | intro _ | with_reducible apply State.answer_keeps | with_reducible apply State.adderWrite_keeps | with_reducible apply State.faultReq_keeps | split | ((with_reducible conv => arg 2; whnf); split) | ((with_reducible conv => arg 2; arg 1; whnf); split) | ((with_reducible conv => arg 2; arg 1; arg 1; whnf); split) | with_reducible refine State.Keeps.eq2 (by with_reducible assumption) ?_ | with_reducible refine State.Keeps.eq22 (by with_reducible assumption) ?_ | with_reducible refine State.Keeps.eq222 (by with_reducible assumption) ?_ | with_reducible refine State.Keeps.eq1 (by with_reducible assumption) ?_ | with_reducible apply State.Keeps.mk_)

theorem execAdderWrite_keeps (b0 : State) (req : Nat) (addr : Nat) (data : List Byte) (s : State) (h0 : b0.Keeps s) : b0.KeepsOut (execAdderWrite req addr data s) := by
  unfold execAdderWrite
  repeat' (first | with_reducible assumption | with_reducible apply doAdderWrite_keeps | with_reducible apply State.Keeps.next)

theorem doAdderRead_keeps (b0 : State) (req a n : Nat) (s : State) (h0 : b0.Keeps s) : b0.Keeps (doAdderRead req a n s) := by
  unfold doAdderRead
  repeat' (first | with_reducible assumption | intro _ _ _ | intro _ | with_reducible apply State.answer_keeps | with_reducible apply State.adderRead_keeps | with_reducible apply State.answerBytes_keeps | with_reducible apply State.faultReq_keeps | split | ((with_reducible conv => arg 2; whnf); split) | ((with_reducible conv => arg 2; arg 1; whnf); split) | ((with_reducible conv => arg 2; arg 1; arg 1; whnf); split) | with_reducible refine State.Keeps.eq2 (by with_reducible assumption) ?_ | with_reducible refine State.Keeps.eq22 (by with_reducible assumption) ?_ | with_reducible refine State.Keeps.eq222 (by with_reducible assumption) ?_ | with_reducible refine State.Keeps.eq1 (by with_reducible assumption) ?_ | with_reducible apply State.Keeps.mk_)

theorem execAdderRead_keeps (b0 : State) (req : Nat) (addr : Nat) (bytes : Nat) (s : State) (h0 : b0.Keeps s) : b0.KeepsOut (execAdderRead req addr bytes s) := by
  unfold execAdderRead
  repeat' (first | with_reducible assumption | with_reducible apply doAdderRead_keeps | with_reducible apply State.Keeps.next)

theorem doHbmScrub_keeps (b0 : State) (die stack pc ondie : Nat) (s : State) (h0 : b0.Keeps s) : b0.Keeps (doHbmScrub die stack pc ondie s) := by
  unfold doHbmScrub
  repeat' (first | with_reducible assumption | intro _ _ _ | intro _ | with_reducible apply State.correct_keeps | with_reducible apply State.hbmCorrected_keeps | with_reducible apply State.satF_keeps | with_reducible apply State.count_keeps | with_reducible apply State.updDie_keeps | with_reducible apply State.hwSet_keeps | with_reducible apply State.Keeps.ite | with_reducible apply State.Keeps.ite2 | with_reducible apply State.Keeps.ite22 | with_reducible apply State.Keeps.ite222 | with_reducible apply State.Keeps.ite1 | with_reducible apply State.Keeps.ite21 | split | ((with_reducible conv => arg 2; whnf); split) | ((with_reducible conv => arg 2; arg 1; whnf); split) | ((with_reducible conv => arg 2; arg 1; arg 1; whnf); split) | with_reducible refine State.Keeps.eq2 (by with_reducible assumption) ?_ | with_reducible refine State.Keeps.eq22 (by with_reducible assumption) ?_ | with_reducible refine State.Keeps.eq222 (by with_reducible assumption) ?_ | with_reducible refine State.Keeps.eq1 (by with_reducible assumption) ?_ | with_reducible apply State.Keeps.mk_)

theorem execHbmScrub_keeps (b0 : State) (die : Fin 4) (stack : Fin 3) (u : ScrubUnit) (s : State) (h0 : b0.Keeps s) : b0.KeepsOut (execHbmScrub die stack u s) := by
  unfold execHbmScrub
  repeat' (first | with_reducible assumption | intro _ _ _ | intro _ | with_reducible apply doHbmScrub_keeps | with_reducible apply State.Keeps.next | with_reducible apply State.Keeps.mk_)

theorem doHbmRefreshPoint_keeps (b0 : State) (die stack pc : Nat) (s : State) (h0 : b0.Keeps s) : b0.Keeps (doHbmRefreshPoint die stack pc s) := by
  unfold doHbmRefreshPoint
  repeat' (first | with_reducible assumption | intro _ _ _ | intro _ | with_reducible apply State.count_keeps | with_reducible apply State.Keeps.ite | with_reducible apply State.Keeps.ite2 | with_reducible apply State.Keeps.ite22 | with_reducible apply State.Keeps.ite222 | with_reducible apply State.Keeps.ite1 | with_reducible apply State.Keeps.ite21 | split | ((with_reducible conv => arg 2; whnf); split) | ((with_reducible conv => arg 2; arg 1; whnf); split) | ((with_reducible conv => arg 2; arg 1; arg 1; whnf); split) | with_reducible apply State.Keeps.mk_)

theorem execHbmRefreshPoint_keeps (b0 : State) (die : Fin 4) (stack : Fin 3) (pc : Fin 32) (s : State) (h0 : b0.Keeps s) : b0.KeepsOut (execHbmRefreshPoint die stack pc s) := by
  unfold execHbmRefreshPoint
  repeat' (first | with_reducible assumption | with_reducible apply doHbmRefreshPoint_keeps | with_reducible apply State.Keeps.next)

theorem State.takeLink_keeps (b0 : State) (s : State) (p x y req t : Nat) (h0 : b0.Keeps s) : b0.Keeps (State.takeLink s p x y req t).2 := by
  unfold State.takeLink
  repeat' (first | with_reducible assumption | intro _ _ _ | intro _ | with_reducible apply State.count_keeps | with_reducible apply State.updDie_keeps | with_reducible apply State.Keeps.ite | with_reducible apply State.Keeps.ite2 | with_reducible apply State.Keeps.ite22 | with_reducible apply State.Keeps.ite222 | with_reducible apply State.Keeps.ite1 | with_reducible apply State.Keeps.ite21 | split | ((with_reducible conv => arg 2; whnf); split) | ((with_reducible conv => arg 2; arg 1; whnf); split) | ((with_reducible conv => arg 2; arg 1; arg 1; whnf); split) | with_reducible refine State.Keeps.eq2 (by with_reducible assumption) ?_ | with_reducible refine State.Keeps.eq22 (by with_reducible assumption) ?_ | with_reducible refine State.Keeps.eq222 (by with_reducible assumption) ?_ | with_reducible refine State.Keeps.eq1 (by with_reducible assumption) ?_ | with_reducible apply State.Keeps.pair2 | with_reducible apply State.Keeps.pair22 | with_reducible apply State.Keeps.pair222 | with_reducible apply State.Keeps.mk_)

theorem State.linkReplay_keeps (b0 : State) (s : State) (x y req cost : Nat) (h0 : b0.Keeps s) : b0.Keeps (State.linkReplay s x y req cost) := by
  unfold State.linkReplay
  repeat' (first | with_reducible assumption | intro _ _ _ | intro _ | with_reducible apply State.satF_keeps | with_reducible apply State.count_keeps | with_reducible apply State.needSpare_keeps | with_reducible apply State.retry_keeps | with_reducible apply State.Keeps.ite | with_reducible apply State.Keeps.ite2 | with_reducible apply State.Keeps.ite22 | with_reducible apply State.Keeps.ite222 | with_reducible apply State.Keeps.ite1 | with_reducible apply State.Keeps.ite21 | split | ((with_reducible conv => arg 2; whnf); split) | ((with_reducible conv => arg 2; arg 1; whnf); split) | ((with_reducible conv => arg 2; arg 1; arg 1; whnf); split) | with_reducible apply State.Keeps.mk_)

theorem sendAgain_keeps (b0 : State) (p x y req : Nat) (x0 : Nat) (x1 : Nat) (x2 : State) (h0 : b0.Keeps x2) : b0.Keeps (sendAgain p x y req x0 x1 x2).2 := by
  induction x0 generalizing x1 x2 with
  | zero =>
    unfold sendAgain
    repeat' (first | with_reducible assumption | intro _ _ _ | intro _ | with_reducible apply State.flitFails_keeps | with_reducible apply State.takeLink_keeps | with_reducible apply State.linkReplay_keeps | split | ((with_reducible conv => arg 2; whnf); split) | ((with_reducible conv => arg 2; arg 1; whnf); split) | ((with_reducible conv => arg 2; arg 1; arg 1; whnf); split) | with_reducible refine State.Keeps.eq2 (by with_reducible assumption) ?_ | with_reducible refine State.Keeps.eq22 (by with_reducible assumption) ?_ | with_reducible refine State.Keeps.eq222 (by with_reducible assumption) ?_ | with_reducible refine State.Keeps.eq1 (by with_reducible assumption) ?_ | with_reducible apply State.Keeps.pair2 | with_reducible apply State.Keeps.pair22 | with_reducible apply State.Keeps.pair222 | with_reducible apply State.Keeps.mk_)
  | succ k ih =>
    unfold sendAgain
    repeat' (first | with_reducible apply ih | with_reducible assumption | intro _ _ _ | intro _ | with_reducible apply State.flitFails_keeps | with_reducible apply State.takeLink_keeps | with_reducible apply State.linkReplay_keeps | split | ((with_reducible conv => arg 2; whnf); split) | ((with_reducible conv => arg 2; arg 1; whnf); split) | ((with_reducible conv => arg 2; arg 1; arg 1; whnf); split) | with_reducible refine State.Keeps.eq2 (by with_reducible assumption) ?_ | with_reducible refine State.Keeps.eq22 (by with_reducible assumption) ?_ | with_reducible refine State.Keeps.eq222 (by with_reducible assumption) ?_ | with_reducible refine State.Keeps.eq1 (by with_reducible assumption) ?_ | with_reducible apply State.Keeps.pair2 | with_reducible apply State.Keeps.pair22 | with_reducible apply State.Keeps.pair222 | with_reducible apply State.Keeps.mk_)

theorem State.sendFlit_keeps (b0 : State) (s : State) (p x y req t : Nat) (h0 : b0.Keeps s) : b0.Keeps (State.sendFlit s p x y req t).2 := by
  unfold State.sendFlit
  repeat' (first | with_reducible assumption | intro _ _ _ | intro _ | with_reducible apply State.takeLink_keeps | with_reducible apply sendAgain_keeps | with_reducible apply State.Keeps.foldl | with_reducible apply State.Keeps.foldl2 | with_reducible apply State.Keeps.foldl22 | with_reducible apply State.Keeps.foldl222 | with_reducible apply State.Keeps.foldl1 | split | ((with_reducible conv => arg 2; whnf); split) | ((with_reducible conv => arg 2; arg 1; whnf); split) | ((with_reducible conv => arg 2; arg 1; arg 1; whnf); split) | with_reducible refine State.Keeps.eq2 (by with_reducible assumption) ?_ | with_reducible refine State.Keeps.eq22 (by with_reducible assumption) ?_ | with_reducible refine State.Keeps.eq222 (by with_reducible assumption) ?_ | with_reducible refine State.Keeps.eq1 (by with_reducible assumption) ?_ | with_reducible apply State.Keeps.pair2 | with_reducible apply State.Keeps.pair22 | with_reducible apply State.Keeps.pair222 | with_reducible apply State.Keeps.mk_)

theorem resendData_keeps (b0 : State) (p x y req : Nat) (x0 : Nat) (x1 : Nat) (x2 : State) (h0 : b0.Keeps x2) : b0.Keeps (resendData p x y req x0 x1 x2).2 := by
  induction x0 generalizing x1 x2 with
  | zero =>
    unfold resendData
    repeat' (first | with_reducible assumption | intro _ _ _ | intro _ | with_reducible apply State.flitFails_keeps | with_reducible apply State.sendFlit_keeps | with_reducible apply State.retry_keeps | split | ((with_reducible conv => arg 2; whnf); split) | ((with_reducible conv => arg 2; arg 1; whnf); split) | ((with_reducible conv => arg 2; arg 1; arg 1; whnf); split) | with_reducible refine State.Keeps.eq2 (by with_reducible assumption) ?_ | with_reducible refine State.Keeps.eq22 (by with_reducible assumption) ?_ | with_reducible refine State.Keeps.eq222 (by with_reducible assumption) ?_ | with_reducible refine State.Keeps.eq1 (by with_reducible assumption) ?_ | with_reducible apply State.Keeps.pair2 | with_reducible apply State.Keeps.pair22 | with_reducible apply State.Keeps.pair222 | with_reducible apply State.Keeps.mk_)
  | succ k ih =>
    unfold resendData
    repeat' (first | with_reducible apply ih | with_reducible assumption | intro _ _ _ | intro _ | with_reducible apply State.flitFails_keeps | with_reducible apply State.sendFlit_keeps | with_reducible apply State.retry_keeps | split | ((with_reducible conv => arg 2; whnf); split) | ((with_reducible conv => arg 2; arg 1; whnf); split) | ((with_reducible conv => arg 2; arg 1; arg 1; whnf); split) | with_reducible refine State.Keeps.eq2 (by with_reducible assumption) ?_ | with_reducible refine State.Keeps.eq22 (by with_reducible assumption) ?_ | with_reducible refine State.Keeps.eq222 (by with_reducible assumption) ?_ | with_reducible refine State.Keeps.eq1 (by with_reducible assumption) ?_ | with_reducible apply State.Keeps.pair2 | with_reducible apply State.Keeps.pair22 | with_reducible apply State.Keeps.pair222 | with_reducible apply State.Keeps.mk_)

theorem State.sendData_keeps (b0 : State) (s : State) (p x y req t : Nat) (h0 : b0.Keeps s) : b0.Keeps (State.sendData s p x y req t).2 := by
  unfold State.sendData
  repeat' (first | with_reducible assumption | intro _ _ _ | intro _ | with_reducible apply State.sendFlit_keeps | with_reducible apply resendData_keeps | split | ((with_reducible conv => arg 2; whnf); split) | ((with_reducible conv => arg 2; arg 1; whnf); split) | ((with_reducible conv => arg 2; arg 1; arg 1; whnf); split) | with_reducible refine State.Keeps.eq2 (by with_reducible assumption) ?_ | with_reducible refine State.Keeps.eq22 (by with_reducible assumption) ?_ | with_reducible refine State.Keeps.eq222 (by with_reducible assumption) ?_ | with_reducible refine State.Keeps.eq1 (by with_reducible assumption) ?_ | with_reducible apply State.Keeps.pair2 | with_reducible apply State.Keeps.pair22 | with_reducible apply State.Keeps.pair222 | with_reducible apply State.Keeps.mk_)

theorem State.reach_keeps (b0 : State) (s : State) (x y req t : Nat) (h0 : b0.Keeps s) : b0.Keeps (State.reach s x y req t).2 := by
  unfold State.reach
  repeat' (first | with_reducible assumption | intro _ _ _ | intro _ | with_reducible apply State.sendFlit_keeps | with_reducible apply State.Keeps.ite | with_reducible apply State.Keeps.ite2 | with_reducible apply State.Keeps.ite22 | with_reducible apply State.Keeps.ite222 | with_reducible apply State.Keeps.ite1 | with_reducible apply State.Keeps.ite21 | split | ((with_reducible conv => arg 2; whnf); split) | ((with_reducible conv => arg 2; arg 1; whnf); split) | ((with_reducible conv => arg 2; arg 1; arg 1; whnf); split) | with_reducible refine State.Keeps.eq2 (by with_reducible assumption) ?_ | with_reducible refine State.Keeps.eq22 (by with_reducible assumption) ?_ | with_reducible refine State.Keeps.eq222 (by with_reducible assumption) ?_ | with_reducible refine State.Keeps.eq1 (by with_reducible assumption) ?_ | with_reducible apply State.Keeps.pair2 | with_reducible apply State.Keeps.pair22 | with_reducible apply State.Keeps.pair222 | with_reducible apply State.Keeps.mk_)

theorem State.extReadPiece_keeps (b0 : State) (s : State) (req a n t : Nat) (h0 : b0.Keeps s) : b0.Keeps (State.extReadPiece s req a n t).2.2.2 := by
  unfold State.extReadPiece
  split
  · exact h0
  · dsimp only []
    have h1 : b0.Keeps (if (s.adderAt (a / 0x2000000000) a).isSome then s.adderRead (a / 0x2000000000) req a n t else s.t1Read (a / 0x2000000000) req a n t).2 :=
      State.Keeps.ite2 (State.adderRead_keeps _ _ _ _ _ _ _ h0) (State.t1Read_keeps _ _ _ _ _ _ _ h0)
    revert h1
    generalize (if (s.adderAt (a / 0x2000000000) a).isSome then s.adderRead (a / 0x2000000000) req a n t else s.t1Read (a / 0x2000000000) req a n t) = q
    obtain ⟨x, u⟩ := q
    intro h1
    cases x <;> exact h1
  · split
    · exact h0
    · split
      · exact State.hwSet_keeps _ _ _ _ (State.noteDouble_keeps _ _ _ _ h0)
      · next d _ _ _ =>
        have h1 := State.spmRead_keeps b0 s d 8 req t (a - spmBase d) n h0
        revert h1
        generalize s.spmRead d 8 req t (a - spmBase d) n = q
        obtain ⟨x, u⟩ := q
        cases x <;> exact id
  · have h1 := State.count_keeps b0 s 4 352 1 h0
    dsimp only []
    split
    · exact State.count_keeps _ _ _ _ _ (State.satF_keeps _ _ _ _ h1)
    · have h2 := State.correct_keeps _ _ a n h1
      revert h2
      generalize (s.count 4 352 1).correct a n = q
      obtain ⟨x, u⟩ := q
      intro h2
      exact State.Keeps.ite h2 (State.count_keeps _ _ _ _ _ (State.satF_keeps _ _ _ _ h2))
  · have h1 := State.readFails_keeps b0 s .t3 req a h0
    revert h1
    generalize s.readFails .t3 req a = q
    obtain ⟨x, u⟩ := q
    intro h1
    exact State.Keeps.ite222 h1 h1

theorem State.extReadFlit_keeps (b0 : State) (s : State) (req a n t : Nat) (h0 : b0.Keeps s) : b0.Keeps (State.extReadFlit s req a n t).2.2.2 := by
  unfold State.extReadFlit
  repeat' (first | with_reducible assumption | intro _ _ _ | intro _ | with_reducible apply State.extReadPiece_keeps | with_reducible apply State.Keeps.ite | with_reducible apply State.Keeps.ite2 | with_reducible apply State.Keeps.ite22 | with_reducible apply State.Keeps.ite222 | with_reducible apply State.Keeps.ite1 | with_reducible apply State.Keeps.ite21 | with_reducible apply State.Keeps.foldl | with_reducible apply State.Keeps.foldl2 | with_reducible apply State.Keeps.foldl22 | with_reducible apply State.Keeps.foldl222 | with_reducible apply State.Keeps.foldl1 | split | ((with_reducible conv => arg 2; whnf); split) | ((with_reducible conv => arg 2; arg 1; whnf); split) | ((with_reducible conv => arg 2; arg 1; arg 1; whnf); split) | with_reducible refine State.Keeps.eq2 (by with_reducible assumption) ?_ | with_reducible refine State.Keeps.eq22 (by with_reducible assumption) ?_ | with_reducible refine State.Keeps.eq222 (by with_reducible assumption) ?_ | with_reducible refine State.Keeps.eq1 (by with_reducible assumption) ?_ | with_reducible apply State.Keeps.pair2 | with_reducible apply State.Keeps.pair22 | with_reducible apply State.Keeps.pair222 | with_reducible apply State.Keeps.mk_)

theorem State.markWait_keeps (b0 : State) (s : State) (h0 : b0.Keeps s) : b0.Keeps (State.markWait s) := by
  unfold State.markWait
  repeat' (first | with_reducible assumption | intro _ _ _ | intro _ | with_reducible apply State.Keeps.mk_)

theorem State.orWait_keeps (b0 : State) (s : State) (f : State → State) (h0 : b0.Keeps s) (hf : ∀ u, b0.Keeps u → b0.Keeps (f u)) : b0.Keeps (s.orWait f) := by
  have h1 : b0.Keeps (f { s with fdieWait := false }) := hf _ (State.Keeps.mk_ h0)
  exact State.Keeps.ite h0 h1

theorem State.reachIf_keeps (b0 : State) (s : State) (way : Bool) (x y req t : Nat) (h0 : b0.Keeps s) : b0.Keeps (State.reachIf s way x y req t).2 := by
  unfold State.reachIf
  repeat' (first | with_reducible assumption | intro _ _ _ | intro _ | with_reducible apply State.reach_keeps | with_reducible apply State.Keeps.ite | with_reducible apply State.Keeps.ite2 | with_reducible apply State.Keeps.ite22 | with_reducible apply State.Keeps.ite222 | with_reducible apply State.Keeps.ite1 | with_reducible apply State.Keeps.ite21 | split | ((with_reducible conv => arg 2; whnf); split) | ((with_reducible conv => arg 2; arg 1; whnf); split) | ((with_reducible conv => arg 2; arg 1; arg 1; whnf); split) | with_reducible apply State.Keeps.pair2 | with_reducible apply State.Keeps.pair22 | with_reducible apply State.Keeps.pair222 | with_reducible apply State.Keeps.mk_)

theorem State.extRead_keeps (b0 : State) (s : State) (req a n : Nat) (h0 : b0.Keeps s) : b0.Keeps (State.extRead s req a n).2.2 := by
  unfold State.extRead
  repeat' (first | with_reducible assumption | intro _ _ _ | intro _ | with_reducible apply State.reachIf_keeps | with_reducible apply State.extReadFlit_keeps | with_reducible apply State.markWait_keeps | with_reducible apply State.Keeps.ite | with_reducible apply State.Keeps.ite2 | with_reducible apply State.Keeps.ite22 | with_reducible apply State.Keeps.ite222 | with_reducible apply State.Keeps.ite1 | with_reducible apply State.Keeps.ite21 | with_reducible apply State.Keeps.foldl | with_reducible apply State.Keeps.foldl2 | with_reducible apply State.Keeps.foldl22 | with_reducible apply State.Keeps.foldl222 | with_reducible apply State.Keeps.foldl1 | split | ((with_reducible conv => arg 2; whnf); split) | ((with_reducible conv => arg 2; arg 1; whnf); split) | ((with_reducible conv => arg 2; arg 1; arg 1; whnf); split) | with_reducible refine State.Keeps.eq2 (by with_reducible assumption) ?_ | with_reducible refine State.Keeps.eq22 (by with_reducible assumption) ?_ | with_reducible refine State.Keeps.eq222 (by with_reducible assumption) ?_ | with_reducible refine State.Keeps.eq1 (by with_reducible assumption) ?_ | with_reducible apply State.Keeps.pair2 | with_reducible apply State.Keeps.pair22 | with_reducible apply State.Keeps.pair222 | with_reducible apply State.Keeps.mk_)

theorem State.extWritePiece_keeps (b0 : State) (s : State) (req a : Nat) (b : List Byte) (t : Nat) (cover : Nat → Bool) (part : List (Nat × Byte)) (h0 : b0.Keeps s) : b0.Keeps (State.extWritePiece s req a b t cover part).2.2 := by
  unfold State.extWritePiece
  repeat' (first | with_reducible assumption | intro _ _ _ | intro _ | with_reducible apply State.adderWrite_keeps | with_reducible apply State.t1Write_keeps | with_reducible apply State.spmWrite_keeps | with_reducible apply State.store_keeps | with_reducible apply State.count_keeps | with_reducible apply State.Keeps.ite | with_reducible apply State.Keeps.ite2 | with_reducible apply State.Keeps.ite22 | with_reducible apply State.Keeps.ite222 | with_reducible apply State.Keeps.ite1 | with_reducible apply State.Keeps.ite21 | split | ((with_reducible conv => arg 2; whnf); split) | ((with_reducible conv => arg 2; arg 1; whnf); split) | ((with_reducible conv => arg 2; arg 1; arg 1; whnf); split) | with_reducible refine State.Keeps.eq2 (by with_reducible assumption) ?_ | with_reducible refine State.Keeps.eq22 (by with_reducible assumption) ?_ | with_reducible refine State.Keeps.eq222 (by with_reducible assumption) ?_ | with_reducible refine State.Keeps.eq1 (by with_reducible assumption) ?_ | with_reducible apply State.Keeps.pair2 | with_reducible apply State.Keeps.pair22 | with_reducible apply State.Keeps.pair222 | with_reducible apply State.Keeps.mk_)

theorem State.extWriteFlit_keeps (b0 : State) (s : State) (req a : Nat) (b : List Byte) (t : Nat) (cover : Nat → Bool) (part : List (Nat × Byte)) (h0 : b0.Keeps s) : b0.Keeps (State.extWriteFlit s req a b t cover part).2.2 := by
  unfold State.extWriteFlit
  repeat' (first | with_reducible assumption | intro _ _ _ | intro _ | with_reducible apply State.extWritePiece_keeps | with_reducible apply State.Keeps.ite | with_reducible apply State.Keeps.ite2 | with_reducible apply State.Keeps.ite22 | with_reducible apply State.Keeps.ite222 | with_reducible apply State.Keeps.ite1 | with_reducible apply State.Keeps.ite21 | with_reducible apply State.Keeps.foldl | with_reducible apply State.Keeps.foldl2 | with_reducible apply State.Keeps.foldl22 | with_reducible apply State.Keeps.foldl222 | with_reducible apply State.Keeps.foldl1 | split | ((with_reducible conv => arg 2; whnf); split) | ((with_reducible conv => arg 2; arg 1; whnf); split) | ((with_reducible conv => arg 2; arg 1; arg 1; whnf); split) | with_reducible refine State.Keeps.eq2 (by with_reducible assumption) ?_ | with_reducible refine State.Keeps.eq22 (by with_reducible assumption) ?_ | with_reducible refine State.Keeps.eq222 (by with_reducible assumption) ?_ | with_reducible refine State.Keeps.eq1 (by with_reducible assumption) ?_ | with_reducible apply State.Keeps.pair2 | with_reducible apply State.Keeps.pair22 | with_reducible apply State.Keeps.pair222 | with_reducible apply State.Keeps.mk_)

theorem State.extWrite_keeps (b0 : State) (s : State) (req a : Nat) (b : List Byte) (h0 : b0.Keeps s) : b0.Keeps (State.extWrite s req a b).2 := by
  unfold State.extWrite
  repeat' (first | with_reducible assumption | intro _ _ _ | intro _ | with_reducible apply State.reachIf_keeps | with_reducible apply State.extWriteFlit_keeps | with_reducible apply State.markWait_keeps | with_reducible apply State.Keeps.ite | with_reducible apply State.Keeps.ite2 | with_reducible apply State.Keeps.ite22 | with_reducible apply State.Keeps.ite222 | with_reducible apply State.Keeps.ite1 | with_reducible apply State.Keeps.ite21 | with_reducible apply State.Keeps.foldl | with_reducible apply State.Keeps.foldl2 | with_reducible apply State.Keeps.foldl22 | with_reducible apply State.Keeps.foldl222 | with_reducible apply State.Keeps.foldl1 | split | ((with_reducible conv => arg 2; whnf); split) | ((with_reducible conv => arg 2; arg 1; whnf); split) | ((with_reducible conv => arg 2; arg 1; arg 1; whnf); split) | with_reducible refine State.Keeps.eq2 (by with_reducible assumption) ?_ | with_reducible refine State.Keeps.eq22 (by with_reducible assumption) ?_ | with_reducible refine State.Keeps.eq222 (by with_reducible assumption) ?_ | with_reducible refine State.Keeps.eq1 (by with_reducible assumption) ?_ | with_reducible apply State.Keeps.pair2 | with_reducible apply State.Keeps.pair22 | with_reducible apply State.Keeps.pair222 | with_reducible apply State.Keeps.mk_)

theorem doLinkReplay_keeps (b0 : State) (e l req skip n : Nat) (s : State) (h0 : b0.Keeps s) : b0.Keeps (doLinkReplay e l req skip n s) := by
  unfold doLinkReplay
  repeat' (first | with_reducible assumption | intro _ _ _ | intro _ | with_reducible apply State.Keeps.ite | with_reducible apply State.Keeps.ite2 | with_reducible apply State.Keeps.ite22 | with_reducible apply State.Keeps.ite222 | with_reducible apply State.Keeps.ite1 | with_reducible apply State.Keeps.ite21 | split | ((with_reducible conv => arg 2; whnf); split) | ((with_reducible conv => arg 2; arg 1; whnf); split) | ((with_reducible conv => arg 2; arg 1; arg 1; whnf); split) | with_reducible apply State.Keeps.mk_)

theorem execLinkReplay_keeps (b0 : State) (e : Fin 6) (l : Fin 5) (req skip n : Nat) (s : State) (h0 : b0.Keeps s) : b0.KeepsOut (execLinkReplay e l req skip n s) := by
  unfold execLinkReplay
  repeat' (first | with_reducible assumption | intro _ _ _ | intro _ | with_reducible apply doLinkReplay_keeps | with_reducible apply State.Keeps.next | with_reducible apply State.Keeps.mk_)

theorem doMoverRetransmit_keeps (b0 : State) (req y skip n : Nat) (s : State) (h0 : b0.Keeps s) : b0.Keeps (doMoverRetransmit req y skip n s) := by
  unfold doMoverRetransmit
  repeat' (first | with_reducible assumption | intro _ _ _ | intro _ | with_reducible apply State.Keeps.mk_)

theorem execMoverRetransmit_keeps (b0 : State) (req : Nat) (y : Fin 6) (skip n : Nat) (s : State) (h0 : b0.Keeps s) : b0.KeepsOut (execMoverRetransmit req y skip n s) := by
  unfold execMoverRetransmit
  repeat' (first | with_reducible assumption | intro _ _ _ | intro _ | with_reducible apply doMoverRetransmit_keeps | with_reducible apply State.Keeps.next | with_reducible apply State.Keeps.mk_)

theorem doT1EccReread_keeps (b0 : State) (req a skip tries : Nat) (unit : Bool) (s : State) (h0 : b0.Keeps s) : b0.Keeps (doT1EccReread req a skip tries unit s) := by
  unfold doT1EccReread
  repeat' (first | with_reducible assumption | intro _ _ _ | intro _ | with_reducible apply State.Keeps.ite | with_reducible apply State.Keeps.ite2 | with_reducible apply State.Keeps.ite22 | with_reducible apply State.Keeps.ite222 | with_reducible apply State.Keeps.ite1 | with_reducible apply State.Keeps.ite21 | split | ((with_reducible conv => arg 2; whnf); split) | ((with_reducible conv => arg 2; arg 1; whnf); split) | ((with_reducible conv => arg 2; arg 1; arg 1; whnf); split) | with_reducible apply State.Keeps.mk_)

theorem execT1EccReread_keeps (b0 : State) (req addr skip tries : Nat) (unit : Bool) (s : State) (h0 : b0.Keeps s) : b0.KeepsOut (execT1EccReread req addr skip tries unit s) := by
  unfold execT1EccReread
  repeat' (first | with_reducible assumption | intro _ _ _ | intro _ | with_reducible apply doT1EccReread_keeps | with_reducible apply State.Keeps.next | with_reducible apply State.Keeps.mk_)

end Sys2Proof.Machine
end

