-- ==== Sys2Proof/Laws/KeepsFabric.lean ====
section
/-! SUPPORT. What every operation of Machine/Fabric.lean keeps: the queue, the part, and the canonical forms. -/
namespace Sys2Proof.Machine

set_option linter.all false
set_option Elab.async false

theorem State.sendOn_keeps (b0 : State) (s : State) (k : Packet) (p : Nat) (h0 : b0.Keeps s) : b0.Keeps (State.sendOn s k p) := by
  unfold State.sendOn
  repeat' (first | with_reducible assumption | with_reducible apply State.count_keeps | with_reducible apply State.satF_keeps | with_reducible apply State.Keeps.mk_)

theorem State.emit_keeps (b0 : State) (s : State) (k : Packet) (h0 : b0.Keeps s) : b0.Keeps (State.emit s k) := by
  unfold State.emit
  repeat' (first | with_reducible assumption | with_reducible apply State.sendOn_keeps | split | ((with_reducible conv => arg 2; whnf); split) | with_reducible refine State.Keeps.eq2 (by with_reducible assumption) ?_ | with_reducible refine State.Keeps.eq22 (by with_reducible assumption) ?_ | with_reducible refine State.Keeps.eq1 (by with_reducible assumption) ?_ | with_reducible apply State.Keeps.mk_)

theorem State.flushWaiting_keeps (b0 : State) (s : State) (h0 : b0.Keeps s) : b0.Keeps (State.flushWaiting s) := by
  unfold State.flushWaiting
  repeat' (first | with_reducible assumption | intro _ _ _ | intro _ | with_reducible apply State.emit_keeps | with_reducible apply State.Keeps.foldl | with_reducible apply State.Keeps.foldl2 | with_reducible apply State.Keeps.foldl22 | with_reducible apply State.Keeps.foldl222 | with_reducible apply State.Keeps.foldl1 | split | ((with_reducible conv => arg 2; whnf); split) | ((with_reducible conv => arg 2; arg 1; whnf); split) | ((with_reducible conv => arg 2; arg 1; arg 1; whnf); split) | with_reducible apply State.Keeps.mk_)

theorem State.setRegion_keeps (b0 : State) (s : State) (r : Nat) (x : Region) (h0 : b0.Keeps s) : b0.Keeps (State.setRegion s r x) := by
  unfold State.setRegion
  repeat' (first | with_reducible assumption | with_reducible apply State.Keeps.mk_)

theorem State.setFence_keeps (b0 : State) (s : State) (n : Nat) (x : Fence) (h0 : b0.Keeps s) : b0.Keeps (State.setFence s n x) := by
  unfold State.setFence
  repeat' (first | with_reducible assumption | with_reducible apply State.Keeps.mk_)

theorem State.fenceComplete_keeps (b0 : State) (s : State) (n node : Nat) (h0 : b0.Keeps s) : b0.Keeps (State.fenceComplete s n node) := by
  unfold State.fenceComplete
  repeat' (first | with_reducible assumption | intro _ _ _ | intro _ | with_reducible apply State.sendDep_keeps | with_reducible apply State.Keeps.ite | with_reducible apply State.Keeps.foldl | with_reducible apply State.Keeps.foldl2 | with_reducible apply State.Keeps.foldl22 | with_reducible apply State.Keeps.foldl222 | with_reducible apply State.Keeps.foldl1 | split | ((with_reducible conv => arg 2; whnf); split) | with_reducible apply State.Keeps.mk_)

theorem State.fenceCount_keeps (b0 : State) (s : State) (n step node : Nat) (h0 : b0.Keeps s) : b0.Keeps (State.fenceCount s n step node) := by
  unfold State.fenceCount
  repeat' (first | with_reducible assumption | intro _ _ _ | intro _ | with_reducible apply State.count_keeps | with_reducible apply State.setFence_keeps | with_reducible apply State.fenceComplete_keeps | with_reducible apply State.Keeps.ite | split | ((with_reducible conv => arg 2; whnf); split) | with_reducible apply State.Keeps.mk_)

theorem State.rollFences_keeps (b0 : State) (s : State) (p j : Nat) (rerun : Bool) (h0 : b0.Keeps s) : b0.Keeps (State.rollFences s p j rerun) := by
  unfold State.rollFences
  repeat' (first | with_reducible assumption | intro _ _ _ | intro _ | with_reducible apply State.setFence_keeps | with_reducible apply State.updPart_keeps | with_reducible apply State.Keeps.ite | with_reducible apply State.Keeps.ite2 | with_reducible apply State.Keeps.ite22 | with_reducible apply State.Keeps.ite222 | with_reducible apply State.Keeps.ite1 | with_reducible apply State.Keeps.ite21 | with_reducible apply State.Keeps.foldl | with_reducible apply State.Keeps.foldl2 | with_reducible apply State.Keeps.foldl22 | with_reducible apply State.Keeps.foldl222 | with_reducible apply State.Keeps.foldl1 | split | ((with_reducible conv => arg 2; whnf); split) | ((with_reducible conv => arg 2; arg 1; whnf); split) | ((with_reducible conv => arg 2; arg 1; arg 1; whnf); split) | with_reducible apply State.Keeps.mk_)

theorem State.updTx_keeps (b0 : State) (s : State) (part dst seq : Nat) (f : Tx → Tx) (h0 : b0.Keeps s) : b0.Keeps (State.updTx s part dst seq f) := by
  unfold State.updTx
  repeat' (first | with_reducible assumption | intro _ _ _ | intro _ | with_reducible apply State.Keeps.ite | split | ((with_reducible conv => arg 2; whnf); split) | with_reducible apply State.Keeps.mk_)

theorem State.launch_keeps (b0 : State) (s : State) (t : Tx) (retx : Bool) (h0 : b0.Keeps s) : b0.Keeps (State.launch s t retx) := by
  unfold State.launch
  repeat' (first | with_reducible assumption | intro _ _ _ | intro _ | with_reducible apply State.emit_keeps | with_reducible apply State.updTx_keeps | with_reducible apply State.Keeps.foldl | with_reducible apply State.Keeps.foldl2 | with_reducible apply State.Keeps.foldl22 | with_reducible apply State.Keeps.foldl222 | with_reducible apply State.Keeps.foldl1 | split | ((with_reducible conv => arg 2; whnf); split) | with_reducible apply State.Keeps.mk_)

theorem State.newTx_keeps (b0 : State) (s : State) (part dst op vc group region key : Nat) (addrs : List (Nat × List Byte)) (org : Origin) (h0 : b0.Keeps s) : b0.Keeps (State.newTx s part dst op vc group region key addrs org) := by
  unfold State.newTx
  repeat' (first | with_reducible assumption | intro _ _ _ | intro _ | with_reducible apply State.launch_keeps | with_reducible apply State.Keeps.ite | split | ((with_reducible conv => arg 2; whnf); split) | with_reducible apply State.Keeps.mk_)

theorem State.launchWaiting_keeps (b0 : State) (s : State) (part dst : Nat) (h0 : b0.Keeps s) : b0.Keeps (State.launchWaiting s part dst) := by
  unfold State.launchWaiting
  repeat' (first | with_reducible assumption | intro _ _ _ | intro _ | with_reducible apply State.launch_keeps | with_reducible apply State.Keeps.ite | with_reducible apply State.Keeps.ite2 | with_reducible apply State.Keeps.ite22 | with_reducible apply State.Keeps.ite222 | with_reducible apply State.Keeps.ite1 | with_reducible apply State.Keeps.ite21 | with_reducible apply State.Keeps.foldl | with_reducible apply State.Keeps.foldl2 | with_reducible apply State.Keeps.foldl22 | with_reducible apply State.Keeps.foldl222 | with_reducible apply State.Keeps.foldl1 | split | ((with_reducible conv => arg 2; whnf); split) | ((with_reducible conv => arg 2; arg 1; whnf); split) | ((with_reducible conv => arg 2; arg 1; arg 1; whnf); split))

theorem State.answerTx_keeps (b0 : State) (s : State) (t : Tx) (nack : Bool) (h0 : b0.Keeps s) : b0.Keeps (State.answerTx s t nack) := by
  unfold State.answerTx
  repeat' (first | with_reducible assumption | intro _ _ _ | intro _ | with_reducible apply State.updTx_keeps | with_reducible apply State.fenceCount_keeps | with_reducible apply State.launchWaiting_keeps | with_reducible apply State.Keeps.ite | with_reducible apply State.Keeps.ite2 | with_reducible apply State.Keeps.ite22 | with_reducible apply State.Keeps.ite222 | with_reducible apply State.Keeps.ite1 | with_reducible apply State.Keeps.ite21 | with_reducible apply State.Keeps.foldl | with_reducible apply State.Keeps.foldl2 | with_reducible apply State.Keeps.foldl22 | with_reducible apply State.Keeps.foldl222 | with_reducible apply State.Keeps.foldl1 | split | ((with_reducible conv => arg 2; whnf); split) | ((with_reducible conv => arg 2; arg 1; whnf); split) | ((with_reducible conv => arg 2; arg 1; arg 1; whnf); split) | with_reducible refine State.Keeps.eq2 (by with_reducible assumption) ?_ | with_reducible refine State.Keeps.eq22 (by with_reducible assumption) ?_ | with_reducible refine State.Keeps.eq1 (by with_reducible assumption) ?_ | with_reducible apply State.Keeps.mk_)

theorem State.rollSeqs_keeps (b0 : State) (s : State) (p : Nat) (rerun : Bool) (h0 : b0.Keeps s) : b0.Keeps (State.rollSeqs s p rerun) := by
  unfold State.rollSeqs
  repeat' (first | with_reducible assumption | intro _ _ _ | intro _ | with_reducible apply State.emit_keeps | with_reducible apply State.Keeps.ite | with_reducible apply State.Keeps.ite2 | with_reducible apply State.Keeps.ite22 | with_reducible apply State.Keeps.ite222 | with_reducible apply State.Keeps.ite1 | with_reducible apply State.Keeps.ite21 | with_reducible apply State.Keeps.foldl | with_reducible apply State.Keeps.foldl2 | with_reducible apply State.Keeps.foldl22 | with_reducible apply State.Keeps.foldl222 | with_reducible apply State.Keeps.foldl1 | split | ((with_reducible conv => arg 2; whnf); split) | ((with_reducible conv => arg 2; arg 1; whnf); split) | ((with_reducible conv => arg 2; arg 1; arg 1; whnf); split) | with_reducible apply State.Keeps.mk_)

theorem State.newTxOnce_keeps (b0 : State) (s : State) (part dst op vc group region key : Nat) (addrs : List (Nat × List Byte)) (org : Origin) (h0 : b0.Keeps s) : b0.Keeps (State.newTxOnce s part dst op vc group region key addrs org) := by
  unfold State.newTxOnce
  repeat' (first | with_reducible assumption | intro _ _ _ | intro _ | with_reducible apply State.newTx_keeps | split | ((with_reducible conv => arg 2; whnf); split) | with_reducible refine State.Keeps.eq2 (by with_reducible assumption) ?_ | with_reducible refine State.Keeps.eq22 (by with_reducible assumption) ?_ | with_reducible refine State.Keeps.eq1 (by with_reducible assumption) ?_ | with_reducible apply State.Keeps.mk_)

theorem State.setCut_keeps (b0 : State) (s : State) (org : Origin) (runs : List (Nat × List Byte)) (h0 : b0.Keeps s) : b0.Keeps (State.setCut s org runs) := by
  unfold State.setCut
  repeat' (first | with_reducible assumption | intro _ | with_reducible apply State.Keeps.mk_)

theorem State.sendWrite_keeps (b0 : State) (s : State) (part dst vc region : Nat) (runs : List (Nat × List Byte)) (more : Bool) (org : Origin) (h0 : b0.Keeps s) : b0.Keeps (State.sendWrite s part dst vc region runs more org).2 := by
  unfold State.sendWrite
  repeat' (first | with_reducible assumption | with_reducible apply State.setCut_keeps | intro _ _ _ | intro _ | with_reducible apply State.newTxOnce_keeps | with_reducible apply State.Keeps.ite | with_reducible apply State.Keeps.ite2 | with_reducible apply State.Keeps.ite22 | with_reducible apply State.Keeps.ite222 | with_reducible apply State.Keeps.ite1 | with_reducible apply State.Keeps.ite21 | with_reducible apply State.Keeps.foldl | with_reducible apply State.Keeps.foldl2 | with_reducible apply State.Keeps.foldl22 | with_reducible apply State.Keeps.foldl222 | with_reducible apply State.Keeps.foldl1 | split | ((with_reducible conv => arg 2; whnf); split) | ((with_reducible conv => arg 2; arg 1; whnf); split) | ((with_reducible conv => arg 2; arg 1; arg 1; whnf); split))

theorem State.refuse_keeps (b0 : State) (s : State) (part code src region : Nat) (h0 : b0.Keeps s) : b0.Keeps (State.refuse s part code src region) := by
  unfold State.refuse
  repeat' (first | with_reducible assumption | with_reducible apply State.satF_keeps | with_reducible apply State.raiseP_keeps | with_reducible apply State.Keeps.ite | split | ((with_reducible conv => arg 2; whnf); split) | with_reducible apply State.Keeps.mk_)

theorem State.performOp_keeps (b0 : State) (s : State) (part op a : Nat) (data : List Byte) (h0 : b0.Keeps s) : b0.Keeps (State.performOp s part op a data).2.2 := by
  unfold State.performOp
  repeat' (first | with_reducible assumption | intro _ _ _ | intro _ | with_reducible apply State.raiseP_keeps | with_reducible apply State.extRead_keeps | with_reducible apply State.extWrite_keeps | with_reducible apply State.Keeps.ite | with_reducible apply State.Keeps.ite2 | with_reducible apply State.Keeps.ite22 | with_reducible apply State.Keeps.ite222 | with_reducible apply State.Keeps.ite1 | with_reducible apply State.Keeps.ite21 | split | ((with_reducible conv => arg 2; whnf); split) | ((with_reducible conv => arg 2; arg 1; whnf); split) | ((with_reducible conv => arg 2; arg 1; arg 1; whnf); split) | with_reducible refine State.Keeps.eq2 (by with_reducible assumption) ?_ | with_reducible refine State.Keeps.eq22 (by with_reducible assumption) ?_ | with_reducible refine State.Keeps.eq222 (by with_reducible assumption) ?_ | with_reducible refine State.Keeps.eq1 (by with_reducible assumption) ?_ | with_reducible apply State.Keeps.pair2 | with_reducible apply State.Keeps.pair22 | with_reducible apply State.Keeps.pair222 | with_reducible apply State.Keeps.mk_)

theorem State.sendAnswer_keeps (b0 : State) (s : State) (k : Packet) (op : Nat) (payload : List Byte) (retx : Bool) (h0 : b0.Keeps s) : b0.Keeps (State.sendAnswer s k op payload retx) := by
  unfold State.sendAnswer
  repeat' (first | with_reducible assumption | with_reducible apply State.emit_keeps | with_reducible apply State.Keeps.mk_)

theorem State.setPeer_keeps (b0 : State) (s : State) (x : PeerIn) (h0 : b0.Keeps s) : b0.Keeps (State.setPeer s x) := by
  unfold State.setPeer
  repeat' (first | with_reducible assumption | intro _ _ _ | intro _ | split | ((with_reducible conv => arg 2; whnf); split) | with_reducible apply State.Keeps.mk_)

theorem State.finishIn_keeps (b0 : State) (s : State) (part : Nat) (k : Packet) (op : Nat) (payload : List Byte) (h0 : b0.Keeps s) : b0.Keeps (State.finishIn s part k op payload) := by
  unfold State.finishIn
  repeat' (first | with_reducible assumption | with_reducible apply State.setPeer_keeps | with_reducible apply State.sendAnswer_keeps)

theorem State.countIn_keeps (b0 : State) (s : State) (part : Nat) (k : Packet) (h0 : b0.Keeps s) : b0.Keeps (State.countIn s part k) := by
  unfold State.countIn
  repeat' (first | with_reducible assumption | with_reducible apply State.raiseP_keeps | with_reducible apply State.fenceCount_keeps | with_reducible apply State.Keeps.ite | split | ((with_reducible conv => arg 2; whnf); split))

theorem State.dropEarly_keeps (b0 : State) (s : State) (part : Nat) (k : Packet) (h0 : b0.Keeps s) : b0.Keeps (State.dropEarly s part k) := by
  unfold State.dropEarly
  repeat' (first | with_reducible assumption | with_reducible apply State.satF_keeps | with_reducible apply State.raiseP_keeps | with_reducible apply State.Keeps.ite | split | ((with_reducible conv => arg 2; whnf); split) | with_reducible apply State.Keeps.mk_)

theorem State.dropCrc_keeps (b0 : State) (s : State) (k : Packet) (h0 : b0.Keeps s) : b0.Keeps (State.dropCrc s k) := by
  unfold State.dropCrc
  repeat' (first | with_reducible assumption | with_reducible apply State.satF_keeps | with_reducible apply State.count_keeps)

theorem State.passToken_keeps (b0 : State) (s : State) (r : Nat) (h0 : b0.Keeps s) : b0.Keeps (State.passToken s r) := by
  unfold State.passToken
  repeat' (first | with_reducible assumption | with_reducible apply State.setRegion_keeps | with_reducible apply State.finishIn_keeps | split | ((with_reducible conv => arg 2; whnf); split) | with_reducible refine State.Keeps.eq2 (by with_reducible assumption) ?_ | with_reducible refine State.Keeps.eq22 (by with_reducible assumption) ?_ | with_reducible refine State.Keeps.eq1 (by with_reducible assumption) ?_ | with_reducible apply State.Keeps.mk_)

theorem State.settleReleases_keeps (b0 : State) (s : State) (h0 : b0.Keeps s) : b0.Keeps (State.settleReleases s) := by
  unfold State.settleReleases
  repeat' (first | with_reducible assumption | intro _ _ _ | intro _ | with_reducible apply State.passToken_keeps | with_reducible apply State.finishIn_keeps | with_reducible apply State.Keeps.foldl | with_reducible apply State.Keeps.foldl2 | with_reducible apply State.Keeps.foldl22 | with_reducible apply State.Keeps.foldl222 | with_reducible apply State.Keeps.foldl1 | split | ((with_reducible conv => arg 2; whnf); split) | with_reducible refine State.Keeps.eq2 (by with_reducible assumption) ?_ | with_reducible refine State.Keeps.eq22 (by with_reducible assumption) ?_ | with_reducible refine State.Keeps.eq1 (by with_reducible assumption) ?_ | with_reducible apply State.Keeps.mk_)

theorem State.gwStatus_keeps (b0 : State) (s : State) (h0 : b0.Keeps s) : b0.Keeps (State.gwStatus s) := by
  unfold State.gwStatus
  repeat' (first | with_reducible assumption | intro _ _ _ | intro _ | with_reducible apply State.setF_keeps | with_reducible apply State.Keeps.foldl | with_reducible apply State.Keeps.foldl2 | with_reducible apply State.Keeps.foldl22 | with_reducible apply State.Keeps.foldl222 | with_reducible apply State.Keeps.foldl1 | split | ((with_reducible conv => arg 2; whnf); split))

theorem State.sendGathers_keeps (b0 : State) (s : State) (h0 : b0.Keeps s) : b0.Keeps (State.sendGathers s) := by
  unfold State.sendGathers
  repeat' (first | with_reducible assumption | intro _ _ _ | intro _ | with_reducible apply State.newTx_keeps | with_reducible apply State.satF_keeps | with_reducible apply State.count_keeps | with_reducible apply State.gwStatus_keeps | with_reducible apply State.Keeps.ite | with_reducible apply State.Keeps.ite2 | with_reducible apply State.Keeps.ite22 | with_reducible apply State.Keeps.ite222 | with_reducible apply State.Keeps.ite1 | with_reducible apply State.Keeps.ite21 | with_reducible apply State.Keeps.foldl | with_reducible apply State.Keeps.foldl2 | with_reducible apply State.Keeps.foldl22 | with_reducible apply State.Keeps.foldl222 | with_reducible apply State.Keeps.foldl1 | split | ((with_reducible conv => arg 2; whnf); split) | ((with_reducible conv => arg 2; arg 1; whnf); split) | ((with_reducible conv => arg 2; arg 1; arg 1; whnf); split) | with_reducible apply State.Keeps.mk_)

theorem State.closeGathers_keeps (b0 : State) (s : State) (sel : Gather → Bool) (h0 : b0.Keeps s) : b0.Keeps (State.closeGathers s sel) := by
  unfold State.closeGathers
  repeat' (first | with_reducible assumption | intro _ _ _ | intro _ | with_reducible apply State.sendGathers_keeps | with_reducible apply State.Keeps.ite | split | ((with_reducible conv => arg 2; whnf); split) | with_reducible apply State.Keeps.mk_)

theorem State.joinGather_keeps (b0 : State) (s : State) (ctx dst region vc level op size a : Nat) (data : List Byte) (resp num : Nat) (h0 : b0.Keeps s) : b0.Keeps (State.joinGather s ctx dst region vc level op size a data resp num) := by
  unfold State.joinGather
  repeat' (first | with_reducible assumption | intro _ _ _ | intro _ | with_reducible apply State.closeGathers_keeps | with_reducible apply State.gwStatus_keeps | with_reducible apply State.Keeps.ite | split | ((with_reducible conv => arg 2; whnf); split) | with_reducible refine State.Keeps.eq2 (by with_reducible assumption) ?_ | with_reducible refine State.Keeps.eq22 (by with_reducible assumption) ?_ | with_reducible refine State.Keeps.eq1 (by with_reducible assumption) ?_ | with_reducible apply State.Keeps.mk_)

theorem State.portDown_keeps (b0 : State) (s : State) (p : Nat) (h0 : b0.Keeps s) : b0.Keeps (State.portDown s p) := by
  unfold State.portDown
  repeat' (first | with_reducible assumption | intro _ _ _ | intro _ | with_reducible apply State.setF_keeps | with_reducible apply State.emit_keeps | with_reducible apply State.count_keeps | with_reducible apply State.raise_keeps | with_reducible apply State.Keeps.ite | with_reducible apply State.Keeps.foldl | with_reducible apply State.Keeps.foldl2 | with_reducible apply State.Keeps.foldl22 | with_reducible apply State.Keeps.foldl222 | with_reducible apply State.Keeps.foldl1 | split | ((with_reducible conv => arg 2; whnf); split) | with_reducible apply State.Keeps.mk_)

theorem State.portFailed_keeps (b0 : State) (s : State) (p : Nat) (h0 : b0.Keeps s) : b0.Keeps (State.portFailed s p) := by
  unfold State.portFailed
  repeat' (first | with_reducible assumption | intro _ _ _ | intro _ | with_reducible apply State.setF_keeps | with_reducible apply State.raise_keeps | split | ((with_reducible conv => arg 2; whnf); split) | with_reducible apply State.Keeps.mk_)

theorem State.laneFailed_keeps (b0 : State) (s : State) (p lane : Nat) (h0 : b0.Keeps s) : b0.Keeps (State.laneFailed s p lane) := by
  unfold State.laneFailed
  repeat' (first | with_reducible assumption | intro _ _ _ | intro _ | with_reducible apply State.setF_keeps | with_reducible apply State.dirty_keeps | with_reducible apply State.portFailed_keeps | with_reducible apply State.Keeps.ite | split | ((with_reducible conv => arg 2; whnf); split) | with_reducible refine State.Keeps.eq2 (by with_reducible assumption) ?_ | with_reducible refine State.Keeps.eq22 (by with_reducible assumption) ?_ | with_reducible refine State.Keeps.eq1 (by with_reducible assumption) ?_ | with_reducible apply State.Keeps.mk_)

theorem doLaneLightLoss_keeps (b0 : State) (p lane : Nat) (s : State) (h0 : b0.Keeps s) : b0.Keeps (doLaneLightLoss p lane s) := by
  unfold doLaneLightLoss
  repeat' (first | with_reducible assumption | with_reducible apply State.portDown_keeps | with_reducible apply State.laneFailed_keeps | with_reducible apply State.Keeps.ite | split | ((with_reducible conv => arg 2; whnf); split))

theorem execLaneLightLoss_keeps (b0 : State) (port : Fin 32) (lane : Fin 9) (s : State) (h0 : b0.Keeps s) : b0.KeepsOut (execLaneLightLoss port lane s) := by
  unfold execLaneLightLoss
  repeat' (first | with_reducible assumption | with_reducible apply doLaneLightLoss_keeps | with_reducible apply State.Keeps.next)

theorem doPortDownSymbol_keeps (b0 : State) (p : Nat) (s : State) (h0 : b0.Keeps s) : b0.Keeps (doPortDownSymbol p s) := by
  unfold doPortDownSymbol
  repeat' (first | with_reducible assumption | with_reducible apply State.portDown_keeps)

theorem execPortDownSymbol_keeps (b0 : State) (port : Fin 32) (s : State) (h0 : b0.Keeps s) : b0.KeepsOut (execPortDownSymbol port s) := by
  unfold execPortDownSymbol
  repeat' (first | with_reducible assumption | with_reducible apply doPortDownSymbol_keeps | with_reducible apply State.Keeps.next)

theorem doPortRetrain_keeps (b0 : State) (p : Nat) (s : State) (h0 : b0.Keeps s) : b0.Keeps (doPortRetrain p s) := by
  unfold doPortRetrain
  repeat' (first | with_reducible assumption | with_reducible apply State.portDown_keeps | with_reducible apply State.answer_keeps)

theorem execPortRetrain_keeps (b0 : State) (port : Fin 32) (s : State) (h0 : b0.Keeps s) : b0.KeepsOut (execPortRetrain port s) := by
  unfold execPortRetrain
  repeat' (first | with_reducible assumption | with_reducible apply doPortRetrain_keeps | with_reducible apply State.Keeps.next)

theorem doFabPortUp_keeps (b0 : State) (p : Nat) (s : State) (h0 : b0.Keeps s) : b0.Keeps (doFabPortUp p s) := by
  unfold doFabPortUp
  repeat' (first | with_reducible assumption | with_reducible apply State.portFailed_keeps | intro _ _ _ | intro _ | with_reducible apply State.raise_keeps | with_reducible apply State.count_keeps | with_reducible apply State.setF_keeps | with_reducible apply State.flushWaiting_keeps | with_reducible apply State.Keeps.ite | split | ((with_reducible conv => arg 2; whnf); split) | with_reducible apply State.Keeps.mk_)

theorem execFabPortUp_keeps (b0 : State) (port : Fin 32) (s : State) (h0 : b0.Keeps s) : b0.KeepsOut (execFabPortUp port s) := by
  unfold execFabPortUp
  repeat' (first | with_reducible assumption | with_reducible apply doFabPortUp_keeps | with_reducible apply State.Keeps.next)

theorem doPortUpTimeout_keeps (b0 : State) (p : Nat) (s : State) (h0 : b0.Keeps s) : b0.Keeps (doPortUpTimeout p s) := by
  unfold doPortUpTimeout
  repeat' (first | with_reducible assumption | with_reducible apply State.toNs_keeps | with_reducible apply State.portFailed_keeps | with_reducible apply State.Keeps.ite | split | ((with_reducible conv => arg 2; whnf); split))

theorem execPortUpTimeout_keeps (b0 : State) (port : Fin 32) (s : State) (h0 : b0.Keeps s) : b0.KeepsOut (execPortUpTimeout port s) := by
  unfold execPortUpTimeout
  repeat' (first | with_reducible assumption | with_reducible apply doPortUpTimeout_keeps | with_reducible apply State.Keeps.next)

theorem doFabLinkReplay_keeps (b0 : State) (p cost lane : Nat) (s : State) (h0 : b0.Keeps s) : b0.Keeps (doFabLinkReplay p cost lane s) := by
  unfold doFabLinkReplay
  repeat' (first | with_reducible assumption | with_reducible apply State.satF_keeps | with_reducible apply State.count_keeps | with_reducible apply State.raise_keeps | with_reducible apply State.portDown_keeps | with_reducible apply State.laneFailed_keeps | with_reducible apply State.Keeps.ite | split | ((with_reducible conv => arg 2; whnf); split) | with_reducible apply State.Keeps.mk_)

theorem execFabLinkReplay_keeps (b0 : State) (port : Fin 32) (cost lane : Nat) (s : State) (h0 : b0.Keeps s) : b0.KeepsOut (execFabLinkReplay port cost lane s) := by
  unfold execFabLinkReplay
  repeat' (first | with_reducible assumption | with_reducible apply doFabLinkReplay_keeps | with_reducible apply State.Keeps.next)

theorem doLinkAckSymbol_keeps (b0 : State) (p n : Nat) (s : State) (h0 : b0.Keeps s) : b0.Keeps (doLinkAckSymbol p n s) := by
  unfold doLinkAckSymbol
  repeat' (first | with_reducible assumption | intro _ _ _ | intro _ | with_reducible apply State.Keeps.ite | with_reducible apply State.Keeps.ite2 | with_reducible apply State.Keeps.ite22 | with_reducible apply State.Keeps.ite222 | with_reducible apply State.Keeps.ite1 | with_reducible apply State.Keeps.ite21 | with_reducible apply State.Keeps.foldl | with_reducible apply State.Keeps.foldl2 | with_reducible apply State.Keeps.foldl22 | with_reducible apply State.Keeps.foldl222 | with_reducible apply State.Keeps.foldl1 | split | ((with_reducible conv => arg 2; whnf); split) | ((with_reducible conv => arg 2; arg 1; whnf); split) | ((with_reducible conv => arg 2; arg 1; arg 1; whnf); split) | with_reducible apply State.Keeps.mk_)

theorem execLinkAckSymbol_keeps (b0 : State) (port : Fin 32) (count : Nat) (s : State) (h0 : b0.Keeps s) : b0.KeepsOut (execLinkAckSymbol port count s) := by
  unfold execLinkAckSymbol
  repeat' (first | with_reducible assumption | with_reducible apply doLinkAckSymbol_keeps | with_reducible apply State.count_keeps | with_reducible apply State.Keeps.next)

theorem doVcCreditReturn_keeps (b0 : State) (p vc n : Nat) (s : State) (h0 : b0.Keeps s) : b0.Keeps (doVcCreditReturn p vc n s) := by
  unfold doVcCreditReturn
  repeat' (first | with_reducible assumption | with_reducible apply State.flushWaiting_keeps | with_reducible apply State.Keeps.mk_)

theorem execVcCreditReturn_keeps (b0 : State) (port : Fin 32) (vc : Fin 8) (n : Nat) (s : State) (h0 : b0.Keeps s) : b0.KeepsOut (execVcCreditReturn port vc n s) := by
  unfold execVcCreditReturn
  repeat' (first | with_reducible assumption | with_reducible apply doVcCreditReturn_keeps | with_reducible apply State.Keeps.next)

theorem doFabPacketForward_keeps (b0 : State) (p : Nat) (k : Packet) (s : State) (h0 : b0.Keeps s) : b0.Keeps (doFabPacketForward p k s) := by
  unfold doFabPacketForward
  repeat' (first | with_reducible assumption | with_reducible apply State.count_keeps | with_reducible apply State.dropCrc_keeps | with_reducible apply State.emit_keeps | with_reducible apply State.Keeps.ite | split | ((with_reducible conv => arg 2; whnf); split) | with_reducible apply State.Keeps.mk_)

theorem execFabPacketForward_keeps (b0 : State) (port : Fin 32) (pkt : Packet) (s : State) (h0 : b0.Keeps s) : b0.KeepsOut (execFabPacketForward port pkt s) := by
  unfold execFabPacketForward
  repeat' (first | with_reducible assumption | with_reducible apply doFabPacketForward_keeps | with_reducible apply State.Keeps.next)

theorem doFabLevelSaturated_keeps (b0 : State) (level vc : Nat) (s : State) (h0 : b0.Keeps s) : b0.Keeps (doFabLevelSaturated level vc s) := by
  unfold doFabLevelSaturated
  repeat' (first | with_reducible assumption | with_reducible apply State.satF_keeps | with_reducible apply State.count_keeps | with_reducible apply State.raise_keeps | with_reducible apply State.Keeps.ite | split | ((with_reducible conv => arg 2; whnf); split) | with_reducible apply State.Keeps.mk_)

theorem execFabLevelSaturated_keeps (b0 : State) (level : Fin 3) (vc : Fin 8) (s : State) (h0 : b0.Keeps s) : b0.KeepsOut (execFabLevelSaturated level vc s) := by
  unfold execFabLevelSaturated
  repeat' (first | with_reducible assumption | with_reducible apply doFabLevelSaturated_keeps | with_reducible apply State.Keeps.next)

theorem State.setEgress_keeps (b0 : State) (s : State) (die level n : Nat) (h0 : b0.Keeps s) : b0.Keeps (State.setEgress s die level n) := by
  unfold State.setEgress
  repeat' (first | with_reducible assumption | with_reducible apply State.Keeps.mk_)

theorem State.leave_keeps (b0 : State) (s : State) (part die level node vc region n : Nat) (runs : List (Nat × List Byte)) (more : Bool) (org : Origin) (h0 : b0.Keeps s) :
    b0.Keeps (State.leave s part die level node vc region n runs more org).2 := by
  unfold State.leave
  repeat' (first | with_reducible assumption | with_reducible apply State.sendWrite_keeps | with_reducible apply State.setEgress_keeps)

theorem doEgressCreditReturn_keeps (b0 : State) (die level n : Nat) (s : State) (h0 : b0.Keeps s) : b0.Keeps (doEgressCreditReturn die level n s) := by
  unfold doEgressCreditReturn
  repeat' (first | with_reducible assumption | with_reducible apply State.setEgress_keeps)

theorem execEgressCreditReturn_keeps (b0 : State) (die : Fin 5) (level : Fin 3) (n : Nat) (s : State) (h0 : b0.Keeps s) : b0.KeepsOut (execEgressCreditReturn die level n s) := by
  unfold execEgressCreditReturn
  repeat' (first | with_reducible assumption | with_reducible apply doEgressCreditReturn_keeps | with_reducible apply State.Keeps.next)

theorem doPortDisableWrite_keeps (b0 : State) (p v : Nat) (s : State) (h0 : b0.Keeps s) : b0.Keeps (doPortDisableWrite p v s) := by
  unfold doPortDisableWrite
  repeat' (first | with_reducible assumption | intro _ _ _ | intro _ | with_reducible apply State.setF_keeps | with_reducible apply State.portDown_keeps | with_reducible apply State.answer_keeps | with_reducible apply State.Keeps.ite | split | ((with_reducible conv => arg 2; whnf); split) | with_reducible apply State.Keeps.mk_)

theorem execPortDisableWrite_keeps (b0 : State) (port : Fin 32) (val : Word) (s : State) (h0 : b0.Keeps s) : b0.KeepsOut (execPortDisableWrite port val s) := by
  unfold execPortDisableWrite
  repeat' (first | with_reducible assumption | with_reducible apply doPortDisableWrite_keeps | with_reducible apply State.Keeps.next)

theorem doFabEnableWrite_keeps (b0 : State) (v : Nat) (s : State) (h0 : b0.Keeps s) : b0.Keeps (doFabEnableWrite v s) := by
  unfold doFabEnableWrite
  repeat' (first | with_reducible assumption | intro _ _ _ | intro _ | with_reducible apply State.setF_keeps | with_reducible apply State.answer_keeps | with_reducible apply State.Keeps.ite | with_reducible apply State.Keeps.foldl | with_reducible apply State.Keeps.foldl2 | with_reducible apply State.Keeps.foldl22 | with_reducible apply State.Keeps.foldl222 | with_reducible apply State.Keeps.foldl1 | split | ((with_reducible conv => arg 2; whnf); split) | with_reducible apply State.Keeps.mk_)

theorem execFabEnableWrite_keeps (b0 : State) (val : Word) (s : State) (h0 : b0.Keeps s) : b0.KeepsOut (execFabEnableWrite val s) := by
  unfold execFabEnableWrite
  repeat' (first | with_reducible assumption | with_reducible apply doFabEnableWrite_keeps | with_reducible apply State.Keeps.next)

theorem State.tblPut_keeps (b0 : State) (s : State) (t i : Nat) (w : List Nat) (h0 : b0.Keeps s) : b0.Keeps (State.tblPut s t i w) := by
  unfold State.tblPut
  repeat' (first | with_reducible assumption | with_reducible apply State.setRegion_keeps | with_reducible apply State.setFence_keeps | with_reducible apply State.Keeps.ite | split | ((with_reducible conv => arg 2; whnf); split) | with_reducible apply State.Keeps.mk_)

theorem State.tblHeld_keeps (b0 : State) (s : State) (t i : Nat) (w : List Nat) (h0 : b0.Keeps s) : b0.Keeps (State.tblHeld s t i w) := by
  unfold State.tblHeld
  repeat' (first | with_reducible assumption | with_reducible apply State.setRegion_keeps | with_reducible apply State.Keeps.ite | split | ((with_reducible conv => arg 2; whnf); split) | with_reducible apply State.Keeps.mk_)

theorem State.tblSel_keeps (b0 : State) (s : State) (v : Nat) (h0 : b0.Keeps s) : b0.Keeps (State.tblSel s v) := by
  unfold State.tblSel
  repeat' (first | with_reducible assumption | with_reducible apply State.setF_keeps | with_reducible apply State.Keeps.ite | split | ((with_reducible conv => arg 2; whnf); split))

theorem doTblWrite_keeps (b0 : State) (v : Nat) (s : State) (h0 : b0.Keeps s) : b0.Keeps (doTblWrite v s) := by
  unfold doTblWrite
  repeat' (first | with_reducible assumption | intro _ _ _ | intro _ | with_reducible apply State.tblSel_keeps | with_reducible apply State.refused_keeps | with_reducible apply State.tblHeld_keeps | with_reducible apply State.tblPut_keeps | with_reducible apply State.answer_keeps | with_reducible apply State.Keeps.ite | with_reducible apply State.Keeps.ite2 | with_reducible apply State.Keeps.ite22 | with_reducible apply State.Keeps.ite222 | with_reducible apply State.Keeps.ite1 | with_reducible apply State.Keeps.ite21 | split | ((with_reducible conv => arg 2; whnf); split) | ((with_reducible conv => arg 2; arg 1; whnf); split) | ((with_reducible conv => arg 2; arg 1; arg 1; whnf); split) | with_reducible apply State.Keeps.mk_)

theorem execTblWrite_keeps (b0 : State) (val : Word) (s : State) (h0 : b0.Keeps s) : b0.KeepsOut (execTblWrite val s) := by
  unfold execTblWrite
  repeat' (first | with_reducible assumption | with_reducible apply doTblWrite_keeps | with_reducible apply State.Keeps.next)

theorem doTblRead_keeps (b0 : State) (v : Nat) (s : State) (h0 : b0.Keeps s) : b0.Keeps (doTblRead v s) := by
  unfold doTblRead
  repeat' (first | with_reducible assumption | intro _ _ _ | intro _ | with_reducible apply State.tblSel_keeps | with_reducible apply State.refused_keeps | with_reducible apply State.setF_keeps | with_reducible apply State.answer_keeps | with_reducible apply State.Keeps.ite | with_reducible apply State.Keeps.ite2 | with_reducible apply State.Keeps.ite22 | with_reducible apply State.Keeps.ite222 | with_reducible apply State.Keeps.ite1 | with_reducible apply State.Keeps.ite21 | with_reducible apply State.Keeps.foldl | with_reducible apply State.Keeps.foldl2 | with_reducible apply State.Keeps.foldl22 | with_reducible apply State.Keeps.foldl222 | with_reducible apply State.Keeps.foldl1 | split | ((with_reducible conv => arg 2; whnf); split) | ((with_reducible conv => arg 2; arg 1; whnf); split) | ((with_reducible conv => arg 2; arg 1; arg 1; whnf); split) | with_reducible apply State.Keeps.mk_)

theorem execTblRead_keeps (b0 : State) (val : Word) (s : State) (h0 : b0.Keeps s) : b0.KeepsOut (execTblRead val s) := by
  unfold execTblRead
  repeat' (first | with_reducible assumption | with_reducible apply doTblRead_keeps | with_reducible apply State.Keeps.next)

theorem State.applyTables_keeps (b0 : State) (s : State) (h0 : b0.Keeps s) : b0.Keeps (State.applyTables s) := by
  unfold State.applyTables
  repeat' (first | with_reducible assumption | intro _ _ _ | intro _ | with_reducible apply State.tblPut_keeps | with_reducible apply State.Keeps.foldl | with_reducible apply State.Keeps.foldl2 | with_reducible apply State.Keeps.foldl22 | with_reducible apply State.Keeps.foldl222 | with_reducible apply State.Keeps.foldl1 | split | ((with_reducible conv => arg 2; whnf); split) | ((with_reducible conv => arg 2; arg 1; whnf); split) | ((with_reducible conv => arg 2; arg 1; arg 1; whnf); split) | with_reducible apply State.Keeps.mk_)

theorem State.setupStart_keeps (b0 : State) (s : State) (op : Nat) (h0 : b0.Keeps s) : b0.Keeps (State.setupStart s op) := by
  unfold State.setupStart
  repeat' (first | with_reducible assumption | with_reducible apply State.setF_keeps | with_reducible apply State.Keeps.mk_)

theorem State.setupEnd_keeps (b0 : State) (s : State) (code : Nat) (h0 : b0.Keeps s) : b0.Keeps (State.setupEnd s code) := by
  unfold State.setupEnd
  repeat' (first | with_reducible assumption | intro _ _ _ | intro _ | with_reducible apply State.raise_keeps | with_reducible apply State.hwSets_keeps | with_reducible apply State.Keeps.ite | with_reducible apply State.Keeps.ite2 | with_reducible apply State.Keeps.ite22 | with_reducible apply State.Keeps.ite222 | with_reducible apply State.Keeps.ite1 | with_reducible apply State.Keeps.ite21 | split | ((with_reducible conv => arg 2; whnf); split) | ((with_reducible conv => arg 2; arg 1; whnf); split) | ((with_reducible conv => arg 2; arg 1; arg 1; whnf); split) | with_reducible apply State.Keeps.mk_)

theorem doFabDiscover_keeps (b0 : State) (s : State) (h0 : b0.Keeps s) : b0.Keeps (doFabDiscover s) := by
  unfold doFabDiscover
  repeat' (first | with_reducible assumption | intro _ _ _ | intro _ | with_reducible apply State.refused_keeps | with_reducible apply State.setupStart_keeps | with_reducible apply State.answer_keeps | with_reducible apply State.Keeps.ite | with_reducible apply State.Keeps.ite2 | with_reducible apply State.Keeps.ite22 | with_reducible apply State.Keeps.ite222 | with_reducible apply State.Keeps.ite1 | with_reducible apply State.Keeps.ite21 | split | ((with_reducible conv => arg 2; whnf); split) | ((with_reducible conv => arg 2; arg 1; whnf); split) | ((with_reducible conv => arg 2; arg 1; arg 1; whnf); split) | with_reducible apply State.Keeps.mk_)

theorem execFabDiscover_keeps (b0 : State) (s : State) (h0 : b0.Keeps s) : b0.KeepsOut (execFabDiscover s) := by
  unfold execFabDiscover
  repeat' (first | with_reducible assumption | with_reducible apply doFabDiscover_keeps | with_reducible apply State.Keeps.next)

theorem doDiscoverDone_keeps (b0 : State) (links : List (Nat × Nat × Nat)) (s : State) (h0 : b0.Keeps s) : b0.Keeps (doDiscoverDone links s) := by
  unfold doDiscoverDone
  repeat' (first | with_reducible assumption | intro _ _ _ | intro _ | with_reducible apply State.setFs_keeps | with_reducible apply State.setF_keeps | with_reducible apply State.setupEnd_keeps | with_reducible apply State.Keeps.ite | with_reducible apply State.Keeps.ite2 | with_reducible apply State.Keeps.ite22 | with_reducible apply State.Keeps.ite222 | with_reducible apply State.Keeps.ite1 | with_reducible apply State.Keeps.ite21 | with_reducible apply State.Keeps.foldl | with_reducible apply State.Keeps.foldl2 | with_reducible apply State.Keeps.foldl22 | with_reducible apply State.Keeps.foldl222 | with_reducible apply State.Keeps.foldl1 | split | ((with_reducible conv => arg 2; whnf); split) | ((with_reducible conv => arg 2; arg 1; whnf); split) | ((with_reducible conv => arg 2; arg 1; arg 1; whnf); split) | with_reducible refine State.Keeps.eq2 (by with_reducible assumption) ?_ | with_reducible refine State.Keeps.eq22 (by with_reducible assumption) ?_ | with_reducible refine State.Keeps.eq1 (by with_reducible assumption) ?_ | with_reducible apply State.Keeps.mk_)

theorem execDiscoverDone_keeps (b0 : State) (links : List (Nat × Nat × Nat)) (s : State) (h0 : b0.Keeps s) : b0.KeepsOut (execDiscoverDone links s) := by
  unfold execDiscoverDone
  repeat' (first | with_reducible assumption | with_reducible apply doDiscoverDone_keeps | with_reducible apply State.Keeps.next)

theorem doFabApply_keeps (b0 : State) (s : State) (h0 : b0.Keeps s) : b0.Keeps (doFabApply s) := by
  unfold doFabApply
  repeat' (first | with_reducible assumption | intro _ _ _ | intro _ | with_reducible apply State.refused_keeps | with_reducible apply State.setupEnd_keeps | with_reducible apply State.answer_keeps | with_reducible apply State.setupStart_keeps | with_reducible apply State.Keeps.ite | with_reducible apply State.Keeps.ite2 | with_reducible apply State.Keeps.ite22 | with_reducible apply State.Keeps.ite222 | with_reducible apply State.Keeps.ite1 | with_reducible apply State.Keeps.ite21 | split | ((with_reducible conv => arg 2; whnf); split) | ((with_reducible conv => arg 2; arg 1; whnf); split) | ((with_reducible conv => arg 2; arg 1; arg 1; whnf); split) | with_reducible apply State.Keeps.mk_)

theorem execFabApply_keeps (b0 : State) (s : State) (h0 : b0.Keeps s) : b0.KeepsOut (execFabApply s) := by
  unfold execFabApply
  repeat' (first | with_reducible assumption | with_reducible apply doFabApply_keeps | with_reducible apply State.Keeps.next)

theorem doApplyDone_keeps (b0 : State) (s : State) (h0 : b0.Keeps s) : b0.Keeps (doApplyDone s) := by
  unfold doApplyDone
  repeat' (first | with_reducible assumption | intro _ _ _ | intro _ | with_reducible apply State.tblPut_keeps | with_reducible apply State.setFence_keeps | with_reducible apply State.extWrite_keeps | with_reducible apply State.setF_keeps | with_reducible apply State.setFs_keeps | with_reducible apply State.setupEnd_keeps | with_reducible apply State.Keeps.ite | with_reducible apply State.Keeps.ite2 | with_reducible apply State.Keeps.ite22 | with_reducible apply State.Keeps.ite222 | with_reducible apply State.Keeps.ite1 | with_reducible apply State.Keeps.ite21 | with_reducible apply State.Keeps.foldl | with_reducible apply State.Keeps.foldl2 | with_reducible apply State.Keeps.foldl22 | with_reducible apply State.Keeps.foldl222 | with_reducible apply State.Keeps.foldl1 | split | ((with_reducible conv => arg 2; whnf); split) | ((with_reducible conv => arg 2; arg 1; whnf); split) | ((with_reducible conv => arg 2; arg 1; arg 1; whnf); split) | with_reducible refine State.Keeps.eq2 (by with_reducible assumption) ?_ | with_reducible refine State.Keeps.eq22 (by with_reducible assumption) ?_ | with_reducible refine State.Keeps.eq222 (by with_reducible assumption) ?_ | with_reducible refine State.Keeps.eq1 (by with_reducible assumption) ?_ | with_reducible apply State.Keeps.mk_)

theorem execApplyDone_keeps (b0 : State) (s : State) (h0 : b0.Keeps s) : b0.KeepsOut (execApplyDone s) := by
  unfold execApplyDone
  repeat' (first | with_reducible assumption | intro _ _ _ | intro _ | with_reducible apply State.orWait_keeps | with_reducible apply doApplyDone_keeps | with_reducible apply State.Keeps.next | with_reducible apply State.Keeps.mk_)

theorem doFabSave_keeps (b0 : State) (s : State) (h0 : b0.Keeps s) : b0.Keeps (doFabSave s) := by
  unfold doFabSave
  repeat' (first | with_reducible assumption | intro _ _ _ | intro _ | with_reducible apply State.refused_keeps | with_reducible apply State.setupStart_keeps | with_reducible apply State.answer_keeps | with_reducible apply State.Keeps.ite | with_reducible apply State.Keeps.ite2 | with_reducible apply State.Keeps.ite22 | with_reducible apply State.Keeps.ite222 | with_reducible apply State.Keeps.ite1 | with_reducible apply State.Keeps.ite21 | split | ((with_reducible conv => arg 2; whnf); split) | ((with_reducible conv => arg 2; arg 1; whnf); split) | ((with_reducible conv => arg 2; arg 1; arg 1; whnf); split) | with_reducible apply State.Keeps.mk_)

theorem execFabSave_keeps (b0 : State) (s : State) (h0 : b0.Keeps s) : b0.KeepsOut (execFabSave s) := by
  unfold execFabSave
  repeat' (first | with_reducible assumption | with_reducible apply doFabSave_keeps | with_reducible apply State.Keeps.next)

theorem doFabSaveDone_keeps (b0 : State) (s : State) (h0 : b0.Keeps s) : b0.Keeps (doFabSaveDone s) := by
  unfold doFabSaveDone
  repeat' (first | with_reducible assumption | intro _ _ _ | intro _ | with_reducible apply State.extWrite_keeps | with_reducible apply State.setupEnd_keeps | with_reducible apply State.Keeps.ite | with_reducible apply State.Keeps.ite2 | with_reducible apply State.Keeps.ite22 | with_reducible apply State.Keeps.ite222 | with_reducible apply State.Keeps.ite1 | with_reducible apply State.Keeps.ite21 | split | ((with_reducible conv => arg 2; whnf); split) | ((with_reducible conv => arg 2; arg 1; whnf); split) | ((with_reducible conv => arg 2; arg 1; arg 1; whnf); split) | with_reducible refine State.Keeps.eq2 (by with_reducible assumption) ?_ | with_reducible refine State.Keeps.eq22 (by with_reducible assumption) ?_ | with_reducible refine State.Keeps.eq222 (by with_reducible assumption) ?_ | with_reducible refine State.Keeps.eq1 (by with_reducible assumption) ?_ | with_reducible apply State.Keeps.mk_)

theorem execFabSaveDone_keeps (b0 : State) (s : State) (h0 : b0.Keeps s) : b0.KeepsOut (execFabSaveDone s) := by
  unfold execFabSaveDone
  repeat' (first | with_reducible assumption | intro _ _ _ | intro _ | with_reducible apply State.orWait_keeps | with_reducible apply doFabSaveDone_keeps | with_reducible apply State.Keeps.next | with_reducible apply State.Keeps.mk_)

theorem doGatherTimeout_keeps (b0 : State) (gw key : Nat) (s : State) (h0 : b0.Keeps s) : b0.Keeps (doGatherTimeout gw key s) := by
  unfold doGatherTimeout
  repeat' (first | with_reducible assumption | intro _ _ _ | intro _ | with_reducible apply State.toNs_keeps | with_reducible apply State.closeGathers_keeps | split | ((with_reducible conv => arg 2; whnf); split) | with_reducible refine State.Keeps.eq2 (by with_reducible assumption) ?_ | with_reducible refine State.Keeps.eq22 (by with_reducible assumption) ?_ | with_reducible refine State.Keeps.eq1 (by with_reducible assumption) ?_)

theorem execGatherTimeout_keeps (b0 : State) (gw : Fin 2) (key : Nat) (s : State) (h0 : b0.Keeps s) : b0.KeepsOut (execGatherTimeout gw key s) := by
  unfold execGatherTimeout
  repeat' (first | with_reducible assumption | with_reducible apply doGatherTimeout_keeps | with_reducible apply State.Keeps.next)

end Sys2Proof.Machine
end

