-- ==== Sys2Proof/Laws/KeepsMover.lean ====
section
/-! SUPPORT. What every operation of Machine/Mover.lean keeps: the queue, the part, and the canonical forms. -/
namespace Sys2Proof.Machine

set_option linter.all false
set_option Elab.async false

theorem State.withMem_keeps (b0 : State) (s s0 : State) (h0 : b0.Keeps s) (h1 : b0.Keeps s0) : b0.Keeps (State.withMem s s0) :=
  ⟨h0.pending, h0.grade, h0.stepping, h0.owner, fun e => ⟨(h1.inv e).mem, (h0.inv e).fld, (h0.inv e).nvm, (h0.inv e).cores, (h0.inv e).ckpt⟩⟩

theorem servePiece_keeps (b0 : State) (y port tag req t : Nat) (acc : List Byte × Nat × Option Nat × State) (p : Nat × Nat) (h0 : b0.Keeps acc.2.2.2) :
    b0.Keeps (servePiece y port tag req t acc p).2.2.2 := by
  obtain ⟨b, r, bad, s⟩ := acc
  unfold servePiece
  repeat' (first | with_reducible assumption | intro _ _ _ | intro _ | with_reducible apply State.spmRead_keeps | with_reducible apply State.noteSpm_keeps | with_reducible apply State.noteDouble_keeps | with_reducible apply State.adderRead_keeps | with_reducible apply State.t1Read_keeps | with_reducible apply State.Keeps.ite | with_reducible apply State.Keeps.ite2 | with_reducible apply State.Keeps.ite22 | with_reducible apply State.Keeps.ite222 | with_reducible apply State.Keeps.foldl | with_reducible apply State.Keeps.foldl2 | with_reducible apply State.Keeps.foldl22 | with_reducible apply State.Keeps.foldl222 | with_reducible refine State.Keeps.eq2 (by with_reducible assumption) ?_ | with_reducible refine State.Keeps.eq22 (by with_reducible assumption) ?_ | with_reducible refine State.Keeps.eq222 (by with_reducible assumption) ?_ | (with_reducible dsimp only []) | split | with_reducible apply State.Keeps.mk_)

theorem State.serveRead_keeps (b0 : State) (s : State) (y port tag req t : Nat) (l : List (Nat × Nat)) (h0 : b0.Keeps s) : b0.Keeps (State.serveRead s y port tag req t l).2.2.2 :=
  State.Keeps.foldl222 (t := ([], t, none, s)) h0 (fun u x h => servePiece_keeps _ _ _ _ _ _ u x h)

theorem serveStore_keeps (b0 : State) (y port tag req t u : Nat) (cover : Nat → Bool) (acc : Nat × Option Nat × List (Nat × Byte) × State) (p : Nat × List Byte)
    (h0 : b0.Keeps acc.2.2.2) : b0.Keeps (serveStore y port tag req t u cover acc p).2.2.2 := by
  obtain ⟨r, bad, part, s⟩ := acc
  unfold serveStore
  repeat' (first | with_reducible assumption | intro _ _ _ | intro _ | with_reducible apply State.spmWrite_keeps | with_reducible apply State.adderWrite_keeps | with_reducible apply State.t1Write_keeps | with_reducible apply State.Keeps.ite | with_reducible apply State.Keeps.ite2 | with_reducible apply State.Keeps.ite22 | with_reducible apply State.Keeps.ite222 | with_reducible apply State.Keeps.foldl | with_reducible apply State.Keeps.foldl2 | with_reducible apply State.Keeps.foldl22 | with_reducible apply State.Keeps.foldl222 | with_reducible refine State.Keeps.eq2 (by with_reducible assumption) ?_ | with_reducible refine State.Keeps.eq22 (by with_reducible assumption) ?_ | with_reducible refine State.Keeps.eq222 (by with_reducible assumption) ?_ | (with_reducible dsimp only []) | split | with_reducible apply State.Keeps.mk_)

theorem State.serveWrite_keeps (b0 : State) (s : State) (y port tag req t u : Nat) (cover : Nat → Bool) (part : List (Nat × Byte)) (l : List (Nat × List Byte)) (h0 : b0.Keeps s) :
    b0.Keeps (State.serveWrite s y port tag req t u cover part l).2.2.2 := by
  have h1 : b0.Keeps (l.foldl (serveStore y port tag req t u cover) (t, none, part, s)).2.2.2 := State.Keeps.foldl222 h0 (fun v x h => serveStore_keeps _ _ _ _ _ _ _ _ v x h)
  exact State.Keeps.ite222 (State.withMem_keeps _ _ _ h1 h0) h1

theorem flowAsk_keeps (b0 : State) (x : Xfer) (y t : Nat) (f : Flow) (s : State) (h0 : b0.Keeps s) : b0.Keeps (flowAsk x y t f s).2.2 := by
  unfold flowAsk
  repeat' (first | with_reducible assumption | intro _ _ _ | intro _ | with_reducible apply State.sendFlit_keeps | with_reducible apply State.Keeps.ite | with_reducible apply State.Keeps.ite2 | with_reducible apply State.Keeps.ite22 | with_reducible apply State.Keeps.ite222 | with_reducible apply State.Keeps.ite1 | with_reducible apply State.Keeps.ite21 | with_reducible refine State.Keeps.eq2 (by with_reducible assumption) ?_ | with_reducible refine State.Keeps.eq22 (by with_reducible assumption) ?_ | with_reducible refine State.Keeps.eq222 (by with_reducible assumption) ?_ | with_reducible refine State.Keeps.eq1 (by with_reducible assumption) ?_ | (with_reducible dsimp only []) | split | with_reducible apply State.Keeps.mk_)

theorem flowIndex_keeps (b0 : State) (x : Xfer) (acc : Flow × State) (g : Nat) (h0 : b0.Keeps acc.2) : b0.Keeps (flowIndex x acc g).2 := by
  obtain ⟨f, s⟩ := acc
  unfold flowIndex
  repeat' (first | with_reducible assumption | intro _ _ _ | intro _ | with_reducible apply State.spmRead_keeps | with_reducible apply State.Keeps.ite | with_reducible apply State.Keeps.ite2 | with_reducible apply State.Keeps.ite22 | with_reducible apply State.Keeps.ite222 | with_reducible apply State.Keeps.foldl | with_reducible apply State.Keeps.foldl2 | with_reducible apply State.Keeps.foldl22 | with_reducible apply State.Keeps.foldl222 | with_reducible refine State.Keeps.eq2 (by with_reducible assumption) ?_ | with_reducible refine State.Keeps.eq22 (by with_reducible assumption) ?_ | with_reducible refine State.Keeps.eq222 (by with_reducible assumption) ?_ | (with_reducible dsimp only []) | split | with_reducible apply State.Keeps.mk_)

theorem flowTier_keeps (b0 : State) (x : Xfer) (cls t : Nat) (acc : Nat × List Byte × State) (p : Nat × Nat) (h0 : b0.Keeps acc.2.2) : b0.Keeps (flowTier x cls t acc p).2.2 := by
  obtain ⟨c, d, s⟩ := acc
  unfold flowTier
  repeat' (first | with_reducible assumption | intro _ _ _ | intro _ | with_reducible apply State.windowRead_keeps | with_reducible apply State.extReadFlit_keeps | with_reducible apply State.Keeps.ite | with_reducible apply State.Keeps.ite2 | with_reducible apply State.Keeps.ite22 | with_reducible apply State.Keeps.ite222 | with_reducible apply State.Keeps.foldl | with_reducible apply State.Keeps.foldl2 | with_reducible apply State.Keeps.foldl22 | with_reducible apply State.Keeps.foldl222 | with_reducible refine State.Keeps.eq2 (by with_reducible assumption) ?_ | with_reducible refine State.Keeps.eq22 (by with_reducible assumption) ?_ | with_reducible refine State.Keeps.eq222 (by with_reducible assumption) ?_ | (with_reducible dsimp only []) | split | with_reducible apply State.Keeps.mk_)

theorem flowRequest_keeps (b0 : State) (x : Xfer) (f : Flow) (s : State) (h0 : b0.Keeps s) : b0.Keeps (flowRequest x f s).2 := by
  unfold flowRequest
  repeat' (first | with_reducible assumption | intro _ _ _ | intro _ | with_reducible apply flowIndex_keeps | with_reducible apply State.serveRead_keeps | with_reducible apply flowAsk_keeps | with_reducible apply State.sendFlit_keeps | with_reducible apply flowTier_keeps | with_reducible apply State.Keeps.ite | with_reducible apply State.Keeps.ite2 | with_reducible apply State.Keeps.ite22 | with_reducible apply State.Keeps.ite222 | with_reducible apply State.Keeps.ite1 | with_reducible apply State.Keeps.ite21 | with_reducible apply State.Keeps.foldl | with_reducible apply State.Keeps.foldl2 | with_reducible apply State.Keeps.foldl22 | with_reducible apply State.Keeps.foldl222 | with_reducible apply State.Keeps.foldl1 | with_reducible refine State.Keeps.eq2 (by with_reducible assumption) ?_ | with_reducible refine State.Keeps.eq22 (by with_reducible assumption) ?_ | with_reducible refine State.Keeps.eq222 (by with_reducible assumption) ?_ | with_reducible refine State.Keeps.eq1 (by with_reducible assumption) ?_ | (with_reducible dsimp only []) | split | with_reducible apply State.Keeps.mk_)

theorem flowStore_keeps (b0 : State) (x : Xfer) (cls t : Nat) (acc : Nat × State) (p : Nat × List Byte) (h0 : b0.Keeps acc.2) : b0.Keeps (flowStore x cls t acc p).2 := by
  obtain ⟨c, s⟩ := acc
  unfold flowStore
  repeat' (first | with_reducible assumption | intro _ _ _ | intro _ | with_reducible apply State.windowStore_keeps | with_reducible apply State.extWriteFlit_keeps | with_reducible apply State.Keeps.ite | with_reducible apply State.Keeps.ite2 | with_reducible apply State.Keeps.ite22 | with_reducible apply State.Keeps.ite222 | with_reducible apply State.Keeps.foldl | with_reducible apply State.Keeps.foldl2 | with_reducible apply State.Keeps.foldl22 | with_reducible apply State.Keeps.foldl222 | with_reducible refine State.Keeps.eq2 (by with_reducible assumption) ?_ | with_reducible refine State.Keeps.eq22 (by with_reducible assumption) ?_ | with_reducible refine State.Keeps.eq222 (by with_reducible assumption) ?_ | (with_reducible dsimp only []) | split | with_reducible apply State.Keeps.mk_)

theorem flowSend_keeps (b0 : State) (x : Xfer) (u : XUnit) (b : List Byte) (r fr : Nat) (f : Flow) (s : State) (h0 : b0.Keeps s) : b0.Keeps (flowSend x u b r fr f s).2 := by
  unfold flowSend
  repeat' (first | with_reducible assumption | intro _ _ _ | intro _ | with_reducible apply State.serveWrite_keeps | with_reducible apply flowStore_keeps | with_reducible apply State.sendData_keeps | with_reducible apply State.withMem_keeps | with_reducible apply State.Keeps.ite | with_reducible apply State.Keeps.ite2 | with_reducible apply State.Keeps.ite22 | with_reducible apply State.Keeps.ite222 | with_reducible apply State.Keeps.ite1 | with_reducible apply State.Keeps.ite21 | with_reducible apply State.Keeps.foldl | with_reducible apply State.Keeps.foldl2 | with_reducible apply State.Keeps.foldl22 | with_reducible apply State.Keeps.foldl222 | with_reducible apply State.Keeps.foldl1 | with_reducible refine State.Keeps.eq2 (by with_reducible assumption) ?_ | with_reducible refine State.Keeps.eq22 (by with_reducible assumption) ?_ | with_reducible refine State.Keeps.eq222 (by with_reducible assumption) ?_ | with_reducible refine State.Keeps.eq1 (by with_reducible assumption) ?_ | (with_reducible dsimp only []) | split | with_reducible apply State.Keeps.mk_)

theorem flowStep_keeps (b0 : State) (x : Xfer) (f : Flow) (s : State) (h0 : b0.Keeps s) : b0.Keeps (flowStep x f s).2 := by
  unfold flowStep
  repeat' (first | with_reducible assumption | intro _ _ _ | intro _ | with_reducible apply flowRequest_keeps | with_reducible apply flowSend_keeps | with_reducible apply State.Keeps.ite | with_reducible apply State.Keeps.ite2 | with_reducible apply State.Keeps.ite22 | with_reducible apply State.Keeps.ite222 | with_reducible apply State.Keeps.ite1 | with_reducible apply State.Keeps.ite21 | with_reducible refine State.Keeps.eq2 (by with_reducible assumption) ?_ | with_reducible refine State.Keeps.eq22 (by with_reducible assumption) ?_ | with_reducible refine State.Keeps.eq222 (by with_reducible assumption) ?_ | with_reducible refine State.Keeps.eq1 (by with_reducible assumption) ?_ | (with_reducible dsimp only []) | split | with_reducible apply State.Keeps.mk_)

theorem flowRun_keeps (b0 : State) (x : Xfer) (x0 : Nat) (x1 : Flow) (s : State) (h0 : b0.Keeps s) : b0.Keeps (flowRun x x0 x1 s).2 := by
  induction x0 generalizing x1 s with
  | zero =>
    unfold flowRun
    repeat' (first | with_reducible assumption | with_reducible apply flowStep_keeps | with_reducible apply State.Keeps.ite | with_reducible apply State.Keeps.ite2 | with_reducible apply State.Keeps.ite22 | with_reducible apply State.Keeps.ite222 | with_reducible apply State.Keeps.ite1 | with_reducible apply State.Keeps.ite21 | split | ((with_reducible conv => arg 2; whnf); split) | ((with_reducible conv => arg 2; arg 1; whnf); split) | ((with_reducible conv => arg 2; arg 1; arg 1; whnf); split))
  | succ k ih =>
    unfold flowRun
    repeat' (first | with_reducible apply ih | with_reducible assumption | with_reducible apply flowStep_keeps | with_reducible apply State.Keeps.ite | with_reducible apply State.Keeps.ite2 | with_reducible apply State.Keeps.ite22 | with_reducible apply State.Keeps.ite222 | with_reducible apply State.Keeps.ite1 | with_reducible apply State.Keeps.ite21 | split | ((with_reducible conv => arg 2; whnf); split) | ((with_reducible conv => arg 2; arg 1; whnf); split) | ((with_reducible conv => arg 2; arg 1; arg 1; whnf); split))

theorem scanRun_keeps (b0 : State) (x : Xfer) (x0 : Nat) (x1 : Flow) (s : State) (h0 : b0.Keeps s) : b0.Keeps (scanRun x x0 x1 s).2 := by
  induction x0 generalizing x1 s with
  | zero =>
    unfold scanRun
    repeat' (first | with_reducible assumption | intro _ _ _ | intro _ | with_reducible apply flowRequest_keeps | with_reducible apply State.Keeps.ite | with_reducible apply State.Keeps.ite2 | with_reducible apply State.Keeps.ite22 | with_reducible apply State.Keeps.ite222 | with_reducible apply State.Keeps.ite1 | with_reducible apply State.Keeps.ite21 | split | ((with_reducible conv => arg 2; whnf); split) | ((with_reducible conv => arg 2; arg 1; whnf); split) | ((with_reducible conv => arg 2; arg 1; arg 1; whnf); split) | with_reducible refine State.Keeps.eq2 (by with_reducible assumption) ?_ | with_reducible refine State.Keeps.eq22 (by with_reducible assumption) ?_ | with_reducible refine State.Keeps.eq222 (by with_reducible assumption) ?_ | with_reducible refine State.Keeps.eq1 (by with_reducible assumption) ?_ | with_reducible apply State.Keeps.mk_)
  | succ k ih =>
    unfold scanRun
    repeat' (first | with_reducible apply ih | with_reducible assumption | intro _ _ _ | intro _ | with_reducible apply flowRequest_keeps | with_reducible apply State.Keeps.ite | with_reducible apply State.Keeps.ite2 | with_reducible apply State.Keeps.ite22 | with_reducible apply State.Keeps.ite222 | with_reducible apply State.Keeps.ite1 | with_reducible apply State.Keeps.ite21 | split | ((with_reducible conv => arg 2; whnf); split) | ((with_reducible conv => arg 2; arg 1; whnf); split) | ((with_reducible conv => arg 2; arg 1; arg 1; whnf); split) | with_reducible refine State.Keeps.eq2 (by with_reducible assumption) ?_ | with_reducible refine State.Keeps.eq22 (by with_reducible assumption) ?_ | with_reducible refine State.Keeps.eq222 (by with_reducible assumption) ?_ | with_reducible refine State.Keeps.eq1 (by with_reducible assumption) ?_ | with_reducible apply State.Keeps.mk_)

theorem State.mismatch_keeps (b0 : State) (s : State) (die m idx poly got read : Nat) (h0 : b0.Keeps s) : b0.Keeps (State.mismatch s die m idx poly got read) := by
  unfold State.mismatch
  repeat' (first | with_reducible assumption | intro _ _ _ | intro _ | with_reducible apply State.hwSet_keeps | with_reducible apply State.count_keeps | with_reducible apply State.raiseCmd_keeps | with_reducible apply State.Keeps.ite | with_reducible apply State.Keeps.ite2 | with_reducible apply State.Keeps.ite22 | with_reducible apply State.Keeps.ite222 | with_reducible apply State.Keeps.ite1 | with_reducible apply State.Keeps.ite21 | with_reducible apply State.Keeps.foldl | with_reducible apply State.Keeps.foldl2 | with_reducible apply State.Keeps.foldl22 | with_reducible apply State.Keeps.foldl222 | with_reducible apply State.Keeps.foldl1 | split | ((with_reducible conv => arg 2; whnf); split) | ((with_reducible conv => arg 2; arg 1; whnf); split) | ((with_reducible conv => arg 2; arg 1; arg 1; whnf); split) | with_reducible apply State.Keeps.mk_)

theorem checked_keeps (b0 : State) (die m idx poly v got fin w : Nat) (out : Bool) (s : State) (h0 : b0.Keeps s) : b0.Keeps (checked die m idx poly v got fin w out s).2 := by
  unfold checked
  repeat' (first | with_reducible assumption | intro _ _ _ | intro _ | with_reducible apply State.mismatch_keeps | with_reducible apply State.Keeps.ite | with_reducible apply State.Keeps.ite2 | with_reducible apply State.Keeps.ite22 | with_reducible apply State.Keeps.ite222 | with_reducible apply State.Keeps.ite1 | with_reducible apply State.Keeps.ite21 | split | ((with_reducible conv => arg 2; whnf); split) | ((with_reducible conv => arg 2; arg 1; whnf); split) | ((with_reducible conv => arg 2; arg 1; arg 1; whnf); split) | with_reducible apply State.Keeps.pair2 | with_reducible apply State.Keeps.pair22 | with_reducible apply State.Keeps.pair222 | with_reducible apply State.Keeps.mk_)

theorem scanEnd_keeps (b0 : State) (die m idx : Nat) (d : Desc) (poly v w : Nat) (out : Bool) (s : State) (h0 : b0.Keeps s) : b0.Keeps (scanEnd die m idx d poly v w out s).2 := by
  unfold scanEnd
  repeat' (first | with_reducible assumption | intro _ _ _ | intro _ | with_reducible apply State.spmWrite_keeps | with_reducible apply State.spmRead_keeps | with_reducible apply State.noteDouble_keeps | with_reducible apply checked_keeps | with_reducible apply State.Keeps.ite | with_reducible apply State.Keeps.ite2 | with_reducible apply State.Keeps.ite22 | with_reducible apply State.Keeps.ite222 | with_reducible apply State.Keeps.ite1 | with_reducible apply State.Keeps.ite21 | split | ((with_reducible conv => arg 2; whnf); split) | ((with_reducible conv => arg 2; arg 1; whnf); split) | ((with_reducible conv => arg 2; arg 1; arg 1; whnf); split) | with_reducible refine State.Keeps.eq2 (by with_reducible assumption) ?_ | with_reducible refine State.Keeps.eq22 (by with_reducible assumption) ?_ | with_reducible refine State.Keeps.eq222 (by with_reducible assumption) ?_ | with_reducible refine State.Keeps.eq1 (by with_reducible assumption) ?_ | with_reducible apply State.Keeps.pair2 | with_reducible apply State.Keeps.pair22 | with_reducible apply State.Keeps.pair222 | with_reducible apply State.Keeps.mk_)

theorem runDesc_keeps (b0 : State) (die m idx : Nat) (d : Desc) (t sent : Nat) (s : State) (h0 : b0.Keeps s) : b0.Keeps (runDesc die m idx d t sent s).2 := by
  unfold runDesc
  repeat' (first | with_reducible assumption | with_reducible apply State.leave_keeps | with_reducible apply State.setCut_keeps | intro _ _ _ | intro _ | with_reducible apply State.noteDouble_keeps | with_reducible apply State.spmCorrect_keeps | with_reducible apply State.refuse_keeps | with_reducible apply scanRun_keeps | with_reducible apply flowRun_keeps | with_reducible apply State.setF_keeps | with_reducible apply State.count_keeps | with_reducible apply State.setEgress_keeps | with_reducible apply State.sendWrite_keeps | with_reducible apply scanEnd_keeps | with_reducible apply checked_keeps | with_reducible apply State.Keeps.ite | with_reducible apply State.Keeps.ite2 | with_reducible apply State.Keeps.ite22 | with_reducible apply State.Keeps.ite222 | with_reducible apply State.Keeps.ite1 | with_reducible apply State.Keeps.ite21 | with_reducible apply State.Keeps.foldl | with_reducible apply State.Keeps.foldl2 | with_reducible apply State.Keeps.foldl22 | with_reducible apply State.Keeps.foldl222 | with_reducible apply State.Keeps.foldl1 | split | ((with_reducible conv => arg 2; whnf); split) | ((with_reducible conv => arg 2; arg 1; whnf); split) | ((with_reducible conv => arg 2; arg 1; arg 1; whnf); split) | with_reducible refine State.Keeps.eq2 (by with_reducible assumption) ?_ | with_reducible refine State.Keeps.eq22 (by with_reducible assumption) ?_ | with_reducible refine State.Keeps.eq222 (by with_reducible assumption) ?_ | with_reducible refine State.Keeps.eq1 (by with_reducible assumption) ?_ | with_reducible apply State.Keeps.pair2 | with_reducible apply State.Keeps.pair22 | with_reducible apply State.Keeps.pair222 | with_reducible apply State.Keeps.mk_)

theorem State.faultMove_keeps (b0 : State) (s : State) (die m idx i cls code cyc : Nat) (kv : Nat × Nat) (h0 : b0.Keeps s) : b0.Keeps (State.faultMove s die m idx i cls code cyc kv) := by
  unfold State.faultMove
  repeat' (first | with_reducible assumption | intro _ _ _ | intro _ | with_reducible apply State.hwSets_keeps | with_reducible apply State.noteSpm_keeps | with_reducible apply State.faultCmd_keeps | with_reducible apply State.nameReports_keeps | with_reducible apply State.Keeps.ite | with_reducible apply State.Keeps.ite2 | with_reducible apply State.Keeps.ite22 | with_reducible apply State.Keeps.ite222 | with_reducible apply State.Keeps.ite1 | with_reducible apply State.Keeps.ite21 | split | ((with_reducible conv => arg 2; whnf); split) | ((with_reducible conv => arg 2; arg 1; whnf); split) | ((with_reducible conv => arg 2; arg 1; arg 1; whnf); split) | with_reducible apply State.Keeps.mk_)

theorem runDescs_keeps (b0 : State) (die m idx off : Nat) (x0 : Nat) (x1 : Nat) (x2 : Nat) (x3 : Nat) (x4 : State) (h0 : b0.Keeps x4) : b0.Keeps (runDescs die m idx off x0 x1 x2 x3 x4) := by
  induction x0 generalizing x1 x2 x3 x4 with
  | zero =>
    unfold runDescs
    repeat' (first | with_reducible assumption | intro _ _ _ | intro _ | with_reducible apply State.setF_keeps | with_reducible apply State.noteDouble_keeps | with_reducible apply State.faultMove_keeps | with_reducible apply State.spmCorrect_keeps | with_reducible apply runDesc_keeps | with_reducible apply State.count_keeps | with_reducible apply State.updRun_keeps | with_reducible apply State.perform_keeps | with_reducible apply State.Keeps.ite | with_reducible apply State.Keeps.ite2 | with_reducible apply State.Keeps.ite22 | with_reducible apply State.Keeps.ite222 | with_reducible apply State.Keeps.ite1 | with_reducible apply State.Keeps.ite21 | split | ((with_reducible conv => arg 2; whnf); split) | ((with_reducible conv => arg 2; arg 1; whnf); split) | ((with_reducible conv => arg 2; arg 1; arg 1; whnf); split) | with_reducible refine State.Keeps.eq2 (by with_reducible assumption) ?_ | with_reducible refine State.Keeps.eq22 (by with_reducible assumption) ?_ | with_reducible refine State.Keeps.eq222 (by with_reducible assumption) ?_ | with_reducible refine State.Keeps.eq1 (by with_reducible assumption) ?_ | with_reducible apply State.Keeps.mk_)
  | succ k ih =>
    unfold runDescs
    repeat' (first | with_reducible apply ih | with_reducible assumption | intro _ _ _ | intro _ | with_reducible apply State.setF_keeps | with_reducible apply State.noteDouble_keeps | with_reducible apply State.faultMove_keeps | with_reducible apply State.spmCorrect_keeps | with_reducible apply runDesc_keeps | with_reducible apply State.count_keeps | with_reducible apply State.updRun_keeps | with_reducible apply State.perform_keeps | with_reducible apply State.Keeps.ite | with_reducible apply State.Keeps.ite2 | with_reducible apply State.Keeps.ite22 | with_reducible apply State.Keeps.ite222 | with_reducible apply State.Keeps.ite1 | with_reducible apply State.Keeps.ite21 | split | ((with_reducible conv => arg 2; whnf); split) | ((with_reducible conv => arg 2; arg 1; whnf); split) | ((with_reducible conv => arg 2; arg 1; arg 1; whnf); split) | with_reducible refine State.Keeps.eq2 (by with_reducible assumption) ?_ | with_reducible refine State.Keeps.eq22 (by with_reducible assumption) ?_ | with_reducible refine State.Keeps.eq222 (by with_reducible assumption) ?_ | with_reducible refine State.Keeps.eq1 (by with_reducible assumption) ?_ | with_reducible apply State.Keeps.mk_)

theorem doMove_keeps (b0 : State) (die idx : Nat) (s : State) (h0 : b0.Keeps s) : b0.Keeps (doMove die idx s) := by
  unfold doMove
  repeat' (first | with_reducible assumption | intro _ _ _ | intro _ | with_reducible apply State.faultMove_keeps | with_reducible apply State.count_keeps | with_reducible apply runDescs_keeps | with_reducible apply State.Keeps.ite | with_reducible apply State.Keeps.ite2 | with_reducible apply State.Keeps.ite22 | with_reducible apply State.Keeps.ite222 | with_reducible apply State.Keeps.ite1 | with_reducible apply State.Keeps.ite21 | split | ((with_reducible conv => arg 2; whnf); split) | ((with_reducible conv => arg 2; arg 1; whnf); split) | ((with_reducible conv => arg 2; arg 1; arg 1; whnf); split) | with_reducible refine State.Keeps.eq2 (by with_reducible assumption) ?_ | with_reducible refine State.Keeps.eq22 (by with_reducible assumption) ?_ | with_reducible refine State.Keeps.eq222 (by with_reducible assumption) ?_ | with_reducible refine State.Keeps.eq1 (by with_reducible assumption) ?_ | with_reducible apply State.Keeps.mk_)

theorem execMove_keeps (b0 : State) (die : Fin 4) (idx : Nat) (s : State) (h0 : b0.Keeps s) : b0.KeepsOut (execMove die idx s) := by
  unfold execMove
  repeat' (first | with_reducible assumption | with_reducible apply doMove_keeps | with_reducible apply State.Keeps.next)

theorem doStepval_keeps (b0 : State) (die idx : Nat) (s : State) (h0 : b0.Keeps s) : b0.Keeps (doStepval die idx s) := by
  unfold doStepval
  repeat' (first | with_reducible assumption | intro _ _ _ | intro _ | with_reducible apply State.faultMove_keeps | with_reducible apply State.spmWrite_keeps | with_reducible apply State.perform_keeps | with_reducible apply State.Keeps.ite | with_reducible apply State.Keeps.ite2 | with_reducible apply State.Keeps.ite22 | with_reducible apply State.Keeps.ite222 | with_reducible apply State.Keeps.ite1 | with_reducible apply State.Keeps.ite21 | split | ((with_reducible conv => arg 2; whnf); split) | ((with_reducible conv => arg 2; arg 1; whnf); split) | ((with_reducible conv => arg 2; arg 1; arg 1; whnf); split) | with_reducible refine State.Keeps.eq2 (by with_reducible assumption) ?_ | with_reducible refine State.Keeps.eq22 (by with_reducible assumption) ?_ | with_reducible refine State.Keeps.eq222 (by with_reducible assumption) ?_ | with_reducible refine State.Keeps.eq1 (by with_reducible assumption) ?_ | with_reducible apply State.Keeps.mk_)

theorem execStepval_keeps (b0 : State) (die : Fin 4) (idx : Nat) (s : State) (h0 : b0.Keeps s) : b0.KeepsOut (execStepval die idx s) := by
  unfold execStepval
  repeat' (first | with_reducible assumption | with_reducible apply doStepval_keeps | with_reducible apply State.Keeps.next)

theorem doSpmScrub_keeps (b0 : State) (die bank : Nat) (fails : Bool) (s : State) (h0 : b0.Keeps s) : b0.Keeps (doSpmScrub die bank fails s) := by
  unfold doSpmScrub
  repeat' (first | with_reducible assumption | intro _ _ _ | intro _ | with_reducible apply State.spmCorrect_keeps | with_reducible apply State.count_keeps | with_reducible apply State.updDie_keeps | with_reducible apply State.needSpare_keeps | with_reducible apply State.Keeps.ite | split | ((with_reducible conv => arg 2; whnf); split) | with_reducible apply State.Keeps.mk_)

theorem execSpmScrub_keeps (b0 : State) (die : Fin 4) (bank : Fin 256) (fails : Bool) (s : State) (h0 : b0.Keeps s) : b0.KeepsOut (execSpmScrub die bank fails s) := by
  unfold execSpmScrub
  repeat' (first | with_reducible assumption | with_reducible apply doSpmScrub_keeps | with_reducible apply State.Keeps.next)

end Sys2Proof.Machine
end

