-- ==== Sys2Proof/Laws/KeepsSeq.lean ====
section
/-! SUPPORT. What every operation of Machine/Seq.lean keeps: the queue, the part, and the canonical forms. -/
namespace Sys2Proof.Machine

set_option linter.all false
set_option Elab.async false

theorem State.setSeq_keeps (b0 : State) (s : State) (k : SeqId) (q : Seq) (h0 : b0.Keeps s) : b0.Keeps (State.setSeq s k q) := by
  unfold State.setSeq
  repeat' (first | with_reducible assumption | split | ((with_reducible conv => arg 2; whnf); split) | with_reducible refine State.Keeps.eq2 (by with_reducible assumption) ?_ | with_reducible refine State.Keeps.eq22 (by with_reducible assumption) ?_ | with_reducible refine State.Keeps.eq222 (by with_reducible assumption) ?_ | with_reducible refine State.Keeps.eq1 (by with_reducible assumption) ?_ | with_reducible apply State.Keeps.mk_)

theorem State.updSeq_keeps (b0 : State) (s : State) (k : SeqId) (f : Seq → Seq) (h0 : b0.Keeps s) : b0.Keeps (State.updSeq s k f) := by
  unfold State.updSeq
  repeat' (first | with_reducible assumption | with_reducible apply State.setSeq_keeps)

theorem State.seqLoad_keeps (b0 : State) (s : State) (k : SeqId) (v : Nat) (h0 : b0.Keeps s) : b0.Keeps (State.seqLoad s k v) := by
  unfold State.seqLoad
  repeat' (first | with_reducible assumption | intro _ _ _ | intro _ | with_reducible apply State.setFs_keeps | with_reducible apply State.answer_keeps | with_reducible apply State.refused_keeps | with_reducible apply State.setF_keeps | with_reducible apply State.updSeq_keeps | with_reducible apply State.Keeps.ite | with_reducible apply State.Keeps.ite2 | with_reducible apply State.Keeps.ite22 | with_reducible apply State.Keeps.ite222 | with_reducible apply State.Keeps.ite1 | with_reducible apply State.Keeps.ite21 | split | ((with_reducible conv => arg 2; whnf); split) | ((with_reducible conv => arg 2; arg 1; whnf); split) | ((with_reducible conv => arg 2; arg 1; arg 1; whnf); split) | with_reducible apply State.Keeps.mk_)

theorem State.seqLoaded_keeps (b0 : State) (s : State) (k : SeqId) (b : Nat) (res : Except (Nat × Nat) TabBank) (h0 : b0.Keeps s) : b0.Keeps (State.seqLoaded s k b res) := by
  unfold State.seqLoaded
  repeat' (first | with_reducible assumption | intro _ _ _ | intro _ | with_reducible apply State.raise_keeps | with_reducible apply State.updSeq_keeps | with_reducible apply State.setBank_keeps | with_reducible apply State.hwSets_keeps | with_reducible apply State.Keeps.ite | with_reducible apply State.Keeps.ite2 | with_reducible apply State.Keeps.ite22 | with_reducible apply State.Keeps.ite222 | with_reducible apply State.Keeps.ite1 | with_reducible apply State.Keeps.ite21 | split | ((with_reducible conv => arg 2; whnf); split) | ((with_reducible conv => arg 2; arg 1; whnf); split) | ((with_reducible conv => arg 2; arg 1; arg 1; whnf); split) | with_reducible refine State.Keeps.eq2 (by with_reducible assumption) ?_ | with_reducible refine State.Keeps.eq22 (by with_reducible assumption) ?_ | with_reducible refine State.Keeps.eq222 (by with_reducible assumption) ?_ | with_reducible refine State.Keeps.eq1 (by with_reducible assumption) ?_ | with_reducible apply State.Keeps.mk_)

theorem State.seqSlip_keeps (b0 : State) (s : State) (k : SeqId) (e : TabEntry) (kind slip : Nat) (h0 : b0.Keeps s) : b0.Keeps (State.seqSlip s k e kind slip) := by
  unfold State.seqSlip
  repeat' (first | with_reducible assumption | with_reducible apply State.raise_keeps | with_reducible apply State.addSlip_keeps)

theorem State.seqBegin_keeps (b0 : State) (s : State) (k : SeqId) (i : Nat) (e : TabEntry) (t dep ou left : Nat) (h0 : b0.Keeps s) : b0.Keeps (State.seqBegin s k i e t dep ou left) := by
  unfold State.seqBegin
  repeat' (first | with_reducible assumption | intro _ _ _ | intro _ | with_reducible apply State.toCyc_keeps | with_reducible apply State.seqSlip_keeps | with_reducible apply State.commit_keeps | with_reducible apply State.updSeq_keeps | with_reducible apply State.Keeps.ite | split | ((with_reducible conv => arg 2; whnf); split) | with_reducible apply State.Keeps.mk_)

theorem State.updSeqRun_keeps (b0 : State) (s : State) (k : SeqId) (i : Nat) (f : SeqRun → SeqRun) (h0 : b0.Keeps s) : b0.Keeps (State.updSeqRun s k i f) := by
  unfold State.updSeqRun
  repeat' (first | with_reducible assumption | intro _ _ _ | intro _ | with_reducible apply State.updSeq_keeps | with_reducible apply State.Keeps.ite | split | ((with_reducible conv => arg 2; whnf); split) | with_reducible apply State.Keeps.mk_)

theorem State.seqDone_keeps (b0 : State) (s : State) (k : SeqId) (i c kind num delay : Nat) (h0 : b0.Keeps s) : b0.Keeps (State.seqDone s k i c kind num delay) := by
  unfold State.seqDone
  repeat' (first | with_reducible assumption | intro _ _ _ | intro _ | with_reducible apply State.updSeq_keeps | with_reducible apply State.updPart_keeps | with_reducible apply State.sendDep_keeps | with_reducible apply State.Keeps.ite | split | ((with_reducible conv => arg 2; whnf); split) | with_reducible apply State.Keeps.mk_)

theorem State.seqFault_keeps (b0 : State) (s : State) (k : SeqId) (code num f : Nat) (h0 : b0.Keeps s) : b0.Keeps (State.seqFault s k code num f) := by
  unfold State.seqFault
  repeat' (first | with_reducible assumption | with_reducible apply State.raise_keeps | with_reducible apply State.failFrame_keeps)

end Sys2Proof.Machine
end

