-- ==== Sys2Proof/Laws/KeepsSxe.lean ====
section
/-! SUPPORT. What every operation of Machine/Sxe.lean keeps: the queue, the part, and the canonical forms. -/
namespace Sys2Proof.Machine

set_option linter.all false
set_option Elab.async false

theorem State.Keeps.iteSxRun {s : State} {a b : SxRun} {c : Prop} [Decidable c] (ha : s.Keeps a.s) (hb : s.Keeps b.s) : s.Keeps (if c then a else b).s := by
  split <;> assumption

theorem State.Keeps.foldlSxRun {α : Type} {s : State} {f : SxRun → α → SxRun} {l : List α} {t : SxRun} (h : s.Keeps t.s)
    (hf : ∀ u x, s.Keeps u.s → s.Keeps (f u x).s) : s.Keeps (l.foldl f t).s := by
  induction l generalizing t with
  | nil => exact h
  | cons x r ih => exact ih (hf t x h)

theorem State.Keeps.ite1s {β : Type} {s : State} {a b : SxRun × β} {c : Prop} [Decidable c] (ha : s.Keeps a.1.s) (hb : s.Keeps b.1.s) :
    s.Keeps (if c then a else b).1.s := by
  split <;> assumption

theorem State.Keeps.foldl1s {α β : Type} {s : State} {f : SxRun × β → α → SxRun × β} {l : List α} {t : SxRun × β} (h : s.Keeps t.1.s)
    (hf : ∀ u x, s.Keeps u.1.s → s.Keeps (f u x).1.s) : s.Keeps (l.foldl f t).1.s := by
  induction l generalizing t with
  | nil => exact h
  | cons x r ih => exact ih (hf t x h)

theorem sxeReads_keeps (b0 : State) (die cyc : Nat) (l : List (Nat × Nat × Nat)) (s : State) (h0 : b0.Keeps s) : b0.Keeps (sxeReads die cyc l s).2 := by
  unfold sxeReads
  repeat' (first | with_reducible assumption | intro _ _ _ | intro _ | with_reducible apply State.spmRead_keeps | with_reducible apply State.Keeps.foldl | with_reducible apply State.Keeps.foldl2 | with_reducible apply State.Keeps.foldl1 | with_reducible apply State.Keeps.iteSxRun | with_reducible apply State.Keeps.foldlSxRun | with_reducible apply State.Keeps.ite1s | with_reducible apply State.Keeps.foldl1s | split | ((with_reducible conv => arg 2; whnf); split))

theorem sxeWrites_keeps (b0 : State) (die tag cyc u : Nat) (l : List (Nat × List Byte)) (s : State) (h0 : b0.Keeps s) : b0.Keeps (sxeWrites die tag cyc u l s).2 := by
  unfold sxeWrites
  repeat' (first | with_reducible assumption | intro _ _ _ | intro _ | with_reducible apply State.spmWrite_keeps | with_reducible apply State.Keeps.ite | with_reducible apply State.Keeps.ite2 | with_reducible apply State.Keeps.ite22 | with_reducible apply State.Keeps.ite222 | with_reducible apply State.Keeps.ite1 | with_reducible apply State.Keeps.ite21 | with_reducible apply State.Keeps.foldl | with_reducible apply State.Keeps.foldl2 | with_reducible apply State.Keeps.foldl22 | with_reducible apply State.Keeps.foldl222 | with_reducible apply State.Keeps.foldl1 | split | ((with_reducible conv => arg 2; whnf); split) | ((with_reducible conv => arg 2; arg 1; whnf); split) | ((with_reducible conv => arg 2; arg 1; arg 1; whnf); split) | with_reducible refine State.Keeps.eq2 (by with_reducible assumption) ?_ | with_reducible refine State.Keeps.eq22 (by with_reducible assumption) ?_ | with_reducible refine State.Keeps.eq222 (by with_reducible assumption) ?_ | with_reducible refine State.Keeps.eq1 (by with_reducible assumption) ?_ | with_reducible apply State.Keeps.pair2 | with_reducible apply State.Keeps.pair22 | with_reducible apply State.Keeps.pair222 | with_reducible apply State.Keeps.mk_)

theorem sxeBeat_keeps (b0 : State) (die idx start r b : Nat) (c : SxChain) (tabs : List (List Fv)) (scal : List (Fv × Nat)) (acc : SxRun × SxRow) (h0 : b0.Keeps acc.1.s) : b0.Keeps (sxeBeat die idx start r b c tabs scal acc).1.s := by
  unfold sxeBeat
  repeat' (first | with_reducible assumption | intro _ _ _ | intro _ | with_reducible apply State.expo_keeps | with_reducible apply sxeReads_keeps | with_reducible apply State.noteDouble_keeps | with_reducible apply State.acfCorrect_keeps | with_reducible apply sxeWrites_keeps | with_reducible apply State.Keeps.ite | with_reducible apply State.Keeps.ite2 | with_reducible apply State.Keeps.ite22 | with_reducible apply State.Keeps.ite222 | with_reducible apply State.Keeps.ite1 | with_reducible apply State.Keeps.ite21 | with_reducible apply State.Keeps.foldl | with_reducible apply State.Keeps.foldl2 | with_reducible apply State.Keeps.foldl1 | with_reducible apply State.Keeps.iteSxRun | with_reducible apply State.Keeps.foldlSxRun | with_reducible apply State.Keeps.ite1s | with_reducible apply State.Keeps.foldl1s | split | ((with_reducible conv => arg 2; whnf); split) | with_reducible apply State.Keeps.mk_)

theorem sxeRow_keeps (b0 : State) (die idx start r : Nat) (c : SxChain) (tabs : List (List Fv)) (run : SxRun) (h0 : b0.Keeps run.s) : b0.Keeps (sxeRow die idx start r c tabs run).s := by
  unfold sxeRow
  repeat' (first | with_reducible assumption | intro _ _ _ | intro _ | with_reducible apply sxeReads_keeps | with_reducible apply State.noteDouble_keeps | with_reducible apply sxeBeat_keeps | with_reducible apply sxeWrites_keeps | with_reducible apply State.Keeps.ite | with_reducible apply State.Keeps.ite2 | with_reducible apply State.Keeps.ite22 | with_reducible apply State.Keeps.ite222 | with_reducible apply State.Keeps.ite1 | with_reducible apply State.Keeps.ite21 | with_reducible apply State.Keeps.foldl | with_reducible apply State.Keeps.foldl2 | with_reducible apply State.Keeps.foldl1 | with_reducible apply State.Keeps.iteSxRun | with_reducible apply State.Keeps.foldlSxRun | with_reducible apply State.Keeps.ite1s | with_reducible apply State.Keeps.foldl1s | split | ((with_reducible conv => arg 2; whnf); split) | with_reducible apply State.Keeps.mk_)

theorem runChain_keeps (b0 : State) (die idx start : Nat) (c : SxChain) (s : State) (h0 : b0.Keeps s) : b0.Keeps (runChain die idx start c s).s := by
  unfold runChain
  repeat' (first | with_reducible assumption | intro _ _ _ | intro _ | with_reducible apply State.noteDouble_keeps | with_reducible apply State.spmCorrect_keeps | with_reducible apply sxeRow_keeps | with_reducible apply State.Keeps.ite | with_reducible apply State.Keeps.foldl | with_reducible apply State.Keeps.foldl2 | with_reducible apply State.Keeps.foldl1 | with_reducible apply State.Keeps.iteSxRun | with_reducible apply State.Keeps.foldlSxRun | with_reducible apply State.Keeps.ite1s | with_reducible apply State.Keeps.foldl1s | split | ((with_reducible conv => arg 2; whnf); split))

theorem doSxe_keeps (b0 : State) (die idx : Nat) (s : State) (h0 : b0.Keeps s) : b0.Keeps (doSxe die idx s) := by
  unfold doSxe
  repeat' (first | with_reducible assumption | intro _ _ _ | intro _ | with_reducible apply State.faultUnit_keeps | with_reducible apply runChain_keeps | with_reducible apply State.count_keeps | with_reducible apply State.setFs_keeps | with_reducible apply State.updDie_keeps | with_reducible apply State.updRun_keeps | with_reducible apply State.perform_keeps | with_reducible apply State.Keeps.ite | with_reducible apply State.Keeps.ite2 | with_reducible apply State.Keeps.ite22 | with_reducible apply State.Keeps.ite222 | with_reducible apply State.Keeps.ite1 | with_reducible apply State.Keeps.ite21 | split | ((with_reducible conv => arg 2; whnf); split) | ((with_reducible conv => arg 2; arg 1; whnf); split) | ((with_reducible conv => arg 2; arg 1; arg 1; whnf); split) | with_reducible refine State.Keeps.eq2 (by with_reducible assumption) ?_ | with_reducible refine State.Keeps.eq22 (by with_reducible assumption) ?_ | with_reducible refine State.Keeps.eq222 (by with_reducible assumption) ?_ | with_reducible refine State.Keeps.eq1 (by with_reducible assumption) ?_ | with_reducible apply State.Keeps.mk_)

theorem execSxe_keeps (b0 : State) (die : Fin 4) (idx : Nat) (s : State) (h0 : b0.Keeps s) : b0.KeepsOut (execSxe die idx s) := by
  unfold execSxe
  repeat' (first | with_reducible assumption | with_reducible apply doSxe_keeps | with_reducible apply State.Keeps.next | with_reducible apply State.Keeps.iteSxRun | with_reducible apply State.Keeps.foldlSxRun | with_reducible apply State.Keeps.ite1s | with_reducible apply State.Keeps.foldl1s)

theorem doSxeAcfWaitEnd_keeps (b0 : State) (die e : Nat) (s : State) (h0 : b0.Keeps s) : b0.Keeps (doSxeAcfWaitEnd die e s) := by
  unfold doSxeAcfWaitEnd
  repeat' (first | with_reducible assumption | intro _ _ _ | intro _ | with_reducible apply State.toCyc_keeps | split | ((with_reducible conv => arg 2; whnf); split) | ((with_reducible conv => arg 2; arg 1; whnf); split) | ((with_reducible conv => arg 2; arg 1; arg 1; whnf); split) | with_reducible refine State.Keeps.eq2 (by with_reducible assumption) ?_ | with_reducible refine State.Keeps.eq22 (by with_reducible assumption) ?_ | with_reducible refine State.Keeps.eq222 (by with_reducible assumption) ?_ | with_reducible refine State.Keeps.eq1 (by with_reducible assumption) ?_ | with_reducible apply State.Keeps.mk_)

theorem execSxeAcfWaitEnd_keeps (b0 : State) (die : Fin 4) (idx : Nat) (s : State) (h0 : b0.Keeps s) : b0.KeepsOut (execSxeAcfWaitEnd die idx s) := by
  unfold execSxeAcfWaitEnd
  repeat' (first | with_reducible assumption | with_reducible apply doSxeAcfWaitEnd_keeps | with_reducible apply State.Keeps.next | with_reducible apply State.Keeps.iteSxRun | with_reducible apply State.Keeps.foldlSxRun | with_reducible apply State.Keeps.ite1s | with_reducible apply State.Keeps.foldl1s)

end Sys2Proof.Machine
end

