-- ==== Sys2Proof/Laws/KeepsLoad.lean ====
section
/-! SUPPORT. What every operation of Machine/Load.lean keeps: the queue, the part, and the canonical forms. -/
namespace Sys2Proof.Machine

set_option linter.all false
set_option Elab.async false

theorem State.compatBit_keeps (b0 : State) (s : State) (die : Nat) (h0 : b0.Keeps s) : b0.Keeps (State.compatBit s die) := by
  unfold State.compatBit
  repeat' (first | with_reducible assumption | with_reducible apply State.setF_keeps)

theorem State.settleIdle_keeps (b0 : State) (s : State) (p : Nat) (h0 : b0.Keeps s) : b0.Keeps (State.settleIdle s p) := by
  unfold State.settleIdle
  repeat' (first | with_reducible assumption | intro _ _ _ | intro _ | with_reducible apply State.setFrameState_keeps | with_reducible apply State.Keeps.ite | split | ((with_reducible conv => arg 2; whnf); split))

theorem doScuLoad_keeps (b0 : State) (die v : Nat) (s : State) (h0 : b0.Keeps s) : b0.Keeps (doScuLoad die v s) := by
  unfold doScuLoad
  repeat' (first | with_reducible assumption | intro _ _ _ | intro _ | with_reducible apply State.setFs_keeps | with_reducible apply State.answer_keeps | with_reducible apply State.refused_keeps | with_reducible apply State.setF_keeps | with_reducible apply State.updDie_keeps | with_reducible apply State.Keeps.ite | with_reducible apply State.Keeps.ite2 | with_reducible apply State.Keeps.ite22 | with_reducible apply State.Keeps.ite222 | with_reducible apply State.Keeps.ite1 | with_reducible apply State.Keeps.ite21 | split | ((with_reducible conv => arg 2; whnf); split) | ((with_reducible conv => arg 2; arg 1; whnf); split) | ((with_reducible conv => arg 2; arg 1; arg 1; whnf); split) | with_reducible apply State.Keeps.mk_)

theorem execScuLoad_keeps (b0 : State) (die : Fin 4) (val : Word) (s : State) (h0 : b0.Keeps s) : b0.KeepsOut (execScuLoad die val s) := by
  unfold execScuLoad
  repeat' (first | with_reducible assumption | with_reducible apply doScuLoad_keeps | with_reducible apply State.Keeps.next)

theorem doScuLoadDone_keeps (b0 : State) (die : Nat) (s : State) (h0 : b0.Keeps s) : b0.Keeps (doScuLoadDone die s) := by
  unfold doScuLoadDone
  repeat' (first | with_reducible assumption | intro _ _ _ | intro _ | with_reducible apply State.updDie_keeps | with_reducible apply State.extRead_keeps | with_reducible apply State.installBank_keeps | with_reducible apply State.setFs_keeps | with_reducible apply State.planBits_keeps | with_reducible apply State.compatBit_keeps | with_reducible apply State.settleIdle_keeps | with_reducible apply State.Keeps.ite | with_reducible apply State.Keeps.ite2 | with_reducible apply State.Keeps.ite22 | with_reducible apply State.Keeps.ite222 | with_reducible apply State.Keeps.ite1 | with_reducible apply State.Keeps.ite21 | split | ((with_reducible conv => arg 2; whnf); split) | ((with_reducible conv => arg 2; arg 1; whnf); split) | ((with_reducible conv => arg 2; arg 1; arg 1; whnf); split) | with_reducible refine State.Keeps.eq2 (by with_reducible assumption) ?_ | with_reducible refine State.Keeps.eq22 (by with_reducible assumption) ?_ | with_reducible refine State.Keeps.eq222 (by with_reducible assumption) ?_ | with_reducible refine State.Keeps.eq1 (by with_reducible assumption) ?_ | with_reducible apply State.Keeps.mk_)

theorem execScuLoadDone_keeps (b0 : State) (die : Fin 4) (s : State) (h0 : b0.Keeps s) : b0.KeepsOut (execScuLoadDone die s) := by
  unfold execScuLoadDone
  repeat' (first | with_reducible assumption | with_reducible apply doScuLoadDone_keeps | with_reducible apply State.Keeps.next)

theorem qloadRun_keeps (b0 : State) (x : Xfer) (x0 : Nat) (x1 : Flow) (x2 : List Byte) (x3 : State) (h0 : b0.Keeps x3) : b0.Keeps (qloadRun x x0 x1 x2 x3).2 := by
  induction x0 generalizing x1 x2 x3 with
  | zero =>
    unfold qloadRun
    repeat' (first | with_reducible assumption | intro _ _ _ | intro _ | with_reducible apply flowRequest_keeps | with_reducible apply State.Keeps.ite | with_reducible apply State.Keeps.ite2 | with_reducible apply State.Keeps.ite22 | with_reducible apply State.Keeps.ite222 | with_reducible apply State.Keeps.ite1 | with_reducible apply State.Keeps.ite21 | split | ((with_reducible conv => arg 2; whnf); split) | ((with_reducible conv => arg 2; arg 1; whnf); split) | ((with_reducible conv => arg 2; arg 1; arg 1; whnf); split) | with_reducible refine State.Keeps.eq2 (by with_reducible assumption) ?_ | with_reducible refine State.Keeps.eq22 (by with_reducible assumption) ?_ | with_reducible refine State.Keeps.eq222 (by with_reducible assumption) ?_ | with_reducible refine State.Keeps.eq1 (by with_reducible assumption) ?_ | with_reducible apply State.Keeps.pair2 | with_reducible apply State.Keeps.pair22 | with_reducible apply State.Keeps.pair222 | with_reducible apply State.Keeps.mk_)
  | succ k ih =>
    unfold qloadRun
    repeat' (first | with_reducible apply ih | with_reducible assumption | intro _ _ _ | intro _ | with_reducible apply flowRequest_keeps | with_reducible apply State.Keeps.ite | with_reducible apply State.Keeps.ite2 | with_reducible apply State.Keeps.ite22 | with_reducible apply State.Keeps.ite222 | with_reducible apply State.Keeps.ite1 | with_reducible apply State.Keeps.ite21 | split | ((with_reducible conv => arg 2; whnf); split) | ((with_reducible conv => arg 2; arg 1; whnf); split) | ((with_reducible conv => arg 2; arg 1; arg 1; whnf); split) | with_reducible refine State.Keeps.eq2 (by with_reducible assumption) ?_ | with_reducible refine State.Keeps.eq22 (by with_reducible assumption) ?_ | with_reducible refine State.Keeps.eq222 (by with_reducible assumption) ?_ | with_reducible refine State.Keeps.eq1 (by with_reducible assumption) ?_ | with_reducible apply State.Keeps.pair2 | with_reducible apply State.Keeps.pair22 | with_reducible apply State.Keeps.pair222 | with_reducible apply State.Keeps.mk_)

theorem doQload_keeps (b0 : State) (die idx : Nat) (s : State) (h0 : b0.Keeps s) : b0.Keeps (doQload die idx s) := by
  unfold doQload
  repeat' (first | with_reducible assumption | intro _ _ _ | intro _ | with_reducible apply State.setFs_keeps | with_reducible apply State.dropBank_keeps | with_reducible apply qloadRun_keeps | with_reducible apply State.loadStatus_keeps | with_reducible apply State.faultMove_keeps | with_reducible apply State.updDie_keeps | with_reducible apply State.perform_keeps | with_reducible apply State.Keeps.ite | with_reducible apply State.Keeps.ite2 | with_reducible apply State.Keeps.ite22 | with_reducible apply State.Keeps.ite222 | with_reducible apply State.Keeps.ite1 | with_reducible apply State.Keeps.ite21 | split | ((with_reducible conv => arg 2; whnf); split) | ((with_reducible conv => arg 2; arg 1; whnf); split) | ((with_reducible conv => arg 2; arg 1; arg 1; whnf); split) | with_reducible refine State.Keeps.eq2 (by with_reducible assumption) ?_ | with_reducible refine State.Keeps.eq22 (by with_reducible assumption) ?_ | with_reducible refine State.Keeps.eq222 (by with_reducible assumption) ?_ | with_reducible refine State.Keeps.eq1 (by with_reducible assumption) ?_ | with_reducible apply State.Keeps.mk_)

theorem execQload_keeps (b0 : State) (die : Fin 4) (idx : Nat) (s : State) (h0 : b0.Keeps s) : b0.KeepsOut (execQload die idx s) := by
  unfold execQload
  repeat' (first | with_reducible assumption | with_reducible apply doQload_keeps | with_reducible apply State.Keeps.next)

theorem doFrameLenWrite_keeps (b0 : State) (p v : Nat) (s : State) (h0 : b0.Keeps s) : b0.Keeps (doFrameLenWrite p v s) := by
  unfold doFrameLenWrite
  repeat' (first | with_reducible assumption | intro _ _ _ | intro _ | with_reducible apply State.raiseP_keeps | with_reducible apply State.answer_keeps | with_reducible apply State.setFs_keeps | with_reducible apply State.Keeps.ite | with_reducible apply State.Keeps.ite2 | with_reducible apply State.Keeps.ite22 | with_reducible apply State.Keeps.ite222 | with_reducible apply State.Keeps.ite1 | with_reducible apply State.Keeps.ite21 | split | ((with_reducible conv => arg 2; whnf); split) | ((with_reducible conv => arg 2; arg 1; whnf); split) | ((with_reducible conv => arg 2; arg 1; arg 1; whnf); split) | with_reducible apply State.Keeps.mk_)

theorem execFrameLenWrite_keeps (b0 : State) (p : Fin 4) (val : Word) (s : State) (h0 : b0.Keeps s) : b0.KeepsOut (execFrameLenWrite p val s) := by
  unfold execFrameLenWrite
  repeat' (first | with_reducible assumption | with_reducible apply doFrameLenWrite_keeps | with_reducible apply State.Keeps.next)

end Sys2Proof.Machine
end

