-- ==== Sys2Proof/Laws/KeepsAbort.lean ====
section
/-! SUPPORT. What every operation of Machine/Abort.lean keeps: the queue, the part, and the canonical forms. -/
namespace Sys2Proof.Machine

set_option linter.all false
set_option Elab.async false

theorem State.runStarted_keeps (b0 : State) (s : State) (die idx : Nat) (h0 : b0.Keeps s) : b0.Keeps (State.runStarted s die idx) := by
  unfold State.runStarted
  repeat' (first | with_reducible assumption | intro _ _ _ | intro _ | with_reducible apply doMxa_keeps | with_reducible apply doSxe_keeps | with_reducible apply doMove_keeps | with_reducible apply doStepval_keeps | with_reducible apply State.Keeps.ite | with_reducible apply State.Keeps.ite2 | with_reducible apply State.Keeps.ite22 | with_reducible apply State.Keeps.ite222 | with_reducible apply State.Keeps.ite1 | with_reducible apply State.Keeps.ite21 | with_reducible refine State.Keeps.eq2 (by with_reducible assumption) ?_ | with_reducible refine State.Keeps.eq22 (by with_reducible assumption) ?_ | with_reducible refine State.Keeps.eq222 (by with_reducible assumption) ?_ | with_reducible refine State.Keeps.eq1 (by with_reducible assumption) ?_ | (with_reducible dsimp only []) | split | with_reducible apply State.Keeps.mk_)

theorem State.runDie_keeps (b0 : State) (s : State) (die : Nat) (h0 : b0.Keeps s) : b0.Keeps (State.runDie s die) := by
  unfold State.runDie
  repeat' (first | with_reducible assumption | intro _ _ _ | intro _ | with_reducible apply State.runStarted_keeps | with_reducible apply State.Keeps.ite | with_reducible apply State.Keeps.ite2 | with_reducible apply State.Keeps.ite22 | with_reducible apply State.Keeps.ite222 | with_reducible apply State.Keeps.ite1 | with_reducible apply State.Keeps.ite21 | with_reducible apply State.Keeps.foldl | with_reducible apply State.Keeps.foldl2 | with_reducible apply State.Keeps.foldl22 | with_reducible apply State.Keeps.foldl222 | with_reducible apply State.Keeps.foldl1 | with_reducible refine State.Keeps.eq2 (by with_reducible assumption) ?_ | with_reducible refine State.Keeps.eq22 (by with_reducible assumption) ?_ | with_reducible refine State.Keeps.eq222 (by with_reducible assumption) ?_ | with_reducible refine State.Keeps.eq1 (by with_reducible assumption) ?_ | (with_reducible dsimp only []) | split | with_reducible apply State.Keeps.mk_)

theorem State.runAll_keeps (b0 : State) (p : Nat) (x0 : Nat) (x1 : State) (h0 : b0.Keeps x1) : b0.Keeps (State.runAll p x0 x1) := by
  induction x0 generalizing x1 with
  | zero =>
    unfold State.runAll
    repeat' (first | with_reducible assumption | intro _ _ _ | intro _ | with_reducible apply State.runDie_keeps | with_reducible apply State.Keeps.foldl | with_reducible apply State.Keeps.foldl2 | with_reducible apply State.Keeps.foldl22 | with_reducible apply State.Keeps.foldl222 | with_reducible apply State.Keeps.foldl1 | with_reducible apply State.Keeps.mk_)
  | succ k ih =>
    unfold State.runAll
    repeat' (first | with_reducible apply ih | with_reducible assumption | intro _ _ _ | intro _ | with_reducible apply State.runDie_keeps | with_reducible apply State.Keeps.foldl | with_reducible apply State.Keeps.foldl2 | with_reducible apply State.Keeps.foldl22 | with_reducible apply State.Keeps.foldl222 | with_reducible apply State.Keeps.foldl1 | with_reducible apply State.Keeps.mk_)

theorem State.takeData_keeps (b0 : State) (s t : State) (h0 : b0.Keeps s) (h1 : b0.Keeps t) : b0.Keeps (s.takeData t) :=
  ⟨h0.pending, h0.grade, h0.stepping, h0.owner, fun e => ⟨(h1.inv e).mem, (h0.inv e).fld, (h0.inv e).nvm, (h0.inv e).cores, (h0.inv e).ckpt⟩⟩

theorem State.acfStop_keeps (b0 : State) (s : State) (die c : Nat) (h0 : b0.Keeps s) : b0.Keeps (State.acfStop s die c) := by
  unfold State.acfStop
  repeat' (first | with_reducible assumption | intro _ _ _ | intro _ | with_reducible apply State.Keeps.ite | with_reducible apply State.Keeps.ite2 | with_reducible apply State.Keeps.ite22 | with_reducible apply State.Keeps.ite222 | with_reducible apply State.Keeps.ite1 | with_reducible apply State.Keeps.ite21 | with_reducible apply State.Keeps.foldl | with_reducible apply State.Keeps.foldl2 | with_reducible apply State.Keeps.foldl22 | with_reducible apply State.Keeps.foldl222 | with_reducible apply State.Keeps.foldl1 | split | ((with_reducible conv => arg 2; whnf); split) | ((with_reducible conv => arg 2; arg 1; whnf); split) | ((with_reducible conv => arg 2; arg 1; arg 1; whnf); split) | with_reducible apply State.Keeps.mk_)

theorem State.stopUnits_keeps (b0 : State) (s : State) (p c : Nat) (h0 : b0.Keeps s) : b0.Keeps (State.stopUnits s p c) := by
  unfold State.stopUnits
  repeat' (first | with_reducible assumption | intro _ _ _ | intro _ | with_reducible apply State.takeData_keeps | with_reducible apply State.runAll_keeps | with_reducible apply State.acfStop_keeps | with_reducible apply State.unwrite_keeps | with_reducible apply State.Keeps.ite | with_reducible apply State.Keeps.ite2 | with_reducible apply State.Keeps.ite22 | with_reducible apply State.Keeps.ite222 | with_reducible apply State.Keeps.ite1 | with_reducible apply State.Keeps.ite21 | with_reducible apply State.Keeps.foldl | with_reducible apply State.Keeps.foldl2 | with_reducible apply State.Keeps.foldl22 | with_reducible apply State.Keeps.foldl222 | with_reducible apply State.Keeps.foldl1 | with_reducible refine State.Keeps.eq2 (by with_reducible assumption) ?_ | with_reducible refine State.Keeps.eq22 (by with_reducible assumption) ?_ | with_reducible refine State.Keeps.eq222 (by with_reducible assumption) ?_ | with_reducible refine State.Keeps.eq1 (by with_reducible assumption) ?_ | (with_reducible dsimp only []) | split | with_reducible apply State.Keeps.mk_)

theorem State.stopUnit_keeps (b0 : State) (s : State) (die c : Nat) (r : RunCmd) (h0 : b0.Keeps s) : b0.Keeps (State.stopUnit s die c r) := by
  unfold State.stopUnit
  repeat' (first | with_reducible assumption | intro _ _ _ | intro _ | with_reducible apply State.setFs_keeps | with_reducible apply State.hwSets_keeps | with_reducible apply State.Keeps.ite | with_reducible apply State.Keeps.ite2 | with_reducible apply State.Keeps.ite22 | with_reducible apply State.Keeps.ite222 | with_reducible apply State.Keeps.ite1 | with_reducible apply State.Keeps.ite21 | with_reducible refine State.Keeps.eq2 (by with_reducible assumption) ?_ | with_reducible refine State.Keeps.eq22 (by with_reducible assumption) ?_ | with_reducible refine State.Keeps.eq222 (by with_reducible assumption) ?_ | with_reducible refine State.Keeps.eq1 (by with_reducible assumption) ?_ | (with_reducible dsimp only []) | split | with_reducible apply State.Keeps.mk_)

theorem State.failOps_keeps (b0 : State) (s : State) (p : Nat) (h0 : b0.Keeps s) : b0.Keeps (State.failOps s p) := by
  unfold State.failOps
  repeat' (first | with_reducible assumption | intro _ _ _ | intro _ | with_reducible apply State.Keeps.ite | with_reducible apply State.Keeps.ite2 | with_reducible apply State.Keeps.ite22 | with_reducible apply State.Keeps.ite222 | with_reducible apply State.Keeps.ite1 | with_reducible apply State.Keeps.ite21 | split | ((with_reducible conv => arg 2; whnf); split) | ((with_reducible conv => arg 2; arg 1; whnf); split) | ((with_reducible conv => arg 2; arg 1; arg 1; whnf); split) | with_reducible apply State.Keeps.mk_)

theorem State.abortDies_keeps (b0 : State) (s : State) (p c : Nat) (h0 : b0.Keeps s) : b0.Keeps (State.abortDies s p c) := by
  unfold State.abortDies
  repeat' (first | with_reducible assumption | intro _ _ _ | intro _ | with_reducible apply State.stopUnit_keeps | with_reducible apply State.latchFault_keeps | with_reducible apply State.updDie_keeps | with_reducible apply State.stopUnits_keeps | with_reducible apply State.Keeps.ite | with_reducible apply State.Keeps.ite2 | with_reducible apply State.Keeps.ite22 | with_reducible apply State.Keeps.ite222 | with_reducible apply State.Keeps.ite1 | with_reducible apply State.Keeps.ite21 | with_reducible apply State.Keeps.foldl | with_reducible apply State.Keeps.foldl2 | with_reducible apply State.Keeps.foldl22 | with_reducible apply State.Keeps.foldl222 | with_reducible apply State.Keeps.foldl1 | with_reducible refine State.Keeps.eq2 (by with_reducible assumption) ?_ | with_reducible refine State.Keeps.eq22 (by with_reducible assumption) ?_ | with_reducible refine State.Keeps.eq222 (by with_reducible assumption) ?_ | with_reducible refine State.Keeps.eq1 (by with_reducible assumption) ?_ | (with_reducible dsimp only []) | split | with_reducible apply State.Keeps.mk_)

theorem State.abortFrame_keeps (b0 : State) (s : State) (p : Nat) (h0 : b0.Keeps s) : b0.Keeps (State.abortFrame s p) := by
  unfold State.abortFrame
  repeat' (first | with_reducible assumption | intro _ _ _ | intro _ | with_reducible apply State.failFrame_keeps | with_reducible apply State.updPart_keeps | with_reducible apply State.abortDies_keeps | with_reducible apply State.failOps_keeps | with_reducible apply State.raiseP_keeps | with_reducible apply State.Keeps.ite | with_reducible apply State.Keeps.ite2 | with_reducible apply State.Keeps.ite22 | with_reducible apply State.Keeps.ite222 | with_reducible apply State.Keeps.ite1 | with_reducible apply State.Keeps.ite21 | with_reducible refine State.Keeps.eq2 (by with_reducible assumption) ?_ | with_reducible refine State.Keeps.eq22 (by with_reducible assumption) ?_ | with_reducible refine State.Keeps.eq222 (by with_reducible assumption) ?_ | with_reducible refine State.Keeps.eq1 (by with_reducible assumption) ?_ | (with_reducible dsimp only []) | split | with_reducible apply State.Keeps.mk_)

theorem doScuAbort_keeps (b0 : State) (die : Nat) (s : State) (h0 : b0.Keeps s) : b0.Keeps (doScuAbort die s) := by
  unfold doScuAbort
  repeat' (first | with_reducible assumption | intro _ _ _ | intro _ | with_reducible apply State.abortFrame_keeps | with_reducible apply State.Keeps.mk_)

theorem execScuAbort_keeps (b0 : State) (die : Fin 4) (s : State) (h0 : b0.Keeps s) : b0.KeepsOut (execScuAbort die s) := by
  unfold execScuAbort
  repeat' (first | with_reducible assumption | intro _ _ _ | intro _ | with_reducible apply doScuAbort_keeps | with_reducible apply State.Keeps.next | with_reducible apply State.Keeps.mk_)

end Sys2Proof.Machine
end

