-- ==== Sys2Proof/Laws/KeepsVault.lean ====
section
/-! SUPPORT. What every operation of Machine/Vault.lean keeps: the queue, the part, and the canonical forms. -/
namespace Sys2Proof.Machine

set_option linter.all false
set_option Elab.async false

theorem State.sign_keeps (b0 : State) (s : State) (seed m : List Byte) (h0 : b0.Keeps s) : b0.Keeps (State.sign s seed m).2 := by
  unfold State.sign
  repeat' (first | with_reducible assumption | with_reducible apply State.satF_keeps | with_reducible apply State.Keeps.mk_)

theorem State.verify_keeps (b0 : State) (s : State) (pub m sig : List Byte) (h0 : b0.Keeps s) : b0.Keeps (State.verify s pub m sig).2 := by
  unfold State.verify
  repeat' (first | with_reducible assumption | with_reducible apply State.satF_keeps | with_reducible apply State.Keeps.ite | with_reducible apply State.Keeps.ite2 | with_reducible apply State.Keeps.ite22 | with_reducible apply State.Keeps.ite222 | with_reducible apply State.Keeps.ite1 | with_reducible apply State.Keeps.ite21 | split | ((with_reducible conv => arg 2; whnf); split) | ((with_reducible conv => arg 2; arg 1; whnf); split) | ((with_reducible conv => arg 2; arg 1; arg 1; whnf); split))

end Sys2Proof.Machine
end

