-- ==== Sys2Proof/Laws/KeepsBook.lean ====
section
/-! SUPPORT. What every operation of Machine/Book.lean keeps: the queue, the part, and the canonical forms. -/
namespace Sys2Proof.Machine

set_option linter.all false
set_option Elab.async false

theorem State.nvmWrite_keeps (b0 : State) (s : State) (a : Nat) (x0 : List Byte) (h0 : b0.Keeps s) : b0.Keeps (State.nvmWrite s a x0) := by
  induction x0 generalizing s a with
  | nil => exact h0
  | cons b r ih => exact ih _ _ (State.Keeps.nvm h0 _ (fun h => Assoc.wf_put (fun _ => (0xFF : Byte)) s.nvm a b h))

theorem State.nvmErase_keeps (b0 : State) (s : State) (a n : Nat) (h0 : b0.Keeps s) : b0.Keeps (State.nvmErase s a n) :=
  State.Keeps.nvm h0 _ (fun h => Assoc.wf_filter _ _ _ (fun _ _ => rfl) s.nvm h)

theorem State.countPcs_keeps (b0 : State) (s : State) (die : Nat) (h0 : b0.Keeps s) : b0.Keeps (State.countPcs s die) := by
  unfold State.countPcs
  repeat' (first | with_reducible assumption | intro _ _ _ | intro _ | with_reducible apply State.setFs_keeps | with_reducible apply State.Keeps.foldl | with_reducible apply State.Keeps.foldl2 | with_reducible apply State.Keeps.foldl22 | with_reducible apply State.Keeps.foldl222 | with_reducible apply State.Keeps.foldl1 | split | ((with_reducible conv => arg 2; whnf); split))

theorem State.applyBook_keeps (b0 : State) (s : State) (b : List Byte) (h0 : b0.Keeps s) : b0.Keeps (State.applyBook s b) := by
  unfold State.applyBook
  repeat' (first | with_reducible assumption | intro _ _ _ | intro _ | with_reducible apply State.setFs_keeps | with_reducible apply State.setF_keeps | with_reducible apply State.countPcs_keeps | with_reducible apply State.Keeps.ite | with_reducible apply State.Keeps.foldl | with_reducible apply State.Keeps.foldl2 | with_reducible apply State.Keeps.foldl22 | with_reducible apply State.Keeps.foldl222 | with_reducible apply State.Keeps.foldl1 | split | ((with_reducible conv => arg 2; whnf); split) | with_reducible apply State.Keeps.mk_)

theorem State.recordAt_keeps (b0 : State) (s : State) (i : Nat) (h0 : b0.Keeps s) : b0.Keeps (State.recordAt s i).2 := by
  unfold State.recordAt
  repeat' (first | with_reducible assumption | with_reducible apply State.verify_keeps | with_reducible apply State.Keeps.ite | with_reducible apply State.Keeps.ite2 | with_reducible apply State.Keeps.ite22 | with_reducible apply State.Keeps.ite222 | with_reducible apply State.Keeps.ite1 | with_reducible apply State.Keeps.ite21 | split | ((with_reducible conv => arg 2; whnf); split) | ((with_reducible conv => arg 2; arg 1; whnf); split) | ((with_reducible conv => arg 2; arg 1; arg 1; whnf); split) | intro _)

theorem State.currentRecord_keeps (b0 : State) (s : State) (h0 : b0.Keeps s) : b0.Keeps (State.currentRecord s).2 := by
  unfold State.currentRecord
  repeat' (first | with_reducible assumption | intro _ _ _ | intro _ | with_reducible apply State.recordAt_keeps | with_reducible apply State.Keeps.ite | with_reducible apply State.Keeps.ite2 | with_reducible apply State.Keeps.ite22 | with_reducible apply State.Keeps.ite222 | with_reducible apply State.Keeps.ite1 | with_reducible apply State.Keeps.ite21 | with_reducible apply State.Keeps.foldl | with_reducible apply State.Keeps.foldl2 | with_reducible apply State.Keeps.foldl22 | with_reducible apply State.Keeps.foldl222 | with_reducible apply State.Keeps.foldl1 | split | ((with_reducible conv => arg 2; whnf); split) | ((with_reducible conv => arg 2; arg 1; whnf); split) | ((with_reducible conv => arg 2; arg 1; arg 1; whnf); split))

theorem State.writeRecord_keeps (b0 : State) (s : State) (h : Nat) (h0 : b0.Keeps s) : b0.Keeps (State.writeRecord s h) := by
  unfold State.writeRecord
  repeat' (first | with_reducible assumption | with_reducible apply State.sign_keeps | with_reducible apply State.nvmWrite_keeps | with_reducible apply State.setFs_keeps | split | ((with_reducible conv => arg 2; whnf); split) | ((with_reducible conv => arg 2; arg 1; whnf); split) | ((with_reducible conv => arg 2; arg 1; arg 1; whnf); split) | with_reducible refine State.Keeps.eq2 (by with_reducible assumption) ?_ | with_reducible refine State.Keeps.eq22 (by with_reducible assumption) ?_ | with_reducible refine State.Keeps.eq222 (by with_reducible assumption) ?_ | with_reducible refine State.Keeps.eq1 (by with_reducible assumption) ?_ | intro _)

theorem State.useCoreSpare_keeps (b0 : State) (s : State) (x : BringIn) (readable : Bool) (h0 : b0.Keeps s) : b0.Keeps (State.useCoreSpare s x readable) := by
  unfold State.useCoreSpare
  extract_lets s1 s2
  have h1 : b0.Keeps s1 := State.setFs_keeps _ _ _ h0
  have h2 : b0.Keeps s2 := by
    show b0.Keeps (if _ then _ else _)
    split
    · exact h1
    · exact State.Keeps.cores h1 _ (List.length_modify ..)
  exact State.dropBringIn_keeps _ _ _ (State.dirty_keeps _ _ (State.raise_keeps _ _ _ _ _ _ _ _ h2))

theorem State.useSlinkLane_keeps (b0 : State) (s : State) (e l : Nat) (h0 : b0.Keeps s) : b0.Keeps (State.useSlinkLane s e l) := by
  unfold State.useSlinkLane
  repeat' (first | with_reducible assumption | with_reducible apply State.setFs_keeps | with_reducible apply State.raise_keeps | with_reducible apply State.dirty_keeps | with_reducible apply State.Keeps.ite | split | ((with_reducible conv => arg 2; whnf); split) | with_reducible apply State.Keeps.mk_ | intro _)

theorem State.spareAtStart_keeps (b0 : State) (s : State) (kind die unit num : Nat) (h0 : b0.Keeps s) : b0.Keeps (State.spareAtStart s kind die unit num) := by
  unfold State.spareAtStart
  repeat' (first | with_reducible assumption | intro _ _ _ | intro _ | with_reducible apply State.useSlinkLane_keeps | with_reducible apply State.pcLost_keeps | with_reducible apply State.replacePc_keeps | with_reducible apply doHbmMapOut_keeps | with_reducible apply State.setF_keeps | with_reducible apply State.sparesExhausted_keeps | with_reducible apply State.useCoreSpare_keeps | with_reducible apply State.useSpmSpare_keeps | with_reducible apply State.useArraySpare_keeps | with_reducible apply State.Keeps.ite | with_reducible apply State.Keeps.ite2 | with_reducible apply State.Keeps.ite22 | with_reducible apply State.Keeps.ite222 | with_reducible apply State.Keeps.ite1 | with_reducible apply State.Keeps.ite21 | split | ((with_reducible conv => arg 2; whnf); split) | ((with_reducible conv => arg 2; arg 1; whnf); split) | ((with_reducible conv => arg 2; arg 1; arg 1; whnf); split) | with_reducible refine State.Keeps.eq2 (by with_reducible assumption) ?_ | with_reducible refine State.Keeps.eq22 (by with_reducible assumption) ?_ | with_reducible refine State.Keeps.eq222 (by with_reducible assumption) ?_ | with_reducible refine State.Keeps.eq1 (by with_reducible assumption) ?_ | with_reducible apply State.Keeps.mk_)

end Sys2Proof.Machine
end

