-- ==== Sys2Proof/Laws/KeepsPmov.lean ====
section
/-! SUPPORT. What every operation of Machine/Pmov.lean keeps: the queue, the part, and the canonical forms. -/
namespace Sys2Proof.Machine

set_option linter.all false
set_option Elab.async false

theorem doPmovLoad_keeps (b0 : State) (v : Nat) (s : State) (h0 : b0.Keeps s) : b0.Keeps (doPmovLoad v s) := by
  unfold doPmovLoad
  repeat' (first | with_reducible assumption | with_reducible apply State.seqLoad_keeps | intro _)

theorem execPmovLoad_keeps (b0 : State) (val : Word) (s : State) (h0 : b0.Keeps s) : b0.KeepsOut (execPmovLoad val s) := by
  unfold execPmovLoad
  repeat' (first | with_reducible assumption | with_reducible apply doPmovLoad_keeps | with_reducible apply State.Keeps.next | intro _)

theorem doPmovLoadDone_keeps (b0 : State) (s : State) (h0 : b0.Keeps s) : b0.Keeps (doPmovLoadDone s) := by
  unfold doPmovLoadDone
  repeat' (first | with_reducible assumption | intro _ _ _ | intro _ | with_reducible apply State.extRead_keeps | with_reducible apply State.setF_keeps | with_reducible apply State.seqLoaded_keeps | with_reducible apply State.Keeps.ite | with_reducible apply State.Keeps.ite2 | with_reducible apply State.Keeps.ite22 | with_reducible apply State.Keeps.ite222 | with_reducible apply State.Keeps.ite1 | with_reducible apply State.Keeps.ite21 | split | ((with_reducible conv => arg 2; whnf); split) | ((with_reducible conv => arg 2; arg 1; whnf); split) | ((with_reducible conv => arg 2; arg 1; arg 1; whnf); split) | with_reducible refine State.Keeps.eq2 (by with_reducible assumption) ?_ | with_reducible refine State.Keeps.eq22 (by with_reducible assumption) ?_ | with_reducible refine State.Keeps.eq222 (by with_reducible assumption) ?_ | with_reducible refine State.Keeps.eq1 (by with_reducible assumption) ?_ | with_reducible apply State.Keeps.mk_)

theorem execPmovLoadDone_keeps (b0 : State) (s : State) (h0 : b0.Keeps s) : b0.KeepsOut (execPmovLoadDone s) := by
  unfold execPmovLoadDone
  repeat' (first | with_reducible assumption | with_reducible apply doPmovLoadDone_keeps | with_reducible apply State.Keeps.next | intro _)

theorem runPmov_keeps (b0 : State) (ch i : Nat) (d : Desc) (t sent : Nat) (s : State) (h0 : b0.Keeps s) : b0.Keeps (runPmov ch i d t sent s).2 := by
  unfold runPmov
  repeat' (first | with_reducible assumption | with_reducible apply State.leave_keeps | with_reducible apply State.setCut_keeps | intro _ _ _ | intro _ | with_reducible apply State.refuse_keeps | with_reducible apply flowRun_keeps | with_reducible apply State.count_keeps | with_reducible apply State.setEgress_keeps | with_reducible apply State.sendWrite_keeps | with_reducible apply State.updSeqRun_keeps | with_reducible apply State.Keeps.ite | with_reducible apply State.Keeps.ite2 | with_reducible apply State.Keeps.ite22 | with_reducible apply State.Keeps.ite222 | with_reducible apply State.Keeps.ite1 | with_reducible apply State.Keeps.ite21 | with_reducible apply State.Keeps.foldl | with_reducible apply State.Keeps.foldl2 | with_reducible apply State.Keeps.foldl22 | with_reducible apply State.Keeps.foldl222 | with_reducible apply State.Keeps.foldl1 | split | ((with_reducible conv => arg 2; whnf); split) | ((with_reducible conv => arg 2; arg 1; whnf); split) | ((with_reducible conv => arg 2; arg 1; arg 1; whnf); split) | with_reducible refine State.Keeps.eq2 (by with_reducible assumption) ?_ | with_reducible refine State.Keeps.eq22 (by with_reducible assumption) ?_ | with_reducible refine State.Keeps.eq222 (by with_reducible assumption) ?_ | with_reducible refine State.Keeps.eq1 (by with_reducible assumption) ?_ | with_reducible apply State.Keeps.pair2 | with_reducible apply State.Keeps.pair22 | with_reducible apply State.Keeps.pair222 | with_reducible apply State.Keeps.mk_)

theorem State.faultPmov_keeps (b0 : State) (s : State) (ch i num code f : Nat) (h0 : b0.Keeps s) : b0.Keeps (State.faultPmov s ch i num code f) := by
  unfold State.faultPmov
  repeat' (first | with_reducible assumption | intro _ _ _ | intro _ | with_reducible apply State.hwSets_keeps | with_reducible apply State.updSeqRun_keeps | with_reducible apply State.seqFault_keeps | split | ((with_reducible conv => arg 2; whnf); split) | ((with_reducible conv => arg 2; arg 1; whnf); split) | ((with_reducible conv => arg 2; arg 1; arg 1; whnf); split) | with_reducible apply State.Keeps.mk_)

theorem runPmovs_keeps (b0 : State) (ch i : Nat) (e : TabEntry) (x0 : Nat) (x1 : Nat) (x2 : Nat) (x3 : Nat) (x4 : State) (h0 : b0.Keeps x4) : b0.Keeps (runPmovs ch i e x0 x1 x2 x3 x4) := by
  induction x0 generalizing x1 x2 x3 x4 with
  | zero =>
    unfold runPmovs
    repeat' (first | with_reducible assumption | intro _ _ _ | intro _ | with_reducible apply runPmov_keeps | with_reducible apply State.faultPmov_keeps | with_reducible apply State.updSeqRun_keeps | with_reducible apply State.Keeps.ite | with_reducible apply State.Keeps.ite2 | with_reducible apply State.Keeps.ite22 | with_reducible apply State.Keeps.ite222 | with_reducible apply State.Keeps.ite1 | with_reducible apply State.Keeps.ite21 | split | ((with_reducible conv => arg 2; whnf); split) | ((with_reducible conv => arg 2; arg 1; whnf); split) | ((with_reducible conv => arg 2; arg 1; arg 1; whnf); split) | with_reducible refine State.Keeps.eq2 (by with_reducible assumption) ?_ | with_reducible refine State.Keeps.eq22 (by with_reducible assumption) ?_ | with_reducible refine State.Keeps.eq222 (by with_reducible assumption) ?_ | with_reducible refine State.Keeps.eq1 (by with_reducible assumption) ?_ | with_reducible apply State.Keeps.mk_)
  | succ k ih =>
    unfold runPmovs
    repeat' (first | with_reducible apply ih | with_reducible assumption | intro _ _ _ | intro _ | with_reducible apply runPmov_keeps | with_reducible apply State.faultPmov_keeps | with_reducible apply State.updSeqRun_keeps | with_reducible apply State.Keeps.ite | with_reducible apply State.Keeps.ite2 | with_reducible apply State.Keeps.ite22 | with_reducible apply State.Keeps.ite222 | with_reducible apply State.Keeps.ite1 | with_reducible apply State.Keeps.ite21 | split | ((with_reducible conv => arg 2; whnf); split) | ((with_reducible conv => arg 2; arg 1; whnf); split) | ((with_reducible conv => arg 2; arg 1; arg 1; whnf); split) | with_reducible refine State.Keeps.eq2 (by with_reducible assumption) ?_ | with_reducible refine State.Keeps.eq22 (by with_reducible assumption) ?_ | with_reducible refine State.Keeps.eq222 (by with_reducible assumption) ?_ | with_reducible refine State.Keeps.eq1 (by with_reducible assumption) ?_ | with_reducible apply State.Keeps.mk_)

theorem doPmovEntryStart_keeps (b0 : State) (i : Nat) (s : State) (h0 : b0.Keeps s) : b0.Keeps (doPmovEntryStart i s) := by
  unfold doPmovEntryStart
  repeat' (first | with_reducible assumption | intro _ _ _ | intro _ | with_reducible apply runPmovs_keeps | with_reducible apply State.seqBegin_keeps | with_reducible apply State.count_keeps | with_reducible apply State.setF_keeps | with_reducible apply State.Keeps.ite | with_reducible apply State.Keeps.ite2 | with_reducible apply State.Keeps.ite22 | with_reducible apply State.Keeps.ite222 | with_reducible apply State.Keeps.ite1 | with_reducible apply State.Keeps.ite21 | split | ((with_reducible conv => arg 2; whnf); split) | ((with_reducible conv => arg 2; arg 1; whnf); split) | ((with_reducible conv => arg 2; arg 1; arg 1; whnf); split) | with_reducible refine State.Keeps.eq2 (by with_reducible assumption) ?_ | with_reducible refine State.Keeps.eq22 (by with_reducible assumption) ?_ | with_reducible refine State.Keeps.eq222 (by with_reducible assumption) ?_ | with_reducible refine State.Keeps.eq1 (by with_reducible assumption) ?_ | with_reducible apply State.Keeps.mk_)

theorem execPmovEntryStart_keeps (b0 : State) (entry : Nat) (s : State) (h0 : b0.Keeps s) : b0.KeepsOut (execPmovEntryStart entry s) := by
  unfold execPmovEntryStart
  repeat' (first | with_reducible assumption | with_reducible apply doPmovEntryStart_keeps | with_reducible apply State.Keeps.next | intro _)

theorem doPmovTransferComplete_keeps (b0 : State) (ch cyc : Nat) (s : State) (h0 : b0.Keeps s) : b0.Keeps (doPmovTransferComplete ch cyc s) := by
  unfold doPmovTransferComplete
  repeat' (first | with_reducible assumption | intro _ _ _ | intro _ | with_reducible apply State.toCyc_keeps | with_reducible apply State.updSeq_keeps | with_reducible apply State.seqDone_keeps | with_reducible apply State.Keeps.ite | with_reducible apply State.Keeps.ite2 | with_reducible apply State.Keeps.ite22 | with_reducible apply State.Keeps.ite222 | with_reducible apply State.Keeps.ite1 | with_reducible apply State.Keeps.ite21 | split | ((with_reducible conv => arg 2; whnf); split) | ((with_reducible conv => arg 2; arg 1; whnf); split) | ((with_reducible conv => arg 2; arg 1; arg 1; whnf); split) | with_reducible refine State.Keeps.eq2 (by with_reducible assumption) ?_ | with_reducible refine State.Keeps.eq22 (by with_reducible assumption) ?_ | with_reducible refine State.Keeps.eq222 (by with_reducible assumption) ?_ | with_reducible refine State.Keeps.eq1 (by with_reducible assumption) ?_ | with_reducible apply State.Keeps.mk_)

theorem execPmovTransferComplete_keeps (b0 : State) (ch : Fin 4) (cyc : Nat) (s : State) (h0 : b0.Keeps s) : b0.KeepsOut (execPmovTransferComplete ch cyc s) := by
  unfold execPmovTransferComplete
  repeat' (first | with_reducible assumption | with_reducible apply doPmovTransferComplete_keeps | with_reducible apply State.Keeps.next | intro _)

theorem doMigrationStart_keeps (b0 : State) (p v : Nat) (s : State) (h0 : b0.Keeps s) : b0.Keeps (doMigrationStart p v s) := by
  unfold doMigrationStart
  repeat' (first | with_reducible assumption | intro _ _ _ | intro _ | with_reducible apply State.setF_keeps | with_reducible apply State.clearBits_keeps | with_reducible apply State.answer_keeps | with_reducible apply State.hwSets_keeps | with_reducible apply State.refused_keeps | with_reducible apply State.Keeps.ite | with_reducible apply State.Keeps.ite2 | with_reducible apply State.Keeps.ite22 | with_reducible apply State.Keeps.ite222 | with_reducible apply State.Keeps.ite1 | with_reducible apply State.Keeps.ite21 | split | ((with_reducible conv => arg 2; whnf); split) | ((with_reducible conv => arg 2; arg 1; whnf); split) | ((with_reducible conv => arg 2; arg 1; arg 1; whnf); split) | with_reducible apply State.Keeps.mk_)

theorem execMigrationStart_keeps (b0 : State) (p : Fin 4) (val : Word) (s : State) (h0 : b0.Keeps s) : b0.KeepsOut (execMigrationStart p val s) := by
  unfold execMigrationStart
  repeat' (first | with_reducible assumption | with_reducible apply doMigrationStart_keeps | with_reducible apply State.Keeps.next | intro _)

theorem doMigrationDone_keeps (b0 : State) (s : State) (h0 : b0.Keeps s) : b0.Keeps (doMigrationDone s) := by
  unfold doMigrationDone
  repeat' (first | with_reducible assumption | intro _ _ _ | intro _ | with_reducible apply State.setF_keeps | with_reducible apply State.hwSets_keeps | with_reducible apply State.extRead_keeps | with_reducible apply State.extWrite_keeps | with_reducible apply State.Keeps.ite | with_reducible apply State.Keeps.ite2 | with_reducible apply State.Keeps.ite22 | with_reducible apply State.Keeps.ite222 | with_reducible apply State.Keeps.ite1 | with_reducible apply State.Keeps.ite21 | split | ((with_reducible conv => arg 2; whnf); split) | ((with_reducible conv => arg 2; arg 1; whnf); split) | ((with_reducible conv => arg 2; arg 1; arg 1; whnf); split) | with_reducible refine State.Keeps.eq2 (by with_reducible assumption) ?_ | with_reducible refine State.Keeps.eq22 (by with_reducible assumption) ?_ | with_reducible refine State.Keeps.eq222 (by with_reducible assumption) ?_ | with_reducible refine State.Keeps.eq1 (by with_reducible assumption) ?_ | with_reducible apply State.Keeps.mk_)

theorem execMigrationDone_keeps (b0 : State) (s : State) (h0 : b0.Keeps s) : b0.KeepsOut (execMigrationDone s) := by
  unfold execMigrationDone
  repeat' (first | with_reducible assumption | with_reducible apply doMigrationDone_keeps | with_reducible apply State.Keeps.next | intro _)

end Sys2Proof.Machine
end

