-- ==== Sys2Proof/Laws/KeepsCkpt.lean ====
section
/-! SUPPORT. What every operation of Machine/Ckpt.lean keeps: the queue, the part, and the canonical forms. -/
namespace Sys2Proof.Machine

set_option linter.all false
set_option Elab.async false

theorem State.csmWrite_keeps (b0 : State) (s : State) (lb : Nat) (b : List Byte) (h0 : b0.Keeps s) : b0.Keeps (State.csmWrite s lb b).2 := by
  unfold State.csmWrite
  repeat' (first | with_reducible assumption | intro _ _ _ | intro _ | with_reducible apply State.count_keeps | with_reducible apply State.Keeps.ite | with_reducible apply State.Keeps.ite2 | with_reducible apply State.Keeps.ite22 | with_reducible apply State.Keeps.ite222 | with_reducible apply State.Keeps.ite1 | with_reducible apply State.Keeps.ite21 | with_reducible apply State.Keeps.foldl | with_reducible apply State.Keeps.foldl2 | with_reducible apply State.Keeps.foldl22 | with_reducible apply State.Keeps.foldl222 | with_reducible apply State.Keeps.foldl1 | split | ((with_reducible conv => arg 2; whnf); split) | ((with_reducible conv => arg 2; arg 1; whnf); split) | ((with_reducible conv => arg 2; arg 1; arg 1; whnf); split) | with_reducible apply State.Keeps.mk_)

theorem State.updCk_keeps (b0 : State) (s : State) (p : Nat) (f : Ckpt → Ckpt) (h0 : b0.Keeps s) : b0.Keeps (State.updCk s p f) :=
  ⟨h0.pending, h0.grade, h0.stepping, h0.owner, fun e => ⟨(h0.inv e).mem, (h0.inv e).fld, (h0.inv e).nvm, (h0.inv e).cores, by
    have h1 := (h0.inv e).ckpt
    simp [State.updCk, h1]⟩⟩

theorem State.slotValid_keeps (b0 : State) (s : State) (p i : Nat) (h0 : b0.Keeps s) : b0.Keeps (State.slotValid s p i).2 := by
  unfold State.slotValid
  repeat' (first | with_reducible assumption | with_reducible apply State.verify_keeps | with_reducible apply State.Keeps.ite | with_reducible apply State.Keeps.ite2 | with_reducible apply State.Keeps.ite22 | with_reducible apply State.Keeps.ite222 | with_reducible apply State.Keeps.ite1 | with_reducible apply State.Keeps.ite21 | split | ((with_reducible conv => arg 2; whnf); split) | ((with_reducible conv => arg 2; arg 1; whnf); split) | ((with_reducible conv => arg 2; arg 1; arg 1; whnf); split) | with_reducible refine State.Keeps.eq2 (by with_reducible assumption) ?_ | with_reducible refine State.Keeps.eq22 (by with_reducible assumption) ?_ | with_reducible refine State.Keeps.eq222 (by with_reducible assumption) ?_ | with_reducible refine State.Keeps.eq1 (by with_reducible assumption) ?_ | intro _)

theorem State.ckSlots_keeps (b0 : State) (s : State) (p : Nat) (h0 : b0.Keeps s) : b0.Keeps (State.ckSlots s p) := by
  unfold State.ckSlots
  repeat' (first | with_reducible assumption | intro _ _ _ | intro _ | with_reducible apply State.setFs_keeps | split | ((with_reducible conv => arg 2; whnf); split))

theorem State.allSlots_keeps (b0 : State) (s : State) (h0 : b0.Keeps s) : b0.Keeps (State.allSlots s) := by
  unfold State.allSlots
  repeat' (first | with_reducible assumption | intro _ _ _ | intro _ | with_reducible apply State.ckSlots_keeps | with_reducible apply State.Keeps.foldl | with_reducible apply State.Keeps.foldl2 | with_reducible apply State.Keeps.foldl22 | with_reducible apply State.Keeps.foldl222 | with_reducible apply State.Keeps.foldl1 | split | ((with_reducible conv => arg 2; whnf); split) | ((with_reducible conv => arg 2; arg 1; whnf); split) | ((with_reducible conv => arg 2; arg 1; arg 1; whnf); split) | with_reducible apply State.Keeps.mk_)

theorem State.ckEnd_keeps (b0 : State) (s : State) (p code : Nat) (h0 : b0.Keeps s) : b0.Keeps (State.ckEnd s p code) := by
  unfold State.ckEnd
  repeat' (first | with_reducible assumption | intro _ _ _ | intro _ | with_reducible apply State.hwSets_keeps | with_reducible apply State.updCk_keeps | with_reducible apply State.raise_keeps | with_reducible apply State.Keeps.ite | with_reducible apply State.Keeps.ite2 | with_reducible apply State.Keeps.ite22 | with_reducible apply State.Keeps.ite222 | with_reducible apply State.Keeps.ite1 | with_reducible apply State.Keeps.ite21 | split | ((with_reducible conv => arg 2; whnf); split) | ((with_reducible conv => arg 2; arg 1; whnf); split) | ((with_reducible conv => arg 2; arg 1; arg 1; whnf); split) | with_reducible apply State.Keeps.mk_)

theorem State.ckFail_keeps (b0 : State) (s : State) (p code : Nat) (h0 : b0.Keeps s) : b0.Keeps (State.ckFail s p code) := by
  unfold State.ckFail
  repeat' (first | with_reducible assumption | with_reducible apply State.ckEnd_keeps | with_reducible apply State.ckSlots_keeps | intro _)

theorem doCkptSave_keeps (b0 : State) (p : Nat) (s : State) (h0 : b0.Keeps s) : b0.Keeps (doCkptSave p s) := by
  unfold doCkptSave
  repeat' (first | with_reducible assumption | intro _ _ _ | intro _ | with_reducible apply State.refused_keeps | with_reducible apply State.setFs_keeps | with_reducible apply State.updCk_keeps | with_reducible apply State.csmWrite_keeps | with_reducible apply State.ckSlots_keeps | with_reducible apply State.ckFail_keeps | with_reducible apply State.answer_keeps | with_reducible apply State.Keeps.ite | with_reducible apply State.Keeps.ite2 | with_reducible apply State.Keeps.ite22 | with_reducible apply State.Keeps.ite222 | with_reducible apply State.Keeps.ite1 | with_reducible apply State.Keeps.ite21 | split | ((with_reducible conv => arg 2; whnf); split) | ((with_reducible conv => arg 2; arg 1; whnf); split) | ((with_reducible conv => arg 2; arg 1; arg 1; whnf); split) | with_reducible refine State.Keeps.eq2 (by with_reducible assumption) ?_ | with_reducible refine State.Keeps.eq22 (by with_reducible assumption) ?_ | with_reducible refine State.Keeps.eq222 (by with_reducible assumption) ?_ | with_reducible refine State.Keeps.eq1 (by with_reducible assumption) ?_ | with_reducible apply State.Keeps.mk_)

theorem execCkptSave_keeps (b0 : State) (p : Fin 4) (s : State) (h0 : b0.Keeps s) : b0.KeepsOut (execCkptSave p s) := by
  unfold execCkptSave
  repeat' (first | with_reducible assumption | with_reducible apply doCkptSave_keeps | with_reducible apply State.Keeps.next | intro _)

theorem State.ckManifest_keeps (b0 : State) (s : State) (p : Nat) (h0 : b0.Keeps s) : b0.Keeps (State.ckManifest s p).2 := by
  unfold State.ckManifest
  repeat' (first | with_reducible assumption | intro _ _ _ | intro _ | with_reducible apply State.sign_keeps | with_reducible apply State.freshBytes_keeps | split | ((with_reducible conv => arg 2; whnf); split) | ((with_reducible conv => arg 2; arg 1; whnf); split) | ((with_reducible conv => arg 2; arg 1; arg 1; whnf); split) | with_reducible refine State.Keeps.eq2 (by with_reducible assumption) ?_ | with_reducible refine State.Keeps.eq22 (by with_reducible assumption) ?_ | with_reducible refine State.Keeps.eq222 (by with_reducible assumption) ?_ | with_reducible refine State.Keeps.eq1 (by with_reducible assumption) ?_)

theorem State.ckSend_keeps (b0 : State) (s : State) (p : Nat) (c : CkChunk) (payload : List Byte) (h0 : b0.Keeps s) : b0.Keeps (State.ckSend s p c payload) := by
  unfold State.ckSend
  repeat' (first | with_reducible assumption | intro _ _ _ | intro _ | with_reducible apply State.updCk_keeps | with_reducible apply State.count_keeps | with_reducible apply State.newTx_keeps | with_reducible apply State.Keeps.foldl | with_reducible apply State.Keeps.foldl2 | with_reducible apply State.Keeps.foldl22 | with_reducible apply State.Keeps.foldl222 | with_reducible apply State.Keeps.foldl1 | split | ((with_reducible conv => arg 2; whnf); split) | with_reducible apply State.Keeps.mk_)

theorem State.recordPart_keeps (b0 : State) (s : State) (e : List Byte) (lo n : Nat) (h0 : b0.Keeps s) : b0.Keeps (State.recordPart s e lo n).2.2 := by
  unfold State.recordPart
  repeat' (first | with_reducible assumption | intro _ _ _ | intro _ | with_reducible apply State.extRead_keeps | with_reducible apply State.Keeps.ite | with_reducible apply State.Keeps.ite2 | with_reducible apply State.Keeps.ite22 | with_reducible apply State.Keeps.ite222 | with_reducible apply State.Keeps.ite1 | with_reducible apply State.Keeps.ite21 | split | ((with_reducible conv => arg 2; whnf); split) | ((with_reducible conv => arg 2; arg 1; whnf); split) | ((with_reducible conv => arg 2; arg 1; arg 1; whnf); split) | with_reducible refine State.Keeps.eq2 (by with_reducible assumption) ?_ | with_reducible refine State.Keeps.eq22 (by with_reducible assumption) ?_ | with_reducible refine State.Keeps.eq222 (by with_reducible assumption) ?_ | with_reducible refine State.Keeps.eq1 (by with_reducible assumption) ?_ | with_reducible apply State.Keeps.pair2 | with_reducible apply State.Keeps.pair22 | with_reducible apply State.Keeps.pair222 | with_reducible apply State.Keeps.mk_)

theorem State.ckFeed_keeps (b0 : State) (s : State) (p o : Nat) (b : List Byte) (h0 : b0.Keeps s) : b0.Keeps (State.ckFeed s p o b) := by
  unfold State.ckFeed
  repeat' (first | with_reducible assumption | intro _ _ _ | intro _ | with_reducible apply State.setF_keeps | with_reducible apply State.Keeps.mk_)

theorem State.ckMark_keeps (b0 : State) (s : State) (p i code block : Nat) (h0 : b0.Keeps s) : b0.Keeps (State.ckMark s p i code block) := by
  unfold State.ckMark
  repeat' (first | with_reducible assumption | intro _ | with_reducible apply State.extWrite_keeps)

theorem State.ckFailAt_keeps (b0 : State) (s : State) (p i code : Nat) (h0 : b0.Keeps s) : b0.Keeps (State.ckFailAt s p i code) := by
  unfold State.ckFailAt
  repeat' (first | with_reducible assumption | with_reducible apply State.ckFail_keeps | with_reducible apply State.ckMark_keeps)

theorem doMirrorChunkSend_keeps (b0 : State) (p : Nat) (s : State) (h0 : b0.Keeps s) : b0.Keeps (doMirrorChunkSend p s) := by
  unfold doMirrorChunkSend
  repeat' (first | with_reducible assumption | with_reducible apply State.ckFailAt_keeps | with_reducible apply State.ckMark_keeps | intro _ _ _ | intro _ | with_reducible apply State.ckSend_keeps | with_reducible apply State.setF_keeps | with_reducible apply State.recordPart_keeps | with_reducible apply State.ckFail_keeps | with_reducible apply State.csmWrite_keeps | with_reducible apply State.ckFeed_keeps | with_reducible apply State.ckManifest_keeps | with_reducible apply State.updCk_keeps | with_reducible apply State.setFs_keeps | with_reducible apply State.Keeps.ite | with_reducible apply State.Keeps.ite2 | with_reducible apply State.Keeps.ite22 | with_reducible apply State.Keeps.ite222 | with_reducible apply State.Keeps.ite1 | with_reducible apply State.Keeps.ite21 | split | ((with_reducible conv => arg 2; whnf); split) | ((with_reducible conv => arg 2; arg 1; whnf); split) | ((with_reducible conv => arg 2; arg 1; arg 1; whnf); split) | with_reducible refine State.Keeps.eq2 (by with_reducible assumption) ?_ | with_reducible refine State.Keeps.eq22 (by with_reducible assumption) ?_ | with_reducible refine State.Keeps.eq222 (by with_reducible assumption) ?_ | with_reducible refine State.Keeps.eq1 (by with_reducible assumption) ?_ | with_reducible apply State.Keeps.mk_)

theorem execMirrorChunkSend_keeps (b0 : State) (p : Fin 4) (s : State) (h0 : b0.Keeps s) : b0.KeepsOut (execMirrorChunkSend p s) := by
  unfold execMirrorChunkSend
  repeat' (first | with_reducible assumption | intro _ _ _ | intro _ | with_reducible apply State.orWait_keeps | with_reducible apply doMirrorChunkSend_keeps | with_reducible apply State.Keeps.next | with_reducible apply State.Keeps.mk_)

theorem State.mirrorAcked_keeps (b0 : State) (s : State) (p n : Nat) (h0 : b0.Keeps s) : b0.Keeps (State.mirrorAcked s p n) := by
  unfold State.mirrorAcked
  repeat' (first | with_reducible assumption | intro _ _ _ | intro _ | with_reducible apply State.updCk_keeps | with_reducible apply State.newTx_keeps | with_reducible apply State.Keeps.ite | split | ((with_reducible conv => arg 2; whnf); split) | with_reducible apply State.Keeps.mk_)

theorem doCkptCommit_keeps (b0 : State) (p : Nat) (s : State) (h0 : b0.Keeps s) : b0.Keeps (doCkptCommit p s) := by
  unfold doCkptCommit
  repeat' (first | with_reducible assumption | with_reducible apply State.setF_keeps | with_reducible apply State.csmWrite_keeps | with_reducible apply State.ckFail_keeps | with_reducible apply State.ckEnd_keeps | with_reducible apply State.ckSlots_keeps | with_reducible apply State.raise_keeps | with_reducible apply State.Keeps.ite | with_reducible apply State.Keeps.ite2 | with_reducible apply State.Keeps.ite22 | with_reducible apply State.Keeps.ite222 | with_reducible apply State.Keeps.ite1 | with_reducible apply State.Keeps.ite21 | split | ((with_reducible conv => arg 2; whnf); split) | ((with_reducible conv => arg 2; arg 1; whnf); split) | ((with_reducible conv => arg 2; arg 1; arg 1; whnf); split) | intro _)

theorem execCkptCommit_keeps (b0 : State) (p : Fin 4) (s : State) (h0 : b0.Keeps s) : b0.KeepsOut (execCkptCommit p s) := by
  unfold execCkptCommit
  repeat' (first | with_reducible assumption | intro _ _ _ | intro _ | with_reducible apply State.orWait_keeps | with_reducible apply doCkptCommit_keeps | with_reducible apply State.Keeps.next | with_reducible apply State.Keeps.mk_)

theorem doCkptAbandon_keeps (b0 : State) (p : Nat) (s : State) (h0 : b0.Keeps s) : b0.Keeps (doCkptAbandon p s) := by
  unfold doCkptAbandon
  repeat' (first | with_reducible assumption | with_reducible apply State.ckFail_keeps | with_reducible apply State.answer_keeps | with_reducible apply State.Keeps.ite | split | ((with_reducible conv => arg 2; whnf); split) | intro _)

theorem execCkptAbandon_keeps (b0 : State) (p : Fin 4) (s : State) (h0 : b0.Keeps s) : b0.KeepsOut (execCkptAbandon p s) := by
  unfold execCkptAbandon
  repeat' (first | with_reducible assumption | with_reducible apply doCkptAbandon_keeps | with_reducible apply State.Keeps.next | intro _)

theorem doCkptBuddyLost_keeps (b0 : State) (p : Nat) (s : State) (h0 : b0.Keeps s) : b0.Keeps (doCkptBuddyLost p s) := by
  unfold doCkptBuddyLost
  repeat' (first | with_reducible assumption | with_reducible apply State.ckFail_keeps | with_reducible apply State.Keeps.ite | split | ((with_reducible conv => arg 2; whnf); split) | intro _)

theorem execCkptBuddyLost_keeps (b0 : State) (p : Fin 4) (s : State) (h0 : b0.Keeps s) : b0.KeepsOut (execCkptBuddyLost p s) := by
  unfold execCkptBuddyLost
  repeat' (first | with_reducible assumption | with_reducible apply doCkptBuddyLost_keeps | with_reducible apply State.Keeps.next | intro _)

theorem State.takeChunk_keeps (b0 : State) (s : State) (p : Nat) (h payload : List Byte) (h0 : b0.Keeps s) : b0.Keeps (State.takeChunk s p h payload).2 := by
  unfold State.takeChunk
  repeat' (first | with_reducible assumption | intro _ _ _ | intro _ | with_reducible apply State.updCk_keeps | with_reducible apply State.csmWrite_keeps | with_reducible apply State.Keeps.ite | with_reducible apply State.Keeps.ite2 | with_reducible apply State.Keeps.ite22 | with_reducible apply State.Keeps.ite222 | with_reducible apply State.Keeps.ite1 | with_reducible apply State.Keeps.ite21 | split | ((with_reducible conv => arg 2; whnf); split) | ((with_reducible conv => arg 2; arg 1; whnf); split) | ((with_reducible conv => arg 2; arg 1; arg 1; whnf); split) | with_reducible refine State.Keeps.eq2 (by with_reducible assumption) ?_ | with_reducible refine State.Keeps.eq22 (by with_reducible assumption) ?_ | with_reducible refine State.Keeps.eq222 (by with_reducible assumption) ?_ | with_reducible refine State.Keeps.eq1 (by with_reducible assumption) ?_ | with_reducible apply State.Keeps.mk_)

theorem doMirrorChunkTake_keeps (b0 : State) (p : Nat) (s : State) (h0 : b0.Keeps s) : b0.Keeps (doMirrorChunkTake p s) := by
  unfold doMirrorChunkTake
  repeat' (first | with_reducible assumption | intro _ _ _ | intro _ | with_reducible apply State.updCk_keeps | with_reducible apply State.satF_keeps | with_reducible apply State.raise_keeps | with_reducible apply State.takeChunk_keeps | with_reducible apply State.ckSlots_keeps | with_reducible apply State.count_keeps | with_reducible apply State.newTx_keeps | with_reducible apply State.Keeps.ite | with_reducible apply State.Keeps.ite2 | with_reducible apply State.Keeps.ite22 | with_reducible apply State.Keeps.ite222 | with_reducible apply State.Keeps.ite1 | with_reducible apply State.Keeps.ite21 | split | ((with_reducible conv => arg 2; whnf); split) | ((with_reducible conv => arg 2; arg 1; whnf); split) | ((with_reducible conv => arg 2; arg 1; arg 1; whnf); split) | with_reducible apply State.Keeps.mk_)

theorem execMirrorChunkTake_keeps (b0 : State) (p : Fin 4) (s : State) (h0 : b0.Keeps s) : b0.KeepsOut (execMirrorChunkTake p s) := by
  unfold execMirrorChunkTake
  repeat' (first | with_reducible assumption | with_reducible apply doMirrorChunkTake_keeps | with_reducible apply State.Keeps.next | intro _)

theorem doCkptMirrorWrite_keeps (b0 : State) (p off v : Nat) (s : State) (h0 : b0.Keeps s) : b0.Keeps (doCkptMirrorWrite p off v s) := by
  unfold doCkptMirrorWrite
  repeat' (first | with_reducible assumption | intro _ _ _ | intro _ | with_reducible apply State.refused_keeps | with_reducible apply State.setF_keeps | with_reducible apply State.answer_keeps | with_reducible apply State.setFs_keeps | with_reducible apply State.updCk_keeps | with_reducible apply State.Keeps.ite | with_reducible apply State.Keeps.ite2 | with_reducible apply State.Keeps.ite22 | with_reducible apply State.Keeps.ite222 | with_reducible apply State.Keeps.ite1 | with_reducible apply State.Keeps.ite21 | split | ((with_reducible conv => arg 2; whnf); split) | ((with_reducible conv => arg 2; arg 1; whnf); split) | ((with_reducible conv => arg 2; arg 1; arg 1; whnf); split) | with_reducible apply State.Keeps.mk_)

theorem execCkptMirrorWrite_keeps (b0 : State) (p : Fin 4) (off : Nat) (val : Word) (s : State) (h0 : b0.Keeps s) : b0.KeepsOut (execCkptMirrorWrite p off val s) := by
  unfold execCkptMirrorWrite
  repeat' (first | with_reducible assumption | with_reducible apply doCkptMirrorWrite_keeps | with_reducible apply State.Keeps.next | intro _)

theorem State.ckBegin_keeps (b0 : State) (s : State) (p op : Nat) (h0 : b0.Keeps s) : b0.Keeps (State.ckBegin s p op) := by
  unfold State.ckBegin
  repeat' (first | with_reducible assumption | intro _ _ _ | intro _ | with_reducible apply State.setFs_keeps | with_reducible apply State.updCk_keeps | split | ((with_reducible conv => arg 2; whnf); split) | with_reducible apply State.Keeps.mk_)

theorem doCkptScan_keeps (b0 : State) (p : Nat) (s : State) (h0 : b0.Keeps s) : b0.Keeps (doCkptScan p s) := by
  unfold doCkptScan
  repeat' (first | with_reducible assumption | intro _ _ _ | intro _ | with_reducible apply State.refused_keeps | with_reducible apply State.ckBegin_keeps | with_reducible apply State.updCk_keeps | with_reducible apply State.answer_keeps | with_reducible apply State.slotValid_keeps | with_reducible apply State.extWrite_keeps | with_reducible apply State.count_keeps | with_reducible apply State.Keeps.ite | with_reducible apply State.Keeps.ite2 | with_reducible apply State.Keeps.ite22 | with_reducible apply State.Keeps.ite222 | with_reducible apply State.Keeps.ite1 | with_reducible apply State.Keeps.ite21 | with_reducible apply State.Keeps.foldl | with_reducible apply State.Keeps.foldl2 | with_reducible apply State.Keeps.foldl22 | with_reducible apply State.Keeps.foldl222 | with_reducible apply State.Keeps.foldl1 | split | ((with_reducible conv => arg 2; whnf); split) | ((with_reducible conv => arg 2; arg 1; whnf); split) | ((with_reducible conv => arg 2; arg 1; arg 1; whnf); split) | with_reducible refine State.Keeps.eq2 (by with_reducible assumption) ?_ | with_reducible refine State.Keeps.eq22 (by with_reducible assumption) ?_ | with_reducible refine State.Keeps.eq222 (by with_reducible assumption) ?_ | with_reducible refine State.Keeps.eq1 (by with_reducible assumption) ?_ | with_reducible apply State.Keeps.mk_)

theorem execCkptScan_keeps (b0 : State) (p : Fin 4) (s : State) (h0 : b0.Keeps s) : b0.KeepsOut (execCkptScan p s) := by
  unfold execCkptScan
  repeat' (first | with_reducible assumption | intro _ _ _ | intro _ | with_reducible apply State.orWait_keeps | with_reducible apply doCkptScan_keeps | with_reducible apply State.Keeps.next | with_reducible apply State.Keeps.mk_)

theorem State.ckResult_keeps (b0 : State) (s : State) (p i code block : Nat) (h0 : b0.Keeps s) : b0.Keeps (State.ckResult s p i code block) := by
  unfold State.ckResult
  repeat' (first | with_reducible assumption | with_reducible apply State.ckMark_keeps | intro _ _ _ | intro _ | with_reducible apply State.extWrite_keeps | with_reducible apply State.raise_keeps | with_reducible apply State.updCk_keeps | with_reducible apply State.Keeps.ite | with_reducible apply State.Keeps.ite2 | with_reducible apply State.Keeps.ite22 | with_reducible apply State.Keeps.ite222 | with_reducible apply State.Keeps.ite1 | with_reducible apply State.Keeps.ite21 | split | ((with_reducible conv => arg 2; whnf); split) | ((with_reducible conv => arg 2; arg 1; whnf); split) | ((with_reducible conv => arg 2; arg 1; arg 1; whnf); split) | with_reducible apply State.Keeps.mk_)

theorem State.ckDeliver_keeps (b0 : State) (s : State) (p i w r a : Nat) (d : List Byte) (h0 : b0.Keeps s) : b0.Keeps (State.ckDeliver s p i w r a d).2 := by
  unfold State.ckDeliver
  repeat' (first | with_reducible assumption | intro _ _ _ | intro _ | with_reducible apply State.newTx_keeps | with_reducible apply State.extWrite_keeps | with_reducible apply State.Keeps.ite | with_reducible apply State.Keeps.ite2 | with_reducible apply State.Keeps.ite22 | with_reducible apply State.Keeps.ite222 | with_reducible apply State.Keeps.ite1 | with_reducible apply State.Keeps.ite21 | with_reducible apply State.Keeps.foldl | with_reducible apply State.Keeps.foldl2 | with_reducible apply State.Keeps.foldl22 | with_reducible apply State.Keeps.foldl222 | with_reducible apply State.Keeps.foldl1 | split | ((with_reducible conv => arg 2; whnf); split) | ((with_reducible conv => arg 2; arg 1; whnf); split) | ((with_reducible conv => arg 2; arg 1; arg 1; whnf); split) | with_reducible apply State.Keeps.pair2 | with_reducible apply State.Keeps.pair22 | with_reducible apply State.Keeps.pair222 | with_reducible apply State.Keeps.mk_)

theorem State.ckRestoreOne_keeps (b0 : State) (s : State) (p i : Nat) (h e : List Byte) (h0 : b0.Keeps s) : b0.Keeps (State.ckRestoreOne s p i h e).2.2 := by
  unfold State.ckRestoreOne
  repeat' (first | with_reducible assumption | intro _ _ _ | intro _ | with_reducible apply State.slotValid_keeps | with_reducible apply State.count_keeps | with_reducible apply State.ckFeed_keeps | with_reducible apply State.ckDeliver_keeps | with_reducible apply State.Keeps.ite | with_reducible apply State.Keeps.ite2 | with_reducible apply State.Keeps.ite22 | with_reducible apply State.Keeps.ite222 | with_reducible apply State.Keeps.ite1 | with_reducible apply State.Keeps.ite21 | split | ((with_reducible conv => arg 2; whnf); split) | ((with_reducible conv => arg 2; arg 1; whnf); split) | ((with_reducible conv => arg 2; arg 1; arg 1; whnf); split) | with_reducible refine State.Keeps.eq2 (by with_reducible assumption) ?_ | with_reducible refine State.Keeps.eq22 (by with_reducible assumption) ?_ | with_reducible refine State.Keeps.eq222 (by with_reducible assumption) ?_ | with_reducible refine State.Keeps.eq1 (by with_reducible assumption) ?_ | with_reducible apply State.Keeps.pair2 | with_reducible apply State.Keeps.pair22 | with_reducible apply State.Keeps.pair222 | with_reducible apply State.Keeps.mk_)

theorem doCkptRestore_keeps (b0 : State) (p : Nat) (s : State) (h0 : b0.Keeps s) : b0.Keeps (doCkptRestore p s) := by
  unfold doCkptRestore
  repeat' (first | with_reducible assumption | intro _ _ _ | intro _ | with_reducible apply State.refused_keeps | with_reducible apply State.setF_keeps | with_reducible apply State.ckRestoreOne_keeps | with_reducible apply State.ckResult_keeps | with_reducible apply State.ckBegin_keeps | with_reducible apply State.answer_keeps | with_reducible apply State.Keeps.ite | with_reducible apply State.Keeps.ite2 | with_reducible apply State.Keeps.ite22 | with_reducible apply State.Keeps.ite222 | with_reducible apply State.Keeps.ite1 | with_reducible apply State.Keeps.ite21 | with_reducible apply State.Keeps.foldl | with_reducible apply State.Keeps.foldl2 | with_reducible apply State.Keeps.foldl22 | with_reducible apply State.Keeps.foldl222 | with_reducible apply State.Keeps.foldl1 | split | ((with_reducible conv => arg 2; whnf); split) | ((with_reducible conv => arg 2; arg 1; whnf); split) | ((with_reducible conv => arg 2; arg 1; arg 1; whnf); split) | with_reducible refine State.Keeps.eq2 (by with_reducible assumption) ?_ | with_reducible refine State.Keeps.eq22 (by with_reducible assumption) ?_ | with_reducible refine State.Keeps.eq222 (by with_reducible assumption) ?_ | with_reducible refine State.Keeps.eq1 (by with_reducible assumption) ?_ | with_reducible apply State.Keeps.mk_)

theorem execCkptRestore_keeps (b0 : State) (p : Fin 4) (s : State) (h0 : b0.Keeps s) : b0.KeepsOut (execCkptRestore p s) := by
  unfold execCkptRestore
  repeat' (first | with_reducible assumption | with_reducible apply doCkptRestore_keeps | with_reducible apply State.Keeps.next | intro _)

theorem doCkptOpDone_keeps (b0 : State) (p : Nat) (s : State) (h0 : b0.Keeps s) : b0.Keeps (doCkptOpDone p s) := by
  unfold doCkptOpDone
  repeat' (first | with_reducible assumption | intro _ _ _ | intro _ | with_reducible apply State.ckEnd_keeps | with_reducible apply State.Keeps.ite | split | ((with_reducible conv => arg 2; whnf); split) | with_reducible refine State.Keeps.eq2 (by with_reducible assumption) ?_ | with_reducible refine State.Keeps.eq22 (by with_reducible assumption) ?_ | with_reducible refine State.Keeps.eq222 (by with_reducible assumption) ?_ | with_reducible refine State.Keeps.eq1 (by with_reducible assumption) ?_)

theorem execCkptOpDone_keeps (b0 : State) (p : Fin 4) (s : State) (h0 : b0.Keeps s) : b0.KeepsOut (execCkptOpDone p s) := by
  unfold execCkptOpDone
  repeat' (first | with_reducible assumption | intro _ _ _ | intro _ | with_reducible apply State.orWait_keeps | with_reducible apply doCkptOpDone_keeps | with_reducible apply State.Keeps.next | with_reducible apply State.Keeps.mk_)

theorem State.restoreNacked_keeps (b0 : State) (s : State) (p n code : Nat) (h0 : b0.Keeps s) : b0.Keeps (State.restoreNacked s p n code) := by
  unfold State.restoreNacked
  repeat' (first | with_reducible assumption | with_reducible apply State.ckResult_keeps | with_reducible apply State.Keeps.ite | split | ((with_reducible conv => arg 2; whnf); split) | intro _)

end Sys2Proof.Machine
end

