-- ==== Sys2Proof/Laws/KeepsBoot.lean ====
section
/-! SUPPORT. What every operation of Machine/Boot.lean keeps: the queue, the part, and the canonical forms. -/
namespace Sys2Proof.Machine

set_option linter.all false
set_option Elab.async false

theorem State.writeCounter_keeps (b0 : State) (s : State) (a r : Nat) (h0 : b0.Keeps s) : b0.Keeps (State.writeCounter s a r) := by
  unfold State.writeCounter
  repeat' (first | with_reducible assumption | intro _ _ _ | intro _ | with_reducible apply State.nvmErase_keeps | with_reducible apply State.nvmWrite_keeps | with_reducible apply State.setFs_keeps | split | ((with_reducible conv => arg 2; whnf); split) | ((with_reducible conv => arg 2; arg 1; whnf); split) | ((with_reducible conv => arg 2; arg 1; arg 1; whnf); split) | with_reducible refine State.Keeps.eq2 (by with_reducible assumption) ?_ | with_reducible refine State.Keeps.eq22 (by with_reducible assumption) ?_ | with_reducible refine State.Keeps.eq222 (by with_reducible assumption) ?_ | with_reducible refine State.Keeps.eq1 (by with_reducible assumption) ?_)

theorem State.resetPackage_keeps (b0 : State) (s : State) (h0 : b0.Keeps s) : b0.Keeps (State.resetPackage s) := by
  unfold State.resetPackage
  extract_lets torn nvm1 nvm2 aon src bsrc ssrc t1 t2 t3
  have hn : Assoc.wf (fun _ => (0xFF : Byte)) s.nvm = true → Assoc.wf (fun _ => (0xFF : Byte)) nvm2 = true := by
    intro h
    have h1 : Assoc.wf (fun _ => (0xFF : Byte)) nvm1 = true := by
      show Assoc.wf (fun _ => (0xFF : Byte)) (if _ then _ else _) = true
      split
      · exact Assoc.wf_filter _ _ _ (fun _ _ => rfl) s.nvm h
      · exact h
    show Assoc.wf (fun _ => (0xFF : Byte)) (if _ then _ else _) = true
    split
    · exact Assoc.wf_filter _ _ _ (fun _ _ => rfl) nvm1 h1
    · exact h1
  have h1 : b0.Keeps t1 :=
    ⟨h0.pending, h0.grade, h0.stepping, h0.owner,
      fun e => ⟨Assoc.wf_filter s.memDflt _ _ (fun _ _ => rfl) s.mem (h0.inv e).mem, rfl, hn (h0.inv e).nvm, rfl, rfl⟩⟩
  have h2 : b0.Keeps t2 := State.Keeps.foldl h1 (fun u x h => State.loseMem_keeps _ _ _ h)
  have h3 : b0.Keeps t3 := State.Keeps.elim h2 (fun x => State.applyBook_keeps _ _ _ h2)
  exact State.setFs_keeps _ _ _ (State.allSlots_keeps _ _ h3)

theorem State.checkFirmware_keeps (b0 : State) (s : State) (fw : List Byte) (h0 : b0.Keeps s) : b0.Keeps (State.checkFirmware s fw).2 := by
  unfold State.checkFirmware
  repeat' (first | with_reducible assumption | with_reducible apply State.verify_keeps | with_reducible apply State.Keeps.ite | with_reducible apply State.Keeps.ite2 | with_reducible apply State.Keeps.ite22 | with_reducible apply State.Keeps.ite222 | with_reducible apply State.Keeps.ite1 | with_reducible apply State.Keeps.ite21 | split | ((with_reducible conv => arg 2; whnf); split) | ((with_reducible conv => arg 2; arg 1; whnf); split) | ((with_reducible conv => arg 2; arg 1; arg 1; whnf); split) | intro _)

theorem State.checkConfig_keeps (b0 : State) (s : State) (c : List Byte) (h0 : b0.Keeps s) : b0.Keeps (State.checkConfig s c).2 := by
  unfold State.checkConfig
  repeat' (first | with_reducible assumption | intro _ _ _ | intro _ | with_reducible apply State.verify_keeps | with_reducible apply State.Keeps.ite | with_reducible apply State.Keeps.ite2 | with_reducible apply State.Keeps.ite22 | with_reducible apply State.Keeps.ite222 | with_reducible apply State.Keeps.ite1 | with_reducible apply State.Keeps.ite21 | split | ((with_reducible conv => arg 2; whnf); split) | ((with_reducible conv => arg 2; arg 1; whnf); split) | ((with_reducible conv => arg 2; arg 1; arg 1; whnf); split))

theorem State.checkImage_keeps (b0 : State) (s : State) (dir : List Byte) (cfg fw : Nat → List Byte) (h0 : b0.Keeps s) : b0.Keeps (State.checkImage s dir cfg fw).2 := by
  unfold State.checkImage
  repeat' (first | with_reducible assumption | with_reducible apply State.checkFirmware_keeps | with_reducible apply State.checkConfig_keeps | with_reducible apply State.Keeps.ite | with_reducible apply State.Keeps.ite2 | with_reducible apply State.Keeps.ite22 | with_reducible apply State.Keeps.ite222 | with_reducible apply State.Keeps.ite1 | with_reducible apply State.Keeps.ite21 | split | ((with_reducible conv => arg 2; whnf); split) | ((with_reducible conv => arg 2; arg 1; whnf); split) | ((with_reducible conv => arg 2; arg 1; arg 1; whnf); split) | with_reducible refine State.Keeps.eq2 (by with_reducible assumption) ?_ | with_reducible refine State.Keeps.eq22 (by with_reducible assumption) ?_ | with_reducible refine State.Keeps.eq222 (by with_reducible assumption) ?_ | with_reducible refine State.Keeps.eq1 (by with_reducible assumption) ?_ | intro _)

theorem State.bootFail_keeps (b0 : State) (s : State) (code : Nat) (h0 : b0.Keeps s) : b0.Keeps (State.bootFail s code) := by
  unfold State.bootFail
  repeat' (first | with_reducible assumption | with_reducible apply State.writeCounter_keeps | with_reducible apply State.Keeps.mk_ | intro _)

theorem State.darkroom_keeps (b0 : State) (s : State) (h0 : b0.Keeps s) : b0.Keeps (State.darkroom s) := by
  unfold State.darkroom
  repeat' (first | with_reducible assumption | with_reducible apply State.setF_keeps | with_reducible apply State.Keeps.mk_ | intro _)

theorem State.checkService_keeps (b0 : State) (s : State) (h0 : b0.Keeps s) : b0.Keeps (State.checkService s).2 := by
  unfold State.checkService
  repeat' (first | with_reducible assumption | with_reducible apply State.verify_keeps | with_reducible apply State.currentRecord_keeps | with_reducible apply State.Keeps.ite | with_reducible apply State.Keeps.ite2 | with_reducible apply State.Keeps.ite22 | with_reducible apply State.Keeps.ite222 | with_reducible apply State.Keeps.ite1 | with_reducible apply State.Keeps.ite21 | split | ((with_reducible conv => arg 2; whnf); split) | ((with_reducible conv => arg 2; arg 1; whnf); split) | ((with_reducible conv => arg 2; arg 1; arg 1; whnf); split) | with_reducible apply State.Keeps.mk_ | intro _)

theorem State.applyConfig_keeps (b0 : State) (s : State) (c : List Byte) (t3Gb : Nat) (h0 : b0.Keeps s) : b0.Keeps (State.applyConfig s c t3Gb) := by
  unfold State.applyConfig
  repeat' (first | with_reducible assumption | intro _ _ _ | intro _ | with_reducible apply State.setFs_keeps | with_reducible apply State.Keeps.ite | with_reducible apply State.Keeps.ite2 | with_reducible apply State.Keeps.ite22 | with_reducible apply State.Keeps.ite222 | with_reducible apply State.Keeps.ite1 | with_reducible apply State.Keeps.ite21 | with_reducible apply State.Keeps.foldl | with_reducible apply State.Keeps.foldl2 | with_reducible apply State.Keeps.foldl22 | with_reducible apply State.Keeps.foldl222 | with_reducible apply State.Keeps.foldl1 | split | ((with_reducible conv => arg 2; whnf); split) | ((with_reducible conv => arg 2; arg 1; whnf); split) | ((with_reducible conv => arg 2; arg 1; arg 1; whnf); split) | with_reducible apply State.Keeps.mk_)

theorem State.applyService_keeps (b0 : State) (s : State) (blk seq : Nat) (h0 : b0.Keeps s) : b0.Keeps (State.applyService s blk seq) := by
  unfold State.applyService
  repeat' (first | with_reducible assumption | intro _ _ _ | intro _ | with_reducible apply State.applyBook_keeps | with_reducible apply State.setFs_keeps | with_reducible apply State.raise_keeps | with_reducible apply State.nvmErase_keeps | with_reducible apply State.writeRecord_keeps | with_reducible apply State.Keeps.ite | with_reducible apply State.Keeps.ite2 | with_reducible apply State.Keeps.ite22 | with_reducible apply State.Keeps.ite222 | with_reducible apply State.Keeps.ite1 | with_reducible apply State.Keeps.ite21 | with_reducible apply State.Keeps.foldl | with_reducible apply State.Keeps.foldl2 | with_reducible apply State.Keeps.foldl22 | with_reducible apply State.Keeps.foldl222 | with_reducible apply State.Keeps.foldl1 | split | ((with_reducible conv => arg 2; whnf); split) | ((with_reducible conv => arg 2; arg 1; whnf); split) | ((with_reducible conv => arg 2; arg 1; arg 1; whnf); split) | with_reducible refine State.Keeps.eq2 (by with_reducible assumption) ?_ | with_reducible refine State.Keeps.eq22 (by with_reducible assumption) ?_ | with_reducible refine State.Keeps.eq222 (by with_reducible assumption) ?_ | with_reducible refine State.Keeps.eq1 (by with_reducible assumption) ?_ | with_reducible apply State.Keeps.mk_)

theorem State.applyCal_keeps (b0 : State) (s : State) (h0 : b0.Keeps s) : b0.Keeps (State.applyCal s) := by
  unfold State.applyCal
  repeat' (first | with_reducible assumption | with_reducible apply State.verify_keeps | with_reducible apply State.setFs_keeps | with_reducible apply State.raise_keeps | with_reducible apply State.Keeps.ite | with_reducible apply State.Keeps.ite2 | with_reducible apply State.Keeps.ite22 | with_reducible apply State.Keeps.ite222 | with_reducible apply State.Keeps.ite1 | with_reducible apply State.Keeps.ite21 | split | ((with_reducible conv => arg 2; whnf); split) | ((with_reducible conv => arg 2; arg 1; whnf); split) | ((with_reducible conv => arg 2; arg 1; arg 1; whnf); split) | with_reducible apply State.Keeps.mk_ | intro _)

theorem State.trainPorts_keeps (b0 : State) (s : State) (env : StartEnv) (h0 : b0.Keeps s) : b0.Keeps (State.trainPorts s env) := by
  unfold State.trainPorts
  repeat' (first | with_reducible assumption | with_reducible apply State.setFs_keeps | with_reducible apply State.Keeps.ite | split | ((with_reducible conv => arg 2; whnf); split) | with_reducible refine State.Keeps.eq2 (by with_reducible assumption) ?_ | with_reducible refine State.Keeps.eq22 (by with_reducible assumption) ?_ | with_reducible refine State.Keeps.eq222 (by with_reducible assumption) ?_ | with_reducible refine State.Keeps.eq1 (by with_reducible assumption) ?_ | with_reducible apply State.Keeps.mk_ | intro _)

theorem State.laserStart_keeps (b0 : State) (s : State) (h0 : b0.Keeps s) : b0.Keeps (State.laserStart s) := by
  unfold State.laserStart
  repeat' (first | with_reducible assumption | intro _ _ _ | intro _ | split | ((with_reducible conv => arg 2; whnf); split) | with_reducible apply State.Keeps.mk_)

theorem State.bootDone_keeps (b0 : State) (s : State) (att reason : Nat) (h0 : b0.Keeps s) : b0.Keeps (State.bootDone s att reason) := by
  have h1 : b0.Keeps (s.writeCounter 0 0) := State.writeCounter_keeps _ _ _ _ h0
  have h2 : b0.Keeps { s.writeCounter 0 0 with
      fused := { (s.writeCounter 0 0).fused with owner := some ((s.writeCounter 0 0).fused.owner.getD (sha3_512 (s.writeCounter 0 0).boot.ownerPub)) }
      boot := { (s.writeCounter 0 0).boot with starting := false, stalled := false, failed := 0 } } :=
    ⟨h1.pending, h1.grade, h1.stepping, fun o e => by
      show some ((s.writeCounter 0 0).fused.owner.getD _) = some o
      rw [h1.owner o e]
      rfl, fun e => ⟨(h1.inv e).mem, (h1.inv e).fld, (h1.inv e).nvm, (h1.inv e).cores, (h1.inv e).ckpt⟩⟩
  have h3 := State.setFs_keeps _ _ [(F.BOOT_STATUS_MODE, 1), (F.BOOT_STATUS_OWNED, 1)] h2
  exact State.Keeps.ite (State.raiseC_keeps _ _ _ _ _ _ _ _ _ _ h3) h3

theorem State.runStart_keeps (b0 : State) (s : State) (env : StartEnv) (h0 : b0.Keeps s) : b0.Keeps (State.runStart s env) := by
  unfold State.runStart
  repeat' (first | with_reducible assumption | intro _ _ _ | intro _ | with_reducible apply State.writeCounter_keeps | with_reducible apply State.setFs_keeps | with_reducible apply State.darkroom_keeps | with_reducible apply State.checkImage_keeps | with_reducible apply State.bootFail_keeps | with_reducible apply State.checkService_keeps | with_reducible apply State.setF_keeps | with_reducible apply State.applyConfig_keeps | with_reducible apply State.applyService_keeps | with_reducible apply State.spareAtStart_keeps | with_reducible apply State.applyCal_keeps | with_reducible apply State.trainPorts_keeps | with_reducible apply State.laserStart_keeps | with_reducible apply State.allSlots_keeps | with_reducible apply State.bootDone_keeps | with_reducible apply State.Keeps.ite | with_reducible apply State.Keeps.ite2 | with_reducible apply State.Keeps.ite22 | with_reducible apply State.Keeps.ite222 | with_reducible apply State.Keeps.ite1 | with_reducible apply State.Keeps.ite21 | with_reducible apply State.Keeps.foldl | with_reducible apply State.Keeps.foldl2 | with_reducible apply State.Keeps.foldl22 | with_reducible apply State.Keeps.foldl222 | with_reducible apply State.Keeps.foldl1 | split | ((with_reducible conv => arg 2; whnf); split) | ((with_reducible conv => arg 2; arg 1; whnf); split) | ((with_reducible conv => arg 2; arg 1; arg 1; whnf); split) | with_reducible refine State.Keeps.eq2 (by with_reducible assumption) ?_ | with_reducible refine State.Keeps.eq22 (by with_reducible assumption) ?_ | with_reducible refine State.Keeps.eq222 (by with_reducible assumption) ?_ | with_reducible refine State.Keeps.eq1 (by with_reducible assumption) ?_ | with_reducible apply State.Keeps.mk_)

theorem doPwrokRise_keeps (b0 : State) (env : StartEnv) (s : State) (h0 : b0.Keeps s) : b0.Keeps (doPwrokRise env s) := by
  unfold doPwrokRise
  repeat' (first | with_reducible assumption | with_reducible apply State.runStart_keeps | with_reducible apply State.Keeps.ite | split | ((with_reducible conv => arg 2; whnf); split) | with_reducible apply State.Keeps.mk_ | intro _)

theorem execPwrokRise_keeps (b0 : State) (env : StartEnv) (s : State) (h0 : b0.Keeps s) : b0.KeepsOut (execPwrokRise env s) := by
  unfold execPwrokRise
  repeat' (first | with_reducible assumption | with_reducible apply doPwrokRise_keeps | with_reducible apply State.Keeps.next | intro _)

theorem doBootTimeout_keeps (b0 : State) (s : State) (h0 : b0.Keeps s) : b0.Keeps (doBootTimeout s) := by
  unfold doBootTimeout
  repeat' (first | with_reducible assumption | with_reducible apply State.advanceNs_keeps | with_reducible apply State.bootFail_keeps | with_reducible apply State.Keeps.ite | split | ((with_reducible conv => arg 2; whnf); split) | intro _)

theorem execBootTimeout_keeps (b0 : State) (s : State) (h0 : b0.Keeps s) : b0.KeepsOut (execBootTimeout s) := by
  unfold execBootTimeout
  repeat' (first | with_reducible assumption | with_reducible apply doBootTimeout_keeps | with_reducible apply State.Keeps.next | intro _)

theorem doInternalRestart_keeps (b0 : State) (env : StartEnv) (s : State) (h0 : b0.Keeps s) : b0.Keeps (doInternalRestart env s) := by
  unfold doInternalRestart
  repeat' (first | with_reducible assumption | with_reducible apply State.resetPackage_keeps | with_reducible apply State.runStart_keeps | with_reducible apply State.Keeps.ite | split | ((with_reducible conv => arg 2; whnf); split) | intro _)

theorem execInternalRestart_keeps (b0 : State) (env : StartEnv) (s : State) (h0 : b0.Keeps s) : b0.KeepsOut (execInternalRestart env s) := by
  unfold execInternalRestart
  repeat' (first | with_reducible assumption | with_reducible apply doInternalRestart_keeps | with_reducible apply State.Keeps.next | intro _)

theorem State.powerFall_keeps (b0 : State) (s : State) (h0 : b0.Keeps s) : b0.Keeps (State.powerFall s) := by
  unfold State.powerFall
  repeat' (first | with_reducible assumption | with_reducible apply State.resetPackage_keeps | with_reducible apply State.Keeps.mk_ | intro _)

theorem doPwrokFall_keeps (b0 : State) (s : State) (h0 : b0.Keeps s) : b0.Keeps (doPwrokFall s) := by
  unfold doPwrokFall
  repeat' (first | with_reducible assumption | with_reducible apply State.powerFall_keeps | with_reducible apply State.Keeps.ite | split | ((with_reducible conv => arg 2; whnf); split) | intro _)

theorem execPwrokFall_keeps (b0 : State) (s : State) (h0 : b0.Keeps s) : b0.KeepsOut (execPwrokFall s) := by
  unfold execPwrokFall
  repeat' (first | with_reducible assumption | with_reducible apply doPwrokFall_keeps | with_reducible apply State.Keeps.next | intro _)

theorem doSbyokRise_keeps (b0 : State) (straps : Nat) (s : State) (h0 : b0.Keeps s) : b0.Keeps (doSbyokRise straps s) := by
  unfold doSbyokRise
  repeat' (first | with_reducible assumption | with_reducible apply State.Keeps.ite | split | ((with_reducible conv => arg 2; whnf); split) | with_reducible apply State.Keeps.mk_ | intro _)

theorem execSbyokRise_keeps (b0 : State) (straps : Nat) (s : State) (h0 : b0.Keeps s) : b0.KeepsOut (execSbyokRise straps s) := by
  unfold execSbyokRise
  repeat' (first | with_reducible assumption | with_reducible apply doSbyokRise_keeps | with_reducible apply State.Keeps.next | intro _)

theorem doSbyokFall_keeps (b0 : State) (s : State) (h0 : b0.Keeps s) : b0.Keeps (doSbyokFall s) := by
  unfold doSbyokFall
  repeat' (first | with_reducible assumption | with_reducible apply State.powerFall_keeps | with_reducible apply State.Keeps.mk_ | intro _)

theorem execSbyokFall_keeps (b0 : State) (s : State) (h0 : b0.Keeps s) : b0.KeepsOut (execSbyokFall s) := by
  unfold execSbyokFall
  repeat' (first | with_reducible assumption | with_reducible apply doSbyokFall_keeps | with_reducible apply State.Keeps.next | intro _)

theorem doPackageReset_keeps (b0 : State) (s : State) (h0 : b0.Keeps s) : b0.Keeps (doPackageReset s) := by
  unfold doPackageReset
  repeat' (first | with_reducible assumption | with_reducible apply State.resetPackage_keeps | intro _)

theorem execPackageReset_keeps (b0 : State) (s : State) (h0 : b0.Keeps s) : b0.KeepsOut (execPackageReset s) := by
  unfold execPackageReset
  repeat' (first | with_reducible assumption | with_reducible apply doPackageReset_keeps | with_reducible apply State.Keeps.next | intro _)

theorem doI3cRead_keeps (b0 : State) (reg : Nat) (write : Bool) (s : State) (h0 : b0.Keeps s) : b0.Keeps (doI3cRead reg write s) := by
  unfold doI3cRead
  repeat' (first | with_reducible assumption | with_reducible apply State.answer_keeps | with_reducible apply State.Keeps.ite | split | ((with_reducible conv => arg 2; whnf); split) | with_reducible refine State.Keeps.eq2 (by with_reducible assumption) ?_ | with_reducible refine State.Keeps.eq22 (by with_reducible assumption) ?_ | with_reducible refine State.Keeps.eq222 (by with_reducible assumption) ?_ | with_reducible refine State.Keeps.eq1 (by with_reducible assumption) ?_ | intro _)

theorem execI3cRead_keeps (b0 : State) (reg : Fin 5) (write : Bool) (s : State) (h0 : b0.Keeps s) : b0.KeepsOut (execI3cRead reg write s) := by
  unfold execI3cRead
  repeat' (first | with_reducible assumption | with_reducible apply doI3cRead_keeps | with_reducible apply State.Keeps.next | intro _)

theorem State.drRespond_keeps (b0 : State) (s : State) (op status ticket : Nat) (payload : List Byte) (h0 : b0.Keeps s) : b0.Keeps (State.drRespond s op status ticket payload) := by
  unfold State.drRespond
  repeat' (first | with_reducible assumption | with_reducible apply State.answerBytes_keeps | intro _)

theorem doDrIdentity_keeps (b0 : State) (which : Nat) (s : State) (h0 : b0.Keeps s) : b0.Keeps (doDrIdentity which s) := by
  unfold doDrIdentity
  repeat' (first | with_reducible assumption | with_reducible apply State.drRespond_keeps | with_reducible apply State.Keeps.ite | split | ((with_reducible conv => arg 2; whnf); split) | with_reducible refine State.Keeps.eq2 (by with_reducible assumption) ?_ | with_reducible refine State.Keeps.eq22 (by with_reducible assumption) ?_ | with_reducible refine State.Keeps.eq222 (by with_reducible assumption) ?_ | with_reducible refine State.Keeps.eq1 (by with_reducible assumption) ?_ | intro _)

theorem execDrIdentity_keeps (b0 : State) (which : Nat) (s : State) (h0 : b0.Keeps s) : b0.KeepsOut (execDrIdentity which s) := by
  unfold execDrIdentity
  repeat' (first | with_reducible assumption | with_reducible apply doDrIdentity_keeps | with_reducible apply State.Keeps.next | intro _)

theorem doDrStatus_keeps (b0 : State) (s : State) (h0 : b0.Keeps s) : b0.Keeps (doDrStatus s) := by
  unfold doDrStatus
  repeat' (first | with_reducible assumption | with_reducible apply State.drRespond_keeps | with_reducible apply State.freshBytes_keeps | with_reducible apply State.Keeps.ite | with_reducible apply State.Keeps.ite2 | with_reducible apply State.Keeps.ite22 | with_reducible apply State.Keeps.ite222 | with_reducible apply State.Keeps.ite1 | with_reducible apply State.Keeps.ite21 | split | ((with_reducible conv => arg 2; whnf); split) | ((with_reducible conv => arg 2; arg 1; whnf); split) | ((with_reducible conv => arg 2; arg 1; arg 1; whnf); split) | intro _)

theorem execDrStatus_keeps (b0 : State) (s : State) (h0 : b0.Keeps s) : b0.KeepsOut (execDrStatus s) := by
  unfold execDrStatus
  repeat' (first | with_reducible assumption | with_reducible apply doDrStatus_keeps | with_reducible apply State.Keeps.next | intro _)

theorem doDrNonce_keeps (b0 : State) (s : State) (h0 : b0.Keeps s) : b0.Keeps (doDrNonce s) := by
  unfold doDrNonce
  repeat' (first | with_reducible assumption | with_reducible apply State.drRespond_keeps | with_reducible apply State.freshBytes_keeps | with_reducible apply State.Keeps.ite | with_reducible apply State.Keeps.ite2 | with_reducible apply State.Keeps.ite22 | with_reducible apply State.Keeps.ite222 | with_reducible apply State.Keeps.ite1 | with_reducible apply State.Keeps.ite21 | split | ((with_reducible conv => arg 2; whnf); split) | ((with_reducible conv => arg 2; arg 1; whnf); split) | ((with_reducible conv => arg 2; arg 1; arg 1; whnf); split) | with_reducible apply State.Keeps.mk_ | intro _)

theorem execDrNonce_keeps (b0 : State) (s : State) (h0 : b0.Keeps s) : b0.KeepsOut (execDrNonce s) := by
  unfold execDrNonce
  repeat' (first | with_reducible assumption | with_reducible apply doDrNonce_keeps | with_reducible apply State.Keeps.next | intro _)

theorem State.drCode_keeps (b0 : State) (s : State) (op code : Nat) (h0 : b0.Keeps s) : b0.Keeps (State.drCode s op code) := by
  unfold State.drCode
  repeat' (first | with_reducible assumption | with_reducible apply State.drRespond_keeps | with_reducible apply State.Keeps.mk_ | intro _)

theorem doDrBegin_keeps (b0 : State) (req : List Byte) (s : State) (h0 : b0.Keeps s) : b0.Keeps (doDrBegin req s) := by
  unfold doDrBegin
  repeat' (first | with_reducible assumption | with_reducible apply State.drRespond_keeps | with_reducible apply State.verify_keeps | with_reducible apply State.drCode_keeps | with_reducible apply State.Keeps.ite | with_reducible apply State.Keeps.ite2 | with_reducible apply State.Keeps.ite22 | with_reducible apply State.Keeps.ite222 | with_reducible apply State.Keeps.ite1 | with_reducible apply State.Keeps.ite21 | split | ((with_reducible conv => arg 2; whnf); split) | ((with_reducible conv => arg 2; arg 1; whnf); split) | ((with_reducible conv => arg 2; arg 1; arg 1; whnf); split) | with_reducible refine State.Keeps.eq2 (by with_reducible assumption) ?_ | with_reducible refine State.Keeps.eq22 (by with_reducible assumption) ?_ | with_reducible refine State.Keeps.eq222 (by with_reducible assumption) ?_ | with_reducible refine State.Keeps.eq1 (by with_reducible assumption) ?_ | with_reducible apply State.Keeps.mk_ | intro _)

theorem execDrBegin_keeps (b0 : State) (req : List Byte) (s : State) (h0 : b0.Keeps s) : b0.KeepsOut (execDrBegin req s) := by
  unfold execDrBegin
  repeat' (first | with_reducible assumption | with_reducible apply doDrBegin_keeps | with_reducible apply State.Keeps.next | intro _)

theorem doDrData_keeps (b0 : State) (off : Nat) (data : List Byte) (s : State) (h0 : b0.Keeps s) : b0.Keeps (doDrData off data s) := by
  unfold doDrData
  repeat' (first | with_reducible assumption | with_reducible apply State.drRespond_keeps | with_reducible apply State.drCode_keeps | with_reducible apply State.Keeps.ite | split | ((with_reducible conv => arg 2; whnf); split) | with_reducible apply State.Keeps.mk_ | intro _)

theorem execDrData_keeps (b0 : State) (off : Nat) (data : List Byte) (s : State) (h0 : b0.Keeps s) : b0.KeepsOut (execDrData off data s) := by
  unfold execDrData
  repeat' (first | with_reducible assumption | with_reducible apply doDrData_keeps | with_reducible apply State.Keeps.next | intro _)

theorem State.writeImage_keeps (b0 : State) (s : State) (cfgBytes i : Nat) (x0 : List Byte) (h0 : b0.Keeps s) : b0.Keeps (State.writeImage s cfgBytes i x0) := by
  induction x0 generalizing s i with
  | nil => exact h0
  | cons b r ih =>
    unfold State.writeImage
    refine ih _ _ ?_
    split
    · exact State.Keeps.nvm h0 _ (fun h => Assoc.wf_put (fun _ => (0xFF : Byte)) s.nvm _ b h)
    · exact h0

theorem doDrStagingWrite_keeps (b0 : State) (n : Nat) (s : State) (h0 : b0.Keeps s) : b0.Keeps (doDrStagingWrite n s) := by
  unfold doDrStagingWrite
  repeat' (first | with_reducible assumption | with_reducible apply State.writeImage_keeps | with_reducible apply State.Keeps.ite | split | ((with_reducible conv => arg 2; whnf); split) | with_reducible apply State.Keeps.mk_ | intro _)

theorem execDrStagingWrite_keeps (b0 : State) (n : Nat) (s : State) (h0 : b0.Keeps s) : b0.KeepsOut (execDrStagingWrite n s) := by
  unfold execDrStagingWrite
  repeat' (first | with_reducible assumption | with_reducible apply doDrStagingWrite_keeps | with_reducible apply State.Keeps.next | intro _)

theorem State.newTicket_keeps (b0 : State) (s : State) (p kind a n : Nat) (data : List Byte) (h0 : b0.Keeps s) : b0.Keeps (State.newTicket s p kind a n data).2 := by
  unfold State.newTicket
  repeat' (first | with_reducible assumption | with_reducible apply State.Keeps.mk_ | intro _)

theorem State.endTicket_keeps (b0 : State) (s : State) (id code : Nat) (h0 : b0.Keeps s) : b0.Keeps (State.endTicket s id code) := by
  unfold State.endTicket
  repeat' (first | with_reducible assumption | intro _ _ _ | intro _ | with_reducible apply State.Keeps.ite | split | ((with_reducible conv => arg 2; whnf); split) | with_reducible apply State.Keeps.mk_)

theorem doDrEnd_keeps (b0 : State) (s : State) (h0 : b0.Keeps s) : b0.Keeps (doDrEnd s) := by
  unfold doDrEnd
  repeat' (first | with_reducible assumption | with_reducible apply State.drRespond_keeps | with_reducible apply State.drCode_keeps | with_reducible apply State.newTicket_keeps | with_reducible apply State.Keeps.ite | with_reducible apply State.Keeps.ite2 | with_reducible apply State.Keeps.ite22 | with_reducible apply State.Keeps.ite222 | with_reducible apply State.Keeps.ite1 | with_reducible apply State.Keeps.ite21 | split | ((with_reducible conv => arg 2; whnf); split) | ((with_reducible conv => arg 2; arg 1; whnf); split) | ((with_reducible conv => arg 2; arg 1; arg 1; whnf); split) | with_reducible apply State.Keeps.mk_ | intro _)

theorem execDrEnd_keeps (b0 : State) (s : State) (h0 : b0.Keeps s) : b0.KeepsOut (execDrEnd s) := by
  unfold execDrEnd
  repeat' (first | with_reducible assumption | with_reducible apply doDrEnd_keeps | with_reducible apply State.Keeps.next | intro _)

theorem doDrEndDone_keeps (b0 : State) (s : State) (h0 : b0.Keeps s) : b0.Keeps (doDrEndDone s) := by
  unfold doDrEndDone
  repeat' (first | with_reducible assumption | intro _ _ _ | intro _ | with_reducible apply doDrStagingWrite_keeps | with_reducible apply State.endTicket_keeps | with_reducible apply State.checkImage_keeps | with_reducible apply State.Keeps.ite | with_reducible apply State.Keeps.ite2 | with_reducible apply State.Keeps.ite22 | with_reducible apply State.Keeps.ite222 | with_reducible apply State.Keeps.ite1 | with_reducible apply State.Keeps.ite21 | split | ((with_reducible conv => arg 2; whnf); split) | ((with_reducible conv => arg 2; arg 1; whnf); split) | ((with_reducible conv => arg 2; arg 1; arg 1; whnf); split) | with_reducible refine State.Keeps.eq2 (by with_reducible assumption) ?_ | with_reducible refine State.Keeps.eq22 (by with_reducible assumption) ?_ | with_reducible refine State.Keeps.eq222 (by with_reducible assumption) ?_ | with_reducible refine State.Keeps.eq1 (by with_reducible assumption) ?_ | with_reducible apply State.Keeps.mk_)

theorem execDrEndDone_keeps (b0 : State) (s : State) (h0 : b0.Keeps s) : b0.KeepsOut (execDrEndDone s) := by
  unfold execDrEndDone
  repeat' (first | with_reducible assumption | with_reducible apply doDrEndDone_keeps | with_reducible apply State.Keeps.next | intro _)

theorem doDrRestart_keeps (b0 : State) (env : StartEnv) (s : State) (h0 : b0.Keeps s) : b0.Keeps (doDrRestart env s) := by
  unfold doDrRestart
  repeat' (first | with_reducible assumption | with_reducible apply State.drRespond_keeps | with_reducible apply State.drCode_keeps | with_reducible apply State.writeCounter_keeps | with_reducible apply State.resetPackage_keeps | with_reducible apply State.runStart_keeps | with_reducible apply State.Keeps.ite | split | ((with_reducible conv => arg 2; whnf); split) | intro _)

theorem execDrRestart_keeps (b0 : State) (env : StartEnv) (s : State) (h0 : b0.Keeps s) : b0.KeepsOut (execDrRestart env s) := by
  unfold execDrRestart
  repeat' (first | with_reducible assumption | with_reducible apply doDrRestart_keeps | with_reducible apply State.Keeps.next | intro _)

end Sys2Proof.Machine
end

