-- ==== Sys2Proof/Laws/KeepsCollect.lean ====
section
/-! SUPPORT. What every operation of Machine/Collect.lean keeps: the queue, the part, and the canonical forms. -/
namespace Sys2Proof.Machine

set_option linter.all false
set_option Elab.async false

theorem State.updColl_keeps (b0 : State) (s : State) (f : Coll → Coll) (h0 : b0.Keeps s) : b0.Keeps (State.updColl s f) := by
  unfold State.updColl
  repeat' (first | with_reducible assumption | with_reducible apply State.Keeps.mk_)

theorem State.countNic_keeps (b0 : State) (s : State) (k x : Nat) (h0 : b0.Keeps s) : b0.Keeps (State.countNic s k x) := by
  unfold State.countNic
  repeat' (first | with_reducible assumption | with_reducible apply State.count_keeps)

theorem State.nicBusy_keeps (b0 : State) (s : State) (k : Nat) (h0 : b0.Keeps s) : b0.Keeps (State.nicBusy s k) := by
  unfold State.nicBusy
  repeat' (first | with_reducible assumption | intro _ _ _ | intro _ | with_reducible apply State.setF_keeps | split | ((with_reducible conv => arg 2; whnf); split))

theorem State.nicFail_keeps (b0 : State) (s : State) (k : Nat) (f : Fld) (code : Nat) (h0 : b0.Keeps s) : b0.Keeps (State.nicFail s k f code) := by
  unfold State.nicFail
  repeat' (first | with_reducible assumption | with_reducible apply State.raise_keeps | with_reducible apply State.Keeps.ite | intro _ _ _ | intro _ | with_reducible apply State.hwSets_keeps | with_reducible apply State.Keeps.mk_)

theorem State.setTot_keeps (b0 : State) (s : State) (k i : Nat) (e : TotEntry) (h0 : b0.Keeps s) : b0.Keeps (State.setTot s k i e) := by
  unfold State.setTot
  repeat' (first | with_reducible assumption | intro _ _ _ | intro _ | with_reducible apply State.updColl_keeps | split | ((with_reducible conv => arg 2; whnf); split) | with_reducible apply State.Keeps.mk_)

theorem State.totComplete_keeps (b0 : State) (s : State) (k i code : Nat) (h0 : b0.Keeps s) : b0.Keeps (State.totComplete s k i code).2 := by
  unfold State.totComplete
  repeat' (first | with_reducible assumption | with_reducible apply State.sendDep_keeps | with_reducible apply State.setTot_keeps | with_reducible apply State.count_keeps | with_reducible apply State.Keeps.ite | with_reducible apply State.Keeps.ite2 | with_reducible apply State.Keeps.ite22 | with_reducible apply State.Keeps.ite222 | with_reducible apply State.Keeps.ite1 | with_reducible apply State.Keeps.ite21 | split | ((with_reducible conv => arg 2; whnf); split) | ((with_reducible conv => arg 2; arg 1; whnf); split) | ((with_reducible conv => arg 2; arg 1; arg 1; whnf); split) | with_reducible apply State.Keeps.mk_)

theorem State.recComplete_keeps (b0 : State) (s : State) (num code : Nat) (h0 : b0.Keeps s) : b0.Keeps (State.recComplete s num code).2 := by
  unfold State.recComplete
  repeat' (first | with_reducible assumption | intro _ _ _ | intro _ | with_reducible apply State.updColl_keeps | with_reducible apply State.nicBusy_keeps | with_reducible apply State.setF_keeps | with_reducible apply State.countNic_keeps | with_reducible apply State.nicFail_keeps | with_reducible apply State.totComplete_keeps | with_reducible apply State.Keeps.ite | with_reducible apply State.Keeps.ite2 | with_reducible apply State.Keeps.ite22 | with_reducible apply State.Keeps.ite222 | with_reducible apply State.Keeps.ite1 | with_reducible apply State.Keeps.ite21 | split | ((with_reducible conv => arg 2; whnf); split) | ((with_reducible conv => arg 2; arg 1; whnf); split) | ((with_reducible conv => arg 2; arg 1; arg 1; whnf); split) | with_reducible refine State.Keeps.eq2 (by with_reducible assumption) ?_ | with_reducible refine State.Keeps.eq22 (by with_reducible assumption) ?_ | with_reducible refine State.Keeps.eq222 (by with_reducible assumption) ?_ | with_reducible refine State.Keeps.eq1 (by with_reducible assumption) ?_ | with_reducible apply State.Keeps.mk_)

theorem State.postRemote_keeps (b0 : State) (s : State) (k num : Nat) (b : List Byte) (h0 : b0.Keeps s) : b0.Keeps (State.postRemote s k num b).2 := by
  unfold State.postRemote
  repeat' (first | with_reducible assumption | intro _ _ _ | intro _ | with_reducible apply State.recComplete_keeps | with_reducible apply State.closeGathers_keeps | with_reducible apply State.newTx_keeps | with_reducible apply State.joinGather_keeps | with_reducible apply State.Keeps.ite | with_reducible apply State.Keeps.ite2 | with_reducible apply State.Keeps.ite22 | with_reducible apply State.Keeps.ite222 | with_reducible apply State.Keeps.ite1 | with_reducible apply State.Keeps.ite21 | split | ((with_reducible conv => arg 2; whnf); split) | ((with_reducible conv => arg 2; arg 1; whnf); split) | ((with_reducible conv => arg 2; arg 1; arg 1; whnf); split))

theorem State.reStatus_keeps (b0 : State) (s : State) (h0 : b0.Keeps s) : b0.Keeps (State.reStatus s) := by
  unfold State.reStatus
  repeat' (first | with_reducible assumption | intro _ _ _ | intro _ | with_reducible apply State.setFs_keeps | split | ((with_reducible conv => arg 2; whnf); split))

theorem State.takeScalar_keeps (b0 : State) (s : State) (g q : Nat) (h0 : b0.Keeps s) : b0.Keeps (State.takeScalar s g q) := by
  unfold State.takeScalar
  repeat' (first | with_reducible assumption | intro _ _ _ | intro _ | with_reducible apply State.updColl_keeps | with_reducible apply State.reStatus_keeps | with_reducible apply State.Keeps.ite | with_reducible apply State.Keeps.ite2 | with_reducible apply State.Keeps.ite22 | with_reducible apply State.Keeps.ite222 | with_reducible apply State.Keeps.ite1 | with_reducible apply State.Keeps.ite21 | split | ((with_reducible conv => arg 2; whnf); split) | ((with_reducible conv => arg 2; arg 1; whnf); split) | ((with_reducible conv => arg 2; arg 1; arg 1; whnf); split) | with_reducible apply State.Keeps.mk_)

theorem State.postColl_keeps (b0 : State) (s : State) (k num : Nat) (b : List Byte) (h0 : b0.Keeps s) : b0.Keeps (State.postColl s k num b) := by
  unfold State.postColl
  repeat' (first | with_reducible assumption | intro _ _ _ | intro _ | with_reducible apply State.count_keeps | with_reducible apply State.setF_keeps | with_reducible apply State.updColl_keeps | with_reducible apply State.countNic_keeps | with_reducible apply State.takeScalar_keeps | with_reducible apply State.Keeps.ite | split | ((with_reducible conv => arg 2; whnf); split) | with_reducible apply State.Keeps.mk_)

theorem State.post_keeps (b0 : State) (s : State) (k : Nat) (b : List Byte) (tot : Option Nat) (h0 : b0.Keeps s) : b0.Keeps (State.post s k b tot).2 := by
  unfold State.post
  repeat' (first | with_reducible assumption | with_reducible apply State.setTot_keeps | intro _ _ _ | intro _ | with_reducible apply State.nicFail_keeps | with_reducible apply State.updColl_keeps | with_reducible apply State.nicBusy_keeps | with_reducible apply State.countNic_keeps | with_reducible apply State.postRemote_keeps | with_reducible apply State.postColl_keeps | with_reducible apply State.Keeps.ite | with_reducible apply State.Keeps.ite2 | with_reducible apply State.Keeps.ite22 | with_reducible apply State.Keeps.ite222 | with_reducible apply State.Keeps.ite1 | with_reducible apply State.Keeps.ite21 | split | ((with_reducible conv => arg 2; whnf); split) | ((with_reducible conv => arg 2; arg 1; whnf); split) | ((with_reducible conv => arg 2; arg 1; arg 1; whnf); split) | with_reducible apply State.Keeps.mk_)

theorem State.acceptHeld_keeps (b0 : State) (s : State) (h0 : b0.Keeps s) : b0.Keeps (State.acceptHeld s) := by
  unfold State.acceptHeld
  repeat' (first | with_reducible assumption | intro _ _ _ | intro _ | with_reducible apply State.updColl_keeps | with_reducible apply State.postColl_keeps | with_reducible apply State.Keeps.ite | with_reducible apply State.Keeps.ite2 | with_reducible apply State.Keeps.ite22 | with_reducible apply State.Keeps.ite222 | with_reducible apply State.Keeps.ite1 | with_reducible apply State.Keeps.ite21 | with_reducible apply State.Keeps.foldl | with_reducible apply State.Keeps.foldl2 | with_reducible apply State.Keeps.foldl22 | with_reducible apply State.Keeps.foldl222 | with_reducible apply State.Keeps.foldl1 | split | ((with_reducible conv => arg 2; whnf); split) | ((with_reducible conv => arg 2; arg 1; whnf); split) | ((with_reducible conv => arg 2; arg 1; arg 1; whnf); split) | with_reducible apply State.Keeps.mk_)

theorem State.totInc_keeps (b0 : State) (s : State) (k i n : Nat) (h0 : b0.Keeps s) : b0.Keeps (State.totInc s k i n).2 := by
  unfold State.totInc
  repeat' (first | with_reducible assumption | intro _ _ _ | intro _ | with_reducible apply State.setTot_keeps | with_reducible apply State.count_keeps | with_reducible apply State.commit_keeps | with_reducible apply State.countNic_keeps | with_reducible apply State.extRead_keeps | with_reducible apply State.nicFail_keeps | with_reducible apply State.post_keeps | with_reducible apply State.Keeps.ite | with_reducible apply State.Keeps.ite2 | with_reducible apply State.Keeps.ite22 | with_reducible apply State.Keeps.ite222 | with_reducible apply State.Keeps.ite1 | with_reducible apply State.Keeps.ite21 | split | ((with_reducible conv => arg 2; whnf); split) | ((with_reducible conv => arg 2; arg 1; whnf); split) | ((with_reducible conv => arg 2; arg 1; arg 1; whnf); split) | with_reducible refine State.Keeps.eq2 (by with_reducible assumption) ?_ | with_reducible refine State.Keeps.eq22 (by with_reducible assumption) ?_ | with_reducible refine State.Keeps.eq222 (by with_reducible assumption) ?_ | with_reducible refine State.Keeps.eq1 (by with_reducible assumption) ?_ | with_reducible apply State.Keeps.pair2 | with_reducible apply State.Keeps.pair22 | with_reducible apply State.Keeps.pair222 | with_reducible apply State.Keeps.mk_)

theorem State.settleTots_keeps (b0 : State) (s : State) (x0 : Nat) (x1 : Incs) (h0 : b0.Keeps s) : b0.Keeps (State.settleTots s x0 x1) := by
  induction x0 generalizing x1 s with
  | zero =>
    unfold State.settleTots
    repeat' (first | with_reducible assumption | intro _ _ _ | intro _ | with_reducible apply State.totInc_keeps | with_reducible apply State.Keeps.ite | with_reducible apply State.Keeps.ite2 | with_reducible apply State.Keeps.ite22 | with_reducible apply State.Keeps.ite222 | with_reducible apply State.Keeps.ite1 | with_reducible apply State.Keeps.ite21 | with_reducible apply State.Keeps.foldl | with_reducible apply State.Keeps.foldl2 | with_reducible apply State.Keeps.foldl22 | with_reducible apply State.Keeps.foldl222 | with_reducible apply State.Keeps.foldl1 | split | ((with_reducible conv => arg 2; whnf); split) | ((with_reducible conv => arg 2; arg 1; whnf); split) | ((with_reducible conv => arg 2; arg 1; arg 1; whnf); split))
  | succ k ih =>
    unfold State.settleTots
    repeat' (first | with_reducible apply ih | with_reducible assumption | intro _ _ _ | intro _ | with_reducible apply State.totInc_keeps | with_reducible apply State.Keeps.ite | with_reducible apply State.Keeps.ite2 | with_reducible apply State.Keeps.ite22 | with_reducible apply State.Keeps.ite222 | with_reducible apply State.Keeps.ite1 | with_reducible apply State.Keeps.ite21 | with_reducible apply State.Keeps.foldl | with_reducible apply State.Keeps.foldl2 | with_reducible apply State.Keeps.foldl22 | with_reducible apply State.Keeps.foldl222 | with_reducible apply State.Keeps.foldl1 | split | ((with_reducible conv => arg 2; whnf); split) | ((with_reducible conv => arg 2; arg 1; whnf); split) | ((with_reducible conv => arg 2; arg 1; arg 1; whnf); split))

theorem State.settleFences_keeps (b0 : State) (s : State) (h0 : b0.Keeps s) : b0.Keeps (State.settleFences s) := by
  unfold State.settleFences
  repeat' (first | with_reducible assumption | intro _ _ _ | intro _ | with_reducible apply State.settleTots_keeps | with_reducible apply State.Keeps.ite | with_reducible apply State.Keeps.ite2 | with_reducible apply State.Keeps.ite22 | with_reducible apply State.Keeps.ite222 | with_reducible apply State.Keeps.ite1 | with_reducible apply State.Keeps.ite21 | split | ((with_reducible conv => arg 2; whnf); split) | ((with_reducible conv => arg 2; arg 1; whnf); split) | ((with_reducible conv => arg 2; arg 1; arg 1; whnf); split) | with_reducible apply State.Keeps.mk_)

theorem State.rollTots_keeps (b0 : State) (s : State) (p : Nat) (h0 : b0.Keeps s) : b0.Keeps (State.rollTots s p) := by
  unfold State.rollTots
  repeat' (first | with_reducible assumption | intro _ _ _ | intro _ | with_reducible apply State.setTot_keeps | with_reducible apply State.raise_keeps | with_reducible apply State.count_keeps | with_reducible apply State.Keeps.ite | with_reducible apply State.Keeps.ite2 | with_reducible apply State.Keeps.ite22 | with_reducible apply State.Keeps.ite222 | with_reducible apply State.Keeps.ite1 | with_reducible apply State.Keeps.ite21 | with_reducible apply State.Keeps.foldl | with_reducible apply State.Keeps.foldl2 | with_reducible apply State.Keeps.foldl22 | with_reducible apply State.Keeps.foldl222 | with_reducible apply State.Keeps.foldl1 | split | ((with_reducible conv => arg 2; whnf); split) | ((with_reducible conv => arg 2; arg 1; whnf); split) | ((with_reducible conv => arg 2; arg 1; arg 1; whnf); split) | with_reducible apply State.Keeps.mk_)

theorem doTrigger_keeps (b0 : State) (die idx : Nat) (s : State) (h0 : b0.Keeps s) : b0.Keeps (doTrigger die idx s) := by
  unfold doTrigger
  repeat' (first | with_reducible assumption | with_reducible apply State.toCyc_keeps | with_reducible apply State.perform_keeps | with_reducible apply State.settleTots_keeps | split | ((with_reducible conv => arg 2; whnf); split) | with_reducible refine State.Keeps.eq2 (by with_reducible assumption) ?_ | with_reducible refine State.Keeps.eq22 (by with_reducible assumption) ?_ | with_reducible refine State.Keeps.eq222 (by with_reducible assumption) ?_ | with_reducible refine State.Keeps.eq1 (by with_reducible assumption) ?_)

theorem execTrigger_keeps (b0 : State) (die : Fin 4) (idx : Nat) (s : State) (h0 : b0.Keeps s) : b0.KeepsOut (execTrigger die idx s) := by
  unfold execTrigger
  repeat' (first | with_reducible assumption | with_reducible apply doTrigger_keeps | with_reducible apply State.Keeps.next)

theorem doNicDoorbell_keeps (b0 : State) (k p tail : Nat) (s : State) (h0 : b0.Keeps s) : b0.Keeps (doNicDoorbell k p tail s) := by
  unfold doNicDoorbell
  repeat' (first | with_reducible assumption | with_reducible apply State.setF_keeps | with_reducible apply State.Keeps.ite | split | ((with_reducible conv => arg 2; whnf); split))

theorem execNicDoorbell_keeps (b0 : State) (ctx : Fin 8) (p : Fin 4) (tail : Nat) (s : State) (h0 : b0.Keeps s) : b0.KeepsOut (execNicDoorbell ctx p tail s) := by
  unfold execNicDoorbell
  repeat' (first | with_reducible assumption | with_reducible apply State.bar2_keeps | with_reducible apply doNicDoorbell_keeps | with_reducible apply State.Keeps.next)

theorem doTotDoorbellIncrement_keeps (b0 : State) (k p v : Nat) (s : State) (h0 : b0.Keeps s) : b0.Keeps (doTotDoorbellIncrement k p v s) := by
  unfold doTotDoorbellIncrement
  repeat' (first | with_reducible assumption | with_reducible apply State.settleTots_keeps | with_reducible apply State.Keeps.ite | split | ((with_reducible conv => arg 2; whnf); split))

theorem execTotDoorbellIncrement_keeps (b0 : State) (ctx : Fin 8) (p : Fin 4) (val : Nat) (s : State) (h0 : b0.Keeps s) : b0.KeepsOut (execTotDoorbellIncrement ctx p val s) := by
  unfold execTotDoorbellIncrement
  repeat' (first | with_reducible assumption | with_reducible apply State.bar2_keeps | intro _ _ _ | intro _ | with_reducible apply State.orWait_keeps | with_reducible apply doTotDoorbellIncrement_keeps | with_reducible apply State.Keeps.next | with_reducible apply State.Keeps.mk_)

theorem doNicRecordPost_keeps (b0 : State) (k : Nat) (s : State) (h0 : b0.Keeps s) : b0.Keeps (doNicRecordPost k s) := by
  unfold doNicRecordPost
  repeat' (first | with_reducible assumption | intro _ _ _ | intro _ | with_reducible apply State.extRead_keeps | with_reducible apply State.setF_keeps | with_reducible apply State.nicFail_keeps | with_reducible apply State.post_keeps | with_reducible apply State.settleTots_keeps | with_reducible apply State.Keeps.ite | with_reducible apply State.Keeps.ite2 | with_reducible apply State.Keeps.ite22 | with_reducible apply State.Keeps.ite222 | with_reducible apply State.Keeps.ite1 | with_reducible apply State.Keeps.ite21 | split | ((with_reducible conv => arg 2; whnf); split) | ((with_reducible conv => arg 2; arg 1; whnf); split) | ((with_reducible conv => arg 2; arg 1; arg 1; whnf); split) | with_reducible refine State.Keeps.eq2 (by with_reducible assumption) ?_ | with_reducible refine State.Keeps.eq22 (by with_reducible assumption) ?_ | with_reducible refine State.Keeps.eq222 (by with_reducible assumption) ?_ | with_reducible refine State.Keeps.eq1 (by with_reducible assumption) ?_ | with_reducible apply State.Keeps.mk_)

theorem execNicRecordPost_keeps (b0 : State) (ctx : Fin 8) (s : State) (h0 : b0.Keeps s) : b0.KeepsOut (execNicRecordPost ctx s) := by
  unfold execNicRecordPost
  repeat' (first | with_reducible assumption | intro _ _ _ | intro _ | with_reducible apply State.orWait_keeps | with_reducible apply doNicRecordPost_keeps | with_reducible apply State.Keeps.next | with_reducible apply State.Keeps.mk_)

theorem doTotLoad_keeps (b0 : State) (v : Nat) (s : State) (h0 : b0.Keeps s) : b0.Keeps (doTotLoad v s) := by
  unfold doTotLoad
  repeat' (first | with_reducible assumption | intro _ _ _ | intro _ | with_reducible apply State.setFs_keeps | with_reducible apply State.answer_keeps | with_reducible apply State.refused_keeps | with_reducible apply State.setF_keeps | with_reducible apply State.updColl_keeps | with_reducible apply State.Keeps.ite | with_reducible apply State.Keeps.ite2 | with_reducible apply State.Keeps.ite22 | with_reducible apply State.Keeps.ite222 | with_reducible apply State.Keeps.ite1 | with_reducible apply State.Keeps.ite21 | split | ((with_reducible conv => arg 2; whnf); split) | ((with_reducible conv => arg 2; arg 1; whnf); split) | ((with_reducible conv => arg 2; arg 1; arg 1; whnf); split) | with_reducible apply State.Keeps.mk_)

theorem execTotLoad_keeps (b0 : State) (val : Word) (s : State) (h0 : b0.Keeps s) : b0.KeepsOut (execTotLoad val s) := by
  unfold execTotLoad
  repeat' (first | with_reducible assumption | with_reducible apply doTotLoad_keeps | with_reducible apply State.Keeps.next)

theorem doTotLoadDone_keeps (b0 : State) (s : State) (h0 : b0.Keeps s) : b0.Keeps (doTotLoadDone s) := by
  unfold doTotLoadDone
  repeat' (first | with_reducible assumption | intro _ _ _ | intro _ | with_reducible apply State.updColl_keeps | with_reducible apply State.extRead_keeps | with_reducible apply State.hwSets_keeps | with_reducible apply State.raise_keeps | with_reducible apply State.setTot_keeps | with_reducible apply State.Keeps.ite | with_reducible apply State.Keeps.ite2 | with_reducible apply State.Keeps.ite22 | with_reducible apply State.Keeps.ite222 | with_reducible apply State.Keeps.ite1 | with_reducible apply State.Keeps.ite21 | with_reducible apply State.Keeps.foldl | with_reducible apply State.Keeps.foldl2 | with_reducible apply State.Keeps.foldl22 | with_reducible apply State.Keeps.foldl222 | with_reducible apply State.Keeps.foldl1 | split | ((with_reducible conv => arg 2; whnf); split) | ((with_reducible conv => arg 2; arg 1; whnf); split) | ((with_reducible conv => arg 2; arg 1; arg 1; whnf); split) | with_reducible refine State.Keeps.eq2 (by with_reducible assumption) ?_ | with_reducible refine State.Keeps.eq22 (by with_reducible assumption) ?_ | with_reducible refine State.Keeps.eq222 (by with_reducible assumption) ?_ | with_reducible refine State.Keeps.eq1 (by with_reducible assumption) ?_ | with_reducible apply State.Keeps.mk_)

theorem execTotLoadDone_keeps (b0 : State) (s : State) (h0 : b0.Keeps s) : b0.KeepsOut (execTotLoadDone s) := by
  unfold execTotLoadDone
  repeat' (first | with_reducible assumption | intro _ _ _ | intro _ | with_reducible apply State.orWait_keeps | with_reducible apply doTotLoadDone_keeps | with_reducible apply State.Keeps.next | with_reducible apply State.Keeps.mk_)

theorem State.updOp_keeps (b0 : State) (s : State) (g q : Nat) (f : CollOp → CollOp) (h0 : b0.Keeps s) : b0.Keeps (State.updOp s g q f) := by
  unfold State.updOp
  repeat' (first | with_reducible assumption | intro _ _ _ | intro _ | with_reducible apply State.updColl_keeps | with_reducible apply State.Keeps.ite | split | ((with_reducible conv => arg 2; whnf); split) | with_reducible apply State.Keeps.mk_)

theorem State.failOp_keeps (b0 : State) (s : State) (g q code : Nat) (h0 : b0.Keeps s) : b0.Keeps (State.failOp s g q code) := by
  unfold State.failOp
  repeat' (first | with_reducible assumption | intro _ _ _ | intro _ | with_reducible apply State.updOp_keeps | with_reducible apply State.Keeps.ite | split | ((with_reducible conv => arg 2; whnf); split) | with_reducible apply State.Keeps.mk_)

theorem State.updChunk_keeps (b0 : State) (s : State) (g q idx : Nat) (f : Chunk → Chunk) (h0 : b0.Keeps s) : b0.Keeps (State.updChunk s g q idx f) := by
  unfold State.updChunk
  repeat' (first | with_reducible assumption | intro _ _ _ | intro _ | with_reducible apply State.updOp_keeps | with_reducible apply State.Keeps.ite | split | ((with_reducible conv => arg 2; whnf); split) | with_reducible apply State.Keeps.mk_)

theorem State.colSend_keeps (b0 : State) (s : State) (o : CollOp) (dst op vc region key : Nat) (addrs : List (Nat × List Byte)) (tag : Nat) (h0 : b0.Keeps s) : b0.Keeps (State.colSend s o dst op vc region key addrs tag) := by
  unfold State.colSend
  repeat' (first | with_reducible assumption | with_reducible apply State.newTx_keeps)

theorem State.colPacket_keeps (b0 : State) (s : State) (o : CollOp) (dst op pass : Nat) (b : List Byte) (h0 : b0.Keeps s) : b0.Keeps (State.colPacket s o dst op pass b) := by
  unfold State.colPacket
  repeat' (first | with_reducible assumption | intro _ _ _ | intro _ | with_reducible apply State.colSend_keeps | with_reducible apply State.Keeps.foldl | with_reducible apply State.Keeps.foldl2 | with_reducible apply State.Keeps.foldl22 | with_reducible apply State.Keeps.foldl222 | with_reducible apply State.Keeps.foldl1 | split | ((with_reducible conv => arg 2; whnf); split) | ((with_reducible conv => arg 2; arg 1; whnf); split) | ((with_reducible conv => arg 2; arg 1; arg 1; whnf); split))

theorem State.ownScalar_keeps (b0 : State) (s : State) (o : CollOp) (h0 : b0.Keeps s) : b0.Keeps (State.ownScalar s o).2.2 := by
  unfold State.ownScalar
  repeat' (first | with_reducible assumption | intro _ _ _ | intro _ | with_reducible apply State.extRead_keeps | with_reducible apply State.Keeps.ite | with_reducible apply State.Keeps.ite2 | with_reducible apply State.Keeps.ite22 | with_reducible apply State.Keeps.ite222 | with_reducible apply State.Keeps.ite1 | with_reducible apply State.Keeps.ite21 | with_reducible apply State.Keeps.foldl | with_reducible apply State.Keeps.foldl2 | with_reducible apply State.Keeps.foldl22 | with_reducible apply State.Keeps.foldl222 | with_reducible apply State.Keeps.foldl1 | split | ((with_reducible conv => arg 2; whnf); split) | ((with_reducible conv => arg 2; arg 1; whnf); split) | ((with_reducible conv => arg 2; arg 1; arg 1; whnf); split) | with_reducible refine State.Keeps.eq2 (by with_reducible assumption) ?_ | with_reducible refine State.Keeps.eq22 (by with_reducible assumption) ?_ | with_reducible refine State.Keeps.eq222 (by with_reducible assumption) ?_ | with_reducible refine State.Keeps.eq1 (by with_reducible assumption) ?_ | with_reducible apply State.Keeps.pair2 | with_reducible apply State.Keeps.pair22 | with_reducible apply State.Keeps.pair222 | with_reducible apply State.Keeps.mk_)

theorem State.ownElements_keeps (b0 : State) (s : State) (o : CollOp) (h0 : b0.Keeps s) : b0.Keeps (State.ownElements s o).2.2 := by
  unfold State.ownElements
  repeat' (first | with_reducible assumption | intro _ _ _ | intro _ | with_reducible apply State.extRead_keeps | with_reducible apply State.Keeps.ite | with_reducible apply State.Keeps.ite2 | with_reducible apply State.Keeps.ite22 | with_reducible apply State.Keeps.ite222 | with_reducible apply State.Keeps.ite1 | with_reducible apply State.Keeps.ite21 | split | ((with_reducible conv => arg 2; whnf); split) | ((with_reducible conv => arg 2; arg 1; whnf); split) | ((with_reducible conv => arg 2; arg 1; arg 1; whnf); split) | with_reducible refine State.Keeps.eq2 (by with_reducible assumption) ?_ | with_reducible refine State.Keeps.eq22 (by with_reducible assumption) ?_ | with_reducible refine State.Keeps.eq222 (by with_reducible assumption) ?_ | with_reducible refine State.Keeps.eq1 (by with_reducible assumption) ?_ | with_reducible apply State.Keeps.pair2 | with_reducible apply State.Keeps.pair22 | with_reducible apply State.Keeps.pair222 | with_reducible apply State.Keeps.mk_)

theorem State.scalarResult_keeps (b0 : State) (s : State) (o : CollOp) (b : List Byte) (h0 : b0.Keeps s) : b0.Keeps (State.scalarResult s o b) := by
  unfold State.scalarResult
  repeat' (first | with_reducible assumption | intro _ _ _ | intro _ | with_reducible apply State.updOp_keeps | with_reducible apply State.extWrite_keeps | with_reducible apply State.failOp_keeps | with_reducible apply State.Keeps.ite | with_reducible apply State.Keeps.ite2 | with_reducible apply State.Keeps.ite22 | with_reducible apply State.Keeps.ite222 | with_reducible apply State.Keeps.ite1 | with_reducible apply State.Keeps.ite21 | split | ((with_reducible conv => arg 2; whnf); split) | ((with_reducible conv => arg 2; arg 1; whnf); split) | ((with_reducible conv => arg 2; arg 1; arg 1; whnf); split) | with_reducible refine State.Keeps.eq2 (by with_reducible assumption) ?_ | with_reducible refine State.Keeps.eq22 (by with_reducible assumption) ?_ | with_reducible refine State.Keeps.eq222 (by with_reducible assumption) ?_ | with_reducible refine State.Keeps.eq1 (by with_reducible assumption) ?_ | with_reducible apply State.Keeps.mk_)

theorem State.scalarStep_keeps (b0 : State) (s : State) (g q : Nat) (x0 : Nat) (h0 : b0.Keeps s) : b0.Keeps (State.scalarStep s g q x0) := by
  induction x0 generalizing s with
  | zero =>
    unfold State.scalarStep
    repeat' (first | with_reducible assumption | intro _ _ _ | intro _ | with_reducible apply State.updColl_keeps | with_reducible apply State.ownElements_keeps | with_reducible apply State.ownScalar_keeps | with_reducible apply State.failOp_keeps | with_reducible apply State.updOp_keeps | with_reducible apply State.colPacket_keeps | with_reducible apply State.scalarResult_keeps | with_reducible apply State.Keeps.ite | with_reducible apply State.Keeps.ite2 | with_reducible apply State.Keeps.ite22 | with_reducible apply State.Keeps.ite222 | with_reducible apply State.Keeps.ite1 | with_reducible apply State.Keeps.ite21 | with_reducible apply State.Keeps.foldl | with_reducible apply State.Keeps.foldl2 | with_reducible apply State.Keeps.foldl22 | with_reducible apply State.Keeps.foldl222 | with_reducible apply State.Keeps.foldl1 | split | ((with_reducible conv => arg 2; whnf); split) | ((with_reducible conv => arg 2; arg 1; whnf); split) | ((with_reducible conv => arg 2; arg 1; arg 1; whnf); split) | with_reducible refine State.Keeps.eq2 (by with_reducible assumption) ?_ | with_reducible refine State.Keeps.eq22 (by with_reducible assumption) ?_ | with_reducible refine State.Keeps.eq222 (by with_reducible assumption) ?_ | with_reducible refine State.Keeps.eq1 (by with_reducible assumption) ?_ | with_reducible apply State.Keeps.mk_)
  | succ k ih =>
    unfold State.scalarStep
    repeat' (first | with_reducible apply ih | with_reducible assumption | intro _ _ _ | intro _ | with_reducible apply State.updColl_keeps | with_reducible apply State.ownElements_keeps | with_reducible apply State.ownScalar_keeps | with_reducible apply State.failOp_keeps | with_reducible apply State.updOp_keeps | with_reducible apply State.colPacket_keeps | with_reducible apply State.scalarResult_keeps | with_reducible apply State.Keeps.ite | with_reducible apply State.Keeps.ite2 | with_reducible apply State.Keeps.ite22 | with_reducible apply State.Keeps.ite222 | with_reducible apply State.Keeps.ite1 | with_reducible apply State.Keeps.ite21 | with_reducible apply State.Keeps.foldl | with_reducible apply State.Keeps.foldl2 | with_reducible apply State.Keeps.foldl22 | with_reducible apply State.Keeps.foldl222 | with_reducible apply State.Keeps.foldl1 | split | ((with_reducible conv => arg 2; whnf); split) | ((with_reducible conv => arg 2; arg 1; whnf); split) | ((with_reducible conv => arg 2; arg 1; arg 1; whnf); split) | with_reducible refine State.Keeps.eq2 (by with_reducible assumption) ?_ | with_reducible refine State.Keeps.eq22 (by with_reducible assumption) ?_ | with_reducible refine State.Keeps.eq222 (by with_reducible assumption) ?_ | with_reducible refine State.Keeps.eq1 (by with_reducible assumption) ?_ | with_reducible apply State.Keeps.mk_)

theorem State.ownChunk_keeps (b0 : State) (s : State) (o : CollOp) (gr : Group) (c : Chunk) (pass : Nat) (h0 : b0.Keeps s) : b0.Keeps (State.ownChunk s o gr c pass).2.2.2 := by
  unfold State.ownChunk
  repeat' (first | with_reducible assumption | intro _ _ _ | intro _ | with_reducible apply State.extRead_keeps | with_reducible apply State.Keeps.ite | with_reducible apply State.Keeps.ite2 | with_reducible apply State.Keeps.ite22 | with_reducible apply State.Keeps.ite222 | with_reducible apply State.Keeps.ite1 | with_reducible apply State.Keeps.ite21 | with_reducible apply State.Keeps.foldl | with_reducible apply State.Keeps.foldl2 | with_reducible apply State.Keeps.foldl22 | with_reducible apply State.Keeps.foldl222 | with_reducible apply State.Keeps.foldl1 | split | ((with_reducible conv => arg 2; whnf); split) | ((with_reducible conv => arg 2; arg 1; whnf); split) | ((with_reducible conv => arg 2; arg 1; arg 1; whnf); split) | with_reducible refine State.Keeps.eq2 (by with_reducible assumption) ?_ | with_reducible refine State.Keeps.eq22 (by with_reducible assumption) ?_ | with_reducible refine State.Keeps.eq222 (by with_reducible assumption) ?_ | with_reducible refine State.Keeps.eq1 (by with_reducible assumption) ?_ | with_reducible apply State.Keeps.pair2 | with_reducible apply State.Keeps.pair22 | with_reducible apply State.Keeps.pair222 | with_reducible apply State.Keeps.mk_)

theorem State.putResult_keeps (b0 : State) (s : State) (o : CollOp) (off : Nat) (b : List Byte) (h0 : b0.Keeps s) : b0.Keeps (State.putResult s o off b) := by
  unfold State.putResult
  repeat' (first | with_reducible assumption | intro _ _ _ | intro _ | with_reducible apply State.extWrite_keeps | with_reducible apply State.failOp_keeps | with_reducible apply State.updOp_keeps | with_reducible apply State.Keeps.ite | with_reducible apply State.Keeps.ite2 | with_reducible apply State.Keeps.ite22 | with_reducible apply State.Keeps.ite222 | with_reducible apply State.Keeps.ite1 | with_reducible apply State.Keeps.ite21 | split | ((with_reducible conv => arg 2; whnf); split) | ((with_reducible conv => arg 2; arg 1; whnf); split) | ((with_reducible conv => arg 2; arg 1; arg 1; whnf); split) | with_reducible refine State.Keeps.eq2 (by with_reducible assumption) ?_ | with_reducible refine State.Keeps.eq22 (by with_reducible assumption) ?_ | with_reducible refine State.Keeps.eq222 (by with_reducible assumption) ?_ | with_reducible refine State.Keeps.eq1 (by with_reducible assumption) ?_ | with_reducible apply State.Keeps.mk_)

theorem State.noteResult_keeps (b0 : State) (s : State) (g q : Nat) (h0 : b0.Keeps s) : b0.Keeps (State.noteResult s g q) := by
  unfold State.noteResult
  repeat' (first | with_reducible assumption | intro _ _ _ | intro _ | with_reducible apply State.updOp_keeps | with_reducible apply State.Keeps.ite | split | ((with_reducible conv => arg 2; whnf); split) | with_reducible refine State.Keeps.eq2 (by with_reducible assumption) ?_ | with_reducible refine State.Keeps.eq22 (by with_reducible assumption) ?_ | with_reducible refine State.Keeps.eq222 (by with_reducible assumption) ?_ | with_reducible refine State.Keeps.eq1 (by with_reducible assumption) ?_ | with_reducible apply State.Keeps.mk_)

theorem State.freeChunkSlot_keeps (b0 : State) (s : State) (g q idx : Nat) (h0 : b0.Keeps s) : b0.Keeps (State.freeChunkSlot s g q idx) := by
  unfold State.freeChunkSlot
  repeat' (first | with_reducible assumption | intro _ _ _ | intro _ | with_reducible apply State.updChunk_keeps | with_reducible apply State.reStatus_keeps | split | ((with_reducible conv => arg 2; whnf); split) | with_reducible apply State.Keeps.mk_)

theorem State.rootDown_keeps (b0 : State) (s : State) (o : CollOp) (gr : Group) (c : Chunk) (b : List Byte) (h0 : b0.Keeps s) : b0.Keeps (State.rootDown s o gr c b) := by
  unfold State.rootDown
  repeat' (first | with_reducible assumption | intro _ _ _ | intro _ | with_reducible apply State.putResult_keeps | with_reducible apply State.colSend_keeps | with_reducible apply State.updChunk_keeps | with_reducible apply State.freeChunkSlot_keeps | with_reducible apply State.noteResult_keeps | with_reducible apply State.Keeps.ite | with_reducible apply State.Keeps.foldl | with_reducible apply State.Keeps.foldl2 | with_reducible apply State.Keeps.foldl22 | with_reducible apply State.Keeps.foldl222 | with_reducible apply State.Keeps.foldl1 | split | ((with_reducible conv => arg 2; whnf); split) | with_reducible apply State.Keeps.mk_)

theorem State.chunkUp_keeps (b0 : State) (s : State) (g q idx : Nat) (h0 : b0.Keeps s) : b0.Keeps (State.chunkUp s g q idx) := by
  unfold State.chunkUp
  repeat' (first | with_reducible assumption | intro _ _ _ | intro _ | with_reducible apply State.rootDown_keeps | with_reducible apply State.updChunk_keeps | with_reducible apply State.colSend_keeps | with_reducible apply State.Keeps.ite | with_reducible apply State.Keeps.ite2 | with_reducible apply State.Keeps.ite22 | with_reducible apply State.Keeps.ite222 | with_reducible apply State.Keeps.ite1 | with_reducible apply State.Keeps.ite21 | split | ((with_reducible conv => arg 2; whnf); split) | ((with_reducible conv => arg 2; arg 1; whnf); split) | ((with_reducible conv => arg 2; arg 1; arg 1; whnf); split) | with_reducible refine State.Keeps.eq2 (by with_reducible assumption) ?_ | with_reducible refine State.Keeps.eq22 (by with_reducible assumption) ?_ | with_reducible refine State.Keeps.eq222 (by with_reducible assumption) ?_ | with_reducible refine State.Keeps.eq1 (by with_reducible assumption) ?_ | with_reducible apply State.Keeps.mk_)

theorem State.addOwn_keeps (b0 : State) (s : State) (g q idx : Nat) (h0 : b0.Keeps s) : b0.Keeps (State.addOwn s g q idx) := by
  unfold State.addOwn
  repeat' (first | with_reducible assumption | intro _ _ _ | intro _ | with_reducible apply State.ownChunk_keeps | with_reducible apply State.failOp_keeps | with_reducible apply State.extWrite_keeps | with_reducible apply State.updChunk_keeps | with_reducible apply State.Keeps.ite | with_reducible apply State.Keeps.ite2 | with_reducible apply State.Keeps.ite22 | with_reducible apply State.Keeps.ite222 | with_reducible apply State.Keeps.ite1 | with_reducible apply State.Keeps.ite21 | split | ((with_reducible conv => arg 2; whnf); split) | ((with_reducible conv => arg 2; arg 1; whnf); split) | ((with_reducible conv => arg 2; arg 1; arg 1; whnf); split) | with_reducible refine State.Keeps.eq2 (by with_reducible assumption) ?_ | with_reducible refine State.Keeps.eq22 (by with_reducible assumption) ?_ | with_reducible refine State.Keeps.eq222 (by with_reducible assumption) ?_ | with_reducible refine State.Keeps.eq1 (by with_reducible assumption) ?_ | with_reducible apply State.Keeps.mk_)

theorem State.anchorsFixed_keeps (b0 : State) (s : State) (g q idx : Nat) (b : List Byte) (h0 : b0.Keeps s) : b0.Keeps (State.anchorsFixed s g q idx b) := by
  unfold State.anchorsFixed
  repeat' (first | with_reducible assumption | intro _ _ _ | intro _ | with_reducible apply State.extWrite_keeps | with_reducible apply State.colSend_keeps | with_reducible apply State.updChunk_keeps | with_reducible apply State.addOwn_keeps | with_reducible apply State.Keeps.foldl | with_reducible apply State.Keeps.foldl2 | with_reducible apply State.Keeps.foldl22 | with_reducible apply State.Keeps.foldl222 | with_reducible apply State.Keeps.foldl1 | split | ((with_reducible conv => arg 2; whnf); split) | ((with_reducible conv => arg 2; arg 1; whnf); split) | ((with_reducible conv => arg 2; arg 1; arg 1; whnf); split) | with_reducible refine State.Keeps.eq2 (by with_reducible assumption) ?_ | with_reducible refine State.Keeps.eq22 (by with_reducible assumption) ?_ | with_reducible refine State.Keeps.eq222 (by with_reducible assumption) ?_ | with_reducible refine State.Keeps.eq1 (by with_reducible assumption) ?_ | with_reducible apply State.Keeps.mk_)

theorem State.chunkStep_keeps (b0 : State) (s : State) (g q idx : Nat) (x0 : Nat) (h0 : b0.Keeps s) : b0.Keeps (State.chunkStep s g q idx x0) := by
  induction x0 generalizing s with
  | zero =>
    unfold State.chunkStep
    repeat' (first | with_reducible assumption | intro _ _ _ | intro _ | with_reducible apply State.updColl_keeps | with_reducible apply State.updChunk_keeps | with_reducible apply State.extWrite_keeps | with_reducible apply State.anchorsFixed_keeps | with_reducible apply State.colSend_keeps | with_reducible apply State.count_keeps | with_reducible apply State.chunkUp_keeps | with_reducible apply State.Keeps.ite | with_reducible apply State.Keeps.ite2 | with_reducible apply State.Keeps.ite22 | with_reducible apply State.Keeps.ite222 | with_reducible apply State.Keeps.ite1 | with_reducible apply State.Keeps.ite21 | with_reducible apply State.Keeps.foldl | with_reducible apply State.Keeps.foldl2 | with_reducible apply State.Keeps.foldl22 | with_reducible apply State.Keeps.foldl222 | with_reducible apply State.Keeps.foldl1 | split | ((with_reducible conv => arg 2; whnf); split) | ((with_reducible conv => arg 2; arg 1; whnf); split) | ((with_reducible conv => arg 2; arg 1; arg 1; whnf); split) | with_reducible refine State.Keeps.eq2 (by with_reducible assumption) ?_ | with_reducible refine State.Keeps.eq22 (by with_reducible assumption) ?_ | with_reducible refine State.Keeps.eq222 (by with_reducible assumption) ?_ | with_reducible refine State.Keeps.eq1 (by with_reducible assumption) ?_ | with_reducible apply State.Keeps.mk_)
  | succ k ih =>
    unfold State.chunkStep
    repeat' (first | with_reducible apply ih | with_reducible assumption | intro _ _ _ | intro _ | with_reducible apply State.updColl_keeps | with_reducible apply State.updChunk_keeps | with_reducible apply State.extWrite_keeps | with_reducible apply State.anchorsFixed_keeps | with_reducible apply State.colSend_keeps | with_reducible apply State.count_keeps | with_reducible apply State.chunkUp_keeps | with_reducible apply State.Keeps.ite | with_reducible apply State.Keeps.ite2 | with_reducible apply State.Keeps.ite22 | with_reducible apply State.Keeps.ite222 | with_reducible apply State.Keeps.ite1 | with_reducible apply State.Keeps.ite21 | with_reducible apply State.Keeps.foldl | with_reducible apply State.Keeps.foldl2 | with_reducible apply State.Keeps.foldl22 | with_reducible apply State.Keeps.foldl222 | with_reducible apply State.Keeps.foldl1 | split | ((with_reducible conv => arg 2; whnf); split) | ((with_reducible conv => arg 2; arg 1; whnf); split) | ((with_reducible conv => arg 2; arg 1; arg 1; whnf); split) | with_reducible refine State.Keeps.eq2 (by with_reducible assumption) ?_ | with_reducible refine State.Keeps.eq22 (by with_reducible assumption) ?_ | with_reducible refine State.Keeps.eq222 (by with_reducible assumption) ?_ | with_reducible refine State.Keeps.eq1 (by with_reducible assumption) ?_ | with_reducible apply State.Keeps.mk_)

theorem State.bulkStep_keeps (b0 : State) (s : State) (g q : Nat) (x0 : Nat) (h0 : b0.Keeps s) : b0.Keeps (State.bulkStep s g q x0) := by
  induction x0 generalizing s with
  | zero =>
    unfold State.bulkStep
    repeat' (first | with_reducible assumption | intro _ _ _ | intro _ | with_reducible apply State.count_keeps | with_reducible apply State.satF_keeps | with_reducible apply State.hwSet_keeps | with_reducible apply State.raise_keeps | with_reducible apply State.updColl_keeps | with_reducible apply State.updOp_keeps | with_reducible apply State.reStatus_keeps | with_reducible apply State.addOwn_keeps | with_reducible apply State.updChunk_keeps | with_reducible apply State.chunkUp_keeps | with_reducible apply State.chunkStep_keeps | with_reducible apply State.Keeps.ite | with_reducible apply State.Keeps.ite2 | with_reducible apply State.Keeps.ite22 | with_reducible apply State.Keeps.ite222 | with_reducible apply State.Keeps.ite1 | with_reducible apply State.Keeps.ite21 | split | ((with_reducible conv => arg 2; whnf); split) | ((with_reducible conv => arg 2; arg 1; whnf); split) | ((with_reducible conv => arg 2; arg 1; arg 1; whnf); split) | with_reducible refine State.Keeps.eq2 (by with_reducible assumption) ?_ | with_reducible refine State.Keeps.eq22 (by with_reducible assumption) ?_ | with_reducible refine State.Keeps.eq222 (by with_reducible assumption) ?_ | with_reducible refine State.Keeps.eq1 (by with_reducible assumption) ?_ | with_reducible apply State.Keeps.mk_)
  | succ k ih =>
    unfold State.bulkStep
    repeat' (first | with_reducible apply ih | with_reducible assumption | intro _ _ _ | intro _ | with_reducible apply State.count_keeps | with_reducible apply State.satF_keeps | with_reducible apply State.hwSet_keeps | with_reducible apply State.raise_keeps | with_reducible apply State.updColl_keeps | with_reducible apply State.updOp_keeps | with_reducible apply State.reStatus_keeps | with_reducible apply State.addOwn_keeps | with_reducible apply State.updChunk_keeps | with_reducible apply State.chunkUp_keeps | with_reducible apply State.chunkStep_keeps | with_reducible apply State.Keeps.ite | with_reducible apply State.Keeps.ite2 | with_reducible apply State.Keeps.ite22 | with_reducible apply State.Keeps.ite222 | with_reducible apply State.Keeps.ite1 | with_reducible apply State.Keeps.ite21 | split | ((with_reducible conv => arg 2; whnf); split) | ((with_reducible conv => arg 2; arg 1; whnf); split) | ((with_reducible conv => arg 2; arg 1; arg 1; whnf); split) | with_reducible refine State.Keeps.eq2 (by with_reducible assumption) ?_ | with_reducible refine State.Keeps.eq22 (by with_reducible assumption) ?_ | with_reducible refine State.Keeps.eq222 (by with_reducible assumption) ?_ | with_reducible refine State.Keeps.eq1 (by with_reducible assumption) ?_ | with_reducible apply State.Keeps.mk_)

theorem State.groupStep_keeps (b0 : State) (s : State) (g : Nat) (h0 : b0.Keeps s) : b0.Keeps (State.groupStep s g) := by
  unfold State.groupStep
  repeat' (first | with_reducible assumption | intro _ _ _ | intro _ | with_reducible apply State.chunkStep_keeps | with_reducible apply State.chunkUp_keeps | with_reducible apply State.bulkStep_keeps | with_reducible apply State.count_keeps | with_reducible apply State.Keeps.foldl | with_reducible apply State.Keeps.foldl2 | with_reducible apply State.Keeps.foldl22 | with_reducible apply State.Keeps.foldl222 | with_reducible apply State.Keeps.foldl1 | split | ((with_reducible conv => arg 2; whnf); split))

theorem State.bcastCrc_keeps (b0 : State) (s : State) (o : CollOp) (h0 : b0.Keeps s) : b0.Keeps (State.bcastCrc s o).2 := by
  unfold State.bcastCrc
  repeat' (first | with_reducible assumption | intro _ _ _ | intro _ | with_reducible apply State.setF_keeps | split | ((with_reducible conv => arg 2; whnf); split) | ((with_reducible conv => arg 2; arg 1; whnf); split) | ((with_reducible conv => arg 2; arg 1; arg 1; whnf); split) | with_reducible apply State.Keeps.pair2 | with_reducible apply State.Keeps.pair22 | with_reducible apply State.Keeps.pair222 | with_reducible apply State.Keeps.mk_)

theorem State.bcastLost_keeps (b0 : State) (s : State) (g q child : Nat) (h0 : b0.Keeps s) : b0.Keeps (State.bcastLost s g q child) := by
  unfold State.bcastLost
  repeat' (first | with_reducible assumption | intro _ _ _ | intro _ | with_reducible apply State.updOp_keeps | with_reducible apply State.raise_keeps | with_reducible apply State.Keeps.ite | with_reducible apply State.Keeps.ite2 | with_reducible apply State.Keeps.ite22 | with_reducible apply State.Keeps.ite222 | with_reducible apply State.Keeps.ite1 | with_reducible apply State.Keeps.ite21 | split | ((with_reducible conv => arg 2; whnf); split) | ((with_reducible conv => arg 2; arg 1; whnf); split) | ((with_reducible conv => arg 2; arg 1; arg 1; whnf); split) | with_reducible refine State.Keeps.eq2 (by with_reducible assumption) ?_ | with_reducible refine State.Keeps.eq22 (by with_reducible assumption) ?_ | with_reducible refine State.Keeps.eq222 (by with_reducible assumption) ?_ | with_reducible refine State.Keeps.eq1 (by with_reducible assumption) ?_ | with_reducible apply State.Keeps.mk_)

theorem State.sendBcastAck_keeps (b0 : State) (s : State) (o : CollOp) (h0 : b0.Keeps s) : b0.Keeps (State.sendBcastAck s o) := by
  unfold State.sendBcastAck
  repeat' (first | with_reducible assumption | with_reducible apply State.bcastCrc_keeps | with_reducible apply State.colSend_keeps)

theorem State.bcastStep_keeps (b0 : State) (s : State) (g q : Nat) (h0 : b0.Keeps s) : b0.Keeps (State.bcastStep s g q) := by
  unfold State.bcastStep
  repeat' (first | with_reducible assumption | intro _ _ _ | intro _ | with_reducible apply State.updOp_keeps | with_reducible apply State.sendBcastAck_keeps | with_reducible apply State.Keeps.ite | with_reducible apply State.Keeps.ite2 | with_reducible apply State.Keeps.ite22 | with_reducible apply State.Keeps.ite222 | with_reducible apply State.Keeps.ite1 | with_reducible apply State.Keeps.ite21 | split | ((with_reducible conv => arg 2; whnf); split) | ((with_reducible conv => arg 2; arg 1; whnf); split) | ((with_reducible conv => arg 2; arg 1; arg 1; whnf); split) | with_reducible refine State.Keeps.eq2 (by with_reducible assumption) ?_ | with_reducible refine State.Keeps.eq22 (by with_reducible assumption) ?_ | with_reducible refine State.Keeps.eq222 (by with_reducible assumption) ?_ | with_reducible refine State.Keeps.eq1 (by with_reducible assumption) ?_ | with_reducible apply State.Keeps.mk_)

theorem State.stagePacket_keeps (b0 : State) (s : State) (g : Nat) (gr : Group) (a : Nat) (b : List Byte) (h0 : b0.Keeps s) : b0.Keeps (State.stagePacket s g gr a b).2 := by
  unfold State.stagePacket
  repeat' (first | with_reducible assumption | intro _ _ _ | intro _ | with_reducible apply State.extWrite_keeps | with_reducible apply State.updColl_keeps | with_reducible apply State.Keeps.ite | with_reducible apply State.Keeps.ite2 | with_reducible apply State.Keeps.ite22 | with_reducible apply State.Keeps.ite222 | with_reducible apply State.Keeps.ite1 | with_reducible apply State.Keeps.ite21 | split | ((with_reducible conv => arg 2; whnf); split) | ((with_reducible conv => arg 2; arg 1; whnf); split) | ((with_reducible conv => arg 2; arg 1; arg 1; whnf); split) | with_reducible refine State.Keeps.eq2 (by with_reducible assumption) ?_ | with_reducible refine State.Keeps.eq22 (by with_reducible assumption) ?_ | with_reducible refine State.Keeps.eq222 (by with_reducible assumption) ?_ | with_reducible refine State.Keeps.eq1 (by with_reducible assumption) ?_ | with_reducible apply State.Keeps.pair2 | with_reducible apply State.Keeps.pair22 | with_reducible apply State.Keeps.pair222 | with_reducible apply State.Keeps.mk_)

theorem State.stageDone_keeps (b0 : State) (s : State) (g : Nat) (gr : Group) (a : Nat) (h0 : b0.Keeps s) : b0.Keeps (State.stageDone s g gr a) := by
  unfold State.stageDone
  repeat' (first | with_reducible assumption | intro _ _ _ | intro _ | with_reducible apply State.updColl_keeps | with_reducible apply State.groupStep_keeps | with_reducible apply State.Keeps.ite | split | ((with_reducible conv => arg 2; whnf); split) | with_reducible apply State.Keeps.mk_)

theorem State.anchorsIn_keeps (b0 : State) (s : State) (g : Nat) (gr : Group) (a : Nat) (b : List Byte) (h0 : b0.Keeps s) : b0.Keeps (State.anchorsIn s g gr a b) := by
  unfold State.anchorsIn
  repeat' (first | with_reducible assumption | intro _ _ _ | intro _ | with_reducible apply State.anchorsFixed_keeps | with_reducible apply State.groupStep_keeps | with_reducible apply State.Keeps.ite | split | ((with_reducible conv => arg 2; whnf); split) | with_reducible refine State.Keeps.eq2 (by with_reducible assumption) ?_ | with_reducible refine State.Keeps.eq22 (by with_reducible assumption) ?_ | with_reducible refine State.Keeps.eq222 (by with_reducible assumption) ?_ | with_reducible refine State.Keeps.eq1 (by with_reducible assumption) ?_)

theorem State.downDone_keeps (b0 : State) (s : State) (g src a n : Nat) (h0 : b0.Keeps s) : b0.Keeps (State.downDone s g src a n) := by
  unfold State.downDone
  repeat' (first | with_reducible assumption | intro _ _ _ | intro _ | with_reducible apply State.updOp_keeps | with_reducible apply State.colSend_keeps | with_reducible apply State.updChunk_keeps | with_reducible apply State.noteResult_keeps | with_reducible apply State.bcastStep_keeps | with_reducible apply State.sendBcastAck_keeps | with_reducible apply State.updColl_keeps | with_reducible apply State.Keeps.ite | with_reducible apply State.Keeps.foldl | with_reducible apply State.Keeps.foldl2 | with_reducible apply State.Keeps.foldl22 | with_reducible apply State.Keeps.foldl222 | with_reducible apply State.Keeps.foldl1 | split | ((with_reducible conv => arg 2; whnf); split) | with_reducible refine State.Keeps.eq2 (by with_reducible assumption) ?_ | with_reducible refine State.Keeps.eq22 (by with_reducible assumption) ?_ | with_reducible refine State.Keeps.eq222 (by with_reducible assumption) ?_ | with_reducible refine State.Keeps.eq1 (by with_reducible assumption) ?_ | with_reducible apply State.Keeps.mk_)

theorem State.takeDowns_keeps (b0 : State) (s : State) (g : Nat) (h0 : b0.Keeps s) : b0.Keeps (State.takeDowns s g) := by
  unfold State.takeDowns
  repeat' (first | with_reducible assumption | intro _ _ _ | intro _ | with_reducible apply State.downDone_keeps | with_reducible apply State.updColl_keeps | with_reducible apply State.Keeps.foldl | with_reducible apply State.Keeps.foldl2 | with_reducible apply State.Keeps.foldl22 | with_reducible apply State.Keeps.foldl222 | with_reducible apply State.Keeps.foldl1 | split | ((with_reducible conv => arg 2; whnf); split) | ((with_reducible conv => arg 2; arg 1; whnf); split) | ((with_reducible conv => arg 2; arg 1; arg 1; whnf); split) | with_reducible apply State.Keeps.mk_)

theorem State.startOp_keeps (b0 : State) (s : State) (k op : Nat) (run : Nat → Nat → State → State) (h0 : b0.Keeps s) (hrun : ∀ y0 y1 u, b0.Keeps u → b0.Keeps (run y0 y1 u)) : b0.Keeps (State.startOp s k op run) := by
  unfold State.startOp
  repeat' (first | with_reducible assumption | intro _ _ _ | intro _ | with_reducible apply State.updOp_keeps | with_reducible apply hrun | split | ((with_reducible conv => arg 2; whnf); split) | with_reducible refine State.Keeps.eq2 (by with_reducible assumption) ?_ | with_reducible refine State.Keeps.eq22 (by with_reducible assumption) ?_ | with_reducible refine State.Keeps.eq222 (by with_reducible assumption) ?_ | with_reducible refine State.Keeps.eq1 (by with_reducible assumption) ?_ | with_reducible apply State.Keeps.mk_)

theorem bulkStart_keeps (b0 : State) (g q : Nat) (s : State) (h0 : b0.Keeps s) : b0.Keeps (bulkStart g q s) := by
  unfold bulkStart
  repeat' (first | with_reducible assumption | with_reducible apply State.noteResult_keeps | with_reducible apply State.bulkStep_keeps | with_reducible apply State.count_keeps | with_reducible apply State.takeDowns_keeps | with_reducible apply State.bcastStep_keeps | split | ((with_reducible conv => arg 2; whnf); split) | with_reducible refine State.Keeps.eq2 (by with_reducible assumption) ?_ | with_reducible refine State.Keeps.eq22 (by with_reducible assumption) ?_ | with_reducible refine State.Keeps.eq222 (by with_reducible assumption) ?_ | with_reducible refine State.Keeps.eq1 (by with_reducible assumption) ?_)

theorem doBarrier_keeps (b0 : State) (k : Nat) (s : State) (h0 : b0.Keeps s) : b0.Keeps (doBarrier k s) := by
  unfold doBarrier
  repeat' (first | with_reducible assumption | intro _ _ _ | intro _ | with_reducible apply State.startOp_keeps | with_reducible apply State.scalarStep_keeps | split | ((with_reducible conv => arg 2; whnf); split))

theorem execBarrier_keeps (b0 : State) (ctx : Fin 8) (s : State) (h0 : b0.Keeps s) : b0.KeepsOut (execBarrier ctx s) := by
  unfold execBarrier
  repeat' (first | with_reducible assumption | intro _ _ _ | intro _ | with_reducible apply State.orWait_keeps | with_reducible apply doBarrier_keeps | with_reducible apply State.Keeps.next | with_reducible apply State.Keeps.mk_)

theorem doScalar_keeps (b0 : State) (k : Nat) (s : State) (h0 : b0.Keeps s) : b0.Keeps (doScalar k s) := by
  unfold doScalar
  repeat' (first | with_reducible assumption | intro _ _ _ | intro _ | with_reducible apply State.startOp_keeps | with_reducible apply State.scalarStep_keeps | split | ((with_reducible conv => arg 2; whnf); split))

theorem execScalar_keeps (b0 : State) (ctx : Fin 8) (s : State) (h0 : b0.Keeps s) : b0.KeepsOut (execScalar ctx s) := by
  unfold execScalar
  repeat' (first | with_reducible assumption | intro _ _ _ | intro _ | with_reducible apply State.orWait_keeps | with_reducible apply doScalar_keeps | with_reducible apply State.Keeps.next | with_reducible apply State.Keeps.mk_)

theorem doAllreduce_keeps (b0 : State) (k : Nat) (s : State) (h0 : b0.Keeps s) : b0.Keeps (doAllreduce k s) := by
  unfold doAllreduce
  repeat' (first | with_reducible assumption | with_reducible apply State.startOp_keeps | with_reducible apply bulkStart_keeps)

theorem execAllreduce_keeps (b0 : State) (ctx : Fin 8) (s : State) (h0 : b0.Keeps s) : b0.KeepsOut (execAllreduce ctx s) := by
  unfold execAllreduce
  repeat' (first | with_reducible assumption | intro _ _ _ | intro _ | with_reducible apply State.orWait_keeps | with_reducible apply doAllreduce_keeps | with_reducible apply State.Keeps.next | with_reducible apply State.Keeps.mk_)

theorem doReduceScatter_keeps (b0 : State) (k : Nat) (s : State) (h0 : b0.Keeps s) : b0.Keeps (doReduceScatter k s) := by
  unfold doReduceScatter
  repeat' (first | with_reducible assumption | with_reducible apply State.startOp_keeps | with_reducible apply bulkStart_keeps)

theorem execReduceScatter_keeps (b0 : State) (ctx : Fin 8) (s : State) (h0 : b0.Keeps s) : b0.KeepsOut (execReduceScatter ctx s) := by
  unfold execReduceScatter
  repeat' (first | with_reducible assumption | intro _ _ _ | intro _ | with_reducible apply State.orWait_keeps | with_reducible apply doReduceScatter_keeps | with_reducible apply State.Keeps.next | with_reducible apply State.Keeps.mk_)

theorem doAllgather_keeps (b0 : State) (k : Nat) (s : State) (h0 : b0.Keeps s) : b0.Keeps (doAllgather k s) := by
  unfold doAllgather
  repeat' (first | with_reducible assumption | with_reducible apply State.startOp_keeps | with_reducible apply bulkStart_keeps)

theorem execAllgather_keeps (b0 : State) (ctx : Fin 8) (s : State) (h0 : b0.Keeps s) : b0.KeepsOut (execAllgather ctx s) := by
  unfold execAllgather
  repeat' (first | with_reducible assumption | intro _ _ _ | intro _ | with_reducible apply State.orWait_keeps | with_reducible apply doAllgather_keeps | with_reducible apply State.Keeps.next | with_reducible apply State.Keeps.mk_)

theorem doBroadcast_keeps (b0 : State) (k : Nat) (s : State) (h0 : b0.Keeps s) : b0.Keeps (doBroadcast k s) := by
  unfold doBroadcast
  repeat' (first | with_reducible assumption | with_reducible apply State.startOp_keeps | with_reducible apply bulkStart_keeps)

theorem execBroadcast_keeps (b0 : State) (ctx : Fin 8) (s : State) (h0 : b0.Keeps s) : b0.KeepsOut (execBroadcast ctx s) := by
  unfold execBroadcast
  repeat' (first | with_reducible assumption | intro _ _ _ | intro _ | with_reducible apply State.orWait_keeps | with_reducible apply doBroadcast_keeps | with_reducible apply State.Keeps.next | with_reducible apply State.Keeps.mk_)

theorem doRepairBcast_keeps (b0 : State) (k : Nat) (s : State) (h0 : b0.Keeps s) : b0.Keeps (doRepairBcast k s) := by
  unfold doRepairBcast
  repeat' (first | with_reducible assumption | intro _ _ _ | intro _ | with_reducible apply State.startOp_keeps | with_reducible apply State.extRead_keeps | with_reducible apply State.failOp_keeps | with_reducible apply bulkStart_keeps | with_reducible apply State.updOp_keeps | with_reducible apply State.Keeps.ite | with_reducible apply State.Keeps.ite2 | with_reducible apply State.Keeps.ite22 | with_reducible apply State.Keeps.ite222 | with_reducible apply State.Keeps.ite1 | with_reducible apply State.Keeps.ite21 | split | ((with_reducible conv => arg 2; whnf); split) | ((with_reducible conv => arg 2; arg 1; whnf); split) | ((with_reducible conv => arg 2; arg 1; arg 1; whnf); split) | with_reducible refine State.Keeps.eq2 (by with_reducible assumption) ?_ | with_reducible refine State.Keeps.eq22 (by with_reducible assumption) ?_ | with_reducible refine State.Keeps.eq222 (by with_reducible assumption) ?_ | with_reducible refine State.Keeps.eq1 (by with_reducible assumption) ?_ | with_reducible apply State.Keeps.mk_)

theorem execRepairBcast_keeps (b0 : State) (ctx : Fin 8) (s : State) (h0 : b0.Keeps s) : b0.KeepsOut (execRepairBcast ctx s) := by
  unfold execRepairBcast
  repeat' (first | with_reducible assumption | intro _ _ _ | intro _ | with_reducible apply State.orWait_keeps | with_reducible apply doRepairBcast_keeps | with_reducible apply State.Keeps.next | with_reducible apply State.Keeps.mk_)

theorem State.colAcked_keeps (b0 : State) (s : State) (g q dst tag : Nat) (h0 : b0.Keeps s) : b0.Keeps (State.colAcked s g q dst tag) := by
  unfold State.colAcked
  split
  · exact State.updOp_keeps _ _ _ _ _ h0
  · split
    · exact State.groupStep_keeps _ _ _ (State.updChunk_keeps _ _ _ _ _ _ (State.freeChunkSlot_keeps _ _ _ _ _ h0))
    · exact h0

theorem State.colNacked_keeps (b0 : State) (s : State) (g q dst tag : Nat) (h0 : b0.Keeps s) : b0.Keeps (State.colNacked s g q dst tag) := by
  unfold State.colNacked
  repeat' (first | with_reducible assumption | intro _ _ _ | intro _ | with_reducible apply State.bcastLost_keeps | with_reducible apply State.bcastStep_keeps | with_reducible apply State.failOp_keeps | with_reducible apply State.updOp_keeps | with_reducible apply State.Keeps.ite | split | ((with_reducible conv => arg 2; whnf); split) | with_reducible refine State.Keeps.eq2 (by with_reducible assumption) ?_ | with_reducible refine State.Keeps.eq22 (by with_reducible assumption) ?_ | with_reducible refine State.Keeps.eq222 (by with_reducible assumption) ?_ | with_reducible refine State.Keeps.eq1 (by with_reducible assumption) ?_ | with_reducible apply State.Keeps.mk_)

theorem doBcastChildTimeout_keeps (b0 : State) (g q child : Nat) (s : State) (h0 : b0.Keeps s) : b0.Keeps (doBcastChildTimeout g q child s) := by
  unfold doBcastChildTimeout
  repeat' (first | with_reducible assumption | with_reducible apply State.toNs_keeps | with_reducible apply State.bcastLost_keeps | with_reducible apply State.bcastStep_keeps | with_reducible apply State.Keeps.ite | split | ((with_reducible conv => arg 2; whnf); split) | with_reducible refine State.Keeps.eq2 (by with_reducible assumption) ?_ | with_reducible refine State.Keeps.eq22 (by with_reducible assumption) ?_ | with_reducible refine State.Keeps.eq222 (by with_reducible assumption) ?_ | with_reducible refine State.Keeps.eq1 (by with_reducible assumption) ?_)

theorem execBcastChildTimeout_keeps (b0 : State) (group gseq child : Nat) (s : State) (h0 : b0.Keeps s) : b0.KeepsOut (execBcastChildTimeout group gseq child s) := by
  unfold execBcastChildTimeout
  repeat' (first | with_reducible assumption | with_reducible apply doBcastChildTimeout_keeps | with_reducible apply State.Keeps.next)

theorem State.opStatus_keeps (b0 : State) (s : State) (o : CollOp) (h0 : b0.Keeps s) : b0.Keeps (State.opStatus s o).2 := by
  unfold State.opStatus
  repeat' (first | with_reducible assumption | intro _ _ _ | intro _ | with_reducible apply State.extWrite_keeps | with_reducible apply State.raise_keeps | with_reducible apply State.Keeps.ite | with_reducible apply State.Keeps.ite2 | with_reducible apply State.Keeps.ite22 | with_reducible apply State.Keeps.ite222 | with_reducible apply State.Keeps.ite1 | with_reducible apply State.Keeps.ite21 | split | ((with_reducible conv => arg 2; whnf); split) | ((with_reducible conv => arg 2; arg 1; whnf); split) | ((with_reducible conv => arg 2; arg 1; arg 1; whnf); split) | with_reducible refine State.Keeps.eq2 (by with_reducible assumption) ?_ | with_reducible refine State.Keeps.eq22 (by with_reducible assumption) ?_ | with_reducible refine State.Keeps.eq222 (by with_reducible assumption) ?_ | with_reducible refine State.Keeps.eq1 (by with_reducible assumption) ?_ | with_reducible apply State.Keeps.pair2 | with_reducible apply State.Keeps.pair22 | with_reducible apply State.Keeps.pair222 | with_reducible apply State.Keeps.mk_)

theorem State.grpCompleted_keeps (b0 : State) (s : State) (g : Nat) (h0 : b0.Keeps s) : b0.Keeps (State.grpCompleted s g) := by
  unfold State.grpCompleted
  repeat' (first | with_reducible assumption | intro _ _ _ | intro _ | with_reducible apply State.setF_keeps | with_reducible apply State.Keeps.foldl | with_reducible apply State.Keeps.foldl2 | with_reducible apply State.Keeps.foldl22 | with_reducible apply State.Keeps.foldl222 | with_reducible apply State.Keeps.foldl1 | split | ((with_reducible conv => arg 2; whnf); split))

theorem doCollectiveComplete_keeps (b0 : State) (g q : Nat) (s : State) (h0 : b0.Keeps s) : b0.Keeps (doCollectiveComplete g q s) := by
  unfold doCollectiveComplete
  repeat' (first | with_reducible assumption | intro _ _ _ | intro _ | with_reducible apply State.opStatus_keeps | with_reducible apply State.raise_keeps | with_reducible apply State.updColl_keeps | with_reducible apply State.reStatus_keeps | with_reducible apply State.grpCompleted_keeps | with_reducible apply State.recComplete_keeps | with_reducible apply State.settleTots_keeps | with_reducible apply State.acceptHeld_keeps | with_reducible apply State.Keeps.ite | with_reducible apply State.Keeps.ite2 | with_reducible apply State.Keeps.ite22 | with_reducible apply State.Keeps.ite222 | with_reducible apply State.Keeps.ite1 | with_reducible apply State.Keeps.ite21 | split | ((with_reducible conv => arg 2; whnf); split) | ((with_reducible conv => arg 2; arg 1; whnf); split) | ((with_reducible conv => arg 2; arg 1; arg 1; whnf); split) | with_reducible refine State.Keeps.eq2 (by with_reducible assumption) ?_ | with_reducible refine State.Keeps.eq22 (by with_reducible assumption) ?_ | with_reducible refine State.Keeps.eq222 (by with_reducible assumption) ?_ | with_reducible refine State.Keeps.eq1 (by with_reducible assumption) ?_ | with_reducible apply State.Keeps.mk_)

theorem execCollectiveComplete_keeps (b0 : State) (group gseq : Nat) (s : State) (h0 : b0.Keeps s) : b0.KeepsOut (execCollectiveComplete group gseq s) := by
  unfold execCollectiveComplete
  repeat' (first | with_reducible assumption | intro _ _ _ | intro _ | with_reducible apply State.orWait_keeps | with_reducible apply doCollectiveComplete_keeps | with_reducible apply State.Keeps.next | with_reducible apply State.Keeps.mk_)

theorem doReSlotSpare_keeps (b0 : State) (bulk : Bool) (n : Nat) (s : State) (h0 : b0.Keeps s) : b0.Keeps (doReSlotSpare bulk n s) := by
  unfold doReSlotSpare
  repeat' (first | with_reducible assumption | intro _ _ _ | intro _ | with_reducible apply State.failOp_keeps | with_reducible apply State.updOp_keeps | with_reducible apply State.updColl_keeps | with_reducible apply State.raise_keeps | with_reducible apply State.dirty_keeps | with_reducible apply State.Keeps.ite | with_reducible apply State.Keeps.ite2 | with_reducible apply State.Keeps.ite22 | with_reducible apply State.Keeps.ite222 | with_reducible apply State.Keeps.ite1 | with_reducible apply State.Keeps.ite21 | split | ((with_reducible conv => arg 2; whnf); split) | ((with_reducible conv => arg 2; arg 1; whnf); split) | ((with_reducible conv => arg 2; arg 1; arg 1; whnf); split) | with_reducible refine State.Keeps.eq2 (by with_reducible assumption) ?_ | with_reducible refine State.Keeps.eq22 (by with_reducible assumption) ?_ | with_reducible refine State.Keeps.eq222 (by with_reducible assumption) ?_ | with_reducible refine State.Keeps.eq1 (by with_reducible assumption) ?_ | with_reducible apply State.Keeps.mk_)

theorem execReSlotSpare_keeps (b0 : State) (bulk : Bool) (slot : Nat) (s : State) (h0 : b0.Keeps s) : b0.KeepsOut (execReSlotSpare bulk slot s) := by
  unfold execReSlotSpare
  repeat' (first | with_reducible assumption | with_reducible apply doReSlotSpare_keeps | with_reducible apply State.Keeps.next)

end Sys2Proof.Machine
end

