-- ==== Sys2Proof/Laws/KeepsCores.lean ====
section
/-! SUPPORT. What every operation of Machine/Cores.lean keeps: the queue, the part, and the canonical forms. -/
namespace Sys2Proof.Machine

set_option linter.all false
set_option Elab.async false

theorem State.updCore_keeps (b0 : State) (s : State) (c : Nat) (f : Core → Core) (h0 : b0.Keeps s) : b0.Keeps (State.updCore s c f) :=
  State.Keeps.cores h0 _ (List.length_set ..)

theorem doCoreLoad_keeps (b0 : State) (v : Nat) (s : State) (h0 : b0.Keeps s) : b0.Keeps (doCoreLoad v s) := by
  unfold doCoreLoad
  repeat' (first | with_reducible assumption | with_reducible apply State.seqLoad_keeps)

theorem execCoreLoad_keeps (b0 : State) (val : Word) (s : State) (h0 : b0.Keeps s) : b0.KeepsOut (execCoreLoad val s) := by
  unfold execCoreLoad
  repeat' (first | with_reducible assumption | with_reducible apply doCoreLoad_keeps | with_reducible apply State.Keeps.next)

theorem doCoreLoadDone_keeps (b0 : State) (s : State) (h0 : b0.Keeps s) : b0.Keeps (doCoreLoadDone s) := by
  unfold doCoreLoadDone
  repeat' (first | with_reducible assumption | intro _ _ _ | intro _ | with_reducible apply State.extRead_keeps | with_reducible apply State.seqLoaded_keeps | with_reducible apply State.Keeps.ite | with_reducible apply State.Keeps.ite2 | with_reducible apply State.Keeps.ite22 | with_reducible apply State.Keeps.ite222 | with_reducible apply State.Keeps.ite1 | with_reducible apply State.Keeps.ite21 | split | ((with_reducible conv => arg 2; whnf); split) | ((with_reducible conv => arg 2; arg 1; whnf); split) | ((with_reducible conv => arg 2; arg 1; arg 1; whnf); split) | with_reducible refine State.Keeps.eq2 (by with_reducible assumption) ?_ | with_reducible refine State.Keeps.eq22 (by with_reducible assumption) ?_ | with_reducible refine State.Keeps.eq222 (by with_reducible assumption) ?_ | with_reducible refine State.Keeps.eq1 (by with_reducible assumption) ?_ | with_reducible apply State.Keeps.mk_)

theorem execCoreLoadDone_keeps (b0 : State) (s : State) (h0 : b0.Keeps s) : b0.KeepsOut (execCoreLoadDone s) := by
  unfold execCoreLoadDone
  repeat' (first | with_reducible assumption | with_reducible apply doCoreLoadDone_keeps | with_reducible apply State.Keeps.next)

theorem State.coreFault_keeps (b0 : State) (s : State) (c code : Nat) (h0 : b0.Keeps s) : b0.Keeps (State.coreFault s c code) := by
  unfold State.coreFault
  repeat' (first | with_reducible assumption | intro _ _ _ | intro _ | with_reducible apply State.setFs_keeps | with_reducible apply State.hwSet_keeps | with_reducible apply State.updSeq_keeps | with_reducible apply State.updSeqRun_keeps | with_reducible apply State.seqFault_keeps | with_reducible apply State.Keeps.ite | with_reducible apply State.Keeps.ite2 | with_reducible apply State.Keeps.ite22 | with_reducible apply State.Keeps.ite222 | with_reducible apply State.Keeps.ite1 | with_reducible apply State.Keeps.ite21 | split | ((with_reducible conv => arg 2; whnf); split) | ((with_reducible conv => arg 2; arg 1; whnf); split) | ((with_reducible conv => arg 2; arg 1; arg 1; whnf); split) | with_reducible refine State.Keeps.eq2 (by with_reducible assumption) ?_ | with_reducible refine State.Keeps.eq22 (by with_reducible assumption) ?_ | with_reducible refine State.Keeps.eq222 (by with_reducible assumption) ?_ | with_reducible refine State.Keeps.eq1 (by with_reducible assumption) ?_ | with_reducible apply State.Keeps.mk_)

theorem State.pinBreak_keeps (b0 : State) (s : State) (c cause : Nat) (h0 : b0.Keeps s) : b0.Keeps (State.pinBreak s c cause) := by
  unfold State.pinBreak
  repeat' (first | with_reducible assumption | intro _ _ _ | intro _ | with_reducible apply State.updCore_keeps | with_reducible apply State.hwSets_keeps | with_reducible apply State.raise_keeps | with_reducible apply State.count_keeps | with_reducible apply State.Keeps.ite | with_reducible apply State.Keeps.ite2 | with_reducible apply State.Keeps.ite22 | with_reducible apply State.Keeps.ite222 | with_reducible apply State.Keeps.ite1 | with_reducible apply State.Keeps.ite21 | split | ((with_reducible conv => arg 2; whnf); split) | ((with_reducible conv => arg 2; arg 1; whnf); split) | ((with_reducible conv => arg 2; arg 1; arg 1; whnf); split) | with_reducible apply State.Keeps.mk_)

theorem State.losePart_keeps (b0 : State) (s : State) (c : Nat) (h0 : b0.Keeps s) : b0.Keeps (State.losePart s c) := by
  unfold State.losePart
  repeat' (first | with_reducible assumption | intro _ _ _ | intro _ | with_reducible apply State.updCore_keeps | with_reducible apply State.setFs_keeps | with_reducible apply State.updSeq_keeps | with_reducible apply State.Keeps.ite | with_reducible apply State.Keeps.ite2 | with_reducible apply State.Keeps.ite22 | with_reducible apply State.Keeps.ite222 | with_reducible apply State.Keeps.ite1 | with_reducible apply State.Keeps.ite21 | split | ((with_reducible conv => arg 2; whnf); split) | ((with_reducible conv => arg 2; arg 1; whnf); split) | ((with_reducible conv => arg 2; arg 1; arg 1; whnf); split) | with_reducible refine State.Keeps.eq2 (by with_reducible assumption) ?_ | with_reducible refine State.Keeps.eq22 (by with_reducible assumption) ?_ | with_reducible refine State.Keeps.eq222 (by with_reducible assumption) ?_ | with_reducible refine State.Keeps.eq1 (by with_reducible assumption) ?_ | with_reducible apply State.Keeps.mk_)

theorem State.coreMachineCheck_keeps (b0 : State) (s : State) (c : Nat) (readable : Bool) (h0 : b0.Keeps s) : b0.Keeps (State.coreMachineCheck s c readable) := by
  unfold State.coreMachineCheck
  repeat' (first | with_reducible assumption | intro _ _ _ | intro _ | with_reducible apply State.coreFault_keeps | with_reducible apply State.losePart_keeps | with_reducible apply State.setF_keeps | with_reducible apply State.needSpare_keeps | split | ((with_reducible conv => arg 2; whnf); split) | ((with_reducible conv => arg 2; arg 1; whnf); split) | ((with_reducible conv => arg 2; arg 1; arg 1; whnf); split) | with_reducible apply State.Keeps.mk_)

theorem State.startCore_keeps (b0 : State) (s : State) (i : Nat) (e : TabEntry) (pages : List PageMap) (c : Nat) (h0 : b0.Keeps s) : b0.Keeps (State.startCore s i e pages c) := by
  unfold State.startCore
  repeat' (first | with_reducible assumption | intro _ _ _ | intro _ | with_reducible apply State.updCore_keeps | with_reducible apply State.setFs_keeps | with_reducible apply State.count_keeps | split | ((with_reducible conv => arg 2; whnf); split) | ((with_reducible conv => arg 2; arg 1; whnf); split) | ((with_reducible conv => arg 2; arg 1; arg 1; whnf); split) | with_reducible apply State.Keeps.mk_)

theorem doCoreEntryStart_keeps (b0 : State) (i : Nat) (pages : List PageMap) (s : State) (h0 : b0.Keeps s) : b0.Keeps (doCoreEntryStart i pages s) := by
  unfold doCoreEntryStart
  repeat' (first | with_reducible assumption | intro _ _ _ | intro _ | with_reducible apply State.seqBegin_keeps | with_reducible apply State.toCyc_keeps | with_reducible apply State.seqSlip_keeps | with_reducible apply State.startCore_keeps | with_reducible apply State.updCore_keeps | with_reducible apply State.coreFault_keeps | with_reducible apply State.updSeqRun_keeps | with_reducible apply State.updSeq_keeps | with_reducible apply State.Keeps.ite | with_reducible apply State.Keeps.ite2 | with_reducible apply State.Keeps.ite22 | with_reducible apply State.Keeps.ite222 | with_reducible apply State.Keeps.ite1 | with_reducible apply State.Keeps.ite21 | with_reducible apply State.Keeps.foldl | with_reducible apply State.Keeps.foldl2 | with_reducible apply State.Keeps.foldl22 | with_reducible apply State.Keeps.foldl222 | with_reducible apply State.Keeps.foldl1 | split | ((with_reducible conv => arg 2; whnf); split) | ((with_reducible conv => arg 2; arg 1; whnf); split) | ((with_reducible conv => arg 2; arg 1; arg 1; whnf); split) | with_reducible refine State.Keeps.eq2 (by with_reducible assumption) ?_ | with_reducible refine State.Keeps.eq22 (by with_reducible assumption) ?_ | with_reducible refine State.Keeps.eq222 (by with_reducible assumption) ?_ | with_reducible refine State.Keeps.eq1 (by with_reducible assumption) ?_ | with_reducible apply State.Keeps.mk_)

theorem execCoreEntryStart_keeps (b0 : State) (e : EntryStart) (s : State) (h0 : b0.Keeps s) : b0.KeepsOut (execCoreEntryStart e s) := by
  unfold execCoreEntryStart
  repeat' (first | with_reducible assumption | intro _ _ _ | intro _ | with_reducible apply doCoreEntryStart_keeps | with_reducible apply State.Keeps.next | with_reducible apply State.Keeps.mk_)

theorem State.toCore_keeps (b0 : State) (s : State) (t : Nat) (h0 : b0.Keeps s) : b0.Keeps (State.toCore s t) := by
  unfold State.toCore
  repeat' (first | with_reducible assumption | with_reducible apply State.advanceNs_keeps | with_reducible apply State.Keeps.ite | split | ((with_reducible conv => arg 2; whnf); split))

theorem State.endPart_keeps (b0 : State) (s : State) (c status : Nat) (aborted : Bool) (h0 : b0.Keeps s) : b0.Keeps (State.endPart s c status aborted) := by
  unfold State.endPart
  repeat' (first | with_reducible assumption | intro _ _ _ | intro _ | with_reducible apply State.toCore_keeps | with_reducible apply State.count_keeps | with_reducible apply State.updCore_keeps | with_reducible apply State.setFs_keeps | with_reducible apply State.coreFault_keeps | with_reducible apply State.updSeqRun_keeps | with_reducible apply State.freshNat_keeps | with_reducible apply State.updSeq_keeps | with_reducible apply State.sendDep_keeps | with_reducible apply State.seqDone_keeps | with_reducible apply State.Keeps.ite | with_reducible apply State.Keeps.ite2 | with_reducible apply State.Keeps.ite22 | with_reducible apply State.Keeps.ite222 | with_reducible apply State.Keeps.ite1 | with_reducible apply State.Keeps.ite21 | split | ((with_reducible conv => arg 2; whnf); split) | ((with_reducible conv => arg 2; arg 1; whnf); split) | ((with_reducible conv => arg 2; arg 1; arg 1; whnf); split) | with_reducible refine State.Keeps.eq2 (by with_reducible assumption) ?_ | with_reducible refine State.Keeps.eq22 (by with_reducible assumption) ?_ | with_reducible refine State.Keeps.eq222 (by with_reducible assumption) ?_ | with_reducible refine State.Keeps.eq1 (by with_reducible assumption) ?_ | with_reducible apply State.Keeps.mk_)

theorem State.stopCores_keeps (b0 : State) (s : State) (h0 : b0.Keeps s) : b0.Keeps (State.stopCores s) := by
  unfold State.stopCores
  repeat' (first | with_reducible assumption | intro _ _ _ | intro _ | with_reducible apply State.endPart_keeps | with_reducible apply State.Keeps.ite | with_reducible apply State.Keeps.foldl | with_reducible apply State.Keeps.foldl2 | with_reducible apply State.Keeps.foldl22 | with_reducible apply State.Keeps.foldl222 | with_reducible apply State.Keeps.foldl1 | split | ((with_reducible conv => arg 2; whnf); split))

theorem State.fetch_keeps (b0 : State) (s : State) (c : Nat) (h0 : b0.Keeps s) : b0.Keeps (State.fetch s c) := by
  unfold State.fetch
  repeat' (first | with_reducible assumption | intro _ _ _ | intro _ | with_reducible apply State.pinBreak_keeps | with_reducible apply State.Keeps.ite | with_reducible apply State.Keeps.ite2 | with_reducible apply State.Keeps.ite22 | with_reducible apply State.Keeps.ite222 | with_reducible apply State.Keeps.ite1 | with_reducible apply State.Keeps.ite21 | split | ((with_reducible conv => arg 2; whnf); split) | ((with_reducible conv => arg 2; arg 1; whnf); split) | ((with_reducible conv => arg 2; arg 1; arg 1; whnf); split) | with_reducible refine State.Keeps.eq2 (by with_reducible assumption) ?_ | with_reducible refine State.Keeps.eq22 (by with_reducible assumption) ?_ | with_reducible refine State.Keeps.eq222 (by with_reducible assumption) ?_ | with_reducible refine State.Keeps.eq1 (by with_reducible assumption) ?_ | with_reducible apply State.Keeps.mk_)

theorem doCdone_keeps (b0 : State) (c gs : Nat) (s : State) (h0 : b0.Keeps s) : b0.Keeps (doCdone c gs s) := by
  unfold doCdone
  repeat' (first | with_reducible assumption | intro _ _ _ | intro _ | with_reducible apply State.endPart_keeps | with_reducible apply State.fetch_keeps | with_reducible apply State.updCore_keeps | with_reducible apply State.Keeps.ite | with_reducible apply State.Keeps.ite2 | with_reducible apply State.Keeps.ite22 | with_reducible apply State.Keeps.ite222 | with_reducible apply State.Keeps.ite1 | with_reducible apply State.Keeps.ite21 | split | ((with_reducible conv => arg 2; whnf); split) | ((with_reducible conv => arg 2; arg 1; whnf); split) | ((with_reducible conv => arg 2; arg 1; arg 1; whnf); split) | with_reducible apply State.Keeps.mk_)

theorem execCdone_keeps (b0 : State) (core : Fin 64) (gs : Fin 32) (s : State) (h0 : b0.Keeps s) : b0.KeepsOut (execCdone core gs s) := by
  unfold execCdone
  repeat' (first | with_reducible assumption | intro _ _ _ | intro _ | with_reducible apply doCdone_keeps | with_reducible apply State.Keeps.next | with_reducible apply State.Keeps.mk_)

theorem doCidle_keeps (b0 : State) (c : Nat) (s : State) (h0 : b0.Keeps s) : b0.Keeps (doCidle c s) := by
  unfold doCidle
  repeat' (first | with_reducible assumption | intro _ _ _ | intro _ | with_reducible apply State.endPart_keeps | with_reducible apply State.fetch_keeps | with_reducible apply State.updCore_keeps | with_reducible apply State.Keeps.ite | with_reducible apply State.Keeps.ite2 | with_reducible apply State.Keeps.ite22 | with_reducible apply State.Keeps.ite222 | with_reducible apply State.Keeps.ite1 | with_reducible apply State.Keeps.ite21 | split | ((with_reducible conv => arg 2; whnf); split) | ((with_reducible conv => arg 2; arg 1; whnf); split) | ((with_reducible conv => arg 2; arg 1; arg 1; whnf); split) | with_reducible apply State.Keeps.mk_)

theorem execCidle_keeps (b0 : State) (core : Fin 64) (s : State) (h0 : b0.Keeps s) : b0.KeepsOut (execCidle core s) := by
  unfold execCidle
  repeat' (first | with_reducible assumption | with_reducible apply doCidle_keeps | with_reducible apply State.Keeps.next)

theorem doCoreInterrupt_keeps (b0 : State) (c : Nat) (sig : CoreSignal) (s : State) (h0 : b0.Keeps s) : b0.Keeps (doCoreInterrupt c sig s) := by
  unfold doCoreInterrupt
  repeat' (first | with_reducible assumption | intro _ _ _ | intro _ | with_reducible apply State.pinBreak_keeps | with_reducible apply State.coreMachineCheck_keeps | with_reducible apply State.updCore_keeps | with_reducible apply State.Keeps.ite | with_reducible apply State.Keeps.ite2 | with_reducible apply State.Keeps.ite22 | with_reducible apply State.Keeps.ite222 | with_reducible apply State.Keeps.ite1 | with_reducible apply State.Keeps.ite21 | split | ((with_reducible conv => arg 2; whnf); split) | ((with_reducible conv => arg 2; arg 1; whnf); split) | ((with_reducible conv => arg 2; arg 1; arg 1; whnf); split) | with_reducible refine State.Keeps.eq2 (by with_reducible assumption) ?_ | with_reducible refine State.Keeps.eq22 (by with_reducible assumption) ?_ | with_reducible refine State.Keeps.eq222 (by with_reducible assumption) ?_ | with_reducible refine State.Keeps.eq1 (by with_reducible assumption) ?_ | with_reducible apply State.Keeps.mk_)

theorem execCoreInterrupt_keeps (b0 : State) (core : Fin 64) (sig : CoreSignal) (s : State) (h0 : b0.Keeps s) : b0.KeepsOut (execCoreInterrupt core sig s) := by
  unfold execCoreInterrupt
  repeat' (first | with_reducible assumption | intro _ _ _ | intro _ | with_reducible apply doCoreInterrupt_keeps | with_reducible apply State.Keeps.next | with_reducible apply State.Keeps.mk_)

theorem doCoreClockStep_keeps (b0 : State) (temps : List Int) (s : State) (h0 : b0.Keeps s) : b0.Keeps (doCoreClockStep temps s) := by
  unfold doCoreClockStep
  repeat' (first | with_reducible assumption | intro _ _ _ | intro _ | with_reducible apply State.setF_keeps | with_reducible apply State.satF_keeps | with_reducible apply State.count_keeps | with_reducible apply State.raise_keeps | with_reducible apply State.Keeps.ite | with_reducible apply State.Keeps.ite2 | with_reducible apply State.Keeps.ite22 | with_reducible apply State.Keeps.ite222 | with_reducible apply State.Keeps.ite1 | with_reducible apply State.Keeps.ite21 | split | ((with_reducible conv => arg 2; whnf); split) | ((with_reducible conv => arg 2; arg 1; whnf); split) | ((with_reducible conv => arg 2; arg 1; arg 1; whnf); split) | with_reducible apply State.Keeps.mk_)

theorem execCoreClockStep_keeps (b0 : State) (temps : List Int) (s : State) (h0 : b0.Keeps s) : b0.KeepsOut (execCoreClockStep temps s) := by
  unfold execCoreClockStep
  repeat' (first | with_reducible assumption | intro _ _ _ | intro _ | with_reducible apply doCoreClockStep_keeps | with_reducible apply State.Keeps.next | with_reducible apply State.Keeps.mk_)

theorem State.zeroFill_keeps (b0 : State) (s : State) (a n : Nat) (h0 : b0.Keeps s) : b0.Keeps (State.zeroFill s a n) :=
  ⟨h0.pending, h0.grade, h0.stepping, h0.owner,
    fun e => ⟨s.zeroFill_wf a n (h0.inv e).mem, (h0.inv e).fld, (h0.inv e).nvm, (h0.inv e).cores, (h0.inv e).ckpt⟩⟩

theorem doPinCfgWrite_keeps (b0 : State) (v : Nat) (s : State) (h0 : b0.Keeps s) : b0.Keeps (doPinCfgWrite v s) := by
  unfold doPinCfgWrite
  split
  · exact State.refused_keeps _ _ _ _ _ _ h0
  · extract_lets x w s1 src s2
    have h1 : b0.Keeps s1 := State.Keeps.ite (State.zeroFill_keeps _ _ _ _ h0) h0
    have h2 : b0.Keeps s2 := by
      refine State.Keeps.ite ?_ ?_
      · exact State.Keeps.cores (t := src) (State.zeroFill_keeps _ _ (localBase 0) (64 * 0x200000) h1) _ (List.length_map ..)
      · exact h1
    exact State.answer_keeps _ _ _ _ (State.setFs_keeps _ _ _ h2)

theorem execPinCfgWrite_keeps (b0 : State) (val : Word) (s : State) (h0 : b0.Keeps s) : b0.KeepsOut (execPinCfgWrite val s) := by
  unfold execPinCfgWrite
  repeat' (first | with_reducible assumption | with_reducible apply doPinCfgWrite_keeps | with_reducible apply State.Keeps.next)

end Sys2Proof.Machine
end

