-- ==== Sys2Proof/Laws/KeepsObserve.lean ====
section
/-! SUPPORT. What every operation of Machine/Observe.lean keeps: the queue, the part, and the canonical forms. -/
namespace Sys2Proof.Machine

set_option linter.all false
set_option Elab.async false

theorem State.alert_keeps (b0 : State) (s : State) (p code kind num : Nat) (h0 : b0.Keeps s) : b0.Keeps (State.alert s p code kind num) := by
  unfold State.alert
  repeat' (first | with_reducible assumption | with_reducible apply State.satF_keeps | with_reducible apply State.setF_keeps | with_reducible apply State.Keeps.ite | split | ((with_reducible conv => arg 2; whnf); split) | with_reducible apply State.Keeps.mk_ | intro _)

theorem State.alertAll_keeps (b0 : State) (s : State) (code kind num : Nat) (h0 : b0.Keeps s) : b0.Keeps (State.alertAll s code kind num) := by
  unfold State.alertAll
  repeat' (first | with_reducible assumption | intro _ _ _ | intro _ | with_reducible apply State.alert_keeps | with_reducible apply State.Keeps.ite | with_reducible apply State.Keeps.foldl | with_reducible apply State.Keeps.foldl2 | with_reducible apply State.Keeps.foldl22 | with_reducible apply State.Keeps.foldl222 | with_reducible apply State.Keeps.foldl1 | split | ((with_reducible conv => arg 2; whnf); split))

theorem State.csLatch_keeps (b0 : State) (s : State) (step : Nat) (h0 : b0.Keeps s) : b0.Keeps (State.csLatch s step) := by
  unfold State.csLatch
  repeat' (first | with_reducible assumption | intro _ _ _ | intro _ | with_reducible apply State.setF_keeps | with_reducible apply State.setFs_keeps | with_reducible apply State.Keeps.ite | with_reducible apply State.Keeps.foldl | with_reducible apply State.Keeps.foldl2 | with_reducible apply State.Keeps.foldl22 | with_reducible apply State.Keeps.foldl222 | with_reducible apply State.Keeps.foldl1 | split | ((with_reducible conv => arg 2; whnf); split) | with_reducible apply State.Keeps.mk_)

theorem State.csTick_keeps (b0 : State) (s : State) (first n : Nat) (h0 : b0.Keeps s) : b0.Keeps (State.csTick s first n) := by
  unfold State.csTick
  repeat' (first | with_reducible assumption | with_reducible apply State.csLatch_keeps | with_reducible apply State.Keeps.ite | split | ((with_reducible conv => arg 2; whnf); split) | with_reducible refine State.Keeps.eq2 (by with_reducible assumption) ?_ | with_reducible refine State.Keeps.eq22 (by with_reducible assumption) ?_ | with_reducible refine State.Keeps.eq222 (by with_reducible assumption) ?_ | with_reducible refine State.Keeps.eq1 (by with_reducible assumption) ?_ | intro _)

theorem doCsArm_keeps (b0 : State) (v : Nat) (s : State) (h0 : b0.Keeps s) : b0.Keeps (doCsArm v s) := by
  unfold doCsArm
  repeat' (first | with_reducible assumption | intro _ _ _ | intro _ | with_reducible apply State.setFs_keeps | with_reducible apply State.answer_keeps | with_reducible apply State.refused_keeps | with_reducible apply State.Keeps.ite | with_reducible apply State.Keeps.ite2 | with_reducible apply State.Keeps.ite22 | with_reducible apply State.Keeps.ite222 | with_reducible apply State.Keeps.ite1 | with_reducible apply State.Keeps.ite21 | split | ((with_reducible conv => arg 2; whnf); split) | ((with_reducible conv => arg 2; arg 1; whnf); split) | ((with_reducible conv => arg 2; arg 1; arg 1; whnf); split) | with_reducible apply State.Keeps.mk_)

theorem execCsArm_keeps (b0 : State) (val : Word) (s : State) (h0 : b0.Keeps s) : b0.KeepsOut (execCsArm val s) := by
  unfold execCsArm
  repeat' (first | with_reducible assumption | with_reducible apply doCsArm_keeps | with_reducible apply State.Keeps.next | intro _)

theorem doCsNow_keeps (b0 : State) (s : State) (h0 : b0.Keeps s) : b0.Keeps (doCsNow s) := by
  unfold doCsNow
  repeat' (first | with_reducible assumption | intro _ _ _ | intro _ | with_reducible apply State.csLatch_keeps | with_reducible apply State.answer_keeps | with_reducible apply State.refused_keeps | with_reducible apply State.Keeps.ite | with_reducible apply State.Keeps.ite2 | with_reducible apply State.Keeps.ite22 | with_reducible apply State.Keeps.ite222 | with_reducible apply State.Keeps.ite1 | with_reducible apply State.Keeps.ite21 | split | ((with_reducible conv => arg 2; whnf); split) | ((with_reducible conv => arg 2; arg 1; whnf); split) | ((with_reducible conv => arg 2; arg 1; arg 1; whnf); split) | with_reducible apply State.Keeps.mk_)

theorem execCsNow_keeps (b0 : State) (s : State) (h0 : b0.Keeps s) : b0.KeepsOut (execCsNow s) := by
  unfold execCsNow
  repeat' (first | with_reducible assumption | with_reducible apply doCsNow_keeps | with_reducible apply State.Keeps.next | intro _)

theorem State.sendProbe_keeps (b0 : State) (s : State) (i : Nat) (h0 : b0.Keeps s) : b0.Keeps (State.sendProbe s i) := by
  unfold State.sendProbe
  repeat' (first | with_reducible assumption | with_reducible apply State.emit_keeps | intro _)

theorem doTbMeasure_keeps (b0 : State) (s : State) (h0 : b0.Keeps s) : b0.Keeps (doTbMeasure s) := by
  unfold doTbMeasure
  repeat' (first | with_reducible assumption | intro _ _ _ | intro _ | with_reducible apply State.refused_keeps | with_reducible apply State.answer_keeps | with_reducible apply State.setF_keeps | with_reducible apply State.sendProbe_keeps | with_reducible apply State.Keeps.ite | with_reducible apply State.Keeps.ite2 | with_reducible apply State.Keeps.ite22 | with_reducible apply State.Keeps.ite222 | with_reducible apply State.Keeps.ite1 | with_reducible apply State.Keeps.ite21 | with_reducible apply State.Keeps.foldl | with_reducible apply State.Keeps.foldl2 | with_reducible apply State.Keeps.foldl22 | with_reducible apply State.Keeps.foldl222 | with_reducible apply State.Keeps.foldl1 | split | ((with_reducible conv => arg 2; whnf); split) | ((with_reducible conv => arg 2; arg 1; whnf); split) | ((with_reducible conv => arg 2; arg 1; arg 1; whnf); split) | with_reducible apply State.Keeps.mk_)

theorem execTbMeasure_keeps (b0 : State) (s : State) (h0 : b0.Keeps s) : b0.KeepsOut (execTbMeasure s) := by
  unfold execTbMeasure
  repeat' (first | with_reducible assumption | with_reducible apply doTbMeasure_keeps | with_reducible apply State.Keeps.next | intro _)

theorem State.tbEnd_keeps (b0 : State) (s : State) (code : Nat) (h0 : b0.Keeps s) : b0.Keeps (State.tbEnd s code) := by
  unfold State.tbEnd
  repeat' (first | with_reducible assumption | intro _ _ _ | intro _ | with_reducible apply State.hwSets_keeps | with_reducible apply State.Keeps.mk_)

theorem doTbProbeTimeout_keeps (b0 : State) (i : Nat) (s : State) (h0 : b0.Keeps s) : b0.Keeps (doTbProbeTimeout i s) := by
  unfold doTbProbeTimeout
  repeat' (first | with_reducible assumption | with_reducible apply State.tbEnd_keeps | with_reducible apply State.raise_keeps | with_reducible apply State.sendProbe_keeps | with_reducible apply State.Keeps.ite | split | ((with_reducible conv => arg 2; whnf); split) | with_reducible refine State.Keeps.eq2 (by with_reducible assumption) ?_ | with_reducible refine State.Keeps.eq22 (by with_reducible assumption) ?_ | with_reducible refine State.Keeps.eq222 (by with_reducible assumption) ?_ | with_reducible refine State.Keeps.eq1 (by with_reducible assumption) ?_ | with_reducible apply State.Keeps.mk_ | intro _)

theorem execTbProbeTimeout_keeps (b0 : State) (probe : Nat) (s : State) (h0 : b0.Keeps s) : b0.KeepsOut (execTbProbeTimeout probe s) := by
  unfold execTbProbeTimeout
  repeat' (first | with_reducible assumption | with_reducible apply doTbProbeTimeout_keeps | with_reducible apply State.Keeps.next | intro _)

theorem doTbMeasureDone_keeps (b0 : State) (stamps : List (Int × Int × Int × Int)) (s : State) (h0 : b0.Keeps s) : b0.Keeps (doTbMeasureDone stamps s) := by
  unfold doTbMeasureDone
  repeat' (first | with_reducible assumption | intro _ _ _ | intro _ | with_reducible apply State.tbEnd_keeps | with_reducible apply State.setFs_keeps | with_reducible apply State.Keeps.ite | split | ((with_reducible conv => arg 2; whnf); split) | with_reducible apply State.Keeps.mk_)

theorem execTbMeasureDone_keeps (b0 : State) (stamps : List (Int × Int × Int × Int)) (s : State) (h0 : b0.Keeps s) : b0.KeepsOut (execTbMeasureDone stamps s) := by
  unfold execTbMeasureDone
  repeat' (first | with_reducible assumption | with_reducible apply doTbMeasureDone_keeps | with_reducible apply State.Keeps.next | intro _)

theorem State.updExpo_keeps (b0 : State) (s : State) (die : Nat) (f : Expo → Expo) (h0 : b0.Keeps s) : b0.Keeps (State.updExpo s die f) := by
  unfold State.updExpo
  repeat' (first | with_reducible assumption | intro _ _ _ | intro _ | with_reducible apply State.updDie_keeps | with_reducible apply State.expo_keeps | split | ((with_reducible conv => arg 2; whnf); split) | with_reducible apply State.Keeps.mk_)

theorem State.expoCtrl_keeps (b0 : State) (s : State) (die v : Nat) (h0 : b0.Keeps s) : b0.Keeps (State.expoCtrl s die v).2 := by
  unfold State.expoCtrl
  repeat' (first | with_reducible assumption | intro _ _ _ | intro _ | with_reducible apply State.setF_keeps | with_reducible apply State.updExpo_keeps | with_reducible apply State.setFs_keeps | with_reducible apply State.Keeps.ite | with_reducible apply State.Keeps.ite2 | with_reducible apply State.Keeps.ite22 | with_reducible apply State.Keeps.ite222 | with_reducible apply State.Keeps.ite1 | with_reducible apply State.Keeps.ite21 | split | ((with_reducible conv => arg 2; whnf); split) | ((with_reducible conv => arg 2; arg 1; whnf); split) | ((with_reducible conv => arg 2; arg 1; arg 1; whnf); split) | with_reducible apply State.Keeps.mk_)

theorem doExpArm_keeps (b0 : State) (die v : Nat) (s : State) (h0 : b0.Keeps s) : b0.Keeps (doExpArm die v s) := by
  unfold doExpArm
  repeat' (first | with_reducible assumption | intro _ _ _ | intro _ | with_reducible apply State.answer_keeps | with_reducible apply State.expoCtrl_keeps | with_reducible apply State.refused_keeps | with_reducible apply State.Keeps.ite | with_reducible apply State.Keeps.ite2 | with_reducible apply State.Keeps.ite22 | with_reducible apply State.Keeps.ite222 | with_reducible apply State.Keeps.ite1 | with_reducible apply State.Keeps.ite21 | split | ((with_reducible conv => arg 2; whnf); split) | ((with_reducible conv => arg 2; arg 1; whnf); split) | ((with_reducible conv => arg 2; arg 1; arg 1; whnf); split) | with_reducible refine State.Keeps.eq2 (by with_reducible assumption) ?_ | with_reducible refine State.Keeps.eq22 (by with_reducible assumption) ?_ | with_reducible refine State.Keeps.eq222 (by with_reducible assumption) ?_ | with_reducible refine State.Keeps.eq1 (by with_reducible assumption) ?_ | with_reducible apply State.Keeps.mk_)

theorem execExpArm_keeps (b0 : State) (die : Fin 4) (val : Word) (s : State) (h0 : b0.Keeps s) : b0.KeepsOut (execExpArm die val s) := by
  unfold execExpArm
  repeat' (first | with_reducible assumption | with_reducible apply doExpArm_keeps | with_reducible apply State.Keeps.next | intro _)

theorem doExpStop_keeps (b0 : State) (die : Nat) (s : State) (h0 : b0.Keeps s) : b0.Keeps (doExpStop die s) := by
  unfold doExpStop
  repeat' (first | with_reducible assumption | with_reducible apply doExpArm_keeps | intro _)

theorem execExpStop_keeps (b0 : State) (die : Fin 4) (s : State) (h0 : b0.Keeps s) : b0.KeepsOut (execExpStop die s) := by
  unfold execExpStop
  repeat' (first | with_reducible assumption | with_reducible apply doExpStop_keeps | with_reducible apply State.Keeps.next | intro _)

theorem State.expoStart_keeps (b0 : State) (s : State) (die : Nat) (rerun : Bool) (h0 : b0.Keeps s) : b0.Keeps (State.expoStart s die rerun) := by
  unfold State.expoStart
  repeat' (first | with_reducible assumption | intro _ _ _ | intro _ | with_reducible apply State.expo_keeps | with_reducible apply State.setF_keeps | with_reducible apply State.updExpo_keeps | with_reducible apply State.hwSet_keeps | with_reducible apply State.raise_keeps | with_reducible apply State.Keeps.ite | with_reducible apply State.Keeps.ite2 | with_reducible apply State.Keeps.ite22 | with_reducible apply State.Keeps.ite222 | with_reducible apply State.Keeps.ite1 | with_reducible apply State.Keeps.ite21 | split | ((with_reducible conv => arg 2; whnf); split) | ((with_reducible conv => arg 2; arg 1; whnf); split) | ((with_reducible conv => arg 2; arg 1; arg 1; whnf); split) | with_reducible apply State.Keeps.mk_)

theorem State.expoEnd_keeps (b0 : State) (s : State) (die : Nat) (h0 : b0.Keeps s) : b0.Keeps (State.expoEnd s die) := by
  unfold State.expoEnd
  repeat' (first | with_reducible assumption | intro _ _ _ | intro _ | with_reducible apply State.updExpo_keeps | with_reducible apply State.setFs_keeps | with_reducible apply State.Keeps.ite | split | ((with_reducible conv => arg 2; whnf); split) | with_reducible apply State.Keeps.mk_)

theorem State.expoWrite_keeps (b0 : State) (s : State) (die : Nat) (h0 : b0.Keeps s) : b0.Keeps (State.expoWrite s die) := by
  unfold State.expoWrite
  repeat' (first | with_reducible assumption | intro _ _ _ | intro _ | with_reducible apply State.expo_keeps | with_reducible apply State.extWrite_keeps | with_reducible apply State.updExpo_keeps | with_reducible apply State.setF_keeps | with_reducible apply State.satF_keeps | with_reducible apply State.Keeps.ite | with_reducible apply State.Keeps.ite2 | with_reducible apply State.Keeps.ite22 | with_reducible apply State.Keeps.ite222 | with_reducible apply State.Keeps.ite1 | with_reducible apply State.Keeps.ite21 | split | ((with_reducible conv => arg 2; whnf); split) | ((with_reducible conv => arg 2; arg 1; whnf); split) | ((with_reducible conv => arg 2; arg 1; arg 1; whnf); split) | with_reducible apply State.Keeps.mk_)

theorem doJournalReport_keeps (b0 : State) (s : State) (h0 : b0.Keeps s) : b0.Keeps (doJournalReport s) := by
  unfold doJournalReport
  repeat' (first | with_reducible assumption | intro _ _ _ | intro _ | with_reducible apply State.count_keeps | with_reducible apply State.satF_keeps | with_reducible apply State.hwSet_keeps | with_reducible apply State.alertAll_keeps | with_reducible apply State.Keeps.ite | with_reducible apply State.Keeps.ite2 | with_reducible apply State.Keeps.ite22 | with_reducible apply State.Keeps.ite222 | with_reducible apply State.Keeps.ite1 | with_reducible apply State.Keeps.ite21 | split | ((with_reducible conv => arg 2; whnf); split) | ((with_reducible conv => arg 2; arg 1; whnf); split) | ((with_reducible conv => arg 2; arg 1; arg 1; whnf); split) | with_reducible refine State.Keeps.eq2 (by with_reducible assumption) ?_ | with_reducible refine State.Keeps.eq22 (by with_reducible assumption) ?_ | with_reducible refine State.Keeps.eq222 (by with_reducible assumption) ?_ | with_reducible refine State.Keeps.eq1 (by with_reducible assumption) ?_ | with_reducible apply State.Keeps.mk_)

theorem execJournalReport_keeps (b0 : State) (s : State) (h0 : b0.Keeps s) : b0.KeepsOut (execJournalReport s) := by
  unfold execJournalReport
  repeat' (first | with_reducible assumption | with_reducible apply doJournalReport_keeps | with_reducible apply State.Keeps.next | intro _)

theorem doJournalRecord_keeps (b0 : State) (s : State) (h0 : b0.Keeps s) : b0.Keeps (doJournalRecord s) := by
  unfold doJournalRecord
  repeat' (first | with_reducible assumption | intro _ _ _ | intro _ | with_reducible apply State.setFs_keeps | split | ((with_reducible conv => arg 2; whnf); split) | ((with_reducible conv => arg 2; arg 1; whnf); split) | ((with_reducible conv => arg 2; arg 1; arg 1; whnf); split) | with_reducible refine State.Keeps.eq2 (by with_reducible assumption) ?_ | with_reducible refine State.Keeps.eq22 (by with_reducible assumption) ?_ | with_reducible refine State.Keeps.eq222 (by with_reducible assumption) ?_ | with_reducible refine State.Keeps.eq1 (by with_reducible assumption) ?_ | with_reducible apply State.Keeps.mk_)

theorem execJournalRecord_keeps (b0 : State) (s : State) (h0 : b0.Keeps s) : b0.KeepsOut (execJournalRecord s) := by
  unfold execJournalRecord
  repeat' (first | with_reducible assumption | with_reducible apply doJournalRecord_keeps | with_reducible apply State.Keeps.next | intro _)

theorem doJournalAlert_keeps (b0 : State) (i : Nat) (s : State) (h0 : b0.Keeps s) : b0.Keeps (doJournalAlert i s) := by
  unfold doJournalAlert
  repeat' (first | with_reducible assumption | intro _ _ _ | intro _ | with_reducible apply State.alert_keeps | with_reducible apply State.Keeps.ite | with_reducible apply State.Keeps.ite2 | with_reducible apply State.Keeps.ite22 | with_reducible apply State.Keeps.ite222 | with_reducible apply State.Keeps.ite1 | with_reducible apply State.Keeps.ite21 | with_reducible apply State.Keeps.foldl | with_reducible apply State.Keeps.foldl2 | with_reducible apply State.Keeps.foldl22 | with_reducible apply State.Keeps.foldl222 | with_reducible apply State.Keeps.foldl1 | split | ((with_reducible conv => arg 2; whnf); split) | ((with_reducible conv => arg 2; arg 1; whnf); split) | ((with_reducible conv => arg 2; arg 1; arg 1; whnf); split) | with_reducible refine State.Keeps.eq2 (by with_reducible assumption) ?_ | with_reducible refine State.Keeps.eq22 (by with_reducible assumption) ?_ | with_reducible refine State.Keeps.eq222 (by with_reducible assumption) ?_ | with_reducible refine State.Keeps.eq1 (by with_reducible assumption) ?_ | with_reducible apply State.Keeps.mk_)

theorem execJournalAlert_keeps (b0 : State) (index : Nat) (s : State) (h0 : b0.Keeps s) : b0.KeepsOut (execJournalAlert index s) := by
  unfold execJournalAlert
  repeat' (first | with_reducible assumption | with_reducible apply doJournalAlert_keeps | with_reducible apply State.Keeps.next | intro _)

theorem doJnlHeadWrite_keeps (b0 : State) (v : Nat) (s : State) (h0 : b0.Keeps s) : b0.Keeps (doJnlHeadWrite v s) := by
  unfold doJnlHeadWrite
  repeat' (first | with_reducible assumption | with_reducible apply State.setF_keeps | with_reducible apply State.answer_keeps | with_reducible apply State.Keeps.ite | split | ((with_reducible conv => arg 2; whnf); split) | intro _)

theorem execJnlHeadWrite_keeps (b0 : State) (val : Word) (s : State) (h0 : b0.Keeps s) : b0.KeepsOut (execJnlHeadWrite val s) := by
  unfold execJnlHeadWrite
  repeat' (first | with_reducible assumption | with_reducible apply doJnlHeadWrite_keeps | with_reducible apply State.Keeps.next | intro _)

theorem doJnlClearSeen_keeps (b0 : State) (s : State) (h0 : b0.Keeps s) : b0.Keeps (doJnlClearSeen s) := by
  unfold doJnlClearSeen
  repeat' (first | with_reducible assumption | with_reducible apply State.setF_keeps | with_reducible apply State.answer_keeps | intro _)

theorem execJnlClearSeen_keeps (b0 : State) (s : State) (h0 : b0.Keeps s) : b0.KeepsOut (execJnlClearSeen s) := by
  unfold execJnlClearSeen
  repeat' (first | with_reducible assumption | with_reducible apply doJnlClearSeen_keeps | with_reducible apply State.Keeps.next | intro _)

end Sys2Proof.Machine
end

