-- ==== Sys2Proof/Laws/KeepsRegIo.lean ====
section
/-! SUPPORT. What every operation of Machine/RegIo.lean keeps: the queue, the part, and the canonical forms. -/
namespace Sys2Proof.Machine

set_option linter.all false
set_option Elab.async false

theorem State.writeField_keeps (b0 : State) (s : State) (d : FieldD) (v : Nat) (h0 : b0.Keeps s) : b0.Keeps (State.writeField s d v) := by
  unfold State.writeField
  repeat' (first | with_reducible assumption | intro _ _ _ | intro _ | with_reducible apply State.setF_keeps | with_reducible apply State.clearBits_keeps | with_reducible apply State.Keeps.ite | with_reducible apply State.Keeps.ite2 | with_reducible apply State.Keeps.ite22 | with_reducible apply State.Keeps.ite222 | with_reducible apply State.Keeps.ite1 | with_reducible apply State.Keeps.ite21 | split | ((with_reducible conv => arg 2; whnf); split) | ((with_reducible conv => arg 2; arg 1; whnf); split) | ((with_reducible conv => arg 2; arg 1; arg 1; whnf); split) | with_reducible refine State.Keeps.eq2 (by with_reducible assumption) ?_ | with_reducible refine State.Keeps.eq22 (by with_reducible assumption) ?_ | with_reducible refine State.Keeps.eq222 (by with_reducible assumption) ?_ | with_reducible refine State.Keeps.eq1 (by with_reducible assumption) ?_ | with_reducible apply State.Keeps.mk_)

theorem State.writeReg_keeps (b0 : State) (s : State) (r : RegD) (v : Nat) (h0 : b0.Keeps s) : b0.Keeps (State.writeReg s r v) := by
  unfold State.writeReg
  repeat' (first | with_reducible assumption | intro _ _ _ | intro _ | with_reducible apply State.writeField_keeps | with_reducible apply State.Keeps.foldl | with_reducible apply State.Keeps.foldl2 | with_reducible apply State.Keeps.foldl22 | with_reducible apply State.Keeps.foldl222 | with_reducible apply State.Keeps.foldl1 | split | ((with_reducible conv => arg 2; whnf); split))

theorem State.writeAt_keeps (b0 : State) (s : State) (a : Nat) (r : RegD) (v : Nat) (h0 : b0.Keeps s) : b0.Keeps (State.writeAt s a r v) := by
  unfold State.writeAt
  repeat' (first | with_reducible assumption | intro _ _ _ | intro _ | with_reducible apply State.writeReg_keeps | with_reducible apply State.Keeps.ite | with_reducible apply State.Keeps.ite2 | with_reducible apply State.Keeps.ite22 | with_reducible apply State.Keeps.ite222 | with_reducible apply State.Keeps.ite1 | with_reducible apply State.Keeps.ite21 | split | ((with_reducible conv => arg 2; whnf); split) | ((with_reducible conv => arg 2; arg 1; whnf); split) | ((with_reducible conv => arg 2; arg 1; arg 1; whnf); split) | with_reducible apply State.Keeps.mk_)

theorem State.setJobStep_keeps (b0 : State) (s : State) (p v : Nat) (h0 : b0.Keeps s) : b0.Keeps (State.setJobStep s p v) := by
  unfold State.setJobStep
  repeat' (first | with_reducible assumption | intro _ _ _ | intro _ | with_reducible apply State.setF_keeps | with_reducible apply State.updPart_keeps | with_reducible apply State.Keeps.foldl | with_reducible apply State.Keeps.foldl2 | with_reducible apply State.Keeps.foldl22 | with_reducible apply State.Keeps.foldl222 | with_reducible apply State.Keeps.foldl1 | split | ((with_reducible conv => arg 2; whnf); split) | ((with_reducible conv => arg 2; arg 1; whnf); split) | ((with_reducible conv => arg 2; arg 1; arg 1; whnf); split) | with_reducible apply State.Keeps.mk_)

theorem State.writeJobStep_keeps (b0 : State) (s : State) (p a v : Nat) (h0 : b0.Keeps s) : b0.Keeps (State.writeJobStep s p a v) := by
  unfold State.writeJobStep
  repeat' (first | with_reducible assumption | intro _ _ _ | intro _ | with_reducible apply State.setJobStep_keeps | with_reducible apply State.Keeps.ite | with_reducible apply State.Keeps.ite2 | with_reducible apply State.Keeps.ite22 | with_reducible apply State.Keeps.ite222 | with_reducible apply State.Keeps.ite1 | with_reducible apply State.Keeps.ite21 | split | ((with_reducible conv => arg 2; whnf); split) | ((with_reducible conv => arg 2; arg 1; whnf); split) | ((with_reducible conv => arg 2; arg 1; arg 1; whnf); split) | with_reducible apply State.Keeps.mk_)

theorem State.setScuCtrl_keeps (b0 : State) (s : State) (p v : Nat) (h0 : b0.Keeps s) : b0.Keeps (State.setScuCtrl s p v) := by
  unfold State.setScuCtrl
  repeat' (first | with_reducible assumption | intro _ _ _ | intro _ | with_reducible apply State.writeReg_keeps | with_reducible apply State.Keeps.foldl | with_reducible apply State.Keeps.foldl2 | with_reducible apply State.Keeps.foldl22 | with_reducible apply State.Keeps.foldl222 | with_reducible apply State.Keeps.foldl1 | split | ((with_reducible conv => arg 2; whnf); split) | ((with_reducible conv => arg 2; arg 1; whnf); split) | ((with_reducible conv => arg 2; arg 1; arg 1; whnf); split) | with_reducible apply State.Keeps.mk_)

theorem State.writeScuCtrl_keeps (b0 : State) (s : State) (p a v : Nat) (h0 : b0.Keeps s) : b0.Keeps (State.writeScuCtrl s p a v) := by
  unfold State.writeScuCtrl
  repeat' (first | with_reducible assumption | intro _ _ _ | intro _ | with_reducible apply State.setScuCtrl_keeps | with_reducible apply State.Keeps.ite | with_reducible apply State.Keeps.ite2 | with_reducible apply State.Keeps.ite22 | with_reducible apply State.Keeps.ite222 | with_reducible apply State.Keeps.ite1 | with_reducible apply State.Keeps.ite21 | split | ((with_reducible conv => arg 2; whnf); split) | ((with_reducible conv => arg 2; arg 1; whnf); split) | ((with_reducible conv => arg 2; arg 1; arg 1; whnf); split) | with_reducible apply State.Keeps.mk_)

theorem State.takeDeferred_keeps (b0 : State) (s : State) (a v : Nat) (h0 : b0.Keeps s) : b0.Keeps (State.takeDeferred s a v) := by
  unfold State.takeDeferred
  repeat' (first | with_reducible assumption | intro _ _ _ | intro _ | with_reducible apply State.expoCtrl_keeps | with_reducible apply State.raise_keeps | with_reducible apply State.setScuCtrl_keeps | with_reducible apply State.setJobStep_keeps | with_reducible apply State.writeReg_keeps | with_reducible apply State.raiseP_keeps | with_reducible apply State.writeAt_keeps | with_reducible apply State.Keeps.ite | with_reducible apply State.Keeps.ite2 | with_reducible apply State.Keeps.ite22 | with_reducible apply State.Keeps.ite222 | with_reducible apply State.Keeps.ite1 | with_reducible apply State.Keeps.ite21 | split | ((with_reducible conv => arg 2; whnf); split) | ((with_reducible conv => arg 2; arg 1; whnf); split) | ((with_reducible conv => arg 2; arg 1; arg 1; whnf); split) | with_reducible refine State.Keeps.eq2 (by with_reducible assumption) ?_ | with_reducible refine State.Keeps.eq22 (by with_reducible assumption) ?_ | with_reducible refine State.Keeps.eq222 (by with_reducible assumption) ?_ | with_reducible refine State.Keeps.eq1 (by with_reducible assumption) ?_ | with_reducible apply State.Keeps.mk_)

theorem State.applyDeferred_keeps (b0 : State) (s : State) (p : Nat) (h0 : b0.Keeps s) : b0.Keeps (State.applyDeferred s p) := by
  unfold State.applyDeferred
  repeat' (first | with_reducible assumption | intro _ _ _ | intro _ | with_reducible apply State.takeDeferred_keeps | with_reducible apply State.applyTables_keeps | with_reducible apply State.Keeps.ite | with_reducible apply State.Keeps.ite2 | with_reducible apply State.Keeps.ite22 | with_reducible apply State.Keeps.ite222 | with_reducible apply State.Keeps.ite1 | with_reducible apply State.Keeps.ite21 | with_reducible apply State.Keeps.foldl | with_reducible apply State.Keeps.foldl2 | with_reducible apply State.Keeps.foldl22 | with_reducible apply State.Keeps.foldl222 | with_reducible apply State.Keeps.foldl1 | split | ((with_reducible conv => arg 2; whnf); split) | ((with_reducible conv => arg 2; arg 1; whnf); split) | ((with_reducible conv => arg 2; arg 1; arg 1; whnf); split) | with_reducible refine State.Keeps.eq2 (by with_reducible assumption) ?_ | with_reducible refine State.Keeps.eq22 (by with_reducible assumption) ?_ | with_reducible refine State.Keeps.eq222 (by with_reducible assumption) ?_ | with_reducible refine State.Keeps.eq1 (by with_reducible assumption) ?_ | with_reducible apply State.Keeps.mk_)

end Sys2Proof.Machine
end

