-- ==== Sys2Proof/Laws/KeepsFrame.lean ====
section
/-! SUPPORT. What every operation of Machine/Frame.lean keeps: the queue, the part, and the canonical forms. -/
namespace Sys2Proof.Machine

set_option linter.all false
set_option Elab.async false

theorem State.countDies_keeps (b0 : State) (s : State) (p i n : Nat) (h0 : b0.Keeps s) : b0.Keeps (State.countDies s p i n) := by
  unfold State.countDies
  repeat' (first | with_reducible assumption | intro _ _ _ | intro _ | with_reducible apply State.count_keeps | with_reducible apply State.Keeps.foldl | with_reducible apply State.Keeps.foldl2 | with_reducible apply State.Keeps.foldl22 | with_reducible apply State.Keeps.foldl222 | with_reducible apply State.Keeps.foldl1 | split | ((with_reducible conv => arg 2; whnf); split))

theorem State.darkSkipped_keeps (b0 : State) (s : State) (p lost : Nat) (h0 : b0.Keeps s) : b0.Keeps (State.darkSkipped s p lost) := by
  unfold State.darkSkipped
  repeat' (first | with_reducible assumption | intro _ _ _ | intro _ | with_reducible apply State.raiseP_keeps | with_reducible apply State.hwSet_keeps | with_reducible apply State.countDies_keeps | with_reducible apply State.Keeps.mk_)

theorem State.enterWait_keeps (b0 : State) (s : State) (p : Nat) (h0 : b0.Keeps s) : b0.Keeps (State.enterWait s p) := by
  unfold State.enterWait
  repeat' (first | with_reducible assumption | with_reducible apply State.setFrameState_keeps | with_reducible apply State.Keeps.ite | split | ((with_reducible conv => arg 2; whnf); split) | intro _)

theorem State.startFrameAt_keeps (b0 : State) (s : State) (p c : Nat) (late held : Bool) (h0 : b0.Keeps s) : b0.Keeps (State.startFrameAt s p c late held) := by
  unfold State.startFrameAt
  repeat' (first | with_reducible assumption | intro _ _ _ | intro _ | with_reducible apply State.updPart_keeps | with_reducible apply State.showPending_keeps | split | ((with_reducible conv => arg 2; whnf); split) | with_reducible apply State.Keeps.mk_)

theorem State.stepBacklog_keeps (b0 : State) (s : State) (p index : Nat) (h0 : b0.Keeps s) : b0.Keeps (State.stepBacklog s p index) := by
  have h1 : b0.Keeps ((s.raiseP p C.STEP_BACKLOG index 0 0).hwSet (F.FRAME_STATUS_BACKLOG p) 1) := by
    apply State.hwSet_keeps
    apply State.raiseP_keeps
    exact h0
  refine State.Keeps.ite ?_ ?_
  · apply State.abortFrame_keeps
    apply State.updPart_keeps
    exact h1
  · apply State.showPending_keeps
    apply State.setFrameState_keeps
    apply State.updPart_keeps
    exact h1

theorem State.pushTick_keeps (b0 : State) (s : State) (p index arrival : Nat) (h0 : b0.Keeps s) : b0.Keeps (State.pushTick s p index arrival) := by
  unfold State.pushTick
  repeat' (first | with_reducible assumption | intro _ _ _ | intro _ | with_reducible apply State.stepBacklog_keeps | with_reducible apply State.updPart_keeps | with_reducible apply State.showPending_keeps | with_reducible apply State.Keeps.ite | split | ((with_reducible conv => arg 2; whnf); split) | with_reducible apply State.Keeps.mk_)

theorem State.tickStarts_keeps (b0 : State) (s : State) (p index arrival c : Nat) (late : Bool) (h0 : b0.Keeps s) : b0.Keeps (State.tickStarts s p index arrival c late) := by
  unfold State.tickStarts
  repeat' (first | with_reducible assumption | intro _ _ _ | intro _ | with_reducible apply State.updPart_keeps | with_reducible apply State.startFrameAt_keeps | split | ((with_reducible conv => arg 2; whnf); split) | with_reducible apply State.Keeps.mk_)

theorem State.takeTick_keeps (b0 : State) (s : State) (p index arrival : Nat) (h0 : b0.Keeps s) : b0.Keeps (State.takeTick s p index arrival) := by
  unfold State.takeTick
  repeat' (first | with_reducible assumption | intro _ _ _ | intro _ | with_reducible apply State.pushTick_keeps | with_reducible apply State.freshNat_keeps | with_reducible apply State.tickStarts_keeps | with_reducible apply State.hwSet_keeps | with_reducible apply State.countDies_keeps | with_reducible apply State.updPart_keeps | with_reducible apply State.raiseP_keeps | with_reducible apply State.darkSkipped_keeps | with_reducible apply State.Keeps.ite | with_reducible apply State.Keeps.ite2 | with_reducible apply State.Keeps.ite22 | with_reducible apply State.Keeps.ite222 | with_reducible apply State.Keeps.ite1 | with_reducible apply State.Keeps.ite21 | split | ((with_reducible conv => arg 2; whnf); split) | ((with_reducible conv => arg 2; arg 1; whnf); split) | ((with_reducible conv => arg 2; arg 1; arg 1; whnf); split) | with_reducible refine State.Keeps.eq2 (by with_reducible assumption) ?_ | with_reducible refine State.Keeps.eq22 (by with_reducible assumption) ?_ | with_reducible refine State.Keeps.eq222 (by with_reducible assumption) ?_ | with_reducible refine State.Keeps.eq1 (by with_reducible assumption) ?_ | with_reducible apply State.Keeps.mk_)

theorem State.takeTicks_keeps (b0 : State) (s : State) (p : Nat) (x0 : Nat) (x1 : Nat) (x2 : Nat) (h0 : b0.Keeps s) : b0.Keeps (State.takeTicks s p x0 x1 x2) := by
  induction x0 generalizing x1 x2 s with
  | zero =>
    unfold State.takeTicks
    repeat' (first | with_reducible assumption | with_reducible apply State.takeTick_keeps | intro _)
  | succ k ih =>
    unfold State.takeTicks
    repeat' (first | with_reducible apply ih | with_reducible assumption | with_reducible apply State.takeTick_keeps | intro _)

theorem State.acceptTick_keeps (b0 : State) (s : State) (p x : Nat) (h0 : b0.Keeps s) : b0.Keeps (State.acceptTick s p x).2 := by
  unfold State.acceptTick
  repeat' (first | with_reducible assumption | intro _ _ _ | intro _ | with_reducible apply State.count_keeps | with_reducible apply State.raiseP_keeps | with_reducible apply State.csTick_keeps | with_reducible apply State.takeTicks_keeps | with_reducible apply State.updPart_keeps | with_reducible apply State.Keeps.ite | with_reducible apply State.Keeps.ite2 | with_reducible apply State.Keeps.ite22 | with_reducible apply State.Keeps.ite222 | with_reducible apply State.Keeps.ite1 | with_reducible apply State.Keeps.ite21 | split | ((with_reducible conv => arg 2; whnf); split) | ((with_reducible conv => arg 2; arg 1; whnf); split) | ((with_reducible conv => arg 2; arg 1; arg 1; whnf); split) | with_reducible refine State.Keeps.eq2 (by with_reducible assumption) ?_ | with_reducible refine State.Keeps.eq22 (by with_reducible assumption) ?_ | with_reducible refine State.Keeps.eq222 (by with_reducible assumption) ?_ | with_reducible refine State.Keeps.eq1 (by with_reducible assumption) ?_ | with_reducible apply State.Keeps.pair2 | with_reducible apply State.Keeps.pair22 | with_reducible apply State.Keeps.pair222 | with_reducible apply State.Keeps.mk_)

theorem State.discipline_keeps (b0 : State) (s : State) (p rootNs : Nat) (h0 : b0.Keeps s) : b0.Keeps (State.discipline s p rootNs) := by
  unfold State.discipline
  repeat' (first | with_reducible assumption | intro _ _ _ | intro _ | with_reducible apply State.updPart_keeps | with_reducible apply State.freshNat_keeps | with_reducible apply State.setF_keeps | with_reducible apply State.raiseP_keeps | with_reducible apply State.Keeps.ite | with_reducible apply State.Keeps.ite2 | with_reducible apply State.Keeps.ite22 | with_reducible apply State.Keeps.ite222 | with_reducible apply State.Keeps.ite1 | with_reducible apply State.Keeps.ite21 | split | ((with_reducible conv => arg 2; whnf); split) | ((with_reducible conv => arg 2; arg 1; whnf); split) | ((with_reducible conv => arg 2; arg 1; arg 1; whnf); split) | with_reducible apply State.Keeps.mk_)

theorem State.forwardTick_keeps (b0 : State) (s : State) (index hops rootNs : Nat) (h0 : b0.Keeps s) : b0.Keeps (State.forwardTick s index hops rootNs) := by
  unfold State.forwardTick
  repeat' (first | with_reducible assumption | with_reducible apply State.Keeps.mk_ | intro _)

theorem doGstCtrlWrite_keeps (b0 : State) (p v : Nat) (s : State) (h0 : b0.Keeps s) : b0.Keeps (doGstCtrlWrite p v s) := by
  unfold doGstCtrlWrite
  repeat' (first | with_reducible assumption | intro _ _ _ | intro _ | with_reducible apply State.writeReg_keeps | with_reducible apply State.updPart_keeps | with_reducible apply State.showPending_keeps | with_reducible apply State.setFrameState_keeps | with_reducible apply State.settleIdle_keeps | with_reducible apply State.answer_keeps | with_reducible apply State.Keeps.ite | with_reducible apply State.Keeps.ite2 | with_reducible apply State.Keeps.ite22 | with_reducible apply State.Keeps.ite222 | with_reducible apply State.Keeps.ite1 | with_reducible apply State.Keeps.ite21 | split | ((with_reducible conv => arg 2; whnf); split) | ((with_reducible conv => arg 2; arg 1; whnf); split) | ((with_reducible conv => arg 2; arg 1; arg 1; whnf); split) | with_reducible apply State.Keeps.mk_)

theorem execGstCtrlWrite_keeps (b0 : State) (p : Fin 4) (val : Word) (s : State) (h0 : b0.Keeps s) : b0.KeepsOut (execGstCtrlWrite p val s) := by
  unfold execGstCtrlWrite
  repeat' (first | with_reducible assumption | with_reducible apply doGstCtrlWrite_keeps | with_reducible apply State.Keeps.next | intro _)

theorem doGstTickIssue_keeps (b0 : State) (p ns : Nat) (s : State) (h0 : b0.Keeps s) : b0.Keeps (doGstTickIssue p ns s) := by
  unfold doGstTickIssue
  repeat' (first | with_reducible assumption | intro _ _ _ | intro _ | with_reducible apply State.toNs_keeps | with_reducible apply State.advanceNs_keeps | with_reducible apply State.updPart_keeps | with_reducible apply State.acceptTick_keeps | with_reducible apply State.forwardTick_keeps | with_reducible apply State.Keeps.ite | with_reducible apply State.Keeps.ite2 | with_reducible apply State.Keeps.ite22 | with_reducible apply State.Keeps.ite222 | with_reducible apply State.Keeps.ite1 | with_reducible apply State.Keeps.ite21 | split | ((with_reducible conv => arg 2; whnf); split) | ((with_reducible conv => arg 2; arg 1; whnf); split) | ((with_reducible conv => arg 2; arg 1; arg 1; whnf); split) | with_reducible refine State.Keeps.eq2 (by with_reducible assumption) ?_ | with_reducible refine State.Keeps.eq22 (by with_reducible assumption) ?_ | with_reducible refine State.Keeps.eq222 (by with_reducible assumption) ?_ | with_reducible refine State.Keeps.eq1 (by with_reducible assumption) ?_ | with_reducible apply State.Keeps.mk_)

theorem execGstTickIssue_keeps (b0 : State) (p : Fin 4) (ns : Nat) (s : State) (h0 : b0.Keeps s) : b0.KeepsOut (execGstTickIssue p ns s) := by
  unfold execGstTickIssue
  repeat' (first | with_reducible assumption | with_reducible apply doGstTickIssue_keeps | with_reducible apply State.Keeps.next | intro _)

theorem State.formerRoot_keeps (b0 : State) (s : State) (p : Nat) (h0 : b0.Keeps s) : b0.Keeps (State.formerRoot s p) := by
  unfold State.formerRoot
  repeat' (first | with_reducible assumption | intro _ _ _ | intro _ | with_reducible apply State.updPart_keeps | with_reducible apply State.Keeps.ite | with_reducible apply State.Keeps.ite2 | with_reducible apply State.Keeps.ite22 | with_reducible apply State.Keeps.ite222 | with_reducible apply State.Keeps.ite1 | with_reducible apply State.Keeps.ite21 | split | ((with_reducible conv => arg 2; whnf); split) | ((with_reducible conv => arg 2; arg 1; whnf); split) | ((with_reducible conv => arg 2; arg 1; arg 1; whnf); split) | with_reducible apply State.Keeps.mk_)

theorem doTickReceive_keeps (b0 : State) (p port index rootNs hops ns : Nat) (s : State) (h0 : b0.Keeps s) : b0.Keeps (doTickReceive p port index rootNs hops ns s) := by
  unfold doTickReceive
  repeat' (first | with_reducible assumption | intro _ _ _ | intro _ | with_reducible apply State.toNs_keeps | with_reducible apply State.formerRoot_keeps | with_reducible apply State.discipline_keeps | with_reducible apply State.acceptTick_keeps | with_reducible apply State.forwardTick_keeps | with_reducible apply State.Keeps.ite | with_reducible apply State.Keeps.ite2 | with_reducible apply State.Keeps.ite22 | with_reducible apply State.Keeps.ite222 | with_reducible apply State.Keeps.ite1 | with_reducible apply State.Keeps.ite21 | split | ((with_reducible conv => arg 2; whnf); split) | ((with_reducible conv => arg 2; arg 1; whnf); split) | ((with_reducible conv => arg 2; arg 1; arg 1; whnf); split) | with_reducible refine State.Keeps.eq2 (by with_reducible assumption) ?_ | with_reducible refine State.Keeps.eq22 (by with_reducible assumption) ?_ | with_reducible refine State.Keeps.eq222 (by with_reducible assumption) ?_ | with_reducible refine State.Keeps.eq1 (by with_reducible assumption) ?_ | with_reducible apply State.Keeps.mk_)

theorem execTickReceive_keeps (b0 : State) (p : Fin 4) (port index rootNs hops ns : Nat) (s : State) (h0 : b0.Keeps s) : b0.KeepsOut (execTickReceive p port index rootNs hops ns s) := by
  unfold execTickReceive
  repeat' (first | with_reducible assumption | with_reducible apply doTickReceive_keeps | with_reducible apply State.Keeps.next | intro _)

theorem doGstTimeout_keeps (b0 : State) (p ns : Nat) (s : State) (h0 : b0.Keeps s) : b0.Keeps (doGstTimeout p ns s) := by
  unfold doGstTimeout
  repeat' (first | with_reducible assumption | intro _ _ _ | intro _ | with_reducible apply State.toNs_keeps | with_reducible apply State.updPart_keeps | with_reducible apply State.raiseP_keeps | with_reducible apply State.Keeps.ite | with_reducible apply State.Keeps.ite2 | with_reducible apply State.Keeps.ite22 | with_reducible apply State.Keeps.ite222 | with_reducible apply State.Keeps.ite1 | with_reducible apply State.Keeps.ite21 | split | ((with_reducible conv => arg 2; whnf); split) | ((with_reducible conv => arg 2; arg 1; whnf); split) | ((with_reducible conv => arg 2; arg 1; arg 1; whnf); split) | with_reducible apply State.Keeps.mk_)

theorem execGstTimeout_keeps (b0 : State) (p : Fin 4) (ns : Nat) (s : State) (h0 : b0.Keeps s) : b0.KeepsOut (execGstTimeout p ns s) := by
  unfold execGstTimeout
  repeat' (first | with_reducible assumption | with_reducible apply doGstTimeout_keeps | with_reducible apply State.Keeps.next | intro _)

theorem doStandbyRootTakeover_keeps (b0 : State) (p ns : Nat) (s : State) (h0 : b0.Keeps s) : b0.Keeps (doStandbyRootTakeover p ns s) := by
  unfold doStandbyRootTakeover
  repeat' (first | with_reducible assumption | intro _ _ _ | intro _ | with_reducible apply State.toNs_keeps | with_reducible apply State.updPart_keeps | with_reducible apply State.setF_keeps | with_reducible apply State.raiseP_keeps | with_reducible apply State.Keeps.ite | with_reducible apply State.Keeps.ite2 | with_reducible apply State.Keeps.ite22 | with_reducible apply State.Keeps.ite222 | with_reducible apply State.Keeps.ite1 | with_reducible apply State.Keeps.ite21 | split | ((with_reducible conv => arg 2; whnf); split) | ((with_reducible conv => arg 2; arg 1; whnf); split) | ((with_reducible conv => arg 2; arg 1; arg 1; whnf); split) | with_reducible apply State.Keeps.mk_)

theorem execStandbyRootTakeover_keeps (b0 : State) (p : Fin 4) (ns : Nat) (s : State) (h0 : b0.Keeps s) : b0.KeepsOut (execStandbyRootTakeover p ns s) := by
  unfold execStandbyRootTakeover
  repeat' (first | with_reducible assumption | with_reducible apply doStandbyRootTakeover_keeps | with_reducible apply State.Keeps.next | intro _)

theorem State.switchBank_keeps (b0 : State) (s : State) (die : Nat) (h0 : b0.Keeps s) : b0.Keeps (State.switchBank s die) := by
  unfold State.switchBank
  repeat' (first | with_reducible assumption | with_reducible apply State.setFs_keeps | with_reducible apply State.compatBit_keeps | with_reducible apply State.planBits_keeps | with_reducible apply State.Keeps.ite | split | ((with_reducible conv => arg 2; whnf); split) | intro _)

theorem State.scuStart_keeps (b0 : State) (s : State) (p j : Nat) (rerun : Bool) (h0 : b0.Keeps s) : b0.Keeps (State.scuStart s p j rerun) := by
  unfold State.scuStart
  repeat' (first | with_reducible assumption | intro _ _ _ | intro _ | with_reducible apply State.updDie_keeps | with_reducible apply State.setFs_keeps | with_reducible apply State.count_keeps | with_reducible apply State.expoStart_keeps | with_reducible apply State.Keeps.ite | with_reducible apply State.Keeps.foldl | with_reducible apply State.Keeps.foldl2 | with_reducible apply State.Keeps.foldl22 | with_reducible apply State.Keeps.foldl222 | with_reducible apply State.Keeps.foldl1 | split | ((with_reducible conv => arg 2; whnf); split))

theorem State.restStart_keeps (b0 : State) (s : State) (p j : Nat) (rerun : Bool) (h0 : b0.Keeps s) : b0.Keeps (State.restStart s p j rerun) := by
  unfold State.restStart
  repeat' (first | with_reducible assumption | intro _ _ _ | intro _ | with_reducible apply State.rollFences_keeps | with_reducible apply State.rollSeqs_keeps | with_reducible apply State.rollTots_keeps | with_reducible apply State.settleFences_keeps | with_reducible apply State.setF_keeps | with_reducible apply State.updPart_keeps | with_reducible apply State.updSeq_keeps | with_reducible apply State.Keeps.ite | with_reducible apply State.Keeps.ite2 | with_reducible apply State.Keeps.ite22 | with_reducible apply State.Keeps.ite222 | with_reducible apply State.Keeps.ite1 | with_reducible apply State.Keeps.ite21 | split | ((with_reducible conv => arg 2; whnf); split) | ((with_reducible conv => arg 2; arg 1; whnf); split) | ((with_reducible conv => arg 2; arg 1; arg 1; whnf); split) | with_reducible apply State.Keeps.mk_)

theorem doFrameStart_keeps (b0 : State) (p : Nat) (s : State) (h0 : b0.Keeps s) : b0.Keeps (doFrameStart p s) := by
  unfold doFrameStart
  repeat' (first | with_reducible assumption | intro _ _ _ | intro _ | with_reducible apply State.advanceCyc_keeps | with_reducible apply State.switchBank_keeps | with_reducible apply State.updPart_keeps | with_reducible apply State.showPending_keeps | with_reducible apply State.setFrameState_keeps | with_reducible apply State.raiseP_keeps | with_reducible apply State.setFs_keeps | with_reducible apply State.hwSet_keeps | with_reducible apply State.scuStart_keeps | with_reducible apply State.restStart_keeps | with_reducible apply State.trimHist_keeps | with_reducible apply State.Keeps.ite | with_reducible apply State.Keeps.ite2 | with_reducible apply State.Keeps.ite22 | with_reducible apply State.Keeps.ite222 | with_reducible apply State.Keeps.ite1 | with_reducible apply State.Keeps.ite21 | with_reducible apply State.Keeps.foldl | with_reducible apply State.Keeps.foldl2 | with_reducible apply State.Keeps.foldl22 | with_reducible apply State.Keeps.foldl222 | with_reducible apply State.Keeps.foldl1 | split | ((with_reducible conv => arg 2; whnf); split) | ((with_reducible conv => arg 2; arg 1; whnf); split) | ((with_reducible conv => arg 2; arg 1; arg 1; whnf); split) | with_reducible refine State.Keeps.eq2 (by with_reducible assumption) ?_ | with_reducible refine State.Keeps.eq22 (by with_reducible assumption) ?_ | with_reducible refine State.Keeps.eq222 (by with_reducible assumption) ?_ | with_reducible refine State.Keeps.eq1 (by with_reducible assumption) ?_ | with_reducible apply State.Keeps.mk_)

theorem execFrameStart_keeps (b0 : State) (p : Fin 4) (s : State) (h0 : b0.Keeps s) : b0.KeepsOut (execFrameStart p s) := by
  unfold execFrameStart
  repeat' (first | with_reducible assumption | with_reducible apply doFrameStart_keeps | with_reducible apply State.Keeps.next | intro _)

theorem State.closeReports_keeps (b0 : State) (s : State) (p c : Nat) (h0 : b0.Keeps s) : b0.Keeps (State.closeReports s p c) := by
  unfold State.closeReports
  repeat' (first | with_reducible assumption | intro _ _ _ | intro _ | with_reducible apply State.updPart_keeps | with_reducible apply State.raiseP_keeps | with_reducible apply State.hwSet_keeps | with_reducible apply State.Keeps.ite | with_reducible apply State.Keeps.ite2 | with_reducible apply State.Keeps.ite22 | with_reducible apply State.Keeps.ite222 | with_reducible apply State.Keeps.ite1 | with_reducible apply State.Keeps.ite21 | split | ((with_reducible conv => arg 2; whnf); split) | ((with_reducible conv => arg 2; arg 1; whnf); split) | ((with_reducible conv => arg 2; arg 1; arg 1; whnf); split) | with_reducible apply State.Keeps.mk_)

theorem State.afterClose_keeps (b0 : State) (s : State) (p c : Nat) (x : Part) (en ovr : Nat) (h0 : b0.Keeps s) : b0.Keeps (State.afterClose s p c x en ovr) := by
  unfold State.afterClose
  repeat' (first | with_reducible assumption | intro _ _ _ | intro _ | with_reducible apply State.darkSkipped_keeps | with_reducible apply State.setFrameState_keeps | with_reducible apply State.startFrameAt_keeps | with_reducible apply State.enterWait_keeps | with_reducible apply State.Keeps.ite | split | ((with_reducible conv => arg 2; whnf); split))

theorem doFrameClose_keeps (b0 : State) (p : Nat) (s : State) (h0 : b0.Keeps s) : b0.Keeps (doFrameClose p s) := by
  unfold doFrameClose
  repeat' (first | with_reducible assumption | intro _ _ _ | intro _ | with_reducible apply State.toCyc_keeps | with_reducible apply State.setFs_keeps | with_reducible apply State.closeReports_keeps | with_reducible apply State.countDies_keeps | with_reducible apply State.expoEnd_keeps | with_reducible apply State.afterClose_keeps | with_reducible apply State.applyDeferred_keeps | with_reducible apply State.Keeps.ite | with_reducible apply State.Keeps.ite2 | with_reducible apply State.Keeps.ite22 | with_reducible apply State.Keeps.ite222 | with_reducible apply State.Keeps.ite1 | with_reducible apply State.Keeps.ite21 | with_reducible apply State.Keeps.foldl | with_reducible apply State.Keeps.foldl2 | with_reducible apply State.Keeps.foldl22 | with_reducible apply State.Keeps.foldl222 | with_reducible apply State.Keeps.foldl1 | split | ((with_reducible conv => arg 2; whnf); split) | ((with_reducible conv => arg 2; arg 1; whnf); split) | ((with_reducible conv => arg 2; arg 1; arg 1; whnf); split) | with_reducible apply State.Keeps.mk_)

theorem execFrameClose_keeps (b0 : State) (p : Fin 4) (s : State) (h0 : b0.Keeps s) : b0.KeepsOut (execFrameClose p s) := by
  unfold execFrameClose
  repeat' (first | with_reducible assumption | with_reducible apply doFrameClose_keeps | with_reducible apply State.Keeps.next | intro _)

theorem doFrameLenReached_keeps (b0 : State) (p : Nat) (s : State) (h0 : b0.Keeps s) : b0.Keeps (doFrameLenReached p s) := by
  unfold doFrameLenReached
  repeat' (first | with_reducible assumption | intro _ _ _ | intro _ | with_reducible apply State.toCyc_keeps | with_reducible apply State.enterWait_keeps | with_reducible apply State.Keeps.ite | with_reducible apply State.Keeps.ite2 | with_reducible apply State.Keeps.ite22 | with_reducible apply State.Keeps.ite222 | with_reducible apply State.Keeps.ite1 | with_reducible apply State.Keeps.ite21 | split | ((with_reducible conv => arg 2; whnf); split) | ((with_reducible conv => arg 2; arg 1; whnf); split) | ((with_reducible conv => arg 2; arg 1; arg 1; whnf); split) | with_reducible apply State.Keeps.mk_)

theorem execFrameLenReached_keeps (b0 : State) (p : Fin 4) (s : State) (h0 : b0.Keeps s) : b0.KeepsOut (execFrameLenReached p s) := by
  unfold execFrameLenReached
  repeat' (first | with_reducible assumption | with_reducible apply doFrameLenReached_keeps | with_reducible apply State.Keeps.next | intro _)

theorem doFrameResume_keeps (b0 : State) (p : Nat) (s : State) (h0 : b0.Keeps s) : b0.Keeps (doFrameResume p s) := by
  unfold doFrameResume
  repeat' (first | with_reducible assumption | intro _ _ _ | intro _ | with_reducible apply State.answer_keeps | with_reducible apply State.updPart_keeps | with_reducible apply State.showPending_keeps | with_reducible apply State.enterWait_keeps | with_reducible apply State.Keeps.ite | split | ((with_reducible conv => arg 2; whnf); split) | with_reducible apply State.Keeps.mk_)

theorem execFrameResume_keeps (b0 : State) (p : Fin 4) (s : State) (h0 : b0.Keeps s) : b0.KeepsOut (execFrameResume p s) := by
  unfold execFrameResume
  repeat' (first | with_reducible assumption | with_reducible apply doFrameResume_keeps | with_reducible apply State.Keeps.next | intro _)

theorem doFrameDrained_keeps (b0 : State) (p : Nat) (s : State) (h0 : b0.Keeps s) : b0.Keeps (doFrameDrained p s) := by
  unfold doFrameDrained
  repeat' (first | with_reducible assumption | intro _ _ _ | intro _ | with_reducible apply State.stopCores_keeps | with_reducible apply State.darkSkipped_keeps | with_reducible apply State.setF_keeps | with_reducible apply State.expoEnd_keeps | with_reducible apply State.updPart_keeps | with_reducible apply State.setFrameState_keeps | with_reducible apply State.enterWait_keeps | with_reducible apply State.startFrameAt_keeps | with_reducible apply State.raiseP_keeps | with_reducible apply State.applyDeferred_keeps | with_reducible apply State.Keeps.ite | with_reducible apply State.Keeps.ite2 | with_reducible apply State.Keeps.ite22 | with_reducible apply State.Keeps.ite222 | with_reducible apply State.Keeps.ite1 | with_reducible apply State.Keeps.ite21 | with_reducible apply State.Keeps.foldl | with_reducible apply State.Keeps.foldl2 | with_reducible apply State.Keeps.foldl22 | with_reducible apply State.Keeps.foldl222 | with_reducible apply State.Keeps.foldl1 | split | ((with_reducible conv => arg 2; whnf); split) | ((with_reducible conv => arg 2; arg 1; whnf); split) | ((with_reducible conv => arg 2; arg 1; arg 1; whnf); split) | with_reducible refine State.Keeps.eq2 (by with_reducible assumption) ?_ | with_reducible refine State.Keeps.eq22 (by with_reducible assumption) ?_ | with_reducible refine State.Keeps.eq222 (by with_reducible assumption) ?_ | with_reducible refine State.Keeps.eq1 (by with_reducible assumption) ?_ | with_reducible apply State.Keeps.mk_)

theorem execFrameDrained_keeps (b0 : State) (p : Fin 4) (s : State) (h0 : b0.Keeps s) : b0.KeepsOut (execFrameDrained p s) := by
  unfold execFrameDrained
  repeat' (first | with_reducible assumption | with_reducible apply doFrameDrained_keeps | with_reducible apply State.Keeps.next | intro _)

end Sys2Proof.Machine
end

