-- ==== Sys2Proof/Laws/KeepsTeller.lean ====
section
/-! SUPPORT. What every operation of Machine/Teller.lean keeps: the queue, the part, and the canonical forms. -/
namespace Sys2Proof.Machine

set_option linter.all false
set_option Elab.async false

theorem State.respond_keeps (b0 : State) (s : State) (r : TellerReq) (op status ticket : Nat) (payload : List Byte) (key : Option (List Byte)) (h0 : b0.Keeps s) : b0.Keeps (State.respond s r op status ticket payload key) := by
  unfold State.respond
  repeat' (first | with_reducible assumption | intro _ _ _ | intro _ | with_reducible apply State.hwSet_keeps | with_reducible apply State.setF_keeps | with_reducible apply State.answerBytes_keeps | with_reducible apply State.Keeps.elim | split | ((with_reducible conv => arg 2; whnf); split) | ((with_reducible conv => arg 2; arg 1; whnf); split) | ((with_reducible conv => arg 2; arg 1; arg 1; whnf); split) | with_reducible apply State.Keeps.mk_)

theorem State.checkReq_keeps (b0 : State) (s : State) (r : TellerReq) (k : RKind) (h0 : b0.Keeps s) : b0.Keeps (State.checkReq s r k).2.2 := by
  unfold State.checkReq
  repeat' (first | with_reducible assumption | with_reducible apply State.Keeps.ite | with_reducible apply State.Keeps.ite2 | with_reducible apply State.Keeps.ite22 | with_reducible apply State.Keeps.ite222 | with_reducible apply State.Keeps.ite1 | with_reducible apply State.Keeps.ite21 | split | ((with_reducible conv => arg 2; whnf); split) | ((with_reducible conv => arg 2; arg 1; whnf); split) | ((with_reducible conv => arg 2; arg 1; arg 1; whnf); split) | with_reducible refine State.Keeps.eq2 (by with_reducible assumption) ?_ | with_reducible refine State.Keeps.eq22 (by with_reducible assumption) ?_ | with_reducible refine State.Keeps.eq222 (by with_reducible assumption) ?_ | with_reducible refine State.Keeps.eq1 (by with_reducible assumption) ?_ | with_reducible apply State.Keeps.mk_ | intro _)

theorem State.refuseReq_keeps (b0 : State) (s : State) (r : TellerReq) (op code loc : Nat) (key : Option (List Byte)) (h0 : b0.Keeps s) : b0.Keeps (State.refuseReq s r op code loc key) := by
  unfold State.refuseReq
  repeat' (first | with_reducible assumption | intro _ _ _ | intro _ | with_reducible apply State.raise_keeps | with_reducible apply State.respond_keeps | with_reducible apply State.Keeps.mk_)

theorem State.serve_keeps (b0 : State) (s : State) (r : TellerReq) (k : RKind) (loc : Nat) (act : State → Reply × State) (h0 : b0.Keeps s) (hact : ∀ u, b0.Keeps u → b0.Keeps (act u).2) :
    b0.Keeps (State.serve s r k loc act) := by
  unfold State.serve
  repeat' (first | with_reducible assumption | with_reducible apply hact | intro _ _ _ | intro _ | with_reducible apply State.checkReq_keeps | with_reducible apply State.refuseReq_keeps | with_reducible apply State.respond_keeps | with_reducible apply State.raise_keeps | with_reducible apply State.Keeps.ite | with_reducible apply State.Keeps.ite2 | with_reducible apply State.Keeps.ite22 | with_reducible apply State.Keeps.ite222 | with_reducible refine State.Keeps.eq2 (by with_reducible assumption) ?_ | with_reducible refine State.Keeps.eq22 (by with_reducible assumption) ?_ | with_reducible refine State.Keeps.eq222 (by with_reducible assumption) ?_ | (with_reducible dsimp only []) | split | with_reducible apply State.Keeps.mk_)

theorem State.tellerView_keeps (b0 : State) (s : State) (h0 : b0.Keeps s) : b0.Keeps (State.tellerView s) := by
  unfold State.tellerView
  repeat' (first | with_reducible assumption | intro _ _ _ | intro _ | with_reducible apply State.setFs_keeps | with_reducible apply State.Keeps.ite | with_reducible apply State.Keeps.foldl | with_reducible apply State.Keeps.foldl2 | with_reducible apply State.Keeps.foldl22 | with_reducible apply State.Keeps.foldl222 | with_reducible apply State.Keeps.foldl1 | split | ((with_reducible conv => arg 2; whnf); split))

theorem State.endIde_keeps (b0 : State) (s : State) (p : Nat) (h0 : b0.Keeps s) : b0.Keeps (State.endIde s p) := by
  unfold State.endIde
  repeat' (first | with_reducible assumption | intro _ _ _ | intro _ | with_reducible apply State.setF_keeps | split | ((with_reducible conv => arg 2; whnf); split) | ((with_reducible conv => arg 2; arg 1; whnf); split) | ((with_reducible conv => arg 2; arg 1; arg 1; whnf); split) | with_reducible apply State.Keeps.mk_)

theorem State.endSession_keeps (b0 : State) (s : State) (p id : Nat) (h0 : b0.Keeps s) : b0.Keeps (State.endSession s p id) := by
  unfold State.endSession
  repeat' (first | with_reducible assumption | intro _ _ _ | intro _ | with_reducible apply State.endIde_keeps | with_reducible apply State.alert_keeps | with_reducible apply State.tellerView_keeps | with_reducible apply State.Keeps.foldl | with_reducible apply State.Keeps.foldl2 | with_reducible apply State.Keeps.foldl22 | with_reducible apply State.Keeps.foldl222 | with_reducible apply State.Keeps.foldl1 | split | ((with_reducible conv => arg 2; whnf); split) | ((with_reducible conv => arg 2; arg 1; whnf); split) | ((with_reducible conv => arg 2; arg 1; arg 1; whnf); split) | with_reducible apply State.Keeps.mk_)

theorem doSessionInit_keeps (b0 : State) (r : TellerReq) (s : State) (h0 : b0.Keeps s) : b0.Keeps (doSessionInit r s) := by
  unfold doSessionInit
  refine State.serve_keeps _ _ _ _ _ _ h0 ?_
  intro u hu
  have h1 := State.freshBytes_keeps _ _ 32 (State.freshBytes_keeps _ u 64 hu)
  split
  rename_i seed s1 e1
  split
  rename_i np s2 e2
  have h2 : b0.Keeps s2 := by
    refine State.Keeps.eq2 e2 ?_
    refine State.freshBytes_keeps _ _ _ ?_
    exact State.Keeps.eq2 e1 (State.freshBytes_keeps _ u 64 hu)
  extract_lets ek
  split
  rename_i sig s3 e3
  have h3 : b0.Keeps s3 := State.Keeps.eq2 e3 (State.sign_keeps _ _ _ _ h2)
  exact State.Keeps.mk_ h3

theorem execSessionInit_keeps (b0 : State) (req : TellerReq) (s : State) (h0 : b0.Keeps s) : b0.KeepsOut (execSessionInit req s) := by
  unfold execSessionInit
  repeat' (first | with_reducible assumption | with_reducible apply doSessionInit_keeps | with_reducible apply State.Keeps.next | intro _)

theorem doSessionInitExpiry_keeps (b0 : State) (h : Nat) (s : State) (h0 : b0.Keeps s) : b0.Keeps (doSessionInitExpiry h s) := by
  unfold doSessionInitExpiry
  repeat' (first | with_reducible assumption | intro _ _ _ | intro _ | with_reducible apply State.toNs_keeps | split | ((with_reducible conv => arg 2; whnf); split) | with_reducible refine State.Keeps.eq2 (by with_reducible assumption) ?_ | with_reducible refine State.Keeps.eq22 (by with_reducible assumption) ?_ | with_reducible refine State.Keeps.eq222 (by with_reducible assumption) ?_ | with_reducible refine State.Keeps.eq1 (by with_reducible assumption) ?_ | with_reducible apply State.Keeps.mk_)

theorem execSessionInitExpiry_keeps (b0 : State) (host : Fin 16) (s : State) (h0 : b0.Keeps s) : b0.KeepsOut (execSessionInitExpiry host s) := by
  unfold execSessionInitExpiry
  repeat' (first | with_reducible assumption | with_reducible apply doSessionInitExpiry_keeps | with_reducible apply State.Keeps.next | intro _)

theorem doSessionFinish_keeps (b0 : State) (r : TellerReq) (s : State) (h0 : b0.Keeps s) : b0.Keeps (doSessionFinish r s) := by
  unfold doSessionFinish
  repeat' (first | with_reducible assumption | intro _ _ _ | intro _ | with_reducible apply State.checkReq_keeps | with_reducible apply State.refuseReq_keeps | with_reducible apply State.verify_keeps | with_reducible apply State.endSession_keeps | with_reducible apply State.tellerView_keeps | with_reducible apply State.raise_keeps | with_reducible apply State.respond_keeps | with_reducible apply State.Keeps.ite | with_reducible apply State.Keeps.ite2 | with_reducible apply State.Keeps.ite22 | with_reducible apply State.Keeps.ite222 | with_reducible apply State.Keeps.ite1 | with_reducible apply State.Keeps.ite21 | split | ((with_reducible conv => arg 2; whnf); split) | ((with_reducible conv => arg 2; arg 1; whnf); split) | ((with_reducible conv => arg 2; arg 1; arg 1; whnf); split) | with_reducible refine State.Keeps.eq2 (by with_reducible assumption) ?_ | with_reducible refine State.Keeps.eq22 (by with_reducible assumption) ?_ | with_reducible refine State.Keeps.eq222 (by with_reducible assumption) ?_ | with_reducible refine State.Keeps.eq1 (by with_reducible assumption) ?_ | with_reducible apply State.Keeps.mk_)

theorem execSessionFinish_keeps (b0 : State) (req : TellerReq) (s : State) (h0 : b0.Keeps s) : b0.KeepsOut (execSessionFinish req s) := by
  unfold execSessionFinish
  repeat' (first | with_reducible assumption | with_reducible apply doSessionFinish_keeps | with_reducible apply State.Keeps.next | intro _)

theorem doSessionClose_keeps (b0 : State) (r : TellerReq) (s : State) (h0 : b0.Keeps s) : b0.Keeps (doSessionClose r s) := by
  unfold doSessionClose
  repeat' (first | with_reducible assumption | intro _ _ _ | intro _ | with_reducible apply State.serve_keeps | with_reducible apply State.endSession_keeps | split | ((with_reducible conv => arg 2; whnf); split))

theorem execSessionClose_keeps (b0 : State) (req : TellerReq) (s : State) (h0 : b0.Keeps s) : b0.KeepsOut (execSessionClose req s) := by
  unfold execSessionClose
  repeat' (first | with_reducible assumption | with_reducible apply doSessionClose_keeps | with_reducible apply State.Keeps.next | intro _)

theorem doIdeStart_keeps (b0 : State) (r : TellerReq) (s : State) (h0 : b0.Keeps s) : b0.Keeps (doIdeStart r s) := by
  unfold doIdeStart
  repeat' (first | with_reducible assumption | intro _ _ _ | intro _ | with_reducible apply State.serve_keeps | with_reducible apply State.endIde_keeps | with_reducible apply State.setF_keeps | split | ((with_reducible conv => arg 2; whnf); split) | with_reducible apply State.Keeps.mk_)

theorem execIdeStart_keeps (b0 : State) (req : TellerReq) (s : State) (h0 : b0.Keeps s) : b0.KeepsOut (execIdeStart req s) := by
  unfold execIdeStart
  repeat' (first | with_reducible assumption | with_reducible apply doIdeStart_keeps | with_reducible apply State.Keeps.next | intro _)

theorem doTellerIdentity_keeps (b0 : State) (r : TellerReq) (s : State) (h0 : b0.Keeps s) : b0.Keeps (doTellerIdentity r s) := by
  unfold doTellerIdentity
  repeat' (first | with_reducible assumption | intro _ _ _ | intro _ | with_reducible apply State.serve_keeps | split | ((with_reducible conv => arg 2; whnf); split) | ((with_reducible conv => arg 2; arg 1; whnf); split) | ((with_reducible conv => arg 2; arg 1; arg 1; whnf); split) | with_reducible refine State.Keeps.eq2 (by with_reducible assumption) ?_ | with_reducible refine State.Keeps.eq22 (by with_reducible assumption) ?_ | with_reducible refine State.Keeps.eq222 (by with_reducible assumption) ?_ | with_reducible refine State.Keeps.eq1 (by with_reducible assumption) ?_)

theorem execTellerIdentity_keeps (b0 : State) (req : TellerReq) (s : State) (h0 : b0.Keeps s) : b0.KeepsOut (execTellerIdentity req s) := by
  unfold execTellerIdentity
  repeat' (first | with_reducible assumption | with_reducible apply doTellerIdentity_keeps | with_reducible apply State.Keeps.next | intro _)

theorem doAttest_keeps (b0 : State) (r : TellerReq) (s : State) (h0 : b0.Keeps s) : b0.Keeps (doAttest r s) := by
  unfold doAttest
  repeat' (first | with_reducible assumption | intro _ _ _ | intro _ | with_reducible apply State.serve_keeps | with_reducible apply State.sign_keeps | split | ((with_reducible conv => arg 2; whnf); split) | ((with_reducible conv => arg 2; arg 1; whnf); split) | ((with_reducible conv => arg 2; arg 1; arg 1; whnf); split))

theorem execAttest_keeps (b0 : State) (req : TellerReq) (s : State) (h0 : b0.Keeps s) : b0.KeepsOut (execAttest req s) := by
  unfold execAttest
  repeat' (first | with_reducible assumption | with_reducible apply doAttest_keeps | with_reducible apply State.Keeps.next | intro _)

theorem doTellerTicket_keeps (b0 : State) (r : TellerReq) (s : State) (h0 : b0.Keeps s) : b0.Keeps (doTellerTicket r s) := by
  unfold doTellerTicket
  repeat' (first | with_reducible assumption | intro _ _ _ | intro _ | with_reducible apply State.serve_keeps | with_reducible apply State.freshBytes_keeps | with_reducible apply State.freshNat_keeps | with_reducible apply State.Keeps.ite | with_reducible apply State.Keeps.ite2 | with_reducible apply State.Keeps.ite22 | with_reducible apply State.Keeps.ite222 | with_reducible apply State.Keeps.ite1 | with_reducible apply State.Keeps.ite21 | split | ((with_reducible conv => arg 2; whnf); split) | ((with_reducible conv => arg 2; arg 1; whnf); split) | ((with_reducible conv => arg 2; arg 1; arg 1; whnf); split) | with_reducible refine State.Keeps.eq2 (by with_reducible assumption) ?_ | with_reducible refine State.Keeps.eq22 (by with_reducible assumption) ?_ | with_reducible refine State.Keeps.eq222 (by with_reducible assumption) ?_ | with_reducible refine State.Keeps.eq1 (by with_reducible assumption) ?_)

theorem execTellerTicket_keeps (b0 : State) (req : TellerReq) (s : State) (h0 : b0.Keeps s) : b0.KeepsOut (execTellerTicket req s) := by
  unfold execTellerTicket
  repeat' (first | with_reducible assumption | with_reducible apply doTellerTicket_keeps | with_reducible apply State.Keeps.next | intro _)

theorem State.ticketDone_keeps (b0 : State) (s : State) (t : Ticket) (code : Nat) (h0 : b0.Keeps s) : b0.Keeps (State.ticketDone s t code) := by
  unfold State.ticketDone
  repeat' (first | with_reducible assumption | with_reducible apply State.endTicket_keeps | with_reducible apply State.alert_keeps | with_reducible apply State.tellerView_keeps | intro _)

theorem doJobKeygen_keeps (b0 : State) (r : TellerReq) (s : State) (h0 : b0.Keeps s) : b0.Keeps (doJobKeygen r s) := by
  unfold doJobKeygen
  repeat' (first | with_reducible assumption | intro _ _ _ | intro _ | with_reducible apply State.serve_keeps | with_reducible apply State.sign_keeps | split | ((with_reducible conv => arg 2; whnf); split) | ((with_reducible conv => arg 2; arg 1; whnf); split) | ((with_reducible conv => arg 2; arg 1; arg 1; whnf); split) | with_reducible apply State.Keeps.mk_)

theorem execJobKeygen_keeps (b0 : State) (req : TellerReq) (s : State) (h0 : b0.Keeps s) : b0.KeepsOut (execJobKeygen req s) := by
  unfold execJobKeygen
  repeat' (first | with_reducible assumption | with_reducible apply doJobKeygen_keeps | with_reducible apply State.Keeps.next | intro _)

theorem doJobKeylist_keeps (b0 : State) (r : TellerReq) (s : State) (h0 : b0.Keeps s) : b0.Keeps (doJobKeylist r s) := by
  unfold doJobKeylist
  repeat' (first | with_reducible assumption | intro _ _ _ | intro _ | with_reducible apply State.serve_keeps | split | ((with_reducible conv => arg 2; whnf); split) | ((with_reducible conv => arg 2; arg 1; whnf); split) | ((with_reducible conv => arg 2; arg 1; arg 1; whnf); split) | with_reducible apply State.Keeps.mk_)

theorem execJobKeylist_keeps (b0 : State) (req : TellerReq) (s : State) (h0 : b0.Keeps s) : b0.KeepsOut (execJobKeylist req s) := by
  unfold execJobKeylist
  repeat' (first | with_reducible assumption | with_reducible apply doJobKeylist_keeps | with_reducible apply State.Keeps.next | intro _)

theorem doNvmUpdate_keeps (b0 : State) (r : TellerReq) (s : State) (h0 : b0.Keeps s) : b0.Keeps (doNvmUpdate r s) := by
  unfold doNvmUpdate
  repeat' (first | with_reducible assumption | intro _ _ _ | intro _ | with_reducible apply State.serve_keeps | with_reducible apply State.checkImage_keeps | with_reducible apply State.newTicket_keeps | with_reducible apply State.tellerView_keeps | with_reducible apply State.Keeps.ite | with_reducible apply State.Keeps.ite2 | with_reducible apply State.Keeps.ite22 | with_reducible apply State.Keeps.ite222 | with_reducible apply State.Keeps.ite1 | with_reducible apply State.Keeps.ite21 | split | ((with_reducible conv => arg 2; whnf); split) | ((with_reducible conv => arg 2; arg 1; whnf); split) | ((with_reducible conv => arg 2; arg 1; arg 1; whnf); split))

theorem execNvmUpdate_keeps (b0 : State) (req : TellerReq) (s : State) (h0 : b0.Keeps s) : b0.KeepsOut (execNvmUpdate req s) := by
  unfold execNvmUpdate
  repeat' (first | with_reducible assumption | with_reducible apply doNvmUpdate_keeps | with_reducible apply State.Keeps.next | intro _)

theorem doNvmUpdateDone_keeps (b0 : State) (s : State) (h0 : b0.Keeps s) : b0.Keeps (doNvmUpdateDone s) := by
  unfold doNvmUpdateDone
  repeat' (first | with_reducible assumption | with_reducible apply State.writeImage_keeps | with_reducible apply State.ticketDone_keeps | with_reducible apply State.Keeps.ite | split | ((with_reducible conv => arg 2; whnf); split) | with_reducible refine State.Keeps.eq2 (by with_reducible assumption) ?_ | with_reducible refine State.Keeps.eq22 (by with_reducible assumption) ?_ | with_reducible refine State.Keeps.eq222 (by with_reducible assumption) ?_ | with_reducible refine State.Keeps.eq1 (by with_reducible assumption) ?_ | intro _)

theorem execNvmUpdateDone_keeps (b0 : State) (s : State) (h0 : b0.Keeps s) : b0.KeepsOut (execNvmUpdateDone s) := by
  unfold execNvmUpdateDone
  repeat' (first | with_reducible assumption | with_reducible apply doNvmUpdateDone_keeps | with_reducible apply State.Keeps.next | intro _)

theorem doSvnAdvance_keeps (b0 : State) (r : TellerReq) (s : State) (h0 : b0.Keeps s) : b0.Keeps (doSvnAdvance r s) := by
  unfold doSvnAdvance
  refine State.serve_keeps _ _ _ _ _ _ h0 ?_
  intro u hu
  exact State.setF_keeps _ _ _ _ (State.Keeps.fuses hu _ rfl rfl (fun o e => e))

theorem execSvnAdvance_keeps (b0 : State) (req : TellerReq) (s : State) (h0 : b0.Keeps s) : b0.KeepsOut (execSvnAdvance req s) := by
  unfold execSvnAdvance
  repeat' (first | with_reducible assumption | with_reducible apply doSvnAdvance_keeps | with_reducible apply State.Keeps.next | intro _)

theorem doTellerReset_keeps (b0 : State) (r : TellerReq) (s : State) (h0 : b0.Keeps s) : b0.Keeps (doTellerReset r s) := by
  unfold doTellerReset
  repeat' (first | with_reducible assumption | intro _ _ _ | intro _ | with_reducible apply State.serve_keeps | split | ((with_reducible conv => arg 2; whnf); split) | with_reducible apply State.Keeps.mk_)

theorem execTellerReset_keeps (b0 : State) (req : TellerReq) (s : State) (h0 : b0.Keeps s) : b0.KeepsOut (execTellerReset req s) := by
  unfold execTellerReset
  repeat' (first | with_reducible assumption | with_reducible apply doTellerReset_keeps | with_reducible apply State.Keeps.next | intro _)

theorem doTellerUnlistedOp_keeps (b0 : State) (r : TellerReq) (s : State) (h0 : b0.Keeps s) : b0.Keeps (doTellerUnlistedOp r s) := by
  unfold doTellerUnlistedOp
  repeat' (first | with_reducible assumption | intro _ _ _ | intro _ | with_reducible apply State.refuseReq_keeps | with_reducible apply State.Keeps.ite | with_reducible apply State.Keeps.ite2 | with_reducible apply State.Keeps.ite22 | with_reducible apply State.Keeps.ite222 | with_reducible apply State.Keeps.ite1 | with_reducible apply State.Keeps.ite21 | split | ((with_reducible conv => arg 2; whnf); split) | ((with_reducible conv => arg 2; arg 1; whnf); split) | ((with_reducible conv => arg 2; arg 1; arg 1; whnf); split) | with_reducible apply State.Keeps.mk_)

theorem execTellerUnlistedOp_keeps (b0 : State) (req : TellerReq) (s : State) (h0 : b0.Keeps s) : b0.KeepsOut (execTellerUnlistedOp req s) := by
  unfold execTellerUnlistedOp
  repeat' (first | with_reducible assumption | with_reducible apply doTellerUnlistedOp_keeps | with_reducible apply State.Keeps.next | intro _)

theorem doHostRingWrite_keeps (b0 : State) (p v : Nat) (s : State) (h0 : b0.Keeps s) : b0.Keeps (doHostRingWrite p v s) := by
  unfold doHostRingWrite
  repeat' (first | with_reducible assumption | intro _ _ _ | intro _ | with_reducible apply State.satF_keeps | with_reducible apply State.answer_keeps | with_reducible apply State.setF_keeps | with_reducible apply State.sendDep_keeps | with_reducible apply State.updPart_keeps | with_reducible apply State.Keeps.ite | with_reducible apply State.Keeps.foldl | with_reducible apply State.Keeps.foldl2 | with_reducible apply State.Keeps.foldl22 | with_reducible apply State.Keeps.foldl222 | with_reducible apply State.Keeps.foldl1 | split | ((with_reducible conv => arg 2; whnf); split) | with_reducible apply State.Keeps.mk_)

theorem execHostRingWrite_keeps (b0 : State) (p : Fin 4) (val : Word) (s : State) (h0 : b0.Keeps s) : b0.KeepsOut (execHostRingWrite p val s) := by
  unfold execHostRingWrite
  repeat' (first | with_reducible assumption | with_reducible apply doHostRingWrite_keeps | with_reducible apply State.Keeps.next | intro _)

theorem doHostCxlMemAccess_keeps (b0 : State) (p : Nat) (write : Bool) (addr : Nat) (data : List Byte) (len : Nat) (s : State) (h0 : b0.Keeps s) : b0.Keeps (doHostCxlMemAccess p write addr data len s) := by
  unfold doHostCxlMemAccess
  repeat' (first | with_reducible assumption | intro _ _ _ | intro _ | with_reducible apply State.satF_keeps | with_reducible apply State.answer_keeps | with_reducible apply State.extWrite_keeps | with_reducible apply State.extRead_keeps | with_reducible apply State.answerBytes_keeps | with_reducible apply State.Keeps.ite | with_reducible apply State.Keeps.ite2 | with_reducible apply State.Keeps.ite22 | with_reducible apply State.Keeps.ite222 | with_reducible apply State.Keeps.ite1 | with_reducible apply State.Keeps.ite21 | split | ((with_reducible conv => arg 2; whnf); split) | ((with_reducible conv => arg 2; arg 1; whnf); split) | ((with_reducible conv => arg 2; arg 1; arg 1; whnf); split) | with_reducible refine State.Keeps.eq2 (by with_reducible assumption) ?_ | with_reducible refine State.Keeps.eq22 (by with_reducible assumption) ?_ | with_reducible refine State.Keeps.eq222 (by with_reducible assumption) ?_ | with_reducible refine State.Keeps.eq1 (by with_reducible assumption) ?_ | with_reducible apply State.Keeps.mk_)

theorem execHostCxlMemAccess_keeps (b0 : State) (p : Fin 4) (write : Bool) (addr : Nat) (data : List Byte) (len : Nat) (s : State) (h0 : b0.Keeps s) : b0.KeepsOut (execHostCxlMemAccess p write addr data len s) := by
  unfold execHostCxlMemAccess
  repeat' (first | with_reducible assumption | intro _ _ _ | intro _ | with_reducible apply State.orWait_keeps | with_reducible apply doHostCxlMemAccess_keeps | with_reducible apply State.Keeps.next | with_reducible apply State.Keeps.mk_)

theorem doHostPerst_keeps (b0 : State) (s : State) (h0 : b0.Keeps s) : b0.Keeps (doHostPerst s) := by
  unfold doHostPerst
  repeat' (first | with_reducible assumption | intro _ _ _ | intro _ | with_reducible apply State.setFs_keeps | with_reducible apply State.endIde_keeps | with_reducible apply State.Keeps.foldl | with_reducible apply State.Keeps.foldl2 | with_reducible apply State.Keeps.foldl22 | with_reducible apply State.Keeps.foldl222 | with_reducible apply State.Keeps.foldl1 | split | ((with_reducible conv => arg 2; whnf); split))

theorem execHostPerst_keeps (b0 : State) (s : State) (h0 : b0.Keeps s) : b0.KeepsOut (execHostPerst s) := by
  unfold execHostPerst
  repeat' (first | with_reducible assumption | with_reducible apply doHostPerst_keeps | with_reducible apply State.Keeps.next | intro _)

theorem doHostPerstRelease_keeps (b0 : State) (s : State) (h0 : b0.Keeps s) : b0.Keeps (doHostPerstRelease s) := by
  unfold doHostPerstRelease
  repeat' (first | with_reducible assumption | with_reducible apply State.setFs_keeps | with_reducible apply State.Keeps.ite | split | ((with_reducible conv => arg 2; whnf); split) | intro _)

theorem execHostPerstRelease_keeps (b0 : State) (s : State) (h0 : b0.Keeps s) : b0.KeepsOut (execHostPerstRelease s) := by
  unfold execHostPerstRelease
  repeat' (first | with_reducible assumption | with_reducible apply doHostPerstRelease_keeps | with_reducible apply State.Keeps.next | intro _)

end Sys2Proof.Machine
end

