-- ==== Sys2Proof/Laws/KeepsService.lean ====
section
/-! SUPPORT. What every operation of Machine/Service.lean keeps: the queue, the part, and the canonical forms. -/
namespace Sys2Proof.Machine

set_option linter.all false
set_option Elab.async false

theorem doRbRecordWrite_keeps (b0 : State) (s : State) (h0 : b0.Keeps s) : b0.Keeps (doRbRecordWrite s) := by
  unfold doRbRecordWrite
  repeat' (first | with_reducible assumption | intro _ _ _ | intro _ | with_reducible apply State.writeRecord_keeps | with_reducible apply State.ticketDone_keeps | with_reducible apply State.Keeps.ite | with_reducible apply State.Keeps.elim | split | ((with_reducible conv => arg 2; whnf); split))

theorem execRbRecordWrite_keeps (b0 : State) (s : State) (h0 : b0.Keeps s) : b0.KeepsOut (execRbRecordWrite s) := by
  unfold execRbRecordWrite
  repeat' (first | with_reducible assumption | with_reducible apply doRbRecordWrite_keeps | with_reducible apply State.Keeps.next | intro _)

theorem State.applyLane_keeps (b0 : State) (s : State) (p lane : Nat) (h0 : b0.Keeps s) : b0.Keeps (State.applyLane s p lane).2 := by
  unfold State.applyLane
  repeat' (first | with_reducible assumption | intro _ _ _ | intro _ | with_reducible apply State.portDown_keeps | with_reducible apply State.setFs_keeps | with_reducible apply State.dirty_keeps | with_reducible apply State.Keeps.ite | with_reducible apply State.Keeps.ite2 | with_reducible apply State.Keeps.ite22 | with_reducible apply State.Keeps.ite222 | with_reducible apply State.Keeps.ite1 | with_reducible apply State.Keeps.ite21 | split | ((with_reducible conv => arg 2; whnf); split) | ((with_reducible conv => arg 2; arg 1; whnf); split) | ((with_reducible conv => arg 2; arg 1; arg 1; whnf); split) | with_reducible refine State.Keeps.eq2 (by with_reducible assumption) ?_ | with_reducible refine State.Keeps.eq22 (by with_reducible assumption) ?_ | with_reducible refine State.Keeps.eq222 (by with_reducible assumption) ?_ | with_reducible refine State.Keeps.eq1 (by with_reducible assumption) ?_ | with_reducible apply State.Keeps.mk_)

theorem State.applySlot_keeps (b0 : State) (s : State) (bulk : Bool) (n : Nat) (h0 : b0.Keeps s) : b0.Keeps (State.applySlot s bulk n).2 := by
  unfold State.applySlot
  repeat' (first | with_reducible assumption | intro _ _ _ | intro _ | with_reducible apply State.updColl_keeps | with_reducible apply doReSlotSpare_keeps | with_reducible apply State.Keeps.ite | with_reducible apply State.Keeps.ite2 | with_reducible apply State.Keeps.ite22 | with_reducible apply State.Keeps.ite222 | with_reducible apply State.Keeps.ite1 | with_reducible apply State.Keeps.ite21 | split | ((with_reducible conv => arg 2; whnf); split) | ((with_reducible conv => arg 2; arg 1; whnf); split) | ((with_reducible conv => arg 2; arg 1; arg 1; whnf); split) | with_reducible apply State.Keeps.mk_)

theorem State.applySpare_keeps (b0 : State) (s : State) (kind hi lo : Nat) (h0 : b0.Keeps s) : b0.Keeps (State.applySpare s kind hi lo).2 := by
  unfold State.applySpare
  repeat' (first | with_reducible assumption | intro _ _ _ | intro _ | with_reducible apply State.startBringIn_keeps | with_reducible apply hbmRetire_keeps | with_reducible apply State.applyLane_keeps | with_reducible apply State.applySlot_keeps | with_reducible apply State.Keeps.ite | with_reducible apply State.Keeps.ite2 | with_reducible apply State.Keeps.ite22 | with_reducible apply State.Keeps.ite222 | with_reducible apply State.Keeps.ite1 | with_reducible apply State.Keeps.ite21 | split | ((with_reducible conv => arg 2; whnf); split) | ((with_reducible conv => arg 2; arg 1; whnf); split) | ((with_reducible conv => arg 2; arg 1; arg 1; whnf); split) | with_reducible refine State.Keeps.eq2 (by with_reducible assumption) ?_ | with_reducible refine State.Keeps.eq22 (by with_reducible assumption) ?_ | with_reducible refine State.Keeps.eq222 (by with_reducible assumption) ?_ | with_reducible refine State.Keeps.eq1 (by with_reducible assumption) ?_)

theorem doSpareApply_keeps (b0 : State) (r : TellerReq) (s : State) (h0 : b0.Keeps s) : b0.Keeps (doSpareApply r s) := by
  unfold doSpareApply
  repeat' (first | with_reducible assumption | intro _ _ _ | intro _ | with_reducible apply State.serve_keeps | with_reducible apply State.applySpare_keeps | with_reducible apply State.Keeps.ite | with_reducible apply State.Keeps.ite2 | with_reducible apply State.Keeps.ite22 | with_reducible apply State.Keeps.ite222 | with_reducible apply State.Keeps.ite1 | with_reducible apply State.Keeps.ite21 | split | ((with_reducible conv => arg 2; whnf); split) | ((with_reducible conv => arg 2; arg 1; whnf); split) | ((with_reducible conv => arg 2; arg 1; arg 1; whnf); split))

theorem execSpareApply_keeps (b0 : State) (req : TellerReq) (s : State) (h0 : b0.Keeps s) : b0.KeepsOut (execSpareApply req s) := by
  unfold execSpareApply
  repeat' (first | with_reducible assumption | with_reducible apply doSpareApply_keeps | with_reducible apply State.Keeps.next | intro _)

theorem doSparePolicy_keeps (b0 : State) (r : TellerReq) (s : State) (h0 : b0.Keeps s) : b0.Keeps (doSparePolicy r s) := by
  unfold doSparePolicy
  repeat' (first | with_reducible assumption | intro _ _ _ | intro _ | with_reducible apply State.serve_keeps | with_reducible apply State.setFs_keeps | split | ((with_reducible conv => arg 2; whnf); split) | with_reducible apply State.Keeps.mk_)

theorem execSparePolicy_keeps (b0 : State) (req : TellerReq) (s : State) (h0 : b0.Keeps s) : b0.KeepsOut (execSparePolicy req s) := by
  unfold execSparePolicy
  repeat' (first | with_reducible assumption | with_reducible apply doSparePolicy_keeps | with_reducible apply State.Keeps.next | intro _)

theorem State.calSet_keeps (b0 : State) (s : State) (body : List Byte) (h0 : b0.Keeps s) : b0.Keeps (State.calSet s body).2 := by
  unfold State.calSet
  repeat' (first | with_reducible assumption | with_reducible apply State.sign_keeps | intro _)

theorem doCalWrite_keeps (b0 : State) (r : TellerReq) (s : State) (h0 : b0.Keeps s) : b0.Keeps (doCalWrite r s) := by
  unfold doCalWrite
  repeat' (first | with_reducible assumption | intro _ _ _ | intro _ | with_reducible apply State.serve_keeps | with_reducible apply State.newTicket_keeps | with_reducible apply State.endTicket_keeps | with_reducible apply State.tellerView_keeps | with_reducible apply State.freshBytes_keeps | with_reducible apply State.calSet_keeps | with_reducible apply State.setF_keeps | with_reducible apply State.Keeps.ite | with_reducible apply State.Keeps.ite2 | with_reducible apply State.Keeps.ite22 | with_reducible apply State.Keeps.ite222 | with_reducible apply State.Keeps.ite1 | with_reducible apply State.Keeps.ite21 | split | ((with_reducible conv => arg 2; whnf); split) | ((with_reducible conv => arg 2; arg 1; whnf); split) | ((with_reducible conv => arg 2; arg 1; arg 1; whnf); split))

theorem execCalWrite_keeps (b0 : State) (req : TellerReq) (s : State) (h0 : b0.Keeps s) : b0.KeepsOut (execCalWrite req s) := by
  unfold execCalWrite
  repeat' (first | with_reducible assumption | with_reducible apply doCalWrite_keeps | with_reducible apply State.Keeps.next | intro _)

theorem doCalWriteDone_keeps (b0 : State) (s : State) (h0 : b0.Keeps s) : b0.Keeps (doCalWriteDone s) := by
  unfold doCalWriteDone
  repeat' (first | with_reducible assumption | with_reducible apply State.nvmWrite_keeps | with_reducible apply State.setF_keeps | with_reducible apply State.raise_keeps | with_reducible apply State.ticketDone_keeps | with_reducible apply State.Keeps.ite | split | ((with_reducible conv => arg 2; whnf); split) | with_reducible refine State.Keeps.eq2 (by with_reducible assumption) ?_ | with_reducible refine State.Keeps.eq22 (by with_reducible assumption) ?_ | with_reducible refine State.Keeps.eq222 (by with_reducible assumption) ?_ | with_reducible refine State.Keeps.eq1 (by with_reducible assumption) ?_ | intro _)

theorem execCalWriteDone_keeps (b0 : State) (s : State) (h0 : b0.Keeps s) : b0.KeepsOut (execCalWriteDone s) := by
  unfold execCalWriteDone
  repeat' (first | with_reducible assumption | with_reducible apply doCalWriteDone_keeps | with_reducible apply State.Keeps.next | intro _)

theorem doCalExport_keeps (b0 : State) (r : TellerReq) (s : State) (h0 : b0.Keeps s) : b0.Keeps (doCalExport r s) := by
  unfold doCalExport
  repeat' (first | with_reducible assumption | intro _ _ _ | intro _ | with_reducible apply State.serve_keeps | with_reducible apply State.newTicket_keeps | with_reducible apply State.tellerView_keeps | with_reducible apply State.endTicket_keeps | with_reducible apply State.Keeps.ite | with_reducible apply State.Keeps.ite2 | with_reducible apply State.Keeps.ite22 | with_reducible apply State.Keeps.ite222 | with_reducible apply State.Keeps.ite1 | with_reducible apply State.Keeps.ite21 | split | ((with_reducible conv => arg 2; whnf); split) | ((with_reducible conv => arg 2; arg 1; whnf); split) | ((with_reducible conv => arg 2; arg 1; arg 1; whnf); split))

theorem execCalExport_keeps (b0 : State) (req : TellerReq) (s : State) (h0 : b0.Keeps s) : b0.KeepsOut (execCalExport req s) := by
  unfold execCalExport
  repeat' (first | with_reducible assumption | with_reducible apply doCalExport_keeps | with_reducible apply State.Keeps.next | intro _)

theorem doCalExportDone_keeps (b0 : State) (s : State) (h0 : b0.Keeps s) : b0.Keeps (doCalExportDone s) := by
  unfold doCalExportDone
  repeat' (first | with_reducible assumption | intro _ _ _ | intro _ | with_reducible apply State.freshBytes_keeps | with_reducible apply State.extWrite_keeps | with_reducible apply State.ticketDone_keeps | with_reducible apply State.Keeps.ite | with_reducible apply State.Keeps.ite2 | with_reducible apply State.Keeps.ite22 | with_reducible apply State.Keeps.ite222 | with_reducible apply State.Keeps.ite1 | with_reducible apply State.Keeps.ite21 | split | ((with_reducible conv => arg 2; whnf); split) | ((with_reducible conv => arg 2; arg 1; whnf); split) | ((with_reducible conv => arg 2; arg 1; arg 1; whnf); split) | with_reducible refine State.Keeps.eq2 (by with_reducible assumption) ?_ | with_reducible refine State.Keeps.eq22 (by with_reducible assumption) ?_ | with_reducible refine State.Keeps.eq222 (by with_reducible assumption) ?_ | with_reducible refine State.Keeps.eq1 (by with_reducible assumption) ?_ | with_reducible apply State.Keeps.mk_)

theorem execCalExportDone_keeps (b0 : State) (s : State) (h0 : b0.Keeps s) : b0.KeepsOut (execCalExportDone s) := by
  unfold execCalExportDone
  repeat' (first | with_reducible assumption | intro _ _ _ | intro _ | with_reducible apply State.orWait_keeps | with_reducible apply doCalExportDone_keeps | with_reducible apply State.Keeps.next | with_reducible apply State.Keeps.mk_)

theorem State.selfTestFailed_keeps (b0 : State) (s : State) (kind die unit num : Nat) (h0 : b0.Keeps s) : b0.Keeps (State.selfTestFailed s kind die unit num) := by
  unfold State.selfTestFailed
  repeat' (first | with_reducible assumption | with_reducible apply State.raise_keeps | with_reducible apply State.pcLost_keeps | with_reducible apply State.setF_keeps | with_reducible apply State.needSpare_keeps | with_reducible apply State.portDown_keeps | with_reducible apply State.laneFailed_keeps | with_reducible apply doReSlotSpare_keeps | split | ((with_reducible conv => arg 2; whnf); split) | with_reducible refine State.Keeps.eq2 (by with_reducible assumption) ?_ | with_reducible refine State.Keeps.eq22 (by with_reducible assumption) ?_ | with_reducible refine State.Keeps.eq222 (by with_reducible assumption) ?_ | with_reducible refine State.Keeps.eq1 (by with_reducible assumption) ?_ | intro _)

theorem doSelftest_keeps (b0 : State) (r : TellerReq) (s : State) (h0 : b0.Keeps s) : b0.Keeps (doSelftest r s) := by
  unfold doSelftest
  repeat' (first | with_reducible assumption | intro _ _ _ | intro _ | with_reducible apply State.serve_keeps | with_reducible apply State.newTicket_keeps | with_reducible apply State.tellerView_keeps | with_reducible apply State.Keeps.ite | with_reducible apply State.Keeps.ite2 | with_reducible apply State.Keeps.ite22 | with_reducible apply State.Keeps.ite222 | with_reducible apply State.Keeps.ite1 | with_reducible apply State.Keeps.ite21 | split | ((with_reducible conv => arg 2; whnf); split) | ((with_reducible conv => arg 2; arg 1; whnf); split) | ((with_reducible conv => arg 2; arg 1; arg 1; whnf); split))

theorem execSelftest_keeps (b0 : State) (req : TellerReq) (s : State) (h0 : b0.Keeps s) : b0.KeepsOut (execSelftest req s) := by
  unfold execSelftest
  repeat' (first | with_reducible assumption | with_reducible apply doSelftest_keeps | with_reducible apply State.Keeps.next | intro _)

theorem doSelftestDone_keeps (b0 : State) (fault : Option Nat) (s : State) (h0 : b0.Keeps s) : b0.Keeps (doSelftestDone fault s) := by
  unfold doSelftestDone
  repeat' (first | with_reducible assumption | intro _ _ _ | intro _ | with_reducible apply State.ticketDone_keeps | with_reducible apply State.selfTestFailed_keeps | split | ((with_reducible conv => arg 2; whnf); split) | with_reducible refine State.Keeps.eq2 (by with_reducible assumption) ?_ | with_reducible refine State.Keeps.eq22 (by with_reducible assumption) ?_ | with_reducible refine State.Keeps.eq222 (by with_reducible assumption) ?_ | with_reducible refine State.Keeps.eq1 (by with_reducible assumption) ?_)

theorem execSelftestDone_keeps (b0 : State) (fault : Option Nat) (s : State) (h0 : b0.Keeps s) : b0.KeepsOut (execSelftestDone fault s) := by
  unfold execSelftestDone
  repeat' (first | with_reducible assumption | with_reducible apply doSelftestDone_keeps | with_reducible apply State.Keeps.next | intro _)

theorem doRbFlush_keeps (b0 : State) (r : TellerReq) (s : State) (h0 : b0.Keeps s) : b0.Keeps (doRbFlush r s) := by
  unfold doRbFlush
  repeat' (first | with_reducible assumption | intro _ _ _ | intro _ | with_reducible apply State.serve_keeps | with_reducible apply State.newTicket_keeps | with_reducible apply State.tellerView_keeps | with_reducible apply State.Keeps.ite | with_reducible apply State.Keeps.ite2 | with_reducible apply State.Keeps.ite22 | with_reducible apply State.Keeps.ite222 | with_reducible apply State.Keeps.ite1 | with_reducible apply State.Keeps.ite21 | split | ((with_reducible conv => arg 2; whnf); split) | ((with_reducible conv => arg 2; arg 1; whnf); split) | ((with_reducible conv => arg 2; arg 1; arg 1; whnf); split))

theorem execRbFlush_keeps (b0 : State) (req : TellerReq) (s : State) (h0 : b0.Keeps s) : b0.KeepsOut (execRbFlush req s) := by
  unfold execRbFlush
  repeat' (first | with_reducible assumption | with_reducible apply doRbFlush_keeps | with_reducible apply State.Keeps.next | intro _)

theorem doSlinkLaneFault_keeps (b0 : State) (e l : Nat) (hasSpare : Bool) (s : State) (h0 : b0.Keeps s) : b0.Keeps (doSlinkLaneFault e l hasSpare s) := by
  unfold doSlinkLaneFault
  repeat' (first | with_reducible assumption | with_reducible apply State.needSpare_keeps | with_reducible apply State.setFs_keeps | with_reducible apply State.raise_keeps | with_reducible apply State.Keeps.ite | split | ((with_reducible conv => arg 2; whnf); split) | intro _)

theorem execSlinkLaneFault_keeps (b0 : State) (e : Fin 6) (l : Fin 5) (hasSpare : Bool) (s : State) (h0 : b0.Keeps s) : b0.KeepsOut (execSlinkLaneFault e l hasSpare s) := by
  unfold execSlinkLaneFault
  repeat' (first | with_reducible assumption | with_reducible apply doSlinkLaneFault_keeps | with_reducible apply State.Keeps.next | intro _)

end Sys2Proof.Machine
end

