-- ==== Sys2Proof/Laws/KeepsDark.lean ====
section
/-! SUPPORT. What every operation of Machine/Dark.lean keeps: the queue, the part, and the canonical forms. -/
namespace Sys2Proof.Machine

set_option linter.all false
set_option Elab.async false

theorem State.copyPiece_keeps (b0 : State) (s : State) (x : BringIn) (k : Nat) (h0 : b0.Keeps s) : b0.Keeps (State.copyPiece s x k) := by
  unfold State.copyPiece
  repeat' (first | with_reducible assumption | intro _ _ _ | intro _ | with_reducible apply State.setF_keeps | with_reducible apply State.switchPc_keeps | with_reducible apply State.useSpmSpare_keeps | with_reducible apply State.migrating_keeps | with_reducible apply State.Keeps.ite | with_reducible apply State.Keeps.ite2 | with_reducible apply State.Keeps.ite22 | with_reducible apply State.Keeps.ite222 | with_reducible apply State.Keeps.ite1 | with_reducible apply State.Keeps.ite21 | split | ((with_reducible conv => arg 2; whnf); split) | ((with_reducible conv => arg 2; arg 1; whnf); split) | ((with_reducible conv => arg 2; arg 1; arg 1; whnf); split) | with_reducible apply State.Keeps.mk_)

theorem State.idleTestFailed_keeps (b0 : State) (s : State) (kind die unit num : Nat) (h0 : b0.Keeps s) : b0.Keeps (State.idleTestFailed s kind die unit num) := by
  unfold State.idleTestFailed
  repeat' (first | with_reducible assumption | with_reducible apply State.raise_keeps | with_reducible apply State.Keeps.mk_ | intro _)

theorem State.recalibrate_keeps (b0 : State) (s : State) (p lane : Nat) (fault : Option Nat) (h0 : b0.Keeps s) : b0.Keeps (State.recalibrate s p lane fault) := by
  unfold State.recalibrate
  repeat' (first | with_reducible assumption | with_reducible apply State.setF_keeps | with_reducible apply State.raise_keeps | with_reducible apply State.laneFailed_keeps | with_reducible apply State.dirty_keeps | with_reducible apply State.Keeps.ite | split | ((with_reducible conv => arg 2; whnf); split) | with_reducible refine State.Keeps.eq2 (by with_reducible assumption) ?_ | with_reducible refine State.Keeps.eq22 (by with_reducible assumption) ?_ | with_reducible refine State.Keeps.eq222 (by with_reducible assumption) ?_ | with_reducible refine State.Keeps.eq1 (by with_reducible assumption) ?_ | intro _)

theorem State.pieceEffect_keeps (b0 : State) (s : State) (x : Piece) (c len : Nat) (fault : Option Nat) (h0 : b0.Keeps s) : b0.Keeps (State.pieceEffect s x c len fault) := by
  unfold State.pieceEffect
  repeat' (first | with_reducible assumption | intro _ _ _ | intro _ | with_reducible apply State.expoWrite_keeps | with_reducible apply State.idleTestFailed_keeps | with_reducible apply State.selfTestFailed_keeps | with_reducible apply State.raise_keeps | with_reducible apply State.recalibrate_keeps | with_reducible apply State.spareTestFailed_keeps | with_reducible apply State.copyPiece_keeps | with_reducible apply State.useSpmSpare_keeps | with_reducible apply State.useArraySpare_keeps | with_reducible apply State.useCoreSpare_keeps | with_reducible apply State.useSlinkLane_keeps | with_reducible apply State.dropBringIn_keeps | with_reducible apply State.Keeps.ite | with_reducible apply State.Keeps.ite2 | with_reducible apply State.Keeps.ite22 | with_reducible apply State.Keeps.ite222 | with_reducible apply State.Keeps.ite1 | with_reducible apply State.Keeps.ite21 | split | ((with_reducible conv => arg 2; whnf); split) | ((with_reducible conv => arg 2; arg 1; whnf); split) | ((with_reducible conv => arg 2; arg 1; arg 1; whnf); split) | with_reducible refine State.Keeps.eq2 (by with_reducible assumption) ?_ | with_reducible refine State.Keeps.eq22 (by with_reducible assumption) ?_ | with_reducible refine State.Keeps.eq222 (by with_reducible assumption) ?_ | with_reducible refine State.Keeps.eq1 (by with_reducible assumption) ?_ | with_reducible apply State.Keeps.mk_)

theorem doDarkPiece_keeps (b0 : State) (x : Piece) (len : Nat) (s : State) (h0 : b0.Keeps s) : b0.Keeps (doDarkPiece x len s) := by
  unfold doDarkPiece
  repeat' (first | with_reducible assumption | intro _ _ _ | intro _ | with_reducible apply State.advanceCyc_keeps | with_reducible apply State.satF_keeps | with_reducible apply State.migrating_keeps | with_reducible apply State.updPart_keeps | with_reducible apply State.Keeps.ite | with_reducible apply State.Keeps.ite2 | with_reducible apply State.Keeps.ite22 | with_reducible apply State.Keeps.ite222 | with_reducible apply State.Keeps.ite1 | with_reducible apply State.Keeps.ite21 | with_reducible apply State.Keeps.foldl | with_reducible apply State.Keeps.foldl2 | with_reducible apply State.Keeps.foldl22 | with_reducible apply State.Keeps.foldl222 | with_reducible apply State.Keeps.foldl1 | with_reducible apply State.Keeps.elim | split | ((with_reducible conv => arg 2; whnf); split) | ((with_reducible conv => arg 2; arg 1; whnf); split) | ((with_reducible conv => arg 2; arg 1; arg 1; whnf); split) | with_reducible refine State.Keeps.eq2 (by with_reducible assumption) ?_ | with_reducible refine State.Keeps.eq22 (by with_reducible assumption) ?_ | with_reducible refine State.Keeps.eq222 (by with_reducible assumption) ?_ | with_reducible refine State.Keeps.eq1 (by with_reducible assumption) ?_ | with_reducible apply State.Keeps.mk_)

theorem execDarkPiece_keeps (b0 : State) (piece : Piece) (len : Nat) (s : State) (h0 : b0.Keeps s) : b0.KeepsOut (execDarkPiece piece len s) := by
  unfold execDarkPiece
  repeat' (first | with_reducible assumption | with_reducible apply doDarkPiece_keeps | with_reducible apply State.Keeps.next | intro _)

theorem doDarkPieceEnd_keeps (b0 : State) (x : Piece) (fault : Option Nat) (s : State) (h0 : b0.Keeps s) : b0.Keeps (doDarkPieceEnd x fault s) := by
  unfold doDarkPieceEnd
  repeat' (first | with_reducible assumption | intro _ _ _ | intro _ | with_reducible apply State.advanceCyc_keeps | with_reducible apply State.count_keeps | with_reducible apply State.pieceEffect_keeps | with_reducible apply State.Keeps.ite | with_reducible apply State.Keeps.ite2 | with_reducible apply State.Keeps.ite22 | with_reducible apply State.Keeps.ite222 | with_reducible apply State.Keeps.ite1 | with_reducible apply State.Keeps.ite21 | with_reducible apply State.Keeps.foldl | with_reducible apply State.Keeps.foldl2 | with_reducible apply State.Keeps.foldl22 | with_reducible apply State.Keeps.foldl222 | with_reducible apply State.Keeps.foldl1 | split | ((with_reducible conv => arg 2; whnf); split) | ((with_reducible conv => arg 2; arg 1; whnf); split) | ((with_reducible conv => arg 2; arg 1; arg 1; whnf); split) | with_reducible refine State.Keeps.eq2 (by with_reducible assumption) ?_ | with_reducible refine State.Keeps.eq22 (by with_reducible assumption) ?_ | with_reducible refine State.Keeps.eq222 (by with_reducible assumption) ?_ | with_reducible refine State.Keeps.eq1 (by with_reducible assumption) ?_ | with_reducible apply State.Keeps.mk_)

theorem execDarkPieceEnd_keeps (b0 : State) (piece : Piece) (fault : Option Nat) (s : State) (h0 : b0.Keeps s) : b0.KeepsOut (execDarkPieceEnd piece fault s) := by
  unfold execDarkPieceEnd
  repeat' (first | with_reducible assumption | with_reducible apply doDarkPieceEnd_keeps | with_reducible apply State.Keeps.next | intro _)

theorem doBackToBackPiece_keeps (b0 : State) (x : Piece) (len : Nat) (fault : Option Nat) (s : State) (h0 : b0.Keeps s) : b0.Keeps (doBackToBackPiece x len fault s) := by
  unfold doBackToBackPiece
  repeat' (first | with_reducible assumption | intro _ _ _ | intro _ | with_reducible apply State.advanceCyc_keeps | with_reducible apply State.pieceEffect_keeps | with_reducible apply State.Keeps.ite | with_reducible apply State.Keeps.ite2 | with_reducible apply State.Keeps.ite22 | with_reducible apply State.Keeps.ite222 | with_reducible apply State.Keeps.ite1 | with_reducible apply State.Keeps.ite21 | split | ((with_reducible conv => arg 2; whnf); split) | ((with_reducible conv => arg 2; arg 1; whnf); split) | ((with_reducible conv => arg 2; arg 1; arg 1; whnf); split) | with_reducible apply State.Keeps.mk_)

theorem execBackToBackPiece_keeps (b0 : State) (piece : Piece) (len : Nat) (fault : Option Nat) (s : State) (h0 : b0.Keeps s) : b0.KeepsOut (execBackToBackPiece piece len fault s) := by
  unfold execBackToBackPiece
  repeat' (first | with_reducible assumption | with_reducible apply doBackToBackPiece_keeps | with_reducible apply State.Keeps.next | intro _)

theorem doSpareUnitTest_keeps (b0 : State) (x : Piece) (fault : Bool) (s : State) (h0 : b0.Keeps s) : b0.Keeps (doSpareUnitTest x fault s) := by
  unfold doSpareUnitTest
  repeat' (first | with_reducible assumption | intro _ _ _ | intro _ | with_reducible apply State.idleTestFailed_keeps | with_reducible apply State.recalibrate_keeps | with_reducible apply State.Keeps.ite | split | ((with_reducible conv => arg 2; whnf); split) | with_reducible refine State.Keeps.eq2 (by with_reducible assumption) ?_ | with_reducible refine State.Keeps.eq22 (by with_reducible assumption) ?_ | with_reducible refine State.Keeps.eq222 (by with_reducible assumption) ?_ | with_reducible refine State.Keeps.eq1 (by with_reducible assumption) ?_)

theorem execSpareUnitTest_keeps (b0 : State) (piece : Piece) (fault : Bool) (s : State) (h0 : b0.Keeps s) : b0.KeepsOut (execSpareUnitTest piece fault s) := by
  unfold execSpareUnitTest
  repeat' (first | with_reducible assumption | with_reducible apply doSpareUnitTest_keeps | with_reducible apply State.Keeps.next | intro _)

end Sys2Proof.Machine
end

