-- ==== Sys2Proof/Laws/KeepsSolver.lean ====
section
/-! SUPPORT. What every operation of Machine/Solver.lean keeps: the queue, the part, and the canonical forms. -/
namespace Sys2Proof.Machine

set_option linter.all false
set_option Elab.async false

theorem doSveLoad_keeps (b0 : State) (v : Nat) (s : State) (h0 : b0.Keeps s) : b0.Keeps (doSveLoad v s) := by
  unfold doSveLoad
  repeat' (first | with_reducible assumption | with_reducible apply State.seqLoad_keeps)

theorem execSveLoad_keeps (b0 : State) (val : Word) (s : State) (h0 : b0.Keeps s) : b0.KeepsOut (execSveLoad val s) := by
  unfold execSveLoad
  repeat' (first | with_reducible assumption | with_reducible apply doSveLoad_keeps | with_reducible apply State.Keeps.next)

theorem doSveLoadDone_keeps (b0 : State) (s : State) (h0 : b0.Keeps s) : b0.Keeps (doSveLoadDone s) := by
  unfold doSveLoadDone
  repeat' (first | with_reducible assumption | intro _ _ _ | intro _ | with_reducible apply State.extRead_keeps | with_reducible apply State.store_keeps | with_reducible apply State.seqLoaded_keeps | with_reducible apply State.Keeps.ite | with_reducible apply State.Keeps.ite2 | with_reducible apply State.Keeps.ite22 | with_reducible apply State.Keeps.ite222 | with_reducible apply State.Keeps.ite1 | with_reducible apply State.Keeps.ite21 | split | ((with_reducible conv => arg 2; whnf); split) | ((with_reducible conv => arg 2; arg 1; whnf); split) | ((with_reducible conv => arg 2; arg 1; arg 1; whnf); split) | with_reducible refine State.Keeps.eq2 (by with_reducible assumption) ?_ | with_reducible refine State.Keeps.eq22 (by with_reducible assumption) ?_ | with_reducible refine State.Keeps.eq222 (by with_reducible assumption) ?_ | with_reducible refine State.Keeps.eq1 (by with_reducible assumption) ?_ | with_reducible apply State.Keeps.mk_)

theorem execSveLoadDone_keeps (b0 : State) (s : State) (h0 : b0.Keeps s) : b0.KeepsOut (execSveLoadDone s) := by
  unfold execSveLoadDone
  repeat' (first | with_reducible assumption | with_reducible apply doSveLoadDone_keeps | with_reducible apply State.Keeps.next)

theorem doSveProblemStart_keeps (b0 : State) (i : Nat) (s : State) (h0 : b0.Keeps s) : b0.Keeps (doSveProblemStart i s) := by
  unfold doSveProblemStart
  repeat' (first | with_reducible assumption | intro _ _ _ | intro _ | with_reducible apply State.seqBegin_keeps | with_reducible apply State.count_keeps | with_reducible apply State.setFs_keeps | split | ((with_reducible conv => arg 2; whnf); split) | ((with_reducible conv => arg 2; arg 1; whnf); split) | ((with_reducible conv => arg 2; arg 1; arg 1; whnf); split) | with_reducible refine State.Keeps.eq2 (by with_reducible assumption) ?_ | with_reducible refine State.Keeps.eq22 (by with_reducible assumption) ?_ | with_reducible refine State.Keeps.eq222 (by with_reducible assumption) ?_ | with_reducible refine State.Keeps.eq1 (by with_reducible assumption) ?_ | with_reducible apply State.Keeps.mk_)

theorem execSveProblemStart_keeps (b0 : State) (entry : Nat) (s : State) (h0 : b0.Keeps s) : b0.KeepsOut (execSveProblemStart entry s) := by
  unfold execSveProblemStart
  repeat' (first | with_reducible assumption | with_reducible apply doSveProblemStart_keeps | with_reducible apply State.Keeps.next)

theorem State.sveRead_keeps (b0 : State) (s : State) (a n : Nat) (h0 : b0.Keeps s) : b0.Keeps (State.sveRead s a n).2.2 := by
  unfold State.sveRead
  repeat' (first | with_reducible assumption | intro _ _ _ | intro _ | with_reducible apply State.sramCorrect_keeps | with_reducible apply State.extRead_keeps | with_reducible apply State.Keeps.ite | with_reducible apply State.Keeps.ite2 | with_reducible apply State.Keeps.ite22 | with_reducible apply State.Keeps.ite222 | with_reducible apply State.Keeps.ite1 | with_reducible apply State.Keeps.ite21 | split | ((with_reducible conv => arg 2; whnf); split) | ((with_reducible conv => arg 2; arg 1; whnf); split) | ((with_reducible conv => arg 2; arg 1; arg 1; whnf); split) | with_reducible apply State.Keeps.pair2 | with_reducible apply State.Keeps.pair22 | with_reducible apply State.Keeps.pair222 | with_reducible apply State.Keeps.mk_)

theorem State.sveWrite_keeps (b0 : State) (s : State) (a : Nat) (b : List Byte) (h0 : b0.Keeps s) : b0.Keeps (State.sveWrite s a b).2 := by
  unfold State.sveWrite
  repeat' (first | with_reducible assumption | intro _ _ _ | intro _ | with_reducible apply State.store_keeps | with_reducible apply State.extWrite_keeps | with_reducible apply State.Keeps.ite | with_reducible apply State.Keeps.ite2 | with_reducible apply State.Keeps.ite22 | with_reducible apply State.Keeps.ite222 | with_reducible apply State.Keeps.ite1 | with_reducible apply State.Keeps.ite21 | split | ((with_reducible conv => arg 2; whnf); split) | ((with_reducible conv => arg 2; arg 1; whnf); split) | ((with_reducible conv => arg 2; arg 1; arg 1; whnf); split) | with_reducible apply State.Keeps.pair2 | with_reducible apply State.Keeps.pair22 | with_reducible apply State.Keeps.pair222 | with_reducible apply State.Keeps.mk_)

theorem State.sveReads_keeps (b0 : State) (s : State) (x0 : List (Nat × Nat)) (h0 : b0.Keeps s) : b0.Keeps (State.sveReads s x0).2.2 := by
  induction x0 generalizing s with
  | nil => exact h0
  | cons x r ih =>
    unfold State.sveReads
    have h1 := State.sveRead_keeps b0 s x.1 x.2 h0
    split
    rename_i c b s2 he
    have h2 := State.Keeps.eq22 he h1
    split
    · exact h2
    · split
      rename_i c3 b3 s3 he3
      exact State.Keeps.eq22 he3 (ih _ h2)

theorem State.sveInputs_keeps (b0 : State) (s : State) (gs : List (List (Nat × Nat))) (h0 : b0.Keeps s) : b0.Keeps (State.sveInputs s gs).2.2 := by
  unfold State.sveInputs
  repeat' (first | with_reducible assumption | intro _ _ _ | intro _ | with_reducible apply State.sveReads_keeps | with_reducible apply State.Keeps.ite | with_reducible apply State.Keeps.ite2 | with_reducible apply State.Keeps.ite22 | with_reducible apply State.Keeps.ite222 | with_reducible apply State.Keeps.ite1 | with_reducible apply State.Keeps.ite21 | with_reducible apply State.Keeps.foldl | with_reducible apply State.Keeps.foldl2 | with_reducible apply State.Keeps.foldl22 | with_reducible apply State.Keeps.foldl222 | with_reducible apply State.Keeps.foldl1 | split | ((with_reducible conv => arg 2; whnf); split) | ((with_reducible conv => arg 2; arg 1; whnf); split) | ((with_reducible conv => arg 2; arg 1; arg 1; whnf); split) | with_reducible refine State.Keeps.eq2 (by with_reducible assumption) ?_ | with_reducible refine State.Keeps.eq22 (by with_reducible assumption) ?_ | with_reducible refine State.Keeps.eq222 (by with_reducible assumption) ?_ | with_reducible refine State.Keeps.eq1 (by with_reducible assumption) ?_ | with_reducible apply State.Keeps.pair2 | with_reducible apply State.Keeps.pair22 | with_reducible apply State.Keeps.pair222 | with_reducible apply State.Keeps.mk_)

theorem State.sveFault_keeps (b0 : State) (s : State) (j : SveJob) (code : Nat) (h0 : b0.Keeps s) : b0.Keeps (State.sveFault s j code) := by
  unfold State.sveFault
  repeat' (first | with_reducible assumption | intro _ _ _ | intro _ | with_reducible apply State.updSeqRun_keeps | with_reducible apply State.hwSets_keeps | with_reducible apply State.seqFault_keeps | split | ((with_reducible conv => arg 2; whnf); split) | ((with_reducible conv => arg 2; arg 1; whnf); split) | ((with_reducible conv => arg 2; arg 1; arg 1; whnf); split) | with_reducible apply State.Keeps.mk_)

theorem State.loseWork_keeps (b0 : State) (s : State) (p : Prob) (inp : List Byte) (h0 : b0.Keeps s) : b0.Keeps (State.loseWork s p inp) := by
  unfold State.loseWork
  repeat' (first | with_reducible assumption | intro _ _ _ | intro _ | with_reducible apply State.store_keeps | with_reducible apply State.putAt_keeps | with_reducible apply State.Keeps.ite | with_reducible apply State.Keeps.ite2 | with_reducible apply State.Keeps.ite22 | with_reducible apply State.Keeps.ite222 | with_reducible apply State.Keeps.ite1 | with_reducible apply State.Keeps.ite21 | split | ((with_reducible conv => arg 2; whnf); split) | ((with_reducible conv => arg 2; arg 1; whnf); split) | ((with_reducible conv => arg 2; arg 1; arg 1; whnf); split) | with_reducible apply State.Keeps.mk_)

theorem State.sveNotes_keeps (b0 : State) (s : State) (num wr : Nat) (o : Outcome) (h0 : b0.Keeps s) : b0.Keeps (State.sveNotes s num wr o) := by
  unfold State.sveNotes
  repeat' (first | with_reducible assumption | intro _ _ _ | intro _ | with_reducible apply State.raise_keeps | with_reducible apply State.hwSet_keeps | with_reducible apply State.count_keeps | with_reducible apply State.Keeps.ite | with_reducible apply State.Keeps.ite2 | with_reducible apply State.Keeps.ite22 | with_reducible apply State.Keeps.ite222 | with_reducible apply State.Keeps.ite1 | with_reducible apply State.Keeps.ite21 | split | ((with_reducible conv => arg 2; whnf); split) | ((with_reducible conv => arg 2; arg 1; whnf); split) | ((with_reducible conv => arg 2; arg 1; arg 1; whnf); split) | with_reducible apply State.Keeps.mk_)

theorem State.svePhases_keeps (b0 : State) (s : State) (j : SveJob) (gs : List (List Byte)) (h0 : b0.Keeps s) : b0.Keeps (State.svePhases s j gs) := by
  unfold State.svePhases
  repeat' (first | with_reducible assumption | intro _ _ _ | intro _ | with_reducible apply State.sveNotes_keeps | with_reducible apply State.reach_keeps | with_reducible apply State.toCyc_keeps | with_reducible apply State.sveFault_keeps | with_reducible apply State.loseWork_keeps | with_reducible apply State.setFs_keeps | with_reducible apply State.Keeps.ite | with_reducible apply State.Keeps.ite2 | with_reducible apply State.Keeps.ite22 | with_reducible apply State.Keeps.ite222 | with_reducible apply State.Keeps.ite1 | with_reducible apply State.Keeps.ite21 | split | ((with_reducible conv => arg 2; whnf); split) | ((with_reducible conv => arg 2; arg 1; whnf); split) | ((with_reducible conv => arg 2; arg 1; arg 1; whnf); split) | with_reducible refine State.Keeps.eq2 (by with_reducible assumption) ?_ | with_reducible refine State.Keeps.eq22 (by with_reducible assumption) ?_ | with_reducible refine State.Keeps.eq222 (by with_reducible assumption) ?_ | with_reducible refine State.Keeps.eq1 (by with_reducible assumption) ?_ | with_reducible apply State.Keeps.mk_)

theorem doSveLoadPhaseEnd_keeps (b0 : State) (ns : Nat) (s : State) (h0 : b0.Keeps s) : b0.Keeps (doSveLoadPhaseEnd ns s) := by
  unfold doSveLoadPhaseEnd
  repeat' (first | with_reducible assumption | intro _ _ _ | intro _ | with_reducible apply State.sveFault_keeps | with_reducible apply State.sramCorrect_keeps | with_reducible apply State.sveInputs_keeps | with_reducible apply State.toCyc_keeps | with_reducible apply State.advanceNs_keeps | with_reducible apply State.updSeqRun_keeps | with_reducible apply State.svePhases_keeps | with_reducible apply State.Keeps.ite | with_reducible apply State.Keeps.ite2 | with_reducible apply State.Keeps.ite22 | with_reducible apply State.Keeps.ite222 | with_reducible apply State.Keeps.ite1 | with_reducible apply State.Keeps.ite21 | with_reducible apply State.Keeps.foldl | with_reducible apply State.Keeps.foldl2 | with_reducible apply State.Keeps.foldl22 | with_reducible apply State.Keeps.foldl222 | with_reducible apply State.Keeps.foldl1 | split | ((with_reducible conv => arg 2; whnf); split) | ((with_reducible conv => arg 2; arg 1; whnf); split) | ((with_reducible conv => arg 2; arg 1; arg 1; whnf); split) | with_reducible refine State.Keeps.eq2 (by with_reducible assumption) ?_ | with_reducible refine State.Keeps.eq22 (by with_reducible assumption) ?_ | with_reducible refine State.Keeps.eq222 (by with_reducible assumption) ?_ | with_reducible refine State.Keeps.eq1 (by with_reducible assumption) ?_ | with_reducible apply State.Keeps.mk_)

theorem execSveLoadPhaseEnd_keeps (b0 : State) (ns : Nat) (s : State) (h0 : b0.Keeps s) : b0.KeepsOut (execSveLoadPhaseEnd ns s) := by
  unfold execSveLoadPhaseEnd
  repeat' (first | with_reducible assumption | with_reducible apply doSveLoadPhaseEnd_keeps | with_reducible apply State.Keeps.next)

theorem doSveDeadline_keeps (b0 : State) (s : State) (h0 : b0.Keeps s) : b0.Keeps (doSveDeadline s) := by
  unfold doSveDeadline
  repeat' (first | with_reducible assumption | intro _ _ _ | intro _ | with_reducible apply State.toCyc_keeps | with_reducible apply State.hwSet_keeps | with_reducible apply State.Keeps.ite | with_reducible apply State.Keeps.ite2 | with_reducible apply State.Keeps.ite22 | with_reducible apply State.Keeps.ite222 | with_reducible apply State.Keeps.ite1 | with_reducible apply State.Keeps.ite21 | split | ((with_reducible conv => arg 2; whnf); split) | ((with_reducible conv => arg 2; arg 1; whnf); split) | ((with_reducible conv => arg 2; arg 1; arg 1; whnf); split) | with_reducible refine State.Keeps.eq2 (by with_reducible assumption) ?_ | with_reducible refine State.Keeps.eq22 (by with_reducible assumption) ?_ | with_reducible refine State.Keeps.eq222 (by with_reducible assumption) ?_ | with_reducible refine State.Keeps.eq1 (by with_reducible assumption) ?_ | with_reducible apply State.Keeps.mk_)

theorem execSveDeadline_keeps (b0 : State) (s : State) (h0 : b0.Keeps s) : b0.KeepsOut (execSveDeadline s) := by
  unfold execSveDeadline
  repeat' (first | with_reducible assumption | with_reducible apply doSveDeadline_keeps | with_reducible apply State.Keeps.next)

theorem State.sveResult_keeps (b0 : State) (s : State) (j : SveJob) (dest : Nat) (h0 : b0.Keeps s) : b0.Keeps (State.sveResult s j dest).2 := by
  unfold State.sveResult
  repeat' (first | with_reducible assumption | with_reducible apply State.sveWrite_keeps | with_reducible apply State.Keeps.ite | with_reducible apply State.Keeps.ite2 | with_reducible apply State.Keeps.ite22 | with_reducible apply State.Keeps.ite222 | with_reducible apply State.Keeps.ite1 | with_reducible apply State.Keeps.ite21 | split | ((with_reducible conv => arg 2; whnf); split) | ((with_reducible conv => arg 2; arg 1; whnf); split) | ((with_reducible conv => arg 2; arg 1; arg 1; whnf); split))

theorem State.sveLate_keeps (b0 : State) (s : State) (j : SveJob) (p : Prob) (own : Nat) (h0 : b0.Keeps s) : b0.Keeps (State.sveLate s j p own) := by
  unfold State.sveLate
  repeat' (first | with_reducible assumption | intro _ _ _ | intro _ | with_reducible apply State.raise_keeps | with_reducible apply State.hwSet_keeps | with_reducible apply State.count_keeps | with_reducible apply State.Keeps.ite | with_reducible apply State.Keeps.ite2 | with_reducible apply State.Keeps.ite22 | with_reducible apply State.Keeps.ite222 | with_reducible apply State.Keeps.ite1 | with_reducible apply State.Keeps.ite21 | split | ((with_reducible conv => arg 2; whnf); split) | ((with_reducible conv => arg 2; arg 1; whnf); split) | ((with_reducible conv => arg 2; arg 1; arg 1; whnf); split) | with_reducible apply State.Keeps.mk_)

theorem State.sveRegs_keeps (b0 : State) (s : State) (j : SveJob) (st w : Nat) (h0 : b0.Keeps s) : b0.Keeps (State.sveRegs s j st w) := by
  unfold State.sveRegs
  repeat' (first | with_reducible assumption | intro _ _ _ | intro _ | with_reducible apply State.raise_keeps | with_reducible apply State.count_keeps | with_reducible apply State.setFs_keeps | with_reducible apply State.Keeps.ite | with_reducible apply State.Keeps.ite2 | with_reducible apply State.Keeps.ite22 | with_reducible apply State.Keeps.ite222 | with_reducible apply State.Keeps.ite1 | with_reducible apply State.Keeps.ite21 | split | ((with_reducible conv => arg 2; whnf); split) | ((with_reducible conv => arg 2; arg 1; whnf); split) | ((with_reducible conv => arg 2; arg 1; arg 1; whnf); split) | with_reducible apply State.Keeps.mk_)

theorem State.sveEnd_keeps (b0 : State) (s : State) (j : SveJob) (own : Nat) (h0 : b0.Keeps s) : b0.Keeps (State.sveEnd s j own) := by
  unfold State.sveEnd
  repeat' (first | with_reducible assumption | intro _ _ _ | intro _ | with_reducible apply State.toCyc_keeps | with_reducible apply State.sveResult_keeps | with_reducible apply State.sveLate_keeps | with_reducible apply State.sveRegs_keeps | with_reducible apply State.sveFault_keeps | with_reducible apply State.updSeqRun_keeps | with_reducible apply State.updSeq_keeps | with_reducible apply State.seqDone_keeps | with_reducible apply State.Keeps.ite | with_reducible apply State.Keeps.ite2 | with_reducible apply State.Keeps.ite22 | with_reducible apply State.Keeps.ite222 | with_reducible apply State.Keeps.ite1 | with_reducible apply State.Keeps.ite21 | split | ((with_reducible conv => arg 2; whnf); split) | ((with_reducible conv => arg 2; arg 1; whnf); split) | ((with_reducible conv => arg 2; arg 1; arg 1; whnf); split) | with_reducible refine State.Keeps.eq2 (by with_reducible assumption) ?_ | with_reducible refine State.Keeps.eq22 (by with_reducible assumption) ?_ | with_reducible refine State.Keeps.eq222 (by with_reducible assumption) ?_ | with_reducible refine State.Keeps.eq1 (by with_reducible assumption) ?_ | with_reducible apply State.Keeps.mk_)

theorem doSveProblemComplete_keeps (b0 : State) (s : State) (h0 : b0.Keeps s) : b0.Keeps (doSveProblemComplete s) := by
  unfold doSveProblemComplete
  repeat' (first | with_reducible assumption | intro _ _ _ | intro _ | with_reducible apply State.toCyc_keeps | with_reducible apply State.sveEnd_keeps | with_reducible apply State.Keeps.ite | with_reducible apply State.Keeps.ite2 | with_reducible apply State.Keeps.ite22 | with_reducible apply State.Keeps.ite222 | with_reducible apply State.Keeps.ite1 | with_reducible apply State.Keeps.ite21 | split | ((with_reducible conv => arg 2; whnf); split) | ((with_reducible conv => arg 2; arg 1; whnf); split) | ((with_reducible conv => arg 2; arg 1; arg 1; whnf); split) | with_reducible refine State.Keeps.eq2 (by with_reducible assumption) ?_ | with_reducible refine State.Keeps.eq22 (by with_reducible assumption) ?_ | with_reducible refine State.Keeps.eq222 (by with_reducible assumption) ?_ | with_reducible refine State.Keeps.eq1 (by with_reducible assumption) ?_ | with_reducible apply State.Keeps.mk_)

theorem execSveProblemComplete_keeps (b0 : State) (s : State) (h0 : b0.Keeps s) : b0.KeepsOut (execSveProblemComplete s) := by
  unfold execSveProblemComplete
  repeat' (first | with_reducible assumption | with_reducible apply doSveProblemComplete_keeps | with_reducible apply State.Keeps.next)

end Sys2Proof.Machine
end

