-- ==== Sys2Proof/Laws/KeepsThermal.lean ====
section
/-! SUPPORT. What every operation of Machine/Thermal.lean keeps: the queue, the part, and the canonical forms. -/
namespace Sys2Proof.Machine

set_option linter.all false
set_option Elab.async false

theorem State.expoShift_keeps (b0 : State) (s : State) (d : Nat) (h0 : b0.Keeps s) : b0.Keeps (State.expoShift s d) := by
  unfold State.expoShift
  repeat' (first | with_reducible assumption | intro _ | with_reducible apply State.Keeps.ite | with_reducible apply State.updExpo_keeps)

theorem State.setLevel_keeps (b0 : State) (s : State) (lv sensor : Nat) (h0 : b0.Keeps s) : b0.Keeps (State.setLevel s lv sensor) := by
  unfold State.setLevel
  repeat' (first | with_reducible assumption | with_reducible apply State.expoShift_keeps | intro _ _ _ | intro _ | with_reducible apply State.setFs_keeps | with_reducible apply State.satF_keeps | with_reducible apply State.raise_keeps | with_reducible apply State.expo_keeps | with_reducible apply State.Keeps.ite | with_reducible apply State.Keeps.foldl | with_reducible apply State.Keeps.foldl2 | with_reducible apply State.Keeps.foldl22 | with_reducible apply State.Keeps.foldl222 | with_reducible apply State.Keeps.foldl1 | split | ((with_reducible conv => arg 2; whnf); split))

theorem State.trip_keeps (b0 : State) (s : State) (sensor : Nat) (h0 : b0.Keeps s) : b0.Keeps (State.trip s sensor) := by
  unfold State.trip
  repeat' (first | with_reducible assumption | intro _ _ _ | intro _ | with_reducible apply State.raise_keeps | with_reducible apply State.setFs_keeps | split | ((with_reducible conv => arg 2; whnf); split) | with_reducible apply State.Keeps.mk_)

theorem State.recordTemps_keeps (b0 : State) (s : State) (temps : List Int) (h0 : b0.Keeps s) : b0.Keeps (State.recordTemps s temps) := by
  unfold State.recordTemps
  repeat' (first | with_reducible assumption | intro _ _ _ | intro _ | with_reducible apply State.setFs_keeps | split | ((with_reducible conv => arg 2; whnf); split) | with_reducible apply State.Keeps.mk_)

theorem doThermalSample_keeps (b0 : State) (temps : List Int) (s : State) (h0 : b0.Keeps s) : b0.Keeps (doThermalSample temps s) := by
  unfold doThermalSample
  repeat' (first | with_reducible assumption | intro _ _ _ | intro _ | with_reducible apply State.toNs_keeps | with_reducible apply State.recordTemps_keeps | with_reducible apply State.trip_keeps | with_reducible apply State.hwSet_keeps | with_reducible apply State.raise_keeps | with_reducible apply State.setLevel_keeps | with_reducible apply State.Keeps.ite | with_reducible apply State.Keeps.ite2 | with_reducible apply State.Keeps.ite22 | with_reducible apply State.Keeps.ite222 | with_reducible apply State.Keeps.ite1 | with_reducible apply State.Keeps.ite21 | split | ((with_reducible conv => arg 2; whnf); split) | ((with_reducible conv => arg 2; arg 1; whnf); split) | ((with_reducible conv => arg 2; arg 1; arg 1; whnf); split) | with_reducible refine State.Keeps.eq2 (by with_reducible assumption) ?_ | with_reducible refine State.Keeps.eq22 (by with_reducible assumption) ?_ | with_reducible refine State.Keeps.eq222 (by with_reducible assumption) ?_ | with_reducible refine State.Keeps.eq1 (by with_reducible assumption) ?_ | with_reducible apply State.Keeps.mk_)

theorem execThermalSample_keeps (b0 : State) (temps : List Int) (s : State) (h0 : b0.Keeps s) : b0.KeepsOut (execThermalSample temps s) := by
  unfold execThermalSample
  repeat' (first | with_reducible assumption | with_reducible apply doThermalSample_keeps | with_reducible apply State.Keeps.next)

theorem doThermalRestart_keeps (b0 : State) (s : State) (h0 : b0.Keeps s) : b0.Keeps (doThermalRestart s) := by
  unfold doThermalRestart
  repeat' (first | with_reducible assumption | with_reducible apply State.expoShift_keeps | intro _ _ _ | intro _ | with_reducible apply State.expoAt_keeps | with_reducible apply State.setFs_keeps | with_reducible apply State.setLevel_keeps | with_reducible apply State.Keeps.ite | with_reducible apply State.Keeps.ite2 | with_reducible apply State.Keeps.ite22 | with_reducible apply State.Keeps.ite222 | with_reducible apply State.Keeps.ite1 | with_reducible apply State.Keeps.ite21 | with_reducible apply State.Keeps.foldl | with_reducible apply State.Keeps.foldl2 | with_reducible apply State.Keeps.foldl22 | with_reducible apply State.Keeps.foldl222 | with_reducible apply State.Keeps.foldl1 | split | ((with_reducible conv => arg 2; whnf); split) | ((with_reducible conv => arg 2; arg 1; whnf); split) | ((with_reducible conv => arg 2; arg 1; arg 1; whnf); split) | with_reducible apply State.Keeps.mk_)

theorem execThermalRestart_keeps (b0 : State) (s : State) (h0 : b0.Keeps s) : b0.KeepsOut (execThermalRestart s) := by
  unfold execThermalRestart
  repeat' (first | with_reducible assumption | with_reducible apply doThermalRestart_keeps | with_reducible apply State.Keeps.next)

theorem doMinLevelWrite_keeps (b0 : State) (v : Nat) (s : State) (h0 : b0.Keeps s) : b0.Keeps (doMinLevelWrite v s) := by
  unfold doMinLevelWrite
  repeat' (first | with_reducible assumption | with_reducible apply State.setF_keeps)

theorem execMinLevelWrite_keeps (b0 : State) (val : Word) (s : State) (h0 : b0.Keeps s) : b0.KeepsOut (execMinLevelWrite val s) := by
  unfold execMinLevelWrite
  repeat' (first | with_reducible assumption | with_reducible apply doMinLevelWrite_keeps | with_reducible apply State.Keeps.next)

end Sys2Proof.Machine
end

