-- ==== Sys2Proof/Laws/KeepsMgmt.lean ====
section
/-! SUPPORT. What every operation of Machine/Mgmt.lean keeps: the queue, the part, and the canonical forms. -/
namespace Sys2Proof.Machine

set_option linter.all false
set_option Elab.async false

theorem doTotSelRead_keeps (b0 : State) (v : Nat) (s : State) (h0 : b0.Keeps s) : b0.Keeps (doTotSelRead v s) := by
  unfold doTotSelRead
  repeat' (first | with_reducible assumption | with_reducible apply State.setFs_keeps | with_reducible apply State.count_keeps | with_reducible apply State.answer_keeps | with_reducible apply State.Keeps.ite | split | ((with_reducible conv => arg 2; whnf); split) | intro _)

theorem execTotSelRead_keeps (b0 : State) (val : Word) (s : State) (h0 : b0.Keeps s) : b0.KeepsOut (execTotSelRead val s) := by
  unfold execTotSelRead
  repeat' (first | with_reducible assumption | with_reducible apply doTotSelRead_keeps | with_reducible apply State.Keeps.next | intro _)

theorem State.plainWrite_keeps (b0 : State) (s : State) (a v : Nat) (h0 : b0.Keeps s) : b0.Keeps (State.plainWrite s a v) := by
  unfold State.plainWrite
  repeat' (first | with_reducible assumption | intro _ _ _ | intro _ | with_reducible apply State.answer_keeps | with_reducible apply State.writeAt_keeps | with_reducible apply State.Keeps.ite | with_reducible apply State.Keeps.ite2 | with_reducible apply State.Keeps.ite22 | with_reducible apply State.Keeps.ite222 | with_reducible apply State.Keeps.ite1 | with_reducible apply State.Keeps.ite21 | split | ((with_reducible conv => arg 2; whnf); split) | ((with_reducible conv => arg 2; arg 1; whnf); split) | ((with_reducible conv => arg 2; arg 1; arg 1; whnf); split) | with_reducible refine State.Keeps.eq2 (by with_reducible assumption) ?_ | with_reducible refine State.Keeps.eq22 (by with_reducible assumption) ?_ | with_reducible refine State.Keeps.eq222 (by with_reducible assumption) ?_ | with_reducible refine State.Keeps.eq1 (by with_reducible assumption) ?_ | with_reducible apply State.Keeps.mk_)

theorem State.writeSlot_keeps (b0 : State) (s : State) (p k i : Nat) (l : List Byte) (h0 : b0.Keeps s) : b0.Keeps (State.writeSlot s p k i l) := by
  unfold State.writeSlot
  repeat' (first | with_reducible assumption | with_reducible apply State.answer_keeps | with_reducible apply State.Keeps.ite | split | ((with_reducible conv => arg 2; whnf); split) | with_reducible apply State.Keeps.mk_ | intro _)

theorem State.writeMgc_keeps (b0 : State) (s : State) (a sub o v : Nat) (h0 : b0.Keeps s) : b0.Keeps (State.writeMgc s a sub o v) := by
  unfold State.writeMgc
  repeat' (first | with_reducible assumption | with_reducible apply State.setF_keeps | with_reducible apply State.answer_keeps | with_reducible apply doHostRingWrite_keeps | with_reducible apply State.writeSlot_keeps | with_reducible apply State.plainWrite_keeps | with_reducible apply doMinLevelWrite_keeps | with_reducible apply doThermalRestart_keeps | with_reducible apply State.Keeps.ite | split | ((with_reducible conv => arg 2; whnf); split) | intro _)

theorem State.writeADie_keeps (b0 : State) (s : State) (n a sub o v : Nat) (h0 : b0.Keeps s) : b0.Keeps (State.writeADie s n a sub o v) := by
  unfold State.writeADie
  repeat' (first | with_reducible assumption | intro _ _ _ | intro _ | with_reducible apply State.writeScuCtrl_keeps | with_reducible apply State.answer_keeps | with_reducible apply doScuAbort_keeps | with_reducible apply State.writeJobStep_keeps | with_reducible apply doScuLoad_keeps | with_reducible apply doHbmRetire_keeps | with_reducible apply doExpArm_keeps | with_reducible apply State.plainWrite_keeps | with_reducible apply State.Keeps.ite | with_reducible apply State.Keeps.ite2 | with_reducible apply State.Keeps.ite22 | with_reducible apply State.Keeps.ite222 | with_reducible apply State.Keeps.ite1 | with_reducible apply State.Keeps.ite21 | with_reducible refine State.Keeps.eq2 (by with_reducible assumption) ?_ | with_reducible refine State.Keeps.eq22 (by with_reducible assumption) ?_ | with_reducible refine State.Keeps.eq222 (by with_reducible assumption) ?_ | with_reducible refine State.Keeps.eq1 (by with_reducible assumption) ?_ | (with_reducible dsimp only []) | split | with_reducible apply State.Keeps.mk_)

theorem State.writePDie_keeps (b0 : State) (s : State) (a sub o v : Nat) (h0 : b0.Keeps s) : b0.Keeps (State.writePDie s a sub o v) := by
  unfold State.writePDie
  repeat' (first | with_reducible assumption | with_reducible apply doPinCfgWrite_keeps | with_reducible apply doCoreLoad_keeps | with_reducible apply doSveLoad_keeps | with_reducible apply doPmovLoad_keeps | with_reducible apply doMigrationStart_keeps | with_reducible apply State.plainWrite_keeps | split | ((with_reducible conv => arg 2; whnf); split) | with_reducible refine State.Keeps.eq2 (by with_reducible assumption) ?_ | with_reducible refine State.Keeps.eq22 (by with_reducible assumption) ?_ | with_reducible refine State.Keeps.eq222 (by with_reducible assumption) ?_ | with_reducible refine State.Keeps.eq1 (by with_reducible assumption) ?_ | intro _)

theorem State.writeFabCtrl_keeps (b0 : State) (s : State) (v : Nat) (h0 : b0.Keeps s) : b0.Keeps (State.writeFabCtrl s v) := by
  unfold State.writeFabCtrl
  repeat' (first | with_reducible assumption | with_reducible apply State.answer_keeps | with_reducible apply doFabEnableWrite_keeps | with_reducible apply doFabDiscover_keeps | with_reducible apply doFabApply_keeps | with_reducible apply doFabSave_keeps | with_reducible apply State.Keeps.ite | split | ((with_reducible conv => arg 2; whnf); split) | intro _)

theorem State.writeCkptCtrl_keeps (b0 : State) (s : State) (p v : Nat) (h0 : b0.Keeps s) : b0.Keeps (State.writeCkptCtrl s p v) := by
  unfold State.writeCkptCtrl
  repeat' (first | with_reducible assumption | intro _ _ _ | intro _ | with_reducible apply State.writeReg_keeps | with_reducible apply State.answer_keeps | with_reducible apply doCkptAbandon_keeps | with_reducible apply doCkptSave_keeps | with_reducible apply doCkptScan_keeps | with_reducible apply doCkptRestore_keeps | with_reducible apply State.Keeps.ite | with_reducible apply State.Keeps.ite2 | with_reducible apply State.Keeps.ite22 | with_reducible apply State.Keeps.ite222 | with_reducible apply State.Keeps.ite1 | with_reducible apply State.Keeps.ite21 | split | ((with_reducible conv => arg 2; whnf); split) | ((with_reducible conv => arg 2; arg 1; whnf); split) | ((with_reducible conv => arg 2; arg 1; arg 1; whnf); split) | with_reducible refine State.Keeps.eq2 (by with_reducible assumption) ?_ | with_reducible refine State.Keeps.eq22 (by with_reducible assumption) ?_ | with_reducible refine State.Keeps.eq222 (by with_reducible assumption) ?_ | with_reducible refine State.Keeps.eq1 (by with_reducible assumption) ?_ | with_reducible apply State.Keeps.mk_)

theorem State.writeFDie_keeps (b0 : State) (s : State) (a sub o v : Nat) (h0 : b0.Keeps s) : b0.Keeps (State.writeFDie s a sub o v) := by
  unfold State.writeFDie
  repeat' (first | with_reducible assumption | with_reducible apply State.writeFabCtrl_keeps | with_reducible apply State.plainWrite_keeps | with_reducible apply doPortDisableWrite_keeps | with_reducible apply doTblWrite_keeps | with_reducible apply State.tblSel_keeps | with_reducible apply State.answer_keeps | with_reducible apply doTblRead_keeps | with_reducible apply doTotLoad_keeps | with_reducible apply doTotSelRead_keeps | with_reducible apply State.writeCkptCtrl_keeps | with_reducible apply doCkptMirrorWrite_keeps | with_reducible apply doGstCtrlWrite_keeps | with_reducible apply State.setF_keeps | with_reducible apply doFrameLenWrite_keeps | with_reducible apply doFrameResume_keeps | with_reducible apply doCsArm_keeps | with_reducible apply doCsNow_keeps | with_reducible apply doTbMeasure_keeps | with_reducible apply doJnlHeadWrite_keeps | with_reducible apply doJnlClearSeen_keeps | with_reducible apply State.Keeps.ite | split | ((with_reducible conv => arg 2; whnf); split) | with_reducible refine State.Keeps.eq2 (by with_reducible assumption) ?_ | with_reducible refine State.Keeps.eq22 (by with_reducible assumption) ?_ | with_reducible refine State.Keeps.eq222 (by with_reducible assumption) ?_ | with_reducible refine State.Keeps.eq1 (by with_reducible assumption) ?_ | intro _)

theorem State.mgmtWrite_keeps (b0 : State) (s : State) (a v : Nat) (h0 : b0.Keeps s) : b0.Keeps (State.mgmtWrite s a v) := by
  unfold State.mgmtWrite
  repeat' (first | with_reducible assumption | with_reducible apply State.writeADie_keeps | with_reducible apply State.writeMgc_keeps | with_reducible apply State.writePDie_keeps | with_reducible apply State.writeFDie_keeps | with_reducible apply State.answer_keeps | split | ((with_reducible conv => arg 2; whnf); split) | with_reducible refine State.Keeps.eq2 (by with_reducible assumption) ?_ | with_reducible refine State.Keeps.eq22 (by with_reducible assumption) ?_ | with_reducible refine State.Keeps.eq222 (by with_reducible assumption) ?_ | with_reducible refine State.Keeps.eq1 (by with_reducible assumption) ?_ | intro _)

theorem doRegisterWrite_keeps (b0 : State) (a bytes v : Nat) (s : State) (h0 : b0.Keeps s) : b0.Keeps (doRegisterWrite a bytes v s) := by
  unfold doRegisterWrite
  repeat' (first | with_reducible assumption | intro _ _ _ | intro _ | with_reducible apply State.writeSlot_keeps | with_reducible apply State.refused_keeps | with_reducible apply State.mgmtWrite_keeps | with_reducible apply State.Keeps.ite | with_reducible apply State.Keeps.ite2 | with_reducible apply State.Keeps.ite22 | with_reducible apply State.Keeps.ite222 | with_reducible apply State.Keeps.ite1 | with_reducible apply State.Keeps.ite21 | split | ((with_reducible conv => arg 2; whnf); split) | ((with_reducible conv => arg 2; arg 1; whnf); split) | ((with_reducible conv => arg 2; arg 1; arg 1; whnf); split) | with_reducible refine State.Keeps.eq2 (by with_reducible assumption) ?_ | with_reducible refine State.Keeps.eq22 (by with_reducible assumption) ?_ | with_reducible refine State.Keeps.eq222 (by with_reducible assumption) ?_ | with_reducible refine State.Keeps.eq1 (by with_reducible assumption) ?_ | with_reducible apply State.Keeps.mk_)

theorem execRegisterWrite_keeps (b0 : State) (addr bytes : Nat) (val : Word) (s : State) (h0 : b0.Keeps s) : b0.KeepsOut (execRegisterWrite addr bytes val s) := by
  unfold execRegisterWrite
  repeat' (first | with_reducible assumption | with_reducible apply doRegisterWrite_keeps | with_reducible apply State.Keeps.next | intro _)

theorem State.tellerWrites_keeps (b0 : State) (s : State) (l : List (Nat × Nat)) (h0 : b0.Keeps s) : b0.Keeps (State.tellerWrites s l).2 := by
  unfold State.tellerWrites
  repeat' (first | with_reducible assumption | intro _ _ _ | intro _ | with_reducible apply State.mgmtWrite_keeps | with_reducible apply State.Keeps.ite | with_reducible apply State.Keeps.ite2 | with_reducible apply State.Keeps.ite22 | with_reducible apply State.Keeps.ite222 | with_reducible apply State.Keeps.ite1 | with_reducible apply State.Keeps.ite21 | with_reducible apply State.Keeps.foldl | with_reducible apply State.Keeps.foldl2 | with_reducible apply State.Keeps.foldl22 | with_reducible apply State.Keeps.foldl222 | with_reducible apply State.Keeps.foldl1 | split | ((with_reducible conv => arg 2; whnf); split) | ((with_reducible conv => arg 2; arg 1; whnf); split) | ((with_reducible conv => arg 2; arg 1; arg 1; whnf); split))

theorem doTellerRead_keeps (b0 : State) (r : TellerReq) (s : State) (h0 : b0.Keeps s) : b0.Keeps (doTellerRead r s) := by
  unfold doTellerRead
  repeat' (first | with_reducible assumption | intro _ _ _ | intro _ | with_reducible apply State.serve_keeps | with_reducible apply State.Keeps.ite | with_reducible apply State.Keeps.ite2 | with_reducible apply State.Keeps.ite22 | with_reducible apply State.Keeps.ite222 | with_reducible apply State.Keeps.ite1 | with_reducible apply State.Keeps.ite21 | split | ((with_reducible conv => arg 2; whnf); split) | ((with_reducible conv => arg 2; arg 1; whnf); split) | ((with_reducible conv => arg 2; arg 1; arg 1; whnf); split))

theorem execTellerRead_keeps (b0 : State) (req : TellerReq) (s : State) (h0 : b0.Keeps s) : b0.KeepsOut (execTellerRead req s) := by
  unfold execTellerRead
  repeat' (first | with_reducible assumption | with_reducible apply doTellerRead_keeps | with_reducible apply State.Keeps.next | intro _)

theorem doTellerWrite_keeps (b0 : State) (r : TellerReq) (s : State) (h0 : b0.Keeps s) : b0.Keeps (doTellerWrite r s) := by
  unfold doTellerWrite
  repeat' (first | with_reducible assumption | intro _ _ _ | intro _ | with_reducible apply State.serve_keeps | with_reducible apply State.tellerWrites_keeps | with_reducible apply State.Keeps.ite | with_reducible apply State.Keeps.ite2 | with_reducible apply State.Keeps.ite22 | with_reducible apply State.Keeps.ite222 | with_reducible apply State.Keeps.ite1 | with_reducible apply State.Keeps.ite21 | split | ((with_reducible conv => arg 2; whnf); split) | ((with_reducible conv => arg 2; arg 1; whnf); split) | ((with_reducible conv => arg 2; arg 1; arg 1; whnf); split))

theorem execTellerWrite_keeps (b0 : State) (req : TellerReq) (s : State) (h0 : b0.Keeps s) : b0.KeepsOut (execTellerWrite req s) := by
  unfold execTellerWrite
  repeat' (first | with_reducible assumption | with_reducible apply doTellerWrite_keeps | with_reducible apply State.Keeps.next | intro _)

theorem doTellerCritical_keeps (b0 : State) (r : TellerReq) (s : State) (h0 : b0.Keeps s) : b0.Keeps (doTellerCritical r s) := by
  unfold doTellerCritical
  repeat' (first | with_reducible assumption | intro _ _ _ | intro _ | with_reducible apply State.serve_keeps | with_reducible apply State.tellerWrites_keeps | with_reducible apply State.Keeps.ite | with_reducible apply State.Keeps.ite2 | with_reducible apply State.Keeps.ite22 | with_reducible apply State.Keeps.ite222 | with_reducible apply State.Keeps.ite1 | with_reducible apply State.Keeps.ite21 | split | ((with_reducible conv => arg 2; whnf); split) | ((with_reducible conv => arg 2; arg 1; whnf); split) | ((with_reducible conv => arg 2; arg 1; arg 1; whnf); split))

theorem execTellerCritical_keeps (b0 : State) (req : TellerReq) (s : State) (h0 : b0.Keeps s) : b0.KeepsOut (execTellerCritical req s) := by
  unfold execTellerCritical
  repeat' (first | with_reducible assumption | with_reducible apply doTellerCritical_keeps | with_reducible apply State.Keeps.next | intro _)

end Sys2Proof.Machine
end

