-- ==== Sys2Proof/Laws/KeepsCoreExec.lean ====
section
/-! SUPPORT. What every operation of Machine/CoreExec.lean keeps: the queue, the part, and the canonical forms. -/
namespace Sys2Proof.Machine

set_option linter.all false
set_option Elab.async false

theorem State.takeExc_keeps (b0 : State) (s : State) (c kind : Nat) (h0 : b0.Keeps s) : b0.Keeps (State.takeExc s c kind) := by
  unfold State.takeExc
  repeat' (first | with_reducible assumption | intro _ _ _ | intro _ | with_reducible apply State.pinBreak_keeps | with_reducible apply State.updCore_keeps | with_reducible apply State.Keeps.ite | split | ((with_reducible conv => arg 2; whnf); split) | with_reducible apply State.Keeps.mk_)

theorem State.boundary_keeps {b0 s : State} {c : Nat} {b9 : State} (e0 : State.boundary s c = some b9) (h0 : b0.Keeps s) : b0.Keeps b9 := by
  unfold State.boundary at e0
  dsimp only at e0
  repeat' split at e0
  all_goals first
    | contradiction
    | (rw [← Option.some.inj e0]; exact h0)
    | (rw [← Option.some.inj e0]; exact State.endPart_keeps _ _ _ _ _ h0)
    | (rw [← Option.some.inj e0]; exact State.takeExc_keeps _ _ _ _ (State.updCore_keeps _ _ _ _ h0))

theorem State.running_keeps (b0 : State) (s : State) (c : Nat) (h0 : b0.Keeps s) : b0.Keeps (State.running s c) := by
  unfold State.running
  repeat' (first | with_reducible assumption | intro _ _ _ | intro _ | with_reducible apply State.fetch_keeps | with_reducible apply State.updCore_keeps | with_reducible apply State.Keeps.ite | with_reducible apply State.Keeps.ite2 | with_reducible apply State.Keeps.ite22 | with_reducible apply State.Keeps.ite222 | with_reducible apply State.Keeps.ite1 | with_reducible apply State.Keeps.ite21 | split | ((with_reducible conv => arg 2; whnf); split) | ((with_reducible conv => arg 2; arg 1; whnf); split) | ((with_reducible conv => arg 2; arg 1; arg 1; whnf); split) | with_reducible apply State.Keeps.mk_)

theorem State.flushLine_keeps (b0 : State) (s : State) (a : Nat) (h0 : b0.Keeps s) : b0.Keeps (State.flushLine s a) := by
  unfold State.flushLine
  repeat' (first | with_reducible assumption | intro _ _ _ | intro _ | with_reducible apply State.dirty_keeps | with_reducible apply State.extWrite_keeps | with_reducible apply State.Keeps.ite | with_reducible apply State.Keeps.ite2 | with_reducible apply State.Keeps.ite22 | with_reducible apply State.Keeps.ite222 | with_reducible apply State.Keeps.ite1 | with_reducible apply State.Keeps.ite21 | split | ((with_reducible conv => arg 2; whnf); split) | ((with_reducible conv => arg 2; arg 1; whnf); split) | ((with_reducible conv => arg 2; arg 1; arg 1; whnf); split) | with_reducible refine State.Keeps.eq2 (by with_reducible assumption) ?_ | with_reducible refine State.Keeps.eq22 (by with_reducible assumption) ?_ | with_reducible refine State.Keeps.eq222 (by with_reducible assumption) ?_ | with_reducible refine State.Keeps.eq1 (by with_reducible assumption) ?_ | with_reducible apply State.Keeps.mk_)

theorem State.evict_keeps (b0 : State) (s : State) (h0 : b0.Keeps s) : b0.Keeps (State.evict s) := by
  unfold State.evict
  repeat' (first | with_reducible assumption | intro _ _ _ | intro _ | with_reducible apply State.freshNat_keeps | with_reducible apply State.flushLine_keeps | with_reducible apply State.Keeps.ite | with_reducible apply State.Keeps.ite2 | with_reducible apply State.Keeps.ite22 | with_reducible apply State.Keeps.ite222 | with_reducible apply State.Keeps.ite1 | with_reducible apply State.Keeps.ite21 | with_reducible apply State.Keeps.foldl | with_reducible apply State.Keeps.foldl2 | with_reducible apply State.Keeps.foldl22 | with_reducible apply State.Keeps.foldl222 | with_reducible apply State.Keeps.foldl1 | split | ((with_reducible conv => arg 2; whnf); split) | ((with_reducible conv => arg 2; arg 1; whnf); split) | ((with_reducible conv => arg 2; arg 1; arg 1; whnf); split) | with_reducible refine State.Keeps.eq2 (by with_reducible assumption) ?_ | with_reducible refine State.Keeps.eq22 (by with_reducible assumption) ?_ | with_reducible refine State.Keeps.eq222 (by with_reducible assumption) ?_ | with_reducible refine State.Keeps.eq1 (by with_reducible assumption) ?_ | with_reducible apply State.Keeps.mk_)

theorem State.fetchLine_keeps (b0 : State) (s : State) (a : Nat) (h0 : b0.Keeps s) : b0.Keeps (State.fetchLine s a).2 := by
  unfold State.fetchLine
  repeat' (first | with_reducible assumption | intro _ _ _ | intro _ | with_reducible apply State.evict_keeps | with_reducible apply State.extRead_keeps | with_reducible apply State.Keeps.ite | with_reducible apply State.Keeps.ite2 | with_reducible apply State.Keeps.ite22 | with_reducible apply State.Keeps.ite222 | with_reducible apply State.Keeps.ite1 | with_reducible apply State.Keeps.ite21 | with_reducible refine State.Keeps.eq2 (by with_reducible assumption) ?_ | with_reducible refine State.Keeps.eq22 (by with_reducible assumption) ?_ | with_reducible refine State.Keeps.eq222 (by with_reducible assumption) ?_ | with_reducible refine State.Keeps.eq1 (by with_reducible assumption) ?_ | (with_reducible dsimp only []) | split | with_reducible apply State.Keeps.mk_)

theorem State.putLine_keeps (b0 : State) (s : State) (a : Nat) (b : List Byte) (h0 : b0.Keeps s) : b0.Keeps (State.putLine s a b) := by
  unfold State.putLine
  repeat' (first | with_reducible assumption | intro _ _ _ | intro _ | with_reducible apply State.dirty_keeps | with_reducible apply State.Keeps.ite | split | ((with_reducible conv => arg 2; whnf); split) | with_reducible apply State.Keeps.mk_)

theorem lineRead_keeps (b0 : State) (acc : Option (List Byte) × State) (p : Nat × Nat) (h : b0.Keeps acc.2) : b0.Keeps (lineRead acc p).2 := by
  have h1 := State.fetchLine_keeps b0 acc.2 (p.1 / 64 * 64) h
  unfold lineRead
  split
  · exact h
  · split
    · next e => exact State.Keeps.eq2 e h1
    · next e => exact State.Keeps.eq2 e h1

theorem State.cachedRead_keeps (b0 : State) (s : State) (a n : Nat) (h0 : b0.Keeps s) : b0.Keeps (State.cachedRead s a n).2 :=
  State.Keeps.foldl2 (t := (some [], s)) h0 (fun u x h => lineRead_keeps b0 u x h)

theorem lineWrite_keeps (b0 : State) (a : Nat) (b : List Byte) (acc : Bool × State) (p : Nat × Nat) (h : b0.Keeps acc.2) : b0.Keeps (lineWrite a b acc p).2 := by
  have h1 := State.fetchLine_keeps b0 acc.2 (p.1 / 64 * 64) h
  unfold lineWrite
  split
  · exact h
  · split
    · next e => exact State.putLine_keeps _ _ _ _ (State.Keeps.eq2 e h1)
    · next e => exact State.Keeps.eq2 e h1

theorem State.cachedWrite_keeps (b0 : State) (s : State) (a : Nat) (b : List Byte) (h0 : b0.Keeps s) : b0.Keeps (State.cachedWrite s a b).2 :=
  State.Keeps.ite2 (State.Keeps.foldl2 (t := (true, s)) h0 (fun u x h => lineWrite_keeps b0 a b u x h)) h0

theorem State.coreReadPhys_keeps (b0 : State) (s : State) (c a n : Nat) (h0 : b0.Keeps s) : b0.Keeps (State.coreReadPhys s c a n).2 := by
  unfold State.coreReadPhys
  repeat' (first | with_reducible assumption | intro _ _ _ | intro _ | with_reducible apply State.cachedRead_keeps | with_reducible apply State.extRead_keeps | with_reducible apply State.windowRead_keeps | with_reducible apply State.freshBytes_keeps | with_reducible apply State.coreFault_keeps | with_reducible apply State.coreMachineCheck_keeps | with_reducible apply State.Keeps.ite | with_reducible apply State.Keeps.ite2 | with_reducible apply State.Keeps.ite22 | with_reducible apply State.Keeps.ite222 | with_reducible apply State.Keeps.ite1 | with_reducible apply State.Keeps.ite21 | split | ((with_reducible conv => arg 2; whnf); split) | ((with_reducible conv => arg 2; arg 1; whnf); split) | ((with_reducible conv => arg 2; arg 1; arg 1; whnf); split) | with_reducible refine State.Keeps.eq2 (by with_reducible assumption) ?_ | with_reducible refine State.Keeps.eq22 (by with_reducible assumption) ?_ | with_reducible refine State.Keeps.eq222 (by with_reducible assumption) ?_ | with_reducible refine State.Keeps.eq1 (by with_reducible assumption) ?_ | with_reducible apply State.Keeps.pair2 | with_reducible apply State.Keeps.pair22 | with_reducible apply State.Keeps.pair222 | with_reducible apply State.Keeps.mk_)

theorem State.mgmtStore_keeps (b0 : State) (s : State) (m : Nat) (b : List Byte) (h0 : b0.Keeps s) : b0.Keeps (State.mgmtStore s m b).2 := by
  unfold State.mgmtStore
  split
  · exact doRegisterWrite_keeps _ _ _ _ _ h0
  · exact h0

theorem State.doorbellStore_keeps (b0 : State) (s : State) (x : Nat) (b : List Byte) (h0 : b0.Keeps s) : b0.Keeps (State.doorbellStore s x b) := by
  unfold State.doorbellStore
  split
  · exact doNicDoorbell_keeps _ _ _ _ _ h0
  · split
    · exact doTotDoorbellIncrement_keeps _ _ _ _ _ h0
    · exact h0

theorem State.coreWritePhys_keeps (b0 : State) (s : State) (a : Nat) (b : List Byte) (h0 : b0.Keeps s) : b0.Keeps (State.coreWritePhys s a b).2 := by
  unfold State.coreWritePhys
  repeat' (first | with_reducible assumption | intro _ _ _ | intro _ | with_reducible apply State.cachedWrite_keeps | with_reducible apply State.extWrite_keeps | with_reducible apply State.windowStore_keeps | with_reducible apply State.mgmtStore_keeps | with_reducible apply State.doorbellStore_keeps | with_reducible apply State.Keeps.ite | with_reducible apply State.Keeps.ite2 | with_reducible apply State.Keeps.ite22 | with_reducible apply State.Keeps.ite222 | with_reducible apply State.Keeps.ite1 | with_reducible apply State.Keeps.ite21 | with_reducible refine State.Keeps.eq2 (by with_reducible assumption) ?_ | with_reducible refine State.Keeps.eq22 (by with_reducible assumption) ?_ | with_reducible refine State.Keeps.eq222 (by with_reducible assumption) ?_ | with_reducible refine State.Keeps.eq1 (by with_reducible assumption) ?_ | (with_reducible dsimp only []) | split | with_reducible apply State.Keeps.mk_)

theorem State.coreAccess_keeps (b0 : State) (s : State) (c va n : Nat) (w : Option (List Byte)) (pages : List PageMap) (h0 : b0.Keeps s) : b0.Keeps (State.coreAccess s c va n w pages).2 := by
  unfold State.coreAccess
  repeat' (first | with_reducible assumption | intro _ _ _ | intro _ | with_reducible apply State.pinBreak_keeps | with_reducible apply State.coreReadPhys_keeps | with_reducible apply State.coreWritePhys_keeps | with_reducible apply State.Keeps.ite | with_reducible apply State.Keeps.ite2 | with_reducible apply State.Keeps.ite22 | with_reducible apply State.Keeps.ite222 | with_reducible apply State.Keeps.ite1 | with_reducible apply State.Keeps.ite21 | with_reducible apply State.Keeps.foldl | with_reducible apply State.Keeps.foldl2 | with_reducible apply State.Keeps.foldl22 | with_reducible apply State.Keeps.foldl222 | with_reducible apply State.Keeps.foldl1 | split | ((with_reducible conv => arg 2; whnf); split) | ((with_reducible conv => arg 2; arg 1; whnf); split) | ((with_reducible conv => arg 2; arg 1; arg 1; whnf); split) | with_reducible refine State.Keeps.eq2 (by with_reducible assumption) ?_ | with_reducible refine State.Keeps.eq22 (by with_reducible assumption) ?_ | with_reducible refine State.Keeps.eq222 (by with_reducible assumption) ?_ | with_reducible refine State.Keeps.eq1 (by with_reducible assumption) ?_)

theorem State.latency_keeps (b0 : State) (s : State) (c : Nat) (l : List (Nat × Nat)) (h0 : b0.Keeps s) : b0.Keeps (State.latency s c l).2 := by
  unfold State.latency
  repeat' (first | with_reducible assumption | intro _ _ _ | intro _ | with_reducible apply State.updCore_keeps | with_reducible apply State.freshNat_keeps | with_reducible apply State.Keeps.ite | with_reducible apply State.Keeps.ite2 | with_reducible apply State.Keeps.ite22 | with_reducible apply State.Keeps.ite222 | with_reducible apply State.Keeps.ite1 | with_reducible apply State.Keeps.ite21 | split | ((with_reducible conv => arg 2; whnf); split) | ((with_reducible conv => arg 2; arg 1; whnf); split) | ((with_reducible conv => arg 2; arg 1; arg 1; whnf); split) | with_reducible refine State.Keeps.eq2 (by with_reducible assumption) ?_ | with_reducible refine State.Keeps.eq22 (by with_reducible assumption) ?_ | with_reducible refine State.Keeps.eq222 (by with_reducible assumption) ?_ | with_reducible refine State.Keeps.eq1 (by with_reducible assumption) ?_ | with_reducible apply State.Keeps.pair2 | with_reducible apply State.Keeps.pair22 | with_reducible apply State.Keeps.pair222 | with_reducible apply State.Keeps.mk_)

theorem State.l1Store_keeps (b0 : State) (s : State) (c : Nat) (l : List (Nat × Nat)) (h0 : b0.Keeps s) : b0.Keeps (State.l1Store s c l) := by
  unfold State.l1Store
  repeat' (first | with_reducible assumption | intro _ _ _ | intro _ | with_reducible apply State.updCore_keeps | with_reducible apply State.Keeps.ite | with_reducible apply State.Keeps.ite2 | with_reducible apply State.Keeps.ite22 | with_reducible apply State.Keeps.ite222 | with_reducible apply State.Keeps.ite1 | with_reducible apply State.Keeps.ite21 | split | ((with_reducible conv => arg 2; whnf); split) | ((with_reducible conv => arg 2; arg 1; whnf); split) | ((with_reducible conv => arg 2; arg 1; arg 1; whnf); split) | with_reducible apply State.Keeps.mk_)

theorem doVsetc_keeps (b0 : State) (c gd gs imm : Nat) (s : State) (h0 : b0.Keeps s) : b0.Keeps (doVsetc c gd gs imm s) := by
  unfold doVsetc
  repeat' (first | with_reducible assumption | intro _ _ _ | intro _ | with_reducible refine State.boundary_keeps (by with_reducible assumption) ?_ | with_reducible apply State.running_keeps | with_reducible apply State.takeExc_keeps | with_reducible apply State.updCore_keeps | with_reducible apply State.Keeps.ite | with_reducible apply State.Keeps.ite2 | with_reducible apply State.Keeps.ite22 | with_reducible apply State.Keeps.ite222 | with_reducible apply State.Keeps.ite1 | with_reducible apply State.Keeps.ite21 | with_reducible refine State.Keeps.eq2 (by with_reducible assumption) ?_ | with_reducible refine State.Keeps.eq22 (by with_reducible assumption) ?_ | with_reducible refine State.Keeps.eq222 (by with_reducible assumption) ?_ | with_reducible refine State.Keeps.eq1 (by with_reducible assumption) ?_ | (with_reducible dsimp only []) | split | with_reducible apply State.Keeps.mk_)

theorem execVsetc_keeps (b0 : State) (core : Fin 64) (gd gs : Fin 32) (imm : Nat) (s : State) (h0 : b0.Keeps s) : b0.KeepsOut (execVsetc core gd gs imm s) := by
  unfold execVsetc
  repeat' (first | with_reducible assumption | with_reducible apply doVsetc_keeps | with_reducible apply State.Keeps.next | intro _)

theorem elemLoop_keeps (b0 : State) (f : Nat → State → Bool × State) (x0 : List Nat) (s : State) (h0 : b0.Keeps s) (hf : ∀ y0 u, b0.Keeps u → b0.Keeps (f y0 u).2) : b0.Keeps (elemLoop f x0 s).2 := by
  induction x0 generalizing s with
  | nil =>
    unfold elemLoop
    repeat' (first | with_reducible assumption | with_reducible apply hf | with_reducible apply State.Keeps.ite | with_reducible apply State.Keeps.ite2 | with_reducible apply State.Keeps.ite22 | with_reducible apply State.Keeps.ite222 | with_reducible apply State.Keeps.ite1 | with_reducible apply State.Keeps.ite21 | split | ((with_reducible conv => arg 2; whnf); split) | ((with_reducible conv => arg 2; arg 1; whnf); split) | ((with_reducible conv => arg 2; arg 1; arg 1; whnf); split) | intro _)
  | cons y r ih =>
    unfold elemLoop
    repeat' (first | with_reducible apply ih | with_reducible assumption | with_reducible apply hf | with_reducible apply State.Keeps.ite | with_reducible apply State.Keeps.ite2 | with_reducible apply State.Keeps.ite22 | with_reducible apply State.Keeps.ite222 | with_reducible apply State.Keeps.ite1 | with_reducible apply State.Keeps.ite21 | split | ((with_reducible conv => arg 2; whnf); split) | ((with_reducible conv => arg 2; arg 1; whnf); split) | ((with_reducible conv => arg 2; arg 1; arg 1; whnf); split) | intro _)

theorem vecElem_keeps (b0 : State) (c : Nat) (i : VecInstr) (x0 : Core) (sw e : Nat) (s : State) (h0 : b0.Keeps s) : b0.Keeps (vecElem c i x0 sw e s).2 := by
  unfold vecElem
  repeat' (first | with_reducible assumption | intro _ _ _ | intro _ | with_reducible apply State.updCore_keeps | with_reducible apply State.coreAccess_keeps | with_reducible apply State.store_keeps | with_reducible apply State.Keeps.ite | with_reducible apply State.Keeps.ite2 | with_reducible apply State.Keeps.ite22 | with_reducible apply State.Keeps.ite222 | with_reducible apply State.Keeps.ite1 | with_reducible apply State.Keeps.ite21 | split | ((with_reducible conv => arg 2; whnf); split) | ((with_reducible conv => arg 2; arg 1; whnf); split) | ((with_reducible conv => arg 2; arg 1; arg 1; whnf); split) | with_reducible refine State.Keeps.eq2 (by with_reducible assumption) ?_ | with_reducible refine State.Keeps.eq22 (by with_reducible assumption) ?_ | with_reducible refine State.Keeps.eq222 (by with_reducible assumption) ?_ | with_reducible refine State.Keeps.eq1 (by with_reducible assumption) ?_ | with_reducible apply State.Keeps.pair2 | with_reducible apply State.Keeps.pair22 | with_reducible apply State.Keeps.pair222 | with_reducible apply State.Keeps.mk_)

theorem State.vecTimes_keeps (b0 : State) (s : State) (c : Nat) (i : VecInstr) (sw p k0 : Nat) (acts : List Nat) (h0 : b0.Keeps s) : b0.Keeps (State.vecTimes s c i sw p k0 acts).2.2 := by
  unfold State.vecTimes
  repeat' (first | with_reducible assumption | intro _ _ _ | intro _ | with_reducible apply State.latency_keeps | with_reducible apply State.store_keeps | with_reducible apply State.l1Store_keeps | with_reducible apply State.Keeps.ite | with_reducible apply State.Keeps.ite2 | with_reducible apply State.Keeps.ite22 | with_reducible apply State.Keeps.ite222 | with_reducible apply State.Keeps.ite1 | with_reducible apply State.Keeps.ite21 | split | ((with_reducible conv => arg 2; whnf); split) | ((with_reducible conv => arg 2; arg 1; whnf); split) | ((with_reducible conv => arg 2; arg 1; arg 1; whnf); split) | with_reducible refine State.Keeps.eq2 (by with_reducible assumption) ?_ | with_reducible refine State.Keeps.eq22 (by with_reducible assumption) ?_ | with_reducible refine State.Keeps.eq222 (by with_reducible assumption) ?_ | with_reducible refine State.Keeps.eq1 (by with_reducible assumption) ?_ | with_reducible apply State.Keeps.pair2 | with_reducible apply State.Keeps.pair22 | with_reducible apply State.Keeps.pair222 | with_reducible apply State.Keeps.mk_)

theorem State.vecIssue_keeps (b0 : State) (s : State) (c : Nat) (i : VecInstr) (sw p k0 : Nat) (acts : List Nat) (h0 : b0.Keeps s) : b0.Keeps (State.vecIssue s c i sw p k0 acts) := by
  unfold State.vecIssue
  repeat' (first | with_reducible assumption | intro _ _ _ | intro _ | with_reducible apply State.vecTimes_keeps | with_reducible apply State.updCore_keeps | split | ((with_reducible conv => arg 2; whnf); split) | ((with_reducible conv => arg 2; arg 1; whnf); split) | ((with_reducible conv => arg 2; arg 1; arg 1; whnf); split))

theorem State.vecHold_keeps (b0 : State) (s : State) (c : Nat) (ls : Bool) (o k : Nat) (h0 : b0.Keeps s) : b0.Keeps (State.vecHold s c ls o k) := by
  unfold State.vecHold
  repeat' (first | with_reducible assumption | intro _ _ _ | intro _ | with_reducible apply State.updCore_keeps | with_reducible apply State.Keeps.ite | with_reducible apply State.Keeps.ite2 | with_reducible apply State.Keeps.ite22 | with_reducible apply State.Keeps.ite222 | with_reducible apply State.Keeps.ite1 | with_reducible apply State.Keeps.ite21 | split | ((with_reducible conv => arg 2; whnf); split) | ((with_reducible conv => arg 2; arg 1; whnf); split) | ((with_reducible conv => arg 2; arg 1; arg 1; whnf); split) | with_reducible apply State.Keeps.mk_)

theorem doVectorInstruction_keeps (b0 : State) (c : Nat) (i : VecInstr) (s : State) (h0 : b0.Keeps s) : b0.Keeps (doVectorInstruction c i s) := by
  unfold doVectorInstruction
  repeat' (first | with_reducible assumption | intro _ _ _ | intro _ | with_reducible refine State.boundary_keeps (by with_reducible assumption) ?_ | with_reducible apply State.running_keeps | with_reducible apply State.takeExc_keeps | with_reducible apply State.vecHold_keeps | with_reducible apply State.updCore_keeps | with_reducible apply State.vecIssue_keeps | with_reducible apply elemLoop_keeps | with_reducible apply vecElem_keeps | with_reducible apply State.Keeps.ite | with_reducible apply State.Keeps.ite2 | with_reducible apply State.Keeps.ite22 | with_reducible apply State.Keeps.ite222 | with_reducible apply State.Keeps.ite1 | with_reducible apply State.Keeps.ite21 | split | ((with_reducible conv => arg 2; whnf); split) | ((with_reducible conv => arg 2; arg 1; whnf); split) | ((with_reducible conv => arg 2; arg 1; arg 1; whnf); split) | with_reducible refine State.Keeps.eq2 (by with_reducible assumption) ?_ | with_reducible refine State.Keeps.eq22 (by with_reducible assumption) ?_ | with_reducible refine State.Keeps.eq222 (by with_reducible assumption) ?_ | with_reducible refine State.Keeps.eq1 (by with_reducible assumption) ?_ | with_reducible apply State.Keeps.mk_)

theorem execVectorInstruction_keeps (b0 : State) (core : Fin 64) (instr : VecInstr) (s : State) (h0 : b0.Keeps s) : b0.KeepsOut (execVectorInstruction core instr s) := by
  unfold execVectorInstruction
  repeat' (first | with_reducible assumption | with_reducible apply doVectorInstruction_keeps | with_reducible apply State.Keeps.next | intro _)

theorem doFpReduction_keeps (b0 : State) (c : Nat) (i : RedInstr) (s : State) (h0 : b0.Keeps s) : b0.Keeps (doFpReduction c i s) := by
  unfold doFpReduction
  repeat' (first | with_reducible assumption | intro _ _ _ | intro _ | with_reducible refine State.boundary_keeps (by with_reducible assumption) ?_ | with_reducible apply State.running_keeps | with_reducible apply State.takeExc_keeps | with_reducible apply State.vecHold_keeps | with_reducible apply State.updCore_keeps | with_reducible apply State.Keeps.ite | with_reducible apply State.Keeps.ite2 | with_reducible apply State.Keeps.ite22 | with_reducible apply State.Keeps.ite222 | with_reducible apply State.Keeps.ite1 | with_reducible apply State.Keeps.ite21 | split | ((with_reducible conv => arg 2; whnf); split) | ((with_reducible conv => arg 2; arg 1; whnf); split) | ((with_reducible conv => arg 2; arg 1; arg 1; whnf); split) | with_reducible refine State.Keeps.eq2 (by with_reducible assumption) ?_ | with_reducible refine State.Keeps.eq22 (by with_reducible assumption) ?_ | with_reducible refine State.Keeps.eq222 (by with_reducible assumption) ?_ | with_reducible refine State.Keeps.eq1 (by with_reducible assumption) ?_ | with_reducible apply State.Keeps.mk_)

theorem execFpReduction_keeps (b0 : State) (core : Fin 64) (instr : RedInstr) (s : State) (h0 : b0.Keeps s) : b0.KeepsOut (execFpReduction core instr s) := by
  unfold execFpReduction
  repeat' (first | with_reducible assumption | with_reducible apply doFpReduction_keeps | with_reducible apply State.Keeps.next | intro _)

theorem State.ledgerOp_keeps (b0 : State) (s : State) (c a n al b : Nat) (src : Option LedgerSrc) (f : List Byte → List Fv → Option (List Byte)) (h0 : b0.Keeps s) : b0.Keeps (State.ledgerOp s c a n al b src f) := by
  unfold State.ledgerOp
  repeat' (first | with_reducible assumption | intro _ _ _ | intro _ | with_reducible apply State.takeExc_keeps | with_reducible apply State.vecHold_keeps | with_reducible apply State.updCore_keeps | with_reducible apply State.windowRead_keeps | with_reducible apply State.coreFault_keeps | with_reducible apply State.coreMachineCheck_keeps | with_reducible apply State.windowStore_keeps | with_reducible apply State.raise_keeps | with_reducible apply State.Keeps.ite | with_reducible apply State.Keeps.ite2 | with_reducible apply State.Keeps.ite22 | with_reducible apply State.Keeps.ite222 | with_reducible apply State.Keeps.ite1 | with_reducible apply State.Keeps.ite21 | split | ((with_reducible conv => arg 2; whnf); split) | ((with_reducible conv => arg 2; arg 1; whnf); split) | ((with_reducible conv => arg 2; arg 1; arg 1; whnf); split) | with_reducible refine State.Keeps.eq2 (by with_reducible assumption) ?_ | with_reducible refine State.Keeps.eq22 (by with_reducible assumption) ?_ | with_reducible refine State.Keeps.eq222 (by with_reducible assumption) ?_ | with_reducible refine State.Keeps.eq1 (by with_reducible assumption) ?_ | with_reducible apply State.Keeps.mk_)

theorem doLga32_keeps (b0 : State) (c a : Nat) (r : LedgerSrc) (s : State) (h0 : b0.Keeps s) : b0.Keeps (doLga32 c a r s) := by
  unfold doLga32
  repeat' (first | with_reducible assumption | with_reducible refine State.boundary_keeps (by with_reducible assumption) ?_ | intro _ _ _ | intro _ | with_reducible apply State.running_keeps | with_reducible apply State.takeExc_keeps | with_reducible apply State.ledgerOp_keeps | with_reducible apply State.Keeps.ite | with_reducible apply State.Keeps.foldl | with_reducible apply State.Keeps.foldl2 | with_reducible apply State.Keeps.foldl22 | with_reducible apply State.Keeps.foldl222 | with_reducible apply State.Keeps.foldl1 | split | ((with_reducible conv => arg 2; whnf); split) | with_reducible refine State.Keeps.eq2 (by with_reducible assumption) ?_ | with_reducible refine State.Keeps.eq22 (by with_reducible assumption) ?_ | with_reducible refine State.Keeps.eq222 (by with_reducible assumption) ?_ | with_reducible refine State.Keeps.eq1 (by with_reducible assumption) ?_)

theorem execLga32_keeps (b0 : State) (core : Fin 64) (addr : Nat) (src : LedgerSrc) (s : State) (h0 : b0.Keeps s) : b0.KeepsOut (execLga32 core addr src s) := by
  unfold execLga32
  repeat' (first | with_reducible assumption | with_reducible apply doLga32_keeps | with_reducible apply State.Keeps.next | intro _)

theorem doLgw1_keeps (b0 : State) (c a : Nat) (r : LedgerSrc) (s : State) (h0 : b0.Keeps s) : b0.Keeps (doLgw1 c a r s) := by
  unfold doLgw1
  repeat' (first | with_reducible assumption | intro _ _ _ | intro _ | with_reducible refine State.boundary_keeps (by with_reducible assumption) ?_ | with_reducible apply State.running_keeps | with_reducible apply State.takeExc_keeps | with_reducible apply State.ledgerOp_keeps | with_reducible apply State.Keeps.ite | with_reducible apply State.Keeps.ite2 | with_reducible apply State.Keeps.ite22 | with_reducible apply State.Keeps.ite222 | with_reducible apply State.Keeps.ite1 | with_reducible apply State.Keeps.ite21 | with_reducible apply State.Keeps.foldl | with_reducible apply State.Keeps.foldl2 | with_reducible apply State.Keeps.foldl22 | with_reducible apply State.Keeps.foldl222 | with_reducible apply State.Keeps.foldl1 | split | ((with_reducible conv => arg 2; whnf); split) | ((with_reducible conv => arg 2; arg 1; whnf); split) | ((with_reducible conv => arg 2; arg 1; arg 1; whnf); split) | with_reducible refine State.Keeps.eq2 (by with_reducible assumption) ?_ | with_reducible refine State.Keeps.eq22 (by with_reducible assumption) ?_ | with_reducible refine State.Keeps.eq222 (by with_reducible assumption) ?_ | with_reducible refine State.Keeps.eq1 (by with_reducible assumption) ?_ | with_reducible apply State.Keeps.mk_)

theorem execLgw1_keeps (b0 : State) (core : Fin 64) (addr : Nat) (src : LedgerSrc) (s : State) (h0 : b0.Keeps s) : b0.KeepsOut (execLgw1 core addr src s) := by
  unfold execLgw1
  repeat' (first | with_reducible assumption | with_reducible apply doLgw1_keeps | with_reducible apply State.Keeps.next | intro _)

theorem doLgwph_keeps (b0 : State) (c a : Nat) (s : State) (h0 : b0.Keeps s) : b0.Keeps (doLgwph c a s) := by
  unfold doLgwph
  repeat' (first | with_reducible assumption | with_reducible refine State.boundary_keeps (by with_reducible assumption) ?_ | intro _ _ _ | intro _ | with_reducible apply State.running_keeps | with_reducible apply State.ledgerOp_keeps | split | ((with_reducible conv => arg 2; whnf); split) | with_reducible refine State.Keeps.eq2 (by with_reducible assumption) ?_ | with_reducible refine State.Keeps.eq22 (by with_reducible assumption) ?_ | with_reducible refine State.Keeps.eq222 (by with_reducible assumption) ?_ | with_reducible refine State.Keeps.eq1 (by with_reducible assumption) ?_)

theorem execLgwph_keeps (b0 : State) (core : Fin 64) (addr : Nat) (s : State) (h0 : b0.Keeps s) : b0.KeepsOut (execLgwph core addr s) := by
  unfold execLgwph
  repeat' (first | with_reducible assumption | with_reducible apply doLgwph_keeps | with_reducible apply State.Keeps.next | intro _)

theorem doLgw2_keeps (b0 : State) (c a : Nat) (r : LedgerSrc) (s : State) (h0 : b0.Keeps s) : b0.Keeps (doLgw2 c a r s) := by
  unfold doLgw2
  repeat' (first | with_reducible assumption | intro _ _ _ | intro _ | with_reducible refine State.boundary_keeps (by with_reducible assumption) ?_ | with_reducible apply State.running_keeps | with_reducible apply State.takeExc_keeps | with_reducible apply State.ledgerOp_keeps | with_reducible apply State.Keeps.ite | with_reducible apply State.Keeps.ite2 | with_reducible apply State.Keeps.ite22 | with_reducible apply State.Keeps.ite222 | with_reducible apply State.Keeps.ite1 | with_reducible apply State.Keeps.ite21 | with_reducible apply State.Keeps.foldl | with_reducible apply State.Keeps.foldl2 | with_reducible apply State.Keeps.foldl22 | with_reducible apply State.Keeps.foldl222 | with_reducible apply State.Keeps.foldl1 | split | ((with_reducible conv => arg 2; whnf); split) | ((with_reducible conv => arg 2; arg 1; whnf); split) | ((with_reducible conv => arg 2; arg 1; arg 1; whnf); split) | with_reducible refine State.Keeps.eq2 (by with_reducible assumption) ?_ | with_reducible refine State.Keeps.eq22 (by with_reducible assumption) ?_ | with_reducible refine State.Keeps.eq222 (by with_reducible assumption) ?_ | with_reducible refine State.Keeps.eq1 (by with_reducible assumption) ?_ | with_reducible apply State.Keeps.mk_)

theorem execLgw2_keeps (b0 : State) (core : Fin 64) (addr : Nat) (src : LedgerSrc) (s : State) (h0 : b0.Keeps s) : b0.KeepsOut (execLgw2 core addr src s) := by
  unfold execLgw2
  repeat' (first | with_reducible assumption | with_reducible apply doLgw2_keeps | with_reducible apply State.Keeps.next | intro _)

theorem doLgrd_keeps (b0 : State) (c a : Nat) (wide : Bool) (fd : Nat) (s : State) (h0 : b0.Keeps s) : b0.Keeps (doLgrd c a wide fd s) := by
  unfold doLgrd
  repeat' (first | with_reducible assumption | intro _ _ _ | intro _ | with_reducible refine State.boundary_keeps (by with_reducible assumption) ?_ | with_reducible apply State.running_keeps | with_reducible apply State.takeExc_keeps | with_reducible apply State.windowRead_keeps | with_reducible apply State.freshBytes_keeps | with_reducible apply State.coreFault_keeps | with_reducible apply State.updCore_keeps | with_reducible apply State.setF_keeps | with_reducible apply State.coreMachineCheck_keeps | with_reducible apply State.Keeps.ite | with_reducible apply State.Keeps.ite2 | with_reducible apply State.Keeps.ite22 | with_reducible apply State.Keeps.ite222 | with_reducible apply State.Keeps.ite1 | with_reducible apply State.Keeps.ite21 | split | ((with_reducible conv => arg 2; whnf); split) | ((with_reducible conv => arg 2; arg 1; whnf); split) | ((with_reducible conv => arg 2; arg 1; arg 1; whnf); split) | with_reducible refine State.Keeps.eq2 (by with_reducible assumption) ?_ | with_reducible refine State.Keeps.eq22 (by with_reducible assumption) ?_ | with_reducible refine State.Keeps.eq222 (by with_reducible assumption) ?_ | with_reducible refine State.Keeps.eq1 (by with_reducible assumption) ?_ | with_reducible apply State.Keeps.mk_)

theorem execLgrd_keeps (b0 : State) (core : Fin 64) (addr : Nat) (wide : Bool) (fd : Fin 32) (s : State) (h0 : b0.Keeps s) : b0.KeepsOut (execLgrd core addr wide fd s) := by
  unfold execLgrd
  repeat' (first | with_reducible assumption | with_reducible apply doLgrd_keeps | with_reducible apply State.Keeps.next | intro _)

theorem doExchangeStoreAccess_keeps (b0 : State) (c : Nat) (write : Bool) (off val n : Nat) (s : State) (h0 : b0.Keeps s) : b0.Keeps (doExchangeStoreAccess c write off val n s) := by
  unfold doExchangeStoreAccess
  repeat' (first | with_reducible assumption | intro _ _ _ | intro _ | with_reducible refine State.boundary_keeps (by with_reducible assumption) ?_ | with_reducible apply State.running_keeps | with_reducible apply State.pinBreak_keeps | with_reducible apply State.takeExc_keeps | with_reducible apply State.updCore_keeps | with_reducible apply State.windowStore_keeps | with_reducible apply State.answer_keeps | with_reducible apply State.windowRead_keeps | with_reducible apply State.coreMachineCheck_keeps | with_reducible apply State.Keeps.ite | with_reducible apply State.Keeps.ite2 | with_reducible apply State.Keeps.ite22 | with_reducible apply State.Keeps.ite222 | with_reducible apply State.Keeps.ite1 | with_reducible apply State.Keeps.ite21 | split | ((with_reducible conv => arg 2; whnf); split) | ((with_reducible conv => arg 2; arg 1; whnf); split) | ((with_reducible conv => arg 2; arg 1; arg 1; whnf); split) | with_reducible refine State.Keeps.eq2 (by with_reducible assumption) ?_ | with_reducible refine State.Keeps.eq22 (by with_reducible assumption) ?_ | with_reducible refine State.Keeps.eq222 (by with_reducible assumption) ?_ | with_reducible refine State.Keeps.eq1 (by with_reducible assumption) ?_ | with_reducible apply State.Keeps.mk_)

theorem execExchangeStoreAccess_keeps (b0 : State) (core : Fin 64) (write : Bool) (off val bytes : Nat) (s : State) (h0 : b0.Keeps s) : b0.KeepsOut (execExchangeStoreAccess core write off val bytes s) := by
  unfold execExchangeStoreAccess
  repeat' (first | with_reducible assumption | with_reducible apply doExchangeStoreAccess_keeps | with_reducible apply State.Keeps.next | intro _)

theorem State.scalarOp_keeps (b0 : State) (s : State) (c b o : Nat) (srcs dests : List (Nat × Nat)) (f : Nat → Core → Core) (h0 : b0.Keeps s) : b0.Keeps (State.scalarOp s c b o srcs dests f) := by
  unfold State.scalarOp
  repeat' (first | with_reducible assumption | intro _ _ _ | intro _ | with_reducible apply State.updCore_keeps | split | ((with_reducible conv => arg 2; whnf); split) | ((with_reducible conv => arg 2; arg 1; whnf); split) | ((with_reducible conv => arg 2; arg 1; arg 1; whnf); split) | with_reducible apply State.Keeps.mk_)

theorem State.scalarMem_keeps (b0 : State) (s : State) (c va n : Nat) (w : Option (List Byte)) (pages : List PageMap) (srcs dests : List (Nat × Nat)) (done : List Byte → Core → Core) (h0 : b0.Keeps s) : b0.Keeps (State.scalarMem s c va n w pages srcs dests done) := by
  unfold State.scalarMem
  repeat' (first | with_reducible assumption | intro _ _ _ | intro _ | with_reducible apply State.coreAccess_keeps | with_reducible apply State.takeExc_keeps | with_reducible apply State.l1Store_keeps | with_reducible apply State.updCore_keeps | with_reducible apply State.latency_keeps | with_reducible apply State.Keeps.ite | with_reducible apply State.Keeps.ite2 | with_reducible apply State.Keeps.ite22 | with_reducible apply State.Keeps.ite222 | with_reducible apply State.Keeps.ite1 | with_reducible apply State.Keeps.ite21 | split | ((with_reducible conv => arg 2; whnf); split) | ((with_reducible conv => arg 2; arg 1; whnf); split) | ((with_reducible conv => arg 2; arg 1; arg 1; whnf); split) | with_reducible refine State.Keeps.eq2 (by with_reducible assumption) ?_ | with_reducible refine State.Keeps.eq22 (by with_reducible assumption) ?_ | with_reducible refine State.Keeps.eq222 (by with_reducible assumption) ?_ | with_reducible refine State.Keeps.eq1 (by with_reducible assumption) ?_ | with_reducible apply State.Keeps.mk_)

theorem State.fpOp_keeps (b0 : State) (s : State) (c b o fl : Nat) (srcs dests : List (Nat × Nat)) (f : Core → Core) (h0 : b0.Keeps s) : b0.Keeps (State.fpOp s c b o fl srcs dests f) := by
  unfold State.fpOp
  repeat' (first | with_reducible assumption | intro _ _ _ | intro _ | with_reducible apply State.updCore_keeps | with_reducible apply State.takeExc_keeps | with_reducible apply State.Keeps.ite | with_reducible apply State.Keeps.ite2 | with_reducible apply State.Keeps.ite22 | with_reducible apply State.Keeps.ite222 | with_reducible apply State.Keeps.ite1 | with_reducible apply State.Keeps.ite21 | split | ((with_reducible conv => arg 2; whnf); split) | ((with_reducible conv => arg 2; arg 1; whnf); split) | ((with_reducible conv => arg 2; arg 1; arg 1; whnf); split) | with_reducible apply State.Keeps.mk_)

theorem State.scalarFp_keeps (b0 : State) (s : State) (c : Nat) (op : FpOp) (dbl : Bool) (fd fs1 fs2 : Nat) (rm : Option (Fin 4)) (h0 : b0.Keeps s) : b0.Keeps (State.scalarFp s c op dbl fd fs1 fs2 rm) := by
  unfold State.scalarFp
  repeat' (first | with_reducible assumption | intro _ _ _ | intro _ | with_reducible apply State.fpOp_keeps | with_reducible apply State.setF_keeps | with_reducible apply State.Keeps.ite | with_reducible apply State.Keeps.ite2 | with_reducible apply State.Keeps.ite22 | with_reducible apply State.Keeps.ite222 | with_reducible apply State.Keeps.ite1 | with_reducible apply State.Keeps.ite21 | split | ((with_reducible conv => arg 2; whnf); split) | ((with_reducible conv => arg 2; arg 1; whnf); split) | ((with_reducible conv => arg 2; arg 1; arg 1; whnf); split) | with_reducible apply State.Keeps.mk_)

theorem State.excReturn_keeps (b0 : State) (s : State) (c : Nat) (h0 : b0.Keeps s) : b0.Keeps (State.excReturn s c) := by
  unfold State.excReturn
  repeat' (first | with_reducible assumption | intro _ _ _ | intro _ | with_reducible apply State.updCore_keeps | with_reducible apply State.Keeps.ite | with_reducible apply State.Keeps.ite2 | with_reducible apply State.Keeps.ite22 | with_reducible apply State.Keeps.ite222 | with_reducible apply State.Keeps.ite1 | with_reducible apply State.Keeps.ite21 | split | ((with_reducible conv => arg 2; whnf); split) | ((with_reducible conv => arg 2; arg 1; whnf); split) | ((with_reducible conv => arg 2; arg 1; arg 1; whnf); split) | with_reducible refine State.Keeps.eq2 (by with_reducible assumption) ?_ | with_reducible refine State.Keeps.eq22 (by with_reducible assumption) ?_ | with_reducible refine State.Keeps.eq222 (by with_reducible assumption) ?_ | with_reducible refine State.Keeps.eq1 (by with_reducible assumption) ?_ | with_reducible apply State.Keeps.mk_)

theorem State.cacheOp_keeps (b0 : State) (s : State) (c va : Nat) (pages : List PageMap) (gs : Nat) (h0 : b0.Keeps s) : b0.Keeps (State.cacheOp s c va pages gs) := by
  unfold State.cacheOp
  repeat' (first | with_reducible assumption | intro _ _ _ | intro _ | with_reducible apply State.pinBreak_keeps | with_reducible apply State.takeExc_keeps | with_reducible apply State.flushLine_keeps | with_reducible apply State.updCore_keeps | with_reducible apply State.Keeps.ite | with_reducible apply State.Keeps.ite2 | with_reducible apply State.Keeps.ite22 | with_reducible apply State.Keeps.ite222 | with_reducible apply State.Keeps.ite1 | with_reducible apply State.Keeps.ite21 | split | ((with_reducible conv => arg 2; whnf); split) | ((with_reducible conv => arg 2; arg 1; whnf); split) | ((with_reducible conv => arg 2; arg 1; arg 1; whnf); split) | with_reducible refine State.Keeps.eq2 (by with_reducible assumption) ?_ | with_reducible refine State.Keeps.eq22 (by with_reducible assumption) ?_ | with_reducible refine State.Keeps.eq222 (by with_reducible assumption) ?_ | with_reducible refine State.Keeps.eq1 (by with_reducible assumption) ?_ | with_reducible apply State.Keeps.mk_)

theorem doScalarInstruction_keeps (b0 : State) (c : Nat) (i : ScalarInstr) (s : State) (h0 : b0.Keeps s) : b0.Keeps (doScalarInstruction c i s) := by
  unfold doScalarInstruction
  repeat' (first | with_reducible assumption | intro _ _ _ | intro _ | with_reducible refine State.boundary_keeps (by with_reducible assumption) ?_ | with_reducible apply State.running_keeps | with_reducible apply State.scalarFp_keeps | with_reducible apply State.fpOp_keeps | with_reducible apply State.setF_keeps | with_reducible apply State.scalarOp_keeps | with_reducible apply State.takeExc_keeps | with_reducible apply State.scalarMem_keeps | with_reducible apply State.store_keeps | with_reducible apply State.cacheOp_keeps | with_reducible apply State.excReturn_keeps | with_reducible apply State.Keeps.ite | with_reducible apply State.Keeps.ite2 | with_reducible apply State.Keeps.ite22 | with_reducible apply State.Keeps.ite222 | with_reducible apply State.Keeps.ite1 | with_reducible apply State.Keeps.ite21 | split | ((with_reducible conv => arg 2; whnf); split) | ((with_reducible conv => arg 2; arg 1; whnf); split) | ((with_reducible conv => arg 2; arg 1; arg 1; whnf); split) | with_reducible refine State.Keeps.eq2 (by with_reducible assumption) ?_ | with_reducible refine State.Keeps.eq22 (by with_reducible assumption) ?_ | with_reducible refine State.Keeps.eq222 (by with_reducible assumption) ?_ | with_reducible refine State.Keeps.eq1 (by with_reducible assumption) ?_ | with_reducible apply State.Keeps.mk_)

theorem execScalarInstruction_keeps (b0 : State) (core : Fin 64) (instr : ScalarInstr) (s : State) (h0 : b0.Keeps s) : b0.KeepsOut (execScalarInstruction core instr s) := by
  unfold execScalarInstruction
  repeat' (first | with_reducible assumption | with_reducible apply doScalarInstruction_keeps | with_reducible apply State.Keeps.next | intro _)

end Sys2Proof.Machine
end

