-- ==== Sys2Proof/Laws/KeepsFabCmd.lean ====
section
/-! SUPPORT. What every operation of Machine/FabCmd.lean keeps: the queue, the part, and the canonical forms. -/
namespace Sys2Proof.Machine

set_option linter.all false
set_option Elab.async false

theorem State.arrive_keeps (b0 : State) (s : State) (k : Packet) (op : Nat) (run : Nat → Packet → State → State) (h0 : b0.Keeps s) (hrun : ∀ y0 y1 u, b0.Keeps u → b0.Keeps (run y0 y1 u)) : b0.Keeps (State.arrive s k op run) := by
  unfold State.arrive
  repeat' (first | with_reducible assumption | with_reducible apply State.count_keeps | with_reducible apply State.dropCrc_keeps | with_reducible apply State.emit_keeps | with_reducible apply hrun | with_reducible apply State.Keeps.ite | split | ((with_reducible conv => arg 2; whnf); split) | with_reducible refine State.Keeps.eq2 (by with_reducible assumption) ?_ | with_reducible refine State.Keeps.eq22 (by with_reducible assumption) ?_ | with_reducible refine State.Keeps.eq222 (by with_reducible assumption) ?_ | with_reducible refine State.Keeps.eq1 (by with_reducible assumption) ?_ | with_reducible apply State.Keeps.mk_ | intro _)

theorem State.afterPacket_keeps (b0 : State) (s : State) (h0 : b0.Keeps s) : b0.Keeps (State.afterPacket s) := by
  unfold State.afterPacket
  repeat' (first | with_reducible assumption | with_reducible apply State.settleReleases_keeps | with_reducible apply State.settleFences_keeps | intro _)

theorem State.answerAgain_keeps (b0 : State) (s : State) (p : Nat) (k : Packet) (h0 : b0.Keeps s) : b0.Keeps (State.answerAgain s p k) := by
  unfold State.answerAgain
  repeat' (first | with_reducible assumption | intro _ _ _ | intro _ | with_reducible apply State.sendAnswer_keeps | with_reducible apply State.Keeps.ite | with_reducible apply State.Keeps.ite2 | with_reducible apply State.Keeps.ite22 | with_reducible apply State.Keeps.ite222 | with_reducible apply State.Keeps.ite1 | with_reducible apply State.Keeps.ite21 | split | ((with_reducible conv => arg 2; whnf); split) | ((with_reducible conv => arg 2; arg 1; whnf); split) | ((with_reducible conv => arg 2; arg 1; arg 1; whnf); split) | with_reducible refine State.Keeps.eq2 (by with_reducible assumption) ?_ | with_reducible refine State.Keeps.eq22 (by with_reducible assumption) ?_ | with_reducible refine State.Keeps.eq222 (by with_reducible assumption) ?_ | with_reducible refine State.Keeps.eq1 (by with_reducible assumption) ?_)

theorem State.dedupe_keeps (b0 : State) (s : State) (p : Nat) (k : Packet) (again fresh : State → State) (h0 : b0.Keeps s) (hagain : ∀ u, b0.Keeps u → b0.Keeps (again u)) (hfresh : ∀ u, b0.Keeps u → b0.Keeps (fresh u)) : b0.Keeps (State.dedupe s p k again fresh) := by
  unfold State.dedupe
  repeat' (first | with_reducible assumption | with_reducible apply State.satF_keeps | with_reducible apply hagain | with_reducible apply hfresh | with_reducible apply State.Keeps.ite | split | ((with_reducible conv => arg 2; whnf); split) | with_reducible refine State.Keeps.eq2 (by with_reducible assumption) ?_ | with_reducible refine State.Keeps.eq22 (by with_reducible assumption) ?_ | with_reducible refine State.Keeps.eq222 (by with_reducible assumption) ?_ | with_reducible refine State.Keeps.eq1 (by with_reducible assumption) ?_ | intro _)

theorem State.refuseIn_keeps (b0 : State) (s : State) (p code : Nat) (k : Packet) (h0 : b0.Keeps s) : b0.Keeps (State.refuseIn s p code k) := by
  unfold State.refuseIn
  repeat' (first | with_reducible assumption | with_reducible apply State.refuse_keeps | with_reducible apply State.finishIn_keeps | intro _)

theorem State.targetError_keeps (b0 : State) (s : State) (p : Nat) (k : Packet) (h0 : b0.Keeps s) : b0.Keeps (State.targetError s p k) := by
  unfold State.targetError
  repeat' (first | with_reducible assumption | with_reducible apply State.finishIn_keeps | intro _)

theorem State.performPacket_keeps (b0 : State) (s : State) (p : Nat) (k : Packet) (h0 : b0.Keeps s) : b0.Keeps (State.performPacket s p k).2 := by
  unfold State.performPacket
  repeat' (first | with_reducible assumption | intro _ _ _ | intro _ | with_reducible apply State.extWrite_keeps | with_reducible apply State.stagePacket_keeps | with_reducible apply State.raiseP_keeps | with_reducible apply State.performOp_keeps | with_reducible apply State.Keeps.ite | with_reducible apply State.Keeps.ite2 | with_reducible apply State.Keeps.ite22 | with_reducible apply State.Keeps.ite222 | with_reducible apply State.Keeps.ite1 | with_reducible apply State.Keeps.ite21 | split | ((with_reducible conv => arg 2; whnf); split) | ((with_reducible conv => arg 2; arg 1; whnf); split) | ((with_reducible conv => arg 2; arg 1; arg 1; whnf); split) | with_reducible refine State.Keeps.eq2 (by with_reducible assumption) ?_ | with_reducible refine State.Keeps.eq22 (by with_reducible assumption) ?_ | with_reducible refine State.Keeps.eq222 (by with_reducible assumption) ?_ | with_reducible refine State.Keeps.eq1 (by with_reducible assumption) ?_ | with_reducible apply State.Keeps.pair2 | with_reducible apply State.Keeps.pair22 | with_reducible apply State.Keeps.pair222 | with_reducible apply State.Keeps.mk_)

theorem State.collectiveWrite_keeps (b0 : State) (s : State) (k : Packet) (bytes : Nat) (h0 : b0.Keeps s) : b0.Keeps (State.collectiveWrite s k bytes) := by
  unfold State.collectiveWrite
  repeat' (first | with_reducible assumption | with_reducible apply State.anchorsIn_keeps | with_reducible apply State.stageDone_keeps | with_reducible apply State.downDone_keeps | with_reducible apply State.Keeps.ite | split | ((with_reducible conv => arg 2; whnf); split) | with_reducible refine State.Keeps.eq2 (by with_reducible assumption) ?_ | with_reducible refine State.Keeps.eq22 (by with_reducible assumption) ?_ | with_reducible refine State.Keeps.eq222 (by with_reducible assumption) ?_ | with_reducible refine State.Keeps.eq1 (by with_reducible assumption) ?_ | intro _)

theorem State.writePacket_keeps (b0 : State) (p : Nat) (k : Packet) (s : State) (h0 : b0.Keeps s) : b0.Keeps (State.writePacket p k s) := by
  unfold State.writePacket
  repeat' (first | with_reducible assumption | intro _ _ _ | intro _ | with_reducible apply State.dedupe_keeps | with_reducible apply State.answerAgain_keeps | with_reducible apply State.dropEarly_keeps | with_reducible apply State.refuseIn_keeps | with_reducible apply State.afterPacket_keeps | with_reducible apply State.performPacket_keeps | with_reducible apply State.targetError_keeps | with_reducible apply State.setPeer_keeps | with_reducible apply State.countIn_keeps | with_reducible apply State.finishIn_keeps | with_reducible apply State.collectiveWrite_keeps | with_reducible apply State.Keeps.ite | with_reducible apply State.Keeps.ite2 | with_reducible apply State.Keeps.ite22 | with_reducible apply State.Keeps.ite222 | with_reducible apply State.Keeps.ite1 | with_reducible apply State.Keeps.ite21 | split | ((with_reducible conv => arg 2; whnf); split) | ((with_reducible conv => arg 2; arg 1; whnf); split) | ((with_reducible conv => arg 2; arg 1; arg 1; whnf); split) | with_reducible refine State.Keeps.eq2 (by with_reducible assumption) ?_ | with_reducible refine State.Keeps.eq22 (by with_reducible assumption) ?_ | with_reducible refine State.Keeps.eq222 (by with_reducible assumption) ?_ | with_reducible refine State.Keeps.eq1 (by with_reducible assumption) ?_)

theorem doFabWritePacket_keeps (b0 : State) (k : Packet) (s : State) (h0 : b0.Keeps s) : b0.Keeps (doFabWritePacket k s) := by
  unfold doFabWritePacket
  repeat' (first | with_reducible assumption | with_reducible apply State.arrive_keeps | with_reducible apply State.writePacket_keeps | intro _)

theorem execFabWritePacket_keeps (b0 : State) (pkt : Packet) (s : State) (h0 : b0.Keeps s) : b0.KeepsOut (execFabWritePacket pkt s) := by
  unfold execFabWritePacket
  repeat' (first | with_reducible assumption | intro _ _ _ | intro _ | with_reducible apply State.orWait_keeps | with_reducible apply doFabWritePacket_keeps | with_reducible apply State.Keeps.next | with_reducible apply State.Keeps.mk_)

theorem doFabAddPacket_keeps (b0 : State) (k : Packet) (s : State) (h0 : b0.Keeps s) : b0.Keeps (doFabAddPacket k s) := by
  unfold doFabAddPacket
  repeat' (first | with_reducible assumption | with_reducible apply State.arrive_keeps | with_reducible apply State.writePacket_keeps | intro _)

theorem execFabAddPacket_keeps (b0 : State) (pkt : Packet) (s : State) (h0 : b0.Keeps s) : b0.KeepsOut (execFabAddPacket pkt s) := by
  unfold execFabAddPacket
  repeat' (first | with_reducible assumption | intro _ _ _ | intro _ | with_reducible apply State.orWait_keeps | with_reducible apply doFabAddPacket_keeps | with_reducible apply State.Keeps.next | with_reducible apply State.Keeps.mk_)

theorem State.fabRead_keeps (b0 : State) (s : State) (p : Nat) (k : Packet) (h0 : b0.Keeps s) : b0.Keeps (State.fabRead s p k).2.2 := by
  unfold State.fabRead
  split
  · exact State.refuse_keeps _ _ _ _ _ _ h0
  · have h := State.performOp_keeps b0 s p 2 k.addr k.payload h0
    generalize s.performOp p 2 k.addr k.payload = r at h
    obtain ⟨c, d, u⟩ := r
    dsimp only at h ⊢
    split <;> exact h

theorem doFabReadPacket_keeps (b0 : State) (k : Packet) (s : State) (h0 : b0.Keeps s) : b0.Keeps (doFabReadPacket k s) := by
  unfold doFabReadPacket
  repeat' (first | with_reducible assumption | with_reducible apply State.sendAnswer_keeps | with_reducible apply State.finishIn_keeps | intro _ _ _ | intro _ | with_reducible apply State.arrive_keeps | with_reducible apply State.dedupe_keeps | with_reducible apply State.fabRead_keeps | with_reducible apply State.afterPacket_keeps | split | ((with_reducible conv => arg 2; whnf); split))

theorem execFabReadPacket_keeps (b0 : State) (pkt : Packet) (s : State) (h0 : b0.Keeps s) : b0.KeepsOut (execFabReadPacket pkt s) := by
  unfold execFabReadPacket
  repeat' (first | with_reducible assumption | intro _ _ _ | intro _ | with_reducible apply State.orWait_keeps | with_reducible apply doFabReadPacket_keeps | with_reducible apply State.Keeps.next | with_reducible apply State.Keeps.mk_)

theorem State.atomicPacket_keeps (b0 : State) (p : Nat) (k : Packet) (s : State) (h0 : b0.Keeps s) : b0.Keeps (State.atomicPacket p k s) := by
  unfold State.atomicPacket
  repeat' (first | with_reducible assumption | intro _ _ _ | intro _ | with_reducible apply State.dedupe_keeps | with_reducible apply State.answerAgain_keeps | with_reducible apply State.dropEarly_keeps | with_reducible apply State.refuseIn_keeps | with_reducible apply State.afterPacket_keeps | with_reducible apply State.performOp_keeps | with_reducible apply State.targetError_keeps | with_reducible apply State.countIn_keeps | with_reducible apply State.finishIn_keeps | with_reducible apply State.Keeps.ite | with_reducible apply State.Keeps.ite2 | with_reducible apply State.Keeps.ite22 | with_reducible apply State.Keeps.ite222 | with_reducible apply State.Keeps.ite1 | with_reducible apply State.Keeps.ite21 | split | ((with_reducible conv => arg 2; whnf); split) | ((with_reducible conv => arg 2; arg 1; whnf); split) | ((with_reducible conv => arg 2; arg 1; arg 1; whnf); split) | with_reducible refine State.Keeps.eq2 (by with_reducible assumption) ?_ | with_reducible refine State.Keeps.eq22 (by with_reducible assumption) ?_ | with_reducible refine State.Keeps.eq222 (by with_reducible assumption) ?_ | with_reducible refine State.Keeps.eq1 (by with_reducible assumption) ?_)

theorem doFabCasPacket_keeps (b0 : State) (k : Packet) (s : State) (h0 : b0.Keeps s) : b0.Keeps (doFabCasPacket k s) := by
  unfold doFabCasPacket
  repeat' (first | with_reducible assumption | with_reducible apply State.arrive_keeps | with_reducible apply State.atomicPacket_keeps | intro _)

theorem execFabCasPacket_keeps (b0 : State) (pkt : Packet) (s : State) (h0 : b0.Keeps s) : b0.KeepsOut (execFabCasPacket pkt s) := by
  unfold execFabCasPacket
  repeat' (first | with_reducible assumption | intro _ _ _ | intro _ | with_reducible apply State.orWait_keeps | with_reducible apply doFabCasPacket_keeps | with_reducible apply State.Keeps.next | with_reducible apply State.Keeps.mk_)

theorem doFabFaddPacket_keeps (b0 : State) (k : Packet) (s : State) (h0 : b0.Keeps s) : b0.Keeps (doFabFaddPacket k s) := by
  unfold doFabFaddPacket
  repeat' (first | with_reducible assumption | with_reducible apply State.arrive_keeps | with_reducible apply State.atomicPacket_keeps | intro _)

theorem execFabFaddPacket_keeps (b0 : State) (pkt : Packet) (s : State) (h0 : b0.Keeps s) : b0.KeepsOut (execFabFaddPacket pkt s) := by
  unfold execFabFaddPacket
  repeat' (first | with_reducible assumption | intro _ _ _ | intro _ | with_reducible apply State.orWait_keeps | with_reducible apply doFabFaddPacket_keeps | with_reducible apply State.Keeps.next | with_reducible apply State.Keeps.mk_)

theorem doFabAcquire_keeps (b0 : State) (k : Packet) (s : State) (h0 : b0.Keeps s) : b0.Keeps (doFabAcquire k s) := by
  unfold doFabAcquire
  repeat' (first | with_reducible assumption | intro _ _ _ | intro _ | with_reducible apply State.arrive_keeps | with_reducible apply State.dedupe_keeps | with_reducible apply State.answerAgain_keeps | with_reducible apply State.refuseIn_keeps | with_reducible apply State.afterPacket_keeps | with_reducible apply State.setRegion_keeps | with_reducible apply State.finishIn_keeps | with_reducible apply State.setPeer_keeps | with_reducible apply State.Keeps.ite | split | ((with_reducible conv => arg 2; whnf); split) | with_reducible refine State.Keeps.eq2 (by with_reducible assumption) ?_ | with_reducible refine State.Keeps.eq22 (by with_reducible assumption) ?_ | with_reducible refine State.Keeps.eq222 (by with_reducible assumption) ?_ | with_reducible refine State.Keeps.eq1 (by with_reducible assumption) ?_ | with_reducible apply State.Keeps.mk_)

theorem execFabAcquire_keeps (b0 : State) (pkt : Packet) (s : State) (h0 : b0.Keeps s) : b0.KeepsOut (execFabAcquire pkt s) := by
  unfold execFabAcquire
  repeat' (first | with_reducible assumption | with_reducible apply doFabAcquire_keeps | with_reducible apply State.Keeps.next | intro _)

theorem doFabRelease_keeps (b0 : State) (k : Packet) (s : State) (h0 : b0.Keeps s) : b0.Keeps (doFabRelease k s) := by
  unfold doFabRelease
  repeat' (first | with_reducible assumption | intro _ _ _ | intro _ | with_reducible apply State.arrive_keeps | with_reducible apply State.dedupe_keeps | with_reducible apply State.answerAgain_keeps | with_reducible apply State.refuseIn_keeps | with_reducible apply State.afterPacket_keeps | with_reducible apply State.setPeer_keeps | split | ((with_reducible conv => arg 2; whnf); split) | with_reducible refine State.Keeps.eq2 (by with_reducible assumption) ?_ | with_reducible refine State.Keeps.eq22 (by with_reducible assumption) ?_ | with_reducible refine State.Keeps.eq222 (by with_reducible assumption) ?_ | with_reducible refine State.Keeps.eq1 (by with_reducible assumption) ?_ | with_reducible apply State.Keeps.mk_)

theorem execFabRelease_keeps (b0 : State) (pkt : Packet) (s : State) (h0 : b0.Keeps s) : b0.KeepsOut (execFabRelease pkt s) := by
  unfold execFabRelease
  repeat' (first | with_reducible assumption | with_reducible apply doFabRelease_keeps | with_reducible apply State.Keeps.next | intro _)

theorem State.bulkRecord_keeps (b0 : State) (s : State) (p : Nat) (k : Packet) (r : Nat × Nat × Nat × List Byte) (h0 : b0.Keeps s) : b0.Keeps (State.bulkRecord s p k r).2 := by
  unfold State.bulkRecord
  repeat' (first | with_reducible assumption | with_reducible apply State.refuse_keeps | with_reducible apply State.performOp_keeps | with_reducible apply State.Keeps.ite | with_reducible apply State.Keeps.ite2 | with_reducible apply State.Keeps.ite22 | with_reducible apply State.Keeps.ite222 | with_reducible apply State.Keeps.ite1 | with_reducible apply State.Keeps.ite21 | split | ((with_reducible conv => arg 2; whnf); split) | ((with_reducible conv => arg 2; arg 1; whnf); split) | ((with_reducible conv => arg 2; arg 1; arg 1; whnf); split) | with_reducible refine State.Keeps.eq2 (by with_reducible assumption) ?_ | with_reducible refine State.Keeps.eq22 (by with_reducible assumption) ?_ | with_reducible refine State.Keeps.eq222 (by with_reducible assumption) ?_ | with_reducible refine State.Keeps.eq1 (by with_reducible assumption) ?_ | intro _)

theorem doFabBulk_keeps (b0 : State) (k : Packet) (s : State) (h0 : b0.Keeps s) : b0.Keeps (doFabBulk k s) := by
  unfold doFabBulk
  repeat' (first | with_reducible assumption | intro _ _ _ | intro _ | with_reducible apply State.arrive_keeps | with_reducible apply State.dedupe_keeps | with_reducible apply State.answerAgain_keeps | with_reducible apply State.dropEarly_keeps | with_reducible apply State.bulkRecord_keeps | with_reducible apply State.countIn_keeps | with_reducible apply State.finishIn_keeps | with_reducible apply State.afterPacket_keeps | with_reducible apply State.Keeps.ite | with_reducible apply State.Keeps.ite2 | with_reducible apply State.Keeps.ite22 | with_reducible apply State.Keeps.ite222 | with_reducible apply State.Keeps.ite1 | with_reducible apply State.Keeps.ite21 | with_reducible apply State.Keeps.foldl | with_reducible apply State.Keeps.foldl2 | with_reducible apply State.Keeps.foldl22 | with_reducible apply State.Keeps.foldl222 | with_reducible apply State.Keeps.foldl1 | split | ((with_reducible conv => arg 2; whnf); split) | ((with_reducible conv => arg 2; arg 1; whnf); split) | ((with_reducible conv => arg 2; arg 1; arg 1; whnf); split))

theorem execFabBulk_keeps (b0 : State) (pkt : Packet) (s : State) (h0 : b0.Keeps s) : b0.KeepsOut (execFabBulk pkt s) := by
  unfold execFabBulk
  repeat' (first | with_reducible assumption | intro _ _ _ | intro _ | with_reducible apply State.orWait_keeps | with_reducible apply doFabBulk_keeps | with_reducible apply State.Keeps.next | with_reducible apply State.Keeps.mk_)

theorem doFabMgmt_keeps (b0 : State) (k : Packet) (s : State) (h0 : b0.Keeps s) : b0.Keeps (doFabMgmt k s) := by
  unfold doFabMgmt
  repeat' (first | with_reducible assumption | intro _ _ _ | intro _ | with_reducible apply State.arrive_keeps | with_reducible apply State.answerBytes_keeps | split | ((with_reducible conv => arg 2; whnf); split))

theorem execFabMgmt_keeps (b0 : State) (pkt : Packet) (s : State) (h0 : b0.Keeps s) : b0.KeepsOut (execFabMgmt pkt s) := by
  unfold execFabMgmt
  repeat' (first | with_reducible assumption | with_reducible apply doFabMgmt_keeps | with_reducible apply State.Keeps.next | intro _)

theorem doFabReservedOp_keeps (b0 : State) (k : Packet) (s : State) (h0 : b0.Keeps s) : b0.Keeps (doFabReservedOp k s) := by
  unfold doFabReservedOp
  repeat' (first | with_reducible assumption | intro _ _ _ | intro _ | with_reducible apply State.arrive_keeps | with_reducible apply State.satF_keeps | split | ((with_reducible conv => arg 2; whnf); split))

theorem execFabReservedOp_keeps (b0 : State) (pkt : Packet) (s : State) (h0 : b0.Keeps s) : b0.KeepsOut (execFabReservedOp pkt s) := by
  unfold execFabReservedOp
  repeat' (first | with_reducible assumption | with_reducible apply doFabReservedOp_keeps | with_reducible apply State.Keeps.next | intro _)

theorem State.recDone_keeps (b0 : State) (s : State) (num code : Nat) (h0 : b0.Keeps s) : b0.Keeps (State.recDone s num code) := by
  unfold State.recDone
  repeat' (first | with_reducible assumption | with_reducible apply State.recComplete_keeps | with_reducible apply State.settleTots_keeps | intro _)

theorem State.putResp_keeps (b0 : State) (s : State) (resp : Nat) (d : List Byte) (h0 : b0.Keeps s) : b0.Keeps (State.putResp s resp d).2 := by
  unfold State.putResp
  repeat' (first | with_reducible assumption | intro _ _ _ | intro _ | with_reducible apply State.extWrite_keeps | with_reducible apply State.Keeps.ite | with_reducible apply State.Keeps.ite2 | with_reducible apply State.Keeps.ite22 | with_reducible apply State.Keeps.ite222 | with_reducible apply State.Keeps.ite1 | with_reducible apply State.Keeps.ite21 | split | ((with_reducible conv => arg 2; whnf); split) | ((with_reducible conv => arg 2; arg 1; whnf); split) | ((with_reducible conv => arg 2; arg 1; arg 1; whnf); split) | with_reducible apply State.Keeps.pair2 | with_reducible apply State.Keeps.pair22 | with_reducible apply State.Keeps.pair222 | with_reducible apply State.Keeps.mk_)

theorem State.nicAnswer_keeps (b0 : State) (s : State) (op num resp : Nat) (b : List Byte) (h0 : b0.Keeps s) : b0.Keeps (State.nicAnswer s op num resp b) := by
  unfold State.nicAnswer
  repeat' (first | with_reducible assumption | with_reducible apply State.recDone_keeps | with_reducible apply State.putResp_keeps | with_reducible apply State.Keeps.ite | with_reducible apply State.Keeps.ite2 | with_reducible apply State.Keeps.ite22 | with_reducible apply State.Keeps.ite222 | with_reducible apply State.Keeps.ite1 | with_reducible apply State.Keeps.ite21 | split | ((with_reducible conv => arg 2; whnf); split) | ((with_reducible conv => arg 2; arg 1; whnf); split) | ((with_reducible conv => arg 2; arg 1; arg 1; whnf); split) | intro _)

theorem State.bulkAnswer_keeps (b0 : State) (s : State) (x0 : List (Nat × Nat × Nat × Nat)) (x1 : List Byte) (h0 : b0.Keeps s) : b0.Keeps (State.bulkAnswer s x0 x1) := by
  induction x0 generalizing x1 s with
  | nil =>
    unfold State.bulkAnswer
    repeat' (first | with_reducible assumption | with_reducible apply State.putResp_keeps | with_reducible apply State.recDone_keeps | with_reducible apply State.Keeps.ite | with_reducible apply State.Keeps.ite2 | with_reducible apply State.Keeps.ite22 | with_reducible apply State.Keeps.ite222 | with_reducible apply State.Keeps.ite1 | with_reducible apply State.Keeps.ite21 | split | ((with_reducible conv => arg 2; whnf); split) | ((with_reducible conv => arg 2; arg 1; whnf); split) | ((with_reducible conv => arg 2; arg 1; arg 1; whnf); split) | intro _)
  | cons y r ih =>
    unfold State.bulkAnswer
    repeat' (first | with_reducible apply ih | with_reducible assumption | with_reducible apply State.putResp_keeps | with_reducible apply State.recDone_keeps | with_reducible apply State.Keeps.ite | with_reducible apply State.Keeps.ite2 | with_reducible apply State.Keeps.ite22 | with_reducible apply State.Keeps.ite222 | with_reducible apply State.Keeps.ite1 | with_reducible apply State.Keeps.ite21 | split | ((with_reducible conv => arg 2; whnf); split) | ((with_reducible conv => arg 2; arg 1; whnf); split) | ((with_reducible conv => arg 2; arg 1; arg 1; whnf); split) | intro _)

theorem State.sourceAnswer_keeps (b0 : State) (s : State) (t : Tx) (op : Nat) (b : List Byte) (h0 : b0.Keeps s) : b0.Keeps (State.sourceAnswer s t op b) := by
  unfold State.sourceAnswer
  repeat' (first | with_reducible assumption | with_reducible apply State.answerTx_keeps | with_reducible apply State.nicAnswer_keeps | with_reducible apply State.bulkAnswer_keeps | with_reducible apply State.colAcked_keeps | with_reducible apply State.mirrorAcked_keeps | with_reducible apply State.sendGathers_keeps | with_reducible apply State.afterPacket_keeps | with_reducible apply State.Keeps.ite | split | ((with_reducible conv => arg 2; whnf); split) | with_reducible refine State.Keeps.eq2 (by with_reducible assumption) ?_ | with_reducible refine State.Keeps.eq22 (by with_reducible assumption) ?_ | with_reducible refine State.Keeps.eq222 (by with_reducible assumption) ?_ | with_reducible refine State.Keeps.eq1 (by with_reducible assumption) ?_ | intro _)

theorem State.answerPacket_keeps (b0 : State) (op : Nat) (p : Nat) (k : Packet) (s : State) (h0 : b0.Keeps s) : b0.Keeps (State.answerPacket op p k s) := by
  unfold State.answerPacket
  repeat' (first | with_reducible assumption | with_reducible apply State.sourceAnswer_keeps | split | ((with_reducible conv => arg 2; whnf); split) | with_reducible refine State.Keeps.eq2 (by with_reducible assumption) ?_ | with_reducible refine State.Keeps.eq22 (by with_reducible assumption) ?_ | with_reducible refine State.Keeps.eq222 (by with_reducible assumption) ?_ | with_reducible refine State.Keeps.eq1 (by with_reducible assumption) ?_ | intro _)

theorem doFabReadResp_keeps (b0 : State) (k : Packet) (s : State) (h0 : b0.Keeps s) : b0.Keeps (doFabReadResp k s) := by
  unfold doFabReadResp
  repeat' (first | with_reducible assumption | with_reducible apply State.arrive_keeps | with_reducible apply State.answerPacket_keeps | intro _)

theorem execFabReadResp_keeps (b0 : State) (pkt : Packet) (s : State) (h0 : b0.Keeps s) : b0.KeepsOut (execFabReadResp pkt s) := by
  unfold execFabReadResp
  repeat' (first | with_reducible assumption | intro _ _ _ | intro _ | with_reducible apply State.orWait_keeps | with_reducible apply doFabReadResp_keeps | with_reducible apply State.Keeps.next | with_reducible apply State.Keeps.mk_)

theorem doFabAtomicResp_keeps (b0 : State) (k : Packet) (s : State) (h0 : b0.Keeps s) : b0.Keeps (doFabAtomicResp k s) := by
  unfold doFabAtomicResp
  repeat' (first | with_reducible assumption | with_reducible apply State.arrive_keeps | with_reducible apply State.answerPacket_keeps | intro _)

theorem execFabAtomicResp_keeps (b0 : State) (pkt : Packet) (s : State) (h0 : b0.Keeps s) : b0.KeepsOut (execFabAtomicResp pkt s) := by
  unfold execFabAtomicResp
  repeat' (first | with_reducible assumption | intro _ _ _ | intro _ | with_reducible apply State.orWait_keeps | with_reducible apply doFabAtomicResp_keeps | with_reducible apply State.Keeps.next | with_reducible apply State.Keeps.mk_)

theorem doFabAck_keeps (b0 : State) (k : Packet) (s : State) (h0 : b0.Keeps s) : b0.Keeps (doFabAck k s) := by
  unfold doFabAck
  repeat' (first | with_reducible assumption | with_reducible apply State.arrive_keeps | with_reducible apply State.answerPacket_keeps | intro _)

theorem execFabAck_keeps (b0 : State) (pkt : Packet) (s : State) (h0 : b0.Keeps s) : b0.KeepsOut (execFabAck pkt s) := by
  unfold execFabAck
  repeat' (first | with_reducible assumption | with_reducible apply doFabAck_keeps | with_reducible apply State.Keeps.next | intro _)

theorem doFabTokenResp_keeps (b0 : State) (k : Packet) (s : State) (h0 : b0.Keeps s) : b0.Keeps (doFabTokenResp k s) := by
  unfold doFabTokenResp
  repeat' (first | with_reducible assumption | with_reducible apply State.arrive_keeps | with_reducible apply State.answerPacket_keeps | intro _)

theorem execFabTokenResp_keeps (b0 : State) (pkt : Packet) (s : State) (h0 : b0.Keeps s) : b0.KeepsOut (execFabTokenResp pkt s) := by
  unfold execFabTokenResp
  repeat' (first | with_reducible assumption | with_reducible apply doFabTokenResp_keeps | with_reducible apply State.Keeps.next | intro _)

theorem doFabBulkResp_keeps (b0 : State) (k : Packet) (s : State) (h0 : b0.Keeps s) : b0.Keeps (doFabBulkResp k s) := by
  unfold doFabBulkResp
  repeat' (first | with_reducible assumption | with_reducible apply State.arrive_keeps | with_reducible apply State.answerPacket_keeps | intro _)

theorem execFabBulkResp_keeps (b0 : State) (pkt : Packet) (s : State) (h0 : b0.Keeps s) : b0.KeepsOut (execFabBulkResp pkt s) := by
  unfold execFabBulkResp
  repeat' (first | with_reducible assumption | intro _ _ _ | intro _ | with_reducible apply State.orWait_keeps | with_reducible apply doFabBulkResp_keeps | with_reducible apply State.Keeps.next | with_reducible apply State.Keeps.mk_)

theorem State.nameDest_keeps (b0 : State) (s : State) (n code dst seq : Nat) (h0 : b0.Keeps s) : b0.Keeps (State.nameDest s n code dst seq) := by
  unfold State.nameDest
  repeat' (first | with_reducible assumption | intro _ _ _ | intro _ | with_reducible apply State.Keeps.ite | split | ((with_reducible conv => arg 2; whnf); split) | with_reducible apply State.Keeps.mk_)

theorem State.sourceNack_keeps (b0 : State) (s : State) (t : Tx) (code : Nat) (h0 : b0.Keeps s) : b0.Keeps (State.sourceNack s t code) := by
  unfold State.sourceNack
  repeat' (first | with_reducible assumption | intro _ _ _ | intro _ | with_reducible apply State.answerTx_keeps | with_reducible apply State.faultMove_keeps | with_reducible apply State.faultPmov_keeps | with_reducible apply State.countNic_keeps | with_reducible apply State.recDone_keeps | with_reducible apply State.colNacked_keeps | with_reducible apply State.restoreNacked_keeps | with_reducible apply State.raise_keeps | with_reducible apply State.nameDest_keeps | with_reducible apply State.afterPacket_keeps | with_reducible apply State.sendGathers_keeps | with_reducible apply State.Keeps.ite | with_reducible apply State.Keeps.ite2 | with_reducible apply State.Keeps.ite22 | with_reducible apply State.Keeps.ite222 | with_reducible apply State.Keeps.ite1 | with_reducible apply State.Keeps.ite21 | with_reducible apply State.Keeps.foldl | with_reducible apply State.Keeps.foldl2 | with_reducible apply State.Keeps.foldl22 | with_reducible apply State.Keeps.foldl222 | with_reducible apply State.Keeps.foldl1 | split | ((with_reducible conv => arg 2; whnf); split) | ((with_reducible conv => arg 2; arg 1; whnf); split) | ((with_reducible conv => arg 2; arg 1; arg 1; whnf); split) | with_reducible refine State.Keeps.eq2 (by with_reducible assumption) ?_ | with_reducible refine State.Keeps.eq22 (by with_reducible assumption) ?_ | with_reducible refine State.Keeps.eq222 (by with_reducible assumption) ?_ | with_reducible refine State.Keeps.eq1 (by with_reducible assumption) ?_)

theorem doFabNack_keeps (b0 : State) (k : Packet) (s : State) (h0 : b0.Keeps s) : b0.Keeps (doFabNack k s) := by
  unfold doFabNack
  repeat' (first | with_reducible assumption | intro _ _ _ | intro _ | with_reducible apply State.arrive_keeps | with_reducible apply State.sourceNack_keeps | split | ((with_reducible conv => arg 2; whnf); split) | with_reducible refine State.Keeps.eq2 (by with_reducible assumption) ?_ | with_reducible refine State.Keeps.eq22 (by with_reducible assumption) ?_ | with_reducible refine State.Keeps.eq222 (by with_reducible assumption) ?_ | with_reducible refine State.Keeps.eq1 (by with_reducible assumption) ?_)

theorem execFabNack_keeps (b0 : State) (pkt : Packet) (s : State) (h0 : b0.Keeps s) : b0.KeepsOut (execFabNack pkt s) := by
  unfold execFabNack
  repeat' (first | with_reducible assumption | with_reducible apply doFabNack_keeps | with_reducible apply State.Keeps.next | intro _)

theorem doFabRetransmit_keeps (b0 : State) (dst vc seq : Nat) (s : State) (h0 : b0.Keeps s) : b0.Keeps (doFabRetransmit dst vc seq s) := by
  unfold doFabRetransmit
  repeat' (first | with_reducible assumption | intro _ _ _ | intro _ | with_reducible apply State.toNs_keeps | with_reducible apply State.sourceNack_keeps | with_reducible apply State.updTx_keeps | with_reducible apply State.launch_keeps | with_reducible apply State.countNic_keeps | with_reducible apply State.raise_keeps | with_reducible apply State.Keeps.ite | split | ((with_reducible conv => arg 2; whnf); split) | with_reducible refine State.Keeps.eq2 (by with_reducible assumption) ?_ | with_reducible refine State.Keeps.eq22 (by with_reducible assumption) ?_ | with_reducible refine State.Keeps.eq222 (by with_reducible assumption) ?_ | with_reducible refine State.Keeps.eq1 (by with_reducible assumption) ?_ | with_reducible apply State.Keeps.mk_)

theorem execFabRetransmit_keeps (b0 : State) (dst vc seq : Nat) (s : State) (h0 : b0.Keeps s) : b0.KeepsOut (execFabRetransmit dst vc seq s) := by
  unfold execFabRetransmit
  repeat' (first | with_reducible assumption | with_reducible apply doFabRetransmit_keeps | with_reducible apply State.Keeps.next | intro _)

theorem State.colPacketIn_keeps (b0 : State) (run : Packet → State → State) (p : Nat) (k : Packet) (s : State) (h0 : b0.Keeps s) (hrun : ∀ y0 u, b0.Keeps u → b0.Keeps (run y0 u)) : b0.Keeps (State.colPacketIn run p k s) := by
  unfold State.colPacketIn
  repeat' (first | with_reducible assumption | intro _ _ _ | intro _ | with_reducible apply State.satF_keeps | with_reducible apply State.dedupe_keeps | with_reducible apply State.answerAgain_keeps | with_reducible apply State.finishIn_keeps | with_reducible apply State.afterPacket_keeps | with_reducible apply hrun | with_reducible apply State.Keeps.ite | split | ((with_reducible conv => arg 2; whnf); split))

theorem State.takeUp_keeps (b0 : State) (k : Packet) (s : State) (h0 : b0.Keeps s) : b0.Keeps (State.takeUp k s) := by
  unfold State.takeUp
  repeat' (first | with_reducible assumption | intro _ _ _ | intro _ | with_reducible apply State.takeScalar_keeps | with_reducible apply State.updColl_keeps | with_reducible apply State.scalarStep_keeps | split | ((with_reducible conv => arg 2; whnf); split) | with_reducible apply State.Keeps.mk_)

theorem doColUp_keeps (b0 : State) (k : Packet) (s : State) (h0 : b0.Keeps s) : b0.Keeps (doColUp k s) := by
  unfold doColUp
  repeat' (first | with_reducible assumption | with_reducible apply State.arrive_keeps | with_reducible apply State.colPacketIn_keeps | with_reducible apply State.takeUp_keeps | intro _)

theorem execColUp_keeps (b0 : State) (pkt : Packet) (s : State) (h0 : b0.Keeps s) : b0.KeepsOut (execColUp pkt s) := by
  unfold execColUp
  repeat' (first | with_reducible assumption | intro _ _ _ | intro _ | with_reducible apply State.orWait_keeps | with_reducible apply doColUp_keeps | with_reducible apply State.Keeps.next | with_reducible apply State.Keeps.mk_)

theorem State.takeDown_keeps (b0 : State) (k : Packet) (s : State) (h0 : b0.Keeps s) : b0.Keeps (State.takeDown k s) := by
  unfold State.takeDown
  repeat' (first | with_reducible assumption | intro _ _ _ | intro _ | with_reducible apply State.colPacket_keeps | with_reducible apply State.updOp_keeps | with_reducible apply State.scalarStep_keeps | with_reducible apply State.scalarResult_keeps | with_reducible apply State.Keeps.ite | with_reducible apply State.Keeps.foldl | with_reducible apply State.Keeps.foldl2 | with_reducible apply State.Keeps.foldl22 | with_reducible apply State.Keeps.foldl222 | with_reducible apply State.Keeps.foldl1 | split | ((with_reducible conv => arg 2; whnf); split) | with_reducible refine State.Keeps.eq2 (by with_reducible assumption) ?_ | with_reducible refine State.Keeps.eq22 (by with_reducible assumption) ?_ | with_reducible refine State.Keeps.eq222 (by with_reducible assumption) ?_ | with_reducible refine State.Keeps.eq1 (by with_reducible assumption) ?_ | with_reducible apply State.Keeps.mk_)

theorem doColDown_keeps (b0 : State) (k : Packet) (s : State) (h0 : b0.Keeps s) : b0.Keeps (doColDown k s) := by
  unfold doColDown
  repeat' (first | with_reducible assumption | with_reducible apply State.arrive_keeps | with_reducible apply State.colPacketIn_keeps | with_reducible apply State.takeDown_keeps | intro _)

theorem execColDown_keeps (b0 : State) (pkt : Packet) (s : State) (h0 : b0.Keeps s) : b0.KeepsOut (execColDown pkt s) := by
  unfold execColDown
  repeat' (first | with_reducible assumption | intro _ _ _ | intro _ | with_reducible apply State.orWait_keeps | with_reducible apply doColDown_keeps | with_reducible apply State.Keeps.next | with_reducible apply State.Keeps.mk_)

theorem doColCredit_keeps (b0 : State) (k : Packet) (s : State) (h0 : b0.Keeps s) : b0.Keeps (doColCredit k s) := by
  unfold doColCredit
  repeat' (first | with_reducible assumption | intro _ _ _ | intro _ | with_reducible apply State.arrive_keeps | with_reducible apply State.colPacketIn_keeps | with_reducible apply State.updColl_keeps | with_reducible apply State.groupStep_keeps | split | ((with_reducible conv => arg 2; whnf); split) | with_reducible apply State.Keeps.mk_)

theorem execColCredit_keeps (b0 : State) (pkt : Packet) (s : State) (h0 : b0.Keeps s) : b0.KeepsOut (execColCredit pkt s) := by
  unfold execColCredit
  repeat' (first | with_reducible assumption | with_reducible apply doColCredit_keeps | with_reducible apply State.Keeps.next | intro _)

theorem State.takeBcastAck_keeps (b0 : State) (k : Packet) (s : State) (h0 : b0.Keeps s) : b0.Keeps (State.takeBcastAck k s) := by
  unfold State.takeBcastAck
  repeat' (first | with_reducible assumption | intro _ _ _ | intro _ | with_reducible apply State.bcastCrc_keeps | with_reducible apply State.bcastLost_keeps | with_reducible apply State.bcastStep_keeps | with_reducible apply State.updOp_keeps | with_reducible apply State.Keeps.ite | with_reducible apply State.Keeps.ite2 | with_reducible apply State.Keeps.ite22 | with_reducible apply State.Keeps.ite222 | with_reducible apply State.Keeps.ite1 | with_reducible apply State.Keeps.ite21 | split | ((with_reducible conv => arg 2; whnf); split) | ((with_reducible conv => arg 2; arg 1; whnf); split) | ((with_reducible conv => arg 2; arg 1; arg 1; whnf); split) | with_reducible refine State.Keeps.eq2 (by with_reducible assumption) ?_ | with_reducible refine State.Keeps.eq22 (by with_reducible assumption) ?_ | with_reducible refine State.Keeps.eq222 (by with_reducible assumption) ?_ | with_reducible refine State.Keeps.eq1 (by with_reducible assumption) ?_ | with_reducible apply State.Keeps.mk_)

theorem doBcastAck_keeps (b0 : State) (k : Packet) (s : State) (h0 : b0.Keeps s) : b0.Keeps (doBcastAck k s) := by
  unfold doBcastAck
  repeat' (first | with_reducible assumption | with_reducible apply State.arrive_keeps | with_reducible apply State.colPacketIn_keeps | with_reducible apply State.takeBcastAck_keeps | intro _)

theorem execBcastAck_keeps (b0 : State) (pkt : Packet) (s : State) (h0 : b0.Keeps s) : b0.KeepsOut (execBcastAck pkt s) := by
  unfold execBcastAck
  repeat' (first | with_reducible assumption | with_reducible apply doBcastAck_keeps | with_reducible apply State.Keeps.next | intro _)

end Sys2Proof.Machine
end

