-- ==== Sys2Proof/Laws/KeepsPackage.lean ====
section
/-! SUPPORT. What every operation of Machine/Package.lean keeps: the queue, the part, and the canonical forms. -/
namespace Sys2Proof.Machine

set_option linter.all false
set_option Elab.async false

theorem State.lscPush_keeps (b0 : State) (s : State) (l : List (Nat × Nat × Nat)) (h0 : b0.Keeps s) : b0.Keeps (State.lscPush s l) := by
  unfold State.lscPush
  repeat' (first | with_reducible assumption | with_reducible apply State.Keeps.ite | split | ((with_reducible conv => arg 2; whnf); split) | with_reducible apply State.Keeps.mk_ | intro _)

theorem doLscFault_keeps (b0 : State) (s : State) (h0 : b0.Keeps s) : b0.Keeps (doLscFault s) := by
  unfold doLscFault
  repeat' (first | with_reducible assumption | intro _ _ _ | intro _ | with_reducible apply State.lscPush_keeps | split | ((with_reducible conv => arg 2; whnf); split) | with_reducible apply State.Keeps.mk_)

theorem execLscFault_keeps (b0 : State) (s : State) (h0 : b0.Keeps s) : b0.KeepsOut (execLscFault s) := by
  unfold execLscFault
  repeat' (first | with_reducible assumption | with_reducible apply doLscFault_keeps | with_reducible apply State.Keeps.next | intro _)

theorem State.lscRetry_keeps (b0 : State) (s : State) (h0 : b0.Keeps s) : b0.Keeps (State.lscRetry s) := by
  unfold State.lscRetry
  repeat' (first | with_reducible assumption | with_reducible apply State.raise_keeps | with_reducible apply State.Keeps.ite | split | ((with_reducible conv => arg 2; whnf); split) | with_reducible apply State.Keeps.mk_ | intro _)

theorem State.lscStatus_keeps (b0 : State) (s : State) (c v : Nat) (h0 : b0.Keeps s) : b0.Keeps (State.lscStatus s c v) := by
  unfold State.lscStatus
  repeat' (first | with_reducible assumption | intro _ _ _ | intro _ | with_reducible apply State.raise_keeps | with_reducible apply State.dirty_keeps | with_reducible apply State.Keeps.ite | with_reducible apply State.Keeps.ite2 | with_reducible apply State.Keeps.ite22 | with_reducible apply State.Keeps.ite222 | with_reducible apply State.Keeps.ite1 | with_reducible apply State.Keeps.ite21 | split | ((with_reducible conv => arg 2; whnf); split) | ((with_reducible conv => arg 2; arg 1; whnf); split) | ((with_reducible conv => arg 2; arg 1; arg 1; whnf); split) | with_reducible apply State.Keeps.mk_)

theorem doLscResponse_keeps (b0 : State) (frame : List Byte) (s : State) (h0 : b0.Keeps s) : b0.Keeps (doLscResponse frame s) := by
  unfold doLscResponse
  repeat' (first | with_reducible assumption | with_reducible apply State.lscRetry_keeps | with_reducible apply State.lscStatus_keeps | with_reducible apply State.Keeps.ite | split | ((with_reducible conv => arg 2; whnf); split) | with_reducible refine State.Keeps.eq2 (by with_reducible assumption) ?_ | with_reducible refine State.Keeps.eq22 (by with_reducible assumption) ?_ | with_reducible refine State.Keeps.eq222 (by with_reducible assumption) ?_ | with_reducible refine State.Keeps.eq1 (by with_reducible assumption) ?_ | with_reducible apply State.Keeps.mk_ | intro _)

theorem execLscResponse_keeps (b0 : State) (frame : List Byte) (s : State) (h0 : b0.Keeps s) : b0.KeepsOut (execLscResponse frame s) := by
  unfold execLscResponse
  repeat' (first | with_reducible assumption | with_reducible apply doLscResponse_keeps | with_reducible apply State.Keeps.next | intro _)

theorem doLscTimeout_keeps (b0 : State) (s : State) (h0 : b0.Keeps s) : b0.Keeps (doLscTimeout s) := by
  unfold doLscTimeout
  repeat' (first | with_reducible assumption | with_reducible apply State.advanceNs_keeps | with_reducible apply State.lscRetry_keeps | intro _)

theorem execLscTimeout_keeps (b0 : State) (s : State) (h0 : b0.Keeps s) : b0.KeepsOut (execLscTimeout s) := by
  unfold execLscTimeout
  repeat' (first | with_reducible assumption | with_reducible apply doLscTimeout_keeps | with_reducible apply State.Keeps.next | intro _)

theorem doJtagIdcode_keeps (b0 : State) (s : State) (h0 : b0.Keeps s) : b0.Keeps (doJtagIdcode s) := by
  unfold doJtagIdcode
  repeat' (first | with_reducible assumption | with_reducible apply State.answer_keeps | with_reducible apply State.Keeps.ite | split | ((with_reducible conv => arg 2; whnf); split) | with_reducible apply State.Keeps.mk_ | intro _)

theorem execJtagIdcode_keeps (b0 : State) (s : State) (h0 : b0.Keeps s) : b0.KeepsOut (execJtagIdcode s) := by
  unfold execJtagIdcode
  repeat' (first | with_reducible assumption | with_reducible apply doJtagIdcode_keeps | with_reducible apply State.Keeps.next | intro _)

theorem doJtagBypass_keeps (b0 : State) (s : State) (h0 : b0.Keeps s) : b0.Keeps (doJtagBypass s) := by
  unfold doJtagBypass
  repeat' (first | with_reducible assumption | with_reducible apply State.Keeps.mk_ | intro _)

theorem execJtagBypass_keeps (b0 : State) (s : State) (h0 : b0.Keeps s) : b0.KeepsOut (execJtagBypass s) := by
  unfold execJtagBypass
  repeat' (first | with_reducible assumption | with_reducible apply doJtagBypass_keeps | with_reducible apply State.Keeps.next | intro _)

theorem doJtagSamplePreload_keeps (b0 : State) (data : Nat) (s : State) (h0 : b0.Keeps s) : b0.Keeps (doJtagSamplePreload data s) := by
  unfold doJtagSamplePreload
  repeat' (first | with_reducible assumption | with_reducible apply State.freshNat_keeps | with_reducible apply State.answer_keeps | with_reducible apply doJtagBypass_keeps | with_reducible apply State.Keeps.ite | with_reducible apply State.Keeps.ite2 | with_reducible apply State.Keeps.ite22 | with_reducible apply State.Keeps.ite222 | with_reducible apply State.Keeps.ite1 | with_reducible apply State.Keeps.ite21 | split | ((with_reducible conv => arg 2; whnf); split) | ((with_reducible conv => arg 2; arg 1; whnf); split) | ((with_reducible conv => arg 2; arg 1; arg 1; whnf); split) | with_reducible apply State.Keeps.mk_ | intro _)

theorem execJtagSamplePreload_keeps (b0 : State) (data : Nat) (s : State) (h0 : b0.Keeps s) : b0.KeepsOut (execJtagSamplePreload data s) := by
  unfold execJtagSamplePreload
  repeat' (first | with_reducible assumption | with_reducible apply doJtagSamplePreload_keeps | with_reducible apply State.Keeps.next | intro _)

theorem doJtagExtest_keeps (b0 : State) (s : State) (h0 : b0.Keeps s) : b0.Keeps (doJtagExtest s) := by
  unfold doJtagExtest
  repeat' (first | with_reducible assumption | with_reducible apply doJtagBypass_keeps | with_reducible apply State.Keeps.ite | split | ((with_reducible conv => arg 2; whnf); split) | with_reducible apply State.Keeps.mk_ | intro _)

theorem execJtagExtest_keeps (b0 : State) (s : State) (h0 : b0.Keeps s) : b0.KeepsOut (execJtagExtest s) := by
  unfold execJtagExtest
  repeat' (first | with_reducible assumption | with_reducible apply doJtagExtest_keeps | with_reducible apply State.Keeps.next | intro _)

end Sys2Proof.Machine
end

