-- ==== Sys2Proof/Laws/Views.lean ====
section
/-! SUPPORT. Owners of A-dies, frame states and active banks through the named operations. -/
namespace Sys2Proof.Machine

set_option Elab.async false

theorem State.getF_eq {s t : State} (h : t.fld = s.fld) (f : Fld) : t.getF f = s.getF f := by simp only [State.getF, h]

theorem State.partOf_eq {s t : State} (h : t.owner = s.owner) (k : Nat) : t.partOf k = s.partOf k := by simp only [State.partOf, h]

theorem State.diesOf_eq {s t : State} (h : t.owner = s.owner) (k : Nat) : t.diesOf k = s.diesOf k := by simp only [State.diesOf, State.partOf, h]

theorem State.frameState_eq {s t : State} (h : t.fld = s.fld) (k : Nat) : t.frameState k = s.frameState k := by simp only [State.frameState, State.getF, h]

theorem State.activeBank_eq {s t : State} (h : t.fld = s.fld) (k : Nat) : t.activeBank k = s.activeBank k := by simp only [State.activeBank, State.getF, h]

theorem State.inFrame_eq {s t : State} (h : t.fld = s.fld) (k : Nat) : t.inFrame k = s.inFrame k := by simp only [State.inFrame, State.frameState_eq h]

@[simp] theorem State.partOf_setF (s : State) (f : Fld) (v : Nat) (k : Nat) : (s.setF f v).partOf k = s.partOf k := State.partOf_eq (by simp) k
@[simp] theorem State.diesOf_setF (s : State) (f : Fld) (v : Nat) (k : Nat) : (s.setF f v).diesOf k = s.diesOf k := State.diesOf_eq (by simp) k
@[simp] theorem State.partOf_satF (s : State) (f : Fld) (n : Nat) (k : Nat) : (s.satF f n).partOf k = s.partOf k := State.partOf_eq (by simp) k
@[simp] theorem State.diesOf_satF (s : State) (f : Fld) (n : Nat) (k : Nat) : (s.satF f n).diesOf k = s.diesOf k := State.diesOf_eq (by simp) k
@[simp] theorem State.partOf_count (s : State) (e i n : Nat) (k : Nat) : (s.count e i n).partOf k = s.partOf k := State.partOf_eq (by simp) k
@[simp] theorem State.diesOf_count (s : State) (e i n : Nat) (k : Nat) : (s.count e i n).diesOf k = s.diesOf k := State.diesOf_eq (by simp) k
@[simp] theorem State.partOf_setFrameState (s : State) (p st : Nat) (k : Nat) : (s.setFrameState p st).partOf k = s.partOf k := State.partOf_eq (by simp) k
@[simp] theorem State.diesOf_setFrameState (s : State) (p st : Nat) (k : Nat) : (s.setFrameState p st).diesOf k = s.diesOf k := State.diesOf_eq (by simp) k
@[simp] theorem State.partOf_answer (s : State) (c v : Nat) (k : Nat) : (s.answer c v).partOf k = s.partOf k := State.partOf_eq (by simp) k
@[simp] theorem State.diesOf_answer (s : State) (c v : Nat) (k : Nat) : (s.answer c v).diesOf k = s.diesOf k := State.diesOf_eq (by simp) k
@[simp] theorem State.frameState_answer (s : State) (c v : Nat) (k : Nat) : (s.answer c v).frameState k = s.frameState k := State.frameState_eq (by simp) k
@[simp] theorem State.activeBank_answer (s : State) (c v : Nat) (k : Nat) : (s.answer c v).activeBank k = s.activeBank k := State.activeBank_eq (by simp) k
@[simp] theorem State.inFrame_answer (s : State) (c v : Nat) (k : Nat) : (s.answer c v).inFrame k = s.inFrame k := State.inFrame_eq (by simp) k
@[simp] theorem State.partOf_answerBytes (s : State) (c : Nat) (b : List Byte) (k : Nat) : (s.answerBytes c b).partOf k = s.partOf k := State.partOf_eq (by simp) k
@[simp] theorem State.diesOf_answerBytes (s : State) (c : Nat) (b : List Byte) (k : Nat) : (s.answerBytes c b).diesOf k = s.diesOf k := State.diesOf_eq (by simp) k
@[simp] theorem State.frameState_answerBytes (s : State) (c : Nat) (b : List Byte) (k : Nat) : (s.answerBytes c b).frameState k = s.frameState k := State.frameState_eq (by simp) k
@[simp] theorem State.activeBank_answerBytes (s : State) (c : Nat) (b : List Byte) (k : Nat) : (s.answerBytes c b).activeBank k = s.activeBank k := State.activeBank_eq (by simp) k
@[simp] theorem State.inFrame_answerBytes (s : State) (c : Nat) (b : List Byte) (k : Nat) : (s.answerBytes c b).inFrame k = s.inFrame k := State.inFrame_eq (by simp) k
@[simp] theorem State.partOf_raiseC (s : State) (cls code die unit loc kind value : Nat) (b : Bool) (k : Nat) : (s.raiseC cls code die unit loc kind value b).partOf k = s.partOf k := State.partOf_eq (by simp) k
@[simp] theorem State.diesOf_raiseC (s : State) (cls code die unit loc kind value : Nat) (b : Bool) (k : Nat) : (s.raiseC cls code die unit loc kind value b).diesOf k = s.diesOf k := State.diesOf_eq (by simp) k
@[simp] theorem State.frameState_raiseC (s : State) (cls code die unit loc kind value : Nat) (b : Bool) (k : Nat) : (s.raiseC cls code die unit loc kind value b).frameState k = s.frameState k := State.frameState_eq (by simp) k
@[simp] theorem State.activeBank_raiseC (s : State) (cls code die unit loc kind value : Nat) (b : Bool) (k : Nat) : (s.raiseC cls code die unit loc kind value b).activeBank k = s.activeBank k := State.activeBank_eq (by simp) k
@[simp] theorem State.inFrame_raiseC (s : State) (cls code die unit loc kind value : Nat) (b : Bool) (k : Nat) : (s.raiseC cls code die unit loc kind value b).inFrame k = s.inFrame k := State.inFrame_eq (by simp) k
@[simp] theorem State.partOf_raise (s : State) (code die unit loc kind value : Nat) (k : Nat) : (s.raise code die unit loc kind value).partOf k = s.partOf k := State.partOf_eq (by simp) k
@[simp] theorem State.diesOf_raise (s : State) (code die unit loc kind value : Nat) (k : Nat) : (s.raise code die unit loc kind value).diesOf k = s.diesOf k := State.diesOf_eq (by simp) k
@[simp] theorem State.frameState_raise (s : State) (code die unit loc kind value : Nat) (k : Nat) : (s.raise code die unit loc kind value).frameState k = s.frameState k := State.frameState_eq (by simp) k
@[simp] theorem State.activeBank_raise (s : State) (code die unit loc kind value : Nat) (k : Nat) : (s.raise code die unit loc kind value).activeBank k = s.activeBank k := State.activeBank_eq (by simp) k
@[simp] theorem State.inFrame_raise (s : State) (code die unit loc kind value : Nat) (k : Nat) : (s.raise code die unit loc kind value).inFrame k = s.inFrame k := State.inFrame_eq (by simp) k
@[simp] theorem State.partOf_raiseP (s : State) (p code loc kind value : Nat) (k : Nat) : (s.raiseP p code loc kind value).partOf k = s.partOf k := State.partOf_eq (by simp) k
@[simp] theorem State.diesOf_raiseP (s : State) (p code loc kind value : Nat) (k : Nat) : (s.raiseP p code loc kind value).diesOf k = s.diesOf k := State.diesOf_eq (by simp) k
@[simp] theorem State.frameState_raiseP (s : State) (p code loc kind value : Nat) (k : Nat) : (s.raiseP p code loc kind value).frameState k = s.frameState k := State.frameState_eq (by simp) k
@[simp] theorem State.activeBank_raiseP (s : State) (p code loc kind value : Nat) (k : Nat) : (s.raiseP p code loc kind value).activeBank k = s.activeBank k := State.activeBank_eq (by simp) k
@[simp] theorem State.inFrame_raiseP (s : State) (p code loc kind value : Nat) (k : Nat) : (s.raiseP p code loc kind value).inFrame k = s.inFrame k := State.inFrame_eq (by simp) k
@[simp] theorem State.partOf_setByte (s : State) (a : Nat) (b : Byte) (k : Nat) : (s.setByte a b).partOf k = s.partOf k := State.partOf_eq (by simp) k
@[simp] theorem State.diesOf_setByte (s : State) (a : Nat) (b : Byte) (k : Nat) : (s.setByte a b).diesOf k = s.diesOf k := State.diesOf_eq (by simp) k
@[simp] theorem State.frameState_setByte (s : State) (a : Nat) (b : Byte) (k : Nat) : (s.setByte a b).frameState k = s.frameState k := State.frameState_eq (by simp) k
@[simp] theorem State.activeBank_setByte (s : State) (a : Nat) (b : Byte) (k : Nat) : (s.setByte a b).activeBank k = s.activeBank k := State.activeBank_eq (by simp) k
@[simp] theorem State.inFrame_setByte (s : State) (a : Nat) (b : Byte) (k : Nat) : (s.setByte a b).inFrame k = s.inFrame k := State.inFrame_eq (by simp) k
@[simp] theorem State.partOf_advanceNs (s : State) (d : Nat) (k : Nat) : (s.advanceNs d).partOf k = s.partOf k := State.partOf_eq (by simp) k
@[simp] theorem State.diesOf_advanceNs (s : State) (d : Nat) (k : Nat) : (s.advanceNs d).diesOf k = s.diesOf k := State.diesOf_eq (by simp) k
@[simp] theorem State.frameState_advanceNs (s : State) (d : Nat) (k : Nat) : (s.advanceNs d).frameState k = s.frameState k := State.frameState_eq (by simp) k
@[simp] theorem State.activeBank_advanceNs (s : State) (d : Nat) (k : Nat) : (s.advanceNs d).activeBank k = s.activeBank k := State.activeBank_eq (by simp) k
@[simp] theorem State.inFrame_advanceNs (s : State) (d : Nat) (k : Nat) : (s.advanceNs d).inFrame k = s.inFrame k := State.inFrame_eq (by simp) k
@[simp] theorem State.partOf_setDie (s : State) (n : Nat) (d : ADie) (k : Nat) : (s.setDie n d).partOf k = s.partOf k := State.partOf_eq (by simp) k
@[simp] theorem State.diesOf_setDie (s : State) (n : Nat) (d : ADie) (k : Nat) : (s.setDie n d).diesOf k = s.diesOf k := State.diesOf_eq (by simp) k
@[simp] theorem State.frameState_setDie (s : State) (n : Nat) (d : ADie) (k : Nat) : (s.setDie n d).frameState k = s.frameState k := State.frameState_eq (by simp) k
@[simp] theorem State.activeBank_setDie (s : State) (n : Nat) (d : ADie) (k : Nat) : (s.setDie n d).activeBank k = s.activeBank k := State.activeBank_eq (by simp) k
@[simp] theorem State.inFrame_setDie (s : State) (n : Nat) (d : ADie) (k : Nat) : (s.setDie n d).inFrame k = s.inFrame k := State.inFrame_eq (by simp) k
@[simp] theorem State.partOf_setPart (s : State) (p : Nat) (x : Part) (k : Nat) : (s.setPart p x).partOf k = s.partOf k := State.partOf_eq (by simp) k
@[simp] theorem State.diesOf_setPart (s : State) (p : Nat) (x : Part) (k : Nat) : (s.setPart p x).diesOf k = s.diesOf k := State.diesOf_eq (by simp) k
@[simp] theorem State.frameState_setPart (s : State) (p : Nat) (x : Part) (k : Nat) : (s.setPart p x).frameState k = s.frameState k := State.frameState_eq (by simp) k
@[simp] theorem State.activeBank_setPart (s : State) (p : Nat) (x : Part) (k : Nat) : (s.setPart p x).activeBank k = s.activeBank k := State.activeBank_eq (by simp) k
@[simp] theorem State.inFrame_setPart (s : State) (p : Nat) (x : Part) (k : Nat) : (s.setPart p x).inFrame k = s.inFrame k := State.inFrame_eq (by simp) k
@[simp] theorem State.partOf_updDie (s : State) (n : Nat) (f : ADie → ADie) (k : Nat) : (s.updDie n f).partOf k = s.partOf k := State.partOf_eq (by simp) k
@[simp] theorem State.diesOf_updDie (s : State) (n : Nat) (f : ADie → ADie) (k : Nat) : (s.updDie n f).diesOf k = s.diesOf k := State.diesOf_eq (by simp) k
@[simp] theorem State.frameState_updDie (s : State) (n : Nat) (f : ADie → ADie) (k : Nat) : (s.updDie n f).frameState k = s.frameState k := State.frameState_eq (by simp) k
@[simp] theorem State.activeBank_updDie (s : State) (n : Nat) (f : ADie → ADie) (k : Nat) : (s.updDie n f).activeBank k = s.activeBank k := State.activeBank_eq (by simp) k
@[simp] theorem State.inFrame_updDie (s : State) (n : Nat) (f : ADie → ADie) (k : Nat) : (s.updDie n f).inFrame k = s.inFrame k := State.inFrame_eq (by simp) k
@[simp] theorem State.partOf_updPart (s : State) (p : Nat) (f : Part → Part) (k : Nat) : (s.updPart p f).partOf k = s.partOf k := State.partOf_eq (by simp) k
@[simp] theorem State.diesOf_updPart (s : State) (p : Nat) (f : Part → Part) (k : Nat) : (s.updPart p f).diesOf k = s.diesOf k := State.diesOf_eq (by simp) k
@[simp] theorem State.frameState_updPart (s : State) (p : Nat) (f : Part → Part) (k : Nat) : (s.updPart p f).frameState k = s.frameState k := State.frameState_eq (by simp) k
@[simp] theorem State.activeBank_updPart (s : State) (p : Nat) (f : Part → Part) (k : Nat) : (s.updPart p f).activeBank k = s.activeBank k := State.activeBank_eq (by simp) k
@[simp] theorem State.inFrame_updPart (s : State) (p : Nat) (f : Part → Part) (k : Nat) : (s.updPart p f).inFrame k = s.inFrame k := State.inFrame_eq (by simp) k
@[simp] theorem State.partOf_updCore (s : State) (c : Nat) (f : Core → Core) (k : Nat) : (s.updCore c f).partOf k = s.partOf k := State.partOf_eq (by simp) k
@[simp] theorem State.diesOf_updCore (s : State) (c : Nat) (f : Core → Core) (k : Nat) : (s.updCore c f).diesOf k = s.diesOf k := State.diesOf_eq (by simp) k
@[simp] theorem State.frameState_updCore (s : State) (c : Nat) (f : Core → Core) (k : Nat) : (s.updCore c f).frameState k = s.frameState k := State.frameState_eq (by simp) k
@[simp] theorem State.activeBank_updCore (s : State) (c : Nat) (f : Core → Core) (k : Nat) : (s.updCore c f).activeBank k = s.activeBank k := State.activeBank_eq (by simp) k
@[simp] theorem State.inFrame_updCore (s : State) (c : Nat) (f : Core → Core) (k : Nat) : (s.updCore c f).inFrame k = s.inFrame k := State.inFrame_eq (by simp) k
@[simp] theorem State.partOf_updRun (s : State) (die idx : Nat) (f : RunCmd → RunCmd) (k : Nat) : (s.updRun die idx f).partOf k = s.partOf k := State.partOf_eq (by simp) k
@[simp] theorem State.diesOf_updRun (s : State) (die idx : Nat) (f : RunCmd → RunCmd) (k : Nat) : (s.updRun die idx f).diesOf k = s.diesOf k := State.diesOf_eq (by simp) k
@[simp] theorem State.frameState_updRun (s : State) (die idx : Nat) (f : RunCmd → RunCmd) (k : Nat) : (s.updRun die idx f).frameState k = s.frameState k := State.frameState_eq (by simp) k
@[simp] theorem State.activeBank_updRun (s : State) (die idx : Nat) (f : RunCmd → RunCmd) (k : Nat) : (s.updRun die idx f).activeBank k = s.activeBank k := State.activeBank_eq (by simp) k
@[simp] theorem State.inFrame_updRun (s : State) (die idx : Nat) (f : RunCmd → RunCmd) (k : Nat) : (s.updRun die idx f).inFrame k = s.inFrame k := State.inFrame_eq (by simp) k
@[simp] theorem State.partOf_advanceCyc (s : State) (n : Nat) (k : Nat) : (s.advanceCyc n).partOf k = s.partOf k := State.partOf_eq (by simp) k
@[simp] theorem State.diesOf_advanceCyc (s : State) (n : Nat) (k : Nat) : (s.advanceCyc n).diesOf k = s.diesOf k := State.diesOf_eq (by simp) k
@[simp] theorem State.frameState_advanceCyc (s : State) (n : Nat) (k : Nat) : (s.advanceCyc n).frameState k = s.frameState k := State.frameState_eq (by simp) k
@[simp] theorem State.activeBank_advanceCyc (s : State) (n : Nat) (k : Nat) : (s.advanceCyc n).activeBank k = s.activeBank k := State.activeBank_eq (by simp) k
@[simp] theorem State.inFrame_advanceCyc (s : State) (n : Nat) (k : Nat) : (s.advanceCyc n).inFrame k = s.inFrame k := State.inFrame_eq (by simp) k
@[simp] theorem State.partOf_toCyc (s : State) (p c : Nat) (k : Nat) : (s.toCyc p c).partOf k = s.partOf k := State.partOf_eq (by simp) k
@[simp] theorem State.diesOf_toCyc (s : State) (p c : Nat) (k : Nat) : (s.toCyc p c).diesOf k = s.diesOf k := State.diesOf_eq (by simp) k
@[simp] theorem State.frameState_toCyc (s : State) (p c : Nat) (k : Nat) : (s.toCyc p c).frameState k = s.frameState k := State.frameState_eq (by simp) k
@[simp] theorem State.activeBank_toCyc (s : State) (p c : Nat) (k : Nat) : (s.toCyc p c).activeBank k = s.activeBank k := State.activeBank_eq (by simp) k
@[simp] theorem State.inFrame_toCyc (s : State) (p c : Nat) (k : Nat) : (s.toCyc p c).inFrame k = s.inFrame k := State.inFrame_eq (by simp) k
@[simp] theorem State.partOf_raiseCmd (s : State) (cls code die unit idx kind value : Nat) (k : Nat) : (s.raiseCmd cls code die unit idx kind value).partOf k = s.partOf k := State.partOf_eq (by simp) k
@[simp] theorem State.diesOf_raiseCmd (s : State) (cls code die unit idx kind value : Nat) (k : Nat) : (s.raiseCmd cls code die unit idx kind value).diesOf k = s.diesOf k := State.diesOf_eq (by simp) k
@[simp] theorem State.frameState_raiseCmd (s : State) (cls code die unit idx kind value : Nat) (k : Nat) : (s.raiseCmd cls code die unit idx kind value).frameState k = s.frameState k := State.frameState_eq (by simp) k
@[simp] theorem State.activeBank_raiseCmd (s : State) (cls code die unit idx kind value : Nat) (k : Nat) : (s.raiseCmd cls code die unit idx kind value).activeBank k = s.activeBank k := State.activeBank_eq (by simp) k
@[simp] theorem State.inFrame_raiseCmd (s : State) (cls code die unit idx kind value : Nat) (k : Nat) : (s.raiseCmd cls code die unit idx kind value).inFrame k = s.inFrame k := State.inFrame_eq (by simp) k
@[simp] theorem State.partOf_expoAt (s : State) (die ns typ flags code idx cyc value detail : Nat) (mbit : Option Nat) (k : Nat) : (s.expoAt die ns typ flags code idx cyc value detail mbit).partOf k = s.partOf k := State.partOf_eq (by simp) k
@[simp] theorem State.diesOf_expoAt (s : State) (die ns typ flags code idx cyc value detail : Nat) (mbit : Option Nat) (k : Nat) : (s.expoAt die ns typ flags code idx cyc value detail mbit).diesOf k = s.diesOf k := State.diesOf_eq (by simp) k
@[simp] theorem State.frameState_expoAt (s : State) (die ns typ flags code idx cyc value detail : Nat) (mbit : Option Nat) (k : Nat) : (s.expoAt die ns typ flags code idx cyc value detail mbit).frameState k = s.frameState k := State.frameState_eq (by simp) k
@[simp] theorem State.activeBank_expoAt (s : State) (die ns typ flags code idx cyc value detail : Nat) (mbit : Option Nat) (k : Nat) : (s.expoAt die ns typ flags code idx cyc value detail mbit).activeBank k = s.activeBank k := State.activeBank_eq (by simp) k
@[simp] theorem State.inFrame_expoAt (s : State) (die ns typ flags code idx cyc value detail : Nat) (mbit : Option Nat) (k : Nat) : (s.expoAt die ns typ flags code idx cyc value detail mbit).inFrame k = s.inFrame k := State.inFrame_eq (by simp) k
@[simp] theorem State.partOf_expo (s : State) (die typ flags code idx cyc value detail : Nat) (mbit : Option Nat) (k : Nat) : (s.expo die typ flags code idx cyc value detail mbit).partOf k = s.partOf k := State.partOf_eq (by simp) k
@[simp] theorem State.diesOf_expo (s : State) (die typ flags code idx cyc value detail : Nat) (mbit : Option Nat) (k : Nat) : (s.expo die typ flags code idx cyc value detail mbit).diesOf k = s.diesOf k := State.diesOf_eq (by simp) k
@[simp] theorem State.frameState_expo (s : State) (die typ flags code idx cyc value detail : Nat) (mbit : Option Nat) (k : Nat) : (s.expo die typ flags code idx cyc value detail mbit).frameState k = s.frameState k := State.frameState_eq (by simp) k
@[simp] theorem State.activeBank_expo (s : State) (die typ flags code idx cyc value detail : Nat) (mbit : Option Nat) (k : Nat) : (s.expo die typ flags code idx cyc value detail mbit).activeBank k = s.activeBank k := State.activeBank_eq (by simp) k
@[simp] theorem State.inFrame_expo (s : State) (die typ flags code idx cyc value detail : Nat) (mbit : Option Nat) (k : Nat) : (s.expo die typ flags code idx cyc value detail mbit).inFrame k = s.inFrame k := State.inFrame_eq (by simp) k
@[simp] theorem State.partOf_toNs (s : State) (t : Nat) (k : Nat) : (s.toNs t).partOf k = s.partOf k := State.partOf_eq (by simp) k
@[simp] theorem State.diesOf_toNs (s : State) (t : Nat) (k : Nat) : (s.toNs t).diesOf k = s.diesOf k := State.diesOf_eq (by simp) k
@[simp] theorem State.frameState_toNs (s : State) (t : Nat) (k : Nat) : (s.toNs t).frameState k = s.frameState k := State.frameState_eq (by simp) k
@[simp] theorem State.activeBank_toNs (s : State) (t : Nat) (k : Nat) : (s.toNs t).activeBank k = s.activeBank k := State.activeBank_eq (by simp) k
@[simp] theorem State.inFrame_toNs (s : State) (t : Nat) (k : Nat) : (s.toNs t).inFrame k = s.inFrame k := State.inFrame_eq (by simp) k
@[simp] theorem State.partOf_setFs (s : State) (l : List (Fld × Nat)) (k : Nat) : (s.setFs l).partOf k = s.partOf k := State.partOf_eq (by simp) k
@[simp] theorem State.diesOf_setFs (s : State) (l : List (Fld × Nat)) (k : Nat) : (s.setFs l).diesOf k = s.diesOf k := State.diesOf_eq (by simp) k
@[simp] theorem State.partOf_writeMem (s : State) (a : Nat) (b : List Byte) (k : Nat) : (s.writeMem a b).partOf k = s.partOf k := State.partOf_eq (by simp) k
@[simp] theorem State.diesOf_writeMem (s : State) (a : Nat) (b : List Byte) (k : Nat) : (s.writeMem a b).diesOf k = s.diesOf k := State.diesOf_eq (by simp) k
@[simp] theorem State.frameState_writeMem (s : State) (a : Nat) (b : List Byte) (k : Nat) : (s.writeMem a b).frameState k = s.frameState k := State.frameState_eq (by simp) k
@[simp] theorem State.activeBank_writeMem (s : State) (a : Nat) (b : List Byte) (k : Nat) : (s.writeMem a b).activeBank k = s.activeBank k := State.activeBank_eq (by simp) k
@[simp] theorem State.inFrame_writeMem (s : State) (a : Nat) (b : List Byte) (k : Nat) : (s.writeMem a b).inFrame k = s.inFrame k := State.inFrame_eq (by simp) k

@[simp] theorem State.die_raiseCmd (s : State) (cls code die unit idx kind value : Nat) (k : Nat) : (s.raiseCmd cls code die unit idx kind value).die k = s.die k := rfl

@[simp] theorem State.part_raiseCmd (s : State) (cls code die unit idx kind value : Nat) (k : Nat) : (s.raiseCmd cls code die unit idx kind value).part k = s.part k := rfl

@[simp] theorem State.abank_toCyc (s : State) (p c k : Nat) : (s.toCyc p c).abank k = s.abank k := by simp [State.abank, State.bank]

@[simp] theorem State.cmdAt_toCyc (s : State) (p c k i : Nat) : (s.toCyc p c).cmdAt k i = s.cmdAt k i := by simp [State.cmdAt]

/-- Time passing changes only a partition's count of time (R46). -/
theorem State.part_advanceNs (s : State) (d k : Nat) : (s.advanceNs d).part k = (s.part k).tickNs d := by
  unfold State.part
  split <;> rfl

theorem State.part_advanceCyc (s : State) (n k : Nat) : (s.advanceCyc n).part k = s.part k ∨ ∃ d, (s.advanceCyc n).part k = (s.part k).tickNs d := by
  unfold State.advanceCyc
  dsimp only
  split
  · exact .inl rfl
  · refine .inr ⟨(n * 100 + s.clk.nsRem) / s.aclk, ?_⟩
    unfold State.part
    split <;> rfl

@[simp] theorem State.part_advanceNs_t0 (s : State) (d k : Nat) : ((s.advanceNs d).part k).t0 = (s.part k).t0 := by rw [State.part_advanceNs]; rfl
@[simp] theorem State.part_toNs_t0 (s : State) (d k : Nat) : ((s.toNs d).part k).t0 = (s.part k).t0 := State.part_advanceNs_t0 s _ k
@[simp] theorem State.part_advanceCyc_t0 (s : State) (d k : Nat) : ((s.advanceCyc d).part k).t0 = (s.part k).t0 := by obtain h | ⟨_, h⟩ := s.part_advanceCyc d k <;> rw [h] <;> rfl
@[simp] theorem State.part_toCyc_t0 (s : State) (p d k : Nat) : ((s.toCyc p d).part k).t0 = (s.part k).t0 := State.part_advanceCyc_t0 s _ k
@[simp] theorem State.part_advanceNs_nextTick (s : State) (d k : Nat) : ((s.advanceNs d).part k).nextTick = (s.part k).nextTick := by rw [State.part_advanceNs]; rfl
@[simp] theorem State.part_toNs_nextTick (s : State) (d k : Nat) : ((s.toNs d).part k).nextTick = (s.part k).nextTick := State.part_advanceNs_nextTick s _ k
@[simp] theorem State.part_advanceCyc_nextTick (s : State) (d k : Nat) : ((s.advanceCyc d).part k).nextTick = (s.part k).nextTick := by obtain h | ⟨_, h⟩ := s.part_advanceCyc d k <;> rw [h] <;> rfl
@[simp] theorem State.part_toCyc_nextTick (s : State) (p d k : Nat) : ((s.toCyc p d).part k).nextTick = (s.part k).nextTick := State.part_advanceCyc_nextTick s _ k
@[simp] theorem State.part_advanceNs_issuing (s : State) (d k : Nat) : ((s.advanceNs d).part k).issuing = (s.part k).issuing := by rw [State.part_advanceNs]; rfl
@[simp] theorem State.part_toNs_issuing (s : State) (d k : Nat) : ((s.toNs d).part k).issuing = (s.part k).issuing := State.part_advanceNs_issuing s _ k
@[simp] theorem State.part_advanceCyc_issuing (s : State) (d k : Nat) : ((s.advanceCyc d).part k).issuing = (s.part k).issuing := by obtain h | ⟨_, h⟩ := s.part_advanceCyc d k <;> rw [h] <;> rfl
@[simp] theorem State.part_toCyc_issuing (s : State) (p d k : Nat) : ((s.toCyc p d).part k).issuing = (s.part k).issuing := State.part_advanceCyc_issuing s _ k
@[simp] theorem State.part_advanceNs_rootSeen (s : State) (d k : Nat) : ((s.advanceNs d).part k).rootSeen = (s.part k).rootSeen := by rw [State.part_advanceNs]; rfl
@[simp] theorem State.part_toNs_rootSeen (s : State) (d k : Nat) : ((s.toNs d).part k).rootSeen = (s.part k).rootSeen := State.part_advanceNs_rootSeen s _ k
@[simp] theorem State.part_advanceCyc_rootSeen (s : State) (d k : Nat) : ((s.advanceCyc d).part k).rootSeen = (s.part k).rootSeen := by obtain h | ⟨_, h⟩ := s.part_advanceCyc d k <;> rw [h] <;> rfl
@[simp] theorem State.part_toCyc_rootSeen (s : State) (p d k : Nat) : ((s.toCyc p d).part k).rootSeen = (s.part k).rootSeen := State.part_advanceCyc_rootSeen s _ k
@[simp] theorem State.part_advanceNs_lastIndex (s : State) (d k : Nat) : ((s.advanceNs d).part k).lastIndex = (s.part k).lastIndex := by rw [State.part_advanceNs]; rfl
@[simp] theorem State.part_toNs_lastIndex (s : State) (d k : Nat) : ((s.toNs d).part k).lastIndex = (s.part k).lastIndex := State.part_advanceNs_lastIndex s _ k
@[simp] theorem State.part_advanceCyc_lastIndex (s : State) (d k : Nat) : ((s.advanceCyc d).part k).lastIndex = (s.part k).lastIndex := by obtain h | ⟨_, h⟩ := s.part_advanceCyc d k <;> rw [h] <;> rfl
@[simp] theorem State.part_toCyc_lastIndex (s : State) (p d k : Nat) : ((s.toCyc p d).part k).lastIndex = (s.part k).lastIndex := State.part_advanceCyc_lastIndex s _ k
@[simp] theorem State.part_advanceNs_lastTickNs (s : State) (d k : Nat) : ((s.advanceNs d).part k).lastTickNs = (s.part k).lastTickNs := by rw [State.part_advanceNs]; rfl
@[simp] theorem State.part_toNs_lastTickNs (s : State) (d k : Nat) : ((s.toNs d).part k).lastTickNs = (s.part k).lastTickNs := State.part_advanceNs_lastTickNs s _ k
@[simp] theorem State.part_advanceCyc_lastTickNs (s : State) (d k : Nat) : ((s.advanceCyc d).part k).lastTickNs = (s.part k).lastTickNs := by obtain h | ⟨_, h⟩ := s.part_advanceCyc d k <;> rw [h] <;> rfl
@[simp] theorem State.part_toCyc_lastTickNs (s : State) (p d k : Nat) : ((s.toCyc p d).part k).lastTickNs = (s.part k).lastTickNs := State.part_advanceCyc_lastTickNs s _ k
@[simp] theorem State.part_advanceNs_timedOut (s : State) (d k : Nat) : ((s.advanceNs d).part k).timedOut = (s.part k).timedOut := by rw [State.part_advanceNs]; rfl
@[simp] theorem State.part_toNs_timedOut (s : State) (d k : Nat) : ((s.toNs d).part k).timedOut = (s.part k).timedOut := State.part_advanceNs_timedOut s _ k
@[simp] theorem State.part_advanceCyc_timedOut (s : State) (d k : Nat) : ((s.advanceCyc d).part k).timedOut = (s.part k).timedOut := by obtain h | ⟨_, h⟩ := s.part_advanceCyc d k <;> rw [h] <;> rfl
@[simp] theorem State.part_toCyc_timedOut (s : State) (p d k : Nat) : ((s.toCyc p d).part k).timedOut = (s.part k).timedOut := State.part_advanceCyc_timedOut s _ k
@[simp] theorem State.part_advanceNs_adj (s : State) (d k : Nat) : ((s.advanceNs d).part k).adj = (s.part k).adj := by rw [State.part_advanceNs]; rfl
@[simp] theorem State.part_toNs_adj (s : State) (d k : Nat) : ((s.toNs d).part k).adj = (s.part k).adj := State.part_advanceNs_adj s _ k
@[simp] theorem State.part_advanceCyc_adj (s : State) (d k : Nat) : ((s.advanceCyc d).part k).adj = (s.part k).adj := by obtain h | ⟨_, h⟩ := s.part_advanceCyc d k <;> rw [h] <;> rfl
@[simp] theorem State.part_toCyc_adj (s : State) (p d k : Nat) : ((s.toCyc p d).part k).adj = (s.part k).adj := State.part_advanceCyc_adj s _ k
@[simp] theorem State.part_advanceNs_refDiff (s : State) (d k : Nat) : ((s.advanceNs d).part k).refDiff = (s.part k).refDiff := by rw [State.part_advanceNs]; rfl
@[simp] theorem State.part_toNs_refDiff (s : State) (d k : Nat) : ((s.toNs d).part k).refDiff = (s.part k).refDiff := State.part_advanceNs_refDiff s _ k
@[simp] theorem State.part_advanceCyc_refDiff (s : State) (d k : Nat) : ((s.advanceCyc d).part k).refDiff = (s.part k).refDiff := by obtain h | ⟨_, h⟩ := s.part_advanceCyc d k <;> rw [h] <;> rfl
@[simp] theorem State.part_toCyc_refDiff (s : State) (p d k : Nat) : ((s.toCyc p d).part k).refDiff = (s.part k).refDiff := State.part_advanceCyc_refDiff s _ k
@[simp] theorem State.part_advanceNs_run0 (s : State) (d k : Nat) : ((s.advanceNs d).part k).run0 = (s.part k).run0 := by rw [State.part_advanceNs]; rfl
@[simp] theorem State.part_toNs_run0 (s : State) (d k : Nat) : ((s.toNs d).part k).run0 = (s.part k).run0 := State.part_advanceNs_run0 s _ k
@[simp] theorem State.part_advanceCyc_run0 (s : State) (d k : Nat) : ((s.advanceCyc d).part k).run0 = (s.part k).run0 := by obtain h | ⟨_, h⟩ := s.part_advanceCyc d k <;> rw [h] <;> rfl
@[simp] theorem State.part_toCyc_run0 (s : State) (p d k : Nat) : ((s.toCyc p d).part k).run0 = (s.part k).run0 := State.part_advanceCyc_run0 s _ k
@[simp] theorem State.part_advanceNs_lockRun (s : State) (d k : Nat) : ((s.advanceNs d).part k).lockRun = (s.part k).lockRun := by rw [State.part_advanceNs]; rfl
@[simp] theorem State.part_toNs_lockRun (s : State) (d k : Nat) : ((s.toNs d).part k).lockRun = (s.part k).lockRun := State.part_advanceNs_lockRun s _ k
@[simp] theorem State.part_advanceCyc_lockRun (s : State) (d k : Nat) : ((s.advanceCyc d).part k).lockRun = (s.part k).lockRun := by obtain h | ⟨_, h⟩ := s.part_advanceCyc d k <;> rw [h] <;> rfl
@[simp] theorem State.part_toCyc_lockRun (s : State) (p d k : Nat) : ((s.toCyc p d).part k).lockRun = (s.part k).lockRun := State.part_advanceCyc_lockRun s _ k
@[simp] theorem State.part_advanceNs_cycle0 (s : State) (d k : Nat) : ((s.advanceNs d).part k).cycle0 = (s.part k).cycle0 := by rw [State.part_advanceNs]; rfl
@[simp] theorem State.part_toNs_cycle0 (s : State) (d k : Nat) : ((s.toNs d).part k).cycle0 = (s.part k).cycle0 := State.part_advanceNs_cycle0 s _ k
@[simp] theorem State.part_advanceCyc_cycle0 (s : State) (d k : Nat) : ((s.advanceCyc d).part k).cycle0 = (s.part k).cycle0 := by obtain h | ⟨_, h⟩ := s.part_advanceCyc d k <;> rw [h] <;> rfl
@[simp] theorem State.part_toCyc_cycle0 (s : State) (p d k : Nat) : ((s.toCyc p d).part k).cycle0 = (s.part k).cycle0 := State.part_advanceCyc_cycle0 s _ k
@[simp] theorem State.part_advanceNs_len (s : State) (d k : Nat) : ((s.advanceNs d).part k).len = (s.part k).len := by rw [State.part_advanceNs]; rfl
@[simp] theorem State.part_toNs_len (s : State) (d k : Nat) : ((s.toNs d).part k).len = (s.part k).len := State.part_advanceNs_len s _ k
@[simp] theorem State.part_advanceCyc_len (s : State) (d k : Nat) : ((s.advanceCyc d).part k).len = (s.part k).len := by obtain h | ⟨_, h⟩ := s.part_advanceCyc d k <;> rw [h] <;> rfl
@[simp] theorem State.part_toCyc_len (s : State) (p d k : Nat) : ((s.toCyc p d).part k).len = (s.part k).len := State.part_advanceCyc_len s _ k
@[simp] theorem State.part_advanceNs_dark (s : State) (d k : Nat) : ((s.advanceNs d).part k).dark = (s.part k).dark := by rw [State.part_advanceNs]; rfl
@[simp] theorem State.part_toNs_dark (s : State) (d k : Nat) : ((s.toNs d).part k).dark = (s.part k).dark := State.part_advanceNs_dark s _ k
@[simp] theorem State.part_advanceCyc_dark (s : State) (d k : Nat) : ((s.advanceCyc d).part k).dark = (s.part k).dark := by obtain h | ⟨_, h⟩ := s.part_advanceCyc d k <;> rw [h] <;> rfl
@[simp] theorem State.part_toCyc_dark (s : State) (p d k : Nat) : ((s.toCyc p d).part k).dark = (s.part k).dark := State.part_advanceCyc_dark s _ k
@[simp] theorem State.part_advanceNs_ticks (s : State) (d k : Nat) : ((s.advanceNs d).part k).ticks = (s.part k).ticks := by rw [State.part_advanceNs]; rfl
@[simp] theorem State.part_toNs_ticks (s : State) (d k : Nat) : ((s.toNs d).part k).ticks = (s.part k).ticks := State.part_advanceNs_ticks s _ k
@[simp] theorem State.part_advanceCyc_ticks (s : State) (d k : Nat) : ((s.advanceCyc d).part k).ticks = (s.part k).ticks := by obtain h | ⟨_, h⟩ := s.part_advanceCyc d k <;> rw [h] <;> rfl
@[simp] theorem State.part_toCyc_ticks (s : State) (p d k : Nat) : ((s.toCyc p d).part k).ticks = (s.part k).ticks := State.part_advanceCyc_ticks s _ k
@[simp] theorem State.part_advanceNs_startAt (s : State) (d k : Nat) : ((s.advanceNs d).part k).startAt = (s.part k).startAt := by rw [State.part_advanceNs]; rfl
@[simp] theorem State.part_toNs_startAt (s : State) (d k : Nat) : ((s.toNs d).part k).startAt = (s.part k).startAt := State.part_advanceNs_startAt s _ k
@[simp] theorem State.part_advanceCyc_startAt (s : State) (d k : Nat) : ((s.advanceCyc d).part k).startAt = (s.part k).startAt := by obtain h | ⟨_, h⟩ := s.part_advanceCyc d k <;> rw [h] <;> rfl
@[simp] theorem State.part_toCyc_startAt (s : State) (p d k : Nat) : ((s.toCyc p d).part k).startAt = (s.part k).startAt := State.part_advanceCyc_startAt s _ k
@[simp] theorem State.part_advanceNs_late (s : State) (d k : Nat) : ((s.advanceNs d).part k).late = (s.part k).late := by rw [State.part_advanceNs]; rfl
@[simp] theorem State.part_toNs_late (s : State) (d k : Nat) : ((s.toNs d).part k).late = (s.part k).late := State.part_advanceNs_late s _ k
@[simp] theorem State.part_advanceCyc_late (s : State) (d k : Nat) : ((s.advanceCyc d).part k).late = (s.part k).late := by obtain h | ⟨_, h⟩ := s.part_advanceCyc d k <;> rw [h] <;> rfl
@[simp] theorem State.part_toCyc_late (s : State) (p d k : Nat) : ((s.toCyc p d).part k).late = (s.part k).late := State.part_advanceCyc_late s _ k
@[simp] theorem State.part_advanceNs_held (s : State) (d k : Nat) : ((s.advanceNs d).part k).held = (s.part k).held := by rw [State.part_advanceNs]; rfl
@[simp] theorem State.part_toNs_held (s : State) (d k : Nat) : ((s.toNs d).part k).held = (s.part k).held := State.part_advanceNs_held s _ k
@[simp] theorem State.part_advanceCyc_held (s : State) (d k : Nat) : ((s.advanceCyc d).part k).held = (s.part k).held := by obtain h | ⟨_, h⟩ := s.part_advanceCyc d k <;> rw [h] <;> rfl
@[simp] theorem State.part_toCyc_held (s : State) (p d k : Nat) : ((s.toCyc p d).part k).held = (s.part k).held := State.part_advanceCyc_held s _ k
@[simp] theorem State.part_advanceNs_jobStepSet (s : State) (d k : Nat) : ((s.advanceNs d).part k).jobStepSet = (s.part k).jobStepSet := by rw [State.part_advanceNs]; rfl
@[simp] theorem State.part_toNs_jobStepSet (s : State) (d k : Nat) : ((s.toNs d).part k).jobStepSet = (s.part k).jobStepSet := State.part_advanceNs_jobStepSet s _ k
@[simp] theorem State.part_advanceCyc_jobStepSet (s : State) (d k : Nat) : ((s.advanceCyc d).part k).jobStepSet = (s.part k).jobStepSet := by obtain h | ⟨_, h⟩ := s.part_advanceCyc d k <;> rw [h] <;> rfl
@[simp] theorem State.part_toCyc_jobStepSet (s : State) (p d k : Nat) : ((s.toCyc p d).part k).jobStepSet = (s.part k).jobStepSet := State.part_advanceCyc_jobStepSet s _ k
@[simp] theorem State.part_advanceNs_first (s : State) (d k : Nat) : ((s.advanceNs d).part k).first = (s.part k).first := by rw [State.part_advanceNs]; rfl
@[simp] theorem State.part_toNs_first (s : State) (d k : Nat) : ((s.toNs d).part k).first = (s.part k).first := State.part_advanceNs_first s _ k
@[simp] theorem State.part_advanceCyc_first (s : State) (d k : Nat) : ((s.advanceCyc d).part k).first = (s.part k).first := by obtain h | ⟨_, h⟩ := s.part_advanceCyc d k <;> rw [h] <;> rfl
@[simp] theorem State.part_toCyc_first (s : State) (p d k : Nat) : ((s.toCyc p d).part k).first = (s.part k).first := State.part_advanceCyc_first s _ k
@[simp] theorem State.part_advanceNs_rerunArmed (s : State) (d k : Nat) : ((s.advanceNs d).part k).rerunArmed = (s.part k).rerunArmed := by rw [State.part_advanceNs]; rfl
@[simp] theorem State.part_toNs_rerunArmed (s : State) (d k : Nat) : ((s.toNs d).part k).rerunArmed = (s.part k).rerunArmed := State.part_advanceNs_rerunArmed s _ k
@[simp] theorem State.part_advanceCyc_rerunArmed (s : State) (d k : Nat) : ((s.advanceCyc d).part k).rerunArmed = (s.part k).rerunArmed := by obtain h | ⟨_, h⟩ := s.part_advanceCyc d k <;> rw [h] <;> rfl
@[simp] theorem State.part_toCyc_rerunArmed (s : State) (p d k : Nat) : ((s.toCyc p d).part k).rerunArmed = (s.part k).rerunArmed := State.part_advanceCyc_rerunArmed s _ k
@[simp] theorem State.part_advanceNs_rerun (s : State) (d k : Nat) : ((s.advanceNs d).part k).rerun = (s.part k).rerun := by rw [State.part_advanceNs]; rfl
@[simp] theorem State.part_toNs_rerun (s : State) (d k : Nat) : ((s.toNs d).part k).rerun = (s.part k).rerun := State.part_advanceNs_rerun s _ k
@[simp] theorem State.part_advanceCyc_rerun (s : State) (d k : Nat) : ((s.advanceCyc d).part k).rerun = (s.part k).rerun := by obtain h | ⟨_, h⟩ := s.part_advanceCyc d k <;> rw [h] <;> rfl
@[simp] theorem State.part_toCyc_rerun (s : State) (p d k : Nat) : ((s.toCyc p d).part k).rerun = (s.part k).rerun := State.part_advanceCyc_rerun s _ k
@[simp] theorem State.part_advanceNs_stopAfter (s : State) (d k : Nat) : ((s.advanceNs d).part k).stopAfter = (s.part k).stopAfter := by rw [State.part_advanceNs]; rfl
@[simp] theorem State.part_toNs_stopAfter (s : State) (d k : Nat) : ((s.toNs d).part k).stopAfter = (s.part k).stopAfter := State.part_advanceNs_stopAfter s _ k
@[simp] theorem State.part_advanceCyc_stopAfter (s : State) (d k : Nat) : ((s.advanceCyc d).part k).stopAfter = (s.part k).stopAfter := by obtain h | ⟨_, h⟩ := s.part_advanceCyc d k <;> rw [h] <;> rfl
@[simp] theorem State.part_toCyc_stopAfter (s : State) (p d k : Nat) : ((s.toCyc p d).part k).stopAfter = (s.part k).stopAfter := State.part_advanceCyc_stopAfter s _ k
@[simp] theorem State.part_advanceNs_abortAt (s : State) (d k : Nat) : ((s.advanceNs d).part k).abortAt = (s.part k).abortAt := by rw [State.part_advanceNs]; rfl
@[simp] theorem State.part_toNs_abortAt (s : State) (d k : Nat) : ((s.toNs d).part k).abortAt = (s.part k).abortAt := State.part_advanceNs_abortAt s _ k
@[simp] theorem State.part_advanceCyc_abortAt (s : State) (d k : Nat) : ((s.advanceCyc d).part k).abortAt = (s.part k).abortAt := by obtain h | ⟨_, h⟩ := s.part_advanceCyc d k <;> rw [h] <;> rfl
@[simp] theorem State.part_toCyc_abortAt (s : State) (p d k : Nat) : ((s.toCyc p d).part k).abortAt = (s.part k).abortAt := State.part_advanceCyc_abortAt s _ k
@[simp] theorem State.part_advanceNs_failedAt (s : State) (d k : Nat) : ((s.advanceNs d).part k).failedAt = (s.part k).failedAt := by rw [State.part_advanceNs]; rfl
@[simp] theorem State.part_toNs_failedAt (s : State) (d k : Nat) : ((s.toNs d).part k).failedAt = (s.part k).failedAt := State.part_advanceNs_failedAt s _ k
@[simp] theorem State.part_advanceCyc_failedAt (s : State) (d k : Nat) : ((s.advanceCyc d).part k).failedAt = (s.part k).failedAt := by obtain h | ⟨_, h⟩ := s.part_advanceCyc d k <;> rw [h] <;> rfl
@[simp] theorem State.part_toCyc_failedAt (s : State) (p d k : Nat) : ((s.toCyc p d).part k).failedAt = (s.part k).failedAt := State.part_advanceCyc_failedAt s _ k
@[simp] theorem State.part_advanceNs_failDie (s : State) (d k : Nat) : ((s.advanceNs d).part k).failDie = (s.part k).failDie := by rw [State.part_advanceNs]; rfl
@[simp] theorem State.part_toNs_failDie (s : State) (d k : Nat) : ((s.toNs d).part k).failDie = (s.part k).failDie := State.part_advanceNs_failDie s _ k
@[simp] theorem State.part_advanceCyc_failDie (s : State) (d k : Nat) : ((s.advanceCyc d).part k).failDie = (s.part k).failDie := by obtain h | ⟨_, h⟩ := s.part_advanceCyc d k <;> rw [h] <;> rfl
@[simp] theorem State.part_toCyc_failDie (s : State) (p d k : Nat) : ((s.toCyc p d).part k).failDie = (s.part k).failDie := State.part_advanceCyc_failDie s _ k
@[simp] theorem State.part_advanceNs_committed (s : State) (d k : Nat) : ((s.advanceNs d).part k).committed = (s.part k).committed := by rw [State.part_advanceNs]; rfl
@[simp] theorem State.part_toNs_committed (s : State) (d k : Nat) : ((s.toNs d).part k).committed = (s.part k).committed := State.part_advanceNs_committed s _ k
@[simp] theorem State.part_advanceCyc_committed (s : State) (d k : Nat) : ((s.advanceCyc d).part k).committed = (s.part k).committed := by obtain h | ⟨_, h⟩ := s.part_advanceCyc d k <;> rw [h] <;> rfl
@[simp] theorem State.part_toCyc_committed (s : State) (p d k : Nat) : ((s.toCyc p d).part k).committed = (s.part k).committed := State.part_advanceCyc_committed s _ k
@[simp] theorem State.part_advanceNs_overrunSeen (s : State) (d k : Nat) : ((s.advanceNs d).part k).overrunSeen = (s.part k).overrunSeen := by rw [State.part_advanceNs]; rfl
@[simp] theorem State.part_toNs_overrunSeen (s : State) (d k : Nat) : ((s.toNs d).part k).overrunSeen = (s.part k).overrunSeen := State.part_advanceNs_overrunSeen s _ k
@[simp] theorem State.part_advanceCyc_overrunSeen (s : State) (d k : Nat) : ((s.advanceCyc d).part k).overrunSeen = (s.part k).overrunSeen := by obtain h | ⟨_, h⟩ := s.part_advanceCyc d k <;> rw [h] <;> rfl
@[simp] theorem State.part_toCyc_overrunSeen (s : State) (p d k : Nat) : ((s.toCyc p d).part k).overrunSeen = (s.part k).overrunSeen := State.part_advanceCyc_overrunSeen s _ k
@[simp] theorem State.part_advanceNs_retrySeen (s : State) (d k : Nat) : ((s.advanceNs d).part k).retrySeen = (s.part k).retrySeen := by rw [State.part_advanceNs]; rfl
@[simp] theorem State.part_toNs_retrySeen (s : State) (d k : Nat) : ((s.toNs d).part k).retrySeen = (s.part k).retrySeen := State.part_advanceNs_retrySeen s _ k
@[simp] theorem State.part_advanceCyc_retrySeen (s : State) (d k : Nat) : ((s.advanceCyc d).part k).retrySeen = (s.part k).retrySeen := by obtain h | ⟨_, h⟩ := s.part_advanceCyc d k <;> rw [h] <;> rfl
@[simp] theorem State.part_toCyc_retrySeen (s : State) (p d k : Nat) : ((s.toCyc p d).part k).retrySeen = (s.part k).retrySeen := State.part_advanceCyc_retrySeen s _ k
@[simp] theorem State.part_advanceNs_slipSeen (s : State) (d k : Nat) : ((s.advanceNs d).part k).slipSeen = (s.part k).slipSeen := by rw [State.part_advanceNs]; rfl
@[simp] theorem State.part_toNs_slipSeen (s : State) (d k : Nat) : ((s.toNs d).part k).slipSeen = (s.part k).slipSeen := State.part_advanceNs_slipSeen s _ k
@[simp] theorem State.part_advanceCyc_slipSeen (s : State) (d k : Nat) : ((s.advanceCyc d).part k).slipSeen = (s.part k).slipSeen := by obtain h | ⟨_, h⟩ := s.part_advanceCyc d k <;> rw [h] <;> rfl
@[simp] theorem State.part_toCyc_slipSeen (s : State) (p d k : Nat) : ((s.toCyc p d).part k).slipSeen = (s.part k).slipSeen := State.part_advanceCyc_slipSeen s _ k
@[simp] theorem State.part_advanceNs_slip (s : State) (d k : Nat) : ((s.advanceNs d).part k).slip = (s.part k).slip := by rw [State.part_advanceNs]; rfl
@[simp] theorem State.part_toNs_slip (s : State) (d k : Nat) : ((s.toNs d).part k).slip = (s.part k).slip := State.part_advanceNs_slip s _ k
@[simp] theorem State.part_advanceCyc_slip (s : State) (d k : Nat) : ((s.advanceCyc d).part k).slip = (s.part k).slip := by obtain h | ⟨_, h⟩ := s.part_advanceCyc d k <;> rw [h] <;> rfl
@[simp] theorem State.part_toCyc_slip (s : State) (p d k : Nat) : ((s.toCyc p d).part k).slip = (s.part k).slip := State.part_advanceCyc_slip s _ k
@[simp] theorem State.part_advanceNs_outs (s : State) (d k : Nat) : ((s.advanceNs d).part k).outs = (s.part k).outs := by rw [State.part_advanceNs]; rfl
@[simp] theorem State.part_toNs_outs (s : State) (d k : Nat) : ((s.toNs d).part k).outs = (s.part k).outs := State.part_advanceNs_outs s _ k
@[simp] theorem State.part_advanceCyc_outs (s : State) (d k : Nat) : ((s.advanceCyc d).part k).outs = (s.part k).outs := by obtain h | ⟨_, h⟩ := s.part_advanceCyc d k <;> rw [h] <;> rfl
@[simp] theorem State.part_toCyc_outs (s : State) (p d k : Nat) : ((s.toCyc p d).part k).outs = (s.part k).outs := State.part_advanceCyc_outs s _ k
@[simp] theorem State.part_advanceNs_deps (s : State) (d k : Nat) : ((s.advanceNs d).part k).deps = (s.part k).deps := by rw [State.part_advanceNs]; rfl
@[simp] theorem State.part_toNs_deps (s : State) (d k : Nat) : ((s.toNs d).part k).deps = (s.part k).deps := State.part_advanceNs_deps s _ k
@[simp] theorem State.part_advanceCyc_deps (s : State) (d k : Nat) : ((s.advanceCyc d).part k).deps = (s.part k).deps := by obtain h | ⟨_, h⟩ := s.part_advanceCyc d k <;> rw [h] <;> rfl
@[simp] theorem State.part_toCyc_deps (s : State) (p d k : Nat) : ((s.toCyc p d).part k).deps = (s.part k).deps := State.part_advanceCyc_deps s _ k
@[simp] theorem State.part_advanceNs_depsIn (s : State) (d k : Nat) : ((s.advanceNs d).part k).depsIn = (s.part k).depsIn := by rw [State.part_advanceNs]; rfl
@[simp] theorem State.part_toNs_depsIn (s : State) (d k : Nat) : ((s.toNs d).part k).depsIn = (s.part k).depsIn := State.part_advanceNs_depsIn s _ k
@[simp] theorem State.part_advanceCyc_depsIn (s : State) (d k : Nat) : ((s.advanceCyc d).part k).depsIn = (s.part k).depsIn := by obtain h | ⟨_, h⟩ := s.part_advanceCyc d k <;> rw [h] <;> rfl
@[simp] theorem State.part_toCyc_depsIn (s : State) (p d k : Nat) : ((s.toCyc p d).part k).depsIn = (s.part k).depsIn := State.part_advanceCyc_depsIn s _ k
@[simp] theorem State.part_advanceNs_lateSeen (s : State) (d k : Nat) : ((s.advanceNs d).part k).lateSeen = (s.part k).lateSeen := by rw [State.part_advanceNs]; rfl
@[simp] theorem State.part_toNs_lateSeen (s : State) (d k : Nat) : ((s.toNs d).part k).lateSeen = (s.part k).lateSeen := State.part_advanceNs_lateSeen s _ k
@[simp] theorem State.part_advanceCyc_lateSeen (s : State) (d k : Nat) : ((s.advanceCyc d).part k).lateSeen = (s.part k).lateSeen := by obtain h | ⟨_, h⟩ := s.part_advanceCyc d k <;> rw [h] <;> rfl
@[simp] theorem State.part_toCyc_lateSeen (s : State) (p d k : Nat) : ((s.toCyc p d).part k).lateSeen = (s.part k).lateSeen := State.part_advanceCyc_lateSeen s _ k
@[simp] theorem State.part_advanceNs_doorbells (s : State) (d k : Nat) : ((s.advanceNs d).part k).doorbells = (s.part k).doorbells := by rw [State.part_advanceNs]; rfl
@[simp] theorem State.part_toNs_doorbells (s : State) (d k : Nat) : ((s.toNs d).part k).doorbells = (s.part k).doorbells := State.part_advanceNs_doorbells s _ k
@[simp] theorem State.part_advanceCyc_doorbells (s : State) (d k : Nat) : ((s.advanceCyc d).part k).doorbells = (s.part k).doorbells := by obtain h | ⟨_, h⟩ := s.part_advanceCyc d k <;> rw [h] <;> rfl
@[simp] theorem State.part_toCyc_doorbells (s : State) (p d k : Nat) : ((s.toCyc p d).part k).doorbells = (s.part k).doorbells := State.part_advanceCyc_doorbells s _ k
@[simp] theorem State.part_advanceNs_portsDone (s : State) (d k : Nat) : ((s.advanceNs d).part k).portsDone = (s.part k).portsDone := by rw [State.part_advanceNs]; rfl
@[simp] theorem State.part_toNs_portsDone (s : State) (d k : Nat) : ((s.toNs d).part k).portsDone = (s.part k).portsDone := State.part_advanceNs_portsDone s _ k
@[simp] theorem State.part_advanceCyc_portsDone (s : State) (d k : Nat) : ((s.advanceCyc d).part k).portsDone = (s.part k).portsDone := by obtain h | ⟨_, h⟩ := s.part_advanceCyc d k <;> rw [h] <;> rfl
@[simp] theorem State.part_toCyc_portsDone (s : State) (p d k : Nat) : ((s.toCyc p d).part k).portsDone = (s.part k).portsDone := State.part_advanceCyc_portsDone s _ k

end Sys2Proof.Machine
end

