-- ==== Sys2Proof/Laws/Way.lean ====
section
/-! SUPPORT. What the F-die's writes of T2 leave as it is: the way they took stays open. -/
namespace Sys2Proof.Machine

set_option Elab.async false

/-- `t` has the announced failures, the wait mark, the fuses, the owners of A-dies, the CSM and, but for the counters of T2 writes and of CSM bytes, the register fields of `s`. -/
structure State.SameWay (s t : State) : Prop where
  fails : t.fails = s.fails
  wait : t.fdieWait = s.fdieWait
  fused : t.fused = s.fused
  owner : t.owner = s.owner
  csm : t.csm = s.csm
  getF : ∀ f, f.key ≠ (F.CNT_COUNT 4 353).key → f.key ≠ (F.CNT_COUNT 5 401).key → t.getF f = s.getF f

theorem State.SameWay.refl (s : State) : s.SameWay s := ⟨rfl, rfl, rfl, rfl, rfl, fun _ _ _ => rfl⟩

theorem State.SameWay.trans {s t u : State} (a : s.SameWay t) (b : t.SameWay u) : s.SameWay u :=
  ⟨b.fails.trans a.fails, b.wait.trans a.wait, b.fused.trans a.fused, b.owner.trans a.owner, b.csm.trans a.csm, fun f h k => (b.getF f h k).trans (a.getF f h k)⟩

theorem State.sameWay_writeMem (s : State) (a : Nat) (l : List Byte) : s.SameWay (s.writeMem a l) := by
  induction l generalizing s a with
  | nil => exact .refl s
  | cons b r ih => exact .trans (t := s.setByte a b) ⟨rfl, rfl, rfl, rfl, rfl, fun _ _ _ => rfl⟩ (ih (s.setByte a b) (a + 1))

theorem State.sameWay_store (s : State) (a : Nat) (l : List Byte) : s.SameWay (s.store a l) :=
  (s.sameWay_writeMem a l).trans ⟨rfl, rfl, rfl, rfl, rfl, fun _ _ _ => rfl⟩

theorem State.sameWay_count (s : State) (n : Nat) : s.SameWay (s.count 4 353 n) :=
  ⟨rfl, rfl, rfl, rfl, rfl, fun f h _ => Sys2Proof.Assoc.get_put_ne s.fld (F.CNT_COUNT 4 353).key f.key _ _ _ h⟩

theorem State.sameWay_csmCount (s : State) (n : Nat) : s.SameWay (s.count 5 401 n) :=
  ⟨rfl, rfl, rfl, rfl, rfl, fun f _ h => Sys2Proof.Assoc.get_put_ne s.fld (F.CNT_COUNT 5 401).key f.key _ _ _ h⟩

/-- A flit from the F-die to the P-die at rest takes a slot and changes no field. -/
theorem State.takeLink_pf (s : State) (p req t : Nat) (h : s.atRest p = true) : ∃ c u, s.takeLink p 5 4 req t = (some c, u) ∧ s.SameWay u := by
  simp only [State.takeLink, h]
  exact ⟨_, _, rfl, ⟨rfl, rfl, rfl, rfl, rfl, fun _ _ _ => rfl⟩⟩

theorem State.atRest_sameWay {s t : State} (h : s.SameWay t) : t.atRest (t.partOf 0) = s.atRest (s.partOf 0) := by
  have ho : t.partOf 0 = s.partOf 0 := by simp only [State.partOf, h.owner]
  rw [ho]
  simp only [State.atRest, State.frameState]
  rw [h.getF]
  · show (0x3000070000 + s.partOf 0 * 0x100 + 0x48) * 64 + 0 ≠ (0x2000060000 + 8 * 353) * 64 + 0
    omega
  · show (0x3000070000 + s.partOf 0 * 0x100 + 0x48) * 64 + 0 ≠ (0x30000B0000 + 8 * 401) * 64 + 0
    omega

theorem State.aclk_sameWay {s t : State} (h : s.SameWay t) : t.aclk = s.aclk := by
  simp only [State.aclk, h.getF F.TH_STATUS_TRIPPED (by decide) (by decide), h.getF F.TH_STATUS_LEVEL (by decide) (by decide), h.fused]

/-- With no failure announced, a flit goes with the slot it takes. -/
theorem State.reach_pf (s : State) (req t : Nat) (h : s.atRest (s.partOf 0) = true) (hf : s.fails = []) : ∃ c u, s.reach 5 4 req t = (some c, u) ∧ s.SameWay u := by
  obtain ⟨c, u, hu, hw⟩ := s.takeLink_pf (s.partOf 0) req t h
  refine ⟨c + 24, u, ?_, hw⟩
  have hs : s.sendFlit (s.partOf 0) 5 4 req t = (some c, u) := by
    simp only [State.sendFlit, hu, hw.fails, hf]; rfl
  simp only [State.reach]
  rw [if_neg (by decide), show s.partOfUnit (linkCarrier 5 4).1 = s.partOf 0 from rfl, hs]

theorem rowOf_t2 {a : Nat} (h : 0x10000000000 ≤ a) (k : a < 0x30000000000) : rowOf a = some .t2 := by
  simp only [rowOf]; rw [if_neg (by omega), if_pos ⟨h, k⟩]

theorem State.tierOf_t2 (s : State) {a : Nat} (h : 0x10000000000 ≤ a) (k : a < 0x10000000000 + 32000000000) (hc : s.getF F.T2_CAP_GB_PER_CHANNEL = 1) : s.tierOf a = some .t2 := by
  simp only [State.tierOf, rowOf_t2 h (by omega), hc]
  rw [if_pos (by simp only [t2Base]; omega)]

theorem foldl_keeps {α β : Type} (P : β → Prop) (f : β → α → β) (l : List α) (b : β) (h0 : P b) (h : ∀ b x, x ∈ l → P b → P (f b x)) : P (l.foldl f b) := by
  induction l generalizing b with
  | nil => exact h0
  | cons x r ih => exact ih _ (h b x (by simp) h0) (fun b y hy => h b y (by simp [hy]))

theorem segs_bounds {k a n : Nat} {x : Nat × Nat} (hx : x ∈ segs k a n) : a ≤ x.1 ∧ x.1 < a + n := by
  simp only [segs] at hx
  split at hx
  · cases hx
  · rename_i hn
    simp only [List.mem_map, List.mem_range] at hx
    obtain ⟨i, hi, rfl⟩ := hx
    refine ⟨Nat.le_max_left _ _, ?_⟩
    have h0 : a / k ≤ (a + n - 1) / k := Nat.div_le_div_right (by omega)
    have h1 : (a / k + i) * k ≤ (a + n - 1) / k * k := Nat.mul_le_mul_right _ (by omega)
    have h2 : (a + n - 1) / k * k ≤ a + n - 1 := Nat.div_mul_le_self _ _
    show max a ((a / k + i) * k) < a + n
    exact Nat.max_lt.mpr ⟨by omega, by omega⟩

theorem flits_bounds {a n : Nat} (hn : a / 0x40000000 = (a + n - 1) / 0x40000000) {x : Nat × Nat} (hx : x ∈ flits a n) : a ≤ x.1 ∧ 0 < x.2 ∧ x.1 + x.2 ≤ a + n := by
  simp only [flits, List.mem_flatMap, List.mem_map, List.mem_range] at hx
  obtain ⟨y, hy, i, hi, rfl⟩ := hx
  simp only [segs] at hy
  split at hy
  · cases hy
  · rename_i h0
    have hz : (a + n - 1) / 0x40000000 - a / 0x40000000 + 1 = 1 := by omega
    rw [hz] at hy
    simp only [List.range_one, List.map_cons, List.map_nil, List.mem_singleton, Nat.add_zero] at hy
    have h1 : a / 0x40000000 * 0x40000000 ≤ a := Nat.div_mul_le_self _ _
    have hm : max a (a / 0x40000000 * 0x40000000) = a := Nat.max_eq_left h1
    rw [hm] at hy
    subst hy
    have h2 : a + n - 1 < ((a + n - 1) / 0x40000000 + 1) * 0x40000000 := by omega
    have h3 : min (a + n) ((a / 0x40000000 + 1) * 0x40000000) = a + n := Nat.min_eq_left (by omega)
    rw [h3] at hi
    simp only [h3, flitBytes, cdiv] at hi ⊢
    refine ⟨?_, ?_, ?_⟩ <;> omega

/-- The F-die writes T2 below 32 GB over an open link, in IDLE or STOPPED: nothing but memory and the counter of T2 writes changes. -/
theorem State.extWrite_t2 (s : State) (a : Nat) (b : List Byte) (h : 0x10000000000 ≤ a) (k : a + b.length ≤ 0x10000000000 + 32000000000) (hb : a / 0x40000000 = (a + b.length - 1) / 0x40000000)
    (hc : s.getF F.T2_CAP_GB_PER_CHANNEL = 1) (hf : s.fails = []) (hr : s.atRest (s.partOf 0) = true) (hu : s.linkUp 5 4 = true) (ha : s.aclk ≠ 0) :
    s.SameWay (s.extWrite 0xA0 a b).2 ∧ (s.rangeOk a b.length = true → (s.extWrite 0xA0 a b).1 = 0) := by
  have hway : s.extMay 0xA0 true a b.length = true := by
    simp only [State.extMay, List.all_eq_true]
    intro x hx
    have hx := segs_bounds hx
    have hrow := rowOf_t2 (a := x.1) (by omega) (by omega)
    have hh : homeOf x.1 = 4 := by simp only [homeOf, hrow]
    simp only [State.pieceMay, hh, hrow, State.dirOpen, show reqDie 0xA0 = 5 from rfl, show s.partOfUnit (linkCarrier 5 4).1 = s.partOf 0 from rfl, hr, hu]
    simp [ha]
  simp only [State.extWrite, hway]
  split
  · rename_i h0; exact ⟨.refl s, fun h1 => by simp [h1] at h0⟩
  · simp only [Bool.not_true, Bool.false_and, Bool.false_eq_true, if_false, if_true]
    have key := foldl_keeps (fun (acc : Nat × List (Nat × Byte) × State) => acc.1 = 0 ∧ s.SameWay acc.2.2)
      (fun (acc : Nat × List (Nat × Byte) × State) (f : Nat × Nat) =>
        if acc.1 ≠ 0 then acc
        else match acc.2.2.reachIf true (reqDie 0xA0) (homeOf f.1) 0xA0 (acc.2.2.nowAt (homeOf f.1)) with
          | (none, s) => (C.MOV_NO_SLOT, acc.2.1, s)
          | (some t, s) => s.extWriteFlit 0xA0 f.1 ((b.drop (f.1 - a)).take f.2) t (fun y => decide (a ≤ y) && decide (y < a + b.length)) acc.2.1) (flits a b.length) (0, [], s) ⟨rfl, .refl s⟩ (by
      intro acc x hx ⟨h0, hw⟩
      have hxb := flits_bounds hb hx
      have hrow := rowOf_t2 (a := x.1) (by omega) (by omega)
      have hh : homeOf x.1 = 4 := by simp only [homeOf, hrow]
      obtain ⟨c, u, hcu, hu'⟩ := acc.2.2.reach_pf 0xA0 (acc.2.2.nowAt 4) ((State.atRest_sameWay hw).trans hr) (hw.fails.trans hf)
      simp only [h0, ne_eq, not_true_eq_false, if_false, State.reachIf, if_true, hh, show reqDie 0xA0 = 5 from rfl, hcu, State.extWriteFlit]
      refine foldl_keeps (fun (r : Nat × List (Nat × Byte) × State) => r.1 = 0 ∧ s.SameWay r.2.2) _ _ _ ⟨rfl, hw.trans hu'⟩ ?_
      intro r y hy ⟨hr0, hr'⟩
      have hyb := segs_bounds hy
      have hl : ((b.drop (x.1 - a)).take x.2).length ≤ x.2 := by simp only [List.length_take]; omega
      have ht := r.2.2.tierOf_t2 (a := y.1) (by omega) (by omega) ((hr'.getF _ (by decide) (by decide)).trans hc)
      simp only [hr0, not_true_eq_false, if_false, State.extWritePiece, ht]
      exact ⟨trivial, hr'.trans ((State.sameWay_store _ _ _).trans (State.sameWay_count _ _))⟩)
    exact ⟨key.2, fun _ => key.1⟩

theorem State.linkUp_sameWay {s t : State} (h : s.SameWay t) : t.linkUp 5 4 = s.linkUp 5 4 := by
  simp only [State.linkUp, h.getF _ (show (F.SLINK_STATUS_UP 5 (linkAt 5 4)).key ≠ _ by decide) (by decide)]

/-- On an empty CSM no slot is committed. -/
theorem State.slotValid_empty (s : State) (p i : Nat) (h : s.csm = []) : s.slotValid p i = (false, s) := by
  have hz : s.csmLb (s.ckSlotLb p i) = zeroLb := by simp only [State.csmLb, h]; rfl
  have hn : s.slotSeq p i = none := by
    simp only [State.slotSeq, hz]
    rw [if_neg (by intro k; exact k.1 (by decide +kernel))]
  simp only [State.slotValid, hn]; rfl

theorem State.csmRead_length (s : State) (lb n : Nat) (h : s.csm = []) : (s.csmRead lb n).length = 4096 * n := by
  simp only [State.csmRead, State.csmLb, h]
  simp only [show ∀ x, Assoc.get ([] : Assoc (List Byte)) x zeroLb = zeroLb from fun _ => rfl]
  induction n with
  | zero => rfl
  | succ n ih =>
    rw [List.range_succ, List.flatMap_append, List.length_append, ih]
    simp only [List.flatMap_cons, List.flatMap_nil, List.append_nil, show zeroLb.length = 4096 from List.length_replicate ..]
    omega

@[simp] theorem State.ticketDone_fdieWait (s : State) (t : Ticket) (code : Nat) : (s.ticketDone t code).fdieWait = s.fdieWait := by
  have h : ∀ u : State, u.tellerView.fdieWait = u.fdieWait := fun u => by simp [State.tellerView, State.setFs]
  simp only [State.ticketDone, h, State.alert]
  split <;> simp [State.endTicket]

/-- What `State.extWrite_t2` asks of a state, with an empty CSM. -/
structure State.T2Open (s : State) : Prop where
  cap : s.getF F.T2_CAP_GB_PER_CHANNEL = 1
  fails : s.fails = []
  rest : s.atRest (s.partOf 0) = true
  up : s.linkUp 5 4 = true
  clock : s.aclk ≠ 0
  csm : s.csm = []

theorem State.T2Open.sameWay {s t : State} (h : s.T2Open) (k : s.SameWay t) : t.T2Open :=
  ⟨(k.getF _ (by decide) (by decide)).trans h.cap, k.fails.trans h.fails, (State.atRest_sameWay k).trans h.rest, (State.linkUp_sameWay k).trans h.up,
    by rw [State.aclk_sameWay k]; exact h.clock, k.csm.trans h.csm⟩

theorem State.T2Open.write {s t : State} (h : s.T2Open) (k : s.SameWay t) (a : Nat) (b : List Byte) (h1 : 0x10000000000 ≤ a) (h2 : a + b.length ≤ 0x10000000000 + 32000000000)
    (h3 : a / 0x40000000 = (a + b.length - 1) / 0x40000000) : s.SameWay (t.extWrite 0xA0 a b).2 :=
  have o := h.sameWay k
  k.trans (t.extWrite_t2 a b h1 h2 h3 o.cap o.fails o.rest o.up o.clock).1

theorem leBytes_length (n v : Nat) : (leBytes n v).length = n := by
  induction n generalizing v with
  | zero => rfl
  | succ n ih => rw [leBytes, List.length_cons, ih]

theorem doCkptScan_fdieWait (p a : Nat) (s : State) (h0 : s.getF (F.CKPT_LIST_ADDR p) = a) (h1 : s.getF (F.CKPT_STATUS_BUSY p) ≠ 1) (h2 : a % 4096 = 0) (h3 : s.inPart p a 4194304 = true)
    (h4 : (s.ckBegin p 2).csmOk ((s.ckBegin p 2).ckSlotLb p 0) 1024 = true) (ha : 0x10000000000 ≤ a) (hb : a + 4194304 ≤ 0x10000000000 + 0x40000000) (o : (s.ckBegin p 2).T2Open) :
    (doCkptScan p s).fdieWait = (s.ckBegin p 2).fdieWait := by
  have e : doCkptScan p s = ((List.range 4).foldl (fun (s : State) (i : Nat) =>
        let seq := s.slotSeq p i
        let (v, s) := s.slotValid p i
        let rep := leBytes 8 (fieldAt (s.csmLb (s.ckSlotLb p i)) 0 8) ++ leBytes 1 (b2n seq.isSome + 2 * b2n v) ++ List.replicate 55 0
        let s := (s.extWrite 0xA0 (a + i * 0x100000) rep).2
        ((s.extWrite 0xA0 (a + i * 0x100000 + 4096) (s.csmRead (s.ckSlotLb p i + 1) 255)).2).count 5 401 (256 * 4096)) (s.ckBegin p 2)).answer 0 0 := by
    subst h0
    unfold doCkptScan
    dsimp only
    rw [if_neg h1, if_neg (by rintro (k | k); exact k h2; rw [h3] at k; cases k), if_neg (by rw [h4]; decide)]
  rw [e, State.answer_fdieWait]
  refine (foldl_keeps (fun t => (s.ckBegin p 2).SameWay t) _ _ _ (.refl _) ?_).wait
  intro t i hi ht
  have hi := List.mem_range.mp hi
  dsimp only
  rw [t.slotValid_empty p i (o.sameWay ht).csm]
  dsimp only
  have w1 := o.write ht (a + i * 0x100000) (leBytes 8 (fieldAt (t.csmLb (t.ckSlotLb p i)) 0 8) ++ leBytes 1 (b2n (t.slotSeq p i).isSome + 2 * b2n false) ++ List.replicate 55 0)
    (by omega) (by rw [List.length_append, List.length_append, leBytes_length, leBytes_length, List.length_replicate]; omega)
    (by rw [List.length_append, List.length_append, leBytes_length, leBytes_length, List.length_replicate]; omega)
  refine State.SameWay.trans ?_ (State.sameWay_csmCount _ _)
  exact o.write w1 _ _ (by omega) (by rw [State.csmRead_length _ _ _ (o.sameWay w1).csm]; omega) (by rw [State.csmRead_length _ _ _ (o.sameWay w1).csm]; omega)

theorem State.emit_fdieWait (s : State) (k : Packet) : (s.emit k).fdieWait = s.fdieWait := by
  simp only [State.emit, State.sendOn]
  split <;> simp

theorem State.newTx_fdieWait (s : State) (part dst op vc group region key : Nat) (addrs : List (Nat × List Byte)) (org : Origin) :
    (s.newTx part dst op vc group region key addrs org).fdieWait = s.fdieWait := by
  simp only [State.newTx, State.launch, State.updTx]
  split
  · exact foldl_keeps (fun t : State => t.fdieWait = s.fdieWait) _ _ _ rfl fun t k _ h => (t.emit_fdieWait k).trans h
  · rfl

theorem State.ckSend_fdieWait (s : State) (p : Nat) (c : CkChunk) (b : List Byte) : (s.ckSend p c b).fdieWait = s.fdieWait := by
  simp only [State.ckSend]
  refine foldl_keeps (fun t : State => t.fdieWait = s.fdieWait) _ _ _ ?_ fun t k _ h => (State.newTx_fdieWait ..).trans h
  simp [State.updCk]

theorem State.csmWrite_fdieWait (s : State) (lb : Nat) (b : List Byte) : (s.csmWrite lb b).2.fdieWait = s.fdieWait := by
  simp only [State.csmWrite]
  split
  · rw [State.count_fdieWait]
    exact foldl_keeps (fun t : State => t.fdieWait = s.fdieWait) _ _ _ rfl fun t k _ h => h
  · rfl

/-- A DATA chunk that is not its entry's last waits only for the read of its blocks. -/
theorem doMirrorChunkSend_fdieWait (p : Nat) (x : CkChunk) (l : List CkChunk) (b : List Byte) (s u : State) (h0 : (s.ck p).op = 1) (h1 : (s.ck p).todo = x :: l) (h2 : x.kind = 1)
    (h3 : l.any (fun y => y.kind == 1 && y.entry == x.entry) = true)
    (h4 : (s.setF (F.CKPT_STATUS_ENTRY p) x.entry).recordPart ((s.ck p).entries.getD x.entry []) (x.target - (recordStarts (s.ck p).entries).getD x.entry 0) x.lbs = (0, b, u))
    (h5 : (u.csmWrite (u.ckAreaLb p (s.ck p).slot + x.target) b).1 = true) (h6 : u.fdieWait = s.fdieWait) : (doMirrorChunkSend p s).fdieWait = s.fdieWait := by
  have hw := (State.csmWrite_fdieWait u (u.ckAreaLb p (s.ck p).slot + x.target) b).trans h6
  simp only [doMirrorChunkSend, h0, h1, h2, h3, h4, if_true]
  split
  · rfl
  · simp only [Nat.one_ne_zero, if_false, ne_eq, not_true_eq_false, h5, Bool.not_true, Bool.false_eq_true]
    split <;> simpa [State.ckFeed, State.ckSend_fdieWait] using hw

theorem doCalExportDone_t2 (s : State) (t : Ticket) (h0 : s.ticketOf 3 = some t) (h1 : s.svc.cal ≠ []) (ha : 0x10000000000 ≤ t.a) (hb : t.a + 65536 ≤ 0x10000000000 + 0x40000000)
    (hr : s.rangeOk t.a 65536 = true) (o : s.T2Open) : (doCalExportDone s).fdieWait = s.fdieWait ∧ (s.extWrite 0xA0 t.a (slice s.svc.cal 0 65536)).1 = 0 := by
  have hl : (slice s.svc.cal 0 65536).length = 65536 := by simp only [slice, List.length_append, List.length_replicate, List.length_take, List.length_drop]; omega
  have h := s.extWrite_t2 t.a (slice s.svc.cal 0 65536) ha (by omega) (by omega) o.cap o.fails o.rest o.up o.clock
  refine ⟨?_, h.2 (by rw [hl]; exact hr)⟩
  have e : doCalExportDone s = (s.extWrite 0xA0 t.a (slice s.svc.cal 0 65536)).2.ticketDone t (s.extWrite 0xA0 t.a (slice s.svc.cal 0 65536)).1 := by
    unfold doCalExportDone
    rw [h0]
    dsimp only
    rw [if_neg h1]
  rw [e, State.ticketDone_fdieWait]
  exact h.1.wait

end Sys2Proof.Machine
end

