-- ==== Sys2Proof/WellFormed.lean ====
section
/-! DEFINITION. Which command terms are well-formed: every operand within the width its rule gives it. -/
namespace Sys2Proof

/-- A packet whose header fields fit their widths and whose payload is at most 1,024 bytes (R392). -/
def Packet.wf (k : Packet) : Bool :=
  decide (k.dst < 2 ^ 28) && decide (k.src < 2 ^ 28) && decide (k.op < 256) && decide (k.level < 4) && decide (k.group < 256)
    && decide (k.seq < 2 ^ 32) && decide (k.pkt < 256) && decide (k.npkt ≤ 256) && decide (k.region < 4096) && decide (k.addr < 2 ^ 52)
    && decide (k.key < 2 ^ 64) && decide (k.step < 2 ^ 32) && decide (k.hcrc < 2 ^ 32) && decide (k.pcrc < 2 ^ 32) && decide (k.payload.length ≤ 1024)

/-- A Teller message whose fields fit their widths (R555). -/
def TellerReq.wf (r : TellerReq) : Bool :=
  decide (r.op < 2 ^ 16) && decide (r.host < 2 ^ 16) && decide (r.session < 2 ^ 32) && decide (r.counter < 2 ^ 64) && decide (r.payload.length ≤ 32768)

/-- A command index (R221). -/
def idxOk (i : Nat) : Bool := decide (i < 8192)

/-- The operand of a ledger instruction: its format code has 4 bits (R97). -/
def LedgerSrc.wf (x : LedgerSrc) : Bool := decide (x.fmt < 16)

/-- Well-formed commands. -/
def Instr.wf : Instr → Bool
  | .registerWrite a n _ => decide (a < 2 ^ 40) && decide (n ≤ 8)
  | .thermalSample t => t.length == 16 && t.all (fun x => decide (-128 ≤ x) && decide (x ≤ 127))
  | .commandStart _ i | .commandComplete _ i _ | .nop _ i | .fence _ i | .signal _ i | .trigger _ i | .qswitch _ i | .stepval _ i | .qload _ i
  | .mxa _ i _ | .mxaNtileStart _ i _ | .sxe _ i | .move _ i => idxOk i
  | .linkReplay _ _ r _ n => decide (r < 256) && decide (1 ≤ n)
  | .moverRetransmit r _ _ n => decide (r < 256) && decide (1 ≤ n)
  | .coreClockStep t => !t.isEmpty && t.all (fun x => decide (-128 ≤ x) && decide (x ≤ 127))
  | .sveProblemStart e | .coreEntryStart ⟨e, _⟩ | .pmovEntryStart e => decide (e < 256)
  | .tickReceive _ port index root hops _ => decide (port < 32) && decide (index < 2 ^ 32) && decide (root < 2 ^ 64) && decide (hops < 256)
  | .sxeAcfWaitEnd _ e => decide (e < 4096)
  | .lga32 _ a x | .lgw1 _ a x | .lgw2 _ a x => decide (a < 2 ^ 52) && x.wf
  | .lgwph _ a | .lgrd _ a _ _ => decide (a < 2 ^ 52)
  | .exchangeStoreAccess _ _ _ v n => decide (1 ≤ n) && decide (n ≤ 64) && decide (v < 2 ^ (8 * n))
  | .fabRetransmit d vc q => decide (d < 2 ^ 28) && decide (vc < 8) && decide (q < 2 ^ 32)
  | .nicDoorbell _ _ v | .totDoorbellIncrement _ _ v => decide (v < 2 ^ 64)
  | .bcastChildTimeout g q _ | .collectiveComplete g q => decide (g < 64) && decide (q < 2 ^ 32)
  | .reSlotSpare bulk n => decide (n < if bulk then 256 else 4096)
  | .ckptMirrorWrite _ off _ => off == 0x20 || off == 0x30
  | .tbProbeTimeout i => decide (i < 16)
  | .tbMeasureDone l => l.length == 16
  | .journalAlert i => decide (i < 2 ^ 32)
  | .sbyokRise x => decide (x < 8)
  | .drBegin b => b.length == 4699
  | .drData _ b => decide (b.length ≤ 8056)
  | .lscResponse b => b.length == 8
  | .adderWrite r a d => decide (r < 256) && decide (a + d.length ≤ 2 ^ 52)
  | .adderRead r a n => decide (r < 256) && decide (a + n ≤ 2 ^ 52)
  | .t1EccReread r a _ k _ => decide (r < 256) && decide (a < 2 ^ 52) && decide (1 ≤ k) && decide (k ≤ 3)
  | .fabWritePacket k | .fabReadPacket k | .fabReadResp k | .fabAddPacket k | .fabCasPacket k | .fabFaddPacket k | .fabAtomicResp k | .fabAck k
  | .fabNack k | .fabAcquire k | .fabRelease k | .fabTokenResp k | .fabBulk k | .fabBulkResp k | .fabMgmt k | .fabReservedOp k | .colUp k
  | .colDown k | .colCredit k | .bcastAck k => k.wf
  | .fabPacketForward _ k => k.wf
  | .sessionInit r | .sessionFinish r | .sessionClose r | .ideStart r | .tellerRead r | .tellerWrite r | .tellerCritical r | .tellerIdentity r
  | .attest r | .tellerTicket r | .jobKeygen r | .jobKeylist r | .nvmUpdate r | .svnAdvance r | .tellerReset r | .spareApply r | .sparePolicy r
  | .calWrite r | .calExport r | .selftest r | .rbFlush r | .tellerUnlistedOp r => r.wf
  | _ => true

end Sys2Proof
end

