-- ==== Sys2Proof/Tests/Slice0.lean ====
section
/-! SUPPORT. Tests: ill-formed commands refused, and a witness for the hypotheses of each statement. -/
namespace Sys2Proof.Machine

set_option Elab.async false

/-! Ill-formed commands are refused. -/

/-- A packet with every field in its range. -/
def okPkt : Packet := ⟨3, 1, 7, 1, 2, 1, false, 0xFF, 0, 0, 1, 5, 0x10000000000, 9, 0, 0, 0, []⟩

/-- A Teller message with every field in its range. -/
def okReq : TellerReq := ⟨0, 0, 3, 0, 5, 1, [], []⟩

theorem test_wf_accepts : (Instr.fabWritePacket okPkt).wf = true ∧ (Instr.sessionClose okReq).wf = true ∧ (Instr.nop 0 8191).wf = true ∧
    (Instr.thermalSample (List.replicate 16 (-40))).wf = true ∧ (Instr.lga32 0 0 ⟨false, false, 0, none, 15⟩).wf = true := by decide

theorem test_wf_register_write : (Instr.registerWrite (2 ^ 40) 8 0).wf = false ∧ (Instr.registerWrite 0 9 0).wf = false := by decide

theorem test_wf_thermal : (Instr.thermalSample (List.replicate 15 0)).wf = false ∧ (Instr.thermalSample (128 :: List.replicate 15 0)).wf = false ∧
    (Instr.thermalSample (-129 :: List.replicate 15 0)).wf = false ∧ (Instr.coreClockStep []).wf = false ∧ (Instr.coreClockStep [128]).wf = false := by decide

theorem test_wf_indices : (Instr.nop 0 8192).wf = false ∧ (Instr.move 0 8192).wf = false ∧ (Instr.linkReplay 0 0 256 0 1).wf = false ∧ (Instr.linkReplay 0 0 0 0 0).wf = false ∧ (Instr.moverRetransmit 256 0 0 1).wf = false ∧
    (Instr.moverRetransmit 0 0 0 0).wf = false ∧ (Instr.coreEntryStart ⟨256, []⟩).wf = false ∧
    (Instr.sxeAcfWaitEnd 0 4096).wf = false ∧ (Instr.reSlotSpare true 256).wf = false ∧ (Instr.reSlotSpare false 4096).wf = false ∧ (Instr.tbProbeTimeout 16).wf = false ∧
    (Instr.journalAlert (2 ^ 32)).wf = false := by decide

theorem test_wf_addresses : (Instr.adderWrite 256 0 []).wf = false ∧ (Instr.adderWrite 0 (2 ^ 52) [0]).wf = false ∧ (Instr.adderRead 256 0 1).wf = false ∧ (Instr.adderRead 0 (2 ^ 52) 1).wf = false ∧
    (Instr.t1EccReread 256 0 0 1 false).wf = false ∧ (Instr.t1EccReread 0 (2 ^ 52) 0 1 false).wf = false ∧ (Instr.t1EccReread 0 0 0 4 false).wf = false ∧ (Instr.t1EccReread 0 0 0 0 true).wf = false ∧ (Instr.lgwph 0 (2 ^ 52)).wf = false ∧
    (Instr.lgrd 0 (2 ^ 52) true 0).wf = false := by decide

theorem test_wf_ledger : (Instr.lga32 0 (2 ^ 52) ⟨false, false, 0, none, 0⟩).wf = false ∧ (Instr.lgw1 0 0 ⟨false, false, 0, none, 16⟩).wf = false := by decide

theorem test_wf_exchange : (Instr.exchangeStoreAccess 0 true 0 0 0).wf = false ∧ (Instr.exchangeStoreAccess 0 true 0 0 65).wf = false ∧ (Instr.exchangeStoreAccess 0 true 0 256 1).wf = false := by decide

theorem test_wf_packet : (Instr.fabWritePacket { okPkt with dst := 2 ^ 28 }).wf = false ∧ (Instr.fabReadPacket { okPkt with src := 2 ^ 28 }).wf = false ∧ (Instr.fabAck { okPkt with op := 256 }).wf = false ∧
    (Instr.fabAck { okPkt with level := 4 }).wf = false ∧ (Instr.colUp { okPkt with group := 256 }).wf = false ∧ (Instr.fabAck { okPkt with seq := 2 ^ 32 }).wf = false ∧
    (Instr.fabAck { okPkt with pkt := 256 }).wf = false ∧ (Instr.fabAck { okPkt with npkt := 257 }).wf = false ∧ (Instr.fabAck { okPkt with region := 4096 }).wf = false ∧
    (Instr.fabAck { okPkt with addr := 2 ^ 52 }).wf = false ∧ (Instr.fabAck { okPkt with key := 2 ^ 64 }).wf = false ∧ (Instr.fabAck { okPkt with step := 2 ^ 32 }).wf = false ∧
    (Instr.fabPacketForward 0 { okPkt with dst := 2 ^ 28 }).wf = false := by decide

theorem test_wf_payload : (Instr.fabWritePacket { okPkt with payload := List.replicate 1025 0 }).wf = false ∧ (Instr.tellerRead { okReq with payload := List.replicate 32769 0 }).wf = false := by
  simp only [Instr.wf, Packet.wf, TellerReq.wf, List.length_replicate]; decide

theorem test_wf_request : (Instr.attest { okReq with op := 2 ^ 16 }).wf = false ∧ (Instr.attest { okReq with host := 2 ^ 16 }).wf = false ∧ (Instr.attest { okReq with session := 2 ^ 32 }).wf = false ∧
    (Instr.attest { okReq with counter := 2 ^ 64 }).wf = false := by decide

theorem test_wf_ticks : (Instr.tickReceive 0 32 0 0 0 0).wf = false ∧ (Instr.tickReceive 0 0 (2 ^ 32) 0 0 0).wf = false ∧ (Instr.tickReceive 0 0 0 (2 ^ 64) 0 0).wf = false ∧ (Instr.tickReceive 0 0 0 0 256 0).wf = false := by decide

theorem test_wf_fabric : (Instr.fabRetransmit (2 ^ 28) 0 0).wf = false ∧ (Instr.fabRetransmit 0 8 0).wf = false ∧ (Instr.fabRetransmit 0 0 (2 ^ 32)).wf = false ∧ (Instr.nicDoorbell 0 0 (2 ^ 64)).wf = false ∧
    (Instr.totDoorbellIncrement 0 0 (2 ^ 64)).wf = false ∧ (Instr.collectiveComplete 64 0).wf = false ∧ (Instr.bcastChildTimeout 0 (2 ^ 32) 0).wf = false ∧ (Instr.ckptMirrorWrite 0 0x28 0).wf = false := by decide

theorem test_wf_lengths : (Instr.tbMeasureDone []).wf = false ∧ (Instr.sbyokRise 8).wf = false ∧ (Instr.drBegin []).wf = false ∧ (Instr.lscResponse []).wf = false := by decide

theorem test_wf_dr_data : (Instr.drData 0 (List.replicate 8057 0)).wf = false := by simp only [Instr.wf, List.length_replicate]; decide

/-! The 32-bit word of a vector instruction, written out from R303. -/

/-- MAJOR 0x2D, VD 8, VS1 12, VS2 4, MKE 1, MK 3, W 0, FUNC 9. -/
theorem test_vec_word : vecInstrOf 0b101101_01000_01100_00100_1_011_00_01001 false (some 0) (.fp .fma) [] = some (⟨true, 8, 12, 4, some 3, 0, false, some 0, .fp .fma, []⟩, 9) ∧
    vecWord ⟨true, 8, 12, 4, some 3, 0, false, some 0, .fp .fma, []⟩ 9 = 0b101101_01000_01100_00100_1_011_00_01001 ∧
    vecInstrOf 0b101100_00011_00001_00010_0_000_11_00000 false (some 0) (.fp .add) [] = some (⟨false, 3, 1, 2, none, 3, false, some 0, .fp .add, []⟩, 0) ∧
    (vecInstrOf 0b101110_00011_00001_00010_0_000_11_00000 false (some 0) (.fp .add) []).isNone = true := by decide

/-! Commands for the witnesses. -/

/-- A command of opcode `op` with the given operands and no dependencies. -/
def wCmd (op : Nat) (b : List Byte) : Cmd := ⟨op, 0, 0, 7, 10, 0, 0, 0, b⟩

/-- Partition 0 in a frame whose A-die 0 has these commands in bank 0. -/
def wBank (l : List Cmd) : State :=
  (State.reset.setFrameState 0 stRunning).updDie 0 (fun d => { d with bank0 := ⟨true, false, 1, l, List.replicate l.length 0, [], HbmPlan.empty⟩ })

/-! Witnesses of IdleStepPassesOneCycle. -/

/-- The reset state has an empty queue and a running clock. -/
theorem test_idle : State.reset.pending = [] ∧ State.reset.aclk ≠ 0 := by decide

/-- A state whose arithmetic clock stopped at a thermal trip. -/
theorem test_idle_tripped : (State.reset.setF F.TH_STATUS_TRIPPED 1).pending = [] ∧ (State.reset.setF F.TH_STATUS_TRIPPED 1).aclk = 0 := by decide

/-! Witnesses of StepKeepsSoundState. -/

/-- The reset state is sound, and steps. -/
theorem test_sound : State.reset.Inv ∧ (∃ t, step State.reset = .next t) := ⟨⟨by decide, by decide, by decide, by decide, by decide⟩, ⟨_, rfl⟩⟩

/-! Witnesses of StepTakesCommandsInOrder. -/

/-- A queue of two commands and an owner key in the fuses. -/
theorem test_order : ({ State.reset with pending := [.jtagIdcode, .jtagBypass] } : State).pending = .jtagIdcode :: [.jtagBypass] ∧
    (∃ t, step { State.reset with pending := [.jtagIdcode, .jtagBypass] } = .next t) ∧
    ({ State.reset with fused := ⟨1, 1, 0, some [1]⟩ } : State).fused.owner = some [1] := ⟨rfl, ⟨_, rfl⟩, rfl⟩

/-! Witnesses of CommandsThatStoreNothing. -/

/-- A command of the list. -/
theorem test_stores_nothing : storesNoData (.frameStart 0) = true ∧ storesNoData (.stepval 0 0) = false := by decide

/-! Witnesses of GstControlWrites. -/

/-- Partition 0 stopped for a backlog, with a bank loaded. -/
def wStopped : State := ((wBank []).setFrameState 0 stStopped).setF (F.GST_CTRL_ENABLE 0) 1

theorem test_gst_ctrl : wStopped.frameState 0 = stStopped ∧ wStopped.getF (F.GST_CTRL_ENABLE 0) = 1 ∧ wStopped.jobLoaded 0 = true ∧ State.reset.inFrame 0 = false ∧
    State.reset.frameState 0 ≠ stStopped := by decide

/-! Witnesses of TicksAreIssuedAndForwarded. -/

/-- A root that issues ticks every 50,000 ns. -/
def wRoot : State := (State.reset.setFs [(F.GST_PERIOD_PERIOD_NS 0, 50000), (F.GST_CTRL_ENABLE 0, 1), (F.GST_CTRL_ROLE 0, 1)]).updPart 0 (fun x => { x with issuing := true })

/-- A follower with parent port 3 and child port 4. -/
def wFollower : State := { State.reset.setF (F.GST_CTRL_ENABLE 0) 1 with fab := { Fab.reset with parentPorts := 8, childPorts := 16 } }

theorem test_ticks : (wRoot.part 0).issuing = true ∧ periodOk (wRoot.getF (F.GST_PERIOD_PERIOD_NS 0)) = true ∧ wFollower.getF (F.GST_CTRL_ENABLE 0) = 1 ∧
    (wFollower.part 0).issuing = false ∧ bit wFollower.fab.parentPorts 3 = true ∧ (wFollower.part 0).lastIndex = none ∧ wFollower.fab.childPorts ≠ 0 ∧
    (wRoot.setFrameState 0 stWaitTick).frameState 0 = stWaitTick ∧ ((wFollower.updPart 0 (fun x => { x with lastIndex := some 7 })).part 0).lastIndex = some 7 ∧
    (7 + 2 ^ 32 - (7 + 1) % 2 ^ 32) % 2 ^ 32 = 2 ^ 32 - 1 ∧ (8 + 2 ^ 32 - (7 + 1) % 2 ^ 32) % 2 ^ 32 < 2 ^ 31 ∧ 2 ^ 31 ≤ (6 + 2 ^ 32 - (7 + 1) % 2 ^ 32) % 2 ^ 32 := by decide

/-! Witnesses of LostTicks. -/

/-- A partition that took tick 7 at time 0 with a period of 50,000 ns: follower (ROLE 0) or standby root (ROLE 2). -/
def wSilent (role : Nat) : State :=
  (State.reset.setFs [(F.GST_CTRL_ENABLE 0, 1), (F.GST_CTRL_ROLE 0, role), (F.GST_PERIOD_PERIOD_NS 0, 50000)]).updPart 0 (fun x => { x with lastIndex := some 7 })

theorem test_lost_ticks : (wSilent 0).tickSilence 0 100000 = true ∧ (wSilent 0).getF (F.GST_CTRL_ROLE 0) = 0 ∧ ((wSilent 0).part 0).timedOut = false ∧
    (wSilent 2).tickSilence 0 100000 = true ∧ (wSilent 2).getF (F.GST_CTRL_ROLE 0) = 2 ∧ (wSilent 0).tickSilence 0 99999 = false := by decide

/-! Witnesses of FramesStart. -/

/-- A tick taken for cycle 3 of a partition. -/
def wTick (p : Nat) : State := State.reset.updPart p (fun x => { x with startAt := some 3, ticks := [(0, 0)] })

theorem test_frames_start : (wTick 1).aclk ≠ 0 ∧ (wTick 1).darkOf 1 = [] ∧ ((wTick 1).part 1).startAt = some 3 ∧ ((wTick 1).part 1).ticks = [(0, 0)] ∧
    (((wTick 1).diesOf 1).foldl (fun (u : State) (n : Nat) => u.switchBank n) ((wTick 1).advanceCyc (3 - (wTick 1).clk.cyc))).plansAgree 1 = true := by decide

/-- The same for partition 0, whose SVE schedule is for another plan than its A-dies'. -/
def wOther : State := { wTick 0 with sve := { Seq.reset with bank0 := ⟨true, 9, []⟩ } }

theorem test_frames_mismatch : wOther.aclk ≠ 0 ∧ wOther.darkOf 0 = [] ∧ (wOther.part 0).startAt = some 3 ∧ (wOther.part 0).ticks = [(0, 0)] ∧
    ((wOther.diesOf 0).foldl (fun (u : State) (n : Nat) => u.switchBank n) (wOther.advanceCyc (3 - wOther.clk.cyc))).plansAgree 0 = false := by decide

/-! Witnesses of FramesEnd. -/

/-- Partition 0 in frame state `st` with a frame of 4,096 cycles, ENABLE 1 and a bank loaded, nothing in flight. -/
def wEnding (st : Nat) : State := (((wBank []).setFrameState 0 st).setF (F.GST_CTRL_ENABLE 0) 1).updPart 0 (fun x => { x with len := 4096 })

theorem test_frames_end : (wEnding stRunning).aclk ≠ 0 ∧ (wEnding stRunning).frameState 0 = stRunning ∧ (wEnding stRunning).allDone 0 = true ∧ (wEnding stRunning).lastDone 0 < ((wEnding stRunning).part 0).len ∧
    (wEnding stRunning).defer = [] ∧ (wEnding stRunning).fab.tblDefer = [] ∧ ((wEnding stRunning).part 0).ticks = [] ∧ (wEnding stRunning).jobLoaded 0 = true ∧
    ((wEnding stRunning).updPart 0 (fun x => { x with len := 0 })).allDone 0 = true ∧ (wEnding stDark).aclk ≠ 0 ∧ (wEnding stDark).frameState 0 = stDark ∧ (wEnding stDark).darkOf 0 = [] ∧
    ((wEnding stDark).part 0).startAt = none := by decide

/-- Partition 1 FAILED, to stop when it has drained. -/
def wDraining : State := (State.reset.setFrameState 1 stFailed).updPart 1 (fun x => { x with stopAfter := true })

theorem test_frames_drain : wDraining.aclk ≠ 0 ∧ wDraining.frameState 1 = stFailed ∧ wDraining.anyRun 1 = false ∧ (wDraining.part 1).stopAfter = true ∧ wDraining.defer = [] ∧ wDraining.fab.tblDefer = [] := by decide

/-! Witnesses of RegisterWritesAct. -/

theorem test_register_writes : slotOf 4 = none ∧ mgmtOk 4 8 = false ∧ State.reset.inFrame 0 = false ∧ State.reset.frameLenOk 0 65536 0 = true ∧
    bit (State.reset.getF (F.TELLER_STATUS_SLOT_PENDING 3)) 3 = false ∧ (State.reset.setFrameState 1 stRunning).inFrame 1 = true := by decide

/-! Witnesses of UnimplementedOffsets. -/

/-- Offset 0x100 of the P-die's core unit holds no register. -/
theorem test_unimplemented : mgmtOk 0x2000000100 8 = true ∧ regOf 0x2000000100 = none ∧ slotOf 0x2000000100 = none ∧ ringOf 0x2000000100 = none ∧ dieOfAddr 0x2000000100 = none := by decide

/-! Witnesses of DarkPiecesRun. -/

/-- Partition 0 in the dark interval of a frame of 65,536 cycles. -/
def wDark : State := (State.reset.setFrameState 0 stDark).updPart 0 (fun x => { x with len := 65536, dark := 983 })

theorem test_dark_piece : (wDark.piecePart (.spmTest 0)).all (fun p => wDark.frameState p == stDark && (wDark.part p).startAt.isNone) = true ∧
    wDark.pieceNext (.spmTest 0) 900 = true ∧ wDark.portDone (.spmTest 0) = false ∧ wDark.pieceNext (.spmTest 0) 984 = true := by decide

/-- A spare row of A-die 0 on its way in for row 5, its piece in progress. -/
def wSpareRow : State := { State.reset with bringIn := [⟨1, 0, 0, 5, 2, false, 0, 0⟩], dark := [⟨.arraySpare 0 false, 0, 100⟩] }

theorem test_spare_row : (wSpareRow.dark.find? (fun y => y.piece == .arraySpare 0 false)).isSome = true ∧
    wSpareRow.pieceBringIn (.arraySpare 0 false) = some ⟨1, 0, 0, 5, 2, false, 0, 0⟩ ∧
    State.reset.freeSpare 3 1 0 = some 0 ∧ State.reset.atRest (State.reset.partOf 1) = true ∧ State.reset.pieceNext (.spmTest 1) 7 = true := by decide

/-! Witnesses of CommandsStart. -/

/-- A bank of these commands with command 0 started in cycle 10. -/
def wRun (l : List Cmd) : State := (wBank l).updDie 0 (fun d => { d with run := [⟨0, 10, none, 0, false, 0, 0, none, []⟩] })

theorem test_commands_start : (wBank [wCmd opNop []]).cmdAt 0 0 = some (wCmd opNop []) ∧ (wBank [wCmd opNop []]).inFrame ((wBank [wCmd opNop []]).partOf 0) = true ∧
    ((wBank [wCmd opNop []]).abank 0).valid = true ∧ (wBank [wCmd opNop []]).startCycle 0 0 (wCmd opNop []) = some (10, 0, 10) ∧
    ((wBank [wCmd opNop []]).startLimit 0).any (fun l => decide (l < 10)) = false := by decide

/-- A command released in cycle 10 whose dependency on command 1 was met in cycle 20. -/
def wLate : State := (wBank [⟨opNop, 1, 0, 7, 10, 0x10000001, 0, 0, []⟩, wCmd opNop []]).updDie 0 (fun d => { d with done := [⟨1, 20, 2 ^ 31⟩] })

theorem test_commands_slip : wLate.cmdAt 0 0 = some ⟨opNop, 1, 0, 7, 10, 0x10000001, 0, 0, []⟩ ∧
    wLate.startCycle 0 0 ⟨opNop, 1, 0, 7, 10, 0x10000001, 0, 0, []⟩ = some (21, 21, 10) ∧ wLate.inFrame (wLate.partOf 0) = true ∧ (wLate.abank 0).compat = false := by decide

/-! Witnesses of CommandsComplete. -/

/-- An MXA command that has ended in cycle 40 with an inexact result. -/
def wEnded : State := (wBank [wCmd opMxa []]).updDie 0 (fun d => { d with run := [⟨0, 10, some 40, 8, true, 0, 0, none, []⟩] })

theorem test_commands_complete : wEnded.runAt 0 0 = some ⟨0, 10, some 40, 8, true, 0, 0, none, []⟩ ∧ wEnded.cmdAt 0 0 = some (wCmd opMxa []) := by decide

/-! Witnesses of ScuCommandsAct. -/

theorem test_scu_commands : ((wRun [wCmd opNop []]).toRun 0 0 opNop).isSome = true ∧ ((wRun [wCmd opFence []]).toRun 0 0 opFence).isSome = true ∧
    ((wRun [wCmd opSignal [2, 5, 3]]).toRun 0 0 opSignal).isSome = true ∧ ((wRun [wCmd opTrigger []]).toRun 0 0 opTrigger).isSome = true ∧
    ((wRun [wCmd opQswitch []]).toRun 0 0 opQswitch).isSome = true ∧ bit (fieldAt [2, 5, 3] 0 1) 1 = true ∧ ((wRun []).tot 0 0).cross = false ∧ ((wRun []).tot 0 0).thr = 0 := by decide

/-- A FENCE on the MXA at index 1, started while the MXA command at index 0 has not completed. -/
def wFence : State := (wBank [wCmd opMxa [], wCmd opFence [1]]).updDie 0 (fun d => { d with run := [⟨0, 10, none, 0, false, 0, 0, none, []⟩, ⟨1, 11, none, 0, false, 0, 0, none, []⟩] })

theorem test_fence_waits : (wFence.toRun 0 1 opFence).isSome = true ∧ wFence.cmdAt 0 0 = some (wCmd opMxa []) ∧ (wCmd opMxa []).unit = some 1 ∧
    bit (fieldAt (wCmd opFence [1]).operands 0 1) 0 = true ∧ (wFence.die 0).done = [] ∧ wFence.getF (F.SCU_STATUS_NEXT_VALID 0) ≠ 1 := by decide

/-! Witnesses of LoadsStart. -/

theorem test_loads_start : bit ((0x8000000000000040 : Word).toNat) 63 = true ∧ (State.reset.die 0).load = none ∧ State.reset.frameState 0 = stIdle ∧
    State.reset.sve.load = none ∧ State.reset.cor.load = none ∧ State.reset.pmc.load = none ∧ State.reset.coll.totLoad = none ∧
    State.reset.atRest (State.reset.ctxPart 0) = true ∧ (State.reset.setFrameState 0 stRunning).atRest ((State.reset.setFrameState 0 stRunning).ctxPart 0) = false := by decide

/-- A package with a load in progress in every unit. -/
def wLoading : State := { State.reset.updDie 0 (fun d => { d with load := some ⟨0, 64, false, 0⟩ }) with
  sve := { Seq.reset with load := some (0, 64) }, cor := { Seq.reset with load := some (0, 64) }, pmc := { Seq.reset with load := some (0, 64) },
  coll := { Coll.reset with totLoad := some (0, 64) } }

theorem test_loads_busy : (wLoading.die 0).load = some ⟨0, 64, false, 0⟩ ∧ wLoading.sve.load = some (0, 64) ∧ wLoading.cor.load = some (0, 64) ∧
    wLoading.pmc.load = some (0, 64) ∧ wLoading.coll.totLoad = some (0, 64) := by decide

/-! Witnesses of LoadsEnd. -/

theorem test_loads_end : State.reset.inT1 0x7FFFFFFFC0 64 = false ∧ (wLoading.die 0).load = some ⟨0, 64, false, 0⟩ ∧ wLoading.coll.totLoad = some (0, 64) := by decide

/-! Witnesses of AbortsAndDependencies. -/

theorem test_abort : (wRun [wCmd opNop []]).frameState ((wRun [wCmd opNop []]).partOf 0) = stRunning ∧ State.reset.inFrame (State.reset.partOf 0) = false ∧
    ((State.reset.updPart 0 (fun x => { x with depsIn := [⟨6, 3, 40, 0, 0⟩] })).part 0).depsIn = [⟨6, 3, 40, 0, 0⟩] := by decide

/-! Witnesses of StepvalWritesRecord. -/

/-- A STEPVAL of mover 1 at offset 64 for shard slot 0, started. -/
def wStepval : State := wRun [⟨opStepval, 0, 0, 7, 10, 0, 0, 0, [1, 0, 0, 0, 64, 0, 0, 0]⟩]

theorem test_stepval : (wStepval.toRun 0 0 opStepval).isSome = true ∧ wStepval.getF (F.SPM_STATUS_DEGRADED 0) = 0 ∧
    (wStepval.spmRequest 0 5 1 11 true 64 64).1 = false ∧ (wStepval.die 0).spmReq = [] := by decide

/-! Witnesses of MoversAndLoadsOfQueues. -/

/-- Descriptor bytes at SPM offset 0 of A-die 0: COPY of 128 bytes from offset 0x1000 to 0x2000. -/
def wDesc : List Byte := [0, 0, 0, 0, 0, 0, 0, 0] ++ leBytes 8 (0xF0000000000 + 0x1000) ++ leBytes 8 (0xF0000000000 + 0x2000) ++ leBytes 4 0 ++ leBytes 4 128 ++
  leBytes 4 1 ++ leBytes 4 1 ++ leBytes 4 1 ++ List.replicate 84 0

/-- A MOVE of mover 0 with that descriptor, started in cycle 10. -/
def wMove : State := { wRun [⟨opMove, 0, 0, 7, 10, 0, 0, 0, [0, 1] ++ List.replicate 38 0⟩] with mem := (State.reset.writeMem 0xF0000000000 wDesc).mem }

theorem test_move : (wMove.toRun 0 0 opMove).isSome = true ∧ wMove.getF (F.SPM_STATUS_DEGRADED 0) ≠ 1 ∧
    (match moveOperands ([0, 1] ++ List.replicate 38 0) with | .ok (1, 0) => true | _ => false) = true ∧ (wMove.setF (F.MOV_STATUS_DESC_INDEX 0 0) 0).spmPoison 0 0 128 = false := by decide +kernel

/-- The descriptor as the mover has it from the SPM, a single-bit error corrected. -/
def wMoveRun : DescEnd × State :=
  runDesc 0 0 0 (Desc.parse (((wMove.setF (F.MOV_STATUS_DESC_INDEX 0 0) 0).spmCorrect 0 0 128).spmData 0 10 0 128)) 10 0 ((wMove.setF (F.MOV_STATUS_DESC_INDEX 0 0) 0).spmCorrect 0 0 128)

theorem test_move_ends : wMoveRun.1 = .done 80 ∧ (wMoveRun.2.runAt 0 0).isSome = true := by decide +kernel

theorem test_loads_of_queues : (wMove.runAt 0 0).map (fun x => x.fault) = some none ∧ (wMove.cmdAt 0 0).map (fun x => x.opcode) = some opMove ∧
    (match moveOperands [0, 0] with | .error _ => true | .ok _ => false) = true ∧ wMove.frameState (wMove.partOf 0) = stRunning ∧
    ((wRun [wCmd opQload []]).toRun 0 0 opQload).isSome = true := by decide +kernel

/-- The direct link between A-dies 0 and 1 up, at rest; its next flit of MOV0 of A-die 0 fails once. -/
def wLink (k : FailKind) : State := { State.reset.setFs [(F.SLINK_STATUS_UP 0 (linkAt 0 1), 1), (F.SLINK_STATUS_UP 1 (linkAt 1 0), 1)] with fails := [⟨k, 0, 0, 1, 0, 1⟩] }

theorem test_retries : ((wLink .link).takeLink 0 0 1 0 7).1.isSome = true ∧ (({ ((wLink .link).takeLink 0 0 1 0 7).2 with fails := [] } : State).takeLink 0 0 1 0 (((wLink .link).takeLink 0 0 1 0 7).1.getD 0 + 1)).1.isSome = true ∧
    ((wLink .flit).sendFlit 0 0 1 0 7).1.isSome = true ∧ (({ ((wLink .flit).sendFlit 0 0 1 0 7).2 with fails := [] } : State).sendFlit 0 0 1 0 (((wLink .flit).sendFlit 0 0 1 0 7).1.getD 0 + 48)).1.isSome = true ∧
    ((wLink .flit).flitFails .flit 0 0 1).1 = true ∧ (wMove.moverRun 0).isSome = true := by decide +kernel

/-! Witnesses of MxaComputesItsGemm. -/

/-- Operands of a 1 × 1 × 1 GEMM of INT8 with its weight image at 1,024. -/
def wGemm : List Byte := leBytes 4 0 ++ leBytes 4 1024 ++ leBytes 4 64 ++ leBytes 2 1 ++ leBytes 2 0 ++ leBytes 4 1 ++ leBytes 4 1 ++ List.replicate 24 0

def wMxa : State := wRun [wCmd opMxa wGemm]

theorem test_mxa : (wMxa.toRun 0 0 opMxa).isSome = true ∧ mxaReject wMxa 0 10 (wCmd opMxa wGemm) = none ∧ (cmdNTiles wMxa 0 10 (wCmd opMxa wGemm)).map (fun x => x.2.2.length) = some 1 ∧
    (wMxa.runAt 0 0).map (fun r => (r.start, r.progress, r.fault)) = some (10, 0, none) ∧ wMxa.chainFirst 0 2000 = false ∧
    (mxaReject (wRun [wCmd opMxa []]) 0 10 (wCmd opMxa [])).isSome = true ∧ ((wRun [wCmd opMxa []]).toRun 0 0 opMxa).isSome = true := by decide +kernel

theorem test_mxa_tile : ((startNTile 0 0 0 (wCmd opMxa wGemm) none (wMxa.count 0 32 1)).runAt 0 0).map (fun r => (r.fault, r.progress)) = some (none, 1) := by decide +kernel

/-! Witnesses of SxeRunsItsChain. -/

/-- A chain of one row of one FP32 element: its stage takes stream 0 at 1,024 to stream 1 at 2,048. -/
def wChain : List Byte := [1, 2, 0xA, 0] ++ List.replicate 60 0 ++ [2, 1, 0, 0xFF, 0xFF, 0xFF, 1, 0x7F] ++ List.replicate 120 0 ++
  [1, 0xA, 0, 0] ++ leBytes 4 1024 ++ leBytes 4 64 ++ List.replicate 20 0 ++ [2, 0xA, 0, 0] ++ leBytes 4 2048 ++ leBytes 4 64 ++ List.replicate 20 0

def wSxOps : List Byte := leBytes 4 0 ++ leBytes 4 1 ++ leBytes 4 1 ++ leBytes 4 0 ++ leBytes 4 0xFFFFFFFF ++ List.replicate 12 0

def wSxe : State := (wRun [wCmd opSxe wSxOps]).store (spmBase 0) wChain

theorem test_sxe : (wSxe.toRun 0 0 opSxe).isSome = true ∧ wSxe.arrayFirst 0 10 = false ∧ sxeReject wSxe 0 10 (wCmd opSxe wSxOps) = none ∧ (sxeReject (wRun []) 0 10 (wCmd opSxe [])).isSome = true ∧
    ((wRun [wCmd opSxe []]).toRun 0 0 opSxe).isSome = true := by decide +kernel

theorem test_sxe_chain : let ch := readChain wSxe 0 (wSxe.spmKey 0 10) (SxOp.ofBytes wSxOps)
    let run := runChain 0 0 10 ch wSxe
    run.fault = none ∧ (run.fl % 32) &&& ch.trap = 0 ∧ (run.s.runAt 0 0).isSome = true := by decide +kernel

/-- A chain at index 1 while the MXA command that started before it has still to run. -/
def wSxeLate : State := (wBank [wCmd opMxa wGemm, wCmd opSxe wSxOps]).updDie 0 (fun d => { d with run := [⟨0, 10, none, 0, false, 0, 0, none, []⟩, ⟨1, 2000, none, 0, false, 0, 0, none, []⟩] })

theorem test_sxe_waits : (wSxeLate.toRun 0 1 opSxe).isSome = true ∧ wSxeLate.arrayFirst 0 2000 = true ∧ wSxeLate.chainFirst 0 2001 = true := by decide +kernel

/-- ACF entry index 5 pending from cycle 0 until cycle 40. -/
theorem test_acf_pending : ((wRun []).updDie 0 (fun d => { d with pend := [⟨5, 0, 40, 0⟩] })).aclk ≠ 0 ∧
    (((wRun []).updDie 0 (fun d => { d with pend := [⟨5, 0, 40, 0⟩] })).die 0).pend.find? (fun x => x.entry == 5 % 4096 && decide ((wRun []).frameCyc ((wRun []).partOf 0) < x.until_)) = some ⟨5, 0, 40, 0⟩ := by decide

/-! Witnesses of SolverRunsProblems. -/

/-- An entry of the SVE schedule released in cycle 100 of a frame. -/
def wSveEntry : TabEntry := ⟨100, 0, 0, 9, false, 0, false, 0, []⟩

def wSveFrame : State := { State.reset.setFrameState 0 stRunning with sve := ⟨⟨true, 7, [wSveEntry]⟩, TabBank.empty, some 0, none, [], [], false⟩ }

/-- A problem in progress: loaded or not, stopped by its budget. -/
def wSveJob (loaded : Bool) : SveJob := ⟨0, 100, 9, [], false, loaded, 1, [], [], 0, 0, 0, true, 0, []⟩

/-- That problem in the frame. -/
def wSve (loaded : Bool) : State := { wSveFrame with sveJob := some (wSveJob loaded) }

theorem test_solver : (wSveFrame.seqReady .sve 0).map (fun x => x.1) = some wSveEntry ∧ (wSve false).sveJob = some (wSveJob false) ∧ (wSve false).aclk ≠ 0 ∧
    ((wSve false).sveBankWords 0).any (fun x => (wSve false).poisoned x.1 x.2) = false ∧
    ((({ wSve false with ecc := [(((wSve false).sveBankWords 0).map (fun x => x.1 / 8) |>.headD 0, 2)] } : State).sveBankWords 0).any (fun x => ({ wSve false with ecc := [(((wSve false).sveBankWords 0).map (fun x => x.1 / 8) |>.headD 0, 2)] } : State).poisoned x.1 x.2)) = true := by decide +kernel

theorem test_solver_inputs : ((wSve false).sveInputs ((Prob.parse (wSveJob false).desc).groups (Prob.parse (wSveJob false).desc).warm)).1 = 0 ∧ (wSve true).sveAborted 200 = none ∧ (wSveJob true).loaded = true ∧
    ((wSve true).updPart 0 (fun x => { x with abortAt := some 150 })).sveAborted 200 = some 150 := by decide +kernel

/-! Witnesses of LedgersDoNotDependOnOrder. -/

/-- Three addends in two orders. -/
theorem test_ledger_orders : [Fv.nan, .inf true, .fin false 1 (-3)].Perm [.fin false 1 (-3), .nan, .inf true] :=
  (List.Perm.cons _ (List.Perm.swap _ _ _)).trans (List.Perm.swap _ _ _)

/-! Witnesses of VsetcSetsTheVectorLength. -/

/-- Core 3 right after reset is at an instruction boundary; 1,024-bit vectors of 32-bit elements are legal, 768-bit ones are not. -/
theorem test_vsetc : State.reset.cores.length = 64 ∧ State.reset.boundary 3 = none ∧ bits (1024 + 2 * 65536) 0 16 = 1024 ∧ bits (1024 + 2 * 65536) 16 3 ≤ 3 ∧
    ¬(bits 768 0 16 = 512 ∨ bits 768 0 16 = 1024 ∨ bits 768 0 16 = 2048 ∨ bits 768 0 16 = 4096) := ⟨rfl, rfl, rfl, by decide, by decide⟩

/-! Witnesses of VectorInstructionsRun. -/

/-- An SVX FP64 add of V1 and V2 into V3 under no qualifier, with the static mode RNE; an LVX one is legal too. -/
def wVec : VecInstr := ⟨false, 3, 1, 2, none, 3, false, some 0, .fp .add, []⟩

theorem test_vector : (State.reset.core 0).vecIllegal wVec = false ∧ (State.reset.core 0).width false 3 = 64 ∧ (State.reset.core 0).vstart < (State.reset.core 0).limit false 64 ∧
    (State.reset.core 0).intAt = none ∧ bits (State.reset.core 0).fcsr 8 5 = 0 ∧ State.reset.boundary 0 = none ∧ (State.reset.core 0).vecIllegal { wVec with lvx := true } = true ∧
    0 ∈ (State.reset.core 0).active none 0 ((State.reset.core 0).limit false 64) := by decide +kernel

theorem test_vector_loop : (elemLoop (vecElem 0 wVec ((State.reset.running 0).core 0) 64) ((State.reset.core 0).active none 0 8)
    ((State.reset.running 0).vecIssue 0 wVec 64 ((State.reset.core 0).passes false 64) 0 ((State.reset.core 0).active none 0 8))).1 = none := by decide +kernel

/-- Core 0 with its vector start at element `n`, and an interrupt at element `e`. -/
def wVstart (n : Nat) (e : Option Nat) : State := State.reset.updCore 0 (fun x => { x with vstart := n, intAt := e })

theorem test_vector_ends : ((wVstart 8 none).core 0).limit false 64 ≤ ((wVstart 8 none).core 0).vstart ∧ ((wVstart 8 none).core 0).vecIllegal wVec = false ∧
    ((wVstart 4 (some 4)).core 0).vstart < ((wVstart 4 (some 4)).core 0).limit false 64 ∧
    (((wVstart 4 (some 4)).running 0).core 0).cutAt 64 (((wVstart 4 (some 4)).core 0).limit false 64) ≤ ((wVstart 4 (some 4)).core 0).vstart ∧
    (wVstart 4 (some 4)).boundary 0 = none ∧ (wVstart 8 none).cores.length = 64 := by decide +kernel

/-! Witnesses of ReductionsFollowTheTree. -/

theorem test_reduction : ¬((false = true ∧ ((3 : Fin 4) ≠ 0 ∨ (3 : Nat) % (State.reset.core 0).group false ≠ 0 ∨ 1 % (State.reset.core 0).group false ≠ 0)) ∨ (State.reset.core 0).width false 3 < 32) ∧
    (State.reset.core 0).vstart < (State.reset.core 0).limit false ((State.reset.core 0).width false 3) ∧ 0 < ((wVstart 8 none).core 0).vstart ∧
    (true = true ∧ ((3 : Fin 4) ≠ 0 ∨ (3 : Nat) % (State.reset.core 0).group true ≠ 0)) := by decide

/-! Witnesses of LedgerInstructionsAct. -/

/-- A ledger word at the start of core 0's local store, and one FP32 addend in V1. -/
theorem test_ledger_word : lg32Takes 0xA = true ∧ (State.reset.setF F.PIN_CFG_LS_WAYS 8).ledgerAt 0 (localBase 0) 64 64 = true ∧
    (State.reset.setF F.PIN_CFG_LS_WAYS 8).ledgerAt 0 (localBase 0) 80 16 = true ∧ State.reset.poisoned (localBase 0) 80 = false ∧ State.reset.localPoison (localBase 0) 80 = false ∧
    ((State.reset.core 0).addends ⟨true, false, 1, none, 0xB⟩) ≠ [] ∧ (State.reset.core 0).vstart < (State.reset.core 0).limit false (laneOf 0xB) ∧
    ((wVstart 8 none).core 0).addends ⟨true, false, 1, none, 0xB⟩ = [] ∧ (State.reset.setF F.PIN_CFG_LS_WAYS 8).ledgerAt 0 (localBase 0 + 8) 80 16 = false ∧ bits (State.reset.core 0).fcsr 8 5 = 0 := by decide

/-! Witnesses of ScalarInstructionsAct. -/

/-- A page that maps the first virtual page to the start of core 0's local store, and a state with local-store ways. -/
theorem test_scalar : physPieces [⟨0, 0xE2000000000 / 4096, true⟩] ((State.reset.core 0).effAddr 1 8) 8 = some ([(localBase 0 + 8, 8)], true) ∧ rowOf (localBase 0 + 8) = none ∧
    (State.reset.setF F.PIN_CFG_LS_WAYS 8).inWindow (localBase 0 + 8) 8 = true ∧ (State.reset.setF F.PIN_CFG_LS_WAYS 8).localPoison (localBase 0 + 8) 8 = false ∧
    (State.reset.setF F.PIN_CFG_LS_WAYS 8).poisoned (localBase 0 + 8) 8 = false ∧ (State.reset.setF F.PIN_CFG_LS_WAYS 8).cores.length = 64 ∧ (State.reset.setF F.PIN_CFG_LS_WAYS 8).boundary 0 = none ∧
    bits (State.reset.core 0).fcsr 8 5 = 0 ∧ State.reset.ccache = [] := by decide +kernel

theorem test_scalar_ends : (State.reset.core 0).traps 5 = false ∧ ((State.reset.updCore 0 (fun x => { x with fcsr := 0x1F00 })).core 0).traps 1 = true ∧
    ((State.reset.updCore 0 (fun x => { x with exc := some (2, 64) })).core 0).exc = some (2, 64) ∧ (State.reset.updCore 0 (fun x => { x with exc := some (2, 64) })).boundary 0 = none := by decide +kernel

/-! Witnesses of ExchangeStoreAccesses. -/

theorem test_exchange : 0 < 8 ∧ 64 + 8 ≤ (State.reset.setF F.PIN_CFG_XS_MIB 1).exchangeSize ∧ (State.reset.setF F.PIN_CFG_XS_MIB 1).poisoned (exchangeBase + 64) 8 = false ∧
    (State.reset.setF F.PIN_CFG_XS_MIB 1).localPoison (exchangeBase + 64) 8 = false ∧ State.reset.exchangeSize < 2 ^ 30 + 8 ∧ (State.reset.setF F.PIN_CFG_XS_MIB 1).boundary 0 = none := by decide

/-! Witnesses of CoreEntriesRun. -/

/-- An entry of the core table on cores 0 and 5, released in cycle 100. -/
def wCoreEntry : TabEntry := ⟨100, 0, 0, 9, false, 33, true, 0x4000, []⟩

/-- Partition 0 in a frame with that entry in the active core table. -/
def wCoreFrame : State := { State.reset.setFrameState 0 stRunning with cor := ⟨⟨true, 7, [wCoreEntry]⟩, TabBank.empty, some 0, none, [], [], false⟩ }

theorem test_core_entry : wCoreFrame.seqReady .cor 0 = some (wCoreEntry, 100, 0, 100) ∧ wCoreFrame.softFree (coresOf wCoreEntry.on) = some 0 ∧
    (wCoreFrame.seqLimit .cor).any (fun l => decide (l < max 100 0)) = false ∧
    (coresOf wCoreEntry.on).any wCoreFrame.coreAbsent = false ∧ wCoreFrame.cores.length = 64 := by decide

/-- The same with the entry running on core 5 alone. -/
def wCoreLast : State := { wCoreFrame with cor := { wCoreFrame.cor with run := [⟨0, 100, none, 0, 0, 0, false, false, 32⟩] }, cores := wCoreFrame.cores.set 5 { Core.reset with entry := some 0 } }

theorem test_cdone : wCoreLast.coreAbsent 5 = false ∧ wCoreLast.coreStops 5 = false ∧ (wCoreLast.core 5).gpr 3 = 0 ∧ (wCoreLast.updCore 5 (fun x => x.setG 3 1)).coreStops 5 = false ∧
    ((wCoreLast.updCore 5 (fun x => x.setG 3 1)).core 5).gpr 3 ≠ 0 ∧ ((wCoreLast.updCore 5 (fun x => x.setG 3 1)).core 5).entry = some 0 ∧ (wCoreLast.core 5).entry = some 0 ∧ wCoreLast.cores.length = 64 ∧
    wCoreLast.cor.run.find? (fun x => x.idx == 0) = some ⟨0, 100, none, 0, 0, 0, false, false, 32⟩ ∧ wCoreLast.cor.table[0]? = some wCoreEntry := by decide

/-- Core 0 in a pinned entry. -/
def wPinned : State := State.reset.updCore 0 (fun x => { x with pinned := true, entry := some 0 })

/-- The core clock at 2.0 GHz, every sensor of the P-die cool for 10 ms. -/
def wCool : State := { State.reset.setF F.CLK_STATUS_CORE_CLK 20 with pdieCool := some 0, clk := { State.reset.clk with ns := 10000000 } }

theorem test_core_rest : State.reset.coreAbsent 0 = false ∧ (State.reset.core 0).entry = none ∧ State.reset.atRest 0 = true ∧ (State.reset.setFrameState 0 stRunning).atRest 0 = false ∧
    max 20 (State.reset.getF F.CLK_STATUS_CORE_CLK - 2) ≠ State.reset.getF F.CLK_STATUS_CORE_CLK ∧ (State.reset.core 0).pinned = false ∧ wPinned.coreAbsent 0 = false ∧ (wPinned.core 0).pinned = true ∧
    min 26 (wCool.getF F.CLK_STATUS_CORE_CLK + 2) ≠ wCool.getF F.CLK_STATUS_CORE_CLK ∧ wCool.pdieCool = some 0 ∧ 10000000 ≤ wCool.clk.ns ∧ State.reset.pdieCool = none ∧ (coresOf wCoreEntry.on) = [0, 5] := by decide

/-! Witnesses of AddersAddWholeElements. -/

/-- A-die 0 with one pseudo-channel at rest and an INT32 and an FP64 ADDER range in its active plan. -/
def wAdder : State := (State.reset.setF (F.HBM_STATUS_DIE_PCS 0 0) 90).updDie 0 (fun d =>
  { d with bank0 := ⟨true, false, 1, [], [], [], ⟨90, 60, [], [⟨2, 0, 0, 0x1000, 64, 0x2000⟩, ⟨2, 4, 0, 0x4000, 64, 0x8000⟩], []⟩⟩ })

/-- The slots and the check of an addition to word 1 of the INT32 range by the F-die. -/
def wAdd : (Option (Nat × Nat) × State) := wAdder.adderSlots 0 0xA0 (wAdder.frameCyc (wAdder.partOf 0)) (adderUnits ⟨2, 0, 0, 0x1000, 64, 0x2000⟩ 1 ++ adderUnits ⟨2, 0, 0, 0x1000, 64, 0x2000⟩ 1)

theorem test_adder_hyps : wAdder.servingDie 0x1004 = some 0 ∧ wAdder.adderAt 0 0x1004 = some (⟨2, 0, 0, 0x1000, 64, 0x2000⟩, 0, 4) ∧ 4 % adderE 0 = 0 ∧ wAdd.1.isSome = true ∧
    ((wAdd.2.countHbm 0 (wAdd.2.t1Pc 0 (0x2004 % 0x2000000000)).1 4 1).t1Check 0 0xA0 (wAdd.2.t1Pc 0 (0x2004 % 0x2000000000)).1 0x2004 (adderWord 0) ((wAdd.1.map (fun x => x.1)).getD 0)).1 = true ∧
    wAdder.quiet = true ∧ (addWord 0 0 5 (wAdder.readMem 0x2004 (adderWord 0))).isSome = true ∧ wAdder.adderAt 0 0x1005 = some (⟨2, 0, 0, 0x1000, 64, 0x2000⟩, 0, 5) ∧ 5 % adderE 0 ≠ 0 := by decide +kernel

/-- The third window of an FP64 range in phase 0 adds nothing. -/
theorem test_adder_phase : wAdder.adderAt 0 0x4400 = some (⟨2, 4, 0, 0x4000, 64, 0x8000⟩, 2, 0) ∧ (addWord 4 2 1 (wAdder.readMem 0x8000 (adderWord 4))).isNone = true ∧
    (wAdder.adderSlots 0 0xA0 (wAdder.frameCyc (wAdder.partOf 0)) (adderUnits ⟨2, 4, 0, 0x4000, 64, 0x8000⟩ 0 ++ adderUnits ⟨2, 4, 0, 0x4000, 64, 0x8000⟩ 0)).1.isSome = true := by decide +kernel

theorem test_adder_read : (wAdder.adderSlots 0 0xA0 (wAdder.frameCyc (wAdder.partOf 0)) (adderUnits ⟨2, 0, 0, 0x1000, 64, 0x2000⟩ 1)).1.isSome = true := by decide +kernel

/-! Witnesses of HbmUpkeepKeepsData. -/

theorem test_hbm_upkeep : State.reset.pcState 0 0 0 < 90 ∧ State.reset.atRest (State.reset.partOf 0) = true ∧ State.reset.th.selfRefresh = false ∧ State.reset.bringing 4 0 0 0 = false ∧
    (State.reset.freeSpare 4 0 0).isSome = true ∧ 90 ≤ State.reset.pcState 0 0 31 ∧ State.reset.hbmWait = [] := by decide +kernel

/-- The next read of T1 unit 0 by MOV0 of A-die 0 fails twice. -/
def wReread : State := { State.reset with fails := [⟨.t1, 0, 0, 0, 0, 2⟩] }

theorem test_reread : wReread.unitFailed 0 0 = false ∧ wReread.poisoned 0 64 = false ∧ (wReread.readFails .t1 0 0).1 = 2 ∧ (wReread.physOf 0 0).isSome = true ∧
    ((wReread.readFails .t1 0 0).2.takeSlot 0 0 0 8).1.isSome = true ∧ (({ wReread with fails := [⟨.t1, 0, 0, 0, 0, 3⟩] } : State).readFails .t1 0 0).1 = 3 := by decide +kernel

/-! Witnesses of LostPseudoChannelsAreReplaced. -/

/-- Pseudo-channel 0 of stack 0 of A-die 0 lost, its replacement ordered. -/
def wLost : State := { State.reset with hbmWait := [⟨0, 0, 0, true⟩] }

theorem test_replace : wLost.notRunning 0 = true ∧ (wLost.freeSpare 4 0 0).isSome = true ∧ wLost.pcState 0 0 0 < 90 ∧ wLost.noneRunning = true ∧
    ({ wLost with spareBad := (List.range 32).map (fun i => (4, 0, 0, i)) } : State).freeSpare 4 0 0 = none ∧ wLost.bringing 4 0 0 0 = false ∧ wLost.diesOf 0 ≠ [] ∧
    memRegion 0x2000000000 ≠ some 0 := by decide +kernel

/-! Witnesses of PmovEntriesAndMigrations. -/

/-- A mover-table entry on channel 1 with one descriptor: COPY of 128 bytes of A-die 0's T1. -/
def wPmcEntry : TabEntry := ⟨100, 0, 0, 4, false, 1, false, 0, [leBytes 8 0 ++ leBytes 8 0 ++ leBytes 8 0x1000 ++ leBytes 4 0 ++ leBytes 4 128 ++
  leBytes 4 1 ++ leBytes 4 1 ++ leBytes 4 1 ++ List.replicate 84 0]⟩

/-- Partition 0 in a frame with that entry in the active table; the channel owns every T1 slot and every slot of the link to A-die 0. -/
def wPmc : State := { ((State.reset.setFrameState 0 stRunning).setFs [(F.HBM_STATUS_DIE_PCS 0 0, 90), (F.SLINK_STATUS_UP 0 3, 1), (F.SLINK_STATUS_UP 4 0, 1)]).updDie 0 (fun d => { d with
    bank0 := ⟨true, false, 1, [], [], [⟨3, 0, 1, List.replicate 49 0x81⟩, ⟨3, 1, 1, List.replicate 49 0x81⟩], ⟨90, 1, [], [], List.replicate 90 (List.replicate 11 0x81)⟩⟩ }) with
  pmc := ⟨⟨true, 7, [wPmcEntry]⟩, TabBank.empty, some 0, none, [], [], false⟩ }

theorem test_pmov : wPmc.seqReady .pmc 0 = some (wPmcEntry, 100, 0, 100) ∧ wPmc.pmc.run.find? (fun r => r.idx == 0) = none := by decide +kernel

def wPmcRun : DescEnd × State := runPmov 1 0 (Desc.parse (wPmcEntry.descs.getD 0 [])) 100 0 (((wPmc.seqBegin .pmc 0 wPmcEntry 100 0 100 0).setF (F.PMOV_STATUS_XFER 1) 4).count 4 296 1)

theorem test_pmov_end : (match wPmcRun.1 with | .done _ => true | _ => false) = true ∧ (wPmcRun.2.pmc.run.find? (fun r => r.idx == 0)).isSome = true := by decide +kernel

/-- That entry waiting for credit before its only descriptor. -/
def wPmcWait : State := { wPmc with pmc := { wPmc.pmc with run := [⟨0, 100, none, 0, 0, 180, true, false, 0⟩] } }

theorem test_pmov_goes_on : wPmcWait.pmc.run.find? (fun r => r.idx == 0) = some ⟨0, 100, none, 0, 0, 180, true, false, 0⟩ ∧ wPmcWait.pmc.table[0]? = some wPmcEntry ∧ wPmcWait.aclk ≠ 0 := by decide +kernel

/-- That entry run, its completion outside the promise. -/
def wPmcRan : State := { wPmc with pmc := { wPmc.pmc with run := [⟨0, 100, none, 1, 0, 180, true, false, 0⟩] } }

theorem test_pmov_complete : wPmcRan.pmc.run.find? (fun x => (wPmcRan.pmc.table[x.idx]?).any (fun y => y.on == 1)) = some ⟨0, 100, none, 1, 0, 180, true, false, 0⟩ ∧
    wPmcRan.pmc.table[0]? = some wPmcEntry ∧ wPmcRan.aclk ≠ 0 := by decide +kernel

/-- A migration of 64 bytes within T2. -/
def wMig : State := { State.reset.setF F.T2_CAP_GB_PER_CHANNEL 1 with mig := some ⟨0x10000000000, 0x10000001000, 64⟩, cfg := [⟨true, 15, 255, 1, 0, 1000000000, 0, 0⟩] }

theorem test_migration : wMig.migNoSlot 0x10000000000 64 = false ∧ (({ wMig with mig := none }.setF F.MIG_CTRL_BUSY 0).extRead 0x87 0x10000000000 64).1 = 0 ∧
    (wMig.extWrite 0x87 0x10000001000 (List.replicate 64 1)).1 = 0 ∧ wMig.inPart 0 0x10000000000 64 = true ∧ wMig.inPart 1 0x10000000000 64 = false := by decide +kernel

/-! Witnesses of MinLevelBoundsTheClock. -/

theorem test_min_level : (State.reset.setF F.TH_CTRL_MIN_LEVEL 3).getF F.TH_STATUS_TRIPPED ≠ 1 ∧ (State.reset.setF F.TH_CTRL_MIN_LEVEL 3).getF F.TH_STATUS_LEVEL < 3 ∧
    (∀ i < 16, (List.replicate 16 (40 : Int)).getD i 0 < sensorLimit i + 5) ∧ State.reset.getF F.CAL_STATUS_SOURCE ≠ 2 := by decide

/-! Witnesses of ThermalTripAndRestart. -/

theorem test_trip : sensorLimit 4 + 5 ≤ (List.replicate 16 (100 : Int)).getD 4 0 ∧ State.reset.getF F.TH_STATUS_TRIPPED ≠ 1 ∧
    (State.reset.setF F.TH_STATUS_TRIPPED 1).headrooms.all (fun h => decide (10 ≤ h)) = true := by decide

/-! Witnesses of PacketsArriveOnUpPorts. -/

/-- A packet from node 7 on port 3, for node `d`. -/
def wPkt (op d : Nat) (b : List Byte) : Packet := Packet.sealed ⟨3, d, 7, op, 2, 1, false, 0xFF, 0, 0, 1, 5, 0x10000000000, 9, 0, 0, 0, b⟩

/-- Port 3 and the link between P-die and F-die UP, partition 0 node 1, 1 GB in every T2 channel, and region 5 with key 9 open to everything in the first 4 KiB of T2. -/
def wFab : State := { State.reset.setFs [(F.PORT_STATUS_STATE 3, 2), (F.FAB_NODE_VALID 0, 1), (F.FAB_NODE_NODE 0, 1), (F.T2_CAP_GB_PER_CHANNEL, 1), (F.SLINK_STATUS_UP 4 (linkAt 4 5), 1), (F.SLINK_STATUS_UP 5 (linkAt 5 4), 1)] with
  fab := { Fab.reset with regions := [(5, ⟨true, false, 7, 0x10000000000, false, 0, 4096, 9, false, 0, []⟩)] } }

/-- The CRCs of R392 fail when a byte of the payload or of the header has changed. -/
theorem test_crc : (wPkt 1 1 [7]).crcOk = true ∧ { wPkt 1 1 [7] with payload := [8] }.crcOk = false ∧ { wPkt 1 1 [7] with seq := 1 }.crcOk = false := by decide +kernel

theorem test_packets_arrive : wFab.isUp 3 = true ∧ State.reset.isUp 3 = false ∧ (wFab.counted (wPkt 1 1 [])).partOfNode 1 = some 0 ∧ (wFab.counted (wPkt 1 1 [])).partOfNode 2 = none ∧ reservedOp (wPkt 0xF 1 []).op = true ∧
    ((wFab.counted (wPkt 1 1 [])).peer 0 7).class 64 = 0 ∧ ((wFab.counted (wPkt 1 1 [])).peer 0 7).class (2 ^ 32 - 1) = 1 := by decide

/-! Witnesses of FabricOperationsAct. -/

theorem test_fabric_operations : (wFab.counted (wPkt 1 1 [7])).newPacket 0 (wPkt 1 1 [7]) = true ∧ (wFab.counted (wPkt 1 1 [7])).tooEarly 0 (wPkt 1 1 [7]) = false ∧
    (wFab.counted (wPkt 1 1 [7])).targetCheck 1 7 5 9 0x10000000000 1 = none ∧ (wFab.counted (wPkt 1 1 [7])).stageOf (wPkt 1 1 [7]) = none ∧
    ((wFab.counted (wPkt 1 1 [7])).extWrite 0xA0 0x10000000000 [7]).1 = 0 ∧ ((wFab.counted (wPkt 2 1 [8, 0])).extRead 0xA0 0x10000000000 8).1 = 0 ∧
    ((wFab.counted (wPkt 6 1 (leBytes 8 5))).performOp 0 6 0x10000000000 (leBytes 8 5)).1 = 0 ∧ (wFab.counted (wPkt 6 1 [])).targetCheck 6 7 5 9 0x10000000000 8 = none ∧
    (wFab.counted (wPkt 1 1 [7])).targetCheck 1 7 5 8 0x10000000000 1 = some C.FAB_KEY ∧ (wFab.counted (wPkt 2 1 [8, 0])).targetCheck 2 7 5 9 0x10000000000 8 = none := by decide +kernel

/-- The link between P-die and F-die down: the F-die's accesses of T2 have no way. -/
def State.noLink (s : State) : State := s.setFs [(F.SLINK_STATUS_UP 4 (linkAt 4 5), 0), (F.SLINK_STATUS_UP 5 (linkAt 5 4), 0)]

theorem test_fabric_way : (∀ f ∈ [doFabWritePacket (wPkt 1 1 [7]), doFabAddPacket (wPkt 4 1 [7]), doFabReadPacket (wPkt 2 1 [8, 0]), doFabCasPacket (wPkt 5 1 (leBytes 16 5)), doFabFaddPacket (wPkt 6 1 (leBytes 8 5)),
      doFabBulk (wPkt 0xD 1 [])], (f wFab.noWait).fdieWait = false) ∧
    (∀ f ∈ [doFabWritePacket (wPkt 1 1 [7]), doFabReadPacket (wPkt 2 1 [8, 0]), doFabFaddPacket (wPkt 6 1 (leBytes 8 5))], (f wFab.noLink.noWait).fdieWait = true) ∧
    (wFab.counted (wPkt 5 1 [])).targetCheck 5 7 5 9 0x10000000000 8 = none ∧ (wFab.counted (wPkt 1 1 [7])).newPacket 0 { wPkt 1 1 [7] with npkt := 2 } = true := by decide +kernel

/-! Witnesses of TokensAreGrantedInOrder. -/

/-- Region 5 held by node 8, with `n` waiters. -/
def wToken (n : Nat) : State := { wFab with fab := { Fab.reset with regions := [(5, ⟨true, false, 7, 0x10000000000, false, 0, 4096, 9, true, 8, List.replicate n (wPkt 0xA 1 [])⟩)] } }

theorem test_tokens : (wFab.counted (wPkt 0xA 1 [])).targetCheck 0xA 7 5 9 0x10000000000 0 = none ∧ (wFab.region 5).held = false ∧ (wFab.counted (wPkt 0xA 1 [])).newPacket 0 (wPkt 0xA 1 []) = true ∧
    ((wToken 3).region 5).held = true ∧ ((wToken 16).region 5).waiters.length = 16 ∧
    ((wToken 1).counted { wPkt 0xB 1 [] with src := 8 }).targetCheck 0xB 8 5 9 0x10000000000 0 = none ∧ ((wToken 1).peer 0 8).next = 0 ∧
    ((wToken 1).region 5).waiters = [wPkt 0xA 1 []] ∧ ((wToken 1).counted { wPkt 0xB 1 [] with src := 8 }).partOfNode 1 = some 0 := by decide +kernel

/-! Witnesses of AnswersEndTransfers. -/

/-- A mover's WRITE to node 7, sent and not answered, `n` times retransmitted; its MOVE is started. -/
def wTx (n : Nat) : State := { wRun [wCmd opMove [0, 1]] with
  fab := { Fab.reset with txs := [⟨0, 7, 0, 1, 2, 1, 0xFF, 5, 9, 0, [(0x10000000000, [1])], .mover 0 0 0 0, true, 0, n, false⟩] },
  fld := wFab.fld ++ (wRun [wCmd opMove [0, 1]]).fld }

theorem test_answers : (wTx 0).openTx 0 7 0 = (wTx 0).fab.txs.head? ∧ (wTx 0).isUp 3 = true ∧ ((wTx 0).counted (wPkt 8 1 [])).partOfNode 1 = some 0 ∧
    ((wTx 0).runAt 0 0).map (fun r => r.fault) = some none ∧ (wTx 0).frameState ((wTx 0).partOf 0) = stRunning ∧ wFab.openTx 0 7 0 = none ∧ (wTx 0).fab.txs.map (fun t => t.step) = [(wTx 0).jobStep 0] ∧
    (wTx 3).fab.txs.find? (fun x => x.dst == 7 && x.vc == 2 && x.seq == 0 && x.sent && !x.answered) = (wTx 3).fab.txs.head? := by decide +kernel

theorem test_answers_way : ((doFabReadResp (wPkt 3 1 [1])) (wTx 0).noWait).fdieWait = false := by decide +kernel

/-! Witnesses of PortsAndLinks. -/

/-- Port 3 UP with eight lanes and one packet in its replay buffer. -/
def wPort : State := { wFab with fab := { wFab.fab with replay := [wPkt 1 7 [1]] } }

theorem test_ports : wPort.isUp 3 = true ∧ wPort.replayOf 3 ≠ [] ∧ wPort.fab.waiting = [] ∧ bit (wPort.getF (F.PORT_STATUS_ACTIVE 3)) 0 = true ∧
    (wPort.count 5 26 1).partOfNode 7 = none ∧ (wPort.setF (F.PORT_STATUS_STATE 4) 3).lanesOk 4 = true ∧ wPort.clk.ns ≤ wPort.upLimit 4 ∧
    { wPort with clk := { wPort.clk with ns := 10000001 } }.upLimit 4 < 10000001 ∧ State.reset.getF (F.PORT_STATUS_STATE 0) = 0 ∧
    (∀ k < 9, k ≠ 0 → bit (((wPort.setF (F.PORT_STATUS_ACTIVE 3) 511).getF (F.PORT_STATUS_ACTIVE 3))) k = true) := by decide

/-! Witnesses of SetupAndTables. -/

theorem test_setup : State.reset.allAtRest = true ∧ (State.reset.setFrameState 0 stRunning).allAtRest = false ∧
    ([(3, 7, 1)].filter (fun y => wFab.isUp y.1)).find? (fun y => y.1 == 3 && y.2.2 == 1) = some (3, 7, 1) ∧ wFab.rangeOk 0x10000000000 8 = true ∧
    (({ wFab with fab := { wFab.fab with op := 3, record := [1] } } : State).extWrite 0xA0 0x10000000000 [1]).1 = 0 ∧
    (State.reset.tblSel 0x30005).getF F.TBL_SEL_INDEX < tblSize ((State.reset.tblSel 0x30005).getF F.TBL_SEL_TABLE) ∧
    tblOk ((State.reset.tblSel 0x30005).getF F.TBL_SEL_TABLE) (State.reset.tblSel 0x30005).tblData = true ∧ tblOk 3 [1] = false ∧ (State.reset.tblSel 0x30005).noneRunning = true := by decide

/-- An open gather of context 0 in gateway 0 with one record. -/
def wGather : State := { wFab with fab := { wFab.fab with gathers := [⟨0, 0, 300, 5, 2, 2, 0, [(1, 8, 0x10000000000, leBytes 8 1, 0, 0)], false⟩] } }

theorem test_gather : (wGather.fab.gathers.map (fun g => (g.gw, g.closed, wGather.bulkOpen { g with closed := true }))) = [(0, false, false)] := by decide

/-- A record's size field of 128 bytes at FAB_SETUP_ADDR in T2. -/
def wApply : State := { wFab.setF F.FAB_SETUP_ADDR_ADDR 0x10000000000 with mem := [(0x10000000004, 128)] }

theorem test_apply : wApply.rangeOk (wApply.getF F.FAB_SETUP_ADDR_ADDR) 8 = true ∧ fieldAt (wApply.readMem (wApply.getF F.FAB_SETUP_ADDR_ADDR) 8) 4 4 = 128 ∧
    wApply.rangeOk (wApply.getF F.FAB_SETUP_ADDR_ADDR) 128 = true ∧ wApply.checkRecord (wApply.readMem (wApply.getF F.FAB_SETUP_ADDR_ADDR) 128) ≠ 0 := by decide +kernel

/-- An APPLY or a SAVE under way. -/
def wSetup (op : Nat) : State := { wFab.setF F.FAB_SETUP_ADDR_ADDR 0x10000000000 with fab := { wFab.fab with op := op, record := [1] } }

theorem test_setup_way : (wSetup 2).fab.op = 2 ∧ (doApplyDone (wSetup 2).noWait).fdieWait = false ∧ (doFabSaveDone (wSetup 3).noWait).fdieWait = false ∧ wFab.fab.op = 0 ∧
    State.reset.noneRunning = true ∧ (State.reset.setFrameState 0 stRunning).noneRunning = false := by decide +kernel

/-! Witnesses of NicAndTots. -/

/-- A collective record: OP, TYPE, reduction, scalar count, sources, LEN, target count; its data at 0 and its result at 64 of T2, its list at 128; group 3, region 5. -/
def wRec (op ty rop n nsrc len targets : Nat) : List Byte :=
  [BitVec.ofNat 8 op, 3, BitVec.ofNat 8 ty, BitVec.ofNat 8 rop, BitVec.ofNat 8 n, BitVec.ofNat 8 nsrc] ++ leBytes 2 5 ++ leBytes 8 len ++ leBytes 8 0x10000000000 ++ leBytes 8 0 ++
  leBytes 8 0x10000000040 ++ leBytes 8 (if op = 0x86 then 0x10000000080 else 0) ++ leBytes 4 targets ++ List.replicate 76 0

/-- Group 3 of two members over nodes 1 and 7: this package a leaf below node 7, or its root. -/
def wGroup (root : Bool) (kids : List Nat) : Group := ⟨kids.length, 2, 2, 2, if root then 0 else 1, 1, root, 7, 0, 1, 5, 0x10000001000, kids⟩

/-- An operation of group 3, posted by context 0 as record 9, GSEQ 4, with `c` chunks. -/
def wOp (b : List Byte) (c : Nat) : CollOp := ⟨3, 4, 0, 9, b, false, 0, c, 0, [], 0, false, [], 0, false, 0, [], [], [], false, 0, []⟩

/-- Group 3 with operations `l`. -/
def wColl (gr : Group) (l : List CollOp) : State := { wFab with
  fab := { wFab.fab with groups := [(3, gr)], nodes := [1, 7] },
  coll := { Coll.reset with ops := l, recs := l.map (fun o => ⟨o.num, o.ctx, none, o.op⟩) } }

/-- Context 1 enabled, with a ring of 2^1 records in T2 of which one waits: `b`, laid at the ring's start. -/
def wNic (b : List Byte) : State := ({ (wColl (wGroup false []) []) with
  fld := (wColl (wGroup false []) []).fld ++ (State.reset.setFs [(F.NIC_CTRL_ENABLE 1, 1), (F.NIC_QPOS_TAIL 1, 1), (F.NIC_QBASE_LOG2_SIZE 1, 1), (F.NIC_QBASE_BASE 1, 0x10000002000)]).fld }).store 0x10000002000 b

theorem test_nic : (wNic []).getF (F.NIC_CTRL_ENABLE 1) ≠ 0 ∧ (wNic []).ctxPart 1 = 0 ∧ ((wNic []).tot 1 5).cross = false ∧ ((wNic []).tot 1 5).thr = 0 ∧
    (wNic []).getF (F.NIC_QPOS_HEAD 1) % 2 ≠ (wNic []).getF (F.NIC_QPOS_TAIL 1) % 2 ∧ State.reset.getF (F.NIC_CTRL_ENABLE 1) = 0 ∧
    (wNic []).ideOn 0 = false ∧ ((wNic []).setF (F.TELLER_STATUS_IDE 0) 1).ideOn 0 = true := by decide +kernel

theorem test_nic_post : ((wNic (wRec 0x80 0 0 0 0 0 0)).extRead 0xA0 0x10000002000 128).1 = 0 ∧ ((wNic (wRec 0x80 0 0 0 0 0 0)).extRead 0xA0 0x10000002000 128).2.1 = wRec 0x80 0 0 0 0 0 0 ∧
    (wNic (wRec 0x80 0 0 0 0 0 0)).colOk (wRec 0x80 0 0 0 0 0 0) = true ∧ (wNic (wRec 0x80 0 0 0 1 0 0)).colOk (wRec 0x80 0 0 0 1 0 0) = false := by decide +kernel

theorem test_nic_way : (doNicRecordPost 1 (wNic (wRec 0x80 0 0 0 0 0 0)).noWait).fdieWait = false ∧ (doNicRecordPost 1 (wNic (wRec 0x80 0 0 0 1 0 0)).noWait).fdieWait = false ∧
    (wNic []).coll.held = [] ∧ 0x80 ≤ fieldAt (wRec 0x80 0 0 0 0 0 0) 0 1 := by decide +kernel

/-! Witnesses of CollectivesStart. -/

theorem test_collectives_start : let b := wOp (wRec 0x80 0 0 0 0 0 0) 0
    (wColl (wGroup false []) [b]).coll.ops = [b] ∧ b.op = 0x80 ∧ (wColl (wGroup false []) [b]).group 3 = some (wGroup false []) ∧ (wGroup false []).children = [] ∧
    (wOp (wRec 0x81 0 0 2 1 0 0) 0).nval = 2 ∧ (wOp (wRec 0x81 0 0 2 1 0 0) 0).nsrc = 1 ∧ (wOp (wRec 0x81 0 0 2 1 0 0) 0).two = false ∧ b.isBulk = false := by decide +kernel

theorem test_collectives_t2 : (wColl (wGroup false []) []).t2Unit 0x10000000000 64 ∧ (wColl (wGroup false []) []).t2Unit 0x10000000080 4 ∧ (wColl (wGroup false []) []).tierOf 0x10000000040 = some .t2 := by
  unfold State.t2Unit; decide +kernel

theorem test_collectives_chunks : let g := wGroup false []
    (wOp (wRec 0x82 0 0 0 1 4 0) 1).span 2 0 = (0, 4) ∧ (wOp (wRec 0x83 0 0 0 1 4 0) 1).span 2 0 = (0, 4) ∧ 0 < (wOp (wRec 0x82 0 0 0 1 4 0) 1).want g ∧ 0 < (wOp (wRec 0x83 0 0 0 1 4 0) 1).want g ∧
    (wOp (wRec 0x84 0 0 0 1 64 0) 1).len * g.members ≤ 262144 ∧ (wOp (wRec 0x84 0 0 0 1 64 0) 1).from_ = 0x10000000000 ∧ g.rank < g.members ∧ g.depth = 2 ∧
    (wOp (wRec 0x85 0 0 0 1 64 0) 1).want g = 64 ∧ (wOp (wRec 0x86 0 0 0 1 64 1) 1).want g = 64 ∧ (wOp (wRec 0x86 0 0 0 1 64 1) 1).total 2 = 64 ∧ (wOp (wRec 0x86 0 0 0 1 64 1) 1).dst = 0x10000000040 ∧
    fieldAt (wOp (wRec 0x86 0 0 0 1 64 1) 1).bytes 48 4 = 1 ∧ (wOp (wRec 0x82 0 0 0 1 4 0) 1).two = false := by decide +kernel

theorem test_collectives_way : (∀ x ∈ [(doBarrier 0, wOp (wRec 0x80 0 0 0 0 0 0) 0), (doScalar 0, wOp (wRec 0x81 0 0 2 1 0 0) 0), (doAllreduce 0, wOp (wRec 0x82 0 0 0 1 4 0) 1), (doReduceScatter 0, wOp (wRec 0x83 0 0 0 1 4 0) 1),
      (doAllgather 0, wOp (wRec 0x84 0 0 0 1 64 0) 1), (doBroadcast 0, wOp (wRec 0x85 0 0 0 1 64 0) 1)], (x.1 (wColl (wGroup false []) [x.2]).noWait).fdieWait = false) ∧
    (∀ x ∈ [(doBroadcast 0, wOp (wRec 0x85 0 0 0 1 64 0) 1), (doRepairBcast 0, wOp (wRec 0x86 0 0 0 1 64 1) 1)], (x.1 (wColl (wGroup true [7]) [x.2]).noWait).fdieWait = false) ∧
    (doScalar 0 (wColl (wGroup false []) [wOp (wRec 0x81 0 0 2 1 0 0) 0]).noLink.noWait).fdieWait = true := by decide +kernel

/-! Witnesses of CollectivePackets. -/

/-- A collective packet of group 3 from node 7, for GSEQ 4. -/
def wCol (op kind : Nat) (b : List Byte) : Packet := Packet.sealed { wPkt op 1 b with group := 3, addr := 4 + kind * 2 ^ 32 }

theorem test_collective_packets : (wColl (wGroup false []) []).colFrom (wCol 0x11 1 []) = true ∧ (wColl (wGroup true []) []).colFrom (wCol 0x11 1 []) = false ∧
    (wColl (wGroup true [7]) []).colFrom (wCol 0x10 0 []) = true ∧ (wColl (wGroup true [7]) []).isUp 3 = true ∧ ((wColl (wGroup true [7]) []).counted (wCol 0x10 0 [])).partOfNode 1 = some 0 ∧
    ((wColl (wGroup true [7]) []).counted (wCol 0x10 0 [])).newPacket 0 (wCol 0x10 0 []) = true ∧ (wColl (wGroup true [7]) []).opAt 3 4 = none ∧ bits (wCol 0x11 1 []).addr 32 4 = 1 ∧
    bits (wCol 0x11 1 []).addr 0 32 = 4 ∧ (wOp (wRec 0x80 0 0 0 0 0 0) 0).isBulk = false ∧ (wOp (wRec 0x85 0 0 0 1 64 0) 1).isBcast = true ∧
    ((wOp (wRec 0x85 0 0 0 1 64 0) 1).kids (wGroup true [7]))[0]? = some 7 ∧
    (wColl (wGroup true [7]) [wOp (wRec 0x85 0 0 0 1 64 0) 1]).dataHeard (wOp (wRec 0x85 0 0 0 1 64 0) 1) 7 = true := by decide +kernel

theorem test_collective_packets_way : (doColUp (wCol 0x10 0 []) (wColl (wGroup true [7]) []).noWait).fdieWait = false ∧
    (doColDown (wCol 0x11 1 (leBytes 8 3)) (wColl (wGroup false []) [wOp (wRec 0x80 0 0 0 0 0 0) 0]).noWait).fdieWait = false ∧
    (doColDown (wCol 0x11 1 (leBytes 8 3)) (wColl (wGroup false []) [wOp (wRec 0x80 0 0 0 0 0 0) 0]).noLink.noWait).fdieWait = true := by decide +kernel

/-! Witnesses of CollectivesEnd. -/

theorem test_collectives_end : let o := { wOp (wRec 0x80 0 0 0 0 0 0) 0 with started := true }
    let d := { o with res := true, sentUp := true }
    (wColl (wGroup false []) [o]).opDone o = false ∧ (wColl (wGroup false []) [d]).opDone d = true ∧ (wColl (wGroup false []) [d]).opAt 3 4 = some d ∧ d.isBcast = false ∧
    (wColl (wGroup false []) [d]).coll.recs.find? (fun r => r.num == 9) = some ⟨9, 0, none, 0x80⟩ ∧ bit (fieldAt d.bytes 52 2) 15 = false ∧
    Coll.reset.bulkSpares ≠ 0 ∧ Coll.reset.scalarDead = false := by decide +kernel

theorem test_collectives_end_way : (doCollectiveComplete 3 4 (wColl (wGroup false []) [{ wOp (wRec 0x80 0 0 0 0 0 0) 0 with started := true, res := true, sentUp := true }]).noWait).fdieWait = false := by decide +kernel

/-! Witnesses of CheckpointSaves. -/

/-- Partition 0 with all four A-dies and T2, a mirror, node 7 reachable by port 3, a ready CSM, and an engine in state `c`. -/
def wCk (c : Ckpt) : State := { State.reset with
  fld := (wFab.setFs [(F.CKPT_MIRROR_VALID 0, 1), (F.CKPT_MIRROR_BUDDY 0, 7), (F.CKPT_MIRROR_ORIGIN 0, 7), (F.CKPT_RING_ADDR 0, 0x10040000000), (F.CKPT_RING_REGION 0, 5), (F.CKPT_LIST_ADDR 0, 0x10000000000),
    (F.CSMPORT_STATUS_NVME_READY, 1), (F.CSM_LBS_LBS, 2 ^ 30)]).fld
  fab := { wFab.fab with nodes := [1, 7], routes := [(routeIndex 1 7, 8)] }
  cfg := [⟨true, 0xF, 0xFF, 1, 0, 2 ^ 34, 0, 0⟩]
  ckpt := c :: List.replicate 3 Ckpt.idle }

def wSave (todo : List CkChunk) : Ckpt := { Ckpt.idle with op := 1, slot := 0, seq := 1, todo := todo, sent := 1, entries := [leBytes 8 0 ++ leBytes 8 0x10000010000 ++ leBytes 8 4096 ++ List.replicate 40 0] }

theorem test_ckpt_state : (wCk Ckpt.idle).csmOk ((wCk Ckpt.idle).ckSlotLb 0 0) 1 = true ∧ State.reset.csmOk 256 1 = false ∧ ((wCk (wSave [])).ck 0).todo = [] ∧
    (wCk (wSave [])).ckDrained 0 < ((wCk (wSave [])).ck 0).sent ∧ ((wCk { wSave [] with sent := 0 }).ck 0).sent ≤ (wCk { wSave [] with sent := 0 }).ckDrained 0 ∧
    (wCk (wSave [])).unreachable 0 7 = false ∧ ((wCk (wSave [])).region 5).valid = true ∧ ((wCk { wSave [⟨0, 0, 0, 0⟩] with sent := 16 }).ck 0).sent = 16 ∧
    (wCk (wSave [])).noBuddy 0 = false := by decide +kernel

/-- A shard list with one shard of one block in T2. -/
def wList : State := (wCk Ckpt.idle).store 0x10000000000 (leBytes 2 0x010C ++ leBytes 2 0 ++ leBytes 4 1 ++ List.replicate 120 0 ++ leBytes 8 0 ++ leBytes 8 0x10000010000 ++ leBytes 8 4096 ++ List.replicate 40 0)

theorem test_ckpt_list : (wList.ckList 0).map (fun x => x.2.length) = some 1 := by decide +kernel

/-! Witnesses of MirrorScanRestore. -/

/-- A DATA chunk of one block from node 7 has arrived in ring slot 0, its OPEN of SEQ 1 taken. -/
def wMirror : State := ((wCk { Ckpt.idle with lastOpen := some 1, mslot := 2 }).store 0x10040000000 (chunkHead 1 7 1 0 1 |>.take 32)).store 0x10080000000 (leBytes 8 1)

theorem test_mirror : wMirror.ckArrived 0 = 1 ∧ (wMirror.ck 0).taken = 0 ∧ wMirror.getF (F.CKPT_MIRROR_VALID 0) ≠ 0 ∧ (wCk Ckpt.idle).getF (F.CKPT_STATUS_BUSY 0) ≠ 1 ∧
    (wCk Ckpt.idle).csmOk ((wCk Ckpt.idle).ckSlotLb 0 0) 1024 = true ∧ (wCk Ckpt.idle).inPart 0 0x10000000000 4194304 = true := by decide +kernel

theorem test_mirror_way : (doMirrorChunkSend 0 (wCk (wSave [⟨0, 0, 0, 0⟩])).noWait).fdieWait = false ∧ (wCk { Ckpt.idle with op := 2 }).fab.txs = [] ∧ ((wCk { Ckpt.idle with op := 2 }).ck 0).op = 2 ∧ (wCk Ckpt.idle).Inv := by
  refine ⟨by decide +kernel, by decide +kernel, by decide +kernel, ⟨by decide +kernel, by decide +kernel, by decide +kernel, by decide +kernel, by decide +kernel⟩⟩

/-- A SAVE with a DATA chunk of one block to send, and another of the same entry after it; the answer of its read. -/
def wChunk : CkChunk := ⟨1, 0, 1, 0⟩
def wChunks : State := wCk (wSave [wChunk, ⟨1, 1, 1, 0⟩])
def wPart : Nat × List Byte × State :=
  (wChunks.noWait.setF (F.CKPT_STATUS_ENTRY 0) wChunk.entry).recordPart ((wChunks.noWait.ck 0).entries.getD wChunk.entry []) (wChunk.target - (recordStarts (wChunks.noWait.ck 0).entries).getD wChunk.entry 0) wChunk.lbs

theorem test_chunk_read : wPart.1 = 0 ∧ wPart.2.2.fdieWait = wChunks.noWait.fdieWait := by decide +kernel
theorem test_chunk_block : wPart.2.1.length = 4096 := by decide +kernel
theorem test_chunk_csm : (wPart.2.2.csmWrite (wPart.2.2.ckAreaLb 0 (wChunks.noWait.ck 0).slot + wChunk.target) wPart.2.1).1 = true := by decide +kernel
theorem test_chunk_way : wChunks.hasWay (doMirrorChunkSend 0) :=
  doMirrorChunkSend_fdieWait 0 wChunk [⟨1, 1, 1, 0⟩] wPart.2.1 wChunks.noWait wPart.2.2 (by decide +kernel) (by decide +kernel) (by decide) (by decide) (Prod.ext test_chunk_read.1 rfl) test_chunk_csm test_chunk_read.2

/-- The last chunk of an entry, whose list lies in T2. -/
theorem test_chunk_last : let s := wCk { wSave [⟨1, 0, 0, 0⟩] with list := 0x10000000000 }
    (doMirrorChunkSend 0 s.noWait).fdieWait = false ∧ ((s.noWait.setF (F.CKPT_STATUS_ENTRY 0) 0).recordPart ((s.ck 0).entries.getD 0 []) 0 0).1 = 0 ∧ s.csmOk (s.ckAreaLb 0 0) 0 = true ∧
    (∀ i < 48, s.tierOf (0x10000000080 + i) = some .t2) := by decide +kernel

/-- The F-die has its way for the four slots' reports in T2. -/
theorem test_scan_way : (wCk Ckpt.idle).hasWay (doCkptScan 0) :=
  (doCkptScan_fdieWait 0 0x10000000000 (wCk Ckpt.idle).noWait (by decide +kernel) (by decide +kernel) (by decide +kernel) (by decide +kernel) (by decide +kernel) (by decide) (by decide)
    ⟨by decide +kernel, by decide +kernel, by decide +kernel, by decide +kernel, by decide +kernel, by decide +kernel⟩).trans (by decide +kernel)

/-- All of the 4 MiB lies in T2. -/
theorem test_scan_t2 : ∀ i < 4194304, (wCk Ckpt.idle).tierOf (0x10000000000 + i) = some .t2 := fun i hi => State.tierOf_t2 _ (by omega) (by omega) (by decide +kernel)

/-! Witnesses of SheetsMeasurementsExposures. -/

/-- Die 0 with a window, a ring of one block in its T1, and a bank whose pseudo-channels all give MOV3 three slots. -/
def wExpo : State := { State.reset.setFs [(F.EXP_WINDOW_START 0, 1), (F.EXP_WINDOW_END 0, 2), (F.EXP_RING_COUNT 0, 1), (F.FRAME_LEN_LEN 0, 4096), (F.HBM_STATUS_DIE_PCS 0 0, 90)] with
  a0 := { State.reset.a0 with bank0 := { State.reset.a0.bank0 with hbm := { State.reset.a0.bank0.hbm with pcs := 1, slots := [[3, 3, 3]] } } } }

theorem test_observe : State.reset.allAtRest = true ∧ (State.reset.setFrameState 0 stRunning).allAtRest = false ∧ State.reset.getF (F.GST_DISC_LOCKED 0) = 0 ∧
    (State.reset.setF (F.GST_DISC_LOCKED 0) 1).getF (F.GST_DISC_LOCKED 0) ≠ 0 ∧ State.reset.isRoot = false ∧ ({ State.reset with tbTries := [1, 3] } : State).tbTries[1]? = some 3 ∧
    State.reset.inFrame (State.reset.partOf 0) = false ∧ (State.reset.setFrameState 0 stRunning).inFrame 0 = true ∧ State.reset.expoOk 0 = false := by decide +kernel

theorem test_expo_ok : wExpo.expoOk 0 = true := by decide +kernel

/-! Witnesses of JournalRecordsReports. -/

/-- A queue of one report of class 0, twice raised, with the alert of its class selected. -/
def wJnl : State := ((State.reset.raise C.COLL_FAILED 5 3 1 0 0).raise C.COLL_FAILED 5 3 1 0 0).setF F.JNL_ALERT_MASK 0xFF

def wJnl1 : State := doJournalReport wJnl

theorem test_journal : wJnl.nextReport.isSome = true ∧ wJnl.jqueue = [] ∧ wJnl1.jqueue.length = 1 ∧ (wJnl1.nextReport.map (fun r => wJnl1.jqueue.any (fun x => x.same r))) = some true ∧
    wJnl1.nextRecord = some 0 ∧ (doJournalRecord wJnl1).journal.length = 1 ∧ wJnl1.jqueue.all (fun r => decide (r.cls < 8)) = true ∧
    (doJournalRecord wJnl1).journal.all (fun x => !x.2.posted && bit 0xFF x.2.cls) = true := by decide +kernel

/-! Witnesses of PowerAndReset. -/

theorem test_power : State.reset.boot.pwrok = true ∧ State.reset.boot.sbyok = true ∧ State.reset.boot.starting = true ∧ State.reset.boot.stalled = false ∧ State.reset.boot.failed = 0 ∧
    State.reset.attempts.1 = 3 ∧ ({ State.reset with boot := { State.reset.boot with sbyok := false } } : State).boot.sbyok = false := by decide +kernel

theorem test_reset_registers : ∀ f ∈ [F.BOOT_STATUS_MODE, F.JNL_TAIL_TAIL, F.JNL_HEAD_HEAD, F.GST_STEP_STEP 0, F.NIC_CTRL_ENABLE 0, F.FAB_CTRL_ENABLE, F.CS_STATUS_VALID, F.CKPT_STATUS_BUSY 0], State.reset.getF f = 0 := by decide

/-- A counter page whose last record counts one attempt. -/
theorem test_attempts : (State.reset.writeCounter 1 0).attempts.1 = 1 := by decide +kernel

/-! Witnesses of DarkroomRequests. -/

/-- Darkroom mode with a rewrite in state `d`. -/
def wDr (d : Dr) : State := { State.reset.setF F.BOOT_STATUS_MODE 2 with dr := d }

theorem test_darkroom : (wDr Dr.idle).inDarkroom = true ∧ State.reset.inDarkroom = false ∧ (wDr Dr.idle).fused.owner = none ∧ Dr.idle.nonce = none ∧ Dr.idle.begun = false ∧
    imagePlace 0 5 = some 5 ∧ (wDr { Dr.idle with begun := true, total := 8 }).dr.got = [] := by decide

theorem test_darkroom_digest : sha3_512 [] ≠ [] := by decide +kernel

/-! Witnesses of SessionsAndChecks. -/

/-- A running package with host entry 0 of partition 0, all rights, in session 5. -/
def wTell : State := { State.reset.setF F.BOOT_STATUS_MODE 1 with boot := { Boot.reset with hosts := [⟨0, 3, []⟩], sessions := [⟨0, 5, [1], [], []⟩] } }

/-- A request of session 5 with a good TAG. -/
def wReq (op : Nat) (b : List Byte) : TellerReq := { (⟨0, 0, op, 0, 5, 1, b, []⟩ : TellerReq) with tag := reqTag [1] (reqBytes ⟨0, 0, op, 0, 5, 1, b, []⟩ op) }

theorem test_teller_checks : wTell.isRunning = true ∧ wTell.hasPart 0 = true ∧ State.reset.isRunning = false ∧ State.reset.inDarkroom = false ∧ wTell.opListed 0x60 = false ∧ wTell.hasPart 1 = false ∧
    wTell.sessionOf 0 = some ⟨0, 5, [1], [], []⟩ ∧ wTell.boot.lastCtr.get 0 0 < 1 ∧ wTell.boot.hosts[0]? = some ⟨0, 3, []⟩ := by decide

/-- Every kind of request that the checks of a session admit, with any payload. -/
theorem test_teller_grants (op : Nat) (b : List Byte) (sv p0 : Bool) (g : RClass) (hc : g ≠ .s) : ∃ u, wTell.grants (wReq op b) ⟨op, g, sv, p0⟩ [1] u := by
  refine ⟨{ wTell with boot := { wTell.boot with lastCtr := wTell.boot.lastCtr.put 0 1 0 } }, by decide, (show wTell.hasPart 0 = true by decide), ?_⟩
  have h1 : wTell.isRunning = true := by decide
  have h2 : wTell.boot.hosts[0]? = some ⟨0, 3, []⟩ := by decide
  have h3 : wTell.sessionOf 0 = some ⟨0, 5, [1], [], []⟩ := by decide
  have h4 : wTell.boot.lastCtr.get 0 0 = 0 := by decide
  have h5 : bit 3 0 = true := by decide
  have h6 : bit 3 1 = true := by decide
  simp [State.checkReq, wReq, reqBytes, h1, h2, h3, h4, h5, h6, hc]

/-! Witnesses of TellerCommands. -/

theorem test_teller_write : let q := leBytes 4 1 ++ leBytes 8 0x3000070040 ++ leBytes 8 7
    wTell.addrCheck 0 [(fieldAt q 4 8, some (fieldAt q 12 8))] = 0 ∧ isCritical (fieldAt q 4 8) (fieldAt q 12 8) = false ∧ (wTell.mgmtWrite 0x3000070040 7).out.code = 0 ∧
    isCritical 0x2000000008 0 = true ∧ wTell.addrCheck 0 [(0x2000000008, some 0)] = 0 ∧ (wTell.mgmtWrite 0x2000000008 0).out.code = 0 ∧ wTell.addrCheck 1 [(0x2000000008, some 0)] = C.TELLER_PARTITION := by decide +kernel

/-! Witnesses of UpdatesAndService. -/

theorem test_service : wTell.allAtRest = true ∧ wTell.ticketsFull 0 = false ∧ wTell.noneRunning = true ∧ wTell.inPartT1 0 0 65536 = true ∧ wTell.freeSpare 1 0 0 = some 0 ∧
    wTell.bringing 1 0 0 7 = false ∧ (wTell.setF F.RB_STATUS_DIRTY 1).getF F.RB_STATUS_DIRTY = 1 ∧ wTell.inPartT1 0 0 100 = true ∧ (wTell.freeSpare 7 0 0).isSome = true ∧ wTell.spareAuto 7 = true ∧
    (wTell.setFrameState 0 stRunning).allAtRest = false := by decide +kernel

theorem test_service_free : ((State.reset.freeBlocks (State.reset.getF F.RB_STATUS_HALF)).head?) = some 0 := by decide +kernel

/-- A CAL_EXPORT ticket that waits, and a calibration record. -/
def wExport : State := { wTell.setFs [(F.T2_CAP_GB_PER_CHANNEL, 1), (F.SLINK_STATUS_UP 5 (linkAt 5 4), 1), (F.SLINK_STATUS_UP 4 (linkAt 4 5), 1)] with
  boot := { wTell.boot with tickets := [⟨0, 1, 3, 0, 0, 0x10000000000, 65536, []⟩] }, svc := { wTell.svc with cal := [1] } }

theorem test_export_way : wExport.hasWay doCalExportDone ∧ (wExport.noWait.extWrite 0xA0 0x10000000000 (slice wExport.svc.cal 0 65536)).1 = 0 ∧ wExport.ticketOf 3 = some ⟨0, 1, 3, 0, 0, 0x10000000000, 65536, []⟩ :=
  have h := doCalExportDone_t2 wExport.noWait ⟨0, 1, 3, 0, 0, 0x10000000000, 65536, []⟩ (by decide +kernel) (by decide +kernel) (by decide) (by decide) (by decide +kernel)
    ⟨by decide +kernel, by decide +kernel, by decide +kernel, by decide +kernel, by decide +kernel, by decide +kernel⟩
  ⟨h.1.trans (by decide +kernel), h.2, by decide +kernel⟩

theorem test_tot_way : (doTotLoadDone (wLoading.setFs [(F.SLINK_STATUS_UP 5 (linkAt 5 0), 1), (F.SLINK_STATUS_UP 0 (linkAt 0 5), 1)]).noWait).fdieWait = false := by decide +kernel

/-! Witnesses of HostAndServiceBuses. -/

/-- IDE on LD 0, with T2 of 1 GB a channel, the link to the P-die UP. -/
def wHost : State := wTell.setFs [(F.TELLER_STATUS_IDE 0, 1), (F.T2_CAP_GB_PER_CHANNEL, 1), (F.SLINK_STATUS_UP 4 (linkAt 4 5), 1), (F.SLINK_STATUS_UP 5 (linkAt 5 4), 1)]

/-- A READ_STATUS of channel 9 in flight. -/
def wLsc : State := { State.reset with lsc := { Lsc.idle with queue := [(4, 9, 0)] } }

def wFrame : List Byte := [0, 0, 0, 2, 0, 0]

theorem test_host : wHost.ideOn 0 = true ∧ wTell.ideOn 0 = false ∧ wHost.ownsMem 0 0x10000000000 8 = true ∧ wHost.rangeOk 0x10000000000 8 = true ∧ wHost.ownsMem 0 0x70000000000 8 = false ∧
    (wHost.extRead 0xA0 0x10000000000 8).1 = 0 ∧ (wHost.extWrite 0xA0 0x10000000000 [1]).1 = 0 ∧ State.reset.boot.sbyok = true ∧ State.reset.lsc.dead = false ∧
    (State.reset.setF F.HOSTPORT_STATUS_PERST 1).getF F.HOSTPORT_STATUS_PERST = 1 := by decide +kernel

theorem test_host_way : (doHostCxlMemAccess 0 true 0x10000000000 [1] 0 wHost.noWait).fdieWait = false ∧ (doHostCxlMemAccess 0 false 0x10000000000 [] 8 wHost.noWait).fdieWait = false ∧
    (doHostCxlMemAccess 0 false 0x10000000000 [] 8 wHost.noLink.noWait).fdieWait = true := by decide +kernel

theorem test_lsc : let q := wFrame ++ leBytes 2 (crcOf 0 wFrame)
    q.length = 8 ∧ fieldAt q 6 2 = crcOf 0 (q.take 6) % 65536 ∧ fieldAt q 5 1 = wLsc.lsc.seq % 256 ∧ bit (fieldAt q 3 2) 1 = true ∧ wLsc.lsc.tries < 2 := by decide +kernel

end Sys2Proof.Machine
end

section
/-! R10: what a read and a write of an unimplemented offset do. -/
namespace Sys2Proof.Machine

theorem regOf_of_dieOfAddr {a n : Nat} (h : dieOfAddr a = some n) : regOf a = regOfADie n (a % 0x100000000 / 0x10000) (a % 0x100000000 % 0x10000) := by
  simp only [dieOfAddr, Option.ite_none_right_eq_some, Option.some.injEq] at h
  obtain ⟨⟨hlo, hhi⟩, rfl⟩ := h
  obtain hb | hb | hb | hb : a / 0x100000000 = 0x10 ∨ a / 0x100000000 = 0x11 ∨ a / 0x100000000 = 0x12 ∨ a / 0x100000000 = 0x13 := by omega
  all_goals simp [regOf, hb]

theorem State.plainWrite_of_regOf_none {a : Nat} (s : State) (v : Nat) (h : regOf a = none) : s.plainWrite a v = s.answer 0 0 := by
  simp [State.plainWrite, h]

/-! A block's write acts beyond `plainWrite` only at an offset that holds a register (or, in the MGC, a message slot). -/

theorem State.writeADie_of_regOfADie_none {n sub o : Nat} (s : State) (a v : Nat) (h : regOfADie n sub o = none) : s.writeADie n a sub o v = s.plainWrite a v := by
  unfold State.writeADie
  split
  case h_8 => rfl
  all_goals simp [regOfADie] at h

theorem State.writePDie_of_regOfPDie_none {sub o : Nat} (s : State) (a v : Nat) (h : regOfPDie sub o = none) : s.writePDie a sub o v = s.plainWrite a v := by
  unfold State.writePDie
  split
  case h_6 => rfl
  all_goals simp [regOfPDie] at h

/-- A Teller's registers whose writes act beyond their fields: the doorbell and the host ring. -/
theorem ne_of_regOfMgc_teller_none {sub o : Nat} (hlo : 1 ≤ sub) (hhi : sub ≤ 4) (h : regOfMgc sub o = none) : o ≠ 8 ∧ o ≠ 0x10 := by
  obtain rfl | rfl | rfl | rfl : sub = 1 ∨ sub = 2 ∨ sub = 3 ∨ sub = 4 := by omega
  all_goals constructor <;> rintro rfl <;> simp [regOfMgc] at h

theorem State.writeMgc_of_regOfMgc_none {sub o : Nat} (s : State) (a v : Nat) (h : regOfMgc sub o = none) (hslot : 1 ≤ sub → sub ≤ 4 → o < 0x8000) :
    s.writeMgc a sub o v = s.plainWrite a v := by
  unfold State.writeMgc
  split
  case isTrue hsub =>
    obtain ⟨hlo, hhi⟩ := hsub
    have ho : ¬ 0x8000 ≤ o := by have := hslot hlo hhi; omega
    simp [ho, ne_of_regOfMgc_teller_none hlo hhi h]
  case isFalse =>
    have h6 : ¬ (sub = 6 ∧ o = 8) := by rintro ⟨rfl, rfl⟩; simp [regOfMgc] at h
    simp [h6]

/-- The registers of a GST copy whose writes act beyond their fields. -/
theorem ne_of_regOfGst_none {p r : Nat} (h : regOfGst p r = none) : r ≠ 0 ∧ r ≠ 8 ∧ r ≠ 0x38 ∧ r ≠ 0x58 := by
  refine ⟨?_, ?_, ?_, ?_⟩ <;> rintro rfl <;> simp [regOfGst] at h

/-- The registers of a checkpoint copy whose writes act beyond their fields. -/
theorem ne_of_regOfCkpt_none {p r : Nat} (h : regOfCkpt p r = none) : r ≠ 0 ∧ r ≠ 0x20 ∧ r ≠ 0x30 := by
  refine ⟨?_, ?_, ?_⟩ <;> rintro rfl <;> simp [regOfCkpt] at h

/-- The observation registers of the F-die whose writes act beyond their fields. -/
theorem ne_of_regOfFDie_observe_none {o : Nat} (h : regOfFDie 11 o = none) : o ≠ 0x5000 ∧ o ≠ 0x5020 ∧ o ≠ 0x6000 ∧ o ≠ 0x6018 := by
  refine ⟨?_, ?_, ?_, ?_⟩ <;> rintro rfl <;> simp [regOfFDie] at h

theorem State.writeFDie_of_regOfFDie_none {sub o : Nat} (s : State) (a v : Nat) (h : regOfFDie sub o = none) : s.writeFDie a sub o v = s.plainWrite a v := by
  unfold State.writeFDie
  split
  · have ho : o ≠ 0x20 := by rintro rfl; simp [regOfFDie] at h
    simp [ho]
  · have ho : ¬ (0x200 ≤ o ∧ o < 0x300) := by
      rintro ⟨hlo, hhi⟩
      have hctrl : ¬ o < 0x100 ∧ ¬ o < 0x200 := by omega
      simp [regOfFDie, hctrl, hhi] at h
    simp [ho]
  · have ho : o ≠ 0 := by rintro rfl; simp [regOfFDie] at h
    simp [ho]
  · have ho : o ≠ 0x800 ∧ o ≠ 0x810 := by constructor <;> rintro rfl <;> simp [regOfFDie] at h
    simp [ho]
  · split
    · next hcopy =>
      have hreg : regOfCkpt ((o - 0x8000) / 0x400) ((o - 0x8000) % 0x400) = none := by
        have hlow : o ≠ 0 ∧ o ≠ 8 ∧ o ≠ 0x10 ∧ o ≠ 0x18 ∧ ¬ o < 0x38 := by omega
        simpa [regOfFDie, hcopy, hlow] using h
      simp [ne_of_regOfCkpt_none hreg]
    · rfl
  · split
    · rfl
    · next ho =>
      have hreg : regOfGst (o / 0x100) (o % 0x100) = none := by simpa [regOfFDie, Nat.lt_of_not_le ho] using h
      simp [ne_of_regOfGst_none hreg]
  · simp [ne_of_regOfFDie_observe_none h]
  · rfl

/-! The two accesses of an offset without a register. -/

/-- A message slot takes the upper half of a Teller's sub-block (R554). -/
theorem offset_lt_of_slotOf_none {a : Nat} (hmgc : a / 0x100000000 = 0) (h : slotOf a = none)
    (hlo : 1 ≤ a % 0x100000000 / 0x10000) (hhi : a % 0x100000000 / 0x10000 ≤ 4) : a % 0x100000000 % 0x10000 < 0x8000 := by
  simp only [slotOf, ite_eq_right_iff, reduceCtorEq, imp_false] at h
  omega

/-- A write of an offset without a register, outside the message slots, is ignored but for its answer. -/
theorem State.mgmtWrite_of_regOf_none {a : Nat} (s : State) (v : Nat) (hreg : regOf a = none) (hslot : slotOf a = none) : s.mgmtWrite a v = s.answer 0 0 := by
  rw [← s.plainWrite_of_regOf_none v hreg]
  simp only [State.mgmtWrite]
  split
  case h_1 n hdie => exact s.writeADie_of_regOfADie_none a v (regOf_of_dieOfAddr hdie ▸ hreg)
  case h_2 =>
    split
    case h_1 hblock =>
      exact s.writeMgc_of_regOfMgc_none a v (by simpa [regOf, hblock] using hreg) (offset_lt_of_slotOf_none hblock hslot)
    case h_2 hblock => exact s.writePDie_of_regOfPDie_none a v (by simpa [regOf, hblock] using hreg)
    case h_3 hblock => exact s.writeFDie_of_regOfFDie_none a v (by simpa [regOf, hblock] using hreg)
    case h_4 => exact (s.plainWrite_of_regOf_none v hreg).symm

/-- Outside the completion table of an A-die, the journal, the message slots and the alert rings no table lies. -/
theorem State.readTable_of_no_table {a : Nat} (s : State) (p : Nat) (hslot : slotOf a = none) (hring : ringOf a = none)
    (hcomp : ∀ n, dieOfAddr a = some n → a % 0x100000000 < 0x18000 ∨ 0x20000 ≤ a % 0x100000000) (hjnl : a < 0x3000080000 ∨ 0x30000A0000 ≤ a) :
    s.readTable p a = 0 := by
  simp only [State.readTable]
  split
  case h_1 n hdie =>
    have hoff : ¬ (0x18000 ≤ a % 0x100000000 ∧ a % 0x100000000 < 0x20000) := by have := hcomp n hdie; omega
    rw [if_neg hoff]
  case h_2 =>
    have hout : ¬ (0x3000080000 ≤ a ∧ a < 0x30000A0000) := by omega
    simp [hout, hslot, hring]

/-- REGISTER_WRITE at an accepted address outside the message slots is the management write. -/
theorem exec_registerWrite_of_mgmtOk {a n : Nat} (v : Word) (s : State) (hslot : slotOf a = none) (hok : mgmtOk a n = true) :
    exec (.registerWrite a n v) s = .next (s.mgmtWrite a v.toNat) := by
  simp only [exec, execRegisterWrite, doRegisterWrite, hslot, hok, if_true]

/-- Settles O14: no table lies at the offset, so a read falls through to 0; no register lies there, so no block's write acts. -/
theorem unimplementedOffsets : Obligations.UnimplementedOffsets := by
  intro a s hok hreg hslot hring hcomp hjnl
  refine ⟨fun p => ?_, fun v => ?_⟩
  · simp [State.readReg, hreg, s.readTable_of_no_table p hslot hring hcomp hjnl]
  · rw [exec_registerWrite_of_mgmtOk v s hslot hok, s.mgmtWrite_of_regOf_none v.toNat hreg hslot]

end Sys2Proof.Machine
end

section
/-! R374 to R379: the readings of a sample, the clock's level, and its bound MIN_LEVEL. -/
namespace Sys2Proof.Machine

/-! The readings of a sample (R374, R380). -/

/-- The register fields that take a sample's readings. -/
def readingFields : List Fld :=
  (List.range 16).map (fun i => F.TH_TEMP_T (i / 8) (i % 8)) ++ (List.range 12).map (fun i => F.HBM_STATUS_TEMP (i / 3) (i % 3)) ++
    [F.TH_STATUS_HEADROOM, F.TH_STATUS_SENSOR]

/-- Recording a sample keeps its 16 readings and writes the reading fields, nothing else. -/
theorem State.recordTemps_eq_setFs (s : State) (temps : List Int) : ∃ l : List (Fld × Nat), l.map Prod.fst = readingFields ∧
    s.recordTemps temps = ({ s with th := { s.th with temps := (List.range 16).map (fun i => temps.getD i 0) } }).setFs l := by
  simp only [State.recordTemps, State.setFs, ← List.foldl_append]
  exact ⟨_, rfl, rfl⟩

theorem State.getF_recordTemps (s : State) (temps : List Int) {g : Fld} (hg : ∀ f ∈ readingFields, g.key ≠ f.key) : (s.recordTemps temps).getF g = s.getF g := by
  obtain ⟨l, hl, hrec⟩ := s.recordTemps_eq_setFs temps
  rw [hrec, State.getF_setFs_ne g l _ fun x hx => hg x.1 (hl ▸ List.mem_map_of_mem hx)]
  rfl

theorem State.headrooms_recordTemps (s : State) (temps : List Int) :
    (s.recordTemps temps).headrooms = (List.range 16).map (fun i => sensorLimit i - temps.getD i 0) := by
  obtain ⟨l, -, hrec⟩ := s.recordTemps_eq_setFs temps
  simp only [State.headrooms, hrec, State.setFs_th]
  refine List.map_congr_left fun i hi => ?_
  simp [List.getD_eq_getElem?_getD, List.mem_range.mp hi]

/-- With every reading below its trip temperature every headroom stays above -5 °C (R377). -/
theorem headrooms_recordTemps_untripped (s : State) {temps : List Int} (hcool : ∀ i < 16, temps.getD i 0 < sensorLimit i + 5) :
    ∀ x ∈ (s.recordTemps temps).headrooms, -5 < x := by
  rw [s.headrooms_recordTemps temps]
  intro x hx
  obtain ⟨i, hi, rfl⟩ := List.mem_map.mp hx
  have := hcool i (List.mem_range.mp hi)
  omega

theorem find?_tripped_eq_none {l : List Int} (h : ∀ x ∈ l, -5 < x) : l.zipIdx.find? (fun x => decide (x.1 ≤ -5)) = none := by
  refine List.find?_eq_none.mpr fun x hx => ?_
  have := h x.1 (List.fst_mem_of_mem_zipIdx hx)
  simpa using this

/-! The clock's level (R376). -/

@[simp] theorem State.getF_expoShift (s : State) (die : Nat) (g : Fld) : (s.expoShift die).getF g = s.getF g := by
  simp only [State.expoShift, State.updExpo]
  split
  · rfl
  · exact s.getF_updDie die _ g

@[simp] theorem State.getF_expo (s : State) (die typ flags code idx cyc value detail : Nat) (mbit : Option Nat) (g : Fld) :
    (s.expo die typ flags code idx cyc value detail mbit).getF g = s.getF g := State.getF_eq (by simp) g

/-- A fold of operations that leave a field leaves it. -/
theorem State.getF_foldl {α : Type} {f : State → α → State} {g : Fld} (hf : ∀ s a, (f s a).getF g = s.getF g) (l : List α) (s : State) :
    (l.foldl f s).getF g = s.getF g :=
  foldl_keeps (fun t => t.getF g = s.getF g) f l s rfl fun t a _ ht => (hf t a).trans ht

/-- Setting the level sets TH_STATUS.LEVEL; the step count, the record and the exposures leave it. -/
theorem State.getF_level_setLevel (s : State) {lv : Nat} (k : Nat) (hlv : lv < 16) : (s.setLevel lv k).getF F.TH_STATUS_LEVEL = lv := by
  simp only [State.setLevel]
  split
  case isTrue hold => exact hold.symm
  case isFalse =>
    rw [State.getF_foldl (by simp), State.getF_raise, State.satF, State.getF_setF_ne _ _ _ _ (by decide)]
    simp only [State.setFs, List.foldl]
    rw [State.getF_setF_ne _ _ _ _ (by decide), State.getF_setF]
    exact Nat.mod_eq_of_lt hlv

/-- The table's first row: a level below MIN_LEVEL becomes MIN_LEVEL, whatever the headroom (R376, R379). -/
theorem State.selectLevel_of_lt_min {s : State} (h : Int) (hlt : s.getF F.TH_STATUS_LEVEL < s.getF F.TH_CTRL_MIN_LEVEL) :
    s.selectLevel h = (s.getF F.TH_CTRL_MIN_LEVEL, false, false) := by
  simp only [State.selectLevel, if_pos hlt]

/-! A sample (R374 to R377). -/

/-- A sample's readings, raised by 5 °C without a valid calibration set (R587). -/
def State.reading (s : State) (temps : List Int) : List Int := if s.getF F.CAL_STATUS_SOURCE = 2 then temps.map (· + 5) else temps

/-- A sample with the clock running and every reading below its trip temperature sets the level that the table selects
in a state `v` whose registers differ from those before the sample in the reading fields alone. -/
theorem doThermalSample_eq_setLevel {temps : List Int} {s : State} (hrun : s.getF F.TH_STATUS_TRIPPED ≠ 1)
    (hcool : ∀ i < 16, (s.reading temps).getD i 0 < sensorLimit i + 5) :
    ∃ (v u : State) (h : Int) (k : Nat), (∀ g : Fld, (∀ f ∈ readingFields, g.key ≠ f.key) → v.getF g = s.getF g) ∧
      doThermalSample temps s = u.setLevel (v.selectLevel h).1 k := by
  generalize hdo : doThermalSample temps s = r
  unfold doThermalSample at hdo
  extract_lets t u at hdo
  have hread : t.getF F.CAL_STATUS_SOURCE = s.getF F.CAL_STATUS_SOURCE := s.getF_toNs _ _
  have hu : u = t.recordTemps (s.reading temps) := by simp only [u, State.reading, hread]
  have hkeep (g : Fld) (hg : ∀ f ∈ readingFields, g.key ≠ f.key) : u.getF g = s.getF g := by
    rw [hu, State.getF_recordTemps _ _ hg]
    exact s.getF_toNs _ g
  have huntripped : ∀ x ∈ u.headrooms, -5 < x := by rw [hu]; exact headrooms_recordTemps_untripped t hcool
  clear_value u
  split at hdo
  next k h _ =>
    extract_lets v at hdo
    have hv (g : Fld) : v.getF g = u.getF g := rfl
    have hfind := find?_tripped_eq_none (l := v.headrooms) huntripped
    clear_value v
    rw [if_neg (by rwa [hv, hkeep _ (by decide)]), hfind] at hdo
    exact ⟨v, _, h, k, fun g hg => (hv g).trans (hkeep g hg), hdo.symm⟩

/-- In such a sample a level below MIN_LEVEL becomes MIN_LEVEL (R376, R379). -/
theorem getF_level_doThermalSample_of_lt_min {temps : List Int} {s : State} (hrun : s.getF F.TH_STATUS_TRIPPED ≠ 1)
    (hlt : s.getF F.TH_STATUS_LEVEL < s.getF F.TH_CTRL_MIN_LEVEL) (hmin : s.getF F.TH_CTRL_MIN_LEVEL < 16)
    (hcool : ∀ i < 16, (s.reading temps).getD i 0 < sensorLimit i + 5) :
    (doThermalSample temps s).getF F.TH_STATUS_LEVEL = s.getF F.TH_CTRL_MIN_LEVEL := by
  obtain ⟨v, u, h, k, hkeep, hset⟩ := doThermalSample_eq_setLevel hrun hcool
  have hlevel := hkeep F.TH_STATUS_LEVEL (by decide)
  have hbound := hkeep F.TH_CTRL_MIN_LEVEL (by decide)
  rw [hset, State.selectLevel_of_lt_min h (by rwa [hlevel, hbound]), hbound]
  exact u.getF_level_setLevel k hmin

/-! A write of MIN_LEVEL (R379). -/

theorem lowestLevel_le (grade : Nat) : lowestLevel grade ≤ 7 := by
  unfold lowestLevel
  split <;> decide

theorem getF_minLevel_doMinLevelWrite (v : Nat) (s : State) :
    (doMinLevelWrite v s).getF F.TH_CTRL_MIN_LEVEL = min (bits v 0 4) (lowestLevel s.fused.grade) := by
  have hlow := lowestLevel_le s.fused.grade
  rw [doMinLevelWrite, State.getF_setF]
  exact Nat.mod_eq_of_lt (by simp only; omega)

/-- Settles O39: the write is one field's, clamped by the grade; at the sample the first row of the level table applies. -/
theorem minLevelBoundsTheClock : Obligations.MinLevelBoundsTheClock := by
  refine ⟨fun v s => ⟨doMinLevelWrite v.toNat s, rfl, ?_, fun f hf => s.getF_setF_ne _ f _ hf, s.memByte_setF _ _⟩,
    fun temps s hrun hlt hmin hcool => ⟨doThermalSample temps s, rfl, getF_level_doThermalSample_of_lt_min hrun hlt hmin hcool⟩⟩
  rw [getF_minLevel_doMinLevelWrite, lowestLevel]
  split <;> rfl

end Sys2Proof.Machine
end

section
/-! R404, R410, R412, R413: an answer that leaves, a packet that its target accepts, and the token of a region. -/
namespace Sys2Proof.Machine

/-! Answers that leave (R385, R399, R410). -/

/-- A packet that is emitted joins the replay buffer under its own header and payload, or the packets that wait for a port; the fabric keeps all else but the rotation. -/
theorem State.emit_fab_cases (s : State) (k : Packet) :
    (∃ (q : Packet) (rot : Assoc Nat), q.dst = k.dst ∧ q.op = k.op ∧ q.seq = k.seq ∧ q.payload = k.payload ∧
      (s.emit k).fab = { s.fab with replay := s.fab.replay ++ [q], rot := rot }) ∨
    (s.emit k).fab = { s.fab with waiting := s.fab.waiting ++ [k] } := by
  unfold State.emit
  split
  · refine .inl ⟨_, _, ?_, ?_, ?_, ?_, rfl⟩ <;> rfl
  · exact .inr rfl

theorem State.regions_emit (s : State) (k : Packet) : (s.emit k).fab.regions = s.fab.regions := by
  obtain ⟨q, rot, -, -, -, -, hfab⟩ | hfab := s.emit_fab_cases k <;> rw [hfab]

theorem State.doneFences_emit (s : State) (k : Packet) : (s.emit k).fab.doneFences = s.fab.doneFences := by
  obtain ⟨q, rot, -, -, -, -, hfab⟩ | hfab := s.emit_fab_cases k <;> rw [hfab]

theorem State.onItsWay_iff {s : State} {dst op seq : Nat} {payload : List Byte} :
    s.onItsWay dst op seq payload = true ↔
      ∃ k, (k ∈ s.fab.replay ∨ k ∈ s.fab.waiting) ∧ k.dst = dst ∧ k.op = op ∧ k.seq = seq ∧ k.payload = payload := by
  simp [State.onItsWay, and_assoc, or_and_right, exists_or]

theorem State.onItsWay_emit_self (s : State) (k : Packet) : (s.emit k).onItsWay k.dst k.op k.seq k.payload = true := by
  rw [State.onItsWay_iff]
  obtain ⟨q, rot, hdst, hop, hseq, hpayload, hfab⟩ | hfab := s.emit_fab_cases k
  · exact ⟨q, by simp [hfab], hdst, hop, hseq, hpayload⟩
  · exact ⟨k, by simp [hfab], rfl, rfl, rfl, rfl⟩

theorem State.onItsWay_emit {s : State} {dst op seq : Nat} {payload : List Byte} (k : Packet) (h : s.onItsWay dst op seq payload = true) :
    (s.emit k).onItsWay dst op seq payload = true := by
  rw [State.onItsWay_iff] at h ⊢
  obtain ⟨x, hx, hsame⟩ := h
  refine ⟨x, ?_, hsame⟩
  obtain ⟨q, rot, -, -, -, -, hfab⟩ | hfab := s.emit_fab_cases k
  · exact hx.imp (by simp +contextual [hfab]) (by simp [hfab])
  · exact hx.imp (by simp [hfab]) (by simp +contextual [hfab])

@[simp] theorem State.region_finishIn (s : State) (p op r : Nat) (k : Packet) (b : List Byte) : (s.finishIn p k op b).region r = s.region r :=
  congrArg (Assoc.get · r Region.empty) (State.regions_emit _ _)

theorem State.doneFences_finishIn (s : State) (p op : Nat) (k : Packet) (b : List Byte) : (s.finishIn p k op b).fab.doneFences = s.fab.doneFences :=
  State.doneFences_emit _ _

theorem State.onItsWay_finishIn_self (s : State) (p op : Nat) (k : Packet) (b : List Byte) : (s.finishIn p k op b).onItsWay k.src op k.seq b = true :=
  State.onItsWay_emit_self _ _

theorem State.onItsWay_finishIn {s : State} {dst o seq : Nat} {payload : List Byte} (p op : Nat) (k : Packet) (b : List Byte)
    (h : s.onItsWay dst o seq payload = true) : (s.finishIn p k op b).onItsWay dst o seq payload = true :=
  State.onItsWay_emit _ h

/-! Regions and peers. -/

@[simp] theorem State.region_setRegion (s : State) (r : Nat) (x : Region) : (s.setRegion r x).region r = x := Assoc.get_put _ _ _ _

@[simp] theorem State.region_setPeer (s : State) (x : PeerIn) (r : Nat) : (s.setPeer x).region r = s.region r := rfl

@[simp] theorem State.region_counted (s : State) (k : Packet) (r : Nat) : (s.counted k).region r = s.region r := rfl

theorem State.peer_counted (s : State) (k : Packet) (p src : Nat) : (s.counted k).peer p src = s.peer p src := rfl

/-- The record read for a source is that source's. -/
theorem State.peer_key (s : State) (p src : Nat) : (s.peer p src).part = p ∧ (s.peer p src).src = src := by
  unfold State.peer
  cases hfind : s.fab.peers.find? (fun x => x.part == p && x.src == src) with
  | none => exact ⟨rfl, rfl⟩
  | some x => simpa using List.find?_some hfind

theorem State.peer_setPeer (s : State) {x : PeerIn} {p src : Nat} (hp : x.part = p) (hsrc : x.src = src) : (s.setPeer x).peer p src = x := by
  subst hp hsrc
  have hold : (s.fab.peers.filter (fun y => !(y.part == x.part && y.src == x.src))).find? (fun y => y.part == x.part && y.src == x.src) = none :=
    List.find?_eq_none.mpr fun y hy => by simpa only [Bool.not_eq_true', Bool.not_eq_true] using (List.mem_filter.mp hy).2
  simp only [State.peer, State.setPeer, List.find?_append, hold]
  simp

/-- A packet marked as received leaves H of its source (R410). -/
theorem State.next_peer_setPeer_mark (s : State) (p src seq pkt len : Nat) :
    ((s.setPeer ((s.peer p src).mark seq pkt len)).peer p src).next = (s.peer p src).next := by
  obtain ⟨hp, hsrc⟩ := s.peer_key p src
  rw [s.peer_setPeer (x := (s.peer p src).mark seq pkt len) hp hsrc]
  rfl

/-! A packet that its target accepts (R390, R394, R403, R410). -/

/-- A packet of operation `op` without data for partition `p` that passes every check: it arrives whole on an UP port, has not been received before, and its region admits it. -/
structure State.Accepts (s : State) (op p : Nat) (k : Packet) : Prop where
  op_eq : k.op = op
  up : s.isUp k.port = true
  crc : k.crcOk = true
  part : (s.counted k).partOfNode k.dst = some p
  fresh : (s.counted k).newPacket p k = true
  check : (s.counted k).targetCheck op k.src k.region k.key k.addr 0 = none

theorem State.arrive_of_partOfNode {s : State} {op p : Nat} {k : Packet} (run : Nat → Packet → State → State) (hop : k.op = op) (hup : s.isUp k.port = true)
    (hcrc : k.crcOk = true) (hpart : (s.counted k).partOfNode k.dst = some p) : s.arrive k op run = run p k (s.counted k) := by
  subst hop
  rw [State.counted] at hpart
  simp [State.arrive, State.counted, hup, hcrc, hpart]

theorem State.dedupe_of_newPacket {s : State} {p : Nat} {k : Packet} (again fresh : State → State) (h : s.newPacket p k = true) :
    s.dedupe p k again fresh = fresh s := by
  obtain ⟨hclass, hgot⟩ : (s.peer p k.src).class k.seq = 2 ∧ k.pkt ∉ (s.peer p k.src).got k.seq := by simpa [State.newPacket] using h
  simp [State.dedupe, hclass, hgot]

/-- What an accepted ACQUIRE does (R412). -/
theorem State.Accepts.doFabAcquire_eq {s : State} {p : Nat} {k : Packet} (h : s.Accepts 0xA p k) :
    doFabAcquire k s =
      if (s.region k.region).held = false then
        (((s.counted k).setRegion k.region { s.region k.region with held := true, holder := k.src }).finishIn p k 0xC (nackBytes 0)).afterPacket
      else if (s.region k.region).waiters.length < 16 then
        ((s.counted k).setRegion k.region { s.region k.region with waiters := (s.region k.region).waiters ++ [k] }).setPeer ((s.peer p k.src).mark k.seq k.pkt 0)
      else ((s.counted k).finishIn p k 0xC (nackBytes C.FAB_TOKEN_BUSY)).afterPacket := by
  rw [doFabAcquire, State.arrive_of_partOfNode _ h.op_eq h.up h.crc h.part, State.dedupe_of_newPacket _ _ h.fresh]
  simp only [h.check]
  rfl

theorem exec_fabAcquire (k : Packet) (s : State) : exec (.fabAcquire k) s = .next (doFabAcquire k s) := rfl

/-- A RELEASE joins those that wait for their holder's earlier transfers (R413). -/
def State.queueRelease (s : State) (k : Packet) : State := { s with fab := { s.fab with releases := s.fab.releases ++ [k] } }

/-- What an accepted RELEASE does (R413). -/
theorem State.Accepts.doFabRelease_eq {s : State} {p : Nat} {k : Packet} (h : s.Accepts 0xB p k) :
    doFabRelease k s = (((s.counted k).setPeer ((s.peer p k.src).mark k.seq k.pkt 0)).queueRelease k).afterPacket := by
  rw [doFabRelease, State.arrive_of_partOfNode _ h.op_eq h.up h.crc h.part, State.dedupe_of_newPacket _ _ h.fresh]
  simp only [h.check]
  rfl

theorem exec_fabRelease (k : Packet) (s : State) : exec (.fabRelease k) s = .next (doFabRelease k s) := rfl

/-! A RELEASE takes effect (R413). -/

/-- A RELEASE that joins no other takes effect at once when H has reached its SEQ - 1: the token passes, then the holder is answered. -/
theorem State.settleReleases_queueRelease {s : State} {p : Nat} {k : Packet} (hnext : (s.peer p k.src).next = k.seq)
    (hpart : s.partOfNode k.dst = some p) (hnone : s.fab.releases = []) :
    (s.queueRelease k).settleReleases = (s.passToken k.region).finishIn p k 8 [] := by
  have hpart' : (s.queueRelease k).partOfNode k.dst = some p := hpart
  have hnext' : ((s.queueRelease k).peer p k.src).next = k.seq := hnext
  have hone : (s.queueRelease k).fab.releases = [k] := congrArg (· ++ [k]) hnone
  have hleft : { s.queueRelease k with fab := { (s.queueRelease k).fab with releases := [] } } = s := by
    rw [← hnone]
    rfl
  simp [State.settleReleases, hone, hpart', hnext', hleft, hpart]

theorem State.settleFences_of_none {s : State} (h : s.fab.doneFences = []) : s.settleFences = s := by
  simp [State.settleFences, h]

/-- The token of a region passes to its first waiter, who is answered (R412). -/
theorem State.passToken_of_waiter {s : State} {r q : Nat} {w : Packet} {l : List Packet} (hwait : (s.region r).waiters = w :: l)
    (hpart : s.partOfNode w.dst = some q) :
    s.passToken r = (s.setRegion r { s.region r with held := true, holder := w.src, waiters := l }).finishIn q w 0xC (nackBytes 0) := by
  have hpart' (x : Region) : (s.setRegion r x).partOfNode w.dst = some q := hpart
  simp [State.passToken, hwait, hpart']

/-- With no other RELEASE waiting and the holder's earlier transfers complete, an accepted RELEASE passes the token at once and answers the new holder, then the old one. -/
theorem State.Accepts.doFabRelease_of_waiter {s : State} {p q : Nat} {k w : Packet} {l : List Packet} (h : s.Accepts 0xB p k) (hrel : s.fab.releases = [])
    (hfence : s.fab.doneFences = []) (hnext : (s.peer p k.src).next = k.seq) (hwait : (s.region k.region).waiters = w :: l)
    (hpart : (s.counted k).partOfNode w.dst = some q) :
    doFabRelease k s = ((((s.counted k).setPeer ((s.peer p k.src).mark k.seq k.pkt 0)).setRegion k.region
      { s.region k.region with held := true, holder := w.src, waiters := l }).finishIn q w 0xC (nackBytes 0)).finishIn p k 8 [] := by
  have hready := ((s.counted k).next_peer_setPeer_mark p k.src k.seq k.pkt 0).trans hnext
  rw [State.peer_counted] at hready
  rw [h.doFabRelease_eq, State.afterPacket, State.settleReleases_queueRelease hready h.part hrel,
    State.passToken_of_waiter (s := (s.counted k).setPeer _) hwait hpart]
  exact State.settleFences_of_none (((State.doneFences_finishIn ..).trans (State.doneFences_finishIn ..)).trans hfence)

/-- Settles O43: each clause reads the token's region and the answer on its way off what the accepted packet does. -/
theorem tokensAreGrantedInOrder : Obligations.TokensAreGrantedInOrder := by
  constructor
  · intro k p s hop hup hcrc hpart hnew hcheck
    have hdo := State.Accepts.doFabAcquire_eq ⟨hop, hup, hcrc, hpart, hnew, hcheck⟩
    refine ⟨fun hfree => ?_, fun hheld hroom => ?_, fun hheld hfull => ?_⟩
    · rw [if_pos hfree] at hdo
      exact ⟨_, (exec_fabAcquire k s).trans (congrArg _ hdo), by simp, State.onItsWay_finishIn_self ..⟩
    · rw [if_neg (by simp [hheld]), if_pos hroom] at hdo
      exact ⟨_, (exec_fabAcquire k s).trans (congrArg _ hdo), by simp, rfl, rfl⟩
    · rw [if_neg (by simp [hheld]), if_neg (by omega)] at hdo
      exact ⟨_, (exec_fabAcquire k s).trans (congrArg _ hdo), by simp, State.onItsWay_finishIn_self ..⟩
  · intro k w l p q s hop hup hcrc hpart hnew hcheck hrel hfence hnext hwait hwpart
    have haccept : s.Accepts 0xB p k := ⟨hop, hup, hcrc, hpart, hnew, hcheck⟩
    have hdo := haccept.doFabRelease_of_waiter hrel hfence hnext hwait hwpart
    exact ⟨_, (exec_fabRelease k s).trans (congrArg _ hdo), by simp, State.onItsWay_finishIn _ _ _ _ (State.onItsWay_finishIn_self ..)⟩

end Sys2Proof.Machine
end
